-- ==== Sys2Proof/Word.lean ====
section
/-!
DEFINITION. Words, bytes and bit fields (R4): a register is 32 bits, bit 0 least significant, and a field is
written [hi:lo] with both ends included.
-/

namespace Sys2Proof

/-- A register word (R4). -/
abbrev Word := BitVec 32

/-- A byte on a wire or in memory (R7). -/
abbrev Byte := BitVec 8

/-- The value of field [hi:lo] of a number (R4). -/
def nfld (n hi lo : Nat) : Nat := n / 2 ^ lo % 2 ^ (hi + 1 - lo)

/-- The value of field [hi:lo] of a register word (R4). -/
def fld (w : Word) (hi lo : Nat) : Nat := nfld w.toNat hi lo

/-- The mask of field [hi:lo]. -/
def fmask (hi lo : Nat) : Word := BitVec.ofNat 32 ((2 ^ (hi + 1 - lo) - 1) * 2 ^ lo)

/-- The word with its field [hi:lo] replaced by the low bits of v. -/
def withFld (w : Word) (hi lo v : Nat) : Word :=
  (w &&& ~~~ fmask hi lo) ||| (BitVec.ofNat 32 (v * 2 ^ lo) &&& fmask hi lo)

/-- One bit of a word. -/
def bit (w : Word) (i : Nat) : Bool := w.getLsbD i

end Sys2Proof
end

