-- ==== Sys2Proof/Machine/NMap.lean ====
section
/-!
DEFINITION. A map from numbers to values in one canonical form: a list of pairs whose keys rise strictly and
in which no entry equals what an unlisted key reads as. Registers, tables, counters and memory are held so.
-/

namespace Sys2Proof.Machine

/-- A sparse map keyed by numbers; `d k` is what an unlisted key k reads as. -/
abbrev NMap (α : Type) := List (Nat × α)

/-- The value at a key. -/
def NMap.get {α : Type} (d : Nat → α) : NMap α → Nat → α
  | [], k => d k
  | (j, v) :: r, k => if j = k then v else NMap.get d r k

/-- The map without a key. -/
def NMap.erase {α : Type} (m : NMap α) (k : Nat) : NMap α := m.filter (fun p => p.1 != k)

/-- The map with a new key put in its place in the order. -/
def NMap.insert {α : Type} : NMap α → Nat → α → NMap α
  | [], k, v => [(k, v)]
  | (j, w) :: r, k, v => if j < k then (j, w) :: NMap.insert r k v else (k, v) :: (j, w) :: r

/-- The map with a key set to a value; writing what an unlisted key reads as removes the entry. -/
def NMap.set {α : Type} [DecidableEq α] (d : Nat → α) (m : NMap α) (k : Nat) (v : α) : NMap α :=
  if v = d k then NMap.erase m k else NMap.insert (NMap.erase m k) k v

/-- The canonical form. -/
abbrev NMap.wf {α : Type} [DecidableEq α] (d : Nat → α) (m : NMap α) : Prop :=
  m.Pairwise (fun a b => a.1 < b.1) ∧ ∀ p ∈ m, p.2 ≠ d p.1

/-- Several keys set in order. -/
def NMap.setAll {α : Type} [DecidableEq α] (d : Nat → α) (m : NMap α) (l : List (Nat × α)) : NMap α :=
  l.foldl (fun a p => NMap.set d a p.1 p.2) m

/-- The entries whose key satisfies p. -/
def NMap.keep {α : Type} (p : Nat → Bool) (m : NMap α) : NMap α := m.filter (fun e => p e.1)

/-- A number put into its place of a rising list, and a list in rising order. -/
def insertNat (x : Nat) : List Nat → List Nat
  | [] => [x]
  | y :: r => if x ≤ y then x :: y :: r else y :: insertNat x r
def sortNat (l : List Nat) : List Nat := l.foldr insertNat []

end Sys2Proof.Machine
end

