-- ==== Sys2Proof/Machine/Units.lean ====
section
/-!
DEFINITION. The records that units hold and hand to one another: packets, copies, key slots, and the state of ICL, CPE, LFW
and MXF, of encode streams and of Weave's receivers.
-/

namespace Sys2Proof.Machine

/-! ## Ingress -/

/-- A frame that a lane group has received and ICL has not yet treated: its ingress timestamp (R556), its bytes without
the FCS, its length DA to FCS and its buffer. -/
structure RxFrame where
  lane : Nat
  t : Nat
  bytes : List Byte
  len : Nat
  handle : Nat
  deriving DecidableEq, Repr

/-- The parse result (R221), by its fields. -/
structure Parse where
  scid : Nat := 0
  exc : Nat := 0
  kind : Nat := 2
  leg : Nat := 0
  lane : Nat := 0
  ts : Nat := 0
  ipv6 : Bool := false
  vlans : Nat := 0
  rtag : Bool := false
  m : Bool := false
  x : Bool := false
  p : Bool := false
  l3 : Nat := 0
  udp : Nat := 0
  pay : Nat := 0
  seq : Nat := 0
  pt : Nat := 0
  cc : Nat := 0
  rtpTs : Nat := 0
  twcc : Nat := 0
  level : Nat := 0
  ddLen : Nat := 0
  ddOfs : Nat := 0
  rtagSeq : Nat := 0
  deriving DecidableEq, Repr

/-- A packet past the parser: its frame (without R-TAG and FCS), the end of its UDP payload, the extension elements
found (ID, offset, length), the SSRC, and the frame's length, buffer and ingress timestamp. -/
structure Pkt where
  parse : Parse
  frame : List Byte
  stop : Nat
  elems : List (Nat × Nat × Nat)
  ssrc : Nat
  len : Nat
  handle : Nat
  t : Nat
  deriving DecidableEq, Repr

/-- ICL's state beside its registers and tables. -/
structure IclSt where
  /-- Received frames, oldest first. -/
  rx : List RxFrame := []
  /-- Contexts in the cache (R209). -/
  cached : List Nat := []
  /-- The miss queue. -/
  miss : List Pkt := []
  /-- The stream key table (R205): bucket × 4 + slot to the leg, SSRC and SCID of a valid slot. -/
  skt : NMap (Option (Nat × Nat × Nat)) := []
  /-- Contexts whose line was read poisoned (R210). -/
  bad : List Nat := []
  /-- The token state of each policer: tokens and the last time (R214). -/
  tok : NMap (Nat × Nat) := []
  /-- Bytes captured in the wale (R218). -/
  hist : Nat := 0
  /-- The highest class shed in the wale. -/
  shed : Option Nat := none
  /-- Exception packets in the wale (R220). -/
  exc : Nat := 0
  /-- Packets discarded in the wale because the miss queue was full (R209). -/
  missDrop : Nat := 0
  deriving DecidableEq, Repr

/-! ## Cipher Engine -/

/-- A key slot (R234): its master key and salt in the clear, as CPE uses them, and wrapped with their tag, as the record in DRAM
holds them (R235). `bad` is 1 where its line was read poisoned and 2 where its tag failed (R238). -/
structure KeySlot where
  alg : Nat := 0
  valid : Bool := false
  mkiLen : Nat := 0
  inv : Nat := 0
  use : Nat := 0
  mki : Nat := 0
  count : Nat := 0
  limit : Nat := 0
  wrapCtr : Nat := 0
  key : List Byte := []
  salt : List Byte := []
  wrapped : List Byte := []
  wrapTag : List Byte := []
  bad : Nat := 0
  deriving DecidableEq, Repr

/-- An empty key slot. -/
def KeySlot.empty : KeySlot := {}

/-- A state record (R240). -/
structure CryptoSt where
  rtpIdx : Nat := 0
  rtpSt : Nat := 0
  rtpSeen : Bool := false
  rtcpIdx : Nat := 0
  rtcpSt : Nat := 0
  rtcpSeen : Bool := false
  rtpWin : Nat := 0
  rtcpWin : Nat := 0
  deriving DecidableEq, Repr

/-- A cleared state record. -/
def CryptoSt.clear : CryptoSt := {}

/-- A copy descriptor (R296). Offsets are from the first byte of the source: a buffer, or the packet in a history slot;
`rtp` is that of the RTP header, `scid` the source's context. `fmLen`, `ddLen` and `level` are 0 for none. -/
structure Copy where
  /-- The Creel handle, or the source SCID where FROM_HIST is 1. -/
  src : Nat := 0
  out : Nat := 0
  hist : Bool := false
  rtx : Bool := false
  m : Bool := false
  origin : Bool := false
  ext : Nat := 0
  ts : Nat := 0
  rtp : Nat := 0
  ofs : Nat := 0
  len : Nat := 0
  pt : Nat := 0
  cc : Nat := 0
  ddOfs : Nat := 0
  ddLen : Nat := 0
  level : Nat := 0
  scid : Nat := 0
  fmOfs : Nat := 0
  fmLen : Nat := 0
  osn : Nat := 0
  /-- The global index G of an originated packet. -/
  g : Nat := 0
  /-- The send time of R279. -/
  time : Nat := 0
  /-- An RTCP packet or a partial-mix payload that LFW holds itself. -/
  body : Option (List Byte) := none
  rtcp : Bool := false
  /-- The buffer counts in LFW's fan-out record (R302). -/
  counted : Bool := false
  deriving DecidableEq, Repr

/-- A frame on its way out: its leg, lane group, class and length, and the copy it carries, or the bytes of a host or PTP
frame with the timestamp request of R559. -/
structure EscFrame where
  leg : Nat := 0
  lane : Nat := 0
  cls : Nat := 8
  len : Nat := 0
  copy : Option Copy := none
  bytes : List Byte := []
  tsId : Option Nat := none
  deriving DecidableEq, Repr

/-- A request in a CPE request queue. -/
inductive CpeReq where
  | inb (p : Pkt)
  | out (f : EscFrame)
  | bulk (port : Nat) (desc : List Word)
  deriving DecidableEq, Repr

/-- The completion record of a bulk request that waits for credit (R257). -/
structure BulkRec where
  compq : Nat
  bytes : List Byte
  deriving DecidableEq, Repr

/-- CPE's state beside its registers and tables. -/
structure CpeSt where
  q : NMap (List CpeReq) := []
  /-- Deficits of the queues (R231). -/
  deficit : NMap Nat := []
  /-- One more than the queue visited last, per priority; 0 before the first visit (R231). -/
  cur : NMap Nat := []
  /-- The record of the head request of a bulk queue, once the request has been carried out. -/
  done : NMap (Option BulkRec) := []
  slots : NMap KeySlot := []
  /-- Slots in the cache (R237). -/
  cached : List Nat := []
  /-- State records by SCID. -/
  st : NMap CryptoSt := []
  /-- The key-wrapping key, where it is loaded (R235). -/
  kwk : Option (List Byte) := none
  /-- Queues that have raised `CPE_RQ_FULL` in the wale (R233). -/
  full : List Nat := []
  /-- Key loads that Pairing holds (R236, R601): the wale of the write, the slot and its new contents. -/
  held : List (Nat × Nat × KeySlot) := []
  /-- The status of the last bulk submission of each port that has no registers (R257). -/
  ans : NMap Nat := []
  deriving DecidableEq, Repr

/-! ## Layer Forwarder -/

/-- The template structure of a layering-1 source (R267): for each template its spatial and temporal index and its DTI
for each decode target (0 not present, 1 discardable, 2 switch, 3 required), with the first template number; `usable` says
that the structure keeps the limits of R267. -/
structure TStruct where
  ofs : Nat := 0
  templates : List (Nat × Nat × List Nat) := []
  /-- The target code of each decode target. -/
  dts : List Nat := []
  usable : Bool := false
  deriving DecidableEq, Repr

/-- What LFW knows of a packet's frame (R266, R292): its layer code (15 unusable), and the frame's start, end, keyframe
and switch marks, switch points and membership as masks over the targets, and the frame number. `up` says that the
switch points hold only for a subscription at a lower temporal index of the same spatial index. -/
structure Layer where
  code : Nat := 0
  start : Bool := false
  last : Bool := false
  key : Bool := false
  switch : Bool := false
  sw : Nat := 0
  up : Bool := false
  member : Nat := 0
  frame : Nat := 0
  deriving DecidableEq, Repr

/-- An accepted packet on its way to LFW: the packet, the offset of its RTP or RTCP header, its plaintext from there on,
its extended number, its acceptance wale, and whether ICL captured it. -/
structure Accepted where
  pkt : Pkt
  rtp : Nat
  plain : List Byte
  ext : Nat
  wale : Nat
  captured : Bool
  deriving DecidableEq, Repr

/-- An originated packet as it reaches LFW (R301, R404): its outbound context, G, the marker bit, its
dependency descriptor and its payload. -/
structure Orig where
  scid : Nat := 0
  g : Nat := 0
  m : Bool := false
  dd : List Byte := []
  body : List Byte := []
  deriving DecidableEq, Repr

/-- LFW's state beside its registers and tables. -/
structure LfwSt where
  /-- Accepted packets, in acceptance order. -/
  rx : List Accepted := []
  /-- Copies formed and not yet issued (R303), each with its receiver leg. -/
  out : List Copy := []
  /-- Copies outstanding per buffer, by handle: the fan-out records (R302). -/
  fan : NMap Nat := []
  /-- Rate accumulators, by source × 16 + target (R269). -/
  acc : NMap Nat := []
  /-- Bytes accepted in the wale, by source × 16 + target. -/
  bytes : NMap Nat := []
  /-- The template structures, by source. -/
  tstruct : NMap TStruct := []
  /-- The WANT computed for the next wale, by subscription (R281). -/
  want : NMap (Option Nat) := []
  /-- The wale for which it was computed. -/
  wantFor : Option Nat := none
  /-- LFW's counters as they stood when the wale ended, before step 4 of the boundary (R47). -/
  ended : Option (NMap Nat) := none
  /-- Batches done in the wale, and in the one before it (R280). -/
  done : List Nat := []
  donePrev : List Nat := []
  /-- Legs whose estimate has been latched. -/
  latched : List Nat := []
  /-- Subscriptions that entered JOIN in the wale, and in the one before it (R291). -/
  joins : List Nat := []
  joinsPrev : List Nat := []
  /-- EXT_HIGH of the sources that joins may replay, as it stood at the boundary (R291). -/
  extAt : NMap Nat := []
  /-- Subscriptions that R289 named in the wale, and in the one before it. -/
  named : List Nat := []
  namedPrev : List Nat := []
  /-- The wale at whose boundary the estimates were latched last. -/
  latchedAt : Option Nat := none
  /-- The last FIR sequence number seen, by leg and SSRC (R289). -/
  fir : List (Nat × Nat × Nat) := []
  /-- Subscriptions for which `LFW_SUB_BAD` has been raised since the flip (R277). -/
  badSubs : List Nat := []
  /-- Sources for which `LFW_DD_BAD` has been raised in the wale (R267). -/
  ddBad : List Nat := []
  /-- `LFW_FANOUT_FULL` has been raised in the wale. -/
  fanFull : Bool := false
  /-- The latest RTP timestamps of a source, newest first (R266). -/
  seenTs : NMap (List Nat) := []
  /-- The CUR in force at the first packet of recent frames, by subscription: source SCID, timestamp, CUR, newest first
  (R284). -/
  frames : NMap (List (Nat × Nat × Nat)) := []
  /-- The SCID of the last copy of a subscription (R295). -/
  lastSrc : NMap Nat := []
  /-- Partial-mix packets on their way to MXF: SCID, acceptance wale and payload (R300). -/
  toMxf : List (Nat × Nat × List Byte) := []
  /-- Outbound partial-mix payloads from MXF: OUT_SCID, input wale and payload (R300). -/
  partials : List (Nat × Nat × List Byte) := []
  /-- Originated packets that MXF and Weave have handed over (R301). -/
  orig : List Orig := []
  /-- Outbound contexts that have carried originated packets (R301). -/
  origin : List Nat := []
  /-- Refresh requests on their way to the units that own the streams (R301): OUT_SCID, and 1 for a PLI or FIR, 2 for a
  NACK. -/
  refresh : List (Nat × Nat) := []
  /-- NEED_INTRA reports of the decoders, by SCID (R290). -/
  needIntra : List Nat := []
  /-- Forwarded sources to which a keyframe request has been sent (R287). -/
  asked : List Nat := []
  /-- Subscriptions whose timeout of R286 has been taken at this boundary. -/
  tmoDone : List Nat := []
  /-- The RTP timestamp of each copy that a send map lists (R297, R299), by context and slot. -/
  smTs : NMap Nat := []
  deriving DecidableEq, Repr

/-! ## Mix Fabric -/

/-- An input port of MXF beside its entry (R320 to R325): gain, counter and last sample of R323, activity, hang, energy
and peak, the native samples the converter was fed last (newest first), the anchor, and the state of its G.722 decoder. -/
structure MxfIn where
  g : Nat := 0
  cnt : Nat := 0
  xp : Int := 0
  active : Bool := false
  hang : Nat := 0
  e : Nat := 0
  peak : Nat := 0
  hist : List Int := []
  anchor : Option Nat := none
  dec : Nat := 0
  deriving DecidableEq, Repr

/-- An input port that has not been on. -/
def MxfIn.init : MxfIn := {}

/-- An output port beside its entry (R322, R332): the 48 kHz samples the converter was fed last (newest first), the state
of its G.722 encoder, the first wale of the packet being filled and its native samples so far. -/
structure MxfOut where
  hist : List Int := []
  enc : Nat := 0
  first : Nat := 0
  fill : List Int := []
  deriving DecidableEq, Repr

/-- An output port that has not been on. -/
def MxfOut.init : MxfOut := {}

/-- A gathered input wale (R315): per bus the local sums, the count and the ranks (talker, level), and per input port and
bus the contribution. -/
structure Gathered where
  wale : Nat
  sums : NMap (List Int) := []
  counts : NMap Nat := []
  ranks : NMap (List (Nat × Nat)) := []
  contrib : NMap (List Int) := []
  deriving DecidableEq, Repr

/-- A partial-mix payload that was included (R335), its samples expanded. -/
structure Partial where
  trunk : Nat
  wale : Nat
  active : Nat
  ranks : List (Nat × Nat)
  samples : List Int
  deriving DecidableEq, Repr

/-- What a bus plays in an output wale (R328): the input wale, T, n, the factors at the ends of the ramp, and the ranks. -/
structure BusPlay where
  wale : Nat
  t : List Int
  n : Nat
  f0 : Nat
  f1 : Nat
  ranks : List (Nat × Nat)
  deriving DecidableEq, Repr

/-- MXF's state beside its registers and tables. -/
structure MxfSt where
  ins : NMap MxfIn := []
  outs : NMap MxfOut := []
  /-- The input wales gathered last, newest first. -/
  gathered : List Gathered := []
  /-- The output wale, and the next sample to mix in it. -/
  out : Option Nat := none
  k : Nat := 120
  /-- What each bus plays in that wale. -/
  play : NMap (Option BusPlay) := []
  /-- The factor of each bus at the last sample of its previous mix. -/
  factor : NMap (Option Nat) := []
  /-- Included partials, newest first, and the wales taken on each trunk. -/
  parts : List Partial := []
  taken : NMap (List Nat) := []
  /-- Trunks whose partial of this boundary is built. -/
  built : List Nat := []
  /-- The output wale in which a commit's changes are crossfaded, and the entries before it (R331). -/
  fade : Option Nat := none
  oldIn : NMap (List Word) := []
  oldOut : NMap (List Word) := []
  /-- Packets of hardware encode that are complete: port, first output wale and samples. -/
  ready : List (Nat × Nat × List Int) := []
  /-- The DS0 byte received by each TSI channel at an index (R524, R525), by channel × 64 + index mod 64. -/
  ds0 : NMap (Option (Nat × Byte)) := []
  /-- The DS0 byte each TSI channel is to send, with its index. -/
  tx : NMap (Option (Nat × Byte)) := []
  deriving DecidableEq, Repr


/-! ## Video Codec Engines -/

/-- The last picture of a class of an encode stream (R399, R400, R402): its QP, its bits and the bits of its rows. -/
structure ClassRec where
  q : Nat
  bits : Nat
  rows : List Nat
  deriving DecidableEq, Repr

/-- The source picture of a launch (R393): decoder, stream and publication count of its record, or PXC pipe and slot. -/
inductive PicSrc where
  | grey
  | dec (engine stream count : Nat)
  | pxc (pipe slot : Nat)
  deriving DecidableEq, Repr

/-- A picture that an encode stream keeps as a reference (R386, R390): its temporal layer and its slot. -/
structure RefPic where
  f : Nat
  t : Nat
  slot : Nat
  deriving DecidableEq, Repr

/-- An encode stream beside its entry (R394 to R402). -/
structure EncStream where
  /-- Frame index and launch wale of the most recent keyframe. -/
  key : Option (Nat × Nat) := none
  /-- The fullness of each spatial layer. -/
  full : List Int := []
  classes : NMap (Option ClassRec) := []
  /-- The wales of refresh requests not yet applied. -/
  reqs : List Nat := []
  /-- The next picture launched is the first under its entry. -/
  fresh : Bool := true
  /-- The previous picture was aborted after a unit had been emitted. -/
  dirty : Bool := false
  /-- The next launch is skipped (R49). -/
  skip : Bool := false
  /-- A tile-ready stream emits no units for now (R429). -/
  mute : Bool := true
  /-- A tile-ready stream emits no units up to the next T0 position, after an aborted picture (R429). -/
  gap : Bool := false
  /-- Launches whose task has not started: frame index, wale and the entry in force at the launch. -/
  queued : List (Nat × Nat × List Word) := []
  q : Nat := 0
  bits : Nat := 0
  src : PicSrc := .grey
  /-- The pictures kept as references, newest first. -/
  refs : List RefPic := []
  /-- The template structure that its descriptors carried last (R387). -/
  dd : TStruct := {}
  /-- The wale from which on launches count for its state: that at which it began afresh (R389). -/
  since : Nat := 0
  deriving DecidableEq, Repr

/-- An encode stream that has coded nothing. -/
def EncStream.init : EncStream := {}

/-! ## Weave -/

/-- A region's state (R439): 0 EMPTY, 1 PEND, 2 LIVE; its stream and OLD. -/
structure Region where
  st : Nat := 0
  tag : Nat := 0
  old : Option Nat := none
  deriving DecidableEq, Repr

/-- A receiver's state (R438 to R442). `trig` holds the wales of re-key triggers. -/
structure Receiver where
  keyed : Bool := false
  fkey : Nat := 0
  since : Nat := 0
  keyWale : Nat := 0
  /-- D and A: a stream tag per slot. -/
  d : List (Option Nat) := []
  a : List (Option Nat) := []
  regions : List Region := []
  /-- The next launch is the first since EN or a flip changed the entry. -/
  first : Bool := true
  trig : List Nat := []
  /-- The next launch is skipped (R449). -/
  skip : Bool := false
  /-- The picture to be built: F, launch wale, its key mark, and the next launch's wale. -/
  todo : Option (Nat × Nat × Bool × Nat) := none
  /-- On a standby, what the picture built last was to be, and the regions, the key mark and Fkey before it (R610). -/
  undo : Option ((Nat × Nat × Bool × Nat) × List Region × Bool × Nat) := none
  deriving DecidableEq, Repr

/-- A receiver whose state is cleared. -/
def Receiver.init : Receiver := {}


/-! ## Pairing -/

/-- A unit's state at its capture point, as it goes to the standby (R626). -/
inductive Captured where
  /-- The input ports, the output ports and the factors of the buses. -/
  | mxf (ins : NMap MxfIn) (outs : NMap MxfOut) (factor : NMap (Option Nat))
  /-- LFW's own state, and the entries of its state tables: table, entry and words. -/
  | lfw (st : LfwSt) (tables : List (Nat × Nat × List Word))
  | enc (x : EncStream)
  /-- The receivers of a template, by splicer × 2^15 + entry. -/
  | tmpl (rcv : List (Nat × Receiver))
  /-- A PXC pipe, of which nothing is carried. -/
  | pipe
  deriving DecidableEq, Repr

end Sys2Proof.Machine
end

