-- ==== Sys2Proof/Syntax.lean ====
section
/-!
DEFINITION. The commands of the block: one constructor per row of the table of operations (spec/opcode_table.json),
with the operands the row's rule gives it.
-/

namespace Sys2Proof

/-- Who issues a register access: the physical function, a virtual function (1 to 15), or Quizil through producer
port 592 (R62, R99, R662). -/
inductive Src where
  | pf
  | vf (n : Nat)
  | qz
  deriving DecidableEq, Repr

/-- The conditions of B, in the numbering of the BR format (R351). -/
inductive Cond where
  | always | eq | ne | lt | ge | gt | le | ltu | geu
  deriving DecidableEq, Repr

/-- A number that names a core, one of its channels or one of its address registers, with what the check of the word read
there shows: no error (0), a corrected one (1) or a double-bit one (2) (R374). -/
structure Checked where
  num : Nat
  ecc : Nat
  deriving DecidableEq, Repr

/-- What the line side shows of a frame: whether its FCS is good, and how many uncorrectable FEC codewords have come since the
frame before it (R198). -/
structure LineCheck where
  fcsOk : Bool
  fec : Nat
  deriving DecidableEq, Repr

/-- A Withy instruction with its fields (R351, R352). Register numbers are below 16, address registers below 8,
accumulators 0 or 1; `wid` is 0 for 32, 1 for 16 and 2 for 24 bits. -/
inductive WOp where
  | nop
  | mov (d s : Nat)
  | movi (d : Nat) (imm : BitVec 18)
  | movhi (d : Nat) (imm : BitVec 16)
  | add (d s t : Nat)
  | sub (d s t : Nat)
  | addi (d s : Nat) (imm : BitVec 18)
  | and (d s t : Nat)
  | or (d s t : Nat)
  | xor (d s t : Nat)
  | shl (d s t : Nat)
  | shr (d s t : Nat)
  | shrl (d s t : Nat)
  | shri (d s k : Nat)
  | shli (d s k : Nat)
  | abs (d s : Nat)
  | max (d s t : Nat)
  | min (d s t : Nat)
  | cmp (s t : Nat)
  | cmpi (s : Nat) (imm : BitVec 18)
  | maxi (d s : Nat)
  | mini (d s : Nat)
  | ldw (d ax : Nat) (post : Bool) (imm : BitVec 18)
  | ldh (d ax : Nat) (post : Bool) (imm : BitVec 18)
  | stw (d ax : Nat) (post : Bool) (imm : BitVec 18)
  | sth (d ax : Nat) (post : Bool) (imm : BitVec 18)
  | mpy (acc s t : Nat) (sh th : Bool)
  | mac (acc s t : Nat) (sh th : Bool)
  | msu (acc s t : Nat) (sh th : Bool)
  | macm (acc m n : Nat)
  | clr (acc : Nat)
  | rda (d acc shift wid : Nat)
  | sta (acc ax : Nat) (post : Bool) (imm : BitVec 14) (shift wid : Nat)
  | mova (acc s : Nat)
  | seta (r s : Nat)
  | geta (d r : Nat)
  | aadd (ax : Nat) (imm : BitVec 18)
  | setm (s : Nat)
  | getm (d : Nat)
  | b (c : Cond) (target : Nat)
  | call (target : Nat)
  | br (s : Nat)
  | repi (len count : Nat)
  | repr (len s : Nat)
  | exit (s : Nat)
  | waitd (mask : Nat)
  | waitf
  | ei
  | di
  | reti
  | norm (d acc : Nat)
  | expt (d s : Nat)
  deriving DecidableEq, Repr

/-- What the coder makes of a CTU (R401): the bits at the row's QP, at QPMAX and as a fallback CTU, and whether it is
intra. -/
structure CtuCost where
  q : Nat
  g : Nat
  f : Nat
  intra : Bool
  deriving DecidableEq, Repr

/-- What mode decision chose for a 16 × 16 block (R397, R407): the block's number in raster order, the prediction block that
covers it (position and size in luma samples), its reference (0 to 3, 0xFE skip, 0xFF intra) and the state in which the
standard's coder writes its vector. The vector is the coder's for a skip alone and the SAD for an intra block alone: the search
gives them otherwise. [DESIGN CHOICE, log 56] -/
structure BlockStat where
  at_ : Nat
  x : Nat
  y : Nat
  w : Nat
  h : Nat
  ref : Nat
  ctx : Nat
  mvx : Int
  mvy : Int
  sad : Nat
  deriving DecidableEq, Repr

/-- A unit as the coder completes it (R403, R404): HDR where it is a layer's first, its CTUs in coding order, its blocks, its
packets (dependency descriptor and body) and, where it is a layer's last, the samples of the reconstructed picture: luma, then
interleaved chroma. [DESIGN CHOICE, log 56] -/
structure CodedUnit where
  hdr : Nat
  ctus : List CtuCost
  blocks : List BlockStat
  pkts : List (List Byte × List Byte)
  luma : List Nat
  chroma : List Nat
  deriving DecidableEq, Repr

/-- What the standard's decoder makes of a unit (R414, R416): the size, the timestamps of the pictures that leave the
buffer and of those output, in order, whether the picture stays in the buffer, and its samples. -/
structure DecPic where
  w : Nat
  h : Nat
  drop : List Nat
  outs : List Nat
  keep : Bool
  luma : List Nat
  chroma : List Nat
  deriving DecidableEq, Repr

/-- The end of a decode: a stop with its cause and detail, or a picture. -/
inductive DecResult where
  | stop (cause detail : Nat)
  | pic (p : DecPic)
  deriving DecidableEq, Repr


/-- The overhead of a path in a received frame (R516, R517): its number, H1 and H2, the B3 errors, C2, G1 and H4. -/
structure PathOh where
  path : Nat
  ptr : Nat
  b3 : Nat
  c2 : Nat
  g1 : Nat
  h4 : Nat
  deriving DecidableEq, Repr

/-- The overhead of a received frame (R516): J0, the B1 and B2 bits in error, K1, K2, S1 and the paths. -/
structure FrameOh where
  j0 : Byte
  b1 : Nat
  b2 : Nat
  k1 : Nat
  k2 : Nat
  s1 : Nat
  paths : List PathOh
  deriving DecidableEq, Repr

/-- The overhead of a tributary in a received multiframe (R518): its number, V1 and V2, the BIP-2 bits in error and V5. -/
structure TuOh where
  trib : Nat
  ptr : Nat
  bip : Nat
  v5 : Nat
  deriving DecidableEq, Repr


/-- What the symbol code finds in a line read from DRAM (R583). -/
inductive Ecc where
  | clean
  | corrected
  | uncorrectable
  deriving DecidableEq, Repr

/-- What MR4 reports (R582): 85 °C or below, above 85 °C, above 95 °C. -/
inductive Heat where
  | cool
  | warm
  | hot
  deriving DecidableEq, Repr

/-! ## The Pairing link -/

/-- A unit of the capture points of R626. -/
inductive Capture where
  | mxf | lfw
  /-- An encoder stream: encoder and stream. -/
  | enc (n m : Nat)
  /-- A Weave template. -/
  | tmpl (t : Nat)
  /-- A PXC pipe. -/
  | pipe (q : Nat)
  deriving DecidableEq, Repr

/-- A message on a channel of the link (R594). [DESIGN CHOICE, log 64] -/
inductive Msg where
  /-- An entry of the Lay record (R602). -/
  | lay (bytes : List Byte)
  /-- A release digest: OUT_SCID with 2^25 more for SRTCP, index and digest (R614). -/
  | digest (key idx dig : Nat)
  /-- A FETCH request: SCID, KIND and the sequence number of the PKT entry (R607). -/
  | fetch (scid kind seq : Nat)
  /-- The answer to a FETCH request: the plaintext, or none where the active cannot serve it. -/
  | fetched (scid kind seq : Nat) (plain : Option (List Byte))
  /-- A carried write: page, page offset and value (R598). -/
  | config (page ofs : Nat) (v : Word)
  /-- A DRAM region of a join: its first byte, its length, and the bytes of it that are not 0, by address (R625). -/
  | copy (addr len : Nat) (bytes : List (Nat × Byte))
  /-- An entry of a table that lies in the region: page, table, plane, entry and words. -/
  | table (p t plane e : Nat) (ws : List Word)
  /-- A state record of CPE that lies in the region (R240). -/
  | record (scid : Nat) (c : Machine.CryptoSt)
  /-- A slot of the stream key table that lies in the region (R205): bucket × 4 + slot to leg, SSRC and SCID. -/
  | skt (k : Nat) (v : Option (Nat × Nat × Nat))
  /-- A key slot's INV_COUNT and INV_STATE (R625). -/
  | inv (slot count st : Nat)
  /-- A unit's captured state (R626). -/
  | capture (u : Capture) (data : Machine.Captured)
  /-- HELLO: pair tag, role asked for, the paired pages' revision, the grid phase and the lane-group modes (R596), and
  the installed capacity (R625). -/
  | hello (tag role rev grid modes cap : Nat)
  | demote
  /-- The twin's state has become one of R597, with the argument of its event. -/
  | state (st arg : Nat)
  /-- The join wale that the active chose (R626). -/
  | joinWale (j : Nat)
  /-- A swap request with its target wale (R623). -/
  | swap (wale : Nat)
  /-- The bypass request (R619). -/
  | bypass (on : Bool)
  deriving DecidableEq, Repr

/-- The commands. Each docstring opens with the row's mnemonic and the rule that governs it. -/
inductive Instr where
  /-- `REG_WRITE`. R11: `src` writes `v` to page offset `off` of page `page`. -/
  | regWrite (src : Src) (page off : Nat) (v : Word)
  /-- `REG64_LOW_READ`. R5: a read of the low half, at page offset `off`, of a 64-bit register. -/
  | reg64LowRead (page off : Nat)
  /-- `REG64_HIGH_WRITE`. R6: a write of the high half, at page offset `off`, of a 64-bit register. -/
  | reg64HighWrite (src : Src) (page off : Nat) (v : Word)
  /-- `ERR_INFO_CLEAR`. R99: 1 is written to `ERR_INFO.VALID`. -/
  | errInfoClear (src : Src) (page : Nat)
  /-- `EVT_STATUS_CLEAR`. R104: a write of `mask` to `EVT_STATUS`. -/
  | evtStatusClear (src : Src) (page : Nat) (mask : Word)
  /-- `EVT_FORCE`. R105: a write of `mask` to `EVT_FORCE`. -/
  | evtForce (src : Src) (page : Nat) (mask : Word)
  /-- `EVT_RING_DELIVER`. R108: the next record of the global event queue goes to SYS ring 0. -/
  | evtRingDeliver
  /-- `PAGE_EN_WRITE`. R63: a write of `PAGE_CTRL.EN`. -/
  | pageEnWrite (src : Src) (page : Nat) (en : Bool)
  /-- `PAGE_INIT_DONE`. R64: the initialisation begun at enable ends. -/
  | pageInitDone (page : Nat)
  /-- `PAGE_FENCE`. R65: FENCE is written 1. -/
  | pageFence (src : Src) (page : Nat)
  /-- `PAGE_FENCE_DONE`. R65: no transaction of a fenced agent remains in flight. -/
  | pageFenceDone (page : Nat)
  /-- `PAGE_RESET`. R66: RST is written 1; `clearEn`: the same write writes EN = 0. -/
  | pageReset (src : Src) (page : Nat) (clearEn : Bool)
  /-- `PAGE_RESET_DONE`. R66: the page reset ends. -/
  | pageResetDone (page : Nat)
  /-- `CMT_ARM`. R69: `CMT_CTL.ARM` is written 1. -/
  | cmtArm (src : Src) (page : Nat)
  /-- `CMT_DISARM`. R72: `CMT_CTL.DISARM` is written 1. -/
  | cmtDisarm (src : Src) (page : Nat)
  /-- `COMMIT_APPLY`. R67: step 4 of R47 for the page's armed single-page commit. -/
  | commitApply (page : Nat)
  /-- `CGRP_ARM`. R74: `SYS_CGRP_CTL.ARM` is written 1. -/
  | cgrpArm (src : Src)
  /-- `CGRP_DISARM`. R79: `SYS_CGRP_CTL.DISARM` is written 1. -/
  | cgrpDisarm (src : Src)
  /-- `CGRP_CHECK`. R76: the check of an armed group at B(T - 1). -/
  | cgrpCheck (group : Nat)
  /-- `CGRP_APPLY`. R78: a COMMITTED group applies at B(T). -/
  | cgrpApply (group : Nat)
  /-- `TBL_ADDR_WRITE`. R84: `v` is written to `TBL_ADDR`. -/
  | tblAddrWrite (src : Src) (page : Nat) (v : Word)
  /-- `TBL_DATA_READ`. R84: a read of `TBL_DATA`. -/
  | tblDataRead (src : Src) (page : Nat)
  /-- `TBL_DATA_WRITE`. R85: `v` is written to `TBL_DATA`. -/
  | tblDataWrite (src : Src) (page : Nat) (v : Word)
  /-- `TBL_WRITEBACK_DEFERRED`. R86: in Pairing mode, the write-backs held since the last boundary take effect. -/
  | tblWritebackDeferred
  /-- `GRANT_TABLE_WRITEBACK`. R62: a write-back of entry `entry` of the SYS grant table. -/
  | grantTableWriteback (src : Src) (entry : Nat) (v : Word)
  /-- `SNAP_REQUEST`. R88: `SNAP_CTL.REQ` is written 1, with CLR_S. -/
  | snapRequest (src : Src) (page : Nat) (clrS : Bool)
  /-- `SNAPSHOT_TAKE`. R87: step 2 of R47 for a page with a pending request. -/
  | snapshotTake (page : Nat)
  /-- `RING_ENABLE`. R91: a write of `RING_CFG` with EN = 1. -/
  | ringEnable (src : Src) (page ring : Nat) (v : Word)
  /-- `RING_HEAD_WRITE`. R95: `h` is written to `RING_HEAD`. -/
  | ringHeadWrite (src : Src) (page ring : Nat) (h : Word)
  /-- `GRID_PHASE_WRITE`. R31: a write of `TMU_GRID_PHASE`. -/
  | gridPhaseWrite (src : Src) (v : Word)
  /-- `WALE_RUN_SET`. R32: RUN is written 1. -/
  | waleRunSet (src : Src)
  /-- `WALE_RUN_CLEAR`. R35: RUN is written 0. -/
  | waleRunClear (src : Src)
  /-- `WALE_STROBE`. R37: the local clock reaches the next boundary. -/
  | waleStrobe
  /-- `FINE_TICK`. R123: the next 1 µs fine tick. -/
  | fineTick
  /-- `TASK_SUBMIT`. R116: a descriptor is submitted; through registers it is that of `RVE_SUBMIT_DESC`. -/
  | taskSubmit (port : Nat) (desc : List Word)
  /-- `TASK_DECREMENT`. R121: a decrement from a producer. -/
  | taskDecrement (port id : Nat)
  /-- `ABORT_TASK`. R135: `RVE_ABORT` with KIND 0. -/
  | abortTask (src : Src) (id : Nat)
  /-- `ABORT_OWNER`. R135: `RVE_ABORT` with KIND 1. -/
  | abortOwner (src : Src) (owner : Nat)
  /-- `DELAY_LIST_RELEASE`. R123: the first entry of a delay list whose key is reached. -/
  | delayListRelease (list : Nat)
  /-- `TASK_DISPATCH`. R128: one fabric clock of dispatch. -/
  | taskDispatch
  /-- `TASK_START`. R129, R344: executor `e` starts the task in its slot. -/
  | taskStart (e : Nat)
  /-- `TASK_COMPLETE`. R134: the exit of executor `e` reaches Reeve; `value` is that of a VCE engine. -/
  | taskComplete (e : Nat) (value : Word)
  /-- `BUDGET_ABORT`. R132: the count of executor `e` reaches BUDGET. -/
  | budgetAbort (e : Nat)
  /-- `DEADLINE_ABORT`. R133: step 3 of R47 for task `id`. -/
  | deadlineAbort (id : Nat)
  /-- `COMPLETION_RECORD_WRITE`. R139: the record of task `id` that waited for credit. -/
  | completionRecordWrite (id : Nat)
  /-- `IMAGE_REGISTRY_WRITE`. R141: a write-back of RVE table 1. -/
  | imageRegistryWrite (src : Src) (image : Nat) (ws : List Word)
  /-- `IMAGE_SCAN_DONE`. R140: the scan of an image ends. -/
  | imageScanDone (image : Nat)
  /-- `OWNER_MAP_WRITEBACK`. R153: a write-back of CRL table 1. -/
  | ownerMapWriteback (src : Src) (port : Nat) (v : Word)
  /-- `POOL_WRITEBACK`. R155: a write-back of a Creel pool entry. -/
  | poolWriteback (src : Src) (pool : Nat) (ws : List Word)
  /-- `POOL_READY`. R155: a pool's metadata has been written. -/
  | poolReady (pool : Nat)
  /-- `ALLOC`. R162: ALLOC from a port. -/
  | alloc (port pool : Nat)
  /-- `ADD`. R162: ADD of a new owner. -/
  | add (port : Nat) (handle : Word) (owner : Nat)
  /-- `DROP`. R162: DROP. -/
  | drop (port : Nat) (handle : Word)
  /-- `FREE`. R162: FREE. -/
  | free (port : Nat) (handle : Word)
  /-- `CREEL_RECLAIM`. R167: GO of `CRL_RECLAIM`. -/
  | creelReclaim (src : Src) (owner : Nat)
  /-- `CRL_RECLAIM_DONE`. R168: the reclaim walk ends. -/
  | crlReclaimDone
  /-- `COIL_QUEUE_WRITEBACK`. R171: a write-back of a Coil queue entry. -/
  | coilQueueWriteback (src : Src) (q : Nat) (ws : List Word)
  /-- `COIL_GRANT_WRITEBACK`. R173: a write-back of a Coil grant. -/
  | coilGrantWriteback (src : Src) (g : Nat) (ws : List Word)
  /-- `RESERVE`. R177: a producer reserves `size` payload bytes. -/
  | reserve (port q size : Nat)
  /-- `COMMIT`. R178: a producer commits a reservation. -/
  | commit (port q ofs len : Nat) (skip : Bool)
  /-- `NEXT`. R180: the consumer takes the next packet. -/
  | next (port q : Nat)
  /-- `RELEASE`. R182: the consumer frees space up to `ofs`. -/
  | release (port q ofs : Nat)
  /-- `MARK`. R183: the consumer sets the Bight. -/
  | mark (port q : Nat)
  /-- `REWIND`. R185: the consumer goes back to the Bight. -/
  | rewind (port q : Nat)
  /-- `COIL_RECLAIM`. R189: GO of `COL_RECLAIM`. -/
  | coilReclaim (src : Src) (owner : Nat)
  /-- `COL_RECLAIM_DONE`. R189: a credit reclaim completes. -/
  | colReclaimDone
  /-- `ETH_LINK_UP`. R227: lane group `lane` gains lock. -/
  | ethLinkUp (lane : Nat)
  /-- `ETH_LINK_DOWN`. R227: lane group `lane` loses lock. -/
  | ethLinkDown (lane : Nat)
  /-- `ETH_HI_SER`. R227: HI_SER of lane group `lane` rises, or falls. -/
  | ethHiSer (lane : Nat) (up : Bool)
  /-- `ETH_RX_FRAME`. R198: a frame ends on the line; `bytes` are DA to the last byte before the FCS. -/
  | ethRxFrame (lane : Nat) (bytes : List Byte) (chk : LineCheck)
  /-- `ICL_FRAME`. R199: ICL treats the oldest received frame. -/
  | iclFrame
  /-- `ICL_CTX_FETCH_DONE`. R209: the context of `scid` arrives from DRAM. -/
  | iclCtxFetchDone (scid : Nat)
  /-- `LEGKEY_WRITEBACK`. R204: a write-back of ICL table 2. -/
  | legkeyWriteback (src : Src) (entry : Nat) (ws : List Word)
  /-- `STREAM_CTX_WRITEBACK`. R207, R210: a write-back of ICL table 0. -/
  | streamCtxWriteback (src : Src) (scid : Nat) (ws : List Word)
  /-- `POLICER_WRITEBACK`. R216: a write-back of the policer table. -/
  | policerWriteback (src : Src) (entry : Nat) (ws : List Word)
  /-- `CPE_RQ_WRITEBACK`. R230: a write-back of CPE table 0. -/
  | cpeRqWriteback (src : Src) (q : Nat) (ws : List Word)
  /-- `CPE_INBOUND`. R242: a lane takes the inbound packet that R231 serves next. -/
  | cpeInbound
  /-- `KEY_SLOT_FETCH`. R238: the record of `slot` arrives; `tagOk`: its wrap tag verifies. -/
  | keySlotFetch (slot : Nat) (tagOk : Bool)
  /-- `KEY_SLOT_EVICT`. R237: `slot` leaves the cache. -/
  | keySlotEvict (slot : Nat)
  /-- `KEY_LOAD`. R236: `CPE_KEY_GO` is written. -/
  | keyLoad (src : Src)
  /-- `KEY_LOAD_APPLY`. R601: at step 4 of a boundary in Pairing, the key loads held apply. -/
  | keyLoadApply
  /-- `KEY_LOAD_PENDING_EXPIRE`. R601: pending loads of a standby that no boundary named for 400 wales. -/
  | keyLoadPendingExpire
  /-- `KWK_LOAD`. R235: Quizil loads the key-wrapping key. -/
  | kwkLoad
  /-- `CPE_OUTBOUND`. R248: a lane takes the outbound packet that R231 serves next. -/
  | cpeOutbound
  /-- `BULK_SUBMIT`. R257: a bulk request is submitted; through registers its descriptor is that of `CPE_BULK_DESC`. -/
  | bulkSubmit (port rq : Nat) (desc : List Word)
  /-- `BULK_COMPLETE`. R257: the bulk request that R231 serves next is carried out, or its record is written. -/
  | bulkComplete
  /-- `LFW_PACKET_ACCEPTED`. R265: LFW takes the oldest accepted packet. -/
  | lfwPacketAccepted
  /-- `FANOUT_COPY`. R303: LFW issues the oldest copy formed. -/
  | fanoutCopy
  /-- `NEED_INTRA_REPORT`. R290: LFW takes the oldest NEED_INTRA report. -/
  | needIntraReport
  /-- `EST_NEXT_RATE_WRITE`. R280: NEXT_RATE of `leg`, through fabric target 6. -/
  | estNextRateWrite (leg : Nat) (rate : Word)
  /-- `EST_BATCH_DONE`. R280: the batch-done word, through `LFW_EST_DONE` by `src`, or through fabric target 6. -/
  | estBatchDone (src : Option Src) (batch : Nat)
  /-- `EST_LATCH`. R280: step 4 latches the estimates. -/
  | estLatch
  /-- `WANT_COMPUTE`. R281: the WANT values for the next wale. -/
  | wantCompute
  /-- `SWITCH_TMO`. R286: subscription `sub` reaches a multiple of the timeout. -/
  | switchTmo (subn : Nat)
  /-- `JOIN_TAKE`. R291: step 4 takes the join of `sub`. -/
  | joinTake (subn : Nat)
  /-- `ORIGINATED_PACKET`. R301: LFW takes an originated packet, from Coil queue `q` of an encoder or the oldest that MXF and Weave handed over. -/
  | originatedPacket (q : Option Nat)
  /-- `PARTIAL_MIX_OUT`. R300: LFW takes the oldest outbound partial-mix payload. -/
  | partialMixOut
  /-- `MXF_GATHER`. R315: step 7 gathers the input wale that has ended. -/
  | mxfGather
  /-- `MIX_SAMPLE`. R316: the next 48 kHz sample of the output wale is mixed and delivered. -/
  | mixSample
  /-- `HWDEC_PACKET`. R320: hardware decode takes a packet from its Coil queue. -/
  | hwdecPacket
  /-- `PARTIAL_MIX_IN`. R335: MXF takes the oldest partial-mix payload that LFW has delivered. -/
  | partialMixIn
  /-- `PARTIAL_BUILD`. R336: the partial due at this boundary for `trunk`. -/
  | partialBuild (trunk : Nat)
  /-- `MXF_HWENC_PACKET`. R332: the oldest complete hardware-encode packet is encoded and handed to LFW. -/
  | mxfHwencPacket
  /-- `NOP`. R352: core `n` executes NOP. -/
  | nop (n : Nat)
  /-- `MOV`. R352: MOV D, S. -/
  | mov (n d a : Nat)
  /-- `MOVI`. R352: MOVI D, imm. -/
  | movi (n d : Nat) (imm : BitVec 18)
  /-- `MOVHI`. R352: MOVHI D, imm. -/
  | movhi (n d : Nat) (imm : BitVec 16)
  /-- `SUB`. R352: SUB D, S, T. -/
  | sub (n d a t : Nat)
  /-- `ADDI`. R352: ADDI D, S, imm. -/
  | addi (n d a : Nat) (imm : BitVec 18)
  /-- `AND`. R352: AND D, S, T. -/
  | and (n d a t : Nat)
  /-- `OR`. R352: OR D, S, T. -/
  | or (n d a t : Nat)
  /-- `XOR`. R352: XOR D, S, T. -/
  | xor (n d a t : Nat)
  /-- `SHL`. R352: SHL D, S, T. -/
  | shl (n d a t : Nat)
  /-- `SHR`. R352: SHR D, S, T. -/
  | shr (n d a t : Nat)
  /-- `SHRL`. R352: SHRL D, S, T. -/
  | shrl (n d a t : Nat)
  /-- `SHRI`. R352: SHRI D, S, imm. -/
  | shri (n d a k : Nat)
  /-- `SHLI`. R352: SHLI D, S, imm. -/
  | shli (n d a k : Nat)
  /-- `ABS`. R352: ABS D, S. -/
  | abs (n d a : Nat)
  /-- `MAX`. R352: MAX D, S, T. -/
  | max (n d a t : Nat)
  /-- `MIN`. R352: MIN D, S, T. -/
  | min (n d a t : Nat)
  /-- `CMP`. R352: CMP S, T. -/
  | cmp (n a t : Nat)
  /-- `CMPI`. R352: CMPI S, imm. -/
  | cmpi (n a : Nat) (imm : BitVec 18)
  /-- `MAXI`. R352: MAXI D, S. -/
  | maxi (n d a : Nat)
  /-- `MINI`. R352: MINI D, S. -/
  | mini (n d a : Nat)
  /-- `LDW`. R352: LDW D, mem; `ecc`: the word read has no error (0), a corrected one (1) or a double-bit one (2) (R374). -/
  | ldw (n d ax : Nat) (post : Bool) (imm : BitVec 18) (ecc : Nat)
  /-- `LDH`. R352: LDH D, mem; `ax` with the check of the word read. -/
  | ldh (n d : Nat) (ax : Checked) (post : Bool) (imm : BitVec 18)
  /-- `STW`. R352: STW S, mem. -/
  | stw (n d ax : Nat) (post : Bool) (imm : BitVec 18)
  /-- `STH`. R352: STH S, mem. -/
  | sth (n d ax : Nat) (post : Bool) (imm : BitVec 18)
  /-- `MPY`. R354: MPY A, S.h, T.h. -/
  | mpy (n acc a t : Nat) (sh th : Bool)
  /-- `MAC`. R354: MAC A, S.h, T.h. -/
  | mac (n acc a t : Nat) (sh th : Bool)
  /-- `MSU`. R354: MSU A, S.h, T.h. -/
  | msu (n acc a t : Nat) (sh th : Bool)
  /-- `MACM`. R354: MACM A, [AXp]+, [AXq]+; each register with the check of the word read through it. -/
  | macm (n acc : Nat) (p q : Checked)
  /-- `CLR`. R352: CLR A. -/
  | clr (n acc : Nat)
  /-- `RDA`. R355: RDA D, A, shift, wid. -/
  | rda (n d acc shift wid : Nat)
  /-- `STA`. R355: STA A, mem, shift, wid. -/
  | sta (n acc ax : Nat) (post : Bool) (imm : BitVec 14) (shift wid : Nat)
  /-- `MOVA`. R352: MOVA A, S. -/
  | mova (n acc a : Nat)
  /-- `SETA`. R352: SETA r, S. -/
  | seta (n r a : Nat)
  /-- `GETA`. R352: GETA D, r. -/
  | geta (n d r : Nat)
  /-- `AADD`. R357: AADD AXn, imm. -/
  | aadd (n ax : Nat) (imm : BitVec 18)
  /-- `SETM`. R343: SETM S. -/
  | setm (n a : Nat)
  /-- `GETM`. R352: GETM D. -/
  | getm (n d : Nat)
  /-- `B`. R350: B cond, target. -/
  | b (n : Nat) (cond : Cond) (target : Nat)
  /-- `CALL`. R350: CALL target. -/
  | call (n target : Nat)
  /-- `BR`. R350: BR S. -/
  | br (n a : Nat)
  /-- `REPI`. R358: REPI count, len. -/
  | repi (n len count : Nat)
  /-- `REPR`. R358: REPR S, len. -/
  | repr (n len a : Nat)
  /-- `EXIT`. R371: EXIT S. -/
  | exit (n a : Nat)
  /-- `WAITD`. R349: WAITD mask. -/
  | waitd (n mask : Nat)
  /-- `WAITF`. R352: WAITF. -/
  | waitf (n : Nat)
  /-- `EI`. R352: EI. -/
  | ei (n : Nat)
  /-- `DI`. R352: DI. -/
  | di (n : Nat)
  /-- `RETI`. R352: RETI. -/
  | reti (n : Nat)
  /-- `NORM`. R362: NORM D, A. -/
  | norm (n d acc : Nat)
  /-- `EXPT`. R352: EXPT D, S. -/
  | expt (n d a : Nat)
  /-- `INTERRUPT_ENTRY`. R363: core `n` takes a pending interrupt. -/
  | interruptEntry (n : Nat)
  /-- `DMA_START`. R365: the channel whose GO the last STW wrote starts. -/
  | dmaStart (n ch : Nat)
  /-- `DMA_DONE`. R366: channel `ch` completes; its check is that of the words that a transfer out of DMEM read. -/
  | dmaDone (n : Nat) (ch : Checked)
  /-- `FABRIC_REQUEST`. R368: the request that FCTL named is issued. -/
  | fabricRequest (n : Nat)
  /-- `FABRIC_RESPONSE`. R368: the response lands. -/
  | fabricResponse (n : Nat)
  /-- `WDS_LOAD`. R376: `WDS_LOAD` is written with GO. -/
  | wdsLoad (src : Src) (n image : Nat)
  /-- `WDS_LOADED`. R376: the load ends. -/
  | wdsLoaded (n : Nat)
  /-- `WDS_MODE_WRITE`. R377: a write of `WDS_MODE.TEST`. -/
  | wdsModeWrite (src : Src) (n : Nat) (test : Bool)
  /-- `WDS_MEM_WRITE`. R380: a table write to IMEM, or to DMEM. -/
  | wdsMemWrite (src : Src) (n : Nat) (dmem : Bool) (entry : Nat) (v : Word)
  /-- `TEST_GO`. R377: `WDS_TEST` is written with PC and GO. -/
  | testGo (src : Src) (n pc : Nat)
  /-- `TEST_IRQ`. R377: `WDS_TEST.IRQ` is written 1. -/
  | testIrq (src : Src) (n : Nat)
  /-- `TEST_HALT`. R377: `WDS_TEST.HALT` is written 1. -/
  | testHalt (src : Src) (n : Nat)
  /-- `ENC_LAUNCH`. R391: step 7 of a launch wale, for encoder `enc`. -/
  | encLaunch (enc : Nat)
  /-- `ENC_UNIT_EMIT`. R404: encoder `enc` completes a unit. -/
  | encUnitEmit (enc : Nat) (u : CodedUnit)
  /-- `ENC_REFRESH`. R395: `VCE_ENC_REFRESH` written by `src`, or the oldest request that LFW has passed on. -/
  | encRefresh (src : Option Src) (enc stream : Nat)
  /-- `DEC_PACKET_ASSEMBLE`. R412: the assembler takes a packet. -/
  | decPacketAssemble (dec stream : Nat)
  /-- `DEC_UNIT_SUBMIT`. R413: the oldest complete unit is submitted; `ctus` is the CTU count of its largest layer. -/
  | decUnitSubmit (dec stream ctus : Nat)
  /-- `DECODE_COMPLETE`. R416: the decode task in decoder `dec` ends. -/
  | decodeComplete (dec : Nat) (r : DecResult)
  /-- `DEC_RESTART`. R415: `VCE_DEC_RESTART` with GO. -/
  | decRestart (src : Src) (dec stream : Nat)
  /-- `WEAVE_INGEST`. R430: Weave takes a unit from ingest queue QBASE + `queue`. -/
  | weaveIngest (queue : Nat)
  /-- `WEAVE_CUT`. R431: B(L + CUT) for the pictures of launch L. -/
  | weaveCut
  /-- `WEAVE_LAUNCH`. R438: step 7 of a launch wale of a template. -/
  | weaveLaunch (template : Nat)
  /-- `WEAVE_PICTURE_BUILD`. R440, R449: a splicer writes the picture of the first receiver whose streams are settled. -/
  | weavePictureBuild (splicer : Nat)
  /-- `WVE_SPLICE_LATE`. R449: step 3 of the next launch wale finds a receiver's picture not complete. -/
  | wveSpliceLate (splicer entry : Nat)
  /-- `WVE_REKEY`. R442: `WVE_REKEY` written by `src`, or the oldest request for the receiver that LFW has passed on. -/
  | wveRekey (src : Option Src) (splicer entry : Nat)
  /-- `PXC_FRAME_LAUNCH`. R455: step 7 of a launch wale, for a pipe. -/
  | pxcFrameLaunch (pipe : Nat)
  /-- `PXC_FRAME_PUBLISH`. R472: a pipe completes its frame. -/
  | pxcFramePublish (pipe : Nat)
  /-- `PXC_FRAME_LATE`. R456: step 3 of the next launch wale finds a pipe's frame not complete. -/
  | pxcFrameLate (pipe : Nat)
  /-- `DESCRIPTOR_ENQUEUE`. R485: the oldest copy descriptor issued arrives at its queue. -/
  | descriptorEnqueue
  /-- `HOST_FRAME_ENQUEUE`. R481: lane group `lane` takes a host frame. -/
  | hostFrameEnqueue (lane : Nat)
  /-- `PTP_TX`. R558: the next packet of the PTP transmit queue. -/
  | ptpTx
  /-- `ESC_DEQUEUE`. R487: lane group `lane` dequeues one frame. -/
  | escDequeue (lane : Nat)
  /-- `TX_START`. R488: the line of `lane` is free and a staged frame may start. -/
  | txStart (lane : Nat)
  /-- `GATE_TRANSITION`. R496: time reaches the next entry of the gate list of `lane`. -/
  | gateTransition (lane : Nat)
  /-- `GCL_START`. R498: time reaches START of `lane`. -/
  | gclStart (lane : Nat)
  /-- `GCL_ENTRY_WRITEBACK`. R497: a write-back of table 0 of the ESC page of `port`. -/
  | gclEntryWriteback (src : Src) (port entry : Nat) (ws : List Word)
  /-- `ESC_CEIL_LOCKED`. R502: Quizil writes the ceiling of `lane`. -/
  | escCeilLocked (lane mbps : Nat)
  /-- `FRAMER_OCCURRENCE`. R513: at bit position `pos` of the frame, `port` sees the pattern, or a miss where it expected one. -/
  | framerOccurrence (port pos : Nat) (hit : Bool)
  /-- `LNU_FALSE_LOCK`. R514: `port` declares a false lock. -/
  | lnuFalseLock (port : Nat)
  /-- `LOF_DECLARE`. R515: OOF of `port` has lasted 24 frames. -/
  | lofDeclare (port : Nat)
  /-- `LOF_CLEAR`. R515: IF of `port` has lasted 24 frames. -/
  | lofClear (port : Nat)
  /-- `LOS_DECLARE`. R515: the line of `port` had no transition for 100 µs, or its module indicates loss. -/
  | losDeclare (port : Nat)
  /-- `LOS_CLEAR`. R515: the line of `port` had transitions for 125 µs, and its module indicates no loss. -/
  | losClear (port : Nat)
  /-- `RX_FRAME_OVERHEAD`. R516: `port` has received a frame. -/
  | rxFrameOverhead (port : Nat) (oh : FrameOh)
  /-- `RX_MULTIFRAME`. R518: `port` has received a multiframe of tributaries. -/
  | rxMultiframe (port : Nat) (tus : List TuOh)
  /-- `TRIB_FRAME_COMPLETE`. R524: a frame of tributary `trib` is complete: 32 time slots of an E1, or the F bit and 24 time slots of a T1. -/
  | tribFrameComplete (port trib : Nat) (frame : List Byte)
  /-- `TDM_FRAME_PULSE`. R524: the next 8 kHz frame pulse. -/
  | tdmFramePulse
  /-- `TX_FORCE_WRITE`. R529: `LNU_TX_CTL` of `port` is written. -/
  | txForceWrite (src : Src) (port : Nat) (v : Word)
  /-- `WDT_FORCE_CLEAR`. R666: Quizil writes 1 to WDT_FORCE of a port. -/
  | wdtForceClear (port : Nat)
  /-- `PM_RECORD`. R534: the TSI page takes a record from its Coil queue. -/
  | pmRecord
  /-- `PM_SECOND_CLOSE`. R532: a PM second ends at this boundary. -/
  | pmSecondClose
  /-- `BIN_CLOSE`. R537: bins close at this boundary. -/
  | binClose
  /-- `ADJ_SET`. R549: GO with OP = 1. -/
  | adjSet (src : Src)
  /-- `ADJ_STEP`. R549: GO with OP = 2. -/
  | adjStep (src : Src)
  /-- `FREQ_WRITE`. R548: a write of `TMU_FREQ`. -/
  | freqWrite (src : Src) (v : Word)
  /-- `SERVO_LOCKED_WRITE`. R553: a write of `TMU_SERVO.LOCKED`. -/
  | servoLockedWrite (src : Src) (locked : Bool)
  /-- `SERVO_SILENT`. R553: the servo has been silent for TMO wales. -/
  | servoSilent
  /-- `PTP_RX`. R554: the oldest received PTP frame is checked. -/
  | ptpRx
  /-- `TXTS_POP`. R561: a write of `TMU_TXTS_POP`. -/
  | txtsPop (src : Src) (tsId : Nat)
  /-- `TMU_LAT_WRITEBACK`. R567: a write-back of TMU table 0. -/
  | tmuLatWriteback (src : Src) (lane : Nat) (w0 w1 : Word)
  /-- `SYNCIN_MEASURE`. R562: in mode 1, the edges seen in one second and the frequency measured. -/
  | syncinMeasure (edges : Nat) (freq : BitVec 24)
  /-- `PPS_EDGE`. R562: in mode 2, a deglitched edge `ns` ns of local time after the clock's present reading. -/
  | ppsEdge (ns : Nat)
  /-- `TMU_SYNCIN_LOSS`. R563: the loss check; in mode 1, `edges` were seen in one second. -/
  | tmuSyncinLoss (edges : Nat)
  /-- `PPS_OUT_RISE`. R564: the next whole second of local time. -/
  | ppsOutRise
  /-- `PPS_OUT_FALL`. R564: 100 ms after the last rise. -/
  | ppsOutFall
  /-- `DRC_ENABLE`. R575: host software sets EN of the global DRC page. -/
  | drcEnable (src : Src)
  /-- `DRC_DISABLE`. R577: host software clears EN of the global DRC page. -/
  | drcDisable (src : Src)
  /-- `TRAIN_STEP_DONE`. R575: a channel completes its training step on every rank. -/
  | trainStepDone (ch : Nat)
  /-- `DRC_TRAIN_FAIL`. R575: a step exceeds its timeout on a physical rank. -/
  | drcTrainFail (ch rank : Nat)
  /-- `DRC_RETRAIN`. R576: `DRC_TRAIN` with GO. -/
  | drcRetrain (src : Src) (mask : Nat)
  /-- `DRAM_WRITE`. R579: a write request within one line. -/
  | dramWrite (addr : Nat) (bytes : List Byte)
  /-- `DRAM_READ`. R579: a read request, with what ECC finds in DRAM. -/
  | dramRead (addr : Nat) (ecc : Ecc)
  /-- `WRITE_QUEUE_DRAIN`. R580: the oldest entry of a channel drains; `ecc` is for the read of a partial entry. -/
  | writeQueueDrain (ch : Nat) (ecc : Ecc)
  /-- `REFRESH`. R582: a refresh interval of a bank expires. -/
  | refresh (ch rank : Nat)
  /-- `MR4_POLL`. R582: MR4 of a rank is read. -/
  | mr4Poll (ch rank : Nat) (heat : Heat)
  /-- `SCRUB_READ`. R584: patrol scrub reads the next line of a channel. -/
  | scrubRead (ch : Nat) (ecc : Ecc)
  /-- `CA_PARITY_ALERT`. R585: a parity alert, and whether the retry meets it again. -/
  | caParityAlert (ch rank : Nat) (again : Bool)
  /-- `RANK_RETIRE`. R585: `DRC_RETIRE` with GO. -/
  | rankRetire (src : Src) (ch rank : Nat)
  /-- `MIGRATION_COPY`. R586: the next line of the source is copied. -/
  | migrationCopy (ch : Nat) (ecc : Ecc)
  /-- `PAIR_LINK_FRAME`. R594: a frame of the Pairing link arrives with its sequence number, its acknowledgement and its messages. -/
  | pairLinkFrame (seq ack : Nat) (msgs : List Msg)
  /-- `PAIR_LINK_SEND`. R594: a frame leaves with the messages that wait. -/
  | pairLinkSend
  /-- `PAIR_RETRANSMIT`. R594: frames that have not been acknowledged for 4 µs go out again. -/
  | pairRetransmit
  /-- `PRG_LINK_DOWN`. R622: no frame has arrived for `PRG_TMO.LINK_US`. -/
  | prgLinkDown
  /-- `TWIN_DEAD`. R595: no edge of PAIR_ALIVE_I for 8 µs. -/
  | twinDead
  /-- `TWIN_ALIVE`. R595: sixteen edges of PAIR_ALIVE_I in a row. -/
  | twinAlive
  /-- `HELLO`. R596: the oldest HELLO that has arrived is examined. -/
  | hello
  /-- `CONFIG_FORWARD`. R598: the host writes that wait are carried to the standby. -/
  | configForward
  /-- `LAY_CFG`. R598: the oldest entry of the record, where it is a CFG entry. -/
  | layCfg
  /-- `LAY_PKT`. R606: the oldest entry of the record, where it is a PKT entry; entries that wait meet held packets. -/
  | layPkt
  /-- `LAY_TDM`. R538: the oldest entry of the record, where it is a TDM entry. -/
  | layTdm
  /-- `LAY_BOUNDARY`. R609: the oldest entry of the record, where it is a BOUNDARY entry. -/
  | layBoundary
  /-- `LAY_DEQ`. R611: the oldest entry of the record, where it is a DEQ entry. -/
  | layDeq
  /-- `LAY_DROP`. R611: the oldest entry of the record, where it is a DROP entry. -/
  | layDrop
  /-- `LAY_OUTCOME`. R611: the oldest entry of the record, where it is an OUTCOME entry. -/
  | layOutcome
  /-- `LAY_REFUSE`. R610: the oldest entry of the record, where it is a REFUSE entry. -/
  | layRefuse
  /-- `HELD_INPUT_TIMEOUT`. R606: held packets that no entry has named for `PRG_TMO.HOLD_US`. -/
  | heldInputTimeout
  /-- `FETCH_REQUEST`. R607: PKT entries that have waited 20 µs. -/
  | fetchRequest
  /-- `FETCH_RESPONSE`. R607: the oldest answer to a FETCH request. -/
  | fetchResponse
  /-- `FETCH_TIMEOUT`. R607: FETCH requests without an answer for `PRG_TMO.FETCH_US`. -/
  | fetchTimeout
  /-- `OUTCOME_HOLD_TIMEOUT`. R611: Withy requests held for longer than `PRG_TMO.OUTCOME_US`. -/
  | outcomeHoldTimeout
  /-- `DIGEST_RX`. R616: the twin's oldest release digest that has arrived. -/
  | digestRx
  /-- `GATE_WAIT_EXPIRE`. R615: packets of the active that have waited WAIT_NS. -/
  | gateWaitExpire
  /-- `GATE_HOLD_EXPIRE`. R616: packets that the standby has held for HOLD_US. -/
  | gateHoldExpire
  /-- `PROMOTE`. R621: the twin is dead, and the link is down or a DEMOTE has arrived. -/
  | promote
  /-- `DEMOTE_RX`. R624: the oldest DEMOTE that has arrived. -/
  | demoteRx
  /-- `SWAP_ARM`. R623: `src` writes 1 to `PRG_SWAP_CTL.ARM`. -/
  | swapArm (src : Src)
  /-- `SWAP_APPLY`. R623: step 5 of the target boundary. -/
  | swapApply
  /-- `AUTO_SWAP`. R613: a memory error of the active starts a swap. -/
  | autoSwap
  /-- `JOIN_GO`. R625: `src` writes 1 to `PRG_JOIN.GO` with CONVERGE. -/
  | joinGo (src : Src) (converge : Nat)
  /-- `COPY_COMPLETE`. R626: the copy of a join is complete. -/
  | copyComplete
  /-- `CAPTURE_POINT`. R626: the capture point of unit `u`. -/
  | capturePoint (u : Capture)
  /-- `PRG_IN_STEP`. R627: the standby enters IN_STEP. -/
  | prgInStep
  /-- `PRG_REGION_WRITEBACK`. R629: `src` writes back copy region `entry`. -/
  | prgRegionWriteback (src : Src) (entry : Nat) (ws : List Word)
  /-- `POR_ASSERT`. R633: the deglitched assertion of POR_L. -/
  | porAssert
  /-- `POR_RELEASE`. R633, R697: POR_L is released with the straps at `straps`. -/
  | porRelease (straps : Nat)
  /-- `SLATH_BOOT`. R638: Slath chooses, verifies and starts a bank; `errA` and `errB` are xSPI errors in their sections, and `period` the watchdog period in ms that the firmware sets. -/
  | slathBoot (errA errB : Bool) (period : Nat)
  /-- `RECOVERY`. R640: no bank passes, and Slath waits for an image. -/
  | recovery (errA errB : Bool)
  /-- `PLATFORM_READ`. R648: firmware reads the platform record; `pub` is the owner key that signed it. -/
  | platformRead (pub : List Byte)
  /-- `MAIN_RELEASE`. R700: firmware releases the main domain; `stuck` is the step whose rail does not come into regulation. -/
  | mainRelease (stuck : Option Nat)
  /-- `MAIN_SEQ_STEP_FAIL`. R700: the step of the sequence in progress fails. -/
  | mainSeqStepFail
  /-- `PERST`. R634: the deglitched level of PERST_L changes. -/
  | perst (asserted : Bool)
  /-- `BOARD_FAULT`. R701: BOARD_FAULT_L is taken low. -/
  | boardFault
  /-- `REFCLK_LOSS`. R703: REFCLK has no edge for 1 µs. -/
  | refclkLoss
  /-- `REFCLK_PRESENT`. R703: REFCLK has had 100 µs of continuous edges. -/
  | refclkPresent
  /-- `ISLAND_UNDERVOLT`. R699: VDD_QZ is below 0.72 V for 1 µs. -/
  | islandUndervolt
  /-- `ID_READ`. R651: the identity memory at `pos` (kind 1 a DIMM, 2 a module, 3 an SFP) reads as `mem`; none where nothing answers. -/
  | idRead (kind pos : Nat) (mem : Option (List Byte))
  /-- `ID_READ_TIMEOUT`. R651: a read of an identity memory exceeds 50 ms. -/
  | idReadTimeout (kind pos : Nat)
  /-- `MODULE_REMOVED`. R654: the deglitched presence of a module is lost. -/
  | moduleRemoved (kind pos : Nat)
  /-- `MODULE_INSERTED`. R654: a module is inserted. -/
  | moduleInserted (kind pos : Nat)
  /-- `WDT_KICK`. R664: a write to the kick register, `right` where it is the one that the sequence asks for. -/
  | wdtKick (right : Bool)
  /-- `WDT_EXPIRE`. R665: the watchdog's period passes. -/
  | wdtExpire
  /-- `WDT_RESTART`. R666: Slath verifies a bank again and restarts the firmware; the operands are those of `SLATH_BOOT`. -/
  | wdtRestart (errA errB : Bool) (period : Nat)
  /-- `TEMP_SAMPLE`. R670: thermal sensor `sensor` reads `v`, in 1/8 °C. -/
  | tempSample (sensor : Nat) (v : Int)
  /-- `VOLT_SAMPLE`. R671: voltage monitor `monitor` reads `mv` mV. -/
  | voltSample (monitor mv : Nat)
  /-- `PMBUS_POLL`. R672: regulator `addr` answers a poll with VOUT in mV, IOUT in 10 mA, its temperature and STATUS_WORD. -/
  | pmbusPoll (addr vout iout temp status : Nat)
  /-- `PMBUS_COMMAND`. R672: firmware sends a voltage command for a rail of R698: kind 0 VOUT_COMMAND, 1 VOUT_MAX, 2 a margin. -/
  | pmbusCommand (rail kind mv : Nat)
  /-- `MIRROR_PAGE_WRITE`. R675: Quizil writes a page of the mirror. -/
  | mirrorPageWrite
  /-- `MB_DOORBELL`. R677: a write of `QZM_MB_DOORBELL` with GO = 1. -/
  | mbDoorbell (src : Src) (tag len : Nat)
  /-- `GET_INFO`. R681: the request outstanding is GET_INFO, and Quizil answers it. -/
  | getInfo
  /-- `CLOCK_SET`. R681: Quizil serves CLOCK_SET. -/
  | clockSet
  /-- `CLOCK_STEP`. R681: Quizil serves CLOCK_STEP. -/
  | clockStep
  /-- `PTP_CFG`. R681: Quizil serves PTP_CFG. -/
  | ptpCfg
  /-- `IMAGE_REGION`. R681: Quizil serves IMAGE_REGION. -/
  | imageRegion
  /-- `IMAGE_LOAD`. R646, R679: Quizil serves IMAGE_LOAD; `data` is what host memory holds, none where it cannot be read. -/
  | imageLoad (data : Option (List Byte))
  /-- `IMAGE_UNLOAD`. R681: Quizil serves IMAGE_UNLOAD. -/
  | imageUnload
  /-- `FW_UPDATE`. R682: Quizil serves FW_UPDATE; `norErr` says that an access to the NOR fails. -/
  | fwUpdate (data : Option (List Byte)) (norErr : Bool)
  /-- `SVN_COMMIT`. R684: Quizil serves SVN_COMMIT. -/
  | svnCommit
  /-- `PLATFORM_WRITE`. R685: Quizil serves PLATFORM_WRITE; `pub` is the owner key that signed the record. -/
  | platformWrite (data : Option (List Byte)) (pub : List Byte) (norErr : Bool)
  /-- `OWNER_SET`. R681: Quizil serves OWNER_SET. -/
  | ownerSet
  /-- `FW_RUN`. R640: Slath serves FW_RUN; `period` is the watchdog period in ms that the firmware sets. -/
  | fwRun (data : Option (List Byte)) (period : Nat)
  /-- `QUOTE`. R658: Quizil serves QUOTE. -/
  | quote
  /-- `MEASURE`. R657: Quizil serves MEASURE. -/
  | measure
  /-- `LOG_READ`. R681: Quizil serves LOG_READ. -/
  | logRead
  /-- `SENSOR_READ`. R681: Quizil serves SENSOR_READ. -/
  | sensorRead
  /-- `THRESH_SET`. R670: Quizil serves THRESH_SET. -/
  | threshSet
  /-- `LOG_CFG`. R675: Quizil serves LOG_CFG. -/
  | logCfg
  /-- `WITHY_ADD`. R352: ADD D, S, T. -/
  | withyAdd (n d a t : Nat)
  /-- `RESERVED_OPCODE`. R353: core `n` fetches a word that is no instruction, or beyond the code; its check is that of the
  word fetched. -/
  | reservedOpcode (n : Checked)
  deriving DecidableEq, Repr

end Sys2Proof
end

