-- ==== Sys2Proof/Decode.lean ====
section
/-!
DEFINITION. Decoding. The table of operations gives no row any bits, so no word spells a command. A Withy core's
instruction words have bits of their own (R351 to R353): `withyDecode` reads them, and refuses every reserved opcode,
field value and bit.
-/

namespace Sys2Proof

/-- The command that a word of the table's bits spells: none, since the table gives no row any bits. [DESIGN CHOICE, log 1] -/
def decodeTableWord (_nbits _w : Nat) : Option Instr := none

/-- The fields of a Withy instruction word (R351), by the names of the formats. -/
structure WFields where
  op : Nat
  d : Nat
  s : Nat
  t : Nat
  imm : BitVec 18
  ax : Nat
  post : Bool
  acc : Nat
  sh : Bool
  th : Bool
  low14 : Nat
  deriving DecidableEq, Repr

/-- The fields of a word that the REG, IMM, MEM and MUL formats share. -/
def wFields (w : Word) : WFields where
  op := fld w 31 26
  d := fld w 25 22
  s := fld w 21 18
  t := fld w 17 14
  imm := w.extractLsb' 0 18
  ax := fld w 21 19
  post := bit w 18
  acc := fld w 25 25
  sh := bit w 13
  th := bit w 12
  low14 := fld w 13 0

/-- A REG instruction: bits [13:0] must be 0. -/
def regForm (w : Word) (o : WOp) : Option WOp := if (wFields w).low14 = 0 then some o else none

/-- A shift by IMM, which lies from 0 to 31. -/
def shiftForm (w : Word) (f : Nat → WOp) : Option WOp :=
  if fld w 17 5 = 0 then some (f (fld w 4 0)) else none

/-- A MUL instruction: bits [24:22] and [11:0] must be 0. -/
def mulForm (w : Word) (o : WOp) : Option WOp := if fld w 24 22 = 0 && fld w 11 0 = 0 then some o else none

/-- The conditions of the BR format; other values are reserved. -/
def condOf : Nat → Option Cond
  | 0 => some .always | 1 => some .eq | 2 => some .ne | 3 => some .lt | 4 => some .ge | 5 => some .gt
  | 6 => some .le | 7 => some .ltu | 8 => some .geu | _ => none

/-- A BR instruction: bits [17:13] must be 0 and COND must not be reserved. -/
def brForm (w : Word) (f : Cond → Option WOp) : Option WOp :=
  if fld w 17 13 = 0 then (condOf (fld w 25 22)).bind f else none

/-- The instruction a Withy word holds, none for a reserved one (R351 to R353). -/
def withyDecode (w : Word) : Option WOp :=
  let f := wFields w
  match f.op with
  | 0x01 => some .nop
  | 0x02 => regForm w (.mov f.d f.s)
  | 0x03 => some (.movi f.d f.imm)
  | 0x04 => if fld w 17 16 = 0 then some (.movhi f.d (w.extractLsb' 0 16)) else none
  | 0x05 => regForm w (.add f.d f.s f.t)
  | 0x06 => regForm w (.sub f.d f.s f.t)
  | 0x07 => some (.addi f.d f.s f.imm)
  | 0x08 => regForm w (.and f.d f.s f.t)
  | 0x09 => regForm w (.or f.d f.s f.t)
  | 0x0A => regForm w (.xor f.d f.s f.t)
  | 0x0B => regForm w (.shl f.d f.s f.t)
  | 0x0C => regForm w (.shr f.d f.s f.t)
  | 0x0D => regForm w (.shrl f.d f.s f.t)
  | 0x0E => shiftForm w fun k => .shri f.d f.s k
  | 0x0F => shiftForm w fun k => .shli f.d f.s k
  | 0x10 => regForm w (.abs f.d f.s)
  | 0x11 => regForm w (.max f.d f.s f.t)
  | 0x12 => regForm w (.min f.d f.s f.t)
  | 0x13 => regForm w (.cmp f.s f.t)
  | 0x14 => some (.cmpi f.s f.imm)
  | 0x15 => regForm w (.maxi f.d f.s)
  | 0x16 => regForm w (.mini f.d f.s)
  | 0x18 => some (.ldw f.d f.ax f.post f.imm)
  | 0x19 => some (.ldh f.d f.ax f.post f.imm)
  | 0x1A => some (.stw f.d f.ax f.post f.imm)
  | 0x1B => some (.sth f.d f.ax f.post f.imm)
  | 0x20 => mulForm w (.mpy f.acc f.s f.t f.sh f.th)
  | 0x21 => mulForm w (.mac f.acc f.s f.t f.sh f.th)
  | 0x22 => mulForm w (.msu f.acc f.s f.t f.sh f.th)
  | 0x23 => if fld w 18 0 = 0 then some (.macm f.acc (fld w 24 22) (fld w 21 19)) else none
  | 0x24 => mulForm w (.clr f.acc)
  | 0x25 =>
    if fld w 13 0 = 0 && fld w 24 23 ≠ 3 then some (.rda (fld w 17 14) f.acc (fld w 22 18) (fld w 24 23)) else none
  | 0x26 =>
    if fld w 24 23 ≠ 3 then
      some (.sta f.acc (fld w 17 15) (bit w 14) (w.extractLsb' 0 14) (fld w 22 18) (fld w 24 23))
    else none
  | 0x27 => mulForm w (.mova f.acc f.s)
  | 0x28 => regForm w (.seta f.d f.s)
  | 0x29 => regForm w (.geta f.d f.s)
  | 0x2A => if f.d < 8 then some (.aadd f.d f.imm) else none
  | 0x2B => regForm w (.setm f.s)
  | 0x2C => regForm w (.getm f.d)
  | 0x30 => brForm w fun c => some (.b c (fld w 12 0))
  | 0x31 => brForm w fun c => if c = .always then some (.call (fld w 12 0)) else none
  | 0x32 => brForm w fun _ => some (.br f.s)
  | 0x34 => if fld w 17 16 = 0 then some (.repi (fld w 25 18 + 1) (fld w 15 0)) else none
  | 0x35 => if fld w 13 0 = 0 then some (.repr (fld w 25 18 + 1) f.t) else none
  | 0x36 => regForm w (.exit f.s)
  | 0x37 => some (.waitd (fld w 3 0))
  | 0x38 => some .waitf
  | 0x39 => some .ei
  | 0x3A => some .di
  | 0x3B => some .reti
  | 0x3C => mulForm w (.norm f.t f.acc)
  | 0x3D => regForm w (.expt f.d f.s)
  | _ => none

/-- The Test-only opcodes, which Reeve's scan refuses (R140, R362). -/
def testOnly (w : Word) : Bool := fld w 31 26 = 0x3C || fld w 31 26 = 0x3D

end Sys2Proof
end

