-- ==== Sys2Proof/Config.lean ====
section
/-!
DEFINITION. What the spec leaves open, as constants without a body: nothing can evaluate them, so whatever is proved
holds for every value they could take. The spec names some algorithms by an outside standard without giving them: they
stand here too.
-/

namespace Sys2Proof.Config

/-- A free value: the result the spec leaves open, numbered by the state's counter of free values. [DESIGN CHOICE, log 6] -/
opaque free : Nat → Nat

/-- SM3 (named by R603 and R614): the 32 bytes of a digest. [DESIGN CHOICE, log 7] -/
opaque sm3 : List Byte → List Byte

/-- A block cipher of R228: algorithm (1 AES-128, 2 AES-256, 3 SM4), key and a 128-bit block. [DESIGN CHOICE, log 7] -/
opaque blockEncrypt : Nat → List Byte → Nat → Nat

/-- Its inverse. [DESIGN CHOICE, log 7] -/
opaque blockDecrypt : Nat → List Byte → Nat → Nat

/-- HMAC-SHA1 (R228): key and data; the 20 bytes of a tag. [DESIGN CHOICE, log 7] -/
opaque hmacSha1 : List Byte → List Byte → List Byte

/-- The ITU-T G.722 decoder at 64 kb/s (R321): its state and a byte; the new state and two 14-bit samples.
[DESIGN CHOICE, log 7] -/
opaque g722Decode : Nat → Byte → Nat × Int × Int

/-- The ITU-T G.722 encoder at 64 kb/s (R321): its state and two samples; the new state and a byte. -/
opaque g722Encode : Nat → Int → Int → Nat × Byte

/-- The syntax that Weave writes in the bit formats of ITU-T H.265 and AV1 (R445, R446): parameter sets or a sequence header,
or a slice, frame or tile group header, from the values that the spec states, in order. [DESIGN CHOICE, log 7] -/
opaque weaveSyntax : List Nat → List Byte

/-- The tiles that Weave holds in ROM (R444): codec, depth, kind (0 a placeholder in intra syntax, 1 one in inter syntax, 2 a
skip tile), and columns and rows in CTUs. -/
opaque weaveTile : List Nat → List Byte

/-- A source unit's header in its standard's syntax: the length of the unit up to its tile data, and the values of the
fields that R445 copies. -/
opaque weaveSource : Nat → List Byte → Nat × List Nat

/-- The encoders' ROM table λ of a QP (R397), whose contents the spec does not give. [DESIGN CHOICE, log 56] -/
opaque lambda : Nat → Nat

/-- The bits of a vector in a standard (R397): codec, the coder's state, and the vector. [DESIGN CHOICE, log 56] -/
opaque vectorBits : Nat → Nat → Int → Int → Nat

/-- A sample between the samples of a reference, in a standard (R384, R397): codec, the sizes of reference and picture, the
reference, and a position in quarter pels of the picture. [DESIGN CHOICE, log 56] -/
opaque interpolate : Nat → Nat × Nat → Nat × Nat → (Int → Int → Nat) → Int → Int → Nat

/-- A sample of a picture at quarter resolution (R397). [DESIGN CHOICE, log 56] -/
opaque quarter : (Int → Int → Nat) → Int → Int → Nat

/-- A block's 8 bytes in a motion-field area (R390), from its vector and reference. [DESIGN CHOICE, log 56] -/
opaque motionEntry : Int → Int → Nat → Nat

/-- A sample that an encoder reads from a poisoned line, by its address. [DESIGN CHOICE, log 56] -/
opaque poisonSample : Nat → Nat

/-- The QP offsets from the fixed base that a tile-ready unit carries (R426, R428), one per CTU row of its piece: codec and unit.
[DESIGN CHOICE, log 56] -/
opaque unitQps : Nat → List Byte → List Int

/-- The OTP fields that Trozita writes at manufacture (R636): SERIAL, UDS, ROOT_HASH and DIK_CERT. -/
opaque otpSerial : List Byte
opaque otpUds : List Byte
opaque otpRootHash : List Byte
opaque otpDikCert : List Byte

/-- The public key of an SM2 private key (R641): x then y, 32 bytes each. -/
opaque sm2Pub : Nat → List Byte

/-- An SM2 signature (R644): private key, message and the signature's random number. [DESIGN CHOICE, log 7] -/
opaque sm2Sign : Nat → List Byte → Nat → List Byte

/-- A signature verifies (R644): public key, message, signature. [DESIGN CHOICE, log 7] -/
opaque sm2Verify : List Byte → List Byte → List Byte → Bool

/-- The capacity in GB that an SPD's contents give, where they name an RDIMM of R570 with x4 devices. [DESIGN CHOICE, log 7] -/
opaque spdRdimm : List Byte → Option Nat

/-- Whether a CMIS memory advertises an application with the 400GAUI-4 host interface, and one with 100GAUI-1 (R651). -/
opaque cmisHost : List Byte → Bool × Bool

/-- Words 13 to 127 of a source record (R292): the template structure of R267, in a layout that the spec does not give. From
the first template number, each template's S, T and DTIs, the target codes, and the word's number. -/
opaque structLayout : Nat → List (Nat × Nat × List Nat) → List Nat → Nat → Word

/-- The decoders' syntax element table (R420): the words of an element number's name, which the spec does not list. -/
opaque elementName : Nat → Nat → Word

end Sys2Proof.Config
end

