-- ==== Sys2Proof/Machine/Names.lean ====
section
/-!
DEFINITION. The names of the device's events (R25, R100 and the event tables of the block chapters) and of its
counters (R18 and the counter tables), with each event's code and severity and each counter's class and offset.
-/

namespace Sys2Proof.Machine

/-- The severities of R27, in the numbering of R106. -/
inductive Severity where
  | info | degrade | fault | fatal
  deriving DecidableEq, Repr

/-- The number of a severity in an event record (R106). -/
def Severity.code : Severity → Nat
  | .info => 0 | .degrade => 1 | .fault => 2 | .fatal => 3

/-- The events: the common ones of R100 first, then each block's. -/
inductive Event where
  | pageSat
  | pageCmtApplied
  | pageCmtLate
  | pageCmtRefused
  | pageSnapDone
  | pageRingFull
  | pageAccessErr
  | pageFenceDone
  | pageReadyLost
  | pageReadyGained
  | tmuWaleStart
  | tmuRunRefused
  | tmuPhaseIgnored
  | tmuWaleStretch
  | rveDeadline
  | rveBudget
  | rveRefused
  | rveDepUnderflow
  | rveFenceAbort
  | rveImageRefused
  | rveCapInvalid
  | rveNoExec
  | crlOwnRefused
  | crlPoolEmpty
  | crlPoolReady
  | crlReclaimDone
  | crlReclaimRefused
  | crlMetaPoison
  | colBightStale
  | colNoCredit
  | colHdrBad
  | colReclaimDone
  | colReclaimRefused
  | ethLinkDown
  | ethLinkUp
  | ethHiSer
  | iclSeqRestart
  | iclSktFull
  | iclKeyConflict
  | iclLegkeyDup
  | iclMissOvf
  | iclHistShed
  | iclCtxPoison
  | iclThrInvalid
  | cpeIdxWarn
  | cpeIdxExhausted
  | cpeInvWarn
  | cpeInvExhausted
  | cpeAuthFail
  | cpeRqFull
  | cpeKeyPromoted
  | cpeKeyPoison
  | cpeKeyTamper
  | cpeStatePoison
  | lfwSwitchTmo
  | lfwKfReq
  | lfwActiveLimit
  | lfwFanoutFull
  | lfwSubBad
  | lfwDdBad
  | lfwJoinFail
  | lfwFlipLate
  | lfwDirInvalid
  | lfwEstMiss
  | mxfInLate
  | mxfPartialLate
  | mxfPortInvalid
  | mxfPartialBad
  | mxfHwReanchor
  | wdsTaskFault
  | wdsEncSkip
  | wdsLoadRefused
  | wdsMemUe
  | wdsLoaded
  | vceDecLate
  | vceLaunchSkip
  | vceDecStop
  | vceDecResume
  | vceRcStarve
  | vceLaunchRefused
  | vceStreamInvalid
  | vceRefresh
  | vceStatLost
  | vceOutLost
  | wveSpliceLate
  | wveLayoutInvalid
  | wveUnitMissing
  | wveStoreOvf
  | wveSplitMismatch
  | wveRekey
  | pxcFrameLate
  | pxcLinebuf
  | pxcLayerInvalid
  | pxcSrcFrozen
  | pxcCropMiss
  | pxcSrcPoison
  | escTailDrop
  | escGclStartMoved
  | escGclOversize
  | escCfgInvalid
  | escCeilLocked
  | lnuDefect
  | lnuDefectClear
  | lnuUnavail
  | lnuSlip
  | lnuFalseLock
  | lnuAisForced
  | lnuCfgInvalid
  | lnuPmLost
  | tmuStepRefused
  | tmuStepDone
  | tmuClockSet
  | tmuFreqClamp
  | tmuLocked
  | tmuHoldover
  | tmuRxBad
  | tmuTxtsOvf
  | tmuSyncinLoss
  | drcTrainFail
  | drcUe
  | drcRankRetired
  | drcMigDone
  | drcNoSpare
  | drcCeThreshold
  | drcPoisonWrite
  | drcThermal
  | drcAddrRange
  | prgLinkUp
  | prgLinkDown
  | prgLinkRefused
  | prgDisagree
  | prgStbyNone
  | prgStbyExtra
  | prgDiverge
  | prgPromoted
  | prgInStep
  | prgLagging
  | prgSkew
  | prgKeyMismatch
  | prgSectionBad
  | prgJoinStart
  | prgJoinRefused
  | qzmBootBank
  | qzmImageRefused
  | qzmPlatformBad
  | qzmIdFail
  | qzmIdOk
  | qzmModuleRemoved
  | qzmBankFallback
  | qzmTemp
  | qzmTempClear
  | qzmVolt
  | qzmPmbusFault
  | qzmWdtExpired
  | qzmWdtRestart
  | qzmThermtrip
  | qzmUpdateDone
  | qzmSvnCommitted
  | qzmMainDown
  deriving DecidableEq, Repr

/-- The code of an event raised by a page of block type `ty` (R25, R100). -/
def Event.code (ty : Nat) : Event → Nat
  | .pageSat => ty * 256 + 1
  | .pageCmtApplied => ty * 256 + 2
  | .pageCmtLate => ty * 256 + 3
  | .pageCmtRefused => ty * 256 + 4
  | .pageSnapDone => ty * 256 + 5
  | .pageRingFull => ty * 256 + 6
  | .pageAccessErr => ty * 256 + 7
  | .pageFenceDone => ty * 256 + 8
  | .pageReadyLost => ty * 256 + 9
  | .pageReadyGained => ty * 256 + 10
  | .tmuWaleStart => 0x0240
  | .tmuRunRefused => 0x0241
  | .tmuPhaseIgnored => 0x0242
  | .tmuWaleStretch => 0x0243
  | .rveDeadline => 0x0310
  | .rveBudget => 0x0311
  | .rveRefused => 0x0312
  | .rveDepUnderflow => 0x0313
  | .rveFenceAbort => 0x0314
  | .rveImageRefused => 0x0315
  | .rveCapInvalid => 0x0316
  | .rveNoExec => 0x0317
  | .crlOwnRefused => 0x0410
  | .crlPoolEmpty => 0x0411
  | .crlPoolReady => 0x0412
  | .crlReclaimDone => 0x0413
  | .crlReclaimRefused => 0x0414
  | .crlMetaPoison => 0x0415
  | .colBightStale => 0x0510
  | .colNoCredit => 0x0511
  | .colHdrBad => 0x0512
  | .colReclaimDone => 0x0513
  | .colReclaimRefused => 0x0514
  | .ethLinkDown => 0x1310
  | .ethLinkUp => 0x1311
  | .ethHiSer => 0x1312
  | .iclSeqRestart => 0x0610
  | .iclSktFull => 0x0611
  | .iclKeyConflict => 0x0612
  | .iclLegkeyDup => 0x0613
  | .iclMissOvf => 0x0614
  | .iclHistShed => 0x0615
  | .iclCtxPoison => 0x0616
  | .iclThrInvalid => 0x0617
  | .cpeIdxWarn => 0x0710
  | .cpeIdxExhausted => 0x0711
  | .cpeInvWarn => 0x0712
  | .cpeInvExhausted => 0x0713
  | .cpeAuthFail => 0x0714
  | .cpeRqFull => 0x0715
  | .cpeKeyPromoted => 0x0716
  | .cpeKeyPoison => 0x0717
  | .cpeKeyTamper => 0x0718
  | .cpeStatePoison => 0x0719
  | .lfwSwitchTmo => 0x0810
  | .lfwKfReq => 0x0811
  | .lfwActiveLimit => 0x0812
  | .lfwFanoutFull => 0x0813
  | .lfwSubBad => 0x0814
  | .lfwDdBad => 0x0815
  | .lfwJoinFail => 0x0816
  | .lfwFlipLate => 0x0817
  | .lfwDirInvalid => 0x0818
  | .lfwEstMiss => 0x0819
  | .mxfInLate => 0x0910
  | .mxfPartialLate => 0x0911
  | .mxfPortInvalid => 0x0912
  | .mxfPartialBad => 0x0913
  | .mxfHwReanchor => 0x0914
  | .wdsTaskFault => 0x0A10
  | .wdsEncSkip => 0x0A11
  | .wdsLoadRefused => 0x0A12
  | .wdsMemUe => 0x0A13
  | .wdsLoaded => 0x0A14
  | .vceDecLate => 0x0B10
  | .vceLaunchSkip => 0x0B11
  | .vceDecStop => 0x0B12
  | .vceDecResume => 0x0B13
  | .vceRcStarve => 0x0B14
  | .vceLaunchRefused => 0x0B15
  | .vceStreamInvalid => 0x0B16
  | .vceRefresh => 0x0B17
  | .vceStatLost => 0x0B18
  | .vceOutLost => 0x0B19
  | .wveSpliceLate => 0x0C10
  | .wveLayoutInvalid => 0x0C11
  | .wveUnitMissing => 0x0C12
  | .wveStoreOvf => 0x0C13
  | .wveSplitMismatch => 0x0C14
  | .wveRekey => 0x0C15
  | .pxcFrameLate => 0x0D10
  | .pxcLinebuf => 0x0D11
  | .pxcLayerInvalid => 0x0D12
  | .pxcSrcFrozen => 0x0D13
  | .pxcCropMiss => 0x0D14
  | .pxcSrcPoison => 0x0D15
  | .escTailDrop => 0x0E10
  | .escGclStartMoved => 0x0E11
  | .escGclOversize => 0x0E12
  | .escCfgInvalid => 0x0E13
  | .escCeilLocked => 0x0E14
  | .lnuDefect => 0x0F10
  | .lnuDefectClear => 0x0F11
  | .lnuUnavail => 0x0F12
  | .lnuSlip => 0x0F13
  | .lnuFalseLock => 0x0F14
  | .lnuAisForced => 0x0F15
  | .lnuCfgInvalid => 0x0F16
  | .lnuPmLost => 0x0F17
  | .tmuStepRefused => 0x0210
  | .tmuStepDone => 0x0211
  | .tmuClockSet => 0x0212
  | .tmuFreqClamp => 0x0213
  | .tmuLocked => 0x0214
  | .tmuHoldover => 0x0215
  | .tmuRxBad => 0x0216
  | .tmuTxtsOvf => 0x0217
  | .tmuSyncinLoss => 0x0218
  | .drcTrainFail => 0x1010
  | .drcUe => 0x1011
  | .drcRankRetired => 0x1012
  | .drcMigDone => 0x1013
  | .drcNoSpare => 0x1014
  | .drcCeThreshold => 0x1015
  | .drcPoisonWrite => 0x1016
  | .drcThermal => 0x1017
  | .drcAddrRange => 0x1018
  | .prgLinkUp => 0x1110
  | .prgLinkDown => 0x1111
  | .prgLinkRefused => 0x1112
  | .prgDisagree => 0x1113
  | .prgStbyNone => 0x1114
  | .prgStbyExtra => 0x1115
  | .prgDiverge => 0x1116
  | .prgPromoted => 0x1117
  | .prgInStep => 0x1118
  | .prgLagging => 0x1119
  | .prgSkew => 0x111A
  | .prgKeyMismatch => 0x111B
  | .prgSectionBad => 0x111C
  | .prgJoinStart => 0x111D
  | .prgJoinRefused => 0x111E
  | .qzmBootBank => 0x1210
  | .qzmImageRefused => 0x1211
  | .qzmPlatformBad => 0x1212
  | .qzmIdFail => 0x1213
  | .qzmIdOk => 0x1214
  | .qzmModuleRemoved => 0x1215
  | .qzmBankFallback => 0x1216
  | .qzmTemp => 0x1217
  | .qzmTempClear => 0x1218
  | .qzmVolt => 0x1219
  | .qzmPmbusFault => 0x121A
  | .qzmWdtExpired => 0x121B
  | .qzmWdtRestart => 0x121C
  | .qzmThermtrip => 0x121D
  | .qzmUpdateDone => 0x121E
  | .qzmSvnCommitted => 0x121F
  | .qzmMainDown => 0x1220

/-- The severity of an event. -/
def Event.severity : Event → Severity
  | .pageSat => .info
  | .pageCmtApplied => .info
  | .pageCmtLate => .info
  | .pageCmtRefused => .info
  | .pageSnapDone => .info
  | .pageRingFull => .degrade
  | .pageAccessErr => .info
  | .pageFenceDone => .info
  | .pageReadyLost => .fault
  | .pageReadyGained => .info
  | .tmuWaleStart => .info
  | .tmuRunRefused => .info
  | .tmuPhaseIgnored => .info
  | .tmuWaleStretch => .degrade
  | .rveDeadline => .degrade
  | .rveBudget => .degrade
  | .rveRefused => .info
  | .rveDepUnderflow => .info
  | .rveFenceAbort => .degrade
  | .rveImageRefused => .info
  | .rveCapInvalid => .info
  | .rveNoExec => .degrade
  | .crlOwnRefused => .info
  | .crlPoolEmpty => .degrade
  | .crlPoolReady => .info
  | .crlReclaimDone => .info
  | .crlReclaimRefused => .info
  | .crlMetaPoison => .fault
  | .colBightStale => .info
  | .colNoCredit => .info
  | .colHdrBad => .fault
  | .colReclaimDone => .info
  | .colReclaimRefused => .info
  | .ethLinkDown => .fault
  | .ethLinkUp => .info
  | .ethHiSer => .degrade
  | .iclSeqRestart => .info
  | .iclSktFull => .info
  | .iclKeyConflict => .info
  | .iclLegkeyDup => .info
  | .iclMissOvf => .degrade
  | .iclHistShed => .degrade
  | .iclCtxPoison => .fault
  | .iclThrInvalid => .info
  | .cpeIdxWarn => .info
  | .cpeIdxExhausted => .fault
  | .cpeInvWarn => .info
  | .cpeInvExhausted => .fault
  | .cpeAuthFail => .info
  | .cpeRqFull => .degrade
  | .cpeKeyPromoted => .info
  | .cpeKeyPoison => .fault
  | .cpeKeyTamper => .fault
  | .cpeStatePoison => .fault
  | .lfwSwitchTmo => .info
  | .lfwKfReq => .info
  | .lfwActiveLimit => .degrade
  | .lfwFanoutFull => .degrade
  | .lfwSubBad => .info
  | .lfwDdBad => .info
  | .lfwJoinFail => .info
  | .lfwFlipLate => .info
  | .lfwDirInvalid => .info
  | .lfwEstMiss => .info
  | .mxfInLate => .info
  | .mxfPartialLate => .degrade
  | .mxfPortInvalid => .info
  | .mxfPartialBad => .info
  | .mxfHwReanchor => .info
  | .wdsTaskFault => .degrade
  | .wdsEncSkip => .degrade
  | .wdsLoadRefused => .info
  | .wdsMemUe => .fault
  | .wdsLoaded => .info
  | .vceDecLate => .degrade
  | .vceLaunchSkip => .degrade
  | .vceDecStop => .fault
  | .vceDecResume => .info
  | .vceRcStarve => .info
  | .vceLaunchRefused => .degrade
  | .vceStreamInvalid => .info
  | .vceRefresh => .info
  | .vceStatLost => .info
  | .vceOutLost => .degrade
  | .wveSpliceLate => .degrade
  | .wveLayoutInvalid => .info
  | .wveUnitMissing => .degrade
  | .wveStoreOvf => .info
  | .wveSplitMismatch => .info
  | .wveRekey => .info
  | .pxcFrameLate => .degrade
  | .pxcLinebuf => .info
  | .pxcLayerInvalid => .info
  | .pxcSrcFrozen => .info
  | .pxcCropMiss => .info
  | .pxcSrcPoison => .degrade
  | .escTailDrop => .degrade
  | .escGclStartMoved => .info
  | .escGclOversize => .degrade
  | .escCfgInvalid => .info
  | .escCeilLocked => .info
  | .lnuDefect => .fault
  | .lnuDefectClear => .info
  | .lnuUnavail => .degrade
  | .lnuSlip => .info
  | .lnuFalseLock => .info
  | .lnuAisForced => .fault
  | .lnuCfgInvalid => .info
  | .lnuPmLost => .info
  | .tmuStepRefused => .degrade
  | .tmuStepDone => .info
  | .tmuClockSet => .info
  | .tmuFreqClamp => .info
  | .tmuLocked => .info
  | .tmuHoldover => .degrade
  | .tmuRxBad => .info
  | .tmuTxtsOvf => .info
  | .tmuSyncinLoss => .degrade
  | .drcTrainFail => .fault
  | .drcUe => .fault
  | .drcRankRetired => .degrade
  | .drcMigDone => .info
  | .drcNoSpare => .fault
  | .drcCeThreshold => .degrade
  | .drcPoisonWrite => .info
  | .drcThermal => .degrade
  | .drcAddrRange => .info
  | .prgLinkUp => .info
  | .prgLinkDown => .degrade
  | .prgLinkRefused => .info
  | .prgDisagree => .degrade
  | .prgStbyNone => .info
  | .prgStbyExtra => .info
  | .prgDiverge => .degrade
  | .prgPromoted => .degrade
  | .prgInStep => .info
  | .prgLagging => .degrade
  | .prgSkew => .info
  | .prgKeyMismatch => .fault
  | .prgSectionBad => .degrade
  | .prgJoinStart => .info
  | .prgJoinRefused => .info
  | .qzmBootBank => .info
  | .qzmImageRefused => .info
  | .qzmPlatformBad => .fault
  | .qzmIdFail => .degrade
  | .qzmIdOk => .info
  | .qzmModuleRemoved => .degrade
  | .qzmBankFallback => .degrade
  | .qzmTemp => .degrade
  | .qzmTempClear => .info
  | .qzmVolt => .degrade
  | .qzmPmbusFault => .degrade
  | .qzmWdtExpired => .fault
  | .qzmWdtRestart => .info
  | .qzmThermtrip => .fatal
  | .qzmUpdateDone => .info
  | .qzmSvnCommitted => .info
  | .qzmMainDown => .fatal

/-- Every event, the common ones first and each block's in rising order of code. -/
def allEvents : List Event :=
  [
   .pageSat, .pageCmtApplied, .pageCmtLate, .pageCmtRefused, .pageSnapDone, .pageRingFull,
   .pageAccessErr, .pageFenceDone, .pageReadyLost, .pageReadyGained, .tmuStepRefused, .tmuStepDone,
   .tmuClockSet, .tmuFreqClamp, .tmuLocked, .tmuHoldover, .tmuRxBad, .tmuTxtsOvf,
   .tmuSyncinLoss, .tmuWaleStart, .tmuRunRefused, .tmuPhaseIgnored, .tmuWaleStretch, .rveDeadline,
   .rveBudget, .rveRefused, .rveDepUnderflow, .rveFenceAbort, .rveImageRefused, .rveCapInvalid,
   .rveNoExec, .crlOwnRefused, .crlPoolEmpty, .crlPoolReady, .crlReclaimDone, .crlReclaimRefused,
   .crlMetaPoison, .colBightStale, .colNoCredit, .colHdrBad, .colReclaimDone, .colReclaimRefused,
   .iclSeqRestart, .iclSktFull, .iclKeyConflict, .iclLegkeyDup, .iclMissOvf, .iclHistShed,
   .iclCtxPoison, .iclThrInvalid, .cpeIdxWarn, .cpeIdxExhausted, .cpeInvWarn, .cpeInvExhausted,
   .cpeAuthFail, .cpeRqFull, .cpeKeyPromoted, .cpeKeyPoison, .cpeKeyTamper, .cpeStatePoison,
   .lfwSwitchTmo, .lfwKfReq, .lfwActiveLimit, .lfwFanoutFull, .lfwSubBad, .lfwDdBad,
   .lfwJoinFail, .lfwFlipLate, .lfwDirInvalid, .lfwEstMiss, .mxfInLate, .mxfPartialLate,
   .mxfPortInvalid, .mxfPartialBad, .mxfHwReanchor, .wdsTaskFault, .wdsEncSkip, .wdsLoadRefused,
   .wdsMemUe, .wdsLoaded, .vceDecLate, .vceLaunchSkip, .vceDecStop, .vceDecResume,
   .vceRcStarve, .vceLaunchRefused, .vceStreamInvalid, .vceRefresh, .vceStatLost, .vceOutLost,
   .wveSpliceLate, .wveLayoutInvalid, .wveUnitMissing, .wveStoreOvf, .wveSplitMismatch, .wveRekey,
   .pxcFrameLate, .pxcLinebuf, .pxcLayerInvalid, .pxcSrcFrozen, .pxcCropMiss, .pxcSrcPoison,
   .escTailDrop, .escGclStartMoved, .escGclOversize, .escCfgInvalid, .escCeilLocked, .lnuDefect,
   .lnuDefectClear, .lnuUnavail, .lnuSlip, .lnuFalseLock, .lnuAisForced, .lnuCfgInvalid,
   .lnuPmLost, .drcTrainFail, .drcUe, .drcRankRetired, .drcMigDone, .drcNoSpare,
   .drcCeThreshold, .drcPoisonWrite, .drcThermal, .drcAddrRange, .prgLinkUp, .prgLinkDown,
   .prgLinkRefused, .prgDisagree, .prgStbyNone, .prgStbyExtra, .prgDiverge, .prgPromoted,
   .prgInStep, .prgLagging, .prgSkew, .prgKeyMismatch, .prgSectionBad, .prgJoinStart,
   .prgJoinRefused, .qzmBootBank, .qzmImageRefused, .qzmPlatformBad, .qzmIdFail, .qzmIdOk,
   .qzmModuleRemoved, .qzmBankFallback, .qzmTemp, .qzmTempClear, .qzmVolt, .qzmPmbusFault,
   .qzmWdtExpired, .qzmWdtRestart, .qzmThermtrip, .qzmUpdateDone, .qzmSvnCommitted, .qzmMainDown,
   .ethLinkDown, .ethLinkUp, .ethHiSer]

/-- The classes of counter of R18; class B counters live in the bin records. -/
inductive CtrClass where
  | w | s
  deriving DecidableEq, Repr

/-- The counters. -/
inductive Ctr where
  | sysEvtSuppressed
  | sysEvtDropLo
  | sysEvtDropHi
  | rveSubmitted
  | rveStarted
  | rveCompleted
  | rveDelayPast
  | rveTraceLost
  | rveSlotSwap
  | rveAbortBudget
  | rveAbortDeadline
  | rveAbortFence
  | rveAbortHost
  | rveRefuseNoId
  | rveRefuseClass
  | rveRefuseDlist
  | rveRefuseLate
  | rveRefuseBad
  | rveRefuseSucc
  | rveDepUnderflow
  | rveDecrUnknown
  | rveCompLost
  | crlAlloc
  | crlFreed
  | crlReclaimed
  | crlEmpty
  | crlOwnErr
  | crlLogLost
  | colReserved
  | colDelivered
  | colSkipped
  | colReleasedBytes
  | colNoCredit
  | colBightStale
  | colOpErr
  | ethRxFrames
  | ethRxBytes
  | ethFcsErr
  | ethRunt
  | ethOversize
  | ethBufEmpty
  | ethPause
  | ethFecUncorr
  | iclToCpe
  | iclAccepted
  | iclHistBytes
  | iclHistShedBytes
  | iclCacheMiss
  | iclDropL2
  | iclDropL3
  | iclDropL4
  | iclDropRtp
  | iclDropLeg
  | iclDropSsrc
  | iclDropMiss
  | iclDropPoliced
  | iclExcSent
  | iclExcDrop
  | iclLate
  | iclSeqCand
  | iclSeqRestart
  | iclHistShed
  | iclHistToobig
  | iclDropNotready
  | polPass
  | polDrop
  | cpeRxOk
  | cpeTxOk
  | cpeBytes
  | cpeBulkDone
  | cpeKeyMiss
  | cpeAuthFail
  | cpeReplay
  | cpeMkiMiss
  | cpeShort
  | cpeNoKey
  | cpeIdxDrop
  | cpeInvDrop
  | cpeRqDrop
  | cpePoisonDrop
  | lfwCopies
  | lfwCopyBytes
  | lfwSwitches
  | lfwNackItems
  | lfwRtxSent
  | lfwKfReqs
  | lfwKfSkip
  | lfwSwitchWaits
  | lfwJoinHist
  | lfwJoinFail
  | lfwNackMiss
  | lfwNackHeld
  | lfwNackOrigin
  | lfwFbUnknown
  | lfwFanoutFull
  | lfwLayerDrop
  | lfwEstLost
  | mxfWales
  | mxfPartialsIn
  | mxfPartialsOut
  | mxfHwPkts
  | mxfZcTmo
  | mxfInStale
  | mxfPartialMiss
  | mxfPartialBad
  | mxfClip
  | mxfHwReanchor
  | mxfHwDrop
  | wdsTasks
  | wdsCycles
  | wdsWait
  | wdsDmaBytes
  | wdsFaults
  | wdsEccCorr
  | vceEncPictures
  | vceEncBits
  | vceRcGuard
  | vceRcStarve
  | vceRefreshMerged
  | vceLaunchRefused
  | vceLaunchSkip
  | vceOutLost
  | vceStatLost
  | vceDecPictures
  | vceDecBytes
  | vceDecLate
  | vceDecStops
  | vceDecDiscard
  | wvePictures
  | wveCopies
  | wveCopyBytes
  | wveSkipTiles
  | wvePhTiles
  | wveAdoptions
  | wveRefreshReq
  | wveMissing
  | wveCut
  | wveStoreOvf
  | wveUnitUnknown
  | wveSplitMismatch
  | wveRekeys
  | wveSpliceLate
  | pxcFrames
  | pxcPixels
  | pxcLayerFrozen
  | pxcLayerPh
  | pxcFrameLate
  | pxcCropMiss
  | pxcSrcPoison
  | escTxFrames
  | escTxBytes
  | escGuardHold
  | escCeilHoldNs
  | escTailDrop
  | escHistGone
  | escGclOversize
  | escHostBad
  | lnuRxFrames
  | lnuTxFrames
  | lnuB1Err
  | lnuB2Err
  | lnuOofEvents
  | lnuFalseLock
  | lnuCandOvf
  | lnuPtrInc
  | lnuPtrDec
  | lnuPtrNdf
  | lnuSlipRepeat
  | lnuSlipDelete
  | lnuBinsClosed
  | lnuPmLost
  | lnuPmLateRec
  | tmuRxPtp
  | tmuTxPtp
  | tmuRxBad
  | tmuRxLimit
  | tmuTxtsOvf
  | tmuSteps
  | tmuStepRefused
  | tmuFreqClamp
  | drcRdLines
  | drcWrLines
  | drcFwd
  | drcRawWait
  | drcRefresh
  | drcCe
  | drcUe
  | drcPoisonRd
  | drcCaRetry
  | drcMigPoisoned
  | prgMatched
  | prgLayEntries
  | prgLinkRetx
  | prgFetched
  | prgDisagree
  | prgStbyNone
  | prgStbyExtra
  | prgUnlisted
  | prgMissing
  | prgDiverge
  | qzmMbReqs
  | qzmLogRecords
  | qzmMirrorPages
  | qzmLogLost
  | qzmMirrorBad
  | qzmWdtExpiries
  | qzmPmbusRefused
  | drcRangeErr
  | errCount
  deriving DecidableEq, Repr

/-- The class of a counter. -/
def Ctr.cls : Ctr → CtrClass
  | .sysEvtSuppressed => .w
  | .sysEvtDropLo => .w
  | .sysEvtDropHi => .w
  | .rveSubmitted => .w
  | .rveStarted => .w
  | .rveCompleted => .w
  | .rveDelayPast => .w
  | .rveTraceLost => .w
  | .rveSlotSwap => .w
  | .rveAbortBudget => .s
  | .rveAbortDeadline => .s
  | .rveAbortFence => .s
  | .rveAbortHost => .s
  | .rveRefuseNoId => .s
  | .rveRefuseClass => .s
  | .rveRefuseDlist => .s
  | .rveRefuseLate => .s
  | .rveRefuseBad => .s
  | .rveRefuseSucc => .s
  | .rveDepUnderflow => .s
  | .rveDecrUnknown => .s
  | .rveCompLost => .s
  | .crlAlloc => .w
  | .crlFreed => .w
  | .crlReclaimed => .w
  | .crlEmpty => .s
  | .crlOwnErr => .s
  | .crlLogLost => .s
  | .colReserved => .w
  | .colDelivered => .w
  | .colSkipped => .w
  | .colReleasedBytes => .w
  | .colNoCredit => .s
  | .colBightStale => .s
  | .colOpErr => .s
  | .ethRxFrames => .w
  | .ethRxBytes => .w
  | .ethFcsErr => .s
  | .ethRunt => .s
  | .ethOversize => .s
  | .ethBufEmpty => .s
  | .ethPause => .s
  | .ethFecUncorr => .s
  | .iclToCpe => .w
  | .iclAccepted => .w
  | .iclHistBytes => .w
  | .iclHistShedBytes => .w
  | .iclCacheMiss => .w
  | .iclDropL2 => .s
  | .iclDropL3 => .s
  | .iclDropL4 => .s
  | .iclDropRtp => .s
  | .iclDropLeg => .s
  | .iclDropSsrc => .s
  | .iclDropMiss => .s
  | .iclDropPoliced => .s
  | .iclExcSent => .s
  | .iclExcDrop => .s
  | .iclLate => .s
  | .iclSeqCand => .s
  | .iclSeqRestart => .s
  | .iclHistShed => .s
  | .iclHistToobig => .s
  | .iclDropNotready => .s
  | .polPass => .w
  | .polDrop => .w
  | .cpeRxOk => .w
  | .cpeTxOk => .w
  | .cpeBytes => .w
  | .cpeBulkDone => .w
  | .cpeKeyMiss => .w
  | .cpeAuthFail => .s
  | .cpeReplay => .s
  | .cpeMkiMiss => .s
  | .cpeShort => .s
  | .cpeNoKey => .s
  | .cpeIdxDrop => .s
  | .cpeInvDrop => .s
  | .cpeRqDrop => .s
  | .cpePoisonDrop => .s
  | .lfwCopies => .w
  | .lfwCopyBytes => .w
  | .lfwSwitches => .w
  | .lfwNackItems => .w
  | .lfwRtxSent => .w
  | .lfwKfReqs => .s
  | .lfwKfSkip => .s
  | .lfwSwitchWaits => .s
  | .lfwJoinHist => .s
  | .lfwJoinFail => .s
  | .lfwNackMiss => .s
  | .lfwNackHeld => .s
  | .lfwNackOrigin => .s
  | .lfwFbUnknown => .s
  | .lfwFanoutFull => .s
  | .lfwLayerDrop => .s
  | .lfwEstLost => .s
  | .mxfWales => .w
  | .mxfPartialsIn => .w
  | .mxfPartialsOut => .w
  | .mxfHwPkts => .w
  | .mxfZcTmo => .w
  | .mxfInStale => .s
  | .mxfPartialMiss => .s
  | .mxfPartialBad => .s
  | .mxfClip => .s
  | .mxfHwReanchor => .s
  | .mxfHwDrop => .s
  | .wdsTasks => .w
  | .wdsCycles => .w
  | .wdsWait => .w
  | .wdsDmaBytes => .w
  | .wdsFaults => .s
  | .wdsEccCorr => .s
  | .vceEncPictures => .w
  | .vceEncBits => .w
  | .vceRcGuard => .w
  | .vceRcStarve => .s
  | .vceRefreshMerged => .s
  | .vceLaunchRefused => .s
  | .vceLaunchSkip => .s
  | .vceOutLost => .s
  | .vceStatLost => .s
  | .vceDecPictures => .w
  | .vceDecBytes => .w
  | .vceDecLate => .s
  | .vceDecStops => .s
  | .vceDecDiscard => .s
  | .wvePictures => .w
  | .wveCopies => .w
  | .wveCopyBytes => .w
  | .wveSkipTiles => .w
  | .wvePhTiles => .w
  | .wveAdoptions => .w
  | .wveRefreshReq => .s
  | .wveMissing => .s
  | .wveCut => .s
  | .wveStoreOvf => .s
  | .wveUnitUnknown => .s
  | .wveSplitMismatch => .s
  | .wveRekeys => .s
  | .wveSpliceLate => .s
  | .pxcFrames => .w
  | .pxcPixels => .w
  | .pxcLayerFrozen => .w
  | .pxcLayerPh => .w
  | .pxcFrameLate => .s
  | .pxcCropMiss => .s
  | .pxcSrcPoison => .s
  | .escTxFrames => .w
  | .escTxBytes => .w
  | .escGuardHold => .w
  | .escCeilHoldNs => .w
  | .escTailDrop => .s
  | .escHistGone => .s
  | .escGclOversize => .s
  | .escHostBad => .s
  | .lnuRxFrames => .w
  | .lnuTxFrames => .w
  | .lnuB1Err => .w
  | .lnuB2Err => .w
  | .lnuOofEvents => .s
  | .lnuFalseLock => .s
  | .lnuCandOvf => .s
  | .lnuPtrInc => .s
  | .lnuPtrDec => .s
  | .lnuPtrNdf => .s
  | .lnuSlipRepeat => .s
  | .lnuSlipDelete => .s
  | .lnuBinsClosed => .w
  | .lnuPmLost => .s
  | .lnuPmLateRec => .s
  | .tmuRxPtp => .w
  | .tmuTxPtp => .w
  | .tmuRxBad => .s
  | .tmuRxLimit => .s
  | .tmuTxtsOvf => .s
  | .tmuSteps => .s
  | .tmuStepRefused => .s
  | .tmuFreqClamp => .s
  | .drcRdLines => .w
  | .drcWrLines => .w
  | .drcFwd => .w
  | .drcRawWait => .w
  | .drcRefresh => .w
  | .drcCe => .s
  | .drcUe => .s
  | .drcPoisonRd => .s
  | .drcCaRetry => .s
  | .drcMigPoisoned => .s
  | .prgMatched => .w
  | .prgLayEntries => .w
  | .prgLinkRetx => .w
  | .prgFetched => .w
  | .prgDisagree => .s
  | .prgStbyNone => .s
  | .prgStbyExtra => .s
  | .prgUnlisted => .s
  | .prgMissing => .s
  | .prgDiverge => .s
  | .qzmMbReqs => .w
  | .qzmLogRecords => .w
  | .qzmMirrorPages => .w
  | .qzmLogLost => .s
  | .qzmMirrorBad => .s
  | .qzmWdtExpiries => .s
  | .qzmPmbusRefused => .s
  | .drcRangeErr => .s
  | .errCount => .s

/-- The page offset of a counter; on pages with counters per lane group, that of lane group 0. -/
def Ctr.offset : Ctr → Nat
  | .sysEvtSuppressed => 0x0300
  | .sysEvtDropLo => 0x0308
  | .sysEvtDropHi => 0x0310
  | .rveSubmitted => 0x0300
  | .rveStarted => 0x0308
  | .rveCompleted => 0x0310
  | .rveDelayPast => 0x0318
  | .rveTraceLost => 0x0320
  | .rveSlotSwap => 0x0328
  | .rveAbortBudget => 0x0330
  | .rveAbortDeadline => 0x0334
  | .rveAbortFence => 0x0338
  | .rveAbortHost => 0x033C
  | .rveRefuseNoId => 0x0340
  | .rveRefuseClass => 0x0344
  | .rveRefuseDlist => 0x0348
  | .rveRefuseLate => 0x034C
  | .rveRefuseBad => 0x0350
  | .rveRefuseSucc => 0x0354
  | .rveDepUnderflow => 0x0358
  | .rveDecrUnknown => 0x035C
  | .rveCompLost => 0x0360
  | .crlAlloc => 0x0300
  | .crlFreed => 0x0308
  | .crlReclaimed => 0x0310
  | .crlEmpty => 0x0340
  | .crlOwnErr => 0x0344
  | .crlLogLost => 0x0348
  | .colReserved => 0x0300
  | .colDelivered => 0x0308
  | .colSkipped => 0x0310
  | .colReleasedBytes => 0x0318
  | .colNoCredit => 0x0340
  | .colBightStale => 0x0344
  | .colOpErr => 0x0348
  | .ethRxFrames => 0x0300
  | .ethRxBytes => 0x0308
  | .ethFcsErr => 0x0310
  | .ethRunt => 0x0314
  | .ethOversize => 0x0318
  | .ethBufEmpty => 0x031C
  | .ethPause => 0x0320
  | .ethFecUncorr => 0x0324
  | .iclToCpe => 0x0300
  | .iclAccepted => 0x0308
  | .iclHistBytes => 0x0310
  | .iclHistShedBytes => 0x0318
  | .iclCacheMiss => 0x0320
  | .iclDropL2 => 0x0380
  | .iclDropL3 => 0x0384
  | .iclDropL4 => 0x0388
  | .iclDropRtp => 0x038C
  | .iclDropLeg => 0x0390
  | .iclDropSsrc => 0x0394
  | .iclDropMiss => 0x0398
  | .iclDropPoliced => 0x039C
  | .iclExcSent => 0x03A0
  | .iclExcDrop => 0x03A4
  | .iclLate => 0x03A8
  | .iclSeqCand => 0x03AC
  | .iclSeqRestart => 0x03B0
  | .iclHistShed => 0x03B4
  | .iclHistToobig => 0x03B8
  | .iclDropNotready => 0x03BC
  | .polPass => 0x0000
  | .polDrop => 0x0008
  | .cpeRxOk => 0x0300
  | .cpeTxOk => 0x0308
  | .cpeBytes => 0x0310
  | .cpeBulkDone => 0x0318
  | .cpeKeyMiss => 0x0320
  | .cpeAuthFail => 0x0340
  | .cpeReplay => 0x0344
  | .cpeMkiMiss => 0x0348
  | .cpeShort => 0x034C
  | .cpeNoKey => 0x0350
  | .cpeIdxDrop => 0x0354
  | .cpeInvDrop => 0x0358
  | .cpeRqDrop => 0x035C
  | .cpePoisonDrop => 0x0360
  | .lfwCopies => 0x0300
  | .lfwCopyBytes => 0x0308
  | .lfwSwitches => 0x0310
  | .lfwNackItems => 0x0318
  | .lfwRtxSent => 0x0320
  | .lfwKfReqs => 0x0340
  | .lfwKfSkip => 0x0344
  | .lfwSwitchWaits => 0x0348
  | .lfwJoinHist => 0x034C
  | .lfwJoinFail => 0x0350
  | .lfwNackMiss => 0x0354
  | .lfwNackHeld => 0x0358
  | .lfwNackOrigin => 0x035C
  | .lfwFbUnknown => 0x0360
  | .lfwFanoutFull => 0x0364
  | .lfwLayerDrop => 0x0368
  | .lfwEstLost => 0x036C
  | .mxfWales => 0x0300
  | .mxfPartialsIn => 0x0308
  | .mxfPartialsOut => 0x0310
  | .mxfHwPkts => 0x0318
  | .mxfZcTmo => 0x0320
  | .mxfInStale => 0x0340
  | .mxfPartialMiss => 0x0344
  | .mxfPartialBad => 0x0348
  | .mxfClip => 0x034C
  | .mxfHwReanchor => 0x0350
  | .mxfHwDrop => 0x0354
  | .wdsTasks => 0x0300
  | .wdsCycles => 0x0308
  | .wdsWait => 0x0310
  | .wdsDmaBytes => 0x0318
  | .wdsFaults => 0x0340
  | .wdsEccCorr => 0x0344
  | .vceEncPictures => 0x0300
  | .vceEncBits => 0x0308
  | .vceRcGuard => 0x0310
  | .vceRcStarve => 0x0340
  | .vceRefreshMerged => 0x0344
  | .vceLaunchRefused => 0x0348
  | .vceLaunchSkip => 0x034C
  | .vceOutLost => 0x0350
  | .vceStatLost => 0x0354
  | .vceDecPictures => 0x0300
  | .vceDecBytes => 0x0308
  | .vceDecLate => 0x0340
  | .vceDecStops => 0x0344
  | .vceDecDiscard => 0x0348
  | .wvePictures => 0x0300
  | .wveCopies => 0x0308
  | .wveCopyBytes => 0x0310
  | .wveSkipTiles => 0x0318
  | .wvePhTiles => 0x0320
  | .wveAdoptions => 0x0328
  | .wveRefreshReq => 0x0340
  | .wveMissing => 0x0344
  | .wveCut => 0x0348
  | .wveStoreOvf => 0x034C
  | .wveUnitUnknown => 0x0350
  | .wveSplitMismatch => 0x0354
  | .wveRekeys => 0x0358
  | .wveSpliceLate => 0x035C
  | .pxcFrames => 0x0300
  | .pxcPixels => 0x0308
  | .pxcLayerFrozen => 0x0310
  | .pxcLayerPh => 0x0318
  | .pxcFrameLate => 0x0340
  | .pxcCropMiss => 0x0344
  | .pxcSrcPoison => 0x0348
  | .escTxFrames => 0x0300
  | .escTxBytes => 0x0308
  | .escGuardHold => 0x0310
  | .escCeilHoldNs => 0x0318
  | .escTailDrop => 0x0320
  | .escHistGone => 0x0324
  | .escGclOversize => 0x0328
  | .escHostBad => 0x032C
  | .lnuRxFrames => 0x0300
  | .lnuTxFrames => 0x0308
  | .lnuB1Err => 0x0310
  | .lnuB2Err => 0x0318
  | .lnuOofEvents => 0x0340
  | .lnuFalseLock => 0x0344
  | .lnuCandOvf => 0x0348
  | .lnuPtrInc => 0x034C
  | .lnuPtrDec => 0x0350
  | .lnuPtrNdf => 0x0354
  | .lnuSlipRepeat => 0x0358
  | .lnuSlipDelete => 0x035C
  | .lnuBinsClosed => 0x0300
  | .lnuPmLost => 0x0340
  | .lnuPmLateRec => 0x0344
  | .tmuRxPtp => 0x0300
  | .tmuTxPtp => 0x0308
  | .tmuRxBad => 0x0340
  | .tmuRxLimit => 0x0344
  | .tmuTxtsOvf => 0x0348
  | .tmuSteps => 0x034C
  | .tmuStepRefused => 0x0350
  | .tmuFreqClamp => 0x0354
  | .drcRdLines => 0x0300
  | .drcWrLines => 0x0308
  | .drcFwd => 0x0310
  | .drcRawWait => 0x0318
  | .drcRefresh => 0x0320
  | .drcCe => 0x0340
  | .drcUe => 0x0344
  | .drcPoisonRd => 0x0348
  | .drcCaRetry => 0x034C
  | .drcMigPoisoned => 0x0350
  | .prgMatched => 0x0300
  | .prgLayEntries => 0x0308
  | .prgLinkRetx => 0x0310
  | .prgFetched => 0x0318
  | .prgDisagree => 0x0340
  | .prgStbyNone => 0x0344
  | .prgStbyExtra => 0x0348
  | .prgUnlisted => 0x034C
  | .prgMissing => 0x0350
  | .prgDiverge => 0x0354
  | .qzmMbReqs => 0x0300
  | .qzmLogRecords => 0x0308
  | .qzmMirrorPages => 0x0310
  | .qzmLogLost => 0x0340
  | .qzmMirrorBad => 0x0344
  | .qzmWdtExpiries => 0x0348
  | .qzmPmbusRefused => 0x034C
  | .drcRangeErr => 0x0340
  | .errCount => 0x003C

/-- A counter of the pages of block type `ty` (0: of every page) from instance `ilo` to `ihi`; with `lanes` there is one per
lane group, 0x80 bytes apart. -/
structure CtrRow where
  ctr : Ctr
  ty : Nat
  ilo : Nat
  ihi : Nat
  lanes : Bool
  deriving DecidableEq, Repr

/-- The counters of SYS. -/
def ctrsSys : List CtrRow :=
  [.sysEvtSuppressed, .sysEvtDropLo, .sysEvtDropHi].map fun c => ⟨c, 1, 0, 0, false⟩

/-- The counters of RVE. -/
def ctrsRve : List CtrRow :=
  [.rveSubmitted, .rveStarted, .rveCompleted, .rveDelayPast, .rveTraceLost, .rveSlotSwap, .rveAbortBudget, .rveAbortDeadline, .rveAbortFence, .rveAbortHost, .rveRefuseNoId, .rveRefuseClass, .rveRefuseDlist, .rveRefuseLate, .rveRefuseBad, .rveRefuseSucc, .rveDepUnderflow, .rveDecrUnknown, .rveCompLost].map fun c => ⟨c, 3, 0, 0, false⟩

/-- The counters of CRL. -/
def ctrsCrl : List CtrRow :=
  [.crlAlloc, .crlFreed, .crlReclaimed, .crlEmpty, .crlOwnErr, .crlLogLost].map fun c => ⟨c, 4, 0, 0, false⟩

/-- The counters of COL. -/
def ctrsCol : List CtrRow :=
  [.colReserved, .colDelivered, .colSkipped, .colReleasedBytes, .colNoCredit, .colBightStale, .colOpErr].map fun c => ⟨c, 5, 0, 0, false⟩

/-- The counters of ETH. -/
def ctrsEth : List CtrRow :=
  [.ethRxFrames, .ethRxBytes, .ethFcsErr, .ethRunt, .ethOversize, .ethBufEmpty, .ethPause, .ethFecUncorr].map fun c => ⟨c, 19, 0, 7, true⟩

/-- The counters of ICL. -/
def ctrsIcl : List CtrRow :=
  [.iclToCpe, .iclAccepted, .iclHistBytes, .iclHistShedBytes, .iclCacheMiss, .iclDropL2, .iclDropL3, .iclDropL4, .iclDropRtp, .iclDropLeg, .iclDropSsrc, .iclDropMiss, .iclDropPoliced, .iclExcSent, .iclExcDrop, .iclLate, .iclSeqCand, .iclSeqRestart, .iclHistShed, .iclHistToobig, .iclDropNotready].map fun c => ⟨c, 6, 0, 0, false⟩

/-- The counters of CPE. -/
def ctrsCpe : List CtrRow :=
  [.cpeRxOk, .cpeTxOk, .cpeBytes, .cpeBulkDone, .cpeKeyMiss, .cpeAuthFail, .cpeReplay, .cpeMkiMiss, .cpeShort, .cpeNoKey, .cpeIdxDrop, .cpeInvDrop, .cpeRqDrop, .cpePoisonDrop].map fun c => ⟨c, 7, 0, 0, false⟩

/-- The counters of LFW. -/
def ctrsLfw : List CtrRow :=
  [.lfwCopies, .lfwCopyBytes, .lfwSwitches, .lfwNackItems, .lfwRtxSent, .lfwKfReqs, .lfwKfSkip, .lfwSwitchWaits, .lfwJoinHist, .lfwJoinFail, .lfwNackMiss, .lfwNackHeld, .lfwNackOrigin, .lfwFbUnknown, .lfwFanoutFull, .lfwLayerDrop, .lfwEstLost].map fun c => ⟨c, 8, 0, 0, false⟩

/-- The counters of MXF. -/
def ctrsMxf : List CtrRow :=
  [.mxfWales, .mxfPartialsIn, .mxfPartialsOut, .mxfHwPkts, .mxfZcTmo, .mxfInStale, .mxfPartialMiss, .mxfPartialBad, .mxfClip, .mxfHwReanchor, .mxfHwDrop].map fun c => ⟨c, 9, 0, 0, false⟩

/-- The counters of WDS. -/
def ctrsWds : List CtrRow :=
  [.wdsTasks, .wdsCycles, .wdsWait, .wdsDmaBytes, .wdsFaults, .wdsEccCorr].map fun c => ⟨c, 10, 0, 511, false⟩

/-- The counters of VCEE. -/
def ctrsVcee : List CtrRow :=
  [.vceEncPictures, .vceEncBits, .vceRcGuard, .vceRcStarve, .vceRefreshMerged, .vceLaunchRefused, .vceLaunchSkip, .vceOutLost, .vceStatLost].map fun c => ⟨c, 11, 0, 15, false⟩

/-- The counters of VCED. -/
def ctrsVced : List CtrRow :=
  [.vceDecPictures, .vceDecBytes, .vceDecLate, .vceDecStops, .vceDecDiscard].map fun c => ⟨c, 11, 16, 39, false⟩

/-- The counters of WVE. -/
def ctrsWve : List CtrRow :=
  [.wvePictures, .wveCopies, .wveCopyBytes, .wveSkipTiles, .wvePhTiles, .wveAdoptions, .wveRefreshReq, .wveMissing, .wveCut, .wveStoreOvf, .wveUnitUnknown, .wveSplitMismatch, .wveRekeys, .wveSpliceLate].map fun c => ⟨c, 12, 0, 1, false⟩

/-- The counters of PXC. -/
def ctrsPxc : List CtrRow :=
  [.pxcFrames, .pxcPixels, .pxcLayerFrozen, .pxcLayerPh, .pxcFrameLate, .pxcCropMiss, .pxcSrcPoison].map fun c => ⟨c, 13, 0, 3, false⟩

/-- The counters of ESC. -/
def ctrsEsc : List CtrRow :=
  [.escTxFrames, .escTxBytes, .escGuardHold, .escCeilHoldNs, .escTailDrop, .escHistGone, .escGclOversize, .escHostBad].map fun c => ⟨c, 14, 0, 7, true⟩

/-- The counters of LNUP. -/
def ctrsLnup : List CtrRow :=
  [.lnuRxFrames, .lnuTxFrames, .lnuB1Err, .lnuB2Err, .lnuOofEvents, .lnuFalseLock, .lnuCandOvf, .lnuPtrInc, .lnuPtrDec, .lnuPtrNdf, .lnuSlipRepeat, .lnuSlipDelete].map fun c => ⟨c, 15, 0, 3, false⟩

/-- The counters of LNUT. -/
def ctrsLnut : List CtrRow :=
  [.lnuBinsClosed, .lnuPmLost, .lnuPmLateRec].map fun c => ⟨c, 15, 4, 4, false⟩

/-- The counters of TMU. -/
def ctrsTmu : List CtrRow :=
  [.tmuRxPtp, .tmuTxPtp, .tmuRxBad, .tmuRxLimit, .tmuTxtsOvf, .tmuSteps, .tmuStepRefused, .tmuFreqClamp].map fun c => ⟨c, 2, 0, 0, false⟩

/-- The counters of DRC. -/
def ctrsDrc : List CtrRow :=
  [.drcRdLines, .drcWrLines, .drcFwd, .drcRawWait, .drcRefresh, .drcCe, .drcUe, .drcPoisonRd, .drcCaRetry, .drcMigPoisoned].map fun c => ⟨c, 16, 0, 15, false⟩

/-- The counters of PRG. -/
def ctrsPrg : List CtrRow :=
  [.prgMatched, .prgLayEntries, .prgLinkRetx, .prgFetched, .prgDisagree, .prgStbyNone, .prgStbyExtra, .prgUnlisted, .prgMissing, .prgDiverge].map fun c => ⟨c, 17, 0, 0, false⟩

/-- The counters of QZM. -/
def ctrsQzm : List CtrRow :=
  [.qzmMbReqs, .qzmLogRecords, .qzmMirrorPages, .qzmLogLost, .qzmMirrorBad, .qzmWdtExpiries, .qzmPmbusRefused].map fun c => ⟨c, 18, 0, 0, false⟩

/-- The counters of DRCG. -/
def ctrsDrcg : List CtrRow :=
  [.drcRangeErr].map fun c => ⟨c, 16, 16, 16, false⟩

/-- The counters of PAGE. -/
def ctrsPage : List CtrRow :=
  [.errCount].map fun c => ⟨c, 0, 0, 1023, false⟩

/-- Every counter of a page. -/
def ctrRows : List CtrRow :=
  ctrsSys ++ ctrsRve ++ ctrsCrl ++ ctrsCol ++ ctrsEth ++ ctrsIcl ++ ctrsCpe ++ ctrsLfw ++ ctrsMxf ++ ctrsWds ++ ctrsVcee ++ ctrsVced ++ ctrsWve ++ ctrsPxc ++ ctrsEsc ++ ctrsLnup ++ ctrsLnut ++ ctrsTmu ++ ctrsDrc ++ ctrsPrg ++ ctrsQzm ++ ctrsDrcg ++ ctrsPage


end Sys2Proof.Machine
end

