-- ==== Sys2Proof/Machine/RegTable.lean ====
section
/-!
DEFINITION. The register map as data: one row per register of the spec's register tables (R30, R63, R66, R74, R83,
R86, R90, R99, R102 and the register tables of the block chapters), with each field's access type (R11), its valid
values (R14) and the register's reset value (R17). `ty` is the block type code of R25, 0 for the common header.
-/

namespace Sys2Proof.Machine

/-- The access types of R11. -/
inductive Access where
  | ro | rw | rws | w1c | w1s | wo
  deriving DecidableEq, Repr

/-- One field of a register. `own` marks a field that a command of its own writes; `okLo` to `okHi` are the values
that are no reserved encodings. -/
structure FieldDesc where
  hi : Nat
  lo : Nat
  acc : Access
  own : Bool
  okLo : Nat
  okHi : Nat
  deriving DecidableEq, Repr

/-- One register, or an array of `count` registers `stride` bytes apart, on the pages of block type `ty` (0: every
page) whose `PAGE_ID.INSTANCE` lies from `ilo` to `ihi`. `half` is 1 for the low half of a 64-bit register and 2
for the high half (R5). -/
structure RegDesc where
  ty : Nat
  ilo : Nat
  ihi : Nat
  off : Nat
  stride : Nat
  count : Nat
  half : Nat
  reset : Nat
  fields : List FieldDesc
  deriving DecidableEq, Repr

/-! ## Register offsets by name -/

namespace Reg

/-- `TMU_WALE_CTL`. -/
def tmuWaleCtl : Nat := 0x0100
/-- `TMU_GRID_PHASE`. -/
def tmuGridPhase : Nat := 0x0104
/-- `TMU_WALE64`. -/
def tmuWale64 : Nat := 0x0108
/-- `TMU_WALE64_HI`. -/
def tmuWale64Hi : Nat := 0x010C
/-- `TMU_WALE_POS`. -/
def tmuWalePos : Nat := 0x0110
/-- `TMU_BIN_OFFSET`. -/
def tmuBinOffset : Nat := 0x0114
/-- `TMU_START_WALE`. -/
def tmuStartWale : Nat := 0x0118
/-- `TMU_START_WALE_HI`. -/
def tmuStartWaleHi : Nat := 0x011C
/-- `PAGE_ID`. -/
def pageId : Nat := 0x0000
/-- `PAGE_CAPS`. -/
def pageCaps : Nat := 0x0004
/-- `PAGE_READY`. -/
def pageReady : Nat := 0x0008
/-- `PAGE_CTRL`. -/
def pageCtrl : Nat := 0x000C
/-- `CMT_CTL`. -/
def cmtCtl : Nat := 0x0020
/-- `CMT_WALE`. -/
def cmtWale : Nat := 0x0024
/-- `CMT_STATUS`. -/
def cmtStatus : Nat := 0x0028
/-- `SYS_CGRP_SEL`. -/
def sysCgrpSel : Nat := 0x0100
/-- `SYS_CGRP_CTL`. -/
def sysCgrpCtl : Nat := 0x0104
/-- `SYS_CGRP_WALE`. -/
def sysCgrpWale : Nat := 0x0108
/-- `SYS_CGRP_STATUS`. -/
def sysCgrpStatus : Nat := 0x010C
/-- `SYS_CGRP_CULPRIT`. -/
def sysCgrpCulprit : Nat := 0x0110
/-- `TBL_ADDR`. -/
def tblAddr : Nat := 0x8000
/-- `TBL_DATA`. -/
def tblData : Nat := 0x8004
/-- `SNAP_CTL`. -/
def snapCtl : Nat := 0x0040
/-- `SNAP_WALE`. -/
def snapWale : Nat := 0x0044
/-- `RING_BASE` (first of an array). -/
def ringBase : Nat := 0x0080
/-- `RING_BASE_HI` (first of an array). -/
def ringBaseHi : Nat := 0x0084
/-- `RING_CFG` (first of an array). -/
def ringCfg : Nat := 0x0088
/-- `RING_HEAD` (first of an array). -/
def ringHead : Nat := 0x008C
/-- `RING_TAIL` (first of an array). -/
def ringTail : Nat := 0x0090
/-- `ERR_INFO`. -/
def errInfo : Nat := 0x0030
/-- `EVT_STATUS`. -/
def evtStatus : Nat := 0x0010
/-- `EVT_ENABLE`. -/
def evtEnable : Nat := 0x0014
/-- `EVT_FORCE`. -/
def evtForce : Nat := 0x0018
/-- `EVT_FIRST`. -/
def evtFirst : Nat := 0x001C
/-- `RVE_CFG`. -/
def rveCfg : Nat := 0x0100
/-- `RVE_INFLIGHT`. -/
def rveInflight : Nat := 0x0104
/-- `RVE_TRACE`. -/
def rveTrace : Nat := 0x0108
/-- `RVE_CLASS_CAP` (first of an array). -/
def rveClassCap : Nat := 0x0140
/-- `RVE_DLIST_CFG` (first of an array). -/
def rveDlistCfg : Nat := 0x0160
/-- `RVE_SUBMIT_GO`. -/
def rveSubmitGo : Nat := 0x0240
/-- `RVE_SUBMIT_RES`. -/
def rveSubmitRes : Nat := 0x0244
/-- `RVE_DECR`. -/
def rveDecr : Nat := 0x0248
/-- `RVE_ABORT`. -/
def rveAbort : Nat := 0x0250
/-- `RVE_ABORT_RES`. -/
def rveAbortRes : Nat := 0x0254
/-- `CRL_REQ`. -/
def crlReq : Nat := 0x0100
/-- `CRL_REQ_HANDLE`. -/
def crlReqHandle : Nat := 0x0104
/-- `CRL_REQ_GO`. -/
def crlReqGo : Nat := 0x0108
/-- `CRL_REQ_RES`. -/
def crlReqRes : Nat := 0x010C
/-- `CRL_REQ_RES_HANDLE`. -/
def crlReqResHandle : Nat := 0x0110
/-- `CRL_RECLAIM`. -/
def crlReclaim : Nat := 0x0120
/-- `CRL_RECLAIM_RES`. -/
def crlReclaimRes : Nat := 0x0124
/-- `COL_OP`. -/
def colOp : Nat := 0x0100
/-- `COL_OP_ARG`. -/
def colOpArg : Nat := 0x0104
/-- `COL_OP_LEN`. -/
def colOpLen : Nat := 0x0108
/-- `COL_OP_GO`. -/
def colOpGo : Nat := 0x010C
/-- `COL_OP_RES`. -/
def colOpRes : Nat := 0x0110
/-- `COL_OP_RES_OFS`. -/
def colOpResOfs : Nat := 0x0114
/-- `COL_OP_RES_LEN`. -/
def colOpResLen : Nat := 0x0118
/-- `COL_RECLAIM`. -/
def colReclaim : Nat := 0x0120
/-- `COL_RECLAIM_RES`. -/
def colReclaimRes : Nat := 0x0124
/-- `ETH_PORT_CFG`. -/
def ethPortCfg : Nat := 0x0100
/-- `ETH_LINK`. -/
def ethLink : Nat := 0x0104
/-- `ICL_CTX_BASE`. -/
def iclCtxBase : Nat := 0x0100
/-- `ICL_CTX_BASE_HI`. -/
def iclCtxBaseHi : Nat := 0x0104
/-- `ICL_SKT_BASE`. -/
def iclSktBase : Nat := 0x0108
/-- `ICL_SKT_BASE_HI`. -/
def iclSktBaseHi : Nat := 0x010C
/-- `ICL_EXC`. -/
def iclExc : Nat := 0x0110
/-- `ICL_EXC_LIMIT`. -/
def iclExcLimit : Nat := 0x0114
/-- `ICL_HIST_THR` (first of an array). -/
def iclHistThr : Nat := 0x0124
/-- `CPE_KEY_BASE`. -/
def cpeKeyBase : Nat := 0x0100
/-- `CPE_KEY_BASE_HI`. -/
def cpeKeyBaseHi : Nat := 0x0104
/-- `CPE_STATE_BASE`. -/
def cpeStateBase : Nat := 0x0108
/-- `CPE_STATE_BASE_HI`. -/
def cpeStateBaseHi : Nat := 0x010C
/-- `CPE_KEY_LOAD`. -/
def cpeKeyLoad : Nat := 0x0110
/-- `CPE_KEY_MKI`. -/
def cpeKeyMki : Nat := 0x0114
/-- `CPE_KEY_LIMIT`. -/
def cpeKeyLimit : Nat := 0x0118
/-- `CPE_KEY_LIMIT_HI`. -/
def cpeKeyLimitHi : Nat := 0x011C
/-- `CPE_KEY_MATERIAL` (first of an array). -/
def cpeKeyMaterial : Nat := 0x0120
/-- `CPE_KEY_SALT` (first of an array). -/
def cpeKeySalt : Nat := 0x0140
/-- `CPE_KEY_GO`. -/
def cpeKeyGo : Nat := 0x0150
/-- `CPE_KEY_RES`. -/
def cpeKeyRes : Nat := 0x0154
/-- `CPE_BULK_DESC` (first of an array). -/
def cpeBulkDesc : Nat := 0x0200
/-- `CPE_BULK_GO`. -/
def cpeBulkGo : Nat := 0x0240
/-- `CPE_BULK_RES`. -/
def cpeBulkRes : Nat := 0x0244
/-- `LFW_DRAM_BASE`. -/
def lfwDramBase : Nat := 0x0100
/-- `LFW_DRAM_BASE_HI`. -/
def lfwDramBaseHi : Nat := 0x0104
/-- `LFW_CFG`. -/
def lfwCfg : Nat := 0x0108
/-- `LFW_SWITCH_TMO`. -/
def lfwSwitchTmo : Nat := 0x010C
/-- `LFW_KF_HOLD`. -/
def lfwKfHold : Nat := 0x0110
/-- `LFW_JOIN`. -/
def lfwJoin : Nat := 0x0114
/-- `LFW_RTX_HOLD`. -/
def lfwRtxHold : Nat := 0x0118
/-- `LFW_EST_QBASE`. -/
def lfwEstQbase : Nat := 0x011C
/-- `LFW_EST_DEFAULT`. -/
def lfwEstDefault : Nat := 0x0120
/-- `LFW_ACTIVE`. -/
def lfwActive : Nat := 0x0124
/-- `LFW_EST_DONE`. -/
def lfwEstDone : Nat := 0x0128
/-- `MXF_CFG`. -/
def mxfCfg : Nat := 0x0100
/-- `MXF_ACT_ON`. -/
def mxfActOn : Nat := 0x0104
/-- `MXF_ACT_OFF`. -/
def mxfActOff : Nat := 0x0108
/-- `MXF_ACT_HANG`. -/
def mxfActHang : Nat := 0x010C
/-- `MXF_ZC_TMO`. -/
def mxfZcTmo : Nat := 0x0110
/-- `MXF_TAG`. -/
def mxfTag : Nat := 0x0114
/-- `MXF_HWDEC`. -/
def mxfHwdec : Nat := 0x0118
/-- `MXF_SCALE` (first of an array). -/
def mxfScale : Nat := 0x0140
/-- `WDS_MODE`. -/
def wdsMode : Nat := 0x0100
/-- `WDS_LOAD`. -/
def wdsLoad : Nat := 0x0104
/-- `WDS_STATUS`. -/
def wdsStatus : Nat := 0x0108
/-- `WDS_FAULT`. -/
def wdsFault : Nat := 0x010C
/-- `WDS_TEST`. -/
def wdsTest : Nat := 0x0110
/-- `WDS_TEST_RES`. -/
def wdsTestRes : Nat := 0x0114
/-- `WDS_TEST_EXIT`. -/
def wdsTestExit : Nat := 0x0118
/-- `VCE_ENC_CFG`. -/
def vceEncCfg : Nat := 0x0100
/-- `VCE_DEC_CFG`. -/
def vceDecCfg : Nat := 0x0100
/-- `VCE_ENC_LOAD`. -/
def vceEncLoad : Nat := 0x0104
/-- `VCE_DEC_LOAD`. -/
def vceDecLoad : Nat := 0x0104
/-- `VCE_ENC_REFRESH`. -/
def vceEncRefresh : Nat := 0x0108
/-- `VCE_DEC_RESTART`. -/
def vceDecRestart : Nat := 0x0108
/-- `WVE_CFG`. -/
def wveCfg : Nat := 0x0100
/-- `WVE_IN_QBASE`. -/
def wveInQbase : Nat := 0x0104
/-- `WVE_STORE_BASE`. -/
def wveStoreBase : Nat := 0x0108
/-- `WVE_STORE_BASE_HI`. -/
def wveStoreBaseHi : Nat := 0x010C
/-- `WVE_LOAD`. -/
def wveLoad : Nat := 0x0110
/-- `WVE_REKEY`. -/
def wveRekey : Nat := 0x0114
/-- `PXC_CFG`. -/
def pxcCfg : Nat := 0x0100
/-- `PXC_CANVAS`. -/
def pxcCanvas : Nat := 0x0104
/-- `PXC_BG`. -/
def pxcBg : Nat := 0x0108
/-- `PXC_PLACEHOLDER`. -/
def pxcPlaceholder : Nat := 0x010C
/-- `PXC_OUT_BASE`. -/
def pxcOutBase : Nat := 0x0110
/-- `PXC_OUT_BASE_HI`. -/
def pxcOutBaseHi : Nat := 0x0114
/-- `PXC_OUT_MAX`. -/
def pxcOutMax : Nat := 0x0118
/-- `ESC_LG_CFG` (first of an array). -/
def escLgCfg : Nat := 0x0100
/-- `ESC_GCL` (first of an array). -/
def escGcl : Nat := 0x0104
/-- `ESC_GCL_CYCLE` (first of an array). -/
def escGclCycle : Nat := 0x0108
/-- `ESC_GCL_BASETIME` (first of an array). -/
def escGclBasetime : Nat := 0x010C
/-- `ESC_GCL_BASETIME_HI` (first of an array). -/
def escGclBasetimeHi : Nat := 0x0110
/-- `ESC_GCL_START_ACT` (first of an array). -/
def escGclStartAct : Nat := 0x0114
/-- `ESC_GCL_START_ACT_HI` (first of an array). -/
def escGclStartActHi : Nat := 0x0118
/-- `ESC_GCL_STATUS` (first of an array). -/
def escGclStatus : Nat := 0x011C
/-- `ESC_GUARD`. -/
def escGuard : Nat := 0x0180
/-- `ESC_WINDOW`. -/
def escWindow : Nat := 0x0184
/-- `ESC_CEIL` (first of an array). -/
def escCeil : Nat := 0x0190
/-- `LNU_PORT_CFG`. -/
def lnuPortCfg : Nat := 0x0100
/-- `LNU_TX_CTL`. -/
def lnuTxCtl : Nat := 0x0104
/-- `LNU_J0_EXP` (first of an array). -/
def lnuJ0Exp : Nat := 0x0110
/-- `LNU_J0_TX` (first of an array). -/
def lnuJ0Tx : Nat := 0x0120
/-- `LNU_STATUS`. -/
def lnuStatus : Nat := 0x0130
/-- `LNU_RX_S1`. -/
def lnuRxS1 : Nat := 0x0134
/-- `LNU_RX_K`. -/
def lnuRxK : Nat := 0x0138
/-- `LNU_TSI_CFG`. -/
def lnuTsiCfg : Nat := 0x0100
/-- `LNU_PM_IN`. -/
def lnuPmIn : Nat := 0x0104
/-- `TMU_CTL`. -/
def tmuCtl : Nat := 0x0200
/-- `TMU_TIME_NS`. -/
def tmuTimeNs : Nat := 0x0204
/-- `TMU_TIME_SEC`. -/
def tmuTimeSec : Nat := 0x0208
/-- `TMU_TIME_SEC_HI`. -/
def tmuTimeSecHi : Nat := 0x020C
/-- `TMU_SET_NS`. -/
def tmuSetNs : Nat := 0x0210
/-- `TMU_SET_SEC`. -/
def tmuSetSec : Nat := 0x0214
/-- `TMU_SET_SEC_HI`. -/
def tmuSetSecHi : Nat := 0x0218
/-- `TMU_ADJ_CTL`. -/
def tmuAdjCtl : Nat := 0x021C
/-- `TMU_ADJ_RES`. -/
def tmuAdjRes : Nat := 0x0220
/-- `TMU_STEP`. -/
def tmuStep : Nat := 0x0224
/-- `TMU_JUMP_THR`. -/
def tmuJumpThr : Nat := 0x0228
/-- `TMU_FREQ`. -/
def tmuFreq : Nat := 0x022C
/-- `TMU_FREQ_ACT`. -/
def tmuFreqAct : Nat := 0x0230
/-- `TMU_SERVO`. -/
def tmuServo : Nat := 0x0234
/-- `TMU_STATUS`. -/
def tmuStatus : Nat := 0x0238
/-- `TMU_HOLD_WALES`. -/
def tmuHoldWales : Nat := 0x023C
/-- `TMU_PTP_RXQ`. -/
def tmuPtpRxq : Nat := 0x0240
/-- `TMU_PTP_TXQ`. -/
def tmuPtpTxq : Nat := 0x0244
/-- `TMU_PARENT`. -/
def tmuParent : Nat := 0x0248
/-- `TMU_PARENT_HI`. -/
def tmuParentHi : Nat := 0x024C
/-- `TMU_PARENT_PORT`. -/
def tmuParentPort : Nat := 0x0250
/-- `TMU_SYNCIN`. -/
def tmuSyncin : Nat := 0x0260
/-- `TMU_PPS_RES`. -/
def tmuPpsRes : Nat := 0x0264
/-- `TMU_PPS_NS`. -/
def tmuPpsNs : Nat := 0x0268
/-- `TMU_PPS_SEC`. -/
def tmuPpsSec : Nat := 0x026C
/-- `TMU_PPS_SEC_HI`. -/
def tmuPpsSecHi : Nat := 0x0270
/-- `TMU_FREQ_MEAS`. -/
def tmuFreqMeas : Nat := 0x0274
/-- `TMU_TXTS_SEL`. -/
def tmuTxtsSel : Nat := 0x0280
/-- `TMU_TXTS0`. -/
def tmuTxts0 : Nat := 0x0284
/-- `TMU_TXTS1`. -/
def tmuTxts1 : Nat := 0x0288
/-- `TMU_TXTS_POP`. -/
def tmuTxtsPop : Nat := 0x028C
/-- `DRC_GEOM`. -/
def drcGeom : Nat := 0x0100
/-- `DRC_MAP`. -/
def drcMap : Nat := 0x0104
/-- `DRC_CAP`. -/
def drcCap : Nat := 0x0108
/-- `DRC_CAP_HI`. -/
def drcCapHi : Nat := 0x010C
/-- `DRC_TRAIN`. -/
def drcTrain : Nat := 0x0110
/-- `DRC_HASH` (first of an array). -/
def drcHash : Nat := 0x0140
/-- `DRC_SHARE` (first of an array). -/
def drcShare : Nat := 0x0160
/-- `DRC_SCRUB`. -/
def drcScrub : Nat := 0x0180
/-- `DRC_CH_STATUS`. -/
def drcChStatus : Nat := 0x0100
/-- `DRC_RANK_STATE`. -/
def drcRankState : Nat := 0x0104
/-- `DRC_SPARE`. -/
def drcSpare : Nat := 0x0108
/-- `DRC_MIG`. -/
def drcMig : Nat := 0x010C
/-- `DRC_RETIRE`. -/
def drcRetire : Nat := 0x0110
/-- `DRC_CE_THR`. -/
def drcCeThr : Nat := 0x0114
/-- `PRG_CTL`. -/
def prgCtl : Nat := 0x0100
/-- `PRG_TAG`. -/
def prgTag : Nat := 0x0104
/-- `PRG_STATUS`. -/
def prgStatus : Nat := 0x0108
/-- `PRG_JOIN`. -/
def prgJoin : Nat := 0x010C
/-- `PRG_JOIN_WALE`. -/
def prgJoinWale : Nat := 0x0110
/-- `PRG_COPY`. -/
def prgCopy : Nat := 0x0114
/-- `PRG_COPY_HI`. -/
def prgCopyHi : Nat := 0x0118
/-- `PRG_SWAP`. -/
def prgSwap : Nat := 0x011C
/-- `PRG_SWAP_CTL`. -/
def prgSwapCtl : Nat := 0x0120
/-- `PRG_SWAP_RES`. -/
def prgSwapRes : Nat := 0x0124
/-- `PRG_GATE`. -/
def prgGate : Nat := 0x0128
/-- `PRG_TMO`. -/
def prgTmo : Nat := 0x012C
/-- `PRG_SKEW`. -/
def prgSkew : Nat := 0x0130
/-- `SYS_ID_STATUS`. -/
def sysIdStatus : Nat := 0x0140
/-- `SYS_BOOT`. -/
def sysBoot : Nat := 0x0144
/-- `SYS_BOOT_SVN`. -/
def sysBootSvn : Nat := 0x0148
/-- `QZM_MB_DOORBELL`. -/
def qzmMbDoorbell : Nat := 0x0100
/-- `QZM_MB_RES`. -/
def qzmMbRes : Nat := 0x0104
/-- `QZM_MB_RES_LEN`. -/
def qzmMbResLen : Nat := 0x0108
/-- `QZM_MB_STATUS`. -/
def qzmMbStatus : Nat := 0x010C
/-- `QZM_WDT`. -/
def qzmWdt : Nat := 0x0110
/-- `QZM_TEMP_MAX`. -/
def qzmTempMax : Nat := 0x0114
/-- `QZM_POWER`. -/
def qzmPower : Nat := 0x0118
/-- `QZM_REQ_BUF` (first of an array). -/
def qzmReqBuf : Nat := 0x1000
/-- `QZM_RSP_BUF` (first of an array). -/
def qzmRspBuf : Nat := 0x2000
/-- `SYS_STRAPS`. -/
def sysStraps : Nat := 0x014C
/-- `ERR_DATA`. -/
def errData : Nat := 0x0034
/-- `ERR_WALE`. -/
def errWale : Nat := 0x0038
/-- `RVE_SUBMIT_DESC` (first of an array). -/
def rveSubmitDesc : Nat := 0x0200

end Reg

/-- Register rows: block TMU. -/
def regRowsTmu : List RegDesc :=
  [
   -- TMU_WALE_CTL
   ⟨2, 0, 4095, 0x0100, 0x4, 1, 0, 0x0,
    [⟨0, 0, .rw, true, 0, 1⟩, ⟨5, 4, .ro, false, 0, 3⟩]⟩,
   -- TMU_GRID_PHASE
   ⟨2, 0, 4095, 0x0104, 0x4, 1, 0, 0x0,
    [⟨21, 0, .rw, true, 0, 2499999⟩]⟩,
   -- TMU_WALE64
   ⟨2, 0, 4095, 0x0108, 0x4, 1, 1, 0x0,
    [⟨31, 0, .ro, false, 0, 4294967295⟩]⟩,
   -- TMU_WALE64_HI
   ⟨2, 0, 4095, 0x010C, 0x4, 1, 2, 0x0,
    [⟨31, 0, .ro, false, 0, 4294967295⟩]⟩,
   -- TMU_WALE_POS
   ⟨2, 0, 4095, 0x0110, 0x4, 1, 0, 0x0,
    [⟨21, 0, .ro, false, 0, 4194303⟩]⟩,
   -- TMU_BIN_OFFSET
   ⟨2, 0, 4095, 0x0114, 0x4, 1, 0, 0x0,
    [⟨25, 0, .rws, false, 0, 34559999⟩]⟩,
   -- TMU_START_WALE
   ⟨2, 0, 4095, 0x0118, 0x4, 1, 1, 0x0,
    [⟨31, 0, .ro, false, 0, 4294967295⟩]⟩,
   -- TMU_START_WALE_HI
   ⟨2, 0, 4095, 0x011C, 0x4, 1, 2, 0x0,
    [⟨31, 0, .ro, false, 0, 4294967295⟩]⟩,
   -- TMU_CTL
   ⟨2, 0, 4095, 0x0200, 0x4, 1, 0, 0x0,
    [⟨0, 0, .rw, false, 0, 1⟩, ⟨1, 1, .rw, false, 0, 1⟩, ⟨15, 8, .rw, false, 0, 255⟩]⟩,
   -- TMU_TIME_NS
   ⟨2, 0, 4095, 0x0204, 0x4, 1, 0, 0x0,
    [⟨29, 0, .ro, false, 0, 1073741823⟩]⟩,
   -- TMU_TIME_SEC
   ⟨2, 0, 4095, 0x0208, 0x4, 1, 1, 0x0,
    [⟨31, 0, .ro, false, 0, 4294967295⟩]⟩,
   -- TMU_TIME_SEC_HI
   ⟨2, 0, 4095, 0x020C, 0x4, 1, 2, 0x0,
    [⟨15, 0, .ro, false, 0, 65535⟩]⟩,
   -- TMU_SET_NS
   ⟨2, 0, 4095, 0x0210, 0x4, 1, 0, 0x0,
    [⟨29, 0, .rw, false, 0, 1073741823⟩]⟩,
   -- TMU_SET_SEC
   ⟨2, 0, 4095, 0x0214, 0x4, 1, 1, 0x0,
    [⟨31, 0, .rw, false, 0, 4294967295⟩]⟩,
   -- TMU_SET_SEC_HI
   ⟨2, 0, 4095, 0x0218, 0x4, 1, 2, 0x0,
    [⟨15, 0, .rw, false, 0, 65535⟩]⟩,
   -- TMU_ADJ_CTL
   ⟨2, 0, 4095, 0x021C, 0x4, 1, 0, 0x0,
    [⟨1, 0, .rw, false, 1, 2⟩, ⟨2, 2, .wo, true, 0, 1⟩]⟩,
   -- TMU_ADJ_RES
   ⟨2, 0, 4095, 0x0220, 0x4, 1, 0, 0x0,
    [⟨3, 0, .ro, false, 0, 15⟩, ⟨31, 24, .ro, false, 0, 255⟩]⟩,
   -- TMU_STEP
   ⟨2, 0, 4095, 0x0224, 0x4, 1, 0, 0x0,
    [⟨31, 0, .rw, false, 0, 4294967295⟩]⟩,
   -- TMU_JUMP_THR
   ⟨2, 0, 4095, 0x0228, 0x4, 1, 0, 0x3E8,
    [⟨16, 0, .rw, false, 0, 100000⟩]⟩,
   -- TMU_FREQ
   ⟨2, 0, 4095, 0x022C, 0x4, 1, 0, 0x0,
    [⟨31, 0, .rw, true, 0, 4294967295⟩]⟩,
   -- TMU_FREQ_ACT
   ⟨2, 0, 4095, 0x0230, 0x4, 1, 0, 0x0,
    [⟨31, 0, .ro, false, 0, 4294967295⟩]⟩,
   -- TMU_SERVO
   ⟨2, 0, 4095, 0x0234, 0x4, 1, 0, 0x3200000,
    [⟨0, 0, .rw, true, 0, 1⟩, ⟨31, 16, .rw, false, 1, 65535⟩]⟩,
   -- TMU_STATUS
   ⟨2, 0, 4095, 0x0238, 0x4, 1, 0, 0x0,
    [⟨1, 0, .ro, false, 0, 3⟩, ⟨2, 2, .w1c, false, 0, 1⟩, ⟨3, 3, .ro, false, 0, 1⟩, ⟨4, 4, .ro, false, 0, 1⟩]⟩,
   -- TMU_HOLD_WALES
   ⟨2, 0, 4095, 0x023C, 0x4, 1, 0, 0x0,
    [⟨31, 0, .ro, false, 0, 4294967295⟩]⟩,
   -- TMU_PTP_RXQ
   ⟨2, 0, 4095, 0x0240, 0x4, 1, 0, 0x400000,
    [⟨11, 0, .rw, false, 0, 4095⟩, ⟨31, 16, .rw, false, 0, 65535⟩]⟩,
   -- TMU_PTP_TXQ
   ⟨2, 0, 4095, 0x0244, 0x4, 1, 0, 0x0,
    [⟨11, 0, .rw, false, 0, 4095⟩, ⟨12, 12, .rw, false, 0, 1⟩]⟩,
   -- TMU_PARENT
   ⟨2, 0, 4095, 0x0248, 0x4, 1, 1, 0x0,
    [⟨31, 0, .rw, false, 0, 4294967295⟩]⟩,
   -- TMU_PARENT_HI
   ⟨2, 0, 4095, 0x024C, 0x4, 1, 2, 0x0,
    [⟨31, 0, .rw, false, 0, 4294967295⟩]⟩,
   -- TMU_PARENT_PORT
   ⟨2, 0, 4095, 0x0250, 0x4, 1, 0, 0x0,
    [⟨15, 0, .rw, false, 0, 65535⟩, ⟨16, 16, .rw, false, 0, 1⟩]⟩,
   -- TMU_SYNCIN
   ⟨2, 0, 4095, 0x0260, 0x4, 1, 0, 0x3E800,
    [⟨1, 0, .rw, false, 0, 2⟩, ⟨31, 8, .rw, false, 0, 16777215⟩]⟩,
   -- TMU_PPS_RES
   ⟨2, 0, 4095, 0x0264, 0x4, 1, 0, 0x0,
    [⟨0, 0, .ro, false, 0, 1⟩, ⟨1, 1, .ro, false, 0, 1⟩, ⟨31, 24, .ro, false, 0, 255⟩]⟩,
   -- TMU_PPS_NS
   ⟨2, 0, 4095, 0x0268, 0x4, 1, 0, 0x0,
    [⟨29, 0, .ro, false, 0, 1073741823⟩]⟩,
   -- TMU_PPS_SEC
   ⟨2, 0, 4095, 0x026C, 0x4, 1, 1, 0x0,
    [⟨31, 0, .ro, false, 0, 4294967295⟩]⟩,
   -- TMU_PPS_SEC_HI
   ⟨2, 0, 4095, 0x0270, 0x4, 1, 2, 0x0,
    [⟨15, 0, .ro, false, 0, 65535⟩]⟩,
   -- TMU_FREQ_MEAS
   ⟨2, 0, 4095, 0x0274, 0x4, 1, 0, 0x0,
    [⟨23, 0, .ro, false, 0, 16777215⟩, ⟨31, 24, .ro, false, 0, 255⟩]⟩,
   -- TMU_TXTS_SEL
   ⟨2, 0, 4095, 0x0280, 0x4, 1, 0, 0x0,
    [⟨4, 0, .rw, false, 0, 31⟩]⟩,
   -- TMU_TXTS0
   ⟨2, 0, 4095, 0x0284, 0x4, 1, 0, 0x0,
    [⟨15, 0, .ro, false, 0, 65535⟩, ⟨16, 16, .ro, false, 0, 1⟩, ⟨17, 17, .ro, false, 0, 1⟩, ⟨23, 18, .ro, false, 0, 63⟩, ⟨31, 24, .ro, false, 0, 255⟩]⟩,
   -- TMU_TXTS1
   ⟨2, 0, 4095, 0x0288, 0x4, 1, 0, 0x0,
    [⟨31, 0, .ro, false, 0, 4294967295⟩]⟩,
   -- TMU_TXTS_POP
   ⟨2, 0, 4095, 0x028C, 0x4, 1, 0, 0x0,
    [⟨15, 0, .wo, true, 0, 65535⟩]⟩]

/-- Register rows: the common page header. -/
def regRowsHdr : List RegDesc :=
  [
   -- PAGE_ID
   ⟨0, 0, 4095, 0x0000, 0x4, 1, 0, 0x0,
    [⟨7, 0, .ro, false, 0, 255⟩, ⟨17, 8, .ro, false, 0, 1023⟩, ⟨31, 24, .ro, false, 0, 255⟩]⟩,
   -- PAGE_CAPS
   ⟨0, 0, 4095, 0x0004, 0x4, 1, 0, 0x0,
    [⟨0, 0, .ro, false, 0, 1⟩, ⟨1, 1, .ro, false, 0, 1⟩, ⟨2, 2, .ro, false, 0, 1⟩, ⟨3, 3, .ro, false, 0, 1⟩, ⟨6, 4, .ro, false, 0, 7⟩, ⟨31, 16, .ro, false, 0, 65535⟩]⟩,
   -- PAGE_READY
   ⟨0, 0, 4095, 0x0008, 0x4, 1, 0, 0x200,
    [⟨0, 0, .ro, false, 0, 1⟩, ⟨15, 8, .ro, false, 0, 255⟩, ⟨31, 16, .ro, false, 0, 65535⟩]⟩,
   -- PAGE_CTRL
   ⟨0, 0, 4095, 0x000C, 0x4, 1, 0, 0x0,
    [⟨0, 0, .rw, true, 0, 1⟩, ⟨1, 1, .w1s, true, 0, 1⟩, ⟨2, 2, .wo, true, 0, 1⟩, ⟨8, 8, .ro, false, 0, 1⟩, ⟨9, 9, .ro, false, 0, 1⟩]⟩,
   -- CMT_CTL
   ⟨0, 0, 4095, 0x0020, 0x4, 1, 0, 0x0,
    [⟨0, 0, .w1s, true, 0, 1⟩, ⟨1, 1, .rw, false, 0, 1⟩, ⟨2, 2, .wo, true, 0, 1⟩, ⟨3, 3, .rw, false, 0, 1⟩, ⟨20, 16, .rw, false, 0, 31⟩]⟩,
   -- CMT_WALE
   ⟨0, 0, 4095, 0x0024, 0x4, 1, 0, 0x0,
    [⟨31, 0, .rw, false, 0, 4294967295⟩]⟩,
   -- CMT_STATUS
   ⟨0, 0, 4095, 0x0028, 0x4, 1, 0, 0x0,
    [⟨2, 0, .ro, false, 0, 7⟩, ⟨15, 8, .ro, false, 0, 255⟩, ⟨31, 24, .ro, false, 0, 255⟩]⟩,
   -- TBL_ADDR
   ⟨0, 0, 4095, 0x8000, 0x4, 1, 0, 0x0,
    [⟨24, 0, .rw, true, 0, 33554431⟩, ⟨25, 25, .rw, true, 0, 1⟩, ⟨26, 26, .rw, true, 0, 1⟩, ⟨31, 27, .rw, true, 0, 31⟩]⟩,
   -- TBL_DATA
   ⟨0, 0, 4095, 0x8004, 0x4, 1, 0, 0x0,
    [⟨31, 0, .rw, true, 0, 4294967295⟩]⟩,
   -- SNAP_CTL
   ⟨0, 0, 4095, 0x0040, 0x4, 1, 0, 0x0,
    [⟨0, 0, .w1s, true, 0, 1⟩, ⟨1, 1, .w1s, true, 0, 1⟩, ⟨2, 2, .rw, false, 0, 1⟩]⟩,
   -- SNAP_WALE
   ⟨0, 0, 4095, 0x0044, 0x4, 1, 0, 0x0,
    [⟨31, 0, .ro, false, 0, 4294967295⟩]⟩,
   -- RING_BASE
   ⟨0, 0, 4095, 0x0080, 0x20, 4, 1, 0x0,
    [⟨31, 12, .rw, false, 0, 1048575⟩]⟩,
   -- RING_BASE_HI
   ⟨0, 0, 4095, 0x0084, 0x20, 4, 2, 0x0,
    [⟨31, 0, .rw, false, 0, 4294967295⟩]⟩,
   -- RING_CFG
   ⟨0, 0, 4095, 0x0088, 0x20, 4, 0, 0x4,
    [⟨4, 0, .rw, false, 4, 20⟩, ⟨6, 5, .rw, false, 0, 2⟩, ⟨7, 7, .rw, true, 0, 1⟩, ⟨8, 8, .rw, false, 0, 1⟩, ⟨26, 16, .rw, false, 0, 2047⟩]⟩,
   -- RING_HEAD
   ⟨0, 0, 4095, 0x008C, 0x20, 4, 0, 0x0,
    [⟨31, 0, .rw, true, 0, 4294967295⟩]⟩,
   -- RING_TAIL
   ⟨0, 0, 4095, 0x0090, 0x20, 4, 0, 0x0,
    [⟨31, 0, .ro, false, 0, 4294967295⟩]⟩,
   -- ERR_INFO
   ⟨0, 0, 4095, 0x0030, 0x4, 1, 0, 0x0,
    [⟨15, 0, .ro, false, 0, 65535⟩, ⟨19, 16, .ro, false, 0, 15⟩, ⟨23, 20, .ro, false, 0, 15⟩, ⟨24, 24, .ro, false, 0, 1⟩, ⟨31, 31, .w1c, true, 0, 1⟩]⟩,
   -- EVT_STATUS
   ⟨0, 0, 4095, 0x0010, 0x4, 1, 0, 0x0,
    [⟨31, 0, .w1c, true, 0, 4294967295⟩]⟩,
   -- EVT_ENABLE
   ⟨0, 0, 4095, 0x0014, 0x4, 1, 0, 0xFFFFFFFF,
    [⟨31, 0, .rw, false, 0, 4294967295⟩]⟩,
   -- EVT_FORCE
   ⟨0, 0, 4095, 0x0018, 0x4, 1, 0, 0x0,
    [⟨31, 0, .wo, true, 0, 4294967295⟩]⟩,
   -- EVT_FIRST
   ⟨0, 0, 4095, 0x001C, 0x4, 1, 0, 0x0,
    [⟨15, 0, .ro, false, 0, 65535⟩]⟩,
   -- ERR_DATA
   ⟨0, 0, 4095, 0x0034, 0x4, 1, 0, 0x0,
    [⟨31, 0, .ro, false, 0, 4294967295⟩]⟩,
   -- ERR_WALE
   ⟨0, 0, 4095, 0x0038, 0x4, 1, 0, 0x0,
    [⟨31, 0, .ro, false, 0, 4294967295⟩]⟩]

/-- Register rows: block SYS. -/
def regRowsSys : List RegDesc :=
  [
   -- SYS_CGRP_SEL
   ⟨1, 0, 4095, 0x0100, 0x4, 1, 0, 0x0,
    [⟨4, 0, .rw, false, 1, 31⟩]⟩,
   -- SYS_CGRP_CTL
   ⟨1, 0, 4095, 0x0104, 0x4, 1, 0, 0x0,
    [⟨0, 0, .w1s, true, 0, 1⟩, ⟨1, 1, .wo, true, 0, 1⟩, ⟨27, 16, .rw, false, 1, 4095⟩]⟩,
   -- SYS_CGRP_WALE
   ⟨1, 0, 4095, 0x0108, 0x4, 1, 0, 0x0,
    [⟨31, 0, .rw, false, 0, 4294967295⟩]⟩,
   -- SYS_CGRP_STATUS
   ⟨1, 0, 4095, 0x010C, 0x4, 1, 0, 0x0,
    [⟨2, 0, .ro, false, 0, 7⟩, ⟨15, 8, .ro, false, 0, 255⟩, ⟨27, 16, .ro, false, 0, 4095⟩, ⟨31, 28, .ro, false, 0, 15⟩]⟩,
   -- SYS_CGRP_CULPRIT
   ⟨1, 0, 4095, 0x0110, 0x4, 1, 0, 0x0,
    [⟨11, 0, .ro, false, 0, 4095⟩]⟩,
   -- SYS_ID_STATUS
   ⟨1, 0, 4095, 0x0140, 0x4, 1, 0, 0x0,
    [⟨7, 0, .ro, false, 0, 255⟩, ⟨11, 8, .ro, false, 0, 15⟩, ⟨12, 12, .ro, false, 0, 1⟩, ⟨13, 13, .ro, false, 0, 1⟩, ⟨14, 14, .ro, false, 0, 1⟩]⟩,
   -- SYS_BOOT
   ⟨1, 0, 4095, 0x0144, 0x4, 1, 0, 0x0,
    [⟨0, 0, .ro, false, 0, 1⟩, ⟨1, 1, .ro, false, 0, 1⟩, ⟨3, 2, .ro, false, 0, 3⟩, ⟨15, 8, .ro, false, 0, 255⟩]⟩,
   -- SYS_BOOT_SVN
   ⟨1, 0, 4095, 0x0148, 0x4, 1, 0, 0x0,
    [⟨31, 0, .ro, false, 0, 4294967295⟩]⟩,
   -- SYS_STRAPS
   ⟨1, 0, 4095, 0x014C, 0x4, 1, 0, 0x0,
    [⟨1, 0, .ro, false, 0, 3⟩, ⟨2, 2, .ro, false, 0, 1⟩]⟩]

/-- Register rows: block RVE. -/
def regRowsRve : List RegDesc :=
  [
   -- RVE_CFG
   ⟨3, 0, 4095, 0x0100, 0x4, 1, 0, 0x0,
    [⟨0, 0, .rws, false, 0, 1⟩]⟩,
   -- RVE_INFLIGHT
   ⟨3, 0, 4095, 0x0104, 0x4, 1, 0, 0x0,
    [⟨16, 0, .ro, false, 0, 131071⟩]⟩,
   -- RVE_TRACE
   ⟨3, 0, 4095, 0x0108, 0x4, 1, 0, 0x0,
    [⟨11, 0, .rw, false, 0, 4095⟩, ⟨12, 12, .rw, false, 0, 1⟩, ⟨29, 16, .rw, false, 0, 16383⟩]⟩,
   -- RVE_CLASS_CAP
   ⟨3, 0, 4095, 0x0140, 0x4, 8, 0, 0x2000,
    [⟨16, 0, .rws, false, 0, 131071⟩]⟩,
   -- RVE_DLIST_CFG
   ⟨3, 0, 4095, 0x0160, 0x4, 8, 0, 0x2000,
    [⟨16, 0, .rws, false, 0, 131071⟩, ⟨31, 31, .rws, false, 0, 1⟩]⟩,
   -- RVE_SUBMIT_GO
   ⟨3, 0, 4095, 0x0240, 0x4, 1, 0, 0x0,
    [⟨0, 0, .wo, true, 0, 1⟩]⟩,
   -- RVE_SUBMIT_RES
   ⟨3, 0, 4095, 0x0244, 0x4, 1, 0, 0x0,
    [⟨15, 0, .ro, false, 0, 65535⟩, ⟨19, 16, .ro, false, 0, 15⟩, ⟨31, 24, .ro, false, 0, 255⟩]⟩,
   -- RVE_DECR
   ⟨3, 0, 4095, 0x0248, 0x4, 1, 0, 0x0,
    [⟨15, 0, .wo, true, 0, 65535⟩]⟩,
   -- RVE_ABORT
   ⟨3, 0, 4095, 0x0250, 0x4, 1, 0, 0x0,
    [⟨15, 0, .wo, true, 0, 65535⟩, ⟨16, 16, .wo, true, 0, 1⟩]⟩,
   -- RVE_ABORT_RES
   ⟨3, 0, 4095, 0x0254, 0x4, 1, 0, 0x0,
    [⟨16, 0, .ro, false, 0, 131071⟩, ⟨31, 24, .ro, false, 0, 255⟩]⟩,
   -- RVE_SUBMIT_DESC
   ⟨3, 0, 4095, 0x0200, 0x4, 16, 0, 0x0,
    [⟨31, 0, .rw, false, 0, 4294967295⟩]⟩]

/-- Register rows: block CRL. -/
def regRowsCrl : List RegDesc :=
  [
   -- CRL_REQ
   ⟨4, 0, 4095, 0x0100, 0x4, 1, 0, 0x0,
    [⟨3, 0, .rw, false, 1, 4⟩, ⟨9, 4, .rw, false, 0, 63⟩, ⟨23, 16, .rw, false, 0, 255⟩]⟩,
   -- CRL_REQ_HANDLE
   ⟨4, 0, 4095, 0x0104, 0x4, 1, 0, 0x0,
    [⟨31, 0, .rw, false, 0, 4294967295⟩]⟩,
   -- CRL_REQ_GO
   ⟨4, 0, 4095, 0x0108, 0x4, 1, 0, 0x0,
    [⟨0, 0, .wo, true, 0, 1⟩]⟩,
   -- CRL_REQ_RES
   ⟨4, 0, 4095, 0x010C, 0x4, 1, 0, 0x0,
    [⟨3, 0, .ro, false, 0, 15⟩, ⟨31, 24, .ro, false, 0, 255⟩]⟩,
   -- CRL_REQ_RES_HANDLE
   ⟨4, 0, 4095, 0x0110, 0x4, 1, 0, 0x0,
    [⟨31, 0, .ro, false, 0, 4294967295⟩]⟩,
   -- CRL_RECLAIM
   ⟨4, 0, 4095, 0x0120, 0x4, 1, 0, 0x0,
    [⟨7, 0, .wo, true, 0, 255⟩, ⟨8, 8, .wo, true, 0, 1⟩]⟩,
   -- CRL_RECLAIM_RES
   ⟨4, 0, 4095, 0x0124, 0x4, 1, 0, 0x0,
    [⟨1, 0, .ro, false, 0, 3⟩, ⟨31, 24, .ro, false, 0, 255⟩]⟩]

/-- Register rows: block COL. -/
def regRowsCol : List RegDesc :=
  [
   -- COL_OP
   ⟨5, 0, 4095, 0x0100, 0x4, 1, 0, 0x0,
    [⟨3, 0, .rw, false, 1, 6⟩, ⟨4, 4, .rw, false, 0, 1⟩, ⟨27, 16, .rw, false, 0, 4095⟩]⟩,
   -- COL_OP_ARG
   ⟨5, 0, 4095, 0x0104, 0x4, 1, 0, 0x0,
    [⟨31, 0, .rw, false, 0, 4294967295⟩]⟩,
   -- COL_OP_LEN
   ⟨5, 0, 4095, 0x0108, 0x4, 1, 0, 0x0,
    [⟨15, 0, .rw, false, 0, 65535⟩]⟩,
   -- COL_OP_GO
   ⟨5, 0, 4095, 0x010C, 0x4, 1, 0, 0x0,
    [⟨0, 0, .wo, true, 0, 1⟩]⟩,
   -- COL_OP_RES
   ⟨5, 0, 4095, 0x0110, 0x4, 1, 0, 0x0,
    [⟨3, 0, .ro, false, 0, 15⟩, ⟨31, 24, .ro, false, 0, 255⟩]⟩,
   -- COL_OP_RES_OFS
   ⟨5, 0, 4095, 0x0114, 0x4, 1, 0, 0x0,
    [⟨31, 0, .ro, false, 0, 4294967295⟩]⟩,
   -- COL_OP_RES_LEN
   ⟨5, 0, 4095, 0x0118, 0x4, 1, 0, 0x0,
    [⟨15, 0, .ro, false, 0, 65535⟩]⟩,
   -- COL_RECLAIM
   ⟨5, 0, 4095, 0x0120, 0x4, 1, 0, 0x0,
    [⟨7, 0, .wo, true, 0, 255⟩, ⟨8, 8, .wo, true, 0, 1⟩]⟩,
   -- COL_RECLAIM_RES
   ⟨5, 0, 4095, 0x0124, 0x4, 1, 0, 0x0,
    [⟨1, 0, .ro, false, 0, 3⟩, ⟨31, 24, .ro, false, 0, 255⟩]⟩]

/-- Register rows: block ETH. -/
def regRowsEth : List RegDesc :=
  [
   -- ETH_PORT_CFG
   ⟨19, 0, 4095, 0x0100, 0x4, 1, 0, 0x6000000,
    [⟨1, 0, .rws, false, 0, 2⟩, ⟨7, 2, .rws, false, 0, 63⟩, ⟨29, 16, .rws, false, 64, 9216⟩]⟩,
   -- ETH_LINK
   ⟨19, 0, 4095, 0x0104, 0x4, 1, 0, 0x0,
    [⟨3, 0, .ro, false, 0, 15⟩, ⟨7, 4, .ro, false, 0, 15⟩]⟩]

/-- Register rows: block ICL. -/
def regRowsIcl : List RegDesc :=
  [
   -- ICL_CTX_BASE
   ⟨6, 0, 0, 0x0100, 0x4, 1, 1, 0x0,
    [⟨31, 0, .rw, false, 0, 4294967295⟩]⟩,
   -- ICL_CTX_BASE_HI
   ⟨6, 0, 0, 0x0104, 0x4, 1, 2, 0x0,
    [⟨31, 0, .rw, false, 0, 4294967295⟩]⟩,
   -- ICL_SKT_BASE
   ⟨6, 0, 0, 0x0108, 0x4, 1, 1, 0x0,
    [⟨31, 0, .rw, false, 0, 4294967295⟩]⟩,
   -- ICL_SKT_BASE_HI
   ⟨6, 0, 0, 0x010C, 0x4, 1, 2, 0x0,
    [⟨31, 0, .rw, false, 0, 4294967295⟩]⟩,
   -- ICL_EXC
   ⟨6, 0, 0, 0x0110, 0x4, 1, 0, 0x0,
    [⟨11, 0, .rws, false, 0, 4095⟩, ⟨12, 12, .rws, false, 0, 1⟩, ⟨26, 17, .rws, false, 0, 1023⟩]⟩,
   -- ICL_EXC_LIMIT
   ⟨6, 0, 0, 0x0114, 0x4, 1, 0, 0x100,
    [⟨15, 0, .rws, false, 0, 65535⟩]⟩,
   -- ICL_HIST_THR
   ⟨6, 0, 0, 0x0124, 0x4, 3, 0, 0x0,
    [⟨21, 0, .rws, false, 0, 4194303⟩]⟩]

/-- Register rows: block CPE. -/
def regRowsCpe : List RegDesc :=
  [
   -- CPE_KEY_BASE
   ⟨7, 0, 4095, 0x0100, 0x4, 1, 1, 0x0,
    [⟨31, 0, .rw, false, 0, 4294967295⟩]⟩,
   -- CPE_KEY_BASE_HI
   ⟨7, 0, 4095, 0x0104, 0x4, 1, 2, 0x0,
    [⟨31, 0, .rw, false, 0, 4294967295⟩]⟩,
   -- CPE_STATE_BASE
   ⟨7, 0, 4095, 0x0108, 0x4, 1, 1, 0x0,
    [⟨31, 0, .rw, false, 0, 4294967295⟩]⟩,
   -- CPE_STATE_BASE_HI
   ⟨7, 0, 4095, 0x010C, 0x4, 1, 2, 0x0,
    [⟨31, 0, .rw, false, 0, 4294967295⟩]⟩,
   -- CPE_KEY_LOAD
   ⟨7, 0, 4095, 0x0110, 0x4, 1, 0, 0x0,
    [⟨21, 0, .rw, false, 0, 4194303⟩, ⟨23, 22, .rw, false, 0, 3⟩, ⟨26, 24, .rw, false, 0, 4⟩, ⟨28, 27, .rw, false, 0, 3⟩]⟩,
   -- CPE_KEY_MKI
   ⟨7, 0, 4095, 0x0114, 0x4, 1, 0, 0x0,
    [⟨31, 0, .rw, false, 0, 4294967295⟩]⟩,
   -- CPE_KEY_LIMIT
   ⟨7, 0, 4095, 0x0118, 0x4, 1, 1, 0x0,
    [⟨31, 0, .rw, false, 0, 4294967295⟩]⟩,
   -- CPE_KEY_LIMIT_HI
   ⟨7, 0, 4095, 0x011C, 0x4, 1, 2, 0x0,
    [⟨31, 0, .rw, false, 0, 4294967295⟩]⟩,
   -- CPE_KEY_MATERIAL
   ⟨7, 0, 4095, 0x0120, 0x4, 8, 0, 0x0,
    [⟨31, 0, .wo, true, 0, 4294967295⟩]⟩,
   -- CPE_KEY_SALT
   ⟨7, 0, 4095, 0x0140, 0x4, 4, 0, 0x0,
    [⟨31, 0, .wo, true, 0, 4294967295⟩]⟩,
   -- CPE_KEY_GO
   ⟨7, 0, 4095, 0x0150, 0x4, 1, 0, 0x0,
    [⟨0, 0, .wo, true, 0, 1⟩]⟩,
   -- CPE_KEY_RES
   ⟨7, 0, 4095, 0x0154, 0x4, 1, 0, 0x0,
    [⟨3, 0, .ro, false, 0, 15⟩, ⟨31, 24, .ro, false, 0, 255⟩]⟩,
   -- CPE_BULK_DESC
   ⟨7, 0, 4095, 0x0200, 0x4, 16, 0, 0x0,
    [⟨31, 0, .rw, false, 0, 4294967295⟩]⟩,
   -- CPE_BULK_GO
   ⟨7, 0, 4095, 0x0240, 0x4, 1, 0, 0x0,
    [⟨7, 0, .wo, true, 0, 255⟩, ⟨8, 8, .wo, true, 0, 1⟩]⟩,
   -- CPE_BULK_RES
   ⟨7, 0, 4095, 0x0244, 0x4, 1, 0, 0x0,
    [⟨3, 0, .ro, false, 0, 15⟩, ⟨31, 24, .ro, false, 0, 255⟩]⟩]

/-- Register rows: block LFW. -/
def regRowsLfw : List RegDesc :=
  [
   -- LFW_DRAM_BASE
   ⟨8, 0, 4095, 0x0100, 0x4, 1, 1, 0x0,
    [⟨31, 0, .rw, false, 0, 4294967295⟩]⟩,
   -- LFW_DRAM_BASE_HI
   ⟨8, 0, 4095, 0x0104, 0x4, 1, 2, 0x0,
    [⟨31, 0, .rw, false, 0, 4294967295⟩]⟩,
   -- LFW_CFG
   ⟨8, 0, 4095, 0x0108, 0x4, 1, 0, 0x0,
    [⟨0, 0, .rws, false, 0, 1⟩]⟩,
   -- LFW_SWITCH_TMO
   ⟨8, 0, 4095, 0x010C, 0x4, 1, 0, 0x190,
    [⟨15, 0, .rws, false, 1, 65535⟩]⟩,
   -- LFW_KF_HOLD
   ⟨8, 0, 4095, 0x0110, 0x4, 1, 0, 0x28,
    [⟨15, 0, .rws, false, 1, 65535⟩]⟩,
   -- LFW_JOIN
   ⟨8, 0, 4095, 0x0114, 0x4, 1, 0, 0x4000190,
    [⟨15, 0, .rws, false, 0, 65535⟩, ⟨31, 16, .rws, false, 0, 65535⟩]⟩,
   -- LFW_RTX_HOLD
   ⟨8, 0, 4095, 0x0118, 0x4, 1, 0, 0x8,
    [⟨7, 0, .rws, false, 0, 255⟩]⟩,
   -- LFW_EST_QBASE
   ⟨8, 0, 4095, 0x011C, 0x4, 1, 0, 0x0,
    [⟨11, 0, .rws, false, 0, 4095⟩, ⟨12, 12, .rws, false, 0, 1⟩]⟩,
   -- LFW_EST_DEFAULT
   ⟨8, 0, 4095, 0x0120, 0x4, 1, 0, 0x61A8,
    [⟨31, 0, .rws, false, 0, 4294967295⟩]⟩,
   -- LFW_ACTIVE
   ⟨8, 0, 4095, 0x0124, 0x4, 1, 0, 0x0,
    [⟨21, 0, .ro, false, 0, 4194303⟩]⟩,
   -- LFW_EST_DONE
   ⟨8, 0, 4095, 0x0128, 0x4, 1, 0, 0x0,
    [⟨8, 0, .wo, true, 0, 511⟩]⟩]

/-- Register rows: block MXF. -/
def regRowsMxf : List RegDesc :=
  [
   -- MXF_CFG
   ⟨9, 0, 4095, 0x0100, 0x4, 1, 0, 0x0,
    [⟨0, 0, .rws, false, 0, 1⟩, ⟨1, 1, .rws, false, 0, 1⟩]⟩,
   -- MXF_ACT_ON
   ⟨9, 0, 4095, 0x0104, 0x4, 1, 0, 0x2EE00,
    [⟨31, 0, .rws, false, 0, 4294967295⟩]⟩,
   -- MXF_ACT_OFF
   ⟨9, 0, 4095, 0x0108, 0x4, 1, 0, 0xBB80,
    [⟨31, 0, .rws, false, 0, 4294967295⟩]⟩,
   -- MXF_ACT_HANG
   ⟨9, 0, 4095, 0x010C, 0x4, 1, 0, 0x28,
    [⟨7, 0, .rws, false, 0, 255⟩]⟩,
   -- MXF_ZC_TMO
   ⟨9, 0, 4095, 0x0110, 0x4, 1, 0, 0x1E0,
    [⟨15, 0, .rws, false, 1, 65535⟩]⟩,
   -- MXF_TAG
   ⟨9, 0, 4095, 0x0114, 0x4, 1, 0, 0x0,
    [⟨15, 0, .rws, false, 0, 65535⟩]⟩,
   -- MXF_HWDEC
   ⟨9, 0, 4095, 0x0118, 0x4, 1, 0, 0x0,
    [⟨11, 0, .rws, false, 0, 4095⟩, ⟨12, 12, .rws, false, 0, 1⟩]⟩,
   -- MXF_SCALE
   ⟨9, 0, 4095, 0x0140, 0x4, 17, 0, 0x0,
    [⟨15, 0, .rws, false, 0, 65535⟩]⟩]

/-- Register rows: block WDS. -/
def regRowsWds : List RegDesc :=
  [
   -- WDS_MODE
   ⟨10, 0, 4095, 0x0100, 0x4, 1, 0, 0x0,
    [⟨0, 0, .rw, true, 0, 1⟩]⟩,
   -- WDS_LOAD
   ⟨10, 0, 4095, 0x0104, 0x4, 1, 0, 0x0,
    [⟨9, 0, .rw, false, 0, 1023⟩, ⟨16, 16, .wo, true, 0, 1⟩]⟩,
   -- WDS_STATUS
   ⟨10, 0, 4095, 0x0108, 0x4, 1, 0, 0x0,
    [⟨1, 0, .ro, false, 0, 3⟩, ⟨2, 2, .ro, false, 0, 1⟩, ⟨25, 16, .ro, false, 0, 1023⟩]⟩,
   -- WDS_FAULT
   ⟨10, 0, 4095, 0x010C, 0x4, 1, 0, 0x0,
    [⟨12, 0, .ro, false, 0, 8191⟩, ⟨19, 16, .ro, false, 0, 15⟩, ⟨31, 24, .ro, false, 0, 255⟩]⟩,
   -- WDS_TEST
   ⟨10, 0, 4095, 0x0110, 0x4, 1, 0, 0x0,
    [⟨12, 0, .rw, false, 0, 8191⟩, ⟨16, 16, .wo, true, 0, 1⟩, ⟨17, 17, .wo, true, 0, 1⟩, ⟨18, 18, .wo, true, 0, 1⟩]⟩,
   -- WDS_TEST_RES
   ⟨10, 0, 4095, 0x0114, 0x4, 1, 0, 0x0,
    [⟨0, 0, .ro, false, 0, 1⟩, ⟨31, 24, .ro, false, 0, 255⟩]⟩,
   -- WDS_TEST_EXIT
   ⟨10, 0, 4095, 0x0118, 0x4, 1, 0, 0x0,
    [⟨31, 0, .ro, false, 0, 4294967295⟩]⟩]

/-- Register rows: block VCE. -/
def regRowsVce : List RegDesc :=
  [
   -- VCE_ENC_CFG
   ⟨11, 0, 15, 0x0100, 0x4, 1, 0, 0x0,
    [⟨0, 0, .rws, false, 0, 1⟩]⟩,
   -- VCE_DEC_CFG
   ⟨11, 16, 39, 0x0100, 0x4, 1, 0, 0x0,
    [⟨0, 0, .rws, false, 0, 1⟩]⟩,
   -- VCE_ENC_LOAD
   ⟨11, 0, 15, 0x0104, 0x4, 1, 0, 0x0,
    [⟨30, 0, .ro, false, 0, 2147483647⟩]⟩,
   -- VCE_DEC_LOAD
   ⟨11, 16, 39, 0x0104, 0x4, 1, 0, 0x0,
    [⟨30, 0, .ro, false, 0, 2147483647⟩]⟩,
   -- VCE_ENC_REFRESH
   ⟨11, 0, 15, 0x0108, 0x4, 1, 0, 0x0,
    [⟨5, 0, .wo, true, 0, 63⟩, ⟨8, 8, .wo, true, 0, 1⟩]⟩,
   -- VCE_DEC_RESTART
   ⟨11, 16, 39, 0x0108, 0x4, 1, 0, 0x0,
    [⟨7, 0, .wo, true, 0, 255⟩, ⟨8, 8, .wo, true, 0, 1⟩]⟩]

/-- Register rows: block WVE. -/
def regRowsWve : List RegDesc :=
  [
   -- WVE_CFG
   ⟨12, 0, 0, 0x0100, 0x4, 1, 0, 0x4,
    [⟨0, 0, .rws, false, 0, 1⟩, ⟨3, 1, .rws, false, 1, 4⟩]⟩,
   -- WVE_CFG
   ⟨12, 1, 4095, 0x0100, 0x4, 1, 0, 0x0,
    [⟨0, 0, .rws, false, 0, 1⟩]⟩,
   -- WVE_IN_QBASE
   ⟨12, 0, 0, 0x0104, 0x4, 1, 0, 0x0,
    [⟨11, 0, .rws, false, 0, 4095⟩, ⟨12, 12, .rws, false, 0, 1⟩]⟩,
   -- WVE_STORE_BASE
   ⟨12, 0, 0, 0x0108, 0x4, 1, 1, 0x0,
    [⟨31, 0, .rw, false, 0, 4294967295⟩]⟩,
   -- WVE_STORE_BASE_HI
   ⟨12, 0, 0, 0x010C, 0x4, 1, 2, 0x0,
    [⟨31, 0, .rw, false, 0, 4294967295⟩]⟩,
   -- WVE_LOAD
   ⟨12, 0, 4095, 0x0110, 0x4, 1, 0, 0x0,
    [⟨24, 0, .ro, false, 0, 33554431⟩]⟩,
   -- WVE_REKEY
   ⟨12, 0, 4095, 0x0114, 0x4, 1, 0, 0x0,
    [⟨14, 0, .wo, true, 0, 32767⟩, ⟨16, 16, .wo, true, 0, 1⟩]⟩]

/-- Register rows: block PXC. -/
def regRowsPxc : List RegDesc :=
  [
   -- PXC_CFG
   ⟨13, 0, 4095, 0x0100, 0x4, 1, 0, 0x64,
    [⟨0, 0, .rws, false, 0, 1⟩, ⟨2, 1, .rws, false, 0, 3⟩, ⟨3, 3, .rws, false, 0, 1⟩, ⟨7, 4, .rws, false, 6, 15⟩]⟩,
   -- PXC_CANVAS
   ⟨13, 0, 4095, 0x0104, 0x4, 1, 0, 0x4380780,
    [⟨12, 0, .rws, false, 0, 8191⟩, ⟨28, 16, .rws, false, 0, 8191⟩]⟩,
   -- PXC_BG
   ⟨13, 0, 4095, 0x0108, 0x4, 1, 0, 0x20080040,
    [⟨9, 0, .rws, false, 0, 1023⟩, ⟨19, 10, .rws, false, 0, 1023⟩, ⟨29, 20, .rws, false, 0, 1023⟩]⟩,
   -- PXC_PLACEHOLDER
   ⟨13, 0, 4095, 0x010C, 0x4, 1, 0, 0x20080200,
    [⟨29, 0, .rws, false, 0, 1073741823⟩]⟩,
   -- PXC_OUT_BASE
   ⟨13, 0, 4095, 0x0110, 0x4, 1, 1, 0x0,
    [⟨31, 0, .rw, false, 0, 4294967295⟩]⟩,
   -- PXC_OUT_BASE_HI
   ⟨13, 0, 4095, 0x0114, 0x4, 1, 2, 0x0,
    [⟨31, 0, .rw, false, 0, 4294967295⟩]⟩,
   -- PXC_OUT_MAX
   ⟨13, 0, 4095, 0x0118, 0x4, 1, 0, 0x4380780,
    [⟨12, 0, .rw, false, 0, 8191⟩, ⟨28, 16, .rw, false, 0, 8191⟩]⟩]

/-- Register rows: block ESC. -/
def regRowsEsc : List RegDesc :=
  [
   -- ESC_LG_CFG
   ⟨14, 0, 4095, 0x0100, 0x20, 4, 0, 0x70,
    [⟨0, 0, .rws, false, 0, 1⟩, ⟨3, 1, .rws, false, 0, 7⟩, ⟨6, 4, .rws, false, 0, 7⟩, ⟨7, 7, .rws, false, 0, 1⟩, ⟨19, 8, .rws, false, 0, 4095⟩]⟩,
   -- ESC_GCL
   ⟨14, 0, 4095, 0x0104, 0x20, 4, 0, 0x0,
    [⟨9, 0, .rws, false, 0, 1023⟩, ⟨20, 10, .rws, false, 0, 2047⟩, ⟨21, 21, .rws, false, 0, 1⟩]⟩,
   -- ESC_GCL_CYCLE
   ⟨14, 0, 4095, 0x0108, 0x20, 4, 0, 0xF4240,
    [⟨29, 0, .rws, false, 0, 1073741823⟩]⟩,
   -- ESC_GCL_BASETIME
   ⟨14, 0, 4095, 0x010C, 0x20, 4, 1, 0x0,
    [⟨31, 0, .rws, false, 0, 4294967295⟩]⟩,
   -- ESC_GCL_BASETIME_HI
   ⟨14, 0, 4095, 0x0110, 0x20, 4, 2, 0x0,
    [⟨31, 0, .rws, false, 0, 4294967295⟩]⟩,
   -- ESC_GCL_START_ACT
   ⟨14, 0, 4095, 0x0114, 0x20, 4, 1, 0x0,
    [⟨31, 0, .ro, false, 0, 4294967295⟩]⟩,
   -- ESC_GCL_START_ACT_HI
   ⟨14, 0, 4095, 0x0118, 0x20, 4, 2, 0x0,
    [⟨31, 0, .ro, false, 0, 4294967295⟩]⟩,
   -- ESC_GCL_STATUS
   ⟨14, 0, 4095, 0x011C, 0x20, 4, 0, 0x0,
    [⟨0, 0, .ro, false, 0, 1⟩, ⟨1, 1, .ro, false, 0, 1⟩, ⟨25, 16, .ro, false, 0, 1023⟩, ⟨31, 24, .ro, false, 0, 255⟩]⟩,
   -- ESC_GUARD
   ⟨14, 0, 4095, 0x0180, 0x4, 1, 0, 0x20,
    [⟨15, 0, .rws, false, 0, 65535⟩]⟩,
   -- ESC_WINDOW
   ⟨14, 0, 4095, 0x0184, 0x4, 1, 0, 0x10000,
    [⟨19, 0, .rws, false, 16384, 1048575⟩]⟩,
   -- ESC_CEIL
   ⟨14, 0, 4095, 0x0190, 0x4, 4, 0, 0x0,
    [⟨19, 0, .ro, false, 0, 1048575⟩, ⟨31, 31, .ro, false, 0, 1⟩]⟩]

/-- Register rows: block LNU. -/
def regRowsLnu : List RegDesc :=
  [
   -- LNU_PORT_CFG
   ⟨15, 0, 3, 0x0100, 0x4, 1, 0, 0x0,
    [⟨1, 0, .rws, false, 0, 2⟩, ⟨2, 2, .rws, false, 0, 1⟩]⟩,
   -- LNU_TX_CTL
   ⟨15, 0, 3, 0x0104, 0x4, 1, 0, 0xF00,
    [⟨0, 0, .rw, true, 0, 1⟩, ⟨1, 1, .ro, false, 0, 1⟩, ⟨2, 2, .w1c, true, 0, 1⟩, ⟨15, 8, .rws, false, 0, 255⟩]⟩,
   -- LNU_J0_EXP
   ⟨15, 0, 3, 0x0110, 0x4, 4, 0, 0x0,
    [⟨31, 0, .rws, false, 0, 4294967295⟩]⟩,
   -- LNU_J0_TX
   ⟨15, 0, 3, 0x0120, 0x4, 4, 0, 0x0,
    [⟨31, 0, .rws, false, 0, 4294967295⟩]⟩,
   -- LNU_STATUS
   ⟨15, 0, 3, 0x0130, 0x4, 1, 0, 0x0,
    [⟨5, 0, .ro, false, 0, 63⟩, ⟨6, 6, .ro, false, 0, 1⟩]⟩,
   -- LNU_RX_S1
   ⟨15, 0, 3, 0x0134, 0x4, 1, 0, 0x0,
    [⟨7, 0, .ro, false, 0, 255⟩]⟩,
   -- LNU_RX_K
   ⟨15, 0, 3, 0x0138, 0x4, 1, 0, 0x0,
    [⟨15, 0, .ro, false, 0, 65535⟩]⟩,
   -- LNU_TSI_CFG
   ⟨15, 4, 4, 0x0100, 0x4, 1, 0, 0x0,
    [⟨0, 0, .rws, false, 0, 1⟩]⟩,
   -- LNU_PM_IN
   ⟨15, 4, 4, 0x0104, 0x4, 1, 0, 0x0,
    [⟨11, 0, .rws, false, 0, 4095⟩, ⟨12, 12, .rws, false, 0, 1⟩]⟩]

/-- Register rows: block DRC. -/
def regRowsDrc : List RegDesc :=
  [
   -- DRC_GEOM
   ⟨16, 16, 16, 0x0100, 0x4, 1, 0, 0x0,
    [⟨1, 0, .ro, false, 0, 3⟩, ⟨4, 2, .ro, false, 0, 7⟩, ⟨5, 5, .ro, false, 0, 1⟩, ⟨8, 8, .ro, false, 0, 1⟩]⟩,
   -- DRC_MAP
   ⟨16, 16, 16, 0x0104, 0x4, 1, 0, 0xC,
    [⟨4, 0, .rw, false, 8, 16⟩]⟩,
   -- DRC_CAP
   ⟨16, 16, 16, 0x0108, 0x4, 1, 1, 0x0,
    [⟨31, 0, .ro, false, 0, 4294967295⟩]⟩,
   -- DRC_CAP_HI
   ⟨16, 16, 16, 0x010C, 0x4, 1, 2, 0x0,
    [⟨31, 0, .ro, false, 0, 4294967295⟩]⟩,
   -- DRC_TRAIN
   ⟨16, 16, 16, 0x0110, 0x4, 1, 0, 0x0,
    [⟨0, 0, .wo, true, 0, 1⟩, ⟨31, 16, .wo, true, 0, 65535⟩]⟩,
   -- DRC_HASH
   ⟨16, 16, 16, 0x0140, 0x4, 5, 0, 0x1,
    [⟨31, 0, .rw, false, 0, 4294967295⟩]⟩,
   -- DRC_SHARE
   ⟨16, 16, 16, 0x0160, 0x4, 8, 0, 0x0,
    [⟨6, 0, .rw, false, 0, 127⟩]⟩,
   -- DRC_SCRUB
   ⟨16, 16, 16, 0x0180, 0x4, 1, 0, 0x1801,
    [⟨0, 0, .rw, false, 0, 1⟩, ⟨15, 8, .rw, false, 1, 255⟩]⟩,
   -- DRC_CH_STATUS
   ⟨16, 0, 15, 0x0100, 0x4, 1, 0, 0x0,
    [⟨1, 0, .ro, false, 0, 3⟩, ⟨6, 4, .ro, false, 0, 7⟩, ⟨9, 8, .ro, false, 0, 3⟩]⟩,
   -- DRC_RANK_STATE
   ⟨16, 0, 15, 0x0104, 0x4, 1, 0, 0x0,
    [⟨31, 0, .ro, false, 0, 4294967295⟩]⟩,
   -- DRC_SPARE
   ⟨16, 0, 15, 0x0108, 0x4, 1, 0, 0x0,
    [⟨1, 0, .rw, false, 0, 3⟩, ⟨2, 2, .rw, false, 0, 1⟩]⟩,
   -- DRC_MIG
   ⟨16, 0, 15, 0x010C, 0x4, 1, 0, 0x0,
    [⟨30, 0, .ro, false, 0, 2147483647⟩, ⟨31, 31, .ro, false, 0, 1⟩]⟩,
   -- DRC_RETIRE
   ⟨16, 0, 15, 0x0110, 0x4, 1, 0, 0x0,
    [⟨1, 0, .wo, true, 0, 3⟩, ⟨8, 8, .wo, true, 0, 1⟩]⟩,
   -- DRC_CE_THR
   ⟨16, 0, 15, 0x0114, 0x4, 1, 0, 0x3E8,
    [⟨23, 0, .rw, false, 0, 16777215⟩]⟩]

/-- Register rows: block PRG. -/
def regRowsPrg : List RegDesc :=
  [
   -- PRG_CTL
   ⟨17, 0, 4095, 0x0100, 0x4, 1, 0, 0x0,
    [⟨0, 0, .rw, false, 0, 1⟩, ⟨1, 1, .rw, false, 0, 1⟩, ⟨2, 2, .rw, false, 0, 1⟩]⟩,
   -- PRG_TAG
   ⟨17, 0, 4095, 0x0104, 0x4, 1, 0, 0x0,
    [⟨31, 0, .rw, false, 0, 4294967295⟩]⟩,
   -- PRG_STATUS
   ⟨17, 0, 4095, 0x0108, 0x4, 1, 0, 0x0,
    [⟨3, 0, .ro, false, 0, 15⟩, ⟨4, 4, .ro, false, 0, 1⟩, ⟨5, 5, .ro, false, 0, 1⟩, ⟨6, 6, .ro, false, 0, 1⟩]⟩,
   -- PRG_JOIN
   ⟨17, 0, 4095, 0x010C, 0x4, 1, 0, 0x9600000,
    [⟨0, 0, .wo, true, 0, 1⟩, ⟨31, 16, .rw, false, 0, 65535⟩]⟩,
   -- PRG_JOIN_WALE
   ⟨17, 0, 4095, 0x0110, 0x4, 1, 0, 0x0,
    [⟨31, 0, .ro, false, 0, 4294967295⟩]⟩,
   -- PRG_COPY
   ⟨17, 0, 4095, 0x0114, 0x4, 1, 1, 0x0,
    [⟨31, 0, .ro, false, 0, 4294967295⟩]⟩,
   -- PRG_COPY_HI
   ⟨17, 0, 4095, 0x0118, 0x4, 1, 2, 0x0,
    [⟨31, 0, .ro, false, 0, 4294967295⟩]⟩,
   -- PRG_SWAP
   ⟨17, 0, 4095, 0x011C, 0x4, 1, 0, 0x0,
    [⟨31, 0, .rw, false, 0, 4294967295⟩]⟩,
   -- PRG_SWAP_CTL
   ⟨17, 0, 4095, 0x0120, 0x4, 1, 0, 0x0,
    [⟨0, 0, .w1s, true, 0, 1⟩]⟩,
   -- PRG_SWAP_RES
   ⟨17, 0, 4095, 0x0124, 0x4, 1, 0, 0x0,
    [⟨2, 0, .ro, false, 0, 7⟩, ⟨15, 8, .ro, false, 0, 255⟩, ⟨31, 24, .ro, false, 0, 255⟩]⟩,
   -- PRG_GATE
   ⟨17, 0, 4095, 0x0128, 0x4, 1, 0, 0x3207D0,
    [⟨10, 0, .rw, false, 0, 2000⟩, ⟨23, 16, .rw, false, 0, 255⟩, ⟨24, 24, .rw, false, 0, 1⟩, ⟨25, 25, .ro, false, 0, 1⟩]⟩,
   -- PRG_TMO
   ⟨17, 0, 4095, 0x012C, 0x4, 1, 0, 0x32646408,
    [⟨7, 0, .rw, false, 0, 255⟩, ⟨15, 8, .rw, false, 0, 255⟩, ⟨23, 16, .rw, false, 0, 255⟩, ⟨31, 24, .rw, false, 0, 255⟩]⟩,
   -- PRG_SKEW
   ⟨17, 0, 4095, 0x0130, 0x4, 1, 0, 0x0,
    [⟨31, 0, .ro, false, 0, 4294967295⟩]⟩]

/-- Register rows: block QZM. -/
def regRowsQzm : List RegDesc :=
  [
   -- QZM_MB_DOORBELL
   ⟨18, 0, 4095, 0x0100, 0x4, 1, 0, 0x0,
    [⟨7, 0, .wo, true, 0, 255⟩, ⟨20, 8, .wo, true, 0, 8191⟩, ⟨31, 31, .wo, true, 0, 1⟩]⟩,
   -- QZM_MB_RES
   ⟨18, 0, 4095, 0x0104, 0x4, 1, 0, 0x0,
    [⟨7, 0, .ro, false, 0, 255⟩, ⟨15, 8, .ro, false, 0, 255⟩, ⟨31, 24, .ro, false, 0, 255⟩]⟩,
   -- QZM_MB_RES_LEN
   ⟨18, 0, 4095, 0x0108, 0x4, 1, 0, 0x0,
    [⟨12, 0, .ro, false, 0, 8191⟩]⟩,
   -- QZM_MB_STATUS
   ⟨18, 0, 4095, 0x010C, 0x4, 1, 0, 0x0,
    [⟨0, 0, .ro, false, 0, 1⟩, ⟨2, 1, .ro, false, 0, 3⟩]⟩,
   -- QZM_WDT
   ⟨18, 0, 4095, 0x0110, 0x4, 1, 0, 0x0,
    [⟨0, 0, .ro, false, 0, 1⟩, ⟨1, 1, .ro, false, 0, 1⟩, ⟨31, 16, .ro, false, 0, 65535⟩]⟩,
   -- QZM_TEMP_MAX
   ⟨18, 0, 4095, 0x0114, 0x4, 1, 0, 0x0,
    [⟨10, 0, .ro, false, 0, 2047⟩, ⟨20, 16, .ro, false, 0, 31⟩]⟩,
   -- QZM_POWER
   ⟨18, 0, 4095, 0x0118, 0x4, 1, 0, 0x0,
    [⟨15, 0, .ro, false, 0, 65535⟩]⟩,
   -- QZM_REQ_BUF
   ⟨18, 0, 4095, 0x1000, 0x4, 1024, 0, 0x0,
    [⟨31, 0, .rw, false, 0, 4294967295⟩]⟩,
   -- QZM_RSP_BUF
   ⟨18, 0, 4095, 0x2000, 0x4, 1024, 0, 0x0,
    [⟨31, 0, .ro, false, 0, 4294967295⟩]⟩]

/-- The rows of a block, by its type code (R25, R60). -/
def blockRows : Nat → List RegDesc
  | 2 => regRowsTmu
  | 1 => regRowsSys
  | 3 => regRowsRve
  | 4 => regRowsCrl
  | 5 => regRowsCol
  | 19 => regRowsEth
  | 6 => regRowsIcl
  | 7 => regRowsCpe
  | 8 => regRowsLfw
  | 9 => regRowsMxf
  | 10 => regRowsWds
  | 11 => regRowsVce
  | 12 => regRowsWve
  | 13 => regRowsPxc
  | 14 => regRowsEsc
  | 15 => regRowsLnu
  | 16 => regRowsDrc
  | 17 => regRowsPrg
  | 18 => regRowsQzm
  | _ => []

end Sys2Proof.Machine
end

