-- ==== Sys2Proof/Machine/State.lean ====
section
/-!
DEFINITION. The state of the block as plain data: every register, table, counter, queue and mode the spec gives it,
the queue of waiting commands, and the machine right after device reset.
-/

namespace Sys2Proof.Machine

/-! ## What every page holds -/

/-- A page's state beside its registers: the conditions that `PAGE_READY.REASON` reports (R64), whether an armed
commit has been doomed by a fence or a disable (R73), and the table window's buffer (R84, R85). -/
structure PageSt where
  /-- Enabled while the wale generator was not RUNNING, and no strobe since (R36). -/
  noWale : Bool := false
  /-- Initialisation after enable is in progress. -/
  initing : Bool := false
  /-- A page reset is in progress. -/
  rstBusy : Bool := false
  /-- Stopped by a FAULT event. -/
  stopped : Bool := false
  /-- A block-specific reason, 0x80 to 0xFF, or 0. -/
  blk : Nat := 0
  /-- The armed single-page commit will resolve REFUSED (R73). -/
  doomed : Bool := false
  /-- The words of the entry latched by the last write of `TBL_ADDR`. -/
  winWords : List Word := []
  /-- The word pointer. -/
  winPtr : Nat := 0
  /-- The last write of `TBL_ADDR` selected an entry of a table of the page. -/
  winOk : Bool := false
  /-- The wale in which the pending snapshot was requested (R87). -/
  snapAt : Option Nat := none
  deriving DecidableEq, Repr

/-- A page as it is after reset. -/
def PageSt.init : PageSt := {}

/-- One commit group (R74): the fields `SYS_CGRP_CTL`, `_WALE`, `_STATUS` and `_CULPRIT` show for it. State: 0 IDLE,
1 ARMED, 2 COMMITTED, 3 APPLIED, 4 LATE, 5 REFUSED. -/
structure Cgrp where
  count : Nat := 0
  target : Nat := 0
  state : Nat := 0
  reason : Nat := 0
  seq : Nat := 0
  culprit : Nat := 0
  /-- The target for which the check made the group COMMITTED. -/
  due : Nat := 0
  deriving DecidableEq, Repr

/-- A commit group as it is after reset. -/
def Cgrp.init : Cgrp := {}

/-- An event record (R106). -/
structure EvRec where
  code : Nat
  page : Nat
  sev : Nat
  forced : Bool
  wale : Nat
  arg : Nat
  arg2 : Nat
  deriving DecidableEq, Repr

/-- The event machinery: Coil queue 0 (R108) and how many records have left it, how often a page has recorded a code in this
wale (R107), and the increments of `SYS_EVT_SUPPRESSED` since the previous ring entry (R108). -/
structure EvSt where
  queue : List EvRec := []
  left : Nat := 0
  occ : NMap Nat := []
  since : Nat := 0
  deriving DecidableEq, Repr

/-- A message or a write that leaves the device towards the host (R93, R97). [DESIGN CHOICE, log 24] -/
inductive HostOut where
  /-- One memory write request: the bus address and its 32-bit words. -/
  | write (addr : Nat) (words : List Word)
  /-- An MSI-X message: the page whose function owns it and the vector. -/
  | msix (page vector : Nat)
  deriving DecidableEq, Repr

/-- The clock and the wale generator. -/
structure Clk where
  /-- The local clock (R544) in units of 1/256 of 10^-9 ns, so that R545 is exact. -/
  loc : Nat := 0
  /-- True time since device reset, in ns (R39). -/
  tru : Nat := 0
  /-- The wale whose strobe was issued last (R29). -/
  wale : Nat := 0
  /-- The true time of that strobe (R39). -/
  waleTru : Nat := 0
  /-- No strobe has been issued since the generator's last start. -/
  first : Bool := true
  /-- The last step of R47 begun at the current boundary, 1 to 7; 0 before the first strobe. -/
  phase : Nat := 0
  /-- The local instant of the last fine tick (R123). -/
  fine : Nat := 0
  deriving DecidableEq, Repr

/-! ## TMU -/

/-- An entry of a transmit timestamp queue (R559). -/
structure TxTs where
  id : Nat
  ns : Nat
  dropped : Bool
  deriving DecidableEq, Repr

/-- A PTP frame on its way to TMU: the lane group, the compensated ingress timestamp, where its PTP header stands,
how it was carried and its bytes without the FCS (R554, R555). -/
structure PtpFrame where
  lane : Nat
  ts : Nat
  ofs : Nat
  ipv6 : Bool
  udp : Bool
  rtag : Bool
  bytes : List Byte
  deriving DecidableEq, Repr

/-- TMU's state beside its registers. -/
structure TmuSt where
  /-- Boundaries of R28 passed since the servo's last write of `TMU_FREQ` or `TMU_STEP` (R553). -/
  servoCount : Nat := 0
  /-- Messages delivered in the wale, per lane group (R554). -/
  delivered : NMap Nat := []
  /-- `TMU_RX_BAD` has been raised in the wale. -/
  rxBad : Bool := false
  /-- Received PTP frames that ICL has sent and TMU has not yet checked. -/
  rx : List PtpFrame := []
  /-- The transmit timestamp queues, per lane group (R559). -/
  txts : NMap (List TxTs) := []
  /-- Lane groups whose full queue has raised `TMU_TXTS_OVF` (R560). -/
  txtsFull : List Nat := []
  /-- Local time of the last SYNCIN edge in mode 2 (R563). -/
  lastEdge : Option Nat := none
  /-- The 1 PPS output is high (R564). -/
  ppsOut : Bool := false
  /-- Local time of its last rise. -/
  ppsRise : Nat := 0
  deriving DecidableEq, Repr

/-! ## Reeve -/

/-- A task (R114, R149). State: 0 free, 1 waiting, 2 delayed, 3 ready, 4 slotted, 5 running, 6 completing. -/
structure Task where
  st : Nat := 0
  /-- The descriptor as held, with OWNER filled. -/
  desc : List Word := []
  /-- The dependence count. -/
  dep : Nat := 0
  /-- The executor, 0x3FF where none holds the task. -/
  exec : Nat := 0x3FF
  /-- The order of acceptance (R124). -/
  seq : Nat := 0
  /-- The instant of becoming ready, in fabric clocks of true time (R126). -/
  readyAt : Nat := 0
  /-- The true time of its start. -/
  start : Nat := 0
  /-- The completion record that waits for credit (R139): status, exit value, wale and cycles. -/
  record : Option (Nat × Word × Nat × Nat) := none
  deriving DecidableEq, Repr

/-- No task. -/
def Task.free : Task := {}

/-- Reeve's state beside its registers and tables. -/
structure RveSt where
  tasks : NMap Task := []
  /-- Tasks accepted so far. -/
  seq : Nat := 0
  /-- The task in each executor's local slot (R129). -/
  slot : NMap (Option Nat) := []
  /-- The task each executor runs. -/
  run : NMap (Option Nat) := []
  /-- Trace records lost since the last one written (R145). -/
  lost : Nat := 0
  /-- The true time of the last release of each delay list, and how many entries left it then (R124). -/
  rel : NMap (Nat × Nat) := []
  /-- The status and the task ID last answered to each agent's port (R115). -/
  ans : NMap (Nat × Nat) := []
  /-- Functions whose GO has not been answered (R148). -/
  going : List Nat := []
  deriving DecidableEq, Repr

/-! ## Memory, Creel and Coil -/

/-- The memories of the device's address spaces. [PRESUMED, log 8] -/
structure MemSt where
  /-- DRAM, by device address. -/
  dram : NMap Byte := []
  /-- Bytes of lines that wait in a channel's write queue, newer than `dram` (R579). -/
  queued : NMap (Option Byte) := []
  /-- The 96 MB packet buffer (R154). -/
  pkt : NMap Byte := []
  /-- The 32 MB region of other SRAM (R171). -/
  sram : NMap Byte := []
  /-- Poisoned lines of 64 bytes, by address / 64 (R584). -/
  poison : List Nat := []
  /-- Logical ranks that were retired without migration: channel and logical rank (R587). -/
  dead : List (Nat × Nat) := []
  deriving DecidableEq, Repr

/-- Creel's answer to the last request of a port: the status of R163 and the handle. -/
structure CrlAns where
  status : Nat := 0
  handle : Nat := 0
  deriving DecidableEq, Repr

/-- Creel's state beside its registers and tables. -/
structure CrlSt where
  /-- The owner list of each buffer, by handle; a buffer with no owner is free. -/
  own : NMap (List Nat) := []
  /-- Quarantined buffers, by handle (R166). -/
  quar : List Nat := []
  /-- The owner of the reclaim that runs (R167). -/
  reclaim : Option Nat := none
  /-- Removals made by that reclaim. -/
  removals : Nat := 0
  /-- The last answer to each port. -/
  ans : NMap CrlAns := []
  deriving DecidableEq, Repr

/-- A reservation of a Coil queue that has not been committed. -/
structure Resv where
  ofs : Nat
  units : Nat
  port : Nat
  grant : Nat
  /-- The owner of the port when it reserved (R153). -/
  owner : Nat
  deriving DecidableEq, Repr

/-- A Coil queue beside its table entry (R174): free-running offsets modulo 2^32, and the reservations
outstanding. -/
structure ColQ where
  wr : Nat := 0
  rd : Nat := 0
  rel : Nat := 0
  bight : Nat := 0
  bset : Bool := false
  stale : Bool := false
  resv : List Resv := []
  deriving DecidableEq, Repr

/-- A queue as it is when it is enabled. -/
def ColQ.init : ColQ := {}

/-- Coil's answer to the last operation of a port: the status of R176, an offset and a length. -/
structure ColAns where
  status : Nat := 0
  ofs : Nat := 0
  len : Nat := 0
  deriving DecidableEq, Repr

/-- Coil's state beside its registers and tables. -/
structure ColSt where
  q : NMap ColQ := []
  /-- The owner of the credit reclaim that runs (R189). -/
  reclaim : Option Nat := none
  /-- The last answer to each port. -/
  ans : NMap ColAns := []
  /-- Grants that a reclaim disabled while their queue is enabled: they wait for AVAIL = ALLOT (R189). -/
  reclaimed : List Nat := []
  deriving DecidableEq, Repr

/-- A table write-back that Pairing holds until the next boundary (R86), with the wale it came in. -/
structure Wb where
  wale : Nat
  src : Src
  page : Nat
  table : Nat
  entry : Nat
  words : List Word
  deriving DecidableEq, Repr

/-! ## Withy -/

/-- A branch in flight (R350). -/
inductive Br where
  | none | untaken | taken (target : Nat) | ret
  deriving DecidableEq, Repr

/-- An active repeat level (R343, R358): the word addresses of its body's first and last instruction, the iterations
left and those completed. -/
structure Level where
  start : Nat
  last : Nat
  left : Nat
  done : Nat
  deriving DecidableEq, Repr

/-- What an interrupt saves (R363). -/
structure Saved where
  pc : Nat := 0
  flags : Nat := 0
  loops : List Level := []
  br1 : Br := .none
  br2 : Br := .none
  atRep : Bool := false
  iterEnd : Bool := false
  deriving DecidableEq, Repr

/-- A DMA channel of a core (R365, R366). -/
structure Dma where
  busy : Bool := false
  status : Nat := 0
  /-- The instruction that wrote GO for a transfer not yet started. -/
  go : Option Nat := none
  /-- The transfer as it was started: `KIND`, `DIR`, `REF`, `OFS`, the first DMEM byte and the length in words. -/
  kind : Nat := 0
  out : Bool := false
  ref : Nat := 0
  ofs : Nat := 0
  loc : Nat := 0
  lenw : Nat := 0
  deriving DecidableEq, Repr

/-- A DMA channel as it is at the start of a task. -/
def Dma.init : Dma := {}

/-- A Withy core (R343 to R347). -/
structure WCore where
  /-- 0 idle, 1 running, 2 ended and waiting for its transfers or for Reeve. -/
  ph : Nat := 0
  /-- The task, for events. -/
  task : Nat := 0
  /-- D0 to D15 as the next instruction reads them as data operands. -/
  d : NMap Word := []
  /-- D0 to D15 as they were one instruction ago. -/
  d1 : NMap Word := []
  /-- D0 to D15 as BR reads them (R349). -/
  d2 : NMap Word := []
  /-- A load whose value the next instruction does not yet see (R349). -/
  ld : Option (Nat × Word) := none
  /-- The accumulators. -/
  acc : NMap (BitVec 40) := []
  /-- The accumulators as RDA, STA and NORM read them (R349). -/
  accP : NMap (BitVec 40) := []
  /-- AX0 to AX7 at 0 to 7, CB0 to CB3 at 8, CL0 to CL3 at 12 and CMODE at 16, as address operands see them. -/
  a : NMap Nat := []
  /-- Writes of SETA, AADD and SETM by the last instruction. -/
  p1 : List (Nat × Nat) := []
  /-- Writes of SETA, AADD and SETM by the instruction before it. -/
  p2 : List (Nat × Nat) := []
  /-- FLAGS: Z in bit 0, N in bit 1, U in bit 2. -/
  fl : Nat := 0
  fl1 : Nat := 0
  /-- FLAGS as B reads them (R349). -/
  fl2 : Nat := 0
  /-- Bytes stored by the last instruction. -/
  st1 : List (Nat × Byte) := []
  /-- Bytes stored by the instruction before it. -/
  st2 : List (Nat × Byte) := []
  /-- The branch of the last instruction. -/
  br1 : Br := .none
  /-- The branch of the instruction before it. -/
  br2 : Br := .none
  pc : Nat := 0
  /-- `ENTRY[30:13]` was not 0 (R373). -/
  badEntry : Bool := false
  /-- True time at which the wait in progress began. -/
  waitFrom : Option Nat := none
  /-- Active levels, innermost first. -/
  loops : List Level := []
  /-- The next instruction is the first of a body, after its REP. -/
  atRep : Bool := false
  /-- The last instruction ended an iteration of the innermost level. -/
  iterEnd : Bool := false
  /-- Cycles counted (R370), from the first fetch to the last. -/
  cyc : Nat := 0
  /-- BUDGET of the task; in Test mode there is none. -/
  budget : Option Nat := none
  /-- `CSR.SAT`. -/
  sat : Bool := false
  /-- `CSR.OVF`. -/
  ovf : Bool := false
  dmem : NMap Byte := []
  imem : NMap Word := []
  /-- The image's code length in words. -/
  codeLen : Nat := 0
  dma : NMap Dma := []
  /-- A request that FCTL named and the core has not issued: its target and queue (R368). -/
  fctl : Option (Nat × Nat) := none
  /-- The PC of the last instruction, which named that request (R373). -/
  fctlPc : Nat := 0
  /-- `FSTAT.BUSY`. -/
  fbusy : Bool := false
  /-- The response on its way. -/
  fres : List Word := []
  /-- The response is to be discarded (R372). -/
  fdrop : Bool := false
  /-- The exit value, once the task has ended. -/
  value : Word := 0
  /-- The task ended by a fault and has no final wait (R373). -/
  faulted : Bool := false
  /-- Interrupts are enabled (R363). -/
  ie : Bool := false
  /-- `IRQ.PEND`. -/
  pend : Nat := 0
  saved : Saved := {}
  /-- The image that is being loaded (R376). -/
  loading : Option Nat := none
  deriving DecidableEq, Repr

/-- A core as it is after device reset. -/
def WCore.init : WCore := {}

/-! ## Video Codec Engines -/

/-- A spatial-layer picture being coded or coded (R398 to R401). `recs` holds, per CTU number, bits, QP and flags; `blocks`, per
block number, its vector, reference and SAD. -/
structure LayerPic where
  layer : Nat := 0
  hdr : Nat := 0
  tp : Nat := 0
  used : Nat := 0
  q : Nat := 0
  qr : Nat := 0
  /-- CTUs coded, and the sum of the plans of the rows begun. -/
  c : Nat := 0
  plans : Int := 0
  rows : List Nat := []
  starve : Option Nat := none
  recs : List (Nat × Nat × Nat × Nat) := []
  blocks : List (Nat × Int × Int × Nat × Nat) := []
  deriving DecidableEq, Repr

/-- A picture in DRAM: luma rows, then interleaved chroma from row `rows` on, and its depth (1 for 10 bits). -/
structure PicView where
  addr : Nat
  stride : Nat
  rows : Nat
  w : Nat
  h : Nat
  deep : Nat
  deriving DecidableEq, Repr

/-- The picture that an encoder codes, under the entry of its launch. -/
structure EncPic where
  stream : Nat
  f : Nat
  launch : Nat
  key : Bool
  p : Nat
  src : PicSrc
  mute : Bool
  ent : List Word := []
  /-- The source's samples; none for mid-grey (R393). -/
  view : Option PicView := none
  /-- The slot of the reference store that it is reconstructed in (R390). -/
  slot : Nat := 0
  /-- The layers coded, lowest first, and the one in progress. -/
  done : List LayerPic := []
  cur : Option LayerPic := none
  /-- Units emitted, and whether a packet was lost. -/
  unit : Nat := 0
  lost : Bool := false
  deriving DecidableEq, Repr

/-- An encoder (executor 512 + n). -/
structure Encoder where
  streams : NMap EncStream := []
  /-- The wale at whose boundary it launched last. -/
  launched : Option Nat := none
  pic : Option EncPic := none
  /-- `VCE_STAT_LOST` has been raised in the wale. -/
  statTold : Bool := false
  /-- On a standby, the last picture that each stream completed and the stream before it, should the active have abandoned it
  (R610). -/
  undo : NMap (Option (EncPic × EncStream)) := []
  deriving DecidableEq, Repr

/-- An encoder after reset. -/
def Encoder.init : Encoder := {}

/-- A publication record (R411). -/
structure PubRec where
  slot : Nat := 0
  valid : Bool := false
  damaged : Bool := false
  w8 : Nat := 0
  h8 : Nat := 0
  wale : Nat := 0
  ts : Nat := 0
  count : Nat := 0
  deriving DecidableEq, Repr

/-- A unit being assembled (R412): its timestamp and its packets (EXT_SEQ, M, payload, acceptance wale). -/
structure Assembly where
  ts : Nat
  pkts : List (Nat × Bool × List Byte × Nat)
  deriving DecidableEq, Repr

/-- A complete unit (R413): its bitstream buffer and bytes, Wa, timestamp, and whether it is a clean intra point. -/
structure DecUnit where
  handle : Nat
  bytes : Nat
  wa : Nat
  ts : Nat
  intra : Bool
  cra : Bool
  ctus : Nat := 0
  deriving DecidableEq, Repr

/-- A picture in the decoded picture buffer: slot, size in units of 8, timestamp. -/
structure DpbPic where
  slot : Nat
  w8 : Nat
  h8 : Nat
  ts : Nat
  deriving DecidableEq, Repr

/-- A decode stream beside its entry. State: 0 IDLE, 1 RUNNING, 2 NEED_INTRA, 3 STOPPED. -/
structure DecStream where
  st : Nat := 0
  frozen : Bool := false
  cause : Nat := 0
  detail : Nat := 0
  stopped : Nat := 0
  recs : List PubRec := [{}, {}, {}, {}]
  /-- The record written next, and pictures published. -/
  next : Nat := 0
  count : Nat := 0
  /-- The next record is the first after a resume. -/
  damaged : Bool := false
  asm : Option Assembly := none
  lastTs : Option Nat := none
  hold : List DecUnit := []
  flight : Option DecUnit := none
  dpb : List DpbPic := []
  /-- Parameter sets seen in complete units since the last stop, by type. -/
  sets : List Nat := []
  /-- RASL pictures of the CRA at which decoding resumed are discarded. -/
  cra : Bool := false
  /-- Changes of FROZEN with the acceptance wale of the unit that made them, newest first. -/
  log : List (Nat × Bool) := []
  deriving DecidableEq, Repr

/-- A decode stream that is not enabled. -/
def DecStream.init : DecStream := {}

/-- A decoder (executor 528 + n): its streams. -/
structure Decoder where
  streams : NMap DecStream := []
  /-- On a standby, the acceptance wale of the last unit that each stream decoded and the stream before it (R610). -/
  undo : NMap (Option (Nat × DecStream)) := []
  deriving DecidableEq, Repr

/-- A decoder after reset. -/
def Decoder.init : Decoder := {}

/-- VCE's state beside its registers and tables. -/
structure VceSt where
  enc : NMap Encoder := []
  dec : NMap Decoder := []
  deriving DecidableEq, Repr

/-! ## Pixel Compositor -/

/-- A layer's source in a frame (R459, R461): its entry, and where its samples come from. -/
structure PxcLayer where
  words : List Word
  /-- The placeholder, a decoder slot's address with stride and height, or a host buffer. -/
  ph : Bool := false
  addr : Nat := 0
  stride : Nat := 0
  rows : Nat := 0
  deep : Nat := 0
  frozen : Bool := false
  miss : Bool := false
  deriving DecidableEq, Repr

/-- A frame being composed (R455, R470): F, its launch wale, the configuration it started with and its layers. -/
structure PxcFrame where
  f : Nat
  launch : Nat
  slot : Nat
  cfg : Word
  canvas : Word
  bg : Word
  phColour : Word
  layers : List (Nat × PxcLayer)
  deriving DecidableEq, Repr

/-- A publication record of a pipe (R472). -/
structure PxcRec where
  slot : Nat := 0
  valid : Bool := false
  w : Nat := 0
  h : Nat := 0
  f : Nat := 0
  launch : Nat := 0
  frozen : Nat := 0
  ph : Nat := 0
  count : Nat := 0
  deep : Nat := 0
  deriving DecidableEq, Repr

/-- A pipe beside its registers. -/
structure PxcPipe where
  frame : Option PxcFrame := none
  recs : List PxcRec := [{}, {}, {}, {}]
  next : Nat := 0
  count : Nat := 0
  skip : Bool := false
  launched : Option Nat := none
  /-- Layers in a FROZEN row of the frame before. -/
  frozen : List Nat := []
  /-- Encode tasks that wait for the frame being composed: task IDs. -/
  waits : List Nat := []
  /-- On a standby, the frame published last, and the records, the next one and their count before it (R610). -/
  undo : Option (PxcFrame × List PxcRec × Nat × Nat) := none
  deriving DecidableEq, Repr

/-- A pipe that has composed nothing. -/
def PxcPipe.init : PxcPipe := {}

/-- PXC's state beside its registers and tables. -/
structure PxcSt where
  pipes : NMap PxcPipe := []
  deriving DecidableEq, Repr

/-! ## Weave -/

/-- A stream's picture in the tile store (R430, R431): the frame, its launch wale, the units stored (index, first byte in
the slot, length), the end of its task (none while it runs), and the marks of a loss, an overflow and a refresh picture. -/
structure TilePic where
  f : Nat
  launch : Nat
  units : List (Nat × Nat × Nat) := []
  bytes : Nat := 0
  ended : Option Nat := none
  lost : Bool := false
  ovf : Bool := false
  refresh : Bool := false
  /-- Found missing: the cause of R431. -/
  missing : Option Nat := none
  deriving DecidableEq, Repr

/-- Weave's state beside its registers and tables: the store by tag × 4 + slot, receivers by splicer × 2^15 + entry, and
templates with the wale of their last launch. -/
structure WveSt where
  store : NMap (Option TilePic) := []
  rcv : NMap Receiver := []
  launched : NMap (Option Nat) := []
  /-- `WVE_SPLIT_MISMATCH` has been raised in the wale. -/
  told : Bool := false
  deriving DecidableEq, Repr


/-! ## Egress Scheduler -/

/-- A leg's queue and its tags (R489). -/
structure LegQ where
  q : List EscFrame := []
  start : Nat := 0
  rem : Nat := 0
  /-- The queue was eligible when last looked at (R490). -/
  awake : Bool := false
  deriving DecidableEq, Repr

/-- A gate list in force or pending: EN, BASE, LEN, CYCLE and the instant from which its cycles run. -/
structure Gcl where
  en : Bool := false
  base : Nat := 0
  len : Nat := 0
  cycle : Nat := 0
  start : Nat := 0
  deriving DecidableEq, Repr

/-- A lane group's scheduler. -/
structure LaneSt where
  /-- Strict queues 0 to 7. -/
  strict : NMap (List EscFrame) := []
  /-- The virtual time V. -/
  v : Nat := 0
  /-- In-flight bytes per class. -/
  flight : NMap Nat := []
  /-- Staging areas per class, oldest first, each frame with the instant from which it waits. -/
  stage : NMap (List (EscFrame × Nat)) := []
  /-- The instant at which the line is free again. -/
  busyTo : Nat := 0
  /-- The ceiling bucket, in 10^-3 byte. -/
  ceil : Int := 0
  /-- The instant at which its tokens last rose to 0 or more. -/
  ceilOk : Nat := 0
  gcl : Gcl := {}
  next : Option Gcl := none
  /-- The head frames that the guard band holds, per class, so that each wait is counted once. -/
  held : List Nat := []
  deriving DecidableEq, Repr

/-- A lane group as it is after reset. -/
def LaneSt.init : LaneSt := {}

/-- ESC's state beside its registers and tables. -/
structure EscSt where
  /-- Copy descriptors that LFW has issued and ESC has not yet queued. -/
  arrive : List Copy := []
  /-- What has started on the lines, oldest first: lane group and frame without FCS. -/
  tx : List (Nat × List Byte) := []
  legs : NMap LegQ := []
  lanes : NMap LaneSt := []
  /-- The signed token count of each shaper (R492): whole bytes and 10^-6 bytes. -/
  tok : NMap (Int × Nat) := []
  /-- Drops of R485 in the wale, per page: the first leg and the count. -/
  drops : NMap (Option (Nat × Nat)) := []
  deriving DecidableEq, Repr

/-! ## TDM Line Unit -/

/-- A performance bin (R535). `dsec` is defect seconds or, for a packet leg, expected packets; `adj` pointer adjustments,
slips or late packets; jitter and RTT are the maxima in µs. -/
structure PmBin where
  es : Nat := 0
  ses : Nat := 0
  uas : Nat := 0
  secs : Nat := 0
  bbe : Nat := 0
  dsec : Nat := 0
  adj : Nat := 0
  jit : Option Nat := none
  rtt : Option Nat := none
  idle : Nat := 0
  sw : Nat := 0
  stop : Nat := 0
  suspect : Bool := false
  closed : Nat := 0
  deriving DecidableEq, Repr

/-- A second of the run that may start or end unavailability (R532): its errored blocks, and whether its bins are still
the bins in progress. -/
structure PmSec where
  eb : Nat
  in15 : Bool
  in24 : Bool
  deriving DecidableEq, Repr

/-- The performance record of an entity (R530 to R537): the second in progress, the bins, and availability. -/
structure PmEnt where
  eb : Nat := 0
  blocks : Nat := 0
  recv : Nat := 0
  adj : Nat := 0
  defect : Bool := false
  sw : Bool := false
  stop : Bool := false
  c15 : PmBin := { suspect := true }
  c24 : PmBin := { suspect := true }
  p15 : PmBin := {}
  p24 : PmBin := {}
  unavail : Bool := false
  run : List PmSec := []
  deriving DecidableEq, Repr

/-- An entity that has counted nothing: it is enabled, or counts again after a reset of the TSI page, within its bins (R536). -/
def PmEnt.init : PmEnt := {}

/-- A pointer interpreter (R517): state 0 NORM, 1 LOP, 2 AIS; the pointer in force; consecutive invalid, NDF and AIS
indications; a new value and how often it came in a row; frames that came after that of the last adjustment. -/
structure Ptr where
  st : Nat := 0
  ptr : Nat := 0
  inv : Nat := 0
  ndf : Nat := 0
  ais : Nat := 0
  val : Nat := 0
  run : Nat := 0
  since : Nat := 3
  deriving DecidableEq, Repr

/-- A path's receive side (R516, R517). Pairs hold the last value and how often it came in a row. -/
structure PathSt where
  ptr : Ptr := {}
  c2 : Option Nat := none
  c2Run : Nat × Nat := (0, 0)
  rdi : Bool := false
  rdiRun : Nat × Nat := (0, 0)
  h4 : Option Nat := none
  h4Bad : Nat := 0
  h4Ok : Nat := 0
  lom : Bool := false
  b3 : Nat := 0
  deriving DecidableEq, Repr

/-- A path not yet received. -/
def PathSt.init : PathSt := {}

/-- A tributary framer (R522). `step` is the search, `idx` the frame within its multiframe, `fbits` the last framing bits
(newest first), `bad` the errors among the last framing bits, `crc` the CRC of the block in progress, `prev` that of the
block before it, `cbits` the check bits received. -/
structure Framer where
  inF : Bool := false
  step : Nat := 0
  idx : Nat := 0
  fasBad : Nat := 0
  fbits : List Bool := []
  bad : List Bool := []
  age : Nat := 0
  mfAt : Option Nat := none
  crcOn : Bool := false
  miss : Bool := false
  crc : Nat := 0
  prev : Option Nat := none
  cbits : List Bool := []
  blocks : Nat := 0
  blocksBad : Nat := 0
  rai : Nat := 0
  dl : List Bool := []
  deriving DecidableEq, Repr

/-- A tributary's receive side (R518, R522, R524). -/
structure TribSt where
  ptr : Ptr := {}
  rdi : Bool := false
  rdiRun : Nat × Nat := (0, 0)
  bip : Nat := 0
  frm : Framer := {}
  /-- True time at which the framer last gained or lost alignment. -/
  since : Nat := 0
  lof : Bool := false
  ais : Bool := false
  /-- Bits and zeros of the 512-bit period in progress. -/
  period : Nat × Nat := (0, 0)
  /-- Frames complete and not yet read, oldest first, and the frame read last. -/
  unread : List (List Byte) := []
  last : Option (List Byte) := none
  deriving DecidableEq, Repr

/-- A tributary not yet received. -/
def TribSt.init : TribSt := {}

/-- A path of a frame sent: its number, pointer word, J1, C2, RDI and REI (R519, R520). -/
structure TxPath where
  path : Nat
  ptr : Nat
  j1 : Byte
  c2 : Nat
  rdi : Bool
  rei : Nat
  deriving DecidableEq, Repr

/-- A tributary of a frame sent: its number, pointer word, J2, the A bit or yellow alarm, RDI, the signal label, REI and its time
slots. -/
structure TxTrib where
  trib : Nat
  ptr : Nat
  j2 : Byte
  alarm : Bool
  rdi : Bool
  label : Nat
  rei : Nat
  slots : List Byte
  deriving DecidableEq, Repr

/-- A frame that a port starts (R519, R520): its index, MS-AIS, J0, S1, K1, K2, M1, its paths and its tributaries.
[DESIGN CHOICE, log 54] -/
structure TxFrame where
  index : Nat
  ais : Bool
  j0 : Byte
  s1 : Nat
  k1 : Nat
  k2 : Nat
  m1 : Nat
  paths : List TxPath
  tribs : List TxTrib
  deriving DecidableEq, Repr

/-- A port's line (R513 to R520, R529). -/
structure LinePort where
  /-- The framer is in frame. -/
  inF : Bool := false
  /-- Candidates: position in the frame and hits. -/
  cands : List (Nat × Nat) := []
  aligned : Nat := 0
  miss : Nat := 0
  /-- True time at which IF or OOF was entered. -/
  since : Nat := 0
  /-- Frames since alignment, and consecutive B1 failures among the first 16. -/
  frames : Nat := 0
  b1Bad : Nat := 0
  /-- A position excluded after a false lock, and until when (true time). -/
  excl : Option (Nat × Nat) := none
  lof : Bool := false
  los : Bool := false
  j0 : List Byte := []
  j0Last : List Byte := []
  j0Run : Nat := 0
  j0Acc : Option (List Byte) := none
  msAis : Bool := false
  msRdi : Bool := false
  k2Run : Nat × Nat := (0, 0)
  k2Not : Nat × Nat := (0, 0)
  s1Run : Nat × Nat := (0, 0)
  b2 : Nat := 0
  paths : NMap PathSt := []
  tribs : NMap TribSt := []
  /-- Defects in force: entity and code (R543). -/
  defs : List (Nat × Nat) := []
  /-- Cause 4 of R529. -/
  down : Bool := false
  /-- The frame sent last. -/
  tx : Option TxFrame := none
  deriving DecidableEq, Repr

/-- A port as it is after reset. -/
def LinePort.init : LinePort := {}

/-- LNU's state beside its registers and tables. -/
structure LnuSt where
  ports : NMap LinePort := []
  /-- The index of the last frame pulse. -/
  pulse : Option Nat := none
  /-- Tributaries that have raised `LNU_SLIP` in the wale. -/
  slips : List Nat := []
  /-- A FATAL event has been raised: cause 3 of R529. -/
  fatal : Bool := false
  pm : NMap PmEnt := []
  /-- The records in the TSI page's last snapshot (R87). -/
  pmSnap : NMap PmEnt := []
  /-- The wales of the last second close and of the last bin closes. -/
  second : Option Nat := none
  close15 : Option Nat := none
  close24 : Option Nat := none
  deriving DecidableEq, Repr


/-! ## DRAM Controller -/

/-- A channel of DRC beside its registers. -/
structure DrcCh where
  /-- The training step that runs, 1 to 7, and the true time of its start; 0 where none does (R575). -/
  step : Nat := 0
  at_ : Nat := 0
  /-- The lines in the write queue, oldest first, by address / 64 (R579). -/
  queue : List Nat := []
  /-- Corrected errors of each physical rank in a 24-hour bin, and that bin (R584). -/
  ce : NMap Nat := []
  ceBin : Int := 0
  /-- Ranks whose refresh rate is doubled (R582). -/
  hot : List Nat := []
  /-- The next line of patrol scrub. -/
  scrub : Nat := 0
  /-- Lines poisoned by the migration that runs (R586). -/
  bad : Nat := 0
  deriving DecidableEq, Repr

/-- A channel that is OFF. -/
def DrcCh.init : DrcCh := {}

/-- DRC's state beside its registers. -/
structure DrcSt where
  ch : NMap DrcCh := []
  /-- Reads that wait for a partial entry to drain (R579): address and what ECC will find. -/
  waits : List (Nat × Nat) := []
  /-- Writes whose writers wait for a credit (R579): address and bytes, in order of arrival. -/
  writes : List (Nat × List Byte) := []
  /-- The last read answered: address, poison and the line's bytes from there on. -/
  answer : Option (Nat × Bool × List Byte) := none
  /-- `DRC_ADDR_RANGE` has been raised in the wale. -/
  rangeTold : Bool := false
  deriving DecidableEq, Repr

/-! ## Pairing -/

/-- A compared packet that the gate holds (R615, R616): its frame, index, digest and the local instant of its digest. -/
structure GatePkt where
  frame : EscFrame
  /-- OUT_SCID, and 2^25 more for SRTCP. -/
  key : Nat
  idx : Nat
  dig : Nat
  at_ : Nat
  /-- The active has sent the packet and waits for the comparison alone. -/
  sent : Bool := false
  deriving DecidableEq, Repr

/-- A received packet that the standby holds (R606). -/
structure HeldIn where
  pkt : Pkt
  at_ : Nat
  deriving DecidableEq, Repr

/-- A PKT entry that waits for its packet (R607): its eight body words as the entry holds them, its flags, when it
arrived, and when a FETCH was sent. -/
structure WantIn where
  scid : Nat
  lane : Nat
  kind : Nat
  ts : Nat
  seq : Nat
  ulen : Nat
  dig : Nat
  flags : Nat
  at_ : Nat
  fetchAt : Option Nat := none
  deriving DecidableEq, Repr

/-- A Withy request that the standby holds (R611): the core, its target and the instant. -/
structure HoldReq where
  core : Nat
  key : Nat
  ordinal : Nat
  at_ : Nat
  deriving DecidableEq, Repr

/-- PRG's state beside its registers and tables. -/
structure PrgSt where
  /-- Messages not yet sent in a frame, oldest first. -/
  tx : List Msg := []
  /-- Frames sent and not acknowledged: sequence number, when sent last (true time), messages. -/
  unacked : List (Nat × Nat × List Msg) := []
  seqOut : Nat := 0
  /-- The sequence number of the next frame in order, and frames that arrived ahead of it. -/
  seqIn : Nat := 0
  /-- True time of the last frame received and sent. -/
  lastRx : Nat := 0
  lastTx : Nat := 0
  /-- Frames that arrived ahead of the next one in order. -/
  ahead : List (Nat × List Msg) := []
  /-- Frames that the device has put on the link: sequence number, acknowledgement, messages. -/
  wire : List (Nat × Nat × List Msg) := []
  /-- Messages delivered and not yet acted on, oldest first, each with the local instant at which it arrived. -/
  rx : List (Nat × Msg) := []
  /-- Host writes to paired pages that have not yet been carried (R598): page, page offset and value. -/
  fwd : List (Nat × Nat × Word) := []
  /-- A carried write is being applied (R598). -/
  applying : Bool := false
  /-- The first wale whose boundary follows the record (R623, R626). -/
  followFrom : Nat := 0
  /-- The entries of the section in progress (R602). -/
  section_ : List (List Byte) := []
  /-- The count and digest of the section before it. -/
  prevCount : Nat := 0
  prevDig : Nat := 0
  /-- The outcomes of the boundary in progress (R604). -/
  items : List (List Byte) := []
  /-- The wale of the BOUNDARY entry that the standby has reached. -/
  reached : Option Nat := none
  /-- The boundary items of that entry. -/
  listed : List (List Byte) := []
  /-- Sections that must still agree before LAGGING is left (R609). -/
  secBad : Bool := false
  held : List HeldIn := []
  want : List WantIn := []
  gate : List GatePkt := []
  /-- The twin's digests not yet matched: key, index, digest. -/
  digs : List (Nat × Nat × Nat) := []
  /-- The highest index that the active announced, plus 1, by key (R616). -/
  top : NMap Nat := []
  /-- The highest index that this device produced while the twins compare, plus 1, by key. -/
  mine : NMap Nat := []
  /-- Refusals that REFUSE entries name and no unit has met yet: kind and identity (R610). -/
  refusals : List (Nat × List Byte) := []
  /-- OUT_SCIDs for which an outcome event has been raised in the wale, by outcome (R617). -/
  told : List (Nat × Nat) := []
  /-- DEQ and DROP entries that no frame has met yet: DROP, and the body as the entry holds it. -/
  deqs : List (Bool × List Byte) := []
  holds : List HoldReq := []
  /-- The active's outcomes that no held request has met yet: work key, ordinal, target, status. -/
  outcomes : List (Nat × Nat × Nat × Nat) := []
  /-- Requests issued by each core's task (R603). -/
  ordinals : NMap Nat := []
  /-- A DEMOTE has arrived. -/
  demoted : Bool := false
  /-- The twin asks for bypass. -/
  twinBypass : Bool := false
  /-- The copy pointer of a join (R625). -/
  copyAt : Option Nat := none
  /-- Wales without a disagreement (R627). -/
  clean : Nat := 0
  /-- Capture points of R626 still to come. -/
  captures : List Capture := []
  /-- The wale of the last `PRG_SKEW` event of an excess that lasts (R609). -/
  skewAt : Option Nat := none
  /-- Divergences raised in the wale: cause and block type (R612). -/
  diverged : List (Nat × Nat) := []
  /-- The target of a swap that is armed, or that the active has carried to this standby. -/
  swapAt : Option Nat := none
  /-- The boundary of an automatic swap (R613). -/
  autoSwap : Option Nat := none
  /-- The BOUNDARY entry of this wale has not been written yet (R602). -/
  open_ : Option Nat := none
  /-- The installed capacity that the twin's HELLO gave (R625). -/
  twinCap : Nat := 0
  /-- The wale in which LAGGING was entered or left last. -/
  lagAt : Nat := 0
  /-- A FATAL event has been raised (R595). -/
  fatal : Bool := false
  deriving DecidableEq, Repr

/-! ## Quizil, boot and power -/

/-- The last reading of a PMBus regulator (R672, R681): its address, VOUT in mV, IOUT in units of 10 mA, its temperature
in °C and STATUS_WORD. -/
structure Regulator where
  addr : Nat
  vout : Nat
  iout : Nat
  temp : Nat
  status : Nat
  deriving DecidableEq, Repr

/-- What an unlisted byte of the NOR reads as: erased. [PRESUMED, log 8] -/
def norErased (_ : Nat) : Byte := 0xFF

/-- The management island beside its registers (R633 to R703). -/
structure QzSt where
  /-- POR_L, as deglitched, is asserted. -/
  por : Bool := true
  /-- PERST_L, as deglitched, is asserted. -/
  perst : Bool := true
  /-- MAIN_OK: the main domain is powered and out of reset. -/
  mainOk : Bool := false
  /-- MAIN_PWR_EN is high. -/
  pwrEn : Bool := false
  /-- A cause of R701 holds the main domain in reset until POR_L. -/
  down : Bool := false
  /-- THERMTRIP_L is low. -/
  tripped : Bool := false
  /-- REFCLK is present (R703). -/
  refclk : Bool := false
  /-- The step of R700 in progress, 0 for none. -/
  seq : Nat := 0
  /-- The step 3 to 7 whose rail will not come into regulation. -/
  stuck : Option Nat := none
  /-- The NOR (R637). -/
  nor : NMap Byte := []
  /-- OWNER_HASH (R636): 32 bytes, all zeros while unwritten. -/
  ownerHash : List Byte := List.replicate 32 0
  /-- Bits set in SVN_FW. -/
  svnFw : Nat := 0
  /-- UDS is locked (R641). -/
  udsLocked : Bool := false
  /-- The code section of the image that runs, as Quizil's SRAM holds it (R639). -/
  code : List Byte := []
  /-- The SM3 digest of the header booted first since POR_L. -/
  hdr : List Byte := []
  /-- BOOT_SEQ of the running image. -/
  bootSeq : Nat := 0
  /-- d_alias, while the key store holds it, and the signature of R658 over its certificate. -/
  aliasKey : Option Nat := none
  aliasSig : List Byte := []
  /-- M0 to M7 (R657). -/
  m : List (List Byte) := List.replicate 8 (List.replicate 32 0)
  /-- Firmware has started since POR_L. -/
  started : Bool := false
  /-- The watchdog has expired, and Slath has not yet started firmware again. -/
  restart : Bool := false
  /-- The platform record has been read (R650), and its bytes where it was accepted. -/
  platRead : Bool := false
  plat : Option (List Byte) := none
  /-- Modules present: 0 to 7 Ethernet cages, 8 to 11 SFP cages. -/
  present : List Nat := []
  /-- DIMMs verified, by 2 × channel + slot. -/
  dimms : List Nat := []
  /-- The SM3 digest of SPD bytes 512 to 639 of each DIMM verified (R657), by the same number. -/
  spd : NMap (List Byte) := []
  /-- Identity reads that have timed out once: kind and position (R651). -/
  retry : List (Nat × Nat) := []
  /-- True time at which the watchdog's count was started last, and whether the first write of a kick has been made. -/
  kick : Nat := 0
  half : Bool := false
  /-- The last reading of each thermal sensor, in 1/8 °C. -/
  temp : NMap (Option Int) := []
  /-- WARN and CRIT of each sensor, in 1/8 °C. -/
  tempThr : NMap (Int × Int) := []
  /-- Levels that stand: sensor × 2, and 1 more for CRIT. -/
  levels : List Nat := []
  /-- Consecutive samples of 115 °C or more. -/
  hot : NMap Nat := []
  /-- The last reading of each voltage monitor, in mV. -/
  volt : NMap (Option Nat) := []
  /-- Low and high thresholds that were set. -/
  voltThr : NMap (Option (Nat × Nat)) := []
  /-- Consecutive samples below the low and above the high threshold. -/
  voltRun : NMap (Nat × Nat) := []
  /-- True time since which a monitor has read more than 10% below nominal. -/
  under : NMap (Option Nat) := []
  /-- What PMBus commands have set, by rail × 3 + kind (0 VOUT_COMMAND, 1 VOUT_MAX, 2 a margin), in mV. -/
  sets : NMap (Option Nat) := []
  regulators : List Regulator := []
  /-- The log memory (R673), oldest first: sequence number, record and the true time of its entry. -/
  log : List (Nat × EvRec × Nat) := []
  logNext : Nat := 0
  /-- The first sequence number that the mirror does not hold. -/
  mirrored : Nat := 0
  /-- The next page of the mirror. -/
  mirrorAt : Nat := 0
  logMin : Nat := 1
  /-- A flush has been asked for. -/
  flush : Bool := false
  /-- The mailbox request outstanding: TAG and LEN. -/
  mb : Option (Nat × Nat) := none
  /-- The DRAM region for images: address and length. -/
  region : Option (Nat × Nat) := none
  /-- The configuration that PTP_CFG gave. -/
  ptp : List Byte := []
  deriving DecidableEq, Repr

/-- What outlives POR_L: the NOR, the OTP and the levels on the pins. -/
def QzSt.power (q : QzSt) : QzSt :=
  { nor := q.nor, ownerHash := q.ownerHash, svnFw := q.svnFw, present := q.present, perst := q.perst, refclk := q.refclk }

/-! ## The machine -/

/-- The block stops with a fault. The spec gives no command such an outcome: no fault has a constructor. -/
inductive Fault where
  deriving DecidableEq, Repr

/-- Why a command has no next state. -/
inductive Refusal where
  /-- A command without a meaning in the model, raised by `exec`'s arms alone; safe, since nothing is claimed of it. -/
  | notModelled (mnemonic : String)
  deriving DecidableEq, Repr

/-- The state. -/
structure State where
  /-- The commands that wait, first in, first out. -/
  pending : List Instr := []
  /-- The local clock, true time and the wale generator (R28 to R39, R544, R545). -/
  clk : Clk := {}
  /-- Every register of every page, as the window reads it: current values, and the shadows of RWS fields (R11). Keyed by page × 2^16 + page offset; an unlisted register holds its reset value. -/
  reg : NMap Word := []
  /-- The values in force of the RWS fields (R12, R67), with the same keys. -/
  act : NMap Word := []
  /-- The words that a read has latched (R5, R98), with the same keys. -/
  latch : NMap (Option Word) := []
  /-- What the last read of the window that has a command of its own returned (R5, R84): the model's own field. -/
  read : Word := 0
  /-- Low halves written and not yet in effect (R6), with the same keys. -/
  stage : NMap Word := []
  /-- The entries of every table of every page: plane 0 is the active bank, the value in force or the one plane of an unbanked table; plane 1 the standby bank or the shadow. Trailing zero words are left out. -/
  tbl : NMap (List Word) := []
  /-- The counters of class W and S (R18). -/
  ctr : NMap Nat := []
  /-- The counters of each page's last snapshot (R87), with the same keys. -/
  snap : NMap Nat := []
  /-- The entries of MXF tables 4 and 5 in that snapshot (R87, R340), with the keys of `tbl`. -/
  snapTbl : NMap (List Word) := []
  /-- What every page holds beside its registers. -/
  page : NMap PageSt := []
  /-- Commit groups 1 to 31 (R74). -/
  cgrp : NMap Cgrp := []
  /-- The event machinery (R106 to R109). -/
  ev : EvSt := {}
  /-- What the device has sent to the host, oldest first (R93, R97). -/
  host : List HostOut := []
  /-- The number of free values taken so far: the model's own field, not the spec's. -/
  free : Nat := 0
  /-- TMU. -/
  tmu : TmuSt := {}
  /-- DRAM and SRAM. -/
  mem : MemSt := {}
  /-- Creel. -/
  crl : CrlSt := {}
  /-- Coil. -/
  col : ColSt := {}
  /-- Write-backs that Pairing holds until the next boundary (R86), oldest first. -/
  deferred : List Wb := []
  /-- The VFs enabled in the SR-IOV control of the PCI pages (R167). -/
  vfEnabled : List Nat := []
  /-- Reeve. -/
  rve : RveSt := {}
  /-- The Withy cores. -/
  cores : NMap WCore := []
  /-- ICL. -/
  icl : IclSt := {}
  /-- CPE. -/
  cpe : CpeSt := {}
  /-- LFW. -/
  lfw : LfwSt := {}
  /-- ESC. -/
  esc : EscSt := {}
  /-- Quizil, boot, sensors and power. -/
  qz : QzSt := {}
  /-- Pairing. -/
  prg : PrgSt := {}
  /-- MXF. -/
  mxf : MxfSt := {}
  /-- LNU. -/
  lnu : LnuSt := {}
  /-- VCE. -/
  vce : VceSt := {}
  /-- Weave. -/
  wve : WveSt := {}
  /-- PXC. -/
  pxc : PxcSt := {}
  /-- DRC. -/
  drc : DrcSt := {}
  deriving DecidableEq, Repr

/-- The machine right after device reset: every map unlisted, every record at its initial value. [DESIGN CHOICE, log 9] -/
def State.reset : State := {}

end Sys2Proof.Machine
end

