-- ==== Sys2Proof/Machine/Ops.lean ====
section
/-!
DEFINITION. The named operations that every block shares: pages and registers, access errors, events, counters,
tables, result rings, the clock and the wale, and the ready state of a page.
-/

namespace Sys2Proof.Machine

/-! ## The page map (R60) -/

/-- The block type code and the number of a page; type 0 is an unassigned page or the debug page. -/
def pageClass (p : Nat) : Nat × Nat :=
  if p = 0 then (1, 0)
  else if p = 1 then (2, 0)
  else if p = 2 then (18, 0)
  else if 0x004 ≤ p && p ≤ 0x007 then (20, p - 0x004)
  else if 0x010 ≤ p && p ≤ 0x017 then (19, p - 0x010)
  else if 0x020 ≤ p && p ≤ 0x024 then (15, p - 0x020)
  else if p = 0x030 then (6, 0)
  else if p = 0x031 then (6, 1)
  else if p = 0x038 then (7, 0)
  else if p = 0x040 then (8, 0)
  else if 0x048 ≤ p && p ≤ 0x04F then (14, p - 0x048)
  else if p = 0x050 then (9, 0)
  else if p = 0x060 then (3, 0)
  else if p = 0x068 then (4, 0)
  else if p = 0x06C then (5, 0)
  else if 0x070 ≤ p && p ≤ 0x080 then (16, p - 0x070)
  else if 0x100 ≤ p && p ≤ 0x2FF then (10, p - 0x100)
  else if 0x300 ≤ p && p ≤ 0x327 then (11, p - 0x300)
  else if 0x330 ≤ p && p ≤ 0x331 then (12, p - 0x330)
  else if 0x338 ≤ p && p ≤ 0x33B then (13, p - 0x338)
  else if p = 0x340 then (17, 0)
  else (0, 0)

/-- The block type code of a page. -/
def pageType (p : Nat) : Nat := (pageClass p).1

/-- The debug page. -/
def debugPage : Nat := 0x3F0

/-- What `PAGE_CAPS` shows of a page's header functions (R63). -/
structure Caps where
  cmt : Bool
  snap : Bool
  bank : Bool
  tbl : Bool
  rings : Nat
  deriving DecidableEq, Repr

/-- `PAGE_CAPS` of each page (R710 and the register section of each block's chapter). -/
def pageCaps (p : Nat) : Caps :=
  match pageClass p with
  | (1, _) => ⟨false, true, false, true, 1⟩
  | (2, _) => ⟨true, true, false, true, 0⟩
  | (3, _) => ⟨true, true, false, true, 0⟩
  | (4, _) => ⟨false, true, false, true, 1⟩
  | (5, _) => ⟨false, true, false, true, 0⟩
  | (6, 0) => ⟨true, true, false, true, 0⟩
  | (6, _) => ⟨false, true, false, true, 0⟩
  | (7, _) => ⟨false, true, false, true, 0⟩
  | (8, _) => ⟨true, true, true, true, 0⟩
  | (9, _) => ⟨true, true, false, true, 0⟩
  | (10, _) => ⟨false, true, false, true, 0⟩
  | (11, _) => ⟨true, true, false, true, 0⟩
  | (12, _) => ⟨true, true, true, true, 0⟩
  | (13, _) => ⟨true, true, false, true, 0⟩
  | (14, _) => ⟨true, true, false, true, 0⟩
  | (15, 4) => ⟨true, true, true, true, 1⟩
  | (15, _) => ⟨true, true, false, true, 0⟩
  | (16, _) => ⟨false, true, false, false, 0⟩
  | (17, _) => ⟨false, true, false, true, 1⟩
  | (18, _) => ⟨false, true, false, false, 0⟩
  | (19, _) => ⟨true, true, false, false, 0⟩
  | _ => ⟨false, false, false, false, 0⟩

/-! ## Registers -/

/-- Where a register stands in the state's map. -/
def rkey (p o : Nat) : Nat := p * 65536 + o

/-- A header row exists on a page as `PAGE_CAPS` says (R63). -/
def headerExists (p o : Nat) : Bool :=
  let c := pageCaps p
  if o < 0x20 then true
  else if o < 0x30 then c.cmt
  else if o < 0x40 then true
  else if o < 0x80 then c.snap
  else if o < 0x100 then decide ((o - 0x80) / 0x20 < c.rings)
  else c.tbl

/-- A register row describes page offset `o` of page `p`. -/
def RegDesc.covers (r : RegDesc) (p o : Nat) : Bool :=
  decide (r.off ≤ o) && decide ((o - r.off) % r.stride = 0) && decide ((o - r.off) / r.stride < r.count) &&
    (if r.ty = 0 then headerExists p o
     else decide (r.ty = pageType p) && decide (r.ilo ≤ (pageClass p).2) && decide ((pageClass p).2 ≤ r.ihi))

/-- The rows among which the register at a page offset is found: those of the header, or those of the page's block. -/
def rowsAt (p o : Nat) : List RegDesc := if o < 0x100 || 0x8000 ≤ o then regRowsHdr else blockRows (pageType p)

/-- The register at a page offset, if there is one. -/
def findReg (p o : Nat) : Option RegDesc := if pageType p = 0 then none else (rowsAt p o).find? fun r => r.covers p o

/-- The reset values that the spec gives per entry of an array (R123, R217, R329, R572, R581). [DESIGN CHOICE, log 10] -/
def resetByEntry (p o : Nat) : Option Nat :=
  let at_ (base : Nat) (l : List Nat) : Option Nat :=
    if base ≤ o ∧ (o - base) % 4 = 0 ∧ o < base + 4 * l.length then l[(o - base) / 4]? else none
  if p = 0x060 then at_ 0x160 [0x2000, 0x2000, 0x2000, 0x2000, 0x80002000, 0x80002000, 0x80002000, 0x80002000]
  else if p = 0x030 then at_ 0x124 [3750000, 3515625, 3125000]
  else if p = 0x050 then
    at_ 0x140 [0x8000, 0x8000, 0x5A82, 0x49E7, 0x4000, 0x393E, 0x3441, 0x3061, 0x2D41, 0x2AAB, 0x287A, 0x2698, 0x24F3,
      0x2380, 0x2236, 0x210D, 0x2000]
  else if p = 0x080 then
    (at_ 0x140 [0x100, 0x200, 0x400, 0x800, 0x1000]).or (at_ 0x160 [15, 40, 10, 25, 5, 3, 10, 1])
  else none

/-- The value a register has after reset (R17, R60, R63). [DESIGN CHOICE, log 10] -/
def regDefault (k : Nat) : Word :=
  let p := k / 65536
  let o := k % 65536
  if o = 0x0000 then
    if pageType p = 0 then 0 else BitVec.ofNat 32 (pageType p + (pageClass p).2 * 256)
  else if o = 0x0004 then
    let c := pageCaps p
    BitVec.ofNat 32 (c.cmt.toNat + c.snap.toNat * 2 + c.bank.toNat * 4 + c.tbl.toNat * 8 + c.rings * 16)
  else
    match resetByEntry p o with
    | some v => BitVec.ofNat 32 v
    | none =>
      match findReg p o with
      | some r => BitVec.ofNat 32 r.reset
      | none => 0

/-- The mask of the RWS fields of a register. -/
def rwsMask (k : Nat) : Word :=
  match findReg (k / 65536) (k % 65536) with
  | some r => r.fields.foldl (fun m f => if f.acc = .rws then m ||| fmask f.hi f.lo else m) 0
  | none => 0

/-- The values in force of a register's RWS fields after reset. -/
def actDefault (k : Nat) : Word := regDefault k &&& rwsMask k

/-- A register as the window reads it. -/
def State.rd (s : State) (p o : Nat) : Word := NMap.get regDefault s.reg (rkey p o)

/-- Field [hi:lo] of a register. -/
def State.rf (s : State) (p o hi lo : Nat) : Nat := fld (s.rd p o) hi lo

/-- One bit of a register. -/
def State.rb (s : State) (p o i : Nat) : Bool := bit (s.rd p o) i

/-- A register given a value. -/
def State.wr (s : State) (p o : Nat) (v : Word) : State :=
  { s with reg := NMap.set regDefault s.reg (rkey p o) v }

/-- Field [hi:lo] of a register given a value. -/
def State.wfld (s : State) (p o hi lo v : Nat) : State := s.wr p o (withFld (s.rd p o) hi lo v)

/-- The values in force of a register's RWS fields (R12). -/
def State.ra (s : State) (p o : Nat) : Word := NMap.get actDefault s.act (rkey p o)

/-- Field [hi:lo] in force. -/
def State.raf (s : State) (p o hi lo : Nat) : Nat := fld (s.ra p o) hi lo

/-- A 64-bit register, from its two halves (R5). -/
def State.rd64 (s : State) (p lo hi : Nat) : Nat := (s.rd p lo).toNat + (s.rd p hi).toNat * 2 ^ 32

/-- A 64-bit register given a value. -/
def State.wr64 (s : State) (p lo hi v : Nat) : State :=
  (s.wr p lo (BitVec.ofNat 32 v)).wr p hi (BitVec.ofNat 32 (v / 2 ^ 32))

/-- A 64-bit register in force, from its two halves. -/
def State.ra64 (s : State) (p lo hi : Nat) : Nat := (s.ra p lo).toNat + (s.ra p hi).toNat * 2 ^ 32

/-- A result register's `SEQ` in [31:24] goes up by one modulo 256 (R98). -/
def State.seqUp (s : State) (p o : Nat) : State := s.wfld p o 31 24 ((s.rf p o 31 24 + 1) % 256)

/-! ## Pages -/

/-- What a page holds beside its registers. -/
def State.pg (s : State) (p : Nat) : PageSt := NMap.get (fun _ => PageSt.init) s.page p

/-- A page's own state changed. -/
def State.setPg (s : State) (p : Nat) (f : PageSt → PageSt) : State :=
  { s with page := NMap.set (fun _ => PageSt.init) s.page p (f (s.pg p)) }

/-- `PAGE_CTRL.EN`. -/
def State.enabled (s : State) (p : Nat) : Bool := s.rb p Reg.pageCtrl 0

/-- `PAGE_CTRL.FENCE`. -/
def State.fenced (s : State) (p : Nat) : Bool := s.rb p Reg.pageCtrl 1

/-- `PAGE_READY.READY`. -/
def State.ready (s : State) (p : Nat) : Bool := s.rb p Reg.pageReady 0

/-! ## The clock and the wale -/

/-- Units of the local clock in one ns (R545): 1/256 of 10^-9 ns. [DEDUCED, log 31] -/
def unitsPerNs : Nat := 256000000000

/-- The local clock's wrap (R544), in its units. -/
def clockWrap : Nat := 2 ^ 48 * 1000000000 * unitsPerNs

/-- Whole nanoseconds of local time: t of R28. -/
def State.now (s : State) : Nat := s.clk.loc / unitsPerNs

/-- The grid phase P (R28). -/
def State.gridPhase (s : State) : Nat := s.rf 1 Reg.tmuGridPhase 21 0

/-- The wale in progress as R28 computes it from the local clock. A clock that reads earlier than P is in wale -1.
[DEDUCED, log 28] -/
def State.wale28 (s : State) : Nat :=
  if s.now < s.gridPhase then 2 ^ 64 - 1 else (s.now - s.gridPhase) / 2500000

/-- B(W) of R28, in ns of local time. -/
def State.boundary (s : State) (w : Nat) : Nat := w * 2500000 + s.gridPhase

/-- `TMU_WALE_CTL.STATE`: 0 STOPPED, 1 STARTING, 2 RUNNING. -/
def State.genState (s : State) : Nat := s.rf 1 Reg.tmuWaleCtl 5 4

/-- `TMU_WALE64` (R29). -/
def State.wale64 (s : State) : Nat := if s.genState = 2 then s.clk.wale else s.wale28

/-- Every other wale number: the low 32 bits (R22). -/
def State.wale (s : State) : Nat := s.wale64 % 2 ^ 32

/-- Wale a is later than wale b, or the same (R23). -/
def waleGe (a b : Nat) : Bool := decide ((a + 2 ^ 32 - b % 2 ^ 32) % 2 ^ 32 < 2 ^ 31)

/-- Wale a is earlier than wale b (R23). -/
def waleLt (a b : Nat) : Bool := !waleGe a b

/-- Wale a is wale b or earlier (R23, R24): a target 2^31 or more wales ahead of b counts as past. -/
def waleLe (a b : Nat) : Bool := waleLt a b || decide (a % 2 ^ 32 = b % 2 ^ 32)

/-! ## The state of the pair (R597) -/

/-- The PRG page. -/
def prgPage : Nat := 0x340

/-- The state with another Pairing. -/
def State.setPrg (s : State) (f : PrgSt → PrgSt) : State := { s with prg := f s.prg }

/-- `PRG_STATUS.STATE`: 0 SOLO, 1 LINKED, 2 COPY, 3 JOINING, 4 IN_STEP, 5 LAGGING, 6 SILENT. -/
def State.prgState (s : State) : Nat := s.rf prgPage Reg.prgStatus 3 0

/-- The device is the standby. -/
def State.standby (s : State) : Bool := s.rb prgPage Reg.prgStatus 4

/-- A paired state other than SOLO. -/
def State.paired (s : State) : Bool := decide (1 ≤ s.prgState ∧ s.prgState ≤ 5)

/-- The active of a pair, which writes the Lay record. -/
def State.layActive (s : State) : Bool := s.paired && !s.standby

/-- The standby of a pair that follows the record: from the join wale or the swap on (R623, R626). -/
def State.following (s : State) : Bool :=
  s.standby && decide (3 ≤ s.prgState ∧ s.prgState ≤ 5) && waleGe s.wale s.prg.followFrom

/-! ## The passing of time -/

/-- How far the local clock moves in one ns of true time (R545). [DEDUCED, log 31] -/
def State.rate (s : State) : Nat :=
  ((unitsPerNs : Int) + (s.rd 1 Reg.tmuFreqAct).toInt).toNat

/-- n boundaries of R28 have passed: the servo's silence and, in HOLDOVER, `TMU_HOLD_WALES` count them (R553). -/
def State.passWales (s : State) (n : Nat) : State :=
  let s := { s with tmu := { s.tmu with servoCount := s.tmu.servoCount + n } }
  if s.rf 1 Reg.tmuStatus 1 0 = 2 then
    s.wr 1 Reg.tmuHoldWales (s.rd 1 Reg.tmuHoldWales + BitVec.ofNat 32 n)
  else s

/-- What blocks keep for one wale starts again (R107, R554 and the other rules that count within a wale). LFW's part follows
at `mediaBoundary`, and on a standby that follows ICL's capture budget does so with the section (R218, R606). -/
def State.waleFresh (s : State) : State :=
  { s with
    ev := { s.ev with occ := [] },
    icl := if s.following then { s.icl with exc := 0, missDrop := 0 }
      else { s.icl with hist := 0, shed := none, exc := 0, missDrop := 0 },
    cpe := { s.cpe with full := [] },
    lfw := { s.lfw with ended := none },
    tmu := { s.tmu with delivered := [], rxBad := false },
    lnu := { s.lnu with slips := [] },
    vce := { s.vce with enc := s.vce.enc.map fun e => (e.1, { e.2 with statTold := false }) },
    wve := { s.wve with told := false },
    drc := { s.drc with rangeTold := false },
    prg := { s.prg with told := [], diverged := [] } }

/-- The wale of R28 has become another while the generator does not run: it is the wale in progress (R29), and what SYS, TMU
and DRC keep for one wale starts again. [DEDUCED, log 28] -/
def State.idleWale (s : State) (w0 : Nat) : State :=
  if s.genState ≠ 2 && s.wale28 ≠ w0 then
    { s with
      ev := { s.ev with occ := [] }, tmu := { s.tmu with delivered := [], rxBad := false },
      drc := { s.drc with rangeTold := false } }
  else s

/-- The local clock reads `loc` (in its units) from now on; the boundaries of R28 it passes are counted. -/
def State.moveClock (s : State) (loc : Nat) : State :=
  let w0 := s.wale28
  let s := { s with clk := { s.clk with loc := loc % clockWrap } }
  (s.passWales (s.wale28 - w0)).idleWale w0

/-- k ns of true time pass. The local clock runs while the main domain is out of reset. [DESIGN CHOICE, log 1] -/
def State.advance (s : State) (k : Nat) : State :=
  let s := { s with clk := { s.clk with tru := s.clk.tru + k } }
  if s.qz.mainOk then s.moveClock (s.clk.loc + k * s.rate) else s

/-- Time passes to the first ns of true time at which the local clock reads t or later; none passes where it does.
[DESIGN CHOICE, log 3] -/
def State.advanceTo (s : State) (t : Nat) : State :=
  if t * unitsPerNs ≤ s.clk.loc then s
  else s.advance ((t * unitsPerNs - s.clk.loc + s.rate - 1) / s.rate)

/-- Instant t of local time lies in the wale in progress: before the next boundary, where the generator runs.
[DESIGN CHOICE, log 3] -/
def State.inWale (s : State) (t : Nat) : Bool :=
  decide (s.genState ≠ 2) || decide (t < s.boundary (s.clk.wale + 1))

/-- The wale in which inputs are accepted now: a standby that follows is in the section that it has reached (R606, R609). -/
def State.acceptWale (s : State) : Nat := if s.following then s.prg.reached.getD s.wale else s.wale

/-- A unit of a standby whose capture point has not passed: it produces nothing (R626). -/
def State.heldBack (s : State) (u : Capture) : Bool := s.standby && s.paired && s.prg.captures.contains u

/-- A step of R47 is due: the generator is RUNNING and no later step of this boundary has begun. A standby that follows
waits with steps 3 to 7 for the BOUNDARY entry of the wale (R609). [DESIGN CHOICE, log 2; DEDUCED, log 4] -/
def State.stepDue (s : State) (k : Nat) : Bool :=
  decide (s.genState = 2) && decide (1 ≤ s.clk.phase) && decide (s.clk.phase ≤ k) &&
    (decide (k ≤ 2) || !s.following || decide (s.prg.reached = some s.wale))

/-- Step k of R47 begins. [DESIGN CHOICE, log 2; DEDUCED, log 4] -/
def State.atStep (s : State) (k : Nat) : State := { s with clk := { s.clk with phase := k } }

/-! ## Free values -/

/-- The next free value. [DESIGN CHOICE, log 6] -/
def State.freeNat (s : State) : Nat := Config.free s.free

/-- The next free value is taken. [DESIGN CHOICE, log 6] -/
def State.takeFree (s : State) : State := { s with free := s.free + 1 }

/-! ## Counters (R18) and events (R100 to R109) -/

/-- Where a counter stands: its page, its name and, for counters kept per lane group or per entry, which one. -/
def ckey (p : Nat) (c : Ctr) (sub : Nat) : Nat := (p * 512 + c.ctorIdx) * 2 ^ 26 + sub

/-- The page of a key of the counters. -/
def ctrPage (k : Nat) : Nat := k / 2 ^ 26 / 512

/-- A counter's value. -/
def State.ctrAt (s : State) (p : Nat) (c : Ctr) (sub : Nat) : Nat := NMap.get (fun _ => 0) s.ctr (ckey p c sub)

/-- A counter given a value. -/
def State.setCtr (s : State) (p : Nat) (c : Ctr) (sub v : Nat) : State :=
  { s with ctr := NMap.set (fun _ => 0) s.ctr (ckey p c sub) v }

/-- A class W counter counts n more (R18). -/
def State.bumpW (s : State) (p : Nat) (c : Ctr) (sub n : Nat) : State :=
  s.setCtr p c sub ((s.ctrAt p c sub + n) % 2 ^ 64)

/-- The bit of `EVT_STATUS` that an event number sets (R101). -/
def evBit (num : Nat) : Nat := if num < 32 then num else 0

/-- Where the count of a page's records of one code in this wale stands (R107). -/
def occKey (p code : Nat) : Nat := p * 65536 + code

/-- The most records of one code a page makes in one wale (R107). -/
def occLimit : Nat := 16

/-- Every record leaves the event queue (R108). -/
def EvSt.emptied (e : EvSt) : EvSt := { e with queue := [], left := e.left + e.queue.length }

/-- A record enters Coil queue 0 unless a threshold of R109 stops it. It leaves at once when SYS ring 0 is not
enabled (R108). -/
def State.enqueueRecord (s : State) (r : EvRec) : State :=
  let lo := decide (61440 ≤ s.ev.queue.length) && decide (r.sev < 2)
  let hi := decide (65536 ≤ s.ev.queue.length)
  let s := if lo then s.bumpW 0 .sysEvtDropLo 0 1 else s
  if hi then s.bumpW 0 .sysEvtDropHi 0 1
  else if lo then s
  else if s.rb 0 Reg.ringCfg 7 then { s with ev := { s.ev with queue := s.ev.queue ++ [r] } }
  else { s with ev := { s.ev with left := s.ev.left + 1 } }

/-- Records that the log memory holds (R673). -/
def logMax : Nat := 4096

/-- The next record overwrites one that the mirror does not have (R675). -/
def State.logLoses (s : State) : Bool :=
  decide (logMax ≤ s.qz.log.length) && (match s.qz.log with | x :: _ => decide (s.qz.mirrored ≤ x.1) | [] => false)

/-- A record enters the log memory, which keeps the last 4,096 (R673). -/
def State.logPut (s : State) (r : EvRec) : State :=
  { s with qz := { s.qz with
      log := (if logMax ≤ s.qz.log.length then s.qz.log.tail else s.qz.log) ++ [(s.qz.logNext, r, s.clk.tru)],
      logNext := s.qz.logNext + 1 } }

/-- The log takes its copy of a record (R663, R673): QZM codes, and severities of `LOG_MIN` and above. A record that it
overwrites before the mirror has it is lost (R675). [DEDUCED, log 77] -/
def State.logRecord (s : State) (r : EvRec) : State :=
  if r.code / 256 ≠ 0x12 ∧ r.sev < s.qz.logMin then s
  else
    let t := (s.logPut r).bumpW 2 .qzmLogRecords 0 1
    if s.logLoses then t.setCtr 2 .qzmLogLost 0 (min (t.ctrAt 2 .qzmLogLost 0 + 1) 0xFFFFFFFF) else t

/-- A record is made: suppressed under R107, or copied to Quizil and put into the queue. -/
def State.record (s : State) (r : EvRec) : State :=
  let n := NMap.get (fun _ => 0) s.ev.occ (occKey r.page r.code)
  if occLimit ≤ n then
    { s.bumpW 0 .sysEvtSuppressed 0 1 with ev := { s.ev with since := s.ev.since + 1 } }
  else
    let s := { s with ev := { s.ev with occ := NMap.set (fun _ => 0) s.ev.occ (occKey r.page r.code) (n + 1) } }
    (s.logRecord r).enqueueRecord r

/-- A memory error on the active of a pair IN_STEP sets the boundary of an automatic swap (R613). -/
def State.memError (s : State) (e : Event) : State :=
  if [Event.drcUe, .drcNoSpare, .wdsMemUe].contains e && s.rb prgPage Reg.prgCtl 2 && !s.standby && s.prgState = 4 &&
      s.prg.autoSwap.isNone then
    s.setPrg fun p => { p with autoSwap := some ((s.wale + 2) % 2 ^ 32) }
  else s

/-- The status bit of an event code, and `EVT_FIRST` where no bit was set (R101). -/
def State.markEvent (s : State) (p code : Nat) : State :=
  let st := s.rd p Reg.evtStatus
  let s := if st = 0 then s.wfld p Reg.evtFirst 15 0 code else s
  s.wr p Reg.evtStatus (st ||| fmask (evBit (code % 256)) (evBit (code % 256)))

/-- A page raises an event: the status bit, `EVT_FIRST`, and a record where `EVT_ENABLE` or the severity asks for one
(R101 to R105). -/
def State.raiseOnce (s : State) (p : Nat) (e : Event) (arg arg2 : Nat) (forced : Bool) : State :=
  let s := if forced then s else s.memError e
  let code := e.code (pageType p)
  let t := s.markEvent p code
  if s.rb p Reg.evtEnable (evBit (code % 256)) || 2 ≤ e.severity.code then
    t.record { code := code, page := p, sev := e.severity.code, forced := forced, wale := s.wale,
               arg := arg % 2 ^ 32, arg2 := arg2 % 2 ^ 32 }
  else t

/-- A page raises an event. Where its record makes the class S counter `QZM_LOG_LOST` reach its largest value, the QZM page
raises `PAGE_SAT` for it (R18, R100). [DEDUCED, log 23] -/
def State.raiseWith (s : State) (p : Nat) (e : Event) (arg arg2 : Nat) (forced : Bool) : State :=
  let t := s.raiseOnce p e arg arg2 forced
  if s.ctrAt 2 .qzmLogLost 0 ≠ 0xFFFFFFFF && t.ctrAt 2 .qzmLogLost 0 = 0xFFFFFFFF then
    t.raiseOnce 2 .pageSat (Ctr.qzmLogLost).offset 0 false
  else t

/-- The standby diverges (R612): once per cause and block in a wale. The class S counter `PRG_DIVERGE` counts it. -/
def State.diverge (s : State) (cause ty : Nat) : State :=
  if s.standby && s.paired && !s.prg.diverged.contains (cause, ty) then
    let n := s.ctrAt prgPage .prgDiverge 0
    let s := s.setPrg fun p => { p with diverged := p.diverged ++ [(cause, ty)] }
    let s := s.setCtr prgPage .prgDiverge 0 (min (n + 1) 0xFFFFFFFF)
    let s := if n = 0xFFFFFFFE then s.raiseWith prgPage .pageSat (Ctr.prgDiverge).offset 0 false else s
    s.raiseWith prgPage .prgDiverge (cause + ty * 2 ^ 8) 0 false
  else s

/-- Events that tell of a poisoned line or a fault of the device's own (R612). -/
def ownFaults : List Event :=
  [.crlMetaPoison, .iclCtxPoison, .cpeKeyPoison, .cpeKeyTamper, .cpeStatePoison, .wdsMemUe, .pageReadyLost]

/-- A page raises an event of its own accord. A poisoned line or a fault of a standby makes it diverge (R612). -/
def State.raise (s : State) (p : Nat) (e : Event) (arg arg2 : Nat) : State :=
  let s := s.raiseWith p e arg arg2 false
  if ownFaults.contains e then s.diverge 4 (pageType p) else s

/-- A counter counts n more. A class S counter stops at its largest value and raises `PAGE_SAT` when it reaches it
(R18, R89, R100). -/
def State.bumpAt (s : State) (p : Nat) (c : Ctr) (sub n satOff : Nat) : State :=
  match c.cls with
  | .w => s.bumpW p c sub n
  | .s =>
    let v := s.ctrAt p c sub
    let v' := min (v + n) 0xFFFFFFFF
    let s' := s.setCtr p c sub v'
    if v < 0xFFFFFFFF && v' = 0xFFFFFFFF then s'.raise p .pageSat satOff (if satOff ≥ 0x8000 then sub else 0) else s'

/-- A page's counter counts one more. -/
def State.bump (s : State) (p : Nat) (c : Ctr) : State := s.bumpAt p c 0 1 c.offset

/-- A page's counter counts n more. -/
def State.bumpN (s : State) (p : Nat) (c : Ctr) (n : Nat) : State := s.bumpAt p c 0 n c.offset

/-- A lane group's counter counts n more; lane group k's counters stand 0x80 × k further on (R226, R508). -/
def State.bumpLane (s : State) (p k : Nat) (c : Ctr) (n : Nat) : State := s.bumpAt p c k n (c.offset + 0x80 * k)

/-! ## Access errors (R99) -/

/-- `FUNC` and `QZ` of `ERR_INFO`. -/
def srcErrBits : Src → Nat
  | .pf => 0
  | .vf n => n % 16 * 2 ^ 20
  | .qz => 2 ^ 24

/-- An access error is captured, or only counted while a capture is held. -/
def State.accessErr (s : State) (p o cause : Nat) (src : Src) (v : Word) : State :=
  let s := s.bump p .errCount
  if s.rb p Reg.errInfo 31 then s
  else
    let info := BitVec.ofNat 32 (o + cause * 2 ^ 16 + srcErrBits src + 2 ^ 31)
    let s := ((s.wr p Reg.errInfo info).wr p Reg.errData v).wr p Reg.errWale (BitVec.ofNat 32 s.wale)
    s.raise p .pageAccessErr info.toNat 0

/-! ## Tables (R16, R80 to R86) -/

/-- Where a table entry stands. Plane 0 is the active bank, the value in force or an unbanked table; plane 1 the
standby bank or the shadow. -/
def tkey (p t plane e : Nat) : Nat := ((p * 32 + t) * 2 + plane) * 2 ^ 25 + e

/-- Words without trailing zeros, so that equal entries are equal data. -/
def stripWords (ws : List Word) : List Word := (ws.reverse.dropWhile (fun w => w == 0)).reverse

/-- The owner ID of a port after reset (R152). -/
def ownerDefault (port : Nat) : Nat :=
  if port ≤ 511 then 17 + port / 4
  else if port ≤ 527 then 145 + (port - 512)
  else if port ≤ 551 then 161 + (port - 528)
  else if port ≤ 575 then 185 + (port - 552)
  else if port ≤ 591 then 1 + (port - 576)
  else 0

/-- What a table entry reads after reset: zeros (R16), but for the owner map, table 1 of CRL (R152). -/
def tblDefault (k : Nat) : List Word :=
  if k / 2 ^ 25 = (0x068 * 32 + 1) * 2 && k % 2 ^ 25 < 593 then
    stripWords [BitVec.ofNat 32 (ownerDefault (k % 2 ^ 25))]
  else []

/-- A table entry's words. -/
def State.tget (s : State) (p t plane e : Nat) : List Word := NMap.get tblDefault s.tbl (tkey p t plane e)

/-- Word i of a table entry. -/
def State.tw (s : State) (p t plane e i : Nat) : Word := (s.tget p t plane e).getD i 0

/-- Field [hi:lo] of word i of a table entry. -/
def State.tf (s : State) (p t plane e i hi lo : Nat) : Nat := fld (s.tw p t plane e i) hi lo

/-- A table entry given its words. -/
def State.tset (s : State) (p t plane e : Nat) (ws : List Word) : State :=
  { s with tbl := NMap.set tblDefault s.tbl (tkey p t plane e) (stripWords ws) }

/-- A list of words with word i replaced, filled up with zeros. -/
def setWord (ws : List Word) (i : Nat) (w : Word) : List Word :=
  (ws ++ List.replicate (i + 1 - ws.length) 0).set i w

/-- Word i of a table entry given a value. -/
def State.tsetW (s : State) (p t plane e i : Nat) (w : Word) : State :=
  s.tset p t plane e (setWord (s.tget p t plane e) i w)

/-- Field [hi:lo] of word i of a table entry given a value. -/
def State.tsetF (s : State) (p t plane e i hi lo v : Nat) : State :=
  s.tsetW p t plane e i (withFld (s.tw p t plane e i) hi lo v)

/-- Every entry number of plane `plane` of a table that is listed, with its words. -/
def State.tlist (s : State) (p t plane : Nat) : List (Nat × List Word) :=
  s.tbl.filterMap fun (k, ws) =>
    if k / 2 ^ 25 = (p * 32 + t) * 2 + plane then some (k % 2 ^ 25, ws) else none

/-! ## Result rings (R90 to R97) -/

/-- Offset of ring k's register `base` (an offset of ring 0). -/
def ringOff (base k : Nat) : Nat := base + 0x20 * k

/-- Ring k of a page is enabled. -/
def State.ringOn (s : State) (p k : Nat) : Bool := s.rb p (ringOff Reg.ringCfg k) 7

/-- Entries of ring k. -/
def State.ringSize (s : State) (p k : Nat) : Nat := 2 ^ s.rf p (ringOff Reg.ringCfg k) 4 0

/-- Entries of ring k that host software has not consumed. -/
def State.ringUsed (s : State) (p k : Nat) : Nat :=
  (s.rd p (ringOff Reg.ringTail k) - s.rd p (ringOff Reg.ringHead k)).toNat

/-- Ring k has room for an entry (R96). -/
def State.ringRoom (s : State) (p k : Nat) : Bool := decide (s.ringUsed p k < s.ringSize p k)

/-- The ring's MSI-X message where IRQ_EN is 1 (R97). -/
def State.ringIrq (s : State) (p k : Nat) : State :=
  if s.rb p (ringOff Reg.ringCfg k) 8 then
    { s with host := s.host ++ [HostOut.msix p (s.rf p (ringOff Reg.ringCfg k) 26 16)] }
  else s

/-- One entry is written into ring k, which has room: the slot's words with the phase bit in bit 31 of the last
(R93), TAIL, the message of R97 and `PAGE_RING_FULL` (R96). -/
def State.ringWrite (s : State) (p k : Nat) (ws : List Word) : State :=
  let i := s.rd p (ringOff Reg.ringTail k)
  let n := s.ringSize p k
  let esize := 16 * 2 ^ s.rf p (ringOff Reg.ringCfg k) 6 5
  let addr := s.rd64 p (ringOff Reg.ringBase k) (ringOff Reg.ringBaseHi k) + i.toNat % n * esize
  let last := esize / 4 - 1
  let ph := (i.toNat / n + 1) % 2
  let ws := setWord ws last (withFld ((ws ++ List.replicate (last + 1) 0).getD last 0) 31 31 ph)
  let wasEmpty := s.ringUsed p k = 0
  let s := { s with host := s.host ++ [HostOut.write addr ws] }
  let s := s.wr p (ringOff Reg.ringTail k) (i + 1)
  let s := if wasEmpty then s.ringIrq p k else s
  if s.ringRoom p k then s else s.raise p .pageRingFull k 0

/-! ## Ready (R36, R63, R64, R100) -/

/-- The pages whose enable holds the generator (R34): LNU, ICL, CPE, LFW, ESC, MXF, RVE, WDS, VCE, WVE, PXC, PRG. -/
def onWale (p : Nat) : Bool := [15, 6, 7, 8, 14, 9, 3, 10, 11, 12, 13, 17].contains (pageType p)

/-- The pages that need trained DRAM: ICL, CPE, LFW, VCE, WVE and PXC. -/
def needsDram (p : Nat) : Bool := p != 0x031 && [6, 7, 8, 11, 12, 13].contains (pageType p)

/-- DRC is READY: the global page's READY. -/
def State.drcReady (s : State) : Bool := s.ready 0x080

/-- Firmware is not loaded: no image in a core in service mode (R376). -/
def State.fwMissing (s : State) (p : Nat) : Bool :=
  if pageType p = 10 then !s.rb p Reg.wdsStatus 2 && !s.rb p Reg.wdsMode 0
  else false

/-- A lane group that is valid in its port's MODE, or lane group 0 where none is, has no locked ceiling (R503). -/
def State.ceilMissing (s : State) (p : Nat) : Bool :=
  let m := s.raf (0x010 + (p - 0x048)) Reg.ethPortCfg 1 0
  let ks := if m = 2 then [0, 1, 2, 3] else [0]
  ks.any fun k => !s.rb p (Reg.escCeil + 4 * k) 31

/-- The block-specific reason: CPE without its key-wrapping key (R235), ESC without a ceiling (R503), a core in Test mode
(R377), and a port whose module is not verified (R653) show 0x80. -/
def State.blkReason (s : State) (p : Nat) : Nat :=
  if pageType p = 10 && s.rb p Reg.wdsMode 0 then 0x80
  else if pageType p = 7 then (if s.cpe.kwk.isSome then 0 else 0x80)
  else if pageType p = 14 then (if s.ceilMissing p then 0x80 else 0)
  else if pageType p = 19 then (if s.rb 0 Reg.sysIdStatus ((pageClass p).2) then 0 else 0x80)
  else if pageType p = 15 && decide ((pageClass p).2 < 4) then
    (if s.rb 0 Reg.sysIdStatus (8 + (pageClass p).2) then 0 else 0x80)
  else (s.pg p).blk

/-- The lowest reason of R64 that applies, 0 when the page is ready. The QZM page is ready while firmware or the recovery
of R640 runs. -/
def State.readyReason (s : State) (p : Nat) : Nat :=
  let g := s.pg p
  if p = 2 then (if s.rf 0 Reg.sysBoot 3 2 = 0 then 0x06 else 0)
  else if g.noWale then 0x01
  else if !s.enabled p then 0x02
  else if s.fenced p then 0x03
  else if needsDram p && !s.drcReady then 0x04
  else if g.initing then 0x05
  else if s.fwMissing p then 0x06
  else if g.rstBusy then 0x07
  else if p = 0x331 && !s.ready 0x330 then 0x08
  else if g.stopped then 0x09
  else s.blkReason p

/-- `PAGE_READY` follows the reasons; a rise raises `PAGE_READY_GAINED`, a fall other than by host action
`PAGE_READY_LOST` (R100). -/
def State.refreshReady (s : State) (p : Nat) (hostAct : Bool) : State :=
  let r := s.readyReason p
  let was := s.ready p
  let s := (s.wfld p Reg.pageReady 0 0 (if r = 0 then 1 else 0)).wfld p Reg.pageReady 15 8 r
  if r = 0 && !was then s.raise p .pageReadyGained 0 0
  else if r ≠ 0 && was && !hostAct then s.raise p .pageReadyLost r 0
  else s

/-- Several pages' ready states are brought up to date. -/
def State.refreshAll (s : State) (ps : List Nat) (hostAct : Bool) : State :=
  ps.foldl (fun s p => s.refreshReady p hostAct) s

/-- Every page that needs trained DRAM, 0x330 before 0x331. -/
def dramPages : List Nat :=
  [0x030, 0x038, 0x040] ++ List.range' 0x300 0x28 ++ [0x330, 0x331, 0x338, 0x339, 0x33A, 0x33B]

end Sys2Proof.Machine
end

