-- ==== Sys2Proof/Machine/Mem.lean ====
section
/-!
DEFINITION. The memories: bytes of DRAM, of the packet buffer and of the other SRAM, little-endian numbers in them
(R7), poisoned lines (R584), and the ports and owners of R112 and R152.
-/

namespace Sys2Proof.Machine

/-- What an unlisted byte of memory reads as. [PRESUMED, log 8] -/
def byte0 (_ : Nat) : Byte := 0

/-- The number that bytes spell, least significant first (R7). -/
def leNat : List Byte → Nat
  | [] => 0
  | b :: r => b.toNat + 256 * leNat r

/-- The number that bytes spell in network order (R7). -/
def beNat (bs : List Byte) : Nat := leNat bs.reverse

/-- n bytes of a number, least significant first. -/
def leBytes : Nat → Nat → List Byte
  | 0, _ => []
  | n + 1, v => BitVec.ofNat 8 v :: leBytes n (v / 256)

/-- n bytes of a number in network order. -/
def beBytes (n v : Nat) : List Byte := (leBytes n v).reverse

/-- The bytes of words, each least significant byte first. -/
def wordBytes (ws : List Word) : List Byte := ws.flatMap fun w => leBytes 4 w.toNat

/-- Bytes put into a map from an address on. -/
def putBytes (m : NMap Byte) (a : Nat) : List Byte → NMap Byte
  | [] => m
  | b :: r => putBytes (NMap.set byte0 m a b) (a + 1) r

/-- The canonical form of the memories. -/
abbrev Memory.wf (m : MemSt) : Prop :=
  NMap.wf byte0 m.dram ∧ NMap.wf (fun _ => none) m.queued ∧ NMap.wf byte0 m.pkt ∧ NMap.wf byte0 m.sram

/-- The state with other memories. -/
def State.setMem (s : State) (f : MemSt → MemSt) : State := { s with mem := f s.mem }

/-! ## DRAM addresses (R572 to R574) -/

/-- Channels, c = log2 of them, and row bits, as `DRC_GEOM` gives them. -/
def State.drcBits (s : State) : Nat := 2 + s.rf 0x080 Reg.drcGeom 1 0
def State.drcC (s : State) : Nat := 2 ^ s.drcBits
def State.drcRb (s : State) : Nat := 16 + s.rf 0x080 Reg.drcGeom 5 5

/-- k of R572. -/
def State.drcGrain (s : State) : Nat := s.rf 0x080 Reg.drcMap 4 0

/-- The channel of an address. -/
def State.drcChan (s : State) (a : Nat) : Nat :=
  let k := s.drcGrain
  let c := s.drcBits
  ((List.range 42).filter fun i => decide (k + c * i < 42)).foldl (fun x i => x ^^^ (a / 2 ^ (k + c * i) % 2 ^ c)) 0

/-- The line within its channel of an address. -/
def State.drcLine (s : State) (a : Nat) : Nat :=
  let k := s.drcGrain
  (a / 2 ^ (k + s.drcBits) * 2 ^ k + a % 2 ^ k) / 64

/-- The logical rank of an address. -/
def State.drcRank (s : State) (a : Nat) : Nat := s.drcLine a / 2 ^ (13 + s.drcRb)

/-- The DRAM address of a line of a channel: the inverse of R572. -/
def State.drcAddr (s : State) (ch line : Nat) : Nat :=
  let k := s.drcGrain
  let c := s.drcBits
  let upper := line * 64 / 2 ^ k
  let rest := s.drcChan (upper * 2 ^ (k + c))
  upper * 2 ^ (k + c) + (ch ^^^ rest) * 2 ^ k + line * 64 % 2 ^ k

/-- CAP. -/
def State.drcCap (s : State) : Nat := s.rd64 0x080 Reg.drcCap Reg.drcCapHi

/-- Reads of an address return poison and writes to it are discarded: it lies at CAP or above (R574), or in a logical rank
retired without migration (R587). -/
def State.dramLost (s : State) (a : Nat) : Bool :=
  decide (s.drcCap ≤ a) || (s.mem.dead ≠ [] && s.mem.dead.contains (s.drcChan a, s.drcRank a))

/-- A request at CAP or above is counted, and raised once in the wale (R574). -/
def State.rangeErr (s : State) (a : Nat) : State :=
  let s := s.bump 0x080 .drcRangeErr
  if s.drc.rangeTold then s
  else State.raise { s with drc := { s.drc with rangeTold := true } } 0x080 .drcAddrRange (a % 2 ^ 32) 0

/-- A byte of DRAM: from a write queue where it waits there (R579), else from the array. [PRESUMED, log 8] -/
def State.dramByte (s : State) (a : Nat) : Byte :=
  match NMap.get (fun _ => none) s.mem.queued a with
  | some b => b
  | none => NMap.get byte0 s.mem.dram a

/-- n bytes of DRAM. -/
def State.dramBytes (s : State) (a n : Nat) : List Byte := (List.range n).map fun i => s.dramByte (a + i)

/-- One byte written to DRAM: into the write queue where its line waits there. What lies out of range is discarded. -/
def State.dramSet (s : State) (a : Nat) (b : Byte) : State :=
  if s.dramLost a then s
  else if (NMap.get (fun _ => none) s.mem.queued a).isSome then
    s.setMem fun m => { m with queued := NMap.set (fun _ => none) m.queued a (some b) }
  else s.setMem fun m => { m with dram := NMap.set byte0 m.dram a b }

/-- Bytes put into DRAM from an address on. -/
def State.dramFill (s : State) (a : Nat) : List Byte → State
  | [] => s
  | b :: r => (s.dramSet a b).dramFill (a + 1) r

/-- Bytes written to DRAM from an address on. A line that is written whole is no longer poisoned (R580, R584). -/
def State.dramPut (s : State) (a : Nat) (bs : List Byte) : State :=
  let s := s.dramFill a bs
  if s.mem.poison = [] then s
  else s.setMem fun m => { m with poison := m.poison.filter fun l => !decide (a ≤ l * 64 ∧ l * 64 + 64 ≤ a + bs.length) }

/-- A byte of the other SRAM. -/
def State.sramByte (s : State) (a : Nat) : Byte := NMap.get byte0 s.mem.sram a

/-- Bytes written to the other SRAM. -/
def State.sramPut (s : State) (a : Nat) (bs : List Byte) : State :=
  s.setMem fun m => { m with sram := putBytes m.sram a bs }

/-- A byte of the packet buffer. -/
def State.pktByte (s : State) (a : Nat) : Byte := NMap.get byte0 s.mem.pkt a

/-- Bytes written to the packet buffer. -/
def State.pktPut (s : State) (a : Nat) (bs : List Byte) : State :=
  s.setMem fun m => { m with pkt := putBytes m.pkt a bs }

/-- Byte address a lies in a poisoned line. -/
def State.poisoned (s : State) (a : Nat) : Bool := s.mem.poison.contains (a / 64) || s.dramLost a

/-- n bytes from address a touch a poisoned line. -/
def State.poisonedAt (s : State) (a n : Nat) : Bool :=
  s.mem.poison.any (fun l => decide (l * 64 < a + n ∧ a < l * 64 + 64)) ||
    (decide (0 < n) && (s.dramLost a || s.dramLost (a + n - 1)))

/-! ## Ports and owners (R112, R152) -/

/-- The page of the agent behind a producer port, 0xFFF for the functions and Quizil. -/
def portPage (port : Nat) : Nat :=
  if port ≤ 511 then 0x100 + port
  else if port ≤ 527 then 0x300 + (port - 512)
  else if port ≤ 551 then 0x310 + (port - 528)
  else if port ≤ 573 then
    [0x001, 0x024, 0x030, 0x038, 0x040, 0x048, 0x049, 0x04A, 0x04B, 0x04C, 0x04D, 0x04E, 0x04F, 0x050, 0x060,
     0x330, 0x331, 0x338, 0x339, 0x33A, 0x33B, 0x340].getD (port - 552) 0xFFF
  else 0xFFF

/-- The port of a register access (R112). -/
def srcPort : Src → Nat
  | .pf => 576
  | .vf n => 576 + n
  | .qz => 592

/-- Ports that reach Creel, Coil and Reeve through registers: the functions and Quizil. -/
def viaRegs (port : Nat) : Bool := decide (576 ≤ port)

/-- The owner ID of a port (R152). -/
def State.portOwner (s : State) (port : Nat) : Nat := s.tf 0x068 1 0 port 0 7 0

/-- A port counts as fenced (R167): ports 574 and 575 have neither a page nor a function, and never do. -/
def State.portFenced (s : State) (port : Nat) : Bool :=
  if port ≤ 573 then s.rb (portPage port) Reg.pageCtrl 8
  else if 577 ≤ port && port ≤ 591 then !s.vfEnabled.contains (port - 576)
  else false

/-- The first port of an owner that is not fenced. -/
def State.firstUnfenced (s : State) (owner : Nat) : Option Nat :=
  (List.range 593).find? fun p => decide (s.portOwner p = owner) && !s.portFenced p

/-! ## Who may write what -/

/-- A VF is granted a page by table 0 of the SYS page (R62); other sources need no grant. [DEDUCED, log 21] -/
def State.granted (s : State) (src : Src) (p : Nat) : Bool :=
  match src with
  | .vf n => bit (s.tw 0 0 0 p 0) n && p != 2
  | _ => true

/-- An access of `src` reaches the device's pages (R634, R640, R662): a host access while the main domain is out of reset and
PERST_L is released; one of Quizil to a page of the main domain while that is out of reset. [DEDUCED, log 22] -/
def State.reaches (s : State) (src : Src) (p : Nat) : Bool :=
  if src = .qz then s.qz.mainOk || p = 0 || p = 2 else s.qz.mainOk && !s.qz.perst

/-- In recovery the window presents the SYS page and the QZM page alone (R640). [DEDUCED, log 22] -/
def State.hidden (s : State) (src : Src) (p : Nat) : Bool := src != .qz && s.rf 0 Reg.sysBoot 3 2 = 2 && p != 0 && p != 2

/-- A write that reaches no page is discarded, and PCI page 0 captures it (R61, R62). [DEDUCED, log 5; DEDUCED, log 21] -/
def State.strayWrite (s : State) (src : Src) (o : Nat) (v : Word) : State := s.accessErr 0x004 o 3 src v

/-- A page offset that Pairing carries from the active to the standby (R598): the paired pages, with three ranges left
out. -/
def pairedOfs (p o : Nat) : Bool :=
  let t := pageType p
  let page := [3, 4, 5, 6, 7, 8, 9, 10, 11, 12, 13, 14].contains t || p = 0x024
  (p = 0 && decide (0x100 ≤ o ∧ o ≤ 0x113)) ||
    (page && !(p = 0x038 && decide (Reg.cpeKeyLoad ≤ o ∧ o ≤ Reg.cpeKeyRes)) &&
      !(t = 10 && (o = Reg.wdsMode || o = Reg.wdsTest)))

/-- A host write that Pairing carries, or that a standby discards (R598, R599). -/
def carried (src : Src) (p o : Nat) : Bool := src != .qz && pairedOfs p o

/-- A write by `src` to a page goes on only where the page exists and the source may reach it. On a standby, a host write
to a paired page is discarded; on the active of a pair, it is carried to the standby (R598, R599). Neither happens to a
write that is being applied: one carried from the active, or the effect of a write that has been carried already.
[DEDUCED, log 5; DEDUCED, log 21] -/
def State.access (s : State) (src : Src) (p o : Nat) (v : Word) (k : State → State) : State :=
  if !s.reaches src p then s
  else if pageType p = 0 || !s.granted src p || s.hidden src p then s.strayWrite src o v
  else if carried src p o && s.standby && !s.prg.applying then s.accessErr p o 10 src v
  else if carried src p o && s.layActive && !s.prg.applying then k (s.setPrg fun g => { g with fwd := g.fwd ++ [(p, o, v)] })
  else k s

/-- The function behind a port from 576 on. -/
def portSrc (port : Nat) : Src := if port = 592 then .qz else if port = 576 then .pf else .vf (port - 576)

/-- What is done while a write that has had its access is applied. -/
def State.applying (s : State) (k : State → State) : State :=
  let was := s.prg.applying
  (k (s.setPrg fun g => { g with applying := true })).setPrg fun g => { g with applying := was }

/-- A fence severs the fabric ports of its page's agents: their requests are discarded (R65). -/
def State.severed (s : State) (port : Nat) : Bool := s.fenced (portPage port)

/-- A request of a port: one that comes through registers needs access to the page, and one of an agent whose page is fenced
is discarded. -/
def State.portAccess (s : State) (port p o : Nat) (v : Word) (k : State → State) : State :=
  if viaRegs port then s.access (portSrc port) p o v k
  else if s.severed port then s
  else k s

/-- A request of a port that takes its arguments from registers: one that comes through registers writes them first, then
its GO (R162, R176, R711). -/
def State.portRequest (s : State) (port p : Nat) (args : List (Nat × Word)) (go : Nat) (k : State → State) : State :=
  match args with
  | [] => s.portAccess port p go 1 k
  | (o, v) :: r =>
    if viaRegs port then s.access (portSrc port) p o v fun s => State.portRequest (s.wr p o v) port p r go k
    else if s.severed port then s
    else k s

/-- The page offset that table window errors are captured at. -/
def tblDataOff : Nat := Reg.tblData

/-- A write-back that is discarded: captured on its page with a cause (R85, R99). -/
def State.tblRefuse (s : State) (src : Src) (p cause : Nat) (ws : List Word) : State :=
  s.accessErr p tblDataOff cause src (ws.getLastD 0)

end Sys2Proof.Machine
end

