-- ==== Sys2Proof/Machine/Task.lean ====
section
/-!
DEFINITION. What Coil and Reeve share: the tasks in flight and their descriptors (R114), and the completion records that a
queue loses when it goes off (R139).
-/

namespace Sys2Proof.Machine

/-- The RVE page. -/
def rvePage : Nat := 0x060

/-- The state with another Reeve. -/
def State.setRve (s : State) (f : RveSt → RveSt) : State := { s with rve := f s.rve }

/-- A task. -/
def State.task (s : State) (id : Nat) : Task := NMap.get (fun _ => Task.free) s.rve.tasks id

/-- A task changed; `RVE_INFLIGHT` follows. -/
def State.setTask (s : State) (id : Nat) (f : Task → Task) : State :=
  let s := s.setRve fun r => { r with tasks := NMap.set (fun _ => Task.free) r.tasks id (f (s.task id)) }
  s.wfld rvePage Reg.rveInflight 16 0 s.rve.tasks.length

/-! ## The descriptor (R114) -/

/-- Field [hi:lo] of word i of a descriptor. -/
def dfld (d : List Word) (i hi lo : Nat) : Nat := fld (d.getD i 0) hi lo

/-- Bits 12 to 14 of word 6 and the others by their names in R114. -/
def dClass (d : List Word) : Nat := dfld d 0 2 0
def dList (d : List Word) : Nat := dfld d 0 5 3
def dHasDelay (d : List Word) : Bool := dfld d 0 6 6 = 1
def dHasDeadline (d : List Word) : Bool := dfld d 0 7 7 = 1
def dDep (d : List Word) : Nat := dfld d 0 19 8
def dNsucc (d : List Word) : Nat := dfld d 0 22 20
def dNotify (d : List Word) : Bool := dfld d 0 23 23 = 1
def dOwner (d : List Word) : Nat := dfld d 0 31 24
def dDeadline (d : List Word) : Nat := dfld d 1 31 0
def dRelease (d : List Word) : Nat := dfld d 2 31 0
def dReleaseUs (d : List Word) : Nat := dfld d 3 11 0
def dCompq (d : List Word) : Nat := dfld d 3 27 16
def dEntry (d : List Word) : Nat := dfld d 4 31 0
def dBudget (d : List Word) : Nat := dfld d 5 31 0
def dAffinity (d : List Word) : Nat := dfld d 6 9 0
def dPinned (d : List Word) : Bool := dfld d 6 10 10 = 1
def dKind (d : List Word) : Nat := dfld d 6 13 12
def dImage (d : List Word) : Nat := dfld d 6 25 16

/-- The successors that a descriptor names. -/
def dSucc (d : List Word) : List Nat :=
  [dfld d 7 15 0, dfld d 7 31 16, dfld d 8 15 0, dfld d 8 31 16].take (dNsucc d)

/-- The arguments. -/
def dArg (d : List Word) (i : Nat) : Word := d.getD (9 + i) 0

/-! ## Records (R139) -/

/-- The task ID becomes free. -/
def State.freeTask (s : State) (id : Nat) : State := s.setTask id fun _ => Task.free

/-- Coil queue q is off or STOPPED from now on: the records that wait for it are lost, and their task IDs become free. -/
def State.recordsLost (s : State) (q : Nat) : State :=
  let due := (s.rve.tasks.filter fun t => decide (t.2.st = 6) && t.2.record.isSome && decide (dCompq t.2.desc = q)).map (·.1)
  due.foldl (fun s id => (s.bump rvePage .rveCompLost).freeTask id) s

end Sys2Proof.Machine
end

