-- ==== Sys2Proof/Machine/Coil.lean ====
section
/-!
DEFINITION. Coil: queues, grants, packets, the six operations and credit reclaim (R171 to R189, R713, R714).
-/

namespace Sys2Proof.Machine

/-- The COL page. -/
def colPage : Nat := 0x06C

/-- The state with another Coil. -/
def State.setCol (s : State) (f : ColSt → ColSt) : State := { s with col := f s.col }

/-- A queue's offsets and Bight. -/
def State.cq (s : State) (q : Nat) : ColQ := NMap.get (fun _ => ColQ.init) s.col.q q

/-- A queue's offsets and Bight changed. -/
def State.setCq (s : State) (q : Nat) (f : ColQ → ColQ) : State :=
  s.setCol fun c => { c with q := NMap.set (fun _ => ColQ.init) c.q q (f (s.cq q)) }

/-- A queue's size in bytes. -/
def State.qSize (s : State) (q : Nat) : Nat := 2 ^ s.tf colPage 0 0 q 2 4 0

/-- A queue is enabled and not STOPPED. -/
def State.qOn (s : State) (q : Nat) : Bool :=
  s.tf colPage 0 0 q 2 6 6 = 1 && s.tf colPage 0 0 q 2 17 17 = 0

/-- A queue's CONSUMER. -/
def State.qConsumer (s : State) (q : Nat) : Nat := s.tf colPage 0 0 q 2 16 7

/-- The address of byte o of a queue (R174). -/
def State.qAddr (s : State) (q o : Nat) : Nat :=
  (s.tw colPage 0 0 q 0).toNat + (s.tw colPage 0 0 q 1).toNat * 2 ^ 32 + o % s.qSize q

/-- A byte of a queue's storage. -/
def State.qByte (s : State) (q o : Nat) : Byte :=
  if s.tf colPage 0 0 q 2 5 5 = 1 then s.dramByte (s.qAddr q o) else s.sramByte (s.qAddr q o)

/-- n bytes of a queue's storage. -/
def State.qBytes (s : State) (q o n : Nat) : List Byte := (List.range n).map fun i => s.qByte q (o + i)

/-- Bytes written to a queue's storage. [DESIGN CHOICE, log 35] -/
def State.qPut (s : State) (q o : Nat) : List Byte → State
  | [] => s
  | b :: r =>
    (if s.tf colPage 0 0 q 2 5 5 = 1 then s.dramSet (s.qAddr q o) b else s.sramPut (s.qAddr q o) [b]).qPut q (o + 1) r

/-- A packet's header (R175): the length word and the grant word. -/
structure ColHdr where
  w0 : Nat
  w1 : Nat
  deriving DecidableEq, Repr

/-- The units of a packet. -/
def ColHdr.units (h : ColHdr) : Nat := nfld h.w0 11 0 + 1
/-- The payload length. -/
def ColHdr.len (h : ColHdr) : Nat := nfld h.w0 27 12
/-- SKIP. -/
def ColHdr.skip (h : ColHdr) : Bool := nfld h.w0 30 30 = 1
/-- DONE. -/
def ColHdr.done (h : ColHdr) : Bool := nfld h.w0 31 31 = 1
/-- GRANT. -/
def ColHdr.grant (h : ColHdr) : Nat := nfld h.w1 13 0

/-- The header at an offset. [DESIGN CHOICE, log 35] -/
def State.qHdr (s : State) (q o : Nat) : ColHdr := ⟨leNat (s.qBytes q o 4), leNat (s.qBytes q (o + 4) 4)⟩

/-- The length word of a packet (R175). -/
def lenWord (units len : Nat) (skip done : Bool) : Nat :=
  (units - 1) + len * 2 ^ 12 + skip.toNat * 2 ^ 30 + done.toNat * 2 ^ 31

/-- The distance from one offset to a later one, modulo 2^32. -/
def qDist (a b : Nat) : Nat := (b + 2 ^ 32 - a) % 2 ^ 32

/-- A header is implausible (R188). -/
def State.hdrBad (s : State) (q o : Nat) : Bool :=
  let h := s.qHdr q o
  decide (qDist o (s.cq q).wr < 16 * h.units) || decide (16 * h.units - 8 < h.len) ||
    decide (nfld h.w0 29 28 ≠ 0) || decide (nfld h.w1 31 14 ≠ 0) ||
    decide (s.tf colPage 1 0 h.grant 0 11 0 ≠ q)

/-- The queue stops (R188); the completion records that wait for it are lost (R139). -/
def State.qStop (s : State) (q o : Nat) : State :=
  ((s.tsetF colPage 0 0 q 2 17 17 1).raise colPage .colHdrBad q o).recordsLost q

/-- The grant through which a port reaches a queue (R173). -/
def State.grantOf (s : State) (q port : Nat) : Option Nat :=
  ((s.tlist colPage 1 0).find? fun (_, ws) =>
    decide (fld (ws.getD 0 0) 11 0 = q ∧ fld (ws.getD 0 0) 21 12 = port ∧ fld (ws.getD 0 0) 22 22 = 1)).map (·.1)

/-- AVAIL of a grant. -/
def State.grantAvail (s : State) (g : Nat) : Nat := s.tf colPage 1 0 g 2 21 0

/-- The answer to a port's operation; for a port that uses registers, in `COL_OP_RES` (R192). Statuses 4, 5, 6 and 9
are counted in `COL_OP_ERR` (R193). [DEDUCED, log 37] -/
def State.colAnswer (s : State) (port status ofs len : Nat) : State :=
  let s := if status = 4 || status = 5 || status = 6 || status = 9 then s.bump colPage .colOpErr else s
  let s := s.setCol fun c => { c with ans := NMap.set (fun _ => {}) c.ans port ⟨status, ofs, len⟩ }
  if viaRegs port then
    (((s.wfld colPage Reg.colOpRes 3 0 status).wr colPage Reg.colOpResOfs (BitVec.ofNat 32 ofs)).wfld
      colPage Reg.colOpResLen 15 0 len).seqUp colPage Reg.colOpRes
  else s

/-- The last answer to a port. -/
def State.colAnsOf (s : State) (port : Nat) : ColAns := NMap.get (fun _ => {}) s.col.ans port

/-- RESERVE is refused with NO_GRANT or NO_CREDIT (R193, R194). -/
def State.noCredit (s : State) (port q status : Nat) : State :=
  ((s.bump colPage .colNoCredit).raise colPage .colNoCredit (q + port * 2 ^ 16) 0).colAnswer port status 0 0

/-- RESERVE (R177, R714). -/
def State.colReserve (s : State) (port q size : Nat) : State :=
  if !s.qOn q then s.colAnswer port 8 0 0
  else
    match s.grantOf q port with
    | none => s.noCredit port q 2
    | some g =>
      if 65528 < size then s.colAnswer port 9 0 0
      else
        let u := (size + 8 + 15) / 16
        if s.grantAvail g < u then s.noCredit port q 3
        else
          let o := (s.cq q).wr
          let s := s.qPut q o (leBytes 4 (lenWord u 0 false false) ++ leBytes 4 g)
          let s := s.tsetF colPage 1 0 g 2 21 0 (s.grantAvail g - u)
          let s := s.setCq q fun c => { c with wr := (o + 16 * u) % 2 ^ 32, resv := c.resv ++ [⟨o, u, port, g, s.portOwner port⟩] }
          (s.bump colPage .colReserved).colAnswer port 0 o 0

/-- COMMIT (R178, R714). -/
def State.colCommit (s : State) (port q ofs len : Nat) (skip : Bool) : State :=
  if !s.qOn q then s.colAnswer port 8 0 0
  else
    match (s.cq q).resv.find? fun r => decide (r.ofs = ofs ∧ r.port = port) with
    | none => s.colAnswer port 5 0 0
    | some r =>
      if 16 * r.units - 8 < len then s.colAnswer port 9 0 0
      else
        let s := s.qPut q ofs (leBytes 4 (lenWord r.units len skip true))
        let s := s.setCq q fun c => { c with resv := c.resv.filter fun x => x.ofs ≠ ofs }
        s.colAnswer port 0 ofs 0

/-- NEXT's walk over skipped packets (R180): the state, and the offset and length of the packet delivered. The skipped
packets stay passed where the walk then finds none to deliver: that is R180's first step, and a NEXT that answers EMPTY has
taken it. [DESIGN CHOICE, log 35] -/
def State.nextWalk (s : State) (q : Nat) : Nat → State × Option (Nat × Nat) × Bool
  | 0 => (s, none, false)
  | n + 1 =>
    let o := (s.cq q).rd
    if o = (s.cq q).wr then (s, none, false)
    else if s.hdrBad q o then (s.qStop q o, none, true)
    else
      let h := s.qHdr q o
      if !h.done then (s, none, false)
      else
        let s' := s.setCq q fun c => { c with rd := (o + 16 * h.units) % 2 ^ 32 }
        if h.skip then (s'.bump colPage .colSkipped).nextWalk q n
        else (s'.bump colPage .colDelivered, some (o, h.len), false)

/-- The most packets a walk can meet: one for each 16 bytes between two offsets. -/
def qFuel (a b : Nat) : Nat := qDist a b / 16 + 1

/-- NEXT (R180, R714): the state and the packet's offset and length, if one was delivered. The NEXT that itself meets the
implausible header answers QUEUE_OFF, as RELEASE does: R188 names that status for later operations alone.
[DESIGN CHOICE, log 35] -/
def State.colNext (s : State) (port q : Nat) : State × Option (Nat × Nat) :=
  if !s.qOn q then (s.colAnswer port 8 0 0, none)
  else if s.qConsumer q ≠ port then (s.colAnswer port 4 0 0, none)
  else
    match s.nextWalk q (qFuel (s.cq q).rd (s.cq q).wr) with
    | (s, some (o, l), _) => (s.colAnswer port 0 o l, some (o, l))
    | (s, none, bad) => (s.colAnswer port (if bad then 8 else 1) 0 0, none)

/-- The packets from REL to E, if E is a packet boundary there: their headers. `none` with a header that is
implausible gives its offset. -/
def State.relWalk (s : State) (q e : Nat) : Nat → Nat → List ColHdr → Option (List ColHdr) × Option Nat
  | 0, _, _ => (none, none)
  | n + 1, o, acc =>
    if o = e then (some acc, none)
    else if o = (s.cq q).rd then (none, none)
    else if s.hdrBad q o then (none, some o)
    else s.relWalk q e n ((o + 16 * (s.qHdr q o).units) % 2 ^ 32) (acc ++ [s.qHdr q o])

/-- Released packets give their units back to their grants (R182). -/
def State.giveBack (s : State) : List ColHdr → State
  | [] => s
  | h :: r => (s.tsetF colPage 1 0 h.grant 2 21 0 (s.grantAvail h.grant + h.units)).giveBack r

/-- The space from REL to E is freed (R182, R184). -/
def State.freeTo (s : State) (q e : Nat) (hs : List ColHdr) : State :=
  let c := s.cq q
  let s := (s.giveBack hs).bumpN colPage .colReleasedBytes (qDist c.rel e)
  s.setCq q fun c => { c with rel := e, stale := c.stale || (c.bset && decide (qDist c.rel c.bight < qDist c.rel e)) }

/-- RELEASE (R182, R714). -/
def State.colRelease (s : State) (port q e : Nat) : State :=
  if !s.qOn q then s.colAnswer port 8 0 0
  else if s.qConsumer q ≠ port then s.colAnswer port 4 0 0
  else
    match s.relWalk q e (qFuel (s.cq q).rel (s.cq q).rd) (s.cq q).rel [] with
    | (some hs, _) => (s.freeTo q e hs).colAnswer port 0 e 0
    | (none, some o) => (s.qStop q o).colAnswer port 8 0 0
    | (none, none) => s.colAnswer port 6 0 0

/-- DEPTH's walk (R179). -/
def State.depthWalk (s : State) (q : Nat) : Nat → Nat → Nat
  | 0, _ => 0
  | n + 1, o =>
    if o = (s.cq q).wr then 0
    else
      let h := s.qHdr q o
      if !h.done then 0
      else (if h.skip then 0 else 1) + s.depthWalk q n ((o + 16 * h.units) % 2 ^ 32)

/-- DEPTH (R179). -/
def State.qDepth (s : State) (q : Nat) : Nat := s.depthWalk q (qFuel (s.cq q).rd (s.cq q).wr) (s.cq q).rd

/-- The bytes that an event record takes in queue 0: a header and the 16 bytes of R106, in units of 16 (R175). -/
def evBytes : Nat := 32

/-- A queue's offsets. Those of queue 0 follow the event records that have entered it and left it (R108, R172). -/
def State.cqShown (s : State) (q : Nat) : ColQ :=
  if q = 0 then
    let r := s.ev.left * evBytes % 2 ^ 32
    { ColQ.init with wr := (s.ev.left + s.ev.queue.length) * evBytes % 2 ^ 32, rd := r, rel := r }
  else s.cq q

/-- DEPTH as table 2 shows it. -/
def State.depthShown (s : State) (q : Nat) : Nat := if q = 0 then s.ev.queue.length else s.qDepth q

/-- An entry of table 2 of the COL page (R174). [DESIGN CHOICE, log 35] -/
def State.qStateWords (s : State) (q : Nat) : List Word :=
  let c := s.cqShown q
  [BitVec.ofNat 32 c.wr, BitVec.ofNat 32 c.rd, BitVec.ofNat 32 c.rel, BitVec.ofNat 32 c.bight,
   BitVec.ofNat 32 (min (s.depthShown q) 65535 + c.bset.toNat * 2 ^ 16 + c.stale.toNat * 2 ^ 17)]

/-- A port holds a grant of a queue with credit for a packet of `size` bytes. -/
def State.qCredit (s : State) (port q size : Nat) : Bool :=
  match s.grantOf q port with
  | some g => decide ((size + 8 + 15) / 16 ≤ s.grantAvail g)
  | none => false

/-- A unit inside the device sends one packet: it reserves, writes the payload and commits. The Bool says that the
packet was placed. -/
def State.colSend (s : State) (port q : Nat) (payload : List Byte) : State × Bool :=
  let s := s.colReserve port q payload.length
  let a := s.colAnsOf port
  if a.status = 0 then
    (((s.qPut q (a.ofs + 8) payload).colCommit port q a.ofs payload.length false), true)
  else (s, false)

/-- A unit inside the device takes one packet and releases it: the payload, if there was one. -/
def State.colTake (s : State) (port q : Nat) : State × Option (List Byte) :=
  match s.colNext port q with
  | (s, some (o, l)) =>
    let p := s.qBytes q (o + 8) l
    (s.colRelease port q (s.cq q).rd, some p)
  | (s, none) => (s, none)

/-! ## Write-backs -/

/-- The RW bits of a queue entry (R171). -/
def queueMask (ws : List Word) : List Word := [ws.getD 0 0, ws.getD 1 0, ws.getD 2 0 &&& fmask 16 0, 0]

/-- Bytes of the other SRAM. -/
def sramBytes : Nat := 2 ^ 25

/-- An enabled queue entry holds valid fields (R16, R171); a queue in SRAM lies within the 32 MB of the other SRAM. -/
def queueOk (ws : List Word) : Bool :=
  let l := fld (ws.getD 2 0) 4 0
  let base := (ws.getD 0 0).toNat + (ws.getD 1 0).toNat * 2 ^ 32
  (fld (ws.getD 2 0) 5 5 = 1 || decide (base + 2 ^ l ≤ sramBytes)) && decide (12 ≤ l ∧ l ≤ 30) && decide (((ws.getD 0 0).toNat + (ws.getD 1 0).toNat * 2 ^ 32) % 2 ^ l = 0) &&
    decide (fld (ws.getD 2 0) 16 7 ≤ 592)

/-- Queue q is enabled or disabled, which discards its contents (R174, R188). The records that wait for a queue that goes off
are lost (R139), and of its grants none waits any longer for packets of the old contents (R189). The offsets of queue 0 start
again (R108). -/
def State.queueTurned (s : State) (q : Nat) (new : List Word) : State :=
  let s := ((s.tset colPage 0 0 q new).setCq q fun _ => ColQ.init).setCol fun c =>
    { c with reclaimed := c.reclaimed.filter fun g => decide (s.tf colPage 1 0 g 0 11 0 ≠ q) }
  let s := if q = 0 then { s with ev := { s.ev with left := 0 } } else s
  if fld (new.getD 2 0) 6 6 = 0 then s.recordsLost q else s

/-- The effect of a write-back of a queue entry (R172, R713). -/
def State.wbQueue (s : State) (src : Src) (q : Nat) (ws : List Word) : State :=
  let new := queueMask ws
  let old := queueMask (s.tget colPage 0 0 q)
  let en := fld (new.getD 2 0) 6 6
  let wasEn := fld (old.getD 2 0) 6 6
  let sameArea := new.getD 0 0 = old.getD 0 0 && new.getD 1 0 = old.getD 1 0 &&
    new.getD 2 0 &&& fmask 5 0 = old.getD 2 0 &&& fmask 5 0
  if q = 0 && src ≠ .qz then s.tblRefuse src colPage 7 ws
  else if en = 1 && !queueOk new then s.tblRefuse src colPage 7 ws
  else if wasEn = 1 && en = 1 then
    if sameArea then
      s.tset colPage 0 0 q (setWord (s.tget colPage 0 0 q) 2
        (withFld (s.tw colPage 0 0 q 2) 16 7 (fld (new.getD 2 0) 16 7)))
    else s.tblRefuse src colPage 7 ws
  else s.queueTurned q new

/-- The ALLOT of a queue's other enabled grants together. -/
def State.allotSum (s : State) (q except : Nat) : Nat :=
  ((s.tlist colPage 1 0).map fun (g, ws) =>
    if g ≠ except ∧ fld (ws.getD 0 0) 11 0 = q ∧ fld (ws.getD 0 0) 22 22 = 1 then fld (ws.getD 1 0) 21 0 else 0).sum

/-- The effect of a write-back of a grant (R172, R173). A grant that a reclaim disabled takes none before its AVAIL equals
ALLOT again, while its queue stays enabled (R189). -/
def State.wbGrant (s : State) (src : Src) (g : Nat) (ws : List Word) : State :=
  let w0 := ws.getD 0 0 &&& fmask 22 0
  let w1 := ws.getD 1 0 &&& fmask 21 0
  let old0 := s.tw colPage 1 0 g 0
  let old1 := s.tw colPage 1 0 g 1
  let q := fld w0 11 0
  let en := fld w0 22 22
  let wasEn := fld old0 22 22
  let oldQ := fld old0 11 0
  if (q = 0 || (wasEn = 1 && oldQ = 0)) && src ≠ .qz then s.tblRefuse src colPage 7 ws
  else if wasEn = 1 && (w0 &&& fmask 21 0 ≠ old0 &&& fmask 21 0 || w1 ≠ old1) then s.tblRefuse src colPage 7 ws
  else if en = 1 && decide (592 < fld w0 21 12) then s.tblRefuse src colPage 7 ws
  else if en = 1 && decide (2 ^ (s.tf colPage 0 0 q 2 4 0 - 4) < s.allotSum q g + w1.toNat) then
    s.tblRefuse src colPage 7 ws
  else if en = 1 && wasEn = 0 && (match s.grantOf q (fld w0 21 12) with | some g' => decide (g' ≠ g) | none => false) then
    s.tblRefuse src colPage 7 ws
  else if wasEn = 1 && en = 0 && s.tf colPage 0 0 oldQ 2 6 6 = 1 && decide (s.grantAvail g < old1.toNat) then
    s.tblRefuse src colPage 7 ws
  else if s.col.reclaimed.contains g && s.grantAvail g < old1.toNat then s.tblRefuse src colPage 7 ws
  else s.tset colPage 1 0 g [w0, w1, if en = 1 && wasEn = 0 then w1 else s.tw colPage 1 0 g 2]

/-! ## Credit reclaim -/

/-- The owner's outstanding reservations of a queue are committed as skipped (R189). -/
def State.skipResv (s : State) (owner q : Nat) : State :=
  let mine := (s.cq q).resv.filter fun r => r.owner = owner
  let s := mine.foldl (fun s r => s.qPut q r.ofs (leBytes 4 (lenWord r.units 0 true true))) s
  s.setCq q fun c => { c with resv := c.resv.filter fun r => !mine.contains r }

/-- A grant loses EN to a reclaim (R189). -/
def State.clearGrant (s : State) (g : Nat) : State :=
  let q := s.tf colPage 1 0 g 0 11 0
  let wait := s.tf colPage 1 0 g 0 22 22 = 1 && s.tf colPage 0 0 q 2 6 6 = 1 && !s.col.reclaimed.contains g
  (s.tsetF colPage 1 0 g 0 22 22 0).setCol fun c => if wait then { c with reclaimed := c.reclaimed ++ [g] } else c

/-- The owner's grants lose EN (R189). -/
def State.clearGrants (s : State) (owner : Nat) : State :=
  (s.tlist colPage 1 0).foldl (fun s (g, ws) =>
    if s.portOwner (fld (ws.getD 0 0) 21 12) = owner then s.clearGrant g else s) s

/-- A queue whose consumer is the owner's gives back what has been delivered (R189). -/
def State.reclaimConsumer (s : State) (q : Nat) : State :=
  match s.relWalk q (s.cq q).rd (qFuel (s.cq q).rel (s.cq q).rd) (s.cq q).rel [] with
  | (some hs, _) => (s.freeTo q (s.cq q).rd hs).setCq q fun c => { c with rd := c.rel, bset := false }
  | (none, some o) => (s.qStop q o).setCq q fun c => { c with rd := c.rel, bset := false }
  | (none, none) => s.setCq q fun c => { c with rd := c.rel, bset := false }

/-- What an accepted credit reclaim does (R189). -/
def State.colWalk (s : State) (owner : Nat) : State :=
  let qs := s.col.q.map (·.1)
  let s := qs.foldl (fun s q => s.skipResv owner q) s
  let s := s.clearGrants owner
  qs.foldl (fun s q => if s.tf colPage 0 0 q 2 6 6 = 1 && s.portOwner (s.qConsumer q) = owner then s.reclaimConsumer q else s) s

/-! ## The commands -/

/-- MARK (R183). -/
def State.colMark (s : State) (port q : Nat) : State :=
  if !s.qOn q then s.colAnswer port 8 0 0
  else if s.qConsumer q ≠ port then s.colAnswer port 4 0 0
  else (s.setCq q fun c => { c with bight := c.rd, bset := true, stale := false }).colAnswer port 0 0 0

/-- REWIND (R185, R186). -/
def State.colRewind (s : State) (port q : Nat) : State :=
  if !s.qOn q then s.colAnswer port 8 0 0
  else if s.qConsumer q ≠ port then s.colAnswer port 4 0 0
  else if (s.cq q).bset && !(s.cq q).stale then
    (s.setCq q fun c => { c with rd := c.bight }).colAnswer port 0 0 0
  else ((s.bump colPage .colBightStale).raise colPage .colBightStale q (s.cq q).bight).colAnswer port 7 0 0

/-- The registers of an operation: `COL_OP`, `COL_OP_ARG` and `COL_OP_LEN`, each of those that the operation takes (R176). -/
def State.colArgs (s : State) (op q : Nat) (skip : Bool) (arg len : Option Nat) : List (Nat × Word) :=
  [(Reg.colOp, BitVec.ofNat 32 (op + skip.toNat * 2 ^ 4 + q * 2 ^ 16)),
   (Reg.colOpArg, BitVec.ofNat 32 (arg.getD (s.rd colPage Reg.colOpArg).toNat)),
   (Reg.colOpLen, BitVec.ofNat 32 (len.getD (s.rd colPage Reg.colOpLen).toNat % 2 ^ 16))]

/-- R177. -/
def execReserve (port q size : Nat) (s : State) : Host.Outcome State Fault Refusal :=
  .next (s.portRequest port colPage (s.colArgs 1 q false (some size) none) Reg.colOpGo fun s => s.colReserve port q size)

/-- R178. -/
def execCommit (port q ofs len : Nat) (skip : Bool) (s : State) : Host.Outcome State Fault Refusal :=
  .next (s.portRequest port colPage (s.colArgs 2 q skip (some ofs) (some len)) Reg.colOpGo fun s => s.colCommit port q ofs len skip)

/-- R180. -/
def execNext (port q : Nat) (s : State) : Host.Outcome State Fault Refusal :=
  .next (s.portRequest port colPage (s.colArgs 3 q false none none) Reg.colOpGo fun s => (s.colNext port q).1)

/-- R182. -/
def execRelease (port q ofs : Nat) (s : State) : Host.Outcome State Fault Refusal :=
  .next (s.portRequest port colPage (s.colArgs 4 q false (some ofs) none) Reg.colOpGo fun s => s.colRelease port q ofs)

/-- R183. -/
def execMark (port q : Nat) (s : State) : Host.Outcome State Fault Refusal :=
  .next (s.portRequest port colPage (s.colArgs 5 q false none none) Reg.colOpGo fun s => s.colMark port q)

/-- R185, R186. -/
def execRewind (port q : Nat) (s : State) : Host.Outcome State Fault Refusal :=
  .next (s.portRequest port colPage (s.colArgs 6 q false none none) Reg.colOpGo fun s => s.colRewind port q)

/-- R189: a credit reclaim is refused, or is carried out. -/
def execCoilReclaim (src : Src) (owner : Nat) (s : State) : Host.Outcome State Fault Refusal :=
  .next (s.access src colPage Reg.colReclaim (BitVec.ofNat 32 (owner + 256)) fun s =>
    let refuse (arg : Nat) : State :=
      ((s.wfld colPage Reg.colReclaimRes 1 0 3).seqUp colPage Reg.colReclaimRes).raise colPage .colReclaimRefused
        (owner + arg * 2 ^ 8) 0
    if s.col.reclaim.isSome then refuse 0x3FF
    else
      match s.firstUnfenced owner with
      | some p => refuse p
      | none =>
        ((s.wfld colPage Reg.colReclaimRes 1 0 1).setCol fun c => { c with reclaim := some owner }).colWalk owner)

/-- R189: the reclaim completes. -/
def execColReclaimDone (s : State) : Host.Outcome State Fault Refusal :=
  match s.col.reclaim with
  | none => .next s
  | some owner =>
    .next (((s.wfld colPage Reg.colReclaimRes 1 0 2).seqUp colPage Reg.colReclaimRes).setCol
      (fun c => { c with reclaim := none }) |>.raise colPage .colReclaimDone owner 0)

end Sys2Proof.Machine
end

