-- ==== Sys2Proof/Machine/Creel.lean ====
section
/-!
DEFINITION. Creel: owner map, pools, the four buffer operations and reclaim by owner (R152 to R168).
-/

namespace Sys2Proof.Machine

/-- The CRL page. -/
def crlPage : Nat := 0x068

/-- The state with another Creel. -/
def State.setCrl (s : State) (f : CrlSt → CrlSt) : State := { s with crl := f s.crl }

/-- A pool's STATE: 0 OFF, 1 INIT, 2 ON (R154). -/
def State.poolState (s : State) (pool : Nat) : Nat := s.tf crlPage 0 0 pool 3 8 7

/-- A pool's COUNT. -/
def State.poolCount (s : State) (pool : Nat) : Nat := s.tf crlPage 0 0 pool 2 26 0

/-- A pool's META address. -/
def State.poolMeta (s : State) (pool : Nat) : Nat :=
  (s.tw crlPage 0 0 pool 4).toNat + (s.tw crlPage 0 0 pool 5).toNat * 2 ^ 32

/-- A pool's BASE. -/
def State.poolBase (s : State) (pool : Nat) : Nat :=
  (s.tw crlPage 0 0 pool 0).toNat + (s.tw crlPage 0 0 pool 1).toNat * 2 ^ 32

/-- The address of a buffer (R154). -/
def State.bufAddr (s : State) (handle : Nat) : Nat :=
  s.poolBase (handle / 2 ^ 26) + handle % 2 ^ 26 * 2 ^ s.tf crlPage 0 0 (handle / 2 ^ 26) 3 4 0

/-- A buffer lies in DRAM. -/
def State.bufInDram (s : State) (handle : Nat) : Bool := s.tf crlPage 0 0 (handle / 2 ^ 26) 3 5 5 = 1

/-- n bytes of a buffer from byte o on. -/
def State.bufBytes (s : State) (handle o n : Nat) : List Byte :=
  if s.bufInDram handle then s.dramBytes (s.bufAddr handle + o) n
  else (List.range n).map fun i => s.pktByte (s.bufAddr handle + o + i)

/-- Bytes written into a buffer from byte o on. -/
def State.bufPut (s : State) (handle o : Nat) (bs : List Byte) : State :=
  if s.bufInDram handle then s.dramPut (s.bufAddr handle + o) bs else s.pktPut (s.bufAddr handle + o) bs

/-- The size of a buffer. -/
def State.bufSize (s : State) (handle : Nat) : Nat := 2 ^ s.tf crlPage 0 0 (handle / 2 ^ 26) 3 4 0

/-- n bytes of a buffer from byte o on touch a poisoned line. -/
def State.bufPoisoned (s : State) (handle o n : Nat) : Bool :=
  s.bufInDram handle && s.poisonedAt (s.bufAddr handle + o) n

/-- A buffer's owner list (R162). [DESIGN CHOICE, log 35] -/
def State.owners (s : State) (handle : Nat) : List Nat := NMap.get (fun _ => []) s.crl.own handle

/-- A buffer given an owner list. -/
def State.setOwners (s : State) (handle : Nat) (l : List Nat) : State :=
  s.setCrl fun c => { c with own := NMap.set (fun _ => []) c.own handle l }

/-- Indices of a pool's buffers that cannot be allocated: held or quarantined. -/
def State.poolTaken (s : State) (pool : Nat) : List Nat :=
  ((s.crl.own.map (·.1)) ++ s.crl.quar.filter (fun h => s.owners h = [])).filterMap fun h =>
    if h / 2 ^ 26 = pool then some (h % 2 ^ 26) else none

/-- A pool's free buffers. -/
def State.poolFree (s : State) (pool : Nat) : Nat := s.poolCount pool - (s.poolTaken pool).length

/-- The free buffer with the lowest index (R158). -/
def State.lowestFree (s : State) (pool : Nat) : Option Nat :=
  let taken := s.poolTaken pool
  (List.range (taken.length + 1)).find? fun i => !taken.contains i && decide (i < s.poolCount pool)

/-- A bit of the free map (R157), in which 1 means free: level 0 has one for each buffer, and one of a higher level stands for
64 of the level below it. `State.lowestFree` is where the walk of R158 over it ends. -/
def State.freeBit (s : State) (pool : Nat) : Nat → Nat → Bool
  | 0, i => decide (i < s.poolCount pool) && !(s.poolTaken pool).contains i
  | l + 1, i => (List.range 64).any fun j => s.freeBit pool l (64 * i + j)

/-- FREE of the pool's entry follows; when it falls to 0, `CRL_POOL_EMPTY` is raised (R161). -/
def State.refreshFree (s : State) (pool : Nat) : State :=
  let old := s.tf crlPage 0 0 pool 6 26 0
  let n := s.poolFree pool
  let s := s.tsetF crlPage 0 0 pool 6 26 0 n
  if n = 0 && old ≠ 0 then s.raise crlPage .crlPoolEmpty pool 0 else s

/-- The metadata that a request for a buffer reads: its owner record and its word of level 0, of which the bytes that the
bitmap has may lie in two lines (R154, R157): an address in each line. [DESIGN CHOICE, log 35] -/
def State.metaAddrs (s : State) (handle : Nat) : List Nat :=
  let pool := handle / 2 ^ 26
  let i := handle % 2 ^ 26
  let n := s.poolCount pool
  let bits := s.poolMeta pool + 4 * n
  [s.poolMeta pool + 4 * i, bits + i / 64 * 8, bits + min (i / 64 * 8 + 7) ((n + 7) / 8 - 1)]

/-- The poisoned line that a request for a buffer meets, if any (R163, R166). -/
def State.metaPoison (s : State) (handle : Nat) : Option Nat :=
  if s.bufInDram handle then ((s.metaAddrs handle).find? fun a => s.poisoned a).map (· / 64) else none

/-- The handles of a pool whose owner record or level-0 bit lies in a line (R166). -/
def State.handlesInLine (s : State) (pool line : Nat) : List Nat :=
  let lo := line * 64
  let m := s.poolMeta pool
  let n := s.poolCount pool
  let recs := (List.range 16).filterMap fun j =>
    if m ≤ lo + 4 * j && (lo + 4 * j - m) / 4 < n then some ((lo + 4 * j - m) / 4) else none
  let bits := (List.range 64).flatMap fun j =>
    if m + 4 * n ≤ lo + j then
      (List.range 8).filterMap fun b =>
        if (lo + j - (m + 4 * n)) * 8 + b < n then some ((lo + j - (m + 4 * n)) * 8 + b) else none
    else []
  (recs ++ bits).map (pool * 2 ^ 26 + ·)

/-- A poisoned metadata line quarantines its buffers and raises `CRL_META_POISON` with the lowest of their indices (R166,
R194). [DESIGN CHOICE, log 35] -/
def State.metaErr (s : State) (pool line : Nat) : State :=
  let hs := s.handlesInLine pool line
  let s := s.setCrl fun c => { c with quar := c.quar ++ hs.filter fun h => !c.quar.contains h }
  (s.raise crlPage .crlMetaPoison pool ((hs.foldl min (hs.headD 0)) % 2 ^ 26)).refreshFree pool

/-- The status of ADD, DROP or FREE (op 2, 3 or 4) in the order of R163, 0 where it succeeds. -/
def State.crlCheck (s : State) (op owner handle newOwner : Nat) : Nat :=
  let l := s.owners handle
  if s.poolState (handle / 2 ^ 26) ≠ 2 || s.poolCount (handle / 2 ^ 26) ≤ handle % 2 ^ 26 then 8
  else if (s.metaPoison handle).isSome then 9
  else if l = [] then 5
  else if !l.contains owner then 3
  else if op ≠ 3 && l.getLast? ≠ some owner then 4
  else if op = 3 && l.getLast? = some owner then 4
  else if op = 2 && 4 ≤ l.length then 6
  else if op = 2 && (newOwner = 255 || l.contains newOwner) then 7
  else 0

/-- The answer to a port's request; for a port that uses registers, in `CRL_REQ_RES` (R191). [DEDUCED, log 37] -/
def State.crlAnswer (s : State) (port status handle : Nat) : State :=
  let s := s.setCrl fun c => { c with ans := NMap.set (fun _ => {}) c.ans port ⟨status, handle⟩ }
  if viaRegs port then
    ((s.wfld crlPage Reg.crlReqRes 3 0 status).wr crlPage Reg.crlReqResHandle (BitVec.ofNat 32 handle)).seqUp
      crlPage Reg.crlReqRes
  else s

/-- A refusal with status 3 to 7: counted, raised, and logged in ring 0 where there is room (R164, R165). -/
def State.ownRefused (s : State) (port op status handle newOwner : Nat) : State :=
  let l := s.owners handle
  let o := s.portOwner port
  let places := (List.range 4).map fun i => l.getD i 255
  let s := s.bump crlPage .crlOwnErr
  let s := s.raise crlPage .crlOwnRefused handle
    (o + port * 2 ^ 8 + op * 2 ^ 18 + l.length * 2 ^ 21 + l.getLastD 255 * 2 ^ 24)
  if s.ringOn crlPage 0 && s.ringRoom crlPage 0 then
    s.ringWrite crlPage 0
      [BitVec.ofNat 32 handle, BitVec.ofNat 32 (port + o * 2 ^ 16 + op * 2 ^ 24),
       BitVec.ofNat 32 (places.getD 0 0 + places.getD 1 0 * 2 ^ 8 + places.getD 2 0 * 2 ^ 16 + places.getD 3 0 * 2 ^ 24),
       BitVec.ofNat 32 s.wale, BitVec.ofNat 32 (status + newOwner * 2 ^ 8), 0, 0, 0]
  else s.bump crlPage .crlLogLost

/-- The refusal of ADD, DROP or FREE with a status. -/
def State.crlRefuse (s : State) (port op status handle newOwner : Nat) : State :=
  let s :=
    if 3 ≤ status && status ≤ 7 then s.ownRefused port op status handle newOwner
    else if status = 9 then
      match s.metaPoison handle with
      | some line => s.metaErr (handle / 2 ^ 26) line
      | none => s
    else s
  s.crlAnswer port status handle

/-- An owner is taken out of a buffer's list; an empty list frees the buffer (R162, R168). -/
def State.dropOwner (s : State) (handle owner : Nat) : State :=
  let s := s.setOwners handle ((s.owners handle).filter (· ≠ owner))
  if s.owners handle = [] then (s.bump crlPage .crlFreed).refreshFree (handle / 2 ^ 26) else s

/-- ALLOC for a port (R158, R161 to R163): the state and, on success, the handle. -/
def State.crlAlloc (s : State) (port pool : Nat) : State × Option Nat :=
  if s.poolState pool ≠ 2 then (s.crlAnswer port 2 0, none)
  else
    match s.lowestFree pool with
    | none => ((s.bump crlPage .crlEmpty).crlAnswer port 1 0, none)
    | some i =>
      let h := pool * 2 ^ 26 + i
      match s.metaPoison h with
      | some line => ((s.metaErr pool line).crlAnswer port 9 0, none)
      | none =>
        (((s.setOwners h [s.portOwner port]).bump crlPage .crlAlloc |>.refreshFree pool).crlAnswer port 0 h, some h)

/-- FREE for a port (R162). -/
def State.crlFree (s : State) (port handle : Nat) : State :=
  match s.crlCheck 4 (s.portOwner port) handle 0 with
  | 0 =>
    (((s.setOwners handle []).bump crlPage .crlFreed).refreshFree (handle / 2 ^ 26)).crlAnswer port 0 handle
  | st => s.crlRefuse port 4 st handle 0

/-- ADD for a port (R162). -/
def State.crlAdd (s : State) (port handle newOwner : Nat) : State :=
  match s.crlCheck 2 (s.portOwner port) handle newOwner with
  | 0 => (s.setOwners handle (s.owners handle ++ [newOwner])).crlAnswer port 0 handle
  | st => s.crlRefuse port 2 st handle newOwner

/-- DROP for a port (R162). -/
def State.crlDrop (s : State) (port handle : Nat) : State :=
  match s.crlCheck 3 (s.portOwner port) handle 0 with
  | 0 => (s.setOwners handle ((s.owners handle).filter (· ≠ s.portOwner port))).crlAnswer port 0 handle
  | st => s.crlRefuse port 3 st handle 0

/-! ## Pools -/

/-- The RW bits of a pool entry (R154). -/
def poolMask (ws : List Word) : List Word :=
  [ws.getD 0 0, ws.getD 1 0, ws.getD 2 0 &&& fmask 26 0, ws.getD 3 0 &&& fmask 6 0, ws.getD 4 0, ws.getD 5 0, 0]

/-- The areas of memory that a pool entry takes: LOC, first byte and length of the buffers and of the metadata. -/
def poolAreas (ws : List Word) : List (Nat × Nat × Nat) :=
  let n := fld (ws.getD 2 0) 26 0
  let loc := fld (ws.getD 3 0) 5 5
  [(loc, (ws.getD 0 0).toNat + (ws.getD 1 0).toNat * 2 ^ 32, n * 2 ^ fld (ws.getD 3 0) 4 0),
   (loc, (ws.getD 4 0).toNat + (ws.getD 5 0).toNat * 2 ^ 32, 4 * n + (n + 7) / 8)]

/-- Two areas share a byte. -/
def areasMeet (a b : Nat × Nat × Nat) : Bool :=
  decide (a.1 = b.1 ∧ a.2.1 < b.2.1 + b.2.2 ∧ b.2.1 < a.2.1 + a.2.2)

/-- Bytes of the packet buffer. -/
def pktBytes : Nat := 96 * 2 ^ 20

/-- The checks of R155 on an entry that sets EN. -/
def State.poolOk (s : State) (pool : Nat) (ws : List Word) : Bool :=
  let n := fld (ws.getD 2 0) 26 0
  let b := fld (ws.getD 3 0) 4 0
  let areas := poolAreas ws
  decide (1 ≤ n ∧ n ≤ 2 ^ 26 ∧ 6 ≤ b ∧ b ≤ 20) &&
  decide (((ws.getD 0 0).toNat + (ws.getD 1 0).toNat * 2 ^ 32) % 2 ^ b = 0) && decide ((ws.getD 4 0).toNat % 64 = 0) &&
  (fld (ws.getD 3 0) 5 5 = 1 || areas.all fun a => decide (a.2.1 + a.2.2 ≤ pktBytes)) &&
  ((List.range 64).all fun q =>
    decide (q = pool) || decide (s.poolState q = 0) ||
      (poolAreas (s.tget crlPage 0 0 q)).all fun a => areas.all fun b => !areasMeet a b) &&
  (fld (ws.getD 3 0) 5 5 = 0 || s.drcReady)

/-- The effect of a write-back of a pool entry (R155, R156). -/
def State.wbPool (s : State) (src : Src) (pool : Nat) (ws : List Word) : State :=
  let new := poolMask ws
  if s.poolState pool = 0 then
    if fld (new.getD 3 0) 6 6 = 0 then s.tset crlPage 0 0 pool new
    else if s.poolOk pool new then s.tset crlPage 0 0 pool (setWord new 3 (withFld (new.getD 3 0) 8 7 1))
    else s.tblRefuse src crlPage 7 ws
  else
    let old := poolMask (s.tget crlPage 0 0 pool)
    if new = setWord old 3 (withFld (old.getD 3 0) 6 6 0) && s.poolState pool = 2 &&
        s.tf crlPage 0 0 pool 6 26 0 = s.poolCount pool then
      { s.tset crlPage 0 0 pool new with
        crl := { s.crl with quar := s.crl.quar.filter fun h => h / 2 ^ 26 ≠ pool } }
    else s.tblRefuse src crlPage 7 ws

/-- The metadata of a DRAM pool has been written: a line that lies in it whole is no longer poisoned (R155, R584). -/
def State.metaWritten (s : State) (pool : Nat) : State :=
  let m := s.poolMeta pool
  let n := s.poolCount pool
  if s.bufInDram (pool * 2 ^ 26) then
    s.setMem fun r => { r with poison := r.poison.filter fun l => !decide (m ≤ l * 64 ∧ l * 64 + 64 ≤ m + 4 * n + (n + 7) / 8) }
  else s

/-- A pool becomes ON: every buffer free, every owner list empty (R155). -/
def State.poolOn (s : State) (pool : Nat) : State :=
  if s.poolState pool = 1 then
    let s := (s.metaWritten pool).setCrl fun c =>
      { c with own := NMap.keep (fun h => decide (h / 2 ^ 26 ≠ pool)) c.own, quar := c.quar.filter fun h => h / 2 ^ 26 ≠ pool }
    let s := s.tsetF crlPage 0 0 pool 3 8 7 2
    (s.tsetF crlPage 0 0 pool 6 26 0 (s.poolCount pool)).raise crlPage .crlPoolReady pool 0
  else s

/-! ## Reclaim -/

/-- One removal of a reclaim: a request, which a poisoned line refuses (R166, R168). -/
def State.reclaimOne (s : State) (owner handle : Nat) : State :=
  match s.metaPoison handle with
  | some line => s.metaErr (handle / 2 ^ 26) line
  | none => ((s.dropOwner handle owner).bump crlPage .crlReclaimed).setCrl fun c => { c with removals := c.removals + 1 }

/-- The walk of an accepted reclaim: the owner is taken out of every list of a pool that is ON (R168). -/
def State.crlWalk (s : State) (owner : Nat) : State :=
  let hs := s.crl.own.filterMap fun (h, l) =>
    if l.contains owner && s.poolState (h / 2 ^ 26) = 2 then some h else none
  hs.foldl (fun s h => s.reclaimOne owner h) s

/-- The effect of a write-back of the owner map (R153). -/
def State.wbOwnerMap (s : State) (src : Src) (port : Nat) (ws : List Word) : State :=
  match src with
  | .pf =>
    if fld (ws.getD 0 0) 7 0 = 255 || 593 ≤ port then s.tblRefuse src crlPage 7 ws
    else s.tset crlPage 1 0 port [ws.getD 0 0 &&& fmask 7 0]
  | _ => s.tblRefuse src crlPage 10 ws

/-! ## The commands -/

/-- R153. -/
def execOwnerMapWriteback (src : Src) (port : Nat) (v : Word) (s : State) : Host.Outcome State Fault Refusal :=
  .next (s.access src crlPage tblDataOff v fun s => s.wbOwnerMap src port [v])

/-- R155: the metadata has been written. -/
def execPoolReady (pool : Nat) (s : State) : Host.Outcome State Fault Refusal := .next (s.poolOn pool)

/-- The registers of a request: `CRL_REQ` and `CRL_REQ_HANDLE` (R162). -/
def State.crlArgs (s : State) (op pool owner : Nat) (handle : Word) : List (Nat × Word) :=
  let w := withFld (withFld (withFld (s.rd crlPage Reg.crlReq) 3 0 op) 9 4 pool) 23 16 owner
  [(Reg.crlReq, w), (Reg.crlReqHandle, handle)]

/-- The fields that a request leaves as they are. -/
def State.crlKeep (s : State) : Nat × Nat × Word :=
  (s.rf crlPage Reg.crlReq 9 4, s.rf crlPage Reg.crlReq 23 16, s.rd crlPage Reg.crlReqHandle)

/-- R162: ALLOC. -/
def execAlloc (port pool : Nat) (s : State) : Host.Outcome State Fault Refusal :=
  let (_, owner, handle) := s.crlKeep
  .next (s.portRequest port crlPage (s.crlArgs 1 pool owner handle) Reg.crlReqGo fun s => (s.crlAlloc port pool).1)

/-- R162: ADD. -/
def execAdd (port : Nat) (handle : Word) (owner : Nat) (s : State) : Host.Outcome State Fault Refusal :=
  let (pool, _, _) := s.crlKeep
  .next (s.portRequest port crlPage (s.crlArgs 2 pool owner handle) Reg.crlReqGo fun s => s.crlAdd port handle.toNat owner)

/-- R162: DROP. -/
def execDrop (port : Nat) (handle : Word) (s : State) : Host.Outcome State Fault Refusal :=
  let (pool, owner, _) := s.crlKeep
  .next (s.portRequest port crlPage (s.crlArgs 3 pool owner handle) Reg.crlReqGo fun s => s.crlDrop port handle.toNat)

/-- R162: FREE. -/
def execFree (port : Nat) (handle : Word) (s : State) : Host.Outcome State Fault Refusal :=
  let (pool, owner, _) := s.crlKeep
  .next (s.portRequest port crlPage (s.crlArgs 4 pool owner handle) Reg.crlReqGo fun s => s.crlFree port handle.toNat)

/-- R167: a reclaim is refused, or starts and walks the pools. -/
def execCreelReclaim (src : Src) (owner : Nat) (s : State) : Host.Outcome State Fault Refusal :=
  .next (s.access src crlPage Reg.crlReclaim (BitVec.ofNat 32 (owner + 256)) fun s =>
    let refuse (arg : Nat) : State :=
      ((s.wfld crlPage Reg.crlReclaimRes 1 0 3).seqUp crlPage Reg.crlReclaimRes).raise crlPage .crlReclaimRefused
        (owner + arg * 2 ^ 8) 0
    if s.crl.reclaim.isSome then refuse 0x3FF
    else
      match s.firstUnfenced owner with
      | some p => refuse p
      | none =>
        (s.wfld crlPage Reg.crlReclaimRes 1 0 1).setCrl (fun c => { c with reclaim := some owner, removals := 0 })
          |>.crlWalk owner)

/-- R168: the walk ends. -/
def execCrlReclaimDone (s : State) : Host.Outcome State Fault Refusal :=
  match s.crl.reclaim with
  | none => .next s
  | some owner =>
    let n := s.crl.removals
    .next (((s.wfld crlPage Reg.crlReclaimRes 1 0 2).seqUp crlPage Reg.crlReclaimRes).setCrl
      (fun c => { c with reclaim := none, removals := 0 }) |>.raise crlPage .crlReclaimDone n owner)

end Sys2Proof.Machine
end

