-- ==== Sys2Proof/Machine/Packet.lean ====
section
/-!
DEFINITION. Frames and packets as bytes: CRC-32C, the ones' complement checksum, the parser of ICL (R200 to R202), its
parse result (R221) and the key of a leg (R203).
-/

namespace Sys2Proof.Machine

/-- Byte i of a frame; a byte beyond its end reads 0. -/
def fb (f : List Byte) (i : Nat) : Nat := (f.getD i 0).toNat

/-- A 16-bit field in network order. -/
def fb16 (f : List Byte) (i : Nat) : Nat := fb f i * 256 + fb f (i + 1)

/-- A 32-bit field in network order. -/
def fb32 (f : List Byte) (i : Nat) : Nat := fb16 f i * 65536 + fb16 f (i + 2)

/-- n bytes from offset i. -/
def slice (f : List Byte) (i n : Nat) : List Byte := (f.drop i).take n

/-- One bit of the CRC-32C, in reflected form. -/
def crcBit (c : BitVec 32) : BitVec 32 := if c.getLsbD 0 then (c >>> 1) ^^^ 0x82F63B78#32 else c >>> 1

/-- One byte of the CRC-32C. -/
def crcByte (c : BitVec 32) (b : Byte) : BitVec 32 :=
  crcBit (crcBit (crcBit (crcBit (crcBit (crcBit (crcBit (crcBit (c ^^^ b.setWidth 32))))))))

/-- CRC-32C (Castagnoli), the name by which R203 and R205 call it: initial value and final complement all ones.
[PRESUMED, log 40] -/
def crc32c (bs : List Byte) : Nat := (bs.foldl crcByte 0xFFFFFFFF#32 ^^^ 0xFFFFFFFF#32).toNat

/-- The sum of a list of bytes as 16-bit words in network order, filled up with a zero byte. [PRESUMED, log 40] -/
def sum16 : List Byte → Nat
  | [] => 0
  | [a] => a.toNat * 256
  | a :: b :: r => a.toNat * 256 + b.toNat + sum16 r

/-- A sum folded to 16 bits with end-around carry. -/
def fold16 (n : Nat) : Nat :=
  let a := n % 65536 + n / 65536
  let b := a % 65536 + a / 65536
  b % 65536 + b / 65536

/-! ## Layer 2 -/

/-- Where the walk over the tags stands. -/
structure L2 where
  ty : Nat := 0
  ofs : Nat := 12
  vlans : Nat := 0
  vid : Nat := 0
  rtag : Bool := false
  rseq : Nat := 0
  frame : List Byte
  deriving DecidableEq, Repr

/-- The walk over VLAN tags and the R-TAG (R200); none for a third VLAN tag or a tag after the R-TAG. The R-TAG is
removed from the frame. [DEDUCED, log 39] -/
def l2Walk : Nat → L2 → Option L2
  | 0, _ => none
  | n + 1, l =>
    let ty := fb16 l.frame l.ofs
    if ty = 0x88A8 ∨ ty = 0x8100 then
      if l.rtag ∨ l.vlans = 2 then none
      else l2Walk n { l with vlans := l.vlans + 1, vid := fb16 l.frame (l.ofs + 2) % 4096, ofs := l.ofs + 4 }
    else if ty = 0xF1C1 then
      if l.rtag then none
      else
        l2Walk n { l with rtag := true, rseq := fb16 l.frame (l.ofs + 4),
                          frame := l.frame.take l.ofs ++ l.frame.drop (l.ofs + 6) }
    else some { l with ty := ty }

/-! ## Layers 3 and 4 -/

/-- Where a frame's packet stands: the IP version, the offsets of its IP and UDP headers, and the bytes of its IP payload. -/
structure L3 where
  ipv6 : Bool
  l3 : Nat
  udp : Nat
  plen : Nat
  deriving DecidableEq, Repr

/-- What the parser finds (R200). -/
inductive Found (α : Type) where
  | tmu (ofs : Nat) (ipv6 udp : Bool)
  | drop (c : Ctr)
  | exc (reason : Nat)
  | ok (a : α)
  deriving DecidableEq, Repr

/-- The IPv4 rows of R200. [PRESUMED, log 40] -/
def parseV4 (f : List Byte) (o : Nat) : Found L3 :=
  let ihl := fb f o % 16
  let total := fb16 f (o + 2)
  if f.length < o + 4 * ihl ∨ fold16 (sum16 (slice f o (4 * ihl))) ≠ 0xFFFF ∨ f.length < o + total then .drop .iclDropL3
  else if ihl ≠ 5 then .exc 7
  else if fb16 f (o + 6) % 16384 ≠ 0 then .exc 8
  else if fb f (o + 9) ≠ 17 then .exc 10
  else .ok ⟨false, o, o + 20, total - 20⟩

/-- The IPv6 rows of R200. [PRESUMED, log 40] -/
def parseV6 (f : List Byte) (o : Nat) : Found L3 :=
  let plen := fb16 f (o + 4)
  let nh := fb f (o + 6)
  if f.length < o + 40 + plen then .drop .iclDropL3
  else if nh = 17 then .ok ⟨true, o, o + 40, plen⟩
  else if nh = 0 ∨ nh = 43 ∨ nh = 44 ∨ nh = 60 then .exc 9
  else .exc 10

/-- The sum of the pseudo-header and the UDP segment. -/
def udpSum (f : List Byte) (p : L3) (len : Nat) : Nat :=
  (if p.ipv6 then sum16 (slice f (p.l3 + 8) 32) else sum16 (slice f (p.l3 + 12) 8)) + 17 + len +
    sum16 (slice f p.udp len)

/-- The UDP rows of R200: on success, the end of the UDP payload. -/
def parseUdp (f : List Byte) (p : L3) : Found (L3 × Nat) :=
  let len := fb16 f (p.udp + 4)
  let ck := fb16 f (p.udp + 6)
  let port := fb16 f (p.udp + 2)
  if port = 319 ∨ port = 320 then .tmu (p.udp + 8) p.ipv6 true
  else if p.plen < len ∨ len < 8 then .drop .iclDropL4
  else if ck = 0 then (if p.ipv6 then .drop .iclDropL4 else .ok (p, p.udp + len))
  else if fold16 (udpSum f p len) ≠ 0xFFFF then .drop .iclDropL4
  else .ok (p, p.udp + len)

/-- R200, after the tags: the packet and the end of its UDP payload. -/
def parseL3 (l : L2) : Found (L3 × Nat) :=
  if l.ty = 0x88F7 then .tmu (l.ofs + 2) false false
  else
    let go : Found L3 → Found (L3 × Nat)
      | .ok p => parseUdp l.frame p
      | .tmu a b c => .tmu a b c
      | .drop c => .drop c
      | .exc r => .exc r
    if l.ty = 0x0800 then go (parseV4 l.frame (l.ofs + 2))
    else if l.ty = 0x86DD then go (parseV6 l.frame (l.ofs + 2))
    else .exc 6

/-! ## RTP (R201, R202) -/

/-- The elements of an RFC 8285 header extension from offset o to e, at most `left` of them: ID, offset of the data and
length. -/
def extElems (f : List Byte) (two : Bool) (e : Nat) : Nat → Nat → Nat → List (Nat × Nat × Nat)
  | 0, _, _ => []
  | fuel + 1, o, left =>
    if e ≤ o ∨ left = 0 then []
    else if two then
      let id := fb f o
      if id = 0 then extElems f two e fuel (o + 1) left
      else
        let len := fb f (o + 1)
        if e < o + 2 + len then [] else (id, o + 2, len) :: extElems f two e fuel (o + 2 + len) (left - 1)
    else
      let id := fb f o / 16
      let len := fb f o % 16 + 1
      if id = 0 then extElems f two e fuel (o + 1) left
      else if id = 15 then []
      else if e < o + 1 + len then []
      else (id, o + 1, len) :: extElems f two e fuel (o + 1 + len) (left - 1)

/-- The offset of the RTP payload, or none where the header runs beyond the UDP payload (R202). -/
def rtpPayload (f : List Byte) (o stop : Nat) : Option Nat :=
  let h := o + 12 + 4 * (fb f o % 16)
  if stop < h then none
  else if (fb f o).testBit 4 then
    if stop < h + 4 then none
    else
      let e := h + 4 + 4 * fb16 f (h + 2)
      if stop < e then none else some e
  else some h

/-- The extension elements of an RTP packet. -/
def rtpElems (f : List Byte) (o pay : Nat) : List (Nat × Nat × Nat) :=
  let h := o + 12 + 4 * (fb f o % 16)
  if (fb f o).testBit 4 then
    let prof := fb16 f h
    if prof = 0xBEDE then extElems f false pay (pay - h) (h + 4) 16
    else if prof / 16 = 0x100 then extElems f true pay (pay - h) (h + 4) 16
    else []
  else []

/-- The UDP payload demultiplexed and parsed (R201, R202). [DEDUCED, log 39] -/
def parseRtp (f : List Byte) (base : Parse) (o stop : Nat) : Found (Parse × List (Nat × Nat × Nat) × Nat) :=
  let b := fb f o
  if stop < o + 12 then .drop .iclDropRtp
  else if b < 4 then .exc 3
  else if 20 ≤ b ∧ b ≤ 63 then .exc 4
  else if ¬ (128 ≤ b ∧ b ≤ 191) then .exc 5
  else if 192 ≤ fb f (o + 1) ∧ fb f (o + 1) ≤ 223 then
    .ok ({ base with kind := 1, pay := o + 8 }, [], fb32 f (o + 4))
  else
    match rtpPayload f o stop with
    | none => .drop .iclDropRtp
    | some pay =>
      let pad := b.testBit 5
      let n := fb f (stop - 1)
      if pad ∧ (n = 0 ∨ stop - pay < n) then .drop .iclDropRtp
      else
        .ok
          ({ base with kind := 0, m := (fb f (o + 1)).testBit 7, x := b.testBit 4, p := pad, pay := pay,
                       seq := fb16 f (o + 2), pt := fb f (o + 1) % 128, cc := b % 16, rtpTs := fb32 f (o + 4) },
            rtpElems f o pay, fb32 f (o + 8))

/-- The first element with an ID that is not 0. -/
def findElem (es : List (Nat × Nat × Nat)) (id : Nat) : Option (Nat × Nat) :=
  if id = 0 then none else (es.find? fun e => e.1 = id).map (·.2)

/-- The located elements put into the parse result: TWCC, dependency descriptor and audio level (R202, R208).
[DEDUCED, log 39] -/
def Pkt.locate (p : Pkt) (twccId ddId levelId : Nat) : Pkt :=
  let r := p.parse
  let r := match findElem p.elems twccId with
    | some (o, _) => { r with twcc := fb16 p.frame o }
    | none => r
  let r := match findElem p.elems levelId with
    | some (o, _) => { r with level := fb p.frame o }
    | none => r
  let r := match findElem p.elems ddId with
    | some (o, n) => { r with ddLen := n, ddOfs := o }
    | none => r
  { p with parse := r }

/-- The parse result's 32 bytes (R221). -/
def Parse.bytes (r : Parse) : List Byte :=
  leBytes 4 r.ts ++ leBytes 4 (r.scid + r.exc * 2 ^ 25 + r.kind * 2 ^ 30) ++ leBytes 2 r.leg ++ leBytes 1 r.lane ++
    leBytes 1 (r.ipv6.toNat + r.vlans * 2 + r.rtag.toNat * 8 + r.m.toNat * 16 + r.x.toNat * 32 + r.p.toNat * 64) ++
    leBytes 1 r.l3 ++ leBytes 1 r.udp ++ leBytes 2 r.pay ++ leBytes 2 r.seq ++ leBytes 1 r.pt ++ leBytes 1 r.cc ++
    leBytes 4 r.rtpTs ++ leBytes 2 r.twcc ++ leBytes 1 r.level ++ leBytes 1 r.ddLen ++ leBytes 2 r.ddOfs ++
    leBytes 2 r.rtagSeq

/-- An IP address as a key holds it: 16 bytes, an IPv4 address in the last four. -/
def keyAddr (f : List Byte) (ipv6 : Bool) (v4 v6 : Nat) : List Byte :=
  if ipv6 then slice f v6 16 else List.replicate 12 0 ++ slice f v4 4

/-- The 40 bytes of a frame's leg key (R203): the frame's destination is the local side. -/
def legKey (f : List Byte) (vid : Nat) (p : L3) : List Byte :=
  beBytes 2 vid ++ beBytes 1 p.ipv6.toNat ++ beBytes 1 0 ++ keyAddr f p.ipv6 (p.l3 + 16) (p.l3 + 24) ++
    slice f (p.udp + 2) 2 ++ keyAddr f p.ipv6 (p.l3 + 12) (p.l3 + 8) ++ slice f p.udp 2

/-- The key of the wildcard search: bytes 22 to 39 cleared. -/
def wildKey (k : List Byte) : List Byte := k.take 22 ++ List.replicate 18 0

/-- The set of a key. -/
def legSet (k : List Byte) : Nat := crc32c k % 16384

/-- The two buckets of a stream key (R205). -/
def sktBuckets (leg ssrc : Nat) : Nat × Nat :=
  let k := beBytes 2 leg ++ beBytes 4 ssrc
  (crc32c k % 2 ^ 24, crc32c (k ++ [0x5A]) % 2 ^ 24)

end Sys2Proof.Machine
end

