-- ==== Sys2Proof/Machine/Lay.lean ====
section
/-!
DEFINITION. What the other blocks know of Pairing: the state of the pair, and the Lay record that the active writes
(R597, R602 to R605).
-/

namespace Sys2Proof.Machine

/-- The first 64 bits of the SM3 digest of bytes. -/
def sm3First (bs : List Byte) : Nat := beNat ((Config.sm3 bs).take 8)

/-- A message for the twin. -/
def State.prgSend (s : State) (m : Msg) : State := s.setPrg fun p => { p with tx := p.tx ++ [m] }

/-- A digest goes out in a frame of its own at once: DIGEST is a channel beside LAY, and a packet leaves its twin only once its digest has
entered the link (R594, R615). -/
def State.digestSend (s : State) (key idx dig : Nat) : State :=
  let m := Msg.digest key idx dig
  s.setPrg fun p =>
    { p with wire := p.wire ++ [(p.seqOut, p.seqIn, [m])], unacked := p.unacked ++ [(p.seqOut, s.clk.tru, [m])],
             seqOut := (p.seqOut + 1) % 2 ^ 32, lastTx := s.clk.tru }

/-- An entry's bytes: type, flags, length and body, filled up to a multiple of 8 (R602). -/
def layEntry (ty flags : Nat) (body : List Byte) : List Byte :=
  let n := (body.length + 4 + 7) / 8 * 8
  beBytes 1 ty ++ beBytes 1 flags ++ beBytes 2 n ++ body ++ List.replicate (n - 4 - body.length) 0

/-- An entry is added to the section in progress and sent on LAY. -/
def State.layPut (s : State) (e : List Byte) : State :=
  ((s.setPrg fun p => { p with section_ := p.section_ ++ [e] }).prgSend (.lay e)).bump prgPage .prgLayEntries

/-- The active writes the BOUNDARY entry of the wale, where it has not yet (R602 to R604). [DEDUCED, log 66] -/
def State.closeBoundary (s : State) : State :=
  match s.prg.open_ with
  | none => s
  | some w =>
    if s.layActive then
      let p := s.prg
      let body := beBytes 4 w ++ beBytes 4 p.prevCount ++ beBytes 8 p.prevDig ++ beBytes 4 p.items.length ++ p.items.flatten
      (s.setPrg fun p => { p with open_ := none, items := [] }).layPut (layEntry 0x01 0 body)
    else s.setPrg fun p => { p with open_ := none, items := [] }

/-- The host writes that wait to be carried go out on CONFIG and enter the record as CFG entries (R598, R603). -/
def State.carryWrites (s : State) : State :=
  let l := s.prg.fwd
  l.foldl
    (fun s x =>
      (s.prgSend (.config x.1 x.2.1 x.2.2)).layPut
        (layEntry 0x08 0 (beBytes 2 x.1 ++ beBytes 2 x.2.1 ++ beBytes 4 x.2.2.toNat ++ beBytes 4 0)))
    (s.setPrg fun p => { p with fwd := [] })

/-- The active writes an entry into the Lay record, behind what precedes it in the stream. -/
def State.lay (s : State) (ty flags : Nat) (body : List Byte) : State :=
  if s.layActive then (s.closeBoundary.carryWrites).layPut (layEntry ty flags body) else s

/-- A REFUSE entry (R605): the kind and its identity fields, as 8 bytes. [DEDUCED, log 67] -/
def State.layRefuse (s : State) (kind : Nat) (ident : List Byte) : State :=
  s.lay 0x07 0 (beBytes 4 kind ++ (ident ++ List.replicate 8 0).take 8)

/-- A boundary item (R604). -/
def State.layItem (s : State) (kind a b c : Nat) : State :=
  if s.layActive then
    s.setPrg fun p => { p with items := p.items ++ [beBytes 1 kind ++ beBytes 1 0 ++ beBytes 2 a ++ beBytes 4 b ++ beBytes 8 c] }
  else s

/-- A refusal with an identity: on the standby the record decides, elsewhere the unit's own outcome `own` (R605, R610). The
Bool says that the request is refused. [DEDUCED, log 67] -/
def State.refusal (s : State) (kind : Nat) (ident : List Byte) (ty : Nat) (own : Bool) : State × Bool :=
  let key := (kind, (ident ++ List.replicate 8 0).take 8)
  if s.following then
    if s.prg.refusals.contains key then
      (s.setPrg fun p => { p with refusals := p.refusals.filter (· ≠ key) }, true)
    else if own then (s.diverge 3 ty, true)
    else (s, false)
  else if own then (s.layRefuse kind ident, true)
  else (s, false)

/-- A write-back of an unbanked table: at once in solo mode, at the next boundary in Pairing (R86). -/
def State.deferWb (s : State) (src : Src) (p t e : Nat) (ws : List Word) (now : State → State) : State :=
  if s.paired then { s with deferred := s.deferred ++ [⟨s.clk.wale, src, p, t, e, ws⟩] } else now s

/-- A write-back to a table of a page by a source that may reach it, deferred where Pairing asks for it. The active of a
pair carries the writes of `TBL_ADDR` and `TBL_DATA` that made it (R598). [DEDUCED, log 26] -/
def State.writeBack (s : State) (src : Src) (p t e : Nat) (ws : List Word) (now : State → State) : State :=
  let before := s.prg.fwd
  s.access src p tblDataOff (ws.getLastD 0) fun s =>
    let s :=
      if carried src p tblDataOff && s.layActive && !s.prg.applying then
        s.setPrg fun g =>
          { g with fwd := before ++ [(p, Reg.tblAddr, BitVec.ofNat 32 (e + t * 2 ^ 27))] ++
                     ws.map fun w => (p, tblDataOff, w) }
      else s
    s.deferWb src p t e ws now

end Sys2Proof.Machine
end

