-- ==== Sys2Proof/Machine/Icl.lean ====
section
/-!
DEFINITION. The Ethernet ports' receive side and the Ingress Classifier up to CPE: frames, legs, streams, policers, the
exception path and the write-backs of ICL's tables (R195 to R221, R717).
-/

namespace Sys2Proof.Machine

/-- The ICL page, the policer page and the CPE page. -/
def iclPage : Nat := 0x030
def polPage : Nat := 0x031
def cpePage : Nat := 0x038
def lfwPage : Nat := 0x040

/-- ICL's producer port. -/
def iclPort : Nat := 554

/-- The ETH page of a lane group. -/
def ethPage (lane : Nat) : Nat := 0x010 + lane / 4

/-- The state with another ICL. -/
def State.setIcl (s : State) (f : IclSt → IclSt) : State := { s with icl := f s.icl }

/-- The state with another CPE. -/
def State.setCpe (s : State) (f : CpeSt → CpeSt) : State := { s with cpe := f s.cpe }

/-- The state with another LFW. -/
def State.setLfw (s : State) (f : LfwSt → LfwSt) : State := { s with lfw := f s.lfw }

/-! ## Stream contexts -/

/-- Word i of a stream context (R208, R239, R270). [DESIGN CHOICE, log 38] -/
def State.ctxW (s : State) (scid i : Nat) : Word := s.tw iclPage 0 0 scid i

/-- Field [hi:lo] of word i of a stream context. -/
def State.ctx (s : State) (scid i hi lo : Nat) : Nat := fld (s.ctxW scid i) hi lo

/-- A field of a stream context given a value by the device. -/
def State.setCtx (s : State) (scid i hi lo v : Nat) : State := s.tsetF iclPage 0 0 scid i hi lo v

/-- A context in use, inbound or outbound. -/
def State.ctxIn (s : State) (scid : Nat) : Bool := s.ctx scid 0 1 0 = 1
def State.ctxOut (s : State) (scid : Nat) : Bool := s.ctx scid 0 1 0 = 3

/-- The line of a stream context in DRAM. -/
def State.ctxLine (s : State) (scid : Nat) : Nat := (s.rd64 iclPage Reg.iclCtxBase Reg.iclCtxBaseHi + 64 * scid) / 64

/-- The line of a state record in DRAM (R240). -/
def State.stateLine (s : State) (scid : Nat) : Nat := (s.rd64 cpePage Reg.cpeStateBase Reg.cpeStateBaseHi + 64 * scid) / 64

/-- A whole line is written: it is no longer poisoned. -/
def State.cleanLine (s : State) (line : Nat) : State := s.setMem fun m => { m with poison := m.poison.filter (· ≠ line) }

/-! ## Links and received frames -/

/-- A lane group is valid in its port's MODE (R195). -/
def State.laneValid (s : State) (lane : Nat) : Bool :=
  let m := s.raf (ethPage lane) Reg.ethPortCfg 1 0
  m = 2 || (m = 1 && lane % 4 = 0)

/-- Bit `b` of `ETH_LINK`, counted from the lane group's. -/
def State.setLink (s : State) (lane b v : Nat) : State := s.wfld (ethPage lane) Reg.ethLink (b + lane % 4) (b + lane % 4) v

/-- The compensated ingress timestamp of a frame that is detected now (R556). -/
def State.ingressTs (s : State) (lane : Nat) : Nat :=
  (((s.now : Int) - (BitVec.ofNat 16 (s.tf 0x001 0 0 lane 0 15 0)).toInt) % 2 ^ 64).toNat

/-- R227. -/
def execEthLinkUp (lane : Nat) (s : State) : Host.Outcome State Fault Refusal :=
  .next (if s.laneValid lane then (s.setLink lane 0 1).raise (ethPage lane) .ethLinkUp lane 0 else s)

/-- A lane group's link goes down. -/
def State.linkDown (s : State) (lane : Nat) : State :=
  if s.rb (ethPage lane) Reg.ethLink (lane % 4) then
    ((s.setLink lane 0 0).setLink lane 4 0).raise (ethPage lane) .ethLinkDown lane 0
  else s

/-- R227. -/
def execEthLinkDown (lane : Nat) (s : State) : Host.Outcome State Fault Refusal := .next (s.linkDown lane)

/-- R227. -/
def execEthHiSer (lane : Nat) (up : Bool) (s : State) : Host.Outcome State Fault Refusal :=
  .next
    (if !s.laneValid lane then s
     else if up && !s.rb (ethPage lane) Reg.ethLink (4 + lane % 4) then
       (s.setLink lane 4 1).raise (ethPage lane) .ethHiSer lane 0
     else s.setLink lane 4 up.toNat)

/-- Uncorrectable FEC codewords count while the lane group has FEC alignment, whether or not its page is READY (R198). -/
def State.fecCount (s : State) (lane n : Nat) : State :=
  if s.laneValid lane && s.rb (ethPage lane) Reg.ethLink (lane % 4) then s.bumpLane (ethPage lane) (lane % 4) .ethFecUncorr n else s

/-- A frame with a good FCS counts as received, whatever becomes of it (R226). -/
def State.frameCount (s : State) (lane len : Nat) (fcsOk : Bool) : State :=
  if fcsOk then (s.bumpLane (ethPage lane) (lane % 4) .ethRxFrames 1).bumpLane (ethPage lane) (lane % 4) .ethRxBytes len else s

/-- R197, R198: a frame ends on a lane group. [DEDUCED, log 39] -/
def execEthRxFrame (lane : Nat) (bytes : List Byte) (chk : LineCheck) (s : State) : Host.Outcome State Fault Refusal :=
  let p := ethPage lane
  let k := lane % 4
  let len := bytes.length + 4
  let t := s.ingressTs lane
  let s := s.fecCount lane chk.fec
  .next
    (if !(s.ready p && s.laneValid lane && s.rb p Reg.ethLink k) then s
     else
      match (s.frameCount lane len chk.fcsOk).crlAlloc iclPort (s.raf p Reg.ethPortCfg 7 2) with
      | (s, none) => s.bumpLane p k .ethBufEmpty 1
      | (s, some h) =>
        if len < 64 then (s.bumpLane p k .ethRunt 1).crlFree iclPort h
        else if s.raf p Reg.ethPortCfg 29 16 < len then (s.bumpLane p k .ethOversize 1).crlFree iclPort h
        else if !chk.fcsOk then (s.bumpLane p k .ethFcsErr 1).crlFree iclPort h
        else if fb16 bytes 12 = 0x8808 then (s.bumpLane p k .ethPause 1).crlFree iclPort h
        else (s.bufPut h 0 bytes).setIcl fun i => { i with rx := i.rx ++ [⟨lane, t, bytes, len, h⟩] })

/-! ## Discards and the exception path (R220, R717) -/

/-- ICL frees a buffer. -/
def State.iclFree (s : State) (handle : Nat) : State := s.crlFree iclPort handle

/-- A frame is discarded and counted. -/
def State.iclDrop (s : State) (c : Ctr) (handle : Nat) : State := (s.bump iclPage c).iclFree handle

/-- The ICL, CPE and LFW pages are all READY (R717). -/
def State.mediaReady (s : State) : Bool := s.ready iclPage && s.ready cpePage && s.ready lfwPage

/-- A frame for the exception path. -/
def State.iclExc (s : State) (r : Parse) (frame : List Byte) (reason handle : Nat) : State :=
  let r := { r with exc := reason }
  if s.raf iclPage Reg.iclExc (16 + reason) (16 + reason) = 0 || s.raf iclPage Reg.iclExc 12 12 = 0 ||
      decide (s.raf iclPage Reg.iclExcLimit 15 0 ≤ s.icl.exc) then s.iclDrop .iclExcDrop handle
  else
    match s.colSend iclPort (s.raf iclPage Reg.iclExc 11 0) (r.bytes ++ frame) with
    | (s, true) => ((s.setIcl fun i => { i with exc := i.exc + 1 }).bump iclPage .iclExcSent).iclFree handle
    | (s, false) => s.iclDrop .iclExcDrop handle

/-! ## Policers (R213 to R216) -/

/-- The unit of a policer's tokens. -/
def tokUnit : Nat := 1000000000

/-- A policer's token state. -/
def State.polState (s : State) (e : Nat) : Nat × Nat := NMap.get (fun _ => (0, 0)) s.icl.tok e

/-- A policer's token state given. -/
def State.setPol (s : State) (e : Nat) (v : Nat × Nat) : State :=
  s.setIcl fun i => { i with tok := NMap.set (fun _ => (0, 0)) i.tok e v }

/-- One policer's check of a packet of length L with ingress timestamp t (R214): the Bool says that it passes. -/
def State.police (s : State) (e len t : Nat) : State × Bool :=
  if s.tf polPage 0 0 e 0 0 0 = 0 then (s, true)
  else
    let (tok, last) := s.polState e
    let full := min (tok + (t - last) * (s.tw polPage 0 0 e 1).toNat) (s.tf polPage 0 0 e 2 23 0 * tokUnit)
    if len * tokUnit ≤ full then ((s.setPol e (full - len * tokUnit, t)).bumpW polPage .polPass e 1, true)
    else ((s.setPol e (full, t)).bumpW polPage .polDrop e 1, false)

/-- The stream policer and then the leg policer (R214). -/
def State.policePkt (s : State) (p : Pkt) : State × Bool :=
  let (s, ok) := if s.ctx p.parse.scid 2 16 16 = 1 then s.police (s.ctx p.parse.scid 2 15 0) p.len p.t else (s, true)
  if !ok then (s, false)
  else
    let w := s.tw iclPage 1 0 p.parse.leg 0
    if fld w 16 16 = 1 then s.police (fld w 15 0) p.len p.t else (s, true)

/-! ## Request queues of CPE (R230, R233, R239) -/

/-- The requests that wait in a queue. -/
def State.cpeQ (s : State) (q : Nat) : List CpeReq := NMap.get (fun _ => []) s.cpe.q q

/-- A queue's requests given; DEPTH follows. -/
def State.setCpeQ (s : State) (q : Nat) (l : List CpeReq) : State :=
  (s.setCpe fun c => { c with q := NMap.set (fun _ => []) c.q q l }).tsetF cpePage 0 0 q 1 10 0 l.length

/-- Requests that a queue holds at most. -/
def rqMax : Nat := 1024

/-- A queue is enabled and of a KIND. -/
def State.rqIs (s : State) (q kind : Nat) : Bool := s.tf cpePage 0 0 q 0 1 0 = kind && s.tf cpePage 0 0 q 0 2 2 = 1

/-- Step 6 of R199: the packet enters the request queue that its context names. -/
def State.toCpe (s : State) (p : Pkt) : State :=
  let q := s.ctx p.parse.scid 9 29 22
  if !s.rqIs q 1 then (s.bump cpePage .cpeRqDrop).iclFree p.handle
  else if rqMax ≤ (s.cpeQ q).length then
    let s := (s.bump cpePage .cpeRqDrop).iclFree p.handle
    if s.cpe.full.contains q then s
    else (s.setCpe fun c => { c with full := c.full ++ [q] }).raise cpePage .cpeRqFull q 0
  else (s.setCpeQ q (s.cpeQ q ++ [.inb p])).bump iclPage .iclToCpe

/-! ## Legs and streams (R203 to R210) -/

/-- The valid entry of a set with a key and WILDCARD: its LEG. -/
def State.legWay (s : State) (key : List Byte) (wild : Nat) : Option Nat :=
  ((List.range 8).find? fun w =>
    let ws := s.tget iclPage 2 0 (legSet key * 8 + w)
    decide (fld (ws.getD 10 0) 16 16 = 1 ∧ fld (ws.getD 10 0) 17 17 = wild) &&
      decide (wordBytes ((List.range 10).map fun i => ws.getD i 0) = key)).map
    fun w => s.tf iclPage 2 0 (legSet key * 8 + w) 10 15 0

/-- The leg of a frame (R203). -/
def State.findLeg (s : State) (key : List Byte) : Option Nat :=
  match s.legWay key 0 with
  | some g => some g
  | none => s.legWay (wildKey key) 1

/-- A slot of the stream key table. [DESIGN CHOICE, log 38] -/
def State.sktSlot (s : State) (b k : Nat) : Option (Nat × Nat × Nat) := NMap.get (fun _ => none) s.icl.skt (b * 4 + k)

/-- A slot of the stream key table given. -/
def State.setSkt (s : State) (b k : Nat) (v : Option (Nat × Nat × Nat)) : State :=
  s.setIcl fun i => { i with skt := NMap.set (fun _ => none) i.skt (b * 4 + k) v }

/-- The valid slots of the two buckets of a pair. -/
def State.sktFind (s : State) (leg ssrc : Nat) : List (Nat × Nat × Nat) :=
  let (a, b) := sktBuckets leg ssrc
  (([a, b].eraseDups).flatMap fun c => (List.range 4).filterMap fun k =>
    match s.sktSlot c k with
    | some (g, r, scid) => if g = leg ∧ r = ssrc then some (c, k, scid) else none
    | none => none)

/-- The context of a (leg, SSRC) pair. -/
def State.sktScid (s : State) (leg ssrc : Nat) : Option Nat := ((s.sktFind leg ssrc).head?).map fun x => x.2.2

/-- Valid slots of a bucket. -/
def State.sktUsed (s : State) (b : Nat) : Nat := ((List.range 4).filter fun k => (s.sktSlot b k).isSome).length

/-- The bucket that takes a pair, none where both are full (R207). -/
def State.sktBucket (s : State) (leg ssrc : Nat) : Option Nat :=
  let (a, b) := sktBuckets leg ssrc
  if s.sktUsed a = 4 ∧ s.sktUsed b = 4 then none
  else if s.sktUsed b < s.sktUsed a then some b else some a

/-- A pair is inserted. -/
def State.sktInsert (s : State) (leg ssrc scid : Nat) : State :=
  match s.sktBucket leg ssrc with
  | none => s
  | some b =>
    match (List.range 4).find? fun k => (s.sktSlot b k).isNone with
    | some k => s.setSkt b k (some (leg, ssrc, scid))
    | none => s

/-- A pair is removed. -/
def State.sktRemove (s : State) (leg ssrc : Nat) : State :=
  (s.sktFind leg ssrc).foldl (fun s x => s.setSkt x.1 x.2.1 none) s

/-! ## Frames through ICL -/

/-- Steps 5 and 6 of R199 for a packet whose context is at hand. A standby does not police: it holds the packet (R223, R606),
in the states before its join wale as well, where no entry names it. -/
def State.iclPass (s : State) (p : Pkt) : State :=
  let c := p.parse.scid
  let p := p.locate (s.ctx c 3 7 0) (s.ctx c 3 15 8) (s.ctx c 3 23 16)
  if !s.mediaReady then s.iclDrop .iclDropNotready p.handle
  else if s.icl.bad.contains c then s.iclFree p.handle
  else if !s.ctxIn c then s.iclDrop .iclDropSsrc p.handle
  else if s.standby then s.setPrg fun g => { g with held := g.held ++ [⟨p, s.now⟩] }
  else
    match s.policePkt p with
    | (s, true) => s.toCpe p
    | (s, false) => s.iclDrop .iclDropPoliced p.handle

/-- Packets that the miss queue holds at most (R209). -/
def missMax : Nat := 4096

/-- A packet whose stream is known: it proceeds, or waits for its context. -/
def State.iclStream (s : State) (p : Pkt) : State :=
  let c := p.parse.scid
  let waiting := s.icl.miss.any fun q => q.parse.scid = c
  if s.icl.bad.contains c then s.iclFree p.handle
  else if s.icl.cached.contains c && !waiting then s.iclPass p
  else if missMax ≤ s.icl.miss.length then
    (s.setIcl fun i => { i with missDrop := i.missDrop + 1 }).iclDrop .iclDropMiss p.handle
  else
    let s := if waiting then s else s.bump iclPage .iclCacheMiss
    s.setIcl fun i => { i with miss := i.miss ++ [p] }

/-- Steps 3 and 4 of R199. -/
def State.iclLookup (s : State) (p : Pkt) (key : List Byte) : State :=
  match s.findLeg key with
  | none => s.iclExc p.parse p.frame 1 p.handle
  | some g =>
    let w := s.tw iclPage 1 0 g 0
    let p := { p with parse := { p.parse with leg := g } }
    if fld w 17 17 = 0 then s.iclDrop .iclDropLeg p.handle
    else
      match s.sktScid g p.ssrc with
      | none =>
        if fld w 18 18 = 1 then s.iclExc p.parse p.frame 2 p.handle else s.iclDrop .iclDropSsrc p.handle
      | some c => s.iclStream { p with parse := { p.parse with scid := c } }

/-- R199: a frame is treated from step 1 on. -/
def State.iclTreat (s : State) (f : RxFrame) : State :=
  match l2Walk 5 { frame := f.bytes } with
  | none => s.iclDrop .iclDropL2 f.handle
  | some l =>
    let base : Parse :=
      { lane := f.lane, ts := f.t % 2 ^ 32, ipv6 := l.ty = 0x86DD, vlans := l.vlans, rtag := l.rtag, rtagSeq := l.rseq,
        l3 := l.ofs + 2 }
    match parseL3 l with
    | .tmu o v6 udp =>
      let m : PtpFrame := ⟨f.lane, f.t % 2 ^ 32, o, v6, udp, l.rtag, l.frame⟩
      State.iclFree { s with tmu := { s.tmu with rx := s.tmu.rx ++ [m] } } f.handle
    | .drop c => s.iclDrop c f.handle
    | .exc r =>
      if !s.mediaReady then s.iclDrop .iclDropNotready f.handle else s.iclExc base l.frame r f.handle
    | .ok (p, stop) =>
      if !s.mediaReady then s.iclDrop .iclDropNotready f.handle
      else
        let base := { base with udp := p.udp }
        match parseRtp l.frame base (p.udp + 8) stop with
        | .drop c => s.iclDrop c f.handle
        | .exc r => s.iclExc base l.frame r f.handle
        | .tmu _ _ _ => s
        | .ok (r, es, ssrc) =>
          s.iclLookup ⟨r, l.frame, stop, es, ssrc, f.len, f.handle, f.t⟩ (legKey l.frame l.vid p)

/-- The packet of an inbound request. -/
def CpeReq.packet? : CpeReq → Option Pkt
  | .inb p => some p
  | _ => none

/-- The packets past step 1 of R199, where they stand: in the miss queue, in CPE's request queues, and on a standby held. -/
def State.pastStep1 (s : State) : List Pkt :=
  s.icl.miss ++ (s.cpe.q.flatMap fun q => q.2.filterMap CpeReq.packet?) ++ s.prg.held.map (·.pkt)

/-- CPE or LFW has ceased to be READY: every packet past step 1 is discarded where it stands, and counted (R717). Those that
LFW has not treated yet go as well. [DEDUCED, log 39] -/
def State.dropPast (s : State) : State :=
  let ps := s.pastStep1
  let rx := s.lfw.rx
  let qs := s.cpe.q.filter fun q => q.2.any fun r => r.packet?.isSome
  let s := qs.foldl (fun s q => s.setCpeQ q.1 (q.2.filter fun r => r.packet?.isNone)) s
  let s := (s.setIcl fun i => { i with miss := [] }).setPrg fun g => { g with held := [] }
  let s := s.setLfw fun l => { l with rx := [] }
  let s := ps.foldl (fun s p => s.iclDrop .iclDropNotready p.handle) s
  rx.foldl (fun s a => (s.bump iclPage .iclDropNotready).crlFree 556 a.pkt.handle) s

/-- `k` may take CPE or LFW out of READY: packets past step 1 go with it (R717). -/
def State.mayUnready (s : State) (k : State → State) : State :=
  let was := s.ready cpePage && s.ready lfwPage
  let t := k s
  if was && !(t.ready cpePage && t.ready lfwPage) then t.dropPast else t

/-- R199: ICL treats the oldest received frame. -/
def execIclFrame (s : State) : Host.Outcome State Fault Refusal :=
  match s.icl.rx with
  | [] => .next s
  | f :: r => .next ((s.setIcl fun i => { i with rx := r }).iclTreat f)

/-- Contexts that the cache holds (R209). -/
def cacheMax : Nat := 262144

/-- A context enters the cache; a full cache loses a context that the spec does not name: it is free. [DESIGN CHOICE, log 38] -/
def State.cacheCtx (s : State) (scid : Nat) : State :=
  if s.icl.cached.contains scid then s
  else if cacheMax ≤ s.icl.cached.length then
    (s.setIcl fun i => { i with cached := i.cached.eraseIdx (s.freeNat % i.cached.length) ++ [scid] }).takeFree
  else s.setIcl fun i => { i with cached := i.cached ++ [scid] }

/-- R209, R210: a context arrives, and the packets that wait for it proceed in order. -/
def execIclCtxFetchDone (scid : Nat) (s : State) : Host.Outcome State Fault Refusal :=
  let ps := s.icl.miss.filter fun p => p.parse.scid = scid
  if ps = [] then .next s
  else
    let s := s.setIcl fun i => { i with miss := i.miss.filter fun p => p.parse.scid ≠ scid }
    .next
      (if s.mem.poison.contains (s.ctxLine scid) then
        let s := (s.setIcl fun i => { i with bad := i.bad ++ [scid] }).raise iclPage .iclCtxPoison scid 0
        ps.foldl (fun s p => s.iclFree p.handle) s
       else ps.foldl (fun s p => s.iclPass p) (s.cacheCtx scid))

/-! ## Write-backs -/

/-- The effect of a write-back of the leg key table (R204). -/
def State.wbLegKey (s : State) (src : Src) (e : Nat) (ws : List Word) : State :=
  let w10 := ws.getD 10 0 &&& fmask 17 0
  let key := wordBytes ((List.range 10).map fun i => ws.getD i 0)
  let new := (List.range 10).map (fun i => ws.getD i 0) ++ [w10]
  let refuse := s.tblRefuse src iclPage 7 ws
  if fld w10 16 16 = 0 then s.tset iclPage 2 0 e new
  else if fld w10 17 17 = 1 && key ≠ wildKey key then refuse
  else
    let dup := (List.range 8).any fun w =>
      let o := legSet key * 8 + w
      let os := s.tget iclPage 2 0 o
      decide (o ≠ e) && decide (fld (os.getD 10 0) 17 16 = fld w10 17 16) &&
        decide (wordBytes ((List.range 10).map fun i => os.getD i 0) = key)
    if e / 8 ≠ legSet key || dup then refuse.raise iclPage .iclLegkeyDup e 0
    else s.tset iclPage 2 0 e new

/-- The RW bits of a stream context (R208, R239, R270). -/
def ctxMask (ws : List Word) : List Word :=
  let w (i : Nat) : Word := ws.getD i 0
  let out := bit (w 0) 1
  [w 0 &&& (fmask 5 0 ||| fmask 31 16), w 1, w 2 &&& fmask 16 0, w 3 &&& fmask 23 0, w 4 &&& (fmask 4 0 ||| fmask 31 11),
   w 5, w 6 &&& fmask 14 0, 0, 0, w 9 &&& fmask 29 0, w 10 &&& (fmask 4 0 ||| fmask 6 6 ||| fmask 31 16),
   w 11 &&& fmask 22 0, if out then w 12 &&& ~~~ fmask 18 18 else w 12, w 13 &&& fmask 24 0,
   if out then w 14 else w 14 &&& fmask 11 0, if out then w 15 else 0]

/-- A context holds no reserved encoding (R208, R229, R270). -/
def ctxOk (ws : List Word) : Bool :=
  let h := fld (ws.getD 4 0) 4 0
  let sm := fld (ws.getD 12 0) 23 19
  (h = 0 || (4 ≤ h && h ≤ 16)) && decide (fld (ws.getD 10 0) 3 0 ≤ 8) &&
    (!bit (ws.getD 0 0) 1 || sm = 0 || (6 ≤ sm && sm ≤ 14))

/-- The state record of a stream is cleared (R241). -/
def State.resetCrypto (s : State) (scid : Nat) : State :=
  (s.setCpe fun c => { c with st := NMap.set (fun _ => CryptoSt.clear) c.st scid CryptoSt.clear }).cleanLine
    (s.stateLine scid)

/-- The effect of a write-back of a stream context (R207, R210, R239, R241, R269). -/
def State.wbCtx (s : State) (src : Src) (scid : Nat) (ws : List Word) : State :=
  let old := s.tget iclPage 0 0 scid
  let new := ctxMask ws
  let w0 := new.getD 0 0
  let was := bit (old.getD 0 0) 0
  let is := bit w0 0
  let inb := !bit w0 1
  let leg := fld w0 31 16
  let ssrc := (new.getD 1 0).toNat
  let refuse := s.tblRefuse src iclPage 7 ws
  let moved := new.getD 1 0 ≠ old.getD 1 0 || fld w0 31 16 ≠ fld (old.getD 0 0) 31 16 ||
    bit w0 1 ≠ bit (old.getD 0 0) 1
  if was && moved then refuse
  else if is && !ctxOk new then refuse
  else if is && !was && inb && (s.sktScid leg ssrc).any (· ≠ scid) then
    refuse.raise iclPage .iclKeyConflict scid ((s.sktScid leg ssrc).getD 0)
  else if is && !was && inb && (s.sktScid leg ssrc).isNone && (s.sktBucket leg ssrc).isNone then
    refuse.raise iclPage .iclSktFull scid 0
  else
    let s := if is && !was && inb && (s.sktScid leg ssrc).isNone then s.sktInsert leg ssrc scid else s
    let s := if was && !is && inb then s.sktRemove leg ssrc else s
    let ro (i : Nat) (m : Word) : Word := if is && !was then 0 else old.getD i 0 &&& m
    let full := ((new.set 6 (new.getD 6 0 ||| ro 6 (fmask 19 16))).set 7 (ro 7 (fmask 15 0))).set 8 (ro 8 (fmask 31 0))
    let s := (s.tset iclPage 0 0 scid full).cleanLine (s.ctxLine scid)
    let s := s.setIcl fun i => { i with bad := i.bad.filter (· ≠ scid) }
    let s := if (is && !was) || bit (ws.getD 10 0) 5 then s.resetCrypto scid else s
    if inb && is && bit (new.getD 12 0) 18 && !(was && bit (old.getD 12 0) 18) then
      s.setLfw fun l => { l with acc := NMap.keep (fun k => decide (k / 16 ≠ fld (new.getD 12 0) 17 0)) l.acc }
    else s

/-- The effect of a write-back of a policer (R213, R216). -/
def State.wbPolicer (s : State) (src : Src) (e : Nat) (ws : List Word) : State :=
  let en := fld (ws.getD 0 0) 0 0
  let cbs := fld (ws.getD 2 0) 23 0
  if en = 1 && decide (cbs < 64) then s.tblRefuse src polPage 7 ws
  else
    let was := s.tf polPage 0 0 e 0 0 0
    let s := s.tset polPage 0 0 e [ws.getD 0 0 &&& fmask 0 0, ws.getD 1 0, ws.getD 2 0 &&& fmask 23 0]
    if en = 1 && was = 0 then s.setPol e (cbs * tokUnit, s.now)
    else s.setPol e (min (s.polState e).1 (cbs * tokUnit), (s.polState e).2)

/-- R204. -/
def execLegkeyWriteback (src : Src) (entry : Nat) (ws : List Word) (s : State) : Host.Outcome State Fault Refusal :=
  .next (s.writeBack src iclPage 2 entry ws fun s => s.wbLegKey src entry ws)

/-- R207, R210. -/
def execStreamCtxWriteback (src : Src) (scid : Nat) (ws : List Word) (s : State) : Host.Outcome State Fault Refusal :=
  .next (s.writeBack src iclPage 0 scid ws fun s => s.wbCtx src scid ws)

/-- R216. -/
def execPolicerWriteback (src : Src) (entry : Nat) (ws : List Word) (s : State) : Host.Outcome State Fault Refusal :=
  .next (s.writeBack src polPage 0 entry ws fun s => s.wbPolicer src entry ws)

end Sys2Proof.Machine
end

