-- ==== Sys2Proof/Machine/Crypto.lean ====
section
/-!
DEFINITION. The cryptography of CPE over the block ciphers of R228: modes of operation, key derivation, and the SRTP and
SRTCP transforms of the profiles of R229 (R242, R248, R250, R256).
-/

namespace Sys2Proof.Machine

/-! ## Profiles (R229) -/

/-- The cipher of a profile: 1 AES-128, 2 AES-256, 3 SM4; 0 for CLEAR. -/
def profAlg (p : Nat) : Nat := [0, 1, 1, 2, 2, 1, 2, 3, 3].getD p 0

/-- A GCM profile. -/
def profGcm (p : Nat) : Bool := [5, 6, 8].contains p

/-- Tag bytes on RTP and on RTCP. -/
def profTag (p : Nat) (rtcp : Bool) : Nat :=
  if rtcp then [0, 10, 10, 10, 10, 16, 16, 10, 16].getD p 0 else [0, 10, 4, 10, 4, 16, 16, 10, 16].getD p 0

/-- Bytes of a key of an algorithm. -/
def algKeyLen (alg : Nat) : Nat := if alg = 2 then 32 else 16

/-! ## Modes -/

/-- Bytes combined by XOR, over the shorter of two lists. -/
def xorBytes (a b : List Byte) : List Byte := List.zipWith (· ^^^ ·) a b

/-- A block cipher on 16 bytes. -/
def encBlock (alg : Nat) (key : List Byte) (b : List Byte) : List Byte :=
  beBytes 16 (Config.blockEncrypt alg key (beNat b))

/-- Its inverse on 16 bytes. -/
def decBlock (alg : Nat) (key : List Byte) (b : List Byte) : List Byte :=
  beBytes 16 (Config.blockDecrypt alg key (beNat b))

/-- n bytes of key stream from counter block iv on; the low `w` bits count. -/
def ctrStream (alg : Nat) (key : List Byte) (iv w n : Nat) : List Byte :=
  ((List.range ((n + 15) / 16)).flatMap fun i =>
    beBytes 16 (Config.blockEncrypt alg key (iv / 2 ^ w * 2 ^ w + (iv + i) % 2 ^ w))).take n

/-- Bytes cut into blocks of 16. -/
def blocks16 (bs : List Byte) : List (List Byte) :=
  (List.range ((bs.length + 15) / 16)).map fun i => slice bs (16 * i) 16

/-- CBC (SP 800-38A). -/
def cbcEnc (alg : Nat) (key : List Byte) : List Byte → List (List Byte) → List Byte
  | _, [] => []
  | iv, b :: r => let c := encBlock alg key (xorBytes b iv); c ++ cbcEnc alg key c r

def cbcDec (alg : Nat) (key : List Byte) : List Byte → List (List Byte) → List Byte
  | _, [] => []
  | iv, b :: r => xorBytes (decBlock alg key b) iv ++ cbcDec alg key b r

/-- CFB-128. -/
def cfbEnc (alg : Nat) (key : List Byte) : List Byte → List (List Byte) → List Byte
  | _, [] => []
  | iv, b :: r => let c := xorBytes b (encBlock alg key iv); c ++ cfbEnc alg key c r

def cfbDec (alg : Nat) (key : List Byte) : List Byte → List (List Byte) → List Byte
  | _, [] => []
  | iv, b :: r => xorBytes b (encBlock alg key iv) ++ cfbDec alg key b r

/-- OFB. -/
def ofb (alg : Nat) (key : List Byte) : List Byte → List (List Byte) → List Byte
  | _, [] => []
  | iv, b :: r => let o := encBlock alg key iv; xorBytes b o ++ ofb alg key o r

/-- One step of a multiplication in the field of GCM (SP 800-38D). -/
def gfStep (x : Nat) (zv : Nat × Nat) (i : Nat) : Nat × Nat :=
  let z := if x.testBit (127 - i) then zv.1 ^^^ zv.2 else zv.1
  (z, if zv.2.testBit 0 then zv.2 / 2 ^^^ 0xE1 * 2 ^ 120 else zv.2 / 2)

/-- A product in that field. -/
def gfMul (x y : Nat) : Nat := ((List.range 128).foldl (gfStep x) (0, y)).1

/-- Bytes filled up with zeros to whole blocks. -/
def pad16 (bs : List Byte) : List Byte := bs ++ List.replicate ((16 - bs.length % 16) % 16) 0

/-- GHASH of additional data and ciphertext. -/
def ghash (h : Nat) (aad ct : List Byte) : Nat :=
  (blocks16 (pad16 aad ++ pad16 ct ++ beBytes 8 (8 * aad.length) ++ beBytes 8 (8 * ct.length))).foldl
    (fun y b => gfMul (y ^^^ beNat b) h) 0

/-- The GCM tag for a 96-bit IV. -/
def gcmTag (alg : Nat) (key : List Byte) (iv : Nat) (aad ct : List Byte) : List Byte :=
  xorBytes (beBytes 16 (ghash (Config.blockEncrypt alg key 0) aad ct))
    (beBytes 16 (Config.blockEncrypt alg key (iv * 2 ^ 32 + 1)))

/-- The GCM key stream applied to data. -/
def gcmCrypt (alg : Nat) (key : List Byte) (iv : Nat) (data : List Byte) : List Byte :=
  xorBytes data (ctrStream alg key (iv * 2 ^ 32 + 2) 32 data.length)

/-! ## SRTP -/

/-- The bytes of a slot's 16 bytes of salt that a profile uses (R229). -/
def profSalt (p : Nat) (salt : List Byte) : List Byte := salt.take (if profGcm p then 12 else 14)

/-- A session key of n bytes by label, at key derivation rate 0 (R229). [PRESUMED, log 42] -/
def srtpKdf (alg : Nat) (key salt : List Byte) (label n : Nat) : List Byte :=
  let x := (label * 2 ^ 48) ^^^ beNat ((salt ++ List.replicate 2 0).take 14)
  ctrStream alg key (x * 2 ^ 16) 16 n

/-- The session keys of a profile: cipher key, authentication key and salt. -/
structure Session where
  alg : Nat
  key : List Byte
  auth : List Byte
  salt : Nat
  deriving DecidableEq, Repr

/-- The session keys for RTP or RTCP. -/
def session (prof : Nat) (key salt : List Byte) (rtcp : Bool) : Session :=
  let a := profAlg prof
  let l := if rtcp then 3 else 0
  let salt := profSalt prof salt
  ⟨a, srtpKdf a key salt l (algKeyLen a), srtpKdf a key salt (l + 1) 20,
    beNat (srtpKdf a key salt (l + 2) (if profGcm prof then 12 else 14))⟩

/-- The IV of a CM profile (R250). [PRESUMED, log 42] -/
def cmIv (k : Session) (ssrc idx : Nat) : Nat := (k.salt * 2 ^ 16) ^^^ (ssrc * 2 ^ 64) ^^^ (idx * 2 ^ 16)

/-- The IV of a GCM profile (R250). [PRESUMED, log 42] -/
def gcmIv (k : Session) (ssrc idx : Nat) : Nat := (ssrc * 2 ^ 48 + idx) ^^^ k.salt

/-- An RTP packet protected: `hdr` its header, `body` its payload. [PRESUMED, log 42] -/
def protectRtp (prof : Nat) (k : Session) (ssrc idx : Nat) (hdr body mki : List Byte) : List Byte :=
  if prof = 0 then hdr ++ body
  else if profGcm prof then
    let ct := gcmCrypt k.alg k.key (gcmIv k ssrc idx) body
    hdr ++ ct ++ gcmTag k.alg k.key (gcmIv k ssrc idx) hdr ct ++ mki
  else
    let ct := xorBytes body (ctrStream k.alg k.key (cmIv k ssrc idx) 16 body.length)
    hdr ++ ct ++ mki ++
      (Config.hmacSha1 k.auth (hdr ++ ct ++ beBytes 4 (idx / 65536))).take (profTag prof false)

/-- An RTCP packet protected: its first 8 bytes and the rest; `e` says that the rest is encrypted. [PRESUMED, log 42] -/
def protectRtcp (prof : Nat) (k : Session) (ssrc idx : Nat) (hdr body mki : List Byte) (e : Bool) : List Byte :=
  let word := beBytes 4 (e.toNat * 2 ^ 31 + idx)
  if prof = 0 then hdr ++ body ++ beBytes 4 idx
  else if profGcm prof then
    if e then
      let ct := gcmCrypt k.alg k.key (gcmIv k ssrc idx) body
      hdr ++ ct ++ gcmTag k.alg k.key (gcmIv k ssrc idx) (hdr ++ word) ct ++ word ++ mki
    else hdr ++ body ++ gcmTag k.alg k.key (gcmIv k ssrc idx) (hdr ++ body ++ word) [] ++ word ++ mki
  else
    let ct := if e then xorBytes body (ctrStream k.alg k.key (cmIv k ssrc idx) 16 body.length) else body
    hdr ++ ct ++ word ++ mki ++ (Config.hmacSha1 k.auth (hdr ++ ct ++ word)).take (profTag prof true)

/-- An SRTP packet verified and decrypted: its header of `h` bytes and its payload. [PRESUMED, log 42] -/
def unprotectRtp (prof : Nat) (k : Session) (ssrc idx h mkiLen : Nat) (pkt : List Byte) : Option (List Byte) :=
  let hdr := pkt.take h
  let tag := profTag prof false
  if prof = 0 then some pkt
  else if profGcm prof then
    let n := pkt.length - h - tag - mkiLen
    let ct := slice pkt h n
    if slice pkt (h + n) tag = gcmTag k.alg k.key (gcmIv k ssrc idx) hdr ct then
      some (hdr ++ gcmCrypt k.alg k.key (gcmIv k ssrc idx) ct)
    else none
  else
    let n := pkt.length - h - tag - mkiLen
    let ct := slice pkt h n
    if pkt.drop (pkt.length - tag) = (Config.hmacSha1 k.auth (hdr ++ ct ++ beBytes 4 (idx / 65536))).take tag then
      some (hdr ++ xorBytes ct (ctrStream k.alg k.key (cmIv k ssrc idx) 16 n))
    else none

/-- Where the index trailer of an SRTCP packet stands. -/
def rtcpTrailer (prof mkiLen : Nat) (pkt : List Byte) : Nat :=
  pkt.length - 4 - mkiLen - (if profGcm prof then 0 else profTag prof true)

/-- An SRTCP packet verified and decrypted as its E flag says (R247). [PRESUMED, log 42] -/
def unprotectRtcp (prof : Nat) (k : Session) (ssrc idx mkiLen : Nat) (pkt : List Byte) : Option (List Byte) :=
  let hdr := pkt.take 8
  let o := rtcpTrailer prof mkiLen pkt
  let word := slice pkt o 4
  let e := fb word 0 ≥ 128
  let tag := profTag prof true
  if prof = 0 then some (pkt.take (pkt.length - 4))
  else if profGcm prof then
    let body := slice pkt 8 (o - tag - 8)
    let t := slice pkt (o - tag) tag
    if e then
      if t = gcmTag k.alg k.key (gcmIv k ssrc idx) (hdr ++ word) body then
        some (hdr ++ gcmCrypt k.alg k.key (gcmIv k ssrc idx) body)
      else none
    else if t = gcmTag k.alg k.key (gcmIv k ssrc idx) (hdr ++ body ++ word) [] then some (hdr ++ body)
    else none
  else
    let body := slice pkt 8 (o - 8)
    if pkt.drop (pkt.length - tag) = (Config.hmacSha1 k.auth (hdr ++ body ++ word)).take tag then
      some (hdr ++ (if e then xorBytes body (ctrStream k.alg k.key (cmIv k ssrc idx) 16 body.length) else body))
    else none

end Sys2Proof.Machine
end

