-- ==== Sys2Proof/Machine/Pm.lean ====
section
/-!
DEFINITION. Performance monitoring on the TSI page: entities, the classes of a second, unavailability and the bin records
(R530 to R537).
-/

namespace Sys2Proof.Machine

/-- The TSI page. -/
def tsiPage : Nat := 0x024

/-- The state with another LNU. -/
def State.setLnu (s : State) (f : LnuSt → LnuSt) : State := { s with lnu := f s.lnu }

/-- An entity's record. -/
def State.pm (s : State) (e : Nat) : PmEnt := NMap.get (fun _ => PmEnt.init) s.lnu.pm e

/-- An entity's record changed. -/
def State.setPm (s : State) (e : Nat) (f : PmEnt → PmEnt) : State :=
  s.setLnu fun l => { l with pm := NMap.set (fun _ => PmEnt.init) l.pm e (f (s.pm e)) }

/-- The entity of a packet leg (R531). -/
def legEntity (g : Nat) : Nat := 16384 + g

/-- The leg is monitored: table 1 of the TSI page. -/
def State.legOn (s : State) (g : Nat) : Bool := s.tf tsiPage 1 0 g 0 0 0 = 1

/-- A packet leg's record changed, where the leg is monitored. [DEDUCED, log 55] -/
def State.pmLeg (s : State) (g : Nat) (f : PmEnt → PmEnt) : State := if s.legOn g then s.setPm (legEntity g) f else s

/-- An acceptance on an inbound stream of leg g: d expected packets, one received, one late (R533). -/
def State.pmAccept (s : State) (g d : Nat) (late : Bool) : State :=
  s.pmLeg g fun e => { e with blocks := e.blocks + d, recv := e.recv + 1, adj := e.adj + late.toNat }

/-- LFW changes CUR of a subscription of leg g in this second. -/
def State.pmSwitch (s : State) (g : Nat) : State := s.pmLeg g fun e => { e with sw := true }

/-- A decoder of a context of leg g stops in this second. -/
def State.pmStop (s : State) (g : Nat) : State := s.pmLeg g fun e => { e with stop := true }

/-- An entity's kind (R531). -/
def entityKind (e : Nat) : Nat :=
  if 16384 ≤ e then 5
  else
    let x := e % 4096
    if x = 0 then 0 else if x = 1 then 1 else if x < 64 then 2 else if x < 2048 then 3 else 4

/-- The bins in progress of an entity are suspect from now on (R536). -/
def PmEnt.doubt (e : PmEnt) : PmEnt :=
  { e with c15 := { e.c15 with suspect := true }, c24 := { e.c24 with suspect := true } }

/-- The bins in progress of several entities are suspect. -/
def State.pmDoubt (s : State) (es : List Nat) : State := es.foldl (fun s e => s.setPm e PmEnt.doubt) s

/-! ## A second (R532, R533) -/

/-- A second that is not SES, counted as it was measured. -/
def PmBin.good (b : PmBin) (eb : Nat) : PmBin :=
  { b with es := b.es + (decide (1 ≤ eb)).toNat, bbe := b.bbe + eb }

/-- The seconds of the run that starts unavailability move out of SES and into UAS; `last` is the second that
ends the run, which is counted once. -/
def PmBin.toUas (b : PmBin) (n : Nat) : PmBin := { b with ses := b.ses - n, uas := b.uas + n + 1 }

/-- The seconds of the run that ends it move out of UAS, as they were measured. -/
def PmBin.fromUas (b : PmBin) (ebs : List Nat) : PmBin :=
  ebs.foldl (fun b eb => b.good eb) { b with uas := b.uas - ebs.length }

/-- A second of an entity closes: b blocks, eb of them errored. The Bool says that unavailability begins. [DEDUCED, log 55] -/
def PmEnt.second (e : PmEnt) (leg : Bool) (b eb : Nat) : PmEnt × Bool :=
  let ses := e.defect || (decide (0 < b) && decide (b * 3 ≤ eb * 10))
  let tally (x : PmBin) : PmBin :=
    { x with secs := x.secs + 1, dsec := x.dsec + (if leg then b else e.defect.toNat), adj := x.adj + e.adj,
             idle := x.idle + (leg && decide (b = 0)).toNat, sw := x.sw + e.sw.toNat, stop := x.stop + e.stop.toNat }
  let e := { e with c15 := tally e.c15, c24 := tally e.c24, eb := 0, blocks := 0, recv := 0, adj := 0, defect := false,
                    sw := false, stop := false }
  let now : PmSec := ⟨eb, true, true⟩
  let both (f : PmBin → PmBin) (e : PmEnt) : PmEnt := { e with c15 := f e.c15, c24 := f e.c24 }
  if !e.unavail then
    if ses then
      if e.run.length = 9 then
        ({ e with unavail := true, run := [], c15 := e.c15.toUas (e.run.filter (·.in15)).length,
                  c24 := e.c24.toUas (e.run.filter (·.in24)).length }, true)
      else (both (fun x => { x with ses := x.ses + 1 }) { e with run := now :: e.run }, false)
    else (both (fun x => x.good eb) { e with run := [] }, false)
  else if !ses then
    if e.run.length = 9 then
      ({ e with unavail := false, run := [],
                c15 := (e.c15.fromUas ((e.run.filter (·.in15)).map (·.eb))).good eb,
                c24 := (e.c24.fromUas ((e.run.filter (·.in24)).map (·.eb))).good eb }, false)
    else (both (fun x => { x with uas := x.uas + 1 }) { e with run := now :: e.run }, false)
  else (both (fun x => { x with uas := x.uas + 1 }) { e with run := [] }, false)

/-! ## Bins (R535, R537) -/

/-- A maximum in units of 100 µs, rounded up. -/
def unit100 (m : Option Nat) : Nat :=
  match m with
  | none => 0xFFFF
  | some v => min ((v + 99) / 100) 0xFFFE

/-- The 16 words of a bin record, without the phase bit. -/
def PmBin.words (b : PmBin) (e : Nat) (day : Bool) : List Word :=
  let leg := entityKind e = 5
  let w (n : Nat) : Word := BitVec.ofNat 32 n
  let s17 (n : Nat) : Word := w (n % 2 ^ 17)
  [w (e % 2 ^ 17 + entityKind e * 2 ^ 17 + day.toNat * 2 ^ 20 + b.suspect.toNat * 2 ^ 21), w b.closed, s17 b.es, s17 b.ses,
   s17 b.uas, s17 b.secs, w b.bbe, w (b.bbe / 2 ^ 32),
   (if leg then w b.dsec else s17 b.dsec), (if leg then w (b.dsec / 2 ^ 32) else 0),
   (if entityKind e < 2 then 0 else w b.adj), (if entityKind e < 2 then 0 else w (b.adj / 2 ^ 32)),
   (if leg then w (unit100 b.jit + unit100 b.rtt * 2 ^ 16) else 0), (if leg then s17 b.idle else 0),
   (if leg then s17 b.sw else 0), (if leg then s17 b.stop else 0)]

/-- The 64 words of an entity in table 2 of the TSI page (R541), live or as in the last snapshot (R87). -/
def State.entityWords (s : State) (e : Nat) (view : Bool) : List Word :=
  let p := if view then NMap.get (fun _ => PmEnt.init) s.lnu.pmSnap e else s.pm e
  p.c15.words e false ++ p.c24.words e true ++ p.p15.words e false ++ p.p24.words e true

/-- A new bin begins. -/
def PmBin.fresh (suspect : Bool) : PmBin := { suspect := suspect }

/-- A bin of an entity closes. -/
def PmEnt.close (e : PmEnt) (day : Bool) (w : Nat) : PmEnt :=
  if day then
    { e with p24 := { e.c24 with closed := w }, c24 := PmBin.fresh false, run := e.run.map fun r => { r with in24 := false } }
  else
    { e with p15 := { e.c15 with closed := w }, c15 := PmBin.fresh false, run := e.run.map fun r => { r with in15 := false } }

/-- OFFSET of R57. -/
def State.binOffset (s : State) : Nat := s.raf 1 Reg.tmuBinOffset 25 0

/-- The wale in progress begins at a multiple of n wales from OFFSET. -/
def State.onGrid (s : State) (n : Nat) : Bool := ((s.clk.wale : Int) - s.binOffset) % n = 0

/-- A record goes to ring 0; where it cannot, it is counted as lost. -/
def State.binRing (s : State) (ws : List Word) : State × Bool :=
  if s.ringOn tsiPage 0 && s.ringRoom tsiPage 0 then (s.ringWrite tsiPage 0 ws, true)
  else (s.bump tsiPage .lnuPmLost, false)

/-- The records of one length go to the ring: the number lost is counted. -/
def State.binRecords (s : State) (day : Bool) : List Nat → State × Nat
  | [] => (s, 0)
  | e :: r =>
    let b := if day then (s.pm e).p24 else (s.pm e).p15
    let (s, ok) := s.binRing (b.words e day)
    let (s, n) := s.binRecords day r
    (s, n + (!ok).toNat)

end Sys2Proof.Machine
end

