-- ==== Sys2Proof/Machine/Cpe.lean ====
section
/-!
DEFINITION. The Cipher Engine: request queues and their service, key slots, and inbound processing up to ICL's verdict,
sequence rules and history capture (R211 to R219, R228 to R247, R251 to R254).
-/

namespace Sys2Proof.Machine

/-! ## Key slots (R234 to R238) -/

/-- A key slot. [DESIGN CHOICE, log 38] -/
def State.kslot (s : State) (k : Nat) : KeySlot := NMap.get (fun _ => KeySlot.empty) s.cpe.slots k

/-- A key slot changed. -/
def State.setKslot (s : State) (k : Nat) (f : KeySlot → KeySlot) : State :=
  s.setCpe fun c => { c with slots := NMap.set (fun _ => KeySlot.empty) c.slots k (f (s.kslot k)) }

/-- The line of a key slot's record. -/
def State.slotLine (s : State) (k : Nat) : Nat := (s.rd64 cpePage Reg.cpeKeyBase Reg.cpeKeyBaseHi + 128 * k) / 64

/-- INV_LIMIT; 0 means 2^48. -/
def KeySlot.lim (k : KeySlot) : Nat := if k.limit = 0 then 2 ^ 48 else k.limit

/-- WRAP_CTR before a wrap; a slot whose counter would wrap becomes EXHAUSTED (R235). -/
def KeySlot.rewrap (k : KeySlot) : KeySlot :=
  if k.wrapCtr + 1 < 2 ^ 64 then { k with wrapCtr := k.wrapCtr + 1 } else { k with inv := 2 }

/-- The MKI bytes of a slot. -/
def KeySlot.mkiBytes (k : KeySlot) : List Byte := (beBytes 4 k.mki).take k.mkiLen

/-- Bytes 0 to 31 of a key slot (R234). -/
def KeySlot.head (k : KeySlot) : List Byte :=
  leBytes 1 (k.alg + k.valid.toNat * 4 + k.mkiLen * 8 + k.inv * 64) ++ leBytes 1 k.use ++ [0, 0] ++
    (k.mkiBytes ++ List.replicate 4 0).take 4 ++ leBytes 8 k.count ++ leBytes 8 k.limit ++ leBytes 8 k.wrapCtr

/-- A state record's 64 bytes (R240). -/
def CryptoSt.record (c : CryptoSt) : List Byte :=
  leBytes 6 c.rtpIdx ++ leBytes 1 (c.rtpSt + c.rtpSeen.toNat * 128) ++ leBytes 1 (c.rtcpSt + c.rtcpSeen.toNat * 128) ++
    leBytes 4 c.rtcpIdx ++ List.replicate 4 0 ++ leBytes 32 c.rtpWin ++ leBytes 8 c.rtcpWin ++ List.replicate 8 0

/-- The nonce of a wrap as a 96-bit number: 0x00, the slot in 3 bytes, WRAP_CTR in 8 bytes (R235). -/
def KeySlot.nonce (k : KeySlot) (slot : Nat) : Nat := slot % 2 ^ 24 * 2 ^ 64 + k.wrapCtr

/-- What is wrapped: the master key filled up to 32 bytes, and the salt filled up to 16 (R234). -/
def KeySlot.secret (k : KeySlot) : List Byte :=
  (k.key ++ List.replicate 32 0).take 32 ++ (k.salt ++ List.replicate 16 0).take 16

/-- The tag of a wrap with AES-256-GCM: the additional data is bytes 0 to 31 of the record (R235). -/
def KeySlot.tagOf (kwk : List Byte) (slot : Nat) (k : KeySlot) (ct : List Byte) : List Byte :=
  gcmTag 2 kwk (k.nonce slot) k.head ct

/-- The record as CPE writes it: wrapped under the key-wrapping key, or zeros where the slot is erased (R235, R236).
[DEDUCED, log 43] -/
def KeySlot.sealed (kwk : List Byte) (slot : Nat) (k : KeySlot) : KeySlot :=
  if k.valid then
    let ct := gcmCrypt 2 kwk (k.nonce slot) k.secret
    { k with wrapped := ct, wrapTag := k.tagOf kwk slot ct }
  else { k with wrapped := List.replicate 48 0, wrapTag := List.replicate 16 0 }

/-- The tag of a record fits, as it does on every record that CPE has written (R238). -/
def KeySlot.tagFits (kwk : List Byte) (slot : Nat) (k : KeySlot) : Bool := k.wrapTag = k.tagOf kwk slot k.wrapped

/-- The 128 bytes of a record in DRAM (R234). -/
def KeySlot.record (k : KeySlot) : List Byte :=
  k.head ++ (k.wrapped ++ List.replicate 48 0).take 48 ++ (k.wrapTag ++ List.replicate 16 0).take 16 ++ List.replicate 32 0

/-- The key-wrapping key's bytes. -/
def State.kwk (s : State) : List Byte := s.cpe.kwk.getD []

/-- A slot with WRAP_CTR one further, wrapped anew (R235). -/
def State.wrap (s : State) (slot : Nat) (k : KeySlot) : KeySlot := k.rewrap.sealed s.kwk slot

/-- Slots that the cache holds (R237). -/
def slotCacheMax : Nat := 65536

/-- The slots that a request names and CPE must hold. -/
def State.reqSlots (s : State) : CpeReq → List Nat
  | .inb p =>
    let c := p.parse.scid
    if s.ctx c 10 3 0 = 0 || s.mem.poison.contains (s.stateLine c) then []
    else s.ctx c 9 21 0 :: (if s.ctx c 11 22 22 = 1 then [s.ctx c 11 21 0] else [])
  | .out f =>
    match f.copy with
    | some d => if s.ctx d.out 10 3 0 = 0 || s.mem.poison.contains (s.stateLine d.out) then [] else [s.ctx d.out 9 21 0]
    | none => []
  | .bulk _ d => [dfld d 0 29 8]
where
  /-- Field [hi:lo] of word i. -/
  dfld (d : List Word) (i hi lo : Nat) : Nat := fld (d.getD i 0) hi lo

/-- R238: a record arrives and is checked; `tagOk` is false where its bytes have suffered on the way. -/
def execKeySlotFetch (slot : Nat) (tagOk : Bool) (s : State) : Host.Outcome State Fault Refusal :=
  let wanted := s.cpe.q.any fun (_, l) =>
    match l.head? with
    | some r => (s.reqSlots r).contains slot
    | none => false
  .next
    (if !wanted || s.cpe.cached.contains slot || decide (slotCacheMax ≤ s.cpe.cached.length) then s
     else
      let s := (s.bump cpePage .cpeKeyMiss).setCpe fun c => { c with cached := c.cached ++ [slot] }
      if (s.kslot slot).bad ≠ 0 then s
      else if s.mem.poison.contains (s.slotLine slot) || s.mem.poison.contains (s.slotLine slot + 1) then
        s.setKslot slot fun k => { k with bad := 1 }
      else if (s.kslot slot).valid && !(tagOk && (s.kslot slot).tagFits s.kwk slot) then s.setKslot slot fun k => { k with bad := 2 }
      else s)

/-- R237: a cached slot is written back, rewrapped. -/
def execKeySlotEvict (slot : Nat) (s : State) : Host.Outcome State Fault Refusal :=
  .next
    (if s.cpe.cached.contains slot then
      (((s.setCpe fun c => { c with cached := c.cached.filter (· ≠ slot) }).setKslot slot fun k =>
        if k.valid && k.bad = 0 then s.wrap slot k else k).cleanLine (s.slotLine slot)).cleanLine (s.slotLine slot + 1)
     else s)

/-- The bytes of `n` registers from offset o on, in network order within each word. -/
def State.keyRegs (s : State) (o n : Nat) : List Byte :=
  (List.range n).flatMap fun i => beBytes 4 (s.rd cpePage (o + 4 * i)).toNat

/-- The slot that the key registers describe. -/
def State.regKey (s : State) : KeySlot :=
  let w := s.rd cpePage Reg.cpeKeyLoad
  let alg := fld w 23 22
  if alg = 0 then KeySlot.empty
  else
    { alg := alg, valid := true, mkiLen := fld w 26 24, use := fld w 28 27, mki := (s.rd cpePage Reg.cpeKeyMki).toNat,
      limit := s.rd64 cpePage Reg.cpeKeyLimit Reg.cpeKeyLimitHi,
      key := (s.keyRegs Reg.cpeKeyMaterial 8).take (algKeyLen alg), salt := s.keyRegs Reg.cpeKeySalt 4 }

/-- A load takes effect (R236): the record is written anew, WRAP_CTR going on from its previous value. -/
def State.applyKey (s : State) (slot : Nat) (k : KeySlot) : State :=
  ((s.setKslot slot fun old => s.wrap slot { k with wrapCtr := old.wrapCtr }).cleanLine (s.slotLine slot)).cleanLine
    (s.slotLine slot + 1)

/-- The status of a load (R261). [DEDUCED, log 43] -/
def State.keyStatus (s : State) : Nat :=
  let w := s.rd cpePage Reg.cpeKeyLoad
  if 4 < fld w 26 24 || (fld w 23 22 ≠ 0 && (fld w 28 27 = 0 || fld w 28 27 = 3)) then 1
  else if !s.ready cpePage then 2
  else 0

/-- The key and salt registers are zeroed. -/
def State.zeroKeyRegs (s : State) : State :=
  (List.range 12).foldl (fun s i =>
    s.wr cpePage (if i < 8 then Reg.cpeKeyMaterial + 4 * i else Reg.cpeKeySalt + 4 * (i - 8)) 0) s

/-- R236: a load. In Pairing it is held until the next boundary (R601). -/
def execKeyLoad (src : Src) (s : State) : Host.Outcome State Fault Refusal :=
  .next (s.access src cpePage Reg.cpeKeyGo 1 fun s =>
    let st := s.keyStatus
    let slot := s.rf cpePage Reg.cpeKeyLoad 21 0
    let k := s.regKey
    let s :=
      if st ≠ 0 then s
      else if s.paired then
        s.setCpe fun c => { c with held := c.held.filter (fun h => h.2.1 ≠ slot) ++ [(s.wale, slot, k)] }
      else s.applyKey slot k
    (s.zeroKeyRegs.wfld cpePage Reg.cpeKeyRes 3 0 st).seqUp cpePage Reg.cpeKeyRes)

/-- R235: Quizil loads a new key-wrapping key from its random source: its 32 bytes are free. -/
def execKwkLoad (s : State) : Host.Outcome State Fault Refusal :=
  .next
    (if s.enabled cpePage then
      (s.takeFree.setCpe fun c => { c with kwk := some (beBytes 32 s.freeNat) }).refreshReady cpePage false
     else s)

/-! ## Service of the request queues (R231, R232) -/

/-- Bytes of payload of a request. -/
def CpeReq.size : CpeReq → Nat
  | .inb p => p.stop - p.parse.pay
  | .out f => match f.copy with | some d => d.len | none => 0
  | .bulk _ d => fld (d.getD 3 0) 20 0

/-- A queue's head request can be served: its slots are cached, and no record of an earlier request waits for credit. -/
def State.headReady (s : State) (q : Nat) : Bool :=
  match (s.cpeQ q).head? with
  | none => false
  | some r =>
    (s.reqSlots r).all s.cpe.cached.contains &&
      (match NMap.get (fun _ => none) s.cpe.done q with
       | some d => s.qOn d.compq && s.qCredit 555 d.compq 32
       | none => true)

/-- The queues of a priority that can be served, in order of number. -/
def State.rqReady (s : State) (pri : Nat) : List Nat :=
  (s.cpe.q.map (·.1)).filter fun q =>
    decide (s.tf cpePage 0 0 q 0 4 3 = pri) && s.tf cpePage 0 0 q 0 2 2 = 1 && s.headReady q

/-- A queue's deficit. -/
def State.rqDeficit (s : State) (q : Nat) : Nat := NMap.get (fun _ => 0) s.cpe.deficit q

/-- A queue's quantum. -/
def State.rqQuantum (s : State) (q : Nat) : Nat := s.tf cpePage 0 0 q 0 15 8 * 256

/-- The size of a queue's head request; it has been charged where only its record waits. -/
def State.headSize (s : State) (q : Nat) : Nat :=
  match (s.cpeQ q).head?, NMap.get (fun _ => none) s.cpe.done q with
  | some r, none => r.size
  | _, _ => 0

/-- Rounds of the deficit round robin after which a queue's head can be served. -/
def State.rqRounds (s : State) (q : Nat) : Nat :=
  max 1 ((s.headSize q - s.rqDeficit q + s.rqQuantum q - 1) / max 1 (s.rqQuantum q))

/-- The position of the queue that is reached first, with its rounds. -/
def bestRound : Nat → List Nat → Option (Nat × Nat)
  | _, [] => none
  | i, r :: rs =>
    match bestRound (i + 1) rs with
    | none => some (i, r)
    | some (j, t) => if r ≤ t then some (i, r) else some (j, t)

/-- Among queues of one priority, the queue whose head is served next, with the deficits as they then stand (R231).
[DEDUCED, log 41] -/
def State.rqServe (s : State) (pri : Nat) (qs : List Nat) : Option (State × Nat) :=
  let cur := NMap.get (fun _ => 0) s.cpe.cur pri
  let give (s : State) (q d : Nat) : State :=
    s.setCpe fun c => { c with deficit := NMap.set (fun _ => 0) c.deficit q d }
  let take (s : State) (q : Nat) : State :=
    let d := s.rqDeficit q - s.headSize q
    (give s q (if (s.cpeQ q).length ≤ 1 then 0 else d)).setCpe fun c =>
      { c with cur := NMap.set (fun _ => 0) c.cur pri (q + 1) }
  if cur ≠ 0 && qs.contains (cur - 1) && decide (s.headSize (cur - 1) ≤ s.rqDeficit (cur - 1)) then
    some (take s (cur - 1), cur - 1)
  else
    let order := qs.filter (cur ≤ ·) ++ qs.filter (· < cur)
    match bestRound 0 (order.map s.rqRounds) with
    | none => none
    | some (i, r) =>
      let s := order.zipIdx.foldl (fun s (q, j) => give s q (s.rqDeficit q + (if j ≤ i then r else r - 1) * s.rqQuantum q)) s
      let q := order.getD i 0
      some (take s q, q)

/-- The queue that a free lane takes from (R231). [DEDUCED, log 41] -/
def State.cpePick (s : State) : Option (State × Nat) :=
  ((List.range 4).filterMap fun pri => s.rqServe pri (s.rqReady pri)).head?

/-- The head request leaves its queue. -/
def State.popRq (s : State) (q : Nat) : State := s.setCpeQ q (s.cpeQ q).tail

/-! ## Indices and replay (R243 to R245, R251, R252) -/

/-- A stream's state record. [DESIGN CHOICE, log 38] -/
def State.crypto (s : State) (scid : Nat) : CryptoSt := NMap.get (fun _ => CryptoSt.clear) s.cpe.st scid

/-- A stream's state record changed. -/
def State.setCrypto (s : State) (scid : Nat) (c : CryptoSt) : State :=
  s.setCpe fun p => { p with st := NMap.set (fun _ => CryptoSt.clear) p.st scid c }

/-- The index estimate of R243. -/
def rtpEstimate (c : CryptoSt) (seq : Nat) : Int :=
  let r : Int := (c.rtpIdx / 65536 : Nat)
  let sl : Int := (c.rtpIdx % 65536 : Nat)
  let v : Int :=
    if !c.rtpSeen then 0
    else if sl < 32768 then (if (seq : Int) - sl > 32768 then r - 1 else r)
    else if sl - 32768 > (seq : Int) then r + 1 else r
  v * 65536 + seq

/-- An index is old or a duplicate (R244). -/
def replayed (seen : Bool) (h win w i : Nat) : Bool := seen && decide (i ≤ h) && (decide (w ≤ h - i) || win.testBit (h - i))

/-- A window after index i was accepted (R245). -/
def winUpdate (seen : Bool) (h win w i : Nat) : Nat :=
  if !seen then 1 else if h < i then (win * 2 ^ (i - h) + 1) % 2 ^ w else win ||| 2 ^ (h - i)

/-- The state record after an accepted packet, and whether the index has newly reached WARNED. -/
def CryptoSt.accept (c : CryptoSt) (rtcp : Bool) (i : Nat) : CryptoSt × Bool :=
  if rtcp then
    let warn := decide (2 ^ 30 ≤ i) && c.rtcpSt = 0
    ({ c with rtcpWin := winUpdate c.rtcpSeen c.rtcpIdx c.rtcpWin 64 i,
              rtcpIdx := if c.rtcpSeen then max c.rtcpIdx i else i, rtcpSeen := true,
              rtcpSt := if warn then 1 else c.rtcpSt }, warn)
  else
    let warn := decide (2 ^ 47 ≤ i) && c.rtpSt = 0
    ({ c with rtpWin := winUpdate c.rtpSeen c.rtpIdx c.rtpWin 256 i,
              rtpIdx := if c.rtpSeen then max c.rtpIdx i else i, rtpSeen := true,
              rtpSt := if warn then 1 else c.rtpSt }, warn)

/-! ## Inbound (R242 to R247) -/

/-- What comes of steps 4 to 7: a drop with its counter, a verified index that exhausts the stream, or the index and the
plaintext. -/
inductive Trial where
  | drop (c : Ctr)
  | exhaust
  | ok (idx : Nat) (plain : List Byte)
  deriving DecidableEq, Repr

/-- The RTP or RTCP packet as received: the UDP payload. -/
def Pkt.payload (p : Pkt) : List Byte := slice p.frame (p.parse.udp + 8) (p.stop - (p.parse.udp + 8))

/-- Bytes of the RTP header, with its extension. -/
def Pkt.hdrLen (p : Pkt) : Nat := if p.parse.kind = 1 then 8 else p.parse.pay - (p.parse.udp + 8)

/-- Steps 4 to 7 of R242 under a slot and a state record. For PROFILE 0 only step 7 is empty: an RTCP packet has its index
trailer there too (R242, R484). [PRESUMED, log 42] -/
def trial (p : Pkt) (prof : Nat) (k : KeySlot) (c : CryptoSt) : Trial :=
  let pkt := p.payload
  let mki := if prof = 0 then 0 else k.mkiLen
  if p.parse.kind = 1 then
    let i := fb32 pkt (rtcpTrailer prof mki pkt) % 2 ^ 31
    if replayed c.rtcpSeen c.rtcpIdx c.rtcpWin 64 i then .drop .cpeReplay
    else if c.rtcpSt = 2 then .drop .cpeIdxDrop
    else
      match unprotectRtcp prof (session prof k.key k.salt true) p.ssrc i mki pkt with
      | none => .drop .cpeAuthFail
      | some b => if i = 2 ^ 31 - 1 then .exhaust else .ok i b
  else
    let e := rtpEstimate c p.parse.seq
    if e < 0 ∨ 2 ^ 48 ≤ e then .drop .cpeIdxDrop
    else
      let i := e.toNat
      if replayed c.rtpSeen c.rtpIdx c.rtpWin 256 i then .drop .cpeReplay
      else if c.rtpSt = 2 then .drop .cpeIdxDrop
      else
        match unprotectRtp prof (session prof k.key k.salt false) p.ssrc i p.hdrLen mki pkt with
        | none => .drop .cpeAuthFail
        | some b => if i = 2 ^ 48 - 1 then .exhaust else .ok i b

/-- The MKI of a packet for a slot (step 3). -/
def Pkt.mkiIs (p : Pkt) (prof : Nat) (k : KeySlot) : Bool :=
  let pkt := p.payload
  let tail := if profGcm prof then 0 else profTag prof (p.parse.kind = 1)
  slice pkt (pkt.length - tail - k.mkiLen) k.mkiLen = k.mkiBytes

/-- A drop of an inbound packet: counted, with its event, and its buffer freed. -/
def State.inDrop (s : State) (p : Pkt) (c : Ctr) : State :=
  let s := s.bump cpePage c
  let s := if c = .cpeAuthFail then s.raise cpePage .cpeAuthFail p.parse.scid 0 else s
  s.iclFree p.handle

/-- The check of step 1 (R242, R248): the drop that applies, as its counter and its event. -/
def State.keyCheck (s : State) (scid prof slot : Nat) : Option (Ctr × Option (Event × Nat)) :=
  let k := s.kslot slot
  if s.mem.poison.contains (s.stateLine scid) then some (.cpePoisonDrop, some (.cpeStatePoison, scid))
  else if prof = 0 then none
  else if k.bad = 1 then some (.cpePoisonDrop, some (.cpeKeyPoison, slot))
  else if k.bad = 2 then some (.cpePoisonDrop, some (.cpeKeyTamper, slot))
  else if !k.valid || k.use ≠ 1 then some (.cpeNoKey, none)
  else none

/-- A drop of step 1 is counted and raised. -/
def State.keyDrop (s : State) (d : Ctr × Option (Event × Nat)) : State :=
  let s := s.bump cpePage d.1
  match d.2 with
  | some (e, a) => s.raise cpePage e a 0
  | none => s

/-- The stream becomes EXHAUSTED (R251, R252). -/
def State.exhaust (s : State) (scid : Nat) (rtcp : Bool) : State :=
  let c := s.crypto scid
  let was := if rtcp then c.rtcpSt = 2 else c.rtpSt = 2
  let s := s.setCrypto scid (if rtcp then { c with rtcpSt := 2 } else { c with rtpSt := 2 })
  if was then s else s.raise cpePage .cpeIdxExhausted scid rtcp.toNat

/-! ## ICL's verdict (R211 to R219) -/

/-- R211 and R212: the state and the extended number of an accepted packet. -/
def State.seqVerdict (s : State) (scid seq : Nat) : State × Option Nat :=
  let ext := s.ctx scid 8 31 0
  let h := ext % 65536
  let d := (seq + 65536 - h) % 65536
  let b := 65536 - d
  let noCand (s : State) : State := s.setCtx scid 6 17 17 0
  let leg := s.ctx scid 0 31 16
  if s.ctx scid 6 16 16 = 0 then
    (((s.setCtx scid 8 31 0 seq).setCtx scid 6 16 16 1).pmAccept leg 1 false, some seq)
  else if d = 0 then ((noCand s).pmAccept leg 0 false, some ext)
  else if d ≤ 32768 then
    let x := (ext + d) % 2 ^ 32
    ((noCand (s.setCtx scid 8 31 0 x)).pmAccept leg d false, some x)
  else if b ≤ s.ctx scid 6 14 0 then
    (((noCand s).bump iclPage .iclLate).pmAccept leg 0 true, some ((ext + 2 ^ 32 - b) % 2 ^ 32))
  else
    let step := (seq + 65536 - s.ctx scid 7 15 0) % 65536
    if s.ctx scid 6 17 17 = 1 && 1 ≤ step && step ≤ 16 then
      if s.ctx scid 6 19 18 = 0 then
        (((s.setCtx scid 6 19 18 1).setCtx scid 7 15 0 seq).bump iclPage .iclSeqCand, none)
      else
        let x := ((ext / 65536 + 1) * 65536 + seq) % 2 ^ 32
        ((((noCand (s.setCtx scid 8 31 0 x)).pmAccept leg 1 false).bump iclPage .iclSeqRestart).raise iclPage
          .iclSeqRestart scid (seq + h * 65536), some x)
    else
      ((((s.setCtx scid 6 17 17 1).setCtx scid 6 19 18 0).setCtx scid 7 15 0 seq).bump iclPage .iclSeqCand, none)

/-- The address of the history slot of an extended number (R217). -/
def State.histAddr (s : State) (scid x : Nat) : Nat :=
  let base := ((s.ctxW scid 4).toNat + (s.ctxW scid 5).toNat * 2 ^ 32) / 2 ^ 11 * 2 ^ 11
  base + 2048 * (x % 2 ^ s.ctx scid 4 4 0)

/-- Bytes written to DRAM over whole lines: the lines are no longer poisoned. -/
def State.linePut (s : State) (a : Nat) (bs : List Byte) (n : Nat) : State :=
  (s.dramPut a bs).setMem fun m => { m with poison := m.poison.filter fun l => !(decide (a ≤ l * 64 ∧ l * 64 < a + n)) }

/-- Bytes written for a packet of len bytes. -/
def histSize (len : Nat) : Nat := (64 + len + 63) / 64 * 64

/-- THR(c) in bytes (R218). -/
def State.histThr (s : State) (c : Nat) : Nat :=
  if c = 0 then 250000000 else s.raf iclPage (Reg.iclHistThr + 4 * (c - 1)) 21 0 * 64

/-- `ICL_HIST_SHED`, once for the wale that ends (R218). -/
def State.shedEvent (s : State) : State :=
  match s.icl.shed with
  | some c => s.raise iclPage .iclHistShed c 0
  | none => s

/-- The capture budget of the next acceptance wale of a standby that follows (R218, R606). -/
def State.captureFresh (s : State) : State := s.shedEvent.setIcl fun i => { i with hist := 0, shed := none }

/-- A packet is copied to its history slot, or not (R217, R218): the Bool says that it was. `forced` is the decision of
the Lay record. -/
def State.capture (s : State) (p : Pkt) (x : Nat) (plain : List Byte) (forced : Option Bool) : State × Bool :=
  let scid := p.parse.scid
  let len := plain.length
  if s.ctx scid 4 4 0 = 0 then (s, false)
  else if 1984 < len then (s.bump iclPage .iclHistToobig, false)
  else
    let cls := s.ctx scid 0 5 4
    let n := histSize len
    let fits := decide (s.icl.hist + n ≤ s.histThr cls)
    if forced.getD fits then
      let slot := leBytes 4 x ++ leBytes 2 len ++ leBytes 2 1 ++ leBytes 4 s.acceptWale ++ leBytes 4 p.parse.ts ++
        List.replicate 48 0 ++ plain
      (((s.setIcl fun i => { i with hist := i.hist + n }).bumpN iclPage .iclHistBytes n).linePut (s.histAddr scid x) slot n,
        true)
    else
      (((s.setIcl fun i => { i with shed := some (min cls (i.shed.getD cls)) }).bump iclPage .iclHistShed).bumpN iclPage
        .iclHistShedBytes n, false)

/-- The buffer of an accepted packet passes from ICL to LFW (R302). -/
def State.toLfw (s : State) (handle : Nat) : State :=
  (s.crlAdd iclPort handle (s.portOwner 556)).crlDrop iclPort handle

/-- A PKT entry of the Lay record (R603). -/
def State.layPkt (s : State) (p : Pkt) (idx : Nat) (captured discarded : Bool) : State :=
  s.lay 0x02 (captured.toNat + discarded.toNat * 2)
    (beBytes 4 (p.parse.scid + p.parse.lane * 2 ^ 25 + p.parse.kind * 2 ^ 30) ++ beBytes 4 p.parse.ts ++
      beBytes 2 (if p.parse.kind = 1 then idx % 65536 else p.parse.seq) ++ beBytes 2 p.payload.length ++
      beBytes 8 (sm3First p.payload))

/-- The release of a verified packet, ICL's verdict and what follows from it. `rec` is the state record to update, and
`forced` holds the DISCARD and CAPTURE flags that a standby follows (R606). -/
def State.inRelease (s : State) (p : Pkt) (idx : Nat) (plain : List Byte) (record : CryptoSt)
    (forced : Option (Bool × Bool)) : State × Bool :=
  let scid := p.parse.scid
  let rtcp : Bool := p.parse.kind = 1
  let s := (s.bump cpePage .cpeRxOk).bumpN cpePage .cpeBytes (plain.length - p.hdrLen)
  let s := s.bufPut p.handle (p.parse.udp + 8) plain
  let (s, verdict) := if rtcp then (s, some 0) else s.seqVerdict scid p.parse.seq
  let verdict := if (forced.map (·.1)).getD false then none else verdict
  match verdict with
  | none => ((s.layPkt p idx false true).iclFree p.handle, false)
  | some x =>
    let s := s.bump iclPage .iclAccepted
    let (s, captured) := if rtcp then (s, false) else s.capture p x plain (forced.map (·.2))
    let (c, warn) := record.accept rtcp idx
    let s := s.setCrypto scid c
    let s := if warn then s.raise cpePage .cpeIdxWarn scid rtcp.toNat else s
    let s := (s.layPkt p idx captured false).toLfw p.handle
    (s.setLfw fun l => { l with rx := l.rx ++ [⟨p, p.parse.udp + 8, plain, x, s.acceptWale, captured⟩] }, true)

/-- R242 for one inbound packet. -/
def State.inbound (s : State) (p : Pkt) (forced : Option (Bool × Bool)) : State :=
  let scid := p.parse.scid
  let rtcp : Bool := p.parse.kind = 1
  let prof := s.ctx scid 10 3 0
  let cur := s.ctx scid 9 21 0
  let nxt := s.ctx scid 11 21 0
  let nextValid := s.ctx scid 11 22 22 = 1
  let k := s.kslot cur
  let kn := s.kslot nxt
  let st := s.crypto scid
  match s.keyCheck scid prof cur with
  | some d => (s.keyDrop d).iclFree p.handle
  | none =>
    let mkiLen := if prof = 0 then 0 else k.mkiLen
    if p.payload.length < p.hdrLen + (if rtcp then 4 else 0) + mkiLen + profTag prof rtcp then
      s.inDrop p .cpeShort
    else
      let nextUsable := nextValid && kn.valid && kn.use = 1 && kn.bad = 0
      let useNext := mkiLen ≠ 0 && !p.mkiIs prof k && nextUsable && kn.mkiLen ≠ 0 && p.mkiIs prof kn
      if mkiLen ≠ 0 && !p.mkiIs prof k && !useNext then s.inDrop p .cpeMkiMiss
      else
        let finish (r : Trial) : State :=
          match r with
          | .drop c => s.inDrop p c
          | .exhaust => ((s.exhaust scid rtcp).bump cpePage .cpeIdxDrop).iclFree p.handle
          | .ok i b => (s.inRelease p i b st forced).1
        match trial p prof (if useNext then kn else k) st with
        | .drop .cpeAuthFail =>
          if mkiLen = 0 && nextUsable && prof ≠ 0 then
            let fresh := s.ctx scid 10 6 6 = 1
            let base := if fresh then CryptoSt.clear else st
            match trial p prof { kn with mkiLen := 0 } base with
            | .ok i b =>
              match s.inRelease p i b base forced with
              | (s, true) =>
                ((s.setCtx scid 9 21 0 nxt).setCtx scid 11 22 22 0).raise cpePage .cpeKeyPromoted scid nxt
              | (s, false) => s
            | .exhaust => ((s.exhaust scid rtcp).bump cpePage .cpeIdxDrop).iclFree p.handle
            | .drop _ => s.inDrop p .cpeAuthFail
          else s.inDrop p .cpeAuthFail
        | r => finish r

/-- R242: a lane takes the inbound packet that is served next. Where CPE or LFW has ceased to be READY, the packet is
discarded where it stands (R717). [DEDUCED, log 41] -/
def execCpeInbound (s : State) : Host.Outcome State Fault Refusal :=
  match s.cpePick with
  | some (s', q) =>
    match (s.cpeQ q).head? with
    | some (.inb p) =>
      let t := s'.popRq q
      .next (if t.mediaReady then t.inbound p none else t.iclDrop .iclDropNotready p.handle)
    | _ => .next s
  | none => .next s

/-- The effect of a write-back of a request queue (R230). -/
def State.wbRq (s : State) (src : Src) (q : Nat) (ws : List Word) : State :=
  let w := ws.getD 0 0 &&& (fmask 4 0 ||| fmask 15 8)
  let busy := decide ((s.cpeQ q).length ≠ 0) && decide (fld w 1 0 ≠ s.tf cpePage 0 0 q 0 1 0)
  if busy || (bit w 2 && fld w 15 8 = 0) then s.tblRefuse src cpePage 7 ws
  else s.tset cpePage 0 0 q [w, s.tw cpePage 0 0 q 1]

/-- R230. -/
def execCpeRqWriteback (src : Src) (q : Nat) (ws : List Word) (s : State) : Host.Outcome State Fault Refusal :=
  .next (s.writeBack src cpePage 0 q ws fun s => s.wbRq src q ws)

end Sys2Proof.Machine
end

