-- ==== Sys2Proof/Machine/Out.lean ====
section
/-!
DEFINITION. What every outbound packet shares: the leg egress table, lane groups and their staging areas, LFW's fan-out
records, history slots, the RTP header of a copy and the frame around it (R293 to R302, R480 to R486, R504).
-/

namespace Sys2Proof.Machine

/-! ## Lane groups and legs -/

/-- LFW's producer port. -/
def lfwPort : Nat := 556

/-- The ESC page of a lane group. -/
def escPage (lane : Nat) : Nat := 0x048 + lane / 4

/-- ESC's producer port for a lane group. -/
def escPort (lane : Nat) : Nat := 557 + lane / 4

/-- The state with another ESC. -/
def State.setEsc (s : State) (f : EscSt → EscSt) : State := { s with esc := f s.esc }

/-- A lane group's scheduler. -/
def State.laneSt (s : State) (lane : Nat) : LaneSt := NMap.get (fun _ => LaneSt.init) s.esc.lanes lane

/-- A lane group's scheduler changed. -/
def State.setLane (s : State) (lane : Nat) (f : LaneSt → LaneSt) : State :=
  s.setEsc fun e => { e with lanes := NMap.set (fun _ => LaneSt.init) e.lanes lane (f (s.laneSt lane)) }

/-- Word i of leg g's entry in force in the leg egress table, which is one table for all ESC pages (R482). -/
def State.legW (s : State) (g i : Nat) : Word := s.tw 0x048 1 0 g i

/-- A field of that entry. -/
def State.legF (s : State) (g i hi lo : Nat) : Nat := fld (s.legW g i) hi lo

/-- In-flight bytes of a class (R487). -/
def LaneSt.flying (l : LaneSt) (c : Nat) : Nat := NMap.get (fun _ => 0) l.flight c

/-- A frame leaves its class's window. -/
def State.land (s : State) (f : EscFrame) : State :=
  s.setLane f.lane fun l => { l with flight := NMap.set (fun _ => 0) l.flight f.cls (l.flying f.cls - f.len) }

/-- The frames in a class's staging area. -/
def LaneSt.staged (l : LaneSt) (c : Nat) : List (EscFrame × Nat) := NMap.get (fun _ => []) l.stage c

/-- A frame reaches the staging area of its class (R480). -/
def State.stageFrame (s : State) (f : EscFrame) : State :=
  let t := s.now
  s.setLane f.lane fun l => { l with stage := NMap.set (fun _ => []) l.stage f.cls (l.staged f.cls ++ [(f, t)]) }

/-! ## Fan-out records (R302) -/

/-- Copies outstanding of a buffer. -/
def State.fanCount (s : State) (h : Nat) : Nat := NMap.get (fun _ => 0) s.lfw.fan h

/-- LFW lets go of a buffer: it frees it as its last owner and drops itself otherwise. -/
def State.lfwRelease (s : State) (h : Nat) : State :=
  if s.owners h = [s.portOwner lfwPort] then s.crlFree lfwPort h else s.crlDrop lfwPort h

/-- A copy is done: its fan-out record counts down (R302, R485). -/
def State.copyDone (s : State) (d : Copy) : State :=
  if d.counted then
    let n := s.fanCount d.src - 1
    let s := s.setLfw fun l => { l with fan := NMap.set (fun _ => 0) l.fan d.src n }
    if n = 0 then s.lfwRelease d.src else s
  else s

/-- A frame is discarded after it was dequeued. -/
def State.outDrop (s : State) (f : EscFrame) : State :=
  let s := s.land f
  match f.copy with
  | some d => s.copyDone d
  | none => s

/-! ## History slots (R217, R292) -/

/-- The packet in the history slot of an extended number, where the slot holds it and no line of it is poisoned. -/
def State.histSlot (s : State) (scid x : Nat) : Option (List Byte) :=
  let a := s.histAddr scid x
  let len := leNat (s.dramBytes (a + 4) 2)
  if s.ctx scid 4 4 0 ≠ 0 && s.drcReady && s.dramByte (a + 6) &&& 1 = 1 && leNat (s.dramBytes a 4) = x &&
      !s.poisonedAt a (64 + len) then some (s.dramBytes (a + 64) len)
  else none

/-- n bytes of that slot's head from byte o on. -/
def State.histField (s : State) (scid x o n : Nat) : Nat := leNat (s.dramBytes (s.histAddr scid x + o) n)

/-- What a copy is read from; none where its history slot no longer holds it (R486). -/
def State.copySource (s : State) (d : Copy) : Option (List Byte) :=
  match d.body with
  | some b => some b
  | none =>
    if d.hist then s.histSlot d.src d.ext
    else
      some (s.bufBytes d.src 0 (max (max (d.ofs + d.len) (d.rtp + 12 + 4 * d.cc))
        (max (d.ddOfs + d.ddLen) (d.fmOfs + d.fmLen))))

/-! ## The RTP header of a copy (R293, R294) -/

/-- A context's extension IDs (R208, R271): TWCC, dependency descriptor, audio level, frame marking. -/
def State.extIds (s : State) (out : Nat) : Nat × Nat × Nat × Nat :=
  (s.ctx out 3 7 0, s.ctx out 3 15 8, s.ctx out 3 23 16, s.ctx out 12 31 24)

/-- The extension elements of a copy: IDs and lengths in the order they are written. -/
def State.copyElems (s : State) (d : Copy) : List (Nat × Nat) :=
  let (tw, dd, lv, fm) := s.extIds d.out
  (if tw ≠ 0 then [(tw, 2)] else []) ++ (if dd ≠ 0 && d.ddLen ≠ 0 then [(dd, d.ddLen)] else []) ++
    (if lv ≠ 0 && d.level ≠ 0 then [(lv, 1)] else []) ++ (if fm ≠ 0 && d.fmLen ≠ 0 then [(fm, d.fmLen)] else [])

/-- The one-byte form serves for these elements. -/
def oneByteForm (es : List (Nat × Nat)) : Bool := es.all fun e => decide (e.1 ≤ 14 ∧ e.2 ≤ 16)

/-- Bytes of the extension with these elements. -/
def extLen (es : List (Nat × Nat)) : Nat :=
  if es = [] then 0
  else
    let n := (es.map fun e => e.2 + (if oneByteForm es then 1 else 2)).sum
    4 + (n + 3) / 4 * 4

/-- Bytes of a copy's RTP packet before protection, header through payload. -/
def State.rtpLen (s : State) (d : Copy) : Nat :=
  if d.rtcp then d.len else 12 + 4 * d.cc + extLen (s.copyElems d) + d.len + (if d.rtx then 2 else 0)

/-- The extension's bytes: profile, length and elements. -/
def extBytes (es : List (Nat × List Byte)) : List Byte :=
  if es = [] then []
  else
    let one := oneByteForm (es.map fun e => (e.1, e.2.length))
    let body := es.flatMap fun e =>
      (if one then beBytes 1 (e.1 * 16 + (e.2.length - 1)) else beBytes 1 e.1 ++ beBytes 1 e.2.length) ++ e.2
    let n := (body.length + 3) / 4
    beBytes 2 (if one then 0xBEDE else 0x1000) ++ beBytes 2 n ++ body ++ List.replicate (4 * n - body.length) 0

/-- The RTP header of a copy with its sequence number and transport-wide number (R293). -/
def State.copyHeader (s : State) (d : Copy) (src : List Byte) (seq twcc : Nat) : List Byte :=
  let (tw, dd, lv, fm) := s.extIds d.out
  let es := (s.copyElems d).map fun e =>
    (e.1,
      if e.1 = tw && tw ≠ 0 then beBytes 2 twcc
      else if e.1 = dd && dd ≠ 0 && d.ddLen ≠ 0 then slice src d.ddOfs d.ddLen
      else if e.1 = lv && lv ≠ 0 && d.level ≠ 0 then beBytes 1 d.level
      else if e.1 = fm then slice src d.fmOfs d.fmLen
      else [])
  beBytes 1 (128 + (if es = [] then 0 else 16) + d.cc) ++ beBytes 1 (d.m.toNat * 128 + d.pt) ++ beBytes 2 seq ++
    beBytes 4 d.ts ++ beBytes 4 (s.ctxW d.out 1).toNat ++ slice src (d.rtp + 12) (4 * d.cc) ++ extBytes es

/-- The payload of a copy: that of the source, after the OSN of an RTX copy (R299). -/
def copyPayload (d : Copy) (src : List Byte) : List Byte :=
  (if d.rtx then beBytes 2 d.osn else []) ++ slice src d.ofs d.len

/-! ## The frame around a packet (R480 stage 4, R482 to R484, R504) -/

/-- L of a copy (R484). -/
def State.copyL (s : State) (d : Copy) : Nat :=
  let g := s.ctx d.out 0 31 16
  let prof := s.ctx d.out 10 3 0
  let mki := if prof = 0 then 0 else (s.kslot (s.ctx d.out 9 21 0)).mkiLen
  max 64
    (14 + 4 * s.legF g 0 12 12 + 6 * s.legF g 0 10 10 + (if s.legF g 0 11 11 = 1 then 40 else 20) + 8 + s.rtpLen d +
      (if d.rtcp then 4 else 0) + mki + profTag prof d.rtcp + 4)

/-- The checksum field of a sum. -/
def ckField (n : Nat) : Nat := 65535 - fold16 n

/-- A packet in its Ethernet frame, without the FCS. [PRESUMED, log 40] -/
def State.wrapFrame (s : State) (g rtag : Nat) (pkt : List Byte) : List Byte :=
  let f (i hi lo : Nat) := s.legF g i hi lo
  let v6 := f 0 11 11 = 1
  let ulen := pkt.length + 8
  let ip (w : Nat) : List Byte :=
    let a := wordBytes ((List.range 4).map fun i => s.legW g (w + i))
    if v6 then a else a.drop 12
  let ports := beBytes 2 (f 14 15 0) ++ beBytes 2 (f 14 31 16)
  let sum := sum16 (ip 6) + sum16 (ip 10) + 17 + ulen + sum16 (ports ++ beBytes 2 ulen) + sum16 pkt
  let ck := if ckField sum = 0 then 65535 else ckField sum
  let v4 := beBytes 1 0x45 ++ beBytes 1 (f 5 21 16 * 4) ++ beBytes 2 (20 + ulen) ++ beBytes 2 0 ++ beBytes 2 0x4000 ++
    beBytes 1 (f 5 31 24) ++ beBytes 1 17
  let addrs := ip 6 ++ ip 10
  let header :=
    if v6 then
      beBytes 4 (6 * 2 ^ 28 + f 5 21 16 * 2 ^ 22) ++ beBytes 2 ulen ++ beBytes 1 17 ++ beBytes 1 (f 5 31 24) ++ addrs
    else v4 ++ beBytes 2 (ckField (sum16 v4 + sum16 addrs)) ++ addrs
  let frame :=
    (wordBytes [s.legW g 2, s.legW g 3, s.legW g 4]) ++
      (if f 0 12 12 = 1 then beBytes 2 0x8100 ++ beBytes 2 (f 5 14 12 * 2 ^ 13 + f 5 11 0) else []) ++
      (if f 0 10 10 = 1 then beBytes 2 0xF1C1 ++ beBytes 2 0 ++ beBytes 2 (rtag % 65536) else []) ++
      beBytes 2 (if v6 then 0x86DD else 0x0800) ++ header ++ ports ++ beBytes 2 ulen ++ beBytes 2 ck ++ pkt
  frame ++ List.replicate (60 - frame.length) 0

/-! ## Records of the copies -/

/-- The DEQ and DROP entries of a copy (R603). -/
def State.layCopy (s : State) (ty : Nat) (d : Copy) : State :=
  s.lay ty 0
    (beBytes 4 (d.out + d.hist.toNat * 2 ^ 25 + d.rtx.toNat * 2 ^ 26 + d.origin.toNat * 2 ^ 27) ++
      beBytes 4 (if d.origin then 0 else d.ext) ++ beBytes 4 (if d.rtx then d.osn else if d.origin then d.g else 0))

/-- A record for the estimator queue of a leg (R279). -/
def State.estRecord (s : State) (g : Nat) (bs : List Byte) : State :=
  let w := s.ra lfwPage Reg.lfwEstQbase
  if bit w 12 then
    match s.colSend lfwPort (fld w 11 0 + g / 128) bs with
    | (s, true) => s
    | (s, false) => s.bump lfwPage .lfwEstLost
  else s

/-- The address of the send-map entry of sequence number q (R297). -/
def State.sendMapAddr (s : State) (out q : Nat) : Nat :=
  (s.ctxW out 15).toNat * 1024 + 16 * (q % 2 ^ s.ctx out 12 23 19)

/-- Where the timestamp of that entry's copy is kept. -/
def State.sendMapKey (s : State) (out q : Nat) : Nat := out * 2 ^ 14 + q % 2 ^ s.ctx out 12 23 19

/-- The send-map entry of a copy (R297). -/
def State.sendMap (s : State) (d : Copy) (q : Nat) : State :=
  if s.ctx d.out 12 23 19 = 0 then s
  else
    (s.dramPut (s.sendMapAddr d.out q)
      (leBytes 2 q ++ leBytes 1 (1 + d.origin.toNat * 2) ++ leBytes 1 0 ++ leBytes 4 d.scid ++ leBytes 4 d.ext ++
        leBytes 4 0xFFFFFFFF)).setLfw fun l =>
      { l with smTs := NMap.set (fun _ => 0) l.smTs (s.sendMapKey d.out q) d.ts }

end Sys2Proof.Machine
end

