-- ==== Sys2Proof/Machine/Gate.lean ====
section
/-!
DEFINITION. The Seizing gate: release digests, the active's wait, the standby's hold, and the outcomes of each comparison
(R614 to R619, R631).
-/

namespace Sys2Proof.Machine

/-- What identifies a stream's indices at the gate: OUT_SCID, and 2^25 more for SRTCP. -/
def gateKey (scid : Nat) (rtcp : Bool) : Nat := scid + rtcp.toNat * 2 ^ 25

/-- The six bytes of an index in a digest and in a ring entry (R614, R631). -/
def idxBytes (key idx : Nat) : List Byte :=
  if key < 2 ^ 25 then beBytes 6 idx else beBytes 4 (2 ^ 31 + idx) ++ beBytes 2 0

/-- The release digest (R614). -/
def releaseDigest (key idx : Nat) (plain : List Byte) : Nat :=
  sm3First (beBytes 4 (key % 2 ^ 25) ++ idxBytes key idx ++ plain)

/-- The gate is bypassed (R619). -/
def State.bypass (s : State) : Bool := s.rb prgPage Reg.prgGate 25

/-- The twins compare their packets: JOINING, IN_STEP and LAGGING. [DEDUCED, log 68] -/
def State.comparing (s : State) : Bool := decide (3 ≤ s.prgState ∧ s.prgState ≤ 5) && !s.bypass

/-- An event of R617 is raised at most once per OUT_SCID and outcome in a wale. -/
def State.gateTell (s : State) (e : Event) (kind key arg2 : Nat) : State :=
  let scid := key % 2 ^ 25
  if s.prg.told.contains (scid, kind) then s
  else (s.setPrg fun p => { p with told := p.told ++ [(scid, kind)] }).raise prgPage e scid arg2

/-- A disagreement (R617, R631): ours and the twin's digest. -/
def State.disagree (s : State) (key idx mine its : Nat) : State :=
  let s := s.bump prgPage .prgDisagree
  let (act, stb) := if s.standby then (its, mine) else (mine, its)
  let scid := key % 2 ^ 25
  let bytes := leBytes 4 scid ++ leBytes 6 (beNat (idxBytes key idx)) ++ leBytes 2 0 ++ leBytes 8 act ++
    leBytes 8 stb ++ leBytes 4 (s.wale % 2 ^ 31)
  let ws := (List.range 8).map fun i => BitVec.ofNat 32 (leNat (slice bytes (4 * i) 4))
  let s := if s.ringOn prgPage 0 && s.ringRoom prgPage 0 then s.ringWrite prgPage 0 ws else s
  (s.setPrg fun p => { p with clean := 0 }).gateTell .prgDisagree 1 key (idx % 2 ^ 32)

/-- A packet leaves the gate for its staging area. -/
def State.gateRelease (s : State) (f : EscFrame) : State := s.stageFrame f

/-- A packet is suppressed. -/
def State.gateSuppress (s : State) (f : EscFrame) : State := s.land f

/-- Both digests of an index are known (R617). -/
def State.gateMatch (s : State) (g : GatePkt) (its : Nat) : State :=
  if g.dig = its then
    let s := s.bump prgPage .prgMatched
    if g.sent then s else s.gateRelease g.frame
  else
    let s := s.disagree g.key g.idx g.dig its
    if s.standby then s.gateSuppress g.frame else if g.sent then s else s.gateRelease g.frame

/-- A digest that only one twin produced (R617). -/
def State.gateOnly (s : State) (standbys : Bool) (key : Nat) : State :=
  if standbys then (s.bump prgPage .prgStbyExtra).gateTell .prgStbyExtra 3 key 0
  else (s.bump prgPage .prgStbyNone).gateTell .prgStbyNone 2 key 0

/-- The twin's digests of lower indices of a stream that this device has passed over. -/
def State.gatePassed (s : State) (key idx : Nat) : State :=
  let old := s.prg.digs.filter fun d => decide (d.1 = key ∧ d.2.1 < idx)
  let s := s.setPrg fun p => { p with digs := p.digs.filter fun d => !decide (d.1 = key ∧ d.2.1 < idx) }
  old.foldl (fun s d => s.gateOnly (!s.standby) d.1) s

/-- The highest index, plus 1, that the active announced (R616). [DEDUCED, log 68] -/
def State.gateTop (s : State) (key : Nat) : Nat := NMap.get (fun _ => 0) s.prg.top key

/-- The active announces an index. -/
def State.gateAnnounce (s : State) (key idx : Nat) : State :=
  s.setPrg fun p => { p with top := NMap.set (fun _ => 0) p.top key (max (s.gateTop key) (idx + 1)) }

/-- The highest index, plus 1, that this device produced. -/
def State.gateMine (s : State) (key : Nat) : Nat := NMap.get (fun _ => 0) s.prg.mine key

/-- A compared packet reaches the gate with its digest (R615, R616). -/
def State.gatePkt (s : State) (f : EscFrame) (key idx dig : Nat) : State :=
  let s := (s.digestSend key idx dig).gatePassed key idx
  let s := if s.standby then s else s.gateAnnounce key idx
  let s := s.setPrg fun p => { p with mine := NMap.set (fun _ => 0) p.mine key (max (s.gateMine key) (idx + 1)) }
  let sent := !s.standby && decide (s.prgState ≠ 4)
  let s := if sent then s.gateRelease f else s
  let g : GatePkt := ⟨f, key, idx, dig, s.now, sent⟩
  match s.prg.digs.find? fun d => d.1 = key ∧ d.2.1 = idx with
  | some d => (s.setPrg fun p => { p with digs := p.digs.filter fun e => !decide (e.1 = key ∧ e.2.1 = idx) }).gateMatch g d.2.2
  | none =>
    if s.standby && decide (idx + 1 < s.gateTop key) then (s.gateOnly true key).gateSuppress f
    else s.setPrg fun p => { p with gate := p.gate ++ [g] }

/-- Stage 5 of R480 for a packet that passed CPE: in SOLO, in bypass and on an active whose twin does not compare it goes
on; a standby sends only in the states that compare; SILENT discards (R597, R615, R616). [DEDUCED, log 68] -/
def State.gateOut (s : State) (f : EscFrame) (key idx : Nat) (plain : List Byte) : State :=
  if s.prgState = 0 then s.gateRelease f
  else if s.prgState = 6 then s.gateSuppress f
  else
    let dig := releaseDigest key idx plain
    if s.bypass then s.gateRelease f
    else if s.comparing then s.gatePkt f key idx dig
    else if s.standby then s.gateSuppress f
    else ((s.digestSend key idx dig).gateAnnounce key idx).gateRelease f

/-- A digest of the twin arrives (R615, R616). -/
def State.gateDigest (s : State) (key idx dig : Nat) : State :=
  let s := if s.standby then s.gateAnnounce key idx else s
  let hit := s.prg.gate.find? fun g => g.key = key ∧ g.idx = idx
  let lower := if s.standby then s.prg.gate.filter fun g => decide (g.key = key ∧ g.idx < idx) else []
  let s := s.setPrg fun p =>
    { p with gate := p.gate.filter fun g => !(decide (g.key = key ∧ (g.idx = idx ∨ s.standby ∧ g.idx < idx))) }
  let s := lower.foldl (fun s g => (s.gateOnly true g.key).gateSuppress g.frame) s
  match hit with
  | some g => s.gateMatch g dig
  | none => if s.comparing && decide (s.gateMine key ≤ idx) then s.setPrg fun p => { p with digs := p.digs ++ [(key, idx, dig)] } else s

/-- Packets that the gate has held for t ns or longer leave it: the active's with PRG_STBY_NONE, sent where they were
not, the standby's suppressed (R615 to R617). [DEDUCED, log 68] -/
def State.gateExpire (s : State) (t : Nat) : State :=
  let late := s.prg.gate.filter fun g => decide (g.at_ + t ≤ s.now)
  let s := s.setPrg fun p => { p with gate := p.gate.filter fun g => !decide (g.at_ + t ≤ s.now) }
  late.foldl
    (fun s g =>
      if s.standby then (s.gateOnly true g.key).gateSuppress g.frame
      else
        let s := s.gateOnly false g.key
        if g.sent then s else s.gateRelease g.frame) s

end Sys2Proof.Machine
end

