-- ==== Sys2Proof/Machine/CpeOut.lean ====
section
/-!
DEFINITION. The Cipher Engine's outbound side, its bulk requests, and key loads in Pairing (R248 to R260, R601).
-/

namespace Sys2Proof.Machine

/-! ## Invocations (R253) -/

/-- One more encryption under a slot. -/
def State.invoke (s : State) (slot : Nat) : State :=
  let k := s.kslot slot
  let n := k.count + 1
  let out := decide (n = k.lim) && decide (k.inv ≠ 2)
  let warn := decide (k.lim / 2 ≤ n) && decide (k.inv = 0)
  let s := s.setKslot slot fun k => { k with count := n, inv := if out then 2 else if warn then 1 else k.inv }
  let s := if warn then s.raise cpePage .cpeInvWarn slot 0 else s
  if out then s.raise cpePage .cpeInvExhausted slot 0 else s

/-- Encryptions under a slot are refused. -/
def KeySlot.spent (k : KeySlot) : Bool := decide (k.inv = 2) || decide (k.lim ≤ k.count)

/-! ## Outbound (R248 to R252) -/

/-- The index that a context's next outbound packet takes (R249); none where it would be the one that is never sent. -/
def State.nextIdx (s : State) (out : Nat) (rtcp : Bool) : Option Nat :=
  let c := s.crypto out
  if rtcp then
    let i := if c.rtcpSeen then c.rtcpIdx + 1 else 0
    if i < 2 ^ 31 - 1 then some i else none
  else
    let i := if c.rtpSeen then c.rtpIdx + 1 else s.ctx out 10 31 16
    if i < 2 ^ 48 - 1 then some i else none

/-- An index is assigned (R249, R251, R252). -/
def State.assign (s : State) (out : Nat) (rtcp : Bool) (i : Nat) : State :=
  let c := s.crypto out
  let warn := if rtcp then decide (2 ^ 30 ≤ i ∧ c.rtcpSt = 0) else decide (2 ^ 47 ≤ i ∧ c.rtpSt = 0)
  let c :=
    if rtcp then { c with rtcpIdx := i, rtcpSeen := true, rtcpSt := if warn then 1 else c.rtcpSt }
    else { c with rtpIdx := i, rtpSeen := true, rtpSt := if warn then 1 else c.rtpSt }
  let s := s.setCrypto out c
  if warn then s.raise cpePage .cpeIdxWarn out rtcp.toNat else s

/-- The leg's transport-wide number where the copy carries one (R279, R294): the number, and the counter advanced. -/
def State.takeTwcc (s : State) (d : Copy) : State × Option Nat :=
  if d.rtcp || s.ctx d.out 3 7 0 = 0 then (s, none)
  else
    let g := s.ctx d.out 0 31 16
    let t := s.legF g 15 15 0
    (s.tsetF 0x048 1 0 g 15 15 0 ((t + 1) % 65536), some t)

/-- The send record of a copy (R279). [DESIGN CHOICE, log 30] -/
def State.sendRecord (s : State) (d : Copy) (twcc : Nat) : State :=
  let g := s.ctx d.out 0 31 16
  s.estRecord g
    (leBytes 2 g ++ leBytes 1 2 ++ leBytes 1 0 ++ leBytes 2 twcc ++ leBytes 2 (s.rtpLen d) ++ leBytes 4 d.time ++
      leBytes 4 d.out)

/-- Steps 4 to 7 of R248 for a copy whose source bytes are at hand. -/
def State.outSend (s : State) (f : EscFrame) (d : Copy) (src : List Byte) (idx : Nat) : State :=
  let out := d.out
  let prof := s.ctx out 10 3 0
  let slot := s.ctx out 9 21 0
  let k := s.kslot slot
  let s := s.assign out d.rtcp idx
  let s := if prof = 0 then s else s.invoke slot
  let (s, twcc) := s.takeTwcc d
  let s := match twcc with
    | some t => s.sendRecord d t
    | none => s
  let s := if d.rtcp then s else s.sendMap d (idx % 65536)
  let hdr := if d.rtcp then src.take 8 else s.copyHeader d src (idx % 65536) (twcc.getD 0)
  let body := if d.rtcp then src.drop 8 else copyPayload d src
  let mki := if prof = 0 then [] else k.mkiBytes
  let ssrc := (s.ctxW out 1).toNat
  let pkt :=
    if d.rtcp then
      protectRtcp prof (session prof k.key k.salt true) ssrc idx hdr body mki (s.ctx out 10 4 4 = 1)
    else protectRtp prof (session prof k.key k.salt false) ssrc idx hdr body mki
  let s := (s.bump cpePage .cpeTxOk).bumpN cpePage .cpeBytes body.length
  let f := { f with bytes := s.wrapFrame (s.ctx out 0 31 16) (idx % 65536) pkt }
  let s := s.copyDone d
  s.gateOut f (gateKey out d.rtcp) idx (hdr ++ body)

/-- R248 for one outbound frame. -/
def State.outbound (s : State) (f : EscFrame) (d : Copy) : State :=
  let out := d.out
  let prof := s.ctx out 10 3 0
  let slot := s.ctx out 9 21 0
  match s.copySource d with
  | none => (s.bumpLane (escPage f.lane) (f.lane % 4) .escHistGone 1).outDrop f
  | some src =>
    match s.keyCheck out prof slot with
    | some c => (s.keyDrop c).outDrop f
    | none =>
      let c := s.crypto out
      if (if d.rtcp then c.rtcpSt = 2 else c.rtpSt = 2) then (s.bump cpePage .cpeIdxDrop).outDrop f
      else
        match s.nextIdx out d.rtcp with
        | none => ((s.exhaust out d.rtcp).bump cpePage .cpeIdxDrop).outDrop f
        | some i =>
          if prof ≠ 0 && (s.kslot slot).spent then (s.bump cpePage .cpeInvDrop).outDrop f
          else s.outSend f d src i

/-- R248: a lane takes the outbound packet that is served next, while CPE is READY. [DEDUCED, log 41] -/
def execCpeOutbound (s : State) : Host.Outcome State Fault Refusal :=
  match s.cpePick with
  | some (s', q) =>
    match (s.cpeQ q).head? with
    | some (.out f) =>
      .next
        (if s.ready cpePage then
          match f.copy with
          | some d => (s'.popRq q).outbound f d
          | none => s'.popRq q
         else s)
    | _ => .next s
  | none => .next s

/-! ## Bulk requests (R255 to R257) -/

/-- Field [hi:lo] of word i of a descriptor. -/
def bulkF (d : List Word) (i hi lo : Nat) : Nat := fld (d.getD i 0) hi lo

/-- A descriptor holds no reserved encoding (R255). -/
def bulkOk (d : List Word) : Bool :=
  let mode := bulkF d 0 3 1
  let len := bulkF d 3 20 0
  decide (mode ≤ 4) && decide (1 ≤ len ∧ len ≤ 2 ^ 20) && (mode ≠ 0 || decide (len % 16 = 0)) &&
    (mode = 4 || decide (bulkF d 4 15 0 = 0))

/-- A submission: its status, and the request queued where it is 0. [DEDUCED, log 43] -/
def State.bulkSubmit (s : State) (port rq : Nat) (d : List Word) : State × Nat :=
  if !s.rqIs rq 3 || !s.ready cpePage then (s, 3)
  else if !bulkOk d then (s, 2)
  else if rqMax ≤ (s.cpeQ rq).length then (s, 1)
  else (s.setCpeQ rq (s.cpeQ rq ++ [.bulk port d]), 0)

/-- R257: through registers, the descriptor is that of `CPE_BULK_DESC` and the status lands in `CPE_BULK_RES`; an agent is
answered at its port. -/
def execBulkSubmit (port rq : Nat) (desc : List Word) (s : State) : Host.Outcome State Fault Refusal :=
  .next (s.portAccess port cpePage Reg.cpeBulkGo (BitVec.ofNat 32 (rq + 256)) fun s =>
    if viaRegs port then
      let d := (List.range 16).map fun i => s.rd cpePage (Reg.cpeBulkDesc + 4 * i)
      let (s, st) := s.bulkSubmit port rq d
      (s.wfld cpePage Reg.cpeBulkRes 3 0 st).seqUp cpePage Reg.cpeBulkRes
    else
      let (s, st) := s.bulkSubmit port rq desc
      s.setCpe fun c => { c with ans := NMap.set (fun _ => 0) c.ans port st })

/-- The IV of R256 as 16 bytes; that of GCM fills the first 12. -/
def bulkIv (mode : Nat) (k : KeySlot) (n : Nat) : List Byte :=
  if mode ≤ 1 then encBlock k.alg k.key (beBytes 16 n)
  else if mode = 2 then beBytes 16 n
  else if mode = 3 then beBytes 16 (n * 2 ^ 64)
  else beBytes 12 n ++ List.replicate 4 0

/-- Encryption of data in a mode, with the tag of GCM behind it. -/
def bulkEnc (mode : Nat) (k : KeySlot) (iv aad data : List Byte) : List Byte :=
  if mode = 0 then cbcEnc k.alg k.key iv (blocks16 data)
  else if mode = 1 then (cfbEnc k.alg k.key iv (blocks16 data)).take data.length
  else if mode = 2 then (ofb k.alg k.key iv (blocks16 data)).take data.length
  else if mode = 3 then xorBytes data (ctrStream k.alg k.key (beNat iv) 64 data.length)
  else
    let v := beNat (iv.take 12)
    let ct := gcmCrypt k.alg k.key v data
    ct ++ gcmTag k.alg k.key v aad ct

/-- Decryption of data in a mode; none where the tag of GCM fails. -/
def bulkDec (mode : Nat) (k : KeySlot) (iv aad data tag : List Byte) : Option (List Byte) :=
  if mode = 0 then some (cbcDec k.alg k.key iv (blocks16 data))
  else if mode = 1 then some ((cfbDec k.alg k.key iv (blocks16 data)).take data.length)
  else if mode = 2 then some ((ofb k.alg k.key iv (blocks16 data)).take data.length)
  else if mode = 3 then some (xorBytes data (ctrStream k.alg k.key (beNat iv) 64 data.length))
  else
    let v := beNat (iv.take 12)
    if tag = gcmTag k.alg k.key v aad data then some (gcmCrypt k.alg k.key v data) else none

/-- A requester may use a buffer for n bytes. -/
def State.bulkOwns (s : State) (port h n : Nat) : Bool :=
  s.poolState (h / 2 ^ 26) = 2 && decide (h % 2 ^ 26 < s.poolCount (h / 2 ^ 26)) &&
    (s.owners h).contains (s.portOwner port) && decide (n ≤ s.bufSize h)

/-- A request is carried out: the status, the invocation number and the IV of its record (R256, R257). [DEDUCED, log 43] -/
def State.bulkRun (s : State) (port : Nat) (d : List Word) : State × Nat × Nat × List Byte :=
  let dec := bulkF d 0 0 0 = 1
  let mode := bulkF d 0 3 1
  let slot := bulkF d 0 29 8
  let src := (d.getD 1 0).toNat
  let dst := (d.getD 2 0).toNat
  let len := bulkF d 3 20 0
  let aadLen := bulkF d 4 15 0
  let k := s.kslot slot
  let ivD := wordBytes ((List.range 4).map fun i => d.getD (8 + i) 0)
  let tag := wordBytes ((List.range 4).map fun i => d.getD (12 + i) 0)
  let none_ (s : State) (st : Nat) : State × Nat × Nat × List Byte := (s, st, 0, List.replicate 16 0)
  if k.bad = 1 then none_ (s.raise cpePage .cpeKeyPoison slot 0) 4
  else if k.bad = 2 then none_ (s.raise cpePage .cpeKeyTamper slot 0) 5
  else if !k.valid || k.use ≠ 2 then none_ s 3
  else if !s.bulkOwns port src (aadLen + len) ||
      !s.bulkOwns port dst (len + (if mode = 4 && !dec then 16 else 0)) then none_ s 6
  else if s.bufPoisoned src 0 (aadLen + len) then none_ s 7
  else
    let aad := s.bufBytes src 0 aadLen
    let data := s.bufBytes src aadLen len
    let s := s.bumpN cpePage .cpeBytes len
    if dec then
      match bulkDec mode k ivD aad data tag with
      | some b => (s.bufPut dst 0 b, 0, 0, ivD)
      | none => (s.bufPut dst 0 (List.replicate len 0), 1, 0, ivD)
    else if k.spent then none_ (s.bump cpePage .cpeInvDrop) 2
    else
      let n := k.count
      let iv := bulkIv mode k n
      ((s.invoke slot).bufPut dst 0 (bulkEnc mode k iv aad data), 0, n, iv)

/-- The completion record of a request goes out, or waits for credit (R257). -/
def State.bulkRecord (s : State) (q compq : Nat) (bytes : List Byte) : State :=
  if s.qOn compq && s.qCredit 555 compq 32 then
    let s := (s.colSend 555 compq bytes).1
    ((s.setCpe fun c => { c with done := NMap.set (fun _ => none) c.done q none }).popRq q).bump cpePage .cpeBulkDone
  else s.setCpe fun c => { c with done := NMap.set (fun _ => none) c.done q (some ⟨compq, bytes⟩) }

/-- R257: the bulk request that is served next is carried out, or its record that waited for credit is written. -/
def execBulkComplete (s : State) : Host.Outcome State Fault Refusal :=
  match s.cpePick with
  | some (s', q) =>
    match (s.cpeQ q).head? with
    | some (.bulk port d) =>
      .next
        (if !s.ready cpePage then s
         else
          match NMap.get (fun _ => none) s.cpe.done q with
          | some r => s.bulkRecord q r.compq r.bytes
          | none =>
            let (t, st, n, iv) := s'.bulkRun port d
            t.bulkRecord q (bulkF d 5 11 0)
              (leBytes 4 (d.getD 6 0).toNat ++ leBytes 1 st ++ leBytes 3 0 ++ leBytes 8 n ++ iv))
    | _ => .next s
  | none => .next s

/-! ## Key loads in Pairing (R601) -/

/-- The digest of a load (R604, item 8). -/
def State.keyDigest (s : State) (slot : Nat) (k : KeySlot) : Nat :=
  sm3First
    (beBytes 4 (s.rd prgPage Reg.prgTag).toNat ++ beBytes 4 slot ++ beBytes 1 k.alg ++ beBytes 1 k.use ++
      beBytes 1 k.mkiLen ++ beBytes 4 k.mki ++ beBytes 8 k.limit ++ k.key ++ k.salt)

/-- A boundary item's fields: KIND, A, B and C (R604). -/
def itemFields (b : List Byte) : Nat × Nat × Nat × Nat := (fb b 0, fb16 b 2, fb32 b 4, beNat (slice b 8 8))

/-- R601 on the active: every load that is held applies and is listed. -/
def State.keyApplyActive (s : State) : State :=
  let held := s.cpe.held
  let s := s.setCpe fun c => { c with held := [] }
  held.foldl (fun s h => (s.applyKey h.2.1 h.2.2).layItem 8 0 h.2.1 (s.keyDigest h.2.1 h.2.2)) s

/-- R601 on the standby, for one slot that the boundary's entry lists. -/
def State.keyApplyStandby (s : State) (slot dig : Nat) : State :=
  let mine := s.cpe.held.find? fun h => h.2.1 = slot
  let s := s.setCpe fun c => { c with held := c.held.filter fun h => h.2.1 ≠ slot }
  match mine with
  | some h =>
    if s.keyDigest slot h.2.2 = dig then s.applyKey slot h.2.2
    else (s.applyKey slot KeySlot.empty).raise prgPage .prgKeyMismatch slot 0
  | none => (s.applyKey slot KeySlot.empty).raise prgPage .prgKeyMismatch slot 0

/-- R601: at step 4 of a boundary, the loads that Pairing held apply. [DEDUCED, log 43] -/
def execKeyLoadApply (s : State) : Host.Outcome State Fault Refusal :=
  .next
    (if !s.stepDue 4 then s
     else if s.paired && s.standby then
      let s := s.atStep 4
      let items := (s.prg.listed.map itemFields).filter fun i => i.1 = 8
      let s := s.setPrg fun p => { p with listed := p.listed.filter fun b => fb b 0 ≠ 8 }
      items.foldl (fun s i => s.keyApplyStandby i.2.2.1 i.2.2.2) s
     else (s.atStep 4).keyApplyActive)

/-- R601: pending loads of a standby that no boundary named within 400 wales. -/
def execKeyLoadPendingExpire (s : State) : Host.Outcome State Fault Refusal :=
  let old (h : Nat × Nat × KeySlot) : Bool := decide (400 < (s.wale + 2 ^ 32 - h.1) % 2 ^ 32)
  .next
    (if s.paired && s.standby then
      let gone := s.cpe.held.filter old
      let s := s.setCpe fun c => { c with held := c.held.filter fun h => !old h }
      gone.foldl (fun s h => s.raise prgPage .prgKeyMismatch h.2.1 0) s
     else s)

end Sys2Proof.Machine
end

