-- ==== Sys2Proof/Machine/Layer.lean ====
section
/-!
DEFINITION. What LFW reads from a packet about its frame: layer, frame boundaries, switch points and membership, for each
LAYERING (R266 to R268). The dependency descriptor's fields are those of the AV1 RTP payload specification, HEVC's of
RFC 7798 and frame marking's of RFC 9626, which R266 names.
-/

namespace Sys2Proof.Machine

/-! ## The dependency descriptor -/

/-- n bits of a string of bytes from bit position p on; bits beyond its end read 0. -/
def dbits (bs : List Byte) (p n : Nat) : Nat :=
  beNat (slice bs (p / 8) ((p % 8 + n + 7) / 8) ++ List.replicate ((p % 8 + n + 7) / 8 - (bs.length - p / 8)) 0) /
    2 ^ ((8 - (p + n) % 8) % 8) % 2 ^ n

/-- A non-symmetric number below n at position p: its value and the position after it. -/
def nsBits (bs : List Byte) (p n : Nat) : Nat × Nat :=
  let w := Nat.log2 n + 1
  let m := 2 ^ w - n
  let v := dbits bs p (w - 1)
  if v < m then (v, p + (w - 1)) else (v * 2 - m + dbits bs (p + (w - 1)) 1, p + w)

/-- The layers of the templates, and the position after them; at most `fuel` templates. -/
def ddLayers (bs : List Byte) : Nat → Nat → Nat → Nat → List (Nat × Nat) × Nat × Bool
  | 0, p, _, _ => ([], p, false)
  | fuel + 1, p, sp, tm =>
    let next := dbits bs p 2
    if next = 3 then ([(sp, tm)], p + 2, true)
    else
      let (l, q, ok) :=
        ddLayers bs fuel (p + 2) (if next = 2 then sp + 1 else sp) (if next = 2 then 0 else if next = 1 then tm + 1 else tm)
      ((sp, tm) :: l, q, ok)

/-- n decode target indications from position p on. -/
def ddDtis (bs : List Byte) (p n : Nat) : List Nat := (List.range n).map fun i => dbits bs (p + 2 * i) 2

/-- The position after a template's frame differences. -/
def ddDiffs (bs : List Byte) : Nat → Nat → Nat
  | 0, p => p
  | fuel + 1, p => if dbits bs p 1 = 1 then ddDiffs bs fuel (p + 5) else p + 1

/-- The code of each decode target: the largest indices among the templates present in it (R267). -/
def ddTargets (ts : List (Nat × Nat × List Nat)) (n : Nat) : List Nat :=
  (List.range n).map fun d =>
    let here := ts.filter fun t => t.2.2.getD d 0 ≠ 0
    3 * (here.map (·.1)).foldl max 0 + (here.map (·.2.1)).foldl max 0

/-- A template dependency structure at position p, and the position after it. -/
def ddStruct (bs : List Byte) (p : Nat) : TStruct × Nat :=
  let ofs := dbits bs p 6
  let n := dbits bs (p + 6) 5 + 1
  let (layers, p1, ended) := ddLayers bs 65 (p + 11) 0 0
  let ts := layers.zipIdx.map fun (l, i) => (l.1, l.2, ddDtis bs (p1 + 2 * n * i) n)
  let p2 := p1 + 2 * n * layers.length
  let p3 := layers.foldl (fun q _ => ddDiffs bs (8 * bs.length) q) p2
  let (chains, p4) := nsBits bs p3 (n + 1)
  let p5 := if chains = 0 then p4 else (List.range n).foldl (fun q _ => (nsBits bs q chains).2) p4
  let p6 := p5 + 4 * chains * layers.length
  let p7 := if dbits bs p6 1 = 1 then p6 + 1 + 32 * ((layers.map (·.1)).foldl max 0 + 1) else p6 + 1
  let ok := ended && decide (layers.length ≤ 64 ∧ n ≤ 9) && layers.all (fun l => decide (l.1 ≤ 2 ∧ l.2 ≤ 2)) &&
    decide (p7 ≤ 8 * bs.length)
  ({ ofs := ofs, templates := if ok then ts else [], dts := if ok then ddTargets ts n else [], usable := ok }, p7)

/-- A mask over the targets 0 to 8. -/
def targetMask (f : Nat → Bool) : Nat := ((List.range 9).map fun t => if f t then 2 ^ t else 0).sum

/-- An unusable packet. -/
def Layer.bad : Layer := { code := 15 }

/-- A descriptor read under the structure that the source holds: the packet's layer, and the structure it brings.
[PRESUMED, log 45] -/
def ddLayer (bs : List Byte) (held : TStruct) : Layer × Option TStruct :=
  if bs.length < 3 then (Layer.bad, none)
  else
    let long := decide (3 < bs.length)
    let flag (i : Nat) : Bool := long && dbits bs (24 + i) 1 = 1
    let new := if flag 0 then some (ddStruct bs 29) else none
    let st := match new with | some (t, _) => t | none => held
    let p := match new with | some (_, q) => q | none => 29
    let p := if flag 1 then p + st.dts.length else p
    let idx := (dbits bs 2 6 + 64 - st.ofs) % 64
    if !st.usable || decide (st.templates.length ≤ idx) then (Layer.bad, new.map (·.1))
    else
      let t := st.templates.getD idx (0, 0, [])
      let dtis := if flag 2 then ddDtis bs p st.dts.length else t.2.2
      let dti (c : Nat) : Nat := dtis.getD (st.dts.idxOf c) 0
      ({ code := 3 * t.1 + t.2.1, start := dbits bs 0 1 = 1, last := dbits bs 1 1 = 1, key := new.isSome,
         switch := decide (targetMask (fun c => dti c = 2) ≠ 0), sw := targetMask fun c => dti c = 2,
         member := targetMask fun c => dti c ≠ 0, frame := dbits bs 8 16 }, new.map (·.1))

/-! ## The other syntaxes -/

/-- Members of the targets of a layer (S, T) of an unlayered, HEVC or AVC source (R268). -/
def plainMember (sp tm : Nat) : Nat := targetMask fun t => decide (t / 3 = sp ∧ tm ≤ t % 3)

/-- The code of a layer. -/
def layerCode (sp tm : Nat) : Nat := if sp ≤ 2 ∧ tm ≤ 2 then 3 * sp + tm else 15

/-- Every target. -/
def allTargets : Nat := 0x1FF

/-- The NAL unit types within an aggregation packet from offset o on. -/
def apTypes (bs : List Byte) : Nat → Nat → List Nat
  | 0, _ => []
  | fuel + 1, o => if bs.length ≤ o + 2 then [] else fb bs (o + 2) / 2 % 64 :: apTypes bs fuel (o + 2 + fb16 bs o)

/-- The NAL unit types that an HEVC payload carries (RFC 7798). -/
def hevcTypes (pay : List Byte) : List Nat :=
  let ty := fb pay 0 / 2 % 64
  if ty = 49 then [fb pay 2 % 64] else if ty = 48 then apTypes pay pay.length 2 else [ty]

/-- LAYERING 2. [PRESUMED, log 45] -/
def hevcLayer (pay : List Byte) (newTs m : Bool) : Layer :=
  let tid := fb pay 1 % 8
  let lid := fb pay 0 % 2 * 32 + fb pay 1 / 8
  if lid ≠ 0 ∨ tid = 0 then Layer.bad
  else
    let tys := hevcTypes pay
    let irap := tys.any fun t => decide (16 ≤ t ∧ t ≤ 21)
    let tsa := tys.any fun t => decide (2 ≤ t ∧ t ≤ 5)
    let own := if tid ≤ 3 then 2 ^ (tid - 1) else 0
    { code := layerCode 0 (tid - 1), start := newTs, last := m, key := irap, switch := irap || tsa,
      sw := if irap then allTargets else if tsa then own else 0, up := !irap && tsa, member := plainMember 0 (tid - 1) }

/-- LAYERING 3, from the frame marking element. -/
def avcLayer (fm : List Byte) : Layer :=
  let b := fb fm 0
  let tm := b % 8
  let sp := if fm.length = 3 then fb fm 1 else 0
  let i := b.testBit 5
  let base := b.testBit 3
  { code := layerCode sp tm, start := b.testBit 7, last := b.testBit 6, key := i, switch := i || base,
    sw := if i then allTargets else if base && decide (sp ≤ 2 ∧ tm ≤ 2) then 2 ^ (3 * sp + tm) else 0, up := !i && base,
    member := plainMember sp tm }

/-- LAYERING 0. -/
def flatLayer : Layer :=
  { code := 0, start := true, last := true, key := true, switch := true, sw := allTargets, member := plainMember 0 0 }

/-- The frame marking element of a packet, as offset and length. [PRESUMED, log 45] -/
def Pkt.marking (p : Pkt) (fmId : Nat) : Nat × Nat :=
  match findElem p.elems fmId with
  | some (o, n) => if n = 1 ∨ n = 3 then (o, n) else (0, 0)
  | none => (0, 0)

/-- The layer of a packet (R266, R267), and the template structure that it brings. [DEDUCED, log 44] -/
def Pkt.layer (p : Pkt) (layering fmId : Nat) (pay : List Byte) (held : TStruct) (newTs : Bool) : Layer × Option TStruct :=
  if layering = 0 then (flatLayer, none)
  else if layering = 1 then ddLayer (slice p.frame p.parse.ddOfs p.parse.ddLen) held
  else if layering = 2 then (hevcLayer pay newTs p.parse.m, none)
  else
    let (o, n) := p.marking fmId
    (if n = 0 then Layer.bad else avcLayer (slice p.frame o n), none)

/-! ## Membership and subsets in a subscription (R268) -/

/-- The rung of a target: its S where there are several rungs, rung 0 otherwise. [DEDUCED, log 44] -/
def rungOf (rungs t : Nat) : Nat := if rungs = 1 then 0 else t / 3

/-- The source's own target that a subscription's target stands for in a rung; none where it names another rung. -/
def ownTarget (rungs rung t : Nat) : Option Nat :=
  if rungs = 1 then some t else if t / 3 = rung then some (t % 3) else none

/-- A packet of a rung is a member of a subscription's target. -/
def Layer.inTarget (l : Layer) (rungs rung t : Nat) : Bool :=
  if rungs = 1 then l.member.testBit t
  else decide (l.code ≤ 2 ∧ t / 3 = rung ∧ l.code ≤ t % 3)

/-- A frame of a rung is a switch point into a subscription's target from its current one. -/
def Layer.into (l : Layer) (rungs rung cur t : Nat) : Bool :=
  match ownTarget rungs rung t with
  | none => false
  | some u => l.sw.testBit u && (!l.up || decide (cur ≠ 15 ∧ cur / 3 = t / 3 ∧ cur % 3 < t % 3))

/-- Target a is a subset of target b. -/
def subsetTgt (layered : Bool) (ts : TStruct) (rungs a b : Nat) : Bool :=
  if layered && rungs = 1 then
    ts.templates.all fun t => t.2.2.getD (ts.dts.idxOf a) 0 = 0 || t.2.2.getD (ts.dts.idxOf b) 0 ≠ 0
  else decide (a / 3 = b / 3 ∧ a % 3 ≤ b % 3)

/-- CUR after the first packet of a frame of a rung (R284). -/
def Layer.switchCur (l : Layer) (layered : Bool) (ts : TStruct) (rungs rung cur want : Nat) : Nat :=
  let fromCur := decide (cur ≠ 15) && decide (rungOf rungs cur = rung)
  if want = cur then cur
  else if want = 15 then (if fromCur then 15 else cur)
  else if fromCur && subsetTgt layered ts rungs want cur then want
  else if l.into rungs rung cur want then want
  else if cur = 15 then
    match ((List.range 9).filter fun t => subsetTgt layered ts rungs t want && l.into rungs rung cur t).getLast? with
    | some t => t
    | none => cur
  else cur

end Sys2Proof.Machine
end

