-- ==== Sys2Proof/Machine/Lfw.lean ====
section
/-!
DEFINITION. The Layer Forwarder's tables and the way of an accepted packet: decode queue, fan-out, switching, copies, and
the history bytes and rates that it keeps (R265 to R278, R283 to R286, R291 to R296, R300 to R303).
-/

namespace Sys2Proof.Machine

/-! ## Tables (R272 to R278) -/

/-- Word i of subscription `n` in the active bank. -/
def State.subW (s : State) (n i : Nat) : Word := s.tw lfwPage 0 0 n i

/-- A field of it. -/
def State.subF (s : State) (n i hi lo : Nat) : Nat := fld (s.subW n i) hi lo

/-- VALID. -/
def State.subValid (s : State) (n : Nat) : Bool := s.subF n 0 31 31 = 1

/-- OUT_SCID. -/
def State.subOut (s : State) (n : Nat) : Nat := s.subF n 1 24 0

/-- RUNGS. -/
def State.subRungs (s : State) (n : Nat) : Nat := s.subF n 1 26 25

/-- The inbound context of a rung. -/
def State.subSrc (s : State) (n r : Nat) : Nat := s.subF n (2 + r) 24 0

/-- The rungs of a subscription that name an inbound context. -/
def State.subRungsOf (s : State) (n scid : Nat) : List Nat :=
  (List.range (s.subRungs n)).filter fun r => s.subSrc n r = scid

/-- The subscriptions of a receiver leg: FIRST and COUNT. -/
def State.legRange (s : State) (g : Nat) : Nat × Nat := (s.tf lfwPage 2 0 g 0 23 0, s.tf lfwPage 2 0 g 1 16 0)

/-- The subscriptions that a forwarded source reaches, in order. -/
def State.fanList (s : State) (f : Nat) : List Nat :=
  (List.range (s.tf lfwPage 3 0 f 1 16 0)).map fun i => s.tf lfwPage 4 0 (s.tf lfwPage 3 0 f 0 23 0 + i) 0 23 0

/-- A target field holds a target or OFF. -/
def tgtOk (t : Nat) : Bool := decide (t ≤ 8 ∨ t = 15)

/-- A subscription is consistent (R277). -/
def State.subOk (s : State) (n : Nat) : Bool :=
  let (first, count) := s.legRange (s.subF n 0 15 0)
  let mx := s.subF n 0 19 16
  let mn := s.subF n 0 23 20
  decide (first ≤ n ∧ n < first + count) && tgtOk mx && tgtOk mn && (mx = 15 || mn = 15 || decide (mn ≤ mx)) &&
    (List.range (s.subRungs n)).all (fun r => s.ctxIn (s.subSrc n r)) && s.ctxOut (s.subOut n)

/-- Word 0 of a subscription's state: CUR, WANT and STATE. A cleared entry stands for OFF, OFF and IDLE. [DEDUCED, log 46] -/
def State.subState (s : State) (n : Nat) : Nat × Nat × Nat :=
  let w := s.tw lfwPage 1 0 n 0
  if w = 0 then (15, 15, 0) else (fld w 3 0, fld w 7 4, fld w 10 8)

/-- CUR. -/
def State.subCur (s : State) (n : Nat) : Nat := (s.subState n).1

/-- WANT. -/
def State.subWant (s : State) (n : Nat) : Nat := (s.subState n).2.1

/-- STATE as R278 gives it. -/
def subStateOf (cur want : Nat) : Nat :=
  if cur = 15 ∧ want = 15 then 0 else if cur = want then 2 else if cur = 15 then 1 else 3

/-- A change of CUR is counted (R307). -/
def State.countSwitch (s : State) (n : Nat) : State := (s.bump lfwPage .lfwSwitches).pmSwitch (s.subF n 0 15 0)

/-- CUR moves to a rung: no packet of another rung is copied any more, one of a frame begun before it neither (R284). -/
def State.leaveRungs (s : State) (n cur : Nat) : State :=
  if cur = 15 then s
  else
    let r := rungOf (s.subRungs n) cur
    s.setLfw fun l =>
      { l with frames := NMap.set (fun _ => []) l.frames n ((NMap.get (fun _ => []) l.frames n).map fun x =>
          if rungOf (s.subRungs n) x.2.2 = r then x else (x.1, x.2.1, 15)) }

/-- A subscription's CUR, WANT and STATE are given; PEND_SINCE and the joins to come follow (R286, R291). -/
def State.setSub (s : State) (n cur want st : Nat) : State :=
  let (cur0, _, st0) := s.subState n
  let s := s.tsetW lfwPage 1 0 n 0 (BitVec.ofNat 32 (cur + want * 16 + st * 256))
  let s := if (st = 1 || st = 3) && st ≠ st0 then s.tsetW lfwPage 1 0 n 1 (BitVec.ofNat 32 s.wale) else s
  let s := if cur ≠ cur0 then (s.countSwitch n).leaveRungs n cur else s
  if st = 1 && st0 ≠ 1 && !s.lfw.joins.contains n then s.setLfw fun l => { l with joins := l.joins ++ [n] } else s

/-- CUR and WANT of a consistent subscription. -/
def State.moveSub (s : State) (n cur want : Nat) : State :=
  if (cur, want, subStateOf cur want) = s.subState n then s else s.setSub n cur want (subStateOf cur want)

/-- An inconsistent subscription (R277). -/
def State.badSub (s : State) (n : Nat) : State :=
  let s := if s.subState n = (15, 15, 4) then s else s.setSub n 15 15 4
  if s.lfw.badSubs.contains n then s
  else (s.setLfw fun l => { l with badSubs := l.badSubs ++ [n] }).raise lfwPage .lfwSubBad n 0

/-- A subscription goes back to its initial state at a flip: CUR and WANT are OFF, STATE is IDLE (R276, R278). -/
def State.resetSub (s : State) (n : Nat) : State :=
  let s := if s.subCur n = 15 then s else s.countSwitch n
  (s.tset lfwPage 1 0 n [0xFF]).setLfw fun l =>
    { l with frames := NMap.erase l.frames n, lastSrc := NMap.erase l.lastSrc n, joins := l.joins.filter (· ≠ n),
             joinsPrev := l.joinsPrev.filter (· ≠ n), named := l.named.filter (· ≠ n),
             namedPrev := l.namedPrev.filter (· ≠ n) }

/-! ## Sources -/

/-- The forwarded source number of an inbound context. -/
def State.fsn (s : State) (scid : Nat) : Nat := s.ctx scid 12 17 0

/-- Word i of a source record (R292). -/
def State.srcW (s : State) (f i : Nat) : Word := s.tw lfwPage 6 0 f i

/-- The template structure of a source. -/
def State.tstruct (s : State) (f : Nat) : TStruct := NMap.get (fun _ => {}) s.lfw.tstruct f

/-- RATE of a source's own target (R269). -/
def State.srcRate (s : State) (f t : Nat) : Nat := (s.srcW f (4 + t)).toNat

/-- Bytes of RTP padding of an accepted packet. -/
def Accepted.pad (a : Accepted) : Nat := if a.pkt.parse.p then ((a.plain.getLastD 0)).toNat else 0

/-- Bytes of its payload without padding. -/
def Accepted.payLen (a : Accepted) : Nat := a.plain.length - (a.pkt.parse.pay - a.rtp) - a.pad

/-- Its payload without padding. -/
def Accepted.payload (a : Accepted) : List Byte := slice a.plain (a.pkt.parse.pay - a.rtp) a.payLen

/-- The latest frames of a source that LFW remembers. [DEDUCED, log 44] -/
def frameMemory : Nat := 64

/-- The layer of an accepted packet; the structure it brings is kept, and an unusable packet counted (R266, R267). -/
def State.identify (s : State) (a : Accepted) : State × Layer :=
  let scid := a.pkt.parse.scid
  let f := s.fsn scid
  let ts := a.pkt.parse.rtpTs
  let seen := NMap.get (fun _ => []) s.lfw.seenTs f
  let fresh := !seen.contains ts
  let layering := s.ctx scid 12 21 20
  let (l, new) := a.pkt.layer layering (s.ctx scid 12 31 24) a.payload (s.tstruct f) fresh
  let s := if fresh && layering = 2 then
      s.setLfw fun x => { x with seenTs := NMap.set (fun _ => []) x.seenTs f ((ts :: seen).take frameMemory) }
    else s
  let s := match new with
    | some t =>
      (s.setLfw fun x => { x with tstruct := NMap.set (fun _ => {}) x.tstruct f t }).tsetF lfwPage 6 0 f 2 9 9
        t.usable.toNat
    | none => s
  if l.code = 15 && l.member = 0 then
    let s := s.bump lfwPage .lfwLayerDrop
    (if s.lfw.ddBad.contains f then s
     else (s.setLfw fun x => { x with ddBad := x.ddBad ++ [f] }).raise lfwPage .lfwDdBad scid 0, l)
  else (s, l)

/-- Bytes 16 to 63 of a history slot (R292). -/
def State.histFill (s : State) (a : Accepted) (l : Layer) : State :=
  if a.captured then
    s.dramPut (s.histAddr a.pkt.parse.scid a.ext + 16)
      (leBytes 1 l.code ++ leBytes 1 (l.start.toNat + l.last.toNat * 2 + l.key.toNat * 4 + l.switch.toNat * 8) ++
        leBytes 2 l.sw ++ leBytes 2 l.member ++ leBytes 2 l.frame ++ leBytes 4 a.pkt.parse.rtpTs ++ List.replicate 36 0)
  else s

/-- The last keyframe of the source (R292). -/
def State.keyMark (s : State) (a : Accepted) (l : Layer) : State :=
  let f := s.fsn a.pkt.parse.scid
  if l.key && l.start then
    ((s.tsetW lfwPage 6 0 f 0 (BitVec.ofNat 32 a.ext)).tsetW lfwPage 6 0 f 1 (BitVec.ofNat 32 a.wale)).tsetF lfwPage 6 0 f 2 8
      8 1
  else s

/-- The bytes of the targets that a packet is a member of (R269). -/
def State.countBytes (s : State) (a : Accepted) (l : Layer) : State :=
  let f := s.fsn a.pkt.parse.scid
  let n := a.plain.length - a.pad
  ((List.range 9).filter fun t => l.member.testBit t).foldl
    (fun s t => s.setLfw fun x =>
      { x with bytes := NMap.set (fun _ => 0) x.bytes (f * 16 + t) (NMap.get (fun _ => 0) x.bytes (f * 16 + t) + n) }) s

/-- The accumulators and RATE of every source at a boundary (R269). -/
def State.rateUpdate (s : State) : State :=
  let shown := (s.tlist lfwPage 6 0).flatMap fun x =>
    ((List.range 9).filter fun t => x.2.getD (4 + t) 0 ≠ 0).map fun t => x.1 * 16 + t
  let keys := (s.lfw.acc.map (·.1) ++ s.lfw.bytes.map (·.1) ++ shown).eraseDups
  let s := keys.foldl
    (fun s k =>
      let a := NMap.get (fun _ => 0) s.lfw.acc k
      let v := a - a / 16 + NMap.get (fun _ => 0) s.lfw.bytes k
      (s.setLfw fun x => { x with acc := NMap.set (fun _ => 0) x.acc k v }).tsetW lfwPage 6 0 (k / 16) (4 + k % 16)
        (BitVec.ofNat 32 (v / 16))) s
  s.setLfw fun x => { x with bytes := [] }

/-! ## Copies (R293 to R296) -/

/-- The timestamp offset of a subscription's copies, after R295. -/
def State.tsFix (s : State) (n scid rtpTs wa : Nat) : State :=
  let out := s.subOut n
  let last := NMap.get (fun _ => 0) s.lfw.lastSrc n
  if s.ctx out 12 17 17 = 1 && last ≠ 0 && last ≠ scid + 1 then
    let d := (wa + 2 ^ 32 - (s.tw lfwPage 1 0 n 3).toNat) % 2 ^ 32
    s.setCtx out 14 31 0 (((s.tw lfwPage 1 0 n 2).toNat + max 1 (225 * d) + 2 ^ 32 - rtpTs) % 2 ^ 32)
  else s

/-- A copy of a subscription is formed: LAST_TS and LAST_WALE follow, and the copy waits to be issued. -/
def State.pushCopy (s : State) (n scid rtpTs wa : Nat) (d : Copy) : State :=
  let s := s.tsFix n scid rtpTs wa
  let ts := (rtpTs + (s.ctxW d.out 14).toNat) % 2 ^ 32
  let s := (s.tsetW lfwPage 1 0 n 2 (BitVec.ofNat 32 ts)).tsetW lfwPage 1 0 n 3 (BitVec.ofNat 32 wa)
  s.setLfw fun l =>
    { l with lastSrc := NMap.set (fun _ => 0) l.lastSrc n (scid + 1), out := l.out ++ [{ d with ts := ts }] }

/-- The copy of an accepted packet on an outbound context. -/
def State.copyOf (s : State) (a : Accepted) (out : Nat) : Copy :=
  let r := a.pkt.parse
  let (fo, fn) := a.pkt.marking (s.ctx r.scid 12 31 24)
  { src := a.pkt.handle, out := out, m := r.m, ext := a.ext, rtp := a.rtp, ofs := r.pay, len := a.payLen,
    pt := s.ctx out 12 7 0, cc := r.cc, ddOfs := r.ddOfs, ddLen := r.ddLen, level := r.level, fmOfs := fo, fmLen := fn,
    time := r.ts, counted := true, scid := r.scid }

/-- What tells a frame from the others of its source: its timestamp, and for LAYERING 1 and 3 its number and layer. -/
def frameKey (layering : Nat) (ts : Nat) (l : Layer) : Nat :=
  ts * 2 ^ 20 + (if layering = 1 ∨ layering = 3 then l.frame * 16 + l.code else 0)

/-- CUR of a video subscription for one packet: R284 at the first packet of a frame, the frame's own CUR for the packets
after it, and the CUR in force for a frame whose first packet was not accepted. -/
def State.frameCur (s : State) (n scid rung key : Nat) (l : Layer) : State × Nat :=
  let (cur, want, _) := s.subState n
  let rungs := s.subRungs n
  let known := NMap.get (fun _ => []) s.lfw.frames n
  let remember (s : State) (c : Nat) : State :=
    s.setLfw fun x => { x with frames := NMap.set (fun _ => []) x.frames n (((scid, key, c) :: known).take frameMemory) }
  if l.code = 15 && l.member = 0 then (s, 15)
  else if l.start then
    let c := l.switchCur (s.ctx scid 12 21 20 = 1) (s.tstruct (s.fsn scid)) rungs rung cur want
    ((remember (s.moveSub n c want) c), c)
  else
    match known.find? fun x => x.1 = scid ∧ x.2.1 = key with
    | some (_, _, c) => (s, c)
    | none => (s, cur)

/-- One subscription of a packet's fan-out. `emit` says that copies are formed. The Bool of the answer says that one is
due. [DEDUCED, log 44] -/
def State.fanOne (s : State) (a : Accepted) (l : Layer) (emit : Bool) (n : Nat) : State × Bool :=
  let scid := a.pkt.parse.scid
  match (s.subRungsOf n scid).head? with
  | none => (s, false)
  | some rung =>
    if !s.subValid n then (s, false)
    else if !s.subOk n then (s.badSub n, false)
    else
      let audio := s.subF n 0 28 28 = 1
      let (s, takes) :=
        if audio then
          let s := s.moveSub n (s.subWant n) (s.subWant n)
          (s, decide (s.subCur n ≠ 15))
        else
          let (s, c) := s.frameCur n scid rung (frameKey (s.ctx scid 12 21 20) a.pkt.parse.rtpTs l) l
          (s, decide (c ≠ 15) && l.inTarget (s.subRungs n) rung c)
      let due := takes && !(a.pkt.parse.p && a.payLen = 0)
      (if due && emit then s.pushCopy n scid a.pkt.parse.rtpTs a.wale (s.copyOf a (s.subOut n)) else s, due)

/-- The fan-out of a packet over its source's range, and the number of copies due. -/
def State.fanAll (s : State) (a : Accepted) (l : Layer) (emit : Bool) : State × Nat :=
  (s.fanList (s.fsn a.pkt.parse.scid)).foldl
    (fun (s, k) n => match s.fanOne a l emit n with | (t, b) => (t, k + b.toNat)) (s, 0)

/-- Fan-out records that LFW holds at most (R302). -/
def fanMax : Nat := 131072

/-- What identifies a fan-out refusal (R605). [DEDUCED, log 67] -/
def refusalId (a : Accepted) : List Byte := beBytes 4 a.pkt.parse.scid ++ beBytes 4 a.ext

/-- A packet of a source is not copied for want of a fan-out record (R302). -/
def State.fanRefuse (s : State) (a : Accepted) (l : Layer) : State :=
  let s := ((s.fanAll a l false).1.bump lfwPage .lfwFanoutFull).layRefuse 1 (refusalId a)
  if s.lfw.fanFull then s
  else (s.setLfw fun x => { x with fanFull := true }).raise lfwPage .lfwFanoutFull a.pkt.parse.scid 0

/-- Row 3 of R265. A standby refuses what the record names and nothing else (R302, R610). -/
def State.fanout (s : State) (a : Accepted) (l : Layer) : State :=
  let h := a.pkt.handle
  let (t, k) := s.fanAll a l true
  if k = 0 then t
  else
    let full := decide (fanMax ≤ s.lfw.fan.length)
    let named := s.prg.refusals.contains (1, refusalId a)
    if s.following then
      if named then
        (s.fanRefuse a l).setPrg fun p => { p with refusals := p.refusals.filter (· ≠ (1, refusalId a)) }
      else if full then (s.fanRefuse a l).diverge 3 8
      else t.setLfw fun x => { x with fan := NMap.set (fun _ => 0) x.fan h k }
    else if full then s.fanRefuse a l
    else t.setLfw fun x => { x with fan := NMap.set (fun _ => 0) x.fan h k }

/-- Row 2 of R265: the Coil packet of R408. -/
def State.toDecode (s : State) (a : Accepted) (l : Layer) : State :=
  let r := a.pkt.parse
  (s.colSend lfwPort (s.ctx r.scid 14 11 0)
    (leBytes 4 r.scid ++ leBytes 4 a.ext ++ leBytes 4 a.wale ++ leBytes 4 r.rtpTs ++ leBytes 2 a.payLen ++
      leBytes 1 (r.m.toNat + l.code * 16) ++ List.replicate 13 0 ++ a.payload)).1

/-! ## Keyframe requests (R287, R288) -/

/-- An RTCP packet on an outbound context waits to be issued. -/
def State.pushRtcp (s : State) (out : Nat) (bytes : List Byte) : State :=
  s.setLfw fun l => { l with out := l.out ++ [{ out := out, len := bytes.length, body := some bytes, rtcp := true }] }

/-- A keyframe request to the sender of an inbound context, unless it is merged or skipped. -/
def State.keyRequest (s : State) (c : Nat) : State :=
  let f := s.fsn c
  let fb := s.ctx c 13 24 0
  let fir : Bool := s.ctx c 12 22 22 = 1
  let hold := s.raf lfwPage Reg.lfwKfHold 15 0
  let since := (s.srcW f 3).toNat
  if s.ctx c 12 19 19 = 0 || !s.ctxOut fb then s.bump lfwPage .lfwKfSkip
  else if s.lfw.asked.contains f && decide ((s.wale + 2 ^ 32 - since) % 2 ^ 32 < hold) then s
  else
    let me := beBytes 4 (s.ctxW fb 1).toNat
    let it := beBytes 4 (s.ctxW c 1).toNat
    let seq := fld (s.srcW f 2) 7 0
    let pkt :=
      if fir then beBytes 1 0x84 ++ beBytes 1 206 ++ beBytes 2 4 ++ me ++ beBytes 4 0 ++ it ++ beBytes 1 seq ++ beBytes 3 0
      else beBytes 1 0x81 ++ beBytes 1 206 ++ beBytes 2 2 ++ me ++ it
    let s := s.pushRtcp fb pkt
    let s := if fir then s.tsetF lfwPage 6 0 f 2 7 0 ((seq + 1) % 256) else s
    let s := s.tsetW lfwPage 6 0 f 3 (BitVec.ofNat 32 s.wale)
    let s := if s.lfw.asked.contains f then s else s.setLfw fun l => { l with asked := l.asked ++ [f] }
    (s.bump lfwPage .lfwKfReqs).raise lfwPage .lfwKfReq c fir.toNat

/-- The inbound context of the rung of a subscription's WANT; none where WANT is OFF. [DEDUCED, log 46] -/
def State.wantSrc (s : State) (n : Nat) : Option Nat :=
  let w := s.subWant n
  if w = 15 then none else some (s.subSrc n (rungOf (s.subRungs n) w))

/-! ## Issue, partial mixes and originated packets (R300, R301, R303) -/

/-- R303: the oldest copy is issued to ESC. -/
def execFanoutCopy (s : State) : Host.Outcome State Fault Refusal :=
  match s.lfw.out with
  | [] => .next s
  | d :: r =>
    let s := s.setLfw fun l => { l with out := r }
    .next (((s.bump lfwPage .lfwCopies).bumpN lfwPage .lfwCopyBytes (s.rtpLen d)).setEsc fun e =>
      { e with arrive := e.arrive ++ [d] })

/-- R300: a partial-mix payload gets its header, with M = 0 and the timestamp of R41.
[DESIGN CHOICE, log 30; DEDUCED, log 47] -/
def execPartialMixOut (s : State) : Host.Outcome State Fault Refusal :=
  match s.lfw.partials with
  | [] => .next s
  | (out, w, body) :: r =>
    let s := s.setLfw fun l => { l with partials := r }
    .next
      (if s.ctxOut out then
        let d : Copy := { out := out, ts := (120 * w + (s.ctxW out 14).toNat) % 2 ^ 32, len := body.length,
                          pt := s.ctx out 12 7 0, time := s.freeNat % 2 ^ 32, body := some body }
        State.takeFree (s.setLfw fun l => { l with out := l.out ++ [d] })
       else s)

/-- An originated packet gets its header (R301). [DESIGN CHOICE, log 30; DEDUCED, log 47] -/
def State.originate (s : State) (o : Orig) : State :=
  if s.ctxOut o.scid then
    let d : Copy :=
      { out := o.scid, m := o.m, origin := true, ts := (o.g + (s.ctxW o.scid 14).toNat) % 2 ^ 32, ofs := o.dd.length,
        len := o.body.length, pt := s.ctx o.scid 12 7 0, ddLen := o.dd.length,
        fmLen := if (s.extIds o.scid).2.1 = 0 then o.dd.length else 0, g := o.g, time := s.freeNat % 2 ^ 32,
        body := some (o.dd ++ o.body) }
    State.takeFree (s.setLfw fun l =>
      { l with out := l.out ++ [d], origin := if l.origin.contains o.scid then l.origin else l.origin ++ [o.scid] })
  else s

/-- An originated packet as a Coil packet holds it (R404). -/
def origOf (b : List Byte) : Orig :=
  let dd := fb b 18
  let len := leNat (slice b 20 2)
  { scid := leNat (slice b 0 4) % 2 ^ 25, g := leNat (slice b 4 4), m := (fb b 15).testBit 0, dd := slice b 32 dd,
    body := slice b (32 + dd) len }

/-- R301: from an encoder's Coil queue, or what MXF and Weave handed over. [DEDUCED, log 47] -/
def execOriginatedPacket (q : Option Nat) (s : State) : Host.Outcome State Fault Refusal :=
  match q with
  | some q =>
    if s.ready lfwPage then
      match s.colTake lfwPort q with
      | (s, some b) => .next (s.originate (origOf b))
      | (s, none) => .next s
    else .next s
  | none =>
    match s.lfw.orig with
    | [] => .next s
    | o :: r => .next ((s.setLfw fun l => { l with orig := r }).originate o)

/-- R290: a decoder reports NEED_INTRA. A standby acts on the active's reports alone (R610). -/
def execNeedIntraReport (s : State) : Host.Outcome State Fault Refusal :=
  match s.lfw.needIntra with
  | [] => .next s
  | c :: r =>
    let s := s.setLfw fun l => { l with needIntra := r }
    .next (if s.following then s else (s.layRefuse 6 (beBytes 4 c)).keyRequest c)

end Sys2Proof.Machine
end

