-- ==== Sys2Proof/Machine/Records.lean ====
section
/-!
DEFINITION. The records that blocks keep in DRAM, as bytes at the addresses the spec gives them: Creel's metadata (R154,
R157), stream contexts and the stream key table (R205, R207), key slots and stream states (R234, R240), and the tables of LFW
(R272).
-/

namespace Sys2Proof.Machine

/-- A source record of LFW (R292). [DESIGN CHOICE, log 38] -/
def State.sourceWords (s : State) (f : Nat) : List Word :=
  let ts := s.tstruct f
  (List.range 13).map (fun i => s.tw lfwPage 6 0 f i) ++
    (List.range' 13 115).map fun i =>
      if s.tf lfwPage 6 0 f 2 9 9 = 1 then Config.structLayout ts.ofs ts.templates ts.dts i else 0

/-- The tables that lie in DRAM: page, table, plane, address of entry 0, and bytes per entry (R207, R272). -/
def State.dramTables (s : State) : List (Nat × Nat × Nat × Nat × Nat) :=
  let l := s.rd64 lfwPage Reg.lfwDramBase Reg.lfwDramBaseHi
  [(iclPage, 0, 0, s.rd64 iclPage Reg.iclCtxBase Reg.iclCtxBaseHi, 64), (lfwPage, 0, 0, l, 32),
   (lfwPage, 0, 1, l + 0x20000000, 32), (lfwPage, 1, 0, l + 0x40000000, 16), (lfwPage, 4, 0, l + 0x50000000, 4),
   (lfwPage, 4, 1, l + 0x54000000, 4), (lfwPage, 6, 0, l + 0x58000000, 512)]

/-- The entry of an array of n entries of `size` bytes at `base` that holds an address, and the byte within it. -/
def entryAt (base size n a : Nat) : Option (Nat × Nat) :=
  if base ≤ a ∧ a < base + size * n then some ((a - base) / size, (a - base) % size) else none

/-- Entries of a table in DRAM. -/
def dramEntries (p t : Nat) : Nat := if p = lfwPage ∧ t = 6 then 262144 else if p = iclPage then 2 ^ 25 else 2 ^ 24

/-- A byte of a table in DRAM, while its page is enabled. -/
def State.tableByte (s : State) (a : Nat) : Option Byte :=
  s.dramTables.findSome? fun (p, t, plane, base, size) =>
    if !s.enabled p then none
    else
      (entryAt base size (dramEntries p t) a).map fun (e, o) =>
        let w := if p = lfwPage ∧ t = 6 then (s.sourceWords e).getD (o / 4) 0 else s.tw p t plane e (o / 4)
        (leBytes 4 w.toNat).getD (o % 4) 0

/-- A slot's 16 bytes in the stream key table (R205). -/
def sktRecord : Option (Nat × Nat × Nat) → List Byte
  | some (leg, ssrc, scid) => leBytes 2 leg ++ leBytes 4 ssrc ++ leBytes 4 (scid + 2 ^ 31) ++ List.replicate 6 0
  | none => List.replicate 16 0

/-- A byte of the stream key table, while ICL is enabled. -/
def State.sktByte (s : State) (a : Nat) : Option Byte :=
  if s.enabled iclPage then
    (entryAt (s.rd64 iclPage Reg.iclSktBase Reg.iclSktBaseHi) 16 (2 ^ 26) a).map fun (e, o) =>
      (sktRecord (s.sktSlot (e / 4) (e % 4))).getD o 0
  else none

/-- A byte of a key slot or of a stream's state, while CPE is enabled. -/
def State.cpeByte (s : State) (a : Nat) : Option Byte :=
  if s.enabled cpePage then
    ((entryAt (s.rd64 cpePage Reg.cpeKeyBase Reg.cpeKeyBaseHi) 128 (2 ^ 22) a).map fun (e, o) =>
        (s.kslot e).record.getD o 0).or
      ((entryAt (s.rd64 cpePage Reg.cpeStateBase Reg.cpeStateBaseHi) 64 (2 ^ 25) a).map fun (e, o) =>
        (s.crypto e).record.getD o 0)
  else none

/-- An owner record's bytes: the owners in the order in which they were named, 255 in the places left empty.
[DESIGN CHOICE, log 38] -/
def ownerRecord (l : List Nat) : List Byte := ((l.map (BitVec.ofNat 8)) ++ List.replicate 4 255).take 4

/-- A byte of the metadata of a DRAM pool that is ON: the owner records, and the level-0 bitmap after them. -/
def State.metaByte (s : State) (a : Nat) : Option Byte :=
  ((List.range 64).filter fun p => decide (s.poolState p = 2) && s.bufInDram (p * 2 ^ 26)).findSome? fun p =>
    let n := s.poolCount p
    ((entryAt (s.poolMeta p) 4 n a).map fun (e, o) => (ownerRecord (s.owners (p * 2 ^ 26 + e))).getD o 255).or
      ((entryAt (s.poolMeta p + 4 * n) 1 ((n + 7) / 8) a).map fun (e, _) =>
        BitVec.ofNat 8 ((List.range 8).map fun k => (s.freeBit p 0 (8 * e + k)).toNat * 2 ^ k).sum)

/-- A byte of DRAM as a read finds it: of a record where one stands at the address, else of the memory.
[DESIGN CHOICE, log 38] -/
def State.viewByte (s : State) (a : Nat) : Byte :=
  ((s.metaByte a).or ((s.sktByte a).or ((s.cpeByte a).or (s.tableByte a)))).getD (s.dramByte a)

/-- n bytes of DRAM as a read finds them. -/
def State.viewBytes (s : State) (a n : Nat) : List Byte := (List.range n).map fun i => s.viewByte (a + i)

end Sys2Proof.Machine
end

