-- ==== Sys2Proof/Machine/Drc.lean ====
section
/-!
DEFINITION. The DRAM controller: training (R575 to R577), the write queue and reads (R578 to R580), refresh and temperature
(R582), ECC, poison and scrub (R583, R584), and rank retirement and migration (R585 to R587).
-/

namespace Sys2Proof.Machine

/-- The global page, and the page of a channel. -/
def drcPage : Nat := 0x080
def chPage (ch : Nat) : Nat := 0x070 + ch

/-- The state with another DRC. -/
def State.setDrc (s : State) (f : DrcSt → DrcSt) : State := { s with drc := f s.drc }

/-- A channel. -/
def State.dch (s : State) (ch : Nat) : DrcCh := NMap.get (fun _ => DrcCh.init) s.drc.ch ch

/-- A channel changed. -/
def State.setDch (s : State) (ch : Nat) (f : DrcCh → DrcCh) : State :=
  s.setDrc fun d => { d with ch := NMap.set (fun _ => DrcCh.init) d.ch ch (f (s.dch ch)) }

/-- STATE of a channel: 0 OFF, 1 TRAINING, 2 IN_SERVICE, 3 FAILED. -/
def State.chState (s : State) (ch : Nat) : Nat := s.rf (chPage ch) Reg.drcChStatus 1 0

/-- Physical ranks, and the spare of a channel. -/
def State.drcRanks (s : State) : Nat := s.rf drcPage Reg.drcGeom 4 2
def State.spareOf (s : State) (ch : Nat) : Option Nat :=
  if s.rb (chPage ch) Reg.drcSpare 2 then some (s.rf (chPage ch) Reg.drcSpare 1 0) else none

/-- State and logical rank of a physical rank. -/
def State.rankState (s : State) (ch r : Nat) : Nat := s.rf (chPage ch) Reg.drcRankState (8 * r + 2) (8 * r)
def State.rankLogical (s : State) (ch r : Nat) : Nat := s.rf (chPage ch) Reg.drcRankState (8 * r + 5) (8 * r + 4)
def State.setRank (s : State) (ch r st logical : Nat) : State :=
  s.wfld (chPage ch) Reg.drcRankState (8 * r + 5) (8 * r) (st + logical * 16)

/-- Ranks of a channel in service, the spare excluded. -/
def State.ranksUsed (s : State) (ch : Nat) : Nat := s.drcRanks - (s.spareOf ch).isSome.toNat

/-- The lines of a rank. -/
def State.rankLines (s : State) : Nat := 2 ^ (13 + s.drcRb)

/-- The physical rank that serves a line of a logical rank (R586). -/
def State.serving (s : State) (ch logical line : Nat) : Nat :=
  let has (st : Nat) : Option Nat :=
    (List.range 4).find? fun r => decide (s.rankState ch r = st ∧ s.rankLogical ch r = logical)
  match has 3, has 4 with
  | some a, some b => if line % s.rankLines < s.rf (chPage ch) Reg.drcMig 30 0 then b else a
  | _, _ => (has 1).getD 0

/-! ## Training (R575 to R577) -/

/-- The global page's conditions: training runs, no geometry, a failed channel. -/
def State.drcReasons (s : State) : State :=
  let cs := List.range s.drcC
  let valid := s.rb drcPage Reg.drcGeom 8
  let blk := if !valid then 0x80 else if cs.all fun c => s.chState c = 2 then 0
    else if cs.any fun c => s.chState c = 3 then 0x81 else 0x05
  s.setPg drcPage fun g => { g with initing := valid && cs.any fun c => s.chState c = 1, blk := blk }

/-- The ready states that DRC decides. [DEDUCED, log 63] -/
def State.drcRefresh (s : State) (hostAct : Bool) : State :=
  ((s.drcReasons.refreshAll ((List.range 16).map chPage) hostAct).refreshReady drcPage hostAct).mayUnready fun s =>
    s.refreshAll dramPages false

/-- A channel begins to train. -/
def State.trainStart (s : State) (ch : Nat) : State :=
  (s.wr (chPage ch) Reg.drcChStatus 1).setDch ch fun _ => { step := 1, at_ := s.clk.tru }

/-- R575: EN of the global page becomes 1. -/
def State.drcEnable (s : State) : State :=
  if s.enabled drcPage then s
  else
    let s := s.wfld drcPage Reg.pageCtrl 0 0 1
    let s := if s.rb drcPage Reg.drcGeom 8 then (List.range s.drcC).foldl (fun s c => s.trainStart c) s else s
    s.drcRefresh true

/-- R577: EN of the global page becomes 0: the channels stop and the contents are lost. A rank that R587 has retired stays lost until
device reset. -/
def State.drcDisable (s : State) : State :=
  let s := s.wfld drcPage Reg.pageCtrl 0 0 0
  let s := (List.range 16).foldl (fun s c =>
    (((s.wr (chPage c) Reg.drcChStatus 0).wr (chPage c) Reg.drcRankState 0).wr (chPage c) Reg.drcMig 0).wfld (chPage c)
      Reg.pageCtrl 0 0 0) s
  let s := (s.wr64 drcPage Reg.drcCap Reg.drcCapHi 0).setMem fun m => { m with dram := [], queued := [], poison := [] }
  (s.setDrc fun d => { d with ch := [], waits := [], writes := [] }).drcRefresh true

/-- The ranks of a channel enter service: the spare, and the others as logical ranks in increasing order. -/
def State.ranksOn (s : State) (ch : Nat) : State :=
  let sp := s.spareOf ch
  let rs := (List.range s.drcRanks).filter fun r => some r ≠ sp
  let lost (l : Nat) : Bool := s.mem.dead.contains (ch, l)
  let s := (rs.zipIdx).foldl (fun s x => if lost x.2 then s.setRank ch x.1 5 0 else s.setRank ch x.1 1 x.2)
    (s.wr (chPage ch) Reg.drcRankState 0)
  match sp with
  | some r => if r < s.drcRanks then s.setRank ch r 2 0 else s
  | none => s

/-- A channel enters service; with the last one, so does the global page. -/
def State.channelOn (s : State) (ch : Nat) : State :=
  let s := ((s.ranksOn ch).wr (chPage ch) Reg.drcChStatus 2).wfld (chPage ch) Reg.pageCtrl 0 0 1
  let s := s.setDch ch fun d => { d with step := 0 }
  let s := if (List.range s.drcC).all fun c => s.chState c = 2 then
      s.wr64 drcPage Reg.drcCap Reg.drcCapHi (s.drcC * s.ranksUsed 0 * (s.rankLines * 64))
    else s
  s.drcRefresh true

/-- R575. -/
def execDrcEnable (src : Src) (s : State) : Host.Outcome State Fault Refusal :=
  .next (s.access src drcPage Reg.pageCtrl 1 fun s => s.drcEnable)

/-- R577. -/
def execDrcDisable (src : Src) (s : State) : Host.Outcome State Fault Refusal :=
  .next (s.access src drcPage Reg.pageCtrl 0 fun s => if s.enabled drcPage then s.drcDisable else s)

/-- The timeout of a step in ns. -/
def stepTimeout (k : Nat) : Nat := [2, 10, 10, 10, 20, 30, 10000].getD (k - 1) 0 * 1000000

/-- R575: the step of a channel that trains is done on every rank, within the timeouts. -/
def execTrainStepDone (ch : Nat) (s : State) : Host.Outcome State Fault Refusal :=
  .next
    (if s.chState ch = 1 then
      if (s.dch ch).at_ + stepTimeout (s.dch ch).step * (if (s.dch ch).step = 7 then 1 else s.drcRanks) < s.clk.tru then s
      else if (s.dch ch).step < 7 then s.setDch ch fun d => { d with step := d.step + 1, at_ := s.clk.tru }
      else s.channelOn ch
     else s)

/-- R575: the step's timeout has passed. -/
def execDrcTrainFail (ch rank : Nat) (s : State) : Host.Outcome State Fault Refusal :=
  let d := s.dch ch
  .next
    (if s.chState ch = 1 && decide (rank < s.drcRanks) && decide (d.at_ + stepTimeout d.step ≤ s.clk.tru) then
      let s := (s.wr (chPage ch) Reg.drcChStatus (BitVec.ofNat 32 (3 + d.step * 16 + rank * 2 ^ 8))).setDch ch fun d =>
        { d with step := 0 }
      (s.raise drcPage .drcTrainFail (ch + d.step * 16 + rank * 2 ^ 8) 0).drcRefresh false
     else s)

/-- R576. -/
def execDrcRetrain (src : Src) (mask : Nat) (s : State) : Host.Outcome State Fault Refusal :=
  .next (s.access src drcPage Reg.drcTrain (BitVec.ofNat 32 (mask * 2 ^ 16 + 1)) fun s =>
    ((List.range 16).foldl (fun s c => if mask.testBit c && s.chState c = 3 then s.trainStart c else s) s).drcRefresh true)

/-! ## Retirement (R585 to R587) -/

/-- A logical rank is retired without migration. -/
def State.rankDead (s : State) (ch logical : Nat) : State :=
  (s.setMem fun m => { m with dead := m.dead ++ [(ch, logical)] }).raise drcPage .drcNoSpare (ch + logical * 16) 0

/-- A physical rank of a channel is retired with a cause: 1 UE, 2 CA parity, 3 host. [DEDUCED, log 63] -/
def State.retire (s : State) (ch r cause : Nat) : State :=
  let st := s.rankState ch r
  let l := s.rankLogical ch r
  let told (s : State) : State := s.raise drcPage .drcRankRetired (ch + r * 16 + cause * 2 ^ 8) 0
  if st = 1 then
    match (List.range 4).find? fun q => s.rankState ch q = 2 with
    | some q =>
      told ((((s.setRank ch r 3 l).setRank ch q 4 l).wr (chPage ch) Reg.drcMig (BitVec.ofNat 32 (2 ^ 31))).setDch ch fun d =>
        { d with bad := 0 })
    | none => (s.setRank ch r 5 0).rankDead ch l
  else if st = 2 then told (s.setRank ch r 5 0)
  else if st = 4 then
    let s := (List.range 4).foldl (fun s q => if s.rankState ch q = 3 ∧ s.rankLogical ch q = l then s.setRank ch q 5 0 else s) s
    ((s.setRank ch r 5 0).wr (chPage ch) Reg.drcMig 0).rankDead ch l
  else s

/-- R585: host software retires a rank. -/
def execRankRetire (src : Src) (ch rank : Nat) (s : State) : Host.Outcome State Fault Refusal :=
  .next (s.access src (chPage ch) Reg.drcRetire (BitVec.ofNat 32 (rank + 256)) fun s => s.retire ch rank 3)

/-- R585: a parity alert is retried once. -/
def execCaParityAlert (ch rank : Nat) (again : Bool) (s : State) : Host.Outcome State Fault Refusal :=
  .next
    (if s.chState ch = 2 then (if again then s.retire ch rank 2 else s.bump (chPage ch) .drcCaRetry) else s)

/-! ## Reads (R579, R583, R584) -/

/-- A line is poisoned from now on. -/
def State.poisonLine (s : State) (line : Nat) : State :=
  if s.mem.poison.contains line then s else s.setMem fun m => { m with poison := m.poison ++ [line] }

/-- The 24-hour bin in progress (R57). -/
def State.day (s : State) : Int := ((s.wale64 : Int) - s.binOffset) / 34560000

/-- A corrected read is charged to its rank; the threshold raises its event once in a bin. -/
def State.chargeCe (s : State) (ch r : Nat) : State :=
  let d := s.dch ch
  let bin := s.day
  let ce := if d.ceBin = bin then d.ce else []
  let n := NMap.get (fun _ => 0) ce r + 1
  let s := (s.bump (chPage ch) .drcCe).setDch ch fun d => { d with ce := NMap.set (fun _ => 0) ce r n, ceBin := bin }
  if n = s.rf (chPage ch) Reg.drcCeThr 23 0 then s.raise drcPage .drcCeThreshold (ch + r * 16) 0 else s

/-- A line is read from DRAM through correction: the Bool says that it is poisoned. A line that is corrected or found uncorrectable is
written back (R583). -/
def State.eccRead (s : State) (a : Nat) (ecc : Ecc) : State × Bool :=
  let ch := s.drcChan a
  let l := s.drcLine a
  let r := s.serving ch (s.drcRank a) l
  let s := s.bump (chPage ch) .drcRdLines
  if s.mem.poison.contains (a / 64) then ((s.bump (chPage ch) .drcPoisonRd).diverge 4 16, true)
  else
    match ecc with
    | .clean => (s, false)
    | .corrected => ((s.bump (chPage ch) .drcWrLines).chargeCe ch r, false)
    | .uncorrectable =>
      let s := (((s.poisonLine (a / 64)).bump (chPage ch) .drcWrLines).bump (chPage ch) .drcUe).raise drcPage .drcUe (ch + r * 16) l
      ((s.retire ch r 1).diverge 4 16, true)

/-- The bytes of a write-queue entry that are valid. -/
def State.entryBytes (s : State) (line : Nat) : Nat :=
  ((List.range 64).filter fun i => (NMap.get (fun _ => none) s.mem.queued (line * 64 + i)).isSome).length

/-- The bytes that a read from an address on returns, to the end of its line. -/
def State.lineBytes (s : State) (a : Nat) : List Byte := s.viewBytes a (64 - a % 64)

/-- A read is answered. -/
def State.readAnswer (s : State) (a : Nat) (bad : Bool) (bs : List Byte) : State :=
  s.setDrc fun d => { d with answer := some (a, bad, if bad then [] else bs) }

/-- A read request. [DEDUCED, log 63] -/
def State.drcRead (s : State) (a : Nat) (ecc : Ecc) : State :=
  let bs := s.lineBytes a
  if s.drcCap ≤ a then (s.rangeErr a).readAnswer a true []
  else if s.dramLost a then s.readAnswer a true []
  else
    let ch := s.drcChan a
    let n := s.entryBytes (a / 64)
    if n = 64 then (s.bump (chPage ch) .drcFwd).readAnswer a false bs
    else if 0 < n then
      (s.bump (chPage ch) .drcRawWait).setDrc fun d =>
        { d with waits := d.waits ++ [(a, match ecc with | .clean => 0 | .corrected => 1 | .uncorrectable => 2)] }
    else
      let (s, bad) := s.eccRead a ecc
      s.readAnswer a bad bs

/-- R579. -/
def execDramRead (addr : Nat) (ecc : Ecc) (s : State) : Host.Outcome State Fault Refusal := .next (s.drcRead addr ecc)

/-! ## Writes (R579, R580) -/

/-- Entries of a write queue. -/
def queueEntries : Nat := 64

/-- A write enters the queue of its channel, or merges into its line's entry. -/
def State.enqueueLine (s : State) (a : Nat) (bs : List Byte) : State :=
  let ch := s.drcChan a
  let s := if (s.dch ch).queue.contains (a / 64) then s else s.setDch ch fun d => { d with queue := d.queue ++ [a / 64] }
  s.setMem fun m => { m with queued := NMap.setAll (fun _ => none) m.queued (bs.zipIdx.map fun x => (a + x.2, some x.1)) }

/-- A write request: out of range or in a lost rank it is discarded; without a credit, while the channel's queue is full, its writer
waits. [DEDUCED, log 63] -/
def State.drcWrite (s : State) (a : Nat) (bs : List Byte) : State :=
  if s.drcCap ≤ a then s.rangeErr a
  else if s.dramLost a then s
  else if (s.dch (s.drcChan a)).queue.length < queueEntries then s.enqueueLine a bs
  else s.setDrc fun d => { d with writes := d.writes ++ [(a, bs)] }

/-- The credit of an entry that has drained goes to the oldest write that waits for the channel, and on to the next while the queue has
room (R579). -/
def State.creditBack (s : State) (ch : Nat) : State :=
  (s.drc.writes.filter fun w => s.drcChan w.1 = ch).foldl (fun s w =>
    if (s.dch ch).queue.length < queueEntries then (s.setDrc fun d => { d with writes := d.writes.erase w }).drcWrite w.1 w.2
    else s) s

/-- R579. -/
def execDramWrite (addr : Nat) (bytes : List Byte) (s : State) : Host.Outcome State Fault Refusal :=
  .next (s.drcWrite addr bytes)

/-- The entry of a line leaves the queue. -/
def State.dropEntry (s : State) (ch line : Nat) : State :=
  (s.setMem fun m => { m with queued := NMap.keep (fun k => k / 64 ≠ line) m.queued }).setDch ch fun d =>
    { d with queue := d.queue.filter (· ≠ line) }

/-- The bytes of an entry are written to DRAM. -/
def State.entryToDram (s : State) (line : Nat) : State :=
  s.setMem fun m =>
    { m with dram := NMap.setAll byte0 m.dram (m.queued.filterMap fun x =>
        if x.1 / 64 = line then x.2.map fun b => (x.1, b) else none) }

/-- The oldest entry of a channel drains. [DEDUCED, log 63] -/
def State.drain (s : State) (ch line : Nat) (ecc : Ecc) : State :=
  let full := s.entryBytes line = 64
  let before := s
  let (s, bad) := if full then (s, false) else s.eccRead (line * 64) ecc
  let s := s.bump (chPage ch) .drcWrLines
  let s :=
    if bad then ((s.poisonLine line).raise drcPage .drcPoisonWrite ch (s.drcLine (line * 64))).dropEntry ch line
    else if s.dramLost (line * 64) then s.dropEntry ch line
    else
      let s := (s.entryToDram line).dropEntry ch line
      if full then s.setMem fun m => { m with poison := m.poison.filter (· ≠ line) } else s
  let due := s.drc.waits.filter fun w => w.1 / 64 = line
  let s := s.setDrc fun d => { d with waits := d.waits.filter fun w => w.1 / 64 ≠ line }
  due.foldl (fun s w =>
    let (s, bad) := s.eccRead w.1 (if w.2 = 0 then .clean else if w.2 = 1 then .corrected else .uncorrectable)
    s.readAnswer w.1 bad (before.lineBytes w.1)) s

/-- R580. -/
def execWriteQueueDrain (ch : Nat) (ecc : Ecc) (s : State) : Host.Outcome State Fault Refusal :=
  match (s.dch ch).queue with
  | [] => .next s
  | line :: _ => .next ((s.drain ch line ecc).creditBack ch)

/-! ## Refresh, temperature and scrub (R582, R584) -/

/-- R582. -/
def execRefresh (ch rank : Nat) (s : State) : Host.Outcome State Fault Refusal :=
  .next (if s.chState ch = 2 && decide (rank < s.drcRanks) then s.bump (chPage ch) .drcRefresh else s)

/-- R582. [DEDUCED, log 63] -/
def execMr4Poll (ch rank : Nat) (heat : Heat) (s : State) : Host.Outcome State Fault Refusal :=
  .next
    (if s.chState ch = 2 && decide (rank < s.drcRanks) then
      let was := (s.dch ch).hot.contains rank
      let on := decide (heat ≠ .cool)
      let s := if was = on then s else
        (s.setDch ch fun d => { d with hot := if on then d.hot ++ [rank] else d.hot.filter (· ≠ rank) }).raise drcPage
          .drcThermal (ch + rank * 16 + 2 ^ 8) 0
      if heat = .hot then s.raise drcPage .drcThermal (ch + rank * 16 + 2 * 2 ^ 8) 0 else s
     else s)

/-- R584: the next line in order; a line that a write queue holds is read as DRAM holds it. -/
def execScrubRead (ch : Nat) (ecc : Ecc) (s : State) : Host.Outcome State Fault Refusal :=
  let l := (s.dch ch).scrub
  let n := s.ranksUsed ch * s.rankLines
  .next
    (if s.chState ch = 2 && s.rb drcPage Reg.drcScrub 0 && s.ready drcPage then
      let a := s.drcAddr ch l
      let s := if s.dramLost a then s else (s.eccRead a ecc).1
      s.setDch ch fun d => { d with scrub := if l + 1 < n then l + 1 else 0 }
     else s)

/-! ## Migration (R586) -/

/-- The source and the target of a channel. -/
def State.migrating (s : State) (ch : Nat) : Option (Nat × Nat) :=
  match (List.range 4).find? (fun r => s.rankState ch r = 3), (List.range 4).find? (fun r => s.rankState ch r = 4) with
  | some a, some b => some (a, b)
  | _, _ => none

/-- Migration ends: the target takes over. -/
def State.migrated (s : State) (ch a b : Nat) : State :=
  let l := s.rankLogical ch a
  (((s.setRank ch b 1 l).setRank ch a 5 0).wr (chPage ch) Reg.drcMig 0).raise drcPage .drcMigDone ch (s.dch ch).bad

/-- R586. -/
def execMigrationCopy (ch : Nat) (ecc : Ecc) (s : State) : Host.Outcome State Fault Refusal :=
  match s.migrating ch with
  | none => .next s
  | some (a, b) =>
    let ptr := s.rf (chPage ch) Reg.drcMig 30 0
    let addr := s.drcAddr ch (s.rankLogical ch a * s.rankLines + ptr)
    let (s, bad) := s.eccRead addr ecc
    let s := s.bump (chPage ch) .drcWrLines
    let s := if bad then (s.bump (chPage ch) .drcMigPoisoned).setDch ch fun d => { d with bad := d.bad + 1 } else s
    .next
      (if ptr + 1 = s.rankLines then s.migrated ch a b
       else s.wfld (chPage ch) Reg.drcMig 30 0 (ptr + 1))

end Sys2Proof.Machine
end

