-- ==== Sys2Proof/Machine/LfwSel.lean ====
section
/-!
DEFINITION. The Layer Forwarder's choices at boundaries, its joins and timeouts, and what it does with feedback (R279 to
R291, R297 to R299).
-/

namespace Sys2Proof.Machine

/-! ## Estimates (R280) -/

/-- CUR_RATE of a leg. -/
def State.curRate (s : State) (g : Nat) : Nat :=
  if s.lfw.latched.contains g then (s.tw lfwPage 5 0 g 0).toNat else (s.ra lfwPage Reg.lfwEstDefault).toNat

/-- A leg's NEXT_RATE comes into force for wale w. -/
def State.latchLeg (s : State) (w g : Nat) : State :=
  ((s.tsetW lfwPage 5 0 g 0 (s.tw lfwPage 5 0 g 1)).tsetW lfwPage 5 0 g 2 (BitVec.ofNat 32 w)).setLfw fun l =>
    { l with latched := if l.latched.contains g then l.latched else l.latched ++ [g] }

/-- The batches that the boundary's entry lists (R604, item 7). -/
def State.listedBatches (s : State) : List Nat :=
  ((s.prg.listed.map itemFields).filter fun i => i.1 = 7).flatMap fun i =>
    ((List.range 64).filter fun k => i.2.2.2.testBit k).map fun k => i.2.1 + k

/-- The items that list batches. -/
def State.layBatches (s : State) (bs : List Nat) : State :=
  (List.range 8).foldl
    (fun s j =>
      let mask := ((bs.filter fun b => b / 64 = j).map fun b => 2 ^ (b % 64)).sum
      if mask = 0 then s else s.layItem 7 (64 * j) 0 mask) s

/-- R280: the latch at step 4. [DEDUCED, log 46] -/
def State.estLatch (s : State) : State :=
  let bs := if s.following then s.listedBatches else s.lfw.donePrev
  let w := s.wale
  let s := s.setLfw fun l => { l with donePrev := [], latchedAt := some w }
  let s := bs.foldl (fun s b => (List.range 128).foldl (fun s i => s.latchLeg w (b * 128 + i)) s) s
  let s := s.layBatches bs
  (List.range 512).foldl (fun s b => if bs.contains b then s else s.raise lfwPage .lfwEstMiss b 0) s

/-- R280: at step 4 of a boundary, once. -/
def execEstLatch (s : State) : Host.Outcome State Fault Refusal :=
  .next (if s.stepDue 4 && s.lfw.latchedAt ≠ some s.wale && s.enabled lfwPage then (s.atStep 4).estLatch else s)

/-- NEXT_RATE of a leg (R280). -/
def State.estRate (s : State) (g : Nat) (v : Word) : State := s.tsetW lfwPage 5 0 g 1 v

/-- The batch-done word (R280). -/
def State.estDone (s : State) (b : Nat) : State :=
  if s.lfw.done.contains b then s else s.setLfw fun l => { l with done := l.done ++ [b] }

/-- R280: a task writes NEXT_RATE through its fabric port. -/
def execEstNextRateWrite (leg : Nat) (rate : Word) (s : State) : Host.Outcome State Fault Refusal :=
  .next (s.estRate leg rate)

/-- R280. -/
def execEstBatchDone (src : Option Src) (batch : Nat) (s : State) : Host.Outcome State Fault Refusal :=
  match src with
  | some src => .next (s.access src lfwPage Reg.lfwEstDone (BitVec.ofNat 32 batch) fun s => s.estDone batch)
  | none => .next (s.estDone batch)

/-! ## WANT (R281, R282) -/

/-- A subscription as the choice of layers sees it. -/
structure Choice where
  n : Nat
  want : Nat
  paused : Bool := false
  deriving DecidableEq, Repr

/-- rate(s, t) of R281. -/
def State.rateOf (s : State) (n t : Nat) : Nat :=
  if t = 15 then 0
  else
    let r := rungOf (s.subRungs n) t
    if s.subRungs n ≤ r then 0
    else s.srcRate (s.fsn (s.subSrc n r)) (if s.subRungs n = 1 then t else t % 3)

/-- The offered codes of a subscription up to MAX_TGT. -/
def State.offered (s : State) (n : Nat) : List Nat :=
  let mx := s.subF n 0 19 16
  if mx = 15 then [] else (List.range 9).filter fun t => decide (t ≤ mx) && s.rateOf n t ≠ 0

/-- next(s, t) of R281. -/
def State.nextTgt (s : State) (n t : Nat) : Nat :=
  ((s.offered n).find? fun u => decide (t = 15 ∨ t < u)).getD 15

/-- key(s) of R281. -/
def State.subKey (s : State) (n : Nat) : Nat := s.subF n 0 26 24 * 2 ^ 24 + n

/-- The choices' cost. -/
def State.choiceCost (s : State) (cs : List Choice) : Int := (cs.map fun c => (s.rateOf c.n c.want : Int)).sum

/-- Subscriptions are paused from the largest key down while the cost exceeds E. -/
def State.pauseLoop (s : State) (e : Int) : Nat → List Choice → List Choice
  | 0, cs => cs
  | fuel + 1, cs =>
    if s.choiceCost cs ≤ e then cs
    else
      let can := cs.filter fun c => decide (c.want ≠ 15) && s.subF c.n 0 27 27 = 1
      match can.foldl (fun (b : Option Nat) c => some (max (s.subKey c.n) (b.getD 0))) none with
      | none => cs
      | some k =>
        s.pauseLoop e fuel (cs.map fun c => if s.subKey c.n = k then { c with want := 15, paused := true } else c)

/-- One round of raising, in increasing key: the choices and whether one was raised. -/
def State.raiseRound (s : State) (e : Int) (cs : List Choice) : List Choice × Bool :=
  let order := (cs.filter fun c => !c.paused).map fun c => s.subKey c.n
  (sortNat order).foldl
    (fun (cs, up) k =>
      match cs.find? fun c => s.subKey c.n = k with
      | none => (cs, up)
      | some c =>
        let t := s.nextTgt c.n c.want
        if t ≠ 15 && decide (s.choiceCost cs - s.rateOf c.n c.want + s.rateOf c.n t ≤ e) then
          (cs.map fun x => if x.n = c.n then { x with want := t } else x, true)
        else (cs, up))
    (cs, false)

/-- Rounds until none raises. -/
def State.raiseLoop (s : State) (e : Int) : Nat → List Choice → List Choice
  | 0, cs => cs
  | fuel + 1, cs =>
    match s.raiseRound e cs with
    | (cs, true) => s.raiseLoop e fuel cs
    | (cs, false) => cs

/-- The WANT values of one leg's subscriptions, in table order (R281). -/
def State.legWants (s : State) (g : Nat) : List (Nat × Nat) :=
  let (first, count) := s.legRange g
  let subs := (List.range count).map (first + ·) |>.filter fun n => s.subValid n && s.subOk n
  let audio := subs.filter fun n => s.subF n 0 28 28 = 1
  let video := subs.filter fun n => s.subF n 0 28 28 = 0
  let aw (n : Nat) : Nat := if s.subF n 0 19 16 = 15 then 15 else 0
  let rate := s.curRate g
  let vs : List Choice :=
    if rate = 0xFFFFFFFF then video.map fun n => ⟨n, ((s.offered n).getLast?).getD (s.subF n 0 23 20), false⟩
    else
      let e : Int := rate - (audio.map fun n => (s.rateOf n (aw n) : Int)).sum
      let cs := video.map fun n => (⟨n, s.subF n 0 23 20, false⟩ : Choice)
      s.raiseLoop e (9 * cs.length + 1) (s.pauseLoop e (cs.length + 1) cs)
  subs.map fun n => (n, if audio.contains n then aw n else ((vs.find? fun c => c.n = n).map (·.want)).getD 15)

/-- Subscriptions that may be active in a wale (R282). -/
def activeMax : Nat := 2097152

/-- R281, R282: the WANT values of every leg, in increasing order of leg, for wale w. [DEDUCED, log 46] -/
def State.wantCompute (s : State) (w : Nat) : State :=
  let legs := (s.tlist lfwPage 2 0).map (·.1)
  let all := legs.flatMap s.legWants
  let step (acc : NMap (Option Nat) × Nat × Nat) (x : Nat × Nat) : NMap (Option Nat) × Nat × Nat :=
    let (m, on, off) := acc
    if x.2 ≠ 15 && decide (activeMax ≤ on) then (NMap.set (fun _ => none) m x.1 (some 15), on, off + 1)
    else (NMap.set (fun _ => none) m x.1 (some x.2), on + (if x.2 ≠ 15 then 1 else 0), off)
  let (m, _, off) := all.foldl step ([], 0, 0)
  let s := s.setLfw fun l => { l with want := m, wantFor := some w }
  if off = 0 then s else s.raise lfwPage .lfwActiveLimit off 0

/-- R283: the WANT values come into force. -/
def State.wantApply (s : State) : State :=
  let valid := ((s.tlist lfwPage 0 0).map (·.1)).filter s.subValid
  let s := valid.foldl
    (fun s n =>
      if !s.subOk n then s.badSub n
      else
        match NMap.get (fun _ => none) s.lfw.want n with
        | some w => s.moveSub n (s.subCur n) w
        | none => s) s
  s.wr lfwPage Reg.lfwActive
    (BitVec.ofNat 32 (valid.filter fun n => decide (s.subWant n ≠ 15)).length)

/-- R281: the computation for the next wale. -/
def execWantCompute (s : State) : Host.Outcome State Fault Refusal :=
  let w := (s.wale + 1) % 2 ^ 32
  .next (if s.genState = 2 && s.enabled lfwPage && s.lfw.wantFor ≠ some w then s.wantCompute w else s)

/-- R286: a subscription that waits reaches a multiple of the timeout. -/
def execSwitchTmo (sub : Nat) (s : State) : Host.Outcome State Fault Refusal :=
  let st := (s.subState sub).2.2
  let d := (s.wale + 2 ^ 32 - (s.tw lfwPage 1 0 sub 1).toNat) % 2 ^ 32
  let tmo := s.raf lfwPage Reg.lfwSwitchTmo 15 0
  .next
    (if s.stepDue 4 && s.enabled lfwPage && s.subValid sub && (st = 1 || st = 3) && d ≠ 0 && d % tmo = 0 &&
        !s.lfw.tmoDone.contains sub then
      let s := (s.atStep 4).setLfw fun l => { l with tmoDone := l.tmoDone ++ [sub] }
      let s := (s.bump lfwPage .lfwSwitchWaits).raise lfwPage .lfwSwitchTmo sub (s.subWant sub)
      match s.wantSrc sub with
      | some c => s.keyRequest c
      | none => s
     else s)

/-! ## Joins (R291) -/

/-- Slots from x on hold their packets through the first frame end, at most n of them. -/
def State.frameWhole (s : State) (scid : Nat) : Nat → Nat → Bool
  | 0, _ => false
  | n + 1, x =>
    if (s.histSlot scid x).isNone then false
    else if (s.histField scid x 17 1).testBit 1 then true
    else s.frameWhole scid n ((x + 1) % 2 ^ 32)

/-- The copy of a history slot on an outbound context. -/
def State.histCopy (s : State) (scid x out : Nat) (pkt : List Byte) : Copy :=
  let cc := fb pkt 0 % 16
  let pay := (rtpPayload pkt 0 pkt.length).getD (12 + 4 * cc)
  let pad := if (fb pkt 0).testBit 5 then fb pkt (pkt.length - 1) else 0
  let es := rtpElems pkt 0 pay
  let dd := (findElem es (s.ctx scid 3 15 8)).getD (0, 0)
  let lv := match findElem es (s.ctx scid 3 23 16) with | some (o, _) => fb pkt o | none => 0
  let fm := (findElem es (s.ctx scid 12 31 24)).getD (0, 0)
  let fm := if fm.2 = 1 ∨ fm.2 = 3 then fm else (0, 0)
  { src := scid, out := out, hist := true, m := (fb pkt 1).testBit 7, ext := x, ofs := pay, len := pkt.length - pay - pad,
    pt := s.ctx out 12 7 0, cc := cc, ddOfs := dd.1, ddLen := dd.2, level := lv, fmOfs := fm.1, fmLen := fm.2,
    time := s.histField scid x 12 4, scid := scid }

/-- One slot of a replay. -/
def State.replayOne (s : State) (n scid rung x : Nat) : State :=
  match s.histSlot scid x with
  | none => s
  | some pkt =>
    let l : Layer := { code := s.histField scid x 16 1 % 16, member := s.histField scid x 20 2 }
    let d := s.histCopy scid x (s.subOut n) pkt
    if l.inTarget (s.subRungs n) rung (s.subWant n) && !((fb pkt 0).testBit 5 && d.len = 0) then
      s.pushCopy n scid (fb32 pkt 4) (s.histField scid x 8 4) d
    else s

/-- EXT_HIGH of the sources of the subscriptions that are to be joined is kept as it stands at B(W) (R291). -/
def State.joinMarks (s : State) : State :=
  let srcs := (s.lfw.joinsPrev ++ s.lfw.namedPrev).flatMap fun n => (List.range (s.subRungs n)).map (s.subSrc n)
  s.setLfw fun l =>
    { l with extAt := srcs.foldl (fun m c => NMap.set (fun _ => 0) m c (s.ctx c 8 31 0)) [] }

/-- Packets that lie from a source's LAST_KF_SEQ through its EXT_HIGH of B(W). -/
def State.joinCount (s : State) (scid : Nat) : Nat :=
  (NMap.get (fun _ => 0) s.lfw.extAt scid + 2 ^ 32 - (s.srcW (s.fsn scid) 0).toNat) % 2 ^ 32 + 1

/-- A join of a subscription at B(W): 0 on success, or the cause of its failure. -/
def State.joinCause (s : State) (scid : Nat) : Nat :=
  let f := s.fsn scid
  let w := s.ra lfwPage Reg.lfwJoin
  let first := (s.srcW f 0).toNat
  let kfWale := (s.srcW f 1).toNat
  if fld (s.srcW f 2) 8 8 = 0 || decide (fld w 15 0 ≤ (s.wale + 2 ^ 32 - kfWale) % 2 ^ 32) then 1
  else if !s.frameWhole scid (2 ^ s.ctx scid 4 4 0) first then 2
  else if fld w 31 16 < s.joinCount scid then 3
  else 0

/-- R291 for one subscription. [DEDUCED, log 46] -/
def State.join (s : State) (n : Nat) : State :=
  let want := s.subWant n
  if want = 15 || !s.subValid n then s
  else if !s.subOk n then s.badSub n
  else
    let rung := rungOf (s.subRungs n) want
    let scid := s.subSrc n rung
    let cause := s.joinCause scid
    if cause = 0 then
      let first := (s.srcW (s.fsn scid) 0).toNat
      let s := (List.range (s.joinCount scid)).foldl (fun s i => s.replayOne n scid rung ((first + i) % 2 ^ 32)) s
      (s.moveSub n want want).bump lfwPage .lfwJoinHist
    else
      ((s.keyRequest scid).bump lfwPage .lfwJoinFail).raise lfwPage .lfwJoinFail n cause

/-- The join of a subscription that entered JOIN in the wale before, or that R289 named in it; it is taken once. -/
def State.joinTake (s : State) (n : Nat) : State :=
  if s.lfw.namedPrev.contains n || s.lfw.joinsPrev.contains n then
    (s.setLfw fun l =>
      { l with namedPrev := l.namedPrev.filter (· ≠ n), joinsPrev := l.joinsPrev.filter (· ≠ n) }).join n
  else s

/-- The joins of the boundary that are still to be taken. -/
def State.joinRest (s : State) : State :=
  (s.lfw.joinsPrev ++ s.lfw.namedPrev).foldl (fun s n => s.joinTake n) s

/-- R291: at step 4. -/
def execJoinTake (sub : Nat) (s : State) : Host.Outcome State Fault Refusal :=
  .next (if s.stepDue 4 && (s.lfw.namedPrev ++ s.lfw.joinsPrev).contains sub then (s.atStep 4).joinTake sub else s)

/-! ## Feedback (R279, R289, R298) -/

/-- The sub-packets of a compound RTCP packet from offset o on. -/
def rtcpParts (b : List Byte) : Nat → Nat → List (List Byte)
  | 0, _ => []
  | fuel + 1, o =>
    let n := 4 * (fb16 b (o + 2) + 1)
    if b.length < o + 4 ∨ b.length < o + n then [] else slice b o n :: rtcpParts b fuel (o + n)

/-- The outbound context of a leg with an SSRC, and its subscription: among the leg's first 1,024 subscriptions, else
among the contexts that carry originated packets. -/
def State.feedbackOut (s : State) (g ssrc : Nat) : Option (Nat × Option Nat) :=
  let (first, count) := s.legRange g
  let is (out : Nat) : Bool := s.ctxOut out && decide ((s.ctxW out 1).toNat = ssrc)
  match ((List.range (min count 1024)).map (first + ·)).find? fun n => s.subValid n && is (s.subOut n) with
  | some n => some (s.subOut n, some n)
  | none => (s.lfw.origin.find? fun out => is out && s.ctx out 0 31 16 = g).map fun out => (out, none)

/-- A refresh request to the unit that owns a stream (R301): `why` is 1 for a PLI or FIR, 2 for a NACK. -/
def State.refreshReq (s : State) (out why : Nat) : State :=
  s.setLfw fun l => { l with refresh := l.refresh ++ [(out, why)] }

/-- A PLI or FIR that names an SSRC (R289). -/
def State.keyAsked (s : State) (g ssrc : Nat) : State :=
  match s.feedbackOut g ssrc with
  | none => s.bump lfwPage .lfwFbUnknown
  | some (out, sub) =>
    if s.lfw.origin.contains out then s.refreshReq out 1
    else
      match sub with
      | some n => if s.lfw.named.contains n then s else s.setLfw fun l => { l with named := l.named ++ [n] }
      | none => s

/-- One FIR entry: a repeat of the last sequence number from the leg for the stream is ignored (R289). -/
def State.firEntry (s : State) (g ssrc seq : Nat) : State :=
  if s.lfw.fir.contains (g, ssrc, seq) then s
  else
    (s.setLfw fun l => { l with fir := l.fir.filter (fun x => !decide (x.1 = g ∧ x.2.1 = ssrc)) ++ [(g, ssrc, seq)] }).keyAsked g
      ssrc

/-- One sequence number of a NACK (R298). -/
def State.nackItem (s : State) (out wale time q : Nat) : State :=
  let s := s.bump lfwPage .lfwNackItems
  let a := s.sendMapAddr out q
  let miss := s.bump lfwPage .lfwNackMiss
  if s.ctx out 12 16 16 = 0 || s.ctx out 12 23 19 = 0 then miss
  else if s.poisonedAt a 16 || (s.dramByte (a + 2)).toNat % 2 = 0 || leNat (s.dramBytes a 2) ≠ q then miss
  else if (s.dramByte (a + 2)).toNat.testBit 1 then
    let s := s.bump lfwPage .lfwNackOrigin
    if s.ctx out 0 3 2 = 0 then s.refreshReq out 2 else s
  else
    let scid := leNat (s.dramBytes (a + 4) 4) % 2 ^ 25
    let x := leNat (s.dramBytes (a + 8) 4)
    let last := leNat (s.dramBytes (a + 12) 4)
    if last ≠ 0xFFFFFFFF && decide ((wale + 2 ^ 32 - last) % 2 ^ 32 < s.raf lfwPage Reg.lfwRtxHold 7 0) then
      s.bump lfwPage .lfwNackHeld
    else
      match s.histSlot scid x with
      | none => miss
      | some pkt =>
        let rtx := s.ctx out 13 24 0
        let d := { s.histCopy scid x rtx pkt with
          rtx := true, pt := s.ctx out 12 15 8, osn := q, time := time,
          ts := NMap.get (fun _ => 0) s.lfw.smTs (s.sendMapKey out q) }
        let s := s.dramPut (a + 12) (leBytes 4 wale)
        (s.setLfw fun l => { l with out := l.out ++ [d] }).bump lfwPage .lfwRtxSent

/-- The sequence numbers of one FCI entry of a NACK. -/
def nackSeqs (pid blp : Nat) : List Nat :=
  pid :: ((List.range 16).filter fun i => blp.testBit i).map fun i => (pid + i + 1) % 65536

/-- A generic NACK (R298). [DEDUCED, log 46] -/
def State.nack (s : State) (g wale time : Nat) (b : List Byte) : State :=
  match s.feedbackOut g (fb32 b 8) with
  | none => s.bump lfwPage .lfwFbUnknown
  | some (out, _) =>
    (List.range (min 64 ((b.length - 12) / 4))).foldl
      (fun s i => (nackSeqs (fb16 b (12 + 4 * i)) (fb16 b (14 + 4 * i))).foldl (fun s q => s.nackItem out wale time q) s) s

/-- One RTCP sub-packet (R279, R289, R298). -/
def State.rtcpPart (s : State) (a : Accepted) (b : List Byte) : State :=
  let scid := a.pkt.parse.scid
  let g := s.ctx scid 0 31 16
  let fmt := fb b 0 % 32
  let pt := fb b 1
  let s :=
    if pt = 200 ∨ pt = 201 ∨ (pt = 205 ∧ fmt = 15) ∨ (pt = 206 ∧ fmt = 15) then
      s.estRecord g
        (leBytes 2 g ++ leBytes 1 1 ++ leBytes 1 0 ++ leBytes 4 a.wale ++ leBytes 4 a.pkt.parse.ts ++ leBytes 4 scid ++ b)
    else s
  if pt = 206 ∧ fmt = 1 then s.keyAsked g (fb32 b 8)
  else if pt = 206 ∧ fmt = 4 then
    (List.range ((b.length - 12) / 8)).foldl (fun s i => s.firEntry g (fb32 b (12 + 8 * i)) (fb b (16 + 8 * i))) s
  else if pt = 205 ∧ fmt = 1 then s.nack g a.wale a.pkt.parse.ts b
  else s

/-! ## An accepted packet (R265) -/

/-- Rows 1 to 3 of R265, for an RTP packet. -/
def State.lfwRtp (s : State) (a : Accepted) : State :=
  let scid := a.pkt.parse.scid
  let media := s.ctx scid 0 3 2
  if 2 ≤ media then
    let s := s.histFill a (a.pkt.layer (s.ctx scid 12 21 20) (s.ctx scid 12 31 24) a.payload {} true).1
    if media = 2 then s.setLfw fun l => { l with toMxf := l.toMxf ++ [(scid, a.wale, a.payload)] } else s
  else
    let (s, l) := s.identify a
    let s := (s.histFill a l).keyMark a l
    let s := if s.ctx scid 12 23 23 = 1 then s.toDecode a l else s
    if s.ctx scid 12 18 18 = 1 then
      let s := s.countBytes a l
      if bit (s.ra lfwPage Reg.lfwCfg) 0 then s.fanout a l else s
    else s

/-- R265 for one packet; its buffer is freed at once where no copy of it is outstanding (R302). -/
def State.lfwTake (s : State) (a : Accepted) : State :=
  let h := a.pkt.handle
  if !s.mediaReady then (s.bump iclPage .iclDropNotready).lfwRelease h
  else if s.heldBack .lfw then s.lfwRelease h
  else
    let s := if a.pkt.parse.kind = 1 then (rtcpParts a.plain a.plain.length 0).foldl (fun s b => s.rtcpPart a b) s
      else s.lfwRtp a
    if s.fanCount h = 0 then s.lfwRelease h else s

/-- Every accepted packet that waits is taken: packets accepted before a boundary are treated under what was in force
before it (R275, R283). -/
def State.lfwDrain (s : State) : State :=
  let rx := s.lfw.rx
  rx.foldl (fun s a => s.lfwTake a) (s.setLfw fun l => { l with rx := [] })

/-- R265. The joins of the boundary come before any copy of a packet accepted after it (R291). -/
def execLfwPacketAccepted (s : State) : Host.Outcome State Fault Refusal :=
  match s.lfw.rx with
  | [] => .next s
  | a :: r => .next ((s.joinRest.setLfw fun l => { l with rx := r }).lfwTake a)

end Sys2Proof.Machine
end

