-- ==== Sys2Proof/Machine/Tmu.lean ====
section
/-!
DEFINITION. TMU: the wale generator's controls, the local clock and its servo, received PTP messages, transmit
timestamps, SYNCIN and the 1 PPS output (R31 to R35, R544 to R567).
-/

namespace Sys2Proof.Machine

/-- The TMU page. -/
def tmuPage : Nat := 1

/-- TMU's producer port (R112). -/
def tmuPort : Nat := 552

/-- The state with another TMU. -/
def State.setTmu (s : State) (f : TmuSt → TmuSt) : State := { s with tmu := f s.tmu }

/-- Pages whose `PAGE_CTRL.EN` is 1, lowest first. -/
def State.enabledPages (s : State) : List Nat :=
  s.reg.filterMap fun (k, v) => if k % 65536 = Reg.pageCtrl && bit v 0 then some (k / 65536) else none

/-- A register that only Quizil writes (R547): other writes are captured with cause 10. -/
def State.qzOnly (s : State) (src : Src) (p o : Nat) (v : Word) (k : State → State) : State :=
  s.access src p o v fun s => if src = .qz then k s else s.accessErr p o 10 src v

/-! ## The wale generator's controls -/

/-- R31: the grid phase is set while STOPPED; elsewhere the write is ignored with an event. A reserved encoding is
ignored and captured (R14, R99). -/
def execGridPhaseWrite (src : Src) (v : Word) (s : State) : Host.Outcome State Fault Refusal :=
  .next (s.access src tmuPage Reg.tmuGridPhase v fun s =>
    if s.genState ≠ 0 then s.raise tmuPage .tmuPhaseIgnored (fld v 21 0) s.wale
    else if 2500000 ≤ fld v 21 0 then s.accessErr tmuPage Reg.tmuGridPhase 4 src v
    else s.wfld tmuPage Reg.tmuGridPhase 21 0 (fld v 21 0))

/-- R32, R33: RUN is written 1. -/
def execWaleRunSet (src : Src) (s : State) : Host.Outcome State Fault Refusal :=
  .next (s.access src tmuPage Reg.tmuWaleCtl 1 fun s =>
    if s.rb tmuPage Reg.tmuWaleCtl 0 then s
    else if s.now < 1000000000 then s.raise tmuPage .tmuRunRefused 1 s.wale
    else
      let w := s.wale28
      let s := ((s.wfld tmuPage Reg.tmuWaleCtl 0 0 1).wfld tmuPage Reg.tmuWaleCtl 5 4 1).wr64 tmuPage
        Reg.tmuStartWale Reg.tmuStartWaleHi (w + 2)
      { s with clk := { s.clk with first := true, phase := 0 } })

/-- R34, R35: RUN is written 0. -/
def execWaleRunClear (src : Src) (s : State) : Host.Outcome State Fault Refusal :=
  .next (s.access src tmuPage Reg.tmuWaleCtl 0 fun s =>
    match s.enabledPages.find? onWale with
    | some p => s.raise tmuPage .tmuRunRefused (2 + p * 2 ^ 16) s.wale
    | none =>
      let s := (s.wfld tmuPage Reg.tmuWaleCtl 0 0 0).wfld tmuPage Reg.tmuWaleCtl 5 4 0
      { s with clk := { s.clk with phase := 0 } })

/-! ## The clock -/

/-- `TMU_STATUS.STATE` becomes LOCKED, HOLDOVER or FREERUN; `TMU_HOLD_WALES` starts again at 0 (R553). -/
def State.servoState (s : State) (st : Nat) : State :=
  (s.wfld tmuPage Reg.tmuStatus 1 0 st).wr tmuPage Reg.tmuHoldWales 0

/-- The outcome of an adjustment in `TMU_ADJ_RES` (R549, R98). -/
def State.adjResult (s : State) (status : Nat) : State :=
  (s.wfld tmuPage Reg.tmuAdjRes 3 0 status).seqUp tmuPage Reg.tmuAdjRes

/-- SET (R549). [DEDUCED, log 31] -/
def State.adjSet (s : State) : State :=
  let s := s.wfld tmuPage Reg.tmuAdjCtl 1 0 1
  let ns := s.rf tmuPage Reg.tmuSetNs 29 0
  let sec := s.rd64 tmuPage Reg.tmuSetSec Reg.tmuSetSecHi % 2 ^ 48
  if s.genState ≠ 0 then s.adjResult 2
  else if 1000000000 ≤ ns then s.adjResult 3
  else
    let w0 := s.wale28
    let s := { s with clk := { s.clk with loc := (sec * 1000000000 + ns) * unitsPerNs } }.idleWale w0
    let s := ((s.wfld tmuPage Reg.tmuStatus 4 4 1).servoState 0).wfld tmuPage Reg.tmuServo 0 0 0
    (s.adjResult 0).raise tmuPage .tmuClockSet sec 0

/-- STEP (R549). A threshold of 0 refuses every step (R550). A forward step across a boundary is followed by that boundary's
strobe (R38, `State.stepStrobe`). [DEDUCED, log 31] -/
def State.adjStep (s : State) : State :=
  let s := s.wfld tmuPage Reg.tmuAdjCtl 1 0 2
  let step := s.rd tmuPage Reg.tmuStep
  let thr := s.rf tmuPage Reg.tmuJumpThr 16 0
  if thr = 0 ∨ thr < step.toInt.natAbs then
    (((s.adjResult 1).wfld tmuPage Reg.tmuStatus 2 2 1).bump tmuPage .tmuStepRefused).raise tmuPage .tmuStepRefused
      step.toNat thr
  else
    let s := s.moveClock ((s.clk.loc : Int) + step.toInt * unitsPerNs + clockWrap).toNat
    ((s.adjResult 0).bump tmuPage .tmuSteps).raise tmuPage .tmuStepDone step.toNat 0

/-- R549: SET. -/
def execAdjSet (src : Src) (s : State) : Host.Outcome State Fault Refusal :=
  .next (s.qzOnly src tmuPage Reg.tmuAdjCtl 5 fun s => s.adjSet)

/-- The frequency in force: the value written, clamped (R548). -/
def clampFreq (v : Int) : Int := max (-51200000) (min 51200000 v)

/-- R553: TMO boundaries have passed without a write of `TMU_FREQ` or `TMU_STEP`, and the servo is in holdover. -/
def State.servoSilence (s : State) : State :=
  if s.rf tmuPage Reg.tmuStatus 1 0 = 1 && decide (s.rf tmuPage Reg.tmuServo 31 16 ≤ s.tmu.servoCount) then
    (s.servoState 2).raise tmuPage .tmuHoldover 1 0
  else s

/-- A write of `TMU_FREQ` or `TMU_STEP` ends the silence of the servo (R553): one that comes too late meets HOLDOVER. -/
def State.servoHeard (s : State) : State := s.servoSilence.setTmu fun t => { t with servoCount := 0 }

/-- R548: a write of `TMU_FREQ`. -/
def execFreqWrite (src : Src) (v : Word) (s : State) : Host.Outcome State Fault Refusal :=
  .next (s.qzOnly src tmuPage Reg.tmuFreq v fun s =>
    let s := s.servoHeard
    let s := (s.wr tmuPage Reg.tmuFreq v).wr tmuPage Reg.tmuFreqAct (BitVec.ofInt 32 (clampFreq v.toInt))
    if clampFreq v.toInt = v.toInt then s
    else (s.bump tmuPage .tmuFreqClamp).raise tmuPage .tmuFreqClamp v.toNat 0)

/-- R553: Quizil declares the servo locked, or no longer so. -/
def execServoLockedWrite (src : Src) (locked : Bool) (s : State) : Host.Outcome State Fault Refusal :=
  .next (s.qzOnly src tmuPage Reg.tmuServo (if locked then 1 else 0) fun s =>
    let s := s.servoSilence
    let st := s.rf tmuPage Reg.tmuStatus 1 0
    let s := s.wfld tmuPage Reg.tmuServo 0 0 locked.toNat
    if locked && st ≠ 1 then (s.servoState 1).raise tmuPage .tmuLocked 0 0
    else if !locked && st = 1 then (s.servoState 2).raise tmuPage .tmuHoldover 2 0
    else s)

/-- R553: the servo falls silent. -/
def execServoSilent (s : State) : Host.Outcome State Fault Refusal := .next s.servoSilence

/-! ## Received PTP messages -/

/-- The message types that TMU delivers (R554): Sync, Delay_Req, Follow_Up, Delay_Resp, Announce, Signaling and
Management, by their numbers in IEEE 1588. [PRESUMED, log 29] -/
def ptpTypes : List Nat := [0x0, 0x1, 0x8, 0x9, 0xB, 0xC, 0xD]

/-- The cause for which a PTP frame is discarded before delivery, 0 where none of 1 to 8 applies (R554). [PRESUMED, log 29] -/
def State.ptpCause (s : State) (f : PtpFrame) : Nat :=
  let h := f.bytes.drop f.ofs
  let ty := (h.getD 0 0).toNat % 16
  let len := beNat ((h.drop 2).take 2)
  let da := beNat (f.bytes.take 6)
  if !s.rb tmuPage Reg.tmuCtl 0 || s.tf tmuPage 0 0 f.lane 1 0 0 = 0 then 1
  else if (h.getD 1 0).toNat % 16 ≠ 2 then 2
  else if len < 34 || h.length < len then 3
  else if (h.getD 4 0).toNat ≠ s.rf tmuPage Reg.tmuCtl 15 8 then 4
  else if !ptpTypes.contains ty then 5
  else if s.rb tmuPage Reg.tmuCtl 1 && (f.udp || !(da = 0x011B19000000 || da = 0x0180C200000E)) then 6
  else if s.rb tmuPage Reg.tmuParentPort 16 && [0x0, 0x8, 0x9].contains ty &&
      !(leNat ((h.drop 20).take 8) = s.rd64 tmuPage Reg.tmuParent Reg.tmuParentHi &&
        beNat ((h.drop 28).take 2) = s.rf tmuPage Reg.tmuParentPort 15 0) then 7
  else if s.rf tmuPage Reg.tmuPtpRxq 31 16 ≤ NMap.get (fun _ => 0) s.tmu.delivered f.lane then 8
  else 0

/-- A PTP frame is discarded with a cause (R554). -/
def State.ptpDiscard (s : State) (lane cause : Nat) : State :=
  let s := s.bump tmuPage (if cause ≤ 7 then .tmuRxBad else .tmuRxLimit)
  if s.tmu.rxBad then s
  else (s.setTmu fun t => { t with rxBad := true }).raise tmuPage .tmuRxBad (cause + lane * 2 ^ 8) 0

/-- The Coil packet of a delivered message (R555). [PRESUMED, log 29] -/
def State.ptpPacket (s : State) (f : PtpFrame) : List Byte :=
  leBytes 4 f.ts ++ leBytes 1 f.lane ++ leBytes 1 (f.ipv6.toNat + f.udp.toNat * 2 + f.rtag.toNat * 4) ++
    leBytes 2 f.ofs ++ leBytes 4 s.wale ++ leBytes 4 0 ++ f.bytes

/-- R554, R555: the oldest received PTP frame is delivered or discarded. A fence of TMU discards what it would send to Coil
(R65). -/
def execPtpRx (s : State) : Host.Outcome State Fault Refusal :=
  match s.tmu.rx with
  | [] => .next s
  | f :: r =>
    let s := s.setTmu fun t => { t with rx := r }
    match s.ptpCause f with
    | 0 =>
      if s.severed tmuPort then .next s
      else match s.colSend tmuPort (s.rf tmuPage Reg.tmuPtpRxq 11 0) (s.ptpPacket f) with
      | (s, true) =>
        .next ((s.bump tmuPage .tmuRxPtp).setTmu fun t =>
          { t with delivered := NMap.set (fun _ => 0) t.delivered f.lane (NMap.get (fun _ => 0) t.delivered f.lane + 1) })
      | (s, false) => .next (s.ptpDiscard f.lane 9)
    | c => .next (s.ptpDiscard f.lane c)

/-! ## Transmit timestamps -/

/-- A lane group's transmit timestamp queue. -/
def State.txtsQ (s : State) (lane : Nat) : List TxTs := NMap.get (fun _ => []) s.tmu.txts lane

/-- `TMU_TXTS0` and `TMU_TXTS1` show the head of the selected queue; SEQ goes up when another head appears (R98). -/
def State.txtsShow (s : State) : State :=
  let q := s.txtsQ (s.rf tmuPage Reg.tmuTxtsSel 4 0)
  let e : TxTs := q.headD ⟨0, 0, false⟩
  let old := s.rd tmuPage Reg.tmuTxts0
  let head := BitVec.ofNat 32 (e.id + (if q = [] then 0 else 2 ^ 16) + e.dropped.toNat * 2 ^ 17)
  let same := old &&& fmask 17 0 = head && s.rd tmuPage Reg.tmuTxts1 = BitVec.ofNat 32 e.ns
  let seq := if same then fld old 31 24 else (fld old 31 24 + 1) % 256
  (s.wr tmuPage Reg.tmuTxts0 (head + BitVec.ofNat 32 (q.length * 2 ^ 18 + seq * 2 ^ 24))).wr tmuPage Reg.tmuTxts1
    (BitVec.ofNat 32 e.ns)

/-- An entry joins a lane group's queue, or is lost while the queue is full (R559, R560). -/
def State.txtsAdd (s : State) (lane : Nat) (e : TxTs) : State :=
  let q := s.txtsQ lane
  if 32 ≤ q.length then
    let s := s.bump tmuPage .tmuTxtsOvf
    if s.tmu.txtsFull.contains lane then s
    else (s.setTmu fun t => { t with txtsFull := t.txtsFull ++ [lane] }).raise tmuPage .tmuTxtsOvf lane 0
  else (s.setTmu fun t => { t with txts := NMap.set (fun _ => []) t.txts lane (q ++ [e]) }).txtsShow

/-- R561: the head of the selected queue leaves it when its TS_ID matches. -/
def execTxtsPop (src : Src) (tsId : Nat) (s : State) : Host.Outcome State Fault Refusal :=
  .next (s.access src tmuPage Reg.tmuTxtsPop (BitVec.ofNat 32 tsId) fun s =>
    let lane := s.rf tmuPage Reg.tmuTxtsSel 4 0
    match s.txtsQ lane with
    | e :: r =>
      if e.id = tsId then
        (s.setTmu fun t => { t with txts := NMap.set (fun _ => []) t.txts lane r,
                                    txtsFull := t.txtsFull.filter (· ≠ lane) }).txtsShow
      else s.accessErr tmuPage Reg.tmuTxtsPop 7 src (BitVec.ofNat 32 tsId)
    | [] => s.accessErr tmuPage Reg.tmuTxtsPop 7 src (BitVec.ofNat 32 tsId))

/-- R567: latencies and RX_EN of a lane group. -/
def execTmuLatWriteback (src : Src) (lane : Nat) (w0 w1 : Word) (s : State) : Host.Outcome State Fault Refusal :=
  .next (s.access src tmuPage tblDataOff w1 fun s =>
    if src = .qz then s.tset tmuPage 0 0 lane [w0, w1 &&& 1] else s.tblRefuse src tmuPage 10 [w1])

/-! ## SYNCIN and the 1 PPS output -/

/-- The edges of 10 MHz in one second show SYNCIN present (R563). -/
def edgesOk (n : Nat) : Bool := decide (9999000 ≤ n ∧ n ≤ 10001000)

/-- R562: once per second in mode 1, the measured frequency. [DEDUCED, log 32] -/
def execSyncinMeasure (edges : Nat) (freq : BitVec 24) (s : State) : Host.Outcome State Fault Refusal :=
  .next (if s.rf tmuPage Reg.tmuSyncin 1 0 = 1 then
    let s := (s.wfld tmuPage Reg.tmuFreqMeas 23 0 freq.toNat).seqUp tmuPage Reg.tmuFreqMeas
    if edgesOk edges then s.wfld tmuPage Reg.tmuStatus 3 3 1 else s
  else s)

/-- R562, R563: in mode 2, an edge is timestamped. [DEDUCED, log 32] -/
def execPpsEdge (ns : Nat) (s : State) : Host.Outcome State Fault Refusal :=
  .next (if s.rf tmuPage Reg.tmuSyncin 1 0 = 2 && s.inWale (s.now + ns) then
    let s := s.advanceTo (s.now + ns)
    let t := s.now
    let off := min (t % 1000000000) (1000000000 - t % 1000000000)
    let s := (s.wfld tmuPage Reg.tmuPpsRes 0 0 1).wfld tmuPage Reg.tmuPpsRes 1 1
      (if s.rf tmuPage Reg.tmuSyncin 31 8 < off then 1 else 0)
    let s := (s.wr tmuPage Reg.tmuPpsNs (BitVec.ofNat 32 (t % 1000000000))).wr64 tmuPage Reg.tmuPpsSec Reg.tmuPpsSecHi
      (t / 1000000000 % 2 ^ 48)
    ((s.seqUp tmuPage Reg.tmuPpsRes).wfld tmuPage Reg.tmuStatus 3 3 1).setTmu fun u => { u with lastEdge := some t }
  else s)

/-- SYNCIN is lost as its mode judges it (R563). -/
def State.syncinLost (s : State) (edges : Nat) : Bool :=
  if s.rf tmuPage Reg.tmuSyncin 1 0 = 1 then !edgesOk edges
  else if s.rf tmuPage Reg.tmuSyncin 1 0 = 2 then
    match s.tmu.lastEdge with
    | some t => decide (t + 1001000000 < s.now)
    | none => false
  else false

/-- R563: loss clears SYNCIN_OK and raises an event. [DEDUCED, log 32] -/
def execTmuSyncinLoss (edges : Nat) (s : State) : Host.Outcome State Fault Refusal :=
  .next (if s.rb tmuPage Reg.tmuStatus 3 && s.syncinLost edges then
    (s.wfld tmuPage Reg.tmuStatus 3 3 0).raise tmuPage .tmuSyncinLoss (s.rf tmuPage Reg.tmuSyncin 1 0) 0
  else s)

/-- R564: the output rises at the next whole second of local time; it stays low while the clock has not been set.
[DESIGN CHOICE, log 3; DEDUCED, log 32] -/
def execPpsOutRise (s : State) : Host.Outcome State Fault Refusal :=
  let t := (s.now + 999999999) / 1000000000 * 1000000000
  .next (if s.rb tmuPage Reg.tmuStatus 4 && s.inWale t then
    (s.advanceTo t).setTmu fun u => { u with ppsOut := true, ppsRise := t }
  else s)

/-- R564: the output falls 100 ms after its rise. -/
def execPpsOutFall (s : State) : Host.Outcome State Fault Refusal :=
  let t := s.tmu.ppsRise + 100000000
  .next (if s.tmu.ppsOut && s.inWale t then (s.advanceTo t).setTmu fun u => { u with ppsOut := false } else s)

end Sys2Proof.Machine
end

