-- ==== Sys2Proof/Machine/Esc.lean ====
section
/-!
DEFINITION. The Egress Scheduler: queues and drops, selection and virtual time, leg shapers, gate lists, ceilings, and what a
commit of an ESC page checks and brings into force (R480 to R509), with the PTP frames of TMU (R558, R559).
-/

namespace Sys2Proof.Machine

/-! ## Lane groups (R195, R484, R506) -/

/-- The offset of a lane group's register. -/
def lgOff (base lane : Nat) : Nat := base + 0x20 * (lane % 4)

/-- `ESC_LG_CFG` in force. -/
def State.lgCfg (s : State) (lane : Nat) : Word := s.ra (escPage lane) (lgOff Reg.escLgCfg lane)

/-- The page of a lane group is enabled and the lane group sends. -/
def State.lgRuns (s : State) (lane : Nat) : Bool :=
  s.ready (escPage lane) && bit (s.lgCfg lane) 0 && s.laneValid lane

/-- TX(L) in ns: ceil((L + 20) × 8 / R), R 400 or 100 Gb/s by the port's MODE (R484). -/
def State.txTime (s : State) (lane l : Nat) : Nat :=
  let r := if s.raf (ethPage lane) Reg.ethPortCfg 1 0 = 2 then 100 else 400
  ((l + 20) * 8 + r - 1) / r

/-! ## Queues (R481, R485, R489, R493) -/

/-- An empty leg queue. -/
def LegQ.init : LegQ := {}

/-- A leg's queue. -/
def State.legQ (s : State) (g : Nat) : LegQ := NMap.get (fun _ => LegQ.init) s.esc.legs g

/-- A leg's queue changed. -/
def State.setLegQ (s : State) (g : Nat) (f : LegQ → LegQ) : State :=
  s.setEsc fun e => { e with legs := NMap.set (fun _ => LegQ.init) e.legs g (f (s.legQ g)) }

/-- A strict queue. -/
def State.strictQ (s : State) (lane c : Nat) : List EscFrame := NMap.get (fun _ => []) (s.laneSt lane).strict c

/-- A strict queue given. -/
def State.setStrict (s : State) (lane c : Nat) (l : List EscFrame) : State :=
  s.setLane lane fun x => { x with strict := NMap.set (fun _ => []) x.strict c l }

/-- Descriptors that a strict queue and a page's store hold at most (R485). -/
def strictMax : Nat := 4096
def storeMax : Nat := 262144

/-- Descriptors that the queues of an ESC page hold. -/
def State.storeUsed (s : State) (p : Nat) : Nat :=
  (s.esc.legs.map fun e => (e.2.q.filter fun f => escPage f.lane = p).length).sum +
    (s.esc.lanes.map fun e =>
      if escPage e.1 = p then (e.2.strict.map fun q => (q.2.filter fun f => f.copy.isSome).length).sum else 0).sum

/-- A leg's shaper in force: RATE, BURST and EN (R492). -/
def State.shaper (s : State) (g : Nat) : Nat × Nat × Bool :=
  ((s.tw 0x048 2 0 g 0).toNat, s.tf 0x048 2 0 g 1 23 0, s.tf 0x048 2 0 g 1 31 31 = 1)

/-- TOK and FRAC of a leg's shaper. -/
def State.tok (s : State) (g : Nat) : Int × Nat := NMap.get (fun _ => (0, 0)) s.esc.tok g

/-- TOK and FRAC given; the table shows them in words 2 and 3. -/
def State.setTok (s : State) (g : Nat) (v : Int × Nat) : State :=
  ((s.setEsc fun e => { e with tok := NMap.set (fun _ => (0, 0)) e.tok g v }).tsetW 0x048 2 0 g 2 (BitVec.ofInt 32 v.1)).tsetW
    0x048 2 0 g 3 (BitVec.ofNat 32 v.2)

/-- A leg's shaper permits it (R493). -/
def State.shaped (s : State) (g : Nat) : Bool :=
  let (rate, _, en) := s.shaper g
  !en || (rate ≠ 0 && decide (0 ≤ (s.tok g).1))

/-- A leg's queue is eligible (R489). -/
def State.legEligible (s : State) (g : Nat) : Bool := (s.legQ g).q ≠ [] && s.shaped g

/-- The lane group of a leg. -/
def State.legLane (s : State) (g : Nat) : Nat := s.legF g 0 5 1

/-- A queue that becomes eligible wakes at the current virtual time; one that ceases to be is remembered so (R490). -/
def State.wakeLeg (s : State) (g : Nat) : State :=
  let e := s.legEligible g
  let q := s.legQ g
  if e && !q.awake then
    let v := (s.laneSt (s.legLane g)).v
    s.setLegQ g fun q => { q with start := v, rem := 0, awake := true }
  else if !e && q.awake then s.setLegQ g fun q => { q with awake := false }
  else s

/-- Every leg queue is looked at. -/
def State.wakeAll (s : State) : State := (s.esc.legs.map (·.1)).foldl (fun s g => s.wakeLeg g) s

/-- A descriptor is dropped on its way into a queue (R485). -/
def State.tailDrop (s : State) (p lane g : Nat) (d : Copy) : State :=
  let s := s.bumpLane p (lane % 4) .escTailDrop 1
  let (f, n) := (NMap.get (fun _ => none) s.esc.drops p).getD (g, 0)
  let s := s.setEsc fun e => { e with drops := NMap.set (fun _ => none) e.drops p (some (f, n + 1)) }
  (s.layCopy 0x05 d).copyDone d

/-- A frame for a copy descriptor. -/
def State.copyFrame (s : State) (d : Copy) (g : Nat) : EscFrame :=
  { leg := g, lane := s.legLane g, cls := if s.legF g 0 6 6 = 1 then s.legF g 0 9 7 else 8, len := s.copyL d, copy := some d }

/-- A frame enters its queue. [DEDUCED, log 48] -/
def State.enqueue (s : State) (f : EscFrame) : State :=
  if f.cls < 8 then s.setStrict f.lane f.cls (s.strictQ f.lane f.cls ++ [f])
  else (s.setLegQ f.leg fun q => { q with q := q.q ++ [f] }).wakeLeg f.leg

/-! ## Dequeue (R233, R480, R487 to R490) -/

/-- A frame can leave its queue: the request queue that its context names is not full (R233). -/
def State.canLeave (s : State) (f : EscFrame) : Bool :=
  match f.copy with
  | some d => !s.rqIs (s.ctx d.out 9 29 22) 2 || decide ((s.cpeQ (s.ctx d.out 9 29 22)).length < rqMax)
  | none => true

/-- Stage 2 of R480 for a frame that has left its queue: the charge, its window, the Lay record, and its way to CPE or to
the staging area (R233, R239). -/
def State.dequeued (s : State) (f : EscFrame) : State :=
  let s := s.setLane f.lane fun l => { l with flight := NMap.set (fun _ => 0) l.flight f.cls (l.flying f.cls + f.len) }
  match f.copy with
  | none => s.stageFrame f
  | some d =>
    let s := if (s.shaper f.leg).2.2 then s.setTok f.leg ((s.tok f.leg).1 - f.len, (s.tok f.leg).2) else s
    let s := s.layCopy 0x04 d
    let q := s.ctx d.out 9 29 22
    let s := if s.rqIs q 2 then s.setCpeQ q (s.cpeQ q ++ [.out f]) else (s.bump cpePage .cpeRqDrop).outDrop f
    s.wakeLeg f.leg

/-- Tag a precedes tag b, in serial arithmetic modulo 2^64 (R489). -/
def tagBefore (a b : Nat) : Bool := decide (a ≠ b ∧ (b + 2 ^ 64 - a) % 2 ^ 64 < 2 ^ 63)

/-- The legs of a lane group's weighted group whose queues are eligible and can send, in order of number. -/
def State.groupReady (s : State) (lane : Nat) : List Nat :=
  (s.esc.legs.map (·.1)).filter fun g =>
    s.legLane g = lane && s.legF g 0 6 6 = 0 && s.legEligible g && ((s.legQ g).q.head?).any s.canLeave

/-- The eligible queue with the smallest start tag; equal tags go to the lower leg (R489). -/
def State.groupPick (s : State) (lane : Nat) : Option Nat :=
  (s.groupReady lane).foldl
    (fun b g => match b with
      | none => some g
      | some h => if tagBefore (s.legQ g).start (s.legQ h).start then some g else some h) none

/-- A queue of the weighted group sends its head frame (R489). -/
def State.groupTake (s : State) (lane g : Nat) : State :=
  match (s.legQ g).q with
  | [] => s
  | f :: r =>
    let w := max 1 (s.legF g 0 31 16)
    let q := s.legQ g
    let n := f.len * 65536 + q.rem
    let s := s.setLane lane fun l => { l with v := q.start }
    (s.setLegQ g fun q => { q with q := r, start := (q.start + n / w) % 2 ^ 64, rem := n % w }).dequeued f

/-- The frame that a class would dequeue next is one of ESC's own choosing: on a standby that follows, copies leave by DEQ
entries alone (R611). -/
def State.ownChoice (s : State) (f : EscFrame) : Bool := !(s.following && f.copy.isSome)

/-- Class c of a lane group dequeues, where it may. [DEDUCED, log 48] -/
def State.classTake (s : State) (lane c : Nat) : Option State :=
  if s.raf (escPage lane) Reg.escWindow 19 0 ≤ (s.laneSt lane).flying c then none
  else if c < 8 then
    match s.strictQ lane c with
    | [] => none
    | f :: r => if s.ownChoice f && s.canLeave f then some ((s.setStrict lane c r).dequeued f) else none
  else if s.following then none
  else (s.groupPick lane).map fun g => s.groupTake lane g

/-! ## The standby's dequeues (R608, R611) -/

/-- The body of a DEQ or DROP entry that names a copy. -/
def copyKey (d : Copy) : List Byte :=
  beBytes 4 (d.out + d.hist.toNat * 2 ^ 25 + d.rtx.toNat * 2 ^ 26 + d.origin.toNat * 2 ^ 27) ++
    beBytes 4 (if d.origin then 0 else d.ext) ++ beBytes 4 (if d.rtx then d.osn else if d.origin then d.g else 0)

/-- A frame carries the copy that an entry names. -/
def EscFrame.named (f : EscFrame) (key : List Byte) : Bool := f.copy.any fun d => copyKey d = key

/-- The queue of a leg, whether its own or a strict one. -/
def State.legFrames (s : State) (g : Nat) : List EscFrame :=
  if s.legF g 0 6 6 = 1 then s.strictQ (s.legLane g) (s.legF g 0 9 7) else (s.legQ g).q

/-- That queue without one frame. -/
def State.removeFrame (s : State) (g : Nat) (key : List Byte) : State :=
  let cut (l : List EscFrame) : List EscFrame := l.eraseP fun f => f.named key
  if s.legF g 0 6 6 = 1 then s.setStrict (s.legLane g) (s.legF g 0 9 7) (cut (s.legFrames g))
  else (s.setLegQ g fun q => { q with q := cut q.q }).wakeLeg g

/-- The leg of the copy that an entry names. -/
def State.entryLeg (s : State) (key : List Byte) : Nat := s.ctx (fb32 key 0 % 2 ^ 25) 0 31 16

/-- The entries of a leg are met in order while the frames that they name are in its queue; a frame whose request queue is full
stays (R233). -/
def State.deqRun (s : State) (g : Nat) : Nat → State
  | 0 => s
  | fuel + 1 =>
    match s.prg.deqs.find? fun e => s.entryLeg e.2 = g with
    | none => s
    | some e =>
      match (s.legFrames g).find? fun f => f.named e.2 with
      | none => s
      | some f =>
        if !e.1 && !s.canLeave f then s
        else
        let s := (s.setPrg fun p => { p with deqs := p.deqs.erase e }).removeFrame g e.2
        let s := if e.1 then (match f.copy with | some d => s.tailDrop (escPage f.lane) f.lane g d | none => s)
          else s.dequeued f
        s.deqRun g fuel

/-- A standby that follows goes on with the entries that wait for room, for one leg of a lane group after another (R233). -/
def State.deqResume (s : State) (lane : Nat) : State :=
  if s.following then
    let gs := ((s.prg.deqs.map fun e => s.entryLeg e.2).filter fun g => s.legLane g = lane).eraseDups
    gs.foldl (fun s g => s.deqRun g s.prg.deqs.length) s
  else s

/-- R487: a lane group dequeues at most one frame of its own choosing. -/
def execEscDequeue (lane : Nat) (s : State) : Host.Outcome State Fault Refusal :=
  .next
    (if s.lgRuns lane then ((List.range 9).findSome? fun c => s.classTake lane c).getD (s.deqResume lane) else s)

/-- A DEQ or DROP entry of the record arrives (R611). -/
def State.deqEntry (s : State) (drop : Bool) (key : List Byte) : State :=
  let s := s.setPrg fun p => { p with deqs := p.deqs ++ [(drop, key)] }
  s.deqRun (s.entryLeg key) s.prg.deqs.length

/-- R485: the oldest copy descriptor issued enters its queue, or is dropped. -/
def execDescriptorEnqueue (s : State) : Host.Outcome State Fault Refusal :=
  match s.esc.arrive with
  | [] => .next s
  | d :: r =>
    let s := s.setEsc fun e => { e with arrive := r }
    let g := s.ctx d.out 0 31 16
    let lane := s.legLane g
    let p := escPage lane
    let f := s.copyFrame d g
    let full :=
      if f.cls < 8 then decide (strictMax ≤ (s.strictQ lane f.cls).length) || decide (storeMax ≤ s.storeUsed p)
      else decide (s.legF g 1 17 0 ≤ (s.legQ g).q.length) || decide (storeMax ≤ s.storeUsed p)
    .next
      (if !s.ctxOut d.out || s.legF g 0 0 0 = 0 then s.copyDone d
       else if s.following then (s.enqueue f).deqRun g (s.prg.deqs.length + 1)
       else if full then s.tailDrop p lane g d
       else s.enqueue f)

/-! ## Host and PTP frames (R481, R558) -/

/-- R481: a host frame is taken into its strict queue once there is room. -/
def execHostFrameEnqueue (lane : Nat) (s : State) : Host.Outcome State Fault Refusal :=
  let w := s.lgCfg lane
  let c := fld w 6 4
  if s.ready (escPage lane) && bit w 7 && s.laneValid lane && decide ((s.strictQ lane c).length < strictMax) then
    match s.colTake (escPort lane) (fld w 19 8) with
    | (s, none) => .next s
    | (s, some b) =>
      .next
        (if s.raf (ethPage lane) Reg.ethPortCfg 29 16 < b.length + 4 then
          s.bumpLane (escPage lane) (lane % 4) .escHostBad 1
         else s.enqueue { lane := lane, cls := c, len := b.length + 4, bytes := b })
  else .next s

/-- Where the next packet of a Coil queue names its lane group: the first byte of its payload (R558). -/
def State.ptpLane (s : State) (q : Nat) : Nat := (s.qByte q ((s.cq q).rd + 8)).toNat % 32

/-- R558: TMU takes a PTP frame into the PTP strict queue of its lane group once that has room. A frame that names a lane
group that is not valid is released unsent (R559). -/
def execPtpTx (s : State) : Host.Outcome State Fault Refusal :=
  let w := s.rd tmuPage Reg.tmuPtpTxq
  let q := fld w 11 0
  let lane := s.ptpLane q
  let c := fld (s.lgCfg lane) 3 1
  if bit w 12 && !s.severed tmuPort && (!s.laneValid lane || decide ((s.strictQ lane c).length < strictMax)) then
    match s.colTake tmuPort q with
    | (s, none) => .next s
    | (s, some b) =>
      let lane := fb b 0 % 32
      let id := leNat (slice b 2 2)
      let ask := (fb b 1).testBit 0
      let frame := b.drop 8
      .next
        (if s.laneValid lane then
          s.enqueue { lane := lane, cls := c, len := frame.length + 4, bytes := frame, tsId := if ask then some id else none }
         else if ask then s.txtsAdd lane ⟨id, 0, true⟩ else s)
  else .next s

/-! ## Gate lists (R496 to R500) -/

/-- The spans of a gate list within its cycle: first and end offset, the entry and its gates. -/
def State.gateSpans (s : State) (p : Nat) (g : Gcl) : List (Nat × Nat × Nat × Nat) :=
  let es := (List.range g.len).map fun i => (g.base + i, s.tf p 0 0 (g.base + i) 0 8 0, s.tf p 0 0 (g.base + i) 1 29 0)
  let step (acc : Nat × List (Nat × Nat × Nat × Nat)) (x : (Nat × Nat × Nat) × Nat) : Nat × List (Nat × Nat × Nat × Nat) :=
    let stop := if x.2 + 1 = g.len then g.cycle else min g.cycle (acc.1 + x.1.2.2)
    (stop, if acc.1 < stop then acc.2 ++ [(acc.1, stop, x.1.1, x.1.2.1)] else acc.2)
  (es.zipIdx.foldl step (0, [])).2

/-- The offset of an instant in the cycle of a list. -/
def Gcl.offset (g : Gcl) (t : Nat) : Nat := (t - g.start) % max 1 g.cycle

/-- The span in force at an instant. -/
def State.gateSpan (s : State) (p : Nat) (g : Gcl) (t : Nat) : Option (Nat × Nat × Nat × Nat) :=
  (s.gateSpans p g).find? fun x => decide (x.1 ≤ g.offset t ∧ g.offset t < x.2.1)

/-- The first instant at or after t at which a list closes the gate of a class; none where it never does. -/
def State.closesAt (s : State) (p : Nat) (g : Gcl) (c t : Nat) : Option Nat :=
  if !g.en then none
  else
    let o := g.offset t
    let base := t - o
    let shut := (s.gateSpans p g).filter fun x => !x.2.2.2.testBit c
    let at_ (x : Nat × Nat × Nat × Nat) : Nat :=
      if x.1 ≤ o ∧ o < x.2.1 then t else if o < x.1 then base + x.1 else base + g.cycle + x.1
    (shut.map at_).foldl (fun m v => some (min v (m.getD v))) none

/-- C of R499: the first instant at or after t at which the gate of a class is closed, a pending changeover included. -/
def State.gateClose (s : State) (lane c t : Nat) : Option Nat :=
  let p := escPage lane
  let l := s.laneSt lane
  match l.next with
  | none => s.closesAt p l.gcl c t
  | some n =>
    let old := if t < n.start then s.closesAt p l.gcl c t else none
    match old with
    | some x => if x < n.start then some x else s.closesAt p n c n.start
    | none => s.closesAt p n c (max t n.start)

/-- The longest span for which a list keeps the gate of a class open, across entries and cycle ends; none where it is
always open (R500). -/
def State.maxWin (s : State) (p : Nat) (g : Gcl) (c : Nat) : Option Nat :=
  let sp := s.gateSpans p g
  if !g.en || sp.all (fun x => x.2.2.2.testBit c) then none
  else
    let step (acc : Nat × Nat) (x : Nat × Nat × Nat × Nat) : Nat × Nat :=
      let run := if x.2.2.2.testBit c then acc.1 + (x.2.1 - x.1) else 0
      (run, max acc.2 run)
    some ((sp ++ sp).foldl step (0, 0)).2

/-- Head frames of a lane group that its list in force could never start are discarded (R500); at most `fuel` of a class. -/
def State.oversize (s : State) (lane c : Nat) : Nat → State
  | 0 => s
  | fuel + 1 =>
    let p := escPage lane
    match (s.laneSt lane).staged c, s.maxWin p (s.laneSt lane).gcl c with
    | (f, _) :: r, some w =>
      if w < s.txTime lane f.len + s.raf p Reg.escGuard 15 0 then
        let s := (s.setLane lane fun l => { l with stage := NMap.set (fun _ => []) l.stage c r }).land f
        let s := (s.bumpLane p (lane % 4) .escGclOversize 1).raise p .escGclOversize (lane % 4 + c * 2 ^ 8) f.len
        let s := match f.tsId with | some id => s.txtsAdd lane ⟨id, 0, true⟩ | none => s
        s.oversize lane c fuel
      else s
    | _, _ => s

/-- Every class of a lane group is rid of such frames. -/
def State.oversizeAll (s : State) (lane : Nat) : State :=
  (List.range 9).foldl (fun s c => s.oversize lane c (((s.laneSt lane).staged c).length + 1)) s

/-- `ESC_GCL_STATUS.CUR` follows the list in force. -/
def State.gateCur (s : State) (lane : Nat) : State :=
  match s.gateSpan (escPage lane) (s.laneSt lane).gcl s.now with
  | some x => s.wfld (escPage lane) (lgOff Reg.escGclStatus lane) 25 16 x.2.2.1
  | none => s

/-- R496: the list in force advances to its next entry or to the end of its cycle, within the wale in progress. -/
def execGateTransition (lane : Nat) (s : State) : Host.Outcome State Fault Refusal :=
  let g := (s.laneSt lane).gcl
  match s.gateSpan (escPage lane) g s.now with
  | none => .next s
  | some x =>
    let t := s.now - g.offset s.now + x.2.1
    .next (if g.en && decide (g.start ≤ s.now) && s.inWale t then (s.advanceTo t).gateCur lane else s)

/-- R498: START of a new list is reached within the wale in progress. -/
def execGclStart (lane : Nat) (s : State) : Host.Outcome State Fault Refusal :=
  match (s.laneSt lane).next with
  | none => .next s
  | some g =>
    .next
      (if s.inWale g.start then
        let s := (s.advanceTo g.start).setLane lane fun l => { l with gcl := g, next := none }
        ((s.wfld (escPage lane) (lgOff Reg.escGclStatus lane) 0 0 0).gateCur lane).oversizeAll lane
       else s)

/-- A gate entry belongs to a list in force or pending on its page (R497). -/
def State.gateUsed (s : State) (p e : Nat) : Bool :=
  (List.range 4).any fun k =>
    let l := s.laneSt (4 * (p - 0x048) + k)
    let has (g : Gcl) : Bool := g.en && decide (g.base ≤ e ∧ e < g.base + g.len)
    has l.gcl || l.next.any has

/-- The effect of a write-back of a gate entry (R497). -/
def State.wbGate (s : State) (src : Src) (p e : Nat) (ws : List Word) : State :=
  if s.gateUsed p e then s.tblRefuse src p 7 ws
  else s.tset p 0 0 e [ws.getD 0 0 &&& fmask 8 0, ws.getD 1 0 &&& fmask 29 0]

/-- R497. -/
def execGclEntryWriteback (src : Src) (port entry : Nat) (ws : List Word) (s : State) : Host.Outcome State Fault Refusal :=
  .next (s.writeBack src (0x048 + port) 0 entry ws fun s => s.wbGate src (0x048 + port) entry ws)

/-! ## Starts on the line (R488, R499, R502, R559) -/

/-- The ceiling bucket's capacity in 10^-3 byte. [DEDUCED, log 48] -/
def ceilCap : Int := 16384000

/-- What keeps a class's head frame from starting now. -/
inductive Hold where
  | empty | closed | guard_ | ceiling | none
  deriving DecidableEq, Repr

/-- The ceiling keeps a lane group from sending: its tokens are below 0, or the ceiling is 0 (R502, R503). -/
def State.ceilHolds (s : State) (lane : Nat) : Bool :=
  decide ((s.laneSt lane).ceil < 0) || s.rf (escPage lane) (Reg.escCeil + 4 * (lane % 4)) 19 0 = 0

/-- The head frame of a class and what holds it (R488, R499, R502). [DEDUCED, log 48] -/
def State.headHold (s : State) (lane c : Nat) : Hold :=
  let l := s.laneSt lane
  match l.staged c with
  | [] => .empty
  | (f, _) :: _ =>
    let need := s.txTime lane f.len + s.raf (escPage lane) Reg.escGuard 15 0
    match s.gateClose lane c s.now with
    | some x => if x = s.now then .closed else if x < s.now + need then .guard_ else if s.ceilHolds lane then .ceiling else .none
    | none => if s.ceilHolds lane then .ceiling else .none

/-- A wait that the guard band causes is counted once for a head frame (R499). -/
def State.guardWait (s : State) (lane c : Nat) : State :=
  if s.headHold lane c = .guard_ && !(s.laneSt lane).held.contains c then
    (s.setLane lane fun l => { l with held := l.held ++ [c] }).bumpLane (escPage lane) (lane % 4) .escGuardHold 1
  else s

/-- The head frame of a class starts on the line now (R488). -/
def State.startFrame (s : State) (lane c : Nat) : State :=
  let l := s.laneSt lane
  match l.staged c with
  | [] => s
  | (f, since) :: r =>
    let p := escPage lane
    let k := lane % 4
    let t := s.now
    let ready := max since l.busyTo
    let s := (s.setLane lane fun l =>
      { l with stage := NMap.set (fun _ => []) l.stage c r, busyTo := t + s.txTime lane f.len,
               ceil := l.ceil - (f.len + 20) * 1000, held := l.held.filter (· ≠ c) }).land f
    let s := ((s.bumpLane p k .escTxFrames 1).bumpLane p k .escTxBytes f.len).bumpLane p k .escCeilHoldNs
      (min t l.ceilOk - ready)
    let s := s.setEsc fun e => { e with tx := e.tx ++ [(lane, f.bytes)] }
    match f.tsId with
    | some id =>
      let lat := (BitVec.ofNat 16 (s.tf tmuPage 0 0 lane 0 31 16)).toInt
      s.txtsAdd lane ⟨id, (((t : Int) + lat) % 2 ^ 32).toNat, false⟩
    | none => s

/-- R488: the line is free, and the staged frame of the highest class that nothing holds starts. -/
def execTxStart (lane : Nat) (s : State) : Host.Outcome State Fault Refusal :=
  let l := s.laneSt lane
  .next
    (if s.lgRuns lane && s.rb (escPage lane) (Reg.escCeil + 4 * (lane % 4)) 31 && decide (l.busyTo ≤ s.now) then
      let s := (List.range 9).foldl (fun s c => s.guardWait lane c) (s.oversizeAll lane)
      match (List.range 9).find? fun c => s.headHold lane c = .none with
      | some c => s.startFrame lane c
      | none => s
     else s)

/-- A ceiling is written and locked, unless it is locked already (R502). -/
def State.ceilLock (s : State) (lane mbps : Nat) : State :=
  let p := escPage lane
  let o := Reg.escCeil + 4 * (lane % 4)
  if s.rb p o 31 then s
  else
    let s := (s.wr p o (BitVec.ofNat 32 (mbps + 2 ^ 31))).setLane lane fun l => { l with ceil := ceilCap }
    (s.raise p .escCeilLocked (lane % 4) mbps).refreshReady p false

/-- R502: Quizil writes the ceiling once after reset. -/
def execEscCeilLocked (lane mbps : Nat) (s : State) : Host.Outcome State Fault Refusal := .next (s.ceilLock lane mbps)

/-! ## The fine tick (R494, R502) -/

/-- One refill of a leg's shaper. [DEDUCED, log 48] -/
def State.refill (s : State) (g : Nat) : State :=
  let (rate, burst, en) := s.shaper g
  if !en || rate = 0 then s
  else
    let (t, f) := s.tok g
    let n := f + rate
    let t := t + (n / 1000000 : Nat)
    (if (burst : Int) ≤ t then s.setTok g (burst, 0) else s.setTok g (t, n % 1000000)).wakeLeg g

/-- One refill of a lane group's ceiling: MBPS × 125 units, 0 where it is silent. -/
def State.ceilRefill (s : State) (lane : Nat) : State :=
  let w := s.rd (escPage lane) (Reg.escCeil + 4 * (lane % 4))
  if bit w 31 && fld w 19 0 ≠ 0 then
    let t := s.now
    s.setLane lane fun l =>
      let c := min ceilCap (l.ceil + fld w 19 0 * 125)
      { l with ceil := c, ceilOk := if l.ceil < 0 && decide (0 ≤ c) then t else l.ceilOk }
  else s

/-- Every shaper and every ceiling at a fine tick. -/
def State.escTick (s : State) : State :=
  let s := ((s.tlist 0x048 2 0).map (·.1)).foldl (fun s g => s.refill g) s
  (List.range 32).foldl (fun s l => s.ceilRefill l) s

/-! ## Commits of an ESC page (R482, R483, R495, R497, R498) -/

/-- The shadow of a lane group's gate list: EN, BASE, LEN, CYCLE and BASETIME. -/
def State.gclShadow (s : State) (lane : Nat) : Bool × Nat × Nat × Nat × Nat :=
  let p := escPage lane
  let w := s.rd p (lgOff Reg.escGcl lane)
  (bit w 21, fld w 9 0, fld w 20 10, s.rf p (lgOff Reg.escGclCycle lane) 29 0,
    s.rd64 p (lgOff Reg.escGclBasetime lane) (lgOff Reg.escGclBasetimeHi lane))

/-- The values in force. -/
def State.gclForce (s : State) (lane : Nat) : Bool × Nat × Nat × Nat × Nat :=
  let p := escPage lane
  let w := s.ra p (lgOff Reg.escGcl lane)
  (bit w 21, fld w 9 0, fld w 20 10, s.raf p (lgOff Reg.escGclCycle lane) 29 0,
    s.ra64 p (lgOff Reg.escGclBasetime lane) (lgOff Reg.escGclBasetimeHi lane))

/-- The ESC page that a leg entry's LANE names in a plane. -/
def State.legPage (s : State) (plane g : Nat) : Nat := 0x048 + s.tf 0x048 1 plane g 0 5 1 / 4

/-- Legs whose LANE, in shadow or in force, belongs to a page, and which the tables list. -/
def State.pageLegs (s : State) (p : Nat) : List Nat :=
  let all := ((s.tlist 0x048 1 0 ++ s.tlist 0x048 1 1 ++ s.tlist 0x048 2 0 ++ s.tlist 0x048 2 1).map (·.1)).mergeSort.eraseDups
  all.filter fun g => s.legPage 0 g = p || s.legPage 1 g = p

/-- A leg entry's shadow holds a reserved encoding (R482). -/
def State.legReserved (s : State) (g : Nat) : Bool :=
  s.tf 0x048 1 1 g 0 31 16 = 0 || s.tf 0x048 1 1 g 1 17 0 = 0 || s.tf 0x048 1 1 g 5 31 24 = 0

/-- Page q is a member of the commit group of page p, at the same target, or its armed single commit is of no help. -/
def State.sameGroup (s : State) (p q : Nat) : Bool :=
  let g := s.rf p Reg.cmtCtl 20 16
  g ≠ 0 && s.rf q Reg.cmtCtl 20 16 = g && s.rd p Reg.cmtWale = s.rd q Reg.cmtWale

/-- The lane groups that a page's MODE makes valid. -/
def State.modeLanes (s : State) (p : Nat) : List Nat :=
  let l := 4 * (p - 0x048)
  let m := s.raf (0x010 + (p - 0x048)) Reg.ethPortCfg 1 0
  if m = 2 then [l, l + 1, l + 2, l + 3] else if m = 1 then [l] else []

/-- A gate list fault of a lane group's shadow: cause 3 or 5 (R483, R496, R497). -/
def State.gclFault (s : State) (lane : Nat) : Option Nat :=
  let p := escPage lane
  let (en, base, len, cycle, _) := s.gclShadow lane
  let change := s.gclShadow lane ≠ s.gclForce lane
  let others := (List.range 4).map (fun k => 4 * (p - 0x048) + k) |>.filter (· ≠ lane)
  let meets (b n : Nat) : Bool := decide (base < b + n ∧ b < base + len)
  let clash := others.any fun o =>
    let x := s.gclShadow o
    let l := s.laneSt o
    (x.1 && meets x.2.1 x.2.2.1) || (l.gcl.en && meets l.gcl.base l.gcl.len) ||
      l.next.any fun g => g.en && meets g.base g.len
  if change && s.rb p (lgOff Reg.escGclStatus lane) 0 then some 5
  else if en && (decide (1024 < base + len) || !decide (1000 ≤ cycle ∧ cycle ≤ 1000000000) || clash) then some 3
  else none

/-- What a gate list's shadow holds that is a reserved encoding. -/
def State.gclReserved (s : State) (lane : Nat) : Bool :=
  let (en, base, len, _, _) := s.gclShadow lane
  en && (List.range len).any fun i =>
    !decide (1 ≤ s.tf (escPage lane) 0 0 (base + i) 1 29 0 ∧ s.tf (escPage lane) 0 0 (base + i) 1 29 0 ≤ 1000000000)

/-- A gate list that is to run has a reserved length (R506). -/
def State.gclNoLen (s : State) (lane : Nat) : Bool :=
  let (en, _, len, _, _) := s.gclShadow lane
  en && decide (len = 0 ∨ 1024 < len)

/-- The first failing entry of an ESC page's shadows: entry, table and cause (R483). -/
def State.escInvalid (s : State) (p : Nat) : Option (Nat × Nat × Nat) :=
  let legs := s.pageLegs p
  let valid := legs.filter fun g => s.tf 0x048 1 1 g 0 0 0 = 1
  let weighted := valid.filter fun g => s.legPage 1 g = p && s.tf 0x048 1 1 g 0 6 6 = 0
  let legCause (g : Nat) : Option Nat :=
    if s.legReserved g then some 6
    else if s.legPage 1 g = p && !(s.modeLanes p).contains (s.tf 0x048 1 1 g 0 5 1) then some 1
    else if s.legPage 1 g ≠ s.legPage 0 g && s.tf 0x048 1 0 g 0 0 0 = 1 &&
        !s.sameGroup p (if s.legPage 1 g = p then s.legPage 0 g else s.legPage 1 g) then some 4
    else if weighted.idxOf g ≥ 16384 && weighted.contains g then some 2
    else none
  let lanes := (List.range 4).map fun k => 4 * (p - 0x048) + k
  let gate := lanes.findSome? fun l => (s.gclFault l).map fun c => (l % 4, 0, c)
  let res := lanes.findSome? fun l => if s.gclReserved l then some (l % 4, 0, 6) else none
  let leg := valid.findSome? fun g => (legCause g).map fun c => (g, 1, c)
  let shp := legs.findSome? fun g =>
    if s.tf 0x048 2 1 g 1 31 31 = 1 && decide (s.tf 0x048 2 1 g 1 23 0 < 64) then some (g, 2, 6) else none
  gate.or (res.or (leg.or shp))

/-- A leg's shaper comes into force (R492, R495). -/
def State.shaperApply (s : State) (g : Nat) : State :=
  let (rate0, burst0, en0) := s.shaper g
  let ws := s.tget 0x048 2 1 g
  let rate := (ws.getD 0 0).toNat
  let burst := fld (ws.getD 1 0) 23 0
  let en := bit (ws.getD 1 0) 31
  let (t, f) := s.tok g
  let s := s.tset 0x048 2 0 g [ws.getD 0 0, ws.getD 1 0, s.tw 0x048 2 0 g 2, s.tw 0x048 2 0 g 3]
  if en && !en0 then s.setTok g (burst, 0)
  else if (rate, burst, en) = (rate0, burst0, en0) || rate = 0 then s
  else if t < -(burst : Int) then s.setTok g (-burst, 0)
  else if (burst : Int) < t then s.setTok g (burst, 0)
  else s.setTok g (t, f)

/-- START of a new list (R498): E is two wales past the boundary at which the commit applies. -/
def gclStartAt (tb basetime cycle : Nat) : Nat :=
  let e := tb + 5000000
  if e ≤ basetime then basetime else basetime + cycle * ((e - basetime + cycle - 1) / cycle)

/-- A commit changed a lane group's gate list (R498). `was` is what was in force, and `tb` the boundary. -/
def State.gclApply (s : State) (lane tb : Nat) (was : Bool × Nat × Nat × Nat × Nat) : State :=
  let x := s.gclForce lane
  if x = was then s
  else
    let p := escPage lane
    let (en, base, len, cycle, basetime) := x
    let st := gclStartAt tb basetime (max 1 cycle)
    let s := s.setLane lane fun l => { l with next := some ⟨en, base, len, cycle, st⟩ }
    let s := s.wr64 p (lgOff Reg.escGclStartAct lane) (lgOff Reg.escGclStartActHi lane) st
    let moved := decide (st ≠ basetime)
    let s := ((s.wfld p (lgOff Reg.escGclStatus lane) 0 0 1).wfld p (lgOff Reg.escGclStatus lane) 1 1 moved.toNat).seqUp p
      (lgOff Reg.escGclStatus lane)
    if moved then s.raise p .escGclStartMoved (lane % 4) (st % 2 ^ 32) else s

/-- R495: the refill at B(T) is made at the old rate, so a commit that applies there makes it first where the wale's first fine
tick has not come yet. [DEDUCED, log 48] -/
def State.boundaryRefill (s : State) : State :=
  let b := s.boundary s.clk.wale
  if s.clk.fine < b then State.escTick { s with clk := { s.clk with fine := b } } else s

/-- The leg tables' entries whose shadow LANE belongs to a page come into force (R482). -/
def State.escTables (s : State) (p : Nat) : State :=
  let s := s.boundaryRefill
  ((s.pageLegs p).filter fun g => s.legPage 1 g = p).foldl
    (fun s g =>
      let ws := (List.range 16).map fun i => s.tw 0x048 1 1 g i
      let s := s.tset 0x048 1 0 g (ws.set 15 (s.tw 0x048 1 0 g 15))
      (s.shaperApply g).wakeLeg g) s

/-- Drops of R485 in the wale that closes are raised (R485, R509). [DEDUCED, log 48] -/
def State.escWaleEnd (s : State) : State :=
  let ds := s.esc.drops
  let s := s.setEsc fun e => { e with drops := [] }
  ds.foldl (fun s d => match d.2 with
    | some (g, n) => s.raise d.1 .escTailDrop g n
    | none => s) s

end Sys2Proof.Machine
end

