-- ==== Sys2Proof/Machine/Audio.lean ====
section
/-!
DEFINITION. MXF's arithmetic: G.711 (R321; ITU-T G.191), the converters of R322, clamping, the gain steps of R323, the
activity detector of R325 and the ranks of R330.
-/

namespace Sys2Proof.Machine

/-- A value clamped to the signed n-bit range. -/
def satN (n : Nat) (v : Int) : Int := max (-(2 ^ (n - 1))) (min (2 ^ (n - 1) - 1) v)

/-- The value lies outside the signed n-bit range. -/
def clips (n : Nat) (v : Int) : Bool := decide (satN n v ≠ v)

/-- A two's complement value of n bits. -/
def signed (n v : Nat) : Int := if v % 2 ^ n < 2 ^ (n - 1) then v % 2 ^ n else (v % 2 ^ n : Int) - 2 ^ n

/-! ## G.711 -/

/-- The 16-bit linear value of a µ-law byte. [PRESUMED, log 49] -/
def ulawExpand (b : Byte) : Int :=
  let v := 255 - b.toNat
  let t : Int := (v % 16 * 8 + 132) * 2 ^ (v / 16 % 8) - 132
  if v < 128 then t else -t

/-- The µ-law byte of a 16-bit linear value. [PRESUMED, log 49] -/
def ulawCompress (v : Int) : Byte :=
  let a : Nat := min 0x1FFF ((if v < 0 then (-v - 1) / 4 else v / 4).toNat + 33)
  let seg := Nat.log2 (a / 32)
  BitVec.ofNat 8 ((if v < 0 then 0 else 128) + (7 - seg) * 16 + (15 - a / 2 ^ (seg + 1) % 16))

/-- The 16-bit linear value of an A-law byte. [PRESUMED, log 49] -/
def alawExpand (b : Byte) : Int :=
  let v := (b ^^^ 0x55#8).toNat
  let seg := v / 16 % 8
  let m := v % 16 * 16 + 8
  let t : Int := if seg = 0 then m else (m + 256) * 2 ^ (seg - 1)
  if 128 ≤ v then t else -t

/-- The A-law byte of a 16-bit linear value. [PRESUMED, log 49] -/
def alawCompress (v : Int) : Byte :=
  let a : Nat := (if v < 0 then (-v - 1) / 16 else v / 16).toNat
  let seg := if a < 16 then 0 else Nat.log2 a - 3
  let m := if a < 16 then a else a / 2 ^ (seg - 1) - 16
  BitVec.ofNat 8 ((if v < 0 then 0 else 128) + seg * 16 + m) ^^^ 0x55#8

/-- R321 decode, G.711: the law is µ for 0 and A for 1. -/
def g711Decode (law : Nat) (b : Byte) : Int := (if law = 0 then ulawExpand b else alawExpand b) * 256

/-- R321: the 16-bit value to encode. -/
def encodeIn (y : Int) : Int := satN 16 ((y + 128) / 256)

/-- R321 encode, G.711. -/
def g711Encode (law : Nat) (y : Int) : Byte := if law = 0 then ulawCompress (encodeIn y) else alawCompress (encodeIn y)

/-! ## Converters (R322) -/

/-- First half and centre of the taps for 8 kHz, input converter. -/
def tapsIn8 : List Int × Int :=
  ([-2, -1, 3, 9, 18, 26, 29, 21, 0, -34, -77, -116, -137, -123, -65, 39, 175, 312, 410, 426, 326, 100,
    -227, -596, -915, -1081, -1005, -638, 0, 813, 1632, 2241, 2427, 2030, 998, -570, -2418, -4155, -5311,
    -5426, -4141, -1291, 3040, 8498, 14498, 20305, 25151, 28366], 29491)

/-- First half and centre of the taps for 8 kHz, output converter. -/
def tapsOut8 : List Int × Int :=
  ([0, 0, 0, 2, 3, 4, 5, 4, 0, -6, -13, -19, -23, -21, -11, 7, 29, 52, 68, 71, 54, 17, -38, -99, -153, -180,
    -168, -106, 0, 136, 272, 374, 405, 338, 166, -95, -403, -692, -885, -904, -690, -215, 507, 1416, 2416,
    3384, 4192, 4728], 4915)

/-- First half and centre of the taps for 16 kHz, input converter. -/
def tapsIn16 : List Int × Int :=
  ([-2, 3, 18, 29, 0, -77, -137, -65, 175, 410, 326, -227, -915, -1005, 0, 1632, 2427, 998, -2418, -5311,
    -4141, 3040, 14498, 25151], 29491)

/-- First half and centre of the taps for 16 kHz, output converter. -/
def tapsOut16 : List Int × Int :=
  ([-1, 1, 6, 10, 0, -26, -46, -22, 58, 137, 109, -76, -305, -335, 0, 544, 809, 333, -806, -1770, -1380,
    1013, 4833, 8384], 9830)

/-- First half and centre of the taps for 24 kHz, input converter. -/
def tapsIn24 : List Int × Int :=
  ([-2, 9, 29, -34, -137, 39, 410, 100, -915, -638, 1632, 2030, -2418, -5426, 3040, 20305], 29491)

/-- First half and centre of the taps for 24 kHz, output converter. -/
def tapsOut24 : List Int × Int :=
  ([-1, 5, 14, -17, -68, 20, 205, 50, -458, -319, 816, 1015, -1209, -2713, 1520, 10152], 14746)

/-- First half and centre of the taps for 32 kHz, input converter. -/
def tapsIn32 : List Int × Int :=
  ([-2, 3, 18, 29, 0, -77, -137, -65, 175, 410, 326, -227, -915, -1005, 0, 1632, 2427, 998, -2418, -5311,
    -4141, 3040, 14498, 25151], 29491)

/-- First half and centre of the taps for 32 kHz, output converter. -/
def tapsOut32 : List Int × Int :=
  ([-1, 1, 6, 10, 0, -26, -46, -22, 58, 137, 109, -76, -305, -335, 0, 544, 809, 333, -806, -1770, -1380,
    1013, 4833, 8384], 9830)

/-- The taps of a half and a centre; the window is symmetric. -/
def fullTaps (h : List Int × Int) : List Int := h.1 ++ [h.2] ++ h.1.reverse

/-- The input converter's taps for a RATE. -/
def inTaps (rate : Nat) : List Int :=
  fullTaps (if rate = 1 then tapsIn8 else if rate = 2 then tapsIn16 else if rate = 3 then tapsIn24 else tapsIn32)

/-- The output converter's taps for a RATE. -/
def outTaps (rate : Nat) : List Int :=
  fullTaps (if rate = 1 then tapsOut8 else if rate = 2 then tapsOut16 else if rate = 3 then tapsOut24 else tapsOut32)

/-- Native samples in a wale at a RATE (R318). -/
def perWale (rate : Nat) : Nat := [120, 20, 40, 60, 80].getD rate 120

/-- Fi over the native rate. -/
def upFactor (rate : Nat) : Nat := [1, 6, 3, 2, 3].getD rate 1

/-- Native samples a converter's filter reaches back over. -/
def histLen : Nat := 120

/-- The accumulator of an input converter at index m of its filter clock within the wale: `xs` are the wale's native
samples and `hist` those before them, newest first. -/
def inAcc (h : List Int) (u : Nat) (hist xs : List Int) (m : Nat) : Int :=
  ((List.range (h.length / u + 1)).map fun q =>
    let j := m % u + u * q
    let x := if q ≤ m / u then xs.getD (m / u - q) 0 else hist.getD (q - m / u - 1) 0
    h.getD j 0 * x).sum

/-- The rounding of both converters. -/
def convRound (acc : Int) : Int := satN 24 ((acc + 16384) / 32768)

/-- The 120 converted samples of a wale. -/
def convIn (rate : Nat) (hist xs : List Int) : List Int :=
  if rate = 0 then xs
  else
    let h := inTaps rate
    (List.range 120).map fun k => convRound (inAcc h (upFactor rate) hist xs (if rate = 4 then 2 * k else k))

/-- The native output sample, if any, at the period of mix sample k of a wale: its index in the wale and its value.
`hist` is what the converter was fed, newest first, sample k included. -/
def convOut (rate : Nat) (hist : List Int) (k : Nat) : Option (Nat × Int) :=
  if rate = 0 then some (k, hist.getD 0 0)
  else
    let h := outTaps rate
    if rate = 4 then
      if k % 3 = 2 then none
      else
        let odd := k % 3
        let acc := ((List.range 25).map fun q => h.getD (2 * q + odd) 0 * hist.getD q 0).sum
        some ((2 * k + odd) / 3, convRound acc)
    else if k % upFactor rate = 0 then
      some (k / upFactor rate, convRound (List.zipWith (· * ·) h hist).sum)
    else none

/-! ## Gain, activity and ranks -/

/-- What R323 carries from sample to sample: g, cnt, xp and the steps counted. -/
structure GainSt where
  g : Nat
  cnt : Nat
  xp : Int
  zc : Nat
  deriving DecidableEq, Repr

/-- One sample of R323. -/
def gainStep (gain step tmo : Nat) (c : GainSt) (x : Int) : GainSt × Int :=
  let cross := decide (x = 0) || (decide (x < 0) != decide (c.xp < 0))
  let cnt := c.cnt + 1
  let c1 :=
    if c.g ≠ gain && (cross || decide (tmo ≤ cnt)) then
      { g := ((c.g : Int) + max (-(step : Int)) (min step ((gain : Int) - c.g))).toNat, cnt := 0, xp := x,
        zc := c.zc + (!cross).toNat : GainSt }
    else { c with cnt := cnt, xp := x }
  (c1, satN 28 ((x * c1.g + 2048) / 4096))

/-- The samples of a wale through R323. -/
def gainRun (gain step tmo : Nat) (c : GainSt) : List Int → GainSt × List Int
  | [] => (c, [])
  | x :: r =>
    let (c, a) := gainStep gain step tmo c x
    let (c, as) := gainRun gain step tmo c r
    (c, a :: as)

/-- PEAK of R324. -/
def peakOf (as : List Int) : Nat := as.foldl (fun m a => max m (min a.natAbs (2 ^ 27 - 1))) 0

/-- E of R324. -/
def energyOf (as : List Int) : Nat := (as.map fun a => (a / 2048).natAbs ^ 2).sum

/-- The detector of R325. -/
def activity (on off hang : Nat) (active : Bool) (h e : Nat) : Bool × Nat :=
  if on ≤ e then (true, hang)
  else if active && decide (off ≤ e) then (active, hang)
  else if active && decide (0 < h) then (active, h - 1)
  else (false, h)

/-- The order of R330. -/
def rankBefore (a b : Nat × Nat) : Bool := decide (b.2 < a.2) || (decide (a.2 = b.2) && decide (a.1 ≤ b.1))

/-- The four loudest of talkers and levels. -/
def topFour (rs : List (Nat × Nat)) : List (Nat × Nat) := (rs.mergeSort rankBefore).take 4

/-- Two sample lists added. -/
def addSamples (a b : List Int) : List Int := (List.range 120).map fun k => a.getD k 0 + b.getD k 0

/-- The weight of what a crossfade leaves (R331). -/
def fadeOut (k : Nat) (a : Int) : Int := ((119 - (k : Int)) * a + 60) / 120

/-- The weight of what a crossfade brings. -/
def fadeIn (k : Nat) (a : Int) : Int := (((k : Int) + 1) * a + 60) / 120

end Sys2Proof.Machine
end

