-- ==== Sys2Proof/Machine/Tsi.lean ====
section
/-!
DEFINITION. What MXF and LNU share: ports, tributaries and TSI channels, and the byte that a channel sends (R511, R521,
R525, R528, R529).
-/

namespace Sys2Proof.Machine

/-- The page of an LNU port. -/
def lnuPage (p : Nat) : Nat := 0x020 + p

/-- A port's line. -/
def State.line (s : State) (p : Nat) : LinePort := NMap.get (fun _ => LinePort.init) s.lnu.ports p

/-- A port's line changed. -/
def State.setLine (s : State) (p : Nat) (f : LinePort → LinePort) : State :=
  s.setLnu fun l => { l with ports := NMap.set (fun _ => LinePort.init) l.ports p (f (s.line p)) }

/-- MODE in force (R510). -/
def State.lineMode (s : State) (p : Nat) : Nat := s.raf (lnuPage p) Reg.lnuPortCfg 1 0

/-- The port is ready and not off. -/
def State.lineLive (s : State) (p : Nat) : Bool := s.ready (lnuPage p) && s.lineMode p ≠ 0

/-- A path is enabled. -/
def State.pathOn (s : State) (p a : Nat) : Bool := s.tf (lnuPage p) 0 0 a 0 0 0 = 1

/-- Word 0 of a tributary's entry in force (R521). -/
def State.tribW (s : State) (p t : Nat) : Word := s.tw (lnuPage p) 1 0 t 0

/-- A tributary is enabled. -/
def State.tribOn (s : State) (p t : Nat) : Bool := bit (s.tribW p t) 0

/-- FRAMING of a tributary: 0 E1, 1 E1 with CRC-4, 2 T1 SF, 3 T1 ESF. -/
def State.framing (s : State) (p t : Nat) : Nat := fld (s.tribW p t) 2 1

/-- The enabled paths and tributaries of a port, lowest first. -/
def State.pathsOn (s : State) (p : Nat) : List Nat := ((s.tlist (lnuPage p) 0 0).map (·.1)).filter fun a => s.pathOn p a
def State.tribsOn (s : State) (p : Nat) : List Nat := ((s.tlist (lnuPage p) 1 0).map (·.1)).filter fun t => s.tribOn p t

/-- The path that carries a tributary (R511). -/
def State.tribPath (s : State) (p t : Nat) : Nat := if s.lineMode p = 1 then t / 63 else t / 28

/-- A path's and a tributary's receive side. -/
def LinePort.path (l : LinePort) (a : Nat) : PathSt := NMap.get (fun _ => PathSt.init) l.paths a
def LinePort.trib (l : LinePort) (t : Nat) : TribSt := NMap.get (fun _ => TribSt.init) l.tribs t
def LinePort.setPath (l : LinePort) (a : Nat) (x : PathSt) : LinePort :=
  { l with paths := NMap.set (fun _ => PathSt.init) l.paths a x }
def LinePort.setTrib (l : LinePort) (t : Nat) (x : TribSt) : LinePort :=
  { l with tribs := NMap.set (fun _ => TribSt.init) l.tribs t x }

/-- Time slot 16 of an E1 whose CH16 is 0: sent as 0xD5 and ignored on receive (R521). -/
def State.slotClosed (s : State) (p t ts : Nat) : Bool :=
  decide (s.framing p t < 2) && ts = 16 && !bit (s.tribW p t) 4

/-! ## Channels (R525) -/

/-- A channel's entry in force. -/
def State.chanW (s : State) (ch : Nat) : Word := s.tw tsiPage 0 0 ch 0

def chEn (w : Word) : Bool := bit w 0
def chPort (w : Word) : Nat := fld w 2 1
def chTrib (w : Word) : Nat := fld w 13 3
def chTs (w : Word) : Nat := fld w 18 14

/-- A channel's idle code. -/
def chIdle (w : Word) : Byte := if bit w 19 then 0xFF else 0xD5

/-- Channels carry bytes. -/
def State.tsiRun (s : State) : Bool := s.raf tsiPage Reg.lnuTsiCfg 0 0 = 1 && s.ready tsiPage

/-- The enabled channels, lowest first. -/
def State.channels (s : State) : List (Nat × Word) :=
  (s.tlist tsiPage 0 0).filterMap fun (n, ws) => if chEn (ws.getD 0 0) then some (n, ws.getD 0 0) else none

/-- The byte of a time slot of the frame being sent. -/
def TxFrame.put (f : TxFrame) (t ts : Nat) (b : Byte) : TxFrame :=
  { f with tribs := f.tribs.map fun x => if x.trib = t then { x with slots := x.slots.set (ts - 1) b } else x }

/-- MXF gives channel ch its byte for index m: it goes into its time slot of the frame with that index (R525). -/
def State.tdmSend (s : State) (ch m : Nat) (b : Byte) : State :=
  let w := s.chanW ch
  if chEn w && s.tsiRun && !s.slotClosed (chPort w) (chTrib w) (chTs w) then
    s.setLine (chPort w) fun l =>
      { l with tx := l.tx.map fun f => if f.index = m then f.put (chTrib w) (chTs w) b else f }
  else s

end Sys2Proof.Machine
end

