-- ==== Sys2Proof/Machine/Mxf.lean ====
section
/-!
DEFINITION. MXF: the gather pass, the mix, hardware decode and encode, partial-mix trunks, the validation of a commit and
its crossfades (R309 to R341).
-/

namespace Sys2Proof.Machine

/-- The MXF page. -/
def mxfPage : Nat := 0x050

/-- MXF's producer port (R314). -/
def mxfPort : Nat := 565

/-- The state with another MXF. -/
def State.setMxf (s : State) (f : MxfSt → MxfSt) : State := { s with mxf := f s.mxf }

/-- An input port beside its entry. -/
def State.mxIn (s : State) (j : Nat) : MxfIn := NMap.get (fun _ => MxfIn.init) s.mxf.ins j

/-- An input port changed. -/
def State.setMxIn (s : State) (j : Nat) (f : MxfIn → MxfIn) : State :=
  s.setMxf fun m => { m with ins := NMap.set (fun _ => MxfIn.init) m.ins j (f (s.mxIn j)) }

/-- An output port beside its entry. -/
def State.mxOut (s : State) (j : Nat) : MxfOut := NMap.get (fun _ => MxfOut.init) s.mxf.outs j

/-- An output port changed. -/
def State.setMxOut (s : State) (j : Nat) (f : MxfOut → MxfOut) : State :=
  s.setMxf fun m => { m with outs := NMap.set (fun _ => MxfOut.init) m.outs j (f (s.mxOut j)) }

/-! ## Entries (R310 to R313) -/

/-- Field [hi:lo] of word i of an entry. -/
def efld (e : List Word) (i hi lo : Nat) : Nat := fld (e.getD i 0) hi lo

def peKind (e : List Word) : Nat := efld e 0 1 0
def peRate (e : List Word) : Nat := efld e 0 4 2
def peCodec (e : List Word) : Nat := efld e 0 6 5
def peBus (e : List Word) : Nat := efld e 0 21 8
def peBusEn (e : List Word) : Bool := efld e 0 22 22 = 1
def peGain (e : List Word) : Nat := efld e 1 15 0
def peBuf (e : List Word) : Nat := efld e 3 31 0

/-- A bus is enabled. -/
def State.busOn (s : State) (c : Nat) : Bool := s.tf mxfPage 2 0 c 0 0 0 = 1

/-- A bus's GATE. -/
def State.busGate (s : State) (c : Nat) : Bool := s.tf mxfPage 2 0 c 0 1 1 = 1

/-- A bus's DEPTH. -/
def State.busDepth (s : State) (c : Nat) : Nat := s.tf mxfPage 2 0 c 0 4 2

/-- A trunk is enabled, and trunks run. -/
def State.trunkOn (s : State) (e : Nat) : Bool :=
  s.raf mxfPage Reg.mxfCfg 1 1 = 1 && s.tf mxfPage 3 0 e 0 14 14 = 1

/-- A trunk's bus and its HOPS_IN. -/
def State.trunkBus (s : State) (e : Nat) : Nat := s.tf mxfPage 3 0 e 0 13 0
def State.trunkHops (s : State) (e : Nat) : Nat := s.tf mxfPage 3 0 e 0 17 15

/-- The enabled trunks, lowest first. -/
def State.trunks (s : State) : List Nat := ((s.tlist mxfPage 3 0).map (·.1)).filter fun e => s.trunkOn e

/-- Gather and mix run. -/
def State.mxfRun (s : State) : Bool := s.raf mxfPage Reg.mxfCfg 0 0 = 1

/-! ## Input sources (R318, R319) -/

/-- Bytes of an input or output ring. -/
def ringBytes : Nat := 66048

/-- A ring's buffer can be used: it is allocated, and DRAM is ready where it lies there. [DEDUCED, log 50] -/
def State.ringUsable (s : State) (h : Nat) : Bool := s.owners h ≠ [] && (!s.bufInDram h || s.drcReady)

/-- Native sample x of a ring. -/
def State.ringSample (s : State) (h x : Nat) : Int := signed 24 (leNat (s.bufBytes h (4 * (x % 16384)) 3))

/-- The tag for a wale. -/
def State.ringTag (s : State) (h w : Nat) : Nat := leNat (s.bufBytes h (65536 + 4 * (w % 128)) 4)

/-- A native sample is written, sign-extended to 32 bits. -/
def State.ringPut (s : State) (h x : Nat) (v : Int) : State :=
  s.bufPut h (4 * (x % 16384)) (leBytes 4 (BitVec.ofInt 32 v).toNat)

/-- A tag is written. -/
def State.tagPut (s : State) (h w : Nat) : State := s.bufPut h (65536 + 4 * (w % 128)) (leBytes 4 (w % 2 ^ 32))

/-- Where a channel's byte of index m stands. -/
def dsKey (ch m : Nat) : Nat := ch * 64 + m % 64

/-- The byte a channel received at index m. -/
def State.ds0At (s : State) (ch m : Nat) : Option Byte :=
  match NMap.get (fun _ => none) s.mxf.ds0 (dsKey ch m) with
  | some (i, b) => if i = m then some b else none
  | none => none

/-- The native samples of an input port for wale w, and whether they are present. -/
def State.nativeIn (s : State) (e : List Word) (w : Nat) : List Int × Bool :=
  let n := perWale (peRate e)
  if peKind e = 3 then
    ((List.range n).map fun f => match s.ds0At (efld e 2 15 0) (n * w + f) with
      | some b => g711Decode (peCodec e) b
      | none => 0, true)
  else if s.ringUsable (peBuf e) && s.ringTag (peBuf e) w = w % 2 ^ 32 then
    ((List.range n).map fun i => s.ringSample (peBuf e) (n * w + i), true)
  else (List.replicate n 0, false)

/-! ## The gather pass -/

/-- What the gather of one port gives: its new state, its samples, its gain steps at the timeout, and whether it was
stale and active. -/
structure PortGather where
  st : MxfIn
  a : List Int
  zc : Nat
  stale : Bool
  act : Bool
  deriving DecidableEq, Repr

/-- One port's gather (R318 to R325). [DEDUCED, log 50] -/
def State.gatherPort (s : State) (j : Nat) (e : List Word) (w : Nat) : PortGather :=
  let p := s.mxIn j
  let (xs, ok) := s.nativeIn e w
  let ys := convIn (peRate e) p.hist xs
  let (g, as) := gainRun (peGain e) (efld e 1 31 16) (s.raf mxfPage Reg.mxfZcTmo 15 0) ⟨p.g, p.cnt, p.xp, 0⟩ ys
  let en := energyOf as
  let (act, hang) := activity (s.ra mxfPage Reg.mxfActOn).toNat (s.ra mxfPage Reg.mxfActOff).toNat
    (s.raf mxfPage Reg.mxfActHang 7 0) p.active p.hang (if ok then en else 0)
  { st := { p with g := g.g, cnt := g.cnt, xp := g.xp, active := act, hang := hang, e := en, peak := peakOf as,
                   hist := (xs.reverse ++ p.hist).take histLen },
    a := as, zc := g.zc, stale := !ok, act := ok && p.active }

/-- Where a port's contribution to a bus stands. -/
def contribKey (j c : Nat) : Nat := j * 16384 + c

/-- A port's samples enter a bus of the wale being gathered (R326, R327). -/
def Gathered.add (g : Gathered) (j c : Nat) (as : List Int) (act : Bool) (rank : Option (Nat × Nat)) : Gathered :=
  let n := NMap.get (fun _ => 0) g.counts c
  let rs := NMap.get (fun _ => []) g.ranks c
  { g with
    sums := NMap.set (fun _ => []) g.sums c (addSamples (NMap.get (fun _ => []) g.sums c) as)
    counts := NMap.set (fun _ => 0) g.counts c (n + act.toNat)
    ranks := NMap.set (fun _ => []) g.ranks c (match rank with | some r => topFour (r :: rs) | none => rs)
    contrib := NMap.set (fun _ => []) g.contrib (contribKey j c) as }

/-- The bus an entry feeds, where it contributes (R326). -/
def State.feeds (s : State) (e : List Word) (act : Bool) : Option Nat :=
  if peKind e ≠ 0 && peBusEn e && s.busOn (peBus e) && (!s.busGate (peBus e) || act) then some (peBus e) else none

/-- A changed input entry is crossfaded in the mixes of output wale v (R331). -/
def State.fadingIn (s : State) (v j : Nat) : Option (List Word) :=
  if s.mxf.fade = some v then s.mxf.oldIn.lookup j else none

/-- A gathered port's contributions. -/
def State.contribute (s : State) (j v : Nat) (e : List Word) (p : PortGather) (g : Gathered) : Gathered :=
  let rank := if (s.ra mxfPage Reg.mxfActOff).toNat ≤ p.st.e then
      some (s.raf mxfPage Reg.mxfTag 15 0 * 65536 + j, p.st.e / 128)
    else none
  let one (g : Gathered) (c : Option Nat) (as : List Int) : Gathered :=
    match c with
    | some c => g.add j c as p.act rank
    | none => g
  match s.fadingIn v j with
  | some o =>
    let g := one g (s.feeds o p.act) (p.a.mapIdx fadeOut)
    one g (s.feeds e p.act) (p.a.mapIdx fadeIn)
  | none => one g (s.feeds e p.act) p.a

/-- Table 4's words of an input port. -/
def meterWords (p : MxfIn) : List Word :=
  [BitVec.ofNat 32 (p.peak + p.active.toNat * 2 ^ 28), BitVec.ofNat 32 (p.hang + p.g * 2 ^ 8), BitVec.ofNat 32 p.e,
   BitVec.ofNat 32 (p.e / 2 ^ 32)]

/-- The gather of every port in use, in order: the stale ports are listed. -/
def State.gatherAll (s : State) (v w : Nat) (g : Gathered) : List (Nat × List Word) → State × Gathered × List Nat
  | [] => (s, g, [])
  | (j, e) :: r =>
    if peKind e = 0 then s.gatherAll v w g r
    else
      let p := s.gatherPort j e w
      let g := s.contribute j v e p g
      let s := (s.setMxIn j fun _ => p.st).tset mxfPage 4 0 j (meterWords p.st)
      let s := s.bumpN mxfPage .mxfZcTmo p.zc
      let (s, g, l) := s.gatherAll v w g r
      (s, g, if p.stale then j :: l else l)

/-! ## What the buses play (R328, R330) -/

/-- The gathered wale w. -/
def State.gatheredAt (s : State) (w : Nat) : Gathered :=
  (s.mxf.gathered.find? fun g => g.wale = w).getD { wale := w }

/-- The included payloads of wale w on some trunks. -/
def State.partsOf (s : State) (ts : List Nat) (w : Nat) : List Partial :=
  s.mxf.parts.filter fun p => p.wale = w % 2 ^ 32 && ts.contains p.trunk

/-- The trunks of a bus. -/
def State.busTrunks (s : State) (c : Nat) : List Nat := s.trunks.filter fun e => s.trunkBus e = c

/-- What bus c plays in output wale v. -/
def State.busPlay (s : State) (c v : Nat) : BusPlay :=
  let w := v - 1 - s.busDepth c
  let g := s.gatheredAt w
  let ps := s.partsOf (s.busTrunks c) w
  let n := NMap.get (fun _ => 0) g.counts c + (ps.map (·.active)).sum
  let f1 := s.raf mxfPage (Reg.mxfScale + 4 * min n 16) 15 0
  { wale := w, n := n, f1 := f1, f0 := (NMap.get (fun _ => none) s.mxf.factor c).getD f1,
    t := ps.foldl (fun t p => addSamples t p.samples) (addSamples (NMap.get (fun _ => []) g.sums c) []),
    ranks := topFour (NMap.get (fun _ => []) g.ranks c ++ ps.flatMap (·.ranks)) }

/-- The output wale v begins: what every enabled bus plays, and the trunk-wales without a payload (R335). -/
def State.playAll (s : State) (v : Nat) : State :=
  let cs := ((s.tlist mxfPage 2 0).map (·.1)).filter fun c => s.busOn c
  let miss := (cs.map fun c =>
    ((s.busTrunks c).filter fun e => s.partsOf [e] (v - 1 - s.busDepth c) = []).length).sum
  let s1 := s.setMxf fun m =>
    { m with play := cs.foldl (fun p c => NMap.set (fun _ => none) p c (some (s.busPlay c v))) [] }
  s1.bumpN mxfPage .mxfPartialMiss miss

/-- R315: the gather, at step 7 of the boundary, and the mixes of the wale that begins. -/
def execMxfGather (s : State) : Host.Outcome State Fault Refusal :=
  let v := s.clk.wale
  if s.stepDue 7 && s.ready mxfPage && s.mxf.out ≠ some v && !s.heldBack .mxf then
    let s := s.atStep 7
    let start (s : State) : State := s.setMxf fun m => { m with out := some v, k := 0, built := [] }
    if s.mxfRun then
      let w := v - 1
      let (s, g, l) := s.gatherAll v w { wale := w } (s.tlist mxfPage 0 0)
      let s := s.setMxf fun m =>
        { m with gathered := (g :: m.gathered).take 9,
                 parts := m.parts.filter fun p => !waleLt p.wale ((v + 2 ^ 32 - 16) % 2 ^ 32) }
      let s := (s.bump mxfPage .mxfWales).bumpN mxfPage .mxfInStale l.length
      let s := match l with
        | [] => s
        | j :: _ => s.raise mxfPage .mxfInLate j l.length
      .next (start (s.playAll v))
    else .next (start (s.setMxf fun m => { m with play := [] }))
  else .next s

/-! ## The mix (R316, R328, R331 to R333) -/

/-- A port's contribution to bus c at sample k of a gathered wale. -/
def Gathered.own (g : Gathered) (j c k : Nat) : Int := (NMap.get (fun _ => []) g.contrib (contribKey j c)).getD k 0

/-- o of R328 under an output entry, and whether it was clamped. -/
def State.mixOut (s : State) (e : List Word) (k : Nat) : Int × Bool :=
  match NMap.get (fun _ => none) s.mxf.play (peBus e) with
  | some b =>
    if peBusEn e then
      let f : Int := b.f0 + (((b.f1 : Int) - b.f0) * (k + 1)) / 120
      let own := if efld e 0 7 7 = 1 then (s.gatheredAt b.wale).own (efld e 2 15 0) (peBus e) k else 0
      let m := satN 28 (((b.t.getD k 0 - own) * f + 16384) / 32768)
      let o := (m * peGain e + 2048) / 4096
      (satN 24 o, clips 24 o)
    else (0, false)
  | none => (0, false)

/-- The value an output port's converter is fed at sample k, and how many values were clamped. -/
def State.portOut (s : State) (v j : Nat) (e : List Word) (k : Nat) : Int × Nat :=
  let (o, c) := s.mixOut e k
  match if s.mxf.fade = some v then s.mxf.oldOut.lookup j else none with
  | some old =>
    let (o0, c0) := s.mixOut old k
    (((119 - (k : Int)) * o0 + ((k : Int) + 1) * o + 60) / 120, c.toNat + c0.toNat)
  | none => (o, c.toNat)

/-- The byte of a KIND 3 port for 8 kHz index m, with side-tone (R332, R333). -/
def State.tdmByte (s : State) (e : List Word) (m : Nat) (y : Int) : Byte :=
  let g := efld e 1 31 16
  let own := s.tget mxfPage 0 0 (efld e 2 15 0)
  let side : Int :=
    if g = 0 || !s.mxfRun then 0
    else match s.ds0At (efld own 2 15 0) (m - 2) with
      | some b => (g711Decode (peCodec own) b * g + 2048) / 4096
      | none => 0
  g711Encode (peCodec e) (satN 24 (y + side))

/-- A native output sample, number i of output wale v, leaves its port (R332). -/
def State.deliver (s : State) (v j : Nat) (e : List Word) (i : Nat) (y : Int) : State :=
  let n := perWale (peRate e)
  if peKind e = 1 then (if s.ringUsable (peBuf e) then s.ringPut (peBuf e) (n * v + i) y else s)
  else if peKind e = 2 then
    let pt := max 1 (efld e 0 31 27)
    let p := s.mxOut j
    let first := v - v % pt
    let p : MxfOut := if i = 0 && v = first then { p with first := v, fill := [] } else p
    let p : MxfOut := if p.first = first then { p with fill := p.fill ++ [y] } else p
    if p.fill.length = n * pt && i + 1 = n && s.mxfRun then
      (s.setMxOut j fun _ => { p with fill := [] }).setMxf fun m => { m with ready := m.ready ++ [(j, first, p.fill)] }
    else s.setMxOut j fun _ => p
  else
    let m := 20 * v + i
    let b := s.tdmByte e m y
    (s.setMxf fun x => { x with tx := NMap.set (fun _ => none) x.tx (efld e 2 31 16) (some (m, b)) }).tdmSend
      (efld e 2 31 16) m b

/-- One output port at sample k. [DEDUCED, log 50] -/
def State.mixPort (s : State) (v k j : Nat) (e : List Word) : State :=
  let (o, n) := if s.mxfRun then s.portOut v j e k else (0, 0)
  let h := (o :: (s.mxOut j).hist).take histLen
  let s := (s.setMxOut j fun p => { p with hist := h }).bumpN mxfPage .mxfClip n
  let s := match convOut (peRate e) h k with
    | some (i, y) => s.deliver v j e i (if s.mxfRun then y else 0)
    | none => s
  if k = 119 && peKind e = 1 && s.ringUsable (peBuf e) then s.tagPut (peBuf e) v else s

/-- A bus's mix is complete: its factor stays, and table 5 shows it (R328, R330). -/
def State.busDone (s : State) (c : Nat) (b : BusPlay) : State :=
  let rs := b.ranks ++ List.replicate (4 - b.ranks.length) (0xFFFFFFFF, 0)
  (s.setMxf fun m => { m with factor := NMap.set (fun _ => none) m.factor c (some b.f1) }).tset mxfPage 5 0 c
    ([BitVec.ofNat 32 b.n, BitVec.ofNat 32 b.wale] ++ rs.flatMap fun r => [BitVec.ofNat 32 r.1, BitVec.ofNat 32 r.2])

/-- R316: sample k of the output wale, in its period. -/
def execMixSample (s : State) : Host.Outcome State Fault Refusal :=
  let v := s.clk.wale
  let k := s.mxf.k
  if s.genState = 2 && s.ready mxfPage && s.mxf.out = some v && k < 120 then
    let t := s.boundary v + k * 62500 / 3
    let s := if s.inWale t then s.advanceTo t else s
    let s := (s.tlist mxfPage 1 0).foldl (fun s p => if peKind p.2 = 0 then s else s.mixPort v k p.1 p.2) s
    let s := s.setMxf fun m => { m with k := k + 1 }
    .next (if k = 119 then
        s.mxf.play.foldl (fun s p => match p.2 with
          | some b => s.busDone p.1 b
          | none => s) s
      else s)
  else .next s

/-! ## Hardware decode and encode (R320, R321, R332) -/

/-- The KIND 2 input port that decodes a context. -/
def State.decodePort (s : State) (scid : Nat) : Option (Nat × List Word) :=
  (s.tlist mxfPage 0 0).find? fun p => peKind p.2 = 2 && efld p.2 2 24 0 = scid

/-- A payload's native samples, and the decoder's state after it. -/
def decodeAll (codec : Nat) : Nat → List Byte → List Int × Nat
  | d, [] => ([], d)
  | d, b :: r =>
    if codec = 2 then
      let (d, x, y) := Config.g722Decode d b
      let (xs, d) := decodeAll codec d r
      (x * 1024 :: y * 1024 :: xs, d)
    else
      let (xs, d) := decodeAll codec d r
      (g711Decode codec b :: xs, d)

/-- The start wale of a packet that may be placed: it starts on a boundary, and its wales lie in Wa + 1 to Wa + 127. -/
def placeAt (n n0 wales wa : Nat) : Option Nat :=
  (List.range' 1 127).findSome? fun d =>
    if n * (wa + d) % 2 ^ 32 = n0 && decide (d + wales ≤ 128) then some (wa + d) else none

/-- A packet's samples and tags are written from wale w on. -/
def State.placeRing (s : State) (h n w : Nat) (xs : List Int) : State :=
  let s := xs.zipIdx.foldl (fun s p => s.ringPut h (n * w + p.2) p.1) s
  (List.range (xs.length / n)).foldl (fun s i => s.tagPut h (w + i)) s

/-- R320. -/
def execHwdecPacket (s : State) : Host.Outcome State Fault Refusal :=
  let q := s.ra mxfPage Reg.mxfHwdec
  if s.ready mxfPage && bit q 12 then
    match s.colTake mxfPort (fld q 11 0) with
    | (s, some b) =>
      let scid := leNat (b.take 4)
      let wa := leNat ((b.drop 8).take 4)
      let ts := leNat ((b.drop 12).take 4)
      let pay := (b.drop 32).take (leNat ((b.drop 16).take 2))
      match s.decodePort scid with
      | none => .next s
      | some (j, e) =>
        let n := perWale (peRate e)
        let m := if peCodec e = 2 then 2 else 1
        if pay.length * m % n ≠ 0 then .next (s.bump mxfPage .mxfHwDrop)
        else
          let wales := pay.length * m / n
          let goal := n * (wa + efld e 0 31 24) % 2 ^ 32
          let fresh := (goal + 2 ^ 32 - ts * m % 2 ^ 32) % 2 ^ 32
          let p := s.mxIn j
          let anchor := p.anchor.getD fresh
          let fit := placeAt n ((ts * m + anchor) % 2 ^ 32) wales wa
          let (xs, d) := decodeAll (peCodec e) p.dec pay
          let s := s.setMxIn j fun p => { p with dec := d, anchor := some (if fit.isSome then anchor else fresh) }
          let s := if fit.isSome then s
            else (s.bump mxfPage .mxfHwReanchor).raise mxfPage .mxfHwReanchor j 0
          let s := if s.ringUsable (peBuf e) then s.placeRing (peBuf e) n (fit.getD (wa + efld e 0 31 24)) xs else s
          .next (s.bump mxfPage .mxfHwPkts)
    | (s, none) => .next s
  else .next s

/-- Native samples as packet bytes, and the encoder's state after them. -/
def encodeAll (codec : Nat) : Nat → List Int → List Byte × Nat
  | d, [] => ([], d)
  | d, y :: r =>
    if codec = 2 then
      match r with
      | [] => ([], d)
      | z :: r =>
        let (d, b) := Config.g722Encode d (encodeIn y / 4) (encodeIn z / 4)
        let (bs, d) := encodeAll codec d r
        (b :: bs, d)
    else
      let (bs, d) := encodeAll codec d r
      (g711Encode codec y :: bs, d)

/-- R332: a complete packet of a KIND 2 output port. -/
def execMxfHwencPacket (s : State) : Host.Outcome State Fault Refusal :=
  match s.mxf.ready with
  | [] => .next s
  | (j, v, xs) :: r =>
    let e := s.tget mxfPage 1 0 j
    let (bs, d) := encodeAll (peCodec e) (s.mxOut j).enc xs
    let s := (s.setMxf fun m => { m with ready := r }).setMxOut j fun p => { p with enc := d }
    .next (if peKind e = 2 && s.mxfRun then
        { s with lfw := { s.lfw with
          orig := s.lfw.orig ++ [{ scid := efld e 3 24 0, g := 20 * v % 2 ^ 32, m := false, body := bs }] } }
      else s)

/-! ## Partial-mix trunks (R334 to R336) -/

/-- The ranks of a payload; an empty rank is left out. -/
def partialRanks (b : List Byte) : List (Nat × Nat) :=
  ((List.range 4).map fun i =>
    (beNat ((b.drop (16 + 8 * i)).take 4), beNat ((b.drop (20 + 8 * i)).take 4))).filter (· ≠ (0xFFFFFFFF, 0))

/-- The samples of a payload, expanded. -/
def partialSamples (b : List Byte) (exp : Nat) : List Int :=
  (List.range 120).map fun k => signed 24 (beNat ((b.drop (48 + 3 * k)).take 3)) * 2 ^ exp

/-- A payload is ignored. -/
def State.partialBad (s : State) (e cause : Nat) : State :=
  (s.bump mxfPage .mxfPartialBad).raise mxfPage .mxfPartialBad e cause

/-- The wales taken on a trunk. -/
def State.trunkTaken (s : State) (e : Nat) : List Nat := NMap.get (fun _ => []) s.mxf.taken e

/-- R335: the oldest payload that LFW has delivered. [DEDUCED, log 50] -/
def execPartialMixIn (s : State) : Host.Outcome State Fault Refusal :=
  match s.lfw.toMxf with
  | [] => .next s
  | (scid, wa, b) :: r =>
    let s := { s with lfw := { s.lfw with toMxf := r } }
    if s.ready mxfPage then
      match s.trunks.find? fun e => s.tf mxfPage 3 0 e 1 24 0 = scid with
      | none => .next s
      | some e =>
        let c := s.trunkBus e
        let hops := (b.getD 1 0).toNat
        let exp := (b.getD 2 0).toNat
        let w := beNat ((b.drop 8).take 4)
        if b.length ≠ 408 || b.getD 0 0 ≠ 1 || beNat ((b.drop 4).take 4) ≠ (s.tw mxfPage 2 0 c 1).toNat || hops = 0 ||
            decide (20 < exp) then .next (s.partialBad e 1)
        else if waleLe wa w then .next (s.partialBad e 2)
        else if (s.trunkTaken e).contains w then .next (s.partialBad e 3)
        else
          let s := s.setMxf fun m => { m with taken := NMap.set (fun _ => []) m.taken e (w :: s.trunkTaken e) }
          if !waleLe wa ((w + hops) % 2 ^ 32) || decide (s.trunkHops e < hops) then
            .next (s.raise mxfPage .mxfPartialLate e w)
          else
            .next ((s.setMxf fun m =>
              { m with parts := { trunk := e, wale := w, active := beNat ((b.drop 12).take 4), ranks := partialRanks b,
                                  samples := partialSamples b exp } :: m.parts }).bump mxfPage .mxfPartialsIn)
    else .next s

/-- h of R336 for a trunk. -/
def State.trunkWait (s : State) (e : Nat) : Nat :=
  (((s.busTrunks (s.trunkBus e)).filter (· ≠ e)).map fun t => s.trunkHops t).foldl max 0

/-- A sample fits 24 bits after a shift. -/
def fits24 (x : Int) (e : Nat) : Bool := !clips 24 (x / 2 ^ e)

/-- A payload (R334). -/
def partialBytes (hops exp group w active : Nat) (ranks : List (Nat × Nat)) (xs : List Int) : List Byte :=
  let rs := ranks ++ List.replicate (4 - ranks.length) (0xFFFFFFFF, 0)
  beBytes 1 1 ++ beBytes 1 hops ++ beBytes 1 exp ++ beBytes 1 0 ++ beBytes 4 group ++ beBytes 4 w ++ beBytes 4 active ++
    rs.flatMap (fun r => beBytes 4 r.1 ++ beBytes 4 r.2) ++
    xs.flatMap fun x => beBytes 3 (BitVec.ofInt 24 (satN 24 (x / 2 ^ exp))).toNat

/-- R336: a trunk's partial, after the gather of the boundary. -/
def execPartialBuild (trunk : Nat) (s : State) : Host.Outcome State Fault Refusal :=
  let v := s.clk.wale
  if s.genState = 2 && s.ready mxfPage && s.mxfRun && s.mxf.out = some v && s.trunkOn trunk &&
      !s.mxf.built.contains trunk then
    let h := s.trunkWait trunk
    let w := v - 1 - h
    let c := s.trunkBus trunk
    let s := s.setMxf fun m => { m with built := m.built ++ [trunk] }
    if s.mxf.gathered.any fun g => g.wale = w then
      let g := s.gatheredAt w
      let ps := s.partsOf ((s.busTrunks c).filter (· ≠ trunk)) w
      let xs := ps.foldl (fun t p => addSamples t p.samples) (addSamples (NMap.get (fun _ => []) g.sums c) [])
      let exp := ((List.range 21).find? fun e => xs.all fun x => fits24 x e).getD 20
      let active := NMap.get (fun _ => 0) g.counts c + (ps.map (·.active)).sum
      let ranks := topFour (NMap.get (fun _ => []) g.ranks c ++ ps.flatMap (·.ranks))
      let s := if xs.all fun x => fits24 x 20 then s else s.bump mxfPage .mxfClip
      let body := partialBytes (h + 1) exp (s.tw mxfPage 2 0 c 1).toNat (w % 2 ^ 32) active ranks xs
      .next (State.bump { s with lfw := { s.lfw with
        partials := s.lfw.partials ++ [(s.tf mxfPage 3 0 trunk 2 24 0, w, body)] } } mxfPage .mxfPartialsOut)
    else .next s
  else .next s

/-! ## Commits (R314, R331) -/

/-- An entry of a table in use, in the shadow. -/
def State.mxfShadows (s : State) (t : Nat) : List (Nat × List Word) :=
  (s.tlist mxfPage t 1).filter fun p =>
    if t < 2 then peKind p.2 ≠ 0 else if t = 2 then efld p.2 0 0 0 = 1 else efld p.2 0 14 14 = 1

/-- An entry holds a reserved encoding. -/
def mxfReserved (t : Nat) (e : List Word) : Bool :=
  if t < 2 then
    decide (5 ≤ peRate e) || (decide (2 ≤ peKind e) && peCodec e = 3) ||
      (if t = 0 then efld e 1 31 16 = 0 || (peKind e = 2 && !decide (1 ≤ efld e 0 31 24 ∧ efld e 0 31 24 ≤ 64)) ||
          (peKind e ≠ 2 && efld e 0 31 24 ≠ 0)
       else (peKind e = 2 && !decide (1 ≤ efld e 0 31 27 ∧ efld e 0 31 27 ≤ 16)) || (peKind e ≠ 2 && efld e 0 31 27 ≠ 0))
  else false

/-- Cause 1: codec and rate do not go together. -/
def rateBad (e : List Word) : Bool :=
  (decide (2 ≤ peKind e) && decide (peCodec e ≤ 1) && peRate e ≠ 1) || (peKind e = 2 && peCodec e = 2 && peRate e ≠ 2) ||
    (peKind e = 3 && peCodec e = 2)

/-- Cause 4: the entry's buffer will not do. -/
def State.mxfBufBad (s : State) (h : Nat) : Bool :=
  s.owners h = [] || decide (s.bufSize h < ringBytes) || !(s.owners h).contains (s.portOwner mxfPort)

/-- The cause of an entry's failure (R314); 7 for a reserved encoding. `before` are the entries of its table in use
with lower numbers. [DEDUCED, log 50] -/
def State.mxfCause (s : State) (t j : Nat) (e : List Word) : Option Nat :=
  let before := (s.mxfShadows t).filter fun p => p.1 < j
  if t < 2 then
    if rateBad e then some 1
    else if t = 0 && peKind e = 2 && before.any fun p => peKind p.2 = 2 && efld p.2 2 24 0 = efld e 2 24 0 then some 2
    else if peKind e = 3 && before.any fun p => peKind p.2 = 3 &&
        (if t = 0 then efld p.2 2 15 0 = efld e 2 15 0 else efld p.2 2 31 16 = efld e 2 31 16) then some 3
    else if (peKind e = 1 || (t = 0 && peKind e = 2)) && s.mxfBufBad (peBuf e) then some 4
    else if t = 1 && efld e 1 31 16 ≠ 0 && (peKind e ≠ 3 || s.tf mxfPage 0 1 (efld e 2 15 0) 0 1 0 ≠ 3) then some 5
    else if mxfReserved t e then some 7 else none
  else if t = 3 then
    let c := efld e 0 13 0
    let hops := efld e 0 17 15
    if s.tf mxfPage 2 1 c 0 0 0 = 0 || hops = 0 || decide (s.tf mxfPage 2 1 c 0 4 2 < hops) then some 6 else none
  else none

/-- The first failing entry of an MXF commit: entry, table and cause. -/
def State.mxfInvalid (s : State) : Option (Nat × Nat × Nat) :=
  let f (t : Nat) : Option (Nat × Nat × Nat) :=
    (s.mxfShadows t).findSome? fun p => (s.mxfCause t p.1 p.2).map fun c => (p.1, t, c)
  let regs := decide ((s.rd mxfPage Reg.mxfActOn).toNat < (s.rd mxfPage Reg.mxfActOff).toNat) ||
    s.rf mxfPage Reg.mxfZcTmo 15 0 = 0
  (f 0).or ((f 1).or ((f 2).or ((f 3).or (if regs then some (0, 0xF, 7) else none))))

/-- A table's shadows all come into force (R309). -/
def State.tableApply (s : State) (p t : Nat) : State :=
  ((s.tlist p t 0).map (·.1) ++ (s.tlist p t 1).map (·.1)).foldl (fun s e => s.tset p t 0 e (s.tget p t 1 e)) s

/-- The entries of a table whose value in force a commit changes: number, old and new. [DEDUCED, log 50] -/
def State.mxfChanges (s : State) (t : Nat) : List (Nat × List Word × List Word) :=
  (((s.tlist mxfPage t 0).map (·.1) ++ (s.tlist mxfPage t 1).map (·.1)).mergeSort.eraseDups).filterMap fun e =>
    let o := s.tget mxfPage t 0 e
    let n := s.tget mxfPage t 1 e
    if o = n then none else some (e, o, n)

/-- A commit changes an input port (R322, R323). -/
def State.inChange (s : State) (j : Nat) (o n : List Word) : State :=
  s.setMxIn j fun p =>
    let p := if peGain o ≠ peGain n then { p with cnt := 0 } else p
    let p := if peKind o = 0 && peKind n ≠ 0 then { p with g := peGain n } else p
    let p := if peRate o ≠ peRate n then { p with hist := [] } else p
    if peKind o = 2 && (peKind n ≠ 2 || efld o 2 24 0 ≠ efld n 2 24 0 || peCodec o ≠ peCodec n) then
      { p with anchor := none, dec := 0 }
    else p

/-- A commit of the MXF page applies at the boundary at which wale v begins (R331). -/
def State.mxfApply (s : State) (v : Nat) (cut : Bool) : State :=
  let ins := s.mxfChanges 0
  let outs := s.mxfChanges 1
  let oldIn := ins.filterMap fun (j, o, n) => if peBus o ≠ peBus n || peBusEn o ≠ peBusEn n then some (j, o) else none
  let oldOut := outs.filterMap fun (j, o, n) =>
    if peBus o ≠ peBus n || peBusEn o ≠ peBusEn n || efld o 0 7 7 ≠ efld n 0 7 7 || efld o 2 15 0 ≠ efld n 2 15 0 ||
        peGain o ≠ peGain n then some (j, o) else none
  let s := s.setMxf fun m =>
    if cut then { m with fade := none, oldIn := [], oldOut := [] }
    else { m with fade := some v, oldIn := oldIn, oldOut := oldOut }
  let s := ins.foldl (fun s (j, o, n) => s.inChange j o n) s
  let s := outs.foldl (fun s (j, o, n) =>
    s.setMxOut j fun p =>
      let p := if peRate o ≠ peRate n then { p with hist := [], fill := [] } else p
      if peKind o ≠ peKind n || peCodec o ≠ peCodec n then { p with enc := 0, fill := [] } else p) s
  [0, 1, 2, 3].foldl (fun s t => s.tableApply mxfPage t) s

end Sys2Proof.Machine
end

