-- ==== Sys2Proof/Machine/Rate.lean ====
section
/-!
DEFINITION. Video arithmetic: the launch cadence (R42, R43), layers (R385, R386), rate control (R398 to R402), packet
formats of the decoders' input (R412) and the levels of the standards (R389).
-/

namespace Sys2Proof.Machine

/-! ## Cadence -/

/-- Cycle length, launch offsets and RTP step of an FPS code (R42). -/
def cadence (fps : Nat) : Nat × List Nat × Nat :=
  if fps = 0 then (20, [0, 7, 14], 1500) else if fps = 1 then (8, [0], 1800)
  else if fps = 2 then (40, [0, 13, 26], 3000) else (16, [0], 3600)

/-- Pictures in a second. -/
def fpsOf (fps : Nat) : Nat := [60, 50, 30, 25].getD fps 25

/-- launch(F) of R43. -/
def launchOf (fps f : Nat) : Nat :=
  let (l, off, _) := cadence fps
  l * (f / off.length) + off.getD (f % off.length) 0

/-- The frame with launch(F) = w, if there is one. -/
def frameAt (fps w : Nat) : Option Nat :=
  let (l, off, _) := cadence fps
  if off.contains (w % l) then some (off.length * (w / l) + off.idxOf (w % l)) else none

/-- tick(F) of R43. -/
def tickOf (fps f : Nat) : Nat := f * (cadence fps).2.2

/-! ## Layers -/

/-- Spatial layers of a MODE (R385). -/
def spatials (mode : Nat) : Nat := [1, 1, 1, 2, 3, 2, 3].getD mode 1

/-- Temporal layers of a MODE. -/
def temporals (mode : Nat) : Nat := [1, 2, 3, 3, 3, 3, 3].getD mode 1

/-- The temporal layer at a position (R386). -/
def tLayer (mode p : Nat) : Nat :=
  if temporals mode = 1 then 0
  else if temporals mode = 2 then p % 2
  else if p % 4 = 0 then 0 else if p % 4 = 2 then 1 else 2

/-- A length of spatial layer k of S: divided and rounded up to a multiple of 8 (R385). -/
def layerLen (s k x : Nat) : Nat :=
  let n := 2 ^ (s - 1 - k) * 8
  (x + n - 1) / n * 8

/-- CTUs across a length. -/
def ctus (x : Nat) : Nat := (x + 63) / 64

/-- REF_BYTES of R390. -/
def refBytes (depth10 : Bool) (mode w h : Nat) : Nat :=
  let s := spatials mode
  let up (x n : Nat) : Nat := (x + n - 1) / n * n
  ((List.range s).map fun k =>
    let wk := layerLen s k w
    let hk := layerLen s k h
    let pic := up ((up (wk * (if depth10 then 2 else 1)) 64 * hk * 3 + 1) / 2) 4096
    let mv := up ((wk + 15) / 16 * ((hk + 15) / 16) * 8) 4096
    3 * (pic + mv)).sum

/-! ## Rate control -/

/-- WT of R398. -/
def weightOf (key : Bool) (temps t : Nat) : Nat :=
  if key then 64
  else if temps = 1 then 16 else if temps = 2 then [18, 14].getD t 14 else [22, 16, 13].getD t 13

/-- Tn of R398. -/
def nominalBits (rate step : Nat) : Nat := rate * step / 90000

/-- Tp of R398. -/
def targetBits (rate step : Nat) (key : Bool) (temps t : Nat) (full : Int) (hdr floor n : Nat) : Nat :=
  let tw := nominalBits rate step * weightOf key temps t / 16
  let tp := (tw : Int) - full / 8
  let tp := max ((tw : Int) / 4) (min (2 * tw) tp)
  (max tp (hdr + floor * n)).toNat

/-- The first loop of R399. -/
def qpUp (tp qpmax : Nat) : Nat → Nat → Nat → Nat × Nat
  | 0, q, b => (q, b)
  | n + 1, q, b => if tp < b ∧ q < qpmax then qpUp tp qpmax n (q + 1) (b * 8 / 9) else (q, b)

/-- The second loop of R399. -/
def qpDown (tp qpmin : Nat) : Nat → Nat → Nat → Nat
  | 0, q, _ => q
  | n + 1, q, b => if b * 9 / 8 ≤ tp ∧ qpmin < q then qpDown tp qpmin n (q - 1) (b * 9 / 8) else q

/-- The picture QP (R399). -/
def pictureQp (init qpmin qpmax tp : Nat) (r : Option ClassRec) : Nat :=
  match r with
  | none => init
  | some r =>
    let (q, b) := qpUp tp qpmax 64 r.q r.bits
    qpDown tp qpmin 64 q b

/-- cx(j) of R400. -/
def rowCost (r : Option ClassRec) (j : Nat) : Nat :=
  match r with
  | none => 1
  | some r => max 1 (r.rows.getD j 0)

/-- What rate control needs of an entry and a layer: FLOOR, QPMIN, QPMAX, CTUs in a row, rows. -/
structure RcCfg where
  floor : Nat
  qpmin : Nat
  qpmax : Nat
  n : Nat
  rows : Nat
  deriving DecidableEq, Repr

/-- The start of row r (R400). -/
def LayerPic.row (l : LayerPic) (c : RcCfg) (cls : Option ClassRec) : LayerPic :=
  let r := l.rows.length
  let avail : Int := (l.tp : Int) - l.used - c.floor * c.n * (c.rows - r - 1 : Nat)
  let cost := (List.range (c.rows - r)).map fun j => rowCost cls (r + j)
  let plan := avail * rowCost cls r / (max 1 cost.sum : Nat)
  let e := (l.used : Int) - l.hdr - l.plans
  let d := max (-3) (min 6 (16 * e / (max 1 l.tp : Nat)))
  { l with plans := l.plans + plan, rows := l.rows ++ [0],
           qr := (max (c.qpmin : Int) (min c.qpmax ((l.q : Int) + d))).toNat }

/-- One CTU (R401); `at_` is its number in raster order. -/
def LayerPic.ctu (l : LayerPic) (c : RcCfg) (cls : Option ClassRec) (x : CtuCost) (at_ : Nat) : LayerPic :=
  let l := if l.c % c.n = 0 then l.row c cls else l
  let reserve := c.floor * (c.n * c.rows - l.c - 1)
  let keeps (b : Nat) : Bool := decide (l.used + b + reserve ≤ l.tp)
  let (bits, qp, guard, starve) : Nat × Nat × Bool × Bool :=
    if l.starve.isSome then (x.f, if x.intra then c.qpmax else l.qr, false, true)
    else if keeps x.q then (x.q, l.qr, false, false)
    else if keeps x.g then (x.g, c.qpmax, true, false)
    else (x.f, if x.intra then c.qpmax else l.qr, false, true)
  { l with used := l.used + bits, c := l.c + 1,
           rows := l.rows.set (l.rows.length - 1) (l.rows.getLastD 0 + bits),
           starve := if starve && l.starve.isNone then some l.c else l.starve,
           recs := l.recs ++ [(at_, bits, qp, x.intra.toNat + guard.toNat * 2 + starve.toNat * 4)] }

/-- The fullness after a picture (R402). -/
def fullAfter (full : Int) (bits tn : Nat) : Int := max (-(8 * tn)) (min (8 * tn) (full + bits - tn))

/-! ## RTP payload formats (R412; RFC 7798, RFC 6184, the AV1 RTP payload specification) -/

/-- Sized NAL units after each other: 16-bit sizes. -/
def sizedNals : Nat → List Byte → Option (List (List Byte))
  | 0, b => if b = [] then some [] else none
  | n + 1, b =>
    if b = [] then some []
    else
      let k := (b.getD 0 0).toNat * 256 + (b.getD 1 0).toNat
      if b.length < 2 + k ∨ k = 0 then none else (sizedNals n (b.drop (2 + k))).map ((b.drop 2).take k :: ·)

/-- The NAL units so far and the one being put together. -/
abbrev Depay := List (List Byte) × Option (List Byte)

/-- A fragment joins: S and E bits, the NAL header to write and the fragment. -/
def joinFrag (d : Depay) (start stop : Bool) (hdr frag : List Byte) : Option Depay :=
  match start, d.2 with
  | true, none => if stop then none else some (d.1, some (hdr ++ frag))
  | false, some o => if stop then some (d.1 ++ [o ++ frag], none) else some (d.1, some (o ++ frag))
  | _, _ => none

/-- One HEVC payload. -/
def hevcPay (d : Depay) (b : List Byte) : Option Depay :=
  let h0 := (b.getD 0 0).toNat
  let ty := h0 / 2 % 64
  if b.length < 3 then none
  else if ty = 49 then
    let fu := (b.getD 2 0).toNat
    joinFrag d (fu.testBit 7) (fu.testBit 6) [BitVec.ofNat 8 (h0 / 128 * 128 + fu % 64 * 2 + h0 % 2), b.getD 1 0] (b.drop 3)
  else if d.2.isSome then none
  else if ty = 48 then (sizedNals b.length (b.drop 2)).map fun l => (d.1 ++ l, none)
  else if ty < 48 then some (d.1 ++ [b], none)
  else none

/-- One AVC payload. -/
def avcPay (d : Depay) (b : List Byte) : Option Depay :=
  let h0 := (b.getD 0 0).toNat
  let ty := h0 % 32
  if b.length < 2 then none
  else if ty = 28 then
    let fu := (b.getD 1 0).toNat
    joinFrag d (fu.testBit 7) (fu.testBit 6) [BitVec.ofNat 8 (h0 / 32 * 32 + fu % 32)] (b.drop 2)
  else if d.2.isSome then none
  else if ty = 24 then (sizedNals b.length (b.drop 1)).map fun l => (d.1 ++ l, none)
  else if 1 ≤ ty ∧ ty ≤ 23 then some (d.1 ++ [b], none)
  else none

/-- A leb128 number and what follows it. -/
def leb128 : Nat → List Byte → Option (Nat × List Byte)
  | 0, _ => none
  | n + 1, b :: r =>
    if b.toNat < 128 then some (b.toNat, r) else (leb128 n r).map fun (v, t) => (b.toNat % 128 + v * 128, t)
  | _, [] => none

/-- The elements of an aggregation packet; with W not 0 the last has no length. -/
def av1Elems (w : Nat) : Nat → Nat → List Byte → Option (List (List Byte))
  | 0, _, b => if b = [] then some [] else none
  | n + 1, i, b =>
    if b = [] then some []
    else if w ≠ 0 ∧ i + 1 = w then some [b]
    else
      match leb128 8 b with
      | some (k, r) => if r.length < k then none else (av1Elems w n (i + 1) (r.drop k)).map (r.take k :: ·)
      | none => none

/-- One AV1 payload. -/
def av1Pay (d : Depay) (b : List Byte) : Option Depay :=
  let h := (b.getD 0 0).toNat
  match av1Elems (h / 16 % 4) b.length 0 (b.drop 1) with
  | none | some [] => none
  | some es =>
    let es? : Option (List (List Byte)) :=
      match h.testBit 7, d.2 with
      | true, some o => some ((o ++ es.headD []) :: es.drop 1)
      | false, none => some es
      | _, _ => none
    es?.map fun es => if h.testBit 6 then (d.1 ++ es.dropLast, es.getLast?) else (d.1 ++ es, none)

/-- The NAL units or OBUs of a unit, none where a payload violates its format. -/
def depay (codec : Nat) (ps : List (List Byte)) : Option (List (List Byte)) :=
  let f := if codec = 0 then av1Pay else if codec = 1 then hevcPay else avcPay
  match ps.foldl (fun d b => d.bind fun d => f d b) (some (([], none) : Depay)) with
  | some (l, none) => some l
  | _ => none

/-- The type of a NAL unit or OBU. -/
def nalType (codec : Nat) (b : List Byte) : Nat :=
  let h := (b.getD 0 0).toNat
  if codec = 0 then h / 8 % 16 else if codec = 1 then h / 2 % 64 else h % 32

/-- An OBU carries a shown KEY_FRAME. -/
def av1Key (b : List Byte) : Bool :=
  let t := nalType 0 b
  let h := (b.getD 0 0).toNat
  let o := 1 + h / 4 % 2 + h / 2 % 2
  let f := (b.getD o 0).toNat
  (t = 3 || t = 6) && decide (f / 128 = 0) && decide (f / 32 % 4 = 0) && f.testBit 4

/-- A parameter set or sequence header, by its type. -/
def isSet (codec t : Nat) : Bool :=
  if codec = 0 then t = 1 else if codec = 1 then decide (32 ≤ t ∧ t ≤ 34) else decide (t = 7 ∨ t = 8)

/-- The sets that a clean intra point needs (R415). -/
def setsNeeded (codec : Nat) : List Nat := if codec = 0 then [1] else if codec = 1 then [32, 33, 34] else [7, 8]

/-- A unit holds an intra point (R415). -/
def isIntra (codec : Nat) (l : List (List Byte)) : Bool :=
  if codec = 0 then l.any av1Key
  else l.any fun b =>
    let t := nalType codec b
    if codec = 1 then decide (16 ≤ t ∧ t ≤ 21) else t = 5

/-! ## Levels -/

/-- The limits of an AV1 level × 10: luma picture size, sample rate, width and height. -/
def av1Level (level : Nat) : Option (Nat × Nat × Nat × Nat) :=
  ([(20, 147456, 4423680, 2048, 1152), (21, 278784, 8363520, 2816, 1584), (30, 665856, 19975680, 4352, 2448),
    (31, 1065024, 31950720, 5504, 3096), (40, 2359296, 70778880, 6144, 3456), (41, 2359296, 141557760, 6144, 3456),
    (50, 8912896, 267386880, 8192, 4352), (51, 8912896, 534773760, 8192, 4352)] :
      List (Nat × Nat × Nat × Nat × Nat)).lookup level

/-- The limits of an HEVC level × 10: luma picture size and sample rate. -/
def hevcLevel (level : Nat) : Option (Nat × Nat) :=
  ([(10, 36864, 552960), (20, 122880, 3686400), (21, 245760, 7372800), (30, 552960, 16588800), (31, 983040, 33177600),
    (40, 2228224, 66846720), (41, 2228224, 133693440), (50, 8912896, 267386880), (51, 8912896, 534773760)] :
      List (Nat × Nat × Nat)).lookup level

/-- The limits of an AVC level × 10: macroblocks of a picture and in a second. -/
def avcLevel (level : Nat) : Option (Nat × Nat) :=
  ([(10, 99, 1485), (11, 396, 3000), (12, 396, 6000), (13, 396, 11880), (20, 396, 11880), (21, 792, 19800),
    (22, 1620, 20250), (30, 1620, 40500), (31, 3600, 108000), (32, 5120, 216000), (40, 8192, 245760), (41, 8192, 245760),
    (42, 8704, 522240), (50, 22080, 589824), (51, 36864, 983040)] : List (Nat × Nat × Nat)).lookup level

/-- A size and rate keep the limits of a level in its standard (0 AV1, 1 HEVC, 2 AVC). -/
def levelOk (codec level w h fps : Nat) : Bool :=
  if codec = 2 then
    match avcLevel level with
    | none => false
    | some (fs, rate) =>
      let a := (w + 15) / 16
      let b := (h + 15) / 16
      decide (a * b ≤ fs ∧ a * b * fps ≤ rate ∧ a * a ≤ 8 * fs ∧ b * b ≤ 8 * fs)
  else if codec = 1 then
    match hevcLevel level with
    | none => false
    | some (ps, sr) => decide (w * h ≤ ps ∧ w * h * fps ≤ sr ∧ w * w ≤ 8 * ps ∧ h * h ≤ 8 * ps)
  else
    match av1Level level with
    | none => false
    | some (ps, sr, mw, mh) => decide (w * h ≤ ps ∧ w * h * fps ≤ sr ∧ w ≤ mw ∧ h ≤ mh)

/-- A number is a level of the standard up to 5.1 (R383). -/
def isLevel (codec level : Nat) : Bool :=
  if codec = 2 then (avcLevel level).isSome else if codec = 1 then (hevcLevel level).isSome else (av1Level level).isSome

/-- A size is one of R383. -/
def sizeOk (w h : Nat) : Bool := decide (64 ≤ w ∧ w ≤ 4096 ∧ 64 ≤ h ∧ h ≤ 2304 ∧ w % 8 = 0 ∧ h % 8 = 0)

/-- Cause 1 of R389: a size, a level or a rate outside R383, or above the level's limits. [PRESUMED, log 58] -/
def sizeBad (codec level w h fps pixels : Nat) : Bool :=
  !sizeOk w h || decide (pixels < w * h * fpsOf fps) || !levelOk codec level w h (fpsOf fps)

end Sys2Proof.Machine
end

