-- ==== Sys2Proof/Machine/Rve.lean ====
section
/-!
DEFINITION. Reeve: tasks, delay lists, dispatch, the end of tasks, completion records, trace and the image registry
(R111 to R151).
-/

namespace Sys2Proof.Machine

/-- Reeve's own port. -/
def rvePort : Nat := 566

/-- The executor number of no executor. -/
def noExec : Nat := 0x3FF

/-! ## Executors (R111, R113, R127) -/

/-- The KIND of an executor. -/
def execKind (e : Nat) : Nat := if e < 512 then 0 else if e < 528 then 1 else 2

/-- The page of an executor. -/
def execPage (e : Nat) : Nat := if e < 512 then 0x100 + e else 0x300 + (e - 512)

/-- Every executor of a KIND. -/
def execsOf (kind : Nat) : List Nat :=
  if kind = 0 then List.range 512 else if kind = 1 then List.range' 512 16 else List.range' 528 24

/-- The executors a task may name or has the KIND of. -/
def candidates (d : List Word) : List Nat := if dPinned d then [dAffinity d] else execsOf (dKind d)

/-- Executor e is eligible on table 0 and the descriptor alone (R131). -/
def State.eligibleTable (s : State) (d : List Word) (e : Nat) : Bool :=
  s.tf rvePage 0 0 e 0 8 8 = 1 && decide (execKind e = dKind d) && bit (s.tw rvePage 0 0 e 0) (dClass d) &&
    (dKind d ≠ 0 || s.tf rvePage 0 0 e 0 25 16 = dImage d) && (!dPinned d || e = dAffinity d)

/-- R113 allows dispatch to executor e. -/
def State.mayDispatch (s : State) (e : Nat) : Bool :=
  s.ready (execPage e) && !s.fenced (execPage e) && (512 ≤ e || !s.rb (execPage e) Reg.wdsMode 0)

/-- Executor e is eligible for a task (R127). -/
def State.eligible (s : State) (d : List Word) (e : Nat) : Bool := s.eligibleTable d e && s.mayDispatch e

/-- The task in the slot of an executor. -/
def State.slotOf (s : State) (e : Nat) : Option Nat := NMap.get (fun _ => none) s.rve.slot e

/-- The task an executor runs. -/
def State.runOf (s : State) (e : Nat) : Option Nat := NMap.get (fun _ => none) s.rve.run e

/-- An executor's slot filled or emptied. -/
def State.setSlot (s : State) (e : Nat) (t : Option Nat) : State :=
  s.setRve fun r => { r with slot := NMap.set (fun _ => none) r.slot e t }

/-- The task an executor runs set. -/
def State.setRun (s : State) (e : Nat) (t : Option Nat) : State :=
  s.setRve fun r => { r with run := NMap.set (fun _ => none) r.run e t }

/-- An executor runs nothing: it has no task and, for a core, no transfer of an earlier one (R372). -/
def State.execIdle (s : State) (e : Nat) : Bool :=
  (s.runOf e).isNone &&
    (512 ≤ e || (let c := NMap.get (fun _ => WCore.init) s.cores e; decide (c.ph = 0) && !c.fbusy && c.loading.isNone &&
      c.dma.all fun d => !d.2.busy))

/-! ## Trace (R144, R145) -/

/-- A trace record's sixteen bytes. -/
def traceBytes (now wale task exec reason cls detail : Nat) : List Byte :=
  leBytes 4 now ++ leBytes 2 task ++ leBytes 2 exec ++ leBytes 1 reason ++ leBytes 1 cls ++ leBytes 2 detail ++
    leBytes 4 wale

/-- A record is dropped. -/
def State.traceDrop (s : State) : State :=
  (s.bump rvePage .rveTraceLost).setRve fun r => { r with lost := min (r.lost + 1) 0xFFFF }

/-- A scheduling decision is traced. A TRACE_LOST record names no task, no executor and no class: its TASK and CLS are 0 and its
EXEC is 0x3FF. [DEDUCED, log 33] -/
def State.trace (s : State) (task exec reason cls detail : Nat) : State :=
  if s.rb rvePage Reg.rveTrace 12 && s.rb rvePage Reg.rveTrace (16 + reason) then
    let q := s.rf rvePage Reg.rveTrace 11 0
    if !(s.qOn q && s.qCredit rvePort q 16) then s.traceDrop
    else
      let s := if s.rve.lost = 0 then s else
        ((s.colSend rvePort q (traceBytes s.now s.wale 0 noExec 13 0 s.rve.lost)).1).setRve fun r => { r with lost := 0 }
      if !(s.qOn q && s.qCredit rvePort q 16) then s.traceDrop
      else (s.colSend rvePort q (traceBytes s.now s.wale task exec reason cls detail)).1
  else s

/-- CLS of a record. -/
def traceCls (d : List Word) : Nat := dfld d 0 5 0

/-! ## Ready (R120, R123, R131) -/

/-- Fabric clocks of 0.5 ns in one ns of true time (R128). -/
def clocksPerNs : Nat := 2

/-- A task becomes ready, k fabric clocks after the command's instant. [DEDUCED, log 33] -/
def State.becomeReady (s : State) (id k : Nat) : State :=
  let s := s.setTask id fun t => { t with st := 3, readyAt := clocksPerNs * s.clk.tru + k }
  let d := (s.task id).desc
  let s := s.trace id noExec 3 (traceCls d) 0
  if (candidates d).any (s.eligibleTable d) then s else s.raise rvePage .rveNoExec id 0

/-- Tasks on a delay list. -/
def State.dlistCount (s : State) (l : Nat) : Nat :=
  (s.rve.tasks.filter fun (_, t) => decide (t.st = 2 ∧ dList t.desc = l)).length

/-- Tasks of a class that hold a unit of its capacity (R117). -/
def State.classHeld (s : State) (c : Nat) : Nat :=
  (s.rve.tasks.filter fun (_, t) => decide (1 ≤ t.st ∧ t.st ≤ 4 ∧ dClass t.desc = c)).length

/-- A delay list runs in fine mode. -/
def State.dlistFine (s : State) (l : Nat) : Bool := s.raf rvePage (Reg.rveDlistCfg + 4 * l) 31 31 = 1

/-- A task's release key has been reached at instant t of local time (R123, R125). -/
def State.keyReached (s : State) (d : List Word) (t : Nat) : Bool :=
  if s.dlistFine (dList d) && decide (dRelease d = s.wale) then
    decide (s.boundary s.wale64 + dReleaseUs d * 1000 ≤ t)
  else waleLe (dRelease d) s.wale

/-- A released task is ready, or waits on its dependences. -/
def State.released (s : State) (id k : Nat) : State :=
  if (s.task id).dep = 0 then s.becomeReady id k else s.setTask id fun t => { t with st := 1 }

/-- Entries that a delay list has released at this instant: one leaves it in each fabric clock (R124). -/
def State.releasedNow (s : State) (l : Nat) : Nat :=
  match NMap.get (fun _ => (0, 0)) s.rve.rel l with
  | (t, k) => if t = s.clk.tru then k else 0

/-- An entry is taken off its delay list. -/
def State.releaseEntry (s : State) (id : Nat) : State :=
  let s := s.setTask id fun t => { t with st := 1 }
  let d := (s.task id).desc
  let k := s.releasedNow (dList d)
  let s := s.setRve fun r => { r with rel := NMap.set (fun _ => (0, 0)) r.rel (dList d) (s.clk.tru, k + 1) }
  (s.trace id noExec 2 (traceCls d) (s.dlistCount (dList d))).released id k

/-- Key a comes before key b on a list (R123, R124). -/
def keyBefore (a b : List Word) : Bool :=
  waleLt (dRelease a) (dRelease b) || (decide (dRelease a = dRelease b) && decide (dReleaseUs a < dReleaseUs b))

/-- The first entry of a delay list (R124). -/
def State.dlistFirst (s : State) (l : Nat) : Option (Nat × Task) :=
  (s.rve.tasks.filter fun (_, t) => decide (t.st = 2 ∧ dList t.desc = l)).foldl (fun b x =>
    match b with
    | none => some x
    | some y =>
      if keyBefore x.2.desc y.2.desc || (!keyBefore y.2.desc x.2.desc && decide (x.2.seq < y.2.seq)) then some x
      else some y) none

/-! ## Submission (R116 to R119) -/

/-- A descriptor holds no reserved encoding and agrees with itself and with the registry (BAD_DESC of R116). -/
def State.descOk (s : State) (d : List Word) : Bool :=
  decide (dNsucc d ≤ 4) && decide (dReleaseUs d < 2500) && decide (dfld d 3 15 12 = 0) && decide (dfld d 3 31 28 = 0) &&
    decide (dBudget d ≠ 0) && decide (dfld d 6 11 11 = 0) && decide (dKind d ≠ 3) && decide (dfld d 6 15 14 = 0) &&
    decide (dfld d 6 31 26 = 0) &&
    (dReleaseUs d = 0 || (dHasDelay d && s.dlistFine (dList d))) &&
    !(dHasDelay d && dHasDeadline d && waleGe (dRelease d) (dDeadline d)) &&
    (!dPinned d || decide (execKind (dAffinity d) = dKind d ∧ dAffinity d < 552)) &&
    (if dKind d = 0 then decide (s.tf rvePage 1 0 (dImage d) 3 1 0 = 2) else decide (dImage d = 0))

/-- The status of a submission (R116). A successor in state 6 has ended, so a decrement finds it not in flight (R137): it is
invalid. [DEDUCED, log 33] -/
def State.submitStatus (s : State) (d : List Word) : Nat :=
  if !s.descOk d then 5
  else if (dSucc d).any fun t => decide ((s.task t).st = 0 ∨ (s.task t).st = 6 ∨ (s.task t).dep = 0) then 6
  else if dHasDeadline d && waleLe (dDeadline d) s.wale then 4
  else if 65536 ≤ s.rve.tasks.length then 1
  else if s.raf rvePage (Reg.rveClassCap + 4 * dClass d) 16 0 ≤ s.classHeld (dClass d) then 2
  else if dHasDelay d && decide (s.raf rvePage (Reg.rveDlistCfg + 4 * dList d) 16 0 ≤ s.dlistCount (dList d)) then 3
  else 0

/-- The counter of a refusal. -/
def refuseCtr : Nat → Ctr
  | 1 => .rveRefuseNoId
  | 2 => .rveRefuseClass
  | 3 => .rveRefuseDlist
  | 4 => .rveRefuseLate
  | 5 => .rveRefuseBad
  | _ => .rveRefuseSucc

/-- The lowest free task ID (R118). -/
def State.lowestId (s : State) : Nat :=
  ((List.range (s.rve.tasks.length + 1)).find? fun i => decide ((s.task i).st = 0)).getD 0

/-- A submission: the state, the status and the task ID. -/
def State.rveSubmit (s : State) (port : Nat) (d : List Word) : State × Nat × Nat :=
  match s.submitStatus d with
  | 0 =>
    let id := s.lowestId
    let d := setWord d 0 (withFld (d.getD 0 0) 31 24 (s.portOwner port))
    let past := dHasDelay d && s.keyReached d s.now
    let st := if dHasDelay d && !past then 2 else 1
    let s := (s.setRve fun r => { r with seq := r.seq + 1 }).setTask id fun _ =>
      { st := st, desc := d, dep := dDep d, seq := s.rve.seq }
    let s := (s.bump rvePage .rveSubmitted).trace id noExec 0 (traceCls d) port
    let s :=
      if past then
        ((s.bump rvePage .rveDelayPast).trace id noExec 2 (traceCls d) (s.dlistCount (dList d))).released id 0
      else if st = 1 then s.released id 0
      else s
    (s, 0, id)
  | k =>
    (((s.bump rvePage (refuseCtr k)).raise rvePage .rveRefused (port + k * 2 ^ 16) 0).trace port noExec 1 (traceCls d) k,
      k, 0)

/-- A submission is answered: in `RVE_SUBMIT_RES` where it came through registers, else to the agent's port (R115).
[DEDUCED, log 33] -/
def State.submitAnswered (s : State) (port : Nat) (d : List Word) : State :=
  let (s, k, id) := s.rveSubmit port d
  if viaRegs port then
    ((s.wfld rvePage Reg.rveSubmitRes 15 0 id).wfld rvePage Reg.rveSubmitRes 19 16 k).seqUp rvePage Reg.rveSubmitRes
  else s.setRve fun r => { r with ans := NMap.set (fun _ => (0, 0)) r.ans port (k, id) }

/-- A function writes GO. Reeve answers at once but for the time of a page reset, after which it answers; a GO before that is
discarded (R148). [DEDUCED, log 37] -/
def State.submitGo (s : State) (port : Nat) (d : List Word) : State :=
  if !viaRegs port then s.submitAnswered port d
  else if s.rve.going.contains port then s.accessErr rvePage Reg.rveSubmitGo 9 (portSrc port) 1
  else if (s.pg rvePage).rstBusy then s.setRve fun r => { r with going := r.going ++ [port] }
  else s.submitAnswered port d

/-- The page reset of RVE has ended: the functions that wait are answered (R119, R148). -/
def State.submitWaiting (s : State) : State :=
  let ports := sortNat s.rve.going
  ports.foldl (fun s port => s.submitAnswered port ((List.range 16).map fun i => s.rd rvePage (Reg.rveSubmitDesc + 4 * i)))
    (s.setRve fun r => { r with going := [] })

/-! ## Decrements (R121, R122) -/

/-- A decrement of a task from a port. -/
def State.rveDecrement (s : State) (port id : Nat) : State :=
  let t := s.task id
  if t.st = 0 ∨ t.st = 6 then s.bump rvePage .rveDecrUnknown
  else if t.dep = 0 then
    ((s.bump rvePage .rveDepUnderflow).raise rvePage .rveDepUnderflow (id + port * 2 ^ 16) 0).trace id noExec 12
      (traceCls t.desc) port
  else
    let s := s.setTask id fun t => { t with dep := t.dep - 1 }
    if t.dep = 1 ∧ t.st = 1 then s.becomeReady id 0 else s

/-- The response of R369 to a decrement: 0 applied, 1 refused, 2 no task in flight. -/
def State.decrAnswer (s : State) (id : Nat) : Nat :=
  let t := s.task id
  if t.st = 0 ∨ t.st = 6 then 2 else if t.dep = 0 then 1 else 0

/-! ## The end of a task (R134, R137 to R139) -/

/-- The record of R138. -/
def recordBytes (id status : Nat) (value : Word) (wale cycles : Nat) : List Byte :=
  leBytes 2 id ++ leBytes 1 status ++ leBytes 1 0 ++ leBytes 4 value.toNat ++ leBytes 4 wale ++
    leBytes 4 (min cycles 0xFFFFFFFF)

/-- The completion record of a task is written, lost, or kept until credit returns (R139). -/
def State.tryRecord (s : State) (id : Nat) : State :=
  let t := s.task id
  match t.record with
  | none => s.freeTask id
  | some (status, value, wale, cycles) =>
    let q := dCompq t.desc
    if !s.qOn q then (s.bump rvePage .rveCompLost).freeTask id
    else if s.qCredit rvePort q 16 then
      ((s.colSend rvePort q (recordBytes id status value wale cycles)).1).freeTask id
    else s

/-- The counter of an end of a task. -/
def endCtr : Nat → Ctr
  | 0 => .rveCompleted
  | 1 => .rveAbortBudget
  | 2 => .rveAbortDeadline
  | 3 => .rveAbortFence
  | _ => .rveAbortHost

/-- A task ends with a status of R138: it is counted and traced, its successors are decremented from the port of the
executor that held it, in order of their IDs (R145), and its record is written. `exec` is that executor, or 0x3FF; `detail` is the trace's.
[DEDUCED, log 33] -/
def State.rveEnd (s : State) (id exec status : Nat) (value : Word) (cycles detail : Nat) : State :=
  let d := (s.task id).desc
  let s := s.bump rvePage (endCtr status)
  let s := s.setTask id fun t =>
    { t with st := 6, exec := exec,
             record := if dNotify d then some (status, if status = 0 then value else 0, s.wale, cycles) else none }
  let s := s.trace id exec (7 + status) (traceCls d) detail
  let s := (sortNat (dSucc d)).foldl (fun s k => s.rveDecrement (if exec = noExec then rvePort else exec) k) s
  s.tryRecord id

/-- The executor that runs a task or holds it in its slot. -/
def State.heldBy (s : State) (id : Nat) : Nat := if (s.task id).st = 4 ∨ (s.task id).st = 5 then (s.task id).exec else noExec

/-- A task leaves the slot it is in. -/
def State.leaveSlot (s : State) (id : Nat) : State :=
  if (s.task id).st = 4 then s.setSlot (s.task id).exec none else s

/-- A slot task goes back to its ready list (R130, R136). -/
def State.unslot (s : State) (e : Nat) : State :=
  match s.slotOf e with
  | some id => (s.setSlot e none).setTask id fun t => { t with st := 3, exec := noExec }
  | none => s

/-! ## Dispatch (R126 to R130) -/

/-- Task a stands before task b in a ready list (R126). -/
def readyBefore (a b : Nat × Task) : Bool :=
  let da := dHasDeadline a.2.desc
  let db := dHasDeadline b.2.desc
  let ea := dDeadline a.2.desc
  let eb := dDeadline b.2.desc
  if da && !db then true
  else if db && !da then false
  else if da && ea ≠ eb then waleLt ea eb
  else if a.2.readyAt ≠ b.2.readyAt then decide (a.2.readyAt < b.2.readyAt)
  else decide (a.1 < b.1)

/-- A task put into its place of a list in dispatch order. -/
def insertReady (x : Nat × Task) : List (Nat × Task) → List (Nat × Task)
  | [] => [x]
  | y :: r => if readyBefore x y then x :: y :: r else y :: insertReady x r

/-- The ready tasks of a class, in dispatch order. -/
def State.readyList (s : State) (c : Nat) : List (Nat × Task) :=
  (s.rve.tasks.filter fun (_, t) => decide (t.st = 3 ∧ dClass t.desc = c)).foldr insertReady []

/-- The executor with an empty slot that a task goes to: the lowest idle one, else the lowest that runs (R128). A core on which
transfers of an aborted task still run (R372) counts as one that runs. [DEDUCED, log 33] -/
def State.place (s : State) (d : List Word) : Option Nat :=
  let es := (candidates d).filter fun e => s.eligible d e && (s.slotOf e).isNone
  match es.find? fun e => s.execIdle e with
  | some e => some e
  | none => es.head?

/-- The executor whose slot task is displaced for a task (R130). -/
def State.displace (s : State) (d : List Word) : Option Nat :=
  let open_ := (candidates d).filter fun e =>
    s.eligible d e &&
      (match s.slotOf e with
       | none => true
       | some t => decide (dClass d < dClass (s.task t).desc))
  match open_ with
  | [e] =>
    if (s.slotOf e).isSome && !((candidates d).any fun x => s.eligible d x && s.execIdle x) then some e else none
  | _ => none

/-- The first ready task that can be placed, and where. -/
def State.firstPlaced (s : State) : List (Nat × Task) → Option (Nat × Nat)
  | [] => none
  | (id, t) :: r =>
    match s.place t.desc with
    | some e => some (id, e)
    | none =>
      match s.displace t.desc with
      | some e => some (id, e)
      | none => s.firstPlaced r

/-- A task goes into the slot of an executor. The records of a displacement are in order of task ID (R145). -/
def State.intoSlot (s : State) (id e : Nat) : State :=
  let slotted (s : State) : State := s.trace id e 4 (traceCls (s.task id).desc) 0
  match s.slotOf e with
  | some old =>
    let s := (s.unslot e).bump rvePage .rveSlotSwap
    let s := (s.setSlot e (some id)).setTask id fun t => { t with st := 4, exec := e }
    let left (s : State) : State := s.trace old e 5 (traceCls (s.task old).desc) id
    if old < id then slotted (left s) else left (slotted s)
  | none => slotted ((s.setSlot e (some id)).setTask id fun t => { t with st := 4, exec := e })

/-- One dispatch (R128, R130). [DEDUCED, log 33] -/
def State.dispatch (s : State) : State :=
  if s.enabled rvePage && decide (s.raf rvePage Reg.rveCfg 0 0 = 1) then
    match s.firstPlaced ((List.range 8).flatMap fun c => s.readyList c) with
    | some (id, e) => s.intoSlot id e
    | none => s
  else s

/-- The task in an executor's slot starts (R129). -/
def State.startTask (s : State) (e id : Nat) : State :=
  let s := (s.setSlot e none).setRun e (some id)
  let s := s.setTask id fun t => { t with st := 5, exec := e, start := s.clk.tru }
  (s.bump rvePage .rveStarted).trace id e 6 (traceCls (s.task id).desc) 0

/-! ## The image registry (R140, R141) -/

/-- An image is resident in a core or on its way into one. -/
def State.imageResident (s : State) (image : Nat) : Bool :=
  (List.range 512).any fun n =>
    (s.rb (0x100 + n) Reg.wdsStatus 2 && s.rf (0x100 + n) Reg.wdsStatus 25 16 = image) ||
      (NMap.get (fun _ => WCore.init) s.cores n).loading = some image

/-- A task in flight names an image. -/
def State.imageNamed (s : State) (image : Nat) : Bool :=
  s.rve.tasks.any fun (_, t) => decide (dKind t.desc = 0 ∧ dImage t.desc = image)

/-- The DRAM address of an image's code. -/
def State.imageAddr (s : State) (image : Nat) : Nat :=
  (s.tw rvePage 1 0 image 0).toNat + (s.tw rvePage 1 0 image 1).toNat * 2 ^ 32

/-- The code length of an image in bytes. -/
def State.imageLen (s : State) (image : Nat) : Nat := (s.tw rvePage 1 0 image 2).toNat

/-- The effect of a write-back of the registry. -/
def State.wbImage (s : State) (src : Src) (image : Nat) (ws : List Word) : State :=
  let len := (ws.getD 2 0).toNat
  if src ≠ .qz then s.tblRefuse src rvePage 7 ws
  else if s.imageResident image || s.imageNamed image then s.tblRefuse src rvePage 11 ws
  else if (ws.getD 0 0).toNat % 64 ≠ 0 ∨ len = 0 ∨ len % 4 ≠ 0 ∨ 32768 < len then s.tblRefuse src rvePage 7 ws
  else if !s.drcReady then s.tblRefuse src rvePage 11 ws
  else s.tset rvePage 1 0 image [ws.getD 0 0, ws.getD 1 0, ws.getD 2 0, 1]

/-- The index of the first Test-only word of a list. -/
def firstTestOnly : Nat → List Word → Option Nat
  | _, [] => none
  | i, w :: r => if testOnly w then some i else firstTestOnly (i + 1) r

/-- n words of DRAM. -/
def State.dramWords (s : State) (a n : Nat) : List Word :=
  (List.range n).map fun i => BitVec.ofNat 32 (leNat (s.dramBytes (a + 4 * i) 4))

/-! ## The commands -/

/-- The descriptor in `RVE_SUBMIT_DESC`. -/
def State.regDesc (s : State) : List Word := (List.range 16).map fun i => s.rd rvePage (Reg.rveSubmitDesc + 4 * i)

/-- R115, R116, R148. -/
def execTaskSubmit (port : Nat) (desc : List Word) (s : State) : Host.Outcome State Fault Refusal :=
  .next (s.portAccess port rvePage Reg.rveSubmitGo 1 fun s =>
    s.submitGo port (if viaRegs port then s.regDesc else desc))

/-- R121. -/
def execTaskDecrement (port id : Nat) (s : State) : Host.Outcome State Fault Refusal :=
  .next (s.portAccess port rvePage Reg.rveDecr (BitVec.ofNat 32 id) fun s => s.rveDecrement port id)

/-- R123. -/
def execDelayListRelease (list : Nat) (s : State) : Host.Outcome State Fault Refusal :=
  match s.dlistFirst list with
  | none => .next s
  | some (id, t) =>
    .next
      (if s.keyReached t.desc (s.boundary s.wale64) && s.stepDue 6 then (s.atStep 6).releaseEntry id
       else if s.dlistFine list && s.keyReached t.desc s.clk.fine then s.releaseEntry id
       else s)

/-- R128. -/
def execTaskDispatch (s : State) : Host.Outcome State Fault Refusal := .next s.dispatch

/-- R139: a record that waited for credit. -/
def execCompletionRecordWrite (id : Nat) (s : State) : Host.Outcome State Fault Refusal :=
  .next (if (s.task id).st = 6 then s.tryRecord id else s)

/-- R141. -/
def execImageRegistryWrite (src : Src) (image : Nat) (ws : List Word) (s : State) : Host.Outcome State Fault Refusal :=
  .next (s.access src rvePage tblDataOff (ws.getLastD 0) fun s => s.wbImage src image ws)

/-- R140: every word of the code has been decoded. -/
def execImageScanDone (image : Nat) (s : State) : Host.Outcome State Fault Refusal :=
  .next
    (if s.tf rvePage 1 0 image 3 1 0 = 1 then
      match firstTestOnly 0 (s.dramWords (s.imageAddr image) (s.imageLen image / 4)) with
      | some i => (s.tsetF rvePage 1 0 image 3 1 0 3).raise rvePage .rveImageRefused image (4 * i)
      | none => s.tsetF rvePage 1 0 image 3 1 0 2
     else s)

end Sys2Proof.Machine
end

