-- ==== Sys2Proof/Machine/Video.lean ====
section
/-!
DEFINITION. What the video units share: the state of encoders, decoders, pipes and the tile store, the entries of encode
and decode streams (R388, R409), picture slots (R410) and the selection of a source picture (R45, R393).
-/

namespace Sys2Proof.Machine

/-! ## Encoders -/

/-- The page and the port of an encoder. -/
def encPage (n : Nat) : Nat := 0x300 + n
def encPort (n : Nat) : Nat := 512 + n

/-- The state with another VCE. -/
def State.setVce (s : State) (f : VceSt → VceSt) : State := { s with vce := f s.vce }

/-- An encoder. -/
def State.encoder (s : State) (n : Nat) : Encoder := NMap.get (fun _ => Encoder.init) s.vce.enc n

/-- An encoder changed. -/
def State.setEnc (s : State) (n : Nat) (f : Encoder → Encoder) : State :=
  s.setVce fun v => { v with enc := NMap.set (fun _ => Encoder.init) v.enc n (f (s.encoder n)) }

/-- An encode stream. -/
def State.encStream (s : State) (n m : Nat) : EncStream := NMap.get (fun _ => EncStream.init) (s.encoder n).streams m

/-- An encode stream changed. -/
def State.setEncStream (s : State) (n m : Nat) (f : EncStream → EncStream) : State :=
  s.setEnc n fun e => { e with streams := NMap.set (fun _ => EncStream.init) e.streams m (f (s.encStream n m)) }

/-- The entry in force of an encode stream. -/
def State.encEnt (s : State) (n m : Nat) : List Word := s.tget (encPage n) 0 0 m

def eEn (e : List Word) : Bool := efld e 0 0 0 = 1
def eCodec (e : List Word) : Nat := efld e 0 2 1
def eProfile (e : List Word) : Nat := efld e 0 4 3
def eMode (e : List Word) : Nat := efld e 0 7 5
def eFps (e : List Word) : Nat := efld e 0 9 8
def eTile (e : List Word) : Bool := efld e 0 10 10 = 1
def eOutMode (e : List Word) : Nat := efld e 0 11 11
def eClass (e : List Word) : Nat := efld e 0 14 12
def eStat (e : List Word) : Bool := efld e 0 15 15 = 1
def eLevel (e : List Word) : Nat := efld e 0 23 16
def eDepth (e : List Word) : Nat := efld e 0 24 24
def eW (e : List Word) : Nat := efld e 1 12 0
def eH (e : List Word) : Nat := efld e 1 28 16
def eRate (e : List Word) (k : Nat) : Nat := efld e (2 + k) 31 0
def eQpInit (e : List Word) : Nat := efld e 5 5 0
def eQpMin (e : List Word) : Nat := efld e 5 13 8
def eQpMax (e : List Word) : Nat := efld e 5 21 16
def eFloor (e : List Word) : Nat := efld e 5 31 24
def eGop (e : List Word) : Nat := efld e 6 15 0
def eHold (e : List Word) : Nat := efld e 6 31 16
def eSrcKind (e : List Word) : Nat := efld e 7 1 0
def eSrcDec (e : List Word) : Nat := efld e 7 6 2
def eSrcStream (e : List Word) : Nat := efld e 7 15 8
def eSrcPipe (e : List Word) : Nat := efld e 7 17 16
def eScid (e : List Word) : Nat := efld e 8 24 0
def eOutQ (e : List Word) : Nat := efld e 9 11 0
def eStatQ (e : List Word) : Nat := efld e 9 23 12
def eStatPool (e : List Word) : Nat := efld e 9 29 24
def eMaxPkt (e : List Word) : Nat := efld e 10 10 0
def eSlice (e : List Word) : Nat := efld e 10 23 16
def eOwner (e : List Word) : Nat := efld e 10 31 24
def eGrid (e : List Word) : Nat := efld e 11 7 0

/-- Width and height of spatial layer k (R385). -/
def eLayer (e : List Word) (k : Nat) : Nat × Nat :=
  let s := spatials (eMode e)
  (layerLen s k (eW e), layerLen s k (eH e))

/-- CTU columns and rows of spatial layer k. -/
def eGridOf (e : List Word) (k : Nat) : Nat × Nat := (ctus (eLayer e k).1, ctus (eLayer e k).2)

/-- The cycles of an encode task (R392). -/
def encCycles (e : List Word) : Nat :=
  8000 + 4916 * ((List.range (spatials (eMode e))).map fun k => (eGridOf e k).1 * (eGridOf e k).2).sum

/-- A stream's tag (R425). -/
def encTag (n m : Nat) : Nat := 64 * n + m

/-! ## The tile store -/

/-- The state with another Weave. -/
def State.setWve (s : State) (f : WveSt → WveSt) : State := { s with wve := f s.wve }

/-- The picture in the slot of a frame of a stream. -/
def State.tilePic (s : State) (tag f : Nat) : Option TilePic := NMap.get (fun _ => none) s.wve.store (4 * tag + f % 4)

/-- The slot given another picture. -/
def State.putTile (s : State) (tag f : Nat) (t : Option TilePic) : State :=
  s.setWve fun w => { w with store := NMap.set (fun _ => none) w.store (4 * tag + f % 4) t }

/-- The picture of frame f changed, where it is the slot's. -/
def State.setTile (s : State) (tag f : Nat) (g : TilePic → TilePic) : State :=
  match s.tilePic tag f with
  | some t => if t.f = f then s.putTile tag f (some (g t)) else s
  | none => s

/-- CUT in force. -/
def State.wveCut (s : State) : Nat := s.raf 0x330 Reg.wveCfg 3 1

/-- The cut of a picture has come: what arrives of it now is too late (R431). A standby cuts by the record alone (R432). -/
def State.tileLate (s : State) (t : TilePic) : Bool := decide (t.launch + s.wveCut ≤ s.wale64) && !s.following

/-- The encoder tells Weave how the task of a picture ended; after the cut it is too late. -/
def State.tileEnds (s : State) (tag f status : Nat) (refresh : Bool) : State :=
  s.setTile tag f fun t => if s.tileLate t then t else { t with ended := some status, refresh := refresh }

/-! ## Splits (R424) -/

/-- The cuts of a direction: word 1 of a split entry from bit `lo` on. -/
def splitCuts (w : Word) (lo : Nat) : List Nat :=
  ([0, 5, 10].map fun i => fld w (lo + i + 4) (lo + i)).filter (· ≠ 0)

/-- CTU columns and rows of a tile class (R423). -/
def classCtus (c : Nat) : Nat × Nat := [(20, 11), (10, 6), (5, 3), (3, 2)].getD c (0, 0)

/-- The size of a tile class. -/
def classSize (c : Nat) : Nat × Nat := ((classCtus c).1 * 64, (classCtus c).2 * 64)

/-- The cuts of split entry g in force; entry 0 has none. -/
def State.splitOf (s : State) (g : Nat) : List Nat × List Nat :=
  if g = 0 then ([], []) else (splitCuts (s.tw 0x330 1 0 g 1) 0, splitCuts (s.tw 0x330 1 0 g 1) 16)

/-- Lengths between cuts. -/
def pieces (cuts : List Nat) (n : Nat) : List (Nat × Nat) :=
  let ps := 0 :: cuts
  (ps.zip (cuts ++ [n])).map fun (a, b) => (a, b - a)

/-- The pieces of a split in raster order: column, row, width, height in CTUs. -/
def splitPieces (sp : List Nat × List Nat) (n r : Nat) : List (Nat × Nat × Nat × Nat) :=
  (pieces sp.2 r).flatMap fun (y, h) => (pieces sp.1 n).map fun (x, w) => (x, y, w, h)

/-! ## Decoders -/

/-- The page and the port of a decoder. -/
def decPage (n : Nat) : Nat := 0x310 + n
def decPort (n : Nat) : Nat := 528 + n

/-- A decoder. -/
def State.decoder (s : State) (n : Nat) : Decoder := NMap.get (fun _ => Decoder.init) s.vce.dec n

/-- A decode stream. -/
def State.decStream (s : State) (n m : Nat) : DecStream := NMap.get (fun _ => DecStream.init) (s.decoder n).streams m

/-- A decode stream changed. -/
def State.setDec (s : State) (n m : Nat) (f : DecStream → DecStream) : State :=
  let d : Decoder :=
    { s.decoder n with streams := NMap.set (fun _ => DecStream.init) (s.decoder n).streams m (f (s.decStream n m)) }
  s.setVce fun v => { v with dec := NMap.set (fun _ => Decoder.init) v.dec n d }

/-- The entry in force of a decode stream. -/
def State.decEnt (s : State) (n m : Nat) : List Word := s.tget (decPage n) 0 0 m

def dEn (e : List Word) : Bool := efld e 0 0 0 = 1
def dCodec (e : List Word) : Nat := efld e 0 2 1
def dReport (e : List Word) : Bool := efld e 0 3 3 = 1
def dCls (e : List Word) : Nat := efld e 0 6 4
def dLevel (e : List Word) : Nat := efld e 0 15 8
def dNslot (e : List Word) : Nat := efld e 0 21 16
def dDepth (e : List Word) : Nat := efld e 0 22 22
def dFps (e : List Word) : Nat := efld e 0 25 24
def dScid (e : List Word) : Nat := efld e 1 24 0
def dInQ (e : List Word) : Nat := efld e 2 11 0
def dBsPool (e : List Word) : Nat := efld e 2 17 12
def dMaxW (e : List Word) : Nat := efld e 3 12 0
def dMaxH (e : List Word) : Nat := efld e 3 28 16
def dBase (e : List Word) : Nat := efld e 4 31 0 + efld e 5 31 0 * 2 ^ 32

/-- Stride and size of a picture slot for a largest picture (R410). -/
def slotStride (w depth10 : Nat) : Nat := (w * (1 + depth10) + 63) / 64 * 64
def slotBytes (w h depth10 : Nat) : Nat := (slotStride w depth10 * (h + h / 2) + 4095) / 4096 * 4096

/-- Samples of a plane's row as they are stored. -/
def rowBytes (depth10 : Nat) (xs : List Nat) : List Byte :=
  if depth10 = 1 then xs.flatMap fun x => leBytes 2 (x * 64) else xs.map fun x => BitVec.ofNat 8 x

/-- A plane written row by row: `n` samples in each row. -/
def State.putPlane (s : State) (at_ stride depth10 n : Nat) : Nat → List Nat → State
  | 0, _ => s
  | rows + 1, xs =>
    (s.dramPut at_ (rowBytes depth10 (xs.take n))).putPlane (at_ + stride) stride depth10 n rows (xs.drop n)

/-- A picture written into a slot: luma, then interleaved Cb and Cr. -/
def State.putPicture (s : State) (at_ stride maxH depth10 w h : Nat) (luma chroma : List Nat) : State :=
  (s.putPlane at_ stride depth10 w h luma).putPlane (at_ + stride * maxH) stride depth10 w (h / 2) chroma

/-- The newest VALID record whose WALE is w or earlier (R45, R393, R459). -/
def DecStream.newest (d : DecStream) (w : Nat) : Option PubRec :=
  (d.recs.filter fun r => r.valid && waleGe w r.wale).foldl
    (fun b r => match b with | none => some r | some x => if waleGe r.count x.count then some r else some x) none

/-- FROZEN as of the units accepted in wale w or earlier. -/
def DecStream.frozenAsOf (d : DecStream) (w : Nat) : Bool :=
  match d.log.find? fun x => waleGe w x.1 with
  | some x => x.2
  | none => false

/-! ## Pipes -/

/-- The page of a pipe. -/
def pxcPage (q : Nat) : Nat := 0x338 + q

/-- A pipe. -/
def State.pipe (s : State) (q : Nat) : PxcPipe := NMap.get (fun _ => PxcPipe.init) s.pxc.pipes q

/-- A pipe changed. -/
def State.setPipe (s : State) (q : Nat) (f : PxcPipe → PxcPipe) : State :=
  { s with pxc := { pipes := NMap.set (fun _ => PxcPipe.init) s.pxc.pipes q (f (s.pipe q)) } }

/-- Pipe q composes a frame launched at wale l, in progress or about to begin (R473). -/
def State.composes (s : State) (q l : Nat) : Bool :=
  let p := s.pipe q
  if p.launched = some l then (match p.frame with | some f => decide (f.launch = l) | none => false)
  else
    s.ready (pxcPage q) && decide (s.raf (pxcPage q) Reg.pxcCfg 0 0 = 1) &&
      (frameAt (s.raf (pxcPage q) Reg.pxcCfg 2 1) l).isSome && !p.skip

/-- The newest published frame of a pipe. -/
def PxcPipe.newest (p : PxcPipe) : Option PxcRec :=
  (p.recs.filter (·.valid)).foldl
    (fun b r => match b with | none => some r | some x => if waleGe r.count x.count then some r else some x) none

/-- The source of an encode launched at l (R393, R473). -/
def State.encSource (s : State) (e : List Word) (l : Nat) : PicSrc :=
  if eSrcKind e = 0 then
    match (s.decStream (eSrcDec e) (eSrcStream e)).newest ((l + 2 ^ 32 - 2) % 2 ^ 32) with
    | some r => .dec (eSrcDec e) (eSrcStream e) r.count
    | none => .grey
  else if eSrcKind e = 1 then
    let p := s.pipe (eSrcPipe e)
    match (p.recs.find? fun r => r.valid && decide (r.launch = l)).or p.newest with
    | some r => .pxc (eSrcPipe e) r.slot
    | none => .grey
  else .grey

end Sys2Proof.Machine
end

