-- ==== Sys2Proof/Machine/Dec.lean ====
section
/-!
DEFINITION. The video decoders: assembly, submission, the end of a decode, stops, resumption and the validation of decode
streams (R408 to R416).
-/

namespace Sys2Proof.Machine

/-! ## Stops (R414) -/

/-- FROZEN changes with a unit accepted in wale w. [DEDUCED, log 59] -/
def DecStream.freeze (x : DecStream) (w : Nat) (on : Bool) : DecStream :=
  { x with frozen := on, log := ((w, on) :: x.log).take 64 }

/-- A decode stream stops with a cause and a detail, in a unit accepted in wale wa. -/
def State.decStop (s : State) (n m cause detail wa : Nat) : State :=
  let e := s.decEnt n m
  let p := decPage n
  let need := decide (cause < 7)
  let s := s.setDec n m fun x =>
    { (x.freeze wa true) with
      st := if need then 2 else 3, cause := cause, detail := detail % 65536, stopped := s.wale, sets := [], cra := false,
      hold := x.hold.map fun u => { u with intra := false } }
  let s := (s.bump p .vceDecStops).raise p .vceDecStop (m + cause * 2 ^ 8 + detail % 65536 * 2 ^ 16) (dScid e)
  let s := s.pmStop (s.tf 0x030 0 0 (dScid e) 0 31 16)
  if need && dReport e then
    { s with lfw := { s.lfw with needIntra := s.lfw.needIntra ++ [dScid e] } }
  else s

/-! ## Assembly (R412) -/

/-- Bytes from the first one of a number of bytes. -/
def pktFields (b : List Byte) : Nat × Nat × Nat × Bool × List Byte :=
  let nat (i n : Nat) : Nat := leNat ((b.drop i).take n)
  (nat 4 4, nat 8 4, nat 12 4, ((b.getD 18 0).toNat).testBit 0, (b.drop 32).take (nat 16 2))

/-- Every EXT_SEQ from the first packet of an assembly to its M packet is present, each once. -/
def Assembly.whole (a : Assembly) : Bool :=
  match a.pkts with
  | [] => false
  | p :: _ =>
    let base := (p.1 + 2 ^ 31) % 2 ^ 32
    let off := (a.pkts.map fun q => (q.1 + 2 ^ 32 - base) % 2 ^ 32).mergeSort
    off.zipIdx.all fun x => decide (x.1 = off.headD 0 + x.2)

/-- The payloads of an assembly in the order of EXT_SEQ. -/
def Assembly.payloads (a : Assembly) : List (List Byte) :=
  match a.pkts with
  | [] => []
  | p :: _ =>
    let base := (p.1 + 2 ^ 31) % 2 ^ 32
    ((a.pkts.map fun q => ((q.1 + 2 ^ 32 - base) % 2 ^ 32, q.2.2.1)).mergeSort (fun x y => decide (x.1 ≤ y.1))).map (·.2)

/-- A unit of a stream that is NEED_INTRA or STOPPED is discarded. -/
def State.decDiscard (s : State) (n : Nat) : State := s.bump (decPage n) .vceDecDiscard

/-- A unit fails while it is being assembled: a stream that decodes stops, another discards it. -/
def State.decFail (s : State) (n m cause wa : Nat) : State :=
  if (s.decStream n m).st = 1 then s.decStop n m cause 0 wa else s.decDiscard n

/-- A clean intra point of a stream waits to be decoded. -/
def DecStream.resuming (x : DecStream) : Bool := x.hold.any (·.intra) || (match x.flight with | some u => u.intra | none => false)

/-- RASL pictures are discarded for now: a CRA has resumed the stream or is about to. -/
def DecStream.rasl (x : DecStream) : Bool :=
  x.cra || (x.hold ++ x.flight.toList).any fun u => u.intra && u.cra

/-- A complete unit gets its bitstream buffer (R412, R414). -/
def State.decBuffer (s : State) (n m : Nat) (bs : List Byte) (u : DecUnit) : State :=
  let e := s.decEnt n m
  let port := decPort n
  let own := !(decide (s.poolState (dBsPool e) = 2) && (s.lowestFree (dBsPool e)).isSome &&
    decide (bs.length ≤ s.bufSize (dBsPool e * 2 ^ 26)))
  match s.refusal 5 (beBytes 1 n ++ beBytes 1 m ++ beBytes 2 0 ++ beBytes 4 u.wa) 11 own with
  | (s, true) => (if own then (s.crlAlloc port (dBsPool e)).1 else s).decStop n m 6 0 u.wa
  | (s, false) =>
    match s.crlAlloc port (dBsPool e) with
    | (s, some h) =>
      (s.bufPut h 0 bs).setDec n m fun x => { x with hold := x.hold ++ [{ u with handle := h, bytes := bs.length }] }
    | (s, none) => s.decStop n m 6 0 u.wa

/-- A complete unit: discarded, or kept for submission. [DEDUCED, log 59] -/
def State.decUnit (s : State) (n m : Nat) (a : Assembly) (wa : Nat) : State :=
  let e := s.decEnt n m
  let c := dCodec e
  match depay c a.payloads with
  | none => s.decFail n m 2 wa
  | some nals =>
    let types := nals.map (nalType c)
    let s := s.setDec n m fun x => { x with sets := (x.sets ++ types.filter (isSet c)).eraseDups }
    let x := s.decStream n m
    let intra := isIntra c nals
    let clean := intra && (setsNeeded c).all fun t => (if c = 0 then types else x.sets).contains t
    if x.st ≠ 1 && !(x.st = 2 && (clean || x.resuming)) then s.decDiscard n
    else if c = 1 && x.rasl && !intra && types.any fun t => decide (t = 8 ∨ t = 9) then s
    else
      let s := if intra then s.setDec n m fun x => { x with cra := false } else s
      s.decBuffer n m nals.flatten
        { handle := 0, bytes := 0, wa := wa, ts := a.ts, intra := clean && x.st = 2, cra := c = 1 && types.contains 21 }

/-- One packet at the assembler. [DEDUCED, log 59] -/
def State.decPacket (s : State) (n m : Nat) (b : List Byte) : State :=
  let (ext, wale, ts, mark, pay) := pktFields b
  let x := s.decStream n m
  let late := x.asm.isNone && decide (x.lastTs = some ts)
  if late then s
  else
    let s :=
      match x.asm with
      | some a => if a.ts = ts then s else (s.setDec n m fun x => { x with asm := none, lastTs := some a.ts }).decFail n m 1 wale
      | none => s
    let a := ((s.decStream n m).asm).getD { ts := ts, pkts := [] }
    let a := { a with pkts := a.pkts ++ [(ext, mark, pay, wale)] }
    if mark then
      let s := s.setDec n m fun x => { x with asm := none, lastTs := some ts }
      if a.whole then s.decUnit n m a wale else s.decFail n m 1 wale
    else s.setDec n m fun x => { x with asm := some a }

/-- R412. With RUN = 0 the assembler discards its input (R419). -/
def execDecPacketAssemble (dec stream : Nat) (s : State) : Host.Outcome State Fault Refusal :=
  let e := s.decEnt dec stream
  .next
    (if s.ready (decPage dec) && dEn e then
      match s.colTake (decPort dec) (dInQ e) with
      | (s, none) => s
      | (s, some b) =>
        if s.raf (decPage dec) Reg.vceDecCfg 0 0 = 1 then s.decPacket dec stream b
        else s.setDec dec stream fun x => { x with asm := none }
     else s)

/-! ## Submission (R413) -/

/-- The cycles of a decode task (R392). -/
def decCycles (c bytes : Nat) : Nat := 6000 + 3277 * c + (bytes + 3) / 4

/-- The descriptor of a unit's task. -/
def decDesc (e : List Word) (n m : Nat) (u : DecUnit) : List Word :=
  let w (x : Nat) : Word := BitVec.ofNat 32 x
  [w (dCls e + 2 ^ 7), w (u.wa + 2), 0, 0, 2, w (decCycles u.ctus u.bytes + 1024), w (decPort n + 2 ^ 10 + 2 * 2 ^ 12), 0, 0,
   w m, w u.handle, w u.wa, 0, 0, 0, 0]

/-- A unit is abandoned or refused: it is discarded (R49, R413). -/
def State.decLate (s : State) (n m : Nat) (u : DecUnit) : State :=
  ((s.crlFree (decPort n) u.handle).bump (decPage n) .vceDecLate).raise (decPage n) .vceDecLate m u.wa

/-- R413. -/
def execDecUnitSubmit (dec stream ctus : Nat) (s : State) : Host.Outcome State Fault Refusal :=
  let x := s.decStream dec stream
  match x.flight, x.hold with
  | none, u :: r =>
    .next
      (if s.ready (decPage dec) && decide (s.raf (decPage dec) Reg.vceDecCfg 0 0 = 1) then
        let s := s.setDec dec stream fun x => { x with hold := r }
        if x.st ≠ 1 && !u.intra then (s.crlFree (decPort dec) u.handle).decDiscard dec
        else
          let u := { u with ctus := ctus }
          match s.rveSubmit (decPort dec) (decDesc (s.decEnt dec stream) dec stream u) with
          | (s, 0, _) => s.setDec dec stream fun x => { x with flight := some u }
          | (s, _, _) => s.decLate dec stream u
       else s)
  | _, _ => .next s

/-- Held units whose deadline is the wale of this boundary are abandoned in step 3 of R47 (R413). -/
def State.decHeldLate (s : State) (n m : Nat) : State :=
  let due (u : DecUnit) : Bool := waleGe s.wale ((u.wa + 2) % 2 ^ 32)
  let us := (s.decStream n m).hold.filter due
  if us = [] then s
  else
    us.foldl (fun s u => (s.decLate n m u).layItem 2 n m u.wa)
      (s.setDec n m fun x => { x with hold := x.hold.filter fun u => !due u })

/-- The task of a unit is aborted (R49, R134); with status 2 at its deadline. -/
def State.decAbort (s : State) (n m status : Nat) : State :=
  match (s.decStream n m).flight with
  | none => s
  | some u =>
    let s := s.setDec n m fun x => { x with flight := none }
    if status = 2 then (s.decLate n m u).layItem 2 n m u.wa else s.crlFree (decPort n) u.handle

/-! ## The end of a decode (R414 to R416) -/

/-- The lowest slot that nothing holds (R411). -/
def DecStream.freeSlot (x : DecStream) (nslot : Nat) : Option Nat :=
  let held := (x.recs.filter (·.valid)).map (·.slot) ++ x.dpb.map (·.slot)
  (List.range nslot).find? fun i => !held.contains i

/-- A picture is published under wale wa. -/
def DecStream.publish (x : DecStream) (wa : Nat) (q : DpbPic) : DecStream :=
  let r : PubRec := { slot := q.slot, valid := true, damaged := x.damaged, w8 := q.w8, h8 := q.h8, wale := wa, ts := q.ts,
                      count := (x.count + 1) % 2 ^ 32 }
  { x with recs := x.recs.set x.next r, next := (x.next + 1) % 4, count := (x.count + 1) % 2 ^ 32, damaged := false }

/-- A decoded picture takes its slot and leaves what it outputs published. -/
def State.decPicture (s : State) (n m : Nat) (u : DecUnit) (p : DecPic) : State :=
  let e := s.decEnt n m
  let page := decPage n
  let x := s.decStream n m
  let resume := decide (x.st ≠ 1)
  let x := if resume then
      { (x.freeze u.wa false) with st := 1, dpb := [], damaged := true, cra := u.cra } else x
  match x.freeSlot (dNslot e) with
  | none => s.decStop n m 8 0 u.wa
  | some slot =>
    let q : DpbPic := ⟨slot, p.w / 8, p.h / 8, u.ts⟩
    let at_ := dBase e + slot * slotBytes (dMaxW e) (dMaxH e) (dDepth e)
    let s := s.putPicture at_ (slotStride (dMaxW e) (dDepth e)) (dMaxH e) (dDepth e) p.w p.h p.luma p.chroma
    let all := x.dpb ++ [q]
    let outs := p.outs.filterMap fun ts => all.find? fun d => d.ts = ts
    let x := outs.foldl (fun x d => x.publish u.wa d) x
    let x := { x with dpb := all.filter fun d => !p.drop.contains d.ts && (p.keep || d.slot ≠ slot) }
    let s := s.setDec n m fun _ => x
    let s := (s.bumpN page .vceDecPictures outs.length).bumpN page .vceDecBytes u.bytes
    if resume then s.raise page .vceDecResume m u.wa else s

/-- The end of a decode: the bitstream's poison and the picture's size come before what the standard's decoder found.
[DEDUCED, log 59] -/
def State.decEnd (s : State) (n m : Nat) (u : DecUnit) (r : DecResult) : State :=
  let e := s.decEnt n m
  if (s.decStream n m).st ≠ 1 ∧ !u.intra then s.decDiscard n
  else if s.bufPoisoned u.handle 0 u.bytes then (s.diverge 4 11).decStop n m 5 0 u.wa
  else
    match r with
    | .stop c d => (if c = 5 then s.diverge 4 11 else s).decStop n m c d u.wa
    | .pic p =>
      if dMaxW e < p.w ∨ dMaxH e < p.h then s.decStop n m 8 0 u.wa else s.decPicture n m u p

/-- A result is one of this unit: C of R392 is the CTUs of the picture decoded. -/
def DecUnit.fits (u : DecUnit) (r : DecResult) : Bool :=
  match r with
  | .stop _ _ => true
  | .pic p => decide (Sys2Proof.Machine.ctus p.w * Sys2Proof.Machine.ctus p.h = u.ctus)

/-- A standby keeps what the stream is before the end of a unit, should the active have abandoned it (R610). -/
def State.decSave (s : State) (n m : Nat) (u : DecUnit) : State :=
  if s.following then
    let d := s.decoder n
    let d := { d with undo := NMap.set (fun _ => none) d.undo m (some (u.wa, s.decStream n m)) }
    s.setVce fun v => { v with dec := NMap.set (fun _ => Decoder.init) v.dec n d }
  else s

/-- The active abandoned a unit that this standby does not hold: where it is the last one decoded, the stream is as before it
(R49, R610). -/
def State.decUndo (s : State) (n m wa : Nat) : State :=
  match NMap.get (fun _ => none) (s.decoder n).undo m with
  | some (w, y) =>
    if w = wa then
      ((s.setDec n m fun x =>
        { y with asm := x.asm, lastTs := x.lastTs, hold := x.hold, flight := x.flight, sets := x.sets }).bump (decPage n)
          .vceDecLate).raise (decPage n) .vceDecLate m wa
    else s
  | none => s

/-! ## Restart (R415) -/

/-- R415: the assembler's units are dropped, the picture buffer is emptied and the records lose VALID. [DEDUCED, log 59] -/
def State.decRestart (s : State) (n m : Nat) : State :=
  let x := s.decStream n m
  let s := x.hold.foldl (fun s u => s.crlFree (decPort n) u.handle) s
  s.setDec n m fun x =>
    { (x.freeze s.wale true) with
      st := 2, hold := [], dpb := [], recs := x.recs.map (fun r => { r with valid := false }), sets := [], cra := false,
      flight := x.flight.map fun u => { u with intra := false } }

/-- R415. -/
def execDecRestart (src : Src) (dec stream : Nat) (s : State) : Host.Outcome State Fault Refusal :=
  .next (s.access src (decPage dec) Reg.vceDecRestart (BitVec.ofNat 32 (stream + 256)) fun s =>
    if dEn (s.decEnt dec stream) then s.decRestart dec stream else s)

/-! ## Commits (R410) -/

/-- Cycles per second of a decode stream, but for its bitstream bytes. -/
def decLoadOf (e : List Word) : Nat :=
  if dEn e then fpsOf (dFps e) * (6000 + 3277 * (ctus (dMaxW e) * ctus (dMaxH e))) else 0

/-- Another enabled entry names the same SCID or queue. -/
def decTwin (es : List (Nat × List Word)) (m : Nat) (e : List Word) : Bool :=
  es.any fun (k, o) => decide (k < m) && dEn o && decide (dScid o = dScid e ∨ dInQ o = dInQ e)

/-- The first failing entry of a decoder's shadows and its cause. -/
def State.decInvalid (s : State) (n : Nat) : Option (Nat × Nat) :=
  let es := ((List.range 256).map fun m => (m, s.tget (decPage n) 0 1 m)).filter fun x => dEn x.2
  let sums := (es.foldl (fun (acc : List Nat × Nat) x => (acc.1 ++ [acc.2 + decLoadOf x.2], acc.2 + decLoadOf x.2)) ([], 0)).1
  (es.zip sums).findSome? fun ((m, e), sum) =>
    if !sizeOk (dMaxW e) (dMaxH e) || (decide (dCodec e ≠ 3) && !isLevel (dCodec e) (dLevel e)) then some (m, 1)
    else if decTwin es m e then some (m, 2)
    else if 1125000000 < sum then some (m, 4)
    else if dCodec e = 3 || !decide (8 ≤ dNslot e ∧ dNslot e ≤ 32) || efld e 4 11 0 ≠ 0 then some (m, 5)
    else none

/-- The shadows of a decoder come into force. A stream that is enabled waits for an intra point; one that is disabled
gives back its buffers. -/
def State.decApply (s : State) (n : Nat) : State :=
  let p := decPage n
  let s := (List.range 256).foldl (fun s m =>
    let o := dEn (s.tget p 0 0 m)
    let e := dEn (s.tget p 0 1 m)
    if o = e then s
    else
      let s := (s.decStream n m).hold.foldl (fun s u => s.crlFree (decPort n) u.handle) s
      s.setDec n m fun x => { DecStream.init with st := if e then 2 else 0, flight := x.flight }) s
  let s := s.tableApply p 0
  s.wr p Reg.vceDecLoad (BitVec.ofNat 32 ((List.range 256).map fun m => decLoadOf (s.decEnt n m)).sum)

/-! ## Table 1 of a decoder page (R411, R420) -/

/-- A publication record's words. -/
def PubRec.words (r : PubRec) : List Word :=
  let w (x : Nat) : Word := BitVec.ofNat 32 x
  [w (r.slot + r.valid.toNat * 2 ^ 5 + r.damaged.toNat * 2 ^ 6 + r.w8 % 256 * 2 ^ 8 + r.h8 * 2 ^ 16), w r.wale, w r.ts,
   w r.count]

/-- The words of a decode stream in table 1. -/
def State.decTable (s : State) (n m : Nat) : List Word :=
  let w (x : Nat) : Word := BitVec.ofNat 32 x
  let x := s.decStream n m
  [w (x.st + x.frozen.toNat * 4 + x.cause * 2 ^ 8 + x.detail * 2 ^ 16), w x.stopped, 0, 0] ++ x.recs.flatMap PubRec.words

end Sys2Proof.Machine
end

