-- ==== Sys2Proof/Machine/Framer.lean ====
section
/-!
DEFINITION. Pointer interpretation, trace messages and tributary framing of a received line (R516 to R518, R522; ITU-T
G.704, G.706, G.707).
-/

namespace Sys2Proof.Machine

/-- A value and how often it came in a row. -/
def again (r : Nat × Nat) (v : Nat) : Nat × Nat := if r.2 ≠ 0 && r.1 = v then (v, r.2 + 1) else (v, 1)

/-! ## Pointers (R517) -/

/-- How many of the bits `ps` of two numbers differ. -/
def diffs (a b : Nat) (ps : List Nat) : Nat := (ps.filter fun i => a.testBit i != b.testBit i).length

/-- The effects of a pointer indication that are counted. -/
structure PtrEv where
  inc : Bool := false
  dec : Bool := false
  ndf : Bool := false
  deriving DecidableEq, Repr

/-- Three equal valid pointers in a row, or NDF with a valid one, give NORM again. -/
def Ptr.norm (v : Nat) : Ptr := { ptr := v }

/-- One indication of a pointer word, H1 and H2 or V1 and V2, with range 0 to `top`. [PRESUMED, log 51; DEDUCED, log 52] -/
def Ptr.step (p : Ptr) (top w : Nat) : Ptr × PtrEv :=
  let v := w % 1024
  let nd := w / 4096
  let valid := decide (v ≤ top)
  let ais := decide (w % 65536 = 65535)
  let ndf := !ais && decide (diffs nd 9 [0, 1, 2, 3] ≤ 1)
  let normal := !ais && decide (diffs nd 6 [0, 1, 2, 3] ≤ 1)
  let iBits := decide (3 ≤ diffs v p.ptr [9, 7, 5, 3, 1])
  let dBits := decide (3 ≤ diffs v p.ptr [8, 6, 4, 2, 0])
  let adj := p.st = 0 && normal && v ≠ p.ptr && decide (2 ≤ p.since)
  let inc := adj && iBits && !dBits
  let dec := adj && dBits && !iBits
  let fresh := normal && valid && !inc && !dec && (p.st ≠ 0 || v ≠ p.ptr)
  let inv := !ais && !ndf && !fresh && !inc && !dec && !(p.st = 0 && normal && v = p.ptr)
  let run := if fresh then again (p.val, p.run) v else (0, 0)
  let q : Ptr :=
    { p with inv := if inv then p.inv + 1 else 0, ndf := if ndf then p.ndf + 1 else 0, ais := if ais then p.ais + 1 else 0,
             val := run.1, run := run.2, since := p.since + 1 }
  if 3 ≤ q.ais && p.st ≠ 2 then ({ st := 2, ptr := p.ptr }, {})
  else if p.st = 0 then
    if 8 ≤ q.inv || 8 ≤ q.ndf then ({ st := 1, ptr := p.ptr }, {})
    else if ndf && valid then ({ q with ptr := v }, { ndf := true })
    else if 3 ≤ q.run then ({ q with ptr := v, run := 0 }, {})
    else if inc then ({ q with ptr := (p.ptr + 1) % (top + 1), since := 0 }, { inc := true })
    else if dec then ({ q with ptr := (p.ptr + top) % (top + 1), since := 0 }, { dec := true })
    else (q, {})
  else if ndf && valid then (Ptr.norm v, { ndf := true })
  else if 3 ≤ q.run then (Ptr.norm v, {})
  else if p.st = 2 && 8 ≤ q.inv then ({ st := 1, ptr := p.ptr }, {})
  else (q, {})

/-! ## CRCs over bits -/

/-- One bit through a CRC of width w with polynomial `poly`. -/
def crcBitN (w poly r : Nat) (b : Bool) : Nat :=
  let top := r.testBit (w - 1) != b
  let r := r * 2 % 2 ^ w
  if top then r ^^^ poly else r

/-- A byte's bits, first the most significant. -/
def byteBits (b : Byte) : List Bool := (List.range 8).map fun i => b.getLsbD (7 - i)

/-- CRC-7 of a trace, its first byte taken as 1000 0000 (G.707). [PRESUMED, log 51] -/
def traceCrc (t : List Byte) : Nat :=
  (((0x80 : Byte) :: t.drop 1).flatMap byteBits).foldl (crcBitN 7 0x09) 0

/-- The J0 byte of a frame: a complete 16-byte trace whose first byte carries its CRC-7 is a reception; three identical
ones are accepted (R516). -/
def LinePort.j0Step (l : LinePort) (b : Byte) : LinePort :=
  let t := if b.getLsbD 7 then [b] else if l.j0 = [] then [] else l.j0 ++ [b]
  if t.length = 16 then
    let l := { l with j0 := [] }
    if (t.getD 0 0).toNat % 128 = traceCrc t then
      let n := if l.j0Last = t then l.j0Run + 1 else 1
      { l with j0Last := t, j0Run := n, j0Acc := if 3 ≤ n then some t else l.j0Acc }
    else { l with j0Run := 0 }
  else { l with j0 := t }

/-! ## E1 (R522) -/

/-- FAS. -/
def isFas (b : Byte) : Bool := decide (b.toNat % 128 = 0x1B)

/-- The framer loses alignment. -/
def Framer.lose (f : Framer) : Framer := { rai := f.rai, dl := f.dl }

/-- The search for E1 alignment: FAS, bit 2 of the next frame, FAS. -/
def Framer.huntE1 (f : Framer) (b : Byte) : Framer :=
  let s :=
    if f.step = 0 then (if isFas b then 1 else 0)
    else if f.step = 1 then (if b.getLsbD 6 then 2 else 0)
    else if isFas b then 3 else 0
  if s = 3 then { f with inF := true, step := 0, idx := 1, fasBad := 0, fbits := [], age := 0, mfAt := none,
                         crcOn := false, miss := false, crc := 0, prev := none, cbits := [] }
  else { f with step := s }

/-- The frame's bits as CRC-4 sees them: the C bit counts as 0. [PRESUMED, log 51] -/
def e1Bits (fas : Bool) (frame : List Byte) : List Bool :=
  match frame.flatMap byteBits with
  | b :: r => (if fas then false else b) :: r
  | [] => []

/-- The multiframe search of CRC-4: two multiframe alignment signals 16 frames apart, within 64 frames (8 ms). -/
def Framer.mfE1 (f : Framer) (fas : Bool) (b : Byte) : Framer :=
  if f.crcOn || f.miss then f
  else
    let age := f.age + 1
    let fb := if fas then f.fbits else (b.getLsbD 7 :: f.fbits).take 6
    let at_ := f.mfAt.map (· + 1)
    let found := !fas && fb = [true, true, false, true, false, false]
    if found && at_ = some 16 then { f with crcOn := true, idx := 12, fbits := [], age := age, crc := 0, prev := none, cbits := [] }
    else if 64 ≤ age then { f with miss := true, age := age, fbits := fb }
    else if found && at_.all (16 < ·) then { f with mfAt := some 0, age := age, fbits := fb }
    else { f with mfAt := at_, age := age, fbits := fb }

/-- A frame of an aligned E1, `fas` telling which frames carry FAS: the new framer and, where a CRC-4 block ends, whether it
is errored. -/
def Framer.alignedE1 (f : Framer) (crc4 : Bool) (frame : List Byte) : Framer × Option Bool :=
  let b := frame.getD 0 0
  let fas := f.idx % 2 = 0
  let bad := if fas then (if isFas b then 0 else f.fasBad + 1) else f.fasBad
  if 3 ≤ bad then (f.lose, none)
  else
    let f := { f with fasBad := bad }
    if !crc4 then ({ f with idx := (f.idx + 1) % 2 }, none)
    else if f.crcOn then
      let crc := (e1Bits fas frame).foldl (crcBitN 4 0x3) (if f.idx % 8 = 0 then 0 else f.crc)
      let cb := if f.idx % 8 = 0 then [b.getLsbD 7] else if fas then f.cbits ++ [b.getLsbD 7] else f.cbits
      let f := { f with crc := crc, cbits := cb }
      if f.idx % 8 = 7 then
        let got := cb.foldl (fun n x => n * 2 + x.toNat) 0
        let whole := cb.length = 4
        let err := if whole then f.prev.map fun p => decide (p ≠ got) else none
        let n := f.blocks + err.isSome.toNat
        let e := f.blocksBad + (err.getD false).toNat
        if n = 1000 && 915 ≤ e then (f.lose, err)
        else
          ({ f with prev := if whole then some crc else none, idx := (f.idx + 1) % 16, blocks := if n = 1000 then 0 else n,
                    blocksBad := if n = 1000 then 0 else e }, err)
      else ({ f with idx := (f.idx + 1) % 16 }, none)
    else
      let g := f.mfE1 fas b
      (if g.crcOn then g else { g with idx := (f.idx + 1) % 2 }, none)

/-- One E1 frame. [DEDUCED, log 52] -/
def Framer.stepE1 (f : Framer) (crc4 : Bool) (frame : List Byte) : Framer × Option Bool :=
  let b := frame.getD 0 0
  let (g, r) := if f.inF then f.alignedE1 crc4 frame else (f.huntE1 b, none)
  let nfas := f.inF && f.idx % 2 = 1
  (if nfas then { g with rai := if b.getLsbD 5 then f.rai + 1 else 0 } else g, r)

/-! ## T1 (R522) -/

/-- Framing bits newest first, every n-th of them from i on. -/
def everyNth (l : List Bool) (i n k : Nat) : List Bool := (List.range k).map fun j => l.getD (i + n * j) false

/-- FPS of the extended superframe, from its last bit back. -/
def fpsBack : List Bool := [true, true, false, true, false, false]

/-- Fs of the superframe, from its last bit back. -/
def fsBack : List Bool := [false, true, true, true, false, false]

/-- The last framing bit ends an aligned multiframe: FPS over two of them, or Ft over three and Fs. -/
def t1Found (esf : Bool) (l : List Bool) : Bool :=
  if esf then decide (48 ≤ l.length) && everyNth l 0 4 12 = fpsBack ++ fpsBack
  else decide (36 ≤ l.length) && everyNth l 1 2 18 = (List.range 18).map (fun j => decide (j % 2 = 1)) &&
    everyNth l 0 2 6 = fsBack

/-- The framing bit of frame i (from 1) is checked: the value it must have. -/
def t1Expect (esf : Bool) (i : Nat) : Option Bool :=
  if esf then (if i % 4 = 0 then some (fpsBack.getD (6 - i / 4) false) else none)
  else if i % 2 = 1 then some (decide (i % 4 = 1)) else none

/-- The frame's bits as CRC-6 sees them: framing bits count as 1. [PRESUMED, log 51] -/
def t1Bits (frame : List Byte) : List Bool := true :: (frame.drop 1).flatMap byteBits

/-- The yellow alarm in a frame: bit 2 of every time slot 0 in SF, the pattern of eight ones and eight zeros in the data
link of ESF. -/
def yellow (esf : Bool) (dl : List Bool) (frame : List Byte) : Bool :=
  if esf then decide (dl.length = 16) && (List.range 16).any fun r =>
      (List.range 16).all fun i => dl.getD i false = decide ((i + r) % 16 < 8)
  else (frame.drop 1).all fun b => !b.getLsbD 6

/-- One T1 frame: the new framer and, where an ESF superframe ends, whether it is errored. [DEDUCED, log 52] -/
def Framer.stepT1 (f : Framer) (esf : Bool) (frame : List Byte) : Framer × Option Bool :=
  let b := (frame.getD 0 0).getLsbD 0
  let fb := (b :: f.fbits).take 48
  let n := if esf then 24 else 12
  if !f.inF then
    if t1Found esf fb then ({ inF := true, idx := 0, fbits := fb, rai := f.rai }, none)
    else ({ f with fbits := fb }, none)
  else
    let i := f.idx + 1
    let bad := match t1Expect esf i with
      | some v => (decide (v ≠ b) :: f.bad).take 4
      | none => f.bad
    if 2 ≤ (bad.filter id).length then ({ f.lose with fbits := fb }, none)
    else
      let dl := if esf && i % 2 = 1 then (b :: f.dl).take 16 else f.dl
      let rai := if yellow esf dl frame then f.rai + 1 else 0
      let crc := (t1Bits frame).foldl (crcBitN 6 0x03) (if i = 1 then 0 else f.crc)
      let cb := if i = 1 then [] else if i % 4 = 2 then f.cbits ++ [b] else f.cbits
      let g : Framer := { f with idx := if i = n then 0 else i, fbits := fb, bad := bad, dl := dl, rai := rai, crc := crc, cbits := cb }
      if esf && i = n then
        let got := cb.foldl (fun n x => n * 2 + x.toNat) 0
        ({ g with prev := some crc }, some (f.prev.any (· ≠ got)))
      else (g, none)

/-- The 512-bit periods of the AIS detector: bits, zeros, and AIS after each whole period (R522). -/
def aisStep (bits : List Bool) (p : Nat × Nat) (ais : Bool) : (Nat × Nat) × Bool :=
  bits.foldl (fun (q : (Nat × Nat) × Bool) b =>
    let n := q.1.1 + 1
    let z := q.1.2 + (!b).toNat
    if n = 512 then ((0, 0), decide (z < 3)) else ((n, z), q.2)) (p, ais)

end Sys2Proof.Machine
end

