-- ==== Sys2Proof/Machine/Lnu.lean ====
section
/-!
DEFINITION. LNU: the line framer, overhead and defects, slip buffers, the frame pulse, forced AIS, performance seconds and
bins, and the checks of a commit (R510 to R543).
-/

namespace Sys2Proof.Machine

/-- LNU's producer and consumer port. -/
def lnuPort : Nat := 553

/-- The state once true time has reached t: none where the next boundary comes first. -/
def State.waitTru (s : State) (t : Nat) : Option State :=
  if t ≤ s.clk.tru then some s
  else
    let u := s.advance (t - s.clk.tru)
    if s.inWale u.now then some u else none

/-! ## Defects (R516, R518, R522, R543) -/

/-- A path carries no tributary: AU-AIS, AU-LOP or TU-LOM (R518). -/
def PathSt.down (a : PathSt) : Bool := a.ptr.st ≠ 0 || a.lom

/-- The J0 trace expected, by its bytes. -/
def State.j0Reg (s : State) (p base : Nat) : List Byte :=
  wordBytes ((List.range 4).map fun i => s.ra (lnuPage p) (base + 4 * i))

/-- The pairs of an entity and those codes whose condition holds. -/
def defList (e : Nat) (l : List (Nat × Bool)) : List (Nat × Nat) := (l.filter (·.2)).map fun x => (e, x.1)

/-- The defects of a port, its enabled paths and tributaries. -/
def State.portDefs (s : State) (p : Nat) : List (Nat × Nat) :=
  let l := s.line p
  let e := 4096 * p
  if s.lineLive p then
    let tim := bit (s.ra (lnuPage p) Reg.lnuPortCfg) 2 && l.j0Acc.any (· ≠ s.j0Reg p Reg.lnuJ0Exp)
    defList e [(1, l.los), (2, l.lof), (5, tim)] ++ defList (e + 1) [(3, l.msAis), (4, l.msRdi)] ++
      ((s.pathsOn p).flatMap fun a =>
        let x := l.path a
        defList (e + 2 + a)
          [(6, x.ptr.st = 2), (7, x.ptr.st = 1), (8, x.c2 = some 0),
           (9, x.c2.any (· ≠ s.tf (lnuPage p) 0 0 a 0 8 1)), (10, x.rdi), (11, x.lom)]) ++
      ((s.tribsOn p).flatMap fun t =>
        let x := l.trib t
        let down := (l.path (s.tribPath p t)).down
        defList (e + 64 + t) [(12, x.ptr.st = 2 || down), (13, x.ptr.st = 1 && !down), (14, x.rdi)]) ++
      (s.tribsOn p).flatMap fun t =>
        let x := l.trib t
        defList (e + 2048 + t) [(15, x.lof), (16, x.ais), (17, decide (4 ≤ x.frm.rai)), (18, x.frm.miss)]
  else []

/-- A defect that makes a defect second of its own entity (R531). -/
def countedDefect (d : Nat × Nat) : Bool := [1, 2, 3, 6, 7, 8, 9, 12, 13, 15, 16].contains d.2

/-- A defect was present in a frame of this second (R531). -/
def State.defectSeen (s : State) (d : Nat × Nat) : State :=
  if countedDefect d then s.setPm d.1 fun e => { e with defect := true } else s

/-- An alarm of tributaries out of frame for 3 ms rises, and falls after 3 ms in frame (R522). -/
def TribSt.lofNow (x : TribSt) (tru : Nat) : TribSt :=
  if x.since + 3000000 ≤ tru then { x with lof := !x.frm.inF } else x

/-- Defects declared and cleared since the last look are raised, and the status shows what is in force. -/
def State.lnuRefresh (s : State) (p : Nat) : State :=
  let tru := s.clk.tru
  let s := s.setLine p fun l => (s.tribsOn p).foldl (fun l t => l.setTrib t ((l.trib t).lofNow tru)) l
  let old := (s.line p).defs
  let new := s.portDefs p
  let s := s.setLine p fun l => { l with defs := new }
  let s := (new.filter fun d => !old.contains d).foldl
    (fun s d => (s.raise (lnuPage p) .lnuDefect d.1 d.2).defectSeen d) s
  let s := (old.filter fun d => !new.contains d).foldl
    (fun s d => (s.defectSeen d).raise (lnuPage p) .lnuDefectClear d.1 d.2) s
  let l := s.line p
  let has (c : Nat) : Nat := (new.any fun d => d.2 = c).toNat
  s.wfld (lnuPage p) Reg.lnuStatus 5 0
    (if s.lineLive p then l.los.toNat + (!l.inF).toNat * 2 + l.lof.toNat * 4 + has 3 * 8 + has 4 * 16 + has 5 * 32 else 0)

/-! ## The framer (R513 to R515) -/

/-- The framer starts its search again. -/
def LinePort.search (l : LinePort) (tru : Nat) : LinePort :=
  { l with inF := false, cands := [], miss := 0, since := tru, frames := 0, b1Bad := 0 }

/-- R513. [DEDUCED, log 52] -/
def execFramerOccurrence (port pos : Nat) (hit : Bool) (s : State) : Host.Outcome State Fault Refusal :=
  let l := s.line port
  let pg := lnuPage port
  let tru := s.clk.tru
  if !s.lineLive port || l.los then .next s
  else if l.inF then
    if pos ≠ l.aligned then .next s
    else if hit then .next (s.setLine port fun l => { l with miss := 0 })
    else if l.miss < 3 then .next (s.setLine port fun l => { l with miss := l.miss + 1 })
    else .next (((s.setLine port fun l => l.search tru).bump pg .lnuOofEvents).lnuRefresh port)
  else
    match l.cands.find? fun c => c.1 = pos with
    | some (_, n) =>
      let rest := l.cands.filter fun c => c.1 ≠ pos
      if !hit then .next (s.setLine port fun l => { l with cands := rest })
      else if n < 2 then
        .next (s.setLine port fun l => { l with cands := l.cands.map fun c => if c.1 = pos then (pos, n + 1) else c })
      else
        .next ((s.setLine port fun l =>
          { l.search tru with inF := true, aligned := pos }).lnuRefresh port)
    | none =>
      let barred := l.excl.any fun x => x.1 = pos && decide (tru < x.2)
      if !hit || barred then .next s
      else if 4 ≤ l.cands.length then .next (s.bump pg .lnuCandOvf)
      else .next (s.setLine port fun l => { l with cands := l.cands ++ [(pos, 1)] })

/-- R514. -/
def execLnuFalseLock (port : Nat) (s : State) : Host.Outcome State Fault Refusal :=
  let l := s.line port
  let tru := s.clk.tru
  if s.lineLive port && l.inF && decide (8 ≤ l.b1Bad) then
    .next ((((s.setLine port fun l => { l.search tru with excl := some (l.aligned, tru + 2000000) }).bump (lnuPage port)
      .lnuFalseLock).raise (lnuPage port) .lnuFalseLock port l.aligned).lnuRefresh port)
  else .next s

/-- LOF rises or falls once the framer has been in the state for 24 frames. -/
def State.lofSet (s : State) (port : Nat) (v : Bool) : State :=
  let l := s.line port
  if s.lineLive port && l.lof != v && l.inF != v then
    match s.waitTru (l.since + 3000000) with
    | some s => (s.setLine port fun l => { l with lof := v }).lnuRefresh port
    | none => s
  else s

/-- R515: LOF is declared. -/
def execLofDeclare (port : Nat) (s : State) : Host.Outcome State Fault Refusal := .next (s.lofSet port true)

/-- R515: LOF clears. -/
def execLofClear (port : Nat) (s : State) : Host.Outcome State Fault Refusal := .next (s.lofSet port false)

/-- R515: LOS is declared, and the framer is out of frame while it lasts. -/
def execLosDeclare (port : Nat) (s : State) : Host.Outcome State Fault Refusal :=
  let tru := s.clk.tru
  if s.lineLive port && !(s.line port).los then
    .next ((s.setLine port fun l =>
      let l := if l.inF then l.search tru else { l with cands := [] }
      { l with los := true }).lnuRefresh port)
  else .next s

/-- R515: LOS clears. -/
def execLosClear (port : Nat) (s : State) : Host.Outcome State Fault Refusal :=
  if s.lineLive port && (s.line port).los then
    .next ((s.setLine port fun l => { l with los := false }).lnuRefresh port)
  else .next s

/-! ## Overhead and pointers (R516 to R518) -/

/-- Pointer events are counted (R517, R542); an adjustment counts in the path's bins. -/
def State.ptrCount (s : State) (p : Nat) (path : Option Nat) (v : PtrEv) : State :=
  let s := if v.inc then s.bump (lnuPage p) .lnuPtrInc else s
  let s := if v.dec then s.bump (lnuPage p) .lnuPtrDec else s
  let s := if v.ndf then s.bump (lnuPage p) .lnuPtrNdf else s
  match path with
  | some a => if v.inc || v.dec then s.setPm (4096 * p + 2 + a) fun e => { e with adj := e.adj + 1 } else s
  | none => s

/-- An errored block of an entity. -/
def State.pmErr (s : State) (e : Nat) (bad : Bool) : State := if bad then s.setPm e fun x => { x with eb := x.eb + 1 } else s

/-- A bit that must come n times in a row to be taken. [DEDUCED, log 52] -/
def debounce (run : Nat × Nat) (old : Bool) (n : Nat) : Bool := if n ≤ run.2 then decide (run.1 = 1) else old

/-- A path's overhead in a frame (R516). [DEDUCED, log 52] -/
def PathSt.overhead (x : PathSt) (o : PathOh) : PathSt :=
  let c := again x.c2Run o.c2
  let r := again x.rdiRun (o.g1 / 8 % 2)
  let h := o.h4 % 4
  let ok := x.h4.all fun v => (v + 1) % 4 = h
  let bad := if ok then 0 else x.h4Bad + 1
  let good := if ok then x.h4Ok + 1 else 0
  { x with c2 := if 5 ≤ c.2 then some o.c2 else x.c2, c2Run := c, rdi := debounce r x.rdi 5, rdiRun := r, h4 := some h,
           h4Bad := bad, h4Ok := good, lom := if x.lom then decide (good < 8) else decide (8 ≤ bad), b3 := o.b3 }

/-- A path in a frame: its pointer, then its overhead where the pointer is in NORM. -/
def State.pathFrame (s : State) (p : Nat) (o : PathOh) : State :=
  if s.pathOn p o.path then
    let x := (s.line p).path o.path
    let (q, v) := x.ptr.step 782 o.ptr
    let x := { x with ptr := q }
    let x := if q.st = 0 then x.overhead o else x
    let s := (s.setLine p fun l => l.setPath o.path x).ptrCount p (some o.path) v
    s.pmErr (4096 * p + 2 + o.path) (q.st = 0 && decide (0 < o.b3))
  else s

/-- The section overhead of a frame (R516). -/
def LinePort.section_ (l : LinePort) (o : FrameOh) : LinePort :=
  let k := o.k2 % 8
  let ka := again l.k2Run (decide (k = 7)).toNat
  let kr := again l.k2Not (decide (k = 6)).toNat
  { l.j0Step o.j0 with
    msAis := debounce ka l.msAis 3, k2Run := ka, msRdi := debounce kr l.msRdi 3, k2Not := kr,
    s1Run := again l.s1Run o.s1, b2 := o.b2, frames := l.frames + 1,
    b1Bad := if 8 ≤ l.b1Bad then l.b1Bad
      else if l.frames < 16 && decide (0 < o.b1) then l.b1Bad + 1 else 0 }

/-- R516, R517: a frame received in IF. -/
def execRxFrameOverhead (port : Nat) (oh : FrameOh) (s : State) : Host.Outcome State Fault Refusal :=
  let pg := lnuPage port
  if s.lineLive port && (s.line port).inF then
    let s := ((s.bump pg .lnuRxFrames).bumpN pg .lnuB1Err oh.b1).bumpN pg .lnuB2Err oh.b2
    let s := (s.pmErr (4096 * port) (decide (0 < oh.b1))).pmErr (4096 * port + 1) (decide (0 < oh.b2))
    let s := s.setLine port fun l => l.section_ oh
    let s := s.wr pg Reg.lnuRxK (BitVec.ofNat 32 (oh.k1 + oh.k2 * 256))
    let s := if 8 ≤ (s.line port).s1Run.2 then s.wr pg Reg.lnuRxS1 (BitVec.ofNat 32 oh.s1) else s
    .next ((oh.paths.foldl (fun s o => s.pathFrame port o) s).lnuRefresh port)
  else .next s

/-- A tributary in a multiframe (R518): held while its path is down. -/
def State.tuFrame (s : State) (p : Nat) (o : TuOh) : State :=
  if s.tribOn p o.trib && !((s.line p).path (s.tribPath p o.trib)).down then
    let x := (s.line p).trib o.trib
    let (q, v) := x.ptr.step (if s.lineMode p = 1 then 139 else 103) o.ptr
    let r := again x.rdiRun (o.v5 % 2)
    let x :=
      if q.st = 0 then { x with ptr := q, rdi := debounce r x.rdi 5, rdiRun := r, bip := o.bip } else { x with ptr := q }
    let s := (s.setLine p fun l => l.setTrib o.trib x).ptrCount p none v
    s.pmErr (4096 * p + 64 + o.trib) (q.st = 0 && decide (0 < o.bip))
  else s

/-- R518. -/
def execRxMultiframe (port : Nat) (tus : List TuOh) (s : State) : Host.Outcome State Fault Refusal :=
  if s.lineLive port && (s.line port).inF then
    .next ((tus.foldl (fun s o => s.tuFrame port o) s).lnuRefresh port)
  else .next s

/-! ## Slip buffers (R522, R524) -/

/-- A slip: counted, and raised once per tributary in a wale. [DEDUCED, log 53] -/
def State.slip (s : State) (p t : Nat) (rep : Bool) : State :=
  let e := 4096 * p + 2048 + t
  let s := s.bump (lnuPage p) (if rep then .lnuSlipRepeat else .lnuSlipDelete)
  let add (s : State) (e : Nat) : State := s.setPm e fun x => { x with adj := x.adj + 1 }
  let s := add (add s e) (4096 * p + 64 + t)
  if s.lnu.slips.contains e then s
  else (s.setLnu fun l => { l with slips := l.slips ++ [e] }).raise (lnuPage p) .lnuSlip e rep.toNat

/-- R522, R524: a frame of a tributary is complete. -/
def execTribFrameComplete (port trib : Nat) (frame : List Byte) (s : State) : Host.Outcome State Fault Refusal :=
  let fr := s.framing port trib
  let x := (s.line port).trib trib
  if s.lineLive port && (s.line port).inF && s.tribOn port trib && frame.length = (if fr < 2 then 32 else 25) then
    let (f, blk) := if fr < 2 then x.frm.stepE1 (fr = 1) frame else x.frm.stepT1 (fr = 3) frame
    let bits := if fr < 2 then frame.flatMap byteBits
      else (frame.getD 0 0).getLsbD 0 :: (frame.drop 1).flatMap byteBits
    let (per, ais) := aisStep bits x.period x.ais
    let x1 : TribSt := { x with frm := f, period := per, ais := ais, since := if f.inF = x.frm.inF then x.since else s.clk.tru }
    let gained := f.inF && !x.frm.inF
    let x2 : TribSt := if gained then { x1 with unread := [], last := none } else x1
    let del := f.inF && !gained && decide (2 ≤ x2.unread.length)
    let x3 : TribSt :=
      if f.inF && !gained then { x2 with unread := (if del then x2.unread.drop 1 else x2.unread) ++ [frame] } else x2
    let s := s.setLine port fun l => l.setTrib trib x3
    let s := if del then s.slip port trib false else s
    let e := 4096 * port + 2048 + trib
    let s := match blk with
      | some bad => (if fr = 3 then s.setPm e fun y => { y with blocks := y.blocks + 1 } else s).pmErr e bad
      | none => s
    .next (s.lnuRefresh port)
  else .next s

/-! ## The frame pulse (R512, R519, R520, R524, R525, R528) -/

/-- A tributary hands its idle code (R528). -/
def State.tribIdle (s : State) (p t : Nat) : Bool :=
  let l := s.line p
  let bad (e : Nat) (cs : List Nat) : Bool := l.defs.any fun d => d.1 = e && cs.contains d.2
  !s.lineLive p || !s.tribOn p t || bad (4096 * p) [1, 2] || bad (4096 * p + 1) [3] ||
    bad (4096 * p + 2 + s.tribPath p t) [6, 7, 8, 9, 11] || bad (4096 * p + 64 + t) [12, 13] ||
    bad (4096 * p + 2048 + t) [15, 16]

/-- The reader of a tributary's slip buffer at a pulse. [DEDUCED, log 53] -/
def State.readTrib (s : State) (p t : Nat) : State :=
  let x := (s.line p).trib t
  match x.unread with
  | f :: r => s.setLine p fun l => l.setTrib t { x with unread := r, last := some f }
  | [] => if x.last.isSome then s.slip p t true else s

/-- The byte a channel hands MXF. [DEDUCED, log 53] -/
def State.chanByte (s : State) (w : Word) : Byte :=
  if !s.tsiRun || s.tribIdle (chPort w) (chTrib w) || s.slotClosed (chPort w) (chTrib w) (chTs w) then chIdle w
  else match ((s.line (chPort w)).trib (chTrib w)).last with
    | some f => f.getD (chTs w) (chIdle w)
    | none => chIdle w

/-- Every channel's byte of index m goes to MXF: a disabled channel hands its idle code (R525, R528). On a standby that
follows, the record gives the bytes of the enabled channels (R603). -/
def State.handBytes (s : State) (m : Nat) : State :=
  (s.tlist tsiPage 0 0).foldl
    (fun s (n, ws) =>
      let w := ws.getD 0 0
      let b := if chEn w then s.chanByte w else chIdle w
      if s.following && chEn w then s
      else s.setMxf fun x => { x with ds0 := NMap.set (fun _ => none) x.ds0 (dsKey n m) (some (m, b)) }) s

/-- The bytes of a TDM entry (R603), for a port's enabled channels. -/
def State.layTdm (s : State) (p m : Nat) : State :=
  let bs := (s.channels.filter fun c => chPort c.2 = p).map fun c => (s.ds0At c.1 m).getD (chIdle c.2)
  if bs = [] then s else s.lay 0x03 0 (beBytes 4 (p + m % 20 * 4) ++ bs)

/-- A cause of R529 applies to a port. -/
def State.aisCauses (s : State) (p : Nat) : List Nat :=
  let c := s.rd (lnuPage p) Reg.lnuTxCtl
  (if bit c 0 then [1] else []) ++ (if bit c 2 then [2] else []) ++ (if s.lnu.fatal then [3] else []) ++
    (if (s.line p).down then [4] else []) ++ (if bit c 1 then [5] else [])

/-- What a change does to the causes of R529: each that starts is raised, and the status follows. -/
def State.aisWith (s : State) (p : Nat) (f : State → State) : State :=
  let old := s.aisCauses p
  let s := f s
  let new := s.aisCauses p
  let s := (new.filter fun c => !old.contains c).foldl (fun s c => s.raise (lnuPage p) .lnuAisForced p c) s
  s.wfld (lnuPage p) Reg.lnuStatus 6 6 (decide (new ≠ [])).toNat

/-- The time slots of a tributary before MXF's bytes are in: a channel's idle code, else that of the framing (R528). -/
def State.idleSlots (s : State) (p t m : Nat) : List Byte :=
  let n := if s.framing p t < 2 then 31 else 24
  let cs := s.channels.filter fun c => chPort c.2 = p && chTrib c.2 = t
  (List.range n).map fun i =>
    if s.slotClosed p t (i + 1) then 0xD5 else
    match cs.find? fun c => chTs c.2 = i + 1 with
    | some (ch, w) =>
      match NMap.get (fun _ => none) s.mxf.tx ch with
      | some (k, b) => if k = m && s.tsiRun then b else chIdle w
      | none => chIdle w
    | none => if s.framing p t < 2 then 0xD5 else 0xFF

/-- Byte i of the trace sent in J1 and J2: 15 zero characters after the byte that carries their CRC-7 (R519). -/
def zeroTrace (i : Nat) : Byte :=
  if i % 16 = 0 then 0x80 ||| BitVec.ofNat 8 (traceCrc (List.replicate 16 0)) else 0

/-- The laser of a port is on: its module's identity is verified (R529). -/
def State.laserOn (s : State) (p : Nat) : Bool := s.rb 0 Reg.sysIdStatus (8 + p) && s.lineMode p ≠ 0

/-- The frame of index m starts on a port's line (R519, R520). [DESIGN CHOICE, log 54] -/
def State.startLine (s : State) (p m : Nat) : State :=
  if s.laserOn p && (s.lineLive p || s.aisCauses p ≠ []) then
    let l := s.line p
    let has (e : Nat) (cs : List Nat) : Bool := l.defs.any fun d => d.1 = e && cs.contains d.2
    let e := 4096 * p
    let f : TxFrame :=
      { index := m, ais := s.aisCauses p ≠ [], j0 := (s.j0Reg p Reg.lnuJ0Tx).getD (m % 16) 0,
        s1 := s.raf (lnuPage p) Reg.lnuTxCtl 15 8, k1 := 0, k2 := if has e [1, 2] || has (e + 1) [3] then 6 else 0, m1 := l.b2,
        paths := (s.pathsOn p).map fun a =>
          { path := a, ptr := if s.lineMode p = 1 then 0x6800 else 0x6000, j1 := zeroTrace m, c2 := if s.lineMode p = 1 then 0x02 else 0x1C, rdi := has (e + 2 + a) [6, 7, 8, 9],
            rei := (l.path a).b3 },
        tribs := (s.tribsOn p).map fun t =>
          { trib := t, ptr := if s.lineMode p = 1 then 0x6800 else 0x6C00, j2 := zeroTrace (m / 4), alarm := has (e + 2048 + t) [15, 16],
            rdi := has (e + 64 + t) [12, 13] || has (e + 2 + s.tribPath p t) [11],
            label := if bit (s.tribW p t) 3 then 4 else 2, rei := (l.trib t).bip, slots := s.idleSlots p t m } }
    (s.setLine p fun l => { l with tx := some f }).bump (lnuPage p) .lnuTxFrames
  else s.setLine p fun l => { l with tx := none }

/-- The four ports. -/
def linePorts : List Nat := [0, 1, 2, 3]

/-- The next index of the frame pulse, where one is left in the wale (R40). -/
def State.nextPulse (s : State) : Option Nat :=
  let first := 20 * s.clk.wale
  let m := match s.lnu.pulse with
    | some k => if first ≤ k then k + 1 else first
    | none => first
  if s.genState = 2 && decide (1 ≤ s.clk.phase) && decide (m < first + 20) then some m else none

/-- R524: the next 8 kHz frame pulse of R40. -/
def execTdmFramePulse (s : State) : Host.Outcome State Fault Refusal :=
  match s.nextPulse with
  | none => .next s
  | some m =>
    let s := (s.advanceTo (s.boundary s.clk.wale + m % 20 * 125000)).atStep 7
    let s := s.setLnu fun l => { l with pulse := some m }
    let s := linePorts.foldl (fun s p => if s.lineLive p then (s.tribsOn p).foldl (fun s t => s.readTrib p t) s else s) s
    let s := linePorts.foldl (fun s p => s.lnuRefresh p) s
    let s := s.handBytes m
    let s := linePorts.foldl (fun s p => s.layTdm p m) s
    .next (linePorts.foldl (fun s p => s.startLine p m) s)

/-- The standby takes the bytes of a TDM entry in place of its own (R538): the body, for the wale of its section. -/
def State.tdmEntry (s : State) (body : List Byte) (wale : Nat) : State :=
  let w := beNat (body.take 4)
  let p := w % 4
  let m := 20 * wale + w / 4 % 32
  ((s.channels.filter fun c => chPort c.2 = p).zip (body.drop 4)).foldl
    (fun s (c, b) => s.setMxf fun x => { x with ds0 := NMap.set (fun _ => none) x.ds0 (dsKey c.1 m) (some (m, b)) }) s

/-- R529: a write of `LNU_TX_CTL`: FORCE and the shadow of S1, which is locked while the page is ARMED (R68). A write of 1 to
WDT_FORCE clears it only through Quizil's port. -/
def execTxForceWrite (src : Src) (port : Nat) (v : Word) (s : State) : Host.Outcome State Fault Refusal :=
  let pg := lnuPage port
  .next (s.access src pg Reg.lnuTxCtl v fun s =>
    if bit v 2 && src ≠ .qz then s.accessErr pg Reg.lnuTxCtl 10 src v
    else
      let locked := decide (s.rf pg Reg.cmtStatus 2 0 = 1)
      let t := s.aisWith port fun s =>
        let s := s.wfld pg Reg.lnuTxCtl 0 0 (fld v 0 0)
        let s := if locked then s else s.wfld pg Reg.lnuTxCtl 15 8 (fld v 15 8)
        if bit v 2 then s.wfld pg Reg.lnuTxCtl 2 2 0 else s
      if locked && fld v 15 8 ≠ s.rf pg Reg.lnuTxCtl 15 8 then t.accessErr pg Reg.lnuTxCtl 2 src v else t)

/-! ## Performance (R530 to R537) -/

/-- R534: the oldest record of the queue. [DEDUCED, log 55] -/
def execPmRecord (s : State) : Host.Outcome State Fault Refusal :=
  let q := s.ra tsiPage Reg.lnuPmIn
  if s.ready tsiPage && bit q 12 then
    match s.colTake lnuPort (fld q 11 0) with
    | (s, some b) =>
      let g := leNat (b.take 2)
      let jit := leNat ((b.drop 4).take 4)
      let rtt := leNat ((b.drop 8).take 4)
      let w := leNat ((b.drop 12).take 4)
      let most (o : Option Nat) (v : Nat) : Option Nat := if v = 0xFFFFFFFF then o else some (max v (o.getD 0))
      if s.lnu.close15.any fun c => waleLt w (c % 2 ^ 32) then .next (s.bump tsiPage .lnuPmLateRec)
      else
        let put (x : PmBin) : PmBin := { x with jit := most x.jit jit, rtt := most x.rtt rtt }
        .next (s.pmLeg g fun e => { e with c15 := put e.c15, c24 := put e.c24 })
    | (s, none) => .next s
  else .next s

/-- The entity above a TDM entity, whose defects count for it too (R531). -/
def State.entityUp (s : State) (e : Nat) : Option Nat :=
  let p := e / 4096
  match entityKind e with
  | 1 => some (4096 * p)
  | 2 => some (4096 * p + 1)
  | 3 => some (4096 * p + 2 + s.tribPath p (e % 4096 - 64))
  | 4 => some (e - 1984)
  | _ => none

/-- A second is a defect second of a TDM entity: its own defects or those above it. -/
def State.defectSecond (s : State) (e : Nat) : Nat → Bool
  | 0 => false
  | n + 1 =>
    (s.pm e).defect || ((s.line (e / 4096)).defs.any fun d => d.1 = e && countedDefect d) ||
      (s.entityUp e).any fun u => s.defectSecond u n

/-- Blocks of a TDM entity in a second (R531). -/
def State.entityBlocks (s : State) (e : Nat) : Nat :=
  match entityKind e with
  | 3 => 2000
  | 4 =>
    let t := e % 4096 - 2048
    let fr := s.framing (e / 4096) t
    if fr = 1 then (if ((s.line (e / 4096)).trib t).frm.crcOn then 1000 else 0) else if fr = 3 then (s.pm e).blocks else 0
  | _ => 8000

/-- The enabled entities in increasing number. -/
def State.entities (s : State) : List Nat :=
  (linePorts.flatMap fun p =>
    let b := 4096 * p
    if s.enabled (lnuPage p) && s.lineMode p ≠ 0 then
      [b, b + 1] ++ (s.pathsOn p).map (b + 2 + ·) ++ (s.tribsOn p).map (b + 64 + ·) ++ (s.tribsOn p).map (b + 2048 + ·)
    else []) ++ (((s.tlist tsiPage 1 0).map (·.1)).filter fun g => s.legOn g).map legEntity

/-- The page an entity's events belong to. -/
def entityPage (e : Nat) : Nat := if 16384 ≤ e then tsiPage else lnuPage (e / 4096)

/-- A second of every entity closes (R532). -/
def State.secondClose (s : State) : State :=
  let es := s.entities
  let defs := es.map fun e => (e, entityKind e ≠ 5 && s.defectSecond e 5)
  let gone := (s.lnu.pm.map (·.1)).filter fun e => !es.contains e
  let s := gone.foldl (fun s e => s.setPm e fun x => { x with defect := false }) s
  let s := s.setLnu fun l => { l with second := some s.clk.wale }
  defs.foldl
    (fun s (e, d) =>
      let x := s.pm e
      let leg := entityKind e = 5
      let b := if leg then x.blocks else s.entityBlocks e
      let eb := if leg then b - x.recv else x.eb
      let (y, un) := PmEnt.second { x with defect := d } leg b eb
      let s := s.setPm e fun _ => y
      if un then s.raise (entityPage e) .lnuUnavail e 0 else s) s

/-- R530, R532: a PM second ends. -/
def execPmSecondClose (s : State) : Host.Outcome State Fault Refusal :=
  if s.stepDue 2 && s.ready tsiPage && s.onGrid 400 && s.lnu.second ≠ some s.clk.wale then
    .next (s.atStep 2).secondClose
  else .next s

/-- The bins of one length close. [DEDUCED, log 55] -/
def State.binClose (s : State) (day : Bool) : State × Nat :=
  let es := s.entities
  let w := s.clk.wale % 2 ^ 32
  let s := es.foldl (fun s e => s.setPm e fun x => x.close day w) s
  let s := s.bumpN tsiPage .lnuBinsClosed es.length
  let s := s.setLnu fun l => if day then { l with close24 := some s.clk.wale } else { l with close15 := some s.clk.wale }
  s.binRecords day es

/-- R537: bins close at this boundary, 15-minute records before 24-hour records. -/
def execBinClose (s : State) : Host.Outcome State Fault Refusal :=
  if s.stepDue 2 && s.ready tsiPage && s.onGrid 360000 && s.lnu.close15 ≠ some s.clk.wale then
    let s := s.atStep 2
    let s := if s.lnu.second = some s.clk.wale then s else s.secondClose
    let (s, n) := s.binClose false
    let (s, k) := if s.onGrid 34560000 then s.binClose true else (s, 0)
    .next (if n + k = 0 then s else s.raise tsiPage .lnuPmLost (n + k) 0)
  else .next s

/-! ## Commits (R526, R540) -/

/-- What a port page's shadows fail by: entry, table and cause (R540). [DEDUCED, log 53] -/
def State.lnuInvalid (s : State) (p : Nat) : Option (Nat × Nat × Nat) :=
  let pg := lnuPage p
  let m := s.rf pg Reg.lnuPortCfg 1 0
  let beyond (t e : Nat) : Bool :=
    (m = 1 && decide ((if t = 0 then 16 else 1008) ≤ e)) || (m = 2 && decide ((if t = 0 then 48 else 1344) ≤ e))
  let on (t : Nat) : List (Nat × Word) :=
    (s.tlist pg t 1).filterMap fun (e, ws) => if bit (ws.getD 0 0) 0 then some (e, ws.getD 0 0) else none
  let trib (e : Nat) (w : Word) : Option Nat :=
    let fr := fld w 2 1
    if beyond 1 e then some 2
    else if (m = 2 && decide (fr < 2)) || (m = 1 && decide (2 ≤ fr)) then some 3
    else if bit w 4 && decide (2 ≤ fr) then some 4 else none
  if m = 3 then some (0, 0xF, 5)
  else if m ≠ s.lineMode p && s.enabled pg then some (0, 0xF, 1)
  else
    ((on 0).findSome? fun x => if beyond 0 x.1 then some (x.1, 0, 2) else none).or
      ((on 1).findSome? fun x => (trib x.1 x.2).map fun c => (x.1, 1, c))

/-- A port page's tables come into force; the entities it changes are suspect (R536). -/
def State.lnuTables (s : State) (p : Nat) : State :=
  let pg := lnuPage p
  let b := 4096 * p
  let changed (t : Nat) : List Nat :=
    (((s.tlist pg t 0).map (·.1) ++ (s.tlist pg t 1).map (·.1)).mergeSort.eraseDups).filter fun e =>
      s.tget pg t 0 e ≠ s.tget pg t 1 e
  let ca := changed 0
  let ct := changed 1
  let tru := s.clk.tru
  let s := (s.tableApply pg 0).tableApply pg 1
  let s := s.setLine p fun l =>
    let l := ca.foldl (fun l a => l.setPath a PathSt.init) l
    ct.foldl (fun l t => l.setTrib t { TribSt.init with since := tru }) l
  (s.pmDoubt (ca.map (b + 2 + ·) ++ ct.map (b + 64 + ·) ++ ct.map (b + 2048 + ·))).lnuRefresh p

/-- What the standby bank of the TSI page fails by: channel, table and cause (R526). [DEDUCED, log 53] -/
def State.tsiInvalid (s : State) : Option (Nat × Nat × Nat) :=
  let cs := (s.tlist tsiPage 0 1).filterMap fun (n, ws) => if chEn (ws.getD 0 0) then some (n, ws.getD 0 0) else none
  let place (w : Word) : Nat := fld w 18 1
  cs.findSome? fun (n, w) =>
    let fr := s.framing (chPort w) (chTrib w)
    if cs.any fun c => decide (c.1 < n) && place c.2 = place w then some (n, 0, 1)
    else if 1344 ≤ chTrib w then some (n, 0, 3)
    else if chTs w = 0 || (decide (2 ≤ fr) && decide (24 < chTs w)) ||
        (decide (fr < 2) && chTs w = 16 && !bit (s.tribW (chPort w) (chTrib w)) 4) then some (n, 0, 2)
    else none

end Sys2Proof.Machine
end

