-- ==== Sys2Proof/Machine/Scale.lean ====
section
/-!
DEFINITION. The scaler that the Pixel Compositor and the encoders share (R393, R463, R464).
-/

namespace Sys2Proof.Machine

/-- A number clamped to 0 to M. -/
def clampTo (m : Nat) (v : Int) : Nat := (max 0 (min (m : Int) v)).toNat

/-- Output sample d of a pass that does not shrink. -/
def passUp (sl dl m : Nat) (x : Nat → Nat) (d : Nat) : Nat :=
  let pos : Int := ((2 * d + 1) * sl * 32768 / dl : Nat) - 32768
  let i := pos / 65536
  let ph := pos % 65536 / 1024
  let wm1 := (-(ph ^ 3) + 128 * ph ^ 2 - 4096 * ph + 2048) / 4096
  let wp1 := (-3 * ph ^ 3 + 256 * ph ^ 2 + 4096 * ph + 2048) / 4096
  let wp2 := (ph ^ 3 - 64 * ph ^ 2 + 2048) / 4096
  let w0 := 128 - wm1 - wp1 - wp2
  let at_ (k : Int) : Int := x (clampTo (sl - 1) (i + k))
  clampTo m ((wm1 * at_ (-1) + w0 * at_ 0 + wp1 * at_ 1 + wp2 * at_ 2 + 64) / 128)

/-- Output sample d of a pass that shrinks. -/
def passDown (sl dl : Nat) (x : Nat → Nat) (d : Nat) : Nat :=
  let first := d * sl / dl
  let n := ((d + 1) * sl + dl - 1) / dl - first
  let w (i : Nat) : Nat := min ((d + 1) * sl) ((i + 1) * dl) - max (d * sl) (i * dl)
  (((List.range' first n).map fun i => w i * x i).sum + sl / 2) / sl

/-- One pass. -/
def pass (sl dl m : Nat) (x : Nat → Nat) (d : Nat) : Nat := if sl ≤ dl then passUp sl dl m x d else passDown sl dl x d

/-- Both passes: the horizontal one first. -/
def scale2 (sw dw sh dh m : Nat) (src : Nat → Nat → Nat) (dx dy : Nat) : Nat :=
  pass sh dh m (fun j => pass sw dw m (fun i => src i j) dx) dy

end Sys2Proof.Machine
end

