-- ==== Sys2Proof/Machine/Pxc.lean ====
section
/-!
DEFINITION. The Pixel Compositor: launch and the choice of sources (R455 to R461), conversion, scaling and blending (R462 to
R468), publication (R471 to R473) and the validation of a pipe's configuration (R465, R466, R469).
-/

namespace Sys2Proof.Machine

/-- The port of a pipe. -/
def pxcPort (q : Nat) : Nat := 569 + q

def lyEn (e : List Word) : Bool := efld e 0 0 0 = 1
def lyKind (e : List Word) : Nat := efld e 0 2 1
def lyAlpha (e : List Word) : Nat := efld e 0 11 4
def lySx (e : List Word) : Nat := efld e 1 12 0
def lySy (e : List Word) : Nat := efld e 1 28 16
def lySw (e : List Word) : Nat := efld e 2 12 0
def lySh (e : List Word) : Nat := efld e 2 28 16
def lyDx (e : List Word) : Nat := efld e 3 12 0
def lyDy (e : List Word) : Nat := efld e 3 28 16
def lyDw (e : List Word) : Nat := efld e 4 12 0
def lyDh (e : List Word) : Nat := efld e 4 28 16
def lyBuf (e : List Word) : Nat := efld e 5 31 0
def lyBw (e : List Word) : Nat := efld e 6 12 0
def lyBh (e : List Word) : Nat := efld e 6 28 16
def lyStride (e : List Word) : Nat := efld e 7 15 0
def lyDeep (e : List Word) : Nat := efld e 7 16 16

/-! ## Sources (R458, R459, R461, R462) -/

/-- The source of a layer for a frame launched at l: the layer, and whether its condition is a FROZEN row of R459. -/
def State.layerSource (s : State) (e : List Word) (l : Nat) : PxcLayer × Bool :=
  if lyKind e = 0 then
    let n := efld e 0 16 12
    let m := efld e 0 31 24
    let x := s.decStream n m
    let d := s.decEnt n m
    let w := (l + 2 ^ 32 - 2) % 2 ^ 32
    match x.newest w with
    | none => ({ words := e, ph := true }, false)
    | some r =>
      let frozen := x.frozenAsOf w
      if frozen && efld e 0 3 3 = 1 then ({ words := e, ph := true }, true)
      else if r.w8 * 8 < lySx e + lySw e ∨ r.h8 * 8 < lySy e + lySh e then ({ words := e, ph := true, miss := true }, false)
      else
        ({ words := e, addr := dBase d + r.slot * slotBytes (dMaxW d) (dMaxH d) (dDepth d),
           stride := slotStride (dMaxW d) (dDepth d), rows := dMaxH d, deep := dDepth d, frozen := frozen }, frozen)
  else ({ words := e, stride := lyStride e, rows := lyBh e, deep := lyDeep e }, false)

/-- Byte o of a layer's picture. -/
def State.layerByte (s : State) (l : PxcLayer) (o : Nat) : Nat :=
  if lyKind l.words = 0 then (s.dramByte (l.addr + o)).toNat else leNat (s.bufBytes (lyBuf l.words) o 1)

/-- Byte o of a layer's picture lies in a poisoned line. -/
def State.layerBad (s : State) (l : PxcLayer) (o : Nat) : Bool :=
  if lyKind l.words = 0 then s.poisoned (l.addr + o) else s.bufPoisoned (lyBuf l.words) o 1

/-- The 10-bit sample whose first byte is o. -/
def State.layerSample (s : State) (l : PxcLayer) (o : Nat) : Nat :=
  if s.layerBad l o then 512
  else if l.deep = 1 then (s.layerByte l o + 256 * s.layerByte l (o + 1)) / 64
  else 4 * s.layerByte l o

/-- BT.709 limited range (R462): Y, Cb and Cr of a pixel. -/
def rgbToYuv (r g b : Int) : Nat × Nat × Nat :=
  (((187 * r + 629 * g + 63 * b + 128) / 256 + 64).toNat, ((-103 * r - 347 * g + 450 * b + 128) / 256 + 512).toNat,
   ((450 * r - 409 * g - 41 * b + 128) / 256 + 512).toNat)

/-- An RGBA pixel: Y, Cb, Cr and alpha. -/
def State.rgbaPixel (s : State) (l : PxcLayer) (x y : Nat) : Nat × Nat × Nat × Nat :=
  let o := l.stride * y + 4 * x
  if s.layerBad l o then (512, 512, 512, 255)
  else
    let (yy, cb, cr) := rgbToYuv (s.layerByte l o) (s.layerByte l (o + 1)) (s.layerByte l (o + 2))
    (yy, cb, cr, s.layerByte l (o + 3))

/-- Luma of a layer's picture. -/
def State.layerLuma (s : State) (l : PxcLayer) (x y : Nat) : Nat :=
  if lyKind l.words = 2 then (s.rgbaPixel l x y).1 else s.layerSample l (l.stride * y + x * (1 + l.deep))

/-- Chroma of a layer's picture: component 0 Cb, 1 Cr. -/
def State.layerChroma (s : State) (l : PxcLayer) (c x y : Nat) : Nat :=
  if lyKind l.words = 2 then
    let one (i j : Nat) : Nat :=
      let p := s.rgbaPixel l (2 * x + i) (2 * y + j)
      if c = 0 then p.2.1 else p.2.2.1
    (one 0 0 + one 1 0 + one 0 1 + one 1 1 + 2) / 4
  else s.layerSample l (l.stride * (l.rows + y) + (2 * x + c) * (1 + l.deep))

/-- Alpha of a layer's picture. -/
def State.layerAlpha (s : State) (l : PxcLayer) (x y : Nat) : Nat :=
  if lyKind l.words = 2 then (s.rgbaPixel l x y).2.2.2 else 255

/-! ## Blending (R467, R468) -/

/-- A component of a colour laid out as `PXC_BG`. -/
def colourOf (w : Word) (c : Nat) : Nat := fld w (10 * c + 9) (10 * c)

/-- A layer's scaled sample of component c (0 Y, 1 Cb, 2 Cr) at a position of its own plane. -/
def State.layerAt (s : State) (f : PxcFrame) (l : PxcLayer) (c dx dy : Nat) : Nat :=
  let e := l.words
  if l.ph then colourOf f.phColour c
  else if lyKind e = 3 then colourOf (e.getD 5 0) c
  else if c = 0 then
    scale2 (lySw e) (lyDw e) (lySh e) (lyDh e) 1023 (fun x y => s.layerLuma l (lySx e + x) (lySy e + y)) dx dy
  else
    scale2 (lySw e / 2) (lyDw e / 2) (lySh e / 2) (lyDh e / 2) 1023
      (fun x y => s.layerChroma l (c - 1) (lySx e / 2 + x) (lySy e / 2 + y)) dx dy

/-- The 8-bit alpha product of a layer at a luma position of its rectangle. -/
def State.alphaAt (s : State) (l : PxcLayer) (dx dy : Nat) : Nat :=
  let e := l.words
  let ap := if !l.ph && lyKind e = 2 then
      scale2 (lySw e) (lyDw e) (lySh e) (lyDh e) 255 (fun x y => s.layerAlpha l (lySx e + x) (lySy e + y)) dx dy
    else 255
  (ap * lyAlpha e + 127) / 255

/-- A layer's rectangle covers a luma position. -/
def PxcLayer.covers (l : PxcLayer) (x y : Nat) : Bool :=
  let e := l.words
  decide (lyDx e ≤ x ∧ x < lyDx e + lyDw e ∧ lyDy e ≤ y ∧ y < lyDy e + lyDh e)

/-- The composed sample of component c at a position of its plane. -/
def State.composed (s : State) (f : PxcFrame) (c x y : Nat) : Nat :=
  let k := if c = 0 then 1 else 2
  f.layers.foldl (fun out l =>
    let l := l.2
    if l.covers (k * x) (k * y) then
      let dx := k * x - lyDx l.words
      let dy := k * y - lyDy l.words
      let a := if c = 0 then s.alphaAt l dx dy else
        (s.alphaAt l dx dy + s.alphaAt l (dx + 1) dy + s.alphaAt l dx (dy + 1) + s.alphaAt l (dx + 1) (dy + 1) + 2) / 4
      (a * s.layerAt f l c (dx / k) (dy / k) + (255 - a) * out + 127) / 255
    else out) (colourOf f.bg c)

/-- Depth, width and height of a frame. -/
def PxcFrame.deep (f : PxcFrame) : Nat := fld f.cfg 3 3
def PxcFrame.w (f : PxcFrame) : Nat := fld f.canvas 12 0
def PxcFrame.h (f : PxcFrame) : Nat := fld f.canvas 28 16

/-- A sample as the frame stores it. -/
def PxcFrame.stored (f : PxcFrame) (v : Nat) : Nat := if f.deep = 1 then v else min 255 ((v + 2) / 4)

/-- The frame's samples: luma, then interleaved chroma. [DEDUCED, log 60] -/
def State.frameSamples (s : State) (f : PxcFrame) : List Nat × List Nat :=
  ((List.range f.h).flatMap fun y => (List.range f.w).map fun x => f.stored (s.composed f 0 x y),
   (List.range (f.h / 2)).flatMap fun y => (List.range (f.w / 2)).flatMap fun x =>
     [f.stored (s.composed f 1 x y), f.stored (s.composed f 2 x y)])

/-- A layer's crop, or with RGBA its pixels, touch a poisoned line. -/
def State.layerPoison (s : State) (l : PxcLayer) : Bool :=
  let e := l.words
  let row (y o n : Nat) : Bool := (List.range n).any fun i => s.layerBad l (l.stride * y + o + i)
  if l.ph || lyKind e = 3 then false
  else if lyKind e = 2 then (List.range (lySh e)).any fun y => row (lySy e + y) (4 * lySx e) (4 * lySw e)
  else
    let b := 1 + l.deep
    ((List.range (lySh e)).any fun y => row (lySy e + y) (lySx e * b) (lySw e * b)) ||
      (List.range (lySh e / 2)).any fun y => row (l.rows + lySy e / 2 + y) (lySx e * b) (lySw e * b)

/-! ## Launch (R455, R459, R471) -/

/-- The lowest slot of a pipe that nothing holds. -/
def State.pxcSlot (s : State) (q nslot : Nat) : Nat :=
  let recs := ((s.pipe q).recs.filter (·.valid)).map (·.slot)
  let encs := (List.range 16).filterMap fun n =>
    match (s.encoder n).pic with
    | some p => (match p.src with | .pxc q' slot => if q' = q then some slot else none | _ => none)
    | none => none
  ((List.range nslot).find? fun i => !recs.contains i && !encs.contains i).getD 0

/-- What the choice of a layer's source counts and raises. -/
def State.layerTold (s : State) (q f k : Nat) (l : PxcLayer) (row was : Bool) : State :=
  let p := pxcPage q
  let s := if row then s.bump p .pxcLayerFrozen else s
  let s := if l.ph then s.bump p .pxcLayerPh else s
  let s := if l.miss then (s.bump p .pxcCropMiss).raise p .pxcCropMiss k f else s
  if row ≠ was then s.raise p .pxcSrcFrozen (k + row.toNat * 16) f else s

/-- Frame f of pipe q starts. -/
def State.pxcStart (s : State) (q f l : Nat) : State :=
  let p := pxcPage q
  let was := (s.pipe q).frozen
  let es := (List.range 16).filterMap fun k =>
    let e := s.tget p 0 0 k
    if lyEn e then some (k, s.layerSource e l) else none
  let s := es.foldl (fun s x => s.layerTold q f x.1 x.2.1 x.2.2 (was.contains x.1)) s
  let fr : PxcFrame :=
    { f := f, launch := l, slot := s.pxcSlot q (s.raf p Reg.pxcCfg 7 4), cfg := s.ra p Reg.pxcCfg,
      canvas := s.ra p Reg.pxcCanvas, bg := s.ra p Reg.pxcBg, phColour := s.ra p Reg.pxcPlaceholder,
      layers := es.map fun x => (x.1, x.2.1) }
  s.setPipe q fun x => { x with frame := some fr, frozen := (es.filter fun x => x.2.2).map (·.1) }

/-- R455. -/
def execPxcFrameLaunch (pipe : Nat) (s : State) : Host.Outcome State Fault Refusal :=
  let p := pxcPage pipe
  let l := s.wale64
  let x := s.pipe pipe
  .next
    (if s.stepDue 7 && s.ready p && decide (s.raf p Reg.pxcCfg 0 0 = 1) && x.launched ≠ some l && x.frame.isNone &&
        !s.heldBack (.pipe pipe) then
      match frameAt (s.raf p Reg.pxcCfg 2 1) l with
      | none => s
      | some f =>
        let s := (s.atStep 7).setPipe pipe fun x => { x with launched := some l, skip := false }
        if x.skip then s else s.pxcStart pipe f l
     else s)

/-! ## Publication (R471 to R473) -/

/-- The encodes that wait for a pipe's frame are decremented (R473). [DEDUCED, log 60] -/
def State.pxcWaits (s : State) (q : Nat) : State :=
  (s.pipe q).waits.foldl (fun s id => s.rveDecrement (pxcPort q) id) (s.setPipe q fun x => { x with waits := [] })

/-- A mask with the bit of each layer that p selects. -/
def layerMask (ls : List (Nat × PxcLayer)) (p : PxcLayer → Bool) : Nat := (ls.map fun x => if p x.2 then 2 ^ x.1 else 0).sum

/-- A frame's samples are written, and it is published. [DEDUCED, log 60] -/
def State.pxcPublish (s : State) (q : Nat) (f : PxcFrame) : State :=
  let p := pxcPage q
  let bad := (f.layers.filter fun x => s.layerPoison x.2).map (·.1)
  let (luma, chroma) := s.frameSamples f
  let at_ := s.rd64 p Reg.pxcOutBase Reg.pxcOutBaseHi +
    f.slot * slotBytes (s.rf p Reg.pxcOutMax 12 0) (s.rf p Reg.pxcOutMax 28 16) 1
  let s := s.putPicture at_ (slotStride f.w f.deep) f.h f.deep f.w f.h luma chroma
  let s := if bad = [] then s else
    ((s.bump p .pxcSrcPoison).raise p .pxcSrcPoison (bad.headD 0) f.f).diverge 4 13
  let s := (s.bump p .pxcFrames).bumpN p .pxcPixels (f.w * f.h)
  (s.setPipe q fun x =>
    let r : PxcRec := { slot := f.slot, valid := true, w := f.w, h := f.h, f := f.f, launch := f.launch,
                        frozen := layerMask f.layers (·.frozen), ph := layerMask f.layers (·.ph),
                        deep := f.deep, count := (x.count + 1) % 2 ^ 32 }
    { x with undo := if s.following then some (f, x.recs, x.next, x.count) else x.undo, frame := none, recs := x.recs.set x.next r, next := (x.next + 1) % 4, count := (x.count + 1) % 2 ^ 32 }).pxcWaits q

/-- A frame is abandoned at step 3 (R456). -/
def State.pxcAbandon (s : State) (q : Nat) (f : PxcFrame) : State :=
  let p := pxcPage q
  let s := s.setPipe q fun x => { x with frame := none, skip := true }
  (((s.bump p .pxcFrameLate).raise p .pxcFrameLate f.f f.launch).layItem 6 q 0 f.f).pxcWaits q

/-- The active abandoned a frame that this standby does not compose: where it published it last, the records are as before it
(R610). -/
def State.pxcUndo (s : State) (q fr : Nat) : State :=
  match (s.pipe q).undo with
  | some (f, recs, next, count) =>
    if f.f = fr then (s.setPipe q fun x => { x with recs := recs, next := next, count := count, undo := none }).pxcAbandon q f
    else s
  | none => s

/-- The pipe's next launch wale after a frame has come (R456). A standby abandons what the record names (R610). -/
def State.pxcDue (s : State) (f : PxcFrame) : Bool := !s.following && decide (launchOf (fld f.cfg 2 1) (f.f + 1) ≤ s.wale64)

/-- R472. A frame that completes at the next launch wale or later is abandoned (R456). -/
def execPxcFramePublish (pipe : Nat) (s : State) : Host.Outcome State Fault Refusal :=
  match (s.pipe pipe).frame with
  | some f => .next (if s.pxcDue f then s.pxcAbandon pipe f else s.pxcPublish pipe f)
  | none => .next s

/-- R456. -/
def execPxcFrameLate (pipe : Nat) (s : State) : Host.Outcome State Fault Refusal :=
  match (s.pipe pipe).frame with
  | some f =>
    .next
      (if s.stepDue 3 && s.pxcDue f then (s.atStep 3).pxcAbandon pipe f else s)
  | none => .next s

/-- A record's words (R472). -/
def PxcRec.words (r : PxcRec) : List Word :=
  let w (x : Nat) : Word := BitVec.ofNat 32 x
  [w (r.slot + r.valid.toNat * 16), w (r.w + r.h * 2 ^ 16), w r.f, w r.launch, w (r.frozen + r.ph * 2 ^ 16), w r.count]

/-! ## Commits (R465, R466, R469) -/

/-- NEED and WMAX of a layer's line buffer. -/
def lineNeed (e : List Word) : Nat × Nat :=
  let nv := if lySh e ≤ lyDh e then 4 else (lySh e + lyDh e - 1) / lyDh e + 2
  let p := if lyKind e = 2 then 3 else 2
  (nv * lyDw e * p, 32768 / (nv * p) / 2 * 2)

/-- The cause of R469 that a layer meets, 0 for none. `cw` and `ch` are the canvas. [DEDUCED, log 60] -/
def State.layerCause (s : State) (q : Nat) (e : List Word) (cw ch : Nat) : Nat :=
  let k := lyKind e
  let even (x : Nat) : Bool := x % 2 = 0
  let size (w h : Nat) : Bool := decide (2 ≤ w ∧ w ≤ 4096 ∧ 2 ≤ h ∧ h ≤ 2304)
  let dst := even (lyDx e) && even (lyDy e) && even (lyDw e) && even (lyDh e) && size (lyDw e) (lyDh e) &&
    decide (lyDx e + lyDw e ≤ cw ∧ lyDy e + lyDh e ≤ ch)
  let src := even (lySx e) && even (lySy e) && even (lySw e) && even (lySh e) && size (lySw e) (lySh e)
  let host := k = 1 || k = 2
  let buf := !host || (even (lyBw e) && even (lyBh e) && decide (lySx e + lySw e ≤ lyBw e ∧ lySy e + lySh e ≤ lyBh e))
  let h := lyBuf e
  let need := if k = 1 then lyStride e * (lyBh e + lyBh e / 2) else lyStride e * lyBh e
  let has := (s.owners h).contains (s.portOwner (pxcPort q)) && decide (need ≤ s.bufSize h) &&
    decide (lyBw e * (if k = 2 then 4 else 1 + lyDeep e) ≤ lyStride e)
  if !dst || (k ≠ 3 && !(src && buf)) then 2
  else if k ≠ 3 && decide (8 * lyDw e < lySw e ∨ 8 * lyDh e < lySh e ∨ 8 * lySw e < lyDw e ∨ 8 * lySh e < lyDh e) then 3
  else if host && !has then 4
  else if k = 0 && !dEn (s.decEnt (efld e 0 16 12) (efld e 0 31 24)) then 5
  else if host && decide (lyStride e % 64 ≠ 0) then 6
  else 0

/-- What refuses a commit of a pipe: an event with its arguments. -/
def State.pxcInvalid (s : State) (q : Nat) : Option (Event × Nat × Nat) :=
  let p := pxcPage q
  let w := s.rf p Reg.pxcCanvas 12 0
  let h := s.rf p Reg.pxcCanvas 28 16
  let bad (entry cause : Nat) : Option (Event × Nat × Nat) := some (.pxcLayerInvalid, entry + cause * 2 ^ 8, 0)
  let es := ((List.range 16).map fun k => (k, s.tget p 0 1 k)).filter fun x => lyEn x.2
  if !decide (64 ≤ w ∧ w ≤ 4096 ∧ 64 ≤ h ∧ h ≤ 2304 ∧ w % 8 = 0 ∧ h % 8 = 0 ∧ w ≤ s.rf p Reg.pxcOutMax 12 0 ∧
      h ≤ s.rf p Reg.pxcOutMax 28 16) then bad 0xF 1
  else if !decide (6 ≤ s.rf p Reg.pxcCfg 7 4) then bad 0xF 6
  else
    match es.find? fun x => s.layerCause q x.2 w h ≠ 0 with
    | some x => bad x.1 (s.layerCause q x.2 w h)
    | none =>
      (es.find? fun x => lyKind x.2 ≠ 3 && decide (32768 < (lineNeed x.2).1)).map fun x =>
        (.pxcLinebuf, x.1 + (lineNeed x.2).2 * 2 ^ 16, (lineNeed x.2).1)

/-- The shadows of a pipe come into force. -/
def State.pxcApply (s : State) (q : Nat) : State := s.tableApply (pxcPage q) 0

end Sys2Proof.Machine
end

