-- ==== Sys2Proof/Machine/Motion.lean ====
section
/-!
DEFINITION. What an encoder reads and writes as samples: its source (R393), its reference store (R386, R390, R447), and the
motion search over its references (R396, R397, R426).
-/

namespace Sys2Proof.Machine

/-! ## Samples in DRAM -/

/-- The address of a sample: component 0 luma, 1 Cb, 2 Cr. -/
def PicView.sampleAddr (v : PicView) (c x y : Nat) : Nat :=
  if c = 0 then v.addr + v.stride * y + x * (1 + v.deep)
  else v.addr + v.stride * (v.rows + y) + (2 * x + (c - 1)) * (1 + v.deep)

/-- A sample of a picture. One in a poisoned line is open: the spec gives its value to the Pixel Compositor alone (R461).
[DESIGN CHOICE, log 56] -/
def State.viewSample (s : State) (v : PicView) (c x y : Nat) : Nat :=
  let a := v.sampleAddr c x y
  if s.poisoned a then Config.poisonSample a % (if v.deep = 1 then 1024 else 256)
  else if v.deep = 1 then ((s.dramByte a).toNat + 256 * (s.dramByte (a + 1)).toNat) / 64
  else (s.dramByte a).toNat

/-! ## The source (R393) -/

/-- A sample of one depth at another (1 for 10 bits); 8 bits end at 255. -/
def recode (src dst v : Nat) : Nat := if src = dst then v else if dst = 1 then 4 * v else min 255 ((v + 2) / 4)

/-- Where the samples of a source lie; none for mid-grey. -/
def State.sourceView (s : State) (src : PicSrc) : Option PicView :=
  match src with
  | .grey => none
  | .dec n m count =>
    let d := s.decEnt n m
    ((s.decStream n m).recs.find? fun r => r.valid && decide (r.count = count)).map fun r =>
      { addr := dBase d + r.slot * slotBytes (dMaxW d) (dMaxH d) (dDepth d), stride := slotStride (dMaxW d) (dDepth d),
        rows := dMaxH d, w := 8 * r.w8, h := 8 * r.h8, deep := dDepth d }
  | .pxc q slot =>
    let p := pxcPage q
    ((s.pipe q).recs.find? fun r => r.valid && decide (r.slot = slot)).map fun r =>
      { addr := s.rd64 p Reg.pxcOutBase Reg.pxcOutBaseHi +
          slot * slotBytes (s.rf p Reg.pxcOutMax 12 0) (s.rf p Reg.pxcOutMax 28 16) 1,
        stride := slotStride r.w r.deep, rows := r.h, w := r.w, h := r.h, deep := r.deep }

/-- A sample of the source as spatial layer k codes it: scaled to the layer, then taken to the coded depth. -/
def State.sourceSample (s : State) (e : List Word) (k : Nat) (view : Option PicView) (c x y : Nat) : Nat :=
  match view with
  | none => if eDepth e = 1 then 512 else 128
  | some v =>
    let (w, h) := eLayer e k
    let half (n : Nat) : Nat := if c = 0 then n else n / 2
    recode v.deep (eDepth e)
      (if v.w = w ∧ v.h = h then s.viewSample v c x y
       else scale2 (half v.w) (half w) (half v.h) (half h) (if v.deep = 1 then 1023 else 255) (s.viewSample v c) x y)

/-- A row of eight through the Hadamard transform. -/
def hadamard8 (x : List Int) : List Int :=
  let step (d : Nat) (x : List Int) : List Int :=
    (List.range 8).map fun i => if i / d % 2 = 0 then x.getD i 0 + x.getD (i + d) 0 else x.getD (i - d) 0 - x.getD i 0
  step 4 (step 2 (step 1 x))

/-- The sum of the absolute transformed differences of an 8 × 8 block. -/
def satd8 (f : Nat → Nat → Nat) (x y : Nat) : Nat :=
  let rows := (List.range 8).map fun j => hadamard8 ((List.range 8).map fun i => (f (x + i) (y + j) : Int))
  let cols := (List.range 8).map fun i => hadamard8 (rows.map fun r => r.getD i 0)
  (cols.map fun c => (c.map Int.natAbs).sum).sum

/-- The complexity of CTU i of a layer (R407). -/
def State.ctuSatd (s : State) (e : List Word) (k : Nat) (view : Option PicView) (i : Nat) : Nat :=
  let (w, h) := eLayer e k
  let n := (eGridOf e k).1
  ((List.range 8).flatMap fun b => (List.range 8).map fun a =>
    let x := i % n * 64 + 8 * a
    let y := i / n * 64 + 8 * b
    if x < w ∧ y < h then satd8 (s.sourceSample e k view 0) x y else 0).sum

/-! ## The reference store (R386, R390) -/

/-- Where an entry's reference store begins. -/
def eRefBase (e : List Word) : Nat := efld e 12 31 0 + efld e 13 31 0 * 2 ^ 32

/-- Stride, bytes of a picture slot and bytes of a motion-field area of layer k. -/
def refSizes (e : List Word) (k : Nat) : Nat × Nat × Nat :=
  let (w, h) := eLayer e k
  let stride := slotStride w (eDepth e)
  (stride, ((stride * h * 3 + 1) / 2 + 4095) / 4096 * 4096, ((w + 15) / 16 * ((h + 15) / 16) * 8 + 4095) / 4096 * 4096)

/-- Where the store of layer k begins: the layers follow one another. -/
def refLayerBase (e : List Word) (k : Nat) : Nat :=
  eRefBase e + ((List.range k).map fun j => 3 * ((refSizes e j).2.1 + (refSizes e j).2.2)).sum

/-- The picture in a slot of layer k. -/
def refView (e : List Word) (k slot : Nat) : PicView :=
  let (w, h) := eLayer e k
  { addr := refLayerBase e k + slot * (refSizes e k).2.1, stride := (refSizes e k).1, rows := h, w := w, h := h,
    deep := eDepth e }

/-- The motion-field area of a slot of layer k: after the three picture slots. -/
def motionAddr (e : List Word) (k slot : Nat) : Nat :=
  refLayerBase e k + 3 * (refSizes e k).2.1 + slot * (refSizes e k).2.2

/-- The slot that a picture is reconstructed in: the lowest that holds no reference. -/
def EncStream.freeSlot (x : EncStream) : Nat :=
  ((List.range 3).find? fun i => !(x.refs.map (·.slot)).contains i).getD 0

/-- The references after a picture at temporal layer t of a mode, kept in `slot`: at most two (R386, R447). -/
def keepRefs (mode t f slot : Nat) (refs : List RefPic) : List RefPic :=
  if t = 0 then [⟨f, 0, slot⟩]
  else if t + 1 < temporals mode then ⟨f, t, slot⟩ :: refs.filter (·.t = 0)
  else refs

/-- An L mode: a layer may be predicted from the one below (R385). -/
def interLayer (mode : Nat) : Bool := mode = 3 || mode = 4

/-- What layer k of a picture may refer to, as layer and slot, in the order of R407's reference numbers: the nearest earlier
picture of its own layer that R386 names, then in an L mode the layer below. A keyframe refers to no earlier picture. -/
def EncStream.refsOf (x : EncStream) (pic : EncPic) (k : Nat) : List (Nat × Nat) :=
  let t := tLayer (eMode pic.ent) pic.p
  let own := if pic.key then [] else ((x.refs.find? fun r => decide (r.t < t ∨ r.t = 0)).map fun r => (k, r.slot)).toList
  if interLayer (eMode pic.ent) && decide (0 < k) then own ++ [(k - 1, pic.slot)] else own

/-! ## The search (R396, R397) -/

/-- What a search works on: codec, sizes of reference and picture, source, reference with its edges extended, the block, its
CTU's corner, the piece that it is confined to (first and past the last luma column and row), and λ with the coder's state. -/
structure Search where
  codec : Nat
  refSize : Nat × Nat
  size : Nat × Nat
  cur : Nat → Nat → Nat
  ref : Int → Int → Nat
  x : Nat
  y : Nat
  w : Nat
  h : Nat
  piece : Option (Nat × Nat × Nat × Nat)
  lambda : Nat
  ctx : Nat

/-- A candidate: its vector in quarter pels, and its score. -/
structure Cand where
  mvx : Int
  mvy : Int
  cost : Nat
  deriving DecidableEq, Repr

/-- The order of R397: the lower score, then the smaller |mvx| + |mvy|, the smaller mvy and the smaller mvx. -/
def Cand.before (a b : Cand) : Bool :=
  let m (c : Cand) : Nat := c.mvx.natAbs + c.mvy.natAbs
  if a.cost ≠ b.cost then decide (a.cost < b.cost)
  else if m a ≠ m b then decide (m a < m b)
  else if a.mvy ≠ b.mvy then decide (a.mvy < b.mvy)
  else decide (a.mvx ≤ b.mvx)

/-- The first candidate in that order. -/
def bestCand : List Cand → Option Cand
  | [] => none
  | c :: r =>
    match bestCand r with
    | none => some c
    | some b => if c.before b then some c else some b

/-- The samples that a prediction reads in one direction from integer position p on, for n samples displaced by a vector with
2^bits positions a sample: first and past the last (R426). -/
def support (p n : Nat) (mv : Int) (bits left right : Nat) : Int × Int :=
  let i := mv / 2 ^ bits
  if mv % 2 ^ bits = 0 then (p + i, p + i + n) else (p + i - left, p + i + n + right)

/-- A range of samples lies in [lo, hi). -/
def within (r : Int × Int) (lo hi : Int) : Bool := decide (lo ≤ r.1 ∧ r.2 ≤ hi)

/-- A vector may be used: its components keep the bounds of R396, the samples read lie in the CTU's window, and in a tile-ready
encode luma and chroma samples lie in the piece (R426). -/
def Search.admits (q : Search) (mvx mvy : Int) : Bool :=
  let cx : Int := q.x / 64 * 64
  let cy : Int := q.y / 64 * 64
  let lx := support q.x q.w mvx 2 3 4
  let ly := support q.y q.h mvy 2 3 4
  decide (mvx.natAbs ≤ 1024 ∧ mvy.natAbs ≤ 512) && within lx (cx - 264) (cx + 328) && within ly (cy - 136) (cy + 200) &&
    match q.piece with
    | none => true
    | some (px0, px1, py0, py1) =>
      within lx px0 px1 && within ly py0 py1 &&
        within (support (q.x / 2) (q.w / 2) mvx 3 1 2) (px0 / 2 : Nat) (px1 / 2 : Nat) &&
        within (support (q.y / 2) (q.h / 2) mvy 3 1 2) (py0 / 2 : Nat) (py1 / 2 : Nat)

/-- The luma sample of the prediction at a position of the picture in quarter pels. -/
def Search.predicted (q : Search) (x4 y4 : Int) : Nat :=
  if q.refSize = q.size ∧ x4 % 4 = 0 ∧ y4 % 4 = 0 then q.ref (x4 / 4) (y4 / 4)
  else Config.interpolate q.codec q.refSize q.size q.ref x4 y4

/-- The SAD of the block under a vector. -/
def Search.sad (q : Search) (mvx mvy : Int) : Nat :=
  ((List.range q.h).map fun j => ((List.range q.w).map fun i =>
    ((q.cur (q.x + i) (q.y + j) : Int) - q.predicted (4 * (q.x + i : Nat) + mvx) (4 * (q.y + j : Nat) + mvy)).natAbs).sum).sum

/-- Its SAD at quarter resolution. -/
def Search.quarterSad (q : Search) (mvx mvy : Int) : Nat :=
  let cur (x y : Int) : Nat := q.cur (clampTo (q.size.1 - 1) x) (clampTo (q.size.2 - 1) y)
  ((List.range ((q.h + 3) / 4)).map fun j => ((List.range ((q.w + 3) / 4)).map fun i =>
    let x : Int := q.x / 4 + i
    let y : Int := q.y / 4 + j
    ((Config.quarter cur x y : Int) - Config.quarter q.ref (x + mvx / 16) (y + mvy / 16)).natAbs).sum).sum

/-- A score: SAD + ((λ × bits of the vector) >> 8). -/
def Search.score (q : Search) (sad : Nat) (mvx mvy : Int) : Nat :=
  sad + q.lambda * Config.vectorBits q.codec q.ctx mvx mvy / 256

/-- The candidates of a stage: those vectors of a list that may be used, scored by the SAD of the stage. -/
def Search.cands (q : Search) (sad : Int → Int → Nat) (mvs : List (Int × Int)) : List Cand :=
  (mvs.filter fun v => q.admits v.1 v.2).map fun v => ⟨v.1, v.2, q.score (sad v.1 v.2) v.1 v.2⟩

/-- The vectors around a centre: n steps to each side. -/
def around (cx cy : Int) (n step : Nat) : List (Int × Int) :=
  (List.range (2 * n + 1)).flatMap fun j => (List.range (2 * n + 1)).map fun i =>
    (cx + ((i : Int) - n) * step, cy + ((j : Int) - n) * step)

/-- The whole window at quarter resolution. -/
def quarterGrid : List (Int × Int) :=
  (List.range 65).flatMap fun j => (List.range 129).map fun i => (((i : Int) - 64) * 16, ((j : Int) - 32) * 16)

/-- The procedure of R397: the whole window at quarter resolution, the four best candidates within ±8 at full pel, and the best of
those at half pel and then at quarter pel. -/
def Search.run (q : Search) : Int × Int :=
  let four := ((q.cands q.quarterSad quarterGrid).mergeSort Cand.before).take 4
  let full := bestCand (q.cands q.sad (four.flatMap fun c => around c.mvx c.mvy 8 4))
  let refine (step : Nat) (b : Option Cand) : Option Cand :=
    b.bind fun c => bestCand (q.cands q.sad (around c.mvx c.mvy 1 step))
  match refine 1 (refine 2 full) with
  | some c => (c.mvx, c.mvy)
  | none => (0, 0)

/-- A reference picture with its edges extended. -/
def State.refSample (s : State) (v : PicView) (x y : Int) : Nat := s.viewSample v 0 (clampTo (v.w - 1) x) (clampTo (v.h - 1) y)

/-- The search of a block of layer k of a picture against a reference, at a QP. -/
def State.searchOf (s : State) (pic : EncPic) (k : Nat) (b : BlockStat) (r : Nat × Nat)
    (piece : Option (Nat × Nat × Nat × Nat)) (qp : Nat) : Search :=
  let v := refView pic.ent r.1 r.2
  { codec := eCodec pic.ent, refSize := (v.w, v.h), size := eLayer pic.ent k, cur := s.sourceSample pic.ent k pic.view 0,
    ref := s.refSample v, x := b.x, y := b.y, w := b.w, h := b.h, piece := piece, lambda := Config.lambda qp, ctx := b.ctx }

/-- A block's vector, reference and SAD: an inter block's vector is the search's, a skip's is the coder's. -/
def State.blockOf (s : State) (pic : EncPic) (k : Nat) (b : BlockStat) (refs : List (Nat × Nat))
    (piece : Option (Nat × Nat × Nat × Nat)) (qp : Nat) : Int × Int × Nat × Nat :=
  if b.ref = 0xFF then (b.mvx, b.mvy, b.ref, b.sad)
  else
    match refs[if b.ref = 0xFE then 0 else b.ref]? with
    | none => (b.mvx, b.mvy, b.ref, b.sad)
    | some r =>
      let q := s.searchOf pic k b r piece qp
      let v := if b.ref = 0xFE then (b.mvx, b.mvy) else q.run
      (v.1, v.2, b.ref, q.sad v.1 v.2 / 4)

/-- A block lies in one CTU of its layer and refers to what it may refer to. -/
def State.blockOk (s : State) (pic : EncPic) (k : Nat) (b : BlockStat) (refs : List (Nat × Nat))
    (piece : Option (Nat × Nat × Nat × Nat)) : Bool :=
  let (w, h) := eLayer pic.ent k
  let n := (w + 15) / 16
  decide (b.at_ < n * ((h + 15) / 16)) && decide (0 < b.w ∧ 0 < b.h ∧ b.x + b.w ≤ w ∧ b.y + b.h ≤ h) &&
    decide (b.x / 64 = (b.x + b.w - 1) / 64 ∧ b.y / 64 = (b.y + b.h - 1) / 64) &&
    decide (b.at_ % n / 4 = b.x / 64 ∧ b.at_ / n / 4 = b.y / 64) &&
    (b.ref = 0xFF || decide (b.ref < refs.length) ||
      (b.ref = 0xFE &&
        match refs[0]? with
        | some r => (s.searchOf pic k b r piece 0).admits b.mvx b.mvy
        | none => false))

/-- A reconstructed layer and its motion field are written to the store. -/
def State.putRef (s : State) (e : List Word) (k slot : Nat) (luma chroma : List Nat)
    (blocks : List (Nat × Int × Int × Nat × Nat)) : State :=
  let v := refView e k slot
  let s := s.putPicture v.addr v.stride v.rows v.deep v.w v.h luma chroma
  blocks.foldl (fun s b => s.dramPut (motionAddr e k slot + 8 * b.1) (leBytes 8 (Config.motionEntry b.2.1 b.2.2.1 b.2.2.2.1))) s

end Sys2Proof.Machine
end

