-- ==== Sys2Proof/Machine/Coded.lean ====
section
/-!
DEFINITION. What a coded unit is held to: the marks of R387, the packets of R403 and R404, and the fixed syntax of tile-ready
pictures (R426 to R428, R445 to R447), which Weave writes too.
-/

namespace Sys2Proof.Machine

/-! ## The references of a picture (R386, R387, R447) -/

/-- How many temporal units before its own a picture at position p refers to (R386, R447). -/
def refDistance (mode p : Nat) : Nat :=
  if temporals mode = 1 then 1
  else if temporals mode = 2 then (if p % 2 = 0 then 2 else 1)
  else [4, 1, 2, 1].getD (p % 4) 1

/-- A picture of spatial layer g and temporal layer t belongs to decode target (k, u) of a mode: in an L mode a target takes in
the layers below. -/
def inTarget (mode g t k u : Nat) : Bool :=
  decide (t ≤ u) && (if interLayer mode then decide (g ≤ k) else decide (g = k))

/-- No later frame of target (k, u) refers to a frame before that of layer g at position p (R387); the frames of a keyframe's own
temporal unit refer to none before it. -/
def noneReachesBack (mode : Nat) (key : Bool) (g p k u : Nat) : Bool :=
  (List.range 5).all fun j => (List.range (spatials mode)).all fun i =>
    let later := decide (0 < j ∨ g < i)
    let d := refDistance mode (p + j)
    !later || !inTarget mode i (tLayer mode (p + j)) k u || (decide (j = 0) && key) ||
      decide (d < j ∨ d = j ∧ g ≤ i)

/-- The targets into which an AV1 frame is marked Switch (R387). -/
def av1Switch (mode : Nat) (key : Bool) (g p : Nat) : Nat :=
  targetMask fun c =>
    decide (c / 3 < spatials mode ∧ c % 3 < temporals mode) && inTarget mode g (tLayer mode p) (c / 3) (c % 3) &&
      noneReachesBack mode key g p (c / 3) (c % 3)

/-- SWITCH_MASK of a packet of spatial layer k (R387, R404). -/
def switchMask (e : List Word) (key : Bool) (k p : Nat) : Nat :=
  let t := tLayer (eMode e) p
  if eCodec e = 0 then av1Switch (eMode e) key k p
  else if key then allTargets
  else if eCodec e = 1 then (if 0 < t then 2 ^ (3 * k + t) else 0)
  else if t = 1 ∨ (t = 2 ∧ p = 1) then 2 ^ (3 * k + t) else 0

/-- The reference of a picture (R447): POC delta, a picture kept, and for AV1 the slot referred to and the slots refreshed. -/
def refOf (mode p : Nat) (key : Bool) : List Nat :=
  if key then [0, 0, 0, 0xFF]
  else if mode = 0 then [1, 0, 0, 1]
  else if mode = 1 then (if p % 2 = 0 then [2, 0, 0, 1] else [1, 0, 0, 0])
  else [[4, 0, 0, 1], [1, 0, 0, 0], [2, 0, 0, 2], [1, 3, 1, 0]].getD p [0, 0, 0, 0]

/-! ## The fixed syntax of tile-ready pictures (R427, R428) -/

/-- The HEVC syntax elements that R427 fixes, with R445's tile elements. -/
def hevcFixed : List (String × Nat) :=
  [("loop_filter_across_tiles_enabled_flag", 0), ("pps_loop_filter_across_slices_enabled_flag", 0),
   ("sps_temporal_mvp_enabled_flag", 0), ("entropy_coding_sync_enabled_flag", 0),
   ("dependent_slice_segments_enabled_flag", 0), ("init_qp_minus26", 0), ("cu_qp_delta_enabled_flag", 1),
   ("diff_cu_qp_delta_depth", 0), ("num_ref_idx_l0_default_active_minus1", 0), ("sample_adaptive_offset_enabled_flag", 1),
   ("log2_max_pic_order_cnt_lsb_minus4", 12), ("num_short_term_ref_pic_sets", 0), ("long_term_ref_pics_present_flag", 0),
   ("tiles_enabled_flag", 1), ("uniform_spacing_flag", 0), ("num_entry_point_offsets", 0)]

/-- The AV1 syntax elements that R428 fixes, with R446's; an interpolation_filter of 0 is EIGHTTAP. -/
def av1Fixed : List (String × Nat) :=
  [("loop_filter_level[0]", 0), ("loop_filter_level[1]", 0), ("loop_filter_level[2]", 0), ("loop_filter_level[3]", 0),
   ("enable_cdef", 0), ("enable_restoration", 0), ("primary_ref_frame", 7), ("disable_frame_end_update_cdf", 1),
   ("use_ref_frame_mvs", 0), ("allow_warped_motion", 0), ("reference_select", 0), ("skip_mode_present", 0),
   ("allow_intrabc", 0), ("allow_high_precision_mv", 0), ("is_filter_switchable", 0), ("interpolation_filter", 0),
   ("base_q_idx", 128), ("delta_q_present", 1), ("delta_q_res", 0), ("delta_lf_present", 0), ("DeltaQYDc", 0),
   ("DeltaQUDc", 0), ("DeltaQUAc", 0), ("using_qmatrix", 0), ("segmentation_enabled", 0), ("enable_order_hint", 1),
   ("order_hint_bits", 8), ("show_frame", 1), ("uniform_tile_spacing_flag", 0), ("context_update_tile_id", 0),
   ("tile_start_and_end_present_flag", 0), ("tile_size_bytes_minus_1", 3)]

/-- The values that a standard's headers fix. -/
def fixedSyntax (codec : Nat) : List Nat := (if codec = 1 then hevcFixed else av1Fixed).map (·.2)

/-- A canvas as the parameter sets and frame headers show it: codec, depth, rate, mode, level, and the columns' widths and the
rows' heights in CTUs, with the values that are fixed. -/
def canvasVals (codec depth fps mode level : Nat) (ws hs : List Nat) : List Nat :=
  [codec, depth, fps, mode, level, ws.length, hs.length] ++ ws ++ hs ++ fixedSyntax codec

/-- A parameter set of HEVC, by its NAL unit type (R445). -/
def hevcSet (vals : List Nat) (ty : Nat) : List Byte := beBytes 1 (ty * 2) ++ beBytes 1 1 ++ Config.weaveSyntax (ty :: vals)

/-- The sequence header OBU of AV1 (R446). -/
def av1Sequence (vals : List Nat) : List Byte := Config.weaveSyntax (1 :: vals)

/-- The frame header OBU of AV1 (R446): a key frame or not, its order hint, and its reference and refreshed slots. -/
def av1Frame (vals : List Nat) (key : Bool) (hint : Nat) (ref : List Nat) : List Byte :=
  Config.weaveSyntax ([3, key.toNat, hint] ++ ref ++ vals)

/-- The offset from the fixed base that carries a QP in a tile-ready unit (R426, R428): 10-bit HEVC adds 12 to it (R399). -/
def qpOffset (codec depth qp : Nat) : Int := if codec = 0 then 5 * (qp : Int) - 128 else (qp : Int) + 12 * depth - 26

/-! ## Packets and their contents (R387, R403, R404) -/

/-- Bytes that each follow a 4-byte length (R404, OUT_MODE 1). -/
def lenUnits : Nat → List Byte → List (List Byte)
  | 0, _ => []
  | n + 1, b =>
    if b.length < 4 then []
    else
      let k := leNat (b.take 4)
      (b.drop 4).take k :: lenUnits n (b.drop (4 + k))

/-- One payload keeps the packetisation of R404: no aggregation but AV1's with W 1 or 2. -/
def payloadOk (codec : Nat) (b : List Byte) : Bool :=
  let h := (b.getD 0 0).toNat
  if codec = 0 then decide (h / 16 % 4 = 1 ∨ h / 16 % 4 = 2)
  else if codec = 1 then h / 2 % 64 ≠ 48 else decide (h % 32 < 24 ∨ h % 32 = 28)

/-- The NAL units or OBUs that the packets of a unit hold; none where they violate R404. -/
def unitNals (e : List Word) (bodies : List (List Byte)) : Option (List (List Byte)) :=
  if eOutMode e = 1 then
    match bodies with
    | [b] => some (lenUnits b.length b)
    | _ => none
  else if bodies.all fun b => decide (b.length ≤ eMaxPkt e) && payloadOk (eCodec e) b then depay (eCodec e) bodies
  else none

/-- The place of a unit in its picture: it is the first of its temporal unit, of its layer, the last of its layer. -/
structure UnitPlace where
  first : Bool
  opens : Bool
  closes : Bool

/-- A NAL unit or OBU that carries coded samples. -/
def codesSamples (codec ty : Nat) : Bool :=
  if codec = 0 then decide (ty = 3 ∨ ty = 4 ∨ ty = 6) else if codec = 1 then decide (ty < 32) else decide (1 ≤ ty ∧ ty ≤ 5)

/-- A NAL unit or OBU has the type that R387 and R429 give: HEVC keyframes are IDR_N_LP and pictures of T > 0 TSA_N or TSA_R, AVC
keyframes are IDR; a refresh picture uses the syntax of an inter picture. -/
def nalOk (e : List Word) (key : Bool) (t : Nat) (b : List Byte) : Bool :=
  let c := eCodec e
  let ty := nalType c b
  let idr := key && !eTile e
  if !codesSamples c ty || c = 0 then true
  else if c = 1 then
    (b.getD 1 0).toNat % 8 = t + 1 &&
      (if idr then ty = 20 else if t = 0 then decide (ty ≤ 1) else decide (ty = 2 ∨ ty = 3))
  else if idr then ty = 5 else ty = 1

/-- The parameter sets of a tile-ready unit, and AV1's sequence and frame headers, equal those that Weave writes for a canvas of
the stream's size and tiles (R426 to R428). -/
def State.tileSyntaxOk (s : State) (e : List Word) (p : Nat) (b : List Byte) : Bool :=
  let c := eCodec e
  let (n, r) := eGridOf e 0
  let sp := s.splitOf (eGrid e)
  let vals := canvasVals c (eDepth e) (eFps e) (eMode e) (eLevel e) ((pieces sp.1 n).map (·.2)) ((pieces sp.2 r).map (·.2))
  let ty := nalType c b
  if c = 1 then !isSet 1 ty || b = hevcSet vals ty
  else if ty = 1 then b = av1Sequence vals
  else if ty = 3 then (List.range 256).any fun h => b = av1Frame vals false h ((refOf (eMode e) p false).drop 2)
  else true

/-- The units' contents: parameter sets travel with the first unit of the picture, which holds a keyframe's. -/
def State.nalsOk (s : State) (e : List Word) (pic : EncPic) (k : Nat) (u : UnitPlace) (nals : List (List Byte)) : Bool :=
  let c := eCodec e
  let types := nals.map (nalType c)
  let idr := pic.key && !eTile e
  types.any (codesSamples c) && nals.all (nalOk e pic.key (tLayer (eMode e) pic.p)) &&
    (u.first || !types.any (isSet c)) && (!(u.first && idr) || (setsNeeded c).all types.contains) &&
    (c ≠ 0 || decide (nals.any av1Key = (idr && decide (k = 0) && u.opens))) &&
    (!eTile e || nals.all (s.tileSyntaxOk e pic.p))

/-- The marks of a packet (R387): AV1's dependency descriptor read under the structure `st` that the stream's descriptors carried
last, or AVC's frame marking element, which travels in its place; none for HEVC. `a` and `z` say that the packet is the first and
the last of its frame, `top` that it is the first of its temporal unit. The structure held afterwards; none where the marks are
others. -/
def marksOk (e : List Word) (pic : EncPic) (k : Nat) (st : TStruct) (dd : List Byte) (a z top : Bool) : Option TStruct :=
  let c := eCodec e
  let code := 3 * k + tLayer (eMode e) pic.p
  let sw := switchMask e pic.key k pic.p
  let same (l : Layer) : Bool := decide (l.code = code ∧ l.start = a ∧ l.last = z ∧ l.sw = sw)
  if c = 0 then
    let (l, new) := ddLayer dd st
    if same l && decide (new.isSome = (pic.key && top)) then some (new.getD st) else none
  else if c = 1 then (if dd = [] then some st else none)
  else
    let l := avcLayer dd
    if decide (dd.length = 1 ∨ dd.length = 3) && same l && decide (l.key = pic.key) then some st else none

/-- The marks of a unit's packets in order. -/
def packetMarks (e : List Word) (pic : EncPic) (k : Nat) (u : UnitPlace) :
    Bool → TStruct → List (List Byte) → Option TStruct
  | _, st, [] => some st
  | first, st, dd :: r =>
    match marksOk e pic k st dd (first && u.opens) (r.isEmpty && u.closes) (first && u.first) with
    | some st => packetMarks e pic k u false st r
    | none => none

end Sys2Proof.Machine
end

