-- ==== Sys2Proof/Machine/Vce.lean ====
section
/-!
DEFINITION. The video encoders: launch, the start and end of an encode, units, statistics, refresh and the validation of
encode streams (R383 to R407, R425, R429).
-/

namespace Sys2Proof.Machine

/-! ## Launch (R391) -/

/-- The descriptor of the encode of frame f. -/
def encDesc (e : List Word) (n m f : Nat) (wait : Bool) : List Word :=
  let w (x : Nat) : Word := BitVec.ofNat 32 x
  [w (eClass e + 2 ^ 7 + wait.toNat * 2 ^ 8), w (launchOf (eFps e) (f + 1)), 0, 0, 1, w (encCycles e + 1024),
   w (encPort n + 2 ^ 10 + 2 ^ 12), 0, 0, w m, w f, 0, 0, 0, 0, 0]

/-- Encode stream m of encoder n at launch wale l. A launch that only a REFUSE entry refuses (R610) is no refusal of Reeve's: it
is not counted there, and its status is free. [DEDUCED, log 57] -/
def State.encLaunchOne (s : State) (n l m : Nat) : State :=
  let e := s.encEnt n m
  let p := encPage n
  match if eEn e then frameAt (eFps e) l else none with
  | none => s
  | some f =>
    if (s.encStream n m).skip then s.setEncStream n m fun x => { x with skip := false }
    else
      let wait := decide (eSrcKind e = 1) && s.composes (eSrcPipe e) l
      let d := encDesc e n m f wait
      let own := s.submitStatus d
      match s.refusal 2 (beBytes 1 n ++ beBytes 1 m ++ beBytes 2 0 ++ beBytes 4 f) 11 (decide (own ≠ 0)) with
      | (s, true) =>
        let (s, st) := if own ≠ 0 then ((s.rveSubmit (encPort n) d).1, own) else (s.takeFree, s.freeNat % 16)
        (s.bump p .vceLaunchRefused).raise p .vceLaunchRefused m st
      | (s, false) =>
        let (s, _, id) := s.rveSubmit (encPort n) d
        let s := s.setEncStream n m fun x => { x with queued := x.queued ++ [(f, l, e)] }
        let s := if wait then s.setPipe (eSrcPipe e) fun q => { q with waits := q.waits ++ [id] } else s
        if eTile e then s.putTile (encTag n m) f (some { f := f, launch := l }) else s

/-- R391. -/
def execEncLaunch (enc : Nat) (s : State) : Host.Outcome State Fault Refusal :=
  let p := encPage enc
  let l := s.wale64
  .next
    (if s.stepDue 7 && s.ready p && decide (s.raf p Reg.vceEncCfg 0 0 = 1) && (s.encoder enc).launched ≠ some l then
      (List.range 64).foldl (fun s m => if s.heldBack (.enc enc m) then s else s.encLaunchOne enc l m)
        ((s.atStep 7).setEnc enc fun e => { e with launched := some l })
     else s)

/-! ## The start of an encode (R386, R393 to R395, R429) -/

/-- The encode task of descriptor d starts on encoder n, under the entry in force at its launch. [DEDUCED, log 57] -/
def State.encStart (s : State) (n : Nat) (d : List Word) : State :=
  let m := (dArg d 0).toNat % 64
  let st := s.encStream n m
  match st.queued.find? fun x => x.1 % 2 ^ 32 = (dArg d 1).toNat with
  | none => s
  | some (f, l, e) =>
    let old := decide (l < st.since)
    let due := if old then [] else st.reqs.filter fun w => decide (w + 2 ≤ l)
    let t0 := !eTile e || tLayer (eMode e) (f % 4) = 0
    let held := t0 && match st.key with | some (_, lk) => decide (l ≤ lk + eHold e) | none => false
    let gop := match st.key with | some (_, lk) => decide (eGop e ≠ 0) && decide (lk + eGop e ≤ l) | none => false
    let asked := due ≠ [] && !held
    let key := t0 && (st.fresh || st.dirty || gop || asked)
    let p := if eTile e then f % 4 else if key then 0 else (f - (st.key.getD (f, l)).1) % 4
    let gap := st.gap && !t0
    let src := s.encSource e l
    let s := if held && due ≠ [] then s.bumpN (encPage n) .vceRefreshMerged due.length else s
    let s := s.setEncStream n m fun x =>
      { x with queued := x.queued.filter (· ≠ (f, l, e)), src := src, gap := gap,
               reqs := if held && !old then x.reqs.filter (fun w => !decide (w + 2 ≤ l)) else x.reqs }
    let s := s.setEnc n fun x =>
      { x with pic := some { stream := m, f := f, launch := l, key := key, p := p, src := src, ent := e,
                             view := s.sourceView src, slot := st.freeSlot,
                             mute := eTile e && !key && (st.mute || gap) } }
    if key && asked then s.raise (encPage n) .vceRefresh m f else s

/-! ## Units (R398 to R405) -/

/-- The key of a class: spatial layer, temporal layer, keyframe. -/
def classKey (k t : Nat) (key : Bool) : Nat := k * 8 + t * 2 + key.toNat

/-- Fullness and class record of layer k of the picture. -/
def EncStream.fullOf (x : EncStream) (k : Nat) : Int := x.full.getD k 0
def EncStream.classOf (x : EncStream) (k t : Nat) (key : Bool) : Option ClassRec :=
  NMap.get (fun _ => none) x.classes (classKey k t key)

/-- What rate control needs of layer k of an entry. -/
def rcOf (e : List Word) (k : Nat) : RcCfg := ⟨eFloor e, eQpMin e, eQpMax e, (eGridOf e k).1, (eGridOf e k).2⟩

/-- Layer k of a picture begins, with `hdr` header bits. -/
def encLayer (e : List Word) (x : EncStream) (pic : EncPic) (k hdr : Nat) : LayerPic :=
  let t := tLayer (eMode e) pic.p
  let step := (cadence (eFps e)).2.2
  let c := rcOf e k
  let tp := targetBits (eRate e k) step pic.key (temporals (eMode e)) t (x.fullOf k) hdr c.floor (c.n * c.rows)
  { layer := k, hdr := hdr, tp := tp, used := hdr, q := pictureQp (eQpInit e) c.qpmin c.qpmax tp (x.classOf k t pic.key) }

/-- The CTUs of the next unit of a layer, by their numbers in raster order (R403, R426). -/
def State.unitCtus (s : State) (e : List Word) (k unit c : Nat) : List Nat :=
  let (n, r) := eGridOf e k
  if eTile e then
    match (splitPieces (s.splitOf (eGrid e)) n r)[unit]? with
    | some (x, y, w, h) => (List.range h).flatMap fun i => (List.range w).map fun j => (y + i) * n + x + j
    | none => []
  else if eSlice e = 0 then List.range (n * r)
  else List.range' c (min (eSlice e * n) (n * r - c))

/-- The coder's CTUs of a unit. -/
def LayerPic.unit (l : LayerPic) (c : RcCfg) (cls : Option ClassRec) (xs : List (CtuCost × Nat)) : LayerPic :=
  xs.foldl (fun l x => l.ctu c cls x.1 x.2) l

/-- The bytes of a block's statistics (R407). -/
def blockBytes (b : Int × Int × Nat × Nat) : List Byte :=
  leBytes 2 (b.1 % 65536).toNat ++ leBytes 2 (b.2.1 % 65536).toNat ++ leBytes 1 b.2.2.1 ++ leBytes 1 0 ++
    leBytes 2 (min b.2.2.2 0xFFFF)

/-- The header of R404. -/
def outHeader (scid g f unit code flags mask dd body : Nat) : List Byte :=
  leBytes 4 scid ++ leBytes 4 g ++ leBytes 4 f ++ leBytes 2 unit ++ leBytes 1 code ++ leBytes 1 flags ++
    leBytes 2 mask ++ leBytes 1 dd ++ leBytes 1 0 ++ leBytes 2 body ++ List.replicate 10 0

/-- One packet of a unit: sent, or lost (R405). -/
def State.encPacket (s : State) (n : Nat) (e : List Word) (pic : EncPic) (k flags : Nat) (dd body : List Byte) :
    State × Bool :=
  let t := tLayer (eMode e) pic.p
  let b := outHeader (eScid e) (tickOf (eFps e) pic.f) pic.f pic.unit (3 * k + t) flags (switchMask e pic.key k pic.p)
    dd.length body.length ++ dd ++ body
  let own := !(s.qOn (eOutQ e) && s.qCredit (encPort n) (eOutQ e) b.length)
  let ident := beBytes 1 n ++ beBytes 1 pic.stream ++ beBytes 2 pic.unit ++ beBytes 4 pic.f
  match s.refusal 3 ident 11 own with
  | (s, true) =>
    (((if own then (s.colSend (encPort n) (eOutQ e) b).1 else s)).bump (encPage n) .vceOutLost, true)
  | (s, false) => ((s.colSend (encPort n) (eOutQ e) b).1, false)

/-- The packets of a unit in order: whether one was lost. `last` says that the unit ends its temporal unit. -/
def State.encPackets (s : State) (n : Nat) (e : List Word) (pic : EncPic) (k : Nat) (last : Bool) :
    Bool → List (List Byte × List Byte) → State × Bool
  | _, [] => (s, false)
  | first, p :: r =>
    let m := last && r = []
    let flags := m.toNat + pic.key.toNat * 2 + (first && pic.unit = 0).toNat * 4 + (decide (r = [])).toNat * 8
    let (s, a) := s.encPacket n e pic k flags p.1 p.2
    let (s, b) := s.encPackets n e pic k last false r
    (s, a || b)

/-- The coder's account of a unit: the layer in progress after it, and the counters and event of R401. -/
def State.encCount (s : State) (n : Nat) (pic : EncPic) (old new : LayerPic) (bits : Nat) : State :=
  let p := encPage n
  let guards := ((new.recs.drop old.recs.length).filter fun r => (r.2.2.2).testBit 1).length
  let s := if guards = 0 then s else s.bumpN p .vceRcGuard guards
  let s :=
    match old.starve, new.starve with
    | none, some c => (s.bump p .vceRcStarve).raise p .vceRcStarve (pic.stream + new.layer * 2 ^ 8 + c * 2 ^ 16) pic.f
    | _, _ => s
  if pic.mute then s else s.bumpN p .vceEncBits bits

/-- The piece that a tile-ready unit is confined to: first and past the last luma column and row (R426). -/
def State.unitPiece (s : State) (e : List Word) (unit : Nat) : Option (Nat × Nat × Nat × Nat) :=
  if eTile e then
    ((splitPieces (s.splitOf (eGrid e)) (eGridOf e 0).1 (eGridOf e 0).2)[unit]?).map fun (x, y, w, h) =>
      (64 * x, 64 * (x + w), 64 * y, 64 * (y + h))
  else none

/-- The QPs of the first CTUs of a unit's rows. -/
def rowQps (l : LayerPic) (e : List Word) (at_ : List Nat) : List Nat :=
  let n := (eGridOf e l.layer).1
  let rows := (at_.map (· / n)).eraseDups
  rows.filterMap fun r => ((at_.find? fun i => i / n = r).bind fun i => l.recs.lookup i).map (·.2.1)

/-- The results of a unit are such that the rules leave them to the coder: its blocks lie in their CTUs and refer to what they
may, a picture without a reference is intra, and its contents and marks are those of R387, R403, R404 and R426 to R428. The
structure that its descriptors leave; none where they are not. -/
def State.unitMarks (s : State) (x : EncStream) (pic : EncPic) (new : LayerPic) (u : CodedUnit) (at_ : List Nat) (opens ends : Bool) :
    Option TStruct :=
  let e := pic.ent
  let k := new.layer
  let refs := x.refsOf pic k
  let piece := s.unitPiece e pic.unit
  let place : UnitPlace := ⟨pic.unit = 0, opens, ends⟩
  if (refs ≠ [] || u.ctus.all (·.intra)) && u.blocks.all fun b => s.blockOk pic k b refs piece then
    if pic.mute then some x.dd
    else
      match unitNals e (u.pkts.map (·.2)) with
      | some nals =>
        if s.nalsOk e pic k place nals &&
            (!eTile e || Config.unitQps (eCodec e) (nals.getLastD []) =
              (rowQps new e at_).map (qpOffset (eCodec e) (eDepth e))) then
          packetMarks e pic k place true x.dd (u.pkts.map (·.1))
        else none
      | none => none
  else none

/-- The blocks of a unit with their vectors and SADs, at the QPs of their CTUs. -/
def State.unitBlocks (s : State) (x : EncStream) (pic : EncPic) (new : LayerPic) (u : CodedUnit) :
    List (Nat × Int × Int × Nat × Nat) :=
  let n := (eGridOf pic.ent new.layer).1
  u.blocks.map fun b =>
    let qp := ((new.recs.lookup (b.y / 64 * n + b.x / 64)).map (·.2.1)).getD new.q
    (b.at_, s.blockOf pic new.layer b (x.refsOf pic new.layer) (s.unitPiece pic.ent pic.unit) qp)

/-- The layer in progress before the next unit of a picture on encoder n; `hdr` counts where the unit opens it. -/
def State.unitLayer (s : State) (n : Nat) (pic : EncPic) (hdr : Nat) : LayerPic :=
  pic.cur.getD (encLayer pic.ent (s.encStream n pic.stream) pic pic.done.length hdr)

/-- What a unit makes of its layer: the layer after it, whether it ends it, and the structure that its descriptors leave; none where
the picture has no such unit. -/
def State.unitNext (s : State) (n : Nat) (pic : EncPic) (u : CodedUnit) : Option (LayerPic × Bool × TStruct) :=
  let e := pic.ent
  let k := pic.done.length
  let x := s.encStream n pic.stream
  let old := s.unitLayer n pic u.hdr
  let at_ := s.unitCtus e k pic.unit old.c
  if spatials (eMode e) ≤ k ∨ at_ = [] ∨ u.ctus.length ≠ at_.length then none
  else
    let c := rcOf e k
    let new := old.unit c (x.classOf k (tLayer (eMode e) pic.p) pic.key) (u.ctus.zip at_)
    let ends := decide (new.c = c.n * c.rows)
    (s.unitMarks x pic new u at_ pic.cur.isNone ends).map fun dd => (new, ends, dd)

/-- Encoder n completes a unit of its picture. -/
def State.encUnit (s : State) (n : Nat) (pic : EncPic) (u : CodedUnit) : State :=
  match s.unitNext n pic u with
  | none => s
  | some (new, ends, dd) =>
    let m := pic.stream
    let e := pic.ent
    let k := pic.done.length
    let old := s.unitLayer n pic u.hdr
    let new := { new with blocks := new.blocks ++ s.unitBlocks (s.encStream n m) pic new u }
    let s := s.encCount n pic old new (new.used - (if pic.cur.isSome then old.used else 0))
    let last := ends && decide (k + 1 = spatials (eMode e))
    let (s, lost) := if pic.mute then (s, false) else s.encPackets n e pic k last true u.pkts
    let s := if lost && !pic.lost then s.raise (encPage n) .vceOutLost m pic.f else s
    let s := if lost then s.setTile (encTag n m) pic.f fun t => { t with lost := true } else s
    let s := if ends then (s.putRef e k pic.slot u.luma u.chroma new.blocks).bump (encPage n) .vceEncPictures else s
    let s := s.setEncStream n m fun x => { x with dd := dd }
    s.setEnc n fun y =>
      { y with pic := some { pic with
          done := if ends then pic.done ++ [new] else pic.done, cur := if ends then none else some new,
          unit := pic.unit + 1, lost := pic.lost || lost } }

/-- R403, R404. [DESIGN CHOICE, log 56] -/
def execEncUnitEmit (enc : Nat) (u : CodedUnit) (s : State) : Host.Outcome State Fault Refusal :=
  match (s.encoder enc).pic with
  | some pic => .next (s.encUnit enc pic u)
  | none => .next s

/-! ## Statistics (R406, R407) -/

/-- The record of a layer picture. -/
def State.statRecord (s : State) (e : List Word) (pic : EncPic) (l : LayerPic) : List Byte :=
  let (n, r) := eGridOf e l.layer
  let (w, h) := eLayer e l.layer
  let bw := (w + 15) / 16
  let bh := (h + 15) / 16
  let t := tLayer (eMode e) pic.p
  let hdr := leBytes 4 pic.f ++ leBytes 4 pic.launch ++ leBytes 1 pic.stream ++ leBytes 1 (3 * l.layer + t) ++
    leBytes 2 n ++ leBytes 2 r ++ leBytes 2 bw ++ leBytes 2 bh ++ leBytes 1 l.q ++
    leBytes 1 (pic.key.toNat + l.starve.isSome.toNat * 2) ++ leBytes 4 l.tp ++ leBytes 4 l.used ++ List.replicate 36 0
  let ctu := (List.range (n * r)).flatMap fun i =>
    match l.recs.lookup i with
    | some (b, q, fl) =>
      leBytes 2 (min b 0xFFFF) ++ leBytes 1 q ++ leBytes 1 fl ++
        leBytes 4 (min (s.ctuSatd e l.layer pic.view i) 0xFFFFFFFF)
    | none => List.replicate 8 0
  let blk := (List.range (bw * bh)).flatMap fun i => ((l.blocks.lookup i).map blockBytes).getD (List.replicate 8 0)
  hdr ++ ctu ++ blk

/-- The statistics of a picture are lost. -/
def State.statLost (s : State) (n : Nat) (pic : EncPic) : State :=
  let p := encPage n
  let s := s.bump p .vceStatLost
  if (s.encoder n).statTold then s
  else (s.setEnc n fun e => { e with statTold := true }).raise p .vceStatLost pic.stream pic.f

/-- The statistics of a layer picture are exported. [DEDUCED, log 57] -/
def State.encStat (s : State) (n : Nat) (e : List Word) (pic : EncPic) (l : LayerPic) : State :=
  let port := encPort n
  let rec_ := s.statRecord e pic l
  let notice (h : Nat) : List Byte :=
    leBytes 4 h ++ leBytes 1 pic.stream ++ leBytes 1 (3 * l.layer + tLayer (eMode e) pic.p) ++ leBytes 2 0 ++
      leBytes 4 pic.f ++ leBytes 4 0
  let own := !(decide (s.poolState (eStatPool e) = 2) && (s.lowestFree (eStatPool e)).isSome &&
    decide (rec_.length ≤ s.bufSize (eStatPool e * 2 ^ 26)) && s.qOn (eStatQ e) && s.qCredit port (eStatQ e) 16)
  match s.refusal 4 (beBytes 1 n ++ beBytes 1 pic.stream ++ beBytes 2 0 ++ beBytes 4 pic.f) 11 own with
  | (s, true) =>
    let s :=
      if own then
        match s.crlAlloc port (eStatPool e) with
        | (s, some h) =>
          (if s.bufSize h < rec_.length then s else s.colReserve port (eStatQ e) 16).crlFree port h
        | (s, none) => s
      else s
    s.statLost n pic
  | (s, false) =>
    match s.crlAlloc port (eStatPool e) with
    | (s, some h) =>
      ((((s.bufPut h 0 rec_).crlAdd port h (eOwner e)).crlDrop port h).colSend port (eStatQ e) (notice h)).1
    | (s, none) => s.statLost n pic

/-! ## The end of an encode -/

/-- The account of a completed layer picture (R402). -/
def encAccount (e : List Word) (pic : EncPic) (x : EncStream) (l : LayerPic) : EncStream :=
  let t := tLayer (eMode e) pic.p
  let tn := nominalBits (eRate e l.layer) (cadence (eFps e)).2.2
  let full := (List.range 3).map x.fullOf
  { x with full := full.set l.layer (fullAfter (x.fullOf l.layer) l.used tn),
           classes := NMap.set (fun _ => none) x.classes (classKey l.layer t pic.key) (some ⟨l.q, l.used, l.rows⟩) }

/-- Encoder n has coded every unit of its picture, and its cycles have run (R392). -/
def State.encReady (s : State) (n id : Nat) : Bool :=
  match (s.encoder n).pic with
  | some pic =>
    decide (pic.done.length = spatials (eMode pic.ent)) &&
      decide ((s.task id).start * 6 + encCycles pic.ent * 5 ≤ s.clk.tru * 6)
  | none => false

/-- The picture that encoder n codes takes no more cycles than its task's BUDGET (R132, R392). -/
def State.encFits (s : State) (n id : Nat) : Bool :=
  match (s.encoder n).pic with
  | some pic => decide (encCycles pic.ent ≤ dBudget (s.task id).desc)
  | none => false

/-- The cycles of the picture that encoder n codes (R392). -/
def State.encSpent (s : State) (n : Nat) : Nat :=
  match (s.encoder n).pic with
  | some pic => encCycles pic.ent
  | none => 0

/-- What a coded picture leaves of its stream (R386, R394, R395, R402). One launched before the stream began afresh leaves
nothing (R389). -/
def EncStream.coded (x : EncStream) (pic : EncPic) : EncStream :=
  if pic.launch < x.since then x
  else
    let x := pic.done.foldl (encAccount pic.ent pic) x
    { x with q := (pic.done.getLastD {}).q, bits := (pic.done.map (·.used)).sum,
             key := if pic.key then some (pic.f, pic.launch) else x.key,
             reqs := if pic.key then x.reqs.filter (fun w => !decide (w + 2 ≤ pic.launch)) else x.reqs,
             fresh := x.fresh && !pic.key, dirty := x.dirty && !pic.key, mute := x.mute && !pic.key,
             refs := keepRefs (eMode pic.ent) (tLayer (eMode pic.ent) pic.p) pic.f pic.slot x.refs }

/-- The encode ends with status DONE. [DEDUCED, log 57] -/
def State.encDone (s : State) (n : Nat) : State :=
  match (s.encoder n).pic with
  | none => s
  | some pic =>
    let m := pic.stream
    let s := s.setEnc n fun x =>
      { x with pic := none,
               undo := if s.following then NMap.set (fun _ => none) x.undo m (some (pic, s.encStream n m)) else x.undo }
    let s := s.setEncStream n m fun x => x.coded pic
    let s := s.tileEnds (encTag n m) pic.f 0 pic.key
    if eStat pic.ent then pic.done.foldl (fun s l => s.encStat n pic.ent pic l) s else s

/-- The launch of frame f of a stream whose task has not ended: its entry and its wale. -/
def State.encLaunched (s : State) (n m f : Nat) (pic : Option EncPic) : List Word × Nat :=
  match pic with
  | some p => (p.ent, p.launch)
  | none =>
    match (s.encStream n m).queued.find? fun q => q.1 % 2 ^ 32 = f % 2 ^ 32 with
    | some (_, l, e) => (e, l)
    | none => (s.encEnt n m, launchOf (eFps (s.encEnt n m)) f)

/-- What an aborted picture leaves of its stream (R49, R394, R429): `emitted` says that units of it were emitted, `keyed` that it
is a keyframe of which units were. -/
def EncStream.aborted (x : EncStream) (l : Nat) (late emitted keyed : Bool) : EncStream :=
  if l < x.since then { x with skip := x.skip || late }
  else
    { x with gap := true, skip := x.skip || late, dirty := x.dirty || emitted, fresh := x.fresh && !keyed,
             mute := x.mute && !keyed, reqs := if keyed then x.reqs.filter (fun w => !decide (w + 2 ≤ l)) else x.reqs }

/-- The encode of frame f of stream m is aborted with a status of R138; `pic` is the picture where coding has begun (R49, R394,
R402, R429, R431). -/
def State.encAbandon (s : State) (n m f status : Nat) (pic : Option EncPic) : State :=
  let emitted := match pic with | some p => decide (0 < p.unit) && !p.mute | none => false
  let keyed := match pic with | some p => emitted && p.key | none => false
  let late := decide (status = 2)
  let (e, l) := s.encLaunched n m f pic
  let next := launchOf (eFps e) (f + 1)
  let s := s.setEncStream n m fun x =>
    { x.aborted l late emitted keyed with queued := x.queued.filter fun q => q.1 % 2 ^ 32 ≠ f % 2 ^ 32 }
  let s := s.tileEnds (encTag n m) f status false
  if late then
    ((s.bump (encPage n) .vceLaunchSkip).raise (encPage n) .vceLaunchSkip m
      ((frameAt (eFps e) next).getD (f + 1))).layItem 3 n m f
  else s

/-- The encode of frame f of stream m is aborted, while it runs where `running` is true. [DEDUCED, log 57] -/
def State.encAbort (s : State) (n m f status : Nat) (running : Bool) : State :=
  if running then (s.setEnc n fun x => { x with pic := none }).encAbandon n m f status (s.encoder n).pic
  else s.encAbandon n m f status none

/-- The active abandoned an encode that this standby has no task for: where it completed the picture last, the stream is as
before it (R610). -/
def State.encUndo (s : State) (n m f : Nat) : State :=
  match NMap.get (fun _ => none) (s.encoder n).undo m with
  | some (pic, y) =>
    if pic.f = f then
      (s.setEncStream n m fun x =>
        { y with queued := x.queued, skip := x.skip, since := x.since,
                 reqs := y.reqs ++ x.reqs.filter fun w => !y.reqs.contains w }).encAbandon n m f 2 (some pic)
    else s.encAbandon n m f 2 none
  | none => s.encAbandon n m f 2 none

/-! ## Refresh (R395) -/

/-- A refresh request for an encode stream in the wale in progress. -/
def State.encRequest (s : State) (n m : Nat) : State :=
  if eEn (s.encEnt n m) then s.setEncStream n m fun x => { x with reqs := x.reqs ++ [s.wale64] } else s

/-- R395: from host software, or the oldest request for the stream that LFW has passed on. A tile-ready stream takes
requests from Weave alone (R429). -/
def execEncRefresh (src : Option Src) (enc stream : Nat) (s : State) : Host.Outcome State Fault Refusal :=
  let e := s.encEnt enc stream
  match src with
  | some src =>
    .next (s.access src (encPage enc) Reg.vceEncRefresh (BitVec.ofNat 32 (stream + 256)) fun s =>
      if eTile e then s else s.encRequest enc stream)
  | none =>
    .next
      (if eEn e && !eTile e then
        match s.lfw.refresh.find? fun x => x.1 = eScid e with
        | some x => State.encRequest { s with lfw := { s.lfw with refresh := s.lfw.refresh.erase x } } enc stream
        | none => s
       else s)

/-! ## Commits (R389) -/

/-- A pair of sizes is that of a tile class. -/
def anyClass (w h : Nat) : Option Nat := [0, 1, 2, 3].find? fun c => classSize c = (w, h)

/-- Weave accepts the stream (R425). -/
def State.tileOk (s : State) (n m : Nat) (e : List Word) : Bool :=
  let g := eGrid e
  let cls := if g = 0 then anyClass (eW e) (eH e) else
    if classSize (s.tf 0x330 1 0 g 0 1 0) = (eW e, eH e) && s.tf 0x330 1 0 g 0 2 2 = 1 then some (s.tf 0x330 1 0 g 0 1 0) else none
  match cls with
  | none => false
  | some c =>
    decide (eCodec e ≤ 1) && decide (eMode e ≤ 2) && decide (eOutMode e = 1) &&
      decide (eOutQ e = (s.raf 0x330 Reg.wveInQbase 11 0 + n) % 4096) && decide (eScid e = encTag n m) &&
      (decide (eCodec e = 0) ||
        (decide (c ≠ 3) && (pieces (s.splitOf g).1 (classCtus c).1).all fun p => decide (4 ≤ p.2)))

/-- An entry holds a reserved encoding (R388). -/
def encReserved (e : List Word) : Bool :=
  eCodec e = 3 || (if eCodec e = 0 then decide (eProfile e ≠ 0) else if eCodec e = 1 then decide (1 < eProfile e)
    else eProfile e = 3) || eMode e = 7 || eSrcKind e = 3 || decide (eFloor e < 48) ||
    (eCodec e = 1 && decide (eDepth e ≠ eProfile e)) || (eCodec e = 2 && decide (eDepth e ≠ 0)) ||
    (eOutMode e = 0 && !decide (256 ≤ eMaxPkt e ∧ eMaxPkt e ≤ 1400)) || (!eTile e && decide (eGrid e ≠ 0)) ||
    decide (51 < eQpInit e) || decide (51 < eQpMin e) || decide (51 < eQpMax e)

/-- The cause of R389 that an enabled entry meets on its own, 0 for none. [DEDUCED, log 57] -/
def State.encCause (s : State) (n m : Nat) (e : List Word) : Nat :=
  if sizeBad (eCodec e) (eLevel e) (eW e) (eH e) (eFps e) 1000000000 then 1
  else if (decide (3 ≤ eMode e) && decide (eCodec e ≠ 0)) ||
      ((List.range (spatials (eMode e))).any fun k => eRate e k = 0) then 2
  else if decide (eQpInit e < eQpMin e ∨ eQpMax e < eQpInit e) then 3
  else if (eSrcKind e = 0 && !dEn (s.decEnt (eSrcDec e) (eSrcStream e))) || encReserved e then 5
  else if eTile e && !s.tileOk n m e then 6
  else 0

/-- Cycles per second of an encode stream. -/
def encLoadOf (e : List Word) : Nat := if eEn e then fpsOf (eFps e) * encCycles e else 0

/-- The first failing entry of an encoder's shadows and its cause. -/
def State.encInvalid (s : State) (n : Nat) : Option (Nat × Nat) :=
  let es := (List.range 64).map fun m => (m, s.tget (encPage n) 0 1 m)
  let rec go : List (Nat × List Word) → Nat → Option (Nat × Nat)
    | [], _ => none
    | (m, e) :: r, sum =>
      if eEn e then
        let c := s.encCause n m e
        let sum := sum + encLoadOf e
        if c ≠ 0 ∧ c < 4 then some (m, c)
        else if 1200000000 < sum then some (m, 4)
        else if c ≠ 0 then some (m, c)
        else go r sum
      else go r sum
  go es 0

/-- An entry begins afresh: it is enabled, or its CODEC, PROFILE, MODE, size or TILE_GRID changes (R389). -/
def encAfresh (o n : List Word) : Bool :=
  eEn n && (!eEn o || decide (eCodec o ≠ eCodec n ∨ eProfile o ≠ eProfile n ∨ eMode o ≠ eMode n ∨ eW o ≠ eW n ∨
    eH o ≠ eH n ∨ eGrid o ≠ eGrid n))

/-- The shadows of an encoder come into force. -/
def State.encApply (s : State) (n : Nat) : State :=
  let p := encPage n
  let s := (List.range 64).foldl (fun s m =>
    if encAfresh (s.tget p 0 0 m) (s.tget p 0 1 m) then
      s.setEncStream n m fun x => { EncStream.init with queued := x.queued, since := s.wale64 }
    else s) s
  let s := s.tableApply p 0
  s.wr p Reg.vceEncLoad (BitVec.ofNat 32 ((List.range 64).map fun m => encLoadOf (s.encEnt n m)).sum)

/-! ## Table 1 of an encoder page (R420) -/

/-- The next frame of a rate from wale w on. -/
def nextFrame (fps w : Nat) : Nat :=
  ((List.range 20).findSome? fun i => frameAt fps (w + i)).getD 0

/-- The words of an encode stream in table 1. -/
def State.encTable (s : State) (n m : Nat) : List Word :=
  let w (x : Nat) : Word := BitVec.ofNat 32 x
  let x := s.encStream n m
  let e := s.encEnt n m
  let sh := s.tget (encPage n) 0 1 m
  let from_ := if (s.encoder n).launched = some s.wale64 then s.wale64 + 1 else s.wale64
  [w (if eEn e then nextFrame (eFps e) from_ else 0), w (match x.key with | some k => k.1 | none => 0),
   BitVec.ofInt 32 (x.fullOf 0), BitVec.ofInt 32 (x.fullOf 1), BitVec.ofInt 32 (x.fullOf 2), w x.q, w x.bits,
   w (refBytes (eDepth sh = 1) (eMode sh) (eW sh) (eH sh) / 4096)]

end Sys2Proof.Machine
end

