-- ==== Sys2Proof/Machine/Weave.lean ====
section
/-!
DEFINITION. Weave: ingest and presence (R430 to R432), the choice of what each receiver sees (R437, R438), regions, key
pictures and refresh (R439 to R443), the bitstream of each receiver (R444 to R448), lateness (R449) and the validation of
layouts (R434).
-/

namespace Sys2Proof.Machine

/-- The page and the port of a splicer. -/
def wvePage (p : Nat) : Nat := 0x330 + p
def wvePort (p : Nat) : Nat := 567 + p

/-! ## Ingest (R430) -/

/-- The slot's size. -/
def slotSize : Nat := 262144

/-- The address of the slot of a frame of a stream. -/
def State.tileAddr (s : State) (tag f : Nat) : Nat :=
  s.rd64 0x330 Reg.wveStoreBase Reg.wveStoreBaseHi + slotSize * (4 * tag + f % 4)

/-- The entry in force of the stream with a tag. -/
def State.tagEnt (s : State) (tag : Nat) : List Word := s.encEnt (tag / 64) (tag % 64)

/-- A tag names a stream that is tile-ready in force. -/
def State.tagOk (s : State) (tag : Nat) : Bool :=
  let e := s.tagEnt tag
  decide (tag < 1024) && eEn e && eTile e

/-- One unit at ingest. [DEDUCED, log 61] -/
def State.ingest (s : State) (b : List Byte) : State :=
  let tag := leNat (b.take 4) % 2 ^ 25
  let f := leNat ((b.drop 8).take 4)
  let unit := leNat ((b.drop 12).take 2)
  let body := (b.drop (32 + (b.getD 18 0).toNat)).take (leNat ((b.drop 20).take 2))
  let unknown := s.bump 0x330 .wveUnitUnknown
  match if s.tagOk tag then s.tilePic tag f else none with
  | none => unknown
  | some t =>
    if t.f % 2 ^ 32 ≠ f then unknown
    else if t.missing.isSome || t.ovf || s.tileLate t then s
    else if slotSize < t.bytes + body.length then
      ((s.putTile tag t.f (some { t with ovf := true, units := [] })).bump 0x330 .wveStoreOvf).raise 0x330 .wveStoreOvf tag t.f
    else
      (s.dramPut (s.tileAddr tag f + t.bytes) body).putTile tag t.f
        (some { t with units := t.units ++ [(unit, t.bytes, body.length)], bytes := t.bytes + body.length })

/-- R430. -/
def execWeaveIngest (queue : Nat) (s : State) : Host.Outcome State Fault Refusal :=
  .next
    (if s.ready 0x330 && decide (s.raf 0x330 Reg.wveInQbase 12 12 = 1) then
      match s.colTake (wvePort 0) ((s.raf 0x330 Reg.wveInQbase 11 0 + queue) % 4096) with
      | (s, some b) => s.ingest b
      | (s, none) => s
     else s)

/-! ## Presence (R431, R432) -/

/-- The units that make a picture of a stream complete. -/
def State.tileUnits (s : State) (e : List Word) : Nat :=
  (splitPieces (s.splitOf (eGrid e)) (eGridOf e 0).1 (eGridOf e 0).2).length

/-- What is known of the picture that a stream launches at l: `none` while it is neither present nor missing; `some 0`
where it is present, else the cause of R431. `cut` says that B(l + CUT) has come. -/
def State.presence (s : State) (tag l : Nat) (cut : Bool) : Option Nat :=
  let e := s.tagEnt tag
  match if s.tagOk tag then frameAt (eFps e) l else none with
  | none => some 1
  | some f =>
    match s.tilePic tag f with
    | none => if cut || (s.encoder (tag / 64)).launched = some l then some 1 else none
    | some t =>
      if t.f ≠ f then (if cut || (s.encoder (tag / 64)).launched = some l then some 1 else none)
      else
        match t.missing, t.ended with
        | some c, _ => some c
        | none, some k =>
          if k ≠ 0 then some 2
          else if t.lost then some 3
          else if t.ovf then some 4
          else if (List.range (s.tileUnits e)).all fun u => (t.units.map (·.1)).contains u then some 0
          else if cut then some (if t.units = [] then 1 else 5)
          else none
        | none, none => if t.ovf then some 4 else if cut then some 5 else none

/-- A picture is missing from now on: it is counted and raised once (R431), and a cut is recorded (R432). -/
def State.tileMissing (s : State) (tag f l cause : Nat) : State :=
  let t := match s.tilePic tag f with | some t => if t.f = f then t else { f := f, launch := l } | none => { f := f, launch := l }
  if t.missing.isSome then s
  else
    let s := s.putTile tag f (some { t with missing := some cause })
    let s := (s.bump 0x330 .wveMissing).raise 0x330 .wveUnitMissing (tag + cause * 2 ^ 12) f
    if cause = 5 then (s.bump 0x330 .wveCut).layItem 4 0 tag f else s

/-- The presence of a stream's picture for launch l is settled where it can be. A standby cuts only what the record lists.
[DEDUCED, log 61] -/
def State.settle (s : State) (tag l : Nat) : State × Option Nat :=
  let cut := decide (l + s.wveCut ≤ s.wale64) && !s.following
  match s.presence tag l cut with
  | some 0 => (s, some 0)
  | some c =>
    match frameAt (eFps (s.tagEnt tag)) l with
    | some f => if s.tagOk tag then (s.tileMissing tag f l c, some c) else (s, some c)
    | none => (s, some c)
  | none => (s, none)

/-- R431: at B(L + CUT), the pictures of launch L. -/
def execWeaveCut (s : State) : Host.Outcome State Fault Refusal :=
  let w := s.wale64
  .next
    (if s.genState = 2 && s.ready 0x330 && decide (s.wveCut ≤ w) then
      (List.range 1024).foldl (fun s tag =>
        if s.tagOk tag && (frameAt (eFps (s.tagEnt tag)) (w - s.wveCut)).isSome then (s.settle tag (w - s.wveCut)).1 else s) s
     else s)

/-! ## Templates and receivers (R433, R435, R436) -/

/-- A template in force. -/
def State.tmpl (s : State) (t : Nat) : List Word := s.tget 0x330 2 0 t

def tmEn (t : List Word) : Bool := efld t 0 0 0 = 1
def tmCodec (t : List Word) : Nat := efld t 0 1 1
def tmDepth (t : List Word) : Nat := efld t 0 2 2
def tmFps (t : List Word) : Nat := efld t 0 4 3
def tmMode (t : List Word) : Nat := efld t 0 6 5
def tmCols (t : List Word) : Nat := efld t 0 11 7
def tmRows (t : List Word) : Nat := efld t 0 16 12
def tmSlots (t : List Word) : Nat := efld t 0 21 17
def tmLevel (t : List Word) : Nat := efld t 0 31 24
def tmBus (t : List Word) : Nat := efld t 1 13 0
def tmBusEn (t : List Word) : Bool := efld t 1 14 14 = 1
def tmMaxPkt (t : List Word) : Nat := efld t 1 26 16
def tmHold (t : List Word) : Nat := efld t 2 15 0
def tmRekey (t : List Word) : Nat := efld t 2 31 16

/-- Column widths and row heights. -/
def tmWidths (t : List Word) : List Nat :=
  (List.range (min 16 (tmCols t))).map fun j => efld t (4 + j / 4) (j % 4 * 8 + 7) (j % 4 * 8)
def tmHeights (t : List Word) : List Nat :=
  (List.range (min 16 (tmRows t))).map fun j => efld t (8 + j / 4) (j % 4 * 8 + 7) (j % 4 * 8)

def slClass (t : List Word) (k : Nat) : Nat := efld t (12 + k) 1 0
def slEn (t : List Word) (k : Nat) : Bool := efld t (12 + k) 2 2 = 1 && decide (k < tmSlots t)
def slCol (t : List Word) (k : Nat) : Nat := efld t (12 + k) 6 3
def slRow (t : List Word) (k : Nat) : Nat := efld t (12 + k) 10 7
def slFirst (t : List Word) (k : Nat) : Nat := efld t (12 + k) 15 11
def slLast (t : List Word) (k : Nat) : Nat := efld t (12 + k) 20 16

/-- From grid line i on, how many lines make up a length, with the lines crossed in between; none where no line ends it. -/
def spanOf : List Nat → Nat → Nat → List Nat → Option (Nat × List Nat)
  | [], _, _, _ => none
  | w :: r, len, at_, cuts =>
    if at_ + w = len then some (1, cuts)
    else if at_ + w < len then (spanOf r len (at_ + w) (cuts ++ [at_ + w])).map fun x => (x.1 + 1, x.2)
    else none

/-- The region of a slot: its cells' columns and rows as first and count, and its cuts; none where it leaves the grid or does
not end on grid lines. -/
def slRegion (t : List Word) (k : Nat) : Option ((Nat × Nat) × (Nat × Nat) × (List Nat × List Nat)) :=
  let (cw, ch) := classCtus (slClass t k)
  match spanOf ((tmWidths t).drop (slCol t k)) cw 0 [], spanOf ((tmHeights t).drop (slRow t k)) ch 0 [] with
  | some (nc, cc), some (nr, rc) => some ((slCol t k, nc), (slRow t k, nr), (cc, rc))
  | _, _ => none

/-- A cell lies in a slot's region: the piece of the region it is. -/
def slPiece (t : List Word) (k col row : Nat) : Option Nat :=
  match slRegion t k with
  | some ((c, nc), (r, nr), _) =>
    if c ≤ col ∧ col < c + nc ∧ r ≤ row ∧ row < r + nr then some ((row - r) * nc + (col - c)) else none
  | none => none

/-- The slot whose region holds a cell, with the piece; none for a filler cell. -/
def cellSlot (t : List Word) (col row : Nat) : Option (Nat × Nat) :=
  (List.range (tmSlots t)).findSome? fun k => if slEn t k then (slPiece t k col row).map fun i => (k, i) else none

/-- A receiver entry of a splicer. -/
def State.rcvEnt (s : State) (p e : Nat) : List Word := s.tget (wvePage p) 3 0 e

def rvEn (r : List Word) : Bool := efld r 0 0 0 = 1
def rvTmpl (r : List Word) : Nat := efld r 0 8 1
def rvRung (r : List Word) : Nat := efld r 0 10 9
def rvMaxT (r : List Word) : Nat := efld r 0 12 11
def rvSelf (r : List Word) : Option Nat := if efld r 0 13 13 = 1 then some (efld r 0 31 16) else none
def rvScid (r : List Word) : Nat := efld r 1 24 0

/-- A receiver's state, by splicer and entry. -/
def State.rcv (s : State) (p e : Nat) : Receiver := NMap.get (fun _ => Receiver.init) s.wve.rcv (p * 32768 + e)

/-- A receiver's state changed. -/
def State.setRcv (s : State) (p e : Nat) (f : Receiver → Receiver) : State :=
  s.setWve fun w => { w with rcv := NMap.set (fun _ => Receiver.init) w.rcv (p * 32768 + e) (f (s.rcv p e)) }

/-! ## The choice of sources (R437, R438) -/

/-- The TALKER_ID at a rank of a bus, in the input wale that a launch at l uses. [DEDUCED, log 61] -/
def State.rankTalker (s : State) (bus rank l : Nat) : Option Nat :=
  let w (i : Nat) : Nat := (s.tw mxfPage 5 0 bus i).toNat
  if w 1 = (l - 2 - s.busDepth bus) % 2 ^ 32 ∧ w (2 + 2 * rank) ≠ 0xFFFFFFFF ∧ s.tget mxfPage 5 0 bus ≠ [] then
    some (w (2 + 2 * rank)) else none

/-- The source that a roster item resolves to. -/
def State.rosterSource (s : State) (t : List Word) (i l : Nat) : Option Nat :=
  let w := t.getD (28 + i) 0
  if fld w 31 31 = 0 then some (fld w 11 0)
  else
    match s.rankTalker (tmBus t) (fld w 1 0) l with
    | none => none
    | some id => ((s.tlist 0x330 0 0).find? fun x => decide (efld x.2 0 0 0 = 1 ∧ efld x.2 1 31 0 = id)).map (·.1)

/-- The stream reference of a source for a class at the highest rung at or below `rung`. -/
def sourceRef (x : List Word) (cls rung : Nat) : Option Nat :=
  ((List.range (rung + 1)).reverse.findSome? fun r =>
    let h := 4 * cls + r
    let v := efld x (4 + h / 2) (16 * (h % 2) + 15) (16 * (h % 2))
    if v.testBit 15 then some (v % 1024) else none)

/-- A source for a slot: its stream, nothing, or nothing for its split alone. -/
inductive Fit where
  | yes (tag : Nat)
  | no
  | split
  deriving DecidableEq, Repr

/-- Eligibility (R437). -/
def State.fitSource (s : State) (t r : List Word) (k src l : Nat) : Fit :=
  let x := s.tget 0x330 0 0 src
  if efld x 0 0 0 = 0 || rvSelf r = some (efld x 0 31 16) then .no
  else
    match sourceRef x (slClass t k) (rvRung r) with
    | none => .no
    | some tag =>
      let e := s.tagEnt tag
      let frozen := efld x 0 1 1 = 1 && eSrcKind e = 0 &&
        (s.decStream (eSrcDec e) (eSrcStream e)).frozenAsOf ((l + 2 ^ 32 - 2) % 2 ^ 32)
      if !(s.tagOk tag && s.tileOk (tag / 64) (tag % 64) e && decide (eCodec e = tmCodec t ∧ eDepth e = tmDepth t ∧
          eFps e = tmFps t ∧ eMode e = tmMode t)) || frozen then .no
      else
        match slRegion t k with
        | some (_, _, cuts) => if s.splitOf (eGrid e) = cuts then .yes tag else .split
        | none => .no

/-- One slot: its stream, the source placed, and the candidates refused for their split. -/
def State.fillSlot (s : State) (t r : List Word) (k l : Nat) (placed : List Nat) :
    List Nat → Option (Nat × Nat) × List Nat
  | [] => (none, [])
  | i :: rest =>
    match s.rosterSource t i l with
    | none => s.fillSlot t r k l placed rest
    | some src =>
      if placed.contains src then s.fillSlot t r k l placed rest
      else
        match s.fitSource t r k src l with
        | .yes tag => (some (tag, src), [])
        | .no => s.fillSlot t r k l placed rest
        | .split =>
          let (a, b) := s.fillSlot t r k l placed rest
          (a, src :: b)

/-- d of R438: the stream of each slot, and the mismatches as source and slot. -/
def State.desired (s : State) (t r : List Word) (l : Nat) : List (Option Nat) × List (Nat × Nat) :=
  let one (acc : List (Option Nat) × List Nat × List (Nat × Nat)) (k : Nat) :
      List (Option Nat) × List Nat × List (Nat × Nat) :=
    let (d, placed, bad) := acc
    if slEn t k then
      let (x, mis) := s.fillSlot t r k l placed (List.range' (slFirst t k) (slLast t k + 1 - slFirst t k))
      (d ++ [x.map (·.1)], (x.map (·.2)).toList ++ placed, bad ++ mis.map fun m => (m, k))
    else (d ++ [none], placed, bad)
  let (d, _, bad) := (List.range (tmSlots t)).foldl one ([], [], [])
  (d, bad)

/-! ## Launch (R438 to R442) -/

/-- A region after an adoption (the first three rows of R440): the Bool says that its stream has become none. -/
def Region.adopt (g : Region) (a : Option Nat) : Region × Bool :=
  match a with
  | none => if g.st = 0 then (g, false) else ({}, true)
  | some y =>
    if g.st ≠ 0 ∧ g.tag = y then (g, false)
    else ({ st := 1, tag := y, old := if g.st = 2 then some g.tag else if g.st = 1 then g.old else none }, false)

/-- The regions of a receiver, one per slot. -/
def Receiver.region (r : Receiver) (k : Nat) : Region := r.regions.getD k {}

/-- Streams on which a region is PEND once the adopted vector is applied. -/
def Receiver.pends (r : Receiver) : List Nat :=
  r.a.zipIdx.filterMap fun x =>
    let g := ((r.region x.2).adopt x.1).1
    if g.st = 1 then some g.tag else none

/-- One receiver at launch l of frame f of its template. -/
def State.launchRcv (s : State) (p e : Nat) (t : List Word) (f l : Nat) : State :=
  let page := wvePage p
  let r := s.rcvEnt p e
  let x := s.rcv p e
  if x.skip then s.setRcv p e fun x => { x with skip := false }
  else
    let (d, bad) := s.desired t r l
    let s := s.bumpN page .wveSplitMismatch bad.length
    let s := match bad with
      | (src, k) :: _ =>
        if s.wve.told then s
        else (s.setWve fun w => { w with told := true }).raise page .wveSplitMismatch src (rvTmpl r + k * 2 ^ 8)
      | [] => s
    let since := if d ≠ x.d then l else x.since
    let adopt := x.a ≠ d && (x.first || decide (tmHold t ≤ (l + 2 ^ 32 - since % 2 ^ 32) % 2 ^ 32))
    let moved := ((List.range 16).filter fun k => (x.a.getD k none) ≠ d.getD k none).length
    let s := if adopt then s.bumpN page .wveAdoptions moved else s
    let tl := tLayer (tmMode t) (f % 4)
    let asked := x.trig.any fun w => decide (w + 2 ≤ l)
    let key := tl = 0 && (!x.keyed || (asked && decide (x.keyWale + tmRekey t ≤ l)))
    let sends := decide (tl ≤ rvMaxT r) && (x.keyed || key)
    s.setRcv p e fun x =>
      { x with d := d, since := since, a := if adopt then d else x.a, first := false,
               keyWale := if key then l else x.keyWale, trig := if key then x.trig.filter (fun w => !decide (w + 2 ≤ l)) else x.trig,
               todo := if sends then some (f, l, key, launchOf (tmFps t) (f + 1)) else x.todo }

/-- The refresh requests of a launch (R441), counted on the page of the splicer that asks first. [DEDUCED, log 61] -/
def State.wveRefresh (s : State) (asks : List (Nat × Nat)) : State :=
  (asks.foldl (fun (acc : State × List Nat) a =>
    let (s, seen) := acc
    if seen.contains a.2 then acc
    else ((s.encRequest (a.2 / 64) (a.2 % 64)).bump (wvePage a.1) .wveRefreshReq, a.2 :: seen)) (s, [])).1

/-- A splicer builds pictures. -/
def State.splices (s : State) (p : Nat) : Bool := s.ready (wvePage p) && decide (s.raf (wvePage p) Reg.wveCfg 0 0 = 1)

/-- R438. -/
def execWeaveLaunch (template : Nat) (s : State) : Host.Outcome State Fault Refusal :=
  let t := s.tmpl template
  let l := s.wale64
  .next
    (if s.stepDue 7 && s.ready 0x330 && tmEn t && !s.heldBack (.tmpl template) && NMap.get (fun _ => none) s.wve.launched template ≠ some l then
      match frameAt (tmFps t) l with
      | none => s
      | some f =>
        let s := (s.atStep 7).setWve fun w =>
          { w with launched := NMap.set (fun _ => none) w.launched template (some l) }
        let rs := (List.range 2).flatMap fun p =>
          if s.splices p then
            ((s.tlist (wvePage p) 3 0).filter fun x => rvEn x.2 && rvTmpl x.2 = template).map fun x => (p, x.1)
          else []
        let s := rs.foldl (fun s x => s.launchRcv x.1 x.2 t f l) s
        s.wveRefresh (rs.flatMap fun x => (s.rcv x.1 x.2).pends.map fun tag => (x.1, tag))
     else s)

/-! ## Regions (R440) -/

/-- What is written in a region: a copy of a stream's picture, a placeholder (in intra syntax in key pictures) or a skip. -/
inductive Fill where
  | copy (tag : Nat)
  | grey (intra : Bool)
  | skip
  deriving DecidableEq, Repr

/-- One region at a picture that is not a key picture. `here` and `fresh` say whether a stream's picture is present, and a
refresh picture. -/
def Region.write (g : Region) (a : Option Nat) (here fresh : Nat → Bool) : Region × Fill :=
  let (g, gone) := g.adopt a
  if gone then (g, .grey false)
  else if g.st = 2 then
    (if here g.tag then (g, .copy g.tag) else ({ g with st := 1, old := none }, .skip))
  else if g.st = 1 then
    if here g.tag && fresh g.tag then ({ st := 2, tag := g.tag }, .copy g.tag)
    else
      match g.old with
      | some z => if here z then (g, .copy z) else ({ g with old := none }, .skip)
      | none => (g, .skip)
  else (g, .skip)

/-- One region at a key picture (R442). -/
def keyRegion (a : Option Nat) : Region × Fill :=
  match a with
  | some y => ({ st := 1, tag := y }, .grey true)
  | none => ({}, .grey true)

/-- The streams that a receiver's next picture uses. -/
def Receiver.uses (r : Receiver) (key : Bool) : List Nat :=
  if key then []
  else
    (r.a.zipIdx.flatMap fun x =>
      let g := ((r.region x.2).adopt x.1).1
      if g.st = 0 then [] else g.tag :: g.old.toList).eraseDups

/-! ## The bitstream (R444 to R448) -/

/-- Emulation prevention at the junction of a header and copied data (R448). -/
def joinTile (h d : List Byte) : List Byte :=
  let h1 := h.getLastD 1
  let h2 := h.dropLast.getLastD 1
  match d with
  | a :: b :: r =>
    if h2 = 0 ∧ h1 = 0 ∧ a.toNat ≤ 3 then h ++ 3 :: a :: b :: r
    else if h1 = 0 ∧ a = 0 ∧ b.toNat ≤ 3 then h ++ a :: 3 :: b :: r
    else h ++ d
  | [a] => if h2 = 0 ∧ h1 = 0 ∧ a.toNat ≤ 3 then h ++ [3, a] else h ++ d
  | [] => h

/-- The bytes of a stored unit. -/
def State.tileUnit (s : State) (tag f unit : Nat) : List Byte :=
  match s.tilePic tag f with
  | some t =>
    match t.units.find? fun u => u.1 = unit with
    | some (_, o, n) => s.dramBytes (s.tileAddr tag f + o) n
    | none => []
  | none => []

/-- One tile: its data, the copied fields, and the bytes taken from the store. -/
def State.tileData (s : State) (t : List Word) (f w h unit : Nat) : Fill → List Byte × List Nat × Nat
  | .copy tag =>
    let u := ((lenUnits 4096 (s.tileUnit tag f unit)).getLast?).getD []
    let (n, fields) := Config.weaveSource (tmCodec t) u
    (u.drop n, fields, (u.drop n).length)
  | .grey intra => (Config.weaveTile [tmCodec t, tmDepth t, if intra then 0 else 1, w, h], [], 0)
  | .skip => (Config.weaveTile [tmCodec t, tmDepth t, 2, w, h], [], 0)

/-- The cells of a canvas in tile raster order: column, row, first CTU, width and height in CTUs. -/
def cellsOf (t : List Word) : List (Nat × Nat × Nat × Nat × Nat) :=
  let ws := tmWidths t
  let hs := tmHeights t
  (List.range hs.length).flatMap fun r => (List.range ws.length).map fun c =>
    (c, r, (hs.take r).sum * ws.sum + (ws.take c).sum, ws.getD c 0, hs.getD r 0)

/-- A template's canvas as the parameter sets and frame headers show it. -/
def tmVals (t : List Word) : List Nat :=
  canvasVals (tmCodec t) (tmDepth t) (tmFps t) (tmMode t) (tmLevel t) (tmWidths t) (tmHeights t)

/-- The NAL units of an HEVC picture (R445), or the OBUs of an AV1 one after its temporal delimiter (R446), from its tiles
in raster order: first CTU, data and copied fields. -/
def pictureUnits (t : List Word) (f fkey : Nat) (key : Bool) (tiles : List (Nat × List Byte × List Nat)) : List (List Byte) :=
  let p := f % 4
  let tl := tLayer (tmMode t) p
  let ref := refOf (tmMode t) p key
  let vals := tmVals t
  if tmCodec t = 1 then
    let ty := if key then 20 else if tl = 0 then 1 else if tl = 1 then 3 else 2
    let sets := if key then [32, 33, 34].map (hevcSet vals) else []
    let poc := (f - fkey) % 65536
    sets ++ tiles.zipIdx.map fun x =>
      let hdr := beBytes 1 (ty * 2) ++ beBytes 1 (tl + 1) ++
        Config.weaveSyntax ([ty, (decide (x.2 = 0)).toNat, x.1.1, poc] ++ ref.take 2 ++ x.1.2.2 ++ vals)
      joinTile hdr x.1.2.1
  else
    let seqHdr := if key then [av1Sequence vals] else []
    let n := tiles.length
    let body := (tiles.zipIdx.flatMap fun x =>
      if x.2 + 1 = n then x.1.2.1 else leBytes 4 (x.1.2.1.length - 1) ++ x.1.2.1)
    seqHdr ++ [av1Frame vals key ((f - fkey) % 256) (ref.drop 2), Config.weaveSyntax [4, n] ++ body]

/-- Fragments of at most n bytes. -/
def fragments (n : Nat) : Nat → List Byte → List (List Byte)
  | 0, _ => []
  | k + 1, b => if b.length ≤ n then [b] else b.take n :: fragments n k (b.drop n)

/-- RTP payloads of a NAL unit (RFC 7798): a single NAL unit packet, or fragmentation units. -/
def hevcPackets (m : Nat) (u : List Byte) : List (List Byte) :=
  if u.length ≤ m then [u]
  else
    let h0 := (u.getD 0 0).toNat
    let fs := fragments (m - 3) u.length (u.drop 2)
    fs.zipIdx.map fun x =>
      let fu := h0 / 2 % 64 + (if x.2 = 0 then 128 else 0) + (if x.2 + 1 = fs.length then 64 else 0)
      beBytes 1 (h0 / 128 * 128 + 98 + h0 % 2) ++ [u.getD 1 0] ++ beBytes 1 fu ++ x.1

/-- RTP payloads of an OBU (the AV1 RTP payload specification): aggregation packets with W = 1. [DEDUCED, log 61] -/
def av1Packets (m : Nat) (start : Bool) (u : List Byte) : List (List Byte) :=
  let fs := fragments (m - 1) u.length u
  fs.zipIdx.map fun x =>
    let z := if x.2 = 0 then 0 else 128
    let y := if x.2 + 1 = fs.length then 0 else 64
    beBytes 1 (z + y + 16 + (if start && x.2 = 0 then 8 else 0)) ++ x.1

/-- The payloads of a picture, in order. -/
def picturePackets (t : List Word) (key : Bool) (us : List (List Byte)) : List (List Byte) :=
  if tmCodec t = 1 then us.flatMap (hevcPackets (tmMaxPkt t))
  else us.zipIdx.flatMap fun x => av1Packets (tmMaxPkt t) (key && x.2 = 0) x.1

/-! ## Building (R440, R443, R448, R449) -/

/-- A receiver's picture is written and handed to LFW. -/
def State.buildPicture (s : State) (p e f : Nat) (key : Bool) : State :=
  let page := wvePage p
  let r := s.rcvEnt p e
  let t := s.tmpl (rvTmpl r)
  let x := s.rcv p e
  let here (tag : Nat) : Bool :=
    match s.tilePic tag f with
    | some q => q.f = f && q.missing.isNone
    | none => false
  let fresh (tag : Nat) : Bool := match s.tilePic tag f with | some q => q.refresh | none => false
  let gs := (List.range (tmSlots t)).map fun k =>
    let a := x.a.getD k none
    if key then keyRegion a else (x.region k).write a here fresh
  let fkey := if key then f else x.fkey
  let cells := (cellsOf t).map fun c =>
    let (k, unit) := match cellSlot t c.1 c.2.1 with | some y => (some y.1, y.2) | none => (none, 0)
    let fill := match k with
      | some k => (gs.getD k ({}, .skip)).2
      | none => if key then .grey true else .skip
    (c, fill, s.tileData t f c.2.2.2.1 c.2.2.2.2 unit fill)
  let us := pictureUnits t f fkey key (cells.map fun c => (c.1.2.2.1, c.2.2.1, c.2.2.2.1))
  let pays := picturePackets t key us
  let tl := tLayer (tmMode t) (f % 4)
  let dd := if tmCodec t = 0 then Config.weaveSyntax [5, key.toNat, tmMode t, f, tl] else []
  let os : List Orig := pays.zipIdx.map fun y =>
    { scid := rvScid r, g := tickOf (tmFps t) f % 2 ^ 32, m := y.2 + 1 = pays.length, dd := dd, body := y.1 }
  let s := { s with lfw := { s.lfw with orig := s.lfw.orig ++ os } }
  let count (q : Fill → Bool) : Nat := (cells.filter fun c => q c.2.1).length
  let s := (s.bump page .wvePictures).bumpN page .wveCopies cells.length
  let s := s.bumpN page .wveCopyBytes ((cells.map fun c => c.2.2.2.2).sum)
  let s := s.bumpN page .wveSkipTiles (count fun y => y = .skip)
  let s := s.bumpN page .wvePhTiles (count fun y => y = .grey true || y = .grey false)
  s.setRcv p e fun x =>
    { x with undo := if s.following then x.todo.map fun t => (t, x.regions, x.keyed, x.fkey) else x.undo,
             regions := gs.map (·.1), keyed := x.keyed || key, fkey := fkey, todo := none }

/-- Every stream in a list is settled for launch l. -/
def State.settleAll (s : State) (l : Nat) : List Nat → State × Bool
  | [] => (s, true)
  | tag :: r =>
    match s.settle tag l with
    | (s, some _) => s.settleAll l r
    | (s, none) => (s, false)

/-- A re-key trigger of a receiver in the wale in progress, with ARG2 of its event. -/
def State.rekey (s : State) (p e why : Nat) : State :=
  if rvEn (s.rcvEnt p e) then
    ((s.setRcv p e fun x => { x with trig := x.trig ++ [s.wale64] }).bump (wvePage p) .wveRekeys).raise (wvePage p) .wveRekey
      (p * 32768 + e) why
  else s

/-- A receiver's picture is abandoned at step 3. -/
def State.spliceLate (s : State) (p e : Nat) : State :=
  match (s.rcv p e).todo with
  | some (_, l, _, _) =>
    let s := s.setRcv p e fun x => { x with todo := none, skip := true }
    ((((s.bump (wvePage p) .wveSpliceLate).raise (wvePage p) .wveSpliceLate (p * 32768 + e) l).layItem 5 0 (p * 32768 + e) l)).rekey
      p e 4
  | none => s

/-- The first receiver of a list whose streams are settled gets its picture; one that comes at the template's next launch or later is
abandoned (R449). [DEDUCED, log 61] -/
def State.buildFirst (s : State) (p : Nat) : List Nat → State
  | [] => s
  | e :: r =>
    match (s.rcv p e).todo with
    | some (f, l, key, next) =>
      if !s.following && decide (next ≤ s.wale64) then s.spliceLate p e
      else
        match s.settleAll l ((s.rcv p e).uses key) with
        | (s, true) => s.buildPicture p e f key
        | (s, false) => s.buildFirst p r
    | none => s.buildFirst p r

/-- R440. -/
def execWeavePictureBuild (splicer : Nat) (s : State) : Host.Outcome State Fault Refusal :=
  .next
    (if s.splices splicer then
      s.buildFirst splicer (((s.tlist (wvePage splicer) 3 0).filter fun x => rvEn x.2).map (·.1))
     else s)

/-! ## Lateness and re-keys (R442, R449) -/

/-- The active abandoned the picture of launch l of a receiver: a standby that has built it goes back to before it (R610). -/
def State.spliceUndo (s : State) (p e l : Nat) : State :=
  match (s.rcv p e).todo, (s.rcv p e).undo with
  | none, some (t, gs, keyed, fkey) =>
    if t.2.1 % 2 ^ 32 = l % 2 ^ 32 then
      (s.setRcv p e fun x => { x with todo := some t, regions := gs, keyed := keyed, fkey := fkey, undo := none }).spliceLate p e
    else s
  | _, _ => s.spliceLate p e

/-- R449. A standby abandons what the record names (R610). -/
def execWveSpliceLate (splicer entry : Nat) (s : State) : Host.Outcome State Fault Refusal :=
  match (s.rcv splicer entry).todo with
  | some (_, _, _, next) =>
    .next (if s.stepDue 3 && !s.following && decide (next ≤ s.wale64) then (s.atStep 3).spliceLate splicer entry else s)
  | none => .next s

/-- R442: from host software, or the oldest request for the receiver that LFW has passed on (R301). -/
def execWveRekey (src : Option Src) (splicer entry : Nat) (s : State) : Host.Outcome State Fault Refusal :=
  let p := wvePage splicer
  match src with
  | some src => .next (s.access src p Reg.wveRekey (BitVec.ofNat 32 (entry + 2 ^ 16)) fun s => s.rekey splicer entry 3)
  | none =>
    let r := s.rcvEnt splicer entry
    match if rvEn r then s.lfw.refresh.find? fun x => x.1 = rvScid r else none with
    | some x => .next (State.rekey { s with lfw := { s.lfw with refresh := s.lfw.refresh.erase x } } splicer entry x.2)
    | none => .next s

/-! ## Commits (R424, R434, R449) -/

/-- Tile columns and rows that an HEVC level allows. [PRESUMED, log 62] -/
def hevcTiles (level : Nat) : Nat × Nat :=
  if level < 30 then (1, 1) else if level < 31 then (2, 2) else if level < 40 then (3, 3) else if level < 50 then (5, 5) else (10, 11)

/-- A split entry keeps R424. -/
def splitOk (ws : List Word) : Bool :=
  let w := ws.getD 1 0
  let good (lo n : Nat) : Bool :=
    let c := splitCuts w lo
    decide (c.Pairwise (· < ·)) && c.all fun x => decide (x < n)
  let (cw, ch) := classCtus (efld ws 0 1 0)
  efld ws 0 2 2 = 0 || (good 0 cw && good 16 ch)

/-- The cause of R434 that an enabled template meets, 0 for none. -/
def tmCause (t : List Word) : Nat :=
  let ws := tmWidths t
  let hs := tmHeights t
  let w := ws.sum * 64
  let h := hs.sum * 64
  let hevc := tmCodec t = 1
  let (mc, mr) := hevcTiles (tmLevel t)
  let slots := (List.range (tmSlots t)).filter (slEn t)
  let cells (k : Nat) : List (Nat × Nat) :=
    match slRegion t k with
    | some ((c, nc), (r, nr), _) => (List.range' r nr).flatMap fun y => (List.range' c nc).map fun x => (x, y)
    | none => []
  let size := levelOk (tmCodec t) (tmLevel t) w h (fpsOf (tmFps t))
  if tmMode t = 3 || !decide (1 ≤ tmCols t ∧ tmCols t ≤ 16 ∧ 1 ≤ tmRows t ∧ tmRows t ≤ 16 ∧ 1 ≤ tmSlots t ∧ tmSlots t ≤ 16 ∧
      256 ≤ tmMaxPkt t ∧ tmMaxPkt t ≤ 1400) then 7
  else if !size || decide (4096 < w ∨ 2304 < h ∨ 64 < ws.length * hs.length) ||
      (hevc && (decide (10 < ws.length ∨ 11 < hs.length ∨ mc < ws.length ∨ mr < hs.length) || ws.any fun x => decide (x < 4))) then 1
  else if slots.any fun k => (slRegion t k).isNone || (hevc && slClass t k = 3) ||
      slots.any fun j => decide (j < k) && (cells j).any (cells k).contains then 2
  else if slots.any fun k => decide (slLast t k < slFirst t k) then 3
  else if !tmBusEn t && slots.any fun k => (List.range' (slFirst t k) (slLast t k + 1 - slFirst t k)).any fun i =>
      efld t (28 + i) 31 31 = 1 then 7
  else 0

/-- Four times the copies per second that a receiver claims. -/
def rcvClaim (t r : List Word) : Nat :=
  let part := match tmMode t, rvMaxT r with
    | 1, 0 => 2 | 2, 0 => 1 | 2, 1 => 2 | _, _ => 4
  (tmWidths t).length * (tmHeights t).length * fpsOf (tmFps t) * part

/-- The first failing entry of a table's list. -/
def firstBad (l : List (Nat × List Word)) (f : List Word → Nat) : Option (Nat × Nat) :=
  l.findSome? fun x => if f x.2 = 0 then none else some (x.1, f x.2)

/-- The receivers of a splicer against templates: the first failing entry and its cause. -/
def State.rcvInvalid (s : State) (tm : Nat → List Word) (rs : List (Nat × List Word)) : Option (Nat × Nat) :=
  let on := rs.filter fun x => rvEn x.2
  let sums := (on.foldl (fun (acc : List Nat × Nat) x =>
    let n := acc.2 + rcvClaim (tm (rvTmpl x.2)) x.2
    (acc.1 ++ [n], n)) ([], 0)).1
  (on.zip sums).findSome? fun (x, sum) =>
    if !tmEn (tm (rvTmpl x.2)) || !s.ctxOut (rvScid x.2) then some (x.1, 4)
    else if 96000000 < sum then some (x.1, 5)
    else if rvMaxT x.2 = 3 then some (x.1, 7)
    else none

/-- What refuses a commit of a splicer's page: entry, table and cause. `flip` says that the receivers' banks change, `own`
that the templates' shadows come into force with it. -/
def State.wveInvalid (s : State) (p : Nat) (flip own : Bool) : Option (Nat × Nat × Nat) :=
  let tm (t : Nat) : List Word := s.tget 0x330 2 (if own then 1 else 0) t
  let at_ (table : Nat) (x : Option (Nat × Nat)) : Option (Nat × Nat × Nat) := x.map fun y => (y.1, table, y.2)
  let shared :=
    if p = 0 then
      (at_ 1 (firstBad (s.tlist 0x330 1 1) fun w => if splitOk w then 0 else 6)).or
        (at_ 2 (firstBad (s.tlist 0x330 2 1) fun t => if tmEn t then tmCause t else 0))
    else none
  let cut := if p = 0 && !decide (1 ≤ s.rf 0x330 Reg.wveCfg 3 1 ∧ s.rf 0x330 Reg.wveCfg 3 1 ≤ 4) then some (0, 0xF, 7) else none
  (cut.or shared).or (at_ 3 (s.rcvInvalid tm (s.tlist (wvePage p) 3 (if flip then 1 else 0))))

/-- `WVE_LOAD` follows the receivers and templates in force. -/
def State.wveLoad (s : State) (p : Nat) : State :=
  let n := (((s.tlist (wvePage p) 3 0).filter fun x => rvEn x.2).map fun x => rcvClaim (s.tmpl (rvTmpl x.2)) x.2).sum
  s.wr (wvePage p) Reg.wveLoad (BitVec.ofNat 32 (min (n / 4) (2 ^ 25 - 1)))

/-- The shadow tables of page 0x330 come into force. -/
def State.wveApply (s : State) (p : Nat) : State :=
  let s := if p = 0 then [0, 1, 2].foldl (fun s t => s.tableApply 0x330 t) s else s
  (s.wveLoad 0).wveLoad 1

/-- After a flip of the receivers' banks: what a changed entry begins with. -/
def State.wveFlipped (s : State) (p : Nat) : State :=
  let es := ((s.tlist (wvePage p) 3 0).map (·.1) ++ (s.tlist (wvePage p) 3 1).map (·.1)).eraseDups
  (es.foldl (fun s e =>
    let n := s.tget (wvePage p) 3 0 e
    let o := s.tget (wvePage p) 3 1 e
    if n = o then s
    else if rvEn n && rvEn o then s.setRcv p e fun x => { x with first := true }
    else s.setRcv p e fun _ => Receiver.init) s).wveLoad p

/-- A splicer's receiver states are cleared. -/
def State.wveClear (s : State) (p : Nat) : State :=
  s.setWve fun w => { w with rcv := NMap.keep (fun k => k / 32768 ≠ p) w.rcv }

/-! ## Table 4 (R452) -/

/-- A receiver's words in table 4. -/
def State.rcvTable (s : State) (p e : Nat) : List Word :=
  let w (x : Nat) : Word := BitVec.ofNat 32 x
  let x := s.rcv p e
  [w x.keyed.toNat, w x.fkey, w x.since, w x.keyWale] ++ (List.range 16).map fun k =>
    let g := x.region k
    let a := x.a.getD k none
    w (a.getD 0 + a.isSome.toNat * 2 ^ 10 + g.st * 2 ^ 11 + (g.old.getD 0) * 2 ^ 13 + g.old.isSome.toNat * 2 ^ 23)

end Sys2Proof.Machine
end

