-- ==== Sys2Proof/Machine/Commit.lean ====
section
/-!
DEFINITION. Commits and commit groups: arms, what a page validates, the apply of its shadows, tables and banks, and the
groups' check (R67 to R82).
-/

namespace Sys2Proof.Machine

/-! ## The shadows of a page -/

/-- Page offsets of a page's registers with RWS fields, each with its row. -/
def rwsOffsets (p : Nat) : List (Nat × RegDesc) :=
  ((blockRows (pageType p)).filter fun r => r.fields.any fun f => f.acc = .rws).flatMap fun r =>
    ((List.range r.count).map fun i => (r.off + i * r.stride, r)).filter fun x => r.covers p x.1

/-- A shadow of the page's registers holds a reserved encoding (R15). -/
def State.rwsReserved (s : State) (p : Nat) : Bool :=
  (rwsOffsets p).any fun x =>
    x.2.fields.any fun f =>
      f.acc = .rws && !decide (f.okLo ≤ s.rf p x.1 f.hi f.lo ∧ s.rf p x.1 f.hi f.lo ≤ f.okHi)

/-- A page's RWS fields come into force (R67). -/
def State.rwsApply (s : State) (p : Nat) : State :=
  (rwsOffsets p).foldl
    (fun s x => { s with act := NMap.set actDefault s.act (rkey p x.1) (s.rd p x.1 &&& rwsMask (rkey p x.1)) }) s

/-- The banked tables of a page (R80). -/
def bankedTables (p : Nat) : List Nat :=
  if p = lfwPage then [0, 2, 3, 4] else if p = tsiPage then [0] else if p = 0x330 || p = 0x331 then [3] else []

/-- The banks of a table are exchanged (R81). -/
def State.flipTable (s : State) (p t : Nat) : State :=
  (((s.tlist p t 0).map (·.1) ++ (s.tlist p t 1).map (·.1)).mergeSort.eraseDups).foldl
    (fun u e => (u.tset p t 0 e (s.tget p t 1 e)).tset p t 1 e (s.tget p t 0 e)) s

/-- The banks of every banked table of a page are exchanged. -/
def State.flipPage (s : State) (p : Nat) : State := (bankedTables p).foldl (fun s t => s.flipTable p t) s

/-! ## What a page validates at its arm (R69) -/

/-- Reeve's new capacities (R147): what `RVE_CAP_INVALID` names. -/
def State.rveInvalid (s : State) : Option Nat :=
  let cap (c : Nat) : Nat := s.rf rvePage (Reg.rveClassCap + 4 * c) 16 0
  let dcap (l : Nat) : Nat := s.rf rvePage (Reg.rveDlistCfg + 4 * l) 16 0
  let moved (l : Nat) : Bool := s.rf rvePage (Reg.rveDlistCfg + 4 * l) 31 31 ≠ s.raf rvePage (Reg.rveDlistCfg + 4 * l) 31 31
  if 65536 < ((List.range 8).map cap).sum then some 1
  else if 65536 < ((List.range 8).map dcap).sum then some 2
  else if (List.range 8).any fun k => decide (cap k < s.classHeld k) || decide (dcap k < s.dlistCount k) then some 3
  else if (List.range 8).any fun l => moved l && s.dlistCount l ≠ 0 then some 4
  else none

/-- The standby banks of LFW's directories (R275): the table and entry that fail. -/
def State.lfwInvalid (s : State) : Option (Nat × Nat) :=
  let rng (t : Nat) : List (Nat × Nat × Nat) :=
    ((s.tlist lfwPage t 1).map fun x => (x.1, fld (x.2.getD 0 0) 23 0, fld (x.2.getD 1 0) 16 0)).filter fun x => x.2.2 ≠ 0
  let past (x : Nat × Nat × Nat) : Bool := decide (16777216 < x.2.1 + x.2.2)
  let meets (x y : Nat × Nat × Nat) : Bool := decide (x.2.1 < y.2.1 + y.2.2 ∧ y.2.1 < x.2.1 + x.2.2)
  let legs := rng 2
  ((legs.find? fun x => past x || legs.any fun y => decide (y.1 < x.1) && meets x y).map fun x => (2, x.1)).or
    (((rng 3).find? past).map fun x => (3, x.1))

/-- The arm of a commit for wale T comes too late for a flip of LFW: after B(T - 2) (R275). [DEDUCED, log 27] -/
def State.flipLate (s : State) (t : Nat) : Bool :=
  !(waleLt s.wale ((t + 2 ^ 32 - 2) % 2 ^ 32) ||
    (s.wale = (t + 2 ^ 32 - 2) % 2 ^ 32 && s.clk.loc = s.boundary s.clk.wale * unitsPerNs))

/-- An ETH page's shadows name a pool that will not do: with MODE 1 or 2, one that is not ON, or whose buffers are smaller
than MAX_FRAME (R196). -/
def State.ethInvalid (s : State) (p : Nat) : Bool :=
  let m := s.rf p Reg.ethPortCfg 1 0
  let pool := s.rf p Reg.ethPortCfg 7 2
  (m = 1 || m = 2) &&
    (s.poolState pool ≠ 2 || decide (s.bufSize (pool * 2 ^ 26) < s.rf p Reg.ethPortCfg 29 16))

/-- What the block-specific validation of a page fails by: the block's event with its arguments. -/
def State.blockInvalid (s : State) (p t : Nat) : Option (Event × Nat × Nat) :=
  let flip := s.rb p Reg.cmtCtl 3
  let (ty, n) := pageClass p
  let named (e : Event) (x : Option (Nat × Nat × Nat)) : Option (Event × Nat × Nat) :=
    x.map fun y => (e, y.1, y.2.1 + y.2.2 * 2 ^ 8)
  let thr (c : Nat) : Nat := s.rf iclPage (Reg.iclHistThr + 4 * (c - 1)) 21 0
  if ty = 3 then s.rveInvalid.map fun k => (.rveCapInvalid, k, 0)
  else if ty = 6 then
    if thr 3 ≤ thr 2 ∧ thr 2 ≤ thr 1 ∧ thr 1 ≤ 3906250 then none else some (.iclThrInvalid, 0, 0)
  else if ty = 8 then
    if !flip then none
    else if s.flipLate t then some (.lfwFlipLate, t, 0)
    else s.lfwInvalid.map fun x => (.lfwDirInvalid, x.1, x.2)
  else if ty = 9 then named .mxfPortInvalid s.mxfInvalid
  else if ty = 11 then
    (if n < 16 then s.encInvalid n else s.decInvalid (n - 16)).map fun x => (.vceStreamInvalid, x.1, x.2)
  else if ty = 12 then
    let own := n = 0 || s.sameGroup p 0x330
    named .wveLayoutInvalid (s.wveInvalid n flip own)
  else if ty = 13 then s.pxcInvalid n
  else if ty = 14 then named .escCfgInvalid (s.escInvalid p)
  else if ty = 15 then named .lnuCfgInvalid (if n = 4 then (if flip then s.tsiInvalid else none) else s.lnuInvalid n)
  else none

/-- Pages whose own check names a reserved encoding of a register: MXF (cause 7 of R314), a pipe (cause 6 of R469) and an LNU
port (cause 5 of R540). It comes before the general check there. -/
def namesReserved (p : Nat) : Bool :=
  match pageClass p with
  | (9, _) => true
  | (13, _) => true
  | (15, n) => decide (n < 4)
  | _ => false

/-- A shadow of the page's registers holds a reserved encoding: one of its own, or the length of a gate list that is to run
(R15, R506). -/
def State.pageReserved (s : State) (p : Nat) : Bool :=
  s.rwsReserved p || (pageType p = 14 && (List.range 4).any fun k => s.gclNoLen (4 * (pageClass p).2 + k))

/-- Step 4 of R69: the reason for which the validation of a page refuses, 0 where it passes. An ETH page has no event for it.
[DEDUCED, log 27] -/
def State.validate (s : State) (p t : Nat) : State × Nat :=
  if s.pageReserved p && !namesReserved p then (s, 0x02)
  else
    match s.blockInvalid p t with
    | some (e, a, b) => (s.raise p e a b, 0x03)
    | none => if s.pageReserved p then (s, 0x02) else if pageType p = 19 && s.ethInvalid p then (s, 0x03) else (s, 0)

/-! ## Resolution -/

/-- `CMT_STATUS.STATE` of a page. -/
def State.cmtState (s : State) (p : Nat) : Nat := s.rf p Reg.cmtStatus 2 0

/-- A page is ARMED. -/
def State.armed (s : State) (p : Nat) : Bool := s.cmtState p = 1

/-- A commit of a page resolves: 2 APPLIED, 3 LATE or 4 REFUSED, with its reason, SEQ and event (R69, R100). -/
def State.cmtResolve (s : State) (p st reason : Nat) : State :=
  let t := (s.rd p Reg.cmtWale).toNat
  let g := s.rf p Reg.cmtCtl 20 16
  let s := ((s.wfld p Reg.cmtStatus 2 0 st).wfld p Reg.cmtStatus 15 8 reason).seqUp p Reg.cmtStatus
  let s := (s.wfld p Reg.cmtCtl 0 0 0).setPg p fun x => { x with doomed := false }
  if st = 2 then s.raise p .pageCmtApplied t 0
  else if st = 3 then s.raise p .pageCmtLate t 0
  else s.raise p .pageCmtRefused (reason + g * 2 ^ 8) 0

/-- A page becomes ARMED. -/
def State.cmtArmed (s : State) (p : Nat) : State :=
  ((s.wfld p Reg.cmtStatus 2 0 1).wfld p Reg.cmtStatus 15 8 0).wfld p Reg.cmtCtl 0 0 1

/-- Pages whose commit is ARMED, lowest first. -/
def State.armedPages (s : State) : List Nat :=
  s.reg.filterMap fun (k, v) => if k % 65536 = Reg.cmtStatus && fld v 2 0 = 1 then some (k / 65536) else none

/-! ## Groups (R74 to R79) -/

/-- A commit group. -/
def State.group (s : State) (g : Nat) : Cgrp := NMap.get (fun _ => ({} : Cgrp)) s.cgrp g

/-- The wale a group's commit is for: TARGET, or, once the group is COMMITTED, the target it was checked for. -/
def Cgrp.aim (c : Cgrp) : Nat := if c.state = 2 then c.due else c.target

/-- Pages ARMED as members of a group, for its target. -/
def State.members (s : State) (g : Nat) : List Nat :=
  s.armedPages.filter fun p => s.rf p Reg.cmtCtl 20 16 = g && (s.rd p Reg.cmtWale).toNat = (s.group g).aim

/-- The registers of R74 show the group that `SYS_CGRP_SEL` selects. -/
def State.groupShow (s : State) : State :=
  let g := s.rf 0 Reg.sysCgrpSel 4 0
  let c := s.group g
  let armed := decide (c.state = 1 ∨ c.state = 2)
  let n := if g = 0 then 0 else (s.members g).length
  let s := s.wr 0 Reg.sysCgrpCtl (BitVec.ofNat 32 (armed.toNat + c.count * 2 ^ 16))
  let s := s.wr 0 Reg.sysCgrpWale (BitVec.ofNat 32 c.target)
  let s := s.wr 0 Reg.sysCgrpStatus (BitVec.ofNat 32 (c.state + c.reason * 2 ^ 8 + n * 2 ^ 16 + c.seq * 2 ^ 28))
  s.wr 0 Reg.sysCgrpCulprit (BitVec.ofNat 32 c.culprit)

/-- A group changed. [DESIGN CHOICE, log 13] -/
def State.setGroup (s : State) (g : Nat) (f : Cgrp → Cgrp) : State :=
  State.groupShow { s with cgrp := NMap.set (fun _ => ({} : Cgrp)) s.cgrp g (f (s.group g)) }

/-- A group resolves APPLIED, LATE or REFUSED. -/
def State.groupResolve (s : State) (g st reason : Nat) (culprit : Option Nat) : State :=
  s.setGroup g fun c =>
    { c with state := st, reason := reason, seq := (c.seq + 1) % 16, culprit := culprit.getD c.culprit }

/-- A group is refused with its members: `why` gives each member's reason. -/
def State.groupRefuse (s : State) (g reason culprit : Nat) (why : Nat → Nat) : State :=
  ((s.members g).foldl (fun s p => s.cmtResolve p 4 (why p)) s).groupResolve g 5 reason (some culprit)

/-- A group resolves LATE with its members (R76). -/
def State.groupLate (s : State) (g : Nat) : State :=
  ((s.members g).foldl (fun s p => s.cmtResolve p 3 1) s).groupResolve g 4 1 none

/-! ## Arms -/

/-- Wales from the wale in progress to a target, modulo 2^32 (R24): 2^31 and above is past. -/
def State.ahead (s : State) (t : Nat) : Nat := (t + 2 ^ 32 - s.wale % 2 ^ 32) % 2 ^ 32

/-- A page arms (R69). [DEDUCED, log 27] -/
def State.armPage (s : State) (p : Nat) : State :=
  let t := (s.rd p Reg.cmtWale).toNat
  let g := s.rf p Reg.cmtCtl 20 16
  let d := s.ahead t
  if g ≠ 0 then
    if !decide (2 ≤ d ∧ d < 2 ^ 31) then s.cmtResolve p 4 0x04
    else if (s.group g).state ≠ 1 || (s.group g).target ≠ t then s.cmtResolve p 4 0x09
    else
      match s.validate p t with
      | (s, 0) => (s.cmtArmed p).groupShow
      | (s, r) => (s.cmtResolve p 4 r).groupRefuse g 0x05 p fun _ => 0x05
  else if !decide (1 ≤ d ∧ d < 2 ^ 31) then s.cmtResolve p 3 0x01
  else
    match s.validate p t with
    | (s, 0) => s.cmtArmed p
    | (s, r) => s.cmtResolve p 4 r

/-- A write to a commit register that the page does not have is a write to an unimplemented offset (R63). -/
def State.cmtAccess (s : State) (src : Src) (p : Nat) (v : Word) (k : State → State) : State :=
  s.access src p Reg.cmtCtl v fun s => if (pageCaps p).cmt then k s else s.accessErr p Reg.cmtCtl 3 src v

/-- ARM of a page (R69, R71). -/
def State.cmtArm (s : State) (src : Src) (p : Nat) (v : Word) : State :=
  if s.armed p then s.accessErr p Reg.cmtCtl 2 src v else s.armPage p

/-- A page is ARMED as a member of a COMMITTED group. -/
def State.committedMember (s : State) (p : Nat) : Bool :=
  let g := s.rf p Reg.cmtCtl 20 16
  g ≠ 0 && s.armed p && (s.group g).state = 2 && decide ((s.group g).due = (s.rd p Reg.cmtWale).toNat)

/-- DISARM of a page (R72). [DEDUCED, log 27] -/
def State.cmtDisarm (s : State) (src : Src) (p : Nat) (v : Word) : State :=
  if !s.armed p then s
  else if s.committedMember p then
    s.accessErr p Reg.cmtCtl 8 src v
  else (s.cmtResolve p 4 0x07).groupShow

/-- ARM of the selected group (R74). The selection that reset leaves, group 0, is a reserved encoding (R711).
[DESIGN CHOICE, log 13; DEDUCED, log 27] -/
def State.cgrpArm (s : State) (src : Src) (v : Word) : State :=
  let g := s.rf 0 Reg.sysCgrpSel 4 0
  let c := s.group g
  let d := s.ahead c.target
  if g = 0 then s.accessErr 0 Reg.sysCgrpCtl 4 src v
  else if c.state = 1 || c.state = 2 then s.accessErr 0 Reg.sysCgrpCtl 2 src v
  else if c.count = 0 then s.groupResolve g 5 0x02 (some 0)
  else if d = 1 then s.groupResolve g 5 0x04 (some 0)
  else if !decide (2 ≤ d ∧ d < 2 ^ 31) then s.groupResolve g 4 0x01 none
  else s.setGroup g fun c => { c with state := 1, reason := 0 }

/-- DISARM of the selected group (R79, R711). No page is the culprit, so `SYS_CGRP_CULPRIT` reads 0x000, and the DISARM of a
group that is neither ARMED nor COMMITTED does nothing. -/
def State.cgrpDisarm (s : State) (src : Src) (v : Word) : State :=
  let g := s.rf 0 Reg.sysCgrpSel 4 0
  if g = 0 then s.accessErr 0 Reg.sysCgrpCtl 4 src v
  else if (s.group g).state = 1 then s.groupRefuse g 0x07 0 fun _ => 0x07
  else if (s.group g).state = 2 then s.accessErr 0 Reg.sysCgrpCtl 8 src v
  else s

/-- R69, R71: `CMT_CTL.ARM` is written 1. -/
def execCmtArm (src : Src) (page : Nat) (s : State) : Host.Outcome State Fault Refusal :=
  let v := s.rd page Reg.cmtCtl ||| 1
  .next (s.cmtAccess src page v fun s => s.cmtArm src page v)

/-- R72: `CMT_CTL.DISARM` is written 1. -/
def execCmtDisarm (src : Src) (page : Nat) (s : State) : Host.Outcome State Fault Refusal :=
  let v := s.rd page Reg.cmtCtl ||| 4
  .next (s.cmtAccess src page v fun s => s.cmtDisarm src page v)

/-- R74: `SYS_CGRP_CTL.ARM` is written 1. -/
def execCgrpArm (src : Src) (s : State) : Host.Outcome State Fault Refusal :=
  let v := s.rd 0 Reg.sysCgrpCtl ||| 1
  .next (s.access src 0 Reg.sysCgrpCtl v fun s => s.cgrpArm src v)

/-- R79: `SYS_CGRP_CTL.DISARM` is written 1. -/
def execCgrpDisarm (src : Src) (s : State) : Host.Outcome State Fault Refusal :=
  let v := s.rd 0 Reg.sysCgrpCtl ||| 2
  .next (s.access src 0 Reg.sysCgrpCtl v fun s => s.cgrpDisarm src v)

/-! ## Applies -/

/-- LFW's banks are exchanged; a subscription whose VALID, OUT_SCID, RUNGS or SRC differ begins afresh (R276), and each
inconsistent one is told again (R277). -/
def State.lfwFlip (s : State) : State :=
  let key (b n : Nat) : List Nat :=
    [s.tf lfwPage 0 b n 0 31 31, s.tf lfwPage 0 b n 1 26 0, s.tf lfwPage 0 b n 2 24 0, s.tf lfwPage 0 b n 3 24 0,
     s.tf lfwPage 0 b n 4 24 0]
  let ns := (((s.tlist lfwPage 0 0).map (·.1)) ++ ((s.tlist lfwPage 0 1).map (·.1))).mergeSort.eraseDups.filter
    fun n => key 0 n ≠ key 1 n
  ((ns.foldl (fun s n => s.resetSub n) s).flipPage lfwPage).setLfw fun l => { l with badSubs := [] }

/-- A port's links go down; they train again in the new MODE (R196). -/
def State.linksDown (s : State) (n : Nat) : State := (List.range 4).foldl (fun s k => s.linkDown (4 * n + k)) s

/-- The commit of a page applies at the boundary of its target: registers, shadow tables and banks (R67, R78, R81). -/
def State.applyPage (s : State) (p : Nat) : State :=
  let cut := s.rb p Reg.cmtCtl 1
  let flip := s.rb p Reg.cmtCtl 3
  let (ty, n) := pageClass p
  let lanes := (List.range 4).map fun k => 4 * n + k
  let gates := lanes.map fun l => (l, s.gclForce l)
  let offset := s.ra p Reg.tmuBinOffset
  let mode := s.raf p Reg.ethPortCfg 1 0
  let tb := s.boundary s.clk.wale
  let s := s.rwsApply p
  let s :=
    if ty = 2 then (if s.ra p Reg.tmuBinOffset ≠ offset then s.pmDoubt s.entities else s)
    else if ty = 8 then (if flip then s.lfwFlip else s)
    else if ty = 9 then s.mxfApply s.clk.wale cut
    else if ty = 11 then (if n < 16 then s.encApply n else s.decApply (n - 16))
    else if ty = 12 then
      let s := s.wveApply n
      if flip then (s.flipPage p).wveFlipped n else s
    else if ty = 13 then s.pxcApply n
    else if ty = 14 then gates.foldl (fun s g => s.gclApply g.1 tb g.2) (s.escTables p)
    else if ty = 15 then (if n = 4 then (if flip then s.flipPage p else s) else s.lnuTables n)
    else if ty = 19 then (if s.raf p Reg.ethPortCfg 1 0 = mode then s else s.linksDown n).refreshReady (0x048 + n) true
    else s
  s.cmtResolve p 2 0

/-- R67, R73: step 4 of R47 for an armed single-page commit whose target has come. -/
def execCommitApply (page : Nat) (s : State) : Host.Outcome State Fault Refusal :=
  .next
    (if s.stepDue 4 && s.armed page && s.rf page Reg.cmtCtl 20 16 = 0 && (s.rd page Reg.cmtWale).toNat = s.wale then
      let s := s.atStep 4
      if (s.pg page).doomed || !s.enabled page || s.fenced page then s.cmtResolve page 4 0x06 else s.applyPage page
     else s)

/-- R76: the check of an armed group at B(T - 1). [DEDUCED, log 27] -/
def execCgrpCheck (group : Nat) (s : State) : Host.Outcome State Fault Refusal :=
  let c := s.group group
  .next
    (if s.stepDue 4 && c.state = 1 && c.target = (s.wale + 1) % 2 ^ 32 then
      let s := s.atStep 4
      let ms := s.members group
      let off := ms.filter fun p => !s.enabled p || s.fenced p
      match off with
      | p :: _ => s.groupRefuse group 0x06 p fun q => if off.contains q then 0x06 else 0x05
      | [] =>
        if ms.length ≠ c.count then s.groupRefuse group 0x0A 0xFFF fun _ => 0x05
        else s.setGroup group fun c => { c with state := 2, due := c.target }
     else s)

/-- R78: a COMMITTED group applies to every member. -/
def execCgrpApply (group : Nat) (s : State) : Host.Outcome State Fault Refusal :=
  let c := s.group group
  .next
    (if s.stepDue 4 && c.state = 2 && c.due = s.wale then
      ((s.members group).foldl (fun s p => s.applyPage p) (s.atStep 4)).groupResolve group 3 0 none
     else s)

/-- What a start of the generator resolves before the applies of its first boundary: commits whose target is earlier than
`TMU_START_WALE`, and groups whose check boundary had no strobe (R35, R76). -/
def State.startLate (s : State) : State :=
  let w := s.wale
  let late (g : Nat) : Bool :=
    let c := s.group g
    (c.state = 1 && waleLe c.target w) || (c.state = 2 && waleLt c.due w)
  let s := ((List.range' 1 31).filter late).foldl (fun s g => s.groupLate g) s
  (s.armedPages.filter fun p => waleLt (s.rd p Reg.cmtWale).toNat w).foldl (fun s p => s.cmtResolve p 3 1) s

/-- A page's ARMED commit meets a page reset (R66, R73): it resolves REFUSED with reason 0x08 at once, and so does its
group before the check. A member of a COMMITTED group stays ARMED, and the group applies to it (R78). -/
def State.resetCommit (s : State) (p : Nat) : State :=
  if !s.armed p || s.committedMember p then s
  else
    let g := s.rf p Reg.cmtCtl 20 16
    let inGroup := g ≠ 0 && (s.group g).state = 1 && (s.group g).target = (s.rd p Reg.cmtWale).toNat
    let s := s.cmtResolve p 4 0x08
    if inGroup then s.groupRefuse g 0x08 p fun _ => 0x05 else s.groupShow

/-- A page that is fenced or disabled while its single-page commit is ARMED (R73). -/
def State.doomCommit (s : State) (p : Nat) : State :=
  if s.armed p && s.rf p Reg.cmtCtl 20 16 = 0 then s.setPg p fun x => { x with doomed := true } else s

end Sys2Proof.Machine
end

