-- ==== Sys2Proof/Machine/Operands.lean ====
section
/-!
DEFINITION. The operands of a Withy core's instructions: which value of a register an instruction sees (R349), the
addresses it forms (R357), DMEM with its PORT region (R345 to R347), and the waits of R367.
-/

namespace Sys2Proof.Machine

/-- The WDS page of a core. -/
def wdsPage (n : Nat) : Nat := 0x100 + n

/-- A core. -/
def State.core (s : State) (n : Nat) : WCore := NMap.get (fun _ => WCore.init) s.cores n

/-- A core changed. -/
def State.setCore (s : State) (n : Nat) (f : WCore → WCore) : State :=
  { s with cores := NMap.set (fun _ => WCore.init) s.cores n (f (s.core n)) }

/-- A core is in Test mode. -/
def State.wdsTest (s : State) (n : Nat) : Bool := s.rb (wdsPage n) Reg.wdsMode 0

/-- Reads as zero where nothing is listed. -/
def word0 (_ : Nat) : Word := 0

/-- A data operand. [DEDUCED, log 78] -/
def WCore.dreg (c : WCore) (r : Nat) : Word := NMap.get word0 c.d r

/-- The register of BR. -/
def WCore.breg (c : WCore) (r : Nat) : Word := NMap.get word0 c.d2 r

/-- An accumulator as a MAC-class instruction reads it. -/
def WCore.accNew (c : WCore) (k : Nat) : BitVec 40 := NMap.get (fun _ => 0) c.acc k

/-- An accumulator as RDA, STA and NORM read it. -/
def WCore.accOld (c : WCore) (k : Nat) : BitVec 40 := NMap.get (fun _ => 0) c.accP k

/-- An address register, base, length or CMODE as an address operand sees it. [DEDUCED, log 78] -/
def WCore.areg (c : WCore) (r : Nat) : Nat := NMap.get (fun _ => 0) c.a r

/-- The same as GETA and GETM see it. -/
def WCore.aregX (c : WCore) (r : Nat) : Nat :=
  match (c.p1.reverse ++ c.p2.reverse).find? fun p => p.1 = r with
  | some p => p.2
  | none => c.areg r

/-- The number of CMODE. -/
def cmodeReg : Nat := 16

/-- An address formed from x through AXn: wrapped where CMODE gives AXn a circular pair with a length, else modulo
2^17 (R357). -/
def WCore.wrap (c : WCore) (ax : Nat) (x : Int) : Nat :=
  let m := c.areg cmodeReg / 2 ^ (4 * ax) % 8
  let l := c.areg (8 + m)
  if 4 ≤ m ∧ l ≠ 0 then c.areg (4 + m) + ((x - c.areg (4 + m)) % l).toNat else (x % 2 ^ 17).toNat

/-- The address of a MEM operand and the new AXn (R352, R357). -/
def WCore.memAddr (c : WCore) (ax : Nat) (post : Bool) (imm : Int) : Nat × List (Nat × Nat) :=
  if post then (c.wrap ax (c.areg ax), [(ax, c.wrap ax (c.areg ax + imm) % 2 ^ 17)])
  else (c.wrap ax (c.areg ax + imm), [])

/-! ## DMEM -/

/-- First byte of WORK and of CONST, and the end of DMEM. -/
def workLo : Nat := 0x100
def constLo : Nat := 0x12000
def dmemEnd : Nat := 0x18000

/-- Offsets of the PORT registers. -/
def portFctl : Nat := 0x80
def portFstat : Nat := 0x84
def portFres : Nat := 0x88
def portCsr : Nat := 0x94
def portCyc : Nat := 0x98
def portIrq : Nat := 0x9C
def portIvec : Nat := 0xA0
def portDma (ch : Nat) : Nat := 0xC0 + 16 * ch

/-- A DMEM byte as an instruction reads it: stores of the last two instructions are not yet seen (R349). -/
def WCore.mbyte (c : WCore) (a : Nat) : Byte := NMap.get byte0 c.dmem a

/-- A DMEM byte with every store done. -/
def WCore.mbyteX (c : WCore) (a : Nat) : Byte :=
  match (c.st1.reverse ++ c.st2.reverse).find? fun p => p.1 = a with
  | some p => p.2
  | none => c.mbyte a

/-- n bytes of DMEM as a number, as an instruction reads them. -/
def WCore.mread (c : WCore) (a n : Nat) : Nat := leNat ((List.range n).map fun i => c.mbyte (a + i))

/-- n bytes of DMEM as a number, with every store done. -/
def WCore.mreadX (c : WCore) (a n : Nat) : Nat := leNat ((List.range n).map fun i => c.mbyteX (a + i))

/-- The bits a W1C write has cleared in the register at a that a reader does not yet see as cleared. -/
def WCore.hidden (c : WCore) (a : Nat) : Nat :=
  (c.st1 ++ c.st2).foldl (fun n p => if p.1 = a then n ||| p.2.toNat else n) 0

/-- A DMA channel. -/
def WCore.chan (c : WCore) (ch : Nat) : Dma := NMap.get (fun _ => Dma.init) c.dma ch

/-- A DMA channel changed. -/
def WCore.setChan (c : WCore) (ch : Nat) (f : Dma → Dma) : WCore :=
  { c with dma := NMap.set (fun _ => Dma.init) c.dma ch (f (c.chan ch)) }

/-- The word an LDW reads in PORT (R347). -/
def WCore.portRead (c : WCore) (test : Bool) (a : Nat) : Word :=
  if a = portFctl then 0
  else if a = portFstat then BitVec.ofNat 32 (c.fbusy || c.fctl.isSome).toNat
  else if a = portCsr then BitVec.ofNat 32 ((c.sat.toNat + c.ovf.toNat * 2) ||| c.hidden portCsr)
  else if a = portCyc then BitVec.ofNat 32 (min (c.cyc + 4) 0xFFFFFFFF)
  else if a = portIrq then
    BitVec.ofNat 32 ((c.pend ||| c.hidden portIrq) + (if test then c.mread (portIrq + 1) 1 % 8 * 256 else 0))
  else if 0xC0 ≤ a && a % 16 = 0 then
    let d := c.chan ((a - 0xC0) / 16)
    BitVec.ofNat 32 (c.mread a 1 % 8 + d.status * 16 + (d.busy || d.go.isSome).toNat * 256)
  else BitVec.ofNat 32 (c.mread a 4)

/-- PORT addresses hold a register (R347). -/
def portDefined (a : Nat) : Bool := a % 4 = 0 && !(0xA4 ≤ a && a < 0xC0)

/-- What touches DMEM. -/
inductive MAcc where
  | ldw | ldh | macm | stw | sth | sta
  deriving DecidableEq, Repr

/-- The access stores. -/
def MAcc.stores : MAcc → Bool
  | .stw | .sth | .sta => true
  | _ => false

/-- The fault of an access of `size` bytes at a, 0 where there is none: causes 2 and 6 of R373 (R345, R346).
[DEDUCED, log 79] -/
def memFault (test : Bool) (k : MAcc) (a size : Nat) : Nat :=
  if dmemEnd ≤ a then 2
  else if 0x40 ≤ a && a < workLo then
    if (k = .ldw || k = .stw) && portDefined a then 0 else 2
  else if k.stores && !test && (a < 0x40 || constLo ≤ a) then 2
  else if a % size ≠ 0 then 6
  else 0

/-- Two ranges of bytes share a 64-byte granule. -/
def granulesMeet (a n b m : Nat) : Bool := decide (a / 64 ≤ (b + m - 1) / 64 ∧ b / 64 ≤ (a + n - 1) / 64)

/-- An access waits for a busy channel (R367). -/
def WCore.mustWait (c : WCore) (k : MAcc) (a size : Nat) : Bool :=
  (List.range 4).any fun ch =>
    let d := c.chan ch
    d.busy && (k.stores || !d.out) && granulesMeet a size d.loc (4 * d.lenw)

/-- Channels of a mask are idle. -/
def WCore.chansIdle (c : WCore) (mask : Nat) : Bool :=
  (List.range 4).all fun ch => !(mask.testBit ch) || (!(c.chan ch).busy && (c.chan ch).go.isNone)

/-- The fabric request is answered. -/
def WCore.fabIdle (c : WCore) : Bool := !c.fbusy && c.fctl.isNone

end Sys2Proof.Machine
end

