-- ==== Sys2Proof/Machine/Flags.lean ====
section
/-!
DEFINITION. What a Withy core computes: its flags and conditions (R350, R352), the multiplier and the accumulators
(R354), rounding and saturation (R355) and redundant sign bits (R362).
-/

namespace Sys2Proof.Machine

/-- FLAGS after a comparison: Z in bit 0, N in bit 1, U in bit 2. -/
def cmpFlags (a b : Word) : Nat := (decide (a = b)).toNat + (a.slt b).toNat * 2 + (a.ult b).toNat * 4

/-- A condition holds for FLAGS. -/
def condHolds (c : Cond) (fl : Nat) : Bool :=
  let z := fl.testBit 0
  let n := fl.testBit 1
  let u := fl.testBit 2
  match c with
  | .always => true
  | .eq => z
  | .ne => !z
  | .lt => n
  | .ge => !n
  | .gt => !n && !z
  | .le => n || z
  | .ltu => u
  | .geu => !u

/-- The selected half of a register, signed. -/
def halfOf (w : Word) (high : Bool) : Int := if high then (w.extractLsb' 16 16).toInt else (w.extractLsb' 0 16).toInt

/-- An exact accumulation wraps (R354). -/
def accOvf (v : Int) : Bool := decide (v < -(2 ^ 39)) || decide (2 ^ 39 ≤ v)

/-- The value of R355 that RDA or STA forms, and whether it saturated. -/
def roundSat (a : BitVec 40) (shift wid : Nat) : Int × Bool :=
  let v := if 0 < shift then (a.toInt + 2 ^ (shift - 1)) / 2 ^ shift else a.toInt
  let b : Int := if wid = 1 then 2 ^ 15 else if wid = 2 then 2 ^ 23 else 2 ^ 31
  if v < -b then (-b, true) else if b - 1 < v then (b - 1, true) else (v, false)

/-- The number of redundant sign bits of a w-bit value: those that equal the sign bit below it, without a break. -/
def signBits {w : Nat} (v : BitVec w) : Nat :=
  ((List.range (w - 1)).takeWhile fun i => v.getLsbD (w - 2 - i) = v.msb).length

/-- The absolute value of ABS (R352). -/
def absSat (a : Word) : Word := if a = 0x80000000#32 then 0x7FFFFFFF#32 else if a.slt 0 then -a else a

end Sys2Proof.Machine
end

