-- ==== Sys2Proof/Machine/Withy.lean ====
section
/-!
DEFINITION. The Withy core: one instruction at a time through the exposed pipeline of R348 to R360, faults and the end
of a task (R370 to R374). Every instruction's command names a core and the fields of the instruction; it takes effect
where the word at that core's PC is that instruction.
-/

namespace Sys2Proof.Machine

/-- What an instruction does, beside the passing of one instruction. -/
structure WEff where
  /-- Data registers, for the next instruction on. -/
  dw : List (Nat × Word) := []
  /-- A loaded value. -/
  ld : Option (Nat × Word) := none
  /-- Accumulators. -/
  aw : List (Nat × BitVec 40) := []
  /-- Address registers post-modified. -/
  pm : List (Nat × Nat) := []
  /-- Writes of SETA, AADD and SETM. -/
  pw : List (Nat × Nat) := []
  /-- Bytes stored. -/
  st : List (Nat × Byte) := []
  fl : Option Nat := none
  br : Br := .none
  /-- A repeat: its length and count. -/
  rpt : Option (Nat × Nat) := none
  /-- Cycles beyond the first. -/
  extra : Nat := 0
  sat : Bool := false
  ovf : Bool := false
  /-- Bits cleared in CSR and in IRQ.PEND. -/
  clrCsr : Nat := 0
  clrPend : Nat := 0
  /-- The DMA channel started. -/
  go : Option Nat := none
  /-- The request issued: target and queue. -/
  ctl : Option (Nat × Nat) := none
  ie : Option Bool := none
  deriving DecidableEq, Repr

/-- What comes of an instruction: a fault, a wait, its effects, or the end of the task. -/
inductive WRes where
  | fault (cause : Nat)
  | wait
  | run (e : WEff)
  | exit (value : Word)
  deriving DecidableEq, Repr

/-! ## What each instruction does -/

/-- A data register written. -/
def WRes.dst (d : Nat) (v : Word) : WRes := .run { dw := [(d, v)] }

/-- An address that an access may use, or its fault or wait. -/
def WCore.touch (c : WCore) (test : Bool) (k : MAcc) (a size : Nat) (f : WRes) : WRes :=
  if memFault test k a size ≠ 0 then .fault (memFault test k a size)
  else if c.mustWait k a size then .wait
  else f

/-- A store to a PORT register (R347). -/
def portStore (test : Bool) (a : Nat) (v : Word) : WEff :=
  if a < 0x80 then { st := [(a, v)].flatMap fun p => (leBytes 4 p.2.toNat).zipIdx.map fun b => (p.1 + b.2, b.1) }
  else if a = portFctl then { ctl := some (fld v 3 0, fld v 15 8) }
  else if a = portCsr then { clrCsr := fld v 1 0 }
  else if a = portIrq then
    { clrPend := fld v 2 0, st := if test then [(portIrq + 1, BitVec.ofNat 8 (fld v 10 8))] else [] }
  else if a = portIvec then { st := [(a, BitVec.ofNat 8 (fld v 7 0)), (a + 1, BitVec.ofNat 8 (fld v 12 8))] }
  else if 0xC0 ≤ a then
    if a % 16 = 0 then
      { st := [(a, BitVec.ofNat 8 (fld v 2 0))], go := if bit v 3 then some ((a - 0xC0) / 16) else none }
    else { st := (leBytes 4 v.toNat).zipIdx.map fun b => (a + b.2, b.1) }
  else {}

/-- A store of bytes to SLOT, WORK or CONST. -/
def bytesAt (a : Nat) (bs : List Byte) : List (Nat × Byte) := bs.zipIdx.map fun b => (a + b.2, b.1)

/-- LDW (R352, R374): the word read is `bad` where it has a double-bit error. -/
def WCore.doLdw (c : WCore) (test : Bool) (d ax : Nat) (post : Bool) (imm : Int) (bad : Bool) : WRes :=
  let (a, pm) := c.memAddr ax post imm
  c.touch test .ldw a 4
    (if bad then .fault 9
     else if 0x40 ≤ a ∧ a < workLo then .run { ld := some (d, c.portRead test a), pm := pm }
     else .run { ld := some (d, BitVec.ofNat 32 (c.mread a 4)), pm := pm })

/-- LDH (R352, R374). -/
def WCore.doLdh (c : WCore) (test : Bool) (d ax : Nat) (post : Bool) (imm : Int) (bad : Bool) : WRes :=
  let (a, pm) := c.memAddr ax post imm
  c.touch test .ldh a 2 (if bad then .fault 9 else .run { ld := some (d, (BitVec.ofNat 16 (c.mread a 2)).signExtend 32), pm := pm })

/-- STW (R352). -/
def WCore.doStw (c : WCore) (test : Bool) (d ax : Nat) (post : Bool) (imm : Int) : WRes :=
  let (a, pm) := c.memAddr ax post imm
  c.touch test .stw a 4
    (if 0x40 ≤ a ∧ a < workLo then .run { portStore test a (c.dreg d) with pm := pm }
     else .run { st := bytesAt a (leBytes 4 (c.dreg d).toNat), pm := pm })

/-- STH (R352). -/
def WCore.doSth (c : WCore) (test : Bool) (d ax : Nat) (post : Bool) (imm : Int) : WRes :=
  let (a, pm) := c.memAddr ax post imm
  c.touch test .sth a 2 (.run { st := bytesAt a (leBytes 2 (c.dreg d).toNat), pm := pm })

/-- STA (R355). -/
def WCore.doSta (c : WCore) (test : Bool) (acc ax : Nat) (post : Bool) (imm : Int) (shift wid : Nat) : WRes :=
  let (a, pm) := c.memAddr ax post imm
  let (v, sat) := roundSat (c.accOld acc) shift wid
  let n := if wid = 1 then 2 else 4
  c.touch test .sta a n
    (.run { st := bytesAt a (leBytes n (BitVec.ofInt 32 v).toNat), pm := pm, sat := sat })

/-- An accumulation of the exact value v. -/
def accRun (acc : Nat) (v : Int) (pm : List (Nat × Nat)) : WRes :=
  .run { aw := [(acc, BitVec.ofInt 40 v)], ovf := accOvf v, pm := pm }

/-- MACM (R354, R374): both addresses are formed before either is updated; one register given twice gets one update of 2
for each. -/
def WCore.doMacm (c : WCore) (test : Bool) (acc p q : Nat) (bad : Bool) : WRes :=
  let a := c.wrap p (c.areg p)
  let b := c.wrap q (c.areg q)
  let p2 : Nat := c.wrap p (c.areg p + 2) % 2 ^ 17
  let q2 : Nat := if p = q then c.wrap q (p2 + 2) % 2 ^ 17 else c.wrap q (c.areg q + 2) % 2 ^ 17
  c.touch test .macm a 2 (c.touch test .macm b 2
    (if bad then .fault 9
     else
      accRun acc ((c.accNew acc).toInt +
        (BitVec.ofNat 16 (c.mread a 2)).toInt * (BitVec.ofNat 16 (c.mread b 2)).toInt) [(p, p2), (q, q2)]))

/-- A value of CMODE holds no reserved encoding and no reserved bit (R343). -/
def cmodeOk (v : Word) : Bool :=
  (List.range 8).all fun n => let f := fld v (4 * n + 3) (4 * n); decide (f = 0 ∨ (4 ≤ f ∧ f ≤ 7))

/-- I0: the iterations completed of the innermost active level. -/
def WCore.i0 (c : WCore) : Nat :=
  match c.loops with
  | [] => 0
  | l :: _ => l.done

/-- PC stands in one of the last three instructions of an active body (R360). -/
def WCore.nearEnd (c : WCore) : Bool := c.loops.any fun l => decide (l.start ≤ c.pc ∧ c.pc ≤ l.last ∧ l.last < c.pc + 3)

/-- The next instruction stands in a delay slot. -/
def WCore.inSlot (c : WCore) : Bool := c.br1 ≠ .none || c.br2 ≠ .none

/-- A branch, taken or not (R350, R360). -/
def WCore.doBranch (c : WCore) (b : Br) (dw : List (Nat × Word)) : WRes :=
  if c.nearEnd then .fault 4 else .run { br := b, dw := dw }

/-- A REP (R358 to R360). -/
def WCore.doRep (c : WCore) (len count : Nat) : WRes :=
  let last := c.pc + len
  if c.inSlot then .fault 4
  else
    match c.loops with
    | l :: r =>
      if r ≠ [] then .fault 5
      else if l.last < last then .fault 4
      else .run { rpt := some (len, count) }
    | [] => .run { rpt := some (len, count) }

/-- Both address and register numbers of SETA (R352): 0 to 7 AX, 8 to 11 CB, 12 to 15 CL. -/
def WCore.doMaxi (c : WCore) (d a : Nat) (greater : Bool) : WRes :=
  if d % 2 = 1 then .fault 1
  else if (if greater then (c.dreg d).slt (c.dreg a) else (c.dreg a).slt (c.dreg d)) then
    .run { dw := [(d, c.dreg a), (d + 1, BitVec.ofNat 32 c.i0)] }
  else .run {}

/-- What the instruction comes to on a core, in Test mode or not. A word that it reads from DMEM is `bad` where it has a
double-bit error. [DEDUCED, log 78] -/
def WCore.eval (c : WCore) (test bad : Bool) : WOp → WRes
  | .nop => .run {}
  | .mov d a => .dst d (c.dreg a)
  | .movi d imm => .dst d (imm.signExtend 32)
  | .movhi d imm => .dst d (imm ++ (c.dreg d).extractLsb' 0 16)
  | .add d a b => .dst d (c.dreg a + c.dreg b)
  | .sub d a b => .dst d (c.dreg a - c.dreg b)
  | .addi d a imm => .dst d (c.dreg a + imm.signExtend 32)
  | .and d a b => .dst d (c.dreg a &&& c.dreg b)
  | .or d a b => .dst d (c.dreg a ||| c.dreg b)
  | .xor d a b => .dst d (c.dreg a ^^^ c.dreg b)
  | .shl d a b => .dst d (c.dreg a <<< fld (c.dreg b) 4 0)
  | .shr d a b => .dst d ((c.dreg a).sshiftRight (fld (c.dreg b) 4 0))
  | .shrl d a b => .dst d (c.dreg a >>> fld (c.dreg b) 4 0)
  | .shri d a k => .dst d ((c.dreg a).sshiftRight k)
  | .shli d a k => .dst d (c.dreg a <<< k)
  | .abs d a => .dst d (absSat (c.dreg a))
  | .max d a b => .dst d (if (c.dreg a).slt (c.dreg b) then c.dreg b else c.dreg a)
  | .min d a b => .dst d (if (c.dreg b).slt (c.dreg a) then c.dreg b else c.dreg a)
  | .cmp a b => .run { fl := some (cmpFlags (c.dreg a) (c.dreg b)) }
  | .cmpi a imm => .run { fl := some (cmpFlags (c.dreg a) (imm.signExtend 32)) }
  | .maxi d a => c.doMaxi d a true
  | .mini d a => c.doMaxi d a false
  | .ldw d ax post imm => c.doLdw test d ax post imm.toInt bad
  | .ldh d ax post imm => c.doLdh test d ax post imm.toInt bad
  | .stw d ax post imm => c.doStw test d ax post imm.toInt
  | .sth d ax post imm => c.doSth test d ax post imm.toInt
  | .mpy acc a b ah bh => accRun acc (halfOf (c.dreg a) ah * halfOf (c.dreg b) bh) []
  | .mac acc a b ah bh => accRun acc ((c.accNew acc).toInt + halfOf (c.dreg a) ah * halfOf (c.dreg b) bh) []
  | .msu acc a b ah bh => accRun acc ((c.accNew acc).toInt - halfOf (c.dreg a) ah * halfOf (c.dreg b) bh) []
  | .macm acc p q => c.doMacm test acc p q bad
  | .clr acc => .run { aw := [(acc, 0)] }
  | .rda d acc shift wid =>
    let (v, sat) := roundSat (c.accOld acc) shift wid
    .run { dw := [(d, BitVec.ofInt 32 v)], sat := sat }
  | .sta acc ax post imm shift wid => c.doSta test acc ax post imm.toInt shift wid
  | .mova acc a => .run { aw := [(acc, (c.dreg a).signExtend 40)] }
  | .seta r a => .run { pw := [(r, fld (c.dreg a) 16 0)] }
  | .geta d r => .dst d (BitVec.ofNat 32 (c.aregX r))
  | .aadd ax imm => .run { pw := [(ax, c.wrap ax (c.areg ax + imm.toInt) % 2 ^ 17)] }
  | .setm a => if cmodeOk (c.dreg a) then .run { pw := [(cmodeReg, (c.dreg a).toNat)] } else .fault 1
  | .getm d => .dst d (BitVec.ofNat 32 (c.aregX cmodeReg))
  | .b cond target => c.doBranch (if condHolds cond c.fl2 then .taken target else .untaken) []
  | .call target => c.doBranch (.taken target) [(15, BitVec.ofNat 32 ((c.pc + 3) % 8192))]
  | .br a => c.doBranch (.taken (fld (c.breg a) 12 0)) []
  | .repi len count => c.doRep len count
  | .repr len a => c.doRep len (fld (c.dreg a) 15 0)
  | .exit a =>
    if c.inSlot || c.nearEnd then .fault 4
    else if c.chansIdle 15 && c.fabIdle then .exit (c.dreg a &&& 0x7FFFFFFF)
    else .wait
  | .waitd mask => if c.chansIdle mask then .run {} else .wait
  | .waitf => if c.fabIdle then .run {} else .wait
  | .ei => .run { ie := some test }
  | .di => .run { ie := some false }
  | .reti => if test then c.doBranch .ret [] else .fault 1
  | .norm d acc =>
    if test then
      let k := signBits (c.accOld acc)
      .run { dw := [(d, BitVec.ofNat 32 k)], aw := [(acc, c.accOld acc <<< k)], extra := 19 }
    else .fault 1
  | .expt d a =>
    if test then .run { dw := [(d, BitVec.ofNat 32 (signBits (c.dreg a)))], extra := 11 } else .fault 1

/-! ## One instruction passes -/

/-- Pairs written into a map in order. -/
def putAll {α : Type} [DecidableEq α] (dflt : Nat → α) (m : NMap α) (l : List (Nat × α)) : NMap α :=
  NMap.setAll dflt m l

/-- PORT bytes that hold only bits cleared and are never stored. -/
def w1cByte (a : Nat) : Bool := a = portCsr || a = portIrq

/-- Stores that land in DMEM. -/
def landing (l : List (Nat × Byte)) : List (Nat × Byte) := l.filter fun p => !w1cByte p.1

/-- The end of an instruction at `at`: where execution goes, the levels that stay active, whether an iteration of the
innermost level ended, and the cycles of R359. `n` bounds the levels. -/
def endLoop (at_ : Nat) : List Level → Nat × List Level × Nat
  | [] => ((at_ + 1) % 8192, [], 0)
  | l :: r =>
    if at_ = l.last then
      let hold := if l.done = 0 then 4 - (l.last + 1 - l.start) else 0
      if 1 < l.left then (l.start, { l with left := l.left - 1, done := l.done + 1 } :: r, hold)
      else
        let (pc, ls, h) := endLoop at_ r
        (pc, ls, hold + h)
    else ((at_ + 1) % 8192, l :: r, 0)

/-- The levels that a taken branch to `t` leaves active: it ends every level whose body does not hold the target, and
every level inside one that ends (R360). -/
def keepLevels (t : Nat) : List Level → List Level
  | [] => []
  | l :: r =>
    let outer := keepLevels t r
    if outer.length = r.length && l.start ≤ t && t ≤ l.last then l :: r else outer

/-- Where execution goes after an instruction. [DEDUCED, log 78] -/
def WCore.flow (c : WCore) (e : WEff) : WCore :=
  match c.br2 with
  | .taken t => { c with pc := t, loops := keepLevels t c.loops, iterEnd := false, atRep := false }
  | .ret =>
    { c with pc := c.saved.pc, loops := c.saved.loops, fl := c.saved.flags, fl1 := c.saved.flags, fl2 := c.saved.flags,
             br1 := c.saved.br1, br2 := c.saved.br2, atRep := c.saved.atRep, ie := true,
             iterEnd := c.saved.iterEnd }
  | _ =>
    match e.rpt with
    | some (len, count) =>
      if count = 0 then
        let (pc, ls, h) := endLoop (c.pc + len) c.loops
        { c with pc := pc, loops := ls, cyc := c.cyc + 3 + h, atRep := false,
                 iterEnd := (c.loops.head?.map (·.last)) = some (c.pc + len) }
      else
        { c with pc := (c.pc + 1) % 8192, loops := ⟨c.pc + 1, c.pc + len, count, 0⟩ :: c.loops, atRep := true,
                 iterEnd := false }
    | none =>
      let (pc, ls, h) := endLoop c.pc c.loops
      { c with pc := pc, loops := ls, cyc := c.cyc + h, atRep := false,
               iterEnd := (c.loops.head?.map (·.last)) = some c.pc }

/-- An instruction takes effect and the next one sees what R349 lets it see. -/
def WCore.retire (c : WCore) (e : WEff) : WCore :=
  let ldw := match c.ld with | some p => [p] | none => []
  let hid := (if e.clrCsr = 0 then [] else [(portCsr, BitVec.ofNat 8 ((c.sat.toNat + c.ovf.toNat * 2) &&& e.clrCsr))]) ++
    (if e.clrPend = 0 then [] else [(portIrq, BitVec.ofNat 8 (c.pend &&& e.clrPend))])
  let c' : WCore :=
    { c with
      d2 := c.d1
      d1 := c.d
      d := putAll word0 c.d (ldw ++ e.dw)
      ld := e.ld
      accP := c.acc
      acc := putAll (fun _ => 0) c.acc e.aw
      a := putAll (fun _ => 0) c.a (c.p2 ++ e.pm)
      p2 := c.p1
      p1 := e.pw
      fl := e.fl.getD c.fl
      fl1 := c.fl
      fl2 := c.fl1
      dmem := putAll byte0 c.dmem (landing c.st2)
      st2 := c.st1
      st1 := e.st ++ hid
      sat := (c.sat && !e.clrCsr.testBit 0) || e.sat
      ovf := (c.ovf && !e.clrCsr.testBit 1) || e.ovf
      pend := c.pend &&& (7 ^^^ e.clrPend)
      cyc := c.cyc + 1 + e.extra
      fctl := e.ctl
      fctlPc := c.pc
      ie := e.ie.getD c.ie }
  let c' := match e.go with
    | some ch => c'.setChan ch fun d => { d with go := some c.pc }
    | none => c'
  let c'' := c'.flow e
  match c.br2 with
  | .ret => c''
  | _ => { c'' with br2 := c.br1, br1 := e.br }

/-! ## The end of a task -/

/-- Every store lands. -/
def WCore.settle (c : WCore) : WCore :=
  { c with dmem := putAll byte0 c.dmem (landing (c.st2 ++ c.st1)), st1 := [], st2 := [] }

/-- A register's STATE field of `WDS_STATUS`: 0 IDLE, 1 LOADING, 2 RUNNING, 3 WAITING. -/
def State.setWst (s : State) (n v : Nat) : State := s.wfld (wdsPage n) Reg.wdsStatus 1 0 v

/-- A wait ends: the cycles it lasted are counted in `WDS_WAIT` (R370, R381), eight for each five ns. -/
def State.endWait (s : State) (n : Nat) : State :=
  match (s.core n).waitFrom with
  | some t =>
    ((s.bumpN (wdsPage n) .wdsWait ((s.clk.tru - t) * 8 / 5)).setCore n fun c => { c with waitFrom := none }).setWst n 2
  | none => s

/-- A wait begins. -/
def State.beginWait (s : State) (n : Nat) : State :=
  match (s.core n).waitFrom with
  | some _ => s
  | none => (s.setCore n fun c => { c with waitFrom := some s.clk.tru }).setWst n 3

/-- The core halts in Test mode and latches the exit value (R377). -/
def State.testHalted (s : State) (n : Nat) (v : Word) : State :=
  let p := wdsPage n
  ((((s.setCore n fun c => { c with ph := 0, value := v }).setWst n 0).wfld p Reg.wdsTestRes 0 0 1).seqUp p Reg.wdsTestRes).wr
    p Reg.wdsTestExit v

/-- The task retires with an exit value: `cyc` cycles have been counted for the instructions before the last, which
takes the cycles from its F to its W (R370, R371). -/
def State.wdsRetire (s : State) (n : Nat) (v : Word) (faulted : Bool) (cycles : Nat) : State :=
  let s := (s.endWait n).bumpN (wdsPage n) .wdsCycles cycles
  let s := s.setCore n fun c => { c.settle with cyc := cycles, value := v, faulted := faulted, ph := 2 }
  if s.wdsTest n then s.testHalted n v else s

/-- A request not yet issued is dropped and the response of one that was issued is discarded (R372). -/
def WCore.abort (c : WCore) : WCore := { c.settle with fctl := none, fdrop := c.fbusy, ph := 0, waitFrom := none }

/-- Channels that have not begun to move data are cancelled, and the others run to completion (R372). Which of the busy
channels have begun is a free value. -/
def State.cutChans (s : State) (n : Nat) : State :=
  (List.range 4).foldl
    (fun s ch =>
      let begun := s.freeNat % 2 = 1
      if ((s.core n).chan ch).busy then
        (s.setCore n fun c => c.setChan ch fun d => { d with busy := begun, go := none }).takeFree
      else s.setCore n fun c => c.setChan ch fun d => { d with go := none }) s

/-- A core has a transfer or a request outstanding. -/
def WCore.moving (c : WCore) : Bool := c.fbusy || (List.range 4).any fun ch => (c.chan ch).busy

/-- A fault: WDS_FAULT, the event and the end of the task with value 0x8000_0000 + cause (R373). `cycles` are those
of the whole task. -/
def State.wdsFaultAt (s : State) (n cause pc cycles : Nat) : State :=
  let p := wdsPage n
  let s := ((((s.endWait n).wfld p Reg.wdsFault 12 0 pc).wfld p Reg.wdsFault 19 16 cause).seqUp p Reg.wdsFault).bump p .wdsFaults
  let s := s.raise p .wdsTaskFault (cause + pc % 8192 * 2 ^ 16) (s.core n).task
  let s := (s.cutChans n).setCore n fun c => { c.abort with ph := 1 }
  s.wdsRetire n (BitVec.ofNat 32 (0x80000000 + cause)) true cycles

/-- A double-bit error: WDS_MEM_UE, and the page falls out of service until a page reset (R374). -/
def State.memUe (s : State) (n bank word : Nat) : State :=
  ((s.raise (wdsPage n) .wdsMemUe bank word).setPg (wdsPage n) fun g => { g with stopped := true }).refreshReady
    (wdsPage n) false

/-- The word the core fetches is beyond its code (R373): in service mode at or beyond the code length, or a task whose
ENTRY is malformed. -/
def State.fetchFault (s : State) (n : Nat) : Bool :=
  (s.core n).badEntry || (!s.wdsTest n && decide ((s.core n).codeLen ≤ (s.core n).pc))

/-- The core runs and nothing it has issued holds the next instruction. -/
def State.wdsFree (s : State) (n : Nat) : Bool :=
  decide ((s.core n).ph = 1) && (s.core n).fctl.isNone && (List.range 4).all fun ch => ((s.core n).chan ch).go.isNone

/-- The word at PC. -/
def State.wdsWord (s : State) (n : Nat) : Word := NMap.get word0 (s.core n).imem (s.core n).pc

/-- The next instruction reaches W within BUDGET (R132). -/
def State.inBudget (s : State) (n : Nat) : Bool :=
  match (s.core n).budget with
  | some b => decide ((s.core n).cyc + 6 ≤ b)
  | none => true

/-- An interrupt is to be taken before the next instruction: one is pending and enabled, and the boundary is permitted or the
core waits in WAITD or WAITF (R363). -/
def State.irqDue (s : State) (n : Nat) : Bool :=
  let c := s.core n
  let waits := c.waitFrom.isSome && (match withyDecode (s.wdsWord n) with
    | some (.waitd _) | some .waitf => true
    | _ => false)
  s.wdsTest n && c.ie && decide (c.pend &&& c.mreadX (portIrq + 1) 1 ≠ 0) &&
    (!c.inSlot && !c.atRep && (c.loops = [] || c.iterEnd) || waits)

/-- The core's next instruction is op. [DEDUCED, log 78] -/
def State.wdsNext (s : State) (n : Nat) (op : WOp) : Bool :=
  s.wdsFree n && !s.irqDue n && s.inBudget n && !s.fetchFault n && decide (withyDecode (s.wdsWord n) = some op)

/-- The word that a load reads, for WDS_MEM_UE; of the two words of MACM the first. -/
def WCore.loadWord (c : WCore) (chk : List Nat) : WOp → Nat
  | .ldw _ ax post imm | .ldh _ ax post imm => (c.memAddr ax post imm.toInt).1 / 4
  | .macm _ p q => let r := if chk.head? = some 2 then p else q; c.wrap r (c.areg r) / 4
  | _ => 0

/-- The memory errors of a core that were corrected count; `chk` holds the checks of the words read (R374). -/
def State.eccFixed (s : State) (n : Nat) (chk : List Nat) : State :=
  if chk.contains 1 then s.bumpN (wdsPage n) .wdsEccCorr (chk.count 1) else s

/-- The next instruction of core n is carried out, if it is op; `chk` holds the checks of the words that it reads from DMEM. -/
def State.withyRun (s : State) (n : Nat) (chk : List Nat) (op : WOp) : State :=
  if s.wdsNext n op then
    let c := s.core n
    match c.eval (s.wdsTest n) (chk.contains 2) op with
    | .wait => s.beginWait n
    | .fault cause =>
      let s := s.endWait n
      let s := if cause = 9 then s.memUe n 1 (c.loadWord chk op) else s
      s.wdsFaultAt n cause c.pc (c.cyc + 6)
    | .exit v => s.wdsRetire n v false (c.cyc + 6)
    | .run e => ((s.endWait n).setCore n fun c => c.retire e).eccFixed n chk
  else s

/-! ## The instructions -/

/-- R352: NOP. -/
def execNop (n : Nat) (s : State) : Host.Outcome State Fault Refusal := .next (s.withyRun n [] .nop)

/-- R352: MOV. -/
def execMov (n d a : Nat) (s : State) : Host.Outcome State Fault Refusal := .next (s.withyRun n [] (.mov d a))

/-- R352: MOVI. -/
def execMovi (n d : Nat) (imm : BitVec 18) (s : State) : Host.Outcome State Fault Refusal :=
  .next (s.withyRun n [] (.movi d imm))

/-- R352: MOVHI. -/
def execMovhi (n d : Nat) (imm : BitVec 16) (s : State) : Host.Outcome State Fault Refusal :=
  .next (s.withyRun n [] (.movhi d imm))

/-- R352: WITHY_ADD. -/
def execWithyAdd (n d a b : Nat) (s : State) : Host.Outcome State Fault Refusal := .next (s.withyRun n [] (.add d a b))

/-- R352: SUB. -/
def execSub (n d a b : Nat) (s : State) : Host.Outcome State Fault Refusal := .next (s.withyRun n [] (.sub d a b))

/-- R352: AND. -/
def execAnd (n d a b : Nat) (s : State) : Host.Outcome State Fault Refusal := .next (s.withyRun n [] (.and d a b))

/-- R352: OR. -/
def execOr (n d a b : Nat) (s : State) : Host.Outcome State Fault Refusal := .next (s.withyRun n [] (.or d a b))

/-- R352: XOR. -/
def execXor (n d a b : Nat) (s : State) : Host.Outcome State Fault Refusal := .next (s.withyRun n [] (.xor d a b))

/-- R352: SHL. -/
def execShl (n d a b : Nat) (s : State) : Host.Outcome State Fault Refusal := .next (s.withyRun n [] (.shl d a b))

/-- R352: SHR. -/
def execShr (n d a b : Nat) (s : State) : Host.Outcome State Fault Refusal := .next (s.withyRun n [] (.shr d a b))

/-- R352: SHRL. -/
def execShrl (n d a b : Nat) (s : State) : Host.Outcome State Fault Refusal := .next (s.withyRun n [] (.shrl d a b))

/-- R352: MAX. -/
def execMax (n d a b : Nat) (s : State) : Host.Outcome State Fault Refusal := .next (s.withyRun n [] (.max d a b))

/-- R352: MIN. -/
def execMin (n d a b : Nat) (s : State) : Host.Outcome State Fault Refusal := .next (s.withyRun n [] (.min d a b))

/-- R352: ADDI. -/
def execAddi (n d a : Nat) (imm : BitVec 18) (s : State) : Host.Outcome State Fault Refusal :=
  .next (s.withyRun n [] (.addi d a imm))

/-- R352: SHRI. -/
def execShri (n d a k : Nat) (s : State) : Host.Outcome State Fault Refusal := .next (s.withyRun n [] (.shri d a k))

/-- R352: SHLI. -/
def execShli (n d a k : Nat) (s : State) : Host.Outcome State Fault Refusal := .next (s.withyRun n [] (.shli d a k))

/-- R352: ABS. -/
def execAbs (n d a : Nat) (s : State) : Host.Outcome State Fault Refusal := .next (s.withyRun n [] (.abs d a))

/-- R352: MAXI. -/
def execMaxi (n d a : Nat) (s : State) : Host.Outcome State Fault Refusal := .next (s.withyRun n [] (.maxi d a))

/-- R352: MINI. -/
def execMini (n d a : Nat) (s : State) : Host.Outcome State Fault Refusal := .next (s.withyRun n [] (.mini d a))

/-- R352: EXPT. -/
def execExpt (n d a : Nat) (s : State) : Host.Outcome State Fault Refusal := .next (s.withyRun n [] (.expt d a))

/-- R352: CMP. -/
def execCmp (n a b : Nat) (s : State) : Host.Outcome State Fault Refusal := .next (s.withyRun n [] (.cmp a b))

/-- R352: CMPI. -/
def execCmpi (n a : Nat) (imm : BitVec 18) (s : State) : Host.Outcome State Fault Refusal :=
  .next (s.withyRun n [] (.cmpi a imm))

/-- R352: LDW. -/
def execLdw (n d ax : Nat) (post : Bool) (imm : BitVec 18) (ecc : Nat) (s : State) : Host.Outcome State Fault Refusal :=
  .next (s.withyRun n [ecc] (.ldw d ax post imm))

/-- R352: LDH. -/
def execLdh (n d : Nat) (ax : Checked) (post : Bool) (imm : BitVec 18) (s : State) : Host.Outcome State Fault Refusal :=
  .next (s.withyRun n [ax.ecc] (.ldh d ax.num post imm))

/-- R352: STW. -/
def execStw (n d ax : Nat) (post : Bool) (imm : BitVec 18) (s : State) : Host.Outcome State Fault Refusal :=
  .next (s.withyRun n [] (.stw d ax post imm))

/-- R352: STH. -/
def execSth (n d ax : Nat) (post : Bool) (imm : BitVec 18) (s : State) : Host.Outcome State Fault Refusal :=
  .next (s.withyRun n [] (.sth d ax post imm))

/-- R354: MPY. -/
def execMpy (n acc a b : Nat) (sh th : Bool) (s : State) : Host.Outcome State Fault Refusal :=
  .next (s.withyRun n [] (.mpy acc a b sh th))

/-- R354: MAC. -/
def execMac (n acc a b : Nat) (sh th : Bool) (s : State) : Host.Outcome State Fault Refusal :=
  .next (s.withyRun n [] (.mac acc a b sh th))

/-- R354: MSU. -/
def execMsu (n acc a b : Nat) (sh th : Bool) (s : State) : Host.Outcome State Fault Refusal :=
  .next (s.withyRun n [] (.msu acc a b sh th))

/-- R354: MACM. -/
def execMacm (n acc : Nat) (p q : Checked) (s : State) : Host.Outcome State Fault Refusal :=
  .next (s.withyRun n [p.ecc, q.ecc] (.macm acc p.num q.num))

/-- R352: CLR. -/
def execClr (n acc : Nat) (s : State) : Host.Outcome State Fault Refusal := .next (s.withyRun n [] (.clr acc))

/-- R355: RDA. -/
def execRda (n d acc shift wid : Nat) (s : State) : Host.Outcome State Fault Refusal :=
  .next (s.withyRun n [] (.rda d acc shift wid))

/-- R355: STA. -/
def execSta (n acc ax : Nat) (post : Bool) (imm : BitVec 14) (shift wid : Nat) (s : State) : Host.Outcome State Fault Refusal :=
  .next (s.withyRun n [] (.sta acc ax post imm shift wid))

/-- R352: MOVA. -/
def execMova (n acc a : Nat) (s : State) : Host.Outcome State Fault Refusal := .next (s.withyRun n [] (.mova acc a))

/-- R352: SETA. -/
def execSeta (n r a : Nat) (s : State) : Host.Outcome State Fault Refusal := .next (s.withyRun n [] (.seta r a))

/-- R352: GETA. -/
def execGeta (n d r : Nat) (s : State) : Host.Outcome State Fault Refusal := .next (s.withyRun n [] (.geta d r))

/-- R357: AADD. -/
def execAadd (n ax : Nat) (imm : BitVec 18) (s : State) : Host.Outcome State Fault Refusal :=
  .next (s.withyRun n [] (.aadd ax imm))

/-- R343: SETM. -/
def execSetm (n a : Nat) (s : State) : Host.Outcome State Fault Refusal := .next (s.withyRun n [] (.setm a))

/-- R352: GETM. -/
def execGetm (n d : Nat) (s : State) : Host.Outcome State Fault Refusal := .next (s.withyRun n [] (.getm d))

/-- R350: B. -/
def execB (n : Nat) (cond : Cond) (target : Nat) (s : State) : Host.Outcome State Fault Refusal :=
  .next (s.withyRun n [] (.b cond target))

/-- R350: CALL. -/
def execCall (n target : Nat) (s : State) : Host.Outcome State Fault Refusal := .next (s.withyRun n [] (.call target))

/-- R350: BR. -/
def execBr (n a : Nat) (s : State) : Host.Outcome State Fault Refusal := .next (s.withyRun n [] (.br a))

/-- R358: REPI. -/
def execRepi (n len count : Nat) (s : State) : Host.Outcome State Fault Refusal :=
  .next (s.withyRun n [] (.repi len count))

/-- R358: REPR. -/
def execRepr (n len a : Nat) (s : State) : Host.Outcome State Fault Refusal := .next (s.withyRun n [] (.repr len a))

/-- R371: EXIT. -/
def execExit (n a : Nat) (s : State) : Host.Outcome State Fault Refusal := .next (s.withyRun n [] (.exit a))

/-- R349: WAITD. -/
def execWaitd (n mask : Nat) (s : State) : Host.Outcome State Fault Refusal := .next (s.withyRun n [] (.waitd mask))

/-- R352: WAITF. -/
def execWaitf (n : Nat) (s : State) : Host.Outcome State Fault Refusal := .next (s.withyRun n [] .waitf)

/-- R352: EI. -/
def execEi (n : Nat) (s : State) : Host.Outcome State Fault Refusal := .next (s.withyRun n [] .ei)

/-- R352: DI. -/
def execDi (n : Nat) (s : State) : Host.Outcome State Fault Refusal := .next (s.withyRun n [] .di)

/-- R352: RETI. -/
def execReti (n : Nat) (s : State) : Host.Outcome State Fault Refusal := .next (s.withyRun n [] .reti)

/-- R362: NORM. -/
def execNorm (n d acc : Nat) (s : State) : Host.Outcome State Fault Refusal := .next (s.withyRun n [] (.norm d acc))

/-- R353: a word that is no instruction is fault 1; a fetch beyond the code is fault 3 (R373). A double-bit error of the word
fetched is fault 9, and a single-bit error is corrected and counted (R374). -/
def execReservedOpcode (w : Checked) (s : State) : Host.Outcome State Fault Refusal :=
  let n := w.num
  let c := s.core n
  .next
    (if !(s.wdsFree n && !s.irqDue n && s.inBudget n) then s
     else if s.fetchFault n then s.wdsFaultAt n 3 c.pc (c.cyc + 6)
     else if w.ecc = 2 then (s.memUe n 0 c.pc).wdsFaultAt n 9 c.pc (c.cyc + 6)
     else
      let s := s.eccFixed n [w.ecc]
      if (withyDecode (s.wdsWord n)).isNone then s.wdsFaultAt n 1 c.pc (c.cyc + 6) else s)

/-- R363: an enabled interrupt that is pending is taken at the first permitted boundary; no instruction passes before it. -/
def execInterruptEntry (n : Nat) (s : State) : Host.Outcome State Fault Refusal :=
  .next
    (if s.wdsFree n && s.irqDue n then
      (s.endWait n).setCore n fun c =>
        { c with saved := ⟨c.pc, c.fl, c.loops, c.br1, c.br2, c.atRep, c.iterEnd⟩, loops := [], br1 := .none, br2 := .none,
                 atRep := false, iterEnd := false, ie := false, pc := c.mreadX portIvec 2 % 8192 }
     else s)

end Sys2Proof.Machine
end

