-- ==== Sys2Proof/Machine/WithySys.lean ====
section
/-!
DEFINITION. A Withy core beside its instructions: the start of a task (R344), DMA (R365, R366), the response of a fabric
request (R368), service images (R376) and Test mode (R377, R380).
-/

namespace Sys2Proof.Machine

/-! ## The start and the end of a task -/

/-- The entry state of R344, with SLOT holding the descriptor where there is one. -/
def WCore.start (c : WCore) (desc : List Word) (args : List Word) (entry : Nat) (budget : Option Nat) (task : Nat) : WCore :=
  let d := NMap.setAll word0 [] (args.zipIdx.map fun p => (p.2, p.1))
  let m := NMap.setAll byte0 c.settle.dmem ((List.range 192).map fun i => (0x40 + i, (0 : Byte)))
  { WCore.init with
    imem := c.imem, codeLen := c.codeLen, dmem := putBytes m 0 (wordBytes desc), d := d, d1 := d, d2 := d,
    pc := entry % 8192, badEntry := decide (entry / 8192 % 2 ^ 18 ≠ 0), budget := budget, task := task, ph := 1 }

/-- Core n starts a task of Reeve. -/
def State.coreStart (s : State) (n id : Nat) (d : List Word) : State :=
  (((s.setCore n fun c =>
    c.start d ((List.range 7).map (dArg d)) (dEntry d) (some (dBudget d)) id).setWst n 2).bump (wdsPage n) .wdsTasks)

/-- The cycles a running task of core n has been counted. [DEDUCED, log 34] -/
def State.coreCycles (s : State) (n : Nat) : Nat :=
  let c := s.core n
  if c.ph = 2 then c.cyc else if c.cyc = 0 then 0 else c.cyc + 5

/-- Core n is stopped as an abort stops it (R372). -/
def State.coreAbort (s : State) (n : Nat) : State :=
  let s := s.endWait n
  let s := s.bumpN (wdsPage n) .wdsCycles (if (s.core n).ph = 1 then s.coreCycles n else 0)
  let s := (s.cutChans n).setCore n WCore.abort
  s.setWst n (if (s.core n).moving then 3 else 0)

/-! ## DMA -/

/-- The object of a transfer lies in DRAM. -/
def State.dmaInDram (s : State) (d : Dma) : Bool :=
  if d.kind = 0 then s.bufInDram d.ref else s.tf colPage 0 0 (d.ref % 4096) 2 5 5 = 1

/-- The address of byte i of the object. -/
def State.dmaAddr (s : State) (d : Dma) (i : Nat) : Nat :=
  if d.kind = 0 then s.bufAddr d.ref + d.ofs + i else s.qAddr (d.ref % 4096) (d.ofs + i)

/-- The distance from one Coil offset to another, modulo the queue size. -/
def State.qOfsDist (s : State) (q a b : Nat) : Nat := (b + s.qSize q * 2 ^ 32 - a) % s.qSize q

/-- The STATUS of a transfer (R366) of a port. [DEDUCED, log 79] -/
def State.dmaStatus (s : State) (port : Nat) (d : Dma) : Nat :=
  let len := 4 * d.lenw
  let q := d.ref % 4096
  let range :=
    if d.kind = 0 then
      if s.poolState (d.ref / 2 ^ 26) ≠ 2 || s.poolCount (d.ref / 2 ^ 26) ≤ d.ref % 2 ^ 26 then 3
      else if !(s.owners d.ref).contains (s.portOwner port) then 1
      else if s.bufSize d.ref < d.ofs + len then 2
      else 0
    else if !d.out then
      if s.qConsumer q ≠ port then 5
      else if qDist (s.cq q).rel (s.cq q).wr < s.qOfsDist q (s.cq q).rel d.ofs + len then 2
      else 0
    else if (s.grantOf q port).isNone then 5
    else if (s.cq q).resv.any fun r =>
        decide (r.port = port) && decide (s.qOfsDist q (r.ofs + 8) d.ofs + len ≤ 16 * r.units - 8) then 0
    else 2
  if range ≠ 0 then range
  else if !d.out && s.dmaInDram d && (List.range len).any fun i => s.poisoned (s.dmaAddr d i) then 4
  else 0

/-- Byte i of the object as it is delivered: a poisoned line is delivered as zeros. -/
def State.dmaByte (s : State) (d : Dma) (i : Nat) : Byte :=
  let a := s.dmaAddr d i
  if s.dmaInDram d then (if s.poisoned a then 0 else s.viewByte a)
  else if d.kind = 0 then s.pktByte a
  else s.sramByte a

/-- Bytes put into the object from byte i on. -/
def State.dmaPut (s : State) (d : Dma) (i : Nat) : List Byte → State
  | [] => s
  | b :: r =>
    let a := s.dmaAddr d i
    (if s.dmaInDram d then s.dramSet a b
     else if d.kind = 0 then s.pktPut a [b]
     else s.sramPut a [b]).dmaPut d (i + 1) r

/-- The data of a transfer move. -/
def State.dmaMove (s : State) (n : Nat) (d : Dma) : State :=
  let len := 4 * d.lenw
  let s :=
    if d.out then s.dmaPut d 0 ((List.range len).map fun i => (s.core n).mbyteX (d.loc + i))
    else
      let bs := (List.range len).map fun i => s.dmaByte d i
      s.setCore n fun c =>
        let keep (p : Nat × Byte) : Bool := !(decide (d.loc ≤ p.1 ∧ p.1 < d.loc + len))
        { c with dmem := putBytes c.dmem d.loc bs, st1 := c.st1.filter keep, st2 := c.st2.filter keep }
  s.bumpN (wdsPage n) .wdsDmaBytes len

/-- R365: the channel whose GO has been written starts, or the STW that wrote it faults. -/
def execDmaStart (n ch : Nat) (s : State) : Host.Outcome State Fault Refusal :=
  let c := s.core n
  let d := c.chan ch
  let ctl := c.mreadX (portDma ch) 1
  let loc := c.mreadX (portDma ch + 12) 4 % 2 ^ 17
  let lenw := c.mreadX (portDma ch + 12) 4 / 2 ^ 17
  match d.go with
  | none => .next s
  | some pc =>
    .next
      (if d.busy || ctl % 4 ≥ 2 || lenw = 0 || 16384 < lenw || loc % 4 ≠ 0 || loc < workLo || constLo < loc + 4 * lenw then
        (s.setCore n fun c => { c with st1 := [] }).wdsFaultAt n 8 pc (c.cyc + 5)
       else
        s.setCore n fun c => c.setChan ch fun d =>
          { d with busy := true, go := none, kind := ctl % 4, out := decide (ctl / 4 % 2 = 1),
                   ref := c.mreadX (portDma ch + 4) 4, ofs := c.mreadX (portDma ch + 8) 4, loc := loc, lenw := lenw })

/-- A core without a task whose transfers and request have ended is idle (R372). -/
def State.restIdle (s : State) (n : Nat) : State :=
  if s.execIdle n && decide ((s.core n).ph = 0) then s.setWst n 0 else s

/-- What a transfer out of DMEM finds there: a single-bit error is corrected and counted; a double-bit error ends the task, if
one runs, with fault 9 (R374). -/
def State.dmaCheck (s : State) (n : Nat) (d : Dma) (ecc : Nat) : State :=
  let c := s.core n
  if !d.out then s
  else if ecc = 2 then
    let s := s.memUe n 1 (d.loc / 4)
    if c.ph = 1 then s.wdsFaultAt n 9 c.pc (c.cyc + 5) else s
  else s.eccFixed n [ecc]

/-- R366: the channel has made its check and moved its data, and completes. Those of a fenced core do not (R65).
[DEDUCED, log 79] -/
def execDmaDone (n : Nat) (ch : Checked) (s : State) : Host.Outcome State Fault Refusal :=
  let d := (s.core n).chan ch.num
  .next
    (if d.busy && !s.fenced (wdsPage n) then
      let st := s.dmaStatus n d
      let s := if st = 0 ∨ st = 4 then s.dmaMove n d else s
      let s := (s.setCore n fun c =>
        { (c.setChan ch.num fun d => { d with busy := false, status := st }) with
          pend := if s.wdsTest n then c.pend ||| 1 else c.pend }).restIdle n
      if st = 0 ∨ st = 4 then s.dmaCheck n d ch.ecc else s
     else s)

/-- R368, R372: the response lands, or is discarded after an abort. A response to a fenced core is dropped (R65). What a
response does not name reads 0. -/
def execFabricResponse (n : Nat) (s : State) : Host.Outcome State Fault Refusal :=
  let c := s.core n
  .next
    (if !c.fbusy then s
     else if c.fdrop then (s.setCore n fun c => { c with fbusy := false, fdrop := false, fres := [] }).restIdle n
     else if s.fenced (wdsPage n) then s
     else
      s.setCore n fun c =>
        { c with fbusy := false, fres := [], dmem := putBytes c.dmem portFres (wordBytes ((c.fres ++ [0, 0, 0]).take 3)),
                 pend := if s.wdsTest n then c.pend ||| 2 else c.pend })

/-! ## Service images -/

/-- The core's executor entry is enabled. -/
def State.execEn (s : State) (n : Nat) : Bool := s.tf rvePage 0 0 n 0 8 8 = 1

/-- The cause that refuses a load, 0 where it goes on (R376). -/
def State.loadRefused (s : State) (n image : Nat) : Nat :=
  if s.tf rvePage 1 0 image 3 1 0 ≠ 2 then 1
  else if !s.execIdle n || (s.slotOf n).isSome || s.execEn n then 2
  else if s.wdsTest n then 3
  else if !s.drcReady then 4
  else 0

/-- R376: GO. [DEDUCED, log 79] -/
def execWdsLoad (src : Src) (n image : Nat) (s : State) : Host.Outcome State Fault Refusal :=
  let v := BitVec.ofNat 32 (image + 2 ^ 16)
  .next (s.access src (wdsPage n) Reg.wdsLoad v fun s =>
    if (s.core n).loading.isSome then s.accessErr (wdsPage n) Reg.wdsLoad 9 src v
    else
      let s := s.wfld (wdsPage n) Reg.wdsLoad 9 0 image
      match s.loadRefused n image with
      | 0 =>
        ((((s.setCore n fun c => { c with loading := some image }).setWst n 1).wfld (wdsPage n) Reg.wdsStatus 2 2 0)).refreshReady
          (wdsPage n) true
      | k => s.raise (wdsPage n) .wdsLoadRefused (image + k * 2 ^ 16) 0)

/-- First byte of an image's constants, and their length (R375). -/
def constOfs : Nat := 32768
def constLen : Nat := 24576

/-- R376: the copy ends. [DEDUCED, log 79] -/
def execWdsLoaded (n : Nat) (s : State) : Host.Outcome State Fault Refusal :=
  let p := wdsPage n
  match (s.core n).loading with
  | none => .next s
  | some image =>
    let a := s.imageAddr image
    let len := s.imageLen image
    let s' := (s.setCore n fun c => { c with loading := none }).setWst n 0
    .next
      (if s.poisonedAt a len || s.poisonedAt (a + constOfs) constLen then
        s'.raise p .wdsLoadRefused (image + 5 * 2 ^ 16) 0
       else
        let s' := s'.setCore n fun c =>
          { c with imem := NMap.setAll word0 [] ((s.dramWords a (len / 4)).zipIdx.map fun x => (x.2, x.1)),
                   codeLen := len / 4, dmem := putBytes c.settle.dmem constLo (s.dramBytes (a + constOfs) constLen),
                   st1 := [], st2 := [] }
        let s' := s'.tsetF rvePage 0 0 n 0 25 16 image
        let s' := (s'.wfld p Reg.wdsStatus 25 16 image).wfld p Reg.wdsStatus 2 2 1
        (s'.raise p .wdsLoaded image 0).refreshReady p true)

/-! ## Test mode -/

/-- IMEM, DMEM and LOADED are cleared and the core is in service mode (R377, R715). -/
def State.coreClear (s : State) (n : Nat) : State :=
  let s := s.setCore n fun c => { c with imem := [], codeLen := 0, dmem := [], st1 := [], st2 := [], loading := none }
  (s.wfld (wdsPage n) Reg.wdsStatus 2 2 0).wfld (wdsPage n) Reg.wdsMode 0 0 0

/-- R377: a write of `WDS_MODE.TEST`. -/
def execWdsModeWrite (src : Src) (n : Nat) (test : Bool) (s : State) : Host.Outcome State Fault Refusal :=
  let p := wdsPage n
  let v := BitVec.ofNat 32 test.toNat
  .next (s.access src p Reg.wdsMode v fun s =>
    if !s.execIdle n || s.execEn n then s.accessErr p Reg.wdsMode 11 src v
    else if s.wdsTest n = test then s
    else if test then (s.wfld p Reg.wdsMode 0 0 1).refreshReady p true
    else (s.coreClear n).refreshReady p true)

/-- A word of IMEM or DMEM is written from outside. Stores that have not reached W land after it (R349). -/
def State.memPut (s : State) (n : Nat) (dmem : Bool) (entry : Nat) (v : Word) : State :=
  s.setCore n fun c =>
    if dmem then { c with dmem := putBytes c.dmem (4 * entry) (leBytes 4 v.toNat) }
    else { c with imem := NMap.set word0 c.imem entry v }

/-- R380: a table write to IMEM or DMEM. -/
def execWdsMemWrite (src : Src) (n : Nat) (dmem : Bool) (entry : Nat) (v : Word) (s : State) :
    Host.Outcome State Fault Refusal :=
  .next (s.access src (wdsPage n) tblDataOff v fun s =>
    if !s.wdsTest n then s.tblRefuse src (wdsPage n) 7 [v]
    else s.memPut n dmem entry v)

/-- R377: GO in Test mode. [DEDUCED, log 79] -/
def execTestGo (src : Src) (n pc : Nat) (s : State) : Host.Outcome State Fault Refusal :=
  let p := wdsPage n
  let v := BitVec.ofNat 32 (pc + 2 ^ 16)
  .next (s.access src p Reg.wdsTest v fun s =>
    let s := s.wfld p Reg.wdsTest 12 0 pc
    if !s.wdsTest n || (s.core n).ph ≠ 0 || (s.core n).moving then s.accessErr p Reg.wdsTest 11 src v
    else (((s.setCore n fun c => c.start [] [] pc none 0).setWst n 2).wfld p Reg.wdsTestRes 0 0 0))

/-- R377: HOST becomes pending. -/
def execTestIrq (src : Src) (n : Nat) (s : State) : Host.Outcome State Fault Refusal :=
  let v := BitVec.ofNat 32 (2 ^ 17)
  .next (s.access src (wdsPage n) Reg.wdsTest v fun s =>
    if !s.wdsTest n then s.accessErr (wdsPage n) Reg.wdsTest 11 src v
    else s.setCore n fun c => { c with pend := c.pend ||| 4 })

/-- R377: HALT stops the core as an abort does. The value latched with it is free: the spec states none. [DEDUCED, log 78] -/
def execTestHalt (src : Src) (n : Nat) (s : State) : Host.Outcome State Fault Refusal :=
  let p := wdsPage n
  let v := BitVec.ofNat 32 (2 ^ 18)
  .next (s.access src p Reg.wdsTest v fun s =>
    if !s.wdsTest n || (s.core n).ph = 0 then s.accessErr p Reg.wdsTest 11 src v
    else
      (((s.coreAbort n).wfld p Reg.wdsTestRes 0 0 1).seqUp p Reg.wdsTestRes |>.wr p Reg.wdsTestExit
        (BitVec.ofNat 32 s.freeNat)).takeFree)

end Sys2Proof.Machine
end

