-- ==== Sys2Proof/Machine/Tasks.lean ====
section
/-!
DEFINITION. What joins Reeve to its executors: the start and the end of tasks, aborts (R129 to R137), and the fabric
requests of Withy tasks, with the holds that Pairing puts on them (R368, R369, R611).
-/

namespace Sys2Proof.Machine

/-! ## Start and completion -/

/-- R129, R344: an idle executor starts the task in its slot. While its page is not READY it takes none (R113).
[DEDUCED, log 33] -/
def execTaskStart (e : Nat) (s : State) : Host.Outcome State Fault Refusal :=
  match s.slotOf e with
  | none => .next s
  | some id =>
    let d := (s.task id).desc
    .next
      (if s.execIdle e && s.mayDispatch e then
        let s := s.startTask e id
        if e < 512 then
          (s.setPrg fun p =>
            { p with ordinals := NMap.set (fun _ => 0) p.ordinals e 0,
                     holds := p.holds.filter fun h => h.core ≠ e }).coreStart e id d
        else if e < 528 then s.encStart (e - 512) d
        else s
       else s)

/-- Cycles of an engine of the VCE clock since a task began. [DEDUCED, log 34] -/
def State.vceCycles (s : State) (id : Nat) : Nat := (s.clk.tru - (s.task id).start) * 6 / 5

/-! ## Aborts -/

/-- What the abort of a task does to the engine that it names. [DEDUCED, log 34] -/
def State.engineAbort (s : State) (d : List Word) (status : Nat) (running : Bool) : State :=
  if dKind d = 1 then s.encAbort (dAffinity d - 512) ((dArg d 0).toNat % 64) (dArg d 1).toNat status running
  else if dKind d = 2 then s.decAbort (dAffinity d - 528) ((dArg d 0).toNat % 256) status
  else s

/-- A task in flight ends by an abort: 1 budget, 2 deadline, 3 fence, 4 host (R134). `detail` is that of its trace record: the
port of a host abort, else 0 (R144). -/
def State.abortTask (s : State) (id status detail : Nat) : State :=
  let t := s.task id
  let d := t.desc
  let e := s.heldBy id
  let running := decide (t.st = 5)
  let cyc := if !running then 0 else if e < 512 then s.coreCycles e else s.vceCycles id
  let cyc := if status = 1 then dBudget d else cyc
  let s := s.leaveSlot id
  let s := if running then (if e < 512 then s.coreAbort e else s).setRun e none else s
  (s.engineAbort d status running).rveEnd id e status 0 cyc detail

/-- A task in flight that has not ended. -/
def State.alive (s : State) (id : Nat) : Bool := decide (1 ≤ (s.task id).st ∧ (s.task id).st ≤ 5)

/-- R132: the count of an executor's task has reached BUDGET without an exit. [DEDUCED, log 34] -/
def execBudgetAbort (e : Nat) (s : State) : Host.Outcome State Fault Refusal :=
  match s.runOf e with
  | none => .next s
  | some id =>
    let b := dBudget (s.task id).desc
    let spent :=
      if e < 512 then s.wdsFree e && !s.inBudget e
      else decide (b ≤ s.vceCycles id) && !(e < 528 && s.encReady (e - 512) id && s.encFits (e - 512) id)
    .next
      (if spent then (s.raise rvePage .rveBudget (id + e * 2 ^ 16) b).abortTask id 1 0 else s)

/-- The work key of a task (R603): of descriptor words 0 to 6 and 9 to 15, with OWNER 0. [DEDUCED, log 69] -/
def workKey (d : List Word) : Nat :=
  let d := setWord d 0 (withFld (d.getD 0 0) 31 24 0)
  sm3First (wordBytes ((List.range 7).map (d.getD · 0) ++ (List.range' 9 7).map (d.getD · 0)))

/-- A task is abandoned at its deadline (R50, R133, R382). -/
def State.deadlineAbort (s : State) (id : Nat) : State :=
  let d := (s.task id).desc
  let e := s.heldBy id
  let s := s.raise rvePage .rveDeadline (id + e * 2 ^ 16) 0
  let s :=
    if dKind d = 0 then
      let s := s.layItem 1 0 0 (workKey d)
      if bit (BitVec.ofNat 32 (dEntry d)) 31 then
        s.raise (wdsPage (if e < 512 then e else 0)) .wdsEncSkip id (dArg d 0).toNat
      else s
    else s
  s.abortTask id 2 0

/-- The boundary of a task's deadline has come (R133). A standby abandons what the record names instead (R610). -/
def State.pastDeadline (s : State) (id : Nat) : Bool :=
  let d := (s.task id).desc
  dHasDeadline d && waleLe (dDeadline d) s.wale && !s.following

/-- R133, R134, R371: the exit of an executor reaches Reeve; at the deadline's boundary or later it comes too late, and the task
is aborted. A decode ends with its result (R414). -/
def execTaskComplete (e : Nat) (value : Word) (s : State) : Host.Outcome State Fault Refusal :=
  match s.runOf e with
  | none => .next s
  | some id =>
    .next
      (if e < 512 then
        let c := s.core e
        if decide (c.ph = 2) && (c.faulted || (c.chansIdle 15 && c.fabIdle)) then
          if s.pastDeadline id then s.deadlineAbort id
          else
            let cyc := c.cyc
            let s := ((s.setCore e fun c => { c with ph := 0 }).setWst e (if c.moving then 3 else 0)).setRun e none
            s.rveEnd id e 0 c.value cyc (cyc % 65536)
        else s
       else if e < 528 then
        if s.encReady (e - 512) id && s.encFits (e - 512) id then
          if s.pastDeadline id then s.deadlineAbort id
          else
            let cyc := s.encSpent (e - 512)
            ((s.encDone (e - 512)).setRun e none).rveEnd id e 0 value cyc (cyc % 65536)
        else s
       else s)

/-- R133, R416: the decode's cycles have run, its results appear, and its task ends with status DONE. At the deadline's boundary or
later it comes too late. -/
def execDecodeComplete (dec : Nat) (r : DecResult) (s : State) : Host.Outcome State Fault Refusal :=
  match s.runOf (decPort dec) with
  | none => .next s
  | some id =>
    let m := (dArg (s.task id).desc 0).toNat % 256
    match (s.decStream dec m).flight with
    | none => .next s
    | some u =>
      let cyc := decCycles u.ctus u.bytes
      .next
        (if s.clk.tru * 6 < (s.task id).start * 6 + cyc * 5 || decide (dBudget (s.task id).desc < cyc) || !u.fits r then s
         else if s.pastDeadline id then s.deadlineAbort id
         else
          let s := (s.decSave dec m u).setDec dec m fun x => { x with flight := none }
          let s := (s.decEnd dec m u r).crlFree (decPort dec) u.handle
          (s.setRun (decPort dec) none).rveEnd id (decPort dec) 0 0 cyc (cyc % 65536))

/-- Held decode units whose deadline has come, on every decoder (R413). -/
def State.heldLate (s : State) : State :=
  (List.range 24).foldl (fun s n => (List.range 256).foldl (fun s m => s.decHeldLate n m) s) s

/-- R50, R133: step 3 of R47 for a task whose deadline has come. A standby abandons what the record names (R610). -/
def execDeadlineAbort (id : Nat) (s : State) : Host.Outcome State Fault Refusal :=
  .next
    (if s.stepDue 3 && !s.following then
      let s := (s.atStep 3).heldLate
      let d := (s.task id).desc
      if s.alive id && dHasDeadline d && waleLe (dDeadline d) s.wale then s.deadlineAbort id else s
     else s)

/-- `RVE_ABORT_RES` after an abort of n tasks. [DEDUCED, log 33] -/
def State.abortRes (s : State) (n : Nat) : State := (s.wfld rvePage Reg.rveAbortRes 16 0 n).seqUp rvePage Reg.rveAbortRes

/-- R135: KIND 0 of `RVE_ABORT`. -/
def execAbortTask (src : Src) (id : Nat) (s : State) : Host.Outcome State Fault Refusal :=
  .next (s.access src rvePage Reg.rveAbort (BitVec.ofNat 32 id) fun s =>
    if s.alive id then (s.abortTask id 4 (srcPort src)).abortRes 1 else s.abortRes 0)

/-- R135: KIND 1 of `RVE_ABORT`: the tasks of an owner that have not started. -/
def execAbortOwner (src : Src) (owner : Nat) (s : State) : Host.Outcome State Fault Refusal :=
  .next (s.access src rvePage Reg.rveAbort (BitVec.ofNat 32 (owner + 2 ^ 16)) fun s =>
    let ids := (s.rve.tasks.filter fun t => decide (1 ≤ t.2.st ∧ t.2.st ≤ 4 ∧ dOwner t.2.desc = owner)).map (·.1)
    (ids.foldl (fun s id => s.abortTask id 4 (srcPort src)) s).abortRes ids.length)

/-- R136: FENCE_DONE of an executor's page becomes 1. -/
def State.fenceAbort (s : State) (e : Nat) : State :=
  match s.runOf e with
  | some id => (s.abortTask id 3 0).raise rvePage .rveFenceAbort (id + e * 2 ^ 16) 1
  | none => s.raise rvePage .rveFenceAbort (e * 2 ^ 16) 0

/-! ## Fabric requests (R368, R369) -/

/-- A request word of a core. -/
def WCore.freq (c : WCore) (i : Nat) : Word := BitVec.ofNat 32 (c.mreadX (0x40 + 4 * i) 4)

/-- Every outbound channel of a core has completed. -/
def WCore.outDone (c : WCore) : Bool := (List.range 4).all fun ch => !((c.chan ch).busy && (c.chan ch).out)

/-- A request of core n to a target is carried out: the response words. [DEDUCED, log 37] -/
def State.fabricDo (s : State) (n target rq : Nat) : State × List Word :=
  let c := s.core n
  let w (i : Nat) : Word := c.freq i
  let ds := (List.range 16).map w
  let b (x : Nat) : Word := BitVec.ofNat 32 x
  if target = 1 then
    let (s, st, id) := s.rveSubmit n ds
    (s, [b (id + st * 2 ^ 16)])
  else if target = 2 then
    let id := fld (w 0) 15 0
    (s.rveDecrement n id, [b (s.decrAnswer id)])
  else if target = 3 then
    let op := fld (w 0) 3 0
    let h := (w 1).toNat
    let ans (s : State) : State × List Word :=
      let a : CrlAns := NMap.get (fun _ => {}) s.crl.ans n
      (s, [b a.status, b a.handle])
    if op = 1 then ans (s.crlAlloc n (fld (w 0) 9 4)).1
    else if op = 2 then ans (s.crlAdd n h (fld (w 0) 23 16))
    else if op = 3 then ans (s.crlDrop n h)
    else if op = 4 then ans (s.crlFree n h)
    else (s.takeFree, [b (s.freeNat % 16)])
  else if target = 4 then
    let op := fld (w 0) 3 0
    let q := fld (w 0) 27 16
    let a := (w 1).toNat
    let ans (s : State) : State × List Word :=
      let r := s.colAnsOf n
      (s, [b r.status, b r.ofs, b r.len])
    if op = 1 then ans (s.colReserve n q a)
    else if op = 2 then ans (s.colCommit n q a (fld (w 2) 15 0) (bit (w 0) 4))
    else if op = 3 then ans (s.colNext n q).1
    else if op = 4 then ans (s.colRelease n q a)
    else if op = 5 then ans (s.colMark n q)
    else if op = 6 then ans (s.colRewind n q)
    else (s.takeFree, [b (s.freeNat % 16)])
  else if target = 5 then
    let (s, st) := s.bulkSubmit n rq ds
    (s, [b st])
  else
    if !s.ready lfwPage then (s, [1])
    else if bit (w 0) 31 then (s.estDone (fld (w 0) 8 0), [0])
    else (s.estRate (fld (w 0) 15 0) (w 1), [0])

/-- The status that a response shows. -/
def fabricStatus (target : Nat) (r : List Word) : Nat := if target = 1 then fld (r.getD 0 0) 19 16 else fld (r.getD 0 0) 3 0

/-- Targets whose outcomes the record holds (R605). -/
def recorded (target : Nat) : Bool := [1, 3, 4, 5].contains target

/-- A task's next request ordinal (R603). [DEDUCED, log 33] -/
def State.ordinal (s : State) (n : Nat) : Nat := NMap.get (fun _ => 0) s.prg.ordinals n + 1

/-- The work key of the task that a core runs. -/
def State.coreKey (s : State) (n : Nat) : Nat := workKey (s.task (s.core n).task).desc

/-- A core's request is issued with its response on the way, and its ordinal is used. -/
def State.fabricSent (s : State) (n : Nat) (r : List Word) : State :=
  let k := s.ordinal n
  let s := s.setPrg fun p =>
    { p with ordinals := NMap.set (fun _ => 0) p.ordinals n k, holds := p.holds.filter fun h => h.core ≠ n }
  (s.endWait n).setCore n fun c => { c with fctl := none, fbusy := true, fres := r }

/-- A request is issued; the active writes its outcome into the record. [DEDUCED, log 80] -/
def State.fabricIssue (s : State) (n target rq : Nat) : State × Nat :=
  let key := s.coreKey n
  let k := s.ordinal n
  let (s, r) := s.fabricDo n target rq
  let st := fabricStatus target r
  let s :=
    if recorded target && !s.wdsTest n then
      s.lay 0x06 0 (beBytes 8 key ++ beBytes 4 (k + target * 2 ^ 16 + st * 2 ^ 20))
    else s
  (s.fabricSent n r, st)

/-- The recorded outcome of a core's request. -/
def State.outcomeOf (s : State) (n target : Nat) : Option (Nat × Nat × Nat × Nat) :=
  s.prg.outcomes.find? fun o => o.1 = s.coreKey n && o.2.1 = s.ordinal n && o.2.2.1 = target

/-- A request of a standby meets its recorded outcome (R611). -/
def State.fabricFollow (s : State) (n target rq : Nat) (o : Nat × Nat × Nat × Nat) : State :=
  let s := s.setPrg fun p => { p with outcomes := p.outcomes.erase o }
  let st := o.2.2.2
  if st ≠ 0 then s.fabricSent n [BitVec.ofNat 32 (if target = 1 then st * 2 ^ 16 else st)]
  else
    match s.fabricIssue n target rq with
    | (s, 0) => s
    | (s, _) => s.diverge 3 10

/-- R368: the request that FCTL named is issued, once the core's outbound channels are done and its last request is
answered; that of a fenced core is discarded (R65). A standby that follows holds those whose outcomes the record gives.
[DEDUCED, log 80] -/
def execFabricRequest (n : Nat) (s : State) : Host.Outcome State Fault Refusal :=
  let c := s.core n
  match c.fctl with
  | none => .next s
  | some (target, rq) =>
    .next
      (if target = 0 ∨ 6 < target then
        s.wdsFaultAt n 7 c.fctlPc (c.cyc + 5)
       else if s.fenced (wdsPage n) then s
       else if !c.outDone || c.fbusy then s.beginWait n
       else if s.following && recorded target && !s.wdsTest n then
        match s.outcomeOf n target with
        | some o => s.fabricFollow n target rq o
        | none =>
          if s.prg.holds.any fun h => h.core = n then s
          else
            (s.beginWait n).setPrg fun p => { p with holds := p.holds ++ [⟨n, s.coreKey n, s.ordinal n, s.now⟩] }
       else (s.fabricIssue n target rq).1)

/-- A hold that the record now decides is released (R611). [DEDUCED, log 80] -/
def State.holdMet (s : State) (key ordinal : Nat) : State :=
  match s.prg.holds.find? fun h => h.key = key ∧ h.ordinal = ordinal with
  | none => s
  | some h =>
    match (s.core h.core).fctl with
    | some (target, rq) =>
      match s.outcomeOf h.core target with
      | some o => s.fabricFollow h.core target rq o
      | none => s
    | none => s.setPrg fun p => { p with holds := p.holds.erase h }

/-- R611: holds older than `PRG_TMO.OUTCOME_US` are released with the standby's own outcome. -/
def execOutcomeHoldTimeout (s : State) : Host.Outcome State Fault Refusal :=
  let t := s.rf prgPage Reg.prgTmo 31 24 * 1000
  let late := s.prg.holds.filter fun h => decide (h.at_ + t < s.now)
  .next
    (late.foldl
      (fun s h =>
        let s := s.setPrg fun p => { p with holds := p.holds.erase h }
        match (s.core h.core).fctl with
        | some (target, rq) => (s.fabricIssue h.core target rq).1.diverge 5 10
        | none => s) s)

end Sys2Proof.Machine
end

