-- ==== Sys2Proof/Machine/Prg.lean ====
section
/-!
DEFINITION. Pairing: the link and its messages, the states of the pair, how the standby follows the record, promotion, swap
and join (R593 to R629). The BOUNDARY entry stands with the strobe.
-/

namespace Sys2Proof.Machine

/-! ## States (R597) -/

/-- Pairing runs: the page is READY and `PRG_CTL.EN` is 1. -/
def State.prgOn (s : State) : Bool := s.ready prgPage && s.rb prgPage Reg.prgCtl 0

/-- `LNU_TX_CTL.PAIR_FORCE` of every port. -/
def State.pairForce (s : State) (on : Bool) : State :=
  linePorts.foldl (fun s p => s.aisWith p fun s => s.wfld (lnuPage p) Reg.lnuTxCtl 1 1 on.toNat) s

/-- The state of the pair and the role. PAIR_FORCE follows them, and stays as it is in the rest (R597). [DEDUCED, log 65] -/
def State.setPair (s : State) (st : Nat) (standby : Bool) : State :=
  let s := (s.wfld prgPage Reg.prgStatus 3 0 st).wfld prgPage Reg.prgStatus 4 4 standby.toNat
  if standby && [1, 2, 3, 6].contains st then s.pairForce true
  else if (standby && st = 4) || (!standby && st = 0) then s.pairForce false
  else s

/-- `PRG_STATUS.LINK_UP` and TWIN_ALIVE. [DEDUCED, log 65] -/
def State.linkUp (s : State) : Bool := s.rb prgPage Reg.prgStatus 5
def State.twinAlive (s : State) : Bool := s.rb prgPage Reg.prgStatus 6

/-- `PRG_GATE.BYPASS_ACT`: both twins ask for it and the link is up (R619). -/
def State.bypassRefresh (s : State) : State :=
  let on := s.rb prgPage Reg.prgGate 24 && s.prg.twinBypass && s.linkUp
  s.wfld prgPage Reg.prgGate 25 25 on.toNat

/-- What following the record holds is dropped. -/
def PrgSt.unfollow (p : PrgSt) : PrgSt :=
  { p with reached := none, listed := [], secBad := false, held := [], want := [], holds := [], outcomes := [], deqs := [],
           refusals := [], captures := [], demoted := false, clean := 0 }

/-- What writing the record holds is dropped. -/
def PrgSt.unwrite (p : PrgSt) : PrgSt :=
  { p with fwd := [], items := [], open_ := none, captures := [], copyAt := none, autoSwap := none, demoted := false }

/-- Held packets are discarded. -/
def State.freeHeld (s : State) : State :=
  s.prg.held.foldl (fun s h => s.iclFree h.pkt.handle) (s.setPrg fun p => { p with held := [] })

/-- A swap resolves: 2 APPLIED, 3 LATE or 4 REFUSED. -/
def State.swapResolve (s : State) (st reason : Nat) : State :=
  let s := (s.wfld prgPage Reg.prgSwapRes 2 0 st).wfld prgPage Reg.prgSwapRes 15 8 reason
  (s.seqUp prgPage Reg.prgSwapRes).wfld prgPage Reg.prgSwapCtl 0 0 0

/-- A swap that host software has armed waits. -/
def State.swapArmed (s : State) : Bool := s.rf prgPage Reg.prgSwapRes 2 0 = 1

/-- The active of a pair becomes SOLO (R622, R624): packets that the gate still holds go out, and a swap that is armed has no standby
(R623). [DEDUCED, log 65] -/
def State.actSolo (s : State) : State :=
  let g := s.prg.gate
  let s := s.setPrg fun p => { p.unwrite with gate := [], digs := [], swapAt := none }
  let s := if s.swapArmed then s.swapResolve 4 0x03 else s
  (g.foldl (fun s g => if g.sent then s else s.gateRelease g.frame) s).setPair 0 false

/-- The standby of a pair becomes SILENT (R597, R622): everything held is discarded. [DEDUCED, log 65] -/
def State.goSilent (s : State) : State :=
  let g := s.prg.gate
  let h := s.prg.held
  let s := s.setPrg fun p => { p.unfollow with gate := [], digs := [], swapAt := none }
  let s := g.foldl (fun s g => s.gateSuppress g.frame) s
  (h.foldl (fun s h => s.iclFree h.pkt.handle) s).setPair 6 true

/-- The standby promotes itself (R621). [DEDUCED, log 65] -/
def State.promote (s : State) : State :=
  let st := s.prgState
  let arg := if st = 4 then 0 else if st = 3 then 1 else if st = 5 then 2 else s.freeNat % 2 ^ 32
  let s := if 3 ≤ st then s else s.takeFree
  let s := if s.following && s.prg.reached ≠ some s.wale then s.captureFresh else s
  let g := s.prg.gate
  let h := s.prg.held
  let tops := s.prg.top
  let s := s.setPrg fun p => { p.unfollow with gate := [], digs := [], swapAt := none }
  let s := g.foldl (fun s g =>
    if NMap.get (fun _ => 0) tops g.key ≤ g.idx then s.gateRelease g.frame else s.gateSuppress g.frame) s
  let s := s.setPair 0 false
  let s := h.foldl (fun s h =>
    match s.policePkt h.pkt with
    | (s, true) => s.toCpe h.pkt
    | (s, false) => s.iclDrop .iclDropPoliced h.pkt.handle) s
  s.raise prgPage .prgPromoted arg 0

/-- R621. -/
def execPromote (s : State) : Host.Outcome State Fault Refusal :=
  .next (if s.standby && s.paired && !s.twinAlive && (!s.linkUp || s.prg.demoted) then s.promote else s)

/-- R595. -/
def execTwinDead (s : State) : Host.Outcome State Fault Refusal := .next (if s.qz.mainOk then s.wfld prgPage Reg.prgStatus 6 6 0 else s)

/-- R595. -/
def execTwinAlive (s : State) : Host.Outcome State Fault Refusal := .next (if s.qz.mainOk then s.wfld prgPage Reg.prgStatus 6 6 1 else s)

/-! ## The link (R594) -/

/-- Bytes of a message. The spec gives those of a LAY entry; the others are the model's own measure. [DESIGN CHOICE, log 64] -/
def msgSize : Msg → Nat
  | .lay b => b.length
  | .copy _ n _ => 16 + n
  | .fetched _ _ _ (some b) => 16 + b.length
  | _ => 16

/-- The messages that one frame takes, and the rest. [DESIGN CHOICE, log 64] -/
def frameTake : Nat → List Msg → List Msg × List Msg
  | _, [] => ([], [])
  | n, m :: r =>
    if msgSize m ≤ n then
      let (a, b) := frameTake (n - msgSize m) r
      (m :: a, b)
    else ([], m :: r)

/-- Bytes of messages in a frame at most (R593). -/
def frameMax : Nat := 9216

/-- HELLO (R596). -/
def State.hello (s : State) : Msg :=
  .hello (s.rd prgPage Reg.prgTag).toNat (s.rf prgPage Reg.prgCtl 1 1) 0 s.gridPhase
    ((List.range 8).map fun n => s.raf (0x010 + n) Reg.ethPortCfg 1 0 * 4 ^ n).sum s.drcCap

/-- R594: one frame leaves with what waits. -/
def execPairLinkSend (s : State) : Host.Outcome State Fault Refusal :=
  .next
    (if s.prgOn then
      let s := if s.layActive then s.closeBoundary.carryWrites else s
      let (ms, r) :=
        match s.prg.tx with
        | [] => ([], [])
        | m :: r => if frameMax < msgSize m then ([m], r) else frameTake frameMax (m :: r)
      s.setPrg fun p =>
        { p with tx := r, wire := p.wire ++ [(p.seqOut, p.seqIn, ms)],
                 unacked := p.unacked ++ [(p.seqOut, s.clk.tru, ms)], seqOut := (p.seqOut + 1) % 2 ^ 32,
                 lastTx := s.clk.tru }
     else s)

/-- R594: every frame that has not been acknowledged for 4 µs goes out again. -/
def execPairRetransmit (s : State) : Host.Outcome State Fault Refusal :=
  let old (u : Nat × Nat × List Msg) : Bool := decide (u.2.1 + 4000 ≤ s.clk.tru)
  let again := s.prg.unacked.filter old
  .next
    (if s.prgOn then
      (s.setPrg fun p =>
        { p with wire := p.wire ++ again.map (fun u => (u.1, p.seqIn, u.2.2)),
                 unacked := p.unacked.map fun u => if old u then (u.1, s.clk.tru, u.2.2) else u }).bumpN prgPage
        .prgLinkRetx again.length
     else s)

/-- The answer to a FETCH request (R607): from the history slot that holds that number. -/
def State.fetchAnswer (s : State) (scid kind seq : Nat) : State :=
  let ext := s.ctx scid 8 31 0
  let x := (ext + 2 ^ 32 - (ext + 65536 - seq) % 65536) % 2 ^ 32
  s.prgSend (.fetched scid kind seq (if kind = 0 then s.histSlot scid x else none))

/-- The units that have a capture point (R626). [DEDUCED, log 69] -/
def State.captureUnits (s : State) : List Capture :=
  [.mxf, .lfw] ++
    ((List.range 16).flatMap fun n =>
      ((List.range 64).filter fun m => eEn (s.encEnt n m)).map fun m => Capture.enc n m) ++
    ((List.range 256).filter fun t => tmEn (s.tmpl t)).map .tmpl ++ (List.range 4).map .pipe

/-- JOINING begins with join wale j on either device. -/
def State.joining (s : State) (j : Nat) : State :=
  let units := s.captureUnits
  let s := s.setPrg fun p => { p with followFrom := j, captures := units, clean := 0, reached := none }
  ((s.wr prgPage Reg.prgJoinWale (BitVec.ofNat 32 j)).setPair 3 s.standby).raise prgPage .prgJoinStart j 0

/-- The twin's state has changed, and this device's with it. -/
def State.twinState (s : State) (st arg : Nat) : State :=
  if !s.paired then s
  else if st = 5 then
    let again := decide (s.prgState = 5)
    let s := (s.setPrg fun p => { p with lagAt := s.wale }).setPair 5 s.standby
    if again then s else s.raise prgPage .prgLagging arg 0
  else if st = 4 then (s.setPair 4 s.standby).raise prgPage .prgInStep 0 0
  else s.setPair st s.standby

/-- A message is delivered. Those that only move data or state act at once; the others wait for their command. -/
def State.deliverMsg (s : State) (m : Msg) : State :=
  match m with
  | .state st arg => s.twinState st arg
  | .joinWale j => if s.standby && s.prgState = 2 then s.joining j else s
  | .swap t => s.setPrg fun p => { p with swapAt := some t }
  | .bypass on => (s.setPrg fun p => { p with twinBypass := on }).bypassRefresh
  | .fetch scid kind seq => if s.layActive then s.fetchAnswer scid kind seq else s
  | .copy a n bs =>
    bs.foldl (fun s b => s.dramSet b.1 b.2)
      (s.setMem fun g =>
        { g with dram := g.dram.filter fun x => !decide (a ≤ x.1 ∧ x.1 < a + n),
                 queued := g.queued.filter fun x => !decide (a ≤ x.1 ∧ x.1 < a + n) })
  | .table p t plane e ws => s.tset p t plane e ws
  | .record c x => s.setCrypto c x
  | .skt k v => s.setSkt (k / 4) (k % 4) v
  | .inv slot n st => s.setKslot slot fun k => KeySlot.sealed s.kwk slot { k with count := n, inv := st }
  | m => s.setPrg fun p => { p with rx := p.rx ++ [(s.now, m)] }

/-- Frames in order are delivered, with those that arrived ahead of them. -/
def State.deliverFrames (s : State) : Nat → State
  | 0 => s
  | fuel + 1 =>
    match s.prg.ahead.find? fun f => f.1 = s.prg.seqIn with
    | none => s
    | some f =>
      let s := s.setPrg fun p =>
        { p with ahead := p.ahead.filter fun g => g.1 ≠ f.1, seqIn := (p.seqIn + 1) % 2 ^ 32 }
      (f.2.foldl (fun s m => s.deliverMsg m) s).deliverFrames fuel

/-- R594: a frame arrives. The first one after a time without brings the link up, and a HELLO goes out (R596). -/
def execPairLinkFrame (seq ack : Nat) (msgs : List Msg) (s : State) : Host.Outcome State Fault Refusal :=
  .next
    (if !s.prgOn then s
     else
      let s := if s.linkUp then s else ((s.wfld prgPage Reg.prgStatus 5 5 1).prgSend s.hello).bypassRefresh
      let known := waleLt seq s.prg.seqIn || s.prg.ahead.any fun f => f.1 = seq
      let s := s.setPrg fun p =>
        { p with lastRx := s.clk.tru, unacked := p.unacked.filter fun u => !waleLt u.1 ack,
                 ahead := if known then p.ahead else p.ahead ++ [(seq, msgs)] }
      s.deliverFrames s.prg.ahead.length)

/-- R594, R622: no frame for `PRG_TMO.LINK_US`. -/
def execPrgLinkDown (s : State) : Host.Outcome State Fault Refusal :=
  .next
    (if s.linkUp && decide (s.prg.lastRx + s.rf prgPage Reg.prgTmo 7 0 * 1000 ≤ s.clk.tru) then
      let s := s.setPrg fun p =>
        { p with tx := [], unacked := [], seqOut := 0, seqIn := 0, ahead := [], rx := [], twinBypass := false }
      let s := (s.wfld prgPage Reg.prgStatus 5 5 0).bypassRefresh
      if !s.paired then s
      else if !s.standby then s.actSolo.raise prgPage .prgLinkDown 0 0
      else if s.twinAlive then s.goSilent.raise prgPage .prgLinkDown 6 0
      else s.promote
     else s)

/-- The oldest delivered message that `f` takes, with its arrival, off the list. -/
def State.rxTake {α : Type} (s : State) (f : Msg → Option α) : Option (State × Nat × α) :=
  match s.prg.rx.find? fun m => (f m.2).isSome with
  | none => none
  | some m =>
    match f m.2 with
    | some a => some (s.setPrg fun p => { p with rx := p.rx.eraseP fun x => (f x.2).isSome }, m.1, a)
    | none => none

/-- R596: the first condition that fails. -/
def State.helloFault (s : State) (tag role rev grid modes : Nat) : Nat :=
  match s.hello with
  | .hello t r v g m _ =>
    if t ≠ tag then 1 else if r = role then 2 else if v ≠ rev then 3 else if g ≠ grid then 4 else if m ≠ modes then 5 else 0
  | _ => 0

/-- R596: the oldest HELLO that has arrived. -/
def execHello (s : State) : Host.Outcome State Fault Refusal :=
  match s.rxTake fun m => match m with | .hello t r v g m c => some (t, r, v, g, m, c) | _ => none with
  | none => .next s
  | some (s, _, t, r, v, g, m, c) =>
    .next
      (if s.prgState = 0 || s.prgState = 6 then
        match s.helloFault t r v g m with
        | 0 =>
          let role := s.rf prgPage Reg.prgCtl 1 1
          let solo := decide (s.prgState = 0)
          let s := s.freeHeld.setPrg fun p => { p.unfollow.unwrite with twinCap := c, top := [], mine := [], swapAt := none }
          let s := s.setPair 1 (role = 1)
          let s := s.prgSend (.bypass (s.rb prgPage Reg.prgGate 24))
          if solo then s.raise prgPage .prgLinkUp role 0 else s
        | n => s.raise prgPage .prgLinkRefused n 0
       else s)

/-- R624: a DEMOTE has arrived. -/
def execDemoteRx (s : State) : Host.Outcome State Fault Refusal :=
  match s.rxTake fun m => match m with | .demote => some () | _ => none with
  | none => .next s
  | some (s, _, _) =>
    .next
      (if !s.paired then s
       else if s.standby then s.setPrg fun p => { p with demoted := true }
       else s.actSolo)

/-- R624: a device that raises FATAL sends DEMOTE. -/
def State.fatalRaised (s : State) : State :=
  let s := s.setPrg fun p => { p with fatal := true }
  if s.paired then s.prgSend .demote else s

/-- R598: the writes that wait are carried. -/
def execConfigForward (s : State) : Host.Outcome State Fault Refusal :=
  .next (if s.layActive then (if s.prg.fwd = [] then s else s.closeBoundary.carryWrites) else s)

/-! ## Following the record (R606 to R611) -/

/-- The oldest entry of the record that has arrived, where it is of a type: the state without it, its arrival and its
bytes. It is consumed, and counts in the section in progress. -/
def State.layTake (s : State) (ty : Nat) : Option (State × Nat × List Byte) :=
  match s.rxTake fun m => match m with | .lay b => some b | _ => none with
  | none => none
  | some (t, at_, b) =>
    if fb b 0 = ty then
      some ((t.setPrg fun p => { p with section_ := if ty = 1 then [b] else p.section_ ++ [b] }).bump prgPage .prgLayEntries,
        at_, b)
    else none

/-- A held packet's number as a PKT entry gives it: RTP sequence number or low 16 bits of the SRTCP index. -/
def State.heldSeq (s : State) (p : Pkt) : Nat :=
  if p.parse.kind = 1 then
    let c := p.parse.scid
    let prof := s.ctx c 10 3 0
    fb32 p.payload (rtcpTrailer prof (if prof = 0 then 0 else (s.kslot (s.ctx c 9 21 0)).mkiLen) p.payload) % 65536
  else p.parse.seq

/-- A held packet is the one that an entry names (R606). -/
def State.meets (s : State) (w : WantIn) (h : HeldIn) : Bool :=
  let p := h.pkt
  decide (p.parse.scid = w.scid) && decide (p.parse.kind = w.kind) && decide (s.heldSeq p = w.seq) &&
    decide (p.payload.length = w.ulen) && decide (sm3First p.payload = w.dig)

/-- The first entry in stream order whose packet is held and which no earlier entry of its leg stands before (R608). -/
def State.wantHit (s : State) : List WantIn → List Nat → Option (WantIn × HeldIn)
  | [], _ => none
  | w :: r, seen =>
    let g := s.ctx w.scid 0 31 16
    if seen.contains g then s.wantHit r seen
    else
      match s.prg.held.find? fun h => s.meets w h with
      | some h => some (w, h)
      | none => s.wantHit r (g :: seen)

/-- The DISCARD and CAPTURE flags of an entry. -/
def WantIn.forced (w : WantIn) : Bool × Bool := (w.flags.testBit 1, w.flags.testBit 0)

/-- Entries that wait meet the packets that are held (R606). -/
def State.wantRun (s : State) : Nat → State
  | 0 => s
  | fuel + 1 =>
    match s.wantHit s.prg.want [] with
    | none => s
    | some (w, h) =>
      let s := s.setPrg fun p => { p with want := p.want.erase w, held := p.held.erase h }
      let p := { h.pkt with parse := { h.pkt.parse with lane := w.lane, ts := w.ts } }
      (if s.mediaReady then s.inbound p (some w.forced) else s.iclDrop .iclDropNotready p.handle).wantRun fuel

/-- R606, R607: the oldest entry of the record, where it is a PKT entry; then every entry whose packet is held. -/
def execLayPkt (s : State) : Host.Outcome State Fault Refusal :=
  let s :=
    match s.layTake 2 with
    | none => s
    | some (s, _, b) =>
      if s.following then
        let w := fb32 b 4
        let x : WantIn :=
          { scid := w % 2 ^ 25, lane := w / 2 ^ 25 % 32, kind := w / 2 ^ 30, ts := fb32 b 8, seq := fb16 b 12,
            ulen := fb16 b 14, dig := beNat (slice b 16 8), flags := fb b 1, at_ := s.now }
        s.setPrg fun p => { p with want := p.want ++ [x] }
      else s
  .next (if s.following then s.wantRun s.prg.want.length else s)

/-- R607: entries that have waited 20 µs for a packet. -/
def execFetchRequest (s : State) : Host.Outcome State Fault Refusal :=
  let due (w : WantIn) : Bool :=
    w.fetchAt.isNone && decide (w.at_ + 20000 ≤ s.now) && !s.prg.held.any fun h => s.meets w h
  .next
    (if s.following then
      let ask := s.prg.want.filter due
      ask.foldl (fun s w => s.prgSend (.fetch w.scid w.kind w.seq))
        (s.setPrg fun p => { p with want := p.want.map fun w => if due w then { w with fetchAt := some s.now } else w })
     else s)

/-- An input is MISSING (R607). -/
def State.inputMissing (s : State) (w : WantIn) : State :=
  ((s.setPrg fun p => { p with want := p.want.erase w }).bump prgPage .prgMissing).diverge 1 6

/-- The packet that a fetched plaintext stands for, in a buffer of its own: eight bytes in place of the headers before it. -/
def State.fetchedPkt (s : State) (w : WantIn) (plain : List Byte) (h : Nat) : Option Pkt :=
  let f := List.replicate 8 0 ++ plain
  match parseRtp f { lane := w.lane, ts := w.ts } 8 f.length with
  | .ok (r, es, ssrc) =>
    let c := w.scid
    let r := { r with scid := c, leg := s.ctx c 0 31 16 }
    some ((Pkt.mk r f f.length es ssrc f.length h s.now).locate (s.ctx c 3 7 0) (s.ctx c 3 15 8) (s.ctx c 3 23 16))
  | _ => none

/-- A fetched plaintext is accepted without a second authentication (R607), while ICL, CPE and LFW are READY (R717).
[DEDUCED, log 69] -/
def State.acceptFetched (s : State) (w : WantIn) (plain : List Byte) : State :=
  if !s.mediaReady then (s.bump iclPage .iclDropNotready).inputMissing w
  else
  match s.crlAlloc iclPort (s.raf (ethPage w.lane) Reg.ethPortCfg 7 2) with
  | (s, none) => s.inputMissing w
  | (s, some h) =>
    match s.fetchedPkt w plain h with
    | none => (s.iclFree h).inputMissing w
    | some p =>
      let c := s.crypto w.scid
      let s := (s.setPrg fun g => { g with want := g.want.erase w }).bump prgPage .prgFetched
      (s.inRelease p (rtpEstimate c w.seq).toNat plain c (some w.forced)).1

/-- R607: the oldest answer to a FETCH request. -/
def execFetchResponse (s : State) : Host.Outcome State Fault Refusal :=
  match s.rxTake fun m => match m with | .fetched c k q b => some (c, k, q, b) | _ => none with
  | none => .next s
  | some (s, _, c, k, q, b) =>
    match s.prg.want.find? fun w => w.fetchAt.isSome && w.scid = c && w.kind = k && w.seq = q with
    | none => .next s
    | some w =>
      let s := match b with
        | some plain => s.acceptFetched w plain
        | none => s.inputMissing w
      .next (s.wantRun s.prg.want.length)

/-- R607: requests that have had no answer for `PRG_TMO.FETCH_US`. -/
def execFetchTimeout (s : State) : Host.Outcome State Fault Refusal :=
  let t := s.rf prgPage Reg.prgTmo 15 8 * 1000
  let late := s.prg.want.filter fun w => match w.fetchAt with | some a => decide (a + t ≤ s.now) | none => false
  let s := late.foldl (fun s w => s.inputMissing w) s
  .next (s.wantRun s.prg.want.length)

/-- R606: held packets that no entry has named for `PRG_TMO.HOLD_US`. -/
def execHeldInputTimeout (s : State) : Host.Outcome State Fault Refusal :=
  let t := s.rf prgPage Reg.prgTmo 23 16 * 1000
  let late := s.prg.held.filter fun h => decide (h.at_ + t ≤ s.now) && !s.prg.want.any fun w => s.meets w h
  .next
    (late.foldl (fun s h =>
      ((s.setPrg fun p => { p with held := p.held.erase h }).bump prgPage .prgUnlisted).iclFree h.pkt.handle) s)

/-- R603, R538: the oldest entry of the record, where it is a TDM entry. -/
def execLayTdm (s : State) : Host.Outcome State Fault Refusal :=
  match s.layTake 3 with
  | none => .next s
  | some (s, _, b) => .next (if s.following then s.tdmEntry (b.drop 4) s.acceptWale else s)

/-- R611: the oldest entry of the record, where it is a DEQ entry. -/
def execLayDeq (s : State) : Host.Outcome State Fault Refusal :=
  match s.layTake 4 with
  | none => .next s
  | some (s, _, b) => .next (if s.following then s.deqEntry false (slice b 4 12) else s)

/-- R611: the oldest entry of the record, where it is a DROP entry. -/
def execLayDrop (s : State) : Host.Outcome State Fault Refusal :=
  match s.layTake 5 with
  | none => .next s
  | some (s, _, b) => .next (if s.following then s.deqEntry true (slice b 4 12) else s)

/-- R611: the oldest entry of the record, where it is an OUTCOME entry. -/
def execLayOutcome (s : State) : Host.Outcome State Fault Refusal :=
  match s.layTake 6 with
  | none => .next s
  | some (s, _, b) =>
    .next
      (if s.following then
        let key := beNat (slice b 4 8)
        let w := fb32 b 12
        let k := w % 65536
        (s.setPrg fun p => { p with outcomes := p.outcomes ++ [(key, k, w / 2 ^ 16 % 16, w / 2 ^ 20 % 16)] }).holdMet key k
       else s)

/-- R610: the oldest entry of the record, where it is a REFUSE entry. A report of kind 6 reaches LFW. -/
def execLayRefuse (s : State) : Host.Outcome State Fault Refusal :=
  match s.layTake 7 with
  | none => .next s
  | some (s, _, b) =>
    .next
      (if !s.following then s
       else if fb32 b 4 = 6 then s.keyRequest (fb32 b 8)
       else s.setPrg fun p => { p with refusals := p.refusals ++ [(fb32 b 4, slice b 8 8)] })

/-! ## The gate -/

/-- R616: the oldest digest of the twin. -/
def execDigestRx (s : State) : Host.Outcome State Fault Refusal :=
  match s.rxTake fun m => match m with | .digest k i d => some (k, i, d) | _ => none with
  | none => .next s
  | some (s, _, k, i, d) => .next (if s.paired then s.gateDigest k i d else s)

/-- R615: WAIT_NS has elapsed on the active. -/
def execGateWaitExpire (s : State) : Host.Outcome State Fault Refusal :=
  .next (if s.standby then s else s.gateExpire (s.rf prgPage Reg.prgGate 10 0))

/-- R616: HOLD_US has elapsed on the standby. -/
def execGateHoldExpire (s : State) : Host.Outcome State Fault Refusal :=
  .next (if s.standby then s.gateExpire (s.rf prgPage Reg.prgGate 23 16 * 1000) else s)

/-! ## Swap (R613, R623) -/

/-- R623: `PRG_SWAP_CTL.ARM` is written 1. -/
def execSwapArm (src : Src) (s : State) : Host.Outcome State Fault Refusal :=
  .next (s.access src prgPage Reg.prgSwapCtl 1 fun s =>
    let t := (s.rd prgPage Reg.prgSwap).toNat
    let d := s.ahead t
    if s.swapArmed then s.accessErr prgPage Reg.prgSwapCtl 2 src 1
    else if !decide (1 ≤ d ∧ d < 2 ^ 31) then s.swapResolve 3 0x01
    else if s.standby || (d = 1 && s.prgState ≠ 4) then s.swapResolve 4 0x03
    else
      let s := (s.wfld prgPage Reg.prgSwapRes 2 0 1).wfld prgPage Reg.prgSwapRes 15 8 0
      ((s.wfld prgPage Reg.prgSwapCtl 0 0 1).setPrg fun p => { p with swapAt := some t }).prgSend (.swap t))

/-- The check at B(T - 1): a swap is refused while the standby is not IN_STEP (R623). -/
def State.swapCheck (s : State) : State :=
  if s.prg.swapAt = some ((s.wale + 1) % 2 ^ 32) && s.prgState ≠ 4 && !s.standby then
    let s := s.setPrg fun p => { p with swapAt := none }
    if s.swapArmed then s.swapResolve 4 0x03 else s
  else s

/-- R623: step 5 of B(T). The check was that at B(T - 1). -/
def execSwapApply (s : State) : Host.Outcome State Fault Refusal :=
  .next
    (if s.stepDue 5 && s.prg.swapAt = some s.wale && decide (4 ≤ s.prgState ∧ s.prgState ≤ 5) then
      let s := s.atStep 5
      let w := s.wale
      let st := s.prgState
      if s.standby then
        (s.setPrg fun p => { p.unfollow with swapAt := none }).setPair st false
      else
        let s := s.closeBoundary.carryWrites
        let s := s.setPrg fun p => { p.unwrite with swapAt := none, followFrom := w, reached := some w, listed := [] }
        let s := s.setPair st true
        if s.swapArmed then s.swapResolve 2 0 else s
     else s)

/-- R613: an automatic swap starts. -/
def execAutoSwap (s : State) : Host.Outcome State Fault Refusal :=
  .next
    (match s.prg.autoSwap with
     | some t =>
      let s := s.setPrg fun p => { p with autoSwap := none }
      if s.layActive && s.prgState = 4 && s.prg.swapAt.isNone && waleLt s.wale t then
        (s.setPrg fun p => { p with swapAt := some t }).prgSend (.swap t)
      else s
     | none => s)

/-! ## Joining (R625 to R627) -/

/-- The enabled copy regions: first byte and length (R629). -/
def State.regions (s : State) : List (Nat × Nat) :=
  (s.tlist prgPage 0 0).filterMap fun (_, ws) =>
    if bit (ws.getD 3 0) 0 then
      some ((ws.getD 0 0).toNat + (ws.getD 1 0).toNat * 2 ^ 32, (ws.getD 2 0).toNat * 4096)
    else none

/-- Every region lies where R625 asks for. -/
def State.regionsOk (s : State) : Bool :=
  let k := s.rd64 cpePage Reg.cpeKeyBase Reg.cpeKeyBaseHi
  s.regions.all fun (a, n) =>
    decide (a + n ≤ s.drcCap ∧ a + n ≤ s.prg.twinCap) && decide (a + n ≤ k ∨ k + 2 ^ 29 ≤ a)

/-- R625: `PRG_JOIN.GO`, with CONVERGE as the same write gives it. -/
def execJoinGo (src : Src) (converge : Nat) (s : State) : Host.Outcome State Fault Refusal :=
  .next (s.access src prgPage Reg.prgJoin (BitVec.ofNat 32 (converge * 2 ^ 16 + 1)) fun s =>
    let s := s.wfld prgPage Reg.prgJoin 31 16 converge
    if s.standby || s.prgState ≠ 1 then s.raise prgPage .prgJoinRefused 1 0
    else if !s.regionsOk then s.raise prgPage .prgJoinRefused 2 0
    else
      let s := (s.setPrg fun p => { p with copyAt := some 0 }).wr64 prgPage Reg.prgCopy Reg.prgCopyHi 0
      (s.setPair 2 false).prgSend (.state 2 0))

/-- An address lies in a region. -/
def inRegions (rs : List (Nat × Nat)) (a : Nat) : Bool := rs.any fun (b, n) => decide (b ≤ a ∧ a < b + n)

/-- What the copy carries: the regions' bytes, the records that lie in them, and every VALID slot's invocations (R625).
[DEDUCED, log 69] -/
def State.copyMsgs (s : State) : List Msg :=
  let rs := s.regions
  let st := s.rd64 cpePage Reg.cpeStateBase Reg.cpeStateBaseHi
  let sk := s.rd64 iclPage Reg.iclSktBase Reg.iclSktBaseHi
  let here (a n x : Nat) : Bool := decide (a ≤ x ∧ x < a + n)
  rs.map (fun (a, n) =>
      Msg.copy a n
        ((s.mem.dram.filter fun b => here a n b.1 && (NMap.get (fun _ => none) s.mem.queued b.1).isNone) ++
          s.mem.queued.filterMap fun b => if here a n b.1 then b.2.map fun v => (b.1, v) else none)) ++
    (s.dramTables.flatMap fun (p, t, plane, base, size) =>
      ((s.tlist p t plane).filter fun e => inRegions rs (base + size * e.1)).map fun e => Msg.table p t plane e.1 e.2) ++
    ((s.cpe.st.filter fun e => inRegions rs (st + 64 * e.1)).map fun e => Msg.record e.1 e.2) ++
    ((s.icl.skt.filter fun e => inRegions rs (sk + 16 * e.1)).map fun e => Msg.skt e.1 e.2) ++
    ((s.cpe.slots.filter fun e => e.2.valid).map fun e => Msg.inv e.1 e.2.count e.2.inv)

/-- The first boundary at least two wales later. -/
def State.joinAfter (s : State) : Nat := (s.wale + (if s.now ≤ s.boundary s.wale64 then 2 else 3)) % 2 ^ 32

/-- R626: the copy is complete. -/
def execCopyComplete (s : State) : Host.Outcome State Fault Refusal :=
  .next
    (if s.layActive && s.prgState = 2 then
      let j := s.joinAfter
      let s := s.copyMsgs.foldl (fun s m => s.prgSend m) s
      let s := s.wr64 prgPage Reg.prgCopy Reg.prgCopyHi (s.regions.map (·.2)).sum
      ((s.setPrg fun p => { p with copyAt := none }).joining j).prgSend (.joinWale j)
     else s)

/-- The active at the strobe of J (R626): item 9, a refresh of every encoder stream, and what has changed since the copy. -/
def State.joinBegins (s : State) : State :=
  let j := (s.rd prgPage Reg.prgJoinWale).toNat
  if s.layActive && s.prgState = 3 && s.wale = j then
    let s := s.copyMsgs.foldl (fun s m => s.prgSend m) s
    let s := s.layItem 9 0 j 0
    (List.range 16).foldl (fun s n => (List.range 64).foldl (fun s m => s.encRequest n m) s) s
  else s

/-- A unit's capture point has come: MXF's is the end of the gather of input wale J + 1, the others' lie at J + 2. -/
def State.capturePoint (s : State) (u : Capture) : Bool :=
  let j := (s.prg.followFrom + 2) % 2 ^ 32
  s.prg.captures.contains u &&
    (match u with
     | .mxf => (match s.mxf.out with | some v => waleGe (v % 2 ^ 32) j | none => false)
     | _ => waleGe s.wale j)

/-- A unit's state as the active sends it (R626). [DEDUCED, log 69] -/
def State.captured (s : State) : Capture → Captured
  | .mxf => .mxf s.mxf.ins s.mxf.outs s.mxf.factor
  | .lfw => .lfw s.lfw ([1, 5, 6].flatMap fun t => (s.tlist lfwPage t 0).map fun e => (t, e.1, e.2))
  | .enc n m => .enc (s.encStream n m)
  | .tmpl t => .tmpl (s.wve.rcv.filter fun r => rvTmpl (s.rcvEnt (r.1 / 32768) (r.1 % 32768)) = t)
  | .pipe _ => .pipe

/-- A unit of the standby starts with the captured state. -/
def State.load (s : State) (u : Capture) (c : Captured) : State :=
  match u, c with
  | .mxf, .mxf i o f => s.setMxf fun x => { x with ins := i, outs := o, factor := f }
  | .lfw, .lfw l ts =>
    let s := ts.foldl (fun s (t, e, ws) => s.tset lfwPage t 0 e ws) s
    s.setLfw fun x =>
      { l with rx := x.rx, out := x.out, fan := x.fan, toMxf := x.toMxf, partials := x.partials, orig := x.orig,
               refresh := x.refresh, needIntra := x.needIntra }
  | .enc n m, .enc x => s.setEncStream n m fun y => { x with queued := y.queued, src := y.src }
  | .tmpl _, .tmpl rs => rs.foldl (fun s r => s.setRcv (r.1 / 32768) (r.1 % 32768) fun _ => r.2) s
  | _, _ => s

/-- R626: on the active a unit's state is taken and sent, on the standby it is loaded. -/
def execCapturePoint (u : Capture) (s : State) : Host.Outcome State Fault Refusal :=
  let done (s : State) : State := s.setPrg fun p => { p with captures := p.captures.filter (· ≠ u) }
  .next
    (if s.standby then
      match s.rxTake fun m => match m with | .capture v c => if v = u then some c else none | _ => none with
      | some (s, _, c) => done (s.load u c)
      | none => s
     else if s.layActive && s.capturePoint u then done (s.prgSend (.capture u (s.captured u)))
     else s)

/-- R597, R627: the standby enters IN_STEP, from JOINING or from LAGGING. -/
def execPrgInStep (s : State) : Host.Outcome State Fault Refusal :=
  let since (w : Nat) : Nat := (s.wale + 2 ^ 32 - w) % 2 ^ 32
  let joined :=
    s.prgState = 3 && s.prg.captures = [] && waleGe s.wale s.prg.followFrom &&
      decide (s.rf prgPage Reg.prgJoin 31 16 ≤ since s.prg.followFrom) && decide (400 ≤ s.prg.clean)
  let back := s.prgState = 5 && !s.prg.secBad && decide (2 ≤ since s.prg.lagAt)
  .next
    (if s.standby && (joined || back) then
      ((s.setPair 4 true).raise prgPage .prgInStep 0 0).prgSend (.state 4 0)
     else s)

/-- The effect of a write-back of a copy region (R629). -/
def State.wbRegion (s : State) (src : Src) (e : Nat) (ws : List Word) : State :=
  let bad := bit (ws.getD 3 0) 0 && decide ((ws.getD 0 0).toNat % 4096 ≠ 0)
  if s.prgState = 2 || bad then s.tblRefuse src prgPage 7 ws
  else s.tset prgPage 0 0 e [ws.getD 0 0, ws.getD 1 0, ws.getD 2 0, ws.getD 3 0 &&& 1]

/-- R629. -/
def execPrgRegionWriteback (src : Src) (entry : Nat) (ws : List Word) (s : State) : Host.Outcome State Fault Refusal :=
  .next (s.writeBack src prgPage 0 entry ws fun s => s.wbRegion src entry ws)

end Sys2Proof.Machine
end

