-- ==== Sys2Proof/Machine/Boundary.lean ====
section
/-!
DEFINITION. The wale boundary: the strobe (R32 to R39), what each block does as one wale ends and the next begins, the
BOUNDARY entry that a standby waits for (R609, R610), and the fine tick (R123).
-/

namespace Sys2Proof.Machine

/-- The wale whose strobe comes next, while the generator runs or starts. -/
def State.nextWale (s : State) : Option Nat :=
  if s.genState = 1 then some (s.rd64 tmuPage Reg.tmuStartWale Reg.tmuStartWaleHi)
  else if s.genState = 2 then some (s.clk.wale + 1)
  else none

/-! ## The end of a wale -/

/-- Events that sum up the wale that ends (R209, R218, R485). [DEDUCED, log 66] -/
def State.waleEvents (s : State) : State :=
  let i := s.icl
  let s := if i.missDrop = 0 then s else s.raise iclPage .iclMissOvf i.missDrop 0
  let s := if s.following then s else s.shedEvent
  s.escWaleEnd

/-- A completed wale's length in true time is judged (R39). -/
def State.stretch (s : State) : State :=
  let d : Int := (s.clk.tru : Int) - s.clk.waleTru - 2500000
  if s.clk.first || d.natAbs ≤ 500 then s
  else s.raise tmuPage .tmuWaleStretch (BitVec.ofInt 32 d).toNat ((s.wale + 2 ^ 32 - 1) % 2 ^ 32)

/-- LFW's boundary: packets accepted before it are forwarded under the old choices, rates and WANT values change, and what
LFW keeps for one wale starts again (R269, R280, R283, R291). -/
def State.mediaBoundary (s : State) (w : Nat) : State :=
  if !s.enabled lfwPage then s
  else
    let s := s.lfwDrain
    let s := s.setLfw fun l => { l with ended := some (NMap.keep (fun k => decide (ctrPage k = lfwPage)) s.ctr) }
    let s := if s.lfw.wantFor = some w then s else s.wantCompute w
    let s := s.setLfw fun l =>
      { l with ddBad := [], fanFull := false, tmoDone := [], donePrev := l.done, done := [], joinsPrev := l.joins, joins := [],
               namedPrev := l.named, named := [] }
    s.joinMarks.rateUpdate.wantApply

/-! ## The strobe -/

/-- The active's section of the record ends, and the next one is open (R602). -/
def State.sectionEnds (s : State) (w : Nat) : State :=
  if s.layActive then
    let s := s.closeBoundary.carryWrites
    let s := s.setPrg fun p =>
      { p with prevCount := p.section_.length, prevDig := sm3First p.section_.flatten, section_ := [], open_ := some w, items := [] }
    let backlog := (s.prg.tx.map fun m => match m with | .lay b => b.length | _ => 0).sum
    if 2500000 < backlog && decide (4 ≤ s.prgState) then
      let t := s.prgSend (.state 5 2)
      t.twinState 5 2
    else s
  else s

/-- Pages that were enabled without a wale are as ready as their other conditions say (R36). -/
def State.waleReady (s : State) : State :=
  let ps := (s.page.filter fun p => p.2.noWale).map (·.1)
  (ps.foldl (fun s p => s.setPg p fun x => { x with noWale := false }) s).refreshAll ps false

/-- Step 1 of R47: the wale is w from now on, and what is kept for one wale starts again. -/
def State.newWale (s : State) (w : Nat) : State :=
  let s := (State.waleFresh { s with clk := { s.clk with wale := w, phase := 1 } }).stretch
  let s := (s.wfld tmuPage Reg.tmuWaleCtl 5 4 2).wr64 tmuPage Reg.tmuWale64 Reg.tmuWale64Hi w
  { s with clk := { s.clk with waleTru := s.clk.tru, first := false } }

/-- The first strobe of a run starts the wale (R37, R36). Bins that began before it are suspect (R536). -/
def State.firstStrobe (s : State) (w : Nat) : State :=
  let s := (s.raise tmuPage .tmuWaleStart (w % 2 ^ 32) s.wale).waleReady.startLate
  s.pmDoubt s.entities

/-- One more wale since the last disagreement (R627). -/
def State.cleanWale (s : State) : State :=
  if 3 ≤ s.prgState ∧ s.prgState ≤ 5 then s.setPrg fun p => { p with clean := p.clean + 1 } else s

/-- The strobe of wale w (R37, R47). [DEDUCED, log 4] -/
def State.strobe (s : State) (w : Nat) : State :=
  let t := s.waleEvents.newWale w
  let t := (if s.clk.first then t.firstStrobe w else t).cleanWale.swapCheck
  let t := t.sectionEnds t.wale
  (if s.following || t.following then t else t.mediaBoundary t.wale).joinBegins

/-- R37: time passes to the boundary, where it has not come, and the strobe is issued. [DESIGN CHOICE, log 3] -/
def execWaleStrobe (s : State) : Host.Outcome State Fault Refusal :=
  match s.nextWale with
  | some w => .next ((s.advanceTo (s.boundary w)).strobe w)
  | none => .next s

/-- The strobe of the next wale is issued where the local clock has reached its boundary (R37). -/
def State.strobeDue (s : State) : State :=
  match s.nextWale with
  | some w => if s.boundary w ≤ s.now then s.strobe w else s
  | none => s

/-- R38: an accepted forward step that crosses a boundary issues that boundary's strobe at the instant of the step. The result
of the step and `TMU_STEP_DONE` come first. [DEDUCED, log 31] -/
def State.stepStrobe (s : State) : State :=
  if s.rf tmuPage Reg.tmuAdjRes 3 0 = 0 && decide (0 < (s.rd tmuPage Reg.tmuStep).toInt) then s.strobeDue else s

/-- R38, R549: STEP. -/
def execAdjStep (src : Src) (s : State) : Host.Outcome State Fault Refusal :=
  .next (s.qzOnly src tmuPage Reg.tmuAdjCtl 6 fun s => s.adjStep.stepStrobe)

/-! ## The fine tick -/

/-- R123, R494, R502: time passes to the next fine tick of the wale; shapers and ceilings are refilled.
[DESIGN CHOICE, log 3; DEDUCED, log 66] -/
def execFineTick (s : State) : Host.Outcome State Fault Refusal :=
  let b := s.boundary s.clk.wale
  let t := if s.clk.fine < b then b else s.clk.fine + 1000
  .next
    (if s.genState = 2 && decide (t < b + 2500000) then
      let s := s.advanceTo t
      State.escTick { s with clk := { s.clk with fine := t } }
     else s)

/-! ## The BOUNDARY entry on the standby (R609, R610) -/

/-- The standby enters LAGGING, or stays in it, with a cause. [DEDUCED, log 66] -/
def State.lagging (s : State) (cause : Nat) : State :=
  if s.prgState = 4 then (s.twinState 5 cause).prgSend (.state 5 cause)
  else if s.prgState = 5 then s.setPrg fun p => { p with lagAt := s.wale }
  else s

/-- The skew of a BOUNDARY entry is shown and judged. -/
def State.skewStep (s : State) (d : Int) : State :=
  let s := s.wr prgPage Reg.prgSkew (BitVec.ofInt 32 d)
  if d.natAbs ≤ 50000 then s.setPrg fun p => { p with skewAt := none }
  else
    let again := match s.prg.skewAt with
      | some w => decide (24000 ≤ (s.wale + 2 ^ 32 - w) % 2 ^ 32)
      | none => true
    let s := if again then (s.setPrg fun p => { p with skewAt := some s.wale }).raise prgPage .prgSkew (BitVec.ofInt 32 d).toNat 0
      else s
    if 500000 < d.natAbs then s.lagging 1 else s

/-- The section that has ended is held against what the entry says of it. -/
def State.sectionCheck (s : State) (w : Nat) (sec : List (List Byte)) (b : List Byte) : State :=
  if s.prg.reached.isNone then s
  else if fb32 b 8 = sec.length && beNat (slice b 12 8) = sm3First sec.flatten then s.setPrg fun p => { p with secBad := false }
  else ((s.raise prgPage .prgSectionBad w 0).setPrg fun p => { p with secBad := true }).lagging 3

/-- Tasks in flight of a kind for which a test of the descriptor holds. -/
def State.tasksWhere (s : State) (kind : Nat) (f : List Word → Bool) : List Nat :=
  (s.rve.tasks.filter fun t => decide (1 ≤ t.2.st ∧ t.2.st ≤ 5) && dKind t.2.desc = kind && f t.2.desc).map (·.1)

/-- The records of tasks that have ended and wait for credit say that the active abandoned them at their deadline (R51). What such a
task has handed on already stays. -/
def State.discardEnded (s : State) (kind : Nat) (f : List Word → Bool) : State :=
  let ids := (s.rve.tasks.filter fun t => decide (t.2.st = 6) && dKind t.2.desc = kind && f t.2.desc).map (·.1)
  ids.foldl (fun s id => s.setTask id fun t => { t with record := t.record.map fun r => (2, 0, r.2.2) }) s

/-- One item of the entry is applied as the active did (R610). Items 7 and 8 wait for the estimator latch and the key loads,
and item 9 asks for nothing here. -/
def State.itemApply (s : State) (i : Nat × Nat × Nat × Nat) : State :=
  let (kind, a, b, c) := i
  if kind = 1 then
    (s.tasksWhere 0 fun d => workKey d = c).foldl (fun s id => s.deadlineAbort id)
      (s.discardEnded 0 fun d => workKey d = c)
  else if kind = 2 then
    match s.tasksWhere 2 fun d => dAffinity d = 528 + a && (dArg d 0).toNat % 256 = b && (dArg d 2).toNat = c with
    | id :: _ => s.deadlineAbort id
    | [] =>
      let us := (s.decStream a b).hold.filter fun u => u.wa = c
      if us = [] then s.decUndo a b c
      else us.foldl (fun s u => s.decLate a b u) (s.setDec a b fun x => { x with hold := x.hold.filter fun u => u.wa ≠ c })
  else if kind = 3 then
    match s.tasksWhere 1 fun d => dAffinity d = 512 + a && (dArg d 0).toNat % 64 = b && (dArg d 1).toNat = c % 2 ^ 32 with
    | id :: _ => s.deadlineAbort id
    | [] => s.encUndo a b c
  else if kind = 4 then s.tileMissing b c (launchOf (eFps (s.tagEnt b)) c) 5
  else if kind = 5 then s.spliceUndo (b / 32768) (b % 32768) c
  else if kind = 6 then
    match (s.pipe a).frame with
    | some f => if f.f = c then s.pxcAbandon a f else s.pxcUndo a c
    | none => s.pxcUndo a c
  else s

/-- Work whose deadline has come and which the entry does not list has no output on the standby (R610). [DEDUCED, log 65] -/
def State.unlisted (s : State) : State :=
  let due := (s.rve.tasks.filter fun t =>
    decide (1 ≤ t.2.st ∧ t.2.st ≤ 5) && dHasDeadline t.2.desc && waleLe (dDeadline t.2.desc) s.wale).map (·.1)
  let s := due.foldl (fun s id => (s.deadlineAbort id).diverge 2 (if dKind (s.task id).desc = 0 then 10 else 11)) s
  let late := s.wve.rcv.filter fun r => match r.2.todo with | some (_, _, _, next) => decide (next ≤ s.wale64) | none => false
  let s := late.foldl (fun s r => (s.spliceLate (r.1 / 32768) (r.1 % 32768)).diverge 2 12) s
  (List.range 4).foldl (fun s q =>
    match (s.pipe q).frame with
    | some f =>
      if launchOf (fld f.cfg 2 1) (f.f + 1) ≤ s.wale64 then (s.pxcAbandon q f).diverge 2 13 else s
    | none => s) s

/-- The boundary items of an entry. [DEDUCED, log 66] -/
def boundaryItems (b : List Byte) : List (List Byte) := (List.range (fb32 b 20)).map fun i => slice b (24 + 16 * i) 16

/-- R609, R610: the oldest entry of the record, where it is a BOUNDARY entry whose wale the standby's own strobe has
reached. [DEDUCED, log 66] -/
def execLayBoundary (s : State) : Host.Outcome State Fault Refusal :=
  let sec := s.prg.section_
  match s.layTake 1 with
  | none => .next s
  | some (t, at_, b) =>
    let w := fb32 b 4
    .next
      (if s.genState ≠ 2 || waleLt s.wale w then s
       else
        let t := t.skewStep ((at_ : Int) - (s.boundary (s.wale64 - (s.wale + 2 ^ 32 - w) % 2 ^ 32) : Int))
        if !t.following then t
        else
          let t := (t.sectionCheck w sec b).captureFresh
          let items := boundaryItems b
          let t := (t.setPrg fun p => { p with reached := some w, listed := items }).atStep 3
          let t := ((items.map itemFields).foldl (fun s i => s.itemApply i) t).unlisted
          t.mediaBoundary w)

end Sys2Proof.Machine
end

