-- ==== Sys2Proof/Machine/Qz.lean ====
section
/-!
DEFINITION. The management island: power and reset, Slath and the Derune container, the platform record, identity memories,
the watchdog, sensors, regulators, and the event log with its mirror (R633 to R676, R694 to R703).
-/

namespace Sys2Proof.Machine

/-- The QZM page. -/
def qzPage : Nat := 2

/-- The state with another management island. -/
def State.setQz (s : State) (f : QzSt → QzSt) : State := { s with qz := f s.qz }

/-- `SYS_BOOT.STAGE`: 0 SLATH, 1 FIRMWARE, 2 RECOVERY. -/
def State.bootStage (s : State) : Nat := s.rf 0 Reg.sysBoot 3 2

/-- STAGE in both registers that show it; the QZM page's READY follows. -/
def State.setStage (s : State) (n : Nat) : State :=
  ((s.wfld 0 Reg.sysBoot 3 2 n).wfld qzPage Reg.qzmMbStatus 2 1 n).refreshReady qzPage false

/-- Firmware runs. -/
def State.fwRuns (s : State) : Bool := !s.qz.por && s.bootStage = 1

/-! ## Reset and power (R633 to R635, R694 to R703) -/

/-- POR_L, or what acts as it: the whole device is reset (R633, R699). [DEDUCED, log 70] -/
def State.powerReset (s : State) : State :=
  { State.reset with pending := s.pending, free := s.free, qz := s.qz.power }

/-- R633. -/
def execPorAssert (s : State) : Host.Outcome State Fault Refusal := .next s.powerReset

/-- R699. -/
def execIslandUndervolt (s : State) : Host.Outcome State Fault Refusal := .next s.powerReset

/-- R633, R697: the straps are sampled, and Slath starts. [DESIGN CHOICE, log 72] -/
def execPorRelease (straps : Nat) (s : State) : Host.Outcome State Fault Refusal :=
  .next
    (if s.qz.por then (s.setQz fun q => { q with por := false }).wr 0 Reg.sysStraps (BitVec.ofNat 32 (straps % 8)) else s)

/-- R634, R694: the host interface is reset while PERST_L is low. -/
def execPerst (asserted : Bool) (s : State) : Host.Outcome State Fault Refusal :=
  let s := s.setQz fun q => { q with perst := asserted }
  .next
    (if asserted then
      { s with vfEnabled := [], latch := [], stage := [],
               reg := s.reg.filter fun r => !decide (0x004 ≤ r.1 / 65536 ∧ r.1 / 65536 ≤ 0x007) }
     else s)

/-- A key of the register map belongs to the management island: the QZM page, and the boot, identity and strap registers of the
SYS page. -/
def islandReg (k : Nat) : Bool := decide (k / 65536 = 2) || (decide (k / 65536 = 0) && decide (0x140 ≤ k % 65536 ∧ k % 65536 < 0x150))

/-- A key of the counters belongs to the QZM page. -/
def islandCtr (k : Nat) : Bool := decide (k / 2 ^ 26 / 512 = 2)

/-- The main domain is held in reset until POR_L: the island and its log keep running (R635, R701). [DEDUCED, log 70] -/
def State.mainHeld (s : State) : State :=
  let q := { s.qz with mainOk := false, pwrEn := false, down := true, seq := 0, stuck := none }
  { State.reset with
    pending := s.pending, free := s.free, qz := q, clk := { tru := s.clk.tru },
    reg := s.reg.filter fun r => islandReg r.1, ctr := s.ctr.filter fun c => islandCtr c.1,
    snap := s.snap.filter fun c => islandCtr c.1, page := s.page.filter fun p => p.1 = 2,
    lnu := { s.lnu with fatal := true } }

/-- A FATAL event ends main service: DEMOTE goes out first (R624), and the log has the record (R635). [DESIGN CHOICE, log 64] -/
def State.mainDown (s : State) (e : Event) (arg : Nat) : State :=
  let s := s.raise qzPage e arg 0
  let s := linePorts.foldl (fun s p => s.aisWith p fun s => { s with lnu := { s.lnu with fatal := true } }) s
  let p := s.fatalRaised
  let wire := if p.prg.tx ≠ s.prg.tx then s.prg.wire ++ [(s.prg.seqOut, s.prg.seqIn, [Msg.demote])] else s.prg.wire
  let t := s.mainHeld
  { t with prg := { t.prg with wire := wire, fatal := true }, lnu := { State.reset.lnu with fatal := true } }

/-- The main domain is up or on its way. -/
def State.mainOn (s : State) : Bool := s.qz.mainOk || decide (s.qz.seq ≠ 0)

/-- The DIMMs that the platform record names, in order of channel and then slot. -/
def fittedDimms (plat : List Byte) : List Nat :=
  (List.range (2 * fb plat 44)).filter fun i => decide (i % 2 < fb plat 45)

/-- Every SPD of the record's population is verified. -/
def State.dimmsOk (s : State) (plat : List Byte) : Bool :=
  decide (0 < fb plat 44) && (fittedDimms plat).all fun i => s.qz.dimms.contains i

/-- `DRC_GEOM` follows the verified population (R570, R571, R652), while the main domain is up. -/
def State.writeGeom (s : State) : State :=
  match s.qz.plat with
  | some b =>
    let ch := fb b 44
    let dimms := fb b 45
    let gb := fb b 46 + 256 * fb b 47
    if s.dimmsOk b then
      let s := s.wfld 0 Reg.sysIdStatus 12 12 1
      if s.qz.mainOk && !s.rb drcPage Reg.drcGeom 8 && !s.enabled drcPage then
        let c := if ch = 4 then 0 else if ch = 8 then 1 else 2
        let r := if gb = 32 then dimms else 2 * dimms
        (s.wr drcPage Reg.drcGeom (BitVec.ofNat 32 (c + r * 4 + (if gb = 128 then 32 else 0) + 256))).refreshReady drcPage false
      else s
    else s
  | none => s

/-- The sequence of R700 goes on from step n: it waits for REFCLK at step 2 and at a rail that will not come up, and ends with
MAIN_OK. [DEDUCED, log 70] -/
def State.sequence (s : State) : State :=
  if !s.qz.refclk then s.setQz fun q => { q with seq := 2 }
  else
    match s.qz.stuck with
    | some k => s.setQz fun q => { q with seq := k }
    | none => (s.setQz fun q => { q with seq := 0, mainOk := true }).writeGeom

/-- The main domain's sequence is started (R634, R700). -/
def State.mainStart (s : State) (stuck : Option Nat) : State :=
  if s.qz.down || s.mainOn then s else (s.setQz fun q => { q with pwrEn := true, stuck := stuck }).sequence

/-- R634, R700: firmware writes the release. -/
def execMainRelease (stuck : Option Nat) (s : State) : Host.Outcome State Fault Refusal :=
  .next (if s.fwRuns then s.mainStart stuck else s)

/-- The rail of a step, in the order of R698. [DEDUCED, log 70] -/
def seqRail (k : Nat) : Nat := [0, 1, 3, 4, 2].getD (k - 3) 0

/-- R700, R701: the step in progress has failed. -/
def execMainSeqStepFail (s : State) : Host.Outcome State Fault Refusal :=
  let k := s.qz.seq
  .next
    (if k = 0 then s
     else if k = 2 then s.mainDown .qzmMainDown 2
     else s.mainDown .qzmMainDown (3 + seqRail k * 16))

/-- R701. An assertion while the main domain is held in reset has no further effect (R696). -/
def execBoardFault (s : State) : Host.Outcome State Fault Refusal :=
  .next (if s.mainOn then s.mainDown .qzmMainDown 1 else s)

/-- R703, R701. -/
def execRefclkLoss (s : State) : Host.Outcome State Fault Refusal :=
  let s := s.setQz fun q => { q with refclk := false }
  .next (if s.qz.mainOk then s.mainDown .qzmMainDown 2 else s)

/-- R703. -/
def execRefclkPresent (s : State) : Host.Outcome State Fault Refusal :=
  let s := s.setQz fun q => { q with refclk := true }
  .next (if s.qz.seq = 2 then s.sequence else s)

/-! ## The Derune container (R642 to R645) -/

/-- A little-endian number of n bytes at offset o. -/
def leAt (b : List Byte) (o n : Nat) : Nat := leNat (slice b o n)

/-- Fields of the header (R642). -/
def drType (b : List Byte) : Nat := fb b 6
def drKeySel (b : List Byte) : Nat := fb b 7
def drSvn (b : List Byte) : Nat := leAt b 8 4
def drSeq (b : List Byte) : Nat := leAt b 12 4
def drTotal (b : List Byte) : Nat := leAt b 16 4

/-- The sections: offset, length, KIND, LOAD and digest. -/
def drSects (b : List Byte) : List (Nat × Nat × Nat × Nat × List Byte) :=
  (List.range (min 4 (leAt b 20 2))).map fun i =>
    let o := 120 + 48 * i
    (leAt b o 4, leAt b (o + 4) 4, leAt b (o + 8) 4, leAt b (o + 12) 4, slice b (o + 16) 32)

/-- The bytes of the first section of a KIND. -/
def drBytes (b : List Byte) (kind : Nat) : List Byte :=
  match (drSects b).find? fun x => x.2.2.1 = kind with
  | some (o, n, _) => slice b o n
  | none => []

/-- Bytes of code that Quizil's SRAM holds at most (R643, R661). -/
def codeMax : Nat := 1835008

/-- The layout of R643. [DEDUCED, log 71] -/
def drLayout (b : List Byte) : Bool :=
  let ss := drSects b
  let n := leAt b 20 2
  let code := ss.filter fun x => x.2.2.1 = 1
  let const := ss.filter fun x => x.2.2.1 = 2
  let inside := ss.all fun (o, l, _) => decide (512 ≤ o ∧ o % 64 = 0 ∧ o + l ≤ drTotal b)
  decide (1 ≤ n ∧ n ≤ 4) && inside && decide (drTotal b ≤ b.length) && decide (code.length = 1) &&
    (if drType b = 1 then
      decide (drKeySel b = 0) && decide (n = 1) && code.all fun x => decide (x.2.2.2.1 + x.2.1 ≤ codeMax)
     else
      decide (drKeySel b ≤ 1) && decide (const.length ≤ 1) && decide (n = code.length + const.length) &&
        (code.all fun x => decide (x.2.1 % 4 = 0 ∧ x.2.1 ≤ 32768)) && const.all fun x => decide (x.2.1 ≤ 24576))

/-- MIN_SVC_SVN of the accepted platform record. -/
def State.minSvcSvn (s : State) : Nat := match s.qz.plat with | some b => leAt b 40 4 | none => 0

/-- OWNER_HASH is written. -/
def State.ownerSet (s : State) : Bool := s.qz.ownerHash != List.replicate 32 0

/-- The owner key verifies by its digest. -/
def State.keyKnown (s : State) (sel : Nat) (pub : List Byte) : Bool :=
  if sel = 0 then Config.sm3 pub == Config.otpRootHash else s.ownerSet && Config.sm3 pub == s.qz.ownerHash

/-- The first cause of R645 that applies, 0 where the container is verified. `sections` takes in the checks that need more
than the header, `err` is a read error. -/
def State.drCause (s : State) (b : List Byte) (sections err : Bool) : Nat :=
  let hdr := slice b 0 448
  let pub := slice b 56 64
  let zero (o n : Nat) : Bool := (slice b o n).all (· == 0)
  if slice b 0 4 ≠ [0x44, 0x52, 0x55, 0x4E] ∨ leAt b 4 2 ≠ 1 ∨ ¬ (1 ≤ drType b ∧ drType b ≤ 3) then 1
  else if !(zero 22 2 && zero 312 136) then 1
  else if !drLayout b then 6
  else if !s.keyKnown (drKeySel b) pub then 2
  else if !Config.sm2Verify pub hdr (slice b 448 64) then 3
  else if sections && !(drSects b).all fun (o, l, _, _, d) => Config.sm3 (slice b o l) == d then 4
  else if drSvn b < (if drType b = 1 then s.qz.svnFw else s.minSvcSvn) then 5
  else if sections && err then 7
  else 0

/-! ## Slath (R637 to R641) -/

/-- Bytes of the NOR. [PRESUMED, log 8] -/
def State.norBytes (s : State) (a n : Nat) : List Byte := (List.range n).map fun i => NMap.get norErased s.qz.nor (a + i)

/-- Bytes written to the NOR. -/
def norPut (m : NMap Byte) (a : Nat) : List Byte → NMap Byte
  | [] => m
  | b :: r => norPut (NMap.set norErased m a b) (a + 1) r

/-- A range of the NOR erased. -/
def norErase (m : NMap Byte) (a n : Nat) : NMap Byte := m.filter fun x => !decide (a ≤ x.1 ∧ x.1 < a + n)

/-- The first byte of a bank, and its size. -/
def bankBase (bank : Nat) : Nat := 0x800000 * bank
def bankSize : Nat := 0x800000

/-- The container in a bank: as many bytes as its header says, within the bank. -/
def State.bankImage (s : State) (bank : Nat) : List Byte :=
  let h := s.norBytes (bankBase bank) 512
  s.norBytes (bankBase bank) (max 512 (min bankSize (drTotal h)))

/-- ok(b) of R638. -/
def State.bankOk (s : State) (bank : Nat) : Bool :=
  let b := s.bankImage bank
  decide (s.drCause b false false = 0) && decide (drType b = 1) && decide (drKeySel b = 0)

/-- A bank passes every check. -/
def State.bankGood (s : State) (err : Bool × Bool) (bank : Nat) : Bool :=
  s.bankOk bank && decide (s.drCause (s.bankImage bank) true (if bank = 0 then err.1 else err.2) = 0)

/-- BOOT_SEQ of a bank whose header is one. [DEDUCED, log 71] -/
def State.bankSeq (s : State) (bank : Nat) : Option Nat :=
  let b := s.bankImage bank
  if s.drCause b false false = 1 then none else some (drSeq b)

/-- The bank with the larger BOOT_SEQ; bank A where both are equal. -/
def State.preferred (s : State) : Nat :=
  match s.bankSeq 0, s.bankSeq 1 with
  | some a, some b => if a < b then 1 else 0
  | none, some _ => 1
  | _, _ => 0

/-- R638: the bank that Slath boots. -/
def State.choose (s : State) (err : Bool × Bool) : Option Nat :=
  let first :=
    if s.bankOk 0 && s.bankOk 1 then (if drSeq (s.bankImage 0) < drSeq (s.bankImage 1) then 1 else 0)
    else if s.bankOk 0 then 0 else 1
  if s.bankGood err first then some first
  else if s.bankGood err (1 - first) then some (1 - first)
  else none

/-- The order n of the SM2 curve. -/
def sm2Order : Nat := 0xFFFFFFFEFFFFFFFFFFFFFFFFFFFFFFFF7203DF6B21C6052B53BBF40939D54123

/-- The bytes of a text. -/
def ascii (t : String) : List Byte := t.toList.map fun c => BitVec.ofNat 8 c.toNat

/-- A private key from a secret (R641). -/
def keyFrom (bs : List Byte) : Nat := beNat (Config.sm3 bs) % (sm2Order - 1) + 1

/-- d_dik. -/
def dikKey : Nat := keyFrom (Config.otpUds ++ ascii "PQ8160 DIK")

/-- A measurement register is extended (R657). -/
def State.extend (s : State) (i : Nat) (d : List Byte) : State :=
  s.setQz fun q => { q with m := q.m.set i (Config.sm3 (q.m.getD i [] ++ d)) }

/-- The SVN_FW field: the bits counted up from bit 0. [DEDUCED, log 71] -/
def State.svnBytes (s : State) : List Byte := leBytes 8 (2 ^ s.qz.svnFw - 1)

/-- The keys derived at the first boot after POR_L (R641). -/
def State.deriveKeys (s : State) (hdr : List Byte) : State :=
  let d := Config.sm3 hdr
  let s := s.extend 0 d
  let m0 := s.qz.m.getD 0 []
  let a := keyFrom (Config.otpUds ++ ascii "PQ8160 ALIAS" ++ m0)
  let sig := Config.sm2Sign dikKey (Config.otpSerial ++ m0 ++ Config.sm2Pub a) s.freeNat
  State.setQz s.takeFree fun q => { q with udsLocked := true, hdr := d, aliasKey := some a, aliasSig := sig }

/-! ### The mirror (R673 to R676) -/

/-- The first byte of a page of the mirror. -/
def mirrorPage (i : Nat) : Nat := 0x1010000 + 4096 * i

/-- Pages of the mirror. -/
def mirrorPages : Nat := 2048

/-- A record's bytes (R106). -/
def EvRec.bytes (r : EvRec) : List Byte :=
  leBytes 2 r.code ++ leBytes 2 (r.page + r.sev * 2 ^ 12 + r.forced.toNat * 2 ^ 14) ++ leBytes 4 r.wale ++ leBytes 4 r.arg ++
    leBytes 4 r.arg2

/-- A page of the mirror carries its mark. -/
def State.mirrorMarked (s : State) (i : Nat) : Bool := s.norBytes (mirrorPage i) 4 == ascii "QLOG"

/-- A page of the mirror is valid: its mark and its CRC. -/
def State.mirrorValid (s : State) (i : Nat) : Bool :=
  s.mirrorMarked i && decide (leNat (s.norBytes (mirrorPage i + 12) 4) = crc32c (s.norBytes (mirrorPage i + 16) 4080))

/-- The records of a page, with their sequence numbers; filler is left out. -/
def State.mirrorRecords (s : State) (i : Nat) : List (Nat × List Byte) :=
  let first := leNat (s.norBytes (mirrorPage i + 4) 8)
  (List.range 255).filterMap fun k =>
    let r := s.norBytes (mirrorPage i + 16 + 16 * k) 16
    if leNat (r.take 2) = 0 then none else some (first + k, r)

/-- The sequence number after a page's last record. -/
def State.mirrorEnd (s : State) (i : Nat) : Nat :=
  match (s.mirrorRecords i).getLast? with
  | some x => x.1 + 1
  | none => leNat (s.norBytes (mirrorPage i + 4) 8)

/-- R676: the mirror is scanned at firmware start. [DEDUCED, log 77] -/
def State.mirrorScan (s : State) : State :=
  let marked := (List.range mirrorPages).filter fun i => s.mirrorMarked i
  let good := marked.filter fun i => s.mirrorValid i
  let best := good.foldl (fun b i => match b with
    | some j => if s.mirrorEnd j < s.mirrorEnd i then some i else some j
    | none => some i) none
  let s := s.bumpN qzPage .qzmMirrorBad (marked.length - good.length)
  match best with
  | some i =>
    let n := max s.qz.logNext (s.mirrorEnd i)
    s.setQz fun q => { q with logNext := n, mirrored := if q.log = [] then n else q.mirrored, mirrorAt := (i + 1) % mirrorPages }
  | none => s

/-! ### Firmware starts -/

/-- Slath arms the watchdog before the first start; firmware may shorten the period (R664). [DEDUCED, log 74] -/
def State.armWdt (s : State) (first : Bool) (period : Nat) : State :=
  let old := if first then 2000 else s.rf qzPage Reg.qzmWdt 31 16
  let s := s.wr qzPage Reg.qzmWdt (BitVec.ofNat 32 (1 + min old period * 2 ^ 16))
  s.setQz fun q => { q with kick := s.clk.tru, half := false }

/-- An image of type 1 starts (R638, R639, R657, R659, R666). [DEDUCED, log 71] -/
def State.fwStart (s : State) (b : List Byte) (bank : Nat) (fallback : Option Nat) (refusals : State → State)
    (period : Nat) : State :=
  let hdr := slice b 0 448
  let first := !s.qz.started
  let kept := Config.sm3 hdr == s.qz.hdr
  let s := if first then s.deriveKeys hdr else if kept then s else s.setQz fun q => { q with aliasKey := none }
  let s := s.setQz fun q => { q with code := drBytes b 1, bootSeq := drSeq b, started := true, restart := false }
  let s := s.wr 0 Reg.sysBoot (BitVec.ofNat 32 (bank + fallback.isSome.toNat * 2 + s.qz.svnFw % 256 * 256))
  let s := (s.wr 0 Reg.sysBootSvn (BitVec.ofNat 32 (drSvn b))).wfld 0 Reg.sysIdStatus 14 14 s.ownerSet.toNat
  let s := s.armWdt first period
  let s := (if first then s.extend 5 (Config.sm3 (s.qz.ownerHash ++ s.svnBytes)) else s).mirrorScan
  let s := s.setStage 1
  let s := match fallback with
    | some c => s.raise qzPage .qzmBankFallback c 0
    | none => s
  let s := (refusals s).raise qzPage .qzmBootBank bank (drSvn b)
  if first then s else s.raise qzPage .qzmWdtRestart s.qz.aliasKey.isSome.toNat 0

/-- The cause by which a bank is refused at boot, 0 for none. -/
def State.bankCause (s : State) (err : Bool × Bool) (bank : Nat) : Nat :=
  if s.bankOk bank then s.drCause (s.bankImage bank) true (if bank = 0 then err.1 else err.2)
  else
    match s.drCause (s.bankImage bank) false false with
    | 0 => 1
    | c => c

/-- A bank's refusal (R645). -/
def State.refuseBank (s : State) (err : Bool × Bool) (bank : Nat) : State :=
  s.raise qzPage .qzmImageRefused (s.bankCause err bank + drType (s.bankImage bank) * 2 ^ 8) bank

/-- Slath boots the bank that it chooses. [DEDUCED, log 71] -/
def State.boot (s : State) (err : Bool × Bool) (bank period : Nat) : State :=
  let p := s.preferred
  let other := 1 - bank
  let tried := !s.bankOk other || decide (other = p)
  s.fwStart (s.bankImage bank) bank (if bank = p then none else some (s.bankCause err p))
    (fun t => if tried then t.refuseBank err other else t) period

/-- R638, R639: Slath runs after the release of POR_L. [DESIGN CHOICE, log 72] -/
def execSlathBoot (errA errB : Bool) (period : Nat) (s : State) : Host.Outcome State Fault Refusal :=
  .next
    (if s.qz.por || s.bootStage ≠ 0 || s.qz.restart then s
     else
      match s.choose (errA, errB) with
      | some bank => s.boot (errA, errB) bank period
      | none => s)

/-- Recovery begins (R640): Slath releases the main domain and waits for an image. -/
def State.recover (s : State) : State := (s.setStage 2).mainStart none

/-! ## The platform record (R647 to R650) -/

/-- Causes 1 and 2 of R648 for a record. -/
def State.platCause (s : State) (b : List Byte) : Nat :=
  let n := leAt b 6 2
  let permits := leAt b 308 2
  let zero (o : Nat) (k : Nat) : Bool := (slice b o k).all (· == 0)
  let ceil := (List.range 32).all fun k => decide (leAt b (48 + 4 * k) 4 < 2 ^ 20)
  let kinds := (List.range permits).all fun i =>
    decide (1 ≤ fb b (315 + 24 * i) ∧ fb b (315 + 24 * i) ≤ 2) && zero (332 + 24 * i) 4
  if slice b 0 4 ≠ ascii "TZPR" ∨ leAt b 4 2 ≠ 1 ∨ 64 < permits ∨ n ≠ 376 + 24 * permits ∨ b.length < n then 1
  else if !(ceil && kinds && zero 307 1 && zero 310 2) then 1
  else if [4, 8, 16].all (· ≠ fb b 44) || [1, 2].all (· ≠ fb b 45) || [32, 64, 128].all (· ≠ leAt b 46 2) then 1
  else if 16 ≤ fb b 305 ∨ 2 ≤ fb b 306 then 1
  else if !s.ownerSet then 2
  else 0

/-- Where the owner key verifies a record. The record has no key of its own: its signer is the key whose digest OWNER_HASH
holds. -/
def State.platSigned (s : State) (pub b : List Byte) : Bool :=
  let n := leAt b 6 2
  Config.sm3 pub == s.qz.ownerHash && Config.sm2Verify pub (b.take (n - 64)) (slice b (n - 64) 64)

/-- A cage of an accepted record is fitted: 0 to 7 Ethernet, 8 to 11 SFP. -/
def platFitted (b : List Byte) (c : Nat) : Bool :=
  if c < 8 then (fb b 304).testBit c else (fb b 305).testBit (c - 8)

/-- The record as the NOR holds it. -/
def State.platBytes (s : State) : List Byte :=
  let h := s.norBytes 0x1000000 376
  s.norBytes 0x1000000 (max 376 (min 65536 (leAt h 6 2)))

/-- R648, R649: firmware reads the record once after POR_L. `pub` is the owner key that the record was signed with.
[DEDUCED, log 22; DESIGN CHOICE, log 72] -/
def execPlatformRead (pub : List Byte) (s : State) : Host.Outcome State Fault Refusal :=
  .next
    (if s.fwRuns && !s.qz.platRead then
      let b := s.platBytes
      let c := s.platCause b
      let wrong := (List.range 12).any fun k => platFitted b k != s.qz.present.contains k
      let cause := if c ≠ 0 then c else if !s.platSigned pub b then 2 else if wrong then 3 else 0
      let s := (s.setQz fun q => { q with platRead := true }).extend 1 (Config.sm3 (b.take (leAt b 6 2)))
      if cause = 0 then
        let s := (s.setQz fun q => { q with plat := some b }).wfld 0 Reg.sysIdStatus 13 13 1
        let s := (List.range 32).foldl (fun s k =>
          s.ceilLock k (if platFitted b (k / 4) then leAt b (48 + 4 * k) 4 else 0)) s
        (List.range 32).foldl (fun s k =>
          s.tsetW tmuPage 0 0 k 0 (BitVec.ofNat 32 (leAt b (176 + 4 * k) 4))) s
      else
        ((List.range 32).foldl (fun s k => s.ceilLock k 0) s).raise qzPage .qzmPlatformBad cause 0
     else s)

/-! ## Identity memories (R651 to R654) -/

/-- The CRC-16 of an SPD. -/
def crc16Bit (c : BitVec 16) : BitVec 16 := if c.getLsbD 15 then (c <<< 1) ^^^ 0x1021#16 else c <<< 1

def crc16Byte (c : BitVec 16) (b : Byte) : BitVec 16 :=
  (List.range 8).foldl (fun c _ => crc16Bit c) (c ^^^ (b.zeroExtend 16 <<< 8))

def crc16 (bs : List Byte) : Nat := (bs.foldl crc16Byte 0).toNat

/-- The sum of bytes modulo 256. -/
def sum8 (bs : List Byte) : Nat := (bs.map (·.toNat)).sum % 256

/-- A permit of the record names a module, or the record permits every module. -/
def permitted (b : List Byte) (kind : Nat) (oui pn : List Byte) : Bool :=
  let n := leAt b 308 2
  n = 0 || (List.range n).any fun i =>
    slice b (312 + 24 * i) 3 == oui && fb b (315 + 24 * i) = kind && slice b (316 + 24 * i) 16 == pn

/-- The cause by which an SPD fails (R652), 0 for none. [PRESUMED, log 73] -/
def dimmCause (plat : List Byte) (pos : Nat) (b : List Byte) : Nat :=
  let fitted := decide (pos / 2 < fb plat 44) && decide (pos % 2 < fb plat 45)
  if leAt b 510 2 ≠ crc16 (b.take 510) then 2
  else
    match Config.spdRdimm b with
    | none => 3
    | some gb => if !fitted || decide (gb ≠ leAt plat 46 2) then 5 else 0

/-- The cause by which a QSFP-DD or OSFP module fails: its lower memory and upper page 00h. [PRESUMED, log 73] -/
def moduleCause (plat : List Byte) (breakout : Bool) (b : List Byte) : Nat :=
  let (four, one) := Config.cmisHost b
  if ¬ (fb b 0 = 0x18 ∨ fb b 0 = 0x19) then 3
  else if fb b 222 ≠ sum8 (slice b 128 94) then 2
  else if !(if breakout then one else four) then 3
  else if !permitted plat 1 (slice b 145 3) (slice b 148 16) then 4
  else 0

/-- The cause by which an SFP fails: bytes 0 to 95 of A0h. [PRESUMED, log 73] -/
def sfpCause (plat : List Byte) (b : List Byte) : Nat :=
  if fb b 0 ≠ 0x03 then 3
  else if fb b 63 ≠ sum8 (b.take 63) ∨ fb b 95 ≠ sum8 (slice b 64 31) then 2
  else if fb b 12 < 25 then 3
  else if !permitted plat 2 (slice b 37 3) (slice b 40 16) then 4
  else 0

/-- The cage of a module or an SFP. -/
def cageOf (kind pos : Nat) : Nat := if kind = 3 then 8 + pos else pos

/-- The page of a cage's port. -/
def cagePage (c : Nat) : Nat := if c < 8 then 0x010 + c else 0x020 + (c - 8)

/-- MOD_OK of a cage (R653). -/
def State.modOk (s : State) (c : Nat) : Bool := s.rb 0 Reg.sysIdStatus c

/-- MOD_OK changes; the port's READY follows. -/
def State.setModOk (s : State) (c : Nat) (v : Bool) : State :=
  (s.wfld 0 Reg.sysIdStatus c c v.toNat).refreshReady (cagePage c) false

/-- A read of an identity memory ends in failure or success (R652). -/
def State.idEnd (s : State) (kind pos cause : Nat) : State :=
  let s := s.setQz fun q => { q with retry := q.retry.filter (· ≠ (kind, pos)) }
  if cause = 0 then s.raise qzPage .qzmIdOk (kind + pos * 16) 0
  else s.raise qzPage .qzmIdFail (kind + pos * 16 + cause * 2 ^ 16) 0

/-- M3 takes the SPDs in order of channel and then slot, so it waits for the last of them (R657). [PRESUMED, log 73] -/
def State.measureDimms (s : State) (plat : List Byte) : State :=
  (fittedDimms plat).foldl (fun s i => s.extend 3 (NMap.get (fun _ => []) s.qz.spd i)) s

/-- An identity memory is verified. -/
def State.idVerified (s : State) (kind pos : Nat) (b : List Byte) : State :=
  if kind = 1 then
    let t := s.setQz fun q =>
      { q with dimms := if q.dimms.contains pos then q.dimms else q.dimms ++ [pos],
               spd := NMap.set (fun _ => []) q.spd pos (Config.sm3 (slice b 512 128)) }
    match s.qz.plat with
    | some plat => (if t.dimmsOk plat && !s.dimmsOk plat then t.measureDimms plat else t).writeGeom
    | none => t
  else (s.extend 4 (Config.sm3 b)).setModOk (cageOf kind pos) true

/-- R651, R652: kind 1 a DIMM, 2 a module, 3 an SFP; `mem` is what the memory reads as, none where nothing answers. -/
def execIdRead (kind pos : Nat) (mem : Option (List Byte)) (s : State) : Host.Outcome State Fault Refusal :=
  .next
    (match s.fwRuns, s.qz.plat with
     | true, some plat =>
      let fitted :=
        if kind = 1 then decide (pos / 2 < fb plat 44) && decide (pos % 2 < fb plat 45)
        else s.qz.present.contains (cageOf kind pos)
      match mem with
      | none => if fitted || (kind ≠ 1 && platFitted plat (cageOf kind pos)) then s.idEnd kind pos 6 else s
      | some b =>
        if kind ≠ 1 && !fitted then s
        else
          let cause :=
            if kind = 1 then dimmCause plat pos b
            else if kind = 2 then moduleCause plat (decide (s.raf (0x010 + pos) Reg.ethPortCfg 1 0 = 2)) b
            else sfpCause plat b
          let s := if cause = 0 then s.idVerified kind pos b else s
          s.idEnd kind pos cause
     | _, _ => s)

/-- R651: a read has not completed within 50 ms. The second time, the memory fails. -/
def execIdReadTimeout (kind pos : Nat) (s : State) : Host.Outcome State Fault Refusal :=
  .next
    (if s.fwRuns && s.qz.plat.isSome then
      if s.qz.retry.contains (kind, pos) then s.idEnd kind pos 1
      else s.setQz fun q => { q with retry := q.retry ++ [(kind, pos)] }
     else s)

/-- R653, R654. -/
def execModuleRemoved (kind pos : Nat) (s : State) : Host.Outcome State Fault Refusal :=
  let c := cageOf kind pos
  .next
    (if s.qz.present.contains c then
      let s := s.setQz fun q =>
        { q with present := q.present.filter (· ≠ c), retry := q.retry.filter (· ≠ (kind, pos)) }
      let s := if s.modOk c then s.setModOk c false else s
      if s.fwRuns then s.raise qzPage .qzmModuleRemoved (kind + pos * 16) 0 else s
     else s)

/-- R654. -/
def execModuleInserted (kind pos : Nat) (s : State) : Host.Outcome State Fault Refusal :=
  let c := cageOf kind pos
  .next
    (if s.qz.present.contains c then s
     else s.setQz fun q => { q with present := q.present ++ [c], retry := q.retry.filter (· ≠ (kind, pos)) })

/-- TX_DIS and LPMODE of a cage are high (R694). -/
def State.txOff (s : State) (c : Nat) : Bool := !s.modOk c

/-! ## The watchdog (R664 to R667) -/

/-- The watchdog expires (R665). A FW_UPDATE in progress leaves its bank incomplete (R667). -/
def State.wdtExpire (s : State) : State :=
  let s := linePorts.foldl (fun s p => s.aisWith p fun s => s.wfld (lnuPage p) Reg.lnuTxCtl 2 2 1) s
  let s := (s.bump qzPage .qzmWdtExpiries).raise qzPage .qzmWdtExpired (s.rf qzPage Reg.qzmWdt 31 16) 0
  let cmd := (s.rd qzPage Reg.qzmReqBuf).toNat % 65536
  let bank := s.rf 0 Reg.sysBoot 0 0
  let torn := s.qz.mb.isSome && cmd = 0x0020
  let s := (s.wfld qzPage Reg.qzmWdt 1 1 1).setQz fun q =>
    { q with kick := s.clk.tru, half := false, restart := true,
             nor := if torn then norErase q.nor (bankBase (1 - bank)) bankSize else q.nor }
  s.setStage 0

/-- R664: a write to the kick register; `right` says that it is the one that the sequence asks for. [DESIGN CHOICE, log 72] -/
def execWdtKick (right : Bool) (s : State) : Host.Outcome State Fault Refusal :=
  .next
    (if s.rb qzPage Reg.qzmWdt 0 then
      if !right then s.wdtExpire
      else if s.qz.half then s.setQz fun q => { q with kick := s.clk.tru, half := false }
      else s.setQz fun q => { q with half := true }
     else s)

/-- R665: the period has passed without a kick. While Slath runs, it kicks in time (R664). -/
def execWdtExpire (s : State) : Host.Outcome State Fault Refusal :=
  .next
    (if s.bootStage = 1 && s.rb qzPage Reg.qzmWdt 0 && decide (s.qz.kick + s.rf qzPage Reg.qzmWdt 31 16 * 1000000 ≤ s.clk.tru) then s.wdtExpire
     else s)

/-- PAIR_ALIVE_O carries its square wave (R595, R628, R665). [DEDUCED, log 65] -/
def State.pairAlive (s : State) : Bool :=
  s.enabled prgPage && s.rb prgPage Reg.prgCtl 0 && !s.prg.fatal && !s.rb qzPage Reg.qzmWdt 1

/-- R666: Quizil releases cause 2 of R529 on a port. -/
def execWdtForceClear (port : Nat) (s : State) : Host.Outcome State Fault Refusal :=
  .next
    (if s.fwRuns && s.qz.mainOk then
      s.aisWith port fun s => s.wfld (lnuPage port) Reg.lnuTxCtl 2 2 0
     else s)

/-! ## Sensors (R669 to R671) -/

/-- WARN and CRIT of a sensor. -/
def tempDefault (_ : Nat) : Int × Int := (760, 840)

def State.tempThr (s : State) (n : Nat) : Int × Int := NMap.get tempDefault s.qz.tempThr n

/-- A level of a sensor after a reading. [DEDUCED, log 74] -/
def State.tempLevel (s : State) (n lvl : Nat) (thr v : Int) : State :=
  let on := s.qz.levels.contains (2 * n + lvl)
  let a2 := (BitVec.ofInt 32 v).toNat
  if !on && decide (thr ≤ v) then
    (s.setQz fun q => { q with levels := q.levels ++ [2 * n + lvl] }).raise qzPage .qzmTemp (n + lvl * 256) a2
  else if on && decide (v ≤ thr - 24) then
    (s.setQz fun q => { q with levels := q.levels.filter (· ≠ 2 * n + lvl) }).raise qzPage .qzmTempClear (n + lvl * 256) a2
  else s

/-- `QZM_TEMP_MAX`: the highest of the last readings. [DEDUCED, log 74] -/
def State.tempMax (s : State) : State :=
  let best := s.qz.temp.foldl (fun b x => match x.2, b with
    | some v, some (w, _) => if w < v then some (v, x.1) else b
    | some v, none => some (v, x.1)
    | none, _ => b) (none : Option (Int × Nat))
  match best with
  | some (v, n) => s.wr qzPage Reg.qzmTempMax (BitVec.ofNat 32 ((BitVec.ofInt 11 v).toNat + n * 2 ^ 16))
  | none => s

/-- R670. -/
def execTempSample (sensor : Nat) (v : Int) (s : State) : Host.Outcome State Fault Refusal :=
  .next
    (if s.qz.por then s
     else
      let run := if 920 ≤ v then NMap.get (fun _ => 0) s.qz.hot sensor + 1 else 0
      let s := s.setQz fun q =>
        { q with temp := NMap.set (fun _ => none) q.temp sensor (some v), hot := NMap.set (fun _ => 0) q.hot sensor run }
      let s := s.tempMax
      let s := if s.fwRuns then ((s.tempLevel sensor 0 (s.tempThr sensor).1 v).tempLevel sensor 1 (s.tempThr sensor).2 v) else s
      if 3 ≤ run && !s.qz.tripped then (s.setQz fun q => { q with tripped := true }).mainDown .qzmThermtrip sensor
      else s)

/-- The rail that a monitor watches, in the order of R698. -/
def monitorRail (v : Nat) : Nat :=
  if v ≤ 5 then 0 else if v ≤ 8 then 1 else if v ≤ 10 then 3 else if v = 11 then 4 else if v ≤ 13 then 2 else if v = 14 then 5 else 6

/-- Nominal values of the rails in mV, in the order of R698. -/
def railNominal (r : Nat) : Nat := [750, 800, 1100, 750, 1200, 1800, 800].getD r 0

/-- A rail's nominal value; for VDD_CORE, the set point in force. -/
def State.railSet (s : State) (r : Nat) : Nat :=
  if r = 0 then (NMap.get (fun _ => none) s.qz.sets 0).getD (railNominal 0) else railNominal r

/-- A monitor's thresholds: those set, else 5% about nominal. -/
def State.voltThr (s : State) (v : Nat) : Nat × Nat :=
  let n := s.railSet (monitorRail v)
  (NMap.get (fun _ => none) s.qz.voltThr v).getD ((n * 95 + 99) / 100, n * 105 / 100)

/-- R671. [DEDUCED, log 74] -/
def execVoltSample (monitor mv : Nat) (s : State) : Host.Outcome State Fault Refusal :=
  let r := monitorRail monitor
  .next
    (if s.qz.por || (r < 5 && !s.qz.mainOk) then s
     else
      let (lo, hi) := s.voltThr monitor
      let (a, b) := NMap.get (fun _ => (0, 0)) s.qz.voltRun monitor
      let run := (if mv < lo then a + 1 else 0, if hi < mv then b + 1 else 0)
      let low := decide (10 * mv < 9 * s.railSet r)
      let since :=
        if low then some ((NMap.get (fun _ => none) s.qz.under monitor).getD s.clk.tru) else none
      let s := s.setQz fun q =>
        { q with volt := NMap.set (fun _ => none) q.volt monitor (some mv),
                 voltRun := NMap.set (fun _ => (0, 0)) q.voltRun monitor run,
                 under := NMap.set (fun _ => none) q.under monitor since }
      let s :=
        if !s.fwRuns then s
        else if run.1 = 10 then s.raise qzPage .qzmVolt monitor mv
        else if run.2 = 10 then s.raise qzPage .qzmVolt (monitor + 256) mv
        else s
      match since with
      | some t =>
        if r < 5 && decide (t + 1000000 ≤ s.clk.tru) then s.mainDown .qzmMainDown (4 + r * 16) else s
      | none => s)

/-! ## Regulators (R672) -/

/-- `QZM_POWER`. [DEDUCED, log 74] -/
def State.powerSum (s : State) : State :=
  s.wr qzPage Reg.qzmPower (BitVec.ofNat 32 (min 65535 ((s.qz.regulators.map fun r => r.vout * r.iout).sum / 10000)))

/-- R672. -/
def execPmbusPoll (addr vout iout temp status : Nat) (s : State) : Host.Outcome State Fault Refusal :=
  .next
    (if s.fwRuns then
      let s := s.setQz fun q =>
        { q with regulators := (q.regulators.filter fun r => r.addr ≠ addr) ++ [⟨addr, vout, iout, temp, status⟩] }
      let s := s.powerSum
      if status ≠ 0 then s.raise qzPage .qzmPmbusFault addr status else s
     else s)

/-- A voltage that the controller lets pass for a rail. -/
def railAllows (r mv : Nat) : Bool :=
  if r = 0 then decide (700 ≤ mv ∧ mv ≤ 850)
  else decide (97 * railNominal r ≤ 100 * mv ∧ 100 * mv ≤ 103 * railNominal r)

/-- R672: kind 0 VOUT_COMMAND, 1 VOUT_MAX, 2 a margin. -/
def execPmbusCommand (rail kind mv : Nat) (s : State) : Host.Outcome State Fault Refusal :=
  .next
    (if s.fwRuns then
      if railAllows rail mv then
        s.setQz fun q => { q with sets := NMap.set (fun _ => none) q.sets (rail * 3 + kind) (some mv) }
      else s.bump qzPage .qzmPmbusRefused
     else s)

/-! ## The mirror (R675) -/

/-- Records that the mirror does not hold. -/
def State.unmirrored (s : State) : List (Nat × EvRec × Nat) := s.qz.log.filter fun x => decide (s.qz.mirrored ≤ x.1)

/-- A page is due (R675). -/
def State.mirrorDue (s : State) : Bool :=
  let l := s.unmirrored
  l ≠ [] &&
    (decide (255 ≤ l.length) || s.qz.flush || l.any (fun x => decide (x.2.1.sev = 3)) ||
      l.any fun x => decide (x.2.2 + 10000000000 ≤ s.clk.tru))

/-- Records in an unbroken run of numbers from n on. -/
def runFrom : Nat → List (Nat × EvRec × Nat) → List EvRec
  | _, [] => []
  | n, x :: r => if x.1 = n then x.2.1 :: runFrom (n + 1) r else []

/-- The bytes of a page: 255 slots, filled up with filler, behind their header (R674). -/
def mirrorBytes (first : Nat) (rs : List EvRec) : List Byte :=
  let slots := rs.flatMap EvRec.bytes ++ List.replicate (16 * (255 - rs.length)) 0
  ascii "QLOG" ++ leBytes 8 first ++ leBytes 4 (crc32c slots) ++ slots

/-- One page is written, and the sector ahead of the write pointer is erased. [DEDUCED, log 77] -/
def State.mirrorWrite (s : State) : State :=
  match s.unmirrored with
  | [] => s.setQz fun q => { q with flush := false }
  | x :: r =>
    let rs := runFrom x.1 ((x :: r).take 255)
    let i := s.qz.mirrorAt
    let next := (i + 1) % mirrorPages
    let m := norPut (norErase s.qz.nor (mirrorPage i) 4096) (mirrorPage i) (mirrorBytes x.1 rs)
    let ahead := (next / 16 + 1) % 128 * 16
    let m := if next % 16 = 0 then norErase m (mirrorPage ahead) 65536 else m
    let n := x.1 + rs.length
    (s.setQz fun q => { q with nor := m, mirrorAt := next, mirrored := n, flush := q.flush && r.length ≠ rs.length - 1 }).bump
      qzPage .qzmMirrorPages

/-- R675. -/
def execMirrorPageWrite (s : State) : Host.Outcome State Fault Refusal :=
  .next (if s.fwRuns && s.mirrorDue then s.mirrorWrite else s)

end Sys2Proof.Machine
end

