-- ==== Sys2Proof/Machine/Pages.lean ====
section
/-!
DEFINITION. What every page has: its access errors and events (R99 to R109), its rings (R90 to R97), its snapshots (R87 to
R89), and its enable, fence and reset (R63 to R66).
-/

namespace Sys2Proof.Machine

/-! ## Access errors and events -/

/-- R99: 1 is written to `ERR_INFO.VALID`. -/
def execErrInfoClear (src : Src) (page : Nat) (s : State) : Host.Outcome State Fault Refusal :=
  .next (s.access src page Reg.errInfo 0x80000000 fun s => s.wfld page Reg.errInfo 31 31 0)

/-- R104: bits of `EVT_STATUS` are cleared. -/
def execEvtStatusClear (src : Src) (page : Nat) (mask : Word) (s : State) : Host.Outcome State Fault Refusal :=
  .next (s.access src page Reg.evtStatus mask fun s =>
    let v := s.rd page Reg.evtStatus &&& ~~~mask
    let s := s.wr page Reg.evtStatus v
    if v = 0 then s.wr page Reg.evtFirst 0 else s)

/-- The lowest-numbered event of pages of a block type that a bit of the event registers maps (R101, R105). [DEDUCED, log 23] -/
def forcedEvent (ty b : Nat) : Option Event :=
  allEvents.find? fun e => decide (e.code ty / 256 = ty) && decide (evBit (e.code ty % 256) = b)

/-- R105: events are forced; a bit to which no event of the block is mapped raises none. [DEDUCED, log 23] -/
def execEvtForce (src : Src) (page : Nat) (mask : Word) (s : State) : Host.Outcome State Fault Refusal :=
  .next (s.access src page Reg.evtForce mask fun s =>
    ((List.range 32).filter fun b => bit mask b).foldl
      (fun s b =>
        match forcedEvent (pageType page) b with
        | some e => s.raiseWith page e 0 0 true
        | none => s) s)

/-- The 32-byte ring entry of an event record (R106, R108). -/
def ringEntry (r : EvRec) (since : Nat) : List Word :=
  let w (x : Nat) : Word := BitVec.ofNat 32 x
  [w (r.code + (r.page % 4096) * 2 ^ 16 + r.sev * 2 ^ 28 + r.forced.toNat * 2 ^ 30), w r.wale, w r.arg, w r.arg2, 0, 0, 0,
   w (min since 0xFFFF)]

/-- R108: the next record of the queue goes to SYS ring 0. -/
def execEvtRingDeliver (s : State) : Host.Outcome State Fault Refusal :=
  .next
    (match s.ev.queue with
     | [] => s
     | r :: rest =>
       if s.ringOn 0 0 && s.ringRoom 0 0 then
         let since := s.ev.since
         ({ s with ev := { s.ev with queue := rest, since := 0, left := s.ev.left + 1 } }).ringWrite 0 0 (ringEntry r since)
       else s)

/-! ## Rings -/

/-- The entry size that a ring with a fixed format requires (R92). -/
def ringFixed (p k : Nat) : Option Nat :=
  if k ≠ 0 then none
  else if p = 0 || p = 0x068 || p = prgPage then some 1
  else if p = tsiPage then some 2
  else none

/-- A ring is switched off: records in the event queue leave at once (R108). [DEDUCED, log 20] -/
def State.ringOff' (s : State) (p k : Nat) : State :=
  let s := s.wfld p (ringOff Reg.ringCfg k) 7 7 0
  if p = 0 ∧ k = 0 then { s with ev := s.ev.emptied } else s

/-- A write of `RING_CFG` (R91, R92): while EN is 1 only EN and IRQ_EN are written. [DEDUCED, log 14; DEDUCED, log 20] -/
def State.ringCfgWrite (s : State) (src : Src) (p k : Nat) (v : Word) : State :=
  let o := ringOff Reg.ringCfg k
  let en := bit v 7
  let fixed := ringFixed p k
  let sizeBad := fld v 6 5 = 3 || fixed.any fun z => z ≠ fld v 6 5
  if (pageCaps p).rings ≤ k then s.accessErr p o 3 src v
  else if s.ringOn p k then
    let s := s.wfld p o 8 8 (fld v 8 8)
    if en then s else s.ringOff' p k
  else if en && fixed.isSome && sizeBad then s.accessErr p o 4 src v
  else
    let logBad := !decide (4 ≤ fld v 4 0 ∧ fld v 4 0 ≤ 20)
    let s := (s.wfld p o 8 8 (fld v 8 8)).wfld p o 26 16 (fld v 26 16)
    let s := if logBad then s else s.wfld p o 4 0 (fld v 4 0)
    let s := if sizeBad then s else s.wfld p o 6 5 (fld v 6 5)
    let s :=
      if en then ((s.wfld p o 7 7 1).wr p (ringOff Reg.ringHead k) 0).wr p (ringOff Reg.ringTail k) 0 else s
    if logBad || sizeBad then s.accessErr p o 4 src v else s

/-- R91, R92: `RING_CFG` is written with EN = 1. -/
def execRingEnable (src : Src) (page ring : Nat) (v : Word) (s : State) : Host.Outcome State Fault Refusal :=
  let v := v ||| fmask 7 7
  .next (s.access src page (ringOff Reg.ringCfg ring) v fun s => s.ringCfgWrite src page ring v)

/-- R95, R97: entries are consumed. -/
def execRingHeadWrite (src : Src) (page ring : Nat) (h : Word) (s : State) : Host.Outcome State Fault Refusal :=
  let o := ringOff Reg.ringHead ring
  .next (s.access src page o h fun s =>
    if (pageCaps page).rings ≤ ring then s.accessErr page o 3 src h
    else if (h - s.rd page o).toNat ≤ s.ringUsed page ring then
      let s := s.wr page o h
      if s.ringUsed page ring = 0 then s else s.ringIrq page ring
    else s.accessErr page o 5 src h)

/-! ## Snapshots -/

/-- Pages a snapshot or a page reset replaces: a map with its own entries of a page exchanged for those of another map. -/
def takePage {α : Type} (pageOf : Nat → Nat) (p : Nat) (old new : NMap α) : NMap α :=
  NMap.keep (fun k => decide (pageOf k < p)) old ++ NMap.keep (fun k => decide (pageOf k = p)) new ++
    NMap.keep (fun k => decide (p < pageOf k)) old

/-- The page and the table of a key of the tables. -/
def tblPage (k : Nat) : Nat := k / 2 ^ 26 / 32
def tblNo (k : Nat) : Nat := k / 2 ^ 26 % 32

/-- The tables that a snapshot holds (R340). -/
def snapTables (p t : Nat) : Bool := p = mxfPage && (t = 4 || t = 5)

/-- A counter key is that of a class S counter (R18). -/
def classS (k : Nat) : Bool :=
  ctrRows.any fun r => decide (r.ctr.cls = .s) && decide (r.ctr.ctorIdx = k / 2 ^ 26 % 512)

/-- R87, R88: `SNAP_CTL.REQ` is written 1, with CLR_S. A request joins one that is pending. [DEDUCED, log 18] -/
def State.snapRequest (s : State) (src : Src) (p : Nat) (clrS : Bool) (v : Word) : State :=
  if !(pageCaps p).snap then s.accessErr p Reg.snapCtl 3 src v
  else
    let was := s.rb p Reg.snapCtl 0
    let s := s.wfld p Reg.snapCtl 0 0 1
    let s := if clrS then s.wfld p Reg.snapCtl 1 1 1 else s
    if was then s else s.setPg p fun g => { g with snapAt := some s.clk.wale }

/-- R87, R88. -/
def execSnapRequest (src : Src) (page : Nat) (clrS : Bool) (s : State) : Host.Outcome State Fault Refusal :=
  let v := (s.rd page Reg.snapCtl &&& fmask 2 2) ||| BitVec.ofNat 32 (1 + 2 * clrS.toNat)
  .next (s.access src page Reg.snapCtl v fun s => s.snapRequest src page clrS v)

/-- The counters of a page as the wale ended: those of LFW before its own part of step 4 (R47). [DEDUCED, log 18] -/
def State.endedCtrs (s : State) (p : Nat) : NMap Nat :=
  match s.lfw.ended with
  | some m => if p = lfwPage then m else s.ctr
  | none => s.ctr

/-- The class S counters of a page are cleared by its snapshot (R88): what they counted up to it is gone. -/
def State.clearS (s : State) (p : Nat) : State :=
  let less (m : NMap Nat) (x : Nat × Nat) : NMap Nat :=
    if ctrPage x.1 = p && classS x.1 then NMap.set (fun _ => 0) m x.1 (NMap.get (fun _ => 0) m x.1 - x.2) else m
  { s with ctr := (s.endedCtrs p).foldl less s.ctr }

/-- The snapshot of a page is taken (R87, R88). [DEDUCED, log 18] -/
def State.snapshot (s : State) (p : Nat) : State :=
  let clr := s.rb p Reg.snapCtl 1
  let ended := s.endedCtrs p
  let s := if clr then s.clearS p else s
  let s := { s with
    snap := takePage ctrPage p s.snap ended,
    snapTbl := takePage tblPage p s.snapTbl (NMap.keep (fun k => snapTables p (tblNo k)) s.tbl) }
  let s := if p = tsiPage then s.setLnu fun l => { l with pmSnap := l.pm } else s
  let s := (s.wfld p Reg.snapCtl 1 0 0).wr p Reg.snapWale (BitVec.ofNat 32 s.wale)
  (s.setPg p fun g => { g with snapAt := none }).raise p .pageSnapDone s.wale 0

/-- R87: step 2 of R47 for a page whose request was made before this boundary. -/
def execSnapshotTake (page : Nat) (s : State) : Host.Outcome State Fault Refusal :=
  .next
    (if s.stepDue 2 && s.rb page Reg.snapCtl 0 && decide ((s.pg page).snapAt ≠ some s.clk.wale) then
      (s.atStep 2).snapshot page
     else s)

/-! ## Enable and disable -/

/-- Entries of one plane of a table changed. -/
def State.tblEdit (s : State) (p t plane : Nat) (f : List Word → List Word) : State :=
  (s.tlist p t plane).foldl (fun s x => s.tset p t plane x.1 (f x.2)) s

/-- Every entry of the tables of a page that `f` names, in every plane, reads 0. -/
def State.tblClear (s : State) (p : Nat) (f : Nat → Bool) : State :=
  { s with tbl := NMap.keep (fun k => !(decide (tblPage k = p) && f (tblNo k))) s.tbl }

/-- What a block clears when EN of a page becomes 1. -/
def State.enableClear (s : State) (p : Nat) : State :=
  match pageClass p with
  | (6, 0) =>
    (s.tblEdit iclPage 0 0 fun ws => setWord ws 0 (withFld (ws.getD 0 0) 0 0 0)).setIcl fun i =>
      { i with skt := [], cached := [], bad := [] }
  | (8, _) =>
    (s.tblClear lfwPage fun t => t = 1 || t = 6).setLfw fun l => { l with tstruct := [], acc := [] }
  | (7, _) =>
    s.setCpe fun c =>
      let l := c.slots.map fun x => (x.1, { x.2 with valid := false })
      { c with slots := NMap.setAll (fun _ => KeySlot.empty) [] l, cached := [] }
  | (12, _) => s.wveClear p
  | (15, n) =>
    let s := s.pmDoubt (s.entities.filter fun e => entityPage e = p)
    if n < 4 && !s.fenced p then s.aisWith n fun s => s.setLine n fun l => { l with down := false } else s
  | _ => s

/-- A page's ready state and those that follow it are brought up to date. -/
def State.refreshWith (s : State) (p : Nat) : State :=
  let s := s.mayUnready fun s => s.refreshReady p true
  if p = 0x330 then s.refreshReady 0x331 true
  else if pageType p = 19 then s.refreshReady (0x048 + (pageClass p).2) true
  else s

/-- EN of a page becomes 1 (R36, R63, R64). -/
def State.pageEnable (s : State) (p : Nat) : State :=
  if s.enabled p then s
  else
    let late := onWale p && decide (s.genState ≠ 2)
    let s := (s.wfld p Reg.pageCtrl 0 0 1).setPg p fun g =>
      { g with noWale := late, initing := decide (p = iclPage ∨ p = lfwPage) }
    (s.enableClear p).refreshWith p

/-- A TDM port is fenced, reset or disabled while its MODE is not 0: cause 4 of R529. -/
def State.lineDown (s : State) (p : Nat) : State :=
  match pageClass p with
  | (15, n) =>
    if n < 4 && s.lineMode n ≠ 0 then s.aisWith n fun s => s.setLine n fun l => { l with down := true } else s
  | _ => s

/-- EN of a page becomes 0 (R63, R73, R235). -/
def State.pageDisable (s : State) (p : Nat) : State :=
  if !s.enabled p then s
  else
    let s := (s.wfld p Reg.pageCtrl 0 0 0).doomCommit p
    let s := if p = cpePage then s.setCpe fun c => { c with kwk := none } else s
    (s.lineDown p).refreshWith p

/-- R63: a write of `PAGE_CTRL.EN`. The DRAM pages have rules of their own (R575, R577). [DEDUCED, log 20] -/
def State.enWrite (s : State) (src : Src) (p : Nat) (en : Bool) (v : Word) : State :=
  if p = drcPage then (if en then s.drcEnable else if s.enabled drcPage then s.drcDisable else s)
  else if pageType p = 16 then s.accessErr p Reg.pageCtrl 1 src v
  else if en then s.pageEnable p
  else s.pageDisable p

/-- R63. -/
def execPageEnWrite (src : Src) (page : Nat) (en : Bool) (s : State) : Host.Outcome State Fault Refusal :=
  let v := BitVec.ofNat 32 en.toNat
  .next (s.access src page Reg.pageCtrl v fun s => s.enWrite src page en v)

/-- R64: a page that clears its tables after enable is done with it. Tables in DRAM wait for DRC. -/
def execPageInitDone (page : Nat) (s : State) : Host.Outcome State Fault Refusal :=
  .next
    (if (s.pg page).initing && page ≠ drcPage && (s.drcReady || !needsDram page) then
      (s.setPg page fun g => { g with initing := false }).refreshWith page
     else s)

/-! ## Fence (R65, R136) -/

/-- The executor whose page it is. -/
def pageExec (p : Nat) : Option Nat :=
  match pageClass p with
  | (10, n) => some n
  | (11, n) => some (512 + n)
  | _ => none

/-- FENCE of a page becomes 1. -/
def State.pageFence (s : State) (p : Nat) : State :=
  if s.fenced p then s
  else
    let s := (s.wfld p Reg.pageCtrl 1 1 1).doomCommit p
    let s := match pageExec p with | some e => s.unslot e | none => s
    (s.lineDown p).refreshWith p

/-- R65: FENCE is written 1. -/
def execPageFence (src : Src) (page : Nat) (s : State) : Host.Outcome State Fault Refusal :=
  let v := BitVec.ofNat 32 (2 + (s.enabled page).toNat)
  .next (s.access src page Reg.pageCtrl v fun s => s.pageFence page)

/-- R65, R136: no transaction of a fenced agent is in flight any more. -/
def execPageFenceDone (page : Nat) (s : State) : Host.Outcome State Fault Refusal :=
  .next
    (if s.fenced page && !s.rb page Reg.pageCtrl 8 then
      let s := s.wfld page Reg.pageCtrl 8 8 1
      let s := match pageExec page with | some e => s.fenceAbort e | none => s
      s.raise page .pageFenceDone 0 0
     else s)

/-! ## Page reset (R16, R17, R66, R712, R715, R716) -/

/-- Register fields that a page reset keeps, with their values: offset, high bit, low bit. [DEDUCED, log 19] -/
def keptFields (p : Nat) : List (Nat × Nat × Nat) :=
  match pageClass p with
  | (1, _) => [(Reg.sysIdStatus, 31, 0), (Reg.sysBoot, 31, 0), (Reg.sysBootSvn, 31, 0), (Reg.sysStraps, 31, 0)]
  | (2, _) => [(Reg.tmuStatus, 4, 4)]
  | (14, _) => (List.range 4).map fun k => (Reg.escCeil + 4 * k, 31, 0)
  | (15, 4) => []
  | (15, _) => [(Reg.lnuTxCtl, 2, 1)]
  | (18, _) => [(Reg.qzmWdt, 31, 0), (Reg.qzmTempMax, 31, 0), (Reg.qzmPower, 31, 0), (Reg.qzmMbStatus, 2, 1)]
  | _ => []

/-- Every register of a page returns to its reset value but for the kept fields (R17, R66). [DEDUCED, log 19] -/
def State.clearRegs (s : State) (p : Nat) : State :=
  let kept := (keptFields p).map fun f => (f, s.rf p f.1 f.2.1 f.2.2)
  let out {α : Type} (m : NMap α) : NMap α := NMap.keep (fun k => decide (k / 65536 ≠ p)) m
  let s := { s with reg := out s.reg, act := out s.act, latch := out s.latch, stage := out s.stage }
  kept.foldl (fun s f => s.wfld p f.1.1 f.1.2.1 f.1.2.2 f.2) s

/-- Every entry of the tables of a page reads 0 (R16) but for those of R712. The tables that the ESC pages share are cleared
with their legs. [DEDUCED, log 19] -/
def State.clearTables (s : State) (p : Nat) : State :=
  if p = rvePage then
    (s.tblClear p fun t => t ≠ 0 && t ≠ 1).tblEdit p 0 0 fun ws => [ws.getD 0 0 &&& fmask 25 16]
  else if p = 0x048 then s.tblClear p fun t => t ≠ 1 && t ≠ 2
  else s.tblClear p fun _ => true

/-- The counters of a page and its snapshot. -/
def State.clearCtrs (s : State) (p : Nat) : State :=
  { s with ctr := NMap.keep (fun k => decide (ctrPage k ≠ p)) s.ctr, snap := NMap.keep (fun k => decide (ctrPage k ≠ p)) s.snap,
           snapTbl := NMap.keep (fun k => decide (tblPage k ≠ p)) s.snapTbl,
           lnu := if p = tsiPage then { s.lnu with pmSnap := [] } else s.lnu }

/-- R712: every task in flight ends without record, decrement or trace. -/
def State.rveReset (s : State) : State :=
  let s := s.rve.run.foldl
    (fun s x =>
      let s := if x.1 < 512 then s.coreAbort x.1 else s
      match x.2 with
      | some id => s.engineAbort (s.task id).desc 4 true
      | none => s) s
  s.setRve fun _ => {}

/-- R715: the core stops, its tasks leave it, and its memories are cleared. `port` asked for it. -/
def State.wdsReset (s : State) (n port : Nat) : State :=
  let s := match s.runOf n with
    | some id => s.abortTask id 4 port
    | none => s.coreAbort n
  ((s.unslot n).coreClear n).setCore n fun c => { WCore.init with fbusy := c.fbusy, fdrop := c.fbusy }

/-- The legs of an ESC page: their entries, queues and shapers go, and their copies are done. -/
def State.legsReset (s : State) (p : Nat) : State :=
  (s.pageLegs p).foldl
    (fun s g =>
      let q := (s.legQ g).q
      let mine := s.legPage 0 g = p
      let s := if mine then (s.tset 0x048 1 0 g []).tset 0x048 2 0 g [] else s
      let s := if s.legPage 1 g = p then (s.tset 0x048 1 1 g []).tset 0x048 2 1 g [] else s
      if mine then
        let s := s.setEsc fun e =>
          { e with legs := NMap.set (fun _ => LegQ.init) e.legs g LegQ.init, tok := NMap.set (fun _ => (0, 0)) e.tok g (0, 0) }
        q.foldl (fun s f => s.outDrop f) s
      else s) s

/-- An ESC page's lane groups: what waits in their queues and staging areas is discarded. -/
def State.lanesReset (s : State) (n : Nat) : State :=
  (List.range 4).foldl
    (fun s k =>
      let lane := 4 * n + k
      let l := s.laneSt lane
      let fs := (l.strict.flatMap fun x => x.2) ++ (l.stage.flatMap fun x => x.2.map (·.1))
      let s := fs.foldl (fun s f => s.outDrop f) s
      s.setLane lane fun _ => { LaneSt.init with ceil := l.ceil, ceilOk := l.ceilOk, busyTo := l.busyTo }) s

/-- The state that a block keeps beside its registers and tables returns to what device reset leaves, but for what its
chapter keeps. [DEDUCED, log 19] -/
def State.blockReset (s : State) (p port : Nat) : State :=
  match pageClass p with
  | (1, _) => { s with cgrp := [], ev := s.ev.emptied }
  | (2, _) => { s.setTmu (fun _ => {}) with clk := { s.clk with phase := 0 } }
  | (3, _) => s.rveReset
  | (4, _) => { s with crl := {} }
  | (5, _) => { s with col := {}, ev := { s.ev with queue := [], left := 0 } }
  | (6, 0) => s.setIcl fun i => { tok := i.tok }
  | (6, _) => s.setIcl fun i => { i with tok := [] }
  | (7, _) => s.setCpe fun _ => {}
  | (8, _) => s.setLfw fun _ => {}
  | (9, _) => s.setMxf fun _ => {}
  | (10, n) => s.wdsReset n port
  | (11, n) =>
    { s with vce :=
        if n < 16 then { s.vce with enc := NMap.set (fun _ => Encoder.init) s.vce.enc n Encoder.init }
        else { s.vce with dec := NMap.set (fun _ => Decoder.init) s.vce.dec (n - 16) Decoder.init } }
  | (12, n) => if n = 0 then (s.wveClear p).setWve fun w => { w with store := [], launched := [], told := false } else s.wveClear p
  | (13, n) => { s with pxc := { s.pxc with pipes := NMap.set (fun _ => PxcPipe.init) s.pxc.pipes n PxcPipe.init } }
  | (14, n) => (s.legsReset p).lanesReset n
  | (15, 4) => s.setLnu fun l => { l with pm := [], second := none, close15 := none, close24 := none, slips := [] }
  | (15, n) => (s.lineDown p).setLine n fun l => { LinePort.init with down := l.down }
  | (16, 16) => s.drcDisable
  | (16, n) => s.setDch n fun _ => DrcCh.init
  | (17, _) =>
    let s := if s.standby then s.goSilent else s.actSolo
    (s.setPair 0 false).setPrg fun g => { wire := g.wire, fatal := g.fatal }
  | (18, _) => s.setQz fun q => { q with mb := none }
  | _ => s

/-- A page reset is carried out (R66). A commit that is ARMED resolves first; a member of a COMMITTED group keeps what its
group needs (R78). -/
def State.pageReset (s : State) (p port : Nat) : State :=
  let armed := s.armed p
  let member := s.committedMember p
  let s := s.resetCommit p
  let st := s.rd p Reg.cmtStatus
  let ctl := s.rd p Reg.cmtCtl
  let t := s.rd p Reg.cmtWale
  let s := (((s.blockReset p port).clearRegs p).clearTables p).clearCtrs p
  let s := if armed then s.wr p Reg.cmtStatus st else s
  let s := if member then (s.wr p Reg.cmtCtl ctl).wr p Reg.cmtWale t else s
  let s := (s.wfld p Reg.pageCtrl 9 9 1).setPg p fun _ => { PageSt.init with rstBusy := true }
  let s := match pageClass p with
    | (15, n) => if n < 4 then s.aisWith n id else s
    | (16, _) => s.drcRefresh true
    | _ => s
  s.refreshWith p

/-- A page reset is refused by the page's state (R66, R716). [DEDUCED, log 20] -/
def State.resetRefused (s : State) (p : Nat) : Bool :=
  (s.enabled p && !s.rb p Reg.pageCtrl 8) || (p = tmuPage && (s.enabledPages.any onWale))

/-- R66: RST is written 1. -/
def execPageReset (src : Src) (page : Nat) (clearEn : Bool) (s : State) : Host.Outcome State Fault Refusal :=
  let v := BitVec.ofNat 32 (4 + (s.enabled page && !clearEn).toNat)
  .next (s.access src page Reg.pageCtrl v fun s =>
    if s.resetRefused page then s.accessErr page Reg.pageCtrl 6 src v else s.pageReset page (srcPort src))

/-- R66: the page reset ends. -/
def execPageResetDone (page : Nat) (s : State) : Host.Outcome State Fault Refusal :=
  .next
    (if (s.pg page).rstBusy then
      let s := ((s.wfld page Reg.pageCtrl 9 9 0).setPg page fun g => { g with rstBusy := false }).refreshWith page
      if page = rvePage then s.submitWaiting else s
     else s)

end Sys2Proof.Machine
end

