-- ==== Sys2Proof/Machine/QzMb.lean ====
section
/-!
DEFINITION. The host mailbox of Quizil: its doorbell, its answers and each of its commands (R677 to R685), and the restart
after a watchdog expiry (R666, R667).
-/

namespace Sys2Proof.Machine

/-! ## Requests and answers -/

/-- Byte i of the request (R677). -/
def State.reqByte (s : State) (i : Nat) : Byte :=
  BitVec.ofNat 8 ((s.rd qzPage (Reg.qzmReqBuf + i / 4 * 4)).toNat / 2 ^ (8 * (i % 4)))

/-- n bytes of the request from offset o on. -/
def State.reqBytes (s : State) (o n : Nat) : List Byte := (List.range n).map fun i => s.reqByte (o + i)

/-- Those bytes as a little-endian number. -/
def State.req (s : State) (o n : Nat) : Nat := leNat (s.reqBytes o n)

/-- CMD of the request in the buffer. -/
def State.mbCmd (s : State) : Nat := s.req 0 2

/-- Bytes put into the response buffer from word i on. -/
def State.rspPut (s : State) (i : Nat) : Nat → List Byte → State
  | 0, _ => s
  | n + 1, bs => (s.wr qzPage (Reg.qzmRspBuf + 4 * i) (BitVec.ofNat 32 (leNat (bs.take 4)))).rspPut (i + 1) n (bs.drop 4)

/-- A request is answered (R677, R680). -/
def State.answer (s : State) (tag status : Nat) (rsp : List Byte) : State :=
  let s := s.rspPut 0 ((rsp.length + 3) / 4) rsp
  let s := (s.wfld qzPage Reg.qzmMbRes 7 0 tag).wfld qzPage Reg.qzmMbRes 15 8 status
  let s := (s.seqUp qzPage Reg.qzmMbRes).wfld qzPage Reg.qzmMbResLen 12 0 rsp.length
  let s := s.wfld qzPage Reg.qzmMbStatus 0 0 0
  (s.setQz fun q => { q with mb := none }).bump qzPage .qzmMbReqs

/-- The commands of R681. -/
def mbCommands : List Nat :=
  [0x0001, 0x0002, 0x0003, 0x0004, 0x0010, 0x0011, 0x0012, 0x0020, 0x0021, 0x0022, 0x0023, 0x0024, 0x0030, 0x0031,
   0x0040, 0x0041, 0x0042, 0x0043]

/-- A command is allowed in the stage (R681). -/
def State.mbAllowed (s : State) (cmd : Nat) : Bool :=
  if s.bootStage = 2 then cmd = 0x0001 || cmd = 0x0024 else mbCommands.contains cmd && decide (cmd ≠ 0x0024)

/-- R677, R678: a write of the doorbell with GO. A command that is unknown or not allowed is answered with BAD_CMD.
[DEDUCED, log 75] -/
def execMbDoorbell (src : Src) (tag len : Nat) (s : State) : Host.Outcome State Fault Refusal :=
  let v := BitVec.ofNat 32 (tag + len * 2 ^ 8 + 2 ^ 31)
  .next (s.access src qzPage Reg.qzmMbDoorbell v fun s =>
    if s.qz.mb.isSome then s.accessErr qzPage Reg.qzmMbDoorbell 9 src v
    else
      let s := (s.setQz fun q => { q with mb := some (tag, len) }).wfld qzPage Reg.qzmMbStatus 0 0 1
      if len < 4 ∨ 4096 < len then s.answer tag 2 []
      else if !s.mbAllowed s.mbCmd then s.answer tag 1 []
      else s)

/-- What the request in progress comes to where it is command `cmd` with at least n bytes: k answers it. [DEDUCED, log 75] -/
def State.serve (s : State) (cmd n : Nat) (k : Nat → State) : State :=
  match s.qz.mb with
  | some (tag, len) =>
    if s.mbCmd ≠ cmd ∨ s.bootStage = 0 then s
    else if !s.mbAllowed cmd then s.answer tag 1 []
    else if len < n then s.answer tag 2 []
    else k tag
  | none => s

/-! ## Information -/

/-- What GET_INFO says of a bank. [DEDUCED, log 75] -/
def State.bankInfo (s : State) (bank : Nat) : List Byte :=
  let b := s.bankImage bank
  [BitVec.ofNat 8 (s.bankGood (false, false) bank).toNat] ++ leBytes 4 (drSvn b) ++ leBytes 4 (drSeq b)

/-- R681. -/
def execGetInfo (s : State) : Host.Outcome State Fault Refusal :=
  .next (s.serve 0x0001 4 fun tag =>
    s.answer tag 0 (Config.otpSerial.take 16 ++ wordBytes [s.rd 0 Reg.sysBoot, s.rd 0 Reg.sysBootSvn] ++ s.bankInfo 0 ++
      s.bankInfo 1 ++ leBytes 1 s.qz.svnFw ++ leBytes 1 s.ownerSet.toNat))

/-! ## The clock -/

/-- Quizil's accesses to the main domain fail while that is held in reset (R662): status 7. -/
def State.serveMain (s : State) (cmd n : Nat) (k : Nat → State) : State :=
  s.serve cmd n fun tag => if s.qz.mainOk then k tag else s.answer tag 7 []

/-- The answer to a clock command: `TMU_ADJ_RES.STATUS`. -/
def State.answerAdj (s : State) (tag : Nat) : State := s.answer tag 0 (leBytes 1 (s.rf tmuPage Reg.tmuAdjRes 3 0))

/-- R681, R549. [DEDUCED, log 75] -/
def execClockSet (s : State) : Host.Outcome State Fault Refusal :=
  .next (s.serveMain 0x0002 16 fun tag =>
    let sec := s.req 4 8
    let ns := s.req 12 4
    if 2 ^ 48 ≤ sec ∨ 2 ^ 30 ≤ ns then s.answer tag 2 []
    else
      let s := (s.wr64 tmuPage Reg.tmuSetSec Reg.tmuSetSecHi sec).wfld tmuPage Reg.tmuSetNs 29 0 ns
      s.adjSet.answerAdj tag)

/-- R681, R549. A write of `TMU_STEP` ends the servo's silence (R553). -/
def execClockStep (s : State) : Host.Outcome State Fault Refusal :=
  .next (s.serveMain 0x0003 8 fun tag =>
    let s := s.wr tmuPage Reg.tmuStep (BitVec.ofNat 32 (s.req 4 4))
    let s := s.servoHeard
    (s.adjStep.answerAdj tag).stepStrobe)

/-- R681: firmware configures PTP: the lane groups of the mask receive, and firmware keeps the rest. [DEDUCED, log 75] -/
def execPtpCfg (s : State) : Host.Outcome State Fault Refusal :=
  .next (s.serveMain 0x0004 144 fun tag =>
    let mask := s.req 4 4
    let prof := s.req 9 1
    if 1 < prof ∨ s.req 12 2 = 0 then s.answer tag 2 []
    else
      let s' := s.setQz fun q => { q with ptp := s.reqBytes 4 140 }
      let s' := ((s'.wfld tmuPage Reg.tmuCtl 0 0 (if mask = 0 then 0 else 1)).wfld tmuPage Reg.tmuCtl 1 1 prof).wfld
        tmuPage Reg.tmuCtl 15 8 (s.req 8 1)
      let s' := s'.wfld tmuPage Reg.tmuServo 31 16 (s.req 12 2)
      let s' := (List.range 32).foldl (fun t k =>
        t.tsetF tmuPage 0 0 k 1 0 0 (if mask.testBit k then 1 else 0)) s'
      s'.answer tag 0 [])

/-! ## Images -/

/-- Bytes that an image takes in DRAM: code, then constants (R375). -/
def imageSpan : Nat := 57344

/-- An entry of the registry holds an image. -/
def State.imageHeld (s : State) (image : Nat) : Bool := s.tf rvePage 1 0 image 3 1 0 ≠ 0

/-- Every image of the registry. -/
def State.imagesHeld (s : State) : List Nat := (s.tlist rvePage 1 0).filterMap fun x =>
  if s.imageHeld x.1 then some x.1 else none

/-- R681: the DRAM region for images. -/
def execImageRegion (s : State) : Host.Outcome State Fault Refusal :=
  .next (s.serve 0x0010 20 fun tag =>
    if s.imagesHeld ≠ [] then s.answer tag 3 [1]
    else (s.setQz fun q => { q with region := some (s.req 4 8, s.req 12 8) }).answer tag 0 [])

/-- The first place of the region, from place `i` on, that no image of the registry lies in. [DESIGN CHOICE, log 76] -/
def State.freePlace (s : State) (i : Nat) : Option Nat :=
  match s.qz.region with
  | none => none
  | some (a, len) =>
    let base := (a + 63) / 64 * 64
    let n := (a + len - base) / imageSpan
    let used := s.imagesHeld.map s.imageAddr
    ((List.range n).map fun k => base + (i + k) % n * imageSpan).find? fun p =>
      used.all fun u => decide (u + imageSpan ≤ p ∨ p + imageSpan ≤ u)

/-- The container that a request brings is refused (R645, R680). -/
def State.refuseImage (s : State) (tag cause : Nat) (b : List Byte) (arg2 : Nat) : State :=
  (s.raise qzPage .qzmImageRefused (cause + drType b * 2 ^ 8) arg2).answer tag 4 (leBytes 1 cause)

/-- A refusal in the current state, with its reason. -/
def State.refuseState (s : State) (tag reason : Nat) : State := s.answer tag 3 (leBytes 1 reason)

/-- R646, R657, R681: `data` is the container as host memory holds it, none where host memory cannot be read. A container of
type 1 is of no valid type here. Where DRAM takes the image is free among the places that hold none.
[DESIGN CHOICE, log 76] -/
def execImageLoad (data : Option (List Byte)) (s : State) : Host.Outcome State Fault Refusal :=
  .next (s.serveMain 0x0011 18 fun tag =>
    let image := s.req 16 2
    match data with
    | none => s.answer tag 5 []
    | some b =>
      if 1024 ≤ image ∨ b.length ≠ s.req 12 4 then s.answer tag 2 []
      else
        let cause := if drType b = 1 then 1 else s.drCause b true false
        if cause ≠ 0 then s.refuseImage tag cause b image
        else
          let s := s.extend 2 (Config.sm3 (slice b 0 448))
          if drType b = 3 then s.answer tag 0 []
          else
            match s.freePlace s.freeNat with
            | none => s.takeFree.refuseState tag (s.freeNat % 256)
            | some a =>
              let s := s.takeFree
              let code := drBytes b 1
              let const := drBytes b 2
              let t := s.dramPut a code
              let t := t.dramPut (a + 32768) (const ++ List.replicate (24576 - const.length) 0)
              let ws := [BitVec.ofNat 32 a, BitVec.ofNat 32 (a / 2 ^ 32), BitVec.ofNat 32 code.length, 0]
              if !s.drcReady || s.imageResident image || s.imageNamed image || code = [] then
                State.refuseState ((s.wbImage .qz image ws).takeFree) tag (s.freeNat % 256)
              else (t.wbImage .qz image ws).answer tag 0 [])

/-- R681, R141: the entry is cleared unless its image is in use. -/
def execImageUnload (s : State) : Host.Outcome State Fault Refusal :=
  .next (s.serveMain 0x0012 6 fun tag =>
    let image := s.req 4 2
    if 1024 ≤ image then s.answer tag 2 []
    else if s.imageResident image || s.imageNamed image then
      State.refuseState ((s.tblRefuse .qz rvePage 11 [0, 0, 0, 0]).takeFree) tag (s.freeNat % 256)
    else (s.tset rvePage 1 0 image []).answer tag 0 [])

/-! ## Firmware and its versions -/

/-- R682, R683: `norErr` says that writing or reading back the NOR fails. [DESIGN CHOICE, log 72; DESIGN CHOICE, log 76] -/
def execFwUpdate (data : Option (List Byte)) (norErr : Bool) (s : State) : Host.Outcome State Fault Refusal :=
  .next (s.serve 0x0020 16 fun tag =>
    let run := s.rf 0 Reg.sysBoot 0 0
    let bank := 1 - run
    match data with
    | none => s.answer tag 5 []
    | some b =>
      if bankSize < b.length ∨ b.length ≠ s.req 12 4 then s.answer tag 2 []
      else
        let cause := if drType b ≠ 1 then 1 else s.drCause b true false
        let newer := match s.bankSeq 0 with
          | some q => decide (s.qz.bootSeq < q)
          | none => false
        if cause ≠ 0 then s.refuseImage tag cause b bank
        else if drSeq b < s.qz.bootSeq then s.refuseState tag 2
        else if run = 1 && !s.rb 0 Reg.sysBoot 1 && newer then s.refuseState tag 3
        else
          let s := s.setQz fun q => { q with nor := norErase q.nor (bankBase bank) bankSize }
          if norErr then s.answer tag 7 []
          else
            let s := s.setQz fun q => { q with nor := norPut q.nor (bankBase bank) b }
            (s.answer tag 0 (leBytes 1 bank)).raise qzPage .qzmUpdateDone bank (drSvn b))

/-- R684. -/
def execSvnCommit (s : State) : Host.Outcome State Fault Refusal :=
  .next (s.serve 0x0021 8 fun tag =>
    let force := s.req 4 4 % 2 = 1
    let svn := (s.rd 0 Reg.sysBootSvn).toNat
    let other := 1 - s.rf 0 Reg.sysBoot 0 0
    if s.rb 0 Reg.sysBoot 1 then s.refuseState tag 4
    else if svn ≤ s.qz.svnFw then s.refuseState tag 5
    else if 64 < svn then s.refuseState tag 6
    else if !force && !(s.bankGood (false, false) other && decide (svn ≤ drSvn (s.bankImage other))) then
      s.refuseState tag 7
    else
      let s := (s.setQz fun q => { q with svnFw := svn }).wfld 0 Reg.sysBoot 15 8 svn
      (s.answer tag 0 (leBytes 1 svn)).raise qzPage .qzmSvnCommitted svn 0)

/-- R685: `pub` is the owner key that the record was signed with. [DESIGN CHOICE, log 76] -/
def execPlatformWrite (data : Option (List Byte)) (pub : List Byte) (norErr : Bool) (s : State) :
    Host.Outcome State Fault Refusal :=
  .next (s.serve 0x0022 16 fun tag =>
    match data with
    | none => s.answer tag 5 []
    | some b =>
      if b.length ≠ s.req 12 4 then s.answer tag 2 []
      else
        let c := s.platCause b
        let cause := if c ≠ 0 then c else if s.platSigned pub b then 0 else 2
        if cause ≠ 0 then s.answer tag 4 (leBytes 1 cause)
        else if norErr then s.answer tag 7 []
        else
          let n := leAt b 6 2
          (s.setQz fun q => { q with nor := norPut (norErase q.nor 0x1000000 0x10000) 0x1000000 (b.take n) }).answer tag 0 [])

/-- R636, R681. -/
def execOwnerSet (s : State) : Host.Outcome State Fault Refusal :=
  .next (s.serve 0x0023 36 fun tag =>
    if s.ownerSet then s.refuseState tag 1
    else
      let s := s.setQz fun q => { q with ownerHash := s.reqBytes 4 32 }
      (s.wfld 0 Reg.sysIdStatus 14 14 s.ownerSet.toNat).answer tag 0 [])

/-- R640, R681: in recovery, the image is run from SRAM. -/
def execFwRun (data : Option (List Byte)) (period : Nat) (s : State) : Host.Outcome State Fault Refusal :=
  .next (s.serve 0x0024 16 fun tag =>
    match data with
    | none => s.answer tag 5 []
    | some b =>
      if b.length ≠ s.req 12 4 then s.answer tag 2 []
      else
        let cause := if drType b ≠ 1 then 1 else s.drCause b true false
        if cause ≠ 0 then s.refuseImage tag cause b 0
        else (s.fwStart b 0 none id period).answer tag 0 [])

/-! ## Attestation -/

/-- Bytes 0 to 511 of a quote (R658). -/
def State.quoteBody (s : State) (nonce : List Byte) (alias_ : Nat) : List Byte :=
  ascii "TZQT" ++ leBytes 2 1 ++ leBytes 2 576 ++ nonce ++ Config.otpSerial.take 16 ++
    leBytes 8 (if s.qz.mainOk then s.wale64 else 0) ++ s.qz.m.flatten ++ Config.sm2Pub alias_ ++ s.qz.aliasSig ++
    Config.sm2Pub dikKey

/-- R658. -/
def execQuote (s : State) : Host.Outcome State Fault Refusal :=
  .next (s.serve 0x0030 36 fun tag =>
    match s.qz.aliasKey with
    | none => s.answer tag 6 []
    | some k =>
      let body := s.quoteBody (s.reqBytes 4 32) k
      s.takeFree.answer tag 0 (body ++ Config.sm2Sign k body s.freeNat))

/-- R657. -/
def execMeasure (s : State) : Host.Outcome State Fault Refusal :=
  .next (s.serve 0x0031 37 fun tag =>
    let r := s.req 4 1
    if r = 6 ∨ r = 7 then (s.extend r (s.reqBytes 5 32)).answer tag 0 [] else s.answer tag 2 [])

/-! ## The log, readings and thresholds -/

/-- Every record that the log memory or a valid page of the mirror holds. -/
def State.logAll (s : State) : List (Nat × List Byte) :=
  ((List.range mirrorPages).filter fun i => s.mirrorValid i).flatMap s.mirrorRecords ++
    s.qz.log.map fun x => (x.1, x.2.1.bytes)

/-- Records in an unbroken run of numbers from n on, at most k. -/
def logRun (l : List (Nat × List Byte)) : Nat → Nat → List (List Byte)
  | _, 0 => []
  | n, k + 1 =>
    match l.find? fun x => x.1 = n with
    | some x => x.2 :: logRun l (n + 1) k
    | none => []

/-- R681. [DESIGN CHOICE, log 76] -/
def execLogRead (s : State) : Host.Outcome State Fault Refusal :=
  .next (s.serve 0x0040 14 fun tag =>
    let first := s.req 4 8
    let count := s.req 12 2
    if 255 < count then s.answer tag 2 []
    else
      let l := s.logAll
      let best := l.foldl (fun b x =>
        if x.1 < first then b
        else match b with
          | some n => some (min n x.1)
          | none => some x.1) (none : Option Nat)
      match best with
      | some n =>
        let rs := logRun l n count
        s.answer tag 0 (leBytes 8 n ++ leBytes 2 rs.length ++ leBytes 6 0 ++ rs.flatten)
      | none => s.takeFree.answer tag 0 (leBytes 8 s.freeNat ++ leBytes 8 0))

/-- Readings of 16 bits; one that has not been taken is a part of a free value. [DESIGN CHOICE, log 76] -/
def readings (free : Nat) (l : List (Option Nat)) : List Byte :=
  l.zipIdx.flatMap fun x => leBytes 2 (x.1.getD (free / 2 ^ (16 * x.2)))

/-- R681. -/
def execSensorRead (s : State) : Host.Outcome State Fault Refusal :=
  .next (s.serve 0x0041 4 fun tag =>
    let temps := (List.range 24).map fun n =>
      (NMap.get (fun _ => none) s.qz.temp n).map fun v => (BitVec.ofInt 16 v).toNat
    let volts := (List.range 16).map fun n => NMap.get (fun _ => none) s.qz.volt n
    let regs := s.qz.regulators.flatMap fun r =>
      leBytes 1 r.addr ++ leBytes 2 r.vout ++ leBytes 2 r.iout ++ leBytes 1 r.temp
    s.takeFree.answer tag 0 (readings s.freeNat (temps ++ volts) ++ regs))

/-- R670, R671: numbers 0 to 23 are sensors, 24 to 39 monitors. [DESIGN CHOICE, log 36] -/
def execThreshSet (s : State) : Host.Outcome State Fault Refusal :=
  .next (s.serve 0x0042 9 fun tag =>
    let n := s.req 4 1
    let a := s.req 5 2
    let b := s.req 7 2
    let warn := (BitVec.ofNat 16 a).toInt
    let crit := (BitVec.ofNat 16 b).toInt
    if 40 ≤ n then s.answer tag 2 []
    else if n < 24 then
      if crit < warn ∨ 880 < crit then s.answer tag 2 []
      else (s.setQz fun q => { q with tempThr := NMap.set tempDefault q.tempThr n (warn, crit) }).answer tag 0 []
    else
      (s.setQz fun q => { q with voltThr := NMap.set (fun _ => none) q.voltThr (n - 24) (some (a, b)) }).answer tag 0 [])

/-- R675, R681. -/
def execLogCfg (s : State) : Host.Outcome State Fault Refusal :=
  .next (s.serve 0x0043 6 fun tag =>
    let lvl := s.req 4 1
    if 3 < lvl then s.answer tag 2 []
    else (s.setQz fun q => { q with logMin := lvl, flush := q.flush || s.req 5 1 % 2 = 1 }).answer tag 0 [])

/-! ## The restart after an expiry -/

/-- A request that was outstanding at the expiry is answered. -/
def State.answerLate (s : State) : State :=
  match s.qz.mb with
  | some (tag, _) => s.answer tag 8 []
  | none => s

/-- R666, R667: Slath chooses a bank again and starts it, or waits in recovery; a request that was outstanding is answered by
the firmware that starts. -/
def execWdtRestart (errA errB : Bool) (period : Nat) (s : State) : Host.Outcome State Fault Refusal :=
  .next
    (if s.qz.por || s.bootStage ≠ 0 || !s.qz.restart then s
     else
      match s.choose (errA, errB) with
      | some bank =>
        (s.boot (errA, errB) bank period).answerLate
      | none => s)

/-- R640: no bank passes. Each refusal is told of, and Slath waits. -/
def execRecovery (errA errB : Bool) (s : State) : Host.Outcome State Fault Refusal :=
  .next
    (if s.qz.por || s.bootStage ≠ 0 then s
     else if (s.choose (errA, errB)).isNone then
      let t := ((s.setQz fun q => { q with restart := false }).refuseBank (errA, errB) 0).refuseBank (errA, errB) 1
      t.recover.answerLate
     else s)

end Sys2Proof.Machine
end

