-- ==== Sys2Proof/Machine/Window.lean ====
section
/-!
DEFINITION. The indirect table window (R83 to R86): the tables of every page, what an entry reads as, and what a write-back
does.
-/

namespace Sys2Proof.Machine

/-! ## The tables (R149, R262, R272, R340, R420, R452, R476, R507, R540, R541 and the other chapters' lists) -/

/-- How a table is written: read only; by a rule of its own; one plane of RW bits; a shadow (R309); two banks (R80). -/
inductive TblKind where
  | ro | own | flat | shadow | banked
  deriving DecidableEq, Repr

/-- A table of a page: entries, words of an entry, kind, and the RW bits of each word where its kind does not say. -/
structure TblDesc where
  entries : Nat
  words : Nat
  kind : TblKind
  masks : List Word := []
  deriving DecidableEq, Repr

/-- The whole word. -/
def mAll : Word := 0xFFFFFFFF

/-- The RW bits of the leg egress table (R482); word 15 is read only. -/
def legMasks : List Word := [0xFFFF1FFF, 0x0003FFFF, mAll, mAll, mAll, 0xFF3F7FFF] ++ List.replicate 9 mAll ++ [0]

/-- The RW bits of an encode stream (R388). -/
def encMasks : List Word :=
  [0x01FFFFFF, 0x1FFF1FFF, mAll, mAll, mAll, 0xFF3F3F3F, mAll, 0x0003FF7F, 0x01FFFFFF, 0x3FFFFFFF, 0xFFFF07FF, 0xFF, mAll, mAll,
   0, 0]

/-- The RW bits of a decode stream (R409). -/
def decMasks : List Word := [0x037FFF7F, 0x01FFFFFF, 0x0003FFFF, 0x1FFF1FFF, mAll, mAll, 0, 0]

/-- The RW bits of a layer (R457). -/
def layerMasks : List Word :=
  [0xFF01FFFF, 0x1FFF1FFF, 0x1FFF1FFF, 0x1FFF1FFF, 0x1FFF1FFF, mAll, 0x1FFF1FFF, 0x0001FFFF]

/-- The RW bits of a template (R433). -/
def tmplMasks : List Word :=
  [0xFF3FFFFF, 0x07FF7FFF, mAll, 0] ++ List.replicate 8 mAll ++ List.replicate 16 0x001FFFFF ++ List.replicate 32 0x80000FFF ++
    List.replicate 4 0

/-- The RW bits of a subscription (R273). -/
def subMasks : List Word := [0x9FFFFFFF, 0x07FFFFFF, 0x01FFFFFF, 0x01FFFFFF, 0x01FFFFFF, 0, 0, 0]

/-- The RW bits of a source of Weave (R435), whose references lie in words 4 to 11. -/
def srcMasks : List Word := [0xFFFF0003, mAll, 0, 0] ++ List.replicate 8 0x83FF83FF

/-- The tables of MXF (R310 to R313, R340). -/
def mxfTables (t : Nat) : Option TblDesc :=
  [⟨65536, 4, .shadow, [0xFF7FFF7F, mAll, 0x01FFFFFF, mAll]⟩, ⟨65536, 4, .shadow, [0xF87FFFFF, mAll, mAll, mAll]⟩,
   ⟨16384, 2, .shadow, [0x1F, mAll]⟩, ⟨4096, 4, .shadow, [0x0003FFFF, 0x01FFFFFF, 0x01FFFFFF, 0]⟩, ⟨65536, 4, .ro, []⟩,
   ⟨16384, 10, .ro, []⟩][t]?

/-- The tables of LFW (R272). -/
def lfwTables (t : Nat) : Option TblDesc :=
  [⟨16777216, 8, .banked, subMasks⟩, ⟨16777216, 4, .ro, []⟩, ⟨65536, 2, .banked, [0x00FFFFFF, 0x0001FFFF]⟩,
   ⟨262144, 2, .banked, [0x00FFFFFF, 0x0001FFFF]⟩, ⟨16777216, 1, .banked, [0x00FFFFFF]⟩, ⟨65536, 4, .flat, [0, mAll, 0, 0]⟩,
   ⟨262144, 128, .ro, []⟩][t]?

/-- Table t of a page. [DEDUCED, log 25] -/
def tableOf (p t : Nat) : Option TblDesc :=
  match pageClass p with
  | (1, _) => [⟨4096, 1, .own, []⟩][t]?
  | (2, _) => [⟨32, 2, .own, []⟩][t]?
  | (3, _) => [⟨552, 1, .flat, [0x1FF]⟩, ⟨1024, 4, .own, []⟩, ⟨65536, 17, .ro, []⟩][t]?
  | (4, _) => [⟨64, 7, .own, []⟩, ⟨593, 1, .own, []⟩, ⟨256, 1, .ro, []⟩][t]?
  | (5, _) => [⟨4096, 4, .own, []⟩, ⟨16384, 3, .own, []⟩, ⟨4096, 5, .ro, []⟩][t]?
  | (6, 0) => [⟨33554432, 16, .own, []⟩, ⟨65536, 1, .flat, [0x7FFFF]⟩, ⟨131072, 12, .own, []⟩][t]?
  | (6, _) => [⟨65536, 8, .own, []⟩][t]?
  | (7, _) => [⟨256, 2, .own, []⟩, ⟨4194304, 8, .ro, []⟩, ⟨33554432, 16, .ro, []⟩][t]?
  | (8, _) => lfwTables t
  | (9, _) => mxfTables t
  | (10, _) => [⟨8192, 1, .own, []⟩, ⟨24576, 1, .own, []⟩][t]?
  | (11, n) =>
    if n < 16 then [⟨64, 16, .shadow, encMasks⟩, ⟨64, 8, .ro, []⟩][t]?
    else [⟨256, 8, .shadow, decMasks⟩, ⟨256, 20, .ro, []⟩, ⟨512, 8, .ro, []⟩][t]?
  | (12, n) =>
    if t < 3 && n ≠ 0 then none
    else [⟨4096, 12, .shadow, srcMasks⟩, ⟨256, 2, .shadow, [7, 0x7FFF7FFF]⟩, ⟨256, 64, .shadow, tmplMasks⟩,
          ⟨32768, 4, .banked, [0xFFFF3FFF, 0x01FFFFFF, 0, 0]⟩, ⟨32768, 20, .ro, []⟩][t]?
  | (13, _) => [⟨16, 8, .shadow, layerMasks⟩, ⟨4, 6, .ro, []⟩][t]?
  | (14, _) => [⟨1024, 2, .own, []⟩, ⟨65536, 16, .shadow, legMasks⟩, ⟨65536, 4, .shadow, [mAll, 0x80FFFFFF, 0, 0]⟩][t]?
  | (15, 4) => [⟨65536, 1, .banked, [0xFFFFF]⟩, ⟨65536, 1, .flat, [1]⟩, ⟨81920, 64, .ro, []⟩][t]?
  | (15, _) => [⟨48, 2, .shadow, [0x1FF, 0]⟩, ⟨1344, 2, .shadow, [0x1F, 0]⟩, ⟨1392, 1, .ro, []⟩][t]?
  | (17, _) => [⟨64, 4, .own, []⟩][t]?
  | _ => none

/-- The page under which a table is kept: tables 1 and 2 of the ESC pages are one device-wide table (R482). -/
def tblHome (p t : Nat) : Nat := if pageType p = 14 && t ≠ 0 then 0x048 else p

/-! ## What an entry reads as -/

/-- Words of bytes, each least significant byte first. -/
def bytesWords (n : Nat) (bs : List Byte) : List Word :=
  (List.range n).map fun i => BitVec.ofNat 32 (leNat ((bs.drop (4 * i)).take 4))

/-- An entry of table 2 of the RVE page (R149). The executor of a task that is neither slotted nor running reads 0x3FF, as that of
R144 does. [DEDUCED, log 33] -/
def State.taskWords (s : State) (id : Nat) : List Word :=
  let t := s.task id
  if t.st = 0 then List.replicate 16 0 ++ [0]
  else
    (List.range 16).map (fun i => t.desc.getD i 0) ++
      [BitVec.ofNat 32 (t.st + t.dep % 4096 * 16 + (if t.st = 4 ∨ t.st = 5 then t.exec else noExec) * 2 ^ 16)]

/-- An entry of table 2 of the CRL page: buffers whose owner list holds the owner. -/
def State.ownedWord (s : State) (owner : Nat) : Word :=
  BitVec.ofNat 32 (s.crl.own.filter fun x => x.2.contains owner).length

/-- An entry of table 2 of a port page (R540): the defects of a path or tributary and its pointer. -/
def State.lineWord (s : State) (p a : Nat) : Word :=
  let l := s.line p
  let has (e c : Nat) : Nat := (l.defs.contains (4096 * p + e, c)).toNat
  let bits (e : Nat) (cs : List Nat) : Nat := (cs.zipIdx.map fun c => has e c.1 * 2 ^ c.2).sum
  if a < 48 then BitVec.ofNat 32 (bits (2 + a) [6, 7, 8, 9, 10, 11] + (l.path a).ptr.ptr * 2 ^ 16)
  else
    let t := a - 48
    BitVec.ofNat 32 (bits (64 + t) [12, 13, 8, 9, 14] + bits (2048 + t) [15, 16, 17, 18] * 2 ^ 6 + (l.trib t).ptr.ptr * 2 ^ 16)

/-- A policer's counters (R216), live or as in the last snapshot. -/
def State.polWords (s : State) (e : Nat) (view : Bool) : List Word :=
  let at_ (c : Ctr) : Nat := NMap.get (fun _ => 0) (if view then s.snap else s.ctr) (ckey polPage c e)
  [BitVec.ofNat 32 (at_ .polPass), BitVec.ofNat 32 (at_ .polPass / 2 ^ 32), BitVec.ofNat 32 (at_ .polDrop),
   BitVec.ofNat 32 (at_ .polDrop / 2 ^ 32)]

/-- An entry of the shapers (R492): its shadow, and the tokens. -/
def State.shaperWords (s : State) (g : Nat) : List Word :=
  let (t, f) := s.tok g
  [s.tw 0x048 2 1 g 0, s.tw 0x048 2 1 g 1, BitVec.ofInt 32 t, BitVec.ofNat 32 f]

/-- The words of an entry as the window shows it. `view` asks for the last snapshot, `standby` for the standby bank.
[DEDUCED, log 25] -/
def State.entryWords (s : State) (p t e : Nat) (view standby : Bool) : List Word :=
  let plane (k : TblKind) : Nat := if k = .shadow || (k = .banked && standby) then 1 else 0
  let stored : List Word :=
    match tableOf p t with
    | some d => s.tget (tblHome p t) t (plane d.kind) e
    | none => []
  match pageClass p, t with
  | (3, _), 2 => s.taskWords e
  | (4, _), 2 => [s.ownedWord e]
  | (5, _), 2 => s.qStateWords e
  | (6, 1), 0 => (List.range 4).map (fun i => stored.getD i 0) ++ s.polWords e view
  | (7, _), 0 => [stored.getD 0 0, BitVec.ofNat 32 (s.cpeQ e).length]
  | (7, _), 1 => bytesWords 8 (s.kslot e).head
  | (7, _), 2 => bytesWords 16 (s.crypto e).record
  | (8, _), 5 => setWord stored 0 (BitVec.ofNat 32 (s.curRate e))
  | (8, _), 6 => s.sourceWords e
  | (9, _), 4 => if view then NMap.get tblDefault s.snapTbl (tkey p 4 0 e) else stored
  | (9, _), 5 => if view then NMap.get tblDefault s.snapTbl (tkey p 5 0 e) else stored
  | (10, n), 0 => [NMap.get word0 (s.core n).imem e]
  | (10, n), _ => [BitVec.ofNat 32 ((s.core n).mreadX (4 * e) 4)]
  | (11, n), 1 => if n < 16 then s.encTable n e else s.decTable (n - 16) e
  | (11, _), 2 => (List.range 8).map (Config.elementName e)
  | (12, _), 1 => if e = 0 then [4, 0] else stored
  | (12, _), 4 => s.rcvTable p e
  | (13, n), 1 => ((s.pipe n).recs.getD e {}).words
  | (14, _), 1 => setWord stored 15 (s.tw 0x048 1 0 e 15)
  | (14, _), 2 => s.shaperWords e
  | (15, 4), 2 => s.entityWords e view
  | (15, n), 2 => [s.lineWord n e]
  | _, _ => stored

/-! ## Write-backs -/

/-- R62: a write-back of the grant table. -/
def State.wbGrantTable (s : State) (src : Src) (e : Nat) (v : Word) : State :=
  if src = .pf then s.tset 0 0 0 e [v &&& fmask 15 1] else s.tblRefuse src 0 10 [v]

/-- A shadow entry or a standby bank is locked by an ARMED page (R68): the page's own, or, for the tables that the ESC pages
share, any that validates the entry as it stands or as it would stand. -/
def State.entryLocked (s : State) (p t e : Nat) (ws : List Word) : Bool :=
  if pageType p = 14 then
    let new := if t = 1 then [0x048 + fld (ws.getD 0 0) 5 1 / 4] else []
    (List.range' 0x048 8).any fun q => s.armed q && ((s.pageLegs q).contains e || new.contains q)
  else s.armed p

/-- The RW bits of an entry are written, the others keep what they hold. -/
def State.putEntry (s : State) (p t plane e : Nat) (masks ws : List Word) : State :=
  s.tset p t plane e (masks.zipIdx.map fun (m, i) => (ws.getD i 0 &&& m) ||| (s.tw p t plane e i &&& ~~~m))

/-- A monitor word of a packet leg is written: a leg that it enables or disables has suspect bins (R536). -/
def State.wbMonitor (s : State) (g : Nat) (v : Word) : State :=
  let t := s.tset tsiPage 1 0 g [v &&& 1]
  if t.legOn g = s.legOn g then t else t.pmDoubt [legEntity g]

/-- What a write-back of an entry does (R62, R85 and the rules of each table). -/
def State.wbApply (s : State) (src : Src) (p t e : Nat) (ws : List Word) : State :=
  match pageClass p, t with
  | (1, _), _ => s.wbGrantTable src e (ws.getD 0 0)
  | (2, _), _ =>
    if src = .qz then s.tset tmuPage 0 0 e [ws.getD 0 0, ws.getD 1 0 &&& 1] else s.tblRefuse src tmuPage 10 ws
  | (3, _), 1 => s.wbImage src e ws
  | (4, _), 0 => s.wbPool src e ws
  | (4, _), _ => s.wbOwnerMap src e ws
  | (5, _), 0 => s.wbQueue src e ws
  | (5, _), _ => s.wbGrant src e ws
  | (6, 0), 0 => s.wbCtx src e ws
  | (6, 0), 2 => s.wbLegKey src e ws
  | (6, 1), _ => s.wbPolicer src e ws
  | (7, _), _ => s.wbRq src e ws
  | (14, _), 0 => s.wbGate src p e ws
  | (17, _), _ => s.wbRegion src e ws
  | (15, 4), 1 => s.wbMonitor e (ws.getD 0 0)
  | (10, n), _ =>
    if !s.wdsTest n then s.tblRefuse src p 7 ws
    else s.memPut n (t = 1) e (ws.getD 0 0)
  | (8, _), 0 =>
    if bit (ws.getD 0 0) 31 && fld (ws.getD 1 0) 26 25 = 0 then s.tblRefuse src p 7 ws else s.putEntry p 0 1 e subMasks ws
  | (12, _), 1 => if e = 0 then s.tblRefuse src p 7 ws else s.putEntry p 1 1 e [7, 0x7FFF7FFF] ws
  | _, _ =>
    match tableOf p t with
    | some d => s.putEntry (tblHome p t) t (if d.kind = .flat then 0 else 1) e d.masks ws
    | none => s

/-- Tables whose write-backs take effect at once whatever the mode: the grant table (R62), the latencies (R567), the owner map
(R153), and every shadow and standby bank. [DEDUCED, log 26] -/
def atOnce (p t : Nat) : Bool :=
  match tableOf p t with
  | some d => d.kind = .shadow || d.kind = .banked || [1, 2].contains (pageType p) || (pageType p = 4 && t = 1)
  | none => true

/-- A whole entry is written back (R85, R86). [DEDUCED, log 25] -/
def State.wbEntry (s : State) (src : Src) (p t e : Nat) (ws : List Word) : State :=
  if atOnce p t then s.wbApply src p t e ws else s.deferWb src p t e ws fun s => s.wbApply src p t e ws

/-- R84: a write of `TBL_ADDR` latches an entry. [DEDUCED, log 25] -/
def execTblAddrWrite (src : Src) (page : Nat) (v : Word) (s : State) : Host.Outcome State Fault Refusal :=
  .next (s.access src page Reg.tblAddr v fun s =>
    if !(pageCaps page).tbl then s.accessErr page Reg.tblAddr 3 src v
    else
      let t := fld v 31 27
      let e := fld v 24 0
      let d := tableOf page t
      let ok := d.any fun d => decide (e < d.entries)
      let n := match d with | some d => d.words | none => 0
      let ws := if ok then s.entryWords page t e (bit v 25) (bit v 26) else []
      (s.wr page Reg.tblAddr v).setPg page fun g =>
        { g with winOk := ok, winPtr := 0, winWords := (List.range n).map fun i => ws.getD i 0 })

/-- What the window returns for a read of a page that no access reaches, or that the source may not read (R61, R62). A read
of the debug page by a source that is granted it is not captured (R61). [DEDUCED, log 5] -/
def State.deadRead (s : State) (src : Src) (p o : Nat) : State :=
  let s := { s with read := 0 }
  if p = debugPage && s.granted src p then s else s.accessErr 0x004 o 3 src 0

/-- A read by `src` of a page that it may reach. -/
def State.readAccess (s : State) (src : Src) (p o : Nat) (k : State → State) : State :=
  if !s.reaches src p then s
  else if pageType p = 0 || !s.granted src p || s.hidden src p then s.deadRead src p o
  else k s

/-- R84, R85: a read of `TBL_DATA`. -/
def execTblDataRead (src : Src) (page : Nat) (s : State) : Host.Outcome State Fault Refusal :=
  .next (s.readAccess src page tblDataOff fun s =>
    let g := s.pg page
    if !(pageCaps page).tbl then { s with read := 0 }
    else if g.winOk && decide (g.winPtr < g.winWords.length) then
      { s.setPg page (fun g => { g with winPtr := g.winPtr + 1 }) with read := g.winWords.getD g.winPtr 0 }
    else { s with read := 0 }.accessErr page tblDataOff 7 src 0)

/-- R68, R85, R86: a write of `TBL_DATA`. The last word writes the entry back. -/
def execTblDataWrite (src : Src) (page : Nat) (v : Word) (s : State) : Host.Outcome State Fault Refusal :=
  .next (s.access src page tblDataOff v fun s =>
    let g := s.pg page
    let a := s.rd page Reg.tblAddr
    let t := fld a 31 27
    let e := fld a 24 0
    match tableOf page t with
    | none => s.accessErr page tblDataOff (if (pageCaps page).tbl then 7 else 3) src v
    | some d =>
      if !g.winOk || decide (g.winWords.length ≤ g.winPtr) || d.kind = .ro || (d.kind = .banked && !bit a 26) then
        s.accessErr page tblDataOff 7 src v
      else
        let ws := g.winWords.set g.winPtr v
        let s := s.setPg page fun g => { g with winWords := ws, winPtr := g.winPtr + 1 }
        if g.winPtr + 1 < d.words then s
        else if (d.kind = .shadow || d.kind = .banked) && s.entryLocked page t e ws then s.tblRefuse src page 2 ws
        else s.wbEntry src page t e ws)

/-- R86: at step 4 of R47, the write-backs that came before this boundary take effect. -/
def execTblWritebackDeferred (s : State) : Host.Outcome State Fault Refusal :=
  let due := s.deferred.filter fun w => w.wale ≠ s.clk.wale
  .next
    (if s.stepDue 4 && due ≠ [] then
      let s := { s.atStep 4 with deferred := s.deferred.filter fun w => w.wale = s.clk.wale }
      due.foldl (fun s w => s.wbApply w.src w.page w.table w.entry w.words) s
     else s)

/-- R62. -/
def execGrantTableWriteback (src : Src) (entry : Nat) (v : Word) (s : State) : Host.Outcome State Fault Refusal :=
  .next (s.access src 0 tblDataOff v fun s => s.wbGrantTable src entry v)

/-- R155. -/
def execPoolWriteback (src : Src) (pool : Nat) (ws : List Word) (s : State) : Host.Outcome State Fault Refusal :=
  .next (s.writeBack src crlPage 0 pool ws fun s => s.wbPool src pool ws)

/-- R171, R713. -/
def execCoilQueueWriteback (src : Src) (q : Nat) (ws : List Word) (s : State) : Host.Outcome State Fault Refusal :=
  .next (s.writeBack src colPage 0 q ws fun s => s.wbQueue src q ws)

/-- R173. -/
def execCoilGrantWriteback (src : Src) (g : Nat) (ws : List Word) (s : State) : Host.Outcome State Fault Refusal :=
  .next (s.writeBack src colPage 1 g ws fun s => s.wbGrant src g ws)

end Sys2Proof.Machine
end

