-- ==== Sys2Proof/Machine/RegWrite.lean ====
section
/-!
DEFINITION. Writes of registers through the window (R6, R11 to R14, R68, R99, R711), what a register reads as (R5, R18,
R87, R98), and the writes that Pairing carries (R598).
-/

namespace Sys2Proof.Machine

/-- The state after an effect that answers a next state. -/
def State.after (s : State) (f : State → Host.Outcome State Fault Refusal) : State :=
  match f s with
  | .next t => t
  | .fault _ => s
  | .refused _ => s

/-! ## Fields -/

/-- What an ARMED commit locks of a register: RWS fields, and the fields of the commit's own controls that hold a value (R68).
ARM has a rule of its own (R71), and DISARM is not locked. -/
def State.fieldLocked (s : State) (p o : Nat) (f : FieldDesc) : Bool :=
  s.armed p && (f.acc = .rws || ((o = Reg.cmtCtl || o = Reg.cmtWale) && f.acc = .rw))

/-- A write gives a field a value that is no reserved encoding. [DEDUCED, log 12] -/
def FieldDesc.takes (f : FieldDesc) (v : Word) : Bool := decide (f.okLo ≤ fld v f.hi f.lo) && decide (fld v f.hi f.lo ≤ f.okHi)

/-- A field takes its part of a write (R11, R14, R68). Fields with a command of their own are left to it.
[DEDUCED, log 11; DEDUCED, log 12] -/
def State.putField (s : State) (p o : Nat) (v : Word) (f : FieldDesc) : State :=
  if f.own || s.fieldLocked p o f then s
  else
    match f.acc with
    | .rw => if f.takes v then s.wfld p o f.hi f.lo (fld v f.hi f.lo) else s
    | .rws => s.wfld p o f.hi f.lo (fld v f.hi f.lo)
    | .w1c => s.wr p o (s.rd p o &&& ~~~(v &&& fmask f.hi f.lo))
    | _ => s

/-- The bits of a register that its RW and RWS fields hold. -/
def RegDesc.mask (r : RegDesc) : Word :=
  r.fields.foldl (fun m f => if f.acc = .rw || f.acc = .rws then m ||| fmask f.hi f.lo else m) 0

/-- A write of half of a 64-bit register (R6): the low half waits, and the high half puts the whole value into effect.
[DEDUCED, log 16] -/
def State.halfWrite (s : State) (src : Src) (p o : Nat) (v : Word) (r : RegDesc) : State :=
  let v' := v &&& r.mask
  let locked := r.fields.any fun f => s.fieldLocked p o f
  if r.half = 1 then
    if locked then (if v' = s.rd p o then s else s.accessErr p o 2 src v)
    else { s with stage := NMap.set regDefault s.stage (rkey p o) v' }
  else
    let lo := NMap.get regDefault s.stage (rkey p (o - 4))
    if locked then (if v' = s.rd p o ∧ lo = s.rd p (o - 4) then s else s.accessErr p o 2 src v)
    else (s.wr p (o - 4) lo).wr p o v'

/-- A write field by field. It is captured with cause 2 when it carries another value for a locked field, and with cause 4
when it carries a reserved encoding (R14, R68, R99). [DEDUCED, log 11] -/
def State.plainWrite (s : State) (src : Src) (p o : Nat) (v : Word) : State :=
  match findReg p o with
  | none => s
  | some r =>
    if r.half ≠ 0 then s.halfWrite src p o v r
    else
      let lockedBad := r.fields.any fun f => s.fieldLocked p o f && fld v f.hi f.lo ≠ s.rf p o f.hi f.lo
      let badCode := r.fields.any fun f => f.acc = .rw && !f.own && !f.takes v
      let t := r.fields.foldl (fun s f => s.putField p o v f) s
      if lockedBad then t.accessErr p o 2 src v
      else if badCode then t.accessErr p o 4 src v
      else t

/-! ## The header -/

/-- `PAGE_CTRL` (R63 to R66, R577). [DEDUCED, log 15] -/
def State.pageCtrlWrite (s : State) (src : Src) (p : Nat) (v : Word) : State :=
  if bit v 2 then (if s.resetRefused p then s.accessErr p Reg.pageCtrl 6 src v else s.pageReset p (srcPort src))
  else
    let s := if pageType p = 16 && p ≠ drcPage && bit v 0 = s.enabled p then s else s.enWrite src p (bit v 0) v
    if bit v 1 then s.pageFence p else s

/-- `CMT_CTL` (R68, R71, R72). -/
def State.cmtCtlWrite (s : State) (src : Src) (p : Nat) (v : Word) : State :=
  if bit v 0 && s.armed p then s.accessErr p Reg.cmtCtl 2 src v
  else
    let s := s.plainWrite src p Reg.cmtCtl v
    let s := if bit v 2 then s.cmtDisarm src p v else s
    if bit v 0 then s.cmtArm src p v else s

/-- The registers of result ring k: BASE is not written while the ring is enabled (R91). -/
def State.ringRegWrite (s : State) (src : Src) (p k o : Nat) (v : Word) : State :=
  if o = ringOff Reg.ringCfg k then s.ringCfgWrite src p k v
  else if o = ringOff Reg.ringHead k then s.after fun s => execRingHeadWrite src p k v s
  else if s.ringOn p k then s
  else s.plainWrite src p o v

/-- A register of the header. -/
def State.headerWrite (s : State) (src : Src) (p o : Nat) (v : Word) : State :=
  if o = Reg.pageCtrl then s.pageCtrlWrite src p v
  else if o = Reg.evtStatus then s.after fun s => execEvtStatusClear src p v s
  else if o = Reg.evtForce then s.after fun s => execEvtForce src p v s
  else if o = Reg.errInfo then (if bit v 31 then s.wfld p Reg.errInfo 31 31 0 else s)
  else if o = Reg.cmtCtl then s.cmtCtlWrite src p v
  else if o = Reg.snapCtl then
    let s := s.plainWrite src p o v
    if bit v 0 then s.snapRequest src p (bit v 1) v else s
  else if o = Reg.tblAddr then s.after fun s => execTblAddrWrite src p v s
  else if o = Reg.tblData then s.after fun s => execTblDataWrite src p v s
  else if 0x80 ≤ o && o < 0x100 then s.ringRegWrite src p ((o - 0x80) / 0x20) o v
  else s.plainWrite src p o v

/-! ## The blocks -/

/-- The commit group registers (R74): COUNT and TARGET are locked while the group is ARMED. A COUNT of 0 where
COUNT holds 0 is no change, and is not captured. [DEDUCED, log 12; DESIGN CHOICE, log 13] -/
def State.sysWrite (s : State) (src : Src) (o : Nat) (v : Word) : State :=
  let g := s.rf 0 Reg.sysCgrpSel 4 0
  let c := s.group g
  let armed := decide (c.state = 1)
  if o = Reg.sysCgrpSel then (s.plainWrite src 0 o v).groupShow
  else if o = Reg.sysCgrpWale then
    if !armed then s.setGroup g fun c => { c with target := v.toNat }
    else if v.toNat = c.target then s
    else s.accessErr 0 o 2 src v
  else if o = Reg.sysCgrpCtl then
    let n := fld v 27 16
    if bit v 0 && decide (c.state = 1 ∨ c.state = 2) then s.accessErr 0 o 2 src v
    else
      let s := if armed || n = 0 then s else s.setGroup g fun c => { c with count := n }
      let s :=
        if armed && n ≠ c.count then s.accessErr 0 o 2 src v
        else if !armed && n = 0 && c.count ≠ 0 then s.accessErr 0 o 4 src v
        else s
      let s := if bit v 1 then s.cgrpDisarm src v else s
      if bit v 0 then s.cgrpArm src v else s
  else s.plainWrite src 0 o v

/-- The registers that Quizil alone writes (R547). -/
def tmuQzRegs : List Nat :=
  [Reg.tmuCtl, Reg.tmuFreq, Reg.tmuStep, Reg.tmuAdjCtl, Reg.tmuServo, Reg.tmuJumpThr, Reg.tmuParent, Reg.tmuParentHi,
   Reg.tmuParentPort]

/-- `TMU_ADJ_CTL` (R549, R711). [DEDUCED, log 31] -/
def State.adjCtlWrite (s : State) (src : Src) (v : Word) : State :=
  let op := if fld v 1 0 = 1 ∨ fld v 1 0 = 2 then fld v 1 0 else s.rf tmuPage Reg.tmuAdjCtl 1 0
  if bit v 2 && op = 0 then s.accessErr tmuPage Reg.tmuAdjCtl 4 src v
  else
    let s := s.plainWrite src tmuPage Reg.tmuAdjCtl v
    if !bit v 2 then s else if op = 1 then s.adjSet else s.adjStep.stepStrobe

/-- TMU (R31 to R35, R547 to R561). -/
def State.tmuWrite (s : State) (src : Src) (o : Nat) (v : Word) : State :=
  if tmuQzRegs.contains o && src ≠ .qz then s.accessErr tmuPage o 10 src v
  else if o = Reg.tmuWaleCtl then
    if bit v 0 then s.after fun s => execWaleRunSet src s else s.after fun s => execWaleRunClear src s
  else if o = Reg.tmuGridPhase then s.after fun s => execGridPhaseWrite src v s
  else if o = Reg.tmuAdjCtl then s.adjCtlWrite src v
  else if o = Reg.tmuStep then (s.plainWrite src tmuPage o v).servoHeard
  else if o = Reg.tmuFreq then s.after fun s => execFreqWrite src v s
  else if o = Reg.tmuServo then (s.servoSilence.plainWrite src tmuPage o v).after fun s => execServoLockedWrite src (bit v 0) s
  else if o = Reg.tmuTxtsSel then (s.plainWrite src tmuPage o v).txtsShow
  else if o = Reg.tmuTxtsPop then s.after fun s => execTxtsPop src (fld v 15 0) s
  else s.plainWrite src tmuPage o v

/-- RVE (R121, R135, R147). -/
def State.rveWrite (s : State) (src : Src) (o : Nat) (v : Word) : State :=
  if o = Reg.rveSubmitGo then (if bit v 0 then s.submitGo (srcPort src) s.regDesc else s)
  else if o = Reg.rveDecr then s.rveDecrement (srcPort src) (fld v 15 0)
  else if o = Reg.rveAbort then
    if bit v 16 then s.after fun s => execAbortOwner src (fld v 7 0) s else s.after fun s => execAbortTask src (fld v 15 0) s
  else s.plainWrite src rvePage o v

/-- CRL (R162, R167, R711). -/
def State.crlWrite (s : State) (src : Src) (o : Nat) (v : Word) : State :=
  let port := srcPort src
  let h := (s.rd crlPage Reg.crlReqHandle).toNat
  if o = Reg.crlReqGo then
    if !bit v 0 then s
    else
      match s.rf crlPage Reg.crlReq 3 0 with
      | 1 => (s.crlAlloc port (s.rf crlPage Reg.crlReq 9 4)).1
      | 2 => s.crlAdd port h (s.rf crlPage Reg.crlReq 23 16)
      | 3 => s.crlDrop port h
      | 4 => s.crlFree port h
      | _ => s.accessErr crlPage o 4 src v
  else if o = Reg.crlReclaim then (if bit v 8 then s.after fun s => execCreelReclaim src (fld v 7 0) s else s)
  else s.plainWrite src crlPage o v

/-- COL (R176 to R189, R711). -/
def State.colWrite (s : State) (src : Src) (o : Nat) (v : Word) : State :=
  let port := srcPort src
  let q := s.rf colPage Reg.colOp 27 16
  let arg := (s.rd colPage Reg.colOpArg).toNat
  if o = Reg.colOpGo then
    if !bit v 0 then s
    else
      match s.rf colPage Reg.colOp 3 0 with
      | 1 => s.colReserve port q arg
      | 2 => s.colCommit port q arg (s.rf colPage Reg.colOpLen 15 0) (s.rb colPage Reg.colOp 4)
      | 3 => (s.colNext port q).1
      | 4 => s.colRelease port q arg
      | 5 => s.colMark port q
      | 6 => s.colRewind port q
      | _ => s.accessErr colPage o 4 src v
  else if o = Reg.colReclaim then (if bit v 8 then s.after fun s => execCoilReclaim src (fld v 7 0) s else s)
  else s.plainWrite src colPage o v

/-- `CPE_KEY_LOAD` (R14, R261): MKI_LEN 5 to 7, and USE 0 and 3 beside an ALG other than 0, are reserved encodings, of which
the fields keep what they hold. -/
def State.keyLoadWrite (s : State) (src : Src) (v : Word) : State :=
  let old := s.rd cpePage Reg.cpeKeyLoad
  let badLen := decide (4 < fld v 26 24)
  let badUse := decide (fld v 23 22 ≠ 0) && decide (fld v 28 27 = 0 ∨ fld v 28 27 = 3)
  let w := if badLen then withFld v 26 24 (fld old 26 24) else v
  let w := if badUse then withFld w 28 27 (fld old 28 27) else w
  let t := s.wr cpePage Reg.cpeKeyLoad (w &&& fmask 28 0)
  if badLen || badUse then t.accessErr cpePage Reg.cpeKeyLoad 4 src v else t

/-- CPE (R236, R257). Key material and salt are held, and read 0. -/
def State.cpeWrite (s : State) (src : Src) (o : Nat) (v : Word) : State :=
  if o = Reg.cpeKeyLoad then s.keyLoadWrite src v
  else if o = Reg.cpeKeyGo then (if bit v 0 then s.after fun s => execKeyLoad src s else s)
  else if o = Reg.cpeBulkGo then
    if bit v 8 then s.after fun s => execBulkSubmit (srcPort src) (fld v 7 0) [] s else s
  else if Reg.cpeKeyMaterial ≤ o && o < Reg.cpeKeyGo then s.wr cpePage o v
  else s.plainWrite src cpePage o v

/-- WDS (R376, R377). -/
def State.wdsWrite (s : State) (src : Src) (n o : Nat) (v : Word) : State :=
  if o = Reg.wdsMode then s.after fun s => execWdsModeWrite src n (bit v 0) s
  else if o = Reg.wdsLoad && bit v 16 then s.after fun s => execWdsLoad src n (fld v 9 0) s
  else if o = Reg.wdsTest then
    let s := s.plainWrite src (wdsPage n) o v
    let s := if bit v 16 then s.after fun s => execTestGo src n (fld v 12 0) s else s
    let s := if bit v 17 then s.after fun s => execTestIrq src n s else s
    if bit v 18 then s.after fun s => execTestHalt src n s else s
  else s.plainWrite src (wdsPage n) o v

/-- VCE (R395, R415). -/
def State.vceWrite (s : State) (src : Src) (n o : Nat) (v : Word) : State :=
  if n < 16 && o = Reg.vceEncRefresh then
    if bit v 8 then s.after fun s => execEncRefresh (some src) n (fld v 5 0) s else s
  else if 16 ≤ n && o = Reg.vceDecRestart then
    if bit v 8 then s.after fun s => execDecRestart src (n - 16) (fld v 7 0) s else s
  else s.plainWrite src (0x300 + n) o v

/-- WVE (R442). -/
def State.wveWrite (s : State) (src : Src) (n o : Nat) (v : Word) : State :=
  if o = Reg.wveRekey then (if bit v 16 then s.after fun s => execWveRekey (some src) n (fld v 14 0) s else s)
  else s.plainWrite src (wvePage n) o v

/-- ESC (R502): Quizil writes a ceiling while it is not locked. [DEDUCED, log 15] -/
def State.escWrite (s : State) (src : Src) (n o : Nat) (v : Word) : State :=
  if Reg.escCeil ≤ o && o < Reg.escCeil + 16 then
    if bit v 31 then s.ceilLock (4 * n + (o - Reg.escCeil) / 4) (fld v 19 0)
    else s.wfld (0x048 + n) o 19 0 (fld v 19 0)
  else s.plainWrite src (0x048 + n) o v

/-- A mask of R573 for entry j. -/
def hashMaskOk (j : Nat) (v : Word) : Bool :=
  let own := if j < 3 then 8 + j else 11 + (j - 3)
  decide (((List.range 32).filter fun i => bit v i).length ≤ 8) && bit v own &&
    (List.range' 8 5).all fun i => i = own || !bit v i

/-- The shares after a write of entry c keep R581. -/
def State.sharesOk (s : State) (c pct : Nat) : Bool :=
  let at_ (i : Nat) : Nat := if i = c then pct else s.rf drcPage (Reg.drcShare + 4 * i) 6 0
  decide ((([0, 1, 2, 3, 4, 5, 7] : List Nat).map at_).sum ≤ 100) && decide (at_ 6 ≤ 10)

/-- DRC (R571 to R587). -/
def State.drcRegWrite (s : State) (src : Src) (n o : Nat) (v : Word) : State :=
  let p := 0x070 + n
  let on := s.enabled drcPage
  if n = 16 then
    if o = Reg.drcTrain then (if bit v 0 then s.after fun s => execDrcRetrain src (fld v 31 16) s else s)
    else if o = Reg.drcGeom then
      if on then s.accessErr p o 11 src v else (s.wr p o (v &&& (fmask 5 0 ||| fmask 8 8))).refreshReady p false
    else if o = Reg.drcMap && on then s.accessErr p o 11 src v
    else if Reg.drcHash ≤ o && o < Reg.drcHash + 20 then
      if on then s.accessErr p o 11 src v
      else if hashMaskOk ((o - Reg.drcHash) / 4) v then s.plainWrite src p o v
      else s.accessErr p o 4 src v
    else if Reg.drcShare ≤ o && o < Reg.drcShare + 32 && !s.sharesOk ((o - Reg.drcShare) / 4) (fld v 6 0) then
      s.accessErr p o 4 src v
    else s.plainWrite src p o v
  else if o = Reg.drcSpare && on then s.accessErr p o 11 src v
  else if o = Reg.drcSpare && bit v 2 && s.drcRanks = 1 then
    (s.wfld p o 1 0 (fld v 1 0)).accessErr p o 4 src v
  else if o = Reg.drcRetire then (if bit v 8 then s.after fun s => execRankRetire src n (fld v 1 0) s else s)
  else s.plainWrite src p o v

/-- PRG (R619, R623, R625). -/
def State.prgWrite (s : State) (src : Src) (o : Nat) (v : Word) : State :=
  if o = Reg.prgJoin && bit v 0 then s.after fun s => execJoinGo src (fld v 31 16) s
  else if o = Reg.prgSwapCtl then (if bit v 0 then s.after fun s => execSwapArm src s else s)
  else if o = Reg.prgGate then
    let t := s.plainWrite src prgPage o v
    if t.rb prgPage o 24 = s.rb prgPage o 24 then t
    else (if t.linkUp then t.prgSend (.bypass (t.rb prgPage o 24)) else t).bypassRefresh
  else s.plainWrite src prgPage o v

/-- QZM (R677, R678). -/
def State.qzmWrite (s : State) (src : Src) (o : Nat) (v : Word) : State :=
  if o = Reg.qzmMbDoorbell then
    if bit v 31 then s.after fun s => execMbDoorbell src (fld v 7 0) (fld v 20 8) s else s
  else if Reg.qzmReqBuf ≤ o && s.rb qzPage Reg.qzmMbStatus 0 then s.accessErr qzPage o 9 src v
  else s.plainWrite src qzPage o v

/-- A register of a block. -/
def State.blockWrite (s : State) (src : Src) (p o : Nat) (v : Word) : State :=
  match pageClass p with
  | (1, _) => s.sysWrite src o v
  | (2, _) => s.tmuWrite src o v
  | (3, _) => s.rveWrite src o v
  | (4, _) => s.crlWrite src o v
  | (5, _) => s.colWrite src o v
  | (7, _) => s.cpeWrite src o v
  | (8, _) => if o = Reg.lfwEstDone then s.after fun s => execEstBatchDone (some src) (fld v 8 0) s else s.plainWrite src p o v
  | (10, n) => s.wdsWrite src n o v
  | (11, n) => s.vceWrite src n o v
  | (12, n) => s.wveWrite src n o v
  | (14, n) => s.escWrite src n o v
  | (15, n) => if n < 4 && o = Reg.lnuTxCtl then s.after fun s => execTxForceWrite src n v s else s.plainWrite src p o v
  | (16, n) => s.drcRegWrite src n o v
  | (17, _) => s.prgWrite src o v
  | (18, _) => s.qzmWrite src o v
  | _ => s.plainWrite src p o v

/-! ## Any write -/

/-- The counter at a page offset: which, of which lane group, and for class W which half (R18, R110, R226, R508). -/
def ctrAtOffset (p o : Nat) : Option (Ctr × Nat × Nat) :=
  ctrRows.findSome? fun r =>
    let here := (r.ty = 0 || r.ty = pageType p) && decide (r.ilo ≤ (pageClass p).2) && decide ((pageClass p).2 ≤ r.ihi)
    if !here then none
    else
      (List.range (if r.lanes then 4 else 1)).findSome? fun k =>
        let b := r.ctr.offset + 0x80 * k
        if o = b then some (r.ctr, k, 0)
        else if o = b + 4 ∧ r.ctr.cls = .w then some (r.ctr, k, 1)
        else none

/-- A register that only holds RO fields to `src`: Quizil writes the geometry and the ceilings that are not locked (R502,
R571). [DEDUCED, log 15] -/
def State.readOnly (s : State) (src : Src) (p o : Nat) (r : RegDesc) : Bool :=
  let mine := src = .qz && ((p = drcPage && o = Reg.drcGeom) ||
    (pageType p = 14 && Reg.escCeil ≤ o && o < Reg.escCeil + 16 && !s.rb p o 31))
  !mine && r.fields.all fun f => f.acc = .ro

/-- Registers whose writes are discarded while EN of their page is 1 (R207, R233, R272, R451, R476 and their tables).
[DEDUCED, log 14] -/
def keptWhileOn (p o : Nat) : Bool :=
  match pageClass p with
  | (6, 0) => decide (Reg.iclCtxBase ≤ o ∧ o ≤ Reg.iclSktBaseHi)
  | (7, _) => decide (Reg.cpeKeyBase ≤ o ∧ o ≤ Reg.cpeStateBaseHi)
  | (8, _) => decide (Reg.lfwDramBase ≤ o ∧ o ≤ Reg.lfwDramBaseHi)
  | (12, _) => decide (Reg.wveStoreBase ≤ o ∧ o ≤ Reg.wveStoreBaseHi)
  | (13, _) => decide (Reg.pxcOutBase ≤ o ∧ o ≤ Reg.pxcOutMax)
  | _ => false

/-- The registers of page 0x330 alone, as page 0x331 shows them: reads return 0 and writes are discarded (R451).
[DEDUCED, log 14] -/
def only330 (p o : Nat) : Bool := p = 0x331 && decide (Reg.wveInQbase ≤ o ∧ o ≤ Reg.wveStoreBaseHi)

/-- The effect of a write that has had its access. [DEDUCED, log 11; DEDUCED, log 15] -/
def State.regApply (s : State) (src : Src) (p o : Nat) (v : Word) : State :=
  let t :=
    match findReg p o with
    | none =>
      if only330 p o then s else s.accessErr p o (if (ctrAtOffset p o).isSome then 1 else 3) src v
    | some r =>
      if s.readOnly src p o r then s.accessErr p o 1 src v
      else if s.enabled p && keptWhileOn p o then s
      else if o < 0x100 || 0x8000 ≤ o then s.headerWrite src p o v
      else s.blockWrite src p o v
  if !s.rb p Reg.errInfo 31 && t.rb p Reg.errInfo 31 then t.wr p Reg.errData v else t

/-- A write through the window. -/
def State.regWrite (s : State) (src : Src) (p o : Nat) (v : Word) : State :=
  s.access src p o v fun s => s.applying fun s => s.regApply src p o v

/-- R11, R61, R99. -/
def execRegWrite (src : Src) (page off : Nat) (v : Word) (s : State) : Host.Outcome State Fault Refusal :=
  .next (s.regWrite src page off v)

/-- R6. -/
def execReg64HighWrite (src : Src) (page off : Nat) (v : Word) (s : State) : Host.Outcome State Fault Refusal :=
  .next (s.regWrite src page off v)

/-! ## Reads -/

/-- Results of more than one word: the first word's offset, and the others (R98, R546). [DEDUCED, log 17] -/
def resultGroups (p : Nat) : List (Nat × List Nat) :=
  match pageType p with
  | 2 => [(Reg.tmuTimeNs, [Reg.tmuTimeSec, Reg.tmuTimeSecHi]), (Reg.tmuPpsRes, [Reg.tmuPpsNs, Reg.tmuPpsSec, Reg.tmuPpsSecHi]),
          (Reg.tmuTxts0, [Reg.tmuTxts1])]
  | 4 => [(Reg.crlReqRes, [Reg.crlReqResHandle])]
  | 5 => [(Reg.colOpRes, [Reg.colOpResOfs, Reg.colOpResLen])]
  | 10 => [(Reg.wdsTestRes, [Reg.wdsTestExit])]
  | 18 => [(Reg.qzmMbRes, [Reg.qzmMbResLen])]
  | _ => []

/-- The words that a read of a page offset latches (R5, R98). [DEDUCED, log 16] -/
def latchedBy (p o : Nat) : List Nat :=
  let gs := resultGroups p
  match gs.find? fun g => g.1 = o with
  | some g => g.2
  | none =>
    if gs.any fun g => g.2.contains o then []
    else if (findReg p o).any fun r => r.half = 1 then [o + 4]
    else
      match ctrAtOffset p o with
      | some (c, _, 0) => if c.cls = .w then [o + 4] else []
      | _ => []

/-- A counter as the window shows it: live, or as in the last snapshot (R19, R87). [DEDUCED, log 18] -/
def State.ctrShown (s : State) (p : Nat) (c : Ctr) (k : Nat) : Nat :=
  if s.rb p Reg.snapCtl 2 then NMap.get (fun _ => 0) s.snap (ckey p c k) else s.ctrAt p c k

/-- `TMU_WALE_POS` (R30): t - B(w); 0 while the clock reads earlier than B(w). Outside RUNNING w is that of R28. -/
def State.walePos (s : State) : Nat :=
  if s.genState = 2 then s.now - s.boundary s.clk.wale else (s.now + 2500000 - s.gridPhase) % 2500000

/-- The value at a page offset now: registers that follow the clock are computed (R28 to R30, R546), WO fields read 0 (R11),
and what is not implemented reads 0 (R99). [DEDUCED, log 17] -/
def State.sample (s : State) (p o : Nat) : Word :=
  match findReg p o with
  | some r =>
    if p = tmuPage ∧ o = Reg.tmuWale64 then BitVec.ofNat 32 s.wale64
    else if p = tmuPage ∧ o = Reg.tmuWale64Hi then BitVec.ofNat 32 (s.wale64 / 2 ^ 32)
    else if p = tmuPage ∧ o = Reg.tmuWalePos then BitVec.ofNat 32 s.walePos
    else if p = tmuPage ∧ o = Reg.tmuTimeNs then BitVec.ofNat 32 (s.now % 1000000000)
    else if p = tmuPage ∧ o = Reg.tmuTimeSec then BitVec.ofNat 32 (s.now / 1000000000)
    else if p = tmuPage ∧ o = Reg.tmuTimeSecHi then BitVec.ofNat 32 (s.now / 1000000000 / 2 ^ 32)
    else s.rd p o &&& ~~~(r.fields.foldl (fun m f => if f.acc = .wo then m ||| fmask f.hi f.lo else m) 0)
  | none =>
    match ctrAtOffset p o with
    | some (c, k, h) => BitVec.ofNat 32 (s.ctrShown p c k / 2 ^ (32 * h))
    | none => 0

/-- What a read of a page offset returns: a word that has been latched as it was latched (R5, R98). The seconds read 0 until a
read of the nanoseconds has latched them (R546). [DEDUCED, log 16; DEDUCED, log 17] -/
def State.windowRead (s : State) (p o : Nat) : Word :=
  match NMap.get (fun _ => none) s.latch (rkey p o) with
  | some v => v
  | none => if p = tmuPage ∧ (o = Reg.tmuTimeSec ∨ o = Reg.tmuTimeSecHi) then 0 else s.sample p o

/-- R5: the read returns the low half and latches the high half. [DEDUCED, log 16] -/
def execReg64LowRead (page off : Nat) (s : State) : Host.Outcome State Fault Refusal :=
  .next (s.readAccess .pf page off fun s =>
    let l := (latchedBy page off).map fun o => (rkey page o, some (s.sample page o))
    { s with read := s.windowRead page off, latch := NMap.setAll (fun _ => none) s.latch l })

/-! ## Carried writes (R598) -/

/-- R598: the oldest entry of the record, where it is a CFG entry: the standby applies the write as the active did. Its message
on CONFIG is used up with it. [DEDUCED, log 26] -/
def execLayCfg (s : State) : Host.Outcome State Fault Refusal :=
  match s.layTake 8 with
  | none => .next s
  | some (s, _, b) =>
    let w := fb32 b 4
    let p := w / 2 ^ 16
    let o := w % 2 ^ 16
    let v : Word := BitVec.ofNat 32 (fb32 b 8)
    let s := s.setPrg fun g =>
      match g.rx.find? fun m => m.2 = Msg.config p o v with
      | some m => { g with rx := g.rx.erase m }
      | none => g
    .next (if s.standby && s.paired then s.applying fun s => s.regWrite .pf p o v else s)

end Sys2Proof.Machine
end

