-- ==== Sys2Proof/Machine/Dispatch.lean ====
section
/-!
DEFINITION. The meaning of each command, one arm per row of the table.
-/

namespace Sys2Proof.Machine

def exec (i : Instr) (s : State) : Host.Outcome State Fault Refusal :=
  match i with
  | .regWrite src page off v => Sys2Proof.Machine.execRegWrite src page off v s
  | .reg64LowRead page off => Sys2Proof.Machine.execReg64LowRead page off s
  | .reg64HighWrite src page off v => Sys2Proof.Machine.execReg64HighWrite src page off v s
  | .errInfoClear src page => Sys2Proof.Machine.execErrInfoClear src page s
  | .evtStatusClear src page mask => Sys2Proof.Machine.execEvtStatusClear src page mask s
  | .evtForce src page mask => Sys2Proof.Machine.execEvtForce src page mask s
  | .evtRingDeliver => Sys2Proof.Machine.execEvtRingDeliver s
  | .pageEnWrite src page en => Sys2Proof.Machine.execPageEnWrite src page en s
  | .pageInitDone page => Sys2Proof.Machine.execPageInitDone page s
  | .pageFence src page => Sys2Proof.Machine.execPageFence src page s
  | .pageFenceDone page => Sys2Proof.Machine.execPageFenceDone page s
  | .pageReset src page clearEn => Sys2Proof.Machine.execPageReset src page clearEn s
  | .pageResetDone page => Sys2Proof.Machine.execPageResetDone page s
  | .cmtArm src page => Sys2Proof.Machine.execCmtArm src page s
  | .cmtDisarm src page => Sys2Proof.Machine.execCmtDisarm src page s
  | .commitApply page => Sys2Proof.Machine.execCommitApply page s
  | .cgrpArm src => Sys2Proof.Machine.execCgrpArm src s
  | .cgrpDisarm src => Sys2Proof.Machine.execCgrpDisarm src s
  | .cgrpCheck group => Sys2Proof.Machine.execCgrpCheck group s
  | .cgrpApply group => Sys2Proof.Machine.execCgrpApply group s
  | .tblAddrWrite src page v => Sys2Proof.Machine.execTblAddrWrite src page v s
  | .tblDataRead src page => Sys2Proof.Machine.execTblDataRead src page s
  | .tblDataWrite src page v => Sys2Proof.Machine.execTblDataWrite src page v s
  | .tblWritebackDeferred => Sys2Proof.Machine.execTblWritebackDeferred s
  | .grantTableWriteback src entry v => Sys2Proof.Machine.execGrantTableWriteback src entry v s
  | .snapRequest src page clrS => Sys2Proof.Machine.execSnapRequest src page clrS s
  | .snapshotTake page => Sys2Proof.Machine.execSnapshotTake page s
  | .ringEnable src page ring v => Sys2Proof.Machine.execRingEnable src page ring v s
  | .ringHeadWrite src page ring h => Sys2Proof.Machine.execRingHeadWrite src page ring h s
  | .gridPhaseWrite src v => Sys2Proof.Machine.execGridPhaseWrite src v s
  | .waleRunSet src => Sys2Proof.Machine.execWaleRunSet src s
  | .waleRunClear src => Sys2Proof.Machine.execWaleRunClear src s
  | .waleStrobe => Sys2Proof.Machine.execWaleStrobe s
  | .fineTick => Sys2Proof.Machine.execFineTick s
  | .taskSubmit port desc => Sys2Proof.Machine.execTaskSubmit port desc s
  | .taskDecrement port id => Sys2Proof.Machine.execTaskDecrement port id s
  | .abortTask src id => Sys2Proof.Machine.execAbortTask src id s
  | .abortOwner src owner => Sys2Proof.Machine.execAbortOwner src owner s
  | .delayListRelease list => Sys2Proof.Machine.execDelayListRelease list s
  | .taskDispatch => Sys2Proof.Machine.execTaskDispatch s
  | .taskStart e => Sys2Proof.Machine.execTaskStart e s
  | .taskComplete e value => Sys2Proof.Machine.execTaskComplete e value s
  | .budgetAbort e => Sys2Proof.Machine.execBudgetAbort e s
  | .deadlineAbort id => Sys2Proof.Machine.execDeadlineAbort id s
  | .completionRecordWrite id => Sys2Proof.Machine.execCompletionRecordWrite id s
  | .imageRegistryWrite src image ws => Sys2Proof.Machine.execImageRegistryWrite src image ws s
  | .imageScanDone image => Sys2Proof.Machine.execImageScanDone image s
  | .ownerMapWriteback src port v => Sys2Proof.Machine.execOwnerMapWriteback src port v s
  | .poolWriteback src pool ws => Sys2Proof.Machine.execPoolWriteback src pool ws s
  | .poolReady pool => Sys2Proof.Machine.execPoolReady pool s
  | .alloc port pool => Sys2Proof.Machine.execAlloc port pool s
  | .add port handle owner => Sys2Proof.Machine.execAdd port handle owner s
  | .drop port handle => Sys2Proof.Machine.execDrop port handle s
  | .free port handle => Sys2Proof.Machine.execFree port handle s
  | .creelReclaim src owner => Sys2Proof.Machine.execCreelReclaim src owner s
  | .crlReclaimDone => Sys2Proof.Machine.execCrlReclaimDone s
  | .coilQueueWriteback src q ws => Sys2Proof.Machine.execCoilQueueWriteback src q ws s
  | .coilGrantWriteback src g ws => Sys2Proof.Machine.execCoilGrantWriteback src g ws s
  | .reserve port q size => Sys2Proof.Machine.execReserve port q size s
  | .commit port q ofs len skip => Sys2Proof.Machine.execCommit port q ofs len skip s
  | .next port q => Sys2Proof.Machine.execNext port q s
  | .release port q ofs => Sys2Proof.Machine.execRelease port q ofs s
  | .mark port q => Sys2Proof.Machine.execMark port q s
  | .rewind port q => Sys2Proof.Machine.execRewind port q s
  | .coilReclaim src owner => Sys2Proof.Machine.execCoilReclaim src owner s
  | .colReclaimDone => Sys2Proof.Machine.execColReclaimDone s
  | .ethLinkUp lane => Sys2Proof.Machine.execEthLinkUp lane s
  | .ethLinkDown lane => Sys2Proof.Machine.execEthLinkDown lane s
  | .ethHiSer lane up => Sys2Proof.Machine.execEthHiSer lane up s
  | .ethRxFrame lane bytes chk => Sys2Proof.Machine.execEthRxFrame lane bytes chk s
  | .iclFrame => Sys2Proof.Machine.execIclFrame s
  | .iclCtxFetchDone scid => Sys2Proof.Machine.execIclCtxFetchDone scid s
  | .legkeyWriteback src entry ws => Sys2Proof.Machine.execLegkeyWriteback src entry ws s
  | .streamCtxWriteback src scid ws => Sys2Proof.Machine.execStreamCtxWriteback src scid ws s
  | .policerWriteback src entry ws => Sys2Proof.Machine.execPolicerWriteback src entry ws s
  | .cpeRqWriteback src q ws => Sys2Proof.Machine.execCpeRqWriteback src q ws s
  | .cpeInbound => Sys2Proof.Machine.execCpeInbound s
  | .keySlotFetch slot tagOk => Sys2Proof.Machine.execKeySlotFetch slot tagOk s
  | .keySlotEvict slot => Sys2Proof.Machine.execKeySlotEvict slot s
  | .keyLoad src => Sys2Proof.Machine.execKeyLoad src s
  | .keyLoadApply => Sys2Proof.Machine.execKeyLoadApply s
  | .keyLoadPendingExpire => Sys2Proof.Machine.execKeyLoadPendingExpire s
  | .kwkLoad => Sys2Proof.Machine.execKwkLoad s
  | .cpeOutbound => Sys2Proof.Machine.execCpeOutbound s
  | .bulkSubmit port rq desc => Sys2Proof.Machine.execBulkSubmit port rq desc s
  | .bulkComplete => Sys2Proof.Machine.execBulkComplete s
  | .lfwPacketAccepted => Sys2Proof.Machine.execLfwPacketAccepted s
  | .fanoutCopy => Sys2Proof.Machine.execFanoutCopy s
  | .needIntraReport => Sys2Proof.Machine.execNeedIntraReport s
  | .estNextRateWrite leg rate => Sys2Proof.Machine.execEstNextRateWrite leg rate s
  | .estBatchDone src batch => Sys2Proof.Machine.execEstBatchDone src batch s
  | .estLatch => Sys2Proof.Machine.execEstLatch s
  | .wantCompute => Sys2Proof.Machine.execWantCompute s
  | .switchTmo subn => Sys2Proof.Machine.execSwitchTmo subn s
  | .joinTake subn => Sys2Proof.Machine.execJoinTake subn s
  | .originatedPacket q => Sys2Proof.Machine.execOriginatedPacket q s
  | .partialMixOut => Sys2Proof.Machine.execPartialMixOut s
  | .mxfGather => Sys2Proof.Machine.execMxfGather s
  | .mixSample => Sys2Proof.Machine.execMixSample s
  | .hwdecPacket => Sys2Proof.Machine.execHwdecPacket s
  | .partialMixIn => Sys2Proof.Machine.execPartialMixIn s
  | .partialBuild trunk => Sys2Proof.Machine.execPartialBuild trunk s
  | .mxfHwencPacket => Sys2Proof.Machine.execMxfHwencPacket s
  | .nop n => Sys2Proof.Machine.execNop n s
  | .mov n d a => Sys2Proof.Machine.execMov n d a s
  | .movi n d imm => Sys2Proof.Machine.execMovi n d imm s
  | .movhi n d imm => Sys2Proof.Machine.execMovhi n d imm s
  | .sub n d a t => Sys2Proof.Machine.execSub n d a t s
  | .addi n d a imm => Sys2Proof.Machine.execAddi n d a imm s
  | .and n d a t => Sys2Proof.Machine.execAnd n d a t s
  | .or n d a t => Sys2Proof.Machine.execOr n d a t s
  | .xor n d a t => Sys2Proof.Machine.execXor n d a t s
  | .shl n d a t => Sys2Proof.Machine.execShl n d a t s
  | .shr n d a t => Sys2Proof.Machine.execShr n d a t s
  | .shrl n d a t => Sys2Proof.Machine.execShrl n d a t s
  | .shri n d a k => Sys2Proof.Machine.execShri n d a k s
  | .shli n d a k => Sys2Proof.Machine.execShli n d a k s
  | .abs n d a => Sys2Proof.Machine.execAbs n d a s
  | .max n d a t => Sys2Proof.Machine.execMax n d a t s
  | .min n d a t => Sys2Proof.Machine.execMin n d a t s
  | .cmp n a t => Sys2Proof.Machine.execCmp n a t s
  | .cmpi n a imm => Sys2Proof.Machine.execCmpi n a imm s
  | .maxi n d a => Sys2Proof.Machine.execMaxi n d a s
  | .mini n d a => Sys2Proof.Machine.execMini n d a s
  | .ldw n d ax post imm ecc => Sys2Proof.Machine.execLdw n d ax post imm ecc s
  | .ldh n d ax post imm => Sys2Proof.Machine.execLdh n d ax post imm s
  | .stw n d ax post imm => Sys2Proof.Machine.execStw n d ax post imm s
  | .sth n d ax post imm => Sys2Proof.Machine.execSth n d ax post imm s
  | .mpy n acc a t sh th => Sys2Proof.Machine.execMpy n acc a t sh th s
  | .mac n acc a t sh th => Sys2Proof.Machine.execMac n acc a t sh th s
  | .msu n acc a t sh th => Sys2Proof.Machine.execMsu n acc a t sh th s
  | .macm n acc p q => Sys2Proof.Machine.execMacm n acc p q s
  | .clr n acc => Sys2Proof.Machine.execClr n acc s
  | .rda n d acc shift wid => Sys2Proof.Machine.execRda n d acc shift wid s
  | .sta n acc ax post imm shift wid => Sys2Proof.Machine.execSta n acc ax post imm shift wid s
  | .mova n acc a => Sys2Proof.Machine.execMova n acc a s
  | .seta n r a => Sys2Proof.Machine.execSeta n r a s
  | .geta n d r => Sys2Proof.Machine.execGeta n d r s
  | .aadd n ax imm => Sys2Proof.Machine.execAadd n ax imm s
  | .setm n a => Sys2Proof.Machine.execSetm n a s
  | .getm n d => Sys2Proof.Machine.execGetm n d s
  | .b n cond target => Sys2Proof.Machine.execB n cond target s
  | .call n target => Sys2Proof.Machine.execCall n target s
  | .br n a => Sys2Proof.Machine.execBr n a s
  | .repi n len count => Sys2Proof.Machine.execRepi n len count s
  | .repr n len a => Sys2Proof.Machine.execRepr n len a s
  | .exit n a => Sys2Proof.Machine.execExit n a s
  | .waitd n mask => Sys2Proof.Machine.execWaitd n mask s
  | .waitf n => Sys2Proof.Machine.execWaitf n s
  | .ei n => Sys2Proof.Machine.execEi n s
  | .di n => Sys2Proof.Machine.execDi n s
  | .reti n => Sys2Proof.Machine.execReti n s
  | .norm n d acc => Sys2Proof.Machine.execNorm n d acc s
  | .expt n d a => Sys2Proof.Machine.execExpt n d a s
  | .interruptEntry n => Sys2Proof.Machine.execInterruptEntry n s
  | .dmaStart n ch => Sys2Proof.Machine.execDmaStart n ch s
  | .dmaDone n ch => Sys2Proof.Machine.execDmaDone n ch s
  | .fabricRequest n => Sys2Proof.Machine.execFabricRequest n s
  | .fabricResponse n => Sys2Proof.Machine.execFabricResponse n s
  | .wdsLoad src n image => Sys2Proof.Machine.execWdsLoad src n image s
  | .wdsLoaded n => Sys2Proof.Machine.execWdsLoaded n s
  | .wdsModeWrite src n test => Sys2Proof.Machine.execWdsModeWrite src n test s
  | .wdsMemWrite src n dmem entry v => Sys2Proof.Machine.execWdsMemWrite src n dmem entry v s
  | .testGo src n pc => Sys2Proof.Machine.execTestGo src n pc s
  | .testIrq src n => Sys2Proof.Machine.execTestIrq src n s
  | .testHalt src n => Sys2Proof.Machine.execTestHalt src n s
  | .encLaunch enc => Sys2Proof.Machine.execEncLaunch enc s
  | .encUnitEmit enc u => Sys2Proof.Machine.execEncUnitEmit enc u s
  | .encRefresh src enc stream => Sys2Proof.Machine.execEncRefresh src enc stream s
  | .decPacketAssemble dec stream => Sys2Proof.Machine.execDecPacketAssemble dec stream s
  | .decUnitSubmit dec stream ctus => Sys2Proof.Machine.execDecUnitSubmit dec stream ctus s
  | .decodeComplete dec r => Sys2Proof.Machine.execDecodeComplete dec r s
  | .decRestart src dec stream => Sys2Proof.Machine.execDecRestart src dec stream s
  | .weaveIngest queue => Sys2Proof.Machine.execWeaveIngest queue s
  | .weaveCut => Sys2Proof.Machine.execWeaveCut s
  | .weaveLaunch template => Sys2Proof.Machine.execWeaveLaunch template s
  | .weavePictureBuild splicer => Sys2Proof.Machine.execWeavePictureBuild splicer s
  | .wveSpliceLate splicer entry => Sys2Proof.Machine.execWveSpliceLate splicer entry s
  | .wveRekey src splicer entry => Sys2Proof.Machine.execWveRekey src splicer entry s
  | .pxcFrameLaunch pipe => Sys2Proof.Machine.execPxcFrameLaunch pipe s
  | .pxcFramePublish pipe => Sys2Proof.Machine.execPxcFramePublish pipe s
  | .pxcFrameLate pipe => Sys2Proof.Machine.execPxcFrameLate pipe s
  | .descriptorEnqueue => Sys2Proof.Machine.execDescriptorEnqueue s
  | .hostFrameEnqueue lane => Sys2Proof.Machine.execHostFrameEnqueue lane s
  | .ptpTx => Sys2Proof.Machine.execPtpTx s
  | .escDequeue lane => Sys2Proof.Machine.execEscDequeue lane s
  | .txStart lane => Sys2Proof.Machine.execTxStart lane s
  | .gateTransition lane => Sys2Proof.Machine.execGateTransition lane s
  | .gclStart lane => Sys2Proof.Machine.execGclStart lane s
  | .gclEntryWriteback src port entry ws => Sys2Proof.Machine.execGclEntryWriteback src port entry ws s
  | .escCeilLocked lane mbps => Sys2Proof.Machine.execEscCeilLocked lane mbps s
  | .framerOccurrence port pos hit => Sys2Proof.Machine.execFramerOccurrence port pos hit s
  | .lnuFalseLock port => Sys2Proof.Machine.execLnuFalseLock port s
  | .lofDeclare port => Sys2Proof.Machine.execLofDeclare port s
  | .lofClear port => Sys2Proof.Machine.execLofClear port s
  | .losDeclare port => Sys2Proof.Machine.execLosDeclare port s
  | .losClear port => Sys2Proof.Machine.execLosClear port s
  | .rxFrameOverhead port oh => Sys2Proof.Machine.execRxFrameOverhead port oh s
  | .rxMultiframe port tus => Sys2Proof.Machine.execRxMultiframe port tus s
  | .tribFrameComplete port trib frame => Sys2Proof.Machine.execTribFrameComplete port trib frame s
  | .tdmFramePulse => Sys2Proof.Machine.execTdmFramePulse s
  | .txForceWrite src port v => Sys2Proof.Machine.execTxForceWrite src port v s
  | .wdtForceClear port => Sys2Proof.Machine.execWdtForceClear port s
  | .pmRecord => Sys2Proof.Machine.execPmRecord s
  | .pmSecondClose => Sys2Proof.Machine.execPmSecondClose s
  | .binClose => Sys2Proof.Machine.execBinClose s
  | .adjSet src => Sys2Proof.Machine.execAdjSet src s
  | .adjStep src => Sys2Proof.Machine.execAdjStep src s
  | .freqWrite src v => Sys2Proof.Machine.execFreqWrite src v s
  | .servoLockedWrite src locked => Sys2Proof.Machine.execServoLockedWrite src locked s
  | .servoSilent => Sys2Proof.Machine.execServoSilent s
  | .ptpRx => Sys2Proof.Machine.execPtpRx s
  | .txtsPop src tsId => Sys2Proof.Machine.execTxtsPop src tsId s
  | .tmuLatWriteback src lane w0 w1 => Sys2Proof.Machine.execTmuLatWriteback src lane w0 w1 s
  | .syncinMeasure edges freq => Sys2Proof.Machine.execSyncinMeasure edges freq s
  | .ppsEdge ns => Sys2Proof.Machine.execPpsEdge ns s
  | .tmuSyncinLoss edges => Sys2Proof.Machine.execTmuSyncinLoss edges s
  | .ppsOutRise => Sys2Proof.Machine.execPpsOutRise s
  | .ppsOutFall => Sys2Proof.Machine.execPpsOutFall s
  | .drcEnable src => Sys2Proof.Machine.execDrcEnable src s
  | .drcDisable src => Sys2Proof.Machine.execDrcDisable src s
  | .trainStepDone ch => Sys2Proof.Machine.execTrainStepDone ch s
  | .drcTrainFail ch rank => Sys2Proof.Machine.execDrcTrainFail ch rank s
  | .drcRetrain src mask => Sys2Proof.Machine.execDrcRetrain src mask s
  | .dramWrite addr bytes => Sys2Proof.Machine.execDramWrite addr bytes s
  | .dramRead addr ecc => Sys2Proof.Machine.execDramRead addr ecc s
  | .writeQueueDrain ch ecc => Sys2Proof.Machine.execWriteQueueDrain ch ecc s
  | .refresh ch rank => Sys2Proof.Machine.execRefresh ch rank s
  | .mr4Poll ch rank heat => Sys2Proof.Machine.execMr4Poll ch rank heat s
  | .scrubRead ch ecc => Sys2Proof.Machine.execScrubRead ch ecc s
  | .caParityAlert ch rank again => Sys2Proof.Machine.execCaParityAlert ch rank again s
  | .rankRetire src ch rank => Sys2Proof.Machine.execRankRetire src ch rank s
  | .migrationCopy ch ecc => Sys2Proof.Machine.execMigrationCopy ch ecc s
  | .pairLinkFrame seq ack msgs => Sys2Proof.Machine.execPairLinkFrame seq ack msgs s
  | .pairLinkSend => Sys2Proof.Machine.execPairLinkSend s
  | .pairRetransmit => Sys2Proof.Machine.execPairRetransmit s
  | .prgLinkDown => Sys2Proof.Machine.execPrgLinkDown s
  | .twinDead => Sys2Proof.Machine.execTwinDead s
  | .twinAlive => Sys2Proof.Machine.execTwinAlive s
  | .hello => Sys2Proof.Machine.execHello s
  | .configForward => Sys2Proof.Machine.execConfigForward s
  | .layCfg => Sys2Proof.Machine.execLayCfg s
  | .layPkt => Sys2Proof.Machine.execLayPkt s
  | .layTdm => Sys2Proof.Machine.execLayTdm s
  | .layBoundary => Sys2Proof.Machine.execLayBoundary s
  | .layDeq => Sys2Proof.Machine.execLayDeq s
  | .layDrop => Sys2Proof.Machine.execLayDrop s
  | .layOutcome => Sys2Proof.Machine.execLayOutcome s
  | .layRefuse => Sys2Proof.Machine.execLayRefuse s
  | .heldInputTimeout => Sys2Proof.Machine.execHeldInputTimeout s
  | .fetchRequest => Sys2Proof.Machine.execFetchRequest s
  | .fetchResponse => Sys2Proof.Machine.execFetchResponse s
  | .fetchTimeout => Sys2Proof.Machine.execFetchTimeout s
  | .outcomeHoldTimeout => Sys2Proof.Machine.execOutcomeHoldTimeout s
  | .digestRx => Sys2Proof.Machine.execDigestRx s
  | .gateWaitExpire => Sys2Proof.Machine.execGateWaitExpire s
  | .gateHoldExpire => Sys2Proof.Machine.execGateHoldExpire s
  | .promote => Sys2Proof.Machine.execPromote s
  | .demoteRx => Sys2Proof.Machine.execDemoteRx s
  | .swapArm src => Sys2Proof.Machine.execSwapArm src s
  | .swapApply => Sys2Proof.Machine.execSwapApply s
  | .autoSwap => Sys2Proof.Machine.execAutoSwap s
  | .joinGo src converge => Sys2Proof.Machine.execJoinGo src converge s
  | .copyComplete => Sys2Proof.Machine.execCopyComplete s
  | .capturePoint u => Sys2Proof.Machine.execCapturePoint u s
  | .prgInStep => Sys2Proof.Machine.execPrgInStep s
  | .prgRegionWriteback src entry ws => Sys2Proof.Machine.execPrgRegionWriteback src entry ws s
  | .porAssert => Sys2Proof.Machine.execPorAssert s
  | .porRelease straps => Sys2Proof.Machine.execPorRelease straps s
  | .slathBoot errA errB period => Sys2Proof.Machine.execSlathBoot errA errB period s
  | .recovery errA errB => Sys2Proof.Machine.execRecovery errA errB s
  | .platformRead pub => Sys2Proof.Machine.execPlatformRead pub s
  | .mainRelease stuck => Sys2Proof.Machine.execMainRelease stuck s
  | .mainSeqStepFail => Sys2Proof.Machine.execMainSeqStepFail s
  | .perst asserted => Sys2Proof.Machine.execPerst asserted s
  | .boardFault => Sys2Proof.Machine.execBoardFault s
  | .refclkLoss => Sys2Proof.Machine.execRefclkLoss s
  | .refclkPresent => Sys2Proof.Machine.execRefclkPresent s
  | .islandUndervolt => Sys2Proof.Machine.execIslandUndervolt s
  | .idRead kind pos mem => Sys2Proof.Machine.execIdRead kind pos mem s
  | .idReadTimeout kind pos => Sys2Proof.Machine.execIdReadTimeout kind pos s
  | .moduleRemoved kind pos => Sys2Proof.Machine.execModuleRemoved kind pos s
  | .moduleInserted kind pos => Sys2Proof.Machine.execModuleInserted kind pos s
  | .wdtKick right => Sys2Proof.Machine.execWdtKick right s
  | .wdtExpire => Sys2Proof.Machine.execWdtExpire s
  | .wdtRestart errA errB period => Sys2Proof.Machine.execWdtRestart errA errB period s
  | .tempSample sensor v => Sys2Proof.Machine.execTempSample sensor v s
  | .voltSample monitor mv => Sys2Proof.Machine.execVoltSample monitor mv s
  | .pmbusPoll addr vout iout temp status => Sys2Proof.Machine.execPmbusPoll addr vout iout temp status s
  | .pmbusCommand rail kind mv => Sys2Proof.Machine.execPmbusCommand rail kind mv s
  | .mirrorPageWrite => Sys2Proof.Machine.execMirrorPageWrite s
  | .mbDoorbell src tag len => Sys2Proof.Machine.execMbDoorbell src tag len s
  | .getInfo => Sys2Proof.Machine.execGetInfo s
  | .clockSet => Sys2Proof.Machine.execClockSet s
  | .clockStep => Sys2Proof.Machine.execClockStep s
  | .ptpCfg => Sys2Proof.Machine.execPtpCfg s
  | .imageRegion => Sys2Proof.Machine.execImageRegion s
  | .imageLoad data => Sys2Proof.Machine.execImageLoad data s
  | .imageUnload => Sys2Proof.Machine.execImageUnload s
  | .fwUpdate data norErr => Sys2Proof.Machine.execFwUpdate data norErr s
  | .svnCommit => Sys2Proof.Machine.execSvnCommit s
  | .platformWrite data pub norErr => Sys2Proof.Machine.execPlatformWrite data pub norErr s
  | .ownerSet => Sys2Proof.Machine.execOwnerSet s
  | .fwRun data period => Sys2Proof.Machine.execFwRun data period s
  | .quote => Sys2Proof.Machine.execQuote s
  | .measure => Sys2Proof.Machine.execMeasure s
  | .logRead => Sys2Proof.Machine.execLogRead s
  | .sensorRead => Sys2Proof.Machine.execSensorRead s
  | .threshSet => Sys2Proof.Machine.execThreshSet s
  | .logCfg => Sys2Proof.Machine.execLogCfg s
  | .withyAdd n d a t => Sys2Proof.Machine.execWithyAdd n d a t s
  | .reservedOpcode n => Sys2Proof.Machine.execReservedOpcode n s

end Sys2Proof.Machine
end

