-- ==== Sys2Proof/Safety.lean ====
section
/-!
DEFINITION. The words that statements about the machine are made of: when a write reaches its register, what it is for a
command to answer a next state, what a command leaves as it was, what counts as a safe run, and the canonical form that
every step keeps.
-/

namespace Sys2Proof

/-- CMD of a command of the mailbox, and the shortest request that has its arguments (R681). -/
def Instr.mailbox : Instr → Option (Nat × Nat)
  | .getInfo => some (0x0001, 4)
  | .clockSet => some (0x0002, 16)
  | .clockStep => some (0x0003, 8)
  | .ptpCfg => some (0x0004, 144)
  | .imageRegion => some (0x0010, 20)
  | .imageLoad _ => some (0x0011, 18)
  | .imageUnload => some (0x0012, 6)
  | .fwUpdate _ _ => some (0x0020, 16)
  | .svnCommit => some (0x0021, 8)
  | .platformWrite _ _ _ => some (0x0022, 16)
  | .ownerSet => some (0x0023, 36)
  | .fwRun _ _ => some (0x0024, 16)
  | .quote => some (0x0030, 36)
  | .measure => some (0x0031, 37)
  | .logRead => some (0x0040, 14)
  | .sensorRead => some (0x0041, 4)
  | .threshSet => some (0x0042, 9)
  | .logCfg => some (0x0043, 6)
  | _ => none

namespace Machine

/-- A run goes on: the next step answers a next state. -/
abbrev State.safe (s : State) : Prop := ∃ t, step s = .next t

/-- The registers, the tables and the memories are in canonical form. -/
abbrev State.canonical (s : State) : Prop :=
  NMap.wf regDefault s.reg ∧ NMap.wf tblDefault s.tbl ∧ Memory.wf s.mem

/-- A command answers a next state, and P holds of it. -/
def Answers (c : Instr) (s : State) (P : State → Prop) : Prop := ∃ t, exec c s = .next t ∧ P t

/-- A write by `src` of page offset o reaches its register: the page is there, the source reaches it and is granted it, and
no standby discards the write (R61, R62, R599, R634, R640, R662). -/
structure State.Opens (s : State) (src : Src) (p o : Nat) : Prop where
  reaches : s.reaches src p = true
  assigned : pageType p ≠ 0
  granted : s.granted src p = true
  shown : s.hidden src p = false
  taken : (carried src p o && s.standby && !s.prg.applying) = false

/-- An agent's port, whose page is not fenced (R65, R112). -/
structure State.PortOpen (s : State) (port : Nat) : Prop where
  agent : port < 576
  joined : s.severed port = false

/-- The parts of the state. -/
inductive Part where
  | pending | clk | reg | act | latch | read | stage | tbl | ctr | snap | snapTbl | page | cgrp | ev | host | free | tmu | mem | crl | col | deferred | vfEnabled | rve | cores | icl | cpe | lfw | esc | qz | prg | mxf | lnu | vce | wve | pxc | drc
  deriving DecidableEq, Repr

/-- A part of the state is the same in two states. -/
def Part.same (s t : State) : Part → Prop
  | .pending => t.pending = s.pending
  | .clk => t.clk = s.clk
  | .reg => t.reg = s.reg
  | .act => t.act = s.act
  | .latch => t.latch = s.latch
  | .read => t.read = s.read
  | .stage => t.stage = s.stage
  | .tbl => t.tbl = s.tbl
  | .ctr => t.ctr = s.ctr
  | .snap => t.snap = s.snap
  | .snapTbl => t.snapTbl = s.snapTbl
  | .page => t.page = s.page
  | .cgrp => t.cgrp = s.cgrp
  | .ev => t.ev = s.ev
  | .host => t.host = s.host
  | .free => t.free = s.free
  | .tmu => t.tmu = s.tmu
  | .mem => t.mem = s.mem
  | .crl => t.crl = s.crl
  | .col => t.col = s.col
  | .deferred => t.deferred = s.deferred
  | .vfEnabled => t.vfEnabled = s.vfEnabled
  | .rve => t.rve = s.rve
  | .cores => t.cores = s.cores
  | .icl => t.icl = s.icl
  | .cpe => t.cpe = s.cpe
  | .lfw => t.lfw = s.lfw
  | .esc => t.esc = s.esc
  | .qz => t.qz = s.qz
  | .prg => t.prg = s.prg
  | .mxf => t.mxf = s.mxf
  | .lnu => t.lnu = s.lnu
  | .vce => t.vce = s.vce
  | .wve => t.wve = s.wve
  | .pxc => t.pxc = s.pxc
  | .drc => t.drc = s.drc

/-- `t` is `s` but for the parts named. -/
def State.Only (s t : State) (l : List Part) : Prop := ∀ x : Part, x ∉ l → x.same s t

/-- The page offsets of `EVT_STATUS`, `EVT_FIRST`, `ERR_INFO`, `ERR_DATA` and `ERR_WALE`: what events and access errors
leave in the registers of any page. -/
def noteOffs : List Nat := [0x10, 0x1C, 0x30, 0x34, 0x38]

/-- Every register reads as before but for those named, and for what events and access errors leave. -/
def State.RegsBut (s t : State) (l : List (Nat × Nat)) : Prop :=
  ∀ p o, o < 65536 → (p, o) ∉ l → o ∉ noteOffs → t.rd p o = s.rd p o

/-- The parts that counters, events and access errors leave their mark on. -/
def noted : List Part := [.reg, .ctr, .ev, .qz, .prg]

/-- The parts that the loss of the packets past step 1 of R199 changes, where CPE or LFW ceases to be READY (R717). -/
def past : List Part := [.tbl, .crl, .icl, .cpe, .lfw]

/-- A core as the next instruction finds it where this one changes nothing: what earlier instructions have on the way has
come a step nearer (R349). -/
def WCore.landed (c : WCore) : WCore :=
  { c with d := putAll word0 c.d (match c.ld with | some p => [p] | none => []), a := putAll (fun _ => 0) c.a c.p2,
           dmem := putAll byte0 c.dmem (landing c.st2) }

/-- What one instruction leaves as it was in its core, but for the data registers `ds`, the accumulators `as`, the address
registers `ps` and, where `fl` says so, FLAGS; and where execution goes when no loop ends (R349, R350). -/
structure WCore.Passes (c c' : WCore) (ds as ps : List Nat) (fl : Bool) : Prop where
  runs : c'.ph = c.ph
  data : ∀ r, r ∉ ds → c'.dreg r = c.landed.dreg r
  acc : ∀ k, k ∉ as → c'.accNew k = c.accNew k
  addr : ∀ r, r ∉ ps → c'.areg r = c.landed.areg r
  dmem : ∀ a, c'.mbyte a = c.landed.mbyte a
  flags : fl = false → c.br2 ≠ .ret → c'.fl = c.fl
  pc : c.br2 = .none ∨ c.br2 = .untaken → c.loops = [] → c'.pc = (c.pc + 1) % 8192
  slots : c.br2 ≠ .ret → c'.br2 = c.br1
  jump : ∀ u, c.br2 = .taken u → c'.pc = u

/-- Core n executes an instruction that writes only what is named. -/
structure State.Ran (s t : State) (n : Nat) (ds as ps : List Nat) (fl : Bool) : Prop where
  core : (s.core n).Passes (t.core n) ds as ps fl
  others : ∀ k, k ≠ n → t.core k = s.core k
  regs : s.RegsBut t [(wdsPage n, Reg.wdsStatus)]
  only : s.Only t (.cores :: noted)

/-- The task of core n ends in a fault (R373). -/
structure State.FaultsAt (s t : State) (n cause : Nat) : Prop where
  shown : t.rf (wdsPage n) Reg.wdsFault 19 16 = cause
  pc : t.rf (wdsPage n) Reg.wdsFault 12 0 = (s.core n).pc % 8192
  value : (t.core n).value = BitVec.ofNat 32 (0x80000000 + cause)
  ended : (t.core n).ph = if s.wdsTest n then 0 else 2
  others : ∀ k, k ≠ n → t.core k = s.core k
  only : s.Only t ([.cores, .page, .free] ++ noted)

/-- Core n waits: its next instruction stays the next one. -/
structure State.Waits (s t : State) (n : Nat) : Prop where
  core : t.core n = { s.core n with waitFrom := some ((s.core n).waitFrom.getD s.clk.tru) }
  shown : (s.core n).waitFrom = none → t.rf (wdsPage n) Reg.wdsStatus 1 0 = 3
  others : ∀ k, k ≠ n → t.core k = s.core k
  regs : s.RegsBut t [(wdsPage n, Reg.wdsStatus)]
  only : s.Only t [.cores, .reg]

/-- Page p shows that it raised event e (R101). -/
def State.Told (s : State) (p : Nat) (e : Event) : Prop :=
  s.rb p Reg.evtStatus (evBit (e.code (pageType p) % 256)) = true

/-- A request of command `cmd`, with all its n bytes at least, waits in a stage that allows it (R677, R681). -/
structure State.Asked (s : State) (cmd n tag : Nat) : Prop where
  waits : ∃ len, s.qz.mb = some (tag, len) ∧ n ≤ len
  names : s.mbCmd = cmd
  stage : s.bootStage ≠ 0
  allowed : s.mbAllowed cmd = true

/-- Byte i of the response buffer (R677). -/
def State.rspByte (s : State) (i : Nat) : Byte :=
  BitVec.ofNat 8 ((s.rd qzPage (Reg.qzmRspBuf + i / 4 * 4)).toNat / 2 ^ (8 * (i % 4)))

/-- What an answer writes: the response buffer and the registers that tell of it. -/
def mailRegs : List (Nat × Nat) :=
  [(qzPage, Reg.qzmMbRes), (qzPage, Reg.qzmMbResLen), (qzPage, Reg.qzmMbStatus)] ++
    (List.range 1024).map fun i => (qzPage, Reg.qzmRspBuf + 4 * i)

/-- The request is answered (R677, R680); of the other registers, only those of `l` are written. -/
structure State.Replies (s t : State) (tag status : Nat) (rsp : List Byte) (l : List (Nat × Nat)) : Prop where
  answers : t.rf qzPage Reg.qzmMbRes 15 8 = status
  echoes : t.rf qzPage Reg.qzmMbRes 7 0 = tag % 256
  seq : t.rf qzPage Reg.qzmMbRes 31 24 = (s.rf qzPage Reg.qzmMbRes 31 24 + 1) % 256
  length : t.rf qzPage Reg.qzmMbResLen 12 0 = rsp.length
  bytes : ∀ i, i < rsp.length → t.rspByte i = rsp.getD i 0
  idle : t.qz.mb = none ∧ t.rf qzPage Reg.qzmMbStatus 0 0 = 0
  counted : t.ctrAt qzPage .qzmMbReqs 0 = (s.ctrAt qzPage .qzmMbReqs 0 + 1) % 2 ^ 64
  regs : s.RegsBut t (l ++ mailRegs)

/-- The main domain is held in reset until POR_L (R635, R701): it is unpowered and as after reset, and the NOR, the OTP and the
platform record stay. -/
structure State.MainDown (s t : State) : Prop where
  held : t.qz.mainOk = false ∧ t.qz.pwrEn = false ∧ t.qz.down = true ∧ t.qz.seq = 0
  regs : ∀ p o, o < 65536 → p ≠ 0 → p ≠ 2 → t.rd p o = State.reset.rd p o
  tables : t.act = [] ∧ t.tbl = [] ∧ t.mem = {}
  units : t.cores = [] ∧ t.crl = {} ∧ t.col = {} ∧ t.rve = {} ∧ t.lfw = {} ∧ t.esc = {} ∧ t.drc = {}
  lines : t.lnu.fatal = true
  island : t.qz.nor = s.qz.nor ∧ t.qz.ownerHash = s.qz.ownerHash ∧ t.qz.svnFw = s.qz.svnFw ∧ t.qz.plat = s.qz.plat
  queue : t.pending = s.pending

end Machine

end Sys2Proof
end

