-- ==== Sys2Proof/Certificates/Slice0/Obligations.lean ====
section
/-!
DEFINITION. The statements for the provers.
-/

open Sys2Proof Sys2Proof.Machine

/-- R5, R6, R11, R12, R67: what a write of an RW register, of an RWS field and of the halves of a 64-bit register does, and what
a read of a low half latches. -/
def Obligations.RegisterWritesAndReads : Prop :=
  (∀ (s : State) (src : Src) (p : Nat) (v : Word), s.Opens src p Reg.evtEnable →
    Answers (.regWrite src p Reg.evtEnable v) s fun t =>
      t.rd p Reg.evtEnable = v ∧ s.RegsBut t [(p, Reg.evtEnable)] ∧ s.Only t [.reg, .prg]) ∧
  (∀ (s : State) (src : Src) (v : Word), s.Opens src mxfPage Reg.mxfTag → s.armed mxfPage = false →
    Answers (.regWrite src mxfPage Reg.mxfTag v) s fun t =>
      t.rf mxfPage Reg.mxfTag 15 0 = fld v 15 0 ∧ t.act = s.act ∧ s.RegsBut t [(mxfPage, Reg.mxfTag)] ∧
        s.Only t [.reg, .prg]) ∧
  (∀ (s : State) (src : Src) (lo hi : Word), s.Opens src iclPage Reg.iclCtxBase → s.Opens src iclPage Reg.iclCtxBaseHi →
    s.enabled iclPage = false →
    Answers (.regWrite src iclPage Reg.iclCtxBase lo) s fun t =>
      t.reg = s.reg ∧ s.Only t [.stage, .prg] ∧
        Answers (.reg64HighWrite src iclPage Reg.iclCtxBaseHi hi) t fun u =>
          u.rd64 iclPage Reg.iclCtxBase Reg.iclCtxBaseHi = lo.toNat + hi.toNat * 2 ^ 32 ∧
            t.RegsBut u [(iclPage, Reg.iclCtxBase), (iclPage, Reg.iclCtxBaseHi)] ∧ t.Only u [.reg, .prg]) ∧
  (∀ (s : State) (x : Word), s.reaches .pf tmuPage = true → s.hidden .pf tmuPage = false →
    NMap.get (fun _ => none) s.latch (rkey tmuPage Reg.tmuStartWale) = none →
    Answers (.reg64LowRead tmuPage Reg.tmuStartWale) s fun t =>
      t.read = s.rd tmuPage Reg.tmuStartWale ∧
        (t.wr tmuPage Reg.tmuStartWaleHi x).windowRead tmuPage Reg.tmuStartWaleHi = s.rd tmuPage Reg.tmuStartWaleHi ∧
        s.Only t [.read, .latch])

/-- R99, R101, R104, R105, R108: the captures of access errors, the event registers and the event ring. -/
def Obligations.ErrorsAndEvents : Prop :=
  (∀ (s : State) (src : Src) (p : Nat), s.Opens src p Reg.errInfo →
    Answers (.errInfoClear src p) s fun t =>
      t.rb p Reg.errInfo 31 = false ∧ t.rf p Reg.errInfo 30 0 = s.rf p Reg.errInfo 30 0 ∧
        t.rd p Reg.errData = s.rd p Reg.errData ∧ s.RegsBut t [] ∧ s.Only t [.reg, .prg]) ∧
  (∀ (s : State) (src : Src) (p : Nat) (mask : Word), s.Opens src p Reg.evtStatus →
    Answers (.evtStatusClear src p mask) s fun t =>
      t.rd p Reg.evtStatus = s.rd p Reg.evtStatus &&& ~~~mask ∧
        t.rd p Reg.evtFirst = (if s.rd p Reg.evtStatus &&& ~~~mask = 0 then 0 else s.rd p Reg.evtFirst) ∧
        s.RegsBut t [] ∧ s.Only t [.reg, .prg]) ∧
  (∀ (s : State) (src : Src) (p b : Nat) (e : Event), s.Opens src p Reg.evtForce → b < 32 →
    forcedEvent (pageType p) b = some e →
    Answers (.evtForce src p (fmask b b)) s fun t =>
      t.rb p Reg.evtStatus b = true ∧ (∀ i, i < 32 → s.rb p Reg.evtStatus i = true → t.rb p Reg.evtStatus i = true) ∧
        (s.rd p Reg.evtStatus = 0 → t.rf p Reg.evtFirst 15 0 = e.code (pageType p) % 2 ^ 16) ∧
        s.RegsBut t [] ∧ s.Only t noted) ∧
  (∀ (s : State) (r : EvRec) (rest : List EvRec), s.ev.queue = r :: rest → s.ringOn 0 0 = true → s.ringRoom 0 0 = true →
    Answers .evtRingDeliver s fun t =>
      t.rd 0 Reg.ringTail = s.rd 0 Reg.ringTail + 1 ∧
        (∃ ws l, t.host = s.host ++ HostOut.write
            (s.rd64 0 Reg.ringBase Reg.ringBaseHi +
              (s.rd 0 Reg.ringTail).toNat % s.ringSize 0 0 * (16 * 2 ^ s.rf 0 Reg.ringCfg 6 5)) ws :: l ∧
          fld (ws.getD 0 0) 15 0 = r.code % 2 ^ 16 ∧ ws.getD 1 0 = BitVec.ofNat 32 r.wale) ∧
        s.RegsBut t [(0, Reg.ringTail)] ∧ s.Only t (.host :: noted))

/-- R87, R88, R91, R95, R97: rings and snapshots. -/
def Obligations.RingsAndSnapshots : Prop :=
  (∀ (s : State) (src : Src) (p k : Nat) (v : Word), s.Opens src p (ringOff Reg.ringCfg k) → k < (pageCaps p).rings →
    s.ringOn p k = false → 4 ≤ fld v 4 0 → fld v 4 0 ≤ 20 → fld v 6 5 < 3 → (∀ z, ringFixed p k = some z → fld v 6 5 = z) →
    Answers (.ringEnable src p k v) s fun t =>
      t.ringOn p k = true ∧ t.ringSize p k = 2 ^ fld v 4 0 ∧ t.rf p (ringOff Reg.ringCfg k) 6 5 = fld v 6 5 ∧
        t.rd p (ringOff Reg.ringHead k) = 0 ∧ t.rd p (ringOff Reg.ringTail k) = 0 ∧
        s.RegsBut t [(p, ringOff Reg.ringCfg k), (p, ringOff Reg.ringHead k), (p, ringOff Reg.ringTail k)] ∧
        s.Only t [.reg, .prg]) ∧
  (∀ (s : State) (src : Src) (p k : Nat) (h : Word), s.Opens src p (ringOff Reg.ringHead k) → k < (pageCaps p).rings →
    (h - s.rd p (ringOff Reg.ringHead k)).toNat ≤ s.ringUsed p k →
    Answers (.ringHeadWrite src p k h) s fun t =>
      t.rd p (ringOff Reg.ringHead k) = h ∧ (h = s.rd p (ringOff Reg.ringTail k) → t.host = s.host) ∧
        s.RegsBut t [(p, ringOff Reg.ringHead k)] ∧ s.Only t [.reg, .host, .prg]) ∧
  (∀ (s : State) (src : Src) (p : Nat) (clrS : Bool), s.Opens src p Reg.snapCtl → (pageCaps p).snap = true →
    s.rb p Reg.snapCtl 0 = false →
    Answers (.snapRequest src p clrS) s fun t =>
      t.rb p Reg.snapCtl 0 = true ∧ (clrS = true → t.rb p Reg.snapCtl 1 = true) ∧ (t.pg p).snapAt = some s.clk.wale ∧
        s.RegsBut t [(p, Reg.snapCtl)] ∧ s.Only t [.reg, .page, .prg]) ∧
  (∀ (s : State) (p : Nat), s.stepDue 2 = true → s.rb p Reg.snapCtl 0 = true → (s.pg p).snapAt ≠ some s.clk.wale →
    Answers (.snapshotTake p) s fun t =>
      t.rb p Reg.snapCtl 0 = false ∧ t.rd p Reg.snapWale = BitVec.ofNat 32 s.wale ∧
        (∀ c i, i < 2 ^ 26 → p ≠ lfwPage ∨ s.lfw.ended = none →
          NMap.get (fun _ => 0) t.snap (ckey p c i) = s.ctrAt p c i) ∧
        (∀ c i m, i < 2 ^ 26 → p = lfwPage → s.lfw.ended = some m →
          NMap.get (fun _ => 0) t.snap (ckey p c i) = NMap.get (fun _ => 0) m (ckey p c i)) ∧
        (p = tsiPage → t.lnu.pmSnap = s.lnu.pm) ∧
        s.RegsBut t [(p, Reg.snapCtl), (p, Reg.snapWale)] ∧ s.Only t ([.clk, .snap, .snapTbl, .page, .lnu] ++ noted))

/-- R36, R63 to R66: what enables, disables, fences and resets a page. -/
def Obligations.PageControl : Prop :=
  (∀ (s : State) (src : Src) (p : Nat), s.Opens src p Reg.pageCtrl → pageType p ≠ 16 → s.enabled p = false →
    Answers (.pageEnWrite src p true) s fun t =>
      t.enabled p = true ∧ (onWale p = true → s.genState ≠ 2 → t.rf p Reg.pageReady 15 8 = 1) ∧ t.mem = s.mem) ∧
  (∀ (s : State) (src : Src) (p : Nat), s.Opens src p Reg.pageCtrl → pageType p ≠ 16 → s.enabled p = true →
    Answers (.pageEnWrite src p false) s fun t => t.enabled p = false ∧ (p ≠ 2 → t.ready p = false) ∧ t.mem = s.mem) ∧
  (∀ (s : State) (p : Nat), (s.pg p).initing = true → p ≠ drcPage → (s.drcReady = true ∨ needsDram p = false) →
    Answers (.pageInitDone p) s fun t => (t.pg p).initing = false ∧ s.Only t (.page :: past ++ noted) ∧
      (p ≠ cpePage → p ≠ lfwPage → s.Only t (.page :: noted))) ∧
  (∀ (s : State) (src : Src) (p : Nat), s.Opens src p Reg.pageCtrl → s.fenced p = false →
    Answers (.pageFence src p) s fun t => t.fenced p = true ∧ (p ≠ 2 → t.ready p = false) ∧ t.mem = s.mem) ∧
  (∀ (s : State) (p : Nat), s.fenced p = true → s.rb p Reg.pageCtrl 8 = false → pageExec p = none →
    Answers (.pageFenceDone p) s fun t =>
      t.rb p Reg.pageCtrl 8 = true ∧ s.RegsBut t [(p, Reg.pageCtrl)] ∧ s.Only t noted) ∧
  (∀ (s : State) (src : Src), s.Opens src crlPage Reg.pageCtrl →
    (s.enabled crlPage = false ∨ s.rb crlPage Reg.pageCtrl 8 = true) → s.armed crlPage = false →
    Answers (.pageReset src crlPage false) s fun t =>
      t.rb crlPage Reg.pageCtrl 9 = true ∧ t.enabled crlPage = false ∧ t.fenced crlPage = false ∧ t.crl = {} ∧
        (∀ o, o < 65536 → o ≠ Reg.pageCtrl → o ≠ Reg.pageReady → t.rd crlPage o = regDefault (rkey crlPage o)) ∧
        (∀ p o, p ≠ crlPage → o < 65536 → t.rd p o = s.rd p o) ∧ t.mem = s.mem) ∧
  (∀ (s : State) (p : Nat), (s.pg p).rstBusy = true → p ≠ rvePage ∨ s.rve.going = [] →
    Answers (.pageResetDone p) s fun t =>
      t.rb p Reg.pageCtrl 9 = false ∧ (t.pg p).rstBusy = false ∧ s.Only t (.page :: past ++ noted) ∧
        (p ≠ cpePage → p ≠ lfwPage → s.Only t (.page :: noted)))

/-- R67, R69, R72, R74, R76, R78, R79: commits of a page and of a group. -/
def Obligations.Commits : Prop :=
  (∀ (s : State) (src : Src) (p : Nat), s.Opens src p Reg.cmtCtl → s.layActive = false → (pageCaps p).cmt = true →
    s.armed p = false → s.rf p Reg.cmtCtl 20 16 = 0 → 1 ≤ s.ahead (s.rd p Reg.cmtWale).toNat →
    s.ahead (s.rd p Reg.cmtWale).toNat < 2 ^ 31 → s.validate p (s.rd p Reg.cmtWale).toNat = (s, 0) →
    Answers (.cmtArm src p) s fun t =>
      t.armed p = true ∧ t.rf p Reg.cmtStatus 15 8 = 0 ∧ t.rb p Reg.cmtCtl 0 = true ∧
        s.RegsBut t [(p, Reg.cmtStatus), (p, Reg.cmtCtl)] ∧ s.Only t [.reg, .prg]) ∧
  (∀ (s : State) (src : Src) (p : Nat), s.Opens src p Reg.cmtCtl → (pageCaps p).cmt = true → s.armed p = true →
    s.rf p Reg.cmtCtl 20 16 = 0 →
    Answers (.cmtDisarm src p) s fun t =>
      t.rf p Reg.cmtStatus 2 0 = 4 ∧ t.rf p Reg.cmtStatus 15 8 = 0x07 ∧
        t.rf p Reg.cmtStatus 31 24 = (s.rf p Reg.cmtStatus 31 24 + 1) % 256 ∧ t.rb p Reg.cmtCtl 0 = false ∧
        t.act = s.act ∧ t.tbl = s.tbl ∧ t.mem = s.mem) ∧
  (∀ (s : State) (p : Nat), s.stepDue 4 = true → s.armed p = true → s.rf p Reg.cmtCtl 20 16 = 0 →
    (s.rd p Reg.cmtWale).toNat = s.wale → s.enabled p = true → s.fenced p = false → (s.pg p).doomed = false →
    Answers (.commitApply p) s fun t =>
      t.rf p Reg.cmtStatus 2 0 = 2 ∧ t.rf p Reg.cmtStatus 15 8 = 0 ∧ t.rb p Reg.cmtCtl 0 = false ∧
        (p = iclPage → t.raf iclPage Reg.iclExc 12 0 = s.rf iclPage Reg.iclExc 12 0 ∧
          t.raf iclPage Reg.iclExcLimit 15 0 = s.rf iclPage Reg.iclExcLimit 15 0)) ∧
  (∀ (s : State) (src : Src) (g : Nat), s.Opens src 0 Reg.sysCgrpCtl → s.rf 0 Reg.sysCgrpSel 4 0 = g → g ≠ 0 →
    (s.group g).state ≠ 1 → (s.group g).state ≠ 2 → (s.group g).count ≠ 0 → 2 ≤ s.ahead (s.group g).target →
    s.ahead (s.group g).target < 2 ^ 31 →
    Answers (.cgrpArm src) s fun t =>
      (t.group g).state = 1 ∧ (t.group g).reason = 0 ∧ (∀ k, k ≠ g → t.group k = s.group k) ∧
        t.rb 0 Reg.sysCgrpCtl 0 = true ∧ t.rf 0 Reg.sysCgrpStatus 2 0 = 1 ∧ s.Only t [.reg, .cgrp, .prg]) ∧
  (∀ (s : State) (src : Src) (g : Nat), s.Opens src 0 Reg.sysCgrpCtl → s.rf 0 Reg.sysCgrpSel 4 0 = g → g ≠ 0 →
    (s.group g).state = 1 →
    Answers (.cgrpDisarm src) s fun t =>
      (t.group g).state = 5 ∧ (t.group g).reason = 0x07 ∧ (t.group g).seq = ((s.group g).seq + 1) % 16 ∧
        (∀ p ∈ s.members g, t.rf p Reg.cmtStatus 2 0 = 4 ∧ t.rf p Reg.cmtStatus 15 8 = 0x07) ∧
        s.Only t ([.cgrp, .page] ++ noted)) ∧
  (∀ (s : State) (g : Nat), s.stepDue 4 = true → (s.group g).state = 1 → (s.group g).target = (s.wale + 1) % 2 ^ 32 →
    (∀ p ∈ s.members g, s.enabled p = true ∧ s.fenced p = false) → (s.members g).length = (s.group g).count →
    Answers (.cgrpCheck g) s fun t =>
      (t.group g).state = 2 ∧ (∀ k, k ≠ g → t.group k = s.group k) ∧ s.Only t [.clk, .reg, .cgrp]) ∧
  (∀ (s : State) (g : Nat), s.stepDue 4 = true → (s.group g).state = 2 → (s.group g).due = s.wale →
    Answers (.cgrpApply g) s fun t => (t.group g).state = 3 ∧ (t.group g).reason = 0)

/-- R62, R84 to R86: the table window and the grant table. -/
def Obligations.TableWindow : Prop :=
  (∀ (s : State) (src : Src) (p : Nat) (v : Word) (d : TblDesc), s.Opens src p Reg.tblAddr → (pageCaps p).tbl = true →
    tableOf p (fld v 31 27) = some d → fld v 24 0 < d.entries →
    Answers (.tblAddrWrite src p v) s fun t =>
      t.rd p Reg.tblAddr = v ∧ (t.pg p).winOk = true ∧ (t.pg p).winPtr = 0 ∧ (t.pg p).winWords.length = d.words ∧
        s.RegsBut t [(p, Reg.tblAddr)] ∧ s.Only t [.reg, .page, .prg]) ∧
  (∀ (s : State) (src : Src) (p : Nat), s.Opens src p Reg.tblData → (pageCaps p).tbl = true → (s.pg p).winOk = true →
    (s.pg p).winPtr < (s.pg p).winWords.length →
    Answers (.tblDataRead src p) s fun t =>
      t.read = (s.pg p).winWords.getD (s.pg p).winPtr 0 ∧ (t.pg p).winPtr = (s.pg p).winPtr + 1 ∧
        s.Only t [.read, .page]) ∧
  (∀ (s : State) (src : Src) (p : Nat) (v : Word) (d : TblDesc), s.Opens src p Reg.tblData →
    tableOf p (s.rf p Reg.tblAddr 31 27) = some d → d.kind = .shadow → pageType p ≠ 14 → (s.pg p).winOk = true →
    (s.pg p).winPtr < (s.pg p).winWords.length → (s.pg p).winPtr + 1 < d.words →
    Answers (.tblDataWrite src p v) s fun t =>
      (t.pg p).winPtr = (s.pg p).winPtr + 1 ∧ (t.pg p).winWords = (s.pg p).winWords.set (s.pg p).winPtr v ∧
        s.Only t [.page, .prg]) ∧
  (∀ (s : State) (src : Src) (p tb e : Nat) (v : Word) (d : TblDesc), s.Opens src p Reg.tblData →
    s.rf p Reg.tblAddr 31 27 = tb → s.rf p Reg.tblAddr 24 0 = e → tableOf p tb = some d → d.kind = .shadow →
    pageType p ≠ 14 → (pageType p = 12 → tb = 1 → e ≠ 0) → s.armed p = false → (s.pg p).winOk = true →
    (s.pg p).winPtr < (s.pg p).winWords.length → (s.pg p).winPtr + 1 = d.words →
    Answers (.tblDataWrite src p v) s fun t =>
      (∀ i, i < d.masks.length →
        t.tw p tb 1 e i =
          (((s.pg p).winWords.set (s.pg p).winPtr v).getD i 0 &&& d.masks.getD i 0) |||
            (s.tw p tb 1 e i &&& ~~~d.masks.getD i 0)) ∧
        (∀ k, k ≠ tkey p tb 1 e → NMap.get tblDefault t.tbl k = NMap.get tblDefault s.tbl k) ∧
        s.Only t [.tbl, .page, .prg]) ∧
  (∀ (s : State) (w e : Nat) (src : Src) (v : Word), s.stepDue 4 = true → s.deferred = [⟨w, src, iclPage, 1, e, [v]⟩] →
    w ≠ s.clk.wale →
    Answers .tblWritebackDeferred s fun t =>
      t.deferred = [] ∧ t.tf iclPage 1 0 e 0 18 0 = fld v 18 0 ∧ s.Only t [.clk, .deferred, .tbl]) ∧
  (∀ (s : State) (e n : Nat) (v : Word), s.Opens .pf 0 Reg.tblData → 1 ≤ n → n ≤ 15 → e ≠ 2 →
    Answers (.grantTableWriteback .pf e v) s fun t =>
      t.granted (.vf n) e = bit v n ∧ (∀ k, k ≠ tkey 0 0 0 e → NMap.get tblDefault t.tbl k = NMap.get tblDefault s.tbl k) ∧
        s.Only t [.tbl, .prg])

/-- R31, R32, R34, R37, R123: the wale generator. -/
def Obligations.WaleGenerator : Prop :=
  (∀ (s : State) (src : Src) (v : Word), s.Opens src tmuPage Reg.tmuGridPhase → s.genState = 0 → fld v 21 0 < 2500000 →
    Answers (.gridPhaseWrite src v) s fun t =>
      t.gridPhase = fld v 21 0 ∧ s.RegsBut t [(tmuPage, Reg.tmuGridPhase)] ∧ s.Only t [.reg]) ∧
  (∀ (s : State) (src : Src) (v : Word), s.Opens src tmuPage Reg.tmuGridPhase → s.genState ≠ 0 →
    Answers (.gridPhaseWrite src v) s fun t => t.gridPhase = s.gridPhase ∧ s.RegsBut t [] ∧ s.Only t noted) ∧
  (∀ (s : State) (src : Src), s.Opens src tmuPage Reg.tmuWaleCtl → s.rb tmuPage Reg.tmuWaleCtl 0 = false →
    1000000000 ≤ s.now →
    Answers (.waleRunSet src) s fun t =>
      t.rb tmuPage Reg.tmuWaleCtl 0 = true ∧ t.genState = 1 ∧
        t.rd64 tmuPage Reg.tmuStartWale Reg.tmuStartWaleHi = (s.wale28 + 2) % 2 ^ 64 ∧
        s.RegsBut t [(tmuPage, Reg.tmuWaleCtl), (tmuPage, Reg.tmuStartWale), (tmuPage, Reg.tmuStartWaleHi)] ∧
        s.Only t [.clk, .reg]) ∧
  (∀ (s : State) (src : Src), s.Opens src tmuPage Reg.tmuWaleCtl → (∀ p ∈ s.enabledPages, onWale p = false) →
    Answers (.waleRunClear src) s fun t =>
      t.rb tmuPage Reg.tmuWaleCtl 0 = false ∧ t.genState = 0 ∧ t.clk.phase = 0 ∧
        s.RegsBut t [(tmuPage, Reg.tmuWaleCtl)] ∧ s.Only t [.clk, .reg]) ∧
  (∀ (s : State) (src : Src) (p : Nat), s.Opens src tmuPage Reg.tmuWaleCtl → p ∈ s.enabledPages → onWale p = true →
    Answers (.waleRunClear src) s fun t =>
      t.rd tmuPage Reg.tmuWaleCtl = s.rd tmuPage Reg.tmuWaleCtl ∧ s.Only t noted) ∧
  (∀ (s : State) (w : Nat), s.nextWale = some w → s.clk.first = false → s.prgState = 0 → s.standby = false →
    s.prg.swapAt = none → s.enabled lfwPage = false →
    Answers .waleStrobe s fun t =>
      t.clk.wale = w ∧ t.clk.phase = 1 ∧ t.genState = 2 ∧ t.wale = w % 2 ^ 32 ∧
        t.rd64 tmuPage Reg.tmuWale64 Reg.tmuWale64Hi = w % 2 ^ 64 ∧ t.act = s.act ∧ t.tbl = s.tbl ∧ t.mem = s.mem) ∧
  (∀ (s : State), s.genState = 2 →
    (if s.clk.fine < s.boundary s.clk.wale then s.boundary s.clk.wale else s.clk.fine + 1000) <
      s.boundary s.clk.wale + 2500000 →
    Answers .fineTick s fun t =>
      t.clk.fine = (if s.clk.fine < s.boundary s.clk.wale then s.boundary s.clk.wale else s.clk.fine + 1000) ∧
        t.clk.wale = s.clk.wale ∧ t.clk.phase = s.clk.phase ∧ t.tbl = s.tbl ∧ t.mem = s.mem)

/-- R38, R547 to R550, R553: the clock and its servo. -/
def Obligations.ClockControl : Prop :=
  (∀ s : State, s.Opens .qz tmuPage Reg.tmuAdjCtl → s.genState = 0 → s.rf tmuPage Reg.tmuSetNs 29 0 < 1000000000 →
    Answers (.adjSet .qz) s fun t =>
      t.clk.loc = (s.rd64 tmuPage Reg.tmuSetSec Reg.tmuSetSecHi % 2 ^ 48 * 1000000000 +
        s.rf tmuPage Reg.tmuSetNs 29 0) * unitsPerNs ∧
        t.rf tmuPage Reg.tmuAdjRes 3 0 = 0 ∧ t.rb tmuPage Reg.tmuStatus 4 = true ∧ t.rf tmuPage Reg.tmuStatus 1 0 = 0 ∧
        s.RegsBut t [(tmuPage, Reg.tmuAdjCtl), (tmuPage, Reg.tmuAdjRes), (tmuPage, Reg.tmuStatus),
          (tmuPage, Reg.tmuHoldWales), (tmuPage, Reg.tmuServo)] ∧ s.Only t (.clk :: .tmu :: .drc :: noted)) ∧
  (∀ s : State, s.Opens .qz tmuPage Reg.tmuAdjCtl → s.genState ≠ 0 →
    Answers (.adjSet .qz) s fun t =>
      t.rf tmuPage Reg.tmuAdjRes 3 0 = 2 ∧
        s.RegsBut t [(tmuPage, Reg.tmuAdjCtl), (tmuPage, Reg.tmuAdjRes)] ∧ s.Only t [.reg]) ∧
  (∀ s : State, s.Opens .qz tmuPage Reg.tmuAdjCtl →
    s.rf tmuPage Reg.tmuJumpThr 16 0 ≠ 0 →
    (s.rd tmuPage Reg.tmuStep).toInt.natAbs ≤ s.rf tmuPage Reg.tmuJumpThr 16 0 →
    Answers (.adjStep .qz) s fun t => ∃ u : State,
      u.clk.loc =
        ((s.clk.loc : Int) + (s.rd tmuPage Reg.tmuStep).toInt * unitsPerNs + clockWrap).toNat % clockWrap ∧
        u.rf tmuPage Reg.tmuAdjRes 3 0 = 0 ∧
        s.RegsBut u [(tmuPage, Reg.tmuAdjCtl), (tmuPage, Reg.tmuAdjRes), (tmuPage, Reg.tmuHoldWales)] ∧
        s.Only u (.clk :: .tmu :: .drc :: noted) ∧
        t = if 0 < (s.rd tmuPage Reg.tmuStep).toInt then u.strobeDue else u) ∧
  (∀ (s : State) (w : Nat), s.nextWale = some w →
    s.strobeDue = if s.boundary w ≤ s.now then s.strobe w else s) ∧
  (∀ s : State, s.Opens .qz tmuPage Reg.tmuAdjCtl →
    s.rf tmuPage Reg.tmuJumpThr 16 0 = 0 ∨
      s.rf tmuPage Reg.tmuJumpThr 16 0 < (s.rd tmuPage Reg.tmuStep).toInt.natAbs →
    Answers (.adjStep .qz) s fun t =>
      t.rf tmuPage Reg.tmuAdjRes 3 0 = 1 ∧ t.rb tmuPage Reg.tmuStatus 2 = true ∧
        s.RegsBut t [(tmuPage, Reg.tmuAdjCtl), (tmuPage, Reg.tmuAdjRes), (tmuPage, Reg.tmuStatus)] ∧ s.Only t noted) ∧
  (∀ (s : State) (v : Word), s.Opens .qz tmuPage Reg.tmuFreq →
    Answers (.freqWrite .qz v) s fun t =>
      t.rd tmuPage Reg.tmuFreq = v ∧ (t.rd tmuPage Reg.tmuFreqAct).toInt = max (-51200000) (min 51200000 v.toInt) ∧
        t.tmu = { s.tmu with servoCount := 0 } ∧ 
        s.RegsBut t [(tmuPage, Reg.tmuFreq), (tmuPage, Reg.tmuFreqAct), (tmuPage, Reg.tmuStatus), (tmuPage, Reg.tmuHoldWales)] ∧
        s.Only t (.tmu :: noted)) ∧
  (∀ (s : State) (v : Word), s.Opens .pf tmuPage Reg.tmuFreq →
    Answers (.freqWrite .pf v) s fun t => s.RegsBut t [] ∧ s.Only t noted) ∧
  (∀ (s : State) (locked : Bool), s.Opens .qz tmuPage Reg.tmuServo →
    Answers (.servoLockedWrite .qz locked) s fun t =>
      t.rb tmuPage Reg.tmuServo 0 = locked ∧ (locked = true → t.rf tmuPage Reg.tmuStatus 1 0 = 1) ∧
        (locked = false → s.rf tmuPage Reg.tmuStatus 1 0 = 1 → t.rf tmuPage Reg.tmuStatus 1 0 = 2) ∧
        s.RegsBut t [(tmuPage, Reg.tmuServo), (tmuPage, Reg.tmuStatus), (tmuPage, Reg.tmuHoldWales)] ∧ s.Only t noted) ∧
  (∀ s : State, s.rf tmuPage Reg.tmuStatus 1 0 = 1 → s.rf tmuPage Reg.tmuServo 31 16 ≤ s.tmu.servoCount →
    Answers .servoSilent s fun t =>
      t.rf tmuPage Reg.tmuStatus 1 0 = 2 ∧ t.rd tmuPage Reg.tmuHoldWales = 0 ∧
        s.RegsBut t [(tmuPage, Reg.tmuStatus), (tmuPage, Reg.tmuHoldWales)] ∧ s.Only t noted)

/-- R554, R555, R561 to R564, R567: PTP frames, timestamps and SYNCIN. -/
def Obligations.PtpAndSyncin : Prop :=
  (∀ (s : State) (f : PtpFrame) (r : List PtpFrame), s.tmu.rx = f :: r → s.ptpCause f = 0 →
    s.severed tmuPort = false →
    ((s.setTmu fun t => { t with rx := r }).colSend tmuPort (s.rf tmuPage Reg.tmuPtpRxq 11 0) (s.ptpPacket f)).2 = true →
    Answers .ptpRx s fun t =>
      t.tmu = { s.tmu with
        rx := r,
        delivered := NMap.set (fun _ => 0) s.tmu.delivered f.lane
          (NMap.get (fun _ => 0) s.tmu.delivered f.lane + 1) } ∧
        t.mem = ((s.setTmu fun t => { t with rx := r }).colSend tmuPort (s.rf tmuPage Reg.tmuPtpRxq 11 0)
          (s.ptpPacket f)).1.mem) ∧
  (∀ (s : State) (f : PtpFrame) (r : List PtpFrame), s.tmu.rx = f :: r → s.ptpCause f ≠ 0 →
    Answers .ptpRx s fun t =>
      t.tmu.rx = r ∧ t.tmu.delivered = s.tmu.delivered ∧ t.tmu.rxBad = true ∧ s.RegsBut t [] ∧
        s.Only t (.tmu :: noted)) ∧
  (∀ (s : State) (src : Src) (e : TxTs) (r : List TxTs), s.Opens src tmuPage Reg.tmuTxtsPop →
    s.txtsQ (s.rf tmuPage Reg.tmuTxtsSel 4 0) = e :: r →
    Answers (.txtsPop src e.id) s fun t =>
      t.txtsQ (s.rf tmuPage Reg.tmuTxtsSel 4 0) = r ∧
        (∀ k, k ≠ s.rf tmuPage Reg.tmuTxtsSel 4 0 → t.txtsQ k = s.txtsQ k) ∧
        s.RegsBut t [(tmuPage, Reg.tmuTxts0), (tmuPage, Reg.tmuTxts1)] ∧ s.Only t [.reg, .tmu]) ∧
  (∀ (s : State) (src : Src) (e : TxTs) (r : List TxTs) (id : Nat), s.Opens src tmuPage Reg.tmuTxtsPop →
    s.txtsQ (s.rf tmuPage Reg.tmuTxtsSel 4 0) = e :: r → id ≠ e.id →
    Answers (.txtsPop src id) s fun t => s.RegsBut t [] ∧ s.Only t noted) ∧
  (∀ (s : State) (lane : Nat) (w0 w1 : Word), s.Opens .qz tmuPage Reg.tblData →
    Answers (.tmuLatWriteback .qz lane w0 w1) s fun t =>
      t.tw tmuPage 0 0 lane 0 = w0 ∧ t.tw tmuPage 0 0 lane 1 = w1 &&& 1 ∧
        (∀ k, k ≠ tkey tmuPage 0 0 lane → NMap.get tblDefault t.tbl k = NMap.get tblDefault s.tbl k) ∧
        s.Only t [.tbl]) ∧
  (∀ (s : State) (edges : Nat) (freq : BitVec 24), s.rf tmuPage Reg.tmuSyncin 1 0 = 1 →
    Answers (.syncinMeasure edges freq) s fun t =>
      t.rf tmuPage Reg.tmuFreqMeas 23 0 = freq.toNat ∧
        t.rf tmuPage Reg.tmuFreqMeas 31 24 = (s.rf tmuPage Reg.tmuFreqMeas 31 24 + 1) % 256 ∧
        (9999000 ≤ edges ∧ edges ≤ 10001000 → t.rb tmuPage Reg.tmuStatus 3 = true) ∧
        s.RegsBut t [(tmuPage, Reg.tmuFreqMeas), (tmuPage, Reg.tmuStatus)] ∧ s.Only t [.reg]) ∧
  (∀ (s : State) (ns : Nat), s.rf tmuPage Reg.tmuSyncin 1 0 = 2 → s.inWale (s.now + ns) = true →
    Answers (.ppsEdge ns) s fun t =>
      t.clk = (s.advanceTo (s.now + ns)).clk ∧ t.rb tmuPage Reg.tmuPpsRes 0 = true ∧
        (t.rd tmuPage Reg.tmuPpsNs).toNat = t.now % 1000000000 ∧
        t.rd64 tmuPage Reg.tmuPpsSec Reg.tmuPpsSecHi = t.now / 1000000000 % 2 ^ 48 ∧ t.rb tmuPage Reg.tmuStatus 3 = true ∧
        t.tmu.lastEdge = some t.now ∧ s.Only t [.clk, .reg, .tmu, .ev, .drc]) ∧
  (∀ (s : State) (edges : Nat), s.rb tmuPage Reg.tmuStatus 3 = true → s.syncinLost edges = true →
    Answers (.tmuSyncinLoss edges) s fun t =>
      t.rb tmuPage Reg.tmuStatus 3 = false ∧ s.RegsBut t [(tmuPage, Reg.tmuStatus)] ∧ s.Only t noted) ∧
  (∀ s : State, s.rb tmuPage Reg.tmuStatus 4 = true → s.inWale ((s.now + 999999999) / 1000000000 * 1000000000) = true →
    Answers .ppsOutRise s fun t =>
      t.tmu.ppsOut = true ∧ t.tmu.ppsRise = (s.now + 999999999) / 1000000000 * 1000000000 ∧
        t.clk = (s.advanceTo t.tmu.ppsRise).clk ∧ s.Only t [.clk, .reg, .tmu, .ev, .drc]) ∧
  (∀ s : State, s.tmu.ppsOut = true → s.inWale (s.tmu.ppsRise + 100000000) = true →
    Answers .ppsOutFall s fun t =>
      t.tmu.ppsOut = false ∧ t.clk = (s.advanceTo (s.tmu.ppsRise + 100000000)).clk ∧ s.Only t [.clk, .reg, .tmu, .ev, .drc])

/-- R115, R116, R118, R120, R121, R123, R124, R128 to R130, R148: a task from its submission to its start. -/
def Obligations.TaskFlow : Prop :=
  (∀ (s : State) (port : Nat) (d : List Word), s.PortOpen port → s.submitStatus d = 0 →
    Answers (.taskSubmit port d) s fun t =>
      (t.task s.lowestId).st =
          (if dHasDelay d && !s.keyReached d s.now then 2 else if dDep d = 0 then 3 else 1) ∧
        (t.task s.lowestId).dep = dDep d ∧ dOwner (t.task s.lowestId).desc = s.portOwner port ∧
        (∀ k, k ≠ s.lowestId → t.task k = s.task k) ∧ t.rve.slot = s.rve.slot ∧ t.rve.run = s.rve.run ∧
        NMap.get (fun _ => (0, 0)) t.rve.ans port = (0, s.lowestId) ∧
        s.RegsBut t [(rvePage, Reg.rveInflight)] ∧ s.Only t ([.rve, .tbl, .mem, .col] ++ noted)) ∧
  (∀ s : State, s.Opens .pf rvePage Reg.rveSubmitGo → s.rve.going = [] → (s.pg rvePage).rstBusy = false →
    s.submitStatus s.regDesc = 0 →
    Answers (.taskSubmit 576 []) s fun t =>
      (t.task s.lowestId).dep = dDep s.regDesc ∧ t.rf rvePage Reg.rveSubmitRes 15 0 = s.lowestId ∧
        t.rf rvePage Reg.rveSubmitRes 19 16 = 0 ∧
        t.rf rvePage Reg.rveSubmitRes 31 24 = (s.rf rvePage Reg.rveSubmitRes 31 24 + 1) % 256) ∧
  (∀ s : State, s.Opens .pf rvePage Reg.rveSubmitGo → s.rve.going = [] → (s.pg rvePage).rstBusy = true →
    Answers (.taskSubmit 576 []) s fun t =>
      t.rve.going = [576] ∧ t.rve.tasks = s.rve.tasks ∧ s.RegsBut t [] ∧ s.Only t [.rve, .prg]) ∧
  (∀ s : State, s.Opens .pf rvePage Reg.rveSubmitGo → 576 ∈ s.rve.going → s.rb rvePage Reg.errInfo 31 = false →
    Answers (.taskSubmit 576 []) s fun t =>
      t.rf rvePage Reg.errInfo 19 16 = 9 ∧ t.rve = s.rve ∧ s.RegsBut t [] ∧ s.Only t noted) ∧
  (∀ (s : State) (port : Nat) (d : List Word), s.PortOpen port → s.submitStatus d ≠ 0 →
    Answers (.taskSubmit port d) s fun t =>
      t.rve.tasks = s.rve.tasks ∧ NMap.get (fun _ => (0, 0)) t.rve.ans port = (s.submitStatus d, 0) ∧ s.RegsBut t [] ∧
        s.Only t ([.rve, .tbl, .mem, .col] ++ noted)) ∧
  (∀ (s : State) (port id : Nat), (s.PortOpen port ∨ s.Opens (portSrc port) rvePage Reg.rveDecr) →
    s.alive id = true → (s.task id).dep ≠ 0 →
    Answers (.taskDecrement port id) s fun t =>
      (t.task id).dep = (s.task id).dep - 1 ∧
        (t.task id).st = (if (s.task id).dep = 1 ∧ (s.task id).st = 1 then 3 else (s.task id).st) ∧
        (∀ k, k ≠ id → t.task k = s.task k) ∧ s.RegsBut t [(rvePage, Reg.rveInflight)] ∧
        s.Only t ([.rve, .tbl, .mem, .col] ++ noted)) ∧
  (∀ (s : State) (l id : Nat) (x : Task), s.dlistFirst l = some (id, x) →
    s.keyReached x.desc (s.boundary s.wale64) = true → s.stepDue 6 = true →
    Answers (.delayListRelease l) s fun t =>
      t.clk.phase = 6 ∧ (t.task id).st = (if (s.task id).dep = 0 then 3 else 1) ∧
        (∀ k, k ≠ id → t.task k = s.task k) ∧ s.RegsBut t [(rvePage, Reg.rveInflight)] ∧
        s.Only t ([.clk, .rve, .tbl, .mem, .col] ++ noted)) ∧
  (∀ (s : State) (id e : Nat), s.enabled rvePage = true → s.raf rvePage Reg.rveCfg 0 0 = 1 →
    s.firstPlaced ((List.range 8).flatMap fun c => s.readyList c) = some (id, e) →
    Answers .taskDispatch s fun t =>
      t.slotOf e = some id ∧ (t.task id).st = 4 ∧ (t.task id).exec = e ∧ (∀ k, k ≠ e → t.slotOf k = s.slotOf k) ∧
        (∀ old, s.slotOf e = some old → old ≠ id → (t.task old).st = 3 ∧ (t.task old).exec = noExec) ∧
        t.rve.run = s.rve.run ∧ s.Only t ([.rve, .tbl, .mem, .col] ++ noted)) ∧
  (∀ (s : State) (id e : Nat), s.slotOf e = some id → s.execIdle e = true → s.mayDispatch e = true →
    Answers (.taskStart e) s fun t =>
      t.slotOf e = none ∧ t.runOf e = some id ∧ (t.task id).st = 5 ∧ (t.task id).exec = e ∧
        (∀ k, k ≠ id → t.task k = s.task k) ∧ (e < 512 → (t.core e).ph = 1 ∧ (t.core e).task = id))

/-- R121, R132 to R135, R137, R139: how tasks end. -/
def Obligations.TaskEnds : Prop :=
  (∀ (s : State) (e id : Nat) (v : Word), s.runOf e = some id → (s.task id).st = 5 → (s.task id).exec = e → e < 512 →
    (s.core e).ph = 2 →
    ((s.core e).faulted = true ∨ ((s.core e).chansIdle 15 = true ∧ (s.core e).fabIdle = true)) →
    Answers (.taskComplete e v) s fun t =>
      t.runOf e = none ∧ (t.core e).ph = 0 ∧ t.alive id = false ∧
        (dNotify (s.task id).desc = false → (t.task id).st = 0) ∧ t.rve.slot = s.rve.slot ∧
        (s.pastDeadline id = false →
          t.ctrAt rvePage .rveCompleted 0 = (s.ctrAt rvePage .rveCompleted 0 + 1) % 2 ^ 64) ∧
        (s.pastDeadline id = true → t.Told rvePage .rveDeadline ∧
          t.ctrAt rvePage .rveAbortDeadline 0 = min (s.ctrAt rvePage .rveAbortDeadline 0 + 1) (2 ^ 32 - 1))) ∧
  (∀ (s : State) (n id : Nat) (v : Word), s.runOf (512 + n) = some id → n < 16 → s.encReady n id = true →
    s.encFits n id = true → s.pastDeadline id = false →
    Answers (.taskComplete (512 + n) v) s fun t =>
      t.runOf (512 + n) = none ∧ (t.encoder n).pic = none ∧ t.alive id = false) ∧
  (∀ (s : State) (n id : Nat) (v : Word), s.runOf (512 + n) = some id → n < 16 → s.encFits n id = false →
    Answers (.taskComplete (512 + n) v) s fun t => t = s) ∧
  (∀ (s : State) (e id : Nat), s.runOf e = some id → (s.task id).st = 5 → (s.task id).exec = e →
    (if e < 512 then s.wdsFree e = true ∧ s.inBudget e = false
     else dBudget (s.task id).desc ≤ s.vceCycles id ∧ (e < 528 → s.encFits (e - 512) id = false)) →
    Answers (.budgetAbort e) s fun t =>
      t.runOf e = none ∧ t.alive id = false ∧ (e < 512 → (t.core e).ph = 0) ∧
        t.ctrAt rvePage .rveAbortBudget 0 = min (s.ctrAt rvePage .rveAbortBudget 0 + 1) (2 ^ 32 - 1)) ∧
  (∀ (s : State) (id : Nat), s.stepDue 3 = true → s.following = false → s.alive id = true →
    dHasDeadline (s.task id).desc = true → waleLe (dDeadline (s.task id).desc) s.wale = true →
    Answers (.deadlineAbort id) s fun t => t.clk.phase = 3 ∧ t.alive id = false) ∧
  (∀ (s : State) (src : Src) (id : Nat), s.Opens src rvePage Reg.rveAbort → s.alive id = true →
    Answers (.abortTask src id) s fun t =>
      t.alive id = false ∧ t.rf rvePage Reg.rveAbortRes 16 0 = 1 ∧
        t.rf rvePage Reg.rveAbortRes 31 24 = (s.rf rvePage Reg.rveAbortRes 31 24 + 1) % 256) ∧
  (∀ (s : State) (src : Src) (id : Nat), s.Opens src rvePage Reg.rveAbort → s.alive id = false →
    Answers (.abortTask src id) s fun t =>
      t.rve = s.rve ∧ t.rf rvePage Reg.rveAbortRes 16 0 = 0 ∧ s.RegsBut t [(rvePage, Reg.rveAbortRes)] ∧
        s.Only t [.reg, .prg]) ∧
  (∀ (s : State) (src : Src) (owner : Nat), s.Opens src rvePage Reg.rveAbort →
    Answers (.abortOwner src owner) s fun t =>
      ∀ id, 1 ≤ (s.task id).st → (s.task id).st ≤ 4 → dOwner (s.task id).desc = owner → t.alive id = false) ∧
  (∀ (s : State) (id : Nat), (s.task id).st = 6 → (s.task id).record.isSome = true →
    s.qOn (dCompq (s.task id).desc) = false →
    Answers (.completionRecordWrite id) s fun t =>
      (t.task id).st = 0 ∧ (∀ k, k ≠ id → t.task k = s.task k) ∧
        t.ctrAt rvePage .rveCompLost 0 = min (s.ctrAt rvePage .rveCompLost 0 + 1) (2 ^ 32 - 1)) ∧
  (∀ (s : State) (id status wale cycles : Nat) (v : Word), (s.task id).st = 6 →
    (s.task id).record = some (status, v, wale, cycles) → s.qOn (dCompq (s.task id).desc) = true →
    s.qCredit rvePort (dCompq (s.task id).desc) 16 = true →
    Answers (.completionRecordWrite id) s fun t =>
      (t.task id).st = 0 ∧
        t.mem = (s.colSend rvePort (dCompq (s.task id).desc) (recordBytes id status v wale cycles)).1.mem) ∧
  (∀ (s : State) (id : Nat), (s.task id).st = 6 → (s.task id).record.isSome = true →
    s.qOn (dCompq (s.task id).desc) = true → s.qCredit rvePort (dCompq (s.task id).desc) 16 = false →
    Answers (.completionRecordWrite id) s fun t => t = s) ∧
  (∀ (s : State) (src : Src) (id k : Nat), s.Opens src rvePage Reg.rveAbort → s.alive id = true →
    dSucc (s.task id).desc = [k] → k ≠ id → s.alive k = true → (s.task k).dep ≠ 0 →
    Answers (.abortTask src id) s fun t => (t.task k).dep = (s.task k).dep - 1)

/-- R140, R141, R375, R376: service images. -/
def Obligations.ServiceImages : Prop :=
  (∀ (s : State) (image : Nat) (w0 w1 w2 w3 : Word), s.Opens .qz rvePage Reg.tblData → s.imageResident image = false →
    s.imageNamed image = false → w0.toNat % 64 = 0 → w2.toNat ≠ 0 → w2.toNat % 4 = 0 → w2.toNat ≤ 32768 →
    s.drcReady = true →
    Answers (.imageRegistryWrite .qz image [w0, w1, w2, w3]) s fun t =>
      t.imageAddr image = w0.toNat + w1.toNat * 2 ^ 32 ∧ t.imageLen image = w2.toNat ∧
        t.tf rvePage 1 0 image 3 1 0 = 1 ∧
        (∀ k, k ≠ tkey rvePage 1 0 image → NMap.get tblDefault t.tbl k = NMap.get tblDefault s.tbl k) ∧
        s.Only t [.tbl]) ∧
  (∀ (s : State) (image : Nat) (ws : List Word), s.Opens .pf rvePage Reg.tblData → s.standby = false →
    Answers (.imageRegistryWrite .pf image ws) s fun t => t.tbl = s.tbl ∧ s.RegsBut t []) ∧
  (∀ (s : State) (image : Nat), s.tf rvePage 1 0 image 3 1 0 = 1 →
    (∀ w ∈ s.dramWords (s.imageAddr image) (s.imageLen image / 4), testOnly w = false) →
    Answers (.imageScanDone image) s fun t =>
      t.tf rvePage 1 0 image 3 1 0 = 2 ∧
        (∀ k, k ≠ tkey rvePage 1 0 image → NMap.get tblDefault t.tbl k = NMap.get tblDefault s.tbl k) ∧
        s.Only t [.tbl]) ∧
  (∀ (s : State) (image : Nat) (w : Word), s.tf rvePage 1 0 image 3 1 0 = 1 →
    w ∈ s.dramWords (s.imageAddr image) (s.imageLen image / 4) → testOnly w = true →
    Answers (.imageScanDone image) s fun t =>
      t.tf rvePage 1 0 image 3 1 0 = 3 ∧ s.RegsBut t [] ∧ s.Only t (.tbl :: noted)) ∧
  (∀ (s : State) (src : Src) (n image : Nat), n < 512 → s.Opens src (wdsPage n) Reg.wdsLoad →
    (s.core n).loading = none → s.loadRefused n image = 0 →
    Answers (.wdsLoad src n image) s fun t =>
      (t.core n).loading = some image ∧ t.rb (wdsPage n) Reg.wdsStatus 2 = false ∧
        (∀ k, k ≠ n → t.core k = s.core k) ∧
        s.RegsBut t [(wdsPage n, Reg.wdsLoad), (wdsPage n, Reg.wdsStatus), (wdsPage n, Reg.pageReady)]) ∧
  (∀ (s : State) (src : Src) (n image : Nat), n < 512 → s.Opens src (wdsPage n) Reg.wdsLoad →
    (s.core n).loading = none → s.loadRefused n image ≠ 0 →
    Answers (.wdsLoad src n image) s fun t =>
      t.cores = s.cores ∧ s.RegsBut t [(wdsPage n, Reg.wdsLoad)] ∧ s.Only t noted) ∧
  (∀ (s : State) (n image : Nat), n < 512 → (s.core n).loading = some image →
    s.poisonedAt (s.imageAddr image) (s.imageLen image) = false →
    s.poisonedAt (s.imageAddr image + constOfs) constLen = false →
    Answers (.wdsLoaded n) s fun t =>
      (t.core n).loading = none ∧ (t.core n).codeLen = s.imageLen image / 4 ∧ t.rb (wdsPage n) Reg.wdsStatus 2 = true ∧
        t.rf (wdsPage n) Reg.wdsStatus 25 16 = image % 1024 ∧ t.tf rvePage 0 0 n 0 25 16 = image % 1024 ∧
        (∀ i, i < s.imageLen image / 4 →
          NMap.get word0 (t.core n).imem i =
            BitVec.ofNat 32 (leNat (s.dramBytes (s.imageAddr image + 4 * i) 4))) ∧
        (∀ k, k ≠ n → t.core k = s.core k)) ∧
  (∀ (s : State) (n image : Nat), n < 512 → (s.core n).loading = some image →
    s.poisonedAt (s.imageAddr image) (s.imageLen image) = true →
    Answers (.wdsLoaded n) s fun t =>
      (t.core n).loading = none ∧ (t.core n).imem = (s.core n).imem ∧ (t.core n).dmem = (s.core n).dmem ∧
        t.tbl = s.tbl ∧ s.RegsBut t [(wdsPage n, Reg.wdsStatus)])

/-- R86, R152 to R155, R158, R161 to R163, R191: Creel. -/
def Obligations.CreelBuffers : Prop :=
  (∀ (s : State) (port : Nat) (v : Word), s.Opens .pf crlPage Reg.tblData → port < 593 → fld v 7 0 ≠ 255 →
    Answers (.ownerMapWriteback .pf port v) s fun t =>
      t.portOwner port = fld v 7 0 ∧ (∀ k, k < 593 → k ≠ port → t.portOwner k = s.portOwner k) ∧ s.Only t [.tbl, .prg]) ∧
  (∀ (s : State) (src : Src) (pool : Nat) (ws : List Word), s.Opens src crlPage Reg.tblData →
    s.paired = false → s.poolState pool = 0 → pool < 64 →
    fld ((poolMask ws).getD 3 0) 6 6 = 1 → s.poolOk pool (poolMask ws) = true →
    Answers (.poolWriteback src pool ws) s fun t =>
      t.poolState pool = 1 ∧ t.poolCount pool = fld (ws.getD 2 0) 26 0 ∧
        t.poolBase pool = (ws.getD 0 0).toNat + (ws.getD 1 0).toNat * 2 ^ 32 ∧
        (∀ k, k ≠ pool → k < 64 → t.poolState k = s.poolState k) ∧ s.Only t [.tbl]) ∧
  (∀ (s : State) (src : Src) (pool : Nat) (ws : List Word), s.Opens src crlPage Reg.tblData → s.paired = true →
    Answers (.poolWriteback src pool ws) s fun t =>
      t.deferred = s.deferred ++ [⟨s.clk.wale, src, crlPage, 0, pool, ws⟩] ∧ s.Only t [.deferred, .prg]) ∧
  (∀ (s : State) (pool : Nat), s.poolState pool = 1 →
    Answers (.poolReady pool) s fun t =>
      t.poolState pool = 2 ∧ t.tf crlPage 0 0 pool 6 26 0 = s.poolCount pool ∧
        (∀ i, i < 2 ^ 26 → t.owners (pool * 2 ^ 26 + i) = []) ∧
        (∀ h, h / 2 ^ 26 ≠ pool → t.owners h = s.owners h) ∧ t.mem = { s.mem with poison := t.mem.poison } ∧
        (∀ l, l ∈ t.mem.poison → l ∈ s.mem.poison) ∧ s.RegsBut t [] ∧ s.Only t (.tbl :: .mem :: .crl :: noted)) ∧
  (∀ (s : State) (port pool i : Nat), s.PortOpen port → s.poolState pool = 2 → s.lowestFree pool = some i →
    s.metaPoison (pool * 2 ^ 26 + i) = none →
    Answers (.alloc port pool) s fun t =>
      t.owners (pool * 2 ^ 26 + i) = [s.portOwner port] ∧ NMap.get (fun _ => {}) t.crl.ans port = ⟨0, pool * 2 ^ 26 + i⟩ ∧
        (∀ h, h ≠ pool * 2 ^ 26 + i → t.owners h = s.owners h) ∧ s.RegsBut t [] ∧ s.Only t (.tbl :: .crl :: noted)) ∧
  (∀ (s : State) (pool i : Nat), s.Opens .pf crlPage Reg.crlReq → s.Opens .pf crlPage Reg.crlReqHandle →
    s.Opens .pf crlPage Reg.crlReqGo → s.poolState pool = 2 → s.lowestFree pool = some i →
    s.metaPoison (pool * 2 ^ 26 + i) = none →
    Answers (.alloc 576 pool) s fun t =>
      t.owners (pool * 2 ^ 26 + i) = [s.portOwner 576] ∧ t.rf crlPage Reg.crlReqRes 3 0 = 0 ∧
        (t.rd crlPage Reg.crlReqResHandle).toNat = (pool * 2 ^ 26 + i) % 2 ^ 32 ∧
        t.rf crlPage Reg.crlReqRes 31 24 = (s.rf crlPage Reg.crlReqRes 31 24 + 1) % 256) ∧
  (∀ (s : State) (port pool : Nat), port < 576 → s.severed port = true → Answers (.alloc port pool) s fun t => t = s) ∧
  (∀ (s : State) (port owner : Nat) (h : Word), s.PortOpen port → s.crlCheck 2 (s.portOwner port) h.toNat owner = 0 →
    Answers (.add port h owner) s fun t =>
      t.owners h.toNat = s.owners h.toNat ++ [owner] ∧ (∀ k, k ≠ h.toNat → t.owners k = s.owners k) ∧
        s.Only t [.crl]) ∧
  (∀ (s : State) (port : Nat) (h : Word), s.PortOpen port → s.crlCheck 3 (s.portOwner port) h.toNat 0 = 0 →
    Answers (.drop port h) s fun t =>
      t.owners h.toNat = (s.owners h.toNat).filter (· ≠ s.portOwner port) ∧
        (∀ k, k ≠ h.toNat → t.owners k = s.owners k) ∧ s.Only t [.crl]) ∧
  (∀ (s : State) (port : Nat) (h : Word), s.PortOpen port → s.crlCheck 4 (s.portOwner port) h.toNat 0 = 0 →
    Answers (.free port h) s fun t =>
      t.owners h.toNat = [] ∧ (∀ k, k ≠ h.toNat → t.owners k = s.owners k) ∧ s.RegsBut t [] ∧
        s.Only t (.tbl :: .crl :: noted)) ∧
  (∀ (s : State) (port : Nat) (h : Word), s.PortOpen port → s.crlCheck 4 (s.portOwner port) h.toNat 0 ≠ 0 →
    Answers (.free port h) s fun t =>
      t.crl.own = s.crl.own ∧ (NMap.get (fun _ => {}) t.crl.ans port).status = s.crlCheck 4 (s.portOwner port) h.toNat 0)

/-- R166 to R168, R189: reclaim by owner. -/
def Obligations.ReclaimByOwner : Prop :=
  (∀ (s : State) (src : Src) (o : Nat), s.Opens src crlPage Reg.crlReclaim → s.crl.reclaim = none →
    s.firstUnfenced o = none →
    Answers (.creelReclaim src o) s fun t =>
      t.crl.reclaim = some o ∧ t.rf crlPage Reg.crlReclaimRes 1 0 = 1 ∧
        (∀ h, s.poolState (h / 2 ^ 26) = 2 → s.metaPoison h = none → t.owners h = (s.owners h).filter (· ≠ o)) ∧
        (∀ h, s.poolState (h / 2 ^ 26) ≠ 2 ∨ (s.metaPoison h).isSome = true → t.owners h = s.owners h) ∧
        s.RegsBut t [(crlPage, Reg.crlReclaimRes)] ∧ s.Only t (.tbl :: .crl :: noted)) ∧
  (∀ (s : State) (src : Src) (o : Nat), s.Opens src crlPage Reg.crlReclaim →
    s.crl.reclaim.isSome = true ∨ (s.firstUnfenced o).isSome = true →
    Answers (.creelReclaim src o) s fun t =>
      t.rf crlPage Reg.crlReclaimRes 1 0 = 3 ∧
        t.rf crlPage Reg.crlReclaimRes 31 24 = (s.rf crlPage Reg.crlReclaimRes 31 24 + 1) % 256 ∧
        s.RegsBut t [(crlPage, Reg.crlReclaimRes)] ∧ s.Only t noted) ∧
  (∀ (s : State) (o : Nat), s.crl.reclaim = some o →
    Answers .crlReclaimDone s fun t =>
      t.crl.reclaim = none ∧ t.crl.own = s.crl.own ∧ t.rf crlPage Reg.crlReclaimRes 1 0 = 2 ∧
        s.RegsBut t [(crlPage, Reg.crlReclaimRes)] ∧ s.Only t (.crl :: noted)) ∧
  (∀ (s : State) (src : Src) (o : Nat), s.Opens src colPage Reg.colReclaim → s.col.reclaim = none →
    s.firstUnfenced o = none →
    Answers (.coilReclaim src o) s fun t =>
      t.col.reclaim = some o ∧ t.rf colPage Reg.colReclaimRes 1 0 = 1 ∧
        (∀ g ws, (g, ws) ∈ s.tlist colPage 1 0 → s.portOwner (fld (ws.getD 0 0) 21 12) = o →
          t.tf colPage 1 0 g 0 22 22 = 0)) ∧
  (∀ (s : State) (src : Src) (o : Nat), s.Opens src colPage Reg.colReclaim →
    s.col.reclaim.isSome = true ∨ (s.firstUnfenced o).isSome = true →
    Answers (.coilReclaim src o) s fun t =>
      t.rf colPage Reg.colReclaimRes 1 0 = 3 ∧ s.RegsBut t [(colPage, Reg.colReclaimRes)] ∧ s.Only t noted) ∧
  (∀ (s : State) (o : Nat), s.col.reclaim = some o →
    Answers .colReclaimDone s fun t =>
      t.col.reclaim = none ∧ t.col.q = s.col.q ∧ t.rf colPage Reg.colReclaimRes 1 0 = 2 ∧
        s.RegsBut t [(colPage, Reg.colReclaimRes)] ∧ s.Only t (.col :: noted))

/-- R171 to R173, R177, R178, R180, R182, R183, R185, R186, R193: Coil. -/
def Obligations.CoilQueues : Prop :=
  (∀ (s : State) (src : Src) (q : Nat) (ws : List Word), s.Opens src colPage Reg.tblData → s.paired = false → q ≠ 0 →
    fld ((queueMask ws).getD 2 0) 6 6 = 1 → queueOk (queueMask ws) = true → s.tf colPage 0 0 q 2 6 6 = 0 →
    Answers (.coilQueueWriteback src q ws) s fun t =>
      t.qOn q = true ∧ t.cq q = ColQ.init ∧ t.qConsumer q = fld (ws.getD 2 0) 16 7 ∧
        (∀ k, k ≠ q → t.cq k = s.cq k) ∧ s.Only t [.tbl, .col]) ∧
  (∀ (s : State) (src : Src) (g : Nat) (w0 w1 : Word) (ws : List Word), s.Opens src colPage Reg.tblData →
    s.paired = false → fld w0 11 0 ≠ 0 → fld w0 22 22 = 1 → fld w0 21 12 ≤ 592 → s.tf colPage 1 0 g 0 22 22 = 0 →
    s.allotSum (fld w0 11 0) g + fld w1 21 0 ≤ 2 ^ (s.tf colPage 0 0 (fld w0 11 0) 2 4 0 - 4) →
    s.grantOf (fld w0 11 0) (fld w0 21 12) = none → g ∉ s.col.reclaimed →
    Answers (.coilGrantWriteback src g (w0 :: w1 :: ws)) s fun t =>
      t.tf colPage 1 0 g 0 22 0 = fld w0 22 0 ∧ t.grantAvail g = fld w1 21 0 ∧
        (∀ k, k ≠ tkey colPage 1 0 g → NMap.get tblDefault t.tbl k = NMap.get tblDefault s.tbl k) ∧ s.Only t [.tbl]) ∧
  (∀ (s : State) (port q size g : Nat), s.PortOpen port → s.qOn q = true → s.grantOf q port = some g → size ≤ 65528 →
    (size + 8 + 15) / 16 ≤ s.grantAvail g →
    Answers (.reserve port q size) s fun t =>
      t.colAnsOf port = ⟨0, (s.cq q).wr, 0⟩ ∧
        t.grantAvail g = s.grantAvail g - (size + 8 + 15) / 16 ∧
        (t.cq q).wr = ((s.cq q).wr + 16 * ((size + 8 + 15) / 16)) % 2 ^ 32 ∧ (t.cq q).rd = (s.cq q).rd ∧
        (∀ k, k ≠ q → t.cq k = s.cq k) ∧ s.RegsBut t [] ∧ s.Only t ([.tbl, .mem, .col] ++ noted)) ∧
  (∀ (s : State) (q size g : Nat), s.Opens .pf colPage Reg.colOp → s.Opens .pf colPage Reg.colOpArg →
    s.Opens .pf colPage Reg.colOpLen → s.Opens .pf colPage Reg.colOpGo → s.qOn q = true → s.grantOf q 576 = some g →
    size ≤ 65528 → (size + 8 + 15) / 16 ≤ s.grantAvail g →
    Answers (.reserve 576 q size) s fun t =>
      t.rf colPage Reg.colOpRes 3 0 = 0 ∧ (t.rd colPage Reg.colOpResOfs).toNat = (s.cq q).wr % 2 ^ 32 ∧
        t.rf colPage Reg.colOpRes 31 24 = (s.rf colPage Reg.colOpRes 31 24 + 1) % 256 ∧
        (t.cq q).wr = ((s.cq q).wr + 16 * ((size + 8 + 15) / 16)) % 2 ^ 32) ∧
  (∀ (s : State) (port q size : Nat), port < 576 → s.severed port = true → Answers (.reserve port q size) s fun t => t = s) ∧
  (∀ (s : State) (port q size : Nat), s.PortOpen port → s.qOn q = true → s.grantOf q port = none →
    Answers (.reserve port q size) s fun t =>
      (t.colAnsOf port).status = 2 ∧ t.col.q = s.col.q ∧ s.RegsBut t [] ∧ s.Only t (.col :: noted)) ∧
  (∀ (s : State) (port q len : Nat) (skip : Bool) (r : Resv), s.PortOpen port → s.qOn q = true →
    (s.cq q).resv.find? (fun x => decide (x.ofs = r.ofs ∧ x.port = port)) = some r → len ≤ 16 * r.units - 8 →
    Answers (.commit port q r.ofs len skip) s fun t =>
      (t.colAnsOf port).status = 0 ∧ (t.cq q).resv = (s.cq q).resv.filter (fun x => x.ofs ≠ r.ofs) ∧
        (t.cq q).wr = (s.cq q).wr ∧ (∀ k, k ≠ q → t.cq k = s.cq k) ∧ s.Only t [.mem, .col]) ∧
  (∀ (s : State) (port q : Nat), s.PortOpen port → s.qOn q = true → s.qConsumer q = port → (s.cq q).rd ≠ (s.cq q).wr →
    s.hdrBad q (s.cq q).rd = false → (s.qHdr q (s.cq q).rd).done = true → (s.qHdr q (s.cq q).rd).skip = false →
    Answers (.next port q) s fun t =>
      t.colAnsOf port = ⟨0, (s.cq q).rd, (s.qHdr q (s.cq q).rd).len⟩ ∧
        (t.cq q).rd = ((s.cq q).rd + 16 * (s.qHdr q (s.cq q).rd).units) % 2 ^ 32 ∧ (t.cq q).rel = (s.cq q).rel ∧
        (∀ k, k ≠ q → t.cq k = s.cq k) ∧ s.Only t (.col :: noted)) ∧
  (∀ (s : State) (port q : Nat), s.PortOpen port → s.qOn q = true → s.qConsumer q = port → (s.cq q).rd = (s.cq q).wr →
    Answers (.next port q) s fun t =>
      (t.colAnsOf port).status = 1 ∧ t.col.q = s.col.q ∧ s.Only t [.col]) ∧
  (∀ (s : State) (port q : Nat), s.PortOpen port → s.qOn q = true → s.qConsumer q ≠ port →
    Answers (.next port q) s fun t => (t.colAnsOf port).status = 4 ∧ t.col.q = s.col.q ∧ s.Only t (.col :: noted)) ∧
  (∀ (s : State) (port q : Nat) (hs : List ColHdr), s.PortOpen port → s.qOn q = true → s.qConsumer q = port →
    (s.relWalk q (s.cq q).rd (qFuel (s.cq q).rel (s.cq q).rd) (s.cq q).rel []).1 = some hs →
    Answers (.release port q (s.cq q).rd) s fun t =>
      (t.colAnsOf port).status = 0 ∧ (t.cq q).rel = (s.cq q).rd ∧ (t.cq q).rd = (s.cq q).rd ∧
        (t.cq q).wr = (s.cq q).wr ∧ (∀ k, k ≠ q → t.cq k = s.cq k) ∧ s.Only t ([.tbl, .col] ++ noted)) ∧
  (∀ (s : State) (port q : Nat), s.PortOpen port → s.qOn q = true → s.qConsumer q = port →
    Answers (.mark port q) s fun t =>
      (t.colAnsOf port).status = 0 ∧ t.cq q = { s.cq q with bight := (s.cq q).rd, bset := true, stale := false } ∧
        (∀ k, k ≠ q → t.cq k = s.cq k) ∧ s.Only t [.col]) ∧
  (∀ (s : State) (port q : Nat), s.PortOpen port → s.qOn q = true → s.qConsumer q = port → (s.cq q).bset = true →
    (s.cq q).stale = false →
    Answers (.rewind port q) s fun t =>
      (t.colAnsOf port).status = 0 ∧ t.cq q = { s.cq q with rd := (s.cq q).bight } ∧
        (∀ k, k ≠ q → t.cq k = s.cq k) ∧ s.Only t [.col]) ∧
  (∀ (s : State) (port q : Nat), s.PortOpen port → s.qOn q = true → s.qConsumer q = port →
    (s.cq q).bset = false ∨ (s.cq q).stale = true →
    Answers (.rewind port q) s fun t =>
      (t.colAnsOf port).status = 7 ∧ t.col.q = s.col.q ∧ s.RegsBut t [] ∧ s.Only t (.col :: noted))

/-- R197 to R200, R203, R205, R209, R210, R214, R227: the receive side. -/
def Obligations.ReceiveSide : Prop :=
  (∀ (s : State) (lane : Nat), s.laneValid lane = true →
    Answers (.ethLinkUp lane) s fun t =>
      t.rb (ethPage lane) Reg.ethLink (lane % 4) = true ∧ s.RegsBut t [(ethPage lane, Reg.ethLink)] ∧ s.Only t noted) ∧
  (∀ (s : State) (lane : Nat), s.rb (ethPage lane) Reg.ethLink (lane % 4) = true →
    Answers (.ethLinkDown lane) s fun t =>
      t.rb (ethPage lane) Reg.ethLink (lane % 4) = false ∧ t.rb (ethPage lane) Reg.ethLink (4 + lane % 4) = false ∧
        s.RegsBut t [(ethPage lane, Reg.ethLink)] ∧ s.Only t noted) ∧
  (∀ (s : State) (lane : Nat) (up : Bool), s.laneValid lane = true →
    Answers (.ethHiSer lane up) s fun t =>
      t.rb (ethPage lane) Reg.ethLink (4 + lane % 4) = up ∧ s.RegsBut t [(ethPage lane, Reg.ethLink)] ∧ s.Only t noted) ∧
  (∀ (s : State) (lane h fec : Nat) (bytes : List Byte), s.ready (ethPage lane) = true → s.laneValid lane = true →
    s.rb (ethPage lane) Reg.ethLink (lane % 4) = true →
    ((s.fecCount lane fec).frameCount lane (bytes.length + 4) true |>.crlAlloc iclPort
      (s.raf (ethPage lane) Reg.ethPortCfg 7 2)).2 = some h → 60 ≤ bytes.length →
    bytes.length + 4 ≤ s.raf (ethPage lane) Reg.ethPortCfg 29 16 → fb16 bytes 12 ≠ 0x8808 →
    Answers (.ethRxFrame lane bytes ⟨true, fec⟩) s fun t =>
      t.icl = { s.icl with rx := s.icl.rx ++ [⟨lane, s.ingressTs lane, bytes, bytes.length + 4, h⟩] } ∧
        t.owners h = [s.portOwner iclPort] ∧ (∀ k, k ≠ h → t.owners k = s.owners k) ∧ s.RegsBut t []) ∧
  (∀ (s : State) (lane h fec : Nat) (bytes : List Byte), s.ready (ethPage lane) = true → s.laneValid lane = true →
    s.rb (ethPage lane) Reg.ethLink (lane % 4) = true →
    ((s.fecCount lane fec).crlAlloc iclPort (s.raf (ethPage lane) Reg.ethPortCfg 7 2)).2 = some h → 60 ≤ bytes.length →
    bytes.length + 4 ≤ s.raf (ethPage lane) Reg.ethPortCfg 29 16 →
    Answers (.ethRxFrame lane bytes ⟨false, fec⟩) s fun t =>
      t.icl = s.icl ∧ t.mem = s.mem ∧
        t.ctrAt (ethPage lane) .ethFcsErr (lane % 4) =
          min (s.ctrAt (ethPage lane) .ethFcsErr (lane % 4) + 1) (2 ^ 32 - 1) ∧
        t.ctrAt (ethPage lane) .ethRxFrames (lane % 4) = s.ctrAt (ethPage lane) .ethRxFrames (lane % 4) ∧
        t.ctrAt (ethPage lane) .ethFecUncorr (lane % 4) =
          min (s.ctrAt (ethPage lane) .ethFecUncorr (lane % 4) + fec) (2 ^ 32 - 1)) ∧
  (∀ (s : State) (lane fec : Nat) (bytes : List Byte) (ok : Bool), s.ready (ethPage lane) = false →
    Answers (.ethRxFrame lane bytes ⟨ok, fec⟩) s fun t =>
      t = s.fecCount lane fec ∧
        (s.laneValid lane = true → s.rb (ethPage lane) Reg.ethLink (lane % 4) = true →
          t.ctrAt (ethPage lane) .ethFecUncorr (lane % 4) =
            min (s.ctrAt (ethPage lane) .ethFecUncorr (lane % 4) + fec) (2 ^ 32 - 1)) ∧
        (s.laneValid lane = false ∨ s.rb (ethPage lane) Reg.ethLink (lane % 4) = false → t = s)) ∧
  (∀ (s : State) (f : RxFrame) (r : List RxFrame), s.icl.rx = f :: r → l2Walk 5 { frame := f.bytes } = none →
    Answers .iclFrame s fun t =>
      t.icl = { s.icl with rx := r } ∧ t.cpe = s.cpe ∧ t.tmu = s.tmu ∧
        t.ctrAt iclPage .iclDropL2 0 = min (s.ctrAt iclPage .iclDropL2 0 + 1) (2 ^ 32 - 1)) ∧
  (∀ (s : State) (f : RxFrame) (r : List RxFrame) (l : L2) (o : Nat) (v6 udp : Bool), s.icl.rx = f :: r →
    l2Walk 5 { frame := f.bytes } = some l → parseL3 l = .tmu o v6 udp →
    Answers .iclFrame s fun t =>
      t.icl = { s.icl with rx := r } ∧
        t.tmu = { s.tmu with rx := s.tmu.rx ++ [⟨f.lane, f.t % 2 ^ 32, o, v6, udp, l.rtag, l.frame⟩] } ∧
        t.cpe = s.cpe) ∧
  (∀ (s : State) (f : RxFrame) (r : List RxFrame) (l : L2) (u : L3) (stop ssrc g c : Nat) (base q : Parse)
      (es : List (Nat × Nat × Nat)),
    s.icl.rx = f :: r → l2Walk 5 { frame := f.bytes } = some l → parseL3 l = .ok (u, stop) → s.mediaReady = true →
    base = { lane := f.lane, ts := f.t % 2 ^ 32, ipv6 := l.ty = 0x86DD, vlans := l.vlans, rtag := l.rtag,
             rtagSeq := l.rseq, l3 := l.ofs + 2, udp := u.udp } →
    parseRtp l.frame base (u.udp + 8) stop = .ok (q, es, ssrc) → s.findLeg (legKey l.frame l.vid u) = some g →
    s.tf iclPage 1 0 g 0 17 16 = 2 → s.sktScid g ssrc = some c → s.icl.cached.contains c = true →
    s.icl.bad.contains c = false → s.icl.miss = [] → s.ctxIn c = true → s.standby = false →
    s.ctx c 2 16 16 = 0 → s.rqIs (s.ctx c 9 29 22) 1 = true → (s.cpeQ (s.ctx c 9 29 22)).length < 1024 →
    Answers .iclFrame s fun t =>
      t.icl = { s.icl with rx := r } ∧ t.crl = s.crl ∧
        (∃ p : Pkt, t.cpeQ (s.ctx c 9 29 22) = s.cpeQ (s.ctx c 9 29 22) ++ [.inb p] ∧ p.parse.scid = c ∧
          p.parse.leg = g ∧ p.parse.seq = q.seq ∧ p.frame = l.frame ∧ p.handle = f.handle) ∧
        (∀ k, k ≠ s.ctx c 9 29 22 → t.cpeQ k = s.cpeQ k)) ∧
  (∀ (s : State) (c : Nat), (∃ p ∈ s.icl.miss, p.parse.scid = c) → s.mem.poison.contains (s.ctxLine c) = false →
    Answers (.iclCtxFetchDone c) s fun t =>
      t.icl.miss = s.icl.miss.filter (fun p => p.parse.scid ≠ c) ∧ c ∈ t.icl.cached) ∧
  (∀ (s : State) (c : Nat), (∃ p ∈ s.icl.miss, p.parse.scid = c) → s.mem.poison.contains (s.ctxLine c) = true →
    Answers (.iclCtxFetchDone c) s fun t =>
      t.icl.miss = s.icl.miss.filter (fun p => p.parse.scid ≠ c) ∧ c ∈ t.icl.bad ∧ t.cpe = s.cpe)

/-- R86, R204, R207, R213, R216, R230, R241: tables of ICL and CPE. -/
def Obligations.StreamTables : Prop :=
  (∀ (s : State) (src : Src) (e : Nat) (ws : List Word), s.Opens src iclPage Reg.tblData → s.paired = false →
    bit (ws.getD 10 0) 16 = true → bit (ws.getD 10 0) 17 = false →
    e / 8 = legSet (wordBytes ((List.range 10).map fun i => ws.getD i 0)) →
    (∀ k, k / 8 = e / 8 → k ≠ e → s.tf iclPage 2 0 k 10 16 16 = 0) →
    Answers (.legkeyWriteback src e ws) s fun t =>
      (∀ i, i < 10 → t.tw iclPage 2 0 e i = ws.getD i 0) ∧ t.tf iclPage 2 0 e 10 17 0 = fld (ws.getD 10 0) 17 0 ∧
        (∀ k, k ≠ tkey iclPage 2 0 e → NMap.get tblDefault t.tbl k = NMap.get tblDefault s.tbl k) ∧ s.Only t [.tbl]) ∧
  (∀ (s : State) (src : Src) (e : Nat) (ws : List Word), s.Opens src iclPage Reg.tblData → s.paired = false →
    bit (ws.getD 10 0) 16 = true → bit (ws.getD 10 0) 17 = false →
    e / 8 ≠ legSet (wordBytes ((List.range 10).map fun i => ws.getD i 0)) →
    Answers (.legkeyWriteback src e ws) s fun t => t.tbl = s.tbl ∧ s.RegsBut t [] ∧ s.Only t noted) ∧
  (∀ (s : State) (src : Src) (e : Nat) (ws : List Word), s.Opens src iclPage Reg.tblData → s.paired = true →
    Answers (.legkeyWriteback src e ws) s fun t =>
      t.deferred = s.deferred ++ [⟨s.clk.wale, src, iclPage, 2, e, ws⟩] ∧ s.Only t [.deferred, .prg]) ∧
  (∀ (s : State) (src : Src) (scid b : Nat) (ws : List Word), s.Opens src iclPage Reg.tblData → s.paired = false →
    fld (ws.getD 0 0) 1 0 = 1 → bit (s.ctxW scid 0) 0 = false → ctxOk (ctxMask ws) = true →
    s.sktScid (fld (ws.getD 0 0) 31 16) (ws.getD 1 0).toNat = none →
    s.sktBucket (fld (ws.getD 0 0) 31 16) (ws.getD 1 0).toNat = some b →
    Answers (.streamCtxWriteback src scid ws) s fun t =>
      t.ctxIn scid = true ∧ t.ctxW scid 1 = ws.getD 1 0 ∧
        t.sktScid (fld (ws.getD 0 0) 31 16) (ws.getD 1 0).toNat = some scid ∧ t.crypto scid = CryptoSt.clear ∧
        (∀ k, k ≠ scid → t.crypto k = s.crypto k) ∧
        (∀ k, k ≠ tkey iclPage 0 0 scid → NMap.get tblDefault t.tbl k = NMap.get tblDefault s.tbl k) ∧
        s.Only t [.tbl, .icl, .cpe, .mem, .lfw]) ∧
  (∀ (s : State) (src : Src) (scid : Nat) (ws : List Word), s.Opens src iclPage Reg.tblData → s.paired = false →
    bit (s.ctxW scid 0) 0 = true → ws.getD 1 0 ≠ s.ctxW scid 1 →
    Answers (.streamCtxWriteback src scid ws) s fun t => t.tbl = s.tbl ∧ s.RegsBut t [] ∧ s.Only t noted) ∧
  (∀ (s : State) (src : Src) (e : Nat) (w0 w1 w2 : Word), s.Opens src polPage Reg.tblData → s.paired = false →
    bit w0 0 = true → 64 ≤ fld w2 23 0 → s.tf polPage 0 0 e 0 0 0 = 0 →
    Answers (.policerWriteback src e [w0, w1, w2]) s fun t =>
      t.tf polPage 0 0 e 0 0 0 = 1 ∧ t.tw polPage 0 0 e 1 = w1 ∧ t.tf polPage 0 0 e 2 23 0 = fld w2 23 0 ∧
        t.polState e = (fld w2 23 0 * 1000000000, s.now) ∧ (∀ k, k ≠ e → t.polState k = s.polState k) ∧
        s.Only t [.tbl, .icl]) ∧
  (∀ (s : State) (src : Src) (e : Nat) (w0 w1 w2 : Word), s.Opens src polPage Reg.tblData → s.paired = false →
    bit w0 0 = true → fld w2 23 0 < 64 →
    Answers (.policerWriteback src e [w0, w1, w2]) s fun t =>
      t.tbl = s.tbl ∧ t.icl = s.icl ∧ s.RegsBut t [] ∧ s.Only t noted) ∧
  (∀ (s : State) (src : Src) (q : Nat) (w w1 : Word), s.Opens src cpePage Reg.tblData → s.paired = false →
    s.cpeQ q = [] → (bit w 2 = true → fld w 15 8 ≠ 0) →
    Answers (.cpeRqWriteback src q [w, w1]) s fun t =>
      t.tf cpePage 0 0 q 0 4 0 = fld w 4 0 ∧ t.tf cpePage 0 0 q 0 15 8 = fld w 15 8 ∧
        t.tw cpePage 0 0 q 1 = s.tw cpePage 0 0 q 1 ∧
        (∀ k, k ≠ tkey cpePage 0 0 q → NMap.get tblDefault t.tbl k = NMap.get tblDefault s.tbl k) ∧ s.Only t [.tbl]) ∧
  (∀ (s : State) (src : Src) (q : Nat) (w w1 : Word), s.Opens src cpePage Reg.tblData → s.paired = false →
    bit w 2 = true → fld w 15 8 = 0 →
    Answers (.cpeRqWriteback src q [w, w1]) s fun t => t.tbl = s.tbl ∧ s.RegsBut t [] ∧ s.Only t noted)

/-- R211, R235 to R238, R242, R245, R261, R601: keys and inbound packets. -/
def Obligations.KeysAndInbound : Prop :=
  (∀ (s : State) (slot q : Nat) (r : CpeReq) (l : List CpeReq) (ok : Bool), (q, r :: l) ∈ s.cpe.q →
    (s.reqSlots r).contains slot = true → s.cpe.cached.contains slot = false → s.cpe.cached.length < 65536 →
    (s.kslot slot).bad = 0 → s.mem.poison = [] →
    Answers (.keySlotFetch slot ok) s fun t =>
      t.cpe.cached = s.cpe.cached ++ [slot] ∧
        (t.kslot slot).bad =
          (if (s.kslot slot).valid = true ∧ (ok = false ∨ (s.kslot slot).tagFits s.kwk slot = false) then 2 else 0) ∧
        (∀ k, k ≠ slot → t.kslot k = s.kslot k) ∧ s.RegsBut t [] ∧ s.Only t (.cpe :: noted)) ∧
  (∀ (s : State) (slot : Nat), s.cpe.cached.contains slot = true →
    Answers (.keySlotEvict slot) s fun t =>
      t.cpe.cached.contains slot = false ∧
        ((s.kslot slot).valid = true → (s.kslot slot).bad = 0 → 
          t.kslot slot = (s.kslot slot).rewrap.sealed s.kwk slot ∧
            ((s.kslot slot).wrapCtr + 1 < 2 ^ 64 → (t.kslot slot).wrapCtr = (s.kslot slot).wrapCtr + 1) ∧
            (t.kslot slot).tagFits s.kwk slot = true) ∧
        (∀ k, k ≠ slot → t.kslot k = s.kslot k) ∧ s.Only t [.cpe, .mem]) ∧
  (∀ (s : State) (src : Src), s.Opens src cpePage Reg.cpeKeyGo → s.keyStatus = 0 → s.paired = false →
    Answers (.keyLoad src) s fun t =>
      t.kslot (s.rf cpePage Reg.cpeKeyLoad 21 0) =
          s.wrap (s.rf cpePage Reg.cpeKeyLoad 21 0)
            { s.regKey with wrapCtr := (s.kslot (s.rf cpePage Reg.cpeKeyLoad 21 0)).wrapCtr } ∧
        (∀ k, k ≠ s.rf cpePage Reg.cpeKeyLoad 21 0 → t.kslot k = s.kslot k) ∧
        (∀ i, i < 8 → t.rd cpePage (Reg.cpeKeyMaterial + 4 * i) = 0) ∧
        (∀ i, i < 4 → t.rd cpePage (Reg.cpeKeySalt + 4 * i) = 0) ∧ t.rf cpePage Reg.cpeKeyRes 3 0 = 0 ∧
        t.rf cpePage Reg.cpeKeyRes 31 24 = (s.rf cpePage Reg.cpeKeyRes 31 24 + 1) % 256 ∧ s.Only t [.reg, .cpe, .mem]) ∧
  (∀ (s : State) (src : Src), s.Opens src cpePage Reg.cpeKeyGo → s.keyStatus = 0 → s.paired = true →
    Answers (.keyLoad src) s fun t =>
      (s.wale, s.rf cpePage Reg.cpeKeyLoad 21 0, s.regKey) ∈ t.cpe.held ∧ t.cpe.slots = s.cpe.slots ∧
        t.rf cpePage Reg.cpeKeyRes 3 0 = 0) ∧
  (∀ (s : State) (src : Src), s.Opens src cpePage Reg.cpeKeyGo → s.keyStatus ≠ 0 →
    Answers (.keyLoad src) s fun t =>
      t.cpe = s.cpe ∧ t.rf cpePage Reg.cpeKeyRes 3 0 = s.keyStatus ∧ (∀ i, i < 8 → t.rd cpePage (Reg.cpeKeyMaterial + 4 * i) = 0)) ∧
  (∀ (s : State) (w slot : Nat) (k : KeySlot), s.stepDue 4 = true → (s.paired && s.standby) = false →
    s.cpe.held = [(w, slot, k)] →
    Answers .keyLoadApply s fun t =>
      t.clk.phase = 4 ∧ t.cpe.held = [] ∧ t.kslot slot = s.wrap slot { k with wrapCtr := (s.kslot slot).wrapCtr } ∧
        (∀ j, j ≠ slot → t.kslot j = s.kslot j) ∧ s.Only t [.clk, .cpe, .mem, .prg]) ∧
  (∀ (s : State) (w slot dig : Nat) (k : KeySlot) (b : List Byte), s.stepDue 4 = true →
    (s.paired && s.standby) = true → s.cpe.held = [(w, slot, k)] → s.prg.listed = [b] →
    itemFields b = (8, 0, slot, dig) →
    Answers .keyLoadApply s fun t =>
      t.clk.phase = 4 ∧ t.cpe.held = [] ∧ t.prg.listed = [] ∧
        t.kslot slot =
          s.wrap slot { (if dig = s.keyDigest slot k then k else KeySlot.empty) with wrapCtr := (s.kslot slot).wrapCtr }) ∧
  (∀ s : State, (s.paired && s.standby) = true →
    Answers .keyLoadPendingExpire s fun t =>
      t.cpe.held = s.cpe.held.filter (fun h => decide ((s.wale + 2 ^ 32 - h.1) % 2 ^ 32 ≤ 400)) ∧
        t.cpe.slots = s.cpe.slots ∧ s.RegsBut t [] ∧ s.Only t (.cpe :: noted)) ∧
  (∀ s : State, s.enabled cpePage = true →
    Answers .kwkLoad s fun t =>
      t.cpe = { s.cpe with kwk := some (beBytes 32 s.freeNat) } ∧ t.free = s.free + 1 ∧
        s.RegsBut t [(cpePage, Reg.pageReady)] ∧ s.Only t (.cpe :: .free :: noted)) ∧
  (∀ (s s' : State) (q i c : Nat) (p : Pkt) (b : List Byte), s.cpePick = some (s', q) → (s.cpeQ q).head? = some (.inb p) →
    s.mediaReady = true → p.parse.kind = 0 → p.parse.scid = c →
    s.keyCheck c (s.ctx c 10 3 0) (s.ctx c 9 21 0) = none →
    (s.ctx c 10 3 0 = 0 ∨ (s.kslot (s.ctx c 9 21 0)).mkiLen = 0) →
    p.hdrLen + profTag (s.ctx c 10 3 0) false ≤ p.payload.length →
    trial p (s.ctx c 10 3 0) (s.kslot (s.ctx c 9 21 0)) (s.crypto c) = .ok i b → (s.crypto c).rtpSeen = false →
    s.ctx c 6 16 16 = 0 → s.ctx c 4 4 0 = 0 →
    Answers .cpeInbound s fun t =>
      t.lfw.rx = s.lfw.rx ++ [⟨p, p.parse.udp + 8, b, p.parse.seq, s.acceptWale, false⟩] ∧
        t.cpeQ q = (s.cpeQ q).tail ∧ (t.crypto c).rtpSeen = true ∧ (t.crypto c).rtpIdx = i ∧
        (∀ k, k ≠ c → t.crypto k = s.crypto k)) ∧
  (∀ (s s' : State) (q c : Nat) (p : Pkt), s.cpePick = some (s', q) → (s.cpeQ q).head? = some (.inb p) →
    s.mediaReady = true → p.parse.scid = c → s.mem.poison.contains (s.stateLine c) = false → s.ctx c 10 3 0 ≠ 0 →
    (s.kslot (s.ctx c 9 21 0)).bad = 0 → (s.kslot (s.ctx c 9 21 0)).valid = false →
    Answers .cpeInbound s fun t =>
      t.lfw = s.lfw ∧ t.cpe.st = s.cpe.st ∧ t.cpeQ q = (s.cpeQ q).tail ∧
        t.ctrAt cpePage .cpeNoKey 0 = min (s.ctrAt cpePage .cpeNoKey 0 + 1) (2 ^ 32 - 1))

/-- R248, R249, R253, R255, R257: outbound packets and bulk requests. -/
def Obligations.OutboundAndBulk : Prop :=
  (∀ (s s' : State) (q i : Nat) (f : EscFrame) (d : Copy) (src : List Byte), s.cpePick = some (s', q) →
    (s.cpeQ q).head? = some (.out f) → f.copy = some d → s.ready cpePage = true → s.copySource d = some src →
    s.keyCheck d.out (s.ctx d.out 10 3 0) (s.ctx d.out 9 21 0) = none → d.rtcp = false →
    (s.crypto d.out).rtpSt ≠ 2 → s.nextIdx d.out false = some i →
    (s.ctx d.out 10 3 0 = 0 ∨ (s.kslot (s.ctx d.out 9 21 0)).spent = false) →
    Answers .cpeOutbound s fun t =>
      (t.crypto d.out).rtpIdx = i ∧ (t.crypto d.out).rtpSeen = true ∧ (∀ k, k ≠ d.out → t.crypto k = s.crypto k) ∧
        t.cpeQ q = (s.cpeQ q).tail ∧
        (s.ctx d.out 10 3 0 ≠ 0 →
          (t.kslot (s.ctx d.out 9 21 0)).count = (s.kslot (s.ctx d.out 9 21 0)).count + 1) ∧
        (s.prgState = 0 → ∃ b, (t.laneSt f.lane).staged f.cls =
          (s.laneSt f.lane).staged f.cls ++ [({ f with bytes := b }, s.now)])) ∧
  (∀ (s s' : State) (q : Nat) (f : EscFrame) (d : Copy), s.cpePick = some (s', q) →
    (s.cpeQ q).head? = some (.out f) → f.copy = some d → s.ready cpePage = true → s.copySource d = none →
    Answers .cpeOutbound s fun t =>
      t.cpe.st = s.cpe.st ∧ t.cpe.slots = s.cpe.slots ∧ t.cpeQ q = (s.cpeQ q).tail ∧
        (t.laneSt f.lane).stage = (s.laneSt f.lane).stage) ∧
  (∀ (s : State) (port rq : Nat) (d : List Word), s.PortOpen port → s.rqIs rq 3 = true → s.ready cpePage = true →
    bulkOk d = true → (s.cpeQ rq).length < 1024 →
    Answers (.bulkSubmit port rq d) s fun t =>
      t.cpeQ rq = s.cpeQ rq ++ [.bulk port d] ∧ (∀ k, k ≠ rq → t.cpeQ k = s.cpeQ k) ∧
        NMap.get (fun _ => 0) t.cpe.ans port = 0 ∧ s.Only t [.cpe, .tbl]) ∧
  (∀ (s : State) (port rq : Nat) (d : List Word), s.PortOpen port → s.rqIs rq 3 = true → s.ready cpePage = true →
    bulkOk d = false →
    Answers (.bulkSubmit port rq d) s fun t =>
      t = s.setCpe fun c => { c with ans := NMap.set (fun _ => 0) c.ans port 2 }) ∧
  (∀ (s : State) (rq : Nat), s.Opens .pf cpePage Reg.cpeBulkGo → s.rqIs rq 3 = true → s.ready cpePage = true →
    bulkOk ((List.range 16).map fun i => s.rd cpePage (Reg.cpeBulkDesc + 4 * i)) = true → (s.cpeQ rq).length < 1024 →
    Answers (.bulkSubmit 576 rq []) s fun t =>
      t.cpeQ rq = s.cpeQ rq ++ [.bulk 576 ((List.range 16).map fun i => s.rd cpePage (Reg.cpeBulkDesc + 4 * i))] ∧
        t.rf cpePage Reg.cpeBulkRes 3 0 = 0 ∧
        t.rf cpePage Reg.cpeBulkRes 31 24 = (s.rf cpePage Reg.cpeBulkRes 31 24 + 1) % 256 ∧
        s.RegsBut t [(cpePage, Reg.cpeBulkRes)]) ∧
  (∀ (s s' : State) (q port : Nat) (d : List Word), s.cpePick = some (s', q) →
    (s.cpeQ q).head? = some (.bulk port d) → s.ready cpePage = true → NMap.get (fun _ => none) s.cpe.done q = none →
    bulkF d 0 0 0 = 0 → (s.kslot (bulkF d 0 29 8)).bad = 0 → (s.kslot (bulkF d 0 29 8)).valid = true →
    (s.kslot (bulkF d 0 29 8)).use = 2 → (s.kslot (bulkF d 0 29 8)).spent = false →
    s.bulkOwns port (d.getD 1 0).toNat (bulkF d 4 15 0 + bulkF d 3 20 0) = true →
    s.bulkOwns port (d.getD 2 0).toNat (bulkF d 3 20 0 + (if bulkF d 0 3 1 = 4 then 16 else 0)) = true →
    s.bufPoisoned (d.getD 1 0).toNat 0 (bulkF d 4 15 0 + bulkF d 3 20 0) = false →
    Answers .bulkComplete s fun t =>
      (t.kslot (bulkF d 0 29 8)).count = (s.kslot (bulkF d 0 29 8)).count + 1 ∧
        (∀ k, k ≠ bulkF d 0 29 8 → t.kslot k = s.kslot k) ∧
        (s.qOn (bulkF d 5 11 0) = false →
          t.cpeQ q = s.cpeQ q ∧ (NMap.get (fun _ => none) t.cpe.done q).isSome = true)) ∧
  (∀ (s s' : State) (q port : Nat) (d : List Word) (r : BulkRec), s.cpePick = some (s', q) →
    (s.cpeQ q).head? = some (.bulk port d) → s.ready cpePage = true → NMap.get (fun _ => none) s.cpe.done q = some r →
    s.qOn r.compq = true → s.qCredit 555 r.compq 32 = true →
    Answers .bulkComplete s fun t =>
      t.cpeQ q = (s.cpeQ q).tail ∧ NMap.get (fun _ => none) t.cpe.done q = none ∧ t.cpe.slots = s.cpe.slots ∧
        t.mem = (s.colSend 555 r.compq r.bytes).1.mem)

/-- R265, R277, R280 to R282, R287, R289, R290, R291, R302, R303: the Layer Forwarder. -/
def Obligations.LayerForwarder : Prop :=
  (∀ (s : State) (a : Accepted) (r : List Accepted), s.lfw.rx = a :: r → s.lfw.joinsPrev = [] → s.lfw.namedPrev = [] →
    s.mediaReady = true → s.heldBack .lfw = false → a.pkt.parse.kind ≠ 1 → s.ctx a.pkt.parse.scid 0 3 2 = 2 →
    Answers .lfwPacketAccepted s fun t =>
      t.lfw.rx = r ∧ t.lfw.toMxf = s.lfw.toMxf ++ [(a.pkt.parse.scid, a.wale, a.payload)] ∧ t.lfw.out = s.lfw.out) ∧
  (∀ (s : State) (a : Accepted) (r : List Accepted) (n rung : Nat), s.lfw.rx = a :: r →
    s.lfw.joinsPrev = [] → s.lfw.namedPrev = [] → s.mediaReady = true →
    s.heldBack .lfw = false → s.following = false → a.pkt.parse.kind ≠ 1 → s.ctx a.pkt.parse.scid 0 3 2 < 2 →
    s.ctx a.pkt.parse.scid 12 23 23 = 0 → s.ctx a.pkt.parse.scid 12 18 18 = 1 →
    bit (s.ra lfwPage Reg.lfwCfg) 0 = true → s.fanList (s.fsn a.pkt.parse.scid) = [n] →
    (s.subRungsOf n a.pkt.parse.scid).head? = some rung → s.subValid n = true → s.subOk n = true →
    s.subF n 0 28 28 = 1 → s.subWant n ≠ 15 → a.pkt.parse.p = false → s.lfw.fan.length < 131072 →
    s.fanCount a.pkt.handle = 0 →
    Answers .lfwPacketAccepted s fun t =>
      t.lfw.rx = r ∧ t.subCur n = s.subWant n ∧ t.fanCount a.pkt.handle = 1 ∧
        ∃ d : Copy, t.lfw.out = s.lfw.out ++ [d] ∧ d.out = s.subOut n ∧ d.src = a.pkt.handle ∧ d.ext = a.ext ∧
          d.len = a.payLen ∧ d.counted = true) ∧
  (∀ (s : State) (a : Accepted) (r : List Accepted) (b : List Byte) (n out : Nat), s.lfw.rx = a :: r →
    s.lfw.joinsPrev = [] → s.lfw.namedPrev = [] →
    s.mediaReady = true → s.heldBack .lfw = false → a.pkt.parse.kind = 1 →
    rtcpParts a.plain a.plain.length 0 = [b] → fb b 1 = 206 → fb b 0 % 32 = 1 →
    s.feedbackOut (s.ctx a.pkt.parse.scid 0 31 16) (fb32 b 8) = some (out, some n) →
    s.lfw.origin.contains out = false → s.lfw.named.contains n = false →
    Answers .lfwPacketAccepted s fun t => t.lfw.rx = r ∧ t.lfw.named = s.lfw.named ++ [n] ∧ t.lfw.out = s.lfw.out) ∧
  (∀ (s : State) (a : Accepted) (r : List Accepted), s.lfw.rx = a :: r → s.lfw.joinsPrev = [] → s.lfw.namedPrev = [] →
    s.mediaReady = false →
    Answers .lfwPacketAccepted s fun t => t.lfw = { s.lfw with rx := r }) ∧
  (∀ (s : State) (a : Accepted) (r : List Accepted), s.lfw.rx = a :: r →
    exec .lfwPacketAccepted s = exec .lfwPacketAccepted s.joinRest ∧ s.joinRest.lfw.rx = s.lfw.rx ∧
      s.joinRest.lfw.joinsPrev = [] ∧ s.joinRest.lfw.namedPrev = []) ∧
  (∀ (s : State) (d : Copy) (r : List Copy), s.lfw.out = d :: r →
    Answers .fanoutCopy s fun t =>
      t.lfw = { s.lfw with out := r } ∧ t.esc = { s.esc with arrive := s.esc.arrive ++ [d] } ∧ s.RegsBut t [] ∧
        s.Only t ([.lfw, .esc] ++ noted)) ∧
  (∀ (s : State) (c : Nat) (r : List Nat), s.lfw.needIntra = c :: r → s.following = false → s.ctx c 12 19 19 = 1 →
    s.ctxOut (s.ctx c 13 24 0) = true → s.lfw.asked.contains (s.fsn c) = false →
    Answers .needIntraReport s fun t =>
      t.lfw.needIntra = r ∧ s.fsn c ∈ t.lfw.asked ∧
        (t.srcW (s.fsn c) 3).toNat = s.wale ∧
        ∃ d : Copy, t.lfw.out = s.lfw.out ++ [d] ∧ d.out = s.ctx c 13 24 0 ∧ d.rtcp = true) ∧
  (∀ (s : State) (leg : Nat) (v : Word),
    Answers (.estNextRateWrite leg v) s fun t =>
      t.tw lfwPage 5 0 leg 1 = v ∧ (∀ i, i ≠ 1 → t.tw lfwPage 5 0 leg i = s.tw lfwPage 5 0 leg i) ∧
        (∀ k, k ≠ tkey lfwPage 5 0 leg → NMap.get tblDefault t.tbl k = NMap.get tblDefault s.tbl k) ∧ s.Only t [.tbl]) ∧
  (∀ (s : State) (b : Nat),
    Answers (.estBatchDone none b) s fun t =>
      b ∈ t.lfw.done ∧ (∀ k, k ≠ b → (k ∈ t.lfw.done ↔ k ∈ s.lfw.done)) ∧ s.Only t [.lfw]) ∧
  (∀ (s : State) (src : Src) (b : Nat), s.Opens src lfwPage Reg.lfwEstDone →
    Answers (.estBatchDone (some src) b) s fun t => b ∈ t.lfw.done ∧ s.Only t [.lfw, .prg]) ∧
  (∀ s : State, s.stepDue 4 = true → s.lfw.latchedAt ≠ some s.wale → s.enabled lfwPage = true → s.following = false →
    Answers .estLatch s fun t =>
      t.clk.phase = 4 ∧ t.lfw.latchedAt = some s.wale ∧ t.lfw.donePrev = [] ∧
        (∀ b i, b ∈ s.lfw.donePrev → i < 128 → t.curRate (b * 128 + i) = (s.tw lfwPage 5 0 (b * 128 + i) 1).toNat) ∧
        (∀ b i, b ∉ s.lfw.donePrev → i < 128 → t.curRate (b * 128 + i) = s.curRate (b * 128 + i)) ∧ s.RegsBut t []) ∧
  (∀ s : State, s.genState = 2 → s.enabled lfwPage = true → s.lfw.wantFor ≠ some ((s.wale + 1) % 2 ^ 32) →
    Answers .wantCompute s fun t =>
      t.lfw.wantFor = some ((s.wale + 1) % 2 ^ 32) ∧
        (∀ n v, NMap.get (fun _ => none) t.lfw.want n = some v → v = 15 ∨ ∃ g, (n, v) ∈ s.legWants g) ∧
        s.RegsBut t [] ∧ s.Only t (.lfw :: noted))

/-- R41, R286, R291, R300, R301, R404: switching, joins and packets of the device's own. The send time is free. -/
def Obligations.JoinsAndOriginals : Prop :=
  (∀ (s : State) (n : Nat), s.stepDue 4 = true → s.enabled lfwPage = true → s.subValid n = true →
    ((s.subState n).2.2 = 1 ∨ (s.subState n).2.2 = 3) →
    (s.wale + 2 ^ 32 - (s.tw lfwPage 1 0 n 1).toNat) % 2 ^ 32 ≠ 0 →
    (s.wale + 2 ^ 32 - (s.tw lfwPage 1 0 n 1).toNat) % 2 ^ 32 % s.raf lfwPage Reg.lfwSwitchTmo 15 0 = 0 →
    s.lfw.tmoDone.contains n = false →
    Answers (.switchTmo n) s fun t =>
      t.clk.phase = 4 ∧ t.lfw.tmoDone = s.lfw.tmoDone ++ [n] ∧ t.subState n = s.subState n ∧
        t.ctrAt lfwPage .lfwSwitchWaits 0 = min (s.ctrAt lfwPage .lfwSwitchWaits 0 + 1) (2 ^ 32 - 1)) ∧
  (∀ (s : State) (n : Nat), s.lfw.tmoDone.contains n = true → Answers (.switchTmo n) s fun t => t = s) ∧
  (∀ (s : State) (n c : Nat), s.stepDue 4 = true → s.lfw.namedPrev.contains n = true → s.wantSrc n = some c →
    s.subValid n = true → s.subOk n = true → fld (s.srcW (s.fsn c) 2) 8 8 = 0 →
    Answers (.joinTake n) s fun t =>
      t.clk.phase = 4 ∧ t.lfw.namedPrev.contains n = false ∧ t.subState n = s.subState n ∧
        t.ctrAt lfwPage .lfwJoinFail 0 = min (s.ctrAt lfwPage .lfwJoinFail 0 + 1) (2 ^ 32 - 1)) ∧
  (∀ (s : State) (n c : Nat), s.stepDue 4 = true → s.lfw.namedPrev.contains n = true → s.wantSrc n = some c →
    s.subValid n = true → s.subOk n = true → s.joinCause c = 0 →
    Answers (.joinTake n) s fun t =>
      t.clk.phase = 4 ∧ t.lfw.namedPrev.contains n = false ∧ t.subCur n = s.subWant n ∧
        ∃ l, t.lfw.out = s.lfw.out ++ l) ∧
  (∀ (s : State) (o : Orig) (r : List Orig), s.lfw.orig = o :: r → s.ctxOut o.scid = true →
    Answers (.originatedPacket none) s fun t =>
      t.lfw.orig = r ∧ o.scid ∈ t.lfw.origin ∧ s.Only t [.lfw, .free] ∧
        ∃ d : Copy, t.lfw.out = s.lfw.out ++ [d] ∧ d.out = o.scid ∧ d.origin = true ∧ d.m = o.m ∧
          d.ts = (o.g + (s.ctxW o.scid 14).toNat) % 2 ^ 32 ∧ d.body = some (o.dd ++ o.body)) ∧
  (∀ (s : State) (q : Nat) (b : List Byte), s.ready lfwPage = true → (s.colTake lfwPort q).2 = some b →
    s.ctxOut (origOf b).scid = true →
    Answers (.originatedPacket (some q)) s fun t =>
      t.col = (s.colTake lfwPort q).1.col ∧
        ∃ d : Copy, t.lfw.out = s.lfw.out ++ [d] ∧ d.out = (origOf b).scid ∧ d.origin = true ∧
          d.body = some ((origOf b).dd ++ (origOf b).body)) ∧
  (∀ (s : State) (q : Nat), s.ready lfwPage = false → Answers (.originatedPacket (some q)) s fun t => t = s) ∧
  (∀ (s : State) (out w : Nat) (body : List Byte) (r : List (Nat × Nat × List Byte)),
    s.lfw.partials = (out, w, body) :: r → s.ctxOut out = true →
    Answers .partialMixOut s fun t =>
      t.lfw.partials = r ∧ s.Only t [.lfw, .free] ∧
        ∃ d : Copy, t.lfw.out = s.lfw.out ++ [d] ∧ d.out = out ∧ d.m = false ∧
          d.ts = (120 * w + (s.ctxW out 14).toNat) % 2 ^ 32 ∧ d.body = some body)

/-- R315, R316, R318, R320, R324, R328, R330, R332, R334 to R336: MXF. -/
def Obligations.MixFabric : Prop :=
  (∀ s : State, s.stepDue 7 = true → s.ready mxfPage = true → s.mxf.out ≠ some s.clk.wale → s.heldBack .mxf = false →
    s.mxfRun = true → s.canonical →
    Answers .mxfGather s fun t =>
      t.clk.phase = 7 ∧ t.mxf.out = some s.clk.wale ∧ t.mxf.k = 0 ∧ t.mxf.built = [] ∧
        (t.mxf.gathered.map (·.wale)).head? = some (s.clk.wale - 1) ∧
        (∀ j e, (j, e) ∈ s.tlist mxfPage 0 0 → peKind e ≠ 0 →
          t.mxIn j = (s.gatherPort j e (s.clk.wale - 1)).st ∧ t.tget mxfPage 4 0 j = stripWords (meterWords (t.mxIn j))) ∧
        s.RegsBut t [] ∧ s.Only t ([.clk, .mxf, .tbl] ++ noted)) ∧
  (∀ s : State, s.stepDue 7 = true → s.ready mxfPage = true → s.mxf.out ≠ some s.clk.wale → s.heldBack .mxf = false →
    s.mxfRun = false →
    Answers .mxfGather s fun t =>
      t.mxf = { s.mxf with play := [], out := some s.clk.wale, k := 0, built := [] } ∧ s.Only t [.clk, .mxf]) ∧
  (∀ (s : State) (j : Nat) (e : List Word), s.genState = 2 → s.ready mxfPage = true → s.mxf.out = some s.clk.wale →
    s.mxf.k < 120 → s.mxfRun = true → s.tlist mxfPage 1 0 = [(j, e)] → peKind e = 1 → peRate e = 0 →
    s.ringUsable (peBuf e) = true → s.bufInDram (peBuf e) = false →
    Answers .mixSample s fun t =>
      t.mxf.k = s.mxf.k + 1 ∧ (t.mxOut j).hist = ((s.portOut s.clk.wale j e s.mxf.k).1 :: (s.mxOut j).hist).take histLen ∧
        t.ringSample (peBuf e) (120 * s.clk.wale + s.mxf.k) = (s.portOut s.clk.wale j e s.mxf.k).1 ∧
        (s.mxf.k = 119 → t.ringTag (peBuf e) s.clk.wale = s.clk.wale % 2 ^ 32) ∧
        s.RegsBut t [(tmuPage, Reg.tmuHoldWales)] ∧ s.Only t ([.clk, .tmu, .mxf, .mem, .tbl] ++ noted)) ∧
  (∀ (s : State) (c : Nat) (b : BusPlay), s.genState = 2 → s.ready mxfPage = true → s.mxf.out = some s.clk.wale →
    s.mxf.k = 119 → s.mxf.play = [(c, some b)] →
    Answers .mixSample s fun t =>
      t.mxf.k = 120 ∧ NMap.get (fun _ => none) t.mxf.factor c = some b.f1 ∧
        t.tw mxfPage 5 0 c 0 = BitVec.ofNat 32 b.n ∧ t.tw mxfPage 5 0 c 1 = BitVec.ofNat 32 b.wale) ∧
  (∀ (s s1 : State) (b : List Byte) (j a w : Nat) (e : List Word), s.ready mxfPage = true →
    bit (s.ra mxfPage Reg.mxfHwdec) 12 = true →
    s.colTake mxfPort (fld (s.ra mxfPage Reg.mxfHwdec) 11 0) = (s1, some b) →
    s1.decodePort (leNat (b.take 4)) = some (j, e) → peCodec e < 2 →
    ((b.drop 32).take (leNat ((b.drop 16).take 2))).length % perWale (peRate e) = 0 → (s1.mxIn j).anchor = some a →
    placeAt (perWale (peRate e)) ((leNat ((b.drop 12).take 4) + a) % 2 ^ 32)
      (((b.drop 32).take (leNat ((b.drop 16).take 2))).length / perWale (peRate e)) (leNat ((b.drop 8).take 4)) = some w →
    s1.ringUsable (peBuf e) = true → s1.bufInDram (peBuf e) = false →
    Answers .hwdecPacket s fun t =>
      (∀ i x, ((b.drop 32).take (leNat ((b.drop 16).take 2)))[i]? = some x →
        t.ringSample (peBuf e) (perWale (peRate e) * w + i) = g711Decode (peCodec e) x) ∧
      (∀ i, i < ((b.drop 32).take (leNat ((b.drop 16).take 2))).length / perWale (peRate e) →
        t.ringTag (peBuf e) (w + i) = (w + i) % 2 ^ 32) ∧
      (t.mxIn j).anchor = some a ∧ t.lfw = s.lfw ∧ t.crl = s1.crl) ∧
  (∀ (s s1 : State) (b : List Byte) (j : Nat) (e : List Word), s.ready mxfPage = true →
    bit (s.ra mxfPage Reg.mxfHwdec) 12 = true →
    s.colTake mxfPort (fld (s.ra mxfPage Reg.mxfHwdec) 11 0) = (s1, some b) →
    s1.decodePort (leNat (b.take 4)) = some (j, e) → peCodec e < 2 →
    ((b.drop 32).take (leNat ((b.drop 16).take 2))).length % perWale (peRate e) ≠ 0 →
    Answers .hwdecPacket s fun t => t.mxf = s.mxf ∧ t.mem = s1.mem ∧ t.lfw = s.lfw) ∧
  (∀ (s : State) (j v : Nat) (xs : List Int) (r : List (Nat × Nat × List Int)), s.mxf.ready = (j, v, xs) :: r →
    peKind (s.tget mxfPage 1 0 j) = 2 → peCodec (s.tget mxfPage 1 0 j) < 2 → s.mxfRun = true →
    Answers .mxfHwencPacket s fun t =>
      t.mxf.ready = r ∧
        t.lfw.orig = s.lfw.orig ++ [{ scid := efld (s.tget mxfPage 1 0 j) 3 24 0, g := 20 * v % 2 ^ 32, m := false,
                                      body := xs.map (g711Encode (peCodec (s.tget mxfPage 1 0 j))) }] ∧
        s.Only t [.mxf, .lfw]) ∧
  (∀ (s : State) (scid wa e : Nat) (b : List Byte) (r : List (Nat × Nat × List Byte)),
    s.lfw.toMxf = (scid, wa, b) :: r → s.ready mxfPage = true →
    (s.trunks.find? fun e => s.tf mxfPage 3 0 e 1 24 0 = scid) = some e → b.length = 408 → b.getD 0 0 = 1 →
    beNat ((b.drop 4).take 4) = (s.tw mxfPage 2 0 (s.trunkBus e) 1).toNat → (b.getD 1 0).toNat ≠ 0 →
    (b.getD 2 0).toNat ≤ 20 → waleLe wa (beNat ((b.drop 8).take 4)) = false →
    (s.trunkTaken e).contains (beNat ((b.drop 8).take 4)) = false →
    waleLe wa ((beNat ((b.drop 8).take 4) + (b.getD 1 0).toNat) % 2 ^ 32) = true → (b.getD 1 0).toNat ≤ s.trunkHops e →
    Answers .partialMixIn s fun t =>
      t.lfw.toMxf = r ∧
        t.mxf.parts = { trunk := e, wale := beNat ((b.drop 8).take 4), active := beNat ((b.drop 12).take 4),
                        ranks := partialRanks b, samples := partialSamples b (b.getD 2 0).toNat } :: s.mxf.parts ∧
        (t.trunkTaken e).contains (beNat ((b.drop 8).take 4)) = true ∧ s.RegsBut t [] ∧
        s.Only t ([.mxf, .lfw] ++ noted)) ∧
  (∀ (s : State) (scid wa e : Nat) (b : List Byte) (r : List (Nat × Nat × List Byte)),
    s.lfw.toMxf = (scid, wa, b) :: r → s.ready mxfPage = true →
    (s.trunks.find? fun e => s.tf mxfPage 3 0 e 1 24 0 = scid) = some e →
    b.length ≠ 408 ∨ b.getD 0 0 ≠ 1 ∨ waleLe wa (beNat ((b.drop 8).take 4)) = true ∨
      (s.trunkTaken e).contains (beNat ((b.drop 8).take 4)) = true →
    Answers .partialMixIn s fun t =>
      t.mxf = s.mxf ∧ t.lfw.toMxf = r ∧ t.ctrAt mxfPage .mxfPartialBad 0 =
        min (s.ctrAt mxfPage .mxfPartialBad 0 + 1) (2 ^ 32 - 1)) ∧
  (∀ (s : State) (e : Nat), s.genState = 2 → s.ready mxfPage = true → s.mxfRun = true → s.mxf.out = some s.clk.wale →
    s.trunkOn e = true → s.mxf.built.contains e = false →
    (s.mxf.gathered.any fun g => g.wale = s.clk.wale - 1 - s.trunkWait e) = true →
    Answers (.partialBuild e) s fun t =>
      t.mxf = { s.mxf with built := s.mxf.built ++ [e] } ∧ s.RegsBut t [] ∧ s.Only t ([.mxf, .lfw] ++ noted) ∧
        ∃ body : List Byte,
          t.lfw.partials = s.lfw.partials ++ [(s.tf mxfPage 3 0 e 2 24 0, s.clk.wale - 1 - s.trunkWait e, body)] ∧
            body.length = 408 ∧ body.getD 0 0 = 1 ∧ (body.getD 1 0).toNat = s.trunkWait e + 1 ∧
            beNat ((body.drop 4).take 4) = (s.tw mxfPage 2 0 (s.trunkBus e) 1).toNat ∧
            beNat ((body.drop 8).take 4) = (s.clk.wale - 1 - s.trunkWait e) % 2 ^ 32)

/-- R349, R350, R352: the data instructions of a Withy core. -/
def Obligations.WithyData : Prop :=
  ∀ (s : State) (n d a b k : Nat) (imm : BitVec 18) (imm16 : BitVec 16),
    (s.wdsNext n .nop = true → Answers (.nop n) s fun t => s.Ran t n [] [] [] false) ∧
    (s.wdsNext n .nop = false → Answers (.nop n) s fun t => t = s) ∧
    (s.wdsNext n (.mov d a) = true → Answers (.mov n d a) s fun t =>
      (t.core n).dreg d = (s.core n).dreg a ∧ s.Ran t n [d] [] [] false) ∧
    (s.wdsNext n (.movi d imm) = true → Answers (.movi n d imm) s fun t =>
      ((t.core n).dreg d).toInt = imm.toInt ∧ s.Ran t n [d] [] [] false) ∧
    (s.wdsNext n (.movhi d imm16) = true → Answers (.movhi n d imm16) s fun t =>
      fld ((t.core n).dreg d) 31 16 = imm16.toNat ∧ fld ((t.core n).dreg d) 15 0 = fld ((s.core n).dreg d) 15 0 ∧
        s.Ran t n [d] [] [] false) ∧
    (s.wdsNext n (.add d a b) = true → Answers (.withyAdd n d a b) s fun t =>
      (t.core n).dreg d = (s.core n).dreg a + (s.core n).dreg b ∧ s.Ran t n [d] [] [] false) ∧
    (s.wdsNext n (.sub d a b) = true → Answers (.sub n d a b) s fun t =>
      (t.core n).dreg d = (s.core n).dreg a - (s.core n).dreg b ∧ s.Ran t n [d] [] [] false) ∧
    (s.wdsNext n (.addi d a imm) = true → Answers (.addi n d a imm) s fun t =>
      (t.core n).dreg d = BitVec.ofInt 32 (((s.core n).dreg a).toInt + imm.toInt) ∧ s.Ran t n [d] [] [] false) ∧
    (s.wdsNext n (.and d a b) = true → Answers (.and n d a b) s fun t =>
      (t.core n).dreg d = (s.core n).dreg a &&& (s.core n).dreg b ∧ s.Ran t n [d] [] [] false) ∧
    (s.wdsNext n (.or d a b) = true → Answers (.or n d a b) s fun t =>
      (t.core n).dreg d = (s.core n).dreg a ||| (s.core n).dreg b ∧ s.Ran t n [d] [] [] false) ∧
    (s.wdsNext n (.xor d a b) = true → Answers (.xor n d a b) s fun t =>
      (t.core n).dreg d = (s.core n).dreg a ^^^ (s.core n).dreg b ∧ s.Ran t n [d] [] [] false) ∧
    (s.wdsNext n (.shl d a b) = true → Answers (.shl n d a b) s fun t =>
      ((t.core n).dreg d).toNat = ((s.core n).dreg a).toNat * 2 ^ (((s.core n).dreg b).toNat % 32) % 2 ^ 32 ∧
        s.Ran t n [d] [] [] false) ∧
    (s.wdsNext n (.shr d a b) = true → Answers (.shr n d a b) s fun t =>
      ((t.core n).dreg d).toInt = ((s.core n).dreg a).toInt / 2 ^ (((s.core n).dreg b).toNat % 32) ∧
        s.Ran t n [d] [] [] false) ∧
    (s.wdsNext n (.shrl d a b) = true → Answers (.shrl n d a b) s fun t =>
      ((t.core n).dreg d).toNat = ((s.core n).dreg a).toNat / 2 ^ (((s.core n).dreg b).toNat % 32) ∧
        s.Ran t n [d] [] [] false) ∧
    (s.wdsNext n (.shri d a k) = true → Answers (.shri n d a k) s fun t =>
      ((t.core n).dreg d).toInt = ((s.core n).dreg a).toInt / 2 ^ k ∧ s.Ran t n [d] [] [] false) ∧
    (s.wdsNext n (.shli d a k) = true → Answers (.shli n d a k) s fun t =>
      ((t.core n).dreg d).toNat = ((s.core n).dreg a).toNat * 2 ^ k % 2 ^ 32 ∧ s.Ran t n [d] [] [] false) ∧
    (s.wdsNext n (.abs d a) = true → Answers (.abs n d a) s fun t =>
      ((t.core n).dreg d).toInt = min (((s.core n).dreg a).toInt.natAbs : Int) (2 ^ 31 - 1) ∧
        s.Ran t n [d] [] [] false) ∧
    (s.wdsNext n (.max d a b) = true → Answers (.max n d a b) s fun t =>
      ((t.core n).dreg d).toInt = max ((s.core n).dreg a).toInt ((s.core n).dreg b).toInt ∧
        s.Ran t n [d] [] [] false) ∧
    (s.wdsNext n (.min d a b) = true → Answers (.min n d a b) s fun t =>
      ((t.core n).dreg d).toInt = min ((s.core n).dreg a).toInt ((s.core n).dreg b).toInt ∧
        s.Ran t n [d] [] [] false) ∧
    (s.wdsNext n (.geta d a) = true → Answers (.geta n d a) s fun t =>
      (t.core n).dreg d = BitVec.ofNat 32 ((s.core n).aregX a) ∧ s.Ran t n [d] [] [] false) ∧
    (s.wdsNext n (.getm d) = true → Answers (.getm n d) s fun t =>
      (t.core n).dreg d = BitVec.ofNat 32 ((s.core n).aregX cmodeReg) ∧ s.Ran t n [d] [] [] false)

/-- R349, R352, R354 to R356, R373: comparisons and arithmetic of a Withy core. -/
def Obligations.WithyArithmetic : Prop :=
  ∀ (s : State) (n d a b k w : Nat) (sh th : Bool) (imm : BitVec 18),
    (s.wdsNext n (.cmp a b) = true → Answers (.cmp n a b) s fun t =>
      ((s.core n).br2 ≠ .ret →
        (t.core n).fl.testBit 0 = decide ((s.core n).dreg a = (s.core n).dreg b) ∧
          (t.core n).fl.testBit 1 = decide (((s.core n).dreg a).toInt < ((s.core n).dreg b).toInt) ∧
          (t.core n).fl.testBit 2 = decide (((s.core n).dreg a).toNat < ((s.core n).dreg b).toNat)) ∧
        s.Ran t n [] [] [] true) ∧
    (s.wdsNext n (.cmpi a imm) = true → Answers (.cmpi n a imm) s fun t =>
      ((s.core n).br2 ≠ .ret →
        (t.core n).fl.testBit 0 = decide (((s.core n).dreg a).toInt = imm.toInt) ∧
          (t.core n).fl.testBit 1 = decide (((s.core n).dreg a).toInt < imm.toInt) ∧
          (t.core n).fl.testBit 2 = decide (((s.core n).dreg a).toNat < (imm.signExtend 32).toNat)) ∧
        s.Ran t n [] [] [] true) ∧
    (s.wdsNext n (.maxi d a) = true → d % 2 = 0 → Answers (.maxi n d a) s fun t =>
      if ((s.core n).dreg d).toInt < ((s.core n).dreg a).toInt then
        (t.core n).dreg d = (s.core n).dreg a ∧ (t.core n).dreg (d + 1) = BitVec.ofNat 32 (s.core n).i0 ∧
          s.Ran t n [d, d + 1] [] [] false
      else s.Ran t n [] [] [] false) ∧
    (s.wdsNext n (.mini d a) = true → d % 2 = 0 → Answers (.mini n d a) s fun t =>
      if ((s.core n).dreg a).toInt < ((s.core n).dreg d).toInt then
        (t.core n).dreg d = (s.core n).dreg a ∧ (t.core n).dreg (d + 1) = BitVec.ofNat 32 (s.core n).i0 ∧
          s.Ran t n [d, d + 1] [] [] false
      else s.Ran t n [] [] [] false) ∧
    (s.wdsNext n (.maxi d a) = true → d % 2 = 1 → Answers (.maxi n d a) s fun t => s.FaultsAt t n 1) ∧
    (s.wdsNext n (.mini d a) = true → d % 2 = 1 → Answers (.mini n d a) s fun t => s.FaultsAt t n 1) ∧
    (s.wdsNext n (.mpy k a b sh th) = true → Answers (.mpy n k a b sh th) s fun t =>
      ((t.core n).accNew k).toInt = halfOf ((s.core n).dreg a) sh * halfOf ((s.core n).dreg b) th ∧
        (t.core n).ovf = (s.core n).ovf ∧ s.Ran t n [] [k] [] false) ∧
    (∀ v : Int, v = ((s.core n).accNew k).toInt + halfOf ((s.core n).dreg a) sh * halfOf ((s.core n).dreg b) th →
      s.wdsNext n (.mac k a b sh th) = true → Answers (.mac n k a b sh th) s fun t =>
        (t.core n).accNew k = BitVec.ofInt 40 v ∧
          (t.core n).ovf = ((s.core n).ovf || decide (v < -2 ^ 39 ∨ 2 ^ 39 - 1 < v)) ∧ s.Ran t n [] [k] [] false) ∧
    (∀ v : Int, v = ((s.core n).accNew k).toInt - halfOf ((s.core n).dreg a) sh * halfOf ((s.core n).dreg b) th →
      s.wdsNext n (.msu k a b sh th) = true → Answers (.msu n k a b sh th) s fun t =>
        (t.core n).accNew k = BitVec.ofInt 40 v ∧
          (t.core n).ovf = ((s.core n).ovf || decide (v < -2 ^ 39 ∨ 2 ^ 39 - 1 < v)) ∧ s.Ran t n [] [k] [] false) ∧
    (s.wdsNext n (.clr k) = true → Answers (.clr n k) s fun t =>
      (t.core n).accNew k = 0 ∧ s.Ran t n [] [k] [] false) ∧
    (s.wdsNext n (.mova k a) = true → Answers (.mova n k a) s fun t =>
      ((t.core n).accNew k).toInt = ((s.core n).dreg a).toInt ∧ s.Ran t n [] [k] [] false) ∧
    (∀ (sft : Nat) (v hi : Int),
      v = (if 0 < sft then (((s.core n).accOld k).toInt + 2 ^ (sft - 1)) / 2 ^ sft else ((s.core n).accOld k).toInt) →
      hi = (if w = 1 then 2 ^ 15 - 1 else if w = 2 then 2 ^ 23 - 1 else 2 ^ 31 - 1) →
      s.wdsNext n (.rda d k sft w) = true → Answers (.rda n d k sft w) s fun t =>
        ((t.core n).dreg d).toInt = max (-hi - 1) (min hi v) ∧
          (t.core n).sat = ((s.core n).sat || decide (v < -hi - 1 ∨ hi < v)) ∧ s.Ran t n [d] [] [] false)

/-- R345 to R347, R349, R352, R354, R355, R357, R367, R373, R374: DMEM accesses of a Withy core. -/
def Obligations.WithyMemory : Prop :=
  ∀ (s : State) (n d ax : Nat) (post : Bool) (imm : BitVec 18) (a : Nat),
    a = (if post then (s.core n).wrap ax ((s.core n).areg ax) else (s.core n).wrap ax ((s.core n).areg ax + imm.toInt)) →
    (∀ ecc, s.wdsNext n (.ldw d ax post imm) = true → memFault (s.wdsTest n) .ldw a 4 = 0 →
      (s.core n).mustWait .ldw a 4 = false → ecc ≠ 2 → ¬(0x40 ≤ a ∧ a < 0x100) →
      Answers (.ldw n d ax post imm ecc) s fun t =>
        (t.core n).landed.dreg d = BitVec.ofNat 32 ((s.core n).mread a 4) ∧
          (post = true → (t.core n).areg ax = (s.core n).wrap ax ((s.core n).areg ax + imm.toInt) % 2 ^ 17) ∧
          (ecc = 1 → (s.core n).waitFrom = none → t.ctrAt (wdsPage n) .wdsEccCorr 0 =
            min (s.ctrAt (wdsPage n) .wdsEccCorr 0 + 1) (2 ^ 32 - 1)) ∧
          s.Ran t n [] [] (if post then [ax] else []) false) ∧
    (∀ ecc, s.wdsNext n (.ldw d ax post imm) = true → memFault (s.wdsTest n) .ldw a 4 = 0 →
      (s.core n).mustWait .ldw a 4 = false → ecc = 0 → 0x40 ≤ a → a < 0x100 →
      Answers (.ldw n d ax post imm ecc) s fun t =>
        (t.core n).landed.dreg d = (s.core n).portRead (s.wdsTest n) a ∧
          s.Ran t n [] [] (if post then [ax] else []) false) ∧
    (s.wdsNext n (.ldw d ax post imm) = true → memFault (s.wdsTest n) .ldw a 4 = 0 →
      (s.core n).mustWait .ldw a 4 = false →
      Answers (.ldw n d ax post imm 2) s fun t => s.FaultsAt t n 9 ∧ t.ready (wdsPage n) = false) ∧
    (∀ ecc f, s.wdsNext n (.ldw d ax post imm) = true → memFault (s.wdsTest n) .ldw a 4 = f → f ≠ 0 → ecc = 0 →
      Answers (.ldw n d ax post imm ecc) s fun t => s.FaultsAt t n f) ∧
    (s.wdsNext n (.ldw d ax post imm) = true → memFault (s.wdsTest n) .ldw a 4 = 0 →
      (s.core n).mustWait .ldw a 4 = true → Answers (.ldw n d ax post imm 0) s fun t => s.Waits t n) ∧
    (s.wdsNext n (.ldh d ax post imm) = true → memFault (s.wdsTest n) .ldh a 2 = 0 →
      (s.core n).mustWait .ldh a 2 = false →
      Answers (.ldh n d ⟨ax, 2⟩ post imm) s fun t => s.FaultsAt t n 9 ∧ t.ready (wdsPage n) = false) ∧
    (∀ ecc, s.wdsNext n (.ldh d ax post imm) = true → memFault (s.wdsTest n) .ldh a 2 = 0 →
      (s.core n).mustWait .ldh a 2 = false → ecc ≠ 2 →
      Answers (.ldh n d ⟨ax, ecc⟩ post imm) s fun t =>
        ((t.core n).landed.dreg d).toInt = (BitVec.ofNat 16 ((s.core n).mread a 2)).toInt ∧
          (ecc = 1 → (s.core n).waitFrom = none → t.ctrAt (wdsPage n) .wdsEccCorr 0 =
            min (s.ctrAt (wdsPage n) .wdsEccCorr 0 + 1) (2 ^ 32 - 1)) ∧
          (post = true → (t.core n).areg ax = (s.core n).wrap ax ((s.core n).areg ax + imm.toInt) % 2 ^ 17) ∧
          s.Ran t n [] [] (if post then [ax] else []) false) ∧
    (s.wdsNext n (.stw d ax post imm) = true → memFault (s.wdsTest n) .stw a 4 = 0 →
      (s.core n).mustWait .stw a 4 = false → ¬(0x40 ≤ a ∧ a < 0x100) →
      Answers (.stw n d ax post imm) s fun t =>
        (t.core n).mreadX a 4 = ((s.core n).dreg d).toNat ∧
          (∀ x, ¬(a ≤ x ∧ x < a + 4) → w1cByte x = false → (t.core n).mbyteX x = (s.core n).mbyteX x) ∧
          (post = true → (t.core n).areg ax = (s.core n).wrap ax ((s.core n).areg ax + imm.toInt) % 2 ^ 17) ∧
          s.Ran t n [] [] (if post then [ax] else []) false) ∧
    (s.wdsNext n (.stw d ax post imm) = true → a = portFctl → (s.core n).mustWait .stw a 4 = false →
      Answers (.stw n d ax post imm) s fun t =>
        (t.core n).fctl = some (fld ((s.core n).dreg d) 3 0, fld ((s.core n).dreg d) 15 8) ∧
          (∀ x, w1cByte x = false → (t.core n).mbyteX x = (s.core n).mbyteX x) ∧
          s.Ran t n [] [] (if post then [ax] else []) false) ∧
    (s.wdsNext n (.stw d ax post imm) = true → a = portCsr → (s.core n).mustWait .stw a 4 = false →
      Answers (.stw n d ax post imm) s fun t =>
        (t.core n).sat = ((s.core n).sat && !bit ((s.core n).dreg d) 0) ∧
          (t.core n).ovf = ((s.core n).ovf && !bit ((s.core n).dreg d) 1) ∧
          s.Ran t n [] [] (if post then [ax] else []) false) ∧
    (s.wdsNext n (.stw d ax post imm) = true → memFault (s.wdsTest n) .stw a 4 ≠ 0 →
      Answers (.stw n d ax post imm) s fun t => s.FaultsAt t n (memFault (s.wdsTest n) .stw a 4)) ∧
    (s.wdsNext n (.sth d ax post imm) = true → memFault (s.wdsTest n) .sth a 2 = 0 →
      (s.core n).mustWait .sth a 2 = false →
      Answers (.sth n d ax post imm) s fun t =>
        (t.core n).mreadX a 2 = ((s.core n).dreg d).toNat % 2 ^ 16 ∧
          (∀ x, ¬(a ≤ x ∧ x < a + 2) → w1cByte x = false → (t.core n).mbyteX x = (s.core n).mbyteX x) ∧
          (post = true → (t.core n).areg ax = (s.core n).wrap ax ((s.core n).areg ax + imm.toInt) % 2 ^ 17) ∧
          s.Ran t n [] [] (if post then [ax] else []) false) ∧
    (∀ (k sft w sz : Nat) (im : BitVec 14) (b : Nat),
      b = (if post then (s.core n).wrap ax ((s.core n).areg ax) else (s.core n).wrap ax ((s.core n).areg ax + im.toInt)) →
      sz = (if w = 1 then 2 else 4) →
      s.wdsNext n (.sta k ax post im sft w) = true → memFault (s.wdsTest n) .sta b sz = 0 →
      (s.core n).mustWait .sta b sz = false →
      Answers (.sta n k ax post im sft w) s fun t =>
        ((t.core n).mreadX b sz : Int) = (roundSat ((s.core n).accOld k) sft w).1 % 2 ^ (8 * sz) ∧
          (∀ x, ¬(b ≤ x ∧ x < b + sz) → w1cByte x = false → (t.core n).mbyteX x = (s.core n).mbyteX x) ∧
          (post = true → (t.core n).areg ax = (s.core n).wrap ax ((s.core n).areg ax + im.toInt) % 2 ^ 17) ∧
          s.Ran t n [] [] (if post then [ax] else []) false) ∧
    (∀ k p q x y e f : Nat, e ≠ 2 → f ≠ 2 → s.wdsNext n (.macm k p q) = true → x = (s.core n).wrap p ((s.core n).areg p) →
      y = (s.core n).wrap q ((s.core n).areg q) → p ≠ q → memFault (s.wdsTest n) .macm x 2 = 0 →
      memFault (s.wdsTest n) .macm y 2 = 0 → (s.core n).mustWait .macm x 2 = false →
      (s.core n).mustWait .macm y 2 = false →
      Answers (.macm n k ⟨p, e⟩ ⟨q, f⟩) s fun t =>
        (e = 1 ∨ f = 1 → (s.core n).waitFrom = none → t.ctrAt (wdsPage n) .wdsEccCorr 0 =
          min (s.ctrAt (wdsPage n) .wdsEccCorr 0 + [e, f].count 1) (2 ^ 32 - 1)) ∧
        (t.core n).accNew k = BitVec.ofInt 40 (((s.core n).accNew k).toInt +
          (BitVec.ofNat 16 ((s.core n).mread x 2)).toInt * (BitVec.ofNat 16 ((s.core n).mread y 2)).toInt) ∧
          (t.core n).areg p = (s.core n).wrap p ((s.core n).areg p + 2) % 2 ^ 17 ∧
          (t.core n).areg q = (s.core n).wrap q ((s.core n).areg q + 2) % 2 ^ 17 ∧ s.Ran t n [] [k] [p, q] false) ∧
    (∀ k p x e f : Nat, e ≠ 2 → f ≠ 2 → s.wdsNext n (.macm k p p) = true → x = (s.core n).wrap p ((s.core n).areg p) →
      memFault (s.wdsTest n) .macm x 2 = 0 → (s.core n).mustWait .macm x 2 = false →
      Answers (.macm n k ⟨p, e⟩ ⟨p, f⟩) s fun t =>
        (t.core n).accNew k = BitVec.ofInt 40 (((s.core n).accNew k).toInt +
          (BitVec.ofNat 16 ((s.core n).mread x 2)).toInt ^ 2) ∧
          (t.core n).areg p = (s.core n).wrap p ((s.core n).wrap p ((s.core n).areg p + 2) % 2 ^ 17 + 2 : Nat) % 2 ^ 17 ∧
          s.Ran t n [] [k] [p] false) ∧
    (∀ k p q x y e f : Nat, e = 2 ∨ f = 2 → s.wdsNext n (.macm k p q) = true → x = (s.core n).wrap p ((s.core n).areg p) →
      y = (s.core n).wrap q ((s.core n).areg q) → memFault (s.wdsTest n) .macm x 2 = 0 →
      memFault (s.wdsTest n) .macm y 2 = 0 → (s.core n).mustWait .macm x 2 = false →
      (s.core n).mustWait .macm y 2 = false →
      Answers (.macm n k ⟨p, e⟩ ⟨q, f⟩) s fun t => s.FaultsAt t n 9 ∧ t.ready (wdsPage n) = false)

/-- R343, R349, R350, R352, R357 to R360, R371, R373: control of a Withy core. -/
def Obligations.WithyControl : Prop :=
  ∀ (s : State) (n a r len count mask target : Nat) (imm : BitVec 18) (cond : Cond),
    (s.wdsNext n (.seta r a) = true → Answers (.seta n r a) s fun t =>
      (t.core n).aregX r = ((s.core n).dreg a).toNat % 2 ^ 17 ∧ s.Ran t n [] [] [] false) ∧
    (s.wdsNext n (.aadd r imm) = true → Answers (.aadd n r imm) s fun t =>
      (t.core n).aregX r = (s.core n).wrap r ((s.core n).areg r + imm.toInt) % 2 ^ 17 ∧ s.Ran t n [] [] [] false) ∧
    (s.wdsNext n (.setm a) = true → cmodeOk ((s.core n).dreg a) = true → Answers (.setm n a) s fun t =>
      (t.core n).aregX cmodeReg = ((s.core n).dreg a).toNat ∧ s.Ran t n [] [] [] false) ∧
    (s.wdsNext n (.setm a) = true → cmodeOk ((s.core n).dreg a) = false →
      Answers (.setm n a) s fun t => s.FaultsAt t n 1) ∧
    (s.wdsNext n (.b cond target) = true → (s.core n).nearEnd = false → (s.core n).br2 ≠ .ret →
      Answers (.b n cond target) s fun t =>
        (t.core n).br1 = (if condHolds cond (s.core n).fl2 then .taken target else .untaken) ∧
          s.Ran t n [] [] [] false) ∧
    (s.wdsNext n (.call target) = true → (s.core n).nearEnd = false → (s.core n).br2 ≠ .ret →
      Answers (.call n target) s fun t =>
        (t.core n).br1 = .taken target ∧ (t.core n).dreg 15 = BitVec.ofNat 32 (((s.core n).pc + 3) % 8192) ∧
          s.Ran t n [15] [] [] false) ∧
    (s.wdsNext n (.br a) = true → (s.core n).nearEnd = false → (s.core n).br2 ≠ .ret →
      Answers (.br n a) s fun t =>
        (t.core n).br1 = .taken (((s.core n).breg a).toNat % 8192) ∧ s.Ran t n [] [] [] false) ∧
    (s.wdsNext n (.b cond target) = true → (s.core n).nearEnd = true →
      Answers (.b n cond target) s fun t => s.FaultsAt t n 4) ∧
    (s.wdsNext n (.call target) = true → (s.core n).nearEnd = true →
      Answers (.call n target) s fun t => s.FaultsAt t n 4) ∧
    (s.wdsNext n (.br a) = true → (s.core n).nearEnd = true → Answers (.br n a) s fun t => s.FaultsAt t n 4) ∧
    (s.wdsNext n (.repi len count) = true → (s.core n).inSlot = false → (s.core n).loops = [] → count ≠ 0 →
      Answers (.repi n len count) s fun t =>
        (t.core n).loops = [⟨(s.core n).pc + 1, (s.core n).pc + len, count, 0⟩] ∧ s.Ran t n [] [] [] false) ∧
    (s.wdsNext n (.repi len 0) = true → (s.core n).inSlot = false → (s.core n).loops = [] →
      Answers (.repi n len 0) s fun t =>
        (t.core n).pc = ((s.core n).pc + len + 1) % 8192 ∧ (t.core n).loops = [] ∧
          (t.core n).cyc = (s.core n).cyc + 4) ∧
    (s.wdsNext n (.repr len a) = true → (s.core n).inSlot = false → (s.core n).loops = [] →
      ((s.core n).dreg a).toNat % 2 ^ 16 ≠ 0 →
      Answers (.repr n len a) s fun t =>
        (t.core n).loops =
            [⟨(s.core n).pc + 1, (s.core n).pc + len, ((s.core n).dreg a).toNat % 2 ^ 16, 0⟩] ∧
          s.Ran t n [] [] [] false) ∧
    (s.wdsNext n (.repi len count) = true → (s.core n).inSlot = true →
      Answers (.repi n len count) s fun t => s.FaultsAt t n 4) ∧
    (s.wdsNext n (.repi len count) = true → (s.core n).inSlot = false → (s.core n).loops.length = 2 →
      Answers (.repi n len count) s fun t => s.FaultsAt t n 5) ∧
    (∀ l : Level, s.wdsNext n (.repi len count) = true → (s.core n).inSlot = false → (s.core n).loops = [l] →
      l.last < (s.core n).pc + len → Answers (.repi n len count) s fun t => s.FaultsAt t n 4) ∧
    (∀ l : Level, s.wdsNext n .nop = true → (s.core n).br2 = .none → (s.core n).loops = [l] → (s.core n).pc = l.last →
      1 < l.left → Answers (.nop n) s fun t =>
        (t.core n).pc = l.start ∧ (t.core n).loops = [{ l with left := l.left - 1, done := l.done + 1 }]) ∧
    (s.wdsNext n (.exit a) = true → (s.core n).inSlot = false → (s.core n).nearEnd = false →
      (s.core n).chansIdle 15 = true → (s.core n).fabIdle = true → s.wdsTest n = false →
      Answers (.exit n a) s fun t =>
        (t.core n).value = (s.core n).dreg a &&& 0x7FFFFFFF ∧ (t.core n).ph = 2 ∧ (t.core n).faulted = false ∧
          (∀ k, k ≠ n → t.core k = s.core k) ∧ s.RegsBut t [(wdsPage n, Reg.wdsStatus)] ∧
          s.Only t (.cores :: noted)) ∧
    (s.wdsNext n (.exit a) = true → (s.core n).inSlot = false → (s.core n).nearEnd = false →
      (s.core n).chansIdle 15 = false → Answers (.exit n a) s fun t => s.Waits t n) ∧
    (s.wdsNext n (.exit a) = true → (s.core n).inSlot = true → Answers (.exit n a) s fun t => s.FaultsAt t n 4) ∧
    (s.wdsNext n (.waitd mask) = true → (s.core n).chansIdle mask = true →
      Answers (.waitd n mask) s fun t => s.Ran t n [] [] [] false) ∧
    (s.wdsNext n (.waitd mask) = true → (s.core n).chansIdle mask = false →
      Answers (.waitd n mask) s fun t => s.Waits t n) ∧
    (s.wdsNext n .waitf = true → (s.core n).fabIdle = true →
      Answers (.waitf n) s fun t => s.Ran t n [] [] [] false) ∧
    (s.wdsNext n .waitf = true → (s.core n).fabIdle = false → Answers (.waitf n) s fun t => s.Waits t n) ∧
    (s.wdsNext n .ei = true → (s.core n).br2 ≠ .ret → Answers (.ei n) s fun t =>
      (t.core n).ie = s.wdsTest n ∧ s.Ran t n [] [] [] false) ∧
    (s.wdsNext n .di = true → (s.core n).br2 ≠ .ret → Answers (.di n) s fun t =>
      (t.core n).ie = false ∧ s.Ran t n [] [] [] false)

/-- R350, R352, R353, R362, R363, R373: what a Withy core does in Test mode alone, and its illegal words. -/
def Obligations.WithyTestMode : Prop :=
  ∀ (s : State) (n d a k : Nat),
    (s.wdsNext n (.norm d k) = true → s.wdsTest n = true → (s.core n).br2 ≠ .ret → (s.core n).loops = [] →
      Answers (.norm n d k) s fun t =>
        ∃ m, m ≤ 39 ∧ (t.core n).dreg d = BitVec.ofNat 32 m ∧
          ((t.core n).accNew k).toInt = ((s.core n).accOld k).toInt * 2 ^ m ∧
          (m = 39 ∨ ((t.core n).accNew k).getLsbD 39 ≠ ((t.core n).accNew k).getLsbD 38) ∧
          (t.core n).cyc = (s.core n).cyc + 20 ∧ s.Ran t n [d] [k] [] false) ∧
    (s.wdsNext n (.expt d a) = true → s.wdsTest n = true → (s.core n).br2 ≠ .ret → (s.core n).loops = [] →
      Answers (.expt n d a) s fun t =>
        ∃ m, m ≤ 31 ∧ (t.core n).dreg d = BitVec.ofNat 32 m ∧
          ((s.core n).dreg a <<< m).toInt = ((s.core n).dreg a).toInt * 2 ^ m ∧
          (m = 31 ∨ ((s.core n).dreg a <<< m).getLsbD 31 ≠ ((s.core n).dreg a <<< m).getLsbD 30) ∧
          (t.core n).cyc = (s.core n).cyc + 12 ∧ s.Ran t n [d] [] [] false) ∧
    (s.wdsNext n .reti = true → s.wdsTest n = true → (s.core n).nearEnd = false → (s.core n).br2 ≠ .ret →
      Answers (.reti n) s fun t => (t.core n).br1 = .ret ∧ s.Ran t n [] [] [] false) ∧
    (s.wdsNext n .nop = true → (s.core n).br2 = .ret → Answers (.nop n) s fun t =>
      (t.core n).pc = (s.core n).saved.pc ∧ (t.core n).loops = (s.core n).saved.loops ∧
        (t.core n).fl = (s.core n).saved.flags ∧ (t.core n).ie = true) ∧
    (s.wdsNext n (.norm d k) = true → s.wdsTest n = false → Answers (.norm n d k) s fun t => s.FaultsAt t n 1) ∧
    (s.wdsNext n (.expt d a) = true → s.wdsTest n = false → Answers (.expt n d a) s fun t => s.FaultsAt t n 1) ∧
    (s.wdsNext n .reti = true → s.wdsTest n = false → Answers (.reti n) s fun t => s.FaultsAt t n 1) ∧
    (s.wdsFree n = true → s.wdsTest n = true → (s.core n).ie = true →
      (s.core n).pend &&& (s.core n).mreadX (portIrq + 1) 1 ≠ 0 → (s.core n).inSlot = false → (s.core n).atRep = false →
      (s.core n).loops = [] ∨ (s.core n).iterEnd = true →
      s.irqDue n = true ∧ Answers (.interruptEntry n) s fun t =>
        (t.core n).pc = (s.core n).mreadX portIvec 2 % 8192 ∧ (t.core n).ie = false ∧ (t.core n).loops = [] ∧
          (t.core n).saved.pc = (s.core n).pc ∧ (t.core n).saved.flags = (s.core n).fl ∧
          (t.core n).saved.loops = (s.core n).loops ∧ (∀ r, (t.core n).dreg r = (s.core n).dreg r) ∧
          (∀ k, k ≠ n → t.core k = s.core k) ∧ s.Only t (.cores :: noted)) ∧
    (s.wdsTest n = false → Answers (.interruptEntry n) s fun t => t = s) ∧
    (∀ ecc, s.wdsFree n = true → s.irqDue n = false → s.inBudget n = true → s.fetchFault n = true →
      Answers (.reservedOpcode ⟨n, ecc⟩) s fun t => s.FaultsAt t n 3) ∧
    (∀ ecc, s.wdsFree n = true → s.irqDue n = false → s.inBudget n = true → s.fetchFault n = false → ecc ≠ 2 →
      withyDecode (s.wdsWord n) = none → Answers (.reservedOpcode ⟨n, ecc⟩) s fun t => s.FaultsAt t n 1) ∧
    (s.wdsFree n = true → s.irqDue n = false → s.inBudget n = true → s.fetchFault n = false →
      Answers (.reservedOpcode ⟨n, 2⟩) s fun t => s.FaultsAt t n 9 ∧ t.ready (wdsPage n) = false) ∧
    (s.inBudget n = true → s.wdsTest n = false → (s.core n).codeLen ≤ (s.core n).pc → s.fetchFault n = true) ∧
    (∀ op, s.irqDue n = true → s.wdsNext n op = false)

/-- R162, R280, R365, R366, R368, R372, R373: the transfers and the requests of a Withy core. -/
def Obligations.WithyTransfers : Prop :=
  (∀ (s : State) (n ch pc loc lenw : Nat), ((s.core n).chan ch).go = some pc → ((s.core n).chan ch).busy = false →
    (s.core n).mreadX (portDma ch) 1 % 4 < 2 → loc = (s.core n).mreadX (portDma ch + 12) 4 % 2 ^ 17 →
    lenw = (s.core n).mreadX (portDma ch + 12) 4 / 2 ^ 17 → 0 < lenw → lenw ≤ 16384 → loc % 4 = 0 → 0x100 ≤ loc →
    loc + 4 * lenw ≤ 0x12000 →
    Answers (.dmaStart n ch) s fun t =>
      (t.core n).chan ch =
          { (s.core n).chan ch with
            busy := true, go := none, kind := (s.core n).mreadX (portDma ch) 1 % 4,
            out := decide ((s.core n).mreadX (portDma ch) 1 / 4 % 2 = 1), ref := (s.core n).mreadX (portDma ch + 4) 4,
            ofs := (s.core n).mreadX (portDma ch + 8) 4, loc := loc, lenw := lenw } ∧
        (∀ k, k ≠ ch → (t.core n).chan k = (s.core n).chan k) ∧ (t.core n).dmem = (s.core n).dmem ∧
        (∀ k, k ≠ n → t.core k = s.core k) ∧ s.Only t [.cores]) ∧
  (∀ (s : State) (n ch pc : Nat), ch < 4 → ((s.core n).chan ch).go = some pc →
    ((s.core n).chan ch).busy = true ∨ (s.core n).mreadX (portDma ch + 12) 4 % 2 ^ 17 < 0x100 →
    Answers (.dmaStart n ch) s fun t =>
      t.rf (wdsPage n) Reg.wdsFault 19 16 = 8 ∧ t.rf (wdsPage n) Reg.wdsFault 12 0 = pc % 8192 ∧
        (t.core n).value = 0x80000008#32 ∧ ((t.core n).chan ch).go = none ∧
        (((s.core n).chan ch).busy = false → ((t.core n).chan ch).busy = false) ∧ (∀ k, k ≠ n → t.core k = s.core k)) ∧
  (∀ (s : State) (n ch ecc : Nat) (d : Dma), d = (s.core n).chan ch → d.busy = true → s.fenced (wdsPage n) = false →
    s.dmaStatus n d = 0 → d.out = false → (s.core n).ph ≠ 0 →
    Answers (.dmaDone n ⟨ch, ecc⟩) s fun t =>
      (∀ i, i < 4 * d.lenw → (t.core n).mbyteX (d.loc + i) = s.dmaByte d i) ∧
        (∀ x, ¬(d.loc ≤ x ∧ x < d.loc + 4 * d.lenw) → (t.core n).mbyteX x = (s.core n).mbyteX x) ∧
        (t.core n).chan ch = { d with busy := false, status := 0 } ∧ (∀ k, k ≠ n → t.core k = s.core k) ∧
        s.RegsBut t [] ∧ s.Only t (.cores :: noted)) ∧
  (∀ (s : State) (n ch ecc : Nat) (d : Dma), d = (s.core n).chan ch → d.busy = true → s.fenced (wdsPage n) = false →
    s.dmaStatus n d = 0 → d.out = true → d.kind = 0 → s.bufInDram d.ref = false → ecc ≠ 2 →
    Answers (.dmaDone n ⟨ch, ecc⟩) s fun t =>
      (∀ i, i < 4 * d.lenw → t.dmaByte d i = (s.core n).mbyteX (d.loc + i)) ∧
        (∀ a, ¬(s.dmaAddr d 0 ≤ a ∧ a < s.dmaAddr d 0 + 4 * d.lenw) → t.pktByte a = s.pktByte a) ∧
        (∀ x, (t.core n).mbyteX x = (s.core n).mbyteX x) ∧
        (t.core n).chan ch = { d with busy := false, status := 0 } ∧ (∀ k, k ≠ n → t.core k = s.core k) ∧
        s.Only t ([.cores, .mem] ++ noted)) ∧
  (∀ (s : State) (n ch ecc : Nat) (d : Dma), d = (s.core n).chan ch → d.busy = true → s.fenced (wdsPage n) = false →
    s.dmaStatus n d ≠ 0 → s.dmaStatus n d ≠ 4 →
    Answers (.dmaDone n ⟨ch, ecc⟩) s fun t =>
      (t.core n).chan ch = { d with busy := false, status := s.dmaStatus n d } ∧ (t.core n).dmem = (s.core n).dmem ∧
        s.Only t [.cores, .reg]) ∧
  (∀ (s : State) (n ch ecc : Nat) (d : Dma), d = (s.core n).chan ch → d.busy = true → s.fenced (wdsPage n) = false →
    s.dmaStatus n d = 0 → d.out = true → d.kind = 0 → s.bufInDram d.ref = false → ecc = 2 → (s.core n).ph = 1 →
    Answers (.dmaDone n ⟨ch, ecc⟩) s fun t =>
      t.rf (wdsPage n) Reg.wdsFault 19 16 = 9 ∧ (t.core n).value = 0x80000009#32 ∧ t.ready (wdsPage n) = false ∧
        ((t.core n).chan ch).busy = false ∧ (∀ a, ¬(s.dmaAddr d 0 ≤ a ∧ a < s.dmaAddr d 0 + 4 * d.lenw) →
          t.pktByte a = s.pktByte a)) ∧
  (∀ (s : State) (n rq pool i : Nat), n < 512 → (s.core n).fctl = some (3, rq) → s.fenced (wdsPage n) = false →
    (s.core n).outDone = true → (s.core n).fbusy = false → s.following = false → fld ((s.core n).freq 0) 3 0 = 1 →
    fld ((s.core n).freq 0) 9 4 = pool → s.poolState pool = 2 → s.lowestFree pool = some i →
    s.metaPoison (pool * 2 ^ 26 + i) = none →
    Answers (.fabricRequest n) s fun t =>
      t.owners (pool * 2 ^ 26 + i) = [s.portOwner n] ∧ (∀ h, h ≠ pool * 2 ^ 26 + i → t.owners h = s.owners h) ∧
        (t.core n).fctl = none ∧ (t.core n).fbusy = true ∧
        (t.core n).fres = [0, BitVec.ofNat 32 (pool * 2 ^ 26 + i)] ∧ (∀ k, k ≠ n → t.core k = s.core k)) ∧
  (∀ (s : State) (n rq : Nat), (s.core n).fctl = some (6, rq) → s.fenced (wdsPage n) = false →
    (s.core n).outDone = true → (s.core n).fbusy = false → s.ready lfwPage = true →
    bit ((s.core n).freq 0) 31 = false →
    Answers (.fabricRequest n) s fun t =>
      t.tw lfwPage 5 0 (fld ((s.core n).freq 0) 15 0) 1 = (s.core n).freq 1 ∧ (t.core n).fbusy = true ∧
        (t.core n).fres = [0]) ∧
  (∀ (s : State) (n target rq : Nat), (s.core n).fctl = some (target, rq) → target = 0 ∨ 6 < target →
    Answers (.fabricRequest n) s fun t =>
      t.rf (wdsPage n) Reg.wdsFault 19 16 = 7 ∧ t.rf (wdsPage n) Reg.wdsFault 12 0 = (s.core n).fctlPc % 8192 ∧
        (t.core n).value = 0x80000007#32 ∧ (t.core n).fctl = none) ∧
  (∀ (s : State) (n target rq : Nat), (s.core n).fctl = some (target, rq) → 1 ≤ target → target ≤ 6 →
    s.fenced (wdsPage n) = false → (s.core n).outDone = false ∨ (s.core n).fbusy = true →
    Answers (.fabricRequest n) s fun t => s.Waits t n) ∧
  (∀ (s : State) (n i : Nat) (v : Word), (s.core n).fbusy = true → (s.core n).fdrop = false →
    s.fenced (wdsPage n) = false → i < 3 → v = (s.core n).fres.getD i 0 →
    Answers (.fabricResponse n) s fun t =>
      (t.core n).fbusy = false ∧ (t.core n).mread (portFres + 4 * i) 4 = v.toNat ∧
        (∀ k, k ≠ n → t.core k = s.core k) ∧ s.Only t [.cores]) ∧
  (∀ (s : State) (n : Nat), (s.core n).fbusy = true → (s.core n).fdrop = true →
    Answers (.fabricResponse n) s fun t =>
      (t.core n).fbusy = false ∧ (t.core n).dmem = (s.core n).dmem ∧
        (t.execIdle n = true → (t.core n).ph = 0 → t.rf (wdsPage n) Reg.wdsStatus 1 0 = 0) ∧
        s.RegsBut t [(wdsPage n, Reg.wdsStatus)] ∧ s.Only t [.cores, .reg])

/-- R344, R372, R377, R380: a Withy core in Test mode, seen from its page. -/
def Obligations.WithyTestAccess : Prop :=
  (∀ (s : State) (src : Src) (n : Nat), n < 512 → s.Opens src (wdsPage n) Reg.wdsMode → s.wdsTest n = false →
    s.execIdle n = true → (s.core n).ph = 0 → s.execEn n = false →
    Answers (.wdsModeWrite src n true) s fun t =>
      t.wdsTest n = true ∧ t.cores = s.cores ∧ t.rf (wdsPage n) Reg.pageReady 15 8 = t.readyReason (wdsPage n) % 256 ∧
        s.RegsBut t [(wdsPage n, Reg.wdsMode), (wdsPage n, Reg.pageReady)] ∧ s.Only t noted) ∧
  (∀ (s : State) (src : Src) (n : Nat), n < 512 → s.Opens src (wdsPage n) Reg.wdsMode → s.wdsTest n = true →
    s.execIdle n = true → (s.core n).ph = 0 → s.execEn n = false →
    Answers (.wdsModeWrite src n false) s fun t =>
      t.wdsTest n = false ∧ (t.core n).imem = [] ∧ (∀ a, (t.core n).mbyteX a = 0) ∧
        t.rb (wdsPage n) Reg.wdsStatus 2 = false ∧ (∀ k, k ≠ n → t.core k = s.core k) ∧
        s.RegsBut t [(wdsPage n, Reg.wdsMode), (wdsPage n, Reg.wdsStatus), (wdsPage n, Reg.pageReady)] ∧
        s.Only t (.cores :: noted)) ∧
  (∀ (s : State) (src : Src) (n : Nat) (test : Bool), n < 512 → s.Opens src (wdsPage n) Reg.wdsMode →
    s.execIdle n = false ∨ s.execEn n = true →
    s.rb (wdsPage n) Reg.errInfo 31 = false →
    Answers (.wdsModeWrite src n test) s fun t =>
      t.wdsTest n = s.wdsTest n ∧ t.cores = s.cores ∧ t.rf (wdsPage n) Reg.errInfo 19 16 = 11 ∧ s.RegsBut t [] ∧
        s.Only t noted) ∧
  (∀ (s : State) (src : Src) (n entry : Nat) (v : Word), n < 512 → s.Opens src (wdsPage n) tblDataOff →
    s.wdsTest n = true →
    Answers (.wdsMemWrite src n false entry v) s fun t =>
      NMap.get word0 (t.core n).imem entry = v ∧
        (∀ k, k ≠ entry → NMap.get word0 (t.core n).imem k = NMap.get word0 (s.core n).imem k) ∧
        (t.core n).dmem = (s.core n).dmem ∧ (∀ k, k ≠ n → t.core k = s.core k) ∧ s.Only t [.cores, .prg]) ∧
  (∀ (s : State) (src : Src) (n entry : Nat) (v : Word), n < 512 → s.Opens src (wdsPage n) tblDataOff →
    s.wdsTest n = true →
    Answers (.wdsMemWrite src n true entry v) s fun t =>
      (t.core n).mread (4 * entry) 4 = v.toNat ∧
        (∀ a, ¬(4 * entry ≤ a ∧ a < 4 * entry + 4) → w1cByte a = false → (t.core n).mbyteX a = (s.core n).mbyteX a) ∧
        (t.core n).imem = (s.core n).imem ∧ (∀ k, k ≠ n → t.core k = s.core k) ∧ s.Only t [.cores, .prg]) ∧
  (∀ (s : State) (src : Src) (n entry : Nat) (dmem : Bool) (v : Word), n < 512 → s.Opens src (wdsPage n) tblDataOff →
    s.wdsTest n = false →
    Answers (.wdsMemWrite src n dmem entry v) s fun t => t.cores = s.cores) ∧
  (∀ (s : State) (src : Src) (n pc : Nat), n < 512 → s.Opens src (wdsPage n) Reg.wdsTest → s.wdsTest n = true →
    (s.core n).ph = 0 → (s.core n).moving = false → pc < 8192 →
    Answers (.testGo src n pc) s fun t =>
      (t.core n).ph = 1 ∧ (t.core n).pc = pc ∧ (∀ r, (t.core n).dreg r = 0) ∧ (∀ k, (t.core n).accNew k = 0) ∧
        (t.core n).imem = (s.core n).imem ∧ (t.core n).loops = [] ∧ t.rf (wdsPage n) Reg.wdsStatus 1 0 = 2 ∧
        t.rf (wdsPage n) Reg.wdsTestRes 0 0 = 0 ∧ (∀ k, k ≠ n → t.core k = s.core k) ∧
        s.Only t [.cores, .reg, .prg]) ∧
  (∀ (s : State) (src : Src) (n : Nat), n < 512 → s.Opens src (wdsPage n) Reg.wdsTest → s.wdsTest n = true →
    Answers (.testIrq src n) s fun t =>
      t.core n = { s.core n with pend := (s.core n).pend ||| 4 } ∧ (∀ k, k ≠ n → t.core k = s.core k) ∧
        s.Only t [.cores, .prg]) ∧
  (∀ (s : State) (src : Src) (n : Nat), n < 512 → s.Opens src (wdsPage n) Reg.wdsTest → s.wdsTest n = true →
    (s.core n).ph ≠ 0 →
    Answers (.testHalt src n) s fun t =>
      (t.core n).ph = 0 ∧ (t.core n).fctl = none ∧
        (∀ ch, ch < 4 → ((t.core n).chan ch).go = none ∧
          (((t.core n).chan ch).busy = true → ((s.core n).chan ch).busy = true)) ∧
        t.rf (wdsPage n) Reg.wdsTestRes 0 0 = 1 ∧ (t.core n).imem = (s.core n).imem ∧
        (∀ k, k ≠ n → t.core k = s.core k)) ∧
  (∀ (s : State) (src : Src) (n pc : Nat), n < 512 → s.Opens src (wdsPage n) Reg.wdsTest → s.wdsTest n = false →
    Answers (.testGo src n pc) s (fun t => t.cores = s.cores) ∧ Answers (.testIrq src n) s (fun t => t.cores = s.cores) ∧
      Answers (.testHalt src n) s (fun t => t.cores = s.cores))

/-- R49, R391, R392, R395 to R397, R400, R401, R403 to R405, R429: the video encoders. The quarter-resolution samples, the bits of a
vector and λ are free (log 56). -/
def Obligations.VideoEncoders : Prop :=
  (∀ (s : State) (n m f : Nat) (e d : List Word), e = s.encEnt n m →
    d = encDesc e n m f (decide (eSrcKind e = 1) && s.composes (eSrcPipe e) s.wale64) → m < 64 →
    s.stepDue 7 = true → s.ready (encPage n) = true → s.raf (encPage n) Reg.vceEncCfg 0 0 = 1 →
    (s.encoder n).launched ≠ some s.wale64 → s.following = false → s.heldBack (.enc n m) = false → eEn e = true →
    frameAt (eFps e) s.wale64 = some f → (s.encStream n m).skip = false → s.submitStatus d = 0 →
    (∀ k, k < 64 → k ≠ m → eEn (s.encEnt n k) = false) →
    Answers (.encLaunch n) s fun t =>
      t.clk.phase = 7 ∧ (t.encoder n).launched = some s.wale64 ∧
        (t.encStream n m).queued = (s.encStream n m).queued ++ [(f, s.wale64, e)] ∧
        (t.task s.lowestId).dep = (decide (eSrcKind e = 1) && s.composes (eSrcPipe e) s.wale64).toNat ∧ dKind (t.task s.lowestId).desc = 1 ∧
        (dArg (t.task s.lowestId).desc 0).toNat = m ∧ (dArg (t.task s.lowestId).desc 1).toNat = f % 2 ^ 32 ∧
        (∀ k, k ≠ s.lowestId → t.task k = s.task k) ∧
        s.Only t ([.clk, .rve, .tbl, .mem, .col, .vce, .wve, .pxc] ++ noted)) ∧
  (∀ (s : State) (n m f : Nat), m < 64 → s.stepDue 7 = true → s.ready (encPage n) = true →
    s.raf (encPage n) Reg.vceEncCfg 0 0 = 1 → (s.encoder n).launched ≠ some s.wale64 →
    s.heldBack (.enc n m) = false → eEn (s.encEnt n m) = true → frameAt (eFps (s.encEnt n m)) s.wale64 = some f →
    (s.encStream n m).skip = true → (∀ k, k < 64 → k ≠ m → eEn (s.encEnt n k) = false) →
    Answers (.encLaunch n) s fun t =>
      (t.encStream n m).skip = false ∧ (t.encStream n m).queued = (s.encStream n m).queued ∧ t.rve = s.rve ∧
        s.Only t [.clk, .vce]) ∧
  (∀ (s : State) (n m f : Nat) (e d : List Word), e = s.encEnt n m →
    d = encDesc e n m f (decide (eSrcKind e = 1) && s.composes (eSrcPipe e) s.wale64) → m < 64 →
    s.stepDue 7 = true → s.ready (encPage n) = true → s.raf (encPage n) Reg.vceEncCfg 0 0 = 1 →
    (s.encoder n).launched ≠ some s.wale64 → s.following = false → s.heldBack (.enc n m) = false → eEn e = true →
    frameAt (eFps e) s.wale64 = some f → (s.encStream n m).skip = false → s.submitStatus d ≠ 0 →
    (∀ k, k < 64 → k ≠ m → eEn (s.encEnt n k) = false) →
    Answers (.encLaunch n) s fun t =>
      t.rve.tasks = s.rve.tasks ∧ (t.encStream n m).queued = (s.encStream n m).queued ∧
        t.ctrAt (encPage n) .vceLaunchRefused 0 = min (s.ctrAt (encPage n) .vceLaunchRefused 0 + 1) (2 ^ 32 - 1)) ∧
  (∀ (s : State) (n : Nat) (pic : EncPic) (u : CodedUnit) (new : LayerPic) (ends : Bool) (dd : TStruct),
    (s.encoder n).pic = some pic → s.unitNext n pic u = some (new, ends, dd) → pic.mute = true →
    Answers (.encUnitEmit n u) s fun t =>
      t.col = s.col ∧ s.RegsBut t [] ∧ s.Only t ([.vce, .mem] ++ noted) ∧ (ends = false → t.mem = s.mem) ∧
        (t.encStream n pic.stream).dd = dd ∧
        ∃ q, (t.encoder n).pic = some q ∧ q.unit = pic.unit + 1 ∧ q.stream = pic.stream ∧ q.f = pic.f ∧
          q.lost = pic.lost ∧
          (if ends then q.done.length = pic.done.length + 1 ∧ q.cur = none
           else q.done = pic.done ∧ q.cur.map (·.c) = some new.c)) ∧
  (∀ (s : State) (n : Nat) (pic : EncPic) (u : CodedUnit) (new : LayerPic) (ends : Bool) (st : TStruct)
    (dd body : List Byte), (s.encoder n).pic = some pic → s.unitNext n pic u = some (new, ends, st) → pic.mute = false →
    u.pkts = [(dd, body)] → s.following = false → s.qOn (eOutQ pic.ent) = true →
    s.qCredit (encPort n) (eOutQ pic.ent) (32 + dd.length + body.length) = true →
    Answers (.encUnitEmit n u) s fun t =>
      (t.cq (eOutQ pic.ent)).wr =
          ((s.cq (eOutQ pic.ent)).wr + 16 * ((32 + dd.length + body.length + 8 + 15) / 16)) % 2 ^ 32 ∧
        (∀ k, k ≠ eOutQ pic.ent → t.cq k = s.cq k) ∧
        (t.encoder n).pic.map (fun q => (q.unit, q.lost)) = some (pic.unit + 1, pic.lost)) ∧
  (∀ (s : State) (n : Nat) (pic : EncPic) (u : CodedUnit) (new : LayerPic) (ends : Bool) (dd : TStruct),
    s.unitNext n pic u = some (new, ends, dd) →
      u.ctus ≠ [] ∧ new.c = (s.unitLayer n pic u.hdr).c + u.ctus.length ∧ new.layer = (s.unitLayer n pic u.hdr).layer ∧
        (ends = true ↔ new.c = (rcOf pic.ent pic.done.length).n * (rcOf pic.ent pic.done.length).rows)) ∧
  (∀ (l : LayerPic) (c : RcCfg) (cls : Option ClassRec) (x : CtuCost) (k : Nat),
    (l.ctu c cls x k).c = l.c + 1 ∧
      ((l.ctu c cls x k).used = l.used + x.q ∨ (l.ctu c cls x k).used = l.used + x.g ∨
        (l.ctu c cls x k).used = l.used + x.f) ∧
      (l.starve = none → l.used + x.q + c.floor * (c.n * c.rows - l.c - 1) ≤ l.tp →
        (l.ctu c cls x k).used = l.used + x.q ∧ (l.ctu c cls x k).starve = none) ∧
      (l.starve = none → (l.ctu c cls x k).starve = none →
        (l.ctu c cls x k).used + c.floor * (c.n * c.rows - l.c - 1) ≤ l.tp)) ∧
  (∀ q : Search, (q.run = (0, 0) ∨ q.admits q.run.1 q.run.2 = true) ∧
      q.run.1.natAbs ≤ 1024 ∧ q.run.2.natAbs ≤ 512) ∧
  (∀ (l : List Cand) (c : Cand), bestCand l = some c → c ∈ l ∧ ∀ d ∈ l, c.cost ≤ d.cost) ∧
  (∀ (s : State) (src : Src) (n m : Nat), s.Opens src (encPage n) Reg.vceEncRefresh → eEn (s.encEnt n m) = true →
    eTile (s.encEnt n m) = false →
    Answers (.encRefresh (some src) n m) s fun t =>
      t.encStream n m = { s.encStream n m with reqs := (s.encStream n m).reqs ++ [s.wale64] } ∧
        (∀ k, k ≠ m → t.encStream n k = s.encStream n k) ∧ s.Only t [.vce, .prg]) ∧
  (∀ (s : State) (src : Src) (n m : Nat), s.Opens src (encPage n) Reg.vceEncRefresh →
    eEn (s.encEnt n m) = false ∨ eTile (s.encEnt n m) = true →
    Answers (.encRefresh (some src) n m) s fun t => s.Only t [.prg]) ∧
  (∀ (s : State) (n m w : Nat), eEn (s.encEnt n m) = true → eTile (s.encEnt n m) = false →
    s.lfw.refresh = [(eScid (s.encEnt n m), w)] →
    Answers (.encRefresh none n m) s fun t =>
      t.lfw.refresh = [] ∧ (t.encStream n m).reqs = (s.encStream n m).reqs ++ [s.wale64] ∧ s.Only t [.lfw, .vce])

/-- R411 to R416: the video decoders. -/
def Obligations.VideoDecoders : Prop :=
  (∀ (s s1 : State) (n m ext w ts : Nat) (b pay : List Byte), s.ready (decPage n) = true →
    dEn (s.decEnt n m) = true → s.raf (decPage n) Reg.vceDecCfg 0 0 = 1 →
    s.colTake (decPort n) (dInQ (s.decEnt n m)) = (s1, some b) → (s1.decStream n m).asm = none →
    (s1.decStream n m).lastTs ≠ some ts → pktFields b = (ext, w, ts, false, pay) →
    Answers (.decPacketAssemble n m) s fun t =>
      t.decStream n m = { s1.decStream n m with asm := some ⟨ts, [(ext, false, pay, w)]⟩ } ∧ s1.Only t [.vce]) ∧
  (∀ (s s1 : State) (n m ext w ts h : Nat) (b pay : List Byte) (nals : List (List Byte)) (a : Assembly),
    s.ready (decPage n) = true → dEn (s.decEnt n m) = true → s.raf (decPage n) Reg.vceDecCfg 0 0 = 1 →
    s.colTake (decPort n) (dInQ (s.decEnt n m)) = (s1, some b) → (s1.decStream n m).asm = some a → a.ts = ts →
    pktFields b = (ext, w, ts, true, pay) →
    ({ a with pkts := a.pkts ++ [(ext, true, pay, w)] } : Assembly).whole = true →
    depay (dCodec (s.decEnt n m)) ({ a with pkts := a.pkts ++ [(ext, true, pay, w)] } : Assembly).payloads = some nals →
    (s1.decStream n m).st = 1 → dCodec (s.decEnt n m) ≠ 1 → s1.following = false →
    s1.poolState (dBsPool (s.decEnt n m)) = 2 →
    nals.flatten.length ≤ s1.bufSize (dBsPool (s.decEnt n m) * 2 ^ 26) →
    (s1.crlAlloc (decPort n) (dBsPool (s.decEnt n m))).2 = some h → s1.bufInDram h = false →
    Answers (.decPacketAssemble n m) s fun t =>
      (t.decStream n m).hold =
          (s1.decStream n m).hold ++ [⟨h, nals.flatten.length, w, ts, false, false, 0⟩] ∧
        (t.decStream n m).asm = none ∧ (t.decStream n m).st = 1 ∧
        t.bufBytes h 0 nals.flatten.length = nals.flatten ∧ t.owners h = [s1.portOwner (decPort n)]) ∧
  (∀ (s s1 : State) (n m ext w ts : Nat) (b pay : List Byte) (a : Assembly), s.ready (decPage n) = true →
    dEn (s.decEnt n m) = true → s.raf (decPage n) Reg.vceDecCfg 0 0 = 1 →
    s.colTake (decPort n) (dInQ (s.decEnt n m)) = (s1, some b) → (s1.decStream n m).asm = some a → a.ts = ts →
    pktFields b = (ext, w, ts, true, pay) →
    ({ a with pkts := a.pkts ++ [(ext, true, pay, w)] } : Assembly).whole = false → (s1.decStream n m).st = 1 →
    Answers (.decPacketAssemble n m) s fun t =>
      (t.decStream n m).st = 2 ∧ (t.decStream n m).cause = 1 ∧ (t.decStream n m).frozen = true ∧
        (t.decStream n m).stopped = s.wale ∧ (t.decStream n m).asm = none ∧ t.crl = s1.crl ∧
        t.lfw.needIntra = s.lfw.needIntra ++ (if dReport (s.decEnt n m) then [dScid (s.decEnt n m)] else [])) ∧
  (∀ (s s1 : State) (n m : Nat) (b : List Byte), s.ready (decPage n) = true → dEn (s.decEnt n m) = true →
    s.raf (decPage n) Reg.vceDecCfg 0 0 = 0 → s.colTake (decPort n) (dInQ (s.decEnt n m)) = (s1, some b) →
    Answers (.decPacketAssemble n m) s fun t =>
      t.decStream n m = { s.decStream n m with asm := none } ∧ s1.Only t [.vce]) ∧
  (∀ (s : State) (n m ctus : Nat) (u : DecUnit) (r : List DecUnit), s.ready (decPage n) = true →
    s.raf (decPage n) Reg.vceDecCfg 0 0 = 1 → (s.decStream n m).flight = none → (s.decStream n m).hold = u :: r →
    (s.decStream n m).st = 1 ∨ u.intra = true → s.submitStatus (decDesc (s.decEnt n m) n m { u with ctus := ctus }) = 0 →
    Answers (.decUnitSubmit n m ctus) s fun t =>
      t.decStream n m = { s.decStream n m with hold := r, flight := some { u with ctus := ctus } } ∧
        (t.task s.lowestId).st = 3 ∧ dKind (t.task s.lowestId).desc = 2 ∧
        (dArg (t.task s.lowestId).desc 0).toNat = m % 2 ^ 32 ∧ dBudget (t.task s.lowestId).desc =
          (decCycles ctus u.bytes + 1024) % 2 ^ 32 ∧
        (∀ k, k ≠ s.lowestId → t.task k = s.task k)) ∧
  (∀ (s : State) (n m ctus : Nat) (u : DecUnit) (r : List DecUnit), s.ready (decPage n) = true →
    s.raf (decPage n) Reg.vceDecCfg 0 0 = 1 → (s.decStream n m).flight = none → (s.decStream n m).hold = u :: r →
    (s.decStream n m).st = 1 ∨ u.intra = true → s.submitStatus (decDesc (s.decEnt n m) n m { u with ctus := ctus }) ≠ 0 →
    Answers (.decUnitSubmit n m ctus) s fun t =>
      t.decStream n m = { s.decStream n m with hold := r } ∧ t.rve.tasks = s.rve.tasks ∧
        t.ctrAt (decPage n) .vceDecLate 0 = min (s.ctrAt (decPage n) .vceDecLate 0 + 1) (2 ^ 32 - 1)) ∧
  (∀ (s : State) (n m id slot : Nat) (u : DecUnit) (p : DecPic), s.runOf (decPort n) = some id →
    m = (dArg (s.task id).desc 0).toNat % 256 → (s.decStream n m).flight = some u →
    (s.task id).start * 6 + decCycles u.ctus u.bytes * 5 ≤ s.clk.tru * 6 →
    decCycles u.ctus u.bytes ≤ dBudget (s.task id).desc → s.pastDeadline id = false →
    s.bufPoisoned u.handle 0 u.bytes = false →
    (s.decStream n m).st = 1 → u.fits (.pic p) = true → p.w ≤ dMaxW (s.decEnt n m) → p.h ≤ dMaxH (s.decEnt n m) →
    (s.decStream n m).freeSlot (dNslot (s.decEnt n m)) = some slot → p.outs = [u.ts] →
    (∀ d ∈ (s.decStream n m).dpb, d.ts ≠ u.ts) →
    Answers (.decodeComplete n (.pic p)) s fun t =>
      t.runOf (decPort n) = none ∧ (t.decStream n m).flight = none ∧ (t.decStream n m).st = 1 ∧
        (t.decStream n m).count = ((s.decStream n m).count + 1) % 2 ^ 32 ∧
        (t.decStream n m).recs = (s.decStream n m).recs.set (s.decStream n m).next
          { slot := slot, valid := true, damaged := (s.decStream n m).damaged, w8 := p.w / 8, h8 := p.h / 8,
            wale := u.wa, ts := u.ts, count := ((s.decStream n m).count + 1) % 2 ^ 32 }) ∧
  (∀ (s : State) (n m id c d : Nat) (u : DecUnit), s.runOf (decPort n) = some id →
    m = (dArg (s.task id).desc 0).toNat % 256 → (s.decStream n m).flight = some u →
    (s.task id).start * 6 + decCycles u.ctus u.bytes * 5 ≤ s.clk.tru * 6 →
    decCycles u.ctus u.bytes ≤ dBudget (s.task id).desc → s.pastDeadline id = false →
    s.bufPoisoned u.handle 0 u.bytes = false →
    (s.decStream n m).st = 1 →
    Answers (.decodeComplete n (.stop c d)) s fun t =>
      t.runOf (decPort n) = none ∧ (t.decStream n m).flight = none ∧ (t.decStream n m).frozen = true ∧
        (t.decStream n m).cause = c ∧ (t.decStream n m).st = (if c < 7 then 2 else 3) ∧
        (t.decStream n m).recs = (s.decStream n m).recs) ∧
  (∀ (s : State) (n id : Nat) (u : DecUnit) (r : DecResult), s.runOf (decPort n) = some id →
    (s.decStream n ((dArg (s.task id).desc 0).toNat % 256)).flight = some u →
    s.clk.tru * 6 < (s.task id).start * 6 + decCycles u.ctus u.bytes * 5 →
    Answers (.decodeComplete n r) s fun t => t = s) ∧
  (∀ (s : State) (src : Src) (n m : Nat), s.Opens src (decPage n) Reg.vceDecRestart → dEn (s.decEnt n m) = true →
    Answers (.decRestart src n m) s fun t =>
      (t.decStream n m).st = 2 ∧ (t.decStream n m).hold = [] ∧ (t.decStream n m).dpb = [] ∧
        (t.decStream n m).frozen = true ∧ (∀ r ∈ (t.decStream n m).recs, r.valid = false) ∧
        (∀ k, k ≠ m → t.decStream n k = s.decStream n k))

/-- R430, R431, R438, R440, R442, R449: Weave. -/
def Obligations.WeaveSplicing : Prop :=
  (∀ (s s1 : State) (q tag f unit : Nat) (b body : List Byte) (p : TilePic), s.ready 0x330 = true →
    s.raf 0x330 Reg.wveInQbase 12 12 = 1 →
    s.colTake (wvePort 0) ((s.raf 0x330 Reg.wveInQbase 11 0 + q) % 4096) = (s1, some b) →
    tag = leNat (b.take 4) % 2 ^ 25 → f = leNat ((b.drop 8).take 4) → unit = leNat ((b.drop 12).take 2) →
    body = (b.drop (32 + (b.getD 18 0).toNat)).take (leNat ((b.drop 20).take 2)) → s1.tagOk tag = true →
    s1.tilePic tag f = some p → p.f % 2 ^ 32 = f → p.missing = none → p.ovf = false →
    p.bytes + body.length ≤ slotSize → p.f < 2 ^ 32 → s1.tileLate p = false →
    Answers (.weaveIngest q) s fun t =>
      t.tilePic tag f = some { p with units := p.units ++ [(unit, p.bytes, body.length)],
                                      bytes := p.bytes + body.length } ∧
        s1.Only t [.mem, .wve]) ∧
  (∀ (s s1 : State) (q : Nat) (b : List Byte), s.ready 0x330 = true → s.raf 0x330 Reg.wveInQbase 12 12 = 1 →
    s.colTake (wvePort 0) ((s.raf 0x330 Reg.wveInQbase 11 0 + q) % 4096) = (s1, some b) →
    s1.tagOk (leNat (b.take 4) % 2 ^ 25) = false →
    Answers (.weaveIngest q) s fun t =>
      t.wve = s.wve ∧ t.mem = s1.mem ∧
        t.ctrAt 0x330 .wveUnitUnknown 0 = min (s.ctrAt 0x330 .wveUnitUnknown 0 + 1) (2 ^ 32 - 1)) ∧
  (∀ (s : State) (tag f : Nat) (p : TilePic), s.genState = 2 → s.ready 0x330 = true → s.wveCut ≤ s.wale64 →
    s.following = false → s.tagOk tag = true → frameAt (eFps (s.tagEnt tag)) (s.wale64 - s.wveCut) = some f →
    s.tilePic tag f = some p → p.f = f → p.missing = none → p.ended = none → p.ovf = false →
    Answers .weaveCut s fun t =>
      t.tilePic tag f = some { p with missing := some 5 } ∧ s.RegsBut t [] ∧ s.Only t (.wve :: noted)) ∧
  (∀ (s : State) (m p e f : Nat) (r : List Word), s.stepDue 7 = true → s.ready 0x330 = true → tmEn (s.tmpl m) = true →
    s.heldBack (.tmpl m) = false → NMap.get (fun _ => none) s.wve.launched m ≠ some s.wale64 →
    frameAt (tmFps (s.tmpl m)) s.wale64 = some f → s.canonical → p < 2 → s.splices p = true →
    (e, r) ∈ s.tlist (wvePage p) 3 0 → (∀ q, ∀ x ∈ s.tlist (wvePage q) 3 0, x.1 < 32768) → rvEn r = true → rvTmpl r = m →
    Answers (.weaveLaunch m) s fun t =>
      t.clk.phase = 7 ∧ NMap.get (fun _ => none) t.wve.launched m = some s.wale64 ∧
        ((s.rcv p e).skip = true → t.rcv p e = { s.rcv p e with skip := false }) ∧
        ((s.rcv p e).skip = false → (s.rcv p e).keyed = false → tLayer (tmMode (s.tmpl m)) (f % 4) = 0 →
          (t.rcv p e).todo = some (f, s.wale64, true, launchOf (tmFps (s.tmpl m)) (f + 1)) ∧
            (t.rcv p e).keyWale = s.wale64) ∧
        ((s.rcv p e).skip = false → (s.rcv p e).keyed = true → (s.rcv p e).trig = [] →
          tLayer (tmMode (s.tmpl m)) (f % 4) ≤ rvMaxT r →
          (t.rcv p e).todo = some (f, s.wale64, false, launchOf (tmFps (s.tmpl m)) (f + 1))) ∧
        s.RegsBut t [] ∧ s.Only t ([.clk, .wve, .vce] ++ noted)) ∧
  (∀ (g : Region) (a : Option Nat) (here fresh : Nat → Bool),
    (a = none → g.st ≠ 0 → g.write a here fresh = ({}, .grey false)) ∧
      (a = none → g.st = 0 → g.write a here fresh = (g, .skip)) ∧
      (a = some g.tag → g.st = 2 → here g.tag = true → g.write a here fresh = (g, .copy g.tag)) ∧
      (a = some g.tag → g.st = 2 → here g.tag = false →
        g.write a here fresh = ({ g with st := 1, old := none }, .skip)) ∧
      (a = some g.tag → g.st = 1 → here g.tag = true → fresh g.tag = true →
        g.write a here fresh = ({ st := 2, tag := g.tag, old := none }, .copy g.tag)) ∧
      (∀ z, a = some g.tag → g.st = 1 → (here g.tag && fresh g.tag) = false → g.old = some z → here z = true →
        g.write a here fresh = (g, .copy z)) ∧
      (∀ y, a = some y → y ≠ g.tag → g.st = 2 → (here y && fresh y) = false → here g.tag = true →
        g.write a here fresh = ({ st := 1, tag := y, old := some g.tag }, .copy g.tag))) ∧
  (∀ (s : State) (p e f l next : Nat) (r : List Word), s.splices p = true →
    (((s.tlist (wvePage p) 3 0).filter fun x => rvEn x.2).map (·.1)) = [e] → s.rcvEnt p e = r →
    (s.rcv p e).todo = some (f, l, true, next) → s.wale64 < next →
    Answers (.weavePictureBuild p) s fun t =>
      (t.rcv p e).keyed = true ∧ (t.rcv p e).fkey = f ∧ (t.rcv p e).todo = none ∧
        (∀ k, k < tmSlots (s.tmpl (rvTmpl r)) → (t.rcv p e).region k =
          match (s.rcv p e).a.getD k none with | some y => { st := 1, tag := y, old := none } | none => {}) ∧
        (∃ os : List Orig, t.lfw.orig = s.lfw.orig ++ os ∧
          ∀ o ∈ os, o.scid = rvScid r ∧ o.g = tickOf (tmFps (s.tmpl (rvTmpl r))) f % 2 ^ 32) ∧
        s.RegsBut t [] ∧ s.Only t ([.lfw, .wve] ++ noted)) ∧
  (∀ (s : State) (p e f l next : Nat) (key : Bool), (s.rcv p e).todo = some (f, l, key, next) → s.stepDue 3 = true →
    s.following = false → next ≤ s.wale64 →
    Answers (.wveSpliceLate p e) s fun t =>
      t.clk.phase = 3 ∧
        t.rcv p e = { s.rcv p e with
                      todo := none, skip := true,
                      trig := (s.rcv p e).trig ++ (if rvEn (s.rcvEnt p e) then [s.wale64] else []) } ∧
        (∀ k, k ≠ p * 32768 + e → NMap.get (fun _ => Receiver.init) t.wve.rcv k =
          NMap.get (fun _ => Receiver.init) s.wve.rcv k) ∧
        s.RegsBut t [] ∧ s.Only t ([.clk, .wve] ++ noted)) ∧
  (∀ (s : State) (src : Src) (p e : Nat), s.Opens src (wvePage p) Reg.wveRekey → rvEn (s.rcvEnt p e) = true →
    Answers (.wveRekey (some src) p e) s fun t =>
      t.rcv p e = { s.rcv p e with trig := (s.rcv p e).trig ++ [s.wale64] } ∧
        t.ctrAt (wvePage p) .wveRekeys 0 = min (s.ctrAt (wvePage p) .wveRekeys 0 + 1) (2 ^ 32 - 1) ∧
        s.RegsBut t [] ∧ s.Only t (.wve :: noted)) ∧
  (∀ (s : State) (p e w : Nat), rvEn (s.rcvEnt p e) = true → s.lfw.refresh = [(rvScid (s.rcvEnt p e), w)] →
    Answers (.wveRekey none p e) s fun t =>
      t.lfw.refresh = [] ∧ t.rcv p e = { s.rcv p e with trig := (s.rcv p e).trig ++ [s.wale64] } ∧
        s.RegsBut t [] ∧ s.Only t ([.lfw, .wve] ++ noted))

/-- R455, R456, R464, R467, R468, R471 to R473: the Pixel Compositor. -/
def Obligations.PixelCompositor : Prop :=
  (∀ (s : State) (q f : Nat), s.stepDue 7 = true → s.ready (pxcPage q) = true →
    s.raf (pxcPage q) Reg.pxcCfg 0 0 = 1 → (s.pipe q).launched ≠ some s.wale64 → (s.pipe q).frame = none →
    s.heldBack (.pipe q) = false → frameAt (s.raf (pxcPage q) Reg.pxcCfg 2 1) s.wale64 = some f → (s.pipe q).skip = false →
    Answers (.pxcFrameLaunch q) s fun t =>
      t.clk.phase = 7 ∧ (t.pipe q).launched = some s.wale64 ∧ (∀ k, k ≠ q → t.pipe k = s.pipe k) ∧
        (∃ x, (t.pipe q).frame = some x ∧ x.f = f ∧ x.launch = s.wale64 ∧ x.cfg = s.ra (pxcPage q) Reg.pxcCfg ∧
          x.slot = s.pxcSlot q (s.raf (pxcPage q) Reg.pxcCfg 7 4) ∧
          (∀ k l, (k, l) ∈ x.layers ↔ k < 16 ∧ lyEn (s.tget (pxcPage q) 0 0 k) = true ∧
            l = (s.layerSource (s.tget (pxcPage q) 0 0 k) s.wale64).1)) ∧
        s.RegsBut t [] ∧ s.Only t ([.clk, .pxc] ++ noted)) ∧
  (∀ (s : State) (q f : Nat), s.stepDue 7 = true → s.ready (pxcPage q) = true →
    s.raf (pxcPage q) Reg.pxcCfg 0 0 = 1 → (s.pipe q).launched ≠ some s.wale64 → (s.pipe q).frame = none →
    s.heldBack (.pipe q) = false → frameAt (s.raf (pxcPage q) Reg.pxcCfg 2 1) s.wale64 = some f → (s.pipe q).skip = true →
    Answers (.pxcFrameLaunch q) s fun t =>
      t.pipe q = { s.pipe q with launched := some s.wale64, skip := false } ∧ s.Only t [.clk, .pxc]) ∧
  (∀ (s : State) (f : PxcFrame) (c x y : Nat), f.layers = [] → s.composed f c x y = colourOf f.bg c) ∧
  (∀ (s : State) (f : PxcFrame) (k c x y : Nat) (l : PxcLayer), f.layers = [(k, l)] → l.ph = false →
    lyKind l.words = 3 → lyAlpha l.words = 255 →
    l.covers ((if c = 0 then 1 else 2) * x) ((if c = 0 then 1 else 2) * y) = true →
    s.composed f c x y = colourOf (l.words.getD 5 0) c) ∧
  (∀ (n m d : Nat) (x : Nat → Nat), d < n → x d ≤ m → pass n n m x d = x d) ∧
  (∀ (s : State) (q at_ : Nat) (f : PxcFrame), (s.pipe q).frame = some f → s.pxcDue f = false → (s.pipe q).waits = [] →
    at_ = s.rd64 (pxcPage q) Reg.pxcOutBase Reg.pxcOutBaseHi +
      f.slot * slotBytes (s.rf (pxcPage q) Reg.pxcOutMax 12 0) (s.rf (pxcPage q) Reg.pxcOutMax 28 16) 1 →
    Answers (.pxcFramePublish q) s fun t =>
      (t.pipe q).frame = none ∧ (t.pipe q).count = ((s.pipe q).count + 1) % 2 ^ 32 ∧
        (t.pipe q).next = ((s.pipe q).next + 1) % 4 ∧
        (t.pipe q).recs = (s.pipe q).recs.set (s.pipe q).next
          { slot := f.slot, valid := true, w := f.w, h := f.h, f := f.f, launch := f.launch,
            frozen := layerMask f.layers (·.frozen), ph := layerMask f.layers (·.ph),
            count := ((s.pipe q).count + 1) % 2 ^ 32, deep := f.deep } ∧
        (f.deep = 0 → f.h % 2 = 0 → (∀ i, i < slotStride f.w 0 * (f.h + f.h / 2) → s.dramLost (at_ + i) = false) →
          ∀ x y, x < f.w → y < f.h →
            t.dramByte (at_ + slotStride f.w 0 * y + x) = BitVec.ofNat 8 (f.stored (s.composed f 0 x y))) ∧
        (∀ k, k ≠ q → t.pipe k = s.pipe k) ∧ s.RegsBut t [] ∧ s.Only t ([.mem, .pxc] ++ noted)) ∧
  (∀ (s : State) (q id : Nat) (f : PxcFrame), (s.pipe q).frame = some f → s.pxcDue f = false → (s.pipe q).waits = [id] → s.alive id = true →
    (s.task id).dep ≠ 0 →
    Answers (.pxcFramePublish q) s fun t =>
      (t.pipe q).waits = [] ∧ (t.task id).dep = (s.task id).dep - 1 ∧ (t.pipe q).frame = none) ∧
  (∀ (s : State) (q : Nat) (f : PxcFrame), (s.pipe q).frame = some f → (s.pipe q).waits = [] → s.stepDue 3 = true →
    s.following = false → launchOf (fld f.cfg 2 1) (f.f + 1) ≤ s.wale64 →
    Answers (.pxcFrameLate q) s fun t =>
      t.clk.phase = 3 ∧ t.pipe q = { s.pipe q with frame := none, skip := true } ∧
        (∀ k, k ≠ q → t.pipe k = s.pipe k) ∧
        t.ctrAt (pxcPage q) .pxcFrameLate 0 = min (s.ctrAt (pxcPage q) .pxcFrameLate 0 + 1) (2 ^ 32 - 1) ∧
        s.RegsBut t [] ∧ s.Only t ([.clk, .pxc] ++ noted))

/-- R481, R485, R487, R489, R490, R558, R559: the queues of the Egress Scheduler. -/
def Obligations.EgressQueues : Prop :=
  (∀ (s : State) (d : Copy) (r : List Copy) (g : Nat), s.esc.arrive = d :: r → g = s.ctx d.out 0 31 16 →
    s.ctxOut d.out = true → s.legF g 0 0 0 = 1 → s.following = false → s.legF g 0 6 6 = 0 →
    (s.legQ g).q.length < s.legF g 1 17 0 → s.storeUsed (escPage (s.legLane g)) < storeMax →
    Answers .descriptorEnqueue s fun t =>
      t.esc.arrive = r ∧ (t.legQ g).q = (s.legQ g).q ++ [s.copyFrame d g] ∧ (∀ k, k ≠ g → t.legQ k = s.legQ k) ∧
        (s.shaped g = true → (s.legQ g).awake = false → (t.legQ g).start = (s.laneSt (s.legLane g)).v) ∧
        ((s.legQ g).awake = true → (t.legQ g).start = (s.legQ g).start) ∧ t.esc.lanes = s.esc.lanes ∧
        t.esc.drops = s.esc.drops ∧ s.Only t [.esc]) ∧
  (∀ (s : State) (d : Copy) (r : List Copy) (g c lane : Nat), s.esc.arrive = d :: r → g = s.ctx d.out 0 31 16 →
    s.ctxOut d.out = true → s.legF g 0 0 0 = 1 → s.following = false → s.legF g 0 6 6 = 1 → c = s.legF g 0 9 7 →
    lane = s.legLane g → (s.strictQ lane c).length < 4096 → s.storeUsed (escPage lane) < storeMax →
    Answers .descriptorEnqueue s fun t =>
      t.esc.arrive = r ∧ t.strictQ lane c = s.strictQ lane c ++ [s.copyFrame d g] ∧
        (∀ l k, (l, k) ≠ (lane, c) → t.strictQ l k = s.strictQ l k) ∧ t.esc.legs = s.esc.legs ∧ s.Only t [.esc]) ∧
  (∀ (s : State) (d : Copy) (r : List Copy) (g : Nat), s.esc.arrive = d :: r → g = s.ctx d.out 0 31 16 →
    s.ctxOut d.out = true → s.legF g 0 0 0 = 1 → s.following = false → s.legF g 0 6 6 = 0 →
    s.legF g 1 17 0 ≤ (s.legQ g).q.length →
    Answers .descriptorEnqueue s fun t =>
      t.esc.arrive = r ∧ t.esc.legs = s.esc.legs ∧ t.esc.lanes = s.esc.lanes ∧
        t.ctrAt (escPage (s.legLane g)) .escTailDrop (s.legLane g % 4) =
          min (s.ctrAt (escPage (s.legLane g)) .escTailDrop (s.legLane g % 4) + 1) (2 ^ 32 - 1) ∧
        (d.counted = true → 2 ≤ s.fanCount d.src → t.fanCount d.src = s.fanCount d.src - 1) ∧
        (d.counted = false → t.lfw = s.lfw ∧ t.crl = s.crl)) ∧
  (∀ (s s1 : State) (lane c : Nat) (b : List Byte), s.ready (escPage lane) = true → bit (s.lgCfg lane) 7 = true →
    s.laneValid lane = true → c = fld (s.lgCfg lane) 6 4 → (s.strictQ lane c).length < 4096 →
    s.colTake (escPort lane) (fld (s.lgCfg lane) 19 8) = (s1, some b) →
    b.length + 4 ≤ s.raf (ethPage lane) Reg.ethPortCfg 29 16 →
    Answers (.hostFrameEnqueue lane) s fun t =>
      t.strictQ lane c = s.strictQ lane c ++ [{ lane := lane, cls := c, len := b.length + 4, bytes := b }] ∧
        (∀ l k, (l, k) ≠ (lane, c) → t.strictQ l k = s.strictQ l k) ∧ t.col = s1.col ∧ t.esc.legs = s.esc.legs) ∧
  (∀ (s s1 : State) (lane c : Nat) (b : List Byte), s.ready (escPage lane) = true → bit (s.lgCfg lane) 7 = true →
    s.laneValid lane = true → c = fld (s.lgCfg lane) 6 4 → (s.strictQ lane c).length < 4096 →
    s.colTake (escPort lane) (fld (s.lgCfg lane) 19 8) = (s1, some b) →
    s.raf (ethPage lane) Reg.ethPortCfg 29 16 < b.length + 4 →
    Answers (.hostFrameEnqueue lane) s fun t =>
      t.esc = s.esc ∧ t.col = s1.col ∧
        t.ctrAt (escPage lane) .escHostBad (lane % 4) = min (s.ctrAt (escPage lane) .escHostBad (lane % 4) + 1) (2 ^ 32 - 1)) ∧
  (∀ (s s1 : State) (q lane c : Nat) (b : List Byte), bit (s.rd tmuPage Reg.tmuPtpTxq) 12 = true →
    q = fld (s.rd tmuPage Reg.tmuPtpTxq) 11 0 → lane = s.ptpLane q → c = fld (s.lgCfg lane) 3 1 →
    s.severed tmuPort = false → s.laneValid lane = true → (s.strictQ lane c).length < 4096 → s.colTake tmuPort q = (s1, some b) →
    fb b 0 % 32 = lane →
    Answers .ptpTx s fun t =>
      t.strictQ lane c = s.strictQ lane c ++
        [{ lane := lane, cls := c, len := (b.drop 8).length + 4, bytes := b.drop 8,
           tsId := if (fb b 1).testBit 0 then some (leNat (slice b 2 2)) else none }] ∧
        (∀ l k, (l, k) ≠ (lane, c) → t.strictQ l k = s.strictQ l k) ∧ t.tmu = s.tmu) ∧
  (∀ (s s1 : State) (q lane : Nat) (b : List Byte), bit (s.rd tmuPage Reg.tmuPtpTxq) 12 = true →
    q = fld (s.rd tmuPage Reg.tmuPtpTxq) 11 0 → lane = s.ptpLane q → s.laneValid lane = false →
    s.severed tmuPort = false → s.colTake tmuPort q = (s1, some b) → fb b 0 % 32 = lane → (fb b 1).testBit 0 = true → (s.txtsQ lane).length < 32 →
    Answers .ptpTx s fun t =>
      t.esc = s.esc ∧ t.txtsQ lane = s.txtsQ lane ++ [⟨leNat (slice b 2 2), 0, true⟩] ∧
        (∀ l, l ≠ lane → t.txtsQ l = s.txtsQ l)) ∧
  (∀ (s : State) (lane c : Nat) (f : EscFrame) (r : List EscFrame), s.lgRuns lane = true → c < 8 →
    (∀ k, k < c → s.strictQ lane k = []) → s.strictQ lane c = f :: r → f.lane = lane → f.cls = c → f.copy = none →
    (s.laneSt lane).flying c < s.raf (escPage lane) Reg.escWindow 19 0 →
    Answers (.escDequeue lane) s fun t =>
      t.strictQ lane c = r ∧ (t.laneSt lane).staged c = (s.laneSt lane).staged c ++ [(f, s.now)] ∧
        (t.laneSt lane).flying c = (s.laneSt lane).flying c + f.len ∧ (∀ l, l ≠ lane → t.laneSt l = s.laneSt l) ∧
        t.esc.legs = s.esc.legs ∧ s.Only t [.esc]) ∧
  (∀ (s : State) (lane c q : Nat) (d : Copy) (f : EscFrame) (r : List EscFrame), s.lgRuns lane = true → c < 8 →
    s.following = false → (∀ k, k < c → s.strictQ lane k = []) → s.strictQ lane c = f :: r → f.lane = lane → f.cls = c →
    f.copy = some d → f.leg < 65536 → q = s.ctx d.out 9 29 22 → s.rqIs q 2 = true → (s.cpeQ q).length < 1024 →
    (s.laneSt lane).flying c < s.raf (escPage lane) Reg.escWindow 19 0 →
    Answers (.escDequeue lane) s fun t =>
      t.strictQ lane c = r ∧ t.cpeQ q = s.cpeQ q ++ [.out f] ∧ (∀ k, k ≠ q → t.cpeQ k = s.cpeQ k) ∧
        (t.laneSt lane).flying c = (s.laneSt lane).flying c + f.len ∧
        (t.tok f.leg).1 = (s.tok f.leg).1 - (if (s.shaper f.leg).2.2 then (f.len : Int) else 0) ∧
        (∀ k, k ≠ f.leg → t.tok k = s.tok k) ∧ (∀ l, l ≠ lane → t.laneSt l = s.laneSt l) ∧
        s.Only t ([.esc, .cpe, .tbl] ++ noted)) ∧
  (∀ (s : State) (lane g : Nat) (f : EscFrame) (r : List EscFrame), s.lgRuns lane = true → s.following = false →
    (∀ k, k < 8 → s.strictQ lane k = []) → s.groupPick lane = some g → (s.legQ g).q = f :: r → (s.legQ g).awake = true →
    (s.laneSt lane).flying 8 < s.raf (escPage lane) Reg.escWindow 19 0 →
    Answers (.escDequeue lane) s fun t =>
      (t.legQ g).q = r ∧
        (t.legQ g).start = ((s.legQ g).start +
          (f.len * 65536 + (s.legQ g).rem) / max 1 (s.legF g 0 31 16)) % 2 ^ 64 ∧
        (t.legQ g).rem = (f.len * 65536 + (s.legQ g).rem) % max 1 (s.legF g 0 31 16) ∧
        (t.laneSt lane).v = (s.legQ g).start) ∧
  (∀ (s : State) (lane a b : Nat), s.groupReady lane = [a, b] →
    s.groupPick lane = some (if tagBefore (s.legQ b).start (s.legQ a).start then b else a)) ∧
  (∀ (s : State) (lane : Nat),
    s.lgRuns lane = false ∨
      (s.following = false ∧ ∀ c, c < 9 → s.raf (escPage lane) Reg.escWindow 19 0 ≤ (s.laneSt lane).flying c) →
    Answers (.escDequeue lane) s fun t => t = s)

/-- R484, R488, R496 to R500, R502, R503, R559: starts on the line, gate lists and ceilings. -/
def Obligations.LineStarts : Prop :=
  (∀ (s : State) (lane c since : Nat) (f : EscFrame) (r : List (EscFrame × Nat)), s.lgRuns lane = true →
    s.rb (escPage lane) (Reg.escCeil + 4 * (lane % 4)) 31 = true → (s.laneSt lane).busyTo ≤ s.now →
    (s.laneSt lane).gcl.en = false → (s.laneSt lane).next = none → 0 ≤ (s.laneSt lane).ceil →
    s.rf (escPage lane) (Reg.escCeil + 4 * (lane % 4)) 19 0 ≠ 0 → c < 9 →
    (∀ k, k < c → (s.laneSt lane).staged k = []) → (s.laneSt lane).staged c = (f, since) :: r → f.lane = lane →
    f.cls = c → f.tsId = none →
    Answers (.txStart lane) s fun t =>
      t.esc.tx = s.esc.tx ++ [(lane, f.bytes)] ∧ (t.laneSt lane).staged c = r ∧
        (t.laneSt lane).flying c = (s.laneSt lane).flying c - f.len ∧
        (t.laneSt lane).busyTo = s.now + s.txTime lane f.len ∧
        (t.laneSt lane).ceil = (s.laneSt lane).ceil - (f.len + 20) * 1000 ∧
        t.ctrAt (escPage lane) .escTxFrames (lane % 4) =
          (s.ctrAt (escPage lane) .escTxFrames (lane % 4) + 1) % 2 ^ 64 ∧
        (∀ l, l ≠ lane → t.laneSt l = s.laneSt l) ∧ t.esc.legs = s.esc.legs ∧ s.RegsBut t [] ∧ s.Only t (.esc :: noted)) ∧
  (∀ (s : State) (lane c since id : Nat) (f : EscFrame) (r : List (EscFrame × Nat)), s.lgRuns lane = true →
    s.rb (escPage lane) (Reg.escCeil + 4 * (lane % 4)) 31 = true → (s.laneSt lane).busyTo ≤ s.now →
    (s.laneSt lane).gcl.en = false → (s.laneSt lane).next = none → 0 ≤ (s.laneSt lane).ceil →
    s.rf (escPage lane) (Reg.escCeil + 4 * (lane % 4)) 19 0 ≠ 0 → c < 9 →
    (∀ k, k < c → (s.laneSt lane).staged k = []) → (s.laneSt lane).staged c = (f, since) :: r → f.tsId = some id →
    (s.txtsQ lane).length < 32 →
    Answers (.txStart lane) s fun t =>
      t.txtsQ lane = s.txtsQ lane ++
          [⟨id, (((s.now : Int) + (BitVec.ofNat 16 (s.tf tmuPage 0 0 lane 0 31 16)).toInt) % 2 ^ 32).toNat, false⟩] ∧
        t.esc.tx = s.esc.tx ++ [(lane, f.bytes)]) ∧
  (∀ (s : State) (lane : Nat), s.lgRuns lane = false ∨
      s.rb (escPage lane) (Reg.escCeil + 4 * (lane % 4)) 31 = false ∨ s.now < (s.laneSt lane).busyTo ∨
      ((s.laneSt lane).gcl.en = false ∧ (s.laneSt lane).next = none ∧
        ((s.laneSt lane).ceil < 0 ∨ s.rf (escPage lane) (Reg.escCeil + 4 * (lane % 4)) 19 0 = 0)) →
    Answers (.txStart lane) s fun t => t = s) ∧
  (∀ (s : State) (lane c x w since : Nat) (f : EscFrame) (r : List (EscFrame × Nat)), s.lgRuns lane = true →
    s.rb (escPage lane) (Reg.escCeil + 4 * (lane % 4)) 31 = true → (s.laneSt lane).busyTo ≤ s.now → c < 9 →
    (∀ k, k ≠ c → (s.laneSt lane).staged k = []) → (s.laneSt lane).staged c = (f, since) :: r →
    s.maxWin (escPage lane) (s.laneSt lane).gcl c = some w →
    s.txTime lane f.len + s.raf (escPage lane) Reg.escGuard 15 0 ≤ w → s.gateClose lane c s.now = some x → s.now < x →
    x < s.now + (s.txTime lane f.len + s.raf (escPage lane) Reg.escGuard 15 0) → (s.laneSt lane).held.contains c = false →
    Answers (.txStart lane) s fun t =>
      t.laneSt lane = { s.laneSt lane with held := (s.laneSt lane).held ++ [c] } ∧ t.esc.tx = s.esc.tx ∧
        t.ctrAt (escPage lane) .escGuardHold (lane % 4) =
          (s.ctrAt (escPage lane) .escGuardHold (lane % 4) + 1) % 2 ^ 64) ∧
  (∀ (s : State) (lane c w since : Nat) (f : EscFrame), s.lgRuns lane = true →
    s.rb (escPage lane) (Reg.escCeil + 4 * (lane % 4)) 31 = true → (s.laneSt lane).busyTo ≤ s.now → c < 9 →
    (∀ k, k ≠ c → (s.laneSt lane).staged k = []) → (s.laneSt lane).staged c = [(f, since)] → f.lane = lane → f.cls = c →
    s.maxWin (escPage lane) (s.laneSt lane).gcl c = some w →
    w < s.txTime lane f.len + s.raf (escPage lane) Reg.escGuard 15 0 →
    Answers (.txStart lane) s fun t =>
      (t.laneSt lane).staged c = [] ∧ (t.laneSt lane).flying c = (s.laneSt lane).flying c - f.len ∧ t.esc.tx = s.esc.tx ∧
        t.ctrAt (escPage lane) .escGclOversize (lane % 4) =
          min (s.ctrAt (escPage lane) .escGclOversize (lane % 4) + 1) (2 ^ 32 - 1)) ∧
  (∀ (s : State) (p : Nat) (g : Gcl) (c t o : Nat), g.en = true → o = g.offset t → g.len = 2 → g.cycle = 2 * o → 0 < o →
    s.tf p 0 0 g.base 1 29 0 = o + 1 → (s.tf p 0 0 g.base 0 8 0).testBit c = true →
    (s.tf p 0 0 (g.base + 1) 0 8 0).testBit c = false →
    s.gateSpan p g t = some (0, o + 1, g.base, s.tf p 0 0 g.base 0 8 0) ∧
      (2 ≤ o → s.closesAt p g c t = some (t + 1) ∧ s.maxWin p g c = some (o + 1))) ∧
  (∀ (s : State) (lane a b e m : Nat), (s.laneSt lane).gcl.en = true → (s.laneSt lane).gcl.start ≤ s.now →
    s.gateSpan (escPage lane) (s.laneSt lane).gcl s.now = some (a, b, e, m) →
    s.inWale (s.now - (s.laneSt lane).gcl.offset s.now + b) = true →
    Answers (.gateTransition lane) s fun t =>
      t.clk = (s.advanceTo (s.now - (s.laneSt lane).gcl.offset s.now + b)).clk ∧
        (∀ x, s.gateSpan (escPage lane) (s.laneSt lane).gcl t.now = some x → x.2.2.1 < 1024 →
          t.rf (escPage lane) (lgOff Reg.escGclStatus lane) 25 16 = x.2.2.1) ∧
        t.esc = s.esc ∧
        s.RegsBut t [(escPage lane, lgOff Reg.escGclStatus lane), (tmuPage, Reg.tmuHoldWales)] ∧ s.Only t [.clk, .reg, .tmu, .ev, .drc]) ∧
  (∀ (s : State) (lane : Nat) (g : Gcl), (s.laneSt lane).next = some g → s.inWale g.start = true →
    (∀ c, c < 9 → (s.laneSt lane).staged c = []) →
    Answers (.gclStart lane) s fun t =>
      t.clk = (s.advanceTo g.start).clk ∧ t.laneSt lane = { s.laneSt lane with gcl := g, next := none } ∧
        t.rb (escPage lane) (lgOff Reg.escGclStatus lane) 0 = false ∧ (∀ l, l ≠ lane → t.laneSt l = s.laneSt l) ∧
        s.Only t [.clk, .reg, .tmu, .esc, .ev, .drc]) ∧
  (∀ (s : State) (src : Src) (port e : Nat) (w0 w1 : Word), s.Opens src (0x048 + port) Reg.tblData → s.paired = false →
    s.gateUsed (0x048 + port) e = false →
    Answers (.gclEntryWriteback src port e [w0, w1]) s fun t =>
      t.tf (0x048 + port) 0 0 e 0 8 0 = fld w0 8 0 ∧ t.tf (0x048 + port) 0 0 e 1 29 0 = fld w1 29 0 ∧
        (∀ k, k ≠ tkey (0x048 + port) 0 0 e → NMap.get tblDefault t.tbl k = NMap.get tblDefault s.tbl k) ∧
        s.Only t [.tbl]) ∧
  (∀ (s : State) (src : Src) (port e : Nat) (ws : List Word), s.Opens src (0x048 + port) Reg.tblData → s.paired = false →
    s.gateUsed (0x048 + port) e = true →
    Answers (.gclEntryWriteback src port e ws) s fun t => t.tbl = s.tbl ∧ s.RegsBut t [] ∧ s.Only t noted) ∧
  (∀ (s : State) (lane mbps : Nat), lane < 32 → mbps < 2 ^ 20 →
    s.rb (escPage lane) (Reg.escCeil + 4 * (lane % 4)) 31 = false →
    Answers (.escCeilLocked lane mbps) s fun t =>
      t.rf (escPage lane) (Reg.escCeil + 4 * (lane % 4)) 19 0 = mbps ∧
        t.rb (escPage lane) (Reg.escCeil + 4 * (lane % 4)) 31 = true ∧ (t.laneSt lane).ceil = 16384000 ∧
        (∀ l, l ≠ lane → t.laneSt l = s.laneSt l) ∧
        s.RegsBut t [(escPage lane, Reg.escCeil + 4 * (lane % 4)), (escPage lane, Reg.pageReady)] ∧
        s.Only t (.esc :: noted)) ∧
  (∀ (s : State) (lane mbps : Nat), s.rb (escPage lane) (Reg.escCeil + 4 * (lane % 4)) 31 = true →
    Answers (.escCeilLocked lane mbps) s fun t => t = s)

/-- R513 to R515, R543: the line framer and the line's alarms. -/
def Obligations.LineFramer : Prop :=
  (∀ (s : State) (p pos : Nat), s.lineLive p = true → (s.line p).los = false → (s.line p).inF = false →
    (s.line p).cands.find? (fun c => c.1 = pos) = none → (∀ x, (s.line p).excl = some x → x.1 = pos → x.2 ≤ s.clk.tru) →
    (s.line p).cands.length < 4 →
    Answers (.framerOccurrence p pos true) s fun t =>
      t.line p = { s.line p with cands := (s.line p).cands ++ [(pos, 1)] } ∧ (∀ q, q ≠ p → t.line q = s.line q) ∧
        s.Only t [.lnu]) ∧
  (∀ (s : State) (p pos : Nat), s.lineLive p = true → (s.line p).los = false → (s.line p).inF = false →
    (s.line p).cands.find? (fun c => c.1 = pos) = none → (∀ x, (s.line p).excl = some x → x.1 = pos → x.2 ≤ s.clk.tru) →
    4 ≤ (s.line p).cands.length →
    Answers (.framerOccurrence p pos true) s fun t =>
      t.ctrAt (lnuPage p) .lnuCandOvf 0 = min (s.ctrAt (lnuPage p) .lnuCandOvf 0 + 1) (2 ^ 32 - 1) ∧
        s.RegsBut t [] ∧ s.Only t noted) ∧
  (∀ (s : State) (p pos : Nat) (hit : Bool), s.lineLive p = false ∨ (s.line p).los = true ∨
      ((s.line p).inF = true ∧ pos ≠ (s.line p).aligned) ∨
      ((s.line p).inF = false ∧ (s.line p).cands.find? (fun c => c.1 = pos) = none ∧
        (hit = false ∨ ∃ u, (s.line p).excl = some (pos, u) ∧ s.clk.tru < u)) →
    Answers (.framerOccurrence p pos hit) s fun t => t = s) ∧
  (∀ (s : State) (p pos n : Nat), s.lineLive p = true → (s.line p).los = false → (s.line p).inF = false →
    (s.line p).cands.find? (fun c => c.1 = pos) = some (pos, n) → n < 2 →
    Answers (.framerOccurrence p pos true) s fun t =>
      t.line p = { s.line p with cands := (s.line p).cands.map fun c => if c.1 = pos then (pos, n + 1) else c } ∧
        s.Only t [.lnu]) ∧
  (∀ (s : State) (p pos n : Nat), s.lineLive p = true → (s.line p).los = false → (s.line p).inF = false →
    (s.line p).cands.find? (fun c => c.1 = pos) = some (pos, n) →
    Answers (.framerOccurrence p pos false) s fun t =>
      t.line p = { s.line p with cands := (s.line p).cands.filter fun c => c.1 ≠ pos } ∧ s.Only t [.lnu]) ∧
  (∀ (s : State) (p pos n : Nat), s.lineLive p = true → (s.line p).los = false → (s.line p).inF = false →
    (s.line p).cands.find? (fun c => c.1 = pos) = some (pos, n) → 2 ≤ n →
    Answers (.framerOccurrence p pos true) s fun t =>
      (t.line p).inF = true ∧ (t.line p).aligned = pos ∧ (t.line p).cands = [] ∧ (t.line p).miss = 0 ∧
        (t.line p).frames = 0 ∧ (t.line p).b1Bad = 0 ∧ (t.line p).since = s.clk.tru ∧
        t.rf (lnuPage p) Reg.lnuStatus 1 1 = 0 ∧ (∀ q, q ≠ p → t.line q = s.line q) ∧
        s.RegsBut t [(lnuPage p, Reg.lnuStatus)] ∧ s.Only t (.lnu :: noted)) ∧
  (∀ (s : State) (p : Nat), s.lineLive p = true → (s.line p).los = false → (s.line p).inF = true →
    Answers (.framerOccurrence p (s.line p).aligned true) s fun t =>
      t.line p = { s.line p with miss := 0 } ∧ s.Only t [.lnu]) ∧
  (∀ (s : State) (p : Nat), s.lineLive p = true → (s.line p).los = false → (s.line p).inF = true → (s.line p).miss < 3 →
    Answers (.framerOccurrence p (s.line p).aligned false) s fun t =>
      t.line p = { s.line p with miss := (s.line p).miss + 1 } ∧ s.Only t [.lnu]) ∧
  (∀ (s : State) (p : Nat), s.lineLive p = true → (s.line p).los = false → (s.line p).inF = true → 3 ≤ (s.line p).miss →
    Answers (.framerOccurrence p (s.line p).aligned false) s fun t =>
      (t.line p).inF = false ∧ (t.line p).cands = [] ∧ (t.line p).since = s.clk.tru ∧
        t.ctrAt (lnuPage p) .lnuOofEvents 0 = min (s.ctrAt (lnuPage p) .lnuOofEvents 0 + 1) (2 ^ 32 - 1) ∧
        t.rf (lnuPage p) Reg.lnuStatus 1 1 = 1 ∧ (∀ q, q ≠ p → t.line q = s.line q) ∧
        s.RegsBut t [(lnuPage p, Reg.lnuStatus)] ∧ s.Only t (.lnu :: noted)) ∧
  (∀ (s : State) (p : Nat), s.lineLive p = true → (s.line p).inF = true → 8 ≤ (s.line p).b1Bad →
    Answers (.lnuFalseLock p) s fun t =>
      (t.line p).inF = false ∧ (t.line p).cands = [] ∧
        (t.line p).excl = some ((s.line p).aligned, s.clk.tru + 2000000) ∧
        t.ctrAt (lnuPage p) .lnuFalseLock 0 = min (s.ctrAt (lnuPage p) .lnuFalseLock 0 + 1) (2 ^ 32 - 1) ∧
        (∀ q, q ≠ p → t.line q = s.line q) ∧ s.RegsBut t [(lnuPage p, Reg.lnuStatus)] ∧ s.Only t (.lnu :: noted)) ∧
  (∀ (s u : State) (p : Nat), s.lineLive p = true → (s.line p).lof = false → (s.line p).inF = false →
    s.waitTru ((s.line p).since + 3000000) = some u →
    Answers (.lofDeclare p) s fun t =>
      t.clk = u.clk ∧ (t.line p).lof = true ∧ (4096 * p, 2) ∈ (t.line p).defs ∧ t.rf (lnuPage p) Reg.lnuStatus 2 2 = 1 ∧
        (∀ q, q ≠ p → t.line q = s.line q) ∧ s.Only t ([.clk, .tmu, .lnu, .drc] ++ noted)) ∧
  (∀ (s u : State) (p : Nat), s.lineLive p = true → (s.line p).lof = true → (s.line p).inF = true →
    s.waitTru ((s.line p).since + 3000000) = some u →
    Answers (.lofClear p) s fun t =>
      t.clk = u.clk ∧ (t.line p).lof = false ∧ (4096 * p, 2) ∉ (t.line p).defs ∧ t.rf (lnuPage p) Reg.lnuStatus 2 2 = 0 ∧
        (∀ q, q ≠ p → t.line q = s.line q) ∧ s.Only t ([.clk, .tmu, .lnu, .drc] ++ noted)) ∧
  (∀ (s : State) (t : Nat), (t ≤ s.clk.tru → s.waitTru t = some s) ∧
    ∀ u, s.clk.tru < t → s.waitTru t = some u → u.clk.tru = t) ∧
  (∀ (s : State) (p : Nat), s.lineLive p = true → (s.line p).los = false →
    Answers (.losDeclare p) s fun t =>
      (t.line p).los = true ∧ (t.line p).inF = false ∧ (t.line p).cands = [] ∧ (4096 * p, 1) ∈ (t.line p).defs ∧
        t.rf (lnuPage p) Reg.lnuStatus 0 0 = 1 ∧ (∀ q, q ≠ p → t.line q = s.line q) ∧
        s.RegsBut t [(lnuPage p, Reg.lnuStatus)] ∧ s.Only t (.lnu :: noted)) ∧
  (∀ (s : State) (p : Nat), s.lineLive p = true → (s.line p).los = true →
    Answers (.losClear p) s fun t =>
      (t.line p).los = false ∧ (t.line p).inF = (s.line p).inF ∧ (4096 * p, 1) ∉ (t.line p).defs ∧
        t.rf (lnuPage p) Reg.lnuStatus 0 0 = 0 ∧ (∀ q, q ≠ p → t.line q = s.line q) ∧
        s.RegsBut t [(lnuPage p, Reg.lnuStatus)] ∧ s.Only t (.lnu :: noted))

/-- R516 to R518, R522, R524, R542: what a line receives. -/
def Obligations.LineOverhead : Prop :=
  (∀ (s : State) (p : Nat) (oh : FrameOh), s.lineLive p = true → (s.line p).inF = true →
    Answers (.rxFrameOverhead p oh) s fun t =>
      t.ctrAt (lnuPage p) .lnuRxFrames 0 = (s.ctrAt (lnuPage p) .lnuRxFrames 0 + 1) % 2 ^ 64 ∧
        t.ctrAt (lnuPage p) .lnuB1Err 0 = (s.ctrAt (lnuPage p) .lnuB1Err 0 + oh.b1) % 2 ^ 64 ∧
        t.ctrAt (lnuPage p) .lnuB2Err 0 = (s.ctrAt (lnuPage p) .lnuB2Err 0 + oh.b2) % 2 ^ 64 ∧
        (oh.k1 < 256 → oh.k2 < 256 → (t.rd (lnuPage p) Reg.lnuRxK).toNat = oh.k1 + oh.k2 * 256) ∧
        (oh.s1 < 256 → (s.line p).s1Run.1 = oh.s1 → 7 ≤ (s.line p).s1Run.2 →
          (t.rd (lnuPage p) Reg.lnuRxS1).toNat = oh.s1) ∧
        (oh.k2 % 8 = 7 → (s.line p).k2Run.1 = 1 → 2 ≤ (s.line p).k2Run.2 → (t.line p).msAis = true) ∧
        (oh.k2 % 8 ≠ 7 → (s.line p).k2Run.1 = 0 → 2 ≤ (s.line p).k2Run.2 → (t.line p).msAis = false) ∧
        (t.line p).inF = true ∧ (t.line p).frames = (s.line p).frames + 1 ∧ (t.line p).b2 = oh.b2 ∧
        ((oh.paths.map (·.path)).Nodup → ∀ o ∈ oh.paths, s.pathOn p o.path = true →
          ((t.line p).path o.path).ptr = (((s.line p).path o.path).ptr.step 782 o.ptr).1 ∧
            ((((s.line p).path o.path).ptr.step 782 o.ptr).1.st = 0 → ((t.line p).path o.path).b3 = o.b3 ∧
              (o.c2 = ((s.line p).path o.path).c2Run.1 → 4 ≤ ((s.line p).path o.path).c2Run.2 →
                ((t.line p).path o.path).c2 = some o.c2))) ∧
        (∀ a, (∀ o ∈ oh.paths, o.path ≠ a) ∨ s.pathOn p a = false → (t.line p).path a = (s.line p).path a) ∧
        (∀ q, q ≠ p → t.line q = s.line q) ∧
        s.RegsBut t [(lnuPage p, Reg.lnuRxK), (lnuPage p, Reg.lnuRxS1), (lnuPage p, Reg.lnuStatus)] ∧
        s.Only t (.lnu :: noted)) ∧
  (∀ (s : State) (p : Nat) (oh : FrameOh), s.lineLive p = false ∨ (s.line p).inF = false →
    Answers (.rxFrameOverhead p oh) s fun t => t = s) ∧
  (∀ (p : Ptr) (top : Nat), 2 ≤ p.ais → p.st ≠ 2 → p.step top 65535 = ({ st := 2, ptr := p.ptr }, {})) ∧
  (∀ (p : Ptr) (top w : Nat), p.st = 0 → 7 ≤ p.inv → w < 4096 → p.step top w = ({ st := 1, ptr := p.ptr }, {})) ∧
  (∀ (p : Ptr) (top v : Nat), p.ndf < 7 → v ≤ top → v < 1024 →
    (p.step top (9 * 4096 + v)).1.ptr = v ∧ (p.step top (9 * 4096 + v)).1.st = 0 ∧ (p.step top (9 * 4096 + v)).2 = { ndf := true }) ∧
  (∀ (p : Ptr) (top : Nat), p.st = 0 → 2 ≤ p.since → p.ptr ≤ top → top < 1024 →
    (p.step top (6 * 4096 + (p.ptr ^^^ 0x2AA))).1.ptr = (p.ptr + 1) % (top + 1) ∧
      (p.step top (6 * 4096 + (p.ptr ^^^ 0x2AA))).2 = { inc := true } ∧
      (p.step top (6 * 4096 + (p.ptr ^^^ 0x155))).1.ptr = (p.ptr + top) % (top + 1) ∧
      (p.step top (6 * 4096 + (p.ptr ^^^ 0x155))).2 = { dec := true }) ∧
  (∀ (p : Ptr) (top v : Nat), p.st = 0 → p.since < 2 → v ≤ top → v < 1024 → v ≠ p.ptr → p.val = v → 2 ≤ p.run →
    (p.step top (6 * 4096 + v)).1.ptr = v ∧ (p.step top (6 * 4096 + v)).1.st = 0) ∧
  (∀ (p : Ptr) (top v : Nat), p.st ≠ 0 → v ≤ top → v < 1024 → p.val = v → 2 ≤ p.run →
    p.step top (6 * 4096 + v) = ({ ptr := v }, {})) ∧
  (∀ (s : State) (p : Nat) (tus : List TuOh), s.lineLive p = true → (s.line p).inF = true →
    Answers (.rxMultiframe p tus) s fun t =>
      ((tus.map (·.trib)).Nodup → ∀ o ∈ tus, s.tribOn p o.trib = true →
          ((s.line p).path (s.tribPath p o.trib)).down = false →
          ((t.line p).trib o.trib).ptr =
              (((s.line p).trib o.trib).ptr.step (if s.lineMode p = 1 then 139 else 103) o.ptr).1 ∧
            ((((s.line p).trib o.trib).ptr.step (if s.lineMode p = 1 then 139 else 103) o.ptr).1.st = 0 →
              ((t.line p).trib o.trib).bip = o.bip)) ∧
        (∀ tr, (∀ o ∈ tus, o.trib ≠ tr) ∨ s.tribOn p tr = false ∨ ((s.line p).path (s.tribPath p tr)).down = true →
          ((t.line p).trib tr).ptr = ((s.line p).trib tr).ptr) ∧
        (∀ tr, ((t.line p).trib tr).unread = ((s.line p).trib tr).unread ∧
          ((t.line p).trib tr).frm = ((s.line p).trib tr).frm) ∧
        (t.line p).paths = (s.line p).paths ∧ (∀ q, q ≠ p → t.line q = s.line q) ∧
        s.RegsBut t [(lnuPage p, Reg.lnuStatus)] ∧ s.Only t (.lnu :: noted)) ∧
  (∀ (s : State) (p : Nat) (tus : List TuOh), s.lineLive p = false ∨ (s.line p).inF = false →
    Answers (.rxMultiframe p tus) s fun t => t = s) ∧
  (∀ (s : State) (p tr : Nat) (fr : List Byte) (x : TribSt) (g : Framer), s.lineLive p = true → (s.line p).inF = true →
    s.tribOn p tr = true → fr.length = (if s.framing p tr < 2 then 32 else 25) → x = (s.line p).trib tr →
    g = (if s.framing p tr < 2 then x.frm.stepE1 (decide (s.framing p tr = 1)) fr
      else x.frm.stepT1 (decide (s.framing p tr = 3)) fr).1 →
    Answers (.tribFrameComplete p tr fr) s fun t =>
      ((t.line p).trib tr).frm = g ∧
        (g.inF = false → ((t.line p).trib tr).unread = x.unread ∧ ((t.line p).trib tr).last = x.last) ∧
        (g.inF = true → x.frm.inF = false →
          ((t.line p).trib tr).unread = [] ∧ ((t.line p).trib tr).last = none) ∧
        (g.inF = true → x.frm.inF = true → x.unread.length < 2 →
          ((t.line p).trib tr).unread = x.unread ++ [fr] ∧ ((t.line p).trib tr).last = x.last ∧ t.lnu.slips = s.lnu.slips) ∧
        (g.inF = true → x.frm.inF = true → 2 ≤ x.unread.length →
          ((t.line p).trib tr).unread = x.unread.drop 1 ++ [fr] ∧ ((t.line p).trib tr).last = x.last ∧
            4096 * p + 2048 + tr ∈ t.lnu.slips ∧
            t.ctrAt (lnuPage p) .lnuSlipDelete 0 = min (s.ctrAt (lnuPage p) .lnuSlipDelete 0 + 1) (2 ^ 32 - 1)) ∧
        ((t.line p).trib tr).since = (if g.inF = x.frm.inF then x.since else s.clk.tru) ∧
        (∀ k, k ≠ tr → ((t.line p).trib k).unread = ((s.line p).trib k).unread ∧
          ((t.line p).trib k).frm = ((s.line p).trib k).frm) ∧
        (∀ q, q ≠ p → t.line q = s.line q) ∧
        s.RegsBut t [(lnuPage p, Reg.lnuStatus)] ∧ s.Only t (.lnu :: noted)) ∧
  (∀ (s : State) (p tr : Nat) (fr : List Byte), s.lineLive p = false ∨ (s.line p).inF = false ∨ s.tribOn p tr = false →
    Answers (.tribFrameComplete p tr fr) s fun t => t = s) ∧
  (∀ (f : Framer) (fr : List Byte) (crc4 : Bool), f.inF = false →
    ((f.step = 2 ∧ isFas (fr.getD 0 0) = true) ↔ f.step = 2 ∧ (f.stepE1 crc4 fr).1.inF = true) ∧
      (f.step = 0 → (f.stepE1 crc4 fr).1.inF = false) ∧ (f.step = 1 → (f.stepE1 crc4 fr).1.inF = false)) ∧
  (∀ (f : Framer) (fr : List Byte) (crc4 : Bool), f.inF = true → f.idx % 2 = 0 → f.fasBad = 2 →
    isFas (fr.getD 0 0) = false → (f.stepE1 crc4 fr).1.inF = false) ∧
  (∀ (bits : List Bool) (ais : Bool), bits.length = 512 →
    aisStep bits (0, 0) ais = ((0, 0), decide ((bits.filter fun b => !b).length < 3)))

/-- R40, R519, R524, R525, R528, R529, R666: the frame pulse and forced AIS. -/
def Obligations.FramePulse : Prop :=
  (∀ (s : State) (m : Nat), s.nextPulse = some m → s.following = false → s.canonical →
    Answers .tdmFramePulse s fun t =>
      t.lnu.pulse = some m ∧
        t.clk = { (s.advanceTo (s.boundary s.clk.wale + m % 20 * 125000)).clk with phase := 7 } ∧
        (∀ p tr f r, p < 4 → s.lineLive p = true → s.tribOn p tr = true → ((s.line p).trib tr).unread = f :: r →
          ((t.line p).trib tr).last = some f ∧ ((t.line p).trib tr).unread = r) ∧
        (∀ p tr f, p < 4 → s.lineLive p = true → s.tribOn p tr = true → ((s.line p).trib tr).unread = [] →
          ((s.line p).trib tr).last = some f →
          ((t.line p).trib tr).last = some f ∧ ((t.line p).trib tr).unread = [] ∧ 4096 * p + 2048 + tr ∈ t.lnu.slips) ∧
        (∀ ch w, (ch, w) ∈ s.channels → s.tsiRun = false ∨ t.tribIdle (chPort w) (chTrib w) = true ∨
            s.slotClosed (chPort w) (chTrib w) (chTs w) = true →
          t.ds0At ch m = some (chIdle w)) ∧
        (∀ ch w f, (ch, w) ∈ s.channels → s.tsiRun = true → t.tribIdle (chPort w) (chTrib w) = false →
          s.slotClosed (chPort w) (chTrib w) (chTs w) = false →
          ((t.line (chPort w)).trib (chTrib w)).last = some f → t.ds0At ch m = some (f.getD (chTs w) (chIdle w))) ∧
        (∀ p, p < 4 → s.laserOn p = true → s.lineLive p = true → ∃ f, (t.line p).tx = some f ∧ f.index = m ∧
          f.ais = decide (s.aisCauses p ≠ []) ∧ f.j0 = (s.j0Reg p Reg.lnuJ0Tx).getD (m % 16) 0 ∧
          f.s1 = s.raf (lnuPage p) Reg.lnuTxCtl 15 8 ∧ f.tribs.map (·.trib) = s.tribsOn p) ∧
        (∀ p, p < 4 → s.laserOn p = false → (t.line p).tx = none) ∧
        s.Only t ([.clk, .tmu, .lnu, .mxf] ++ noted)) ∧
  (∀ s : State, (s.genState = 2 → 1 ≤ s.clk.phase → s.lnu.pulse = none → s.nextPulse = some (20 * s.clk.wale)) ∧
    (∀ k, s.genState = 2 → 1 ≤ s.clk.phase → s.lnu.pulse = some (20 * s.clk.wale + k) → k < 19 →
      s.nextPulse = some (20 * s.clk.wale + k + 1)) ∧
    (s.lnu.pulse = some (20 * s.clk.wale + 19) → s.nextPulse = none)) ∧
  (∀ s : State, s.nextPulse = none → Answers .tdmFramePulse s fun t => t = s) ∧
  (∀ (s : State) (src : Src) (p : Nat) (v : Word), s.Opens src (lnuPage p) Reg.lnuTxCtl → bit v 2 = false →
    s.rf (lnuPage p) Reg.cmtStatus 2 0 ≠ 1 →
    Answers (.txForceWrite src p v) s fun t =>
      t.rb (lnuPage p) Reg.lnuTxCtl 0 = bit v 0 ∧ t.rf (lnuPage p) Reg.lnuTxCtl 15 8 = fld v 15 8 ∧
        t.rb (lnuPage p) Reg.lnuTxCtl 1 = s.rb (lnuPage p) Reg.lnuTxCtl 1 ∧
        t.rb (lnuPage p) Reg.lnuTxCtl 2 = s.rb (lnuPage p) Reg.lnuTxCtl 2 ∧
        (t.rb (lnuPage p) Reg.lnuStatus 6 = true ↔
          bit v 0 = true ∨ s.rb (lnuPage p) Reg.lnuTxCtl 1 = true ∨ s.rb (lnuPage p) Reg.lnuTxCtl 2 = true ∨
            s.lnu.fatal = true ∨ (s.line p).down = true) ∧
        t.raf (lnuPage p) Reg.lnuTxCtl 15 8 = s.raf (lnuPage p) Reg.lnuTxCtl 15 8 ∧
        s.RegsBut t [(lnuPage p, Reg.lnuTxCtl), (lnuPage p, Reg.lnuStatus)] ∧ s.Only t noted) ∧
  (∀ (s : State) (src : Src) (p : Nat) (v : Word), s.Opens src (lnuPage p) Reg.lnuTxCtl → bit v 2 = true → src ≠ .qz →
    s.rb (lnuPage p) Reg.errInfo 31 = false →
    Answers (.txForceWrite src p v) s fun t =>
      t.rf (lnuPage p) Reg.errInfo 19 16 = 10 ∧ t.rd (lnuPage p) Reg.lnuTxCtl = s.rd (lnuPage p) Reg.lnuTxCtl ∧
        s.RegsBut t [] ∧ s.Only t noted) ∧
  (∀ (s : State) (p : Nat), s.fwRuns = true → s.qz.mainOk = true →
    Answers (.wdtForceClear p) s fun t =>
      t.rb (lnuPage p) Reg.lnuTxCtl 2 = false ∧ t.rb (lnuPage p) Reg.lnuTxCtl 0 = s.rb (lnuPage p) Reg.lnuTxCtl 0 ∧
        t.rb (lnuPage p) Reg.lnuTxCtl 1 = s.rb (lnuPage p) Reg.lnuTxCtl 1 ∧
        (t.rb (lnuPage p) Reg.lnuStatus 6 = true ↔ t.aisCauses p ≠ []) ∧
        s.RegsBut t [(lnuPage p, Reg.lnuTxCtl), (lnuPage p, Reg.lnuStatus)] ∧ s.Only t [.reg])

/-- R530 to R535, R537, R541: performance monitoring. -/
def Obligations.PerformanceMonitoring : Prop :=
  (∀ (s s1 : State) (b : List Byte) (g : Nat), s.ready tsiPage = true → bit (s.ra tsiPage Reg.lnuPmIn) 12 = true →
    s.colTake lnuPort (fld (s.ra tsiPage Reg.lnuPmIn) 11 0) = (s1, some b) → g = leNat (b.take 2) → s.legOn g = true →
    (∀ c, s.lnu.close15 = some c → waleLt (leNat ((b.drop 12).take 4)) (c % 2 ^ 32) = false) →
    Answers .pmRecord s fun t =>
      (leNat ((b.drop 4).take 4) ≠ 0xFFFFFFFF → ∀ v, (s.pm (legEntity g)).c15.jit = some v →
        (t.pm (legEntity g)).c15.jit = some (max (leNat ((b.drop 4).take 4)) v)) ∧
        (leNat ((b.drop 4).take 4) ≠ 0xFFFFFFFF → (s.pm (legEntity g)).c15.jit = none →
          (t.pm (legEntity g)).c15.jit = some (leNat ((b.drop 4).take 4))) ∧
        (leNat ((b.drop 8).take 4) = 0xFFFFFFFF → (t.pm (legEntity g)).c24.rtt = (s.pm (legEntity g)).c24.rtt) ∧
        (∀ e, e ≠ legEntity g → t.pm e = s.pm e) ∧ t.lnu.ports = s.lnu.ports ∧ t.col = s1.col) ∧
  (∀ (s s1 : State) (b : List Byte) (c : Nat), s.ready tsiPage = true → bit (s.ra tsiPage Reg.lnuPmIn) 12 = true →
    s.colTake lnuPort (fld (s.ra tsiPage Reg.lnuPmIn) 11 0) = (s1, some b) → s.lnu.close15 = some c →
    waleLt (leNat ((b.drop 12).take 4)) (c % 2 ^ 32) = true →
    Answers .pmRecord s fun t =>
      t.lnu = s.lnu ∧ t.ctrAt tsiPage .lnuPmLateRec 0 = min (s.ctrAt tsiPage .lnuPmLateRec 0 + 1) (2 ^ 32 - 1)) ∧
  (∀ s : State, s.stepDue 2 = true → s.ready tsiPage = true → s.onGrid 400 = true → s.lnu.second ≠ some s.clk.wale →
    s.entities.Nodup →
    Answers .pmSecondClose s fun t =>
      t.clk.phase = 2 ∧ t.lnu.second = some s.clk.wale ∧
        (∀ g, legEntity g ∈ s.entities → t.pm (legEntity g) = (({ s.pm (legEntity g) with defect := false } : PmEnt).second
          true (s.pm (legEntity g)).blocks ((s.pm (legEntity g)).blocks - (s.pm (legEntity g)).recv)).1) ∧
        (∀ e, e ∈ s.entities → e < 16384 → t.pm e = (({ s.pm e with defect := s.defectSecond e 5 } : PmEnt).second
          false (s.entityBlocks e) (s.pm e).eb).1) ∧
        (∀ e, e ∉ s.entities → t.pm e = { s.pm e with defect := false }) ∧ t.lnu.ports = s.lnu.ports ∧ s.RegsBut t [] ∧
        s.Only t ([.clk, .lnu] ++ noted)) ∧
  (∀ (e : PmEnt) (leg : Bool) (b eb : Nat), e.unavail = false → e.defect = true ∨ (0 < b ∧ b * 3 ≤ eb * 10) →
    e.run.length < 9 →
    (e.second leg b eb).2 = false ∧ (e.second leg b eb).1.c15.ses = e.c15.ses + 1 ∧
      (e.second leg b eb).1.c15.es = e.c15.es ∧ (e.second leg b eb).1.c15.bbe = e.c15.bbe ∧
      (e.second leg b eb).1.c15.secs = e.c15.secs + 1 ∧
      (e.second leg b eb).1.run = ⟨eb, true, true⟩ :: e.run ∧ (e.second leg b eb).1.unavail = false) ∧
  (∀ (e : PmEnt) (leg : Bool) (b eb : Nat), e.unavail = false → e.defect = true ∨ (0 < b ∧ b * 3 ≤ eb * 10) →
    e.run.length = 9 → (∀ r ∈ e.run, r.in15 = true) →
    (e.second leg b eb).2 = true ∧ (e.second leg b eb).1.c15.ses = e.c15.ses - 9 ∧
      (e.second leg b eb).1.c15.uas = e.c15.uas + 10 ∧ (e.second leg b eb).1.run = [] ∧
      (e.second leg b eb).1.unavail = true) ∧
  (∀ (e : PmEnt) (leg : Bool) (b eb : Nat), e.unavail = false → e.defect = false → b = 0 ∨ eb * 10 < b * 3 →
    (e.second leg b eb).2 = false ∧ (e.second leg b eb).1.c15.ses = e.c15.ses ∧
      (e.second leg b eb).1.c15.es = e.c15.es + (if 1 ≤ eb then 1 else 0) ∧
      (e.second leg b eb).1.c15.bbe = e.c15.bbe + eb ∧ (e.second leg b eb).1.run = []) ∧
  (∀ (e : PmEnt) (leg : Bool) (b eb : Nat), e.unavail = true → e.defect = false → b = 0 ∨ eb * 10 < b * 3 →
    e.run.length = 9 → (∀ r ∈ e.run, r.in15 = true) →
    (e.second leg b eb).1.unavail = false ∧ (e.second leg b eb).1.c15.uas = e.c15.uas - 9 ∧
      (e.second leg b eb).1.c15.bbe = e.c15.bbe + (e.run.map (·.eb)).sum + eb ∧
      (e.second leg b eb).1.c15.es = e.c15.es + (e.run.filter fun r => 1 ≤ r.eb).length + (if 1 ≤ eb then 1 else 0)) ∧
  (∀ s : State, s.stepDue 2 = true → s.ready tsiPage = true → s.onGrid 360000 = true →
    s.lnu.close15 ≠ some s.clk.wale → s.lnu.second = some s.clk.wale → s.onGrid 34560000 = false → s.entities.Nodup →
    Answers .binClose s fun t =>
      t.clk.phase = 2 ∧ t.lnu.close15 = some s.clk.wale ∧ t.lnu.close24 = s.lnu.close24 ∧
        (∀ e ∈ s.entities, (t.pm e).p15 = { (s.pm e).c15 with closed := s.clk.wale % 2 ^ 32 } ∧ (t.pm e).c15 = {} ∧
          (t.pm e).c24 = (s.pm e).c24 ∧ (t.pm e).p24 = (s.pm e).p24) ∧
        (∀ e, e ∉ s.entities → t.pm e = s.pm e) ∧
        t.ctrAt tsiPage .lnuBinsClosed 0 = (s.ctrAt tsiPage .lnuBinsClosed 0 + s.entities.length) % 2 ^ 64 ∧
        (s.ringOn tsiPage 0 = false → t.ctrAt tsiPage .lnuPmLost 0 =
          min (s.ctrAt tsiPage .lnuPmLost 0 + s.entities.length) (2 ^ 32 - 1))) ∧
  (∀ s : State, s.stepDue 2 = true → s.ready tsiPage = true → s.onGrid 360000 = true →
    s.lnu.close15 ≠ some s.clk.wale → s.lnu.second = some s.clk.wale → s.onGrid 34560000 = true → s.entities.Nodup →
    Answers .binClose s fun t =>
      t.lnu.close15 = some s.clk.wale ∧ t.lnu.close24 = some s.clk.wale ∧
        (∀ e ∈ s.entities, (t.pm e).p24 = { (s.pm e).c24 with closed := s.clk.wale % 2 ^ 32 } ∧ (t.pm e).c24 = {} ∧
          (t.pm e).c15 = {})) ∧
  (∀ s : State, s.stepDue 2 = true → s.ready tsiPage = true → s.onGrid 360000 = true →
    s.lnu.close15 ≠ some s.clk.wale → s.lnu.second ≠ some s.clk.wale →
    Answers .binClose s fun t => t.lnu.second = some s.clk.wale ∧ t.lnu.close15 = some s.clk.wale)

/-- R571, R574 to R577, R586, R590: the DRAM controller comes up and goes down. -/
def Obligations.DramTraining : Prop :=
  (∀ (s : State) (src : Src), s.Opens src drcPage Reg.pageCtrl → s.enabled drcPage = false →
    s.rb drcPage Reg.drcGeom 8 = true → s.drcC ≤ 16 →
    Answers (.drcEnable src) s fun t =>
      t.enabled drcPage = true ∧
        (∀ c, c < s.drcC → t.chState c = 1 ∧ t.dch c = { step := 1, at_ := s.clk.tru }) ∧
        (∀ c, s.drcC ≤ c → c < 16 → t.chState c = s.chState c ∧ t.dch c = s.dch c) ∧
        t.mem = s.mem ∧ s.Only t ([.page, .drc] ++ past ++ noted)) ∧
  (∀ (s : State) (src : Src), s.Opens src drcPage Reg.pageCtrl → s.enabled drcPage = false →
    s.rb drcPage Reg.drcGeom 8 = false →
    Answers (.drcEnable src) s fun t =>
      t.enabled drcPage = true ∧ t.drc = s.drc ∧ (∀ c, c < 16 → t.chState c = s.chState c) ∧
        s.Only t ([.page, .drc] ++ past ++ noted)) ∧
  (∀ (s : State) (src : Src), s.Opens src drcPage Reg.pageCtrl → s.enabled drcPage = true →
    Answers (.drcEnable src) s fun t => t.drc = s.drc ∧ s.RegsBut t [] ∧ s.Only t [.prg]) ∧
  (∀ (s : State) (src : Src), s.Opens src drcPage Reg.pageCtrl → s.enabled drcPage = true →
    Answers (.drcDisable src) s fun t =>
      t.enabled drcPage = false ∧ (∀ c, c < 16 → t.chState c = 0 ∧ t.dch c = {}) ∧ t.drcCap = 0 ∧
        t.mem = { s.mem with dram := [], queued := [], poison := [] } ∧ t.drc.waits = [] ∧ t.drc.writes = [] ∧ t.ready drcPage = false ∧
        s.Only t ([.page, .drc, .mem] ++ past ++ noted)) ∧
  (∀ (s : State) (ch : Nat), ch < 16 → s.chState ch = 1 → (s.dch ch).step < 7 →
    s.clk.tru ≤ (s.dch ch).at_ + stepTimeout (s.dch ch).step * s.drcRanks →
    Answers (.trainStepDone ch) s fun t =>
      t.dch ch = { s.dch ch with step := (s.dch ch).step + 1, at_ := s.clk.tru } ∧ (∀ c, c ≠ ch → t.dch c = s.dch c) ∧
        s.Only t [.drc]) ∧
  (∀ (s : State) (ch : Nat), ch < 16 → s.chState ch = 1 → (s.dch ch).step = 7 → s.spareOf ch = none → s.drcRanks ≤ 4 →
    s.drcC ≤ 16 → s.clk.tru ≤ (s.dch ch).at_ + stepTimeout 7 → s.mem.dead = [] →
    Answers (.trainStepDone ch) s fun t =>
      t.chState ch = 2 ∧ t.enabled (chPage ch) = true ∧ (t.dch ch).step = 0 ∧
        (∀ r, r < s.drcRanks → t.rankState ch r = 1 ∧ t.rankLogical ch r = r) ∧
        ((∀ c, c < s.drcC → c ≠ ch → s.chState c = 2) → ch < s.drcC → s.spareOf 0 = none →
          t.drcCap = s.drcC * s.drcRanks * (2 ^ (13 + s.drcRb) * 64)) ∧
        ((∃ c, c < s.drcC ∧ c ≠ ch ∧ s.chState c ≠ 2) → t.drcCap = s.drcCap) ∧
        (∀ c, c ≠ ch → t.dch c = s.dch c) ∧ t.mem = s.mem) ∧
  (∀ (s : State) (ch q : Nat), ch < 16 → s.chState ch = 1 → (s.dch ch).step = 7 → s.spareOf ch = some q →
    q < s.drcRanks → s.drcRanks ≤ 4 → s.drcC ≤ 16 → s.clk.tru ≤ (s.dch ch).at_ + stepTimeout 7 → s.mem.dead = [] →
    Answers (.trainStepDone ch) s fun t =>
      t.chState ch = 2 ∧ t.rankState ch q = 2 ∧
        (∀ r, r < q → t.rankState ch r = 1 ∧ t.rankLogical ch r = r) ∧
        (∀ r, q < r → r < s.drcRanks → t.rankState ch r = 1 ∧ t.rankLogical ch r = r - 1)) ∧
  (∀ (s : State) (ch : Nat), s.chState ch ≠ 1 ∨
      (s.dch ch).at_ + stepTimeout (s.dch ch).step * (if (s.dch ch).step = 7 then 1 else s.drcRanks) < s.clk.tru →
    Answers (.trainStepDone ch) s fun t => t = s) ∧
  (∀ (s : State) (ch rank : Nat), ch < 16 → s.chState ch = 1 → rank < s.drcRanks → s.drcRanks ≤ 4 →
    (s.dch ch).step < 8 → (s.dch ch).at_ + stepTimeout (s.dch ch).step ≤ s.clk.tru →
    Answers (.drcTrainFail ch rank) s fun t =>
      t.chState ch = 3 ∧ t.rf (chPage ch) Reg.drcChStatus 6 4 = (s.dch ch).step ∧
        t.rf (chPage ch) Reg.drcChStatus 9 8 = rank ∧ (t.dch ch).step = 0 ∧ (∀ c, c ≠ ch → t.dch c = s.dch c) ∧
        s.Only t ([.page, .drc] ++ past ++ noted)) ∧
  (∀ (s : State) (ch rank : Nat), s.chState ch ≠ 1 ∨ s.clk.tru < (s.dch ch).at_ + stepTimeout (s.dch ch).step →
    Answers (.drcTrainFail ch rank) s fun t => t = s) ∧
  ((List.range 8).map stepTimeout).drop 1 = [2000000, 10000000, 10000000, 10000000, 20000000, 30000000, 10000000000] ∧
  (∀ (s : State) (src : Src) (mask : Nat), s.Opens src drcPage Reg.drcTrain → mask < 65536 →
    Answers (.drcRetrain src mask) s fun t =>
      (∀ c, c < 16 → mask.testBit c = true → s.chState c = 3 →
        t.chState c = 1 ∧ t.dch c = { step := 1, at_ := s.clk.tru }) ∧
        (∀ c, c < 16 → mask.testBit c = false ∨ s.chState c ≠ 3 → t.chState c = s.chState c ∧ t.dch c = s.dch c) ∧
        t.mem = s.mem ∧ s.Only t ([.page, .drc] ++ past ++ noted))

/-- R574, R579, R580, R582 to R588: lines of DRAM. -/
def Obligations.DramLines : Prop :=
  (∀ (s : State) (a : Nat) (bs : List Byte), a < s.drcCap → s.dramLost a = false → bs ≠ [] → a % 64 + bs.length ≤ 64 →
    (s.dch (s.drcChan a)).queue.length < 64 →
    Answers (.dramWrite a bs) s fun t =>
      (∀ i, i < bs.length → t.dramByte (a + i) = bs.getD i 0) ∧
        (∀ x, x < a ∨ a + bs.length ≤ x → t.dramByte x = s.dramByte x) ∧ t.mem.dram = s.mem.dram ∧ t.mem.sram = s.mem.sram ∧
        (t.dch (s.drcChan a)).queue = (if (s.dch (s.drcChan a)).queue.contains (a / 64) then (s.dch (s.drcChan a)).queue
          else (s.dch (s.drcChan a)).queue ++ [a / 64]) ∧ (∀ c, c ≠ s.drcChan a → t.dch c = s.dch c) ∧
        s.Only t [.mem, .drc]) ∧
  (∀ (s : State) (a : Nat) (bs : List Byte), a < s.drcCap → s.dramLost a = false →
    64 ≤ (s.dch (s.drcChan a)).queue.length →
    Answers (.dramWrite a bs) s fun t => t = { s with drc := { s.drc with writes := s.drc.writes ++ [(a, bs)] } }) ∧
  (∀ (s : State) (a : Nat) (bs : List Byte), a < s.drcCap → s.dramLost a = true →
    Answers (.dramWrite a bs) s fun t => t = s) ∧
  (∀ (s : State) (a : Nat) (bs : List Byte) (e : Ecc), s.drcCap ≤ a →
    (Answers (.dramWrite a bs) s fun t =>
      t.mem = s.mem ∧ t.ctrAt drcPage .drcRangeErr 0 = min (s.ctrAt drcPage .drcRangeErr 0 + 1) (2 ^ 32 - 1) ∧
        t.drc.rangeTold = true) ∧
    (Answers (.dramRead a e) s fun t =>
      t.mem = s.mem ∧ t.drc.answer = some (a, true, []) ∧
        t.ctrAt drcPage .drcRangeErr 0 = min (s.ctrAt drcPage .drcRangeErr 0 + 1) (2 ^ 32 - 1))) ∧
  (∀ (s : State) (a : Nat) (e : Ecc), a < s.drcCap → s.dramLost a = false → s.entryBytes (a / 64) = 64 →
    Answers (.dramRead a e) s fun t =>
      t.drc.answer = some (a, false, s.lineBytes a) ∧ t.mem = s.mem ∧
        t.ctrAt (chPage (s.drcChan a)) .drcFwd 0 = (s.ctrAt (chPage (s.drcChan a)) .drcFwd 0 + 1) % 2 ^ 64) ∧
  (∀ (s : State) (a : Nat) (e : Ecc), a < s.drcCap → s.dramLost a = false → 0 < s.entryBytes (a / 64) →
    s.entryBytes (a / 64) < 64 →
    Answers (.dramRead a e) s fun t =>
      t.drc.answer = s.drc.answer ∧ t.drc.waits.length = s.drc.waits.length + 1 ∧ t.mem = s.mem ∧
        t.ctrAt (chPage (s.drcChan a)) .drcRawWait 0 = (s.ctrAt (chPage (s.drcChan a)) .drcRawWait 0 + 1) % 2 ^ 64) ∧
  (∀ (s : State) (a : Nat), a < s.drcCap → s.dramLost a = false → s.entryBytes (a / 64) = 0 →
    s.mem.poison.contains (a / 64) = false →
    Answers (.dramRead a .clean) s fun t =>
      t.drc = { s.drc with answer := some (a, false, s.lineBytes a) } ∧ t.mem = s.mem ∧ s.RegsBut t [] ∧
        s.Only t (.drc :: noted)) ∧
  (∀ (s : State) (a : Nat) (e : Ecc), a < s.drcCap → s.dramLost a = false → s.entryBytes (a / 64) = 0 →
    s.mem.poison.contains (a / 64) = true →
    Answers (.dramRead a e) s fun t =>
      t.drc.answer = some (a, true, []) ∧ t.mem = s.mem ∧
        t.ctrAt (chPage (s.drcChan a)) .drcPoisonRd 0 =
          min (s.ctrAt (chPage (s.drcChan a)) .drcPoisonRd 0 + 1) (2 ^ 32 - 1)) ∧
  (∀ (s : State) (a ch r : Nat), a < s.drcCap → s.dramLost a = false → s.entryBytes (a / 64) = 0 → ch = s.drcChan a →
    r = s.serving ch (s.drcRank a) (s.drcLine a) → s.mem.poison.contains (a / 64) = false →
    Answers (.dramRead a .corrected) s fun t =>
      t.drc.answer = some (a, false, s.lineBytes a) ∧ t.mem = s.mem ∧
        (t.dch ch).ceBin = s.day ∧
        NMap.get (fun _ => 0) (t.dch ch).ce r =
          (if (s.dch ch).ceBin = s.day then NMap.get (fun _ => 0) (s.dch ch).ce r else 0) + 1 ∧
        (∀ q, s.rankState ch q = t.rankState ch q)) ∧
  (∀ (s : State) (a ch r q : Nat), a < s.drcCap → s.dramLost a = false → s.entryBytes (a / 64) = 0 → ch = s.drcChan a →
    r = s.serving ch (s.drcRank a) (s.drcLine a) → r < 4 → s.mem.poison.contains (a / 64) = false →
    s.rankState ch r = 1 → (List.range 4).find? (fun x => s.rankState ch x = 2) = some q →
    Answers (.dramRead a .uncorrectable) s fun t =>
      t.drc.answer = some (a, true, []) ∧ t.mem = { s.mem with poison := s.mem.poison ++ [a / 64] } ∧
        t.rankState ch r = 3 ∧ t.rankState ch q = 4 ∧ t.rankLogical ch q = s.rankLogical ch r ∧
        t.rf (chPage ch) Reg.drcMig 30 0 = 0) ∧
  (∀ (s : State) (ch line : Nat) (r : List Nat) (e : Ecc), s.canonical → (s.dch ch).queue = line :: r → line ∉ r →
    s.entryBytes line = 64 → s.dramLost (line * 64) = false → s.drc.waits = [] → s.drc.writes = [] →
    Answers (.writeQueueDrain ch e) s fun t =>
      (t.dch ch).queue = r ∧ (∀ x, t.dramByte x = s.dramByte x) ∧ t.entryBytes line = 0 ∧
        t.mem.poison = s.mem.poison.filter (· ≠ line) ∧ (∀ c, c ≠ ch → t.dch c = s.dch c) ∧ s.RegsBut t [] ∧
        s.Only t ([.mem, .drc] ++ noted)) ∧
  (∀ (s : State) (ch line w : Nat) (r : List Nat), s.canonical → (s.dch ch).queue = line :: r → line ∉ r →
    s.entryBytes line < 64 → s.dramLost (line * 64) = false → s.mem.poison.contains line = false →
    s.drc.waits = [(w, 0)] → w / 64 = line → s.drc.writes = [] →
    Answers (.writeQueueDrain ch .clean) s fun t =>
      (t.dch ch).queue = r ∧ (∀ x, t.dramByte x = s.dramByte x) ∧ t.entryBytes line = 0 ∧
        t.drc.waits = [] ∧ t.drc.answer = some (w, false, s.lineBytes w)) ∧
  (∀ (s : State) (ch line : Nat) (r : List Nat) (e : Ecc), (s.dch ch).queue = line :: r → line ∉ r →
    s.entryBytes line < 64 → s.mem.poison.contains line = true → s.drc.waits = [] → s.drc.writes = [] →
    Answers (.writeQueueDrain ch e) s fun t =>
      (t.dch ch).queue = r ∧ t.mem.dram = s.mem.dram ∧ t.mem.poison = s.mem.poison ∧ t.entryBytes line = 0) ∧
  (∀ (s : State) (ch line a : Nat) (r : List Nat) (bs : List Byte) (e : Ecc), (s.dch ch).queue = line :: r → line ∉ r →
    r.length < 64 → s.entryBytes line = 64 → s.drc.waits = [] → s.drc.writes = [(a, bs)] → s.drcChan a = ch → a < s.drcCap →
    s.dramLost a = false → a / 64 ∉ line :: r → bs ≠ [] → a % 64 + bs.length ≤ 64 →
    Answers (.writeQueueDrain ch e) s fun t =>
      (t.dch ch).queue = r ++ [a / 64] ∧ t.drc.writes = [] ∧ (∀ i, i < bs.length → t.dramByte (a + i) = bs.getD i 0)) ∧
  (∀ (s : State) (ch rank : Nat), s.chState ch = 2 → rank < s.drcRanks →
    Answers (.refresh ch rank) s fun t =>
      t.ctrAt (chPage ch) .drcRefresh 0 = (s.ctrAt (chPage ch) .drcRefresh 0 + 1) % 2 ^ 64 ∧ s.RegsBut t [] ∧
        s.Only t noted) ∧
  (∀ (s : State) (ch rank : Nat) (h : Heat), s.chState ch = 2 → rank < s.drcRanks →
    Answers (.mr4Poll ch rank h) s fun t =>
      ((t.dch ch).hot.contains rank = decide (h ≠ .cool)) ∧ (∀ c, c ≠ ch → t.dch c = s.dch c) ∧ t.mem = s.mem ∧
        s.RegsBut t [] ∧ s.Only t (.drc :: noted)) ∧
  (∀ (s : State) (ch : Nat), s.chState ch = 2 → s.rb drcPage Reg.drcScrub 0 = true → s.ready drcPage = true →
    Answers (.scrubRead ch .clean) s fun t =>
      (t.dch ch).scrub = (if (s.dch ch).scrub + 1 < s.ranksUsed ch * s.rankLines then (s.dch ch).scrub + 1 else 0) ∧
        t.mem = s.mem ∧ t.drc.answer = s.drc.answer ∧ (∀ c, c ≠ ch → t.dch c = s.dch c)) ∧
  (∀ (s : State) (ch rank : Nat), s.chState ch = 2 →
    Answers (.caParityAlert ch rank false) s fun t =>
      t.ctrAt (chPage ch) .drcCaRetry 0 = min (s.ctrAt (chPage ch) .drcCaRetry 0 + 1) (2 ^ 32 - 1) ∧ t.mem = s.mem ∧
        s.RegsBut t [] ∧ s.Only t noted) ∧
  (∀ (s : State) (src : Src) (ch r : Nat), ch < 16 → r < 4 → s.chState ch = 2 → s.rankState ch r = 1 →
    (∀ x, x < 4 → s.rankState ch x ≠ 2) →
    (Answers (.caParityAlert ch r true) s fun t =>
      t.rankState ch r = 5 ∧ t.mem = { s.mem with dead := s.mem.dead ++ [(ch, s.rankLogical ch r)] }) ∧
    (s.Opens src (chPage ch) Reg.drcRetire →
      Answers (.rankRetire src ch r) s fun t =>
        t.rankState ch r = 5 ∧ t.mem = { s.mem with dead := s.mem.dead ++ [(ch, s.rankLogical ch r)] } ∧
          (∀ x, x < 4 → x ≠ r → t.rankState ch x = s.rankState ch x) ∧
          s.RegsBut t [(chPage ch, Reg.drcRankState)] ∧ s.Only t (.mem :: noted))) ∧
  (∀ (s : State) (src : Src) (ch r q : Nat), ch < 16 → r < 4 → s.rankState ch r = 1 →
    (List.range 4).find? (fun x => s.rankState ch x = 2) = some q → s.Opens src (chPage ch) Reg.drcRetire →
    Answers (.rankRetire src ch r) s fun t =>
      t.rankState ch r = 3 ∧ t.rankState ch q = 4 ∧ t.rankLogical ch q = s.rankLogical ch r ∧
        t.rf (chPage ch) Reg.drcMig 30 0 = 0 ∧ t.mem = s.mem) ∧
  (∀ (s : State) (ch a b p : Nat), ch < 16 → s.migrating ch = some (a, b) → p = s.rf (chPage ch) Reg.drcMig 30 0 →
    p + 1 < s.rankLines → p + 1 < 2 ^ 31 →
    s.mem.poison.contains (s.drcAddr ch (s.rankLogical ch a * s.rankLines + p) / 64) = false →
    Answers (.migrationCopy ch .clean) s fun t =>
      t.rf (chPage ch) Reg.drcMig 30 0 = p + 1 ∧ t.migrating ch = some (a, b) ∧ t.mem = s.mem ∧ t.drc = s.drc ∧
        s.RegsBut t [(chPage ch, Reg.drcMig)] ∧ s.Only t noted) ∧
  (∀ (s : State) (ch a b p : Nat), ch < 16 → s.migrating ch = some (a, b) → p = s.rf (chPage ch) Reg.drcMig 30 0 →
    p + 1 = s.rankLines →
    Answers (.migrationCopy ch .clean) s fun t =>
      t.rankState ch b = 1 ∧ t.rankLogical ch b = s.rankLogical ch a ∧ t.rankState ch a = 5 ∧
        t.rf (chPage ch) Reg.drcMig 31 0 = 0)

/-- R594 to R598, R603, R621, R622, R624: the link of a pair. -/
def Obligations.PairLink : Prop :=
  (∀ (s : State) (ack : Nat) (bs : List (List Byte)), s.prgOn = true → s.linkUp = true → s.prg.ahead = [] →
    Answers (.pairLinkFrame s.prg.seqIn ack (bs.map .lay)) s fun t =>
      t.prg.seqIn = (s.prg.seqIn + 1) % 2 ^ 32 ∧ t.prg.rx = s.prg.rx ++ bs.map (fun b => (s.now, .lay b)) ∧
        t.prg.lastRx = s.clk.tru ∧ t.prg.unacked = (s.prg.unacked.filter fun u => !waleLt u.1 ack) ∧ t.prg.ahead = [] ∧
        t.prg.tx = s.prg.tx ∧ s.Only t [.prg]) ∧
  (∀ (s : State) (seq ack : Nat) (ms : List Msg), s.prgOn = true → s.linkUp = true → s.prg.ahead = [] →
    seq ≠ s.prg.seqIn →
    Answers (.pairLinkFrame seq ack ms) s fun t =>
      t.prg = { s.prg with lastRx := s.clk.tru, unacked := s.prg.unacked.filter (fun u => !waleLt u.1 ack),
                           ahead := if waleLt seq s.prg.seqIn then [] else [(seq, ms)] } ∧ s.Only t [.prg]) ∧
  (∀ (s : State) (ack : Nat), s.prgOn = true → s.linkUp = false → s.prg.ahead = [] →
    Answers (.pairLinkFrame s.prg.seqIn ack []) s fun t =>
      t.linkUp = true ∧ t.prg.tx = s.prg.tx ++ [s.hello] ∧ t.prg.rx = s.prg.rx ∧
        s.RegsBut t [(prgPage, Reg.prgStatus), (prgPage, Reg.prgGate)] ∧ s.Only t [.prg, .reg]) ∧
  (∀ (s : State) (seq ack : Nat) (ms : List Msg), s.prgOn = false →
    Answers (.pairLinkFrame seq ack ms) s fun t => t = s) ∧
  (∀ (s : State) (ms r : List Msg), s.prgOn = true → (s.layActive = true → s.prg.open_ = none ∧ s.prg.fwd = []) →
    (s.prg.tx = [] ∧ ms = [] ∧ r = [] ∨ ∃ m, s.prg.tx = m :: r ∧ ms = [m] ∧ (r = [] ∨ 9216 < msgSize m)) →
    Answers .pairLinkSend s fun t =>
      t.prg = { s.prg with tx := r, wire := s.prg.wire ++ [(s.prg.seqOut, s.prg.seqIn, ms)],
                           unacked := s.prg.unacked ++ [(s.prg.seqOut, s.clk.tru, ms)],
                           seqOut := (s.prg.seqOut + 1) % 2 ^ 32, lastTx := s.clk.tru } ∧ s.Only t [.prg]) ∧
  (∀ (s : State), s.prgOn = true →
    Answers .pairRetransmit s fun t =>
      t.prg.wire = s.prg.wire ++
          ((s.prg.unacked.filter fun u => decide (u.2.1 + 4000 ≤ s.clk.tru)).map fun u => (u.1, s.prg.seqIn, u.2.2)) ∧
        t.prg.unacked.map (fun u => (u.1, u.2.2)) = s.prg.unacked.map (fun u => (u.1, u.2.2)) ∧
        (∀ u ∈ t.prg.unacked, s.clk.tru < u.2.1 + 4000) ∧
        t.ctrAt prgPage .prgLinkRetx 0 = (s.ctrAt prgPage .prgLinkRetx 0 +
          (s.prg.unacked.filter fun u => decide (u.2.1 + 4000 ≤ s.clk.tru)).length) % 2 ^ 64 ∧ s.Only t noted) ∧
  (∀ (s : State), s.linkUp = false ∨ s.clk.tru < s.prg.lastRx + s.rf prgPage Reg.prgTmo 7 0 * 1000 →
    Answers .prgLinkDown s fun t => t = s) ∧
  (∀ (s : State), s.linkUp = true → s.prg.lastRx + s.rf prgPage Reg.prgTmo 7 0 * 1000 ≤ s.clk.tru →
    Answers .prgLinkDown s fun t =>
      t.linkUp = false ∧ t.prg.tx = [] ∧ t.prg.unacked = [] ∧ t.prg.seqOut = 0 ∧ t.prg.seqIn = 0 ∧
        (s.paired = false → t.prgState = s.prgState ∧ t.standby = s.standby) ∧
        (s.paired = true → s.standby = false → t.prgState = 0 ∧ t.standby = false ∧ t.prg.gate = []) ∧
        (s.paired = true → s.standby = true → s.twinAlive = true → t.prgState = 6 ∧ t.standby = true ∧ t.prg.gate = [] ∧
          t.prg.held = [] ∧ ∀ p, p < 4 → t.rb (lnuPage p) Reg.lnuTxCtl 1 = true) ∧
        (s.paired = true → s.standby = true → s.twinAlive = false → t.prgState = 0 ∧ t.standby = false ∧
          ∀ p, p < 4 → t.rb (lnuPage p) Reg.lnuTxCtl 1 = false)) ∧
  (∀ (s : State), s.qz.mainOk = true →
    (Answers .twinDead s fun t =>
      t.twinAlive = false ∧ s.RegsBut t [(prgPage, Reg.prgStatus)] ∧ s.Only t [.reg] ∧ t.prgState = s.prgState) ∧
    (Answers .twinAlive s fun t =>
      t.twinAlive = true ∧ s.RegsBut t [(prgPage, Reg.prgStatus)] ∧ s.Only t [.reg] ∧ t.prgState = s.prgState)) ∧
  (∀ (s : State) (tag role rev grid modes : Nat),
    s.helloFault tag role rev grid modes = 0 ↔
      tag = (s.rd prgPage Reg.prgTag).toNat ∧ role ≠ s.rf prgPage Reg.prgCtl 1 1 ∧ rev = 0 ∧ grid = s.gridPhase ∧
        modes = ((List.range 8).map fun n => s.raf (0x010 + n) Reg.ethPortCfg 1 0 * 4 ^ n).sum) ∧
  (∀ (s : State) (a tag role rev grid modes cap : Nat), s.prg.rx = [(a, .hello tag role rev grid modes cap)] →
    s.prgState = 0 → s.helloFault tag role rev grid modes = 0 →
    Answers .hello s fun t =>
      t.prgState = 1 ∧ t.standby = decide (s.rf prgPage Reg.prgCtl 1 1 = 1) ∧ t.prg.twinCap = cap ∧ t.prg.rx = [] ∧
        (s.rf prgPage Reg.prgCtl 1 1 = 1 → ∀ p, p < 4 → t.rb (lnuPage p) Reg.lnuTxCtl 1 = true) ∧
        t.mem = s.mem ∧ t.act = s.act) ∧
  (∀ (s : State) (a tag role rev grid modes cap : Nat), s.prg.rx = [(a, .hello tag role rev grid modes cap)] →
    s.prgState = 0 → s.helloFault tag role rev grid modes ≠ 0 →
    Answers .hello s fun t => t.prgState = 0 ∧ t.prg.rx = [] ∧ t.prg.twinCap = s.prg.twinCap ∧ s.RegsBut t []) ∧
  (∀ (s : State) (p o : Nat) (v : Word), s.layActive = true → s.prg.open_ = none → s.prg.fwd = [(p, o, v)] →
    Answers .configForward s fun t =>
      t.prg.fwd = [] ∧
        t.prg.tx = s.prg.tx ++ [.config p o v,
          .lay (layEntry 8 0 (beBytes 2 p ++ beBytes 2 o ++ beBytes 4 v.toNat ++ beBytes 4 0))] ∧
        t.prg.section_ = s.prg.section_ ++ [layEntry 8 0 (beBytes 2 p ++ beBytes 2 o ++ beBytes 4 v.toNat ++ beBytes 4 0)] ∧
        t.ctrAt prgPage .prgLayEntries 0 = (s.ctrAt prgPage .prgLayEntries 0 + 1) % 2 ^ 64 ∧ s.RegsBut t [] ∧
        s.Only t noted) ∧
  (∀ (s : State) (a : Nat), s.prg.rx = [(a, .demote)] → s.paired = true →
    Answers .demoteRx s fun t =>
      t.prg.rx = [] ∧ (s.standby = true → t.prg.demoted = true ∧ t.prgState = s.prgState) ∧
        (s.standby = false → t.prgState = 0 ∧ t.standby = false)) ∧
  (∀ (s : State) (g : GatePkt), s.standby = true → s.paired = true → s.twinAlive = false → s.linkUp = false →
    s.prg.gate = [g] → s.prg.held = [] →
    Answers .promote s fun t =>
      t.prgState = 0 ∧ t.standby = false ∧ t.prg.gate = [] ∧ t.prg.digs = [] ∧
        (∀ p, p < 4 → t.rb (lnuPage p) Reg.lnuTxCtl 1 = false) ∧
        (s.gateTop g.key ≤ g.idx → (t.laneSt g.frame.lane).staged g.frame.cls =
          (s.laneSt g.frame.lane).staged g.frame.cls ++ [(g.frame, s.now)]) ∧
        (g.idx < s.gateTop g.key → (t.laneSt g.frame.lane).staged g.frame.cls =
          (s.laneSt g.frame.lane).staged g.frame.cls)) ∧
  (∀ s : State, s.standby = false ∨ s.paired = false ∨ s.twinAlive = true →
    Answers .promote s fun t => t = s)

/-- R538, R598, R602, R603, R606 to R611: the standby follows the record. -/
def Obligations.RecordFollowed : Prop :=
  (∀ (s : State), (∀ m ∈ s.prg.rx, ∀ b, m.2 ≠ .lay b) → s.following = false →
    (Answers .layCfg s fun t => t = s) ∧ (Answers .layPkt s fun t => t = s) ∧ (Answers .layTdm s fun t => t = s) ∧
      (Answers .layBoundary s fun t => t = s) ∧ (Answers .layDeq s fun t => t = s) ∧ (Answers .layDrop s fun t => t = s) ∧
      (Answers .layOutcome s fun t => t = s) ∧ (Answers .layRefuse s fun t => t = s)) ∧
  (∀ (s : State) (a : Nat) (b : List Byte) (r : List (Nat × Msg)), s.prg.rx = (a, .lay b) :: r →
    (fb b 0 ≠ 3 → Answers .layTdm s fun t => t = s) ∧ (fb b 0 ≠ 4 → Answers .layDeq s fun t => t = s) ∧
      (fb b 0 ≠ 6 → Answers .layOutcome s fun t => t = s) ∧
      (fb b 0 = 6 → s.following = false → Answers .layOutcome s fun t =>
        t.prg = { s.prg with rx := r, section_ := s.prg.section_ ++ [b] } ∧
          t.ctrAt prgPage .prgLayEntries 0 = (s.ctrAt prgPage .prgLayEntries 0 + 1) % 2 ^ 64 ∧ s.Only t noted)) ∧
  (∀ (s : State) (a : Nat) (v : Word) (b : List Byte), s.standby = true → s.paired = true →
    s.reaches .pf mxfPage = true → s.granted .pf mxfPage = true → s.hidden .pf mxfPage = false → s.prg.applying = false →
    b = layEntry 8 0 (beBytes 2 mxfPage ++ beBytes 2 Reg.evtEnable ++ beBytes 4 v.toNat ++ beBytes 4 0) →
    s.prg.rx = [(a, .config mxfPage Reg.evtEnable v), (a, .lay b)] →
    Answers .layCfg s fun t =>
      t.rd mxfPage Reg.evtEnable = v ∧ t.prg.rx = [] ∧ t.prg.section_ = s.prg.section_ ++ [b] ∧ t.prg.applying = false ∧
        s.RegsBut t [(mxfPage, Reg.evtEnable)] ∧ s.Only t noted) ∧
  (∀ (s : State) (a : Nat) (b : List Byte) (r : List (Nat × Msg)), s.prg.rx = (a, .lay b) :: r → fb b 0 = 2 →
    s.following = true → s.prg.held = [] →
    Answers .layPkt s fun t =>
      t.prg.rx = r ∧ t.prg.section_ = s.prg.section_ ++ [b] ∧
        t.prg.want = s.prg.want ++
          [{ scid := fb32 b 4 % 2 ^ 25, lane := fb32 b 4 / 2 ^ 25 % 32, kind := fb32 b 4 / 2 ^ 30, ts := fb32 b 8,
             seq := fb16 b 12, ulen := fb16 b 14, dig := beNat (slice b 16 8), flags := fb b 1, at_ := s.now }] ∧
        s.RegsBut t [] ∧ s.Only t noted) ∧
  (∀ (s : State) (w : WantIn) (h : HeldIn), (∀ m ∈ s.prg.rx, ∀ b, m.2 ≠ .lay b) → s.following = true →
    s.prg.want = [w] → s.prg.held = [h] → s.meets w h = true →
    Answers .layPkt s fun t => t.prg.want = [] ∧ t.prg.held = []) ∧
  (∀ (s : State) (a w ch c : Nat) (e : Word) (b : List Byte) (r : List (Nat × Msg)), s.prg.rx = (a, .lay b) :: r →
    fb b 0 = 3 → s.following = true → s.prg.reached = some w → 9 ≤ b.length →
    (s.channels.filter fun x => chPort x.2 = fb32 b 4 % 4) = [(ch, e)] → c = 20 * w + fb32 b 4 / 4 % 32 →
    Answers .layTdm s fun t =>
      t.ds0At ch c = some (b.getD 8 0) ∧ (∀ k, k ≠ ch → t.ds0At k c = s.ds0At k c) ∧ t.prg.rx = r ∧ s.RegsBut t [] ∧
        s.Only t (.mxf :: noted)) ∧
  (∀ (s : State) (a : Nat) (b : List Byte) (r : List (Nat × Msg)), s.prg.rx = (a, .lay b) :: r → fb b 0 = 4 →
    s.following = true → s.prg.deqs = [] →
    (∀ f ∈ s.legFrames (s.entryLeg (slice b 4 12)), f.named (slice b 4 12) = false) →
    Answers .layDeq s fun t =>
      t.prg.deqs = [(false, slice b 4 12)] ∧ t.prg.rx = r ∧ t.esc = s.esc ∧ s.RegsBut t [] ∧ s.Only t noted) ∧
  (∀ (s : State) (a g q : Nat) (b : List Byte) (r : List (Nat × Msg)) (f : EscFrame) (d : Copy),
    s.prg.rx = (a, .lay b) :: r → fb b 0 = 4 → s.following = true → s.prg.deqs = [] →
    g = s.entryLeg (slice b 4 12) → s.legF g 0 6 6 = 1 → s.legFrames g = [f] → f.named (slice b 4 12) = true →
    f.copy = some d → f.leg < 65536 → q = s.ctx d.out 9 29 22 → s.rqIs q 2 = true →
    (s.cpeQ q).length < 1024 →
    Answers .layDeq s fun t =>
      t.prg.deqs = [] ∧ t.strictQ (s.legLane g) (s.legF g 0 9 7) = [] ∧ t.cpeQ q = s.cpeQ q ++ [.out f] ∧
        (t.laneSt f.lane).flying f.cls = (s.laneSt f.lane).flying f.cls + f.len) ∧
  (∀ (s : State) (a g : Nat) (b : List Byte) (r : List (Nat × Msg)) (f : EscFrame) (d : Copy),
    s.prg.rx = (a, .lay b) :: r → fb b 0 = 5 → s.following = true → s.prg.deqs = [] →
    g = s.entryLeg (slice b 4 12) → s.legF g 0 6 6 = 1 → s.legFrames g = [f] → f.named (slice b 4 12) = true →
    f.copy = some d → d.counted = false →
    Answers .layDrop s fun t =>
      t.prg.deqs = [] ∧ t.strictQ (s.legLane g) (s.legF g 0 9 7) = [] ∧ t.cpe = s.cpe ∧
        t.ctrAt (escPage f.lane) .escTailDrop (f.lane % 4) =
          min (s.ctrAt (escPage f.lane) .escTailDrop (f.lane % 4) + 1) (2 ^ 32 - 1)) ∧
  (∀ (s : State) (a : Nat) (b : List Byte) (r : List (Nat × Msg)), s.prg.rx = (a, .lay b) :: r → fb b 0 = 6 →
    s.following = true → s.prg.holds = [] →
    Answers .layOutcome s fun t =>
      t.prg.outcomes = s.prg.outcomes ++
          [(beNat (slice b 4 8), fb32 b 12 % 65536, fb32 b 12 / 2 ^ 16 % 16, fb32 b 12 / 2 ^ 20 % 16)] ∧
        t.prg.rx = r ∧ t.cores = s.cores ∧ s.Only t noted) ∧
  (∀ (s : State) (a : Nat) (b : List Byte) (r : List (Nat × Msg)), s.prg.rx = (a, .lay b) :: r → fb b 0 = 7 →
    s.following = true → fb32 b 4 ≠ 6 →
    Answers .layRefuse s fun t =>
      t.prg.refusals = s.prg.refusals ++ [(fb32 b 4, slice b 8 8)] ∧ t.prg.rx = r ∧ s.Only t noted) ∧
  (∀ (s : State) (a : Nat) (b : List Byte) (r : List (Nat × Msg)), s.prg.rx = (a, .lay b) :: r → fb b 0 = 7 →
    s.following = true → fb32 b 4 = 6 → s.ctx (fb32 b 8) 12 19 19 = 1 → s.ctxOut (s.ctx (fb32 b 8) 13 24 0) = true →
    s.lfw.asked.contains (s.fsn (fb32 b 8)) = false →
    Answers .layRefuse s fun t =>
      s.fsn (fb32 b 8) ∈ t.lfw.asked ∧ t.prg.refusals = s.prg.refusals ∧
        ∃ d : Copy, t.lfw.out = s.lfw.out ++ [d] ∧ d.out = s.ctx (fb32 b 8) 13 24 0 ∧ d.rtcp = true) ∧
  (∀ (s : State) (a : Nat) (b : List Byte) (r : List (Nat × Msg)), s.prg.rx = (a, .lay b) :: r → fb b 0 = 1 →
    waleLt s.wale (fb32 b 4) = true →
    Answers .layBoundary s fun t => t = s) ∧
  (∀ (s : State) (a v : Nat) (b : List Byte) (r : List (Nat × Msg)), s.prg.rx = (a, .lay b) :: r → fb b 0 = 1 →
    s.genState = 2 → s.following = true → fb32 b 4 = s.wale → s.prg.reached = some v → fb32 b 20 = 0 →
    ((a : Int) - s.boundary s.wale64).natAbs ≤ 50000 → s.rve.tasks = [] → s.wve.rcv = [] → s.pxc.pipes = [] →
    s.enabled lfwPage = false →
    Answers .layBoundary s fun t =>
      t.prg.reached = some s.wale ∧ t.prg.listed = [] ∧ t.clk.phase = 3 ∧ t.prg.section_ = [b] ∧
        t.rd prgPage Reg.prgSkew = BitVec.ofInt 32 ((a : Int) - s.boundary s.wale64) ∧
        (fb32 b 8 = s.prg.section_.length → beNat (slice b 12 8) = sm3First s.prg.section_.flatten →
          t.prg.secBad = false ∧ t.prgState = s.prgState) ∧
        (fb32 b 8 ≠ s.prg.section_.length ∨ beNat (slice b 12 8) ≠ sm3First s.prg.section_.flatten →
          t.prg.secBad = true ∧ (s.prgState = 4 → t.prgState = 5))) ∧
  (∀ (s : State) (a : Nat) (b : List Byte) (r : List (Nat × Msg)), s.prg.rx = (a, .lay b) :: r → fb b 0 = 1 →
    s.genState = 2 → s.following = true → s.prgState = 4 → fb32 b 4 = s.wale →
    500000 < ((a : Int) - s.boundary s.wale64).natAbs →
    Answers .layBoundary s fun t => t.prgState = 5 ∧ t.standby = true)

/-- R606, R607, R611, R612, R615 to R617: inputs that do not come, and the gate. -/
def Obligations.SeizingGate : Prop :=
  (∀ (s : State) (h : HeldIn), s.prg.held = [h] → s.prg.want = [] →
    h.at_ + s.rf prgPage Reg.prgTmo 23 16 * 1000 ≤ s.now →
    Answers .heldInputTimeout s fun t =>
      t.prg.held = [] ∧ t.ctrAt prgPage .prgUnlisted 0 = min (s.ctrAt prgPage .prgUnlisted 0 + 1) (2 ^ 32 - 1) ∧
        (s.crlCheck 4 (s.portOwner iclPort) h.pkt.handle 0 = 0 → t.owners h.pkt.handle = []) ∧ t.lfw = s.lfw ∧
        t.cpe = s.cpe) ∧
  (∀ s : State, (∀ h ∈ s.prg.held, s.now < h.at_ + s.rf prgPage Reg.prgTmo 23 16 * 1000) →
    Answers .heldInputTimeout s fun t => t = s) ∧
  (∀ (s : State) (w : WantIn), s.following = true → s.prg.want = [w] → s.prg.held = [] → w.fetchAt = none →
    w.at_ + 20000 ≤ s.now →
    Answers .fetchRequest s fun t =>
      t.prg.want = [{ w with fetchAt := some s.now }] ∧ t.prg.tx = s.prg.tx ++ [.fetch w.scid w.kind w.seq] ∧
        s.Only t [.prg]) ∧
  (∀ (s : State) (w : WantIn), s.prg.want = [w] → s.now < w.at_ + 20000 ∨ w.fetchAt.isSome = true ∨ s.following = false →
    Answers .fetchRequest s fun t => t.prg.tx = s.prg.tx ∧ t.prg.want = [w] ∧ s.Only t [.prg]) ∧
  (∀ (s : State) (a c k q : Nat) (w : WantIn), s.prg.rx = [(a, .fetched c k q none)] → s.prg.want = [w] →
    w.fetchAt.isSome = true → w.scid = c → w.kind = k → w.seq = q → s.standby = true → s.paired = true →
    Answers .fetchResponse s fun t =>
      t.prg.want = [] ∧ t.prg.rx = [] ∧ t.ctrAt prgPage .prgMissing 0 = min (s.ctrAt prgPage .prgMissing 0 + 1) (2 ^ 32 - 1) ∧
        (1, 6) ∈ t.prg.diverged ∧ t.lfw = s.lfw ∧ t.cpe = s.cpe ∧ s.RegsBut t [] ∧ s.Only t noted) ∧
  (∀ (s s1 : State) (a c k q h : Nat) (plain : List Byte) (w : WantIn) (p : Pkt),
    s.prg.rx = [(a, .fetched c k q (some plain))] → s.prg.want = [w] → w.fetchAt.isSome = true → w.scid = c →
    w.kind = k → w.seq = q → s.mediaReady = true → s.crlAlloc iclPort (s.raf (ethPage w.lane) Reg.ethPortCfg 7 2) = (s1, some h) →
    s.fetchedPkt w plain h = some p →
    Answers .fetchResponse s fun t =>
      t.prg.want = [] ∧ t.prg.rx = [] ∧
        t.ctrAt prgPage .prgFetched 0 = (s.ctrAt prgPage .prgFetched 0 + 1) % 2 ^ 64) ∧
  (∀ (s : State) (a c k q : Nat) (plain : List Byte) (w : WantIn), s.prg.rx = [(a, .fetched c k q (some plain))] →
    s.prg.want = [w] → w.fetchAt.isSome = true → w.scid = c → w.kind = k → w.seq = q → s.mediaReady = false →
    s.standby = true → s.paired = true →
    Answers .fetchResponse s fun t =>
      t.prg.want = [] ∧ t.prg.rx = [] ∧ t.ctrAt iclPage .iclDropNotready 0 = min (s.ctrAt iclPage .iclDropNotready 0 + 1) (2 ^ 32 - 1) ∧
        t.ctrAt prgPage .prgMissing 0 = min (s.ctrAt prgPage .prgMissing 0 + 1) (2 ^ 32 - 1) ∧ t.lfw = s.lfw ∧
        s.RegsBut t [] ∧ s.Only t noted) ∧
  (∀ (s : State) (a c k q : Nat) (x : Option (List Byte)), s.prg.rx = [(a, .fetched c k q x)] → s.prg.want = [] →
    Answers .fetchResponse s fun t => t.prg = { s.prg with rx := [] } ∧ s.Only t [.prg]) ∧
  (∀ (s : State) (w : WantIn) (a : Nat), s.prg.want = [w] → w.fetchAt = some a →
    a + s.rf prgPage Reg.prgTmo 15 8 * 1000 ≤ s.now → s.standby = true → s.paired = true →
    Answers .fetchTimeout s fun t =>
      t.prg.want = [] ∧ t.ctrAt prgPage .prgMissing 0 = min (s.ctrAt prgPage .prgMissing 0 + 1) (2 ^ 32 - 1) ∧
        (1, 6) ∈ t.prg.diverged ∧ s.RegsBut t [] ∧ s.Only t noted) ∧
  (∀ (s : State) (h : HoldReq), s.prg.holds = [h] → h.at_ + s.rf prgPage Reg.prgTmo 31 24 * 1000 < s.now →
    (s.core h.core).fctl = none →
    Answers .outcomeHoldTimeout s fun t => t.prg = { s.prg with holds := [] } ∧ s.Only t [.prg]) ∧
  (∀ (s : State) (h : HoldReq) (target rq : Nat), s.prg.holds = [h] →
    h.at_ + s.rf prgPage Reg.prgTmo 31 24 * 1000 < s.now → (s.core h.core).fctl = some (target, rq) → s.standby = true →
    s.paired = true →
    Answers .outcomeHoldTimeout s fun t =>
      t.prg.holds = [] ∧ (t.core h.core).fctl = none ∧ (t.core h.core).fbusy = true ∧ (5, 10) ∈ t.prg.diverged) ∧
  (∀ s : State, (∀ h ∈ s.prg.holds, s.now ≤ h.at_ + s.rf prgPage Reg.prgTmo 31 24 * 1000) →
    Answers .outcomeHoldTimeout s fun t => t = s) ∧
  (∀ (s : State) (a : Nat) (g : GatePkt), s.prg.rx = [(a, .digest g.key g.idx g.dig)] → s.paired = true →
    s.prg.gate = [g] →
    Answers .digestRx s fun t =>
      t.prg.gate = [] ∧ t.prg.rx = [] ∧ t.ctrAt prgPage .prgMatched 0 = (s.ctrAt prgPage .prgMatched 0 + 1) % 2 ^ 64 ∧
        (t.laneSt g.frame.lane).staged g.frame.cls = (s.laneSt g.frame.lane).staged g.frame.cls ++
          (if g.sent then [] else [(g.frame, s.now)]) ∧
        s.RegsBut t [] ∧ s.Only t (.esc :: noted)) ∧
  (∀ (s : State) (a d : Nat) (g : GatePkt), s.prg.rx = [(a, .digest g.key g.idx d)] → s.paired = true →
    s.prg.gate = [g] → d ≠ g.dig → s.ringOn prgPage 0 = false →
    Answers .digestRx s fun t =>
      t.prg.gate = [] ∧ t.ctrAt prgPage .prgDisagree 0 = min (s.ctrAt prgPage .prgDisagree 0 + 1) (2 ^ 32 - 1) ∧
        (s.standby = true → (t.laneSt g.frame.lane).staged g.frame.cls = (s.laneSt g.frame.lane).staged g.frame.cls ∧
          (t.laneSt g.frame.lane).flying g.frame.cls = (s.laneSt g.frame.lane).flying g.frame.cls - g.frame.len) ∧
        (s.standby = false → g.sent = false → (t.laneSt g.frame.lane).staged g.frame.cls =
          (s.laneSt g.frame.lane).staged g.frame.cls ++ [(g.frame, s.now)]) ∧ t.prg.clean = 0) ∧
  (∀ (s : State) (a i d : Nat) (g : GatePkt), s.prg.rx = [(a, .digest g.key i d)] → s.paired = true → s.standby = true →
    s.prg.gate = [g] → g.idx < i →
    Answers .digestRx s fun t =>
      t.prg.gate = [] ∧ t.gateTop g.key = max (s.gateTop g.key) (i + 1) ∧
        t.ctrAt prgPage .prgStbyExtra 0 = min (s.ctrAt prgPage .prgStbyExtra 0 + 1) (2 ^ 32 - 1) ∧
        (t.laneSt g.frame.lane).staged g.frame.cls = (s.laneSt g.frame.lane).staged g.frame.cls) ∧
  (∀ (s : State) (a k i d : Nat), s.prg.rx = [(a, .digest k i d)] → s.paired = true → s.prg.gate = [] →
    s.comparing = true → s.gateMine k ≤ i →
    Answers .digestRx s fun t => t.prg.digs = s.prg.digs ++ [(k, i, d)] ∧ t.esc = s.esc ∧ s.Only t [.prg]) ∧
  (∀ (s : State) (g : GatePkt), s.standby = false → s.prg.gate = [g] → g.at_ + s.rf prgPage Reg.prgGate 10 0 ≤ s.now →
    Answers .gateWaitExpire s fun t =>
      t.prg.gate = [] ∧ t.ctrAt prgPage .prgStbyNone 0 = min (s.ctrAt prgPage .prgStbyNone 0 + 1) (2 ^ 32 - 1) ∧
        (t.laneSt g.frame.lane).staged g.frame.cls = (s.laneSt g.frame.lane).staged g.frame.cls ++
          (if g.sent then [] else [(g.frame, s.now)]) ∧ s.RegsBut t [] ∧ s.Only t (.esc :: noted)) ∧
  (∀ (s : State) (g : GatePkt), s.standby = true → s.prg.gate = [g] →
    g.at_ + s.rf prgPage Reg.prgGate 23 16 * 1000 ≤ s.now →
    Answers .gateHoldExpire s fun t =>
      t.prg.gate = [] ∧ t.ctrAt prgPage .prgStbyExtra 0 = min (s.ctrAt prgPage .prgStbyExtra 0 + 1) (2 ^ 32 - 1) ∧
        (t.laneSt g.frame.lane).staged g.frame.cls = (s.laneSt g.frame.lane).staged g.frame.cls ∧ s.RegsBut t [] ∧
        s.Only t (.esc :: noted)) ∧
  (∀ s : State, (s.standby = true → Answers .gateWaitExpire s fun t => t = s) ∧
    (s.standby = false → Answers .gateHoldExpire s fun t => t = s))

/-- R597, R613, R623, R625 to R627, R629: swaps and joins. -/
def Obligations.SwapAndJoin : Prop :=
  (∀ (s : State) (src : Src), s.Opens src prgPage Reg.prgSwapCtl → s.swapArmed = false → s.standby = false →
    1 ≤ s.ahead (s.rd prgPage Reg.prgSwap).toNat → s.ahead (s.rd prgPage Reg.prgSwap).toNat < 2 ^ 31 →
    2 ≤ s.ahead (s.rd prgPage Reg.prgSwap).toNat ∨ s.prgState = 4 →
    Answers (.swapArm src) s fun t =>
      t.swapArmed = true ∧ t.prg.swapAt = some (s.rd prgPage Reg.prgSwap).toNat ∧
        t.prg.tx = s.prg.tx ++ [.swap (s.rd prgPage Reg.prgSwap).toNat] ∧ t.prgState = s.prgState ∧
        s.RegsBut t [(prgPage, Reg.prgSwapRes), (prgPage, Reg.prgSwapCtl)] ∧ s.Only t [.reg, .prg]) ∧
  (∀ (s : State) (src : Src), s.Opens src prgPage Reg.prgSwapCtl → s.swapArmed = false →
    s.ahead (s.rd prgPage Reg.prgSwap).toNat = 0 ∨ 2 ^ 31 ≤ s.ahead (s.rd prgPage Reg.prgSwap).toNat →
    Answers (.swapArm src) s fun t =>
      t.rf prgPage Reg.prgSwapRes 2 0 = 3 ∧ t.rf prgPage Reg.prgSwapRes 15 8 = 1 ∧ t.prg.swapAt = s.prg.swapAt) ∧
  (∀ (s : State) (src : Src), s.Opens src prgPage Reg.prgSwapCtl → s.swapArmed = false →
    s.standby = true ∨ (s.ahead (s.rd prgPage Reg.prgSwap).toNat = 1 ∧ s.prgState ≠ 4) →
    1 ≤ s.ahead (s.rd prgPage Reg.prgSwap).toNat → s.ahead (s.rd prgPage Reg.prgSwap).toNat < 2 ^ 31 →
    Answers (.swapArm src) s fun t =>
      t.rf prgPage Reg.prgSwapRes 2 0 = 4 ∧ t.rf prgPage Reg.prgSwapRes 15 8 = 3 ∧ t.prg.swapAt = s.prg.swapAt) ∧
  (∀ s : State, s.stepDue 5 = true → s.prg.swapAt = some s.wale → s.prgState = 4 ∨ s.prgState = 5 → s.standby = false →
    s.prg.open_ = none → s.prg.fwd = [] →
    Answers .swapApply s fun t =>
      t.clk.phase = 5 ∧ t.prgState = s.prgState ∧ t.standby = true ∧ t.prg.swapAt = none ∧ t.prg.followFrom = s.wale ∧
        t.prg.reached = some s.wale ∧ (s.swapArmed = true → t.rf prgPage Reg.prgSwapRes 2 0 = 2)) ∧
  (∀ s : State, s.stepDue 5 = true → s.prg.swapAt = some s.wale → s.prgState = 4 ∨ s.prgState = 5 → s.standby = true →
    Answers .swapApply s fun t =>
      t.clk.phase = 5 ∧ t.prgState = s.prgState ∧ t.standby = false ∧ t.prg.swapAt = none ∧ t.prg.held = [] ∧ t.prg.want = []) ∧
  (∀ s : State, s.prg.swapAt ≠ some s.wale ∨ (s.prgState ≠ 4 ∧ s.prgState ≠ 5) → Answers .swapApply s fun t => t = s) ∧
  (∀ (s : State) (w : Nat), s.prg.autoSwap = some w → s.layActive = true → s.prgState = 4 → s.prg.swapAt = none →
    waleLt s.wale w = true →
    Answers .autoSwap s fun t =>
      t.prg = { s.prg with autoSwap := none, swapAt := some w, tx := s.prg.tx ++ [.swap w] } ∧ s.Only t [.prg]) ∧
  (∀ s : State, s.prg.autoSwap = none → Answers .autoSwap s fun t => t = s) ∧
  (∀ (s : State) (src : Src) (c : Nat), s.Opens src prgPage Reg.prgJoin → s.standby = false → s.prgState = 1 →
    s.regionsOk = true → c < 65536 →
    Answers (.joinGo src c) s fun t =>
      t.prgState = 2 ∧ t.standby = false ∧ t.prg.copyAt = some 0 ∧ t.rf prgPage Reg.prgJoin 31 16 = c ∧
        t.rd64 prgPage Reg.prgCopy Reg.prgCopyHi = 0 ∧ t.mem = s.mem ∧ t.tbl = s.tbl) ∧
  (∀ (s : State) (src : Src) (c : Nat), s.Opens src prgPage Reg.prgJoin → c < 65536 →
    s.standby = true ∨ s.prgState ≠ 1 ∨ s.regionsOk = false →
    Answers (.joinGo src c) s fun t =>
      t.prgState = s.prgState ∧ t.prg.copyAt = s.prg.copyAt ∧ s.RegsBut t [(prgPage, Reg.prgJoin)] ∧ s.Only t noted) ∧
  (∀ s : State, s.layActive = true → s.prgState = 2 →
    Answers .copyComplete s fun t =>
      t.prgState = 3 ∧ t.standby = false ∧ t.prg.copyAt = none ∧ t.prg.followFrom = s.joinAfter ∧
        (t.rd prgPage Reg.prgJoinWale).toNat = s.joinAfter ∧ .mxf ∈ t.prg.captures ∧ .lfw ∈ t.prg.captures ∧
        (∀ m, m ∈ s.copyMsgs → m ∈ t.prg.tx) ∧ .joinWale s.joinAfter ∈ t.prg.tx ∧ t.mem = s.mem) ∧
  (∀ s : State, s.layActive = false ∨ s.prgState ≠ 2 → Answers .copyComplete s fun t => t = s) ∧
  (∀ (s : State) (u : Capture), s.layActive = true → s.capturePoint u = true →
    Answers (.capturePoint u) s fun t =>
      t.prg.tx = s.prg.tx ++ [.capture u (s.captured u)] ∧ t.prg.captures = s.prg.captures.filter (· ≠ u) ∧
        s.Only t [.prg]) ∧
  (∀ (s : State) (a : Nat) (i : NMap MxfIn) (o : NMap MxfOut) (f : NMap (Option Nat)), s.standby = true →
    s.prg.rx = [(a, .capture .mxf (.mxf i o f))] →
    Answers (.capturePoint .mxf) s fun t =>
      t.mxf = { s.mxf with ins := i, outs := o, factor := f } ∧ t.prg.rx = [] ∧
        t.prg.captures = s.prg.captures.filter (· ≠ .mxf) ∧ s.Only t [.mxf, .prg]) ∧
  (∀ (s : State) (u : Capture), s.standby = false → s.layActive = false ∨ s.capturePoint u = false →
    Answers (.capturePoint u) s fun t => t = s) ∧
  (∀ s : State, s.standby = true → s.prgState = 3 → s.prg.captures = [] → waleGe s.wale s.prg.followFrom = true →
    s.rf prgPage Reg.prgJoin 31 16 ≤ (s.wale + 2 ^ 32 - s.prg.followFrom) % 2 ^ 32 → 400 ≤ s.prg.clean →
    Answers .prgInStep s fun t =>
      t.prgState = 4 ∧ t.standby = true ∧ .state 4 0 ∈ t.prg.tx ∧
        (∀ p, p < 4 → t.rb (lnuPage p) Reg.lnuTxCtl 1 = false)) ∧
  (∀ s : State, s.standby = true → s.prgState = 5 → s.prg.secBad = false →
    2 ≤ (s.wale + 2 ^ 32 - s.prg.lagAt) % 2 ^ 32 →
    Answers .prgInStep s fun t => t.prgState = 4 ∧ t.standby = true ∧ .state 4 0 ∈ t.prg.tx) ∧
  (∀ s : State, s.standby = false ∨ (s.prgState = 3 ∧ (s.prg.captures ≠ [] ∨ s.prg.clean < 400)) ∨
      (s.prgState = 5 ∧ s.prg.secBad = true) →
    Answers .prgInStep s fun t => t = s) ∧
  (∀ (s : State) (src : Src) (e : Nat) (w0 w1 w2 w3 : Word), s.Opens src prgPage Reg.tblData → s.paired = false →
    (bit w3 0 = true → w0.toNat % 4096 = 0) →
    Answers (.prgRegionWriteback src e [w0, w1, w2, w3]) s fun t =>
      t.tw prgPage 0 0 e 0 = w0 ∧ t.tw prgPage 0 0 e 1 = w1 ∧ t.tw prgPage 0 0 e 2 = w2 ∧
        t.tf prgPage 0 0 e 3 31 0 = fld w3 0 0 ∧
        (∀ k, k ≠ tkey prgPage 0 0 e → NMap.get tblDefault t.tbl k = NMap.get tblDefault s.tbl k) ∧ s.Only t [.tbl]) ∧
  (∀ (s : State) (src : Src) (e : Nat) (w0 w1 w2 w3 : Word), s.Opens src prgPage Reg.tblData → s.paired = false →
    bit w3 0 = true → w0.toNat % 4096 ≠ 0 →
    Answers (.prgRegionWriteback src e [w0, w1, w2, w3]) s fun t => t.tbl = s.tbl ∧ s.RegsBut t [] ∧ s.Only t noted)

/-- R633 to R635, R638 to R640, R664, R694, R696, R697, R699 to R701, R703: power, reset and boot. -/
def Obligations.PowerAndBoot : Prop :=
  (∀ s : State,
    (Answers .porAssert s fun t => t = { State.reset with pending := s.pending, free := s.free, qz := t.qz } ∧
      t.qz.por = true ∧ t.qz.mainOk = false ∧ t.qz.nor = s.qz.nor ∧ t.qz.ownerHash = s.qz.ownerHash ∧
      t.qz.svnFw = s.qz.svnFw ∧ t.qz.present = s.qz.present ∧ t.qz.perst = s.qz.perst ∧ t.qz.refclk = s.qz.refclk ∧
      t.qz.log = [] ∧ t.qz.plat = none) ∧
    (Answers .islandUndervolt s fun t => Answers .porAssert s fun u => t = u)) ∧
  (∀ (s : State) (x : Nat), s.qz.por = true →
    Answers (.porRelease x) s fun t =>
      t.qz = { s.qz with por := false } ∧ (t.rd 0 Reg.sysStraps).toNat = x % 8 ∧ s.RegsBut t [(0, Reg.sysStraps)] ∧
        s.Only t [.reg, .qz]) ∧
  (∀ (s : State) (x : Nat), s.qz.por = false → Answers (.porRelease x) s fun t => t = s) ∧
  (∀ s : State, Answers (.perst true) s fun t =>
    t.qz = { s.qz with perst := true } ∧ t.vfEnabled = [] ∧ t.stage = [] ∧ t.latch = [] ∧
      (∀ p o, 4 ≤ p → p ≤ 7 → o < 65536 → t.rd p o = State.reset.rd p o) ∧
      (∀ p o, p < 4 ∨ 7 < p → o < 65536 → t.rd p o = s.rd p o) ∧ s.Only t [.qz, .vfEnabled, .stage, .latch, .reg]) ∧
  (∀ s : State, Answers (.perst false) s fun t => t.qz = { s.qz with perst := false } ∧ s.Only t [.qz]) ∧
  (∀ (s : State) (ea eb : Bool) (bank period : Nat), s.qz.por = false → s.bootStage = 0 → s.qz.restart = false →
    s.choose (ea, eb) = some bank →
    Answers (.slathBoot ea eb period) s fun t =>
      t.bootStage = 1 ∧ t.rf 0 Reg.sysBoot 0 0 = bank ∧ t.rf 0 Reg.sysBoot 1 1 = (if bank = s.preferred then 0 else 1) ∧
        t.qz.code = drBytes (s.bankImage bank) 1 ∧ t.qz.bootSeq = drSeq (s.bankImage bank) ∧ t.qz.started = true ∧
        (s.qz.started = false → t.rf qzPage Reg.qzmWdt 31 16 = min 2000 period ∧ t.qz.aliasKey.isSome = true) ∧
        t.rb qzPage Reg.qzmWdt 0 = true ∧ t.qz.kick = s.clk.tru ∧ t.ready qzPage = true ∧ t.qz.nor = s.qz.nor ∧
        t.qz.mainOk = s.qz.mainOk) ∧
  (∀ (s : State) (ea eb : Bool) (period : Nat), s.qz.por = true ∨ s.bootStage ≠ 0 ∨ s.choose (ea, eb) = none →
    Answers (.slathBoot ea eb period) s fun t => t = s) ∧
  (∀ (s : State) (ea eb : Bool), s.qz.por = false → s.bootStage = 0 → s.choose (ea, eb) = none → s.qz.mb = none →
    Answers (.recovery ea eb) s fun t =>
      t.bootStage = 2 ∧ t.qz.restart = false ∧ t.ready qzPage = true ∧
        (s.qz.down = false → s.mainOn = false → s.qz.refclk = true → t.qz.mainOk = true ∧ t.qz.pwrEn = true) ∧
        (s.qz.down = false → s.mainOn = false → s.qz.refclk = false → t.qz.mainOk = false ∧ t.qz.seq = 2) ∧
        (s.qz.down = true → t.qz.mainOk = s.qz.mainOk)) ∧
  (∀ (s : State) (ea eb : Bool), s.qz.por = true ∨ s.bootStage ≠ 0 ∨ (s.choose (ea, eb)).isSome = true →
    Answers (.recovery ea eb) s fun t => t = s) ∧
  (∀ (s : State) (k : Option Nat), s.fwRuns = true → s.qz.down = false → s.mainOn = false →
    Answers (.mainRelease k) s fun t =>
      t.qz.pwrEn = true ∧ (s.qz.refclk = true → k = none → t.qz.mainOk = true ∧ t.qz.seq = 0) ∧
        (s.qz.refclk = false → t.qz.mainOk = false ∧ t.qz.seq = 2) ∧
        (∀ n, s.qz.refclk = true → k = some n → t.qz.mainOk = false ∧ t.qz.seq = n) ∧ t.clk = s.clk) ∧
  (∀ (s : State) (k : Option Nat), s.fwRuns = false ∨ s.qz.down = true ∨ s.mainOn = true →
    Answers (.mainRelease k) s fun t => t = s) ∧
  (∀ s : State, s.qz.seq ≠ 0 → Answers .mainSeqStepFail s fun t => s.MainDown t) ∧
  (∀ s : State, s.qz.seq = 0 → Answers .mainSeqStepFail s fun t => t = s) ∧
  (∀ s : State, s.mainOn = true → Answers .boardFault s fun t => s.MainDown t ∧ t.bootStage = s.bootStage) ∧
  (∀ s : State, s.mainOn = false → Answers .boardFault s fun t => t = s) ∧
  (∀ s : State, s.qz.mainOk = true → Answers .refclkLoss s fun t => s.MainDown t ∧ t.qz.refclk = false) ∧
  (∀ s : State, s.qz.mainOk = false →
    Answers .refclkLoss s fun t => t.qz = { s.qz with refclk := false } ∧ s.Only t [.qz]) ∧
  (∀ s : State, s.qz.seq = 2 → s.qz.stuck = none →
    Answers .refclkPresent s fun t => t.qz.refclk = true ∧ t.qz.mainOk = true ∧ t.qz.seq = 0) ∧
  (∀ s : State, s.qz.seq ≠ 2 →
    Answers .refclkPresent s fun t => t.qz = { s.qz with refclk := true } ∧ s.Only t [.qz])

/-- R502, R567, R647 to R654, R657: the platform record and the identity memories. -/
def Obligations.PlatformAndIdentity : Prop :=
  (∀ (s : State) (pub : List Byte), s.fwRuns = true → s.qz.platRead = false → s.platCause s.platBytes = 0 →
    s.platSigned pub s.platBytes = true → (∀ k, k < 12 → platFitted s.platBytes k = s.qz.present.contains k) →
    Answers (.platformRead pub) s fun t =>
      t.qz.plat = some s.platBytes ∧ t.qz.platRead = true ∧ t.rb 0 Reg.sysIdStatus 13 = true ∧
        t.qz.m = s.qz.m.set 1
          (Config.sm3 (s.qz.m.getD 1 [] ++ Config.sm3 (s.platBytes.take (leAt s.platBytes 6 2)))) ∧
        (∀ k, k < 32 → s.rb (escPage k) (Reg.escCeil + 4 * (k % 4)) 31 = false →
          t.rd (escPage k) (Reg.escCeil + 4 * (k % 4)) =
            BitVec.ofNat 32 ((if platFitted s.platBytes (k / 4) then leAt s.platBytes (48 + 4 * k) 4 else 0) + 2 ^ 31)) ∧
        (∀ k, k < 32 → s.rb (escPage k) (Reg.escCeil + 4 * (k % 4)) 31 = true →
          t.rd (escPage k) (Reg.escCeil + 4 * (k % 4)) = s.rd (escPage k) (Reg.escCeil + 4 * (k % 4))) ∧
        (∀ k, k < 32 → t.tw tmuPage 0 0 k 0 = BitVec.ofNat 32 (leAt s.platBytes (176 + 4 * k) 4)) ∧
        s.Only t ([.tbl, .esc] ++ noted)) ∧
  (∀ (s : State) (pub : List Byte), s.fwRuns = true → s.qz.platRead = false →
    ¬ (s.platCause s.platBytes = 0 ∧ s.platSigned pub s.platBytes = true ∧
      ∀ k, k < 12 → platFitted s.platBytes k = s.qz.present.contains k) →
    Answers (.platformRead pub) s fun t =>
      t.qz.plat = s.qz.plat ∧ t.qz.platRead = true ∧ t.Told qzPage .qzmPlatformBad ∧
        t.rd 0 Reg.sysIdStatus = s.rd 0 Reg.sysIdStatus ∧
        (∀ k, k < 32 → s.rb (escPage k) (Reg.escCeil + 4 * (k % 4)) 31 = false →
          t.rd (escPage k) (Reg.escCeil + 4 * (k % 4)) = 0x80000000) ∧
        s.Only t (.esc :: noted)) ∧
  (∀ (s : State) (pub : List Byte), s.fwRuns = false ∨ s.qz.platRead = true →
    Answers (.platformRead pub) s fun t => t = s) ∧
  (∀ (plat : List Byte) (pos : Nat) (b : List Byte), dimmCause plat pos b = 0 ↔
    leAt b 510 2 = crc16 (b.take 510) ∧ Config.spdRdimm b = some (leAt plat 46 2) ∧ pos / 2 < fb plat 44 ∧
      pos % 2 < fb plat 45) ∧
  (∀ (plat b : List Byte), sfpCause plat b = 0 ↔
    fb b 0 = 3 ∧ fb b 63 = sum8 (b.take 63) ∧ fb b 95 = sum8 (slice b 64 31) ∧ 25 ≤ fb b 12 ∧
      permitted plat 2 (slice b 37 3) (slice b 40 16) = true) ∧
  (∀ (plat b : List Byte) (breakout : Bool), moduleCause plat breakout b = 0 ↔
    (fb b 0 = 0x18 ∨ fb b 0 = 0x19) ∧ fb b 222 = sum8 (slice b 128 94) ∧
      (if breakout then (Config.cmisHost b).2 else (Config.cmisHost b).1) = true ∧
      permitted plat 1 (slice b 145 3) (slice b 148 16) = true) ∧
  (∀ (s : State) (plat b : List Byte) (pos : Nat), s.fwRuns = true → s.qz.plat = some plat → dimmCause plat pos b = 0 →
    Answers (.idRead 1 pos (some b)) s fun t =>
      pos ∈ t.qz.dimms ∧ (∀ i, i ∈ t.qz.dimms ↔ i = pos ∨ i ∈ s.qz.dimms) ∧ t.Told qzPage .qzmIdOk ∧
        NMap.get (fun _ => []) t.qz.spd pos = Config.sm3 (slice b 512 128) ∧
        (∀ i, i ≠ pos → NMap.get (fun _ => []) t.qz.spd i = NMap.get (fun _ => []) s.qz.spd i) ∧
        (s.dimmsOk plat = true ∨ t.dimmsOk plat = false → t.qz.m = s.qz.m) ∧
        (s.dimmsOk plat = false → t.dimmsOk plat = true →
          t.qz.m = (fittedDimms plat).foldl
            (fun m i => m.set 3 (Config.sm3 (m.getD 3 [] ++ NMap.get (fun _ => []) t.qz.spd i))) s.qz.m) ∧
        ((∃ i, i < 2 * fb plat 44 ∧ i % 2 < fb plat 45 ∧ i ≠ pos ∧ i ∉ s.qz.dimms) →
          t.rd drcPage Reg.drcGeom = s.rd drcPage Reg.drcGeom) ∧
        ((∀ i, i < 2 * fb plat 44 → i % 2 < fb plat 45 → i = pos ∨ i ∈ s.qz.dimms) → s.qz.mainOk = true →
          s.rb drcPage Reg.drcGeom 8 = false → s.enabled drcPage = false → fb plat 45 ≤ 2 →
          t.rb drcPage Reg.drcGeom 8 = true ∧
            t.rf drcPage Reg.drcGeom 1 0 = (if fb plat 44 = 4 then 0 else if fb plat 44 = 8 then 1 else 2)) ∧
        s.RegsBut t [(0, Reg.sysIdStatus), (drcPage, Reg.drcGeom), (drcPage, Reg.pageReady)] ∧ s.Only t noted) ∧
  (∀ (s : State) (plat b : List Byte) (kind pos : Nat), s.fwRuns = true → s.qz.plat = some plat →
    kind = 2 ∨ kind = 3 → cageOf kind pos < 12 → s.qz.present.contains (cageOf kind pos) = true →
    (kind = 2 → moduleCause plat (decide (s.raf (0x010 + pos) Reg.ethPortCfg 1 0 = 2)) b = 0) →
    (kind = 3 → sfpCause plat b = 0) →
    Answers (.idRead kind pos (some b)) s fun t =>
      t.modOk (cageOf kind pos) = true ∧ (∀ c, c ≠ cageOf kind pos → t.modOk c = s.modOk c) ∧
        t.txOff (cageOf kind pos) = false ∧ t.Told qzPage .qzmIdOk ∧
        t.qz.m = s.qz.m.set 4 (Config.sm3 (s.qz.m.getD 4 [] ++ Config.sm3 b)) ∧
        s.RegsBut t [(0, Reg.sysIdStatus), (cagePage (cageOf kind pos), Reg.pageReady)] ∧ s.Only t noted) ∧
  (∀ (s : State) (plat b : List Byte) (kind pos : Nat), s.fwRuns = true → s.qz.plat = some plat →
    (kind = 1 ∧ dimmCause plat pos b ≠ 0) ∨
      ((kind = 2 ∨ kind = 3) ∧ s.qz.present.contains (cageOf kind pos) = true ∧
        (kind = 2 → moduleCause plat (decide (s.raf (0x010 + pos) Reg.ethPortCfg 1 0 = 2)) b ≠ 0) ∧
        (kind = 3 → sfpCause plat b ≠ 0)) →
    Answers (.idRead kind pos (some b)) s fun t =>
      t.Told qzPage .qzmIdFail ∧ t.qz.dimms = s.qz.dimms ∧ t.qz.m = s.qz.m ∧ s.RegsBut t [] ∧ s.Only t noted) ∧
  (∀ (s : State) (plat : List Byte) (kind pos : Nat), s.fwRuns = true → s.qz.plat = some plat →
    (kind = 1 ∧ pos / 2 < fb plat 44 ∧ pos % 2 < fb plat 45) ∨ (kind ≠ 1 ∧ platFitted plat (cageOf kind pos) = true) →
    Answers (.idRead kind pos none) s fun t =>
      t.Told qzPage .qzmIdFail ∧ t.qz.dimms = s.qz.dimms ∧ s.RegsBut t [] ∧ s.Only t noted) ∧
  (∀ (s : State) (kind pos : Nat) (mem : Option (List Byte)), s.fwRuns = false ∨ s.qz.plat = none →
    Answers (.idRead kind pos mem) s (fun t => t = s) ∧ Answers (.idReadTimeout kind pos) s fun t => t = s) ∧
  (∀ (s : State) (kind pos : Nat), s.fwRuns = true → s.qz.plat.isSome = true →
    (s.qz.retry.contains (kind, pos) = false →
      Answers (.idReadTimeout kind pos) s fun t =>
        t = { s with qz := { s.qz with retry := s.qz.retry ++ [(kind, pos)] } }) ∧
    (s.qz.retry.contains (kind, pos) = true →
      Answers (.idReadTimeout kind pos) s fun t =>
        t.Told qzPage .qzmIdFail ∧ (kind, pos) ∉ t.qz.retry ∧ t.qz.dimms = s.qz.dimms ∧ s.RegsBut t [] ∧
          s.Only t noted)) ∧
  (∀ (s : State) (kind pos : Nat), cageOf kind pos < 12 → s.qz.present.contains (cageOf kind pos) = true →
    Answers (.moduleRemoved kind pos) s fun t =>
      t.modOk (cageOf kind pos) = false ∧ (∀ c, c ≠ cageOf kind pos → t.modOk c = s.modOk c) ∧
        cageOf kind pos ∉ t.qz.present ∧ t.txOff (cageOf kind pos) = true ∧
        (s.modOk (cageOf kind pos) = true → t.ready (cagePage (cageOf kind pos)) = false) ∧
        (s.modOk (cageOf kind pos) = true → s.ready (cagePage (cageOf kind pos)) = true →
          t.Told (cagePage (cageOf kind pos)) .pageReadyLost) ∧
        (s.fwRuns = true → t.Told qzPage .qzmModuleRemoved) ∧
        s.RegsBut t [(0, Reg.sysIdStatus), (cagePage (cageOf kind pos), Reg.pageReady)] ∧ s.Only t noted) ∧
  (∀ (s : State) (kind pos : Nat),
    (s.qz.present.contains (cageOf kind pos) = false → Answers (.moduleRemoved kind pos) s fun t => t = s) ∧
    (s.qz.present.contains (cageOf kind pos) = true → Answers (.moduleInserted kind pos) s fun t => t = s) ∧
    (s.qz.present.contains (cageOf kind pos) = false →
      Answers (.moduleInserted kind pos) s fun t =>
        cageOf kind pos ∈ t.qz.present ∧ (kind, pos) ∉ t.qz.retry ∧ t.modOk (cageOf kind pos) = s.modOk (cageOf kind pos) ∧
          s.Only t [.qz]))

/-- R529, R595, R638, R641, R664 to R667: the watchdog. -/
def Obligations.Watchdog : Prop :=
  (∀ (s : State) (right : Bool), s.rb qzPage Reg.qzmWdt 0 = false →
    Answers (.wdtKick right) s (fun t => t = s) ∧ Answers .wdtExpire s fun t => t = s) ∧
  (∀ s : State, s.rb qzPage Reg.qzmWdt 0 = true →
    (s.qz.half = false → Answers (.wdtKick true) s fun t => t = { s with qz := { s.qz with half := true } }) ∧
    (s.qz.half = true → Answers (.wdtKick true) s fun t =>
      t = { s with qz := { s.qz with kick := s.clk.tru, half := false } })) ∧
  (∀ s : State, s.bootStage ≠ 1 ∨ s.clk.tru < s.qz.kick + s.rf qzPage Reg.qzmWdt 31 16 * 1000000 →
    Answers .wdtExpire s fun t => t = s) ∧
  (∀ (s : State) (c : Instr), s.rb qzPage Reg.qzmWdt 0 = true →
    c = .wdtKick false ∨
      (c = .wdtExpire ∧ s.bootStage = 1 ∧ s.qz.kick + s.rf qzPage Reg.qzmWdt 31 16 * 1000000 ≤ s.clk.tru) →
    Answers c s fun t =>
      t.bootStage = 0 ∧ t.fwRuns = false ∧ t.qz.restart = true ∧ t.qz.kick = s.clk.tru ∧ t.qz.half = false ∧
        t.ready qzPage = false ∧ t.rb qzPage Reg.qzmWdt 0 = true ∧ t.rb qzPage Reg.qzmWdt 1 = true ∧
        t.rf qzPage Reg.qzmWdt 31 16 = s.rf qzPage Reg.qzmWdt 31 16 ∧ t.pairAlive = false ∧
        t.Told qzPage .qzmWdtExpired ∧
        t.ctrAt qzPage .qzmWdtExpiries 0 = min (s.ctrAt qzPage .qzmWdtExpiries 0 + 1) (2 ^ 32 - 1) ∧
        (∀ p, p < 4 → t.rb (lnuPage p) Reg.lnuTxCtl 2 = true ∧ t.rb (lnuPage p) Reg.lnuStatus 6 = true ∧
          t.rb (lnuPage p) Reg.lnuTxCtl 0 = s.rb (lnuPage p) Reg.lnuTxCtl 0 ∧
          t.rb (lnuPage p) Reg.lnuTxCtl 1 = s.rb (lnuPage p) Reg.lnuTxCtl 1) ∧
        t.qz.mainOk = s.qz.mainOk ∧ t.qz.mb = s.qz.mb ∧ t.qz.m = s.qz.m ∧ t.qz.aliasKey = s.qz.aliasKey ∧
        (s.qz.mb = none → t.qz.nor = s.qz.nor) ∧
        (∀ m a, s.qz.mb = some m → (s.rd qzPage Reg.qzmReqBuf).toNat % 65536 = 0x0020 →
          bankBase (1 - s.rf 0 Reg.sysBoot 0 0) ≤ a → a < bankBase (1 - s.rf 0 Reg.sysBoot 0 0) + bankSize →
          NMap.get norErased t.qz.nor a = 0xFF) ∧
        s.RegsBut t [(qzPage, Reg.qzmWdt), (0, Reg.sysBoot), (qzPage, Reg.qzmMbStatus), (qzPage, Reg.pageReady),
          (lnuPage 0, Reg.lnuTxCtl), (lnuPage 1, Reg.lnuTxCtl), (lnuPage 2, Reg.lnuTxCtl), (lnuPage 3, Reg.lnuTxCtl),
          (lnuPage 0, Reg.lnuStatus), (lnuPage 1, Reg.lnuStatus), (lnuPage 2, Reg.lnuStatus),
          (lnuPage 3, Reg.lnuStatus)] ∧ s.Only t noted) ∧
  (∀ (s : State) (ea eb : Bool) (bank period : Nat), s.qz.por = false → s.bootStage = 0 → s.qz.restart = true →
    s.qz.started = true → s.choose (ea, eb) = some bank →
    Answers (.wdtRestart ea eb period) s fun t =>
      t.bootStage = 1 ∧ t.qz.restart = false ∧ t.qz.mb = none ∧ t.rf 0 Reg.sysBoot 0 0 = bank ∧
        t.qz.code = drBytes (s.bankImage bank) 1 ∧ t.qz.m = s.qz.m ∧ t.qz.nor = s.qz.nor ∧ t.ready qzPage = true ∧
        (Config.sm3 (slice (s.bankImage bank) 0 448) = s.qz.hdr → t.qz.aliasKey = s.qz.aliasKey) ∧
        (Config.sm3 (slice (s.bankImage bank) 0 448) ≠ s.qz.hdr → t.qz.aliasKey = none) ∧
        (∀ tag len, s.qz.mb = some (tag, len) →
          t.rf qzPage Reg.qzmMbRes 15 8 = 8 ∧ t.rf qzPage Reg.qzmMbRes 7 0 = tag % 256 ∧
            t.rf qzPage Reg.qzmMbStatus 0 0 = 0) ∧
        t.rb qzPage Reg.qzmWdt 0 = true ∧ t.rb qzPage Reg.qzmWdt 1 = false ∧
        t.rf qzPage Reg.qzmWdt 31 16 = min (s.rf qzPage Reg.qzmWdt 31 16) period ∧ t.qz.kick = s.clk.tru ∧
        (s.enabled prgPage = true → s.rb prgPage Reg.prgCtl 0 = true → s.prg.fatal = false → t.pairAlive = true) ∧ t.Told qzPage .qzmWdtRestart ∧
        (∀ p, p < 4 → t.rb (lnuPage p) Reg.lnuTxCtl 2 = s.rb (lnuPage p) Reg.lnuTxCtl 2) ∧ s.Only t noted) ∧
  (∀ (s : State) (ea eb : Bool) (period : Nat),
    s.qz.por = true ∨ s.bootStage ≠ 0 ∨ s.qz.restart = false ∨ s.choose (ea, eb) = none →
    Answers (.wdtRestart ea eb period) s fun t => t = s)

/-- R663, R669 to R675, R688, R698: sensors, regulators and the mirror. -/
def Obligations.SensorsAndMirror : Prop :=
  (∀ (s : State) (n : Nat) (v : Int), s.qz.por = false → NMap.wf (fun _ => none) s.qz.temp →
    ¬ (920 ≤ v ∧ 2 ≤ NMap.get (fun _ => 0) s.qz.hot n ∧ s.qz.tripped = false) →
    Answers (.tempSample n v) s fun t =>
      NMap.get (fun _ => none) t.qz.temp n = some v ∧
        (∀ k, k ≠ n → NMap.get (fun _ => none) t.qz.temp k = NMap.get (fun _ => none) s.qz.temp k) ∧
        NMap.get (fun _ => 0) t.qz.hot n = (if 920 ≤ v then NMap.get (fun _ => 0) s.qz.hot n + 1 else 0) ∧
        (∃ k w, NMap.get (fun _ => none) t.qz.temp k = some w ∧
          (∀ j x, NMap.get (fun _ => none) t.qz.temp j = some x → x ≤ w) ∧
          t.rd qzPage Reg.qzmTempMax = BitVec.ofNat 32 ((BitVec.ofInt 11 w).toNat + k * 2 ^ 16)) ∧
        (∀ l thr, s.fwRuns = true → (l = 0 ∧ thr = (s.tempThr n).1) ∨ (l = 1 ∧ thr = (s.tempThr n).2) →
          (2 * n + l ∈ t.qz.levels ↔ if 2 * n + l ∈ s.qz.levels then thr - 24 < v else thr ≤ v) ∧
          (2 * n + l ∉ s.qz.levels → thr ≤ v → t.Told qzPage .qzmTemp) ∧
          (2 * n + l ∈ s.qz.levels → v ≤ thr - 24 → t.Told qzPage .qzmTempClear)) ∧
        (∀ i, i / 2 ≠ n ∨ s.fwRuns = false → (i ∈ t.qz.levels ↔ i ∈ s.qz.levels)) ∧
        s.RegsBut t [(qzPage, Reg.qzmTempMax)] ∧ s.Only t noted) ∧
  (∀ (s : State) (n : Nat), s.qz.tempThr = [] → s.tempThr n = (760, 840)) ∧
  (∀ (s : State) (n : Nat) (v : Int), s.qz.por = false → 920 ≤ v → 2 ≤ NMap.get (fun _ => 0) s.qz.hot n →
    s.qz.tripped = false →
    Answers (.tempSample n v) s fun t =>
      s.MainDown t ∧ t.qz.tripped = true ∧ t.Told qzPage .qzmThermtrip ∧
        NMap.get (fun _ => none) t.qz.temp n = some v) ∧
  (∀ (s : State) (n mv : Nat), (5 ≤ monitorRail n ∨ s.qz.mainOk = true) → s.qz.por = false →
    ¬ (monitorRail n < 5 ∧ 10 * mv < 9 * s.railSet (monitorRail n) ∧
      ∃ t0, NMap.get (fun _ => none) s.qz.under n = some t0 ∧ t0 + 1000000 ≤ s.clk.tru) →
    Answers (.voltSample n mv) s fun t =>
      NMap.get (fun _ => none) t.qz.volt n = some mv ∧
        (∀ k, k ≠ n → NMap.get (fun _ => none) t.qz.volt k = NMap.get (fun _ => none) s.qz.volt k) ∧
        NMap.get (fun _ => (0, 0)) t.qz.voltRun n =
          (if mv < (s.voltThr n).1 then (NMap.get (fun _ => (0, 0)) s.qz.voltRun n).1 + 1 else 0,
           if (s.voltThr n).2 < mv then (NMap.get (fun _ => (0, 0)) s.qz.voltRun n).2 + 1 else 0) ∧
        NMap.get (fun _ => none) t.qz.under n =
          (if 10 * mv < 9 * s.railSet (monitorRail n) then
            some ((NMap.get (fun _ => none) s.qz.under n).getD s.clk.tru) else none) ∧
        (s.fwRuns = true → mv < (s.voltThr n).1 → (NMap.get (fun _ => (0, 0)) s.qz.voltRun n).1 = 9 →
          t.Told qzPage .qzmVolt) ∧
        (s.fwRuns = true → (s.voltThr n).1 ≤ mv → (s.voltThr n).2 < mv →
          (NMap.get (fun _ => (0, 0)) s.qz.voltRun n).2 = 9 → t.Told qzPage .qzmVolt) ∧
        s.RegsBut t [] ∧ s.Only t noted) ∧
  (∀ (s : State) (n : Nat), s.qz.voltThr = [] →
    100 * (s.voltThr n).2 ≤ 105 * s.railSet (monitorRail n) ∧ 95 * s.railSet (monitorRail n) ≤ 100 * (s.voltThr n).1 ∧
      s.railSet (monitorRail n) ≤ (s.voltThr n).2 ∧ (s.voltThr n).1 ≤ s.railSet (monitorRail n)) ∧
  (∀ (s : State) (n mv t0 : Nat), s.qz.por = false → s.qz.mainOk = true → monitorRail n < 5 →
    10 * mv < 9 * s.railSet (monitorRail n) → NMap.get (fun _ => none) s.qz.under n = some t0 →
    t0 + 1000000 ≤ s.clk.tru →
    Answers (.voltSample n mv) s fun t => s.MainDown t ∧ t.Told qzPage .qzmMainDown) ∧
  (∀ (s : State) (n mv : Nat) (v : Int),
    (s.qz.por = true ∨ (monitorRail n < 5 ∧ s.qz.mainOk = false) → Answers (.voltSample n mv) s fun t => t = s) ∧
    (s.qz.por = true → Answers (.tempSample n v) s fun t => t = s)) ∧
  (∀ (s : State) (a vout iout temp status : Nat), s.fwRuns = true →
    Answers (.pmbusPoll a vout iout temp status) s fun t =>
      (∀ r, r ∈ t.qz.regulators ↔ r = ⟨a, vout, iout, temp, status⟩ ∨ (r ∈ s.qz.regulators ∧ r.addr ≠ a)) ∧
        t.rd qzPage Reg.qzmPower =
          BitVec.ofNat 32 (min 65535 ((t.qz.regulators.map fun r => r.vout * r.iout).sum / 10000)) ∧
        (status ≠ 0 → t.Told qzPage .qzmPmbusFault) ∧ s.RegsBut t [(qzPage, Reg.qzmPower)] ∧ s.Only t noted) ∧
  (∀ (s : State) (r kind mv : Nat), s.fwRuns = true → kind < 3 →
    (railAllows r mv = true → Answers (.pmbusCommand r kind mv) s fun t =>
      NMap.get (fun _ => none) t.qz.sets (r * 3 + kind) = some mv ∧
        (∀ k, k ≠ r * 3 + kind → NMap.get (fun _ => none) t.qz.sets k = NMap.get (fun _ => none) s.qz.sets k) ∧
        s.Only t [.qz]) ∧
    (railAllows r mv = false → Answers (.pmbusCommand r kind mv) s fun t =>
      t.qz.sets = s.qz.sets ∧
        t.ctrAt qzPage .qzmPmbusRefused 0 = min (s.ctrAt qzPage .qzmPmbusRefused 0 + 1) (2 ^ 32 - 1) ∧
        s.RegsBut t [] ∧ s.Only t noted)) ∧
  (∀ mv, (railAllows 0 mv = true ↔ 700 ≤ mv ∧ mv ≤ 850) ∧
    (railAllows 1 mv = true ↔ 776 ≤ mv ∧ mv ≤ 824) ∧ (railAllows 2 mv = true ↔ 1067 ≤ mv ∧ mv ≤ 1133)) ∧
  (∀ (s : State) (x : Nat × EvRec × Nat) (r : List (Nat × EvRec × Nat)), s.fwRuns = true → s.mirrorDue = true →
    s.unmirrored = x :: r → s.qz.mirrorAt < 2048 →
    Answers .mirrorPageWrite s fun t =>
      t.norBytes (mirrorPage s.qz.mirrorAt) 4096 = mirrorBytes x.1 (runFrom x.1 ((x :: r).take 255)) ∧
        t.mirrorValid s.qz.mirrorAt = true ∧
        t.qz.mirrored = x.1 + (runFrom x.1 ((x :: r).take 255)).length ∧ t.qz.mirrorAt = (s.qz.mirrorAt + 1) % 2048 ∧
        t.ctrAt qzPage .qzmMirrorPages 0 = (s.ctrAt qzPage .qzmMirrorPages 0 + 1) % 2 ^ 64 ∧
        (∀ a, (a < mirrorPage s.qz.mirrorAt ∨ mirrorPage s.qz.mirrorAt + 4096 ≤ a) →
          (s.qz.mirrorAt + 1) % 16 ≠ 0 → NMap.get norErased t.qz.nor a = NMap.get norErased s.qz.nor a) ∧
        ((s.qz.mirrorAt + 1) % 16 = 0 → ∀ a, a < 65536 →
          NMap.get norErased t.qz.nor (mirrorPage (((s.qz.mirrorAt + 1) / 16 + 1) % 128 * 16) + a) = 0xFF) ∧
        s.RegsBut t [] ∧ s.Only t noted) ∧
  (∀ s : State, s.fwRuns = false →
    Answers .mirrorPageWrite s (fun t => t = s) ∧ (∀ a b c d e, Answers (.pmbusPoll a b c d e) s fun t => t = s) ∧
      ∀ a b c, Answers (.pmbusCommand a b c) s fun t => t = s) ∧
  (∀ s : State, s.mirrorDue = false → Answers .mirrorPageWrite s fun t => t = s)

/-- R98, R549, R636, R640, R662, R677 to R681, R688: the mailbox, its clock commands among them. -/
def Obligations.MailboxProtocol : Prop :=
  (∀ (s : State) (src : Src) (tag len : Nat), s.Opens src qzPage Reg.qzmMbDoorbell →
    (s.qz.mb.isSome = true → s.rb qzPage Reg.errInfo 31 = false →
      Answers (.mbDoorbell src tag len) s fun t =>
        t.rf qzPage Reg.errInfo 19 16 = 9 ∧ t.qz.mb = s.qz.mb ∧ s.RegsBut t [] ∧ s.Only t noted) ∧
    (s.qz.mb = none → 4 ≤ len → len ≤ 4096 → s.mbAllowed s.mbCmd = true →
      Answers (.mbDoorbell src tag len) s fun t =>
        t.qz = { s.qz with mb := some (tag, len) } ∧ t.rf qzPage Reg.qzmMbStatus 0 0 = 1 ∧
          s.RegsBut t [(qzPage, Reg.qzmMbStatus)] ∧ s.Only t [.reg, .qz]) ∧
    (s.qz.mb = none → (len < 4 ∨ 4096 < len) →
      Answers (.mbDoorbell src tag len) s fun t => s.Replies t tag 2 [] [] ∧ s.Only t noted) ∧
    (s.qz.mb = none → 4 ≤ len → len ≤ 4096 → s.mbAllowed s.mbCmd = false →
      Answers (.mbDoorbell src tag len) s fun t => s.Replies t tag 1 [] [] ∧ s.Only t noted)) ∧
  (∀ (s : State) (cmd : Nat),
    (s.bootStage = 2 → (s.mbAllowed cmd = true ↔ cmd = 0x0001 ∨ cmd = 0x0024)) ∧
    (s.bootStage ≠ 2 → (s.mbAllowed cmd = true ↔ cmd ≠ 0x0024 ∧ ∃ c n, Instr.mailbox c = some (cmd, n)))) ∧
  (∀ (s : State) (c : Instr) (cmd n : Nat), c.mailbox = some (cmd, n) →
    (s.qz.mb = none ∨ s.mbCmd ≠ cmd ∨ s.bootStage = 0 → Answers c s fun t => t = s) ∧
    (∀ tag len, s.qz.mb = some (tag, len) → s.mbCmd = cmd → s.bootStage ≠ 0 → s.mbAllowed cmd = false →
      Answers c s fun t => s.Replies t tag 1 [] [] ∧ s.Only t noted) ∧
    (∀ tag len, s.qz.mb = some (tag, len) → s.mbCmd = cmd → s.bootStage ≠ 0 → s.mbAllowed cmd = true → len < n →
      Answers c s fun t => s.Replies t tag 2 [] [] ∧ s.Only t noted) ∧
    (∀ tag, s.Asked cmd n tag → s.qz.mainOk = false → cmd ∈ [0x0002, 0x0003, 0x0004, 0x0011, 0x0012] →
      Answers c s fun t => s.Replies t tag 7 [] [] ∧ s.Only t noted) ∧
    (∀ tag pub nor period, s.Asked cmd n tag → (cmd = 0x0011 → s.qz.mainOk = true) →
      c = .imageLoad none ∨ c = .fwUpdate none nor ∨ c = .platformWrite none pub nor ∨ c = .fwRun none period →
      Answers c s fun t => s.Replies t tag 5 [] [] ∧ s.Only t noted)) ∧
  (∀ (s : State) (tag : Nat), s.Asked 0x0001 4 tag →
    Answers .getInfo s fun t =>
      s.Replies t tag 0 (Config.otpSerial.take 16 ++ wordBytes [s.rd 0 Reg.sysBoot, s.rd 0 Reg.sysBootSvn] ++
        ([0, 1].flatMap fun b => [BitVec.ofNat 8 (s.bankGood (false, false) b).toNat] ++
          leBytes 4 (drSvn (s.bankImage b)) ++ leBytes 4 (drSeq (s.bankImage b))) ++
        leBytes 1 s.qz.svnFw ++ leBytes 1 s.ownerSet.toNat) [] ∧ s.Only t noted) ∧
  (∀ (s : State) (tag : Nat), s.Asked 0x0002 16 tag → s.qz.mainOk = true →
    (2 ^ 48 ≤ s.req 4 8 ∨ 2 ^ 30 ≤ s.req 12 4 →
      Answers .clockSet s fun t => s.Replies t tag 2 [] [] ∧ s.Only t noted) ∧
    (s.req 4 8 < 2 ^ 48 → s.req 12 4 < 10 ^ 9 → s.genState = 0 →
      Answers .clockSet s fun t =>
        t.clk = { s.clk with loc := (s.req 4 8 * 10 ^ 9 + s.req 12 4) * unitsPerNs } ∧
          t.rb tmuPage Reg.tmuStatus 4 = true ∧ t.Told tmuPage .tmuClockSet ∧
          s.Replies t tag 0 [0] [(tmuPage, Reg.tmuSetSec), (tmuPage, Reg.tmuSetSecHi), (tmuPage, Reg.tmuSetNs),
            (tmuPage, Reg.tmuAdjCtl), (tmuPage, Reg.tmuAdjRes), (tmuPage, Reg.tmuStatus), (tmuPage, Reg.tmuServo),
            (tmuPage, Reg.tmuHoldWales)] ∧ s.Only t (.clk :: .tmu :: .drc :: noted)) ∧
    (s.req 4 8 < 2 ^ 48 → s.req 12 4 < 2 ^ 30 → s.genState ≠ 0 →
      Answers .clockSet s fun t =>
        s.Replies t tag 0 [2] [(tmuPage, Reg.tmuSetSec), (tmuPage, Reg.tmuSetSecHi), (tmuPage, Reg.tmuSetNs),
          (tmuPage, Reg.tmuAdjCtl), (tmuPage, Reg.tmuAdjRes)] ∧ s.Only t noted)) ∧
  (∀ (s : State) (tag : Nat), s.Asked 0x0003 8 tag → s.qz.mainOk = true →
    (s.rf tmuPage Reg.tmuJumpThr 16 0 ≠ 0 →
      (BitVec.ofNat 32 (s.req 4 4)).toInt.natAbs ≤ s.rf tmuPage Reg.tmuJumpThr 16 0 →
      Answers .clockStep s fun t => ∃ u : State,
        u.clk.loc = ((s.clk.loc : Int) + (BitVec.ofNat 32 (s.req 4 4)).toInt * unitsPerNs + clockWrap).toNat % clockWrap ∧
          u.Told tmuPage .tmuStepDone ∧ u.ctrAt tmuPage .tmuSteps 0 = min (s.ctrAt tmuPage .tmuSteps 0 + 1) (2 ^ 32 - 1) ∧
          s.Replies u tag 0 [0] [(tmuPage, Reg.tmuStep), (tmuPage, Reg.tmuAdjCtl), (tmuPage, Reg.tmuAdjRes),
            (tmuPage, Reg.tmuHoldWales)] ∧ s.Only u (.clk :: .tmu :: .drc :: noted) ∧
          t = if 0 < (BitVec.ofNat 32 (s.req 4 4)).toInt then u.strobeDue else u) ∧
    (s.rf tmuPage Reg.tmuJumpThr 16 0 = 0 ∨ s.rf tmuPage Reg.tmuJumpThr 16 0 < (BitVec.ofNat 32 (s.req 4 4)).toInt.natAbs →
      Answers .clockStep s fun t =>
        t.rb tmuPage Reg.tmuStatus 2 = true ∧ t.Told tmuPage .tmuStepRefused ∧
          s.Replies t tag 0 [1] [(tmuPage, Reg.tmuStep), (tmuPage, Reg.tmuAdjCtl), (tmuPage, Reg.tmuAdjRes),
            (tmuPage, Reg.tmuStatus)] ∧ s.Only t (.tmu :: noted))) ∧
  (∀ (s : State) (tag : Nat), s.Asked 0x0004 144 tag → s.qz.mainOk = true →
    (s.req 9 1 ≤ 1 → s.req 12 2 ≠ 0 →
      Answers .ptpCfg s fun t =>
        t.qz.ptp = s.reqBytes 4 140 ∧ (∀ k, k < 32 → t.tf tmuPage 0 0 k 1 0 0 = ((s.req 4 4).testBit k).toNat) ∧
          t.rb tmuPage Reg.tmuCtl 0 = decide (s.req 4 4 ≠ 0) ∧ t.rf tmuPage Reg.tmuCtl 1 1 = s.req 9 1 ∧
          t.rf tmuPage Reg.tmuCtl 15 8 = s.req 8 1 ∧ t.rf tmuPage Reg.tmuServo 31 16 = s.req 12 2 ∧
          (∀ k, 32 ≤ k → k < 2 ^ 25 → t.tget tmuPage 0 0 k = s.tget tmuPage 0 0 k) ∧
          s.Replies t tag 0 [] [(tmuPage, Reg.tmuCtl), (tmuPage, Reg.tmuServo)] ∧ s.Only t (.tbl :: noted)) ∧
    (1 < s.req 9 1 ∨ s.req 12 2 = 0 →
      Answers .ptpCfg s fun t => s.Replies t tag 2 [] [] ∧ s.Only t noted))

/-- R141, R375, R636, R640, R645, R646, R657, R680 to R682, R684, R685: what the mailbox installs. -/
def Obligations.MailboxInstalls : Prop :=
  (∀ (s : State) (tag : Nat), s.Asked 0x0010 20 tag →
    (s.imagesHeld = [] → Answers .imageRegion s fun t =>
      t.qz.region = some (s.req 4 8, s.req 12 8) ∧ s.Replies t tag 0 [] [] ∧ s.Only t noted) ∧
    (s.imagesHeld ≠ [] → Answers .imageRegion s fun t =>
      t.qz.region = s.qz.region ∧ s.Replies t tag 3 [1] [] ∧ s.Only t noted)) ∧
  (∀ (s : State) (tag : Nat) (b : List Byte), s.Asked 0x0011 18 tag → s.qz.mainOk = true →
    (1024 ≤ s.req 16 2 ∨ b.length ≠ s.req 12 4 →
      Answers (.imageLoad (some b)) s fun t => s.Replies t tag 2 [] [] ∧ s.Only t noted) ∧
    (∀ c, s.req 16 2 < 1024 → b.length = s.req 12 4 → c = (if drType b = 1 then 1 else s.drCause b true false) → c ≠ 0 →
      Answers (.imageLoad (some b)) s fun t =>
        t.Told qzPage .qzmImageRefused ∧ t.qz.m = s.qz.m ∧ s.Replies t tag 4 [BitVec.ofNat 8 c] [] ∧ s.Only t noted) ∧
    (s.req 16 2 < 1024 → b.length = s.req 12 4 → drType b = 3 → s.drCause b true false = 0 →
      Answers (.imageLoad (some b)) s fun t =>
        t.qz.m = s.qz.m.set 2 (Config.sm3 (s.qz.m.getD 2 [] ++ Config.sm3 (slice b 0 448))) ∧
          s.Replies t tag 0 [] [] ∧ s.Only t noted) ∧
    (∀ a, s.req 16 2 < 1024 → b.length = s.req 12 4 → drType b = 2 → s.drCause b true false = 0 →
      s.freePlace s.freeNat = some a → s.drcReady = true → s.imageResident (s.req 16 2) = false →
      s.imageNamed (s.req 16 2) = false → drBytes b 1 ≠ [] →
      Answers (.imageLoad (some b)) s fun t =>
        t.imageAddr (s.req 16 2) = a % 2 ^ 64 ∧ t.imageLen (s.req 16 2) = (drBytes b 1).length ∧
          t.tf rvePage 1 0 (s.req 16 2) 3 1 0 = 1 ∧
          (∀ k, k ≠ tkey rvePage 1 0 (s.req 16 2) → NMap.get tblDefault t.tbl k = NMap.get tblDefault s.tbl k) ∧
          (∀ i, i < (drBytes b 1).length → s.dramLost (a + i) = false → t.dramByte (a + i) = (drBytes b 1).getD i 0) ∧
          (∀ i, i < 24576 → s.dramLost (a + 32768 + i) = false →
            t.dramByte (a + 32768 + i) = (drBytes b 2).getD i 0) ∧
          (∀ x, x < a ∨ (a + (drBytes b 1).length ≤ x ∧ x < a + 32768) ∨ a + 57344 ≤ x → t.dramByte x = s.dramByte x) ∧
          t.qz.m = s.qz.m.set 2 (Config.sm3 (s.qz.m.getD 2 [] ++ Config.sm3 (slice b 0 448))) ∧
          s.Replies t tag 0 [] [] ∧ s.Only t ([.tbl, .mem, .free] ++ noted)) ∧
    (s.req 16 2 < 1024 → b.length = s.req 12 4 → drType b = 2 → s.drCause b true false = 0 →
      s.freePlace s.freeNat = none ∨ s.drcReady = false ∨ s.imageResident (s.req 16 2) = true ∨
        s.imageNamed (s.req 16 2) = true →
      Answers (.imageLoad (some b)) s fun t => (∃ r, s.Replies t tag 3 [r] []) ∧ s.Only t (.free :: noted))) ∧
  (∀ (s : State) (tag : Nat), s.Asked 0x0012 6 tag → s.qz.mainOk = true →
    (1024 ≤ s.req 4 2 → Answers .imageUnload s fun t => s.Replies t tag 2 [] [] ∧ s.Only t noted) ∧
    (s.req 4 2 < 1024 → s.imageResident (s.req 4 2) = true ∨ s.imageNamed (s.req 4 2) = true →
      Answers .imageUnload s fun t => (∃ r, s.Replies t tag 3 [r] []) ∧ s.Only t (.free :: noted)) ∧
    (s.req 4 2 < 1024 → s.imageResident (s.req 4 2) = false → s.imageNamed (s.req 4 2) = false →
      Answers .imageUnload s fun t =>
        t.tget rvePage 1 0 (s.req 4 2) = [] ∧ t.imageHeld (s.req 4 2) = false ∧
          (∀ k, k ≠ tkey rvePage 1 0 (s.req 4 2) → NMap.get tblDefault t.tbl k = NMap.get tblDefault s.tbl k) ∧
          s.Replies t tag 0 [] [] ∧ s.Only t (.tbl :: noted))) ∧
  (∀ (s : State) (tag : Nat) (b : List Byte) (err : Bool), s.Asked 0x0020 16 tag →
    (bankSize < b.length ∨ b.length ≠ s.req 12 4 →
      Answers (.fwUpdate (some b) err) s fun t => s.Replies t tag 2 [] [] ∧ s.Only t noted) ∧
    (b.length ≤ bankSize → b.length = s.req 12 4 →
      (∀ c, c = (if drType b ≠ 1 then 1 else s.drCause b true false) → c ≠ 0 →
        Answers (.fwUpdate (some b) err) s fun t =>
          t.Told qzPage .qzmImageRefused ∧ t.qz.nor = s.qz.nor ∧ s.Replies t tag 4 [BitVec.ofNat 8 c] [] ∧
            s.Only t noted) ∧
      (drType b = 1 → s.drCause b true false = 0 → drSeq b < s.qz.bootSeq →
        Answers (.fwUpdate (some b) err) s fun t => s.Replies t tag 3 [2] [] ∧ s.Only t noted ∧ t.qz.nor = s.qz.nor) ∧
      (∀ q, drType b = 1 → s.drCause b true false = 0 → s.qz.bootSeq ≤ drSeq b → s.rf 0 Reg.sysBoot 0 0 = 1 →
        s.rb 0 Reg.sysBoot 1 = false → s.bankSeq 0 = some q → s.qz.bootSeq < q →
        Answers (.fwUpdate (some b) err) s fun t => s.Replies t tag 3 [3] [] ∧ s.Only t noted ∧ t.qz.nor = s.qz.nor) ∧
      (∀ bank, drType b = 1 → s.drCause b true false = 0 → s.qz.bootSeq ≤ drSeq b → bank = 1 - s.rf 0 Reg.sysBoot 0 0 →
        (s.rf 0 Reg.sysBoot 0 0 = 0 ∨ s.rb 0 Reg.sysBoot 1 = true ∨ ∀ q, s.bankSeq 0 = some q → q ≤ s.qz.bootSeq) →
        (err = false → Answers (.fwUpdate (some b) err) s fun t =>
          t.norBytes (bankBase bank) b.length = b ∧
            (∀ a, bankBase bank + b.length ≤ a → a < bankBase bank + bankSize →
              NMap.get norErased t.qz.nor a = 0xFF) ∧
            (∀ a, a < bankBase bank ∨ bankBase bank + bankSize ≤ a →
              NMap.get norErased t.qz.nor a = NMap.get norErased s.qz.nor a) ∧
            t.Told qzPage .qzmUpdateDone ∧ s.Replies t tag 0 [BitVec.ofNat 8 bank] [] ∧ s.Only t noted) ∧
        (err = true → Answers (.fwUpdate (some b) err) s fun t => s.Replies t tag 7 [] [] ∧ s.Only t noted)))) ∧
  (∀ (s : State) (tag svn other : Nat), s.Asked 0x0021 8 tag → svn = (s.rd 0 Reg.sysBootSvn).toNat →
    other = 1 - s.rf 0 Reg.sysBoot 0 0 →
    (∀ r : Byte, (r = 4 ∧ s.rb 0 Reg.sysBoot 1 = true) ∨
        (s.rb 0 Reg.sysBoot 1 = false ∧
          ((r = 5 ∧ svn ≤ s.qz.svnFw) ∨ (r = 6 ∧ s.qz.svnFw < svn ∧ 64 < svn) ∨
            (r = 7 ∧ s.qz.svnFw < svn ∧ svn ≤ 64 ∧ s.req 4 4 % 2 = 0 ∧
              ¬ (s.bankGood (false, false) other = true ∧ svn ≤ drSvn (s.bankImage other))))) →
      Answers .svnCommit s fun t => t.qz.svnFw = s.qz.svnFw ∧ s.Replies t tag 3 [r] [] ∧ s.Only t noted) ∧
    (s.rb 0 Reg.sysBoot 1 = false → s.qz.svnFw < svn → svn ≤ 64 →
      s.req 4 4 % 2 = 1 ∨ (s.bankGood (false, false) other = true ∧ svn ≤ drSvn (s.bankImage other)) →
      Answers .svnCommit s fun t =>
        t.qz.svnFw = svn ∧ t.rf 0 Reg.sysBoot 15 8 = svn ∧ t.rf 0 Reg.sysBoot 7 0 = s.rf 0 Reg.sysBoot 7 0 ∧
          t.Told qzPage .qzmSvnCommitted ∧ s.Replies t tag 0 [BitVec.ofNat 8 svn] [(0, Reg.sysBoot)] ∧ s.Only t noted)) ∧
  (∀ (s : State) (tag : Nat) (b pub : List Byte) (err : Bool), s.Asked 0x0022 16 tag →
    (b.length ≠ s.req 12 4 →
      Answers (.platformWrite (some b) pub err) s fun t => s.Replies t tag 2 [] [] ∧ s.Only t noted) ∧
    (b.length = s.req 12 4 → s.platCause b ≠ 0 → Answers (.platformWrite (some b) pub err) s fun t =>
      t.qz.nor = s.qz.nor ∧ s.Replies t tag 4 [BitVec.ofNat 8 (s.platCause b)] [] ∧ s.Only t noted) ∧
    (b.length = s.req 12 4 → s.platCause b = 0 → s.platSigned pub b = false →
      Answers (.platformWrite (some b) pub err) s fun t =>
        t.qz.nor = s.qz.nor ∧ s.Replies t tag 4 [2] [] ∧ s.Only t noted) ∧
    (b.length = s.req 12 4 → s.platCause b = 0 → s.platSigned pub b = true →
      (err = true → Answers (.platformWrite (some b) pub err) s fun t => s.Replies t tag 7 [] [] ∧ s.Only t noted) ∧
      (err = false → Answers (.platformWrite (some b) pub err) s fun t =>
        t.norBytes 0x1000000 (leAt b 6 2) = b.take (leAt b 6 2) ∧ t.qz.plat = s.qz.plat ∧
          (∀ a, a < 0x1000000 ∨ 0x1010000 ≤ a → NMap.get norErased t.qz.nor a = NMap.get norErased s.qz.nor a) ∧
          s.Replies t tag 0 [] [] ∧ s.Only t noted))) ∧
  (∀ (s : State) (tag : Nat), s.Asked 0x0023 36 tag →
    (s.ownerSet = true → Answers .ownerSet s fun t =>
      t.qz.ownerHash = s.qz.ownerHash ∧ s.Replies t tag 3 [1] [] ∧ s.Only t noted) ∧
    (s.ownerSet = false → Answers .ownerSet s fun t =>
      t.qz.ownerHash = s.reqBytes 4 32 ∧ t.rb 0 Reg.sysIdStatus 14 = t.ownerSet ∧
        s.Replies t tag 0 [] [(0, Reg.sysIdStatus)] ∧ s.Only t noted)) ∧
  (∀ (s : State) (tag period : Nat) (b : List Byte), s.Asked 0x0024 16 tag →
    (b.length ≠ s.req 12 4 →
      Answers (.fwRun (some b) period) s fun t => s.Replies t tag 2 [] [] ∧ s.Only t noted) ∧
    (∀ c, b.length = s.req 12 4 → c = (if drType b ≠ 1 then 1 else s.drCause b true false) → c ≠ 0 →
      Answers (.fwRun (some b) period) s fun t =>
        t.bootStage = 2 ∧ t.Told qzPage .qzmImageRefused ∧ s.Replies t tag 4 [BitVec.ofNat 8 c] [] ∧ s.Only t noted) ∧
    (b.length = s.req 12 4 → drType b = 1 → s.drCause b true false = 0 →
      Answers (.fwRun (some b) period) s fun t =>
        t.bootStage = 1 ∧ t.qz.code = drBytes b 1 ∧ t.qz.started = true ∧ t.qz.nor = s.qz.nor ∧
          t.rd 0 Reg.sysBootSvn = BitVec.ofNat 32 (drSvn b) ∧ t.rb qzPage Reg.qzmWdt 0 = true ∧
          t.Told qzPage .qzmBootBank ∧
          s.Replies t tag 0 [] [(0, Reg.sysBoot), (0, Reg.sysBootSvn), (0, Reg.sysIdStatus), (qzPage, Reg.qzmWdt),
            (qzPage, Reg.pageReady)] ∧ s.Only t (.free :: noted)))

/-- R657, R658, R666, R669 to R671, R673, R675, R680, R681: what the mailbox tells. Numbers 24 to 39 of THRESH_SET stand for
the monitors by the model's choice (log entry 36). -/
def Obligations.MailboxTells : Prop :=
  (∀ (s : State) (tag k : Nat), s.Asked 0x0030 36 tag → s.qz.aliasKey = some k →
    Answers .quote s fun t =>
      (∃ body, body = ascii "TZQT" ++ leBytes 2 1 ++ leBytes 2 576 ++ s.reqBytes 4 32 ++ Config.otpSerial.take 16 ++
          leBytes 8 (if s.qz.mainOk then s.wale64 else 0) ++ s.qz.m.flatten ++ Config.sm2Pub k ++ s.qz.aliasSig ++
          Config.sm2Pub dikKey ∧
        ((body ++ Config.sm2Sign k body s.freeNat).length ≤ 4096 →
          s.Replies t tag 0 (body ++ Config.sm2Sign k body s.freeNat) [])) ∧
        t.qz.m = s.qz.m ∧ t.free = s.free + 1 ∧ t.qz.mb = none ∧ s.Only t (.free :: noted)) ∧
  (∀ (s : State) (tag : Nat), s.Asked 0x0030 36 tag → s.qz.aliasKey = none →
    Answers .quote s fun t => s.Replies t tag 6 [] [] ∧ s.Only t noted) ∧
  (∀ (s : State) (tag : Nat), s.Asked 0x0031 37 tag →
    (s.req 4 1 = 6 ∨ s.req 4 1 = 7 → Answers .measure s fun t =>
      t.qz.m = s.qz.m.set (s.req 4 1) (Config.sm3 (s.qz.m.getD (s.req 4 1) [] ++ s.reqBytes 5 32)) ∧
        s.Replies t tag 0 [] [] ∧ s.Only t noted) ∧
    (s.req 4 1 ≠ 6 → s.req 4 1 ≠ 7 → Answers .measure s fun t =>
      t.qz.m = s.qz.m ∧ s.Replies t tag 2 [] [] ∧ s.Only t noted)) ∧
  (∀ (s : State) (tag : Nat), s.Asked 0x0040 14 tag →
    (255 < s.req 12 2 → Answers .logRead s fun t => s.Replies t tag 2 [] [] ∧ s.Only t noted) ∧
    (∀ n b, s.req 12 2 ≤ 255 → (n, b) ∈ s.logAll → s.req 4 8 ≤ n →
      (∀ x ∈ s.logAll, s.req 4 8 ≤ x.1 → n ≤ x.1) →
      Answers .logRead s fun t => ∃ rs : List (List Byte),
        rs.length ≤ s.req 12 2 ∧ (∀ i r, rs[i]? = some r → (n + i, r) ∈ s.logAll) ∧
          (rs.length < s.req 12 2 → ∀ x ∈ s.logAll, x.1 ≠ n + rs.length) ∧
          s.Replies t tag 0 (leBytes 8 n ++ leBytes 2 rs.length ++ leBytes 6 0 ++ rs.flatten) [] ∧
          t.qz.log = s.qz.log ∧ s.Only t noted) ∧
    (s.req 12 2 ≤ 255 → (∀ x ∈ s.logAll, x.1 < s.req 4 8) →
      Answers .logRead s fun t =>
        (∃ free : List Byte, free.length = 8 ∧ s.Replies t tag 0 (free ++ leBytes 8 0) []) ∧
          s.Only t (.free :: noted))) ∧
  (∀ (s : State) (tag : Nat), s.Asked 0x0041 4 tag → s.qz.regulators.length ≤ 600 →
    Answers .sensorRead s fun t => ∃ rsp : List Byte,
      s.Replies t tag 0 rsp [] ∧ rsp.length = 80 + 6 * s.qz.regulators.length ∧
        (∀ n v, n < 24 → NMap.get (fun _ => none) s.qz.temp n = some v →
          slice rsp (2 * n) 2 = leBytes 2 (BitVec.ofInt 16 v).toNat) ∧
        (∀ n mv, n < 16 → NMap.get (fun _ => none) s.qz.volt n = some mv →
          slice rsp (48 + 2 * n) 2 = leBytes 2 mv) ∧
        (∀ i r, s.qz.regulators[i]? = some r →
          slice rsp (80 + 6 * i) 6 = leBytes 1 r.addr ++ leBytes 2 r.vout ++ leBytes 2 r.iout ++ leBytes 1 r.temp) ∧
        s.Only t (.free :: noted)) ∧
  (∀ (s : State) (tag : Nat) (warn crit : Int), s.Asked 0x0042 9 tag → warn = (BitVec.ofNat 16 (s.req 5 2)).toInt →
    crit = (BitVec.ofNat 16 (s.req 7 2)).toInt →
    (40 ≤ s.req 4 1 ∨ (s.req 4 1 < 24 ∧ (crit < warn ∨ 880 < crit)) →
      Answers .threshSet s fun t => s.Replies t tag 2 [] [] ∧ s.Only t noted) ∧
    (s.req 4 1 < 24 → warn ≤ crit → crit ≤ 880 → Answers .threshSet s fun t =>
      t.tempThr (s.req 4 1) = (warn, crit) ∧ (∀ n, n ≠ s.req 4 1 → t.tempThr n = s.tempThr n) ∧
        s.Replies t tag 0 [] [] ∧ s.Only t noted) ∧
    (24 ≤ s.req 4 1 → s.req 4 1 < 40 → Answers .threshSet s fun t =>
      t.voltThr (s.req 4 1 - 24) = (s.req 5 2, s.req 7 2) ∧ (∀ n, n ≠ s.req 4 1 - 24 → t.voltThr n = s.voltThr n) ∧
        s.Replies t tag 0 [] [] ∧ s.Only t noted)) ∧
  (∀ (s : State) (tag : Nat), s.Asked 0x0043 6 tag →
    (s.req 4 1 ≤ 3 → Answers .logCfg s fun t =>
      t.qz.logMin = s.req 4 1 ∧ t.qz.flush = (s.qz.flush || decide (s.req 5 1 % 2 = 1)) ∧ s.Replies t tag 0 [] [] ∧
        s.Only t noted) ∧
    (3 < s.req 4 1 → Answers .logCfg s fun t => s.Replies t tag 2 [] [] ∧ s.Only t noted))

/-- A step carries out the command at the front of the queue; on an empty queue one nanosecond passes, by the model's choice
(log entry 1). -/
def Obligations.StepTakesFront : Prop :=
  (∀ (s : State) (c : Instr) (rest : List Instr), step { s with pending := c :: rest } = exec c { s with pending := rest }) ∧
  (∀ s : State, s.pending = [] → ∃ t, step s = .next t ∧ t.pending = [] ∧ t.clk.tru = s.clk.tru + 1 ∧
    t.clk.loc = (if s.qz.mainOk then (s.clk.loc + s.rate) % clockWrap else s.clk.loc) ∧
    s.RegsBut t [(tmuPage, Reg.tmuHoldWales)] ∧ s.Only t [.clk, .tmu, .reg, .ev, .drc])

/-- R16, R17, R64, R73, R101, R152, R550, R597, R633, R657, R670, R673: the block after reset. -/
def Obligations.ResetState : Prop :=
  State.reset.pending = [] ∧
  (∀ p, p < 0x400 → State.reset.enabled p = false ∧ State.reset.rf p Reg.cmtStatus 2 0 = 0) ∧
  (∀ p ∈ [0, 1, 2, 0x010, 0x020, 0x024, 0x030, 0x038, 0x040, 0x048, 0x050, 0x060, 0x068, 0x06C, 0x070, 0x080, 0x100, 0x300,
      0x310, 0x330, 0x338, 0x340],
    State.reset.rd p Reg.evtEnable = 0xFFFFFFFF ∧ State.reset.rd p Reg.pageReady = 0x200 ∧
      State.reset.rd p Reg.errInfo = 0 ∧ State.reset.rd p Reg.evtStatus = 0) ∧
  (∀ p c sub, State.reset.ctrAt p c sub = 0) ∧
  (∀ p t plane e, e < 2 ^ 25 → plane < 2 → (p ≠ crlPage ∨ t ≠ 1 ∨ plane = 1) → t < 32 →
    ∀ i, State.reset.tw p t plane e i = 0) ∧
  (∀ n, n < 512 → State.reset.tf crlPage 1 0 n 0 7 0 = 17 + n / 4) ∧
  (∀ n, n < 16 → State.reset.tf crlPage 1 0 (512 + n) 0 7 0 = 145 + n) ∧
  (∀ n, n < 24 → State.reset.tf crlPage 1 0 (528 + n) 0 7 0 = 161 + n) ∧
  (∀ n, n < 24 → State.reset.tf crlPage 1 0 (552 + n) 0 7 0 = 185 + n) ∧
  (∀ n, n < 16 → State.reset.tf crlPage 1 0 (576 + n) 0 7 0 = 1 + n) ∧
  State.reset.tf crlPage 1 0 592 0 7 0 = 0 ∧
  State.reset.genState = 0 ∧ State.reset.rb tmuPage Reg.tmuStatus 4 = false ∧ State.reset.rd tmuPage Reg.tmuJumpThr = 1000 ∧
  State.reset.rf prgPage Reg.prgStatus 2 0 = 0 ∧ State.reset.rf prgPage Reg.prgJoin 31 16 = 2400 ∧
  State.reset.qz.m = List.replicate 8 (List.replicate 32 0) ∧ (∀ n, State.reset.tempThr n = (760, 840)) ∧
  State.reset.qz.logMin = 1 ∧ State.reset.bootStage = 0 ∧ State.reset.qz.por = true ∧ State.reset.qz.mainOk = false

/-- R61, R99: no command stops the block. -/
def Obligations.EveryCommandCompletes : Prop :=
  (∀ (c : Instr) (s : State), ∃ t, exec c s = .next t) ∧
  (∀ (c : Instr) (s : State) (f : Fault), exec c s ≠ .fault f) ∧
  (∀ (c : Instr) (s : State) (r : Refusal), exec c s ≠ .refused r) ∧
  (∀ s : State, s.safe)

/-- R16, R17, R573, R574: every step keeps the canonical form of the registers, the tables and the memories. -/
def Obligations.StepKeepsCanonicalForm : Prop := ∀ s t : State, s.canonical → step s = .next t → t.canonical

/-- R16, R17: the state after reset is in canonical form, and no command of it stops the block. -/
def Obligations.ResetIsCanonical : Prop := State.reset.canonical ∧ State.reset.safe ∧ State.reset.reg = [] ∧ State.reset.tbl = []

/-- R47, R61: a step takes the front of the queue alone, and the block never stops. -/
def Obligations.QueueIsWorkedOff : Prop :=
  (∀ s : State, ∃ t, step s = .next t ∧ t.pending = s.pending.tail ∧ t.safe) ∧
  (∀ s t : State, step s = .next t → t.pending = s.pending.tail)

/-- R31. -/
def Obligations.GridPhaseIsFixedWhileRunning : Prop :=
  ∀ (s : State) (src : Src) (v : Word) (c : Instr), s.Opens src tmuPage Reg.tmuGridPhase →
    s.rf tmuPage Reg.tmuWaleCtl 5 4 ≠ 0 →
    c = .gridPhaseWrite src v ∨ c = .regWrite src tmuPage Reg.tmuGridPhase v →
    Answers c s fun t =>
      t.rd tmuPage Reg.tmuGridPhase = s.rd tmuPage Reg.tmuGridPhase ∧ t.Told tmuPage .tmuPhaseIgnored ∧
        (∀ w, t.boundary w = s.boundary w) ∧ s.RegsBut t [] ∧ s.Only t noted

/-- R71. -/
def Obligations.ArmOnArmedPageIsDiscarded : Prop :=
  ∀ (s : State) (src : Src) (p : Nat), s.Opens src p Reg.cmtCtl → (pageCaps p).cmt = true → s.armed p = true →
    Answers (.cmtArm src p) s fun t =>
      t.armed p = true ∧ t.rd p Reg.cmtWale = s.rd p Reg.cmtWale ∧ t.rd p Reg.cmtStatus = s.rd p Reg.cmtStatus ∧
        t.rd p Reg.cmtCtl = s.rd p Reg.cmtCtl ∧ t.act = s.act ∧ t.tbl = s.tbl ∧
        t.ctrAt p .errCount 0 = min (s.ctrAt p .errCount 0 + 1) (2 ^ 32 - 1) ∧
        (s.rb p Reg.errInfo 31 = false →
          t.rb p Reg.errInfo 31 = true ∧ t.rf p Reg.errInfo 15 0 = Reg.cmtCtl ∧ t.rf p Reg.errInfo 19 16 = 2 ∧
            t.rd p Reg.errData = s.rd p Reg.cmtCtl ||| 1 ∧ t.Told p .pageAccessErr) ∧
        (s.rb p Reg.errInfo 31 = true →
          t.rd p Reg.errInfo = s.rd p Reg.errInfo ∧ t.rd p Reg.errData = s.rd p Reg.errData) ∧
        s.RegsBut t [] ∧ s.Only t noted
end

