-- ==== Sys2Proof/Laws/NMap.lean ====
section
/-!
SUPPORT. The laws of the sparse maps: a read after a write, and the canonical form that every operation keeps.
-/

namespace Sys2Proof.Machine

variable {α : Type} {d : Nat → α}

theorem NMap.get_erase_same (m : NMap α) (k : Nat) : NMap.get d (NMap.erase m k) k = d k := by
  induction m with
  | nil => rfl
  | cons p r ih =>
    by_cases h : p.1 = k
    · simpa [NMap.erase, h] using ih
    · simpa [NMap.erase, h, NMap.get] using ih

theorem NMap.get_erase_ne (m : NMap α) {j k : Nat} (h : j ≠ k) : NMap.get d (NMap.erase m k) j = NMap.get d m j := by
  induction m with
  | nil => rfl
  | cons p r ih =>
    obtain ⟨i, w⟩ := p
    by_cases hk : i = k
    · subst hk
      simpa [NMap.erase, NMap.get, h.symm] using ih
    · have e : NMap.erase ((i, w) :: r) k = (i, w) :: NMap.erase r k := by simp [NMap.erase, hk]
      simp [e, NMap.get, ih]

theorem NMap.get_insert_same (m : NMap α) (k : Nat) (v : α) (h : ∀ p ∈ m, p.1 ≠ k) :
    NMap.get d (NMap.insert m k v) k = v := by
  induction m with
  | nil => simp [NMap.insert, NMap.get]
  | cons p r ih =>
    have hp : p.1 ≠ k := h p (by simp)
    by_cases hlt : p.1 < k
    · simpa [NMap.insert, hlt, NMap.get, hp] using ih fun q hq => h q (by simp [hq])
    · simp [NMap.insert, hlt, NMap.get]

theorem NMap.get_insert_ne (m : NMap α) {j k : Nat} (v : α) (h : j ≠ k) :
    NMap.get d (NMap.insert m k v) j = NMap.get d m j := by
  induction m with
  | nil => simp [NMap.insert, NMap.get, h.symm]
  | cons p r ih =>
    obtain ⟨i, w⟩ := p
    by_cases hlt : i < k <;> simp [NMap.insert, hlt, NMap.get, ih, h.symm]

theorem NMap.mem_erase {m : NMap α} {k : Nat} {p : Nat × α} : p ∈ NMap.erase m k ↔ p ∈ m ∧ p.1 ≠ k := by
  simp [NMap.erase]

variable [DecidableEq α]

/-- A read after a write of the same key. -/
@[simp] theorem NMap.get_set_same (m : NMap α) (k : Nat) (v : α) : NMap.get d (NMap.set d m k v) k = v := by
  by_cases h : v = d k
  · simp [NMap.set, h, NMap.get_erase_same]
  · simpa [NMap.set, h] using NMap.get_insert_same _ k v fun p hp => (NMap.mem_erase.1 hp).2

/-- A write leaves every other key alone. -/
theorem NMap.get_set_ne (m : NMap α) {j k : Nat} (v : α) (h : j ≠ k) :
    NMap.get d (NMap.set d m k v) j = NMap.get d m j := by
  by_cases hv : v = d k
  · simp [NMap.set, hv, NMap.get_erase_ne _ h]
  · simp [NMap.set, hv, NMap.get_insert_ne _ v h, NMap.get_erase_ne _ h]

/-- A read after a write. -/
theorem NMap.get_set (m : NMap α) (j k : Nat) (v : α) :
    NMap.get d (NMap.set d m k v) j = if j = k then v else NMap.get d m j := by
  by_cases h : j = k
  · subst h; simp
  · simp [h, NMap.get_set_ne _ _ h]

/-! ## The canonical form -/

theorem NMap.wf_nil : NMap.wf d ([] : NMap α) := by simp [NMap.wf]

theorem NMap.wf_filter {m : NMap α} (p : Nat × α → Bool) (h : NMap.wf d m) : NMap.wf d (m.filter p) :=
  ⟨h.1.filter p, fun q hq => h.2 q (List.mem_of_mem_filter hq)⟩

theorem NMap.wf_keep {m : NMap α} (p : Nat → Bool) (h : NMap.wf d m) : NMap.wf d (NMap.keep p m) := NMap.wf_filter _ h

theorem NMap.wf_erase {m : NMap α} (k : Nat) (h : NMap.wf d m) : NMap.wf d (NMap.erase m k) := NMap.wf_filter _ h

omit [DecidableEq α] in
theorem NMap.mem_insert {m : NMap α} {k : Nat} {v : α} {p : Nat × α} (hp : p ∈ NMap.insert m k v) : p = (k, v) ∨ p ∈ m := by
  induction m with
  | nil => simpa [NMap.insert] using hp
  | cons q r ih =>
    by_cases hlt : q.1 < k
    · simp only [NMap.insert, hlt, if_true, List.mem_cons] at hp ⊢
      rcases hp with hp | hp
      · exact Or.inr (Or.inl hp)
      · exact (ih hp).imp id Or.inr
    · simpa [NMap.insert, hlt] using hp

theorem NMap.wf_insert {m : NMap α} {k : Nat} {v : α} (hk : ∀ p ∈ m, p.1 ≠ k) (hv : v ≠ d k) (h : NMap.wf d m) :
    NMap.wf d (NMap.insert m k v) := by
  refine ⟨?_, fun p hp => ?_⟩
  · obtain ⟨h, -⟩ := h
    induction m with
    | nil => simp [NMap.insert]
    | cons q r ih =>
      obtain ⟨hq, hr⟩ := List.pairwise_cons.1 h
      by_cases hlt : q.1 < k
      · simp only [NMap.insert, hlt, if_true]
        refine List.pairwise_cons.2 ⟨fun p hp => ?_, ih (fun p hp => hk p (by simp [hp])) hr⟩
        rcases NMap.mem_insert hp with rfl | hp
        · exact hlt
        · exact hq p hp
      · have hkq : k < q.1 := by have := hk q (by simp); omega
        simp only [NMap.insert, hlt, if_false]
        refine List.pairwise_cons.2 ⟨fun p hp => ?_, h⟩
        rcases List.mem_cons.1 hp with rfl | hp
        · exact hkq
        · exact Nat.lt_trans hkq (hq p hp)
  · rcases NMap.mem_insert hp with rfl | hp
    · exact hv
    · exact h.2 p hp

/-- A write keeps the canonical form. -/
theorem NMap.wf_set {m : NMap α} (k : Nat) (v : α) (h : NMap.wf d m) : NMap.wf d (NMap.set d m k v) := by
  by_cases hv : v = d k
  · simpa [NMap.set, hv] using NMap.wf_erase k h
  · simpa [NMap.set, hv] using NMap.wf_insert (fun p hp => (NMap.mem_erase.1 hp).2) hv (NMap.wf_erase k h)

/-- Writes in order keep the canonical form. -/
theorem NMap.wf_setAll {m : NMap α} (l : List (Nat × α)) (h : NMap.wf d m) : NMap.wf d (NMap.setAll d m l) := by
  induction l generalizing m with
  | nil => exact h
  | cons p r ih => exact ih (NMap.wf_set p.1 p.2 h)

end Sys2Proof.Machine
end

