-- ==== Sys2Proof/Laws/State.lean ====
section
/-!
SUPPORT. One law per field of the state and per update: the updated field, and every other field as it was.
-/

namespace Sys2Proof.Machine

variable (s : State)

/-! ## `State.wr` -/

@[simp] theorem State.wr_pending (p o : Nat) (v : Word) : (s.wr p o v).pending = s.pending :=
  (fun _ => rfl : ∀ x, ({ s with reg := x } : State).pending = s.pending) _
@[simp] theorem State.wr_clk (p o : Nat) (v : Word) : (s.wr p o v).clk = s.clk :=
  (fun _ => rfl : ∀ x, ({ s with reg := x } : State).clk = s.clk) _
@[simp] theorem State.wr_reg (p o : Nat) (v : Word) : (s.wr p o v).reg = NMap.set regDefault s.reg (rkey p o) v := rfl
@[simp] theorem State.wr_act (p o : Nat) (v : Word) : (s.wr p o v).act = s.act :=
  (fun _ => rfl : ∀ x, ({ s with reg := x } : State).act = s.act) _
@[simp] theorem State.wr_latch (p o : Nat) (v : Word) : (s.wr p o v).latch = s.latch :=
  (fun _ => rfl : ∀ x, ({ s with reg := x } : State).latch = s.latch) _
@[simp] theorem State.wr_read (p o : Nat) (v : Word) : (s.wr p o v).read = s.read :=
  (fun _ => rfl : ∀ x, ({ s with reg := x } : State).read = s.read) _
@[simp] theorem State.wr_stage (p o : Nat) (v : Word) : (s.wr p o v).stage = s.stage :=
  (fun _ => rfl : ∀ x, ({ s with reg := x } : State).stage = s.stage) _
@[simp] theorem State.wr_tbl (p o : Nat) (v : Word) : (s.wr p o v).tbl = s.tbl :=
  (fun _ => rfl : ∀ x, ({ s with reg := x } : State).tbl = s.tbl) _
@[simp] theorem State.wr_ctr (p o : Nat) (v : Word) : (s.wr p o v).ctr = s.ctr :=
  (fun _ => rfl : ∀ x, ({ s with reg := x } : State).ctr = s.ctr) _
@[simp] theorem State.wr_snap (p o : Nat) (v : Word) : (s.wr p o v).snap = s.snap :=
  (fun _ => rfl : ∀ x, ({ s with reg := x } : State).snap = s.snap) _
@[simp] theorem State.wr_snapTbl (p o : Nat) (v : Word) : (s.wr p o v).snapTbl = s.snapTbl :=
  (fun _ => rfl : ∀ x, ({ s with reg := x } : State).snapTbl = s.snapTbl) _
@[simp] theorem State.wr_page (p o : Nat) (v : Word) : (s.wr p o v).page = s.page :=
  (fun _ => rfl : ∀ x, ({ s with reg := x } : State).page = s.page) _
@[simp] theorem State.wr_cgrp (p o : Nat) (v : Word) : (s.wr p o v).cgrp = s.cgrp :=
  (fun _ => rfl : ∀ x, ({ s with reg := x } : State).cgrp = s.cgrp) _
@[simp] theorem State.wr_ev (p o : Nat) (v : Word) : (s.wr p o v).ev = s.ev :=
  (fun _ => rfl : ∀ x, ({ s with reg := x } : State).ev = s.ev) _
@[simp] theorem State.wr_host (p o : Nat) (v : Word) : (s.wr p o v).host = s.host :=
  (fun _ => rfl : ∀ x, ({ s with reg := x } : State).host = s.host) _
@[simp] theorem State.wr_free (p o : Nat) (v : Word) : (s.wr p o v).free = s.free :=
  (fun _ => rfl : ∀ x, ({ s with reg := x } : State).free = s.free) _
@[simp] theorem State.wr_tmu (p o : Nat) (v : Word) : (s.wr p o v).tmu = s.tmu :=
  (fun _ => rfl : ∀ x, ({ s with reg := x } : State).tmu = s.tmu) _
@[simp] theorem State.wr_mem (p o : Nat) (v : Word) : (s.wr p o v).mem = s.mem :=
  (fun _ => rfl : ∀ x, ({ s with reg := x } : State).mem = s.mem) _
@[simp] theorem State.wr_crl (p o : Nat) (v : Word) : (s.wr p o v).crl = s.crl :=
  (fun _ => rfl : ∀ x, ({ s with reg := x } : State).crl = s.crl) _
@[simp] theorem State.wr_col (p o : Nat) (v : Word) : (s.wr p o v).col = s.col :=
  (fun _ => rfl : ∀ x, ({ s with reg := x } : State).col = s.col) _
@[simp] theorem State.wr_deferred (p o : Nat) (v : Word) : (s.wr p o v).deferred = s.deferred :=
  (fun _ => rfl : ∀ x, ({ s with reg := x } : State).deferred = s.deferred) _
@[simp] theorem State.wr_vfEnabled (p o : Nat) (v : Word) : (s.wr p o v).vfEnabled = s.vfEnabled :=
  (fun _ => rfl : ∀ x, ({ s with reg := x } : State).vfEnabled = s.vfEnabled) _
@[simp] theorem State.wr_rve (p o : Nat) (v : Word) : (s.wr p o v).rve = s.rve :=
  (fun _ => rfl : ∀ x, ({ s with reg := x } : State).rve = s.rve) _
@[simp] theorem State.wr_cores (p o : Nat) (v : Word) : (s.wr p o v).cores = s.cores :=
  (fun _ => rfl : ∀ x, ({ s with reg := x } : State).cores = s.cores) _
@[simp] theorem State.wr_icl (p o : Nat) (v : Word) : (s.wr p o v).icl = s.icl :=
  (fun _ => rfl : ∀ x, ({ s with reg := x } : State).icl = s.icl) _
@[simp] theorem State.wr_cpe (p o : Nat) (v : Word) : (s.wr p o v).cpe = s.cpe :=
  (fun _ => rfl : ∀ x, ({ s with reg := x } : State).cpe = s.cpe) _
@[simp] theorem State.wr_lfw (p o : Nat) (v : Word) : (s.wr p o v).lfw = s.lfw :=
  (fun _ => rfl : ∀ x, ({ s with reg := x } : State).lfw = s.lfw) _
@[simp] theorem State.wr_esc (p o : Nat) (v : Word) : (s.wr p o v).esc = s.esc :=
  (fun _ => rfl : ∀ x, ({ s with reg := x } : State).esc = s.esc) _
@[simp] theorem State.wr_qz (p o : Nat) (v : Word) : (s.wr p o v).qz = s.qz :=
  (fun _ => rfl : ∀ x, ({ s with reg := x } : State).qz = s.qz) _
@[simp] theorem State.wr_prg (p o : Nat) (v : Word) : (s.wr p o v).prg = s.prg :=
  (fun _ => rfl : ∀ x, ({ s with reg := x } : State).prg = s.prg) _
@[simp] theorem State.wr_mxf (p o : Nat) (v : Word) : (s.wr p o v).mxf = s.mxf :=
  (fun _ => rfl : ∀ x, ({ s with reg := x } : State).mxf = s.mxf) _
@[simp] theorem State.wr_lnu (p o : Nat) (v : Word) : (s.wr p o v).lnu = s.lnu :=
  (fun _ => rfl : ∀ x, ({ s with reg := x } : State).lnu = s.lnu) _
@[simp] theorem State.wr_vce (p o : Nat) (v : Word) : (s.wr p o v).vce = s.vce :=
  (fun _ => rfl : ∀ x, ({ s with reg := x } : State).vce = s.vce) _
@[simp] theorem State.wr_wve (p o : Nat) (v : Word) : (s.wr p o v).wve = s.wve :=
  (fun _ => rfl : ∀ x, ({ s with reg := x } : State).wve = s.wve) _
@[simp] theorem State.wr_pxc (p o : Nat) (v : Word) : (s.wr p o v).pxc = s.pxc :=
  (fun _ => rfl : ∀ x, ({ s with reg := x } : State).pxc = s.pxc) _
@[simp] theorem State.wr_drc (p o : Nat) (v : Word) : (s.wr p o v).drc = s.drc :=
  (fun _ => rfl : ∀ x, ({ s with reg := x } : State).drc = s.drc) _

/-! ## `State.wfld` -/

@[simp] theorem State.wfld_pending (p o hi lo v : Nat) : (s.wfld p o hi lo v).pending = s.pending :=
  (fun _ => rfl : ∀ x, ({ s with reg := x } : State).pending = s.pending) _
@[simp] theorem State.wfld_clk (p o hi lo v : Nat) : (s.wfld p o hi lo v).clk = s.clk :=
  (fun _ => rfl : ∀ x, ({ s with reg := x } : State).clk = s.clk) _
@[simp] theorem State.wfld_reg (p o hi lo v : Nat) : (s.wfld p o hi lo v).reg = NMap.set regDefault s.reg (rkey p o) (withFld (s.rd p o) hi lo v) := rfl
@[simp] theorem State.wfld_act (p o hi lo v : Nat) : (s.wfld p o hi lo v).act = s.act :=
  (fun _ => rfl : ∀ x, ({ s with reg := x } : State).act = s.act) _
@[simp] theorem State.wfld_latch (p o hi lo v : Nat) : (s.wfld p o hi lo v).latch = s.latch :=
  (fun _ => rfl : ∀ x, ({ s with reg := x } : State).latch = s.latch) _
@[simp] theorem State.wfld_read (p o hi lo v : Nat) : (s.wfld p o hi lo v).read = s.read :=
  (fun _ => rfl : ∀ x, ({ s with reg := x } : State).read = s.read) _
@[simp] theorem State.wfld_stage (p o hi lo v : Nat) : (s.wfld p o hi lo v).stage = s.stage :=
  (fun _ => rfl : ∀ x, ({ s with reg := x } : State).stage = s.stage) _
@[simp] theorem State.wfld_tbl (p o hi lo v : Nat) : (s.wfld p o hi lo v).tbl = s.tbl :=
  (fun _ => rfl : ∀ x, ({ s with reg := x } : State).tbl = s.tbl) _
@[simp] theorem State.wfld_ctr (p o hi lo v : Nat) : (s.wfld p o hi lo v).ctr = s.ctr :=
  (fun _ => rfl : ∀ x, ({ s with reg := x } : State).ctr = s.ctr) _
@[simp] theorem State.wfld_snap (p o hi lo v : Nat) : (s.wfld p o hi lo v).snap = s.snap :=
  (fun _ => rfl : ∀ x, ({ s with reg := x } : State).snap = s.snap) _
@[simp] theorem State.wfld_snapTbl (p o hi lo v : Nat) : (s.wfld p o hi lo v).snapTbl = s.snapTbl :=
  (fun _ => rfl : ∀ x, ({ s with reg := x } : State).snapTbl = s.snapTbl) _
@[simp] theorem State.wfld_page (p o hi lo v : Nat) : (s.wfld p o hi lo v).page = s.page :=
  (fun _ => rfl : ∀ x, ({ s with reg := x } : State).page = s.page) _
@[simp] theorem State.wfld_cgrp (p o hi lo v : Nat) : (s.wfld p o hi lo v).cgrp = s.cgrp :=
  (fun _ => rfl : ∀ x, ({ s with reg := x } : State).cgrp = s.cgrp) _
@[simp] theorem State.wfld_ev (p o hi lo v : Nat) : (s.wfld p o hi lo v).ev = s.ev :=
  (fun _ => rfl : ∀ x, ({ s with reg := x } : State).ev = s.ev) _
@[simp] theorem State.wfld_host (p o hi lo v : Nat) : (s.wfld p o hi lo v).host = s.host :=
  (fun _ => rfl : ∀ x, ({ s with reg := x } : State).host = s.host) _
@[simp] theorem State.wfld_free (p o hi lo v : Nat) : (s.wfld p o hi lo v).free = s.free :=
  (fun _ => rfl : ∀ x, ({ s with reg := x } : State).free = s.free) _
@[simp] theorem State.wfld_tmu (p o hi lo v : Nat) : (s.wfld p o hi lo v).tmu = s.tmu :=
  (fun _ => rfl : ∀ x, ({ s with reg := x } : State).tmu = s.tmu) _
@[simp] theorem State.wfld_mem (p o hi lo v : Nat) : (s.wfld p o hi lo v).mem = s.mem :=
  (fun _ => rfl : ∀ x, ({ s with reg := x } : State).mem = s.mem) _
@[simp] theorem State.wfld_crl (p o hi lo v : Nat) : (s.wfld p o hi lo v).crl = s.crl :=
  (fun _ => rfl : ∀ x, ({ s with reg := x } : State).crl = s.crl) _
@[simp] theorem State.wfld_col (p o hi lo v : Nat) : (s.wfld p o hi lo v).col = s.col :=
  (fun _ => rfl : ∀ x, ({ s with reg := x } : State).col = s.col) _
@[simp] theorem State.wfld_deferred (p o hi lo v : Nat) : (s.wfld p o hi lo v).deferred = s.deferred :=
  (fun _ => rfl : ∀ x, ({ s with reg := x } : State).deferred = s.deferred) _
@[simp] theorem State.wfld_vfEnabled (p o hi lo v : Nat) : (s.wfld p o hi lo v).vfEnabled = s.vfEnabled :=
  (fun _ => rfl : ∀ x, ({ s with reg := x } : State).vfEnabled = s.vfEnabled) _
@[simp] theorem State.wfld_rve (p o hi lo v : Nat) : (s.wfld p o hi lo v).rve = s.rve :=
  (fun _ => rfl : ∀ x, ({ s with reg := x } : State).rve = s.rve) _
@[simp] theorem State.wfld_cores (p o hi lo v : Nat) : (s.wfld p o hi lo v).cores = s.cores :=
  (fun _ => rfl : ∀ x, ({ s with reg := x } : State).cores = s.cores) _
@[simp] theorem State.wfld_icl (p o hi lo v : Nat) : (s.wfld p o hi lo v).icl = s.icl :=
  (fun _ => rfl : ∀ x, ({ s with reg := x } : State).icl = s.icl) _
@[simp] theorem State.wfld_cpe (p o hi lo v : Nat) : (s.wfld p o hi lo v).cpe = s.cpe :=
  (fun _ => rfl : ∀ x, ({ s with reg := x } : State).cpe = s.cpe) _
@[simp] theorem State.wfld_lfw (p o hi lo v : Nat) : (s.wfld p o hi lo v).lfw = s.lfw :=
  (fun _ => rfl : ∀ x, ({ s with reg := x } : State).lfw = s.lfw) _
@[simp] theorem State.wfld_esc (p o hi lo v : Nat) : (s.wfld p o hi lo v).esc = s.esc :=
  (fun _ => rfl : ∀ x, ({ s with reg := x } : State).esc = s.esc) _
@[simp] theorem State.wfld_qz (p o hi lo v : Nat) : (s.wfld p o hi lo v).qz = s.qz :=
  (fun _ => rfl : ∀ x, ({ s with reg := x } : State).qz = s.qz) _
@[simp] theorem State.wfld_prg (p o hi lo v : Nat) : (s.wfld p o hi lo v).prg = s.prg :=
  (fun _ => rfl : ∀ x, ({ s with reg := x } : State).prg = s.prg) _
@[simp] theorem State.wfld_mxf (p o hi lo v : Nat) : (s.wfld p o hi lo v).mxf = s.mxf :=
  (fun _ => rfl : ∀ x, ({ s with reg := x } : State).mxf = s.mxf) _
@[simp] theorem State.wfld_lnu (p o hi lo v : Nat) : (s.wfld p o hi lo v).lnu = s.lnu :=
  (fun _ => rfl : ∀ x, ({ s with reg := x } : State).lnu = s.lnu) _
@[simp] theorem State.wfld_vce (p o hi lo v : Nat) : (s.wfld p o hi lo v).vce = s.vce :=
  (fun _ => rfl : ∀ x, ({ s with reg := x } : State).vce = s.vce) _
@[simp] theorem State.wfld_wve (p o hi lo v : Nat) : (s.wfld p o hi lo v).wve = s.wve :=
  (fun _ => rfl : ∀ x, ({ s with reg := x } : State).wve = s.wve) _
@[simp] theorem State.wfld_pxc (p o hi lo v : Nat) : (s.wfld p o hi lo v).pxc = s.pxc :=
  (fun _ => rfl : ∀ x, ({ s with reg := x } : State).pxc = s.pxc) _
@[simp] theorem State.wfld_drc (p o hi lo v : Nat) : (s.wfld p o hi lo v).drc = s.drc :=
  (fun _ => rfl : ∀ x, ({ s with reg := x } : State).drc = s.drc) _

/-! ## `State.setPg` -/

@[simp] theorem State.setPg_pending (p : Nat) (f : PageSt → PageSt) : (s.setPg p f).pending = s.pending :=
  (fun _ => rfl : ∀ x, ({ s with page := x } : State).pending = s.pending) _
@[simp] theorem State.setPg_clk (p : Nat) (f : PageSt → PageSt) : (s.setPg p f).clk = s.clk :=
  (fun _ => rfl : ∀ x, ({ s with page := x } : State).clk = s.clk) _
@[simp] theorem State.setPg_reg (p : Nat) (f : PageSt → PageSt) : (s.setPg p f).reg = s.reg :=
  (fun _ => rfl : ∀ x, ({ s with page := x } : State).reg = s.reg) _
@[simp] theorem State.setPg_act (p : Nat) (f : PageSt → PageSt) : (s.setPg p f).act = s.act :=
  (fun _ => rfl : ∀ x, ({ s with page := x } : State).act = s.act) _
@[simp] theorem State.setPg_latch (p : Nat) (f : PageSt → PageSt) : (s.setPg p f).latch = s.latch :=
  (fun _ => rfl : ∀ x, ({ s with page := x } : State).latch = s.latch) _
@[simp] theorem State.setPg_read (p : Nat) (f : PageSt → PageSt) : (s.setPg p f).read = s.read :=
  (fun _ => rfl : ∀ x, ({ s with page := x } : State).read = s.read) _
@[simp] theorem State.setPg_stage (p : Nat) (f : PageSt → PageSt) : (s.setPg p f).stage = s.stage :=
  (fun _ => rfl : ∀ x, ({ s with page := x } : State).stage = s.stage) _
@[simp] theorem State.setPg_tbl (p : Nat) (f : PageSt → PageSt) : (s.setPg p f).tbl = s.tbl :=
  (fun _ => rfl : ∀ x, ({ s with page := x } : State).tbl = s.tbl) _
@[simp] theorem State.setPg_ctr (p : Nat) (f : PageSt → PageSt) : (s.setPg p f).ctr = s.ctr :=
  (fun _ => rfl : ∀ x, ({ s with page := x } : State).ctr = s.ctr) _
@[simp] theorem State.setPg_snap (p : Nat) (f : PageSt → PageSt) : (s.setPg p f).snap = s.snap :=
  (fun _ => rfl : ∀ x, ({ s with page := x } : State).snap = s.snap) _
@[simp] theorem State.setPg_snapTbl (p : Nat) (f : PageSt → PageSt) : (s.setPg p f).snapTbl = s.snapTbl :=
  (fun _ => rfl : ∀ x, ({ s with page := x } : State).snapTbl = s.snapTbl) _
@[simp] theorem State.setPg_page (p : Nat) (f : PageSt → PageSt) : (s.setPg p f).page = NMap.set (fun _ => PageSt.init) s.page p (f (s.pg p)) := rfl
@[simp] theorem State.setPg_cgrp (p : Nat) (f : PageSt → PageSt) : (s.setPg p f).cgrp = s.cgrp :=
  (fun _ => rfl : ∀ x, ({ s with page := x } : State).cgrp = s.cgrp) _
@[simp] theorem State.setPg_ev (p : Nat) (f : PageSt → PageSt) : (s.setPg p f).ev = s.ev :=
  (fun _ => rfl : ∀ x, ({ s with page := x } : State).ev = s.ev) _
@[simp] theorem State.setPg_host (p : Nat) (f : PageSt → PageSt) : (s.setPg p f).host = s.host :=
  (fun _ => rfl : ∀ x, ({ s with page := x } : State).host = s.host) _
@[simp] theorem State.setPg_free (p : Nat) (f : PageSt → PageSt) : (s.setPg p f).free = s.free :=
  (fun _ => rfl : ∀ x, ({ s with page := x } : State).free = s.free) _
@[simp] theorem State.setPg_tmu (p : Nat) (f : PageSt → PageSt) : (s.setPg p f).tmu = s.tmu :=
  (fun _ => rfl : ∀ x, ({ s with page := x } : State).tmu = s.tmu) _
@[simp] theorem State.setPg_mem (p : Nat) (f : PageSt → PageSt) : (s.setPg p f).mem = s.mem :=
  (fun _ => rfl : ∀ x, ({ s with page := x } : State).mem = s.mem) _
@[simp] theorem State.setPg_crl (p : Nat) (f : PageSt → PageSt) : (s.setPg p f).crl = s.crl :=
  (fun _ => rfl : ∀ x, ({ s with page := x } : State).crl = s.crl) _
@[simp] theorem State.setPg_col (p : Nat) (f : PageSt → PageSt) : (s.setPg p f).col = s.col :=
  (fun _ => rfl : ∀ x, ({ s with page := x } : State).col = s.col) _
@[simp] theorem State.setPg_deferred (p : Nat) (f : PageSt → PageSt) : (s.setPg p f).deferred = s.deferred :=
  (fun _ => rfl : ∀ x, ({ s with page := x } : State).deferred = s.deferred) _
@[simp] theorem State.setPg_vfEnabled (p : Nat) (f : PageSt → PageSt) : (s.setPg p f).vfEnabled = s.vfEnabled :=
  (fun _ => rfl : ∀ x, ({ s with page := x } : State).vfEnabled = s.vfEnabled) _
@[simp] theorem State.setPg_rve (p : Nat) (f : PageSt → PageSt) : (s.setPg p f).rve = s.rve :=
  (fun _ => rfl : ∀ x, ({ s with page := x } : State).rve = s.rve) _
@[simp] theorem State.setPg_cores (p : Nat) (f : PageSt → PageSt) : (s.setPg p f).cores = s.cores :=
  (fun _ => rfl : ∀ x, ({ s with page := x } : State).cores = s.cores) _
@[simp] theorem State.setPg_icl (p : Nat) (f : PageSt → PageSt) : (s.setPg p f).icl = s.icl :=
  (fun _ => rfl : ∀ x, ({ s with page := x } : State).icl = s.icl) _
@[simp] theorem State.setPg_cpe (p : Nat) (f : PageSt → PageSt) : (s.setPg p f).cpe = s.cpe :=
  (fun _ => rfl : ∀ x, ({ s with page := x } : State).cpe = s.cpe) _
@[simp] theorem State.setPg_lfw (p : Nat) (f : PageSt → PageSt) : (s.setPg p f).lfw = s.lfw :=
  (fun _ => rfl : ∀ x, ({ s with page := x } : State).lfw = s.lfw) _
@[simp] theorem State.setPg_esc (p : Nat) (f : PageSt → PageSt) : (s.setPg p f).esc = s.esc :=
  (fun _ => rfl : ∀ x, ({ s with page := x } : State).esc = s.esc) _
@[simp] theorem State.setPg_qz (p : Nat) (f : PageSt → PageSt) : (s.setPg p f).qz = s.qz :=
  (fun _ => rfl : ∀ x, ({ s with page := x } : State).qz = s.qz) _
@[simp] theorem State.setPg_prg (p : Nat) (f : PageSt → PageSt) : (s.setPg p f).prg = s.prg :=
  (fun _ => rfl : ∀ x, ({ s with page := x } : State).prg = s.prg) _
@[simp] theorem State.setPg_mxf (p : Nat) (f : PageSt → PageSt) : (s.setPg p f).mxf = s.mxf :=
  (fun _ => rfl : ∀ x, ({ s with page := x } : State).mxf = s.mxf) _
@[simp] theorem State.setPg_lnu (p : Nat) (f : PageSt → PageSt) : (s.setPg p f).lnu = s.lnu :=
  (fun _ => rfl : ∀ x, ({ s with page := x } : State).lnu = s.lnu) _
@[simp] theorem State.setPg_vce (p : Nat) (f : PageSt → PageSt) : (s.setPg p f).vce = s.vce :=
  (fun _ => rfl : ∀ x, ({ s with page := x } : State).vce = s.vce) _
@[simp] theorem State.setPg_wve (p : Nat) (f : PageSt → PageSt) : (s.setPg p f).wve = s.wve :=
  (fun _ => rfl : ∀ x, ({ s with page := x } : State).wve = s.wve) _
@[simp] theorem State.setPg_pxc (p : Nat) (f : PageSt → PageSt) : (s.setPg p f).pxc = s.pxc :=
  (fun _ => rfl : ∀ x, ({ s with page := x } : State).pxc = s.pxc) _
@[simp] theorem State.setPg_drc (p : Nat) (f : PageSt → PageSt) : (s.setPg p f).drc = s.drc :=
  (fun _ => rfl : ∀ x, ({ s with page := x } : State).drc = s.drc) _

/-! ## `State.setCtr` -/

@[simp] theorem State.setCtr_pending (p : Nat) (c : Ctr) (i v : Nat) : (s.setCtr p c i v).pending = s.pending :=
  (fun _ => rfl : ∀ x, ({ s with ctr := x } : State).pending = s.pending) _
@[simp] theorem State.setCtr_clk (p : Nat) (c : Ctr) (i v : Nat) : (s.setCtr p c i v).clk = s.clk :=
  (fun _ => rfl : ∀ x, ({ s with ctr := x } : State).clk = s.clk) _
@[simp] theorem State.setCtr_reg (p : Nat) (c : Ctr) (i v : Nat) : (s.setCtr p c i v).reg = s.reg :=
  (fun _ => rfl : ∀ x, ({ s with ctr := x } : State).reg = s.reg) _
@[simp] theorem State.setCtr_act (p : Nat) (c : Ctr) (i v : Nat) : (s.setCtr p c i v).act = s.act :=
  (fun _ => rfl : ∀ x, ({ s with ctr := x } : State).act = s.act) _
@[simp] theorem State.setCtr_latch (p : Nat) (c : Ctr) (i v : Nat) : (s.setCtr p c i v).latch = s.latch :=
  (fun _ => rfl : ∀ x, ({ s with ctr := x } : State).latch = s.latch) _
@[simp] theorem State.setCtr_read (p : Nat) (c : Ctr) (i v : Nat) : (s.setCtr p c i v).read = s.read :=
  (fun _ => rfl : ∀ x, ({ s with ctr := x } : State).read = s.read) _
@[simp] theorem State.setCtr_stage (p : Nat) (c : Ctr) (i v : Nat) : (s.setCtr p c i v).stage = s.stage :=
  (fun _ => rfl : ∀ x, ({ s with ctr := x } : State).stage = s.stage) _
@[simp] theorem State.setCtr_tbl (p : Nat) (c : Ctr) (i v : Nat) : (s.setCtr p c i v).tbl = s.tbl :=
  (fun _ => rfl : ∀ x, ({ s with ctr := x } : State).tbl = s.tbl) _
@[simp] theorem State.setCtr_ctr (p : Nat) (c : Ctr) (i v : Nat) : (s.setCtr p c i v).ctr = NMap.set (fun _ => 0) s.ctr (ckey p c i) v := rfl
@[simp] theorem State.setCtr_snap (p : Nat) (c : Ctr) (i v : Nat) : (s.setCtr p c i v).snap = s.snap :=
  (fun _ => rfl : ∀ x, ({ s with ctr := x } : State).snap = s.snap) _
@[simp] theorem State.setCtr_snapTbl (p : Nat) (c : Ctr) (i v : Nat) : (s.setCtr p c i v).snapTbl = s.snapTbl :=
  (fun _ => rfl : ∀ x, ({ s with ctr := x } : State).snapTbl = s.snapTbl) _
@[simp] theorem State.setCtr_page (p : Nat) (c : Ctr) (i v : Nat) : (s.setCtr p c i v).page = s.page :=
  (fun _ => rfl : ∀ x, ({ s with ctr := x } : State).page = s.page) _
@[simp] theorem State.setCtr_cgrp (p : Nat) (c : Ctr) (i v : Nat) : (s.setCtr p c i v).cgrp = s.cgrp :=
  (fun _ => rfl : ∀ x, ({ s with ctr := x } : State).cgrp = s.cgrp) _
@[simp] theorem State.setCtr_ev (p : Nat) (c : Ctr) (i v : Nat) : (s.setCtr p c i v).ev = s.ev :=
  (fun _ => rfl : ∀ x, ({ s with ctr := x } : State).ev = s.ev) _
@[simp] theorem State.setCtr_host (p : Nat) (c : Ctr) (i v : Nat) : (s.setCtr p c i v).host = s.host :=
  (fun _ => rfl : ∀ x, ({ s with ctr := x } : State).host = s.host) _
@[simp] theorem State.setCtr_free (p : Nat) (c : Ctr) (i v : Nat) : (s.setCtr p c i v).free = s.free :=
  (fun _ => rfl : ∀ x, ({ s with ctr := x } : State).free = s.free) _
@[simp] theorem State.setCtr_tmu (p : Nat) (c : Ctr) (i v : Nat) : (s.setCtr p c i v).tmu = s.tmu :=
  (fun _ => rfl : ∀ x, ({ s with ctr := x } : State).tmu = s.tmu) _
@[simp] theorem State.setCtr_mem (p : Nat) (c : Ctr) (i v : Nat) : (s.setCtr p c i v).mem = s.mem :=
  (fun _ => rfl : ∀ x, ({ s with ctr := x } : State).mem = s.mem) _
@[simp] theorem State.setCtr_crl (p : Nat) (c : Ctr) (i v : Nat) : (s.setCtr p c i v).crl = s.crl :=
  (fun _ => rfl : ∀ x, ({ s with ctr := x } : State).crl = s.crl) _
@[simp] theorem State.setCtr_col (p : Nat) (c : Ctr) (i v : Nat) : (s.setCtr p c i v).col = s.col :=
  (fun _ => rfl : ∀ x, ({ s with ctr := x } : State).col = s.col) _
@[simp] theorem State.setCtr_deferred (p : Nat) (c : Ctr) (i v : Nat) : (s.setCtr p c i v).deferred = s.deferred :=
  (fun _ => rfl : ∀ x, ({ s with ctr := x } : State).deferred = s.deferred) _
@[simp] theorem State.setCtr_vfEnabled (p : Nat) (c : Ctr) (i v : Nat) : (s.setCtr p c i v).vfEnabled = s.vfEnabled :=
  (fun _ => rfl : ∀ x, ({ s with ctr := x } : State).vfEnabled = s.vfEnabled) _
@[simp] theorem State.setCtr_rve (p : Nat) (c : Ctr) (i v : Nat) : (s.setCtr p c i v).rve = s.rve :=
  (fun _ => rfl : ∀ x, ({ s with ctr := x } : State).rve = s.rve) _
@[simp] theorem State.setCtr_cores (p : Nat) (c : Ctr) (i v : Nat) : (s.setCtr p c i v).cores = s.cores :=
  (fun _ => rfl : ∀ x, ({ s with ctr := x } : State).cores = s.cores) _
@[simp] theorem State.setCtr_icl (p : Nat) (c : Ctr) (i v : Nat) : (s.setCtr p c i v).icl = s.icl :=
  (fun _ => rfl : ∀ x, ({ s with ctr := x } : State).icl = s.icl) _
@[simp] theorem State.setCtr_cpe (p : Nat) (c : Ctr) (i v : Nat) : (s.setCtr p c i v).cpe = s.cpe :=
  (fun _ => rfl : ∀ x, ({ s with ctr := x } : State).cpe = s.cpe) _
@[simp] theorem State.setCtr_lfw (p : Nat) (c : Ctr) (i v : Nat) : (s.setCtr p c i v).lfw = s.lfw :=
  (fun _ => rfl : ∀ x, ({ s with ctr := x } : State).lfw = s.lfw) _
@[simp] theorem State.setCtr_esc (p : Nat) (c : Ctr) (i v : Nat) : (s.setCtr p c i v).esc = s.esc :=
  (fun _ => rfl : ∀ x, ({ s with ctr := x } : State).esc = s.esc) _
@[simp] theorem State.setCtr_qz (p : Nat) (c : Ctr) (i v : Nat) : (s.setCtr p c i v).qz = s.qz :=
  (fun _ => rfl : ∀ x, ({ s with ctr := x } : State).qz = s.qz) _
@[simp] theorem State.setCtr_prg (p : Nat) (c : Ctr) (i v : Nat) : (s.setCtr p c i v).prg = s.prg :=
  (fun _ => rfl : ∀ x, ({ s with ctr := x } : State).prg = s.prg) _
@[simp] theorem State.setCtr_mxf (p : Nat) (c : Ctr) (i v : Nat) : (s.setCtr p c i v).mxf = s.mxf :=
  (fun _ => rfl : ∀ x, ({ s with ctr := x } : State).mxf = s.mxf) _
@[simp] theorem State.setCtr_lnu (p : Nat) (c : Ctr) (i v : Nat) : (s.setCtr p c i v).lnu = s.lnu :=
  (fun _ => rfl : ∀ x, ({ s with ctr := x } : State).lnu = s.lnu) _
@[simp] theorem State.setCtr_vce (p : Nat) (c : Ctr) (i v : Nat) : (s.setCtr p c i v).vce = s.vce :=
  (fun _ => rfl : ∀ x, ({ s with ctr := x } : State).vce = s.vce) _
@[simp] theorem State.setCtr_wve (p : Nat) (c : Ctr) (i v : Nat) : (s.setCtr p c i v).wve = s.wve :=
  (fun _ => rfl : ∀ x, ({ s with ctr := x } : State).wve = s.wve) _
@[simp] theorem State.setCtr_pxc (p : Nat) (c : Ctr) (i v : Nat) : (s.setCtr p c i v).pxc = s.pxc :=
  (fun _ => rfl : ∀ x, ({ s with ctr := x } : State).pxc = s.pxc) _
@[simp] theorem State.setCtr_drc (p : Nat) (c : Ctr) (i v : Nat) : (s.setCtr p c i v).drc = s.drc :=
  (fun _ => rfl : ∀ x, ({ s with ctr := x } : State).drc = s.drc) _

/-! ## `State.tset` -/

@[simp] theorem State.tset_pending (p t b e : Nat) (ws : List Word) : (s.tset p t b e ws).pending = s.pending :=
  (fun _ => rfl : ∀ x, ({ s with tbl := x } : State).pending = s.pending) _
@[simp] theorem State.tset_clk (p t b e : Nat) (ws : List Word) : (s.tset p t b e ws).clk = s.clk :=
  (fun _ => rfl : ∀ x, ({ s with tbl := x } : State).clk = s.clk) _
@[simp] theorem State.tset_reg (p t b e : Nat) (ws : List Word) : (s.tset p t b e ws).reg = s.reg :=
  (fun _ => rfl : ∀ x, ({ s with tbl := x } : State).reg = s.reg) _
@[simp] theorem State.tset_act (p t b e : Nat) (ws : List Word) : (s.tset p t b e ws).act = s.act :=
  (fun _ => rfl : ∀ x, ({ s with tbl := x } : State).act = s.act) _
@[simp] theorem State.tset_latch (p t b e : Nat) (ws : List Word) : (s.tset p t b e ws).latch = s.latch :=
  (fun _ => rfl : ∀ x, ({ s with tbl := x } : State).latch = s.latch) _
@[simp] theorem State.tset_read (p t b e : Nat) (ws : List Word) : (s.tset p t b e ws).read = s.read :=
  (fun _ => rfl : ∀ x, ({ s with tbl := x } : State).read = s.read) _
@[simp] theorem State.tset_stage (p t b e : Nat) (ws : List Word) : (s.tset p t b e ws).stage = s.stage :=
  (fun _ => rfl : ∀ x, ({ s with tbl := x } : State).stage = s.stage) _
@[simp] theorem State.tset_tbl (p t b e : Nat) (ws : List Word) : (s.tset p t b e ws).tbl = NMap.set tblDefault s.tbl (tkey p t b e) (stripWords ws) := rfl
@[simp] theorem State.tset_ctr (p t b e : Nat) (ws : List Word) : (s.tset p t b e ws).ctr = s.ctr :=
  (fun _ => rfl : ∀ x, ({ s with tbl := x } : State).ctr = s.ctr) _
@[simp] theorem State.tset_snap (p t b e : Nat) (ws : List Word) : (s.tset p t b e ws).snap = s.snap :=
  (fun _ => rfl : ∀ x, ({ s with tbl := x } : State).snap = s.snap) _
@[simp] theorem State.tset_snapTbl (p t b e : Nat) (ws : List Word) : (s.tset p t b e ws).snapTbl = s.snapTbl :=
  (fun _ => rfl : ∀ x, ({ s with tbl := x } : State).snapTbl = s.snapTbl) _
@[simp] theorem State.tset_page (p t b e : Nat) (ws : List Word) : (s.tset p t b e ws).page = s.page :=
  (fun _ => rfl : ∀ x, ({ s with tbl := x } : State).page = s.page) _
@[simp] theorem State.tset_cgrp (p t b e : Nat) (ws : List Word) : (s.tset p t b e ws).cgrp = s.cgrp :=
  (fun _ => rfl : ∀ x, ({ s with tbl := x } : State).cgrp = s.cgrp) _
@[simp] theorem State.tset_ev (p t b e : Nat) (ws : List Word) : (s.tset p t b e ws).ev = s.ev :=
  (fun _ => rfl : ∀ x, ({ s with tbl := x } : State).ev = s.ev) _
@[simp] theorem State.tset_host (p t b e : Nat) (ws : List Word) : (s.tset p t b e ws).host = s.host :=
  (fun _ => rfl : ∀ x, ({ s with tbl := x } : State).host = s.host) _
@[simp] theorem State.tset_free (p t b e : Nat) (ws : List Word) : (s.tset p t b e ws).free = s.free :=
  (fun _ => rfl : ∀ x, ({ s with tbl := x } : State).free = s.free) _
@[simp] theorem State.tset_tmu (p t b e : Nat) (ws : List Word) : (s.tset p t b e ws).tmu = s.tmu :=
  (fun _ => rfl : ∀ x, ({ s with tbl := x } : State).tmu = s.tmu) _
@[simp] theorem State.tset_mem (p t b e : Nat) (ws : List Word) : (s.tset p t b e ws).mem = s.mem :=
  (fun _ => rfl : ∀ x, ({ s with tbl := x } : State).mem = s.mem) _
@[simp] theorem State.tset_crl (p t b e : Nat) (ws : List Word) : (s.tset p t b e ws).crl = s.crl :=
  (fun _ => rfl : ∀ x, ({ s with tbl := x } : State).crl = s.crl) _
@[simp] theorem State.tset_col (p t b e : Nat) (ws : List Word) : (s.tset p t b e ws).col = s.col :=
  (fun _ => rfl : ∀ x, ({ s with tbl := x } : State).col = s.col) _
@[simp] theorem State.tset_deferred (p t b e : Nat) (ws : List Word) : (s.tset p t b e ws).deferred = s.deferred :=
  (fun _ => rfl : ∀ x, ({ s with tbl := x } : State).deferred = s.deferred) _
@[simp] theorem State.tset_vfEnabled (p t b e : Nat) (ws : List Word) : (s.tset p t b e ws).vfEnabled = s.vfEnabled :=
  (fun _ => rfl : ∀ x, ({ s with tbl := x } : State).vfEnabled = s.vfEnabled) _
@[simp] theorem State.tset_rve (p t b e : Nat) (ws : List Word) : (s.tset p t b e ws).rve = s.rve :=
  (fun _ => rfl : ∀ x, ({ s with tbl := x } : State).rve = s.rve) _
@[simp] theorem State.tset_cores (p t b e : Nat) (ws : List Word) : (s.tset p t b e ws).cores = s.cores :=
  (fun _ => rfl : ∀ x, ({ s with tbl := x } : State).cores = s.cores) _
@[simp] theorem State.tset_icl (p t b e : Nat) (ws : List Word) : (s.tset p t b e ws).icl = s.icl :=
  (fun _ => rfl : ∀ x, ({ s with tbl := x } : State).icl = s.icl) _
@[simp] theorem State.tset_cpe (p t b e : Nat) (ws : List Word) : (s.tset p t b e ws).cpe = s.cpe :=
  (fun _ => rfl : ∀ x, ({ s with tbl := x } : State).cpe = s.cpe) _
@[simp] theorem State.tset_lfw (p t b e : Nat) (ws : List Word) : (s.tset p t b e ws).lfw = s.lfw :=
  (fun _ => rfl : ∀ x, ({ s with tbl := x } : State).lfw = s.lfw) _
@[simp] theorem State.tset_esc (p t b e : Nat) (ws : List Word) : (s.tset p t b e ws).esc = s.esc :=
  (fun _ => rfl : ∀ x, ({ s with tbl := x } : State).esc = s.esc) _
@[simp] theorem State.tset_qz (p t b e : Nat) (ws : List Word) : (s.tset p t b e ws).qz = s.qz :=
  (fun _ => rfl : ∀ x, ({ s with tbl := x } : State).qz = s.qz) _
@[simp] theorem State.tset_prg (p t b e : Nat) (ws : List Word) : (s.tset p t b e ws).prg = s.prg :=
  (fun _ => rfl : ∀ x, ({ s with tbl := x } : State).prg = s.prg) _
@[simp] theorem State.tset_mxf (p t b e : Nat) (ws : List Word) : (s.tset p t b e ws).mxf = s.mxf :=
  (fun _ => rfl : ∀ x, ({ s with tbl := x } : State).mxf = s.mxf) _
@[simp] theorem State.tset_lnu (p t b e : Nat) (ws : List Word) : (s.tset p t b e ws).lnu = s.lnu :=
  (fun _ => rfl : ∀ x, ({ s with tbl := x } : State).lnu = s.lnu) _
@[simp] theorem State.tset_vce (p t b e : Nat) (ws : List Word) : (s.tset p t b e ws).vce = s.vce :=
  (fun _ => rfl : ∀ x, ({ s with tbl := x } : State).vce = s.vce) _
@[simp] theorem State.tset_wve (p t b e : Nat) (ws : List Word) : (s.tset p t b e ws).wve = s.wve :=
  (fun _ => rfl : ∀ x, ({ s with tbl := x } : State).wve = s.wve) _
@[simp] theorem State.tset_pxc (p t b e : Nat) (ws : List Word) : (s.tset p t b e ws).pxc = s.pxc :=
  (fun _ => rfl : ∀ x, ({ s with tbl := x } : State).pxc = s.pxc) _
@[simp] theorem State.tset_drc (p t b e : Nat) (ws : List Word) : (s.tset p t b e ws).drc = s.drc :=
  (fun _ => rfl : ∀ x, ({ s with tbl := x } : State).drc = s.drc) _

/-! ## `State.tsetF` -/

@[simp] theorem State.tsetF_pending (p t b e i hi lo v : Nat) : (s.tsetF p t b e i hi lo v).pending = s.pending :=
  (fun _ => rfl : ∀ x, ({ s with tbl := x } : State).pending = s.pending) _
@[simp] theorem State.tsetF_clk (p t b e i hi lo v : Nat) : (s.tsetF p t b e i hi lo v).clk = s.clk :=
  (fun _ => rfl : ∀ x, ({ s with tbl := x } : State).clk = s.clk) _
@[simp] theorem State.tsetF_reg (p t b e i hi lo v : Nat) : (s.tsetF p t b e i hi lo v).reg = s.reg :=
  (fun _ => rfl : ∀ x, ({ s with tbl := x } : State).reg = s.reg) _
@[simp] theorem State.tsetF_act (p t b e i hi lo v : Nat) : (s.tsetF p t b e i hi lo v).act = s.act :=
  (fun _ => rfl : ∀ x, ({ s with tbl := x } : State).act = s.act) _
@[simp] theorem State.tsetF_latch (p t b e i hi lo v : Nat) : (s.tsetF p t b e i hi lo v).latch = s.latch :=
  (fun _ => rfl : ∀ x, ({ s with tbl := x } : State).latch = s.latch) _
@[simp] theorem State.tsetF_read (p t b e i hi lo v : Nat) : (s.tsetF p t b e i hi lo v).read = s.read :=
  (fun _ => rfl : ∀ x, ({ s with tbl := x } : State).read = s.read) _
@[simp] theorem State.tsetF_stage (p t b e i hi lo v : Nat) : (s.tsetF p t b e i hi lo v).stage = s.stage :=
  (fun _ => rfl : ∀ x, ({ s with tbl := x } : State).stage = s.stage) _
@[simp] theorem State.tsetF_ctr (p t b e i hi lo v : Nat) : (s.tsetF p t b e i hi lo v).ctr = s.ctr :=
  (fun _ => rfl : ∀ x, ({ s with tbl := x } : State).ctr = s.ctr) _
@[simp] theorem State.tsetF_snap (p t b e i hi lo v : Nat) : (s.tsetF p t b e i hi lo v).snap = s.snap :=
  (fun _ => rfl : ∀ x, ({ s with tbl := x } : State).snap = s.snap) _
@[simp] theorem State.tsetF_snapTbl (p t b e i hi lo v : Nat) : (s.tsetF p t b e i hi lo v).snapTbl = s.snapTbl :=
  (fun _ => rfl : ∀ x, ({ s with tbl := x } : State).snapTbl = s.snapTbl) _
@[simp] theorem State.tsetF_page (p t b e i hi lo v : Nat) : (s.tsetF p t b e i hi lo v).page = s.page :=
  (fun _ => rfl : ∀ x, ({ s with tbl := x } : State).page = s.page) _
@[simp] theorem State.tsetF_cgrp (p t b e i hi lo v : Nat) : (s.tsetF p t b e i hi lo v).cgrp = s.cgrp :=
  (fun _ => rfl : ∀ x, ({ s with tbl := x } : State).cgrp = s.cgrp) _
@[simp] theorem State.tsetF_ev (p t b e i hi lo v : Nat) : (s.tsetF p t b e i hi lo v).ev = s.ev :=
  (fun _ => rfl : ∀ x, ({ s with tbl := x } : State).ev = s.ev) _
@[simp] theorem State.tsetF_host (p t b e i hi lo v : Nat) : (s.tsetF p t b e i hi lo v).host = s.host :=
  (fun _ => rfl : ∀ x, ({ s with tbl := x } : State).host = s.host) _
@[simp] theorem State.tsetF_free (p t b e i hi lo v : Nat) : (s.tsetF p t b e i hi lo v).free = s.free :=
  (fun _ => rfl : ∀ x, ({ s with tbl := x } : State).free = s.free) _
@[simp] theorem State.tsetF_tmu (p t b e i hi lo v : Nat) : (s.tsetF p t b e i hi lo v).tmu = s.tmu :=
  (fun _ => rfl : ∀ x, ({ s with tbl := x } : State).tmu = s.tmu) _
@[simp] theorem State.tsetF_mem (p t b e i hi lo v : Nat) : (s.tsetF p t b e i hi lo v).mem = s.mem :=
  (fun _ => rfl : ∀ x, ({ s with tbl := x } : State).mem = s.mem) _
@[simp] theorem State.tsetF_crl (p t b e i hi lo v : Nat) : (s.tsetF p t b e i hi lo v).crl = s.crl :=
  (fun _ => rfl : ∀ x, ({ s with tbl := x } : State).crl = s.crl) _
@[simp] theorem State.tsetF_col (p t b e i hi lo v : Nat) : (s.tsetF p t b e i hi lo v).col = s.col :=
  (fun _ => rfl : ∀ x, ({ s with tbl := x } : State).col = s.col) _
@[simp] theorem State.tsetF_deferred (p t b e i hi lo v : Nat) : (s.tsetF p t b e i hi lo v).deferred = s.deferred :=
  (fun _ => rfl : ∀ x, ({ s with tbl := x } : State).deferred = s.deferred) _
@[simp] theorem State.tsetF_vfEnabled (p t b e i hi lo v : Nat) : (s.tsetF p t b e i hi lo v).vfEnabled = s.vfEnabled :=
  (fun _ => rfl : ∀ x, ({ s with tbl := x } : State).vfEnabled = s.vfEnabled) _
@[simp] theorem State.tsetF_rve (p t b e i hi lo v : Nat) : (s.tsetF p t b e i hi lo v).rve = s.rve :=
  (fun _ => rfl : ∀ x, ({ s with tbl := x } : State).rve = s.rve) _
@[simp] theorem State.tsetF_cores (p t b e i hi lo v : Nat) : (s.tsetF p t b e i hi lo v).cores = s.cores :=
  (fun _ => rfl : ∀ x, ({ s with tbl := x } : State).cores = s.cores) _
@[simp] theorem State.tsetF_icl (p t b e i hi lo v : Nat) : (s.tsetF p t b e i hi lo v).icl = s.icl :=
  (fun _ => rfl : ∀ x, ({ s with tbl := x } : State).icl = s.icl) _
@[simp] theorem State.tsetF_cpe (p t b e i hi lo v : Nat) : (s.tsetF p t b e i hi lo v).cpe = s.cpe :=
  (fun _ => rfl : ∀ x, ({ s with tbl := x } : State).cpe = s.cpe) _
@[simp] theorem State.tsetF_lfw (p t b e i hi lo v : Nat) : (s.tsetF p t b e i hi lo v).lfw = s.lfw :=
  (fun _ => rfl : ∀ x, ({ s with tbl := x } : State).lfw = s.lfw) _
@[simp] theorem State.tsetF_esc (p t b e i hi lo v : Nat) : (s.tsetF p t b e i hi lo v).esc = s.esc :=
  (fun _ => rfl : ∀ x, ({ s with tbl := x } : State).esc = s.esc) _
@[simp] theorem State.tsetF_qz (p t b e i hi lo v : Nat) : (s.tsetF p t b e i hi lo v).qz = s.qz :=
  (fun _ => rfl : ∀ x, ({ s with tbl := x } : State).qz = s.qz) _
@[simp] theorem State.tsetF_prg (p t b e i hi lo v : Nat) : (s.tsetF p t b e i hi lo v).prg = s.prg :=
  (fun _ => rfl : ∀ x, ({ s with tbl := x } : State).prg = s.prg) _
@[simp] theorem State.tsetF_mxf (p t b e i hi lo v : Nat) : (s.tsetF p t b e i hi lo v).mxf = s.mxf :=
  (fun _ => rfl : ∀ x, ({ s with tbl := x } : State).mxf = s.mxf) _
@[simp] theorem State.tsetF_lnu (p t b e i hi lo v : Nat) : (s.tsetF p t b e i hi lo v).lnu = s.lnu :=
  (fun _ => rfl : ∀ x, ({ s with tbl := x } : State).lnu = s.lnu) _
@[simp] theorem State.tsetF_vce (p t b e i hi lo v : Nat) : (s.tsetF p t b e i hi lo v).vce = s.vce :=
  (fun _ => rfl : ∀ x, ({ s with tbl := x } : State).vce = s.vce) _
@[simp] theorem State.tsetF_wve (p t b e i hi lo v : Nat) : (s.tsetF p t b e i hi lo v).wve = s.wve :=
  (fun _ => rfl : ∀ x, ({ s with tbl := x } : State).wve = s.wve) _
@[simp] theorem State.tsetF_pxc (p t b e i hi lo v : Nat) : (s.tsetF p t b e i hi lo v).pxc = s.pxc :=
  (fun _ => rfl : ∀ x, ({ s with tbl := x } : State).pxc = s.pxc) _
@[simp] theorem State.tsetF_drc (p t b e i hi lo v : Nat) : (s.tsetF p t b e i hi lo v).drc = s.drc :=
  (fun _ => rfl : ∀ x, ({ s with tbl := x } : State).drc = s.drc) _

/-! ## `State.atStep` -/

@[simp] theorem State.atStep_pending (k : Nat) : (s.atStep k).pending = s.pending :=
  (fun _ => rfl : ∀ x, ({ s with clk := x } : State).pending = s.pending) _
@[simp] theorem State.atStep_clk (k : Nat) : (s.atStep k).clk = { s.clk with phase := k } := rfl
@[simp] theorem State.atStep_reg (k : Nat) : (s.atStep k).reg = s.reg :=
  (fun _ => rfl : ∀ x, ({ s with clk := x } : State).reg = s.reg) _
@[simp] theorem State.atStep_act (k : Nat) : (s.atStep k).act = s.act :=
  (fun _ => rfl : ∀ x, ({ s with clk := x } : State).act = s.act) _
@[simp] theorem State.atStep_latch (k : Nat) : (s.atStep k).latch = s.latch :=
  (fun _ => rfl : ∀ x, ({ s with clk := x } : State).latch = s.latch) _
@[simp] theorem State.atStep_read (k : Nat) : (s.atStep k).read = s.read :=
  (fun _ => rfl : ∀ x, ({ s with clk := x } : State).read = s.read) _
@[simp] theorem State.atStep_stage (k : Nat) : (s.atStep k).stage = s.stage :=
  (fun _ => rfl : ∀ x, ({ s with clk := x } : State).stage = s.stage) _
@[simp] theorem State.atStep_tbl (k : Nat) : (s.atStep k).tbl = s.tbl :=
  (fun _ => rfl : ∀ x, ({ s with clk := x } : State).tbl = s.tbl) _
@[simp] theorem State.atStep_ctr (k : Nat) : (s.atStep k).ctr = s.ctr :=
  (fun _ => rfl : ∀ x, ({ s with clk := x } : State).ctr = s.ctr) _
@[simp] theorem State.atStep_snap (k : Nat) : (s.atStep k).snap = s.snap :=
  (fun _ => rfl : ∀ x, ({ s with clk := x } : State).snap = s.snap) _
@[simp] theorem State.atStep_snapTbl (k : Nat) : (s.atStep k).snapTbl = s.snapTbl :=
  (fun _ => rfl : ∀ x, ({ s with clk := x } : State).snapTbl = s.snapTbl) _
@[simp] theorem State.atStep_page (k : Nat) : (s.atStep k).page = s.page :=
  (fun _ => rfl : ∀ x, ({ s with clk := x } : State).page = s.page) _
@[simp] theorem State.atStep_cgrp (k : Nat) : (s.atStep k).cgrp = s.cgrp :=
  (fun _ => rfl : ∀ x, ({ s with clk := x } : State).cgrp = s.cgrp) _
@[simp] theorem State.atStep_ev (k : Nat) : (s.atStep k).ev = s.ev :=
  (fun _ => rfl : ∀ x, ({ s with clk := x } : State).ev = s.ev) _
@[simp] theorem State.atStep_host (k : Nat) : (s.atStep k).host = s.host :=
  (fun _ => rfl : ∀ x, ({ s with clk := x } : State).host = s.host) _
@[simp] theorem State.atStep_free (k : Nat) : (s.atStep k).free = s.free :=
  (fun _ => rfl : ∀ x, ({ s with clk := x } : State).free = s.free) _
@[simp] theorem State.atStep_tmu (k : Nat) : (s.atStep k).tmu = s.tmu :=
  (fun _ => rfl : ∀ x, ({ s with clk := x } : State).tmu = s.tmu) _
@[simp] theorem State.atStep_mem (k : Nat) : (s.atStep k).mem = s.mem :=
  (fun _ => rfl : ∀ x, ({ s with clk := x } : State).mem = s.mem) _
@[simp] theorem State.atStep_crl (k : Nat) : (s.atStep k).crl = s.crl :=
  (fun _ => rfl : ∀ x, ({ s with clk := x } : State).crl = s.crl) _
@[simp] theorem State.atStep_col (k : Nat) : (s.atStep k).col = s.col :=
  (fun _ => rfl : ∀ x, ({ s with clk := x } : State).col = s.col) _
@[simp] theorem State.atStep_deferred (k : Nat) : (s.atStep k).deferred = s.deferred :=
  (fun _ => rfl : ∀ x, ({ s with clk := x } : State).deferred = s.deferred) _
@[simp] theorem State.atStep_vfEnabled (k : Nat) : (s.atStep k).vfEnabled = s.vfEnabled :=
  (fun _ => rfl : ∀ x, ({ s with clk := x } : State).vfEnabled = s.vfEnabled) _
@[simp] theorem State.atStep_rve (k : Nat) : (s.atStep k).rve = s.rve :=
  (fun _ => rfl : ∀ x, ({ s with clk := x } : State).rve = s.rve) _
@[simp] theorem State.atStep_cores (k : Nat) : (s.atStep k).cores = s.cores :=
  (fun _ => rfl : ∀ x, ({ s with clk := x } : State).cores = s.cores) _
@[simp] theorem State.atStep_icl (k : Nat) : (s.atStep k).icl = s.icl :=
  (fun _ => rfl : ∀ x, ({ s with clk := x } : State).icl = s.icl) _
@[simp] theorem State.atStep_cpe (k : Nat) : (s.atStep k).cpe = s.cpe :=
  (fun _ => rfl : ∀ x, ({ s with clk := x } : State).cpe = s.cpe) _
@[simp] theorem State.atStep_lfw (k : Nat) : (s.atStep k).lfw = s.lfw :=
  (fun _ => rfl : ∀ x, ({ s with clk := x } : State).lfw = s.lfw) _
@[simp] theorem State.atStep_esc (k : Nat) : (s.atStep k).esc = s.esc :=
  (fun _ => rfl : ∀ x, ({ s with clk := x } : State).esc = s.esc) _
@[simp] theorem State.atStep_qz (k : Nat) : (s.atStep k).qz = s.qz :=
  (fun _ => rfl : ∀ x, ({ s with clk := x } : State).qz = s.qz) _
@[simp] theorem State.atStep_prg (k : Nat) : (s.atStep k).prg = s.prg :=
  (fun _ => rfl : ∀ x, ({ s with clk := x } : State).prg = s.prg) _
@[simp] theorem State.atStep_mxf (k : Nat) : (s.atStep k).mxf = s.mxf :=
  (fun _ => rfl : ∀ x, ({ s with clk := x } : State).mxf = s.mxf) _
@[simp] theorem State.atStep_lnu (k : Nat) : (s.atStep k).lnu = s.lnu :=
  (fun _ => rfl : ∀ x, ({ s with clk := x } : State).lnu = s.lnu) _
@[simp] theorem State.atStep_vce (k : Nat) : (s.atStep k).vce = s.vce :=
  (fun _ => rfl : ∀ x, ({ s with clk := x } : State).vce = s.vce) _
@[simp] theorem State.atStep_wve (k : Nat) : (s.atStep k).wve = s.wve :=
  (fun _ => rfl : ∀ x, ({ s with clk := x } : State).wve = s.wve) _
@[simp] theorem State.atStep_pxc (k : Nat) : (s.atStep k).pxc = s.pxc :=
  (fun _ => rfl : ∀ x, ({ s with clk := x } : State).pxc = s.pxc) _
@[simp] theorem State.atStep_drc (k : Nat) : (s.atStep k).drc = s.drc :=
  (fun _ => rfl : ∀ x, ({ s with clk := x } : State).drc = s.drc) _

/-! ## `State.takeFree` -/

@[simp] theorem State.takeFree_pending : (s.takeFree).pending = s.pending :=
  (fun _ => rfl : ∀ x, ({ s with free := x } : State).pending = s.pending) _
@[simp] theorem State.takeFree_clk : (s.takeFree).clk = s.clk :=
  (fun _ => rfl : ∀ x, ({ s with free := x } : State).clk = s.clk) _
@[simp] theorem State.takeFree_reg : (s.takeFree).reg = s.reg :=
  (fun _ => rfl : ∀ x, ({ s with free := x } : State).reg = s.reg) _
@[simp] theorem State.takeFree_act : (s.takeFree).act = s.act :=
  (fun _ => rfl : ∀ x, ({ s with free := x } : State).act = s.act) _
@[simp] theorem State.takeFree_latch : (s.takeFree).latch = s.latch :=
  (fun _ => rfl : ∀ x, ({ s with free := x } : State).latch = s.latch) _
@[simp] theorem State.takeFree_read : (s.takeFree).read = s.read :=
  (fun _ => rfl : ∀ x, ({ s with free := x } : State).read = s.read) _
@[simp] theorem State.takeFree_stage : (s.takeFree).stage = s.stage :=
  (fun _ => rfl : ∀ x, ({ s with free := x } : State).stage = s.stage) _
@[simp] theorem State.takeFree_tbl : (s.takeFree).tbl = s.tbl :=
  (fun _ => rfl : ∀ x, ({ s with free := x } : State).tbl = s.tbl) _
@[simp] theorem State.takeFree_ctr : (s.takeFree).ctr = s.ctr :=
  (fun _ => rfl : ∀ x, ({ s with free := x } : State).ctr = s.ctr) _
@[simp] theorem State.takeFree_snap : (s.takeFree).snap = s.snap :=
  (fun _ => rfl : ∀ x, ({ s with free := x } : State).snap = s.snap) _
@[simp] theorem State.takeFree_snapTbl : (s.takeFree).snapTbl = s.snapTbl :=
  (fun _ => rfl : ∀ x, ({ s with free := x } : State).snapTbl = s.snapTbl) _
@[simp] theorem State.takeFree_page : (s.takeFree).page = s.page :=
  (fun _ => rfl : ∀ x, ({ s with free := x } : State).page = s.page) _
@[simp] theorem State.takeFree_cgrp : (s.takeFree).cgrp = s.cgrp :=
  (fun _ => rfl : ∀ x, ({ s with free := x } : State).cgrp = s.cgrp) _
@[simp] theorem State.takeFree_ev : (s.takeFree).ev = s.ev :=
  (fun _ => rfl : ∀ x, ({ s with free := x } : State).ev = s.ev) _
@[simp] theorem State.takeFree_host : (s.takeFree).host = s.host :=
  (fun _ => rfl : ∀ x, ({ s with free := x } : State).host = s.host) _
@[simp] theorem State.takeFree_free : (s.takeFree).free = s.free + 1 := rfl
@[simp] theorem State.takeFree_tmu : (s.takeFree).tmu = s.tmu :=
  (fun _ => rfl : ∀ x, ({ s with free := x } : State).tmu = s.tmu) _
@[simp] theorem State.takeFree_mem : (s.takeFree).mem = s.mem :=
  (fun _ => rfl : ∀ x, ({ s with free := x } : State).mem = s.mem) _
@[simp] theorem State.takeFree_crl : (s.takeFree).crl = s.crl :=
  (fun _ => rfl : ∀ x, ({ s with free := x } : State).crl = s.crl) _
@[simp] theorem State.takeFree_col : (s.takeFree).col = s.col :=
  (fun _ => rfl : ∀ x, ({ s with free := x } : State).col = s.col) _
@[simp] theorem State.takeFree_deferred : (s.takeFree).deferred = s.deferred :=
  (fun _ => rfl : ∀ x, ({ s with free := x } : State).deferred = s.deferred) _
@[simp] theorem State.takeFree_vfEnabled : (s.takeFree).vfEnabled = s.vfEnabled :=
  (fun _ => rfl : ∀ x, ({ s with free := x } : State).vfEnabled = s.vfEnabled) _
@[simp] theorem State.takeFree_rve : (s.takeFree).rve = s.rve :=
  (fun _ => rfl : ∀ x, ({ s with free := x } : State).rve = s.rve) _
@[simp] theorem State.takeFree_cores : (s.takeFree).cores = s.cores :=
  (fun _ => rfl : ∀ x, ({ s with free := x } : State).cores = s.cores) _
@[simp] theorem State.takeFree_icl : (s.takeFree).icl = s.icl :=
  (fun _ => rfl : ∀ x, ({ s with free := x } : State).icl = s.icl) _
@[simp] theorem State.takeFree_cpe : (s.takeFree).cpe = s.cpe :=
  (fun _ => rfl : ∀ x, ({ s with free := x } : State).cpe = s.cpe) _
@[simp] theorem State.takeFree_lfw : (s.takeFree).lfw = s.lfw :=
  (fun _ => rfl : ∀ x, ({ s with free := x } : State).lfw = s.lfw) _
@[simp] theorem State.takeFree_esc : (s.takeFree).esc = s.esc :=
  (fun _ => rfl : ∀ x, ({ s with free := x } : State).esc = s.esc) _
@[simp] theorem State.takeFree_qz : (s.takeFree).qz = s.qz :=
  (fun _ => rfl : ∀ x, ({ s with free := x } : State).qz = s.qz) _
@[simp] theorem State.takeFree_prg : (s.takeFree).prg = s.prg :=
  (fun _ => rfl : ∀ x, ({ s with free := x } : State).prg = s.prg) _
@[simp] theorem State.takeFree_mxf : (s.takeFree).mxf = s.mxf :=
  (fun _ => rfl : ∀ x, ({ s with free := x } : State).mxf = s.mxf) _
@[simp] theorem State.takeFree_lnu : (s.takeFree).lnu = s.lnu :=
  (fun _ => rfl : ∀ x, ({ s with free := x } : State).lnu = s.lnu) _
@[simp] theorem State.takeFree_vce : (s.takeFree).vce = s.vce :=
  (fun _ => rfl : ∀ x, ({ s with free := x } : State).vce = s.vce) _
@[simp] theorem State.takeFree_wve : (s.takeFree).wve = s.wve :=
  (fun _ => rfl : ∀ x, ({ s with free := x } : State).wve = s.wve) _
@[simp] theorem State.takeFree_pxc : (s.takeFree).pxc = s.pxc :=
  (fun _ => rfl : ∀ x, ({ s with free := x } : State).pxc = s.pxc) _
@[simp] theorem State.takeFree_drc : (s.takeFree).drc = s.drc :=
  (fun _ => rfl : ∀ x, ({ s with free := x } : State).drc = s.drc) _

/-! ## `State.setCore` -/

@[simp] theorem State.setCore_pending (n : Nat) (f : WCore → WCore) : (s.setCore n f).pending = s.pending :=
  (fun _ => rfl : ∀ x, ({ s with cores := x } : State).pending = s.pending) _
@[simp] theorem State.setCore_clk (n : Nat) (f : WCore → WCore) : (s.setCore n f).clk = s.clk :=
  (fun _ => rfl : ∀ x, ({ s with cores := x } : State).clk = s.clk) _
@[simp] theorem State.setCore_reg (n : Nat) (f : WCore → WCore) : (s.setCore n f).reg = s.reg :=
  (fun _ => rfl : ∀ x, ({ s with cores := x } : State).reg = s.reg) _
@[simp] theorem State.setCore_act (n : Nat) (f : WCore → WCore) : (s.setCore n f).act = s.act :=
  (fun _ => rfl : ∀ x, ({ s with cores := x } : State).act = s.act) _
@[simp] theorem State.setCore_latch (n : Nat) (f : WCore → WCore) : (s.setCore n f).latch = s.latch :=
  (fun _ => rfl : ∀ x, ({ s with cores := x } : State).latch = s.latch) _
@[simp] theorem State.setCore_read (n : Nat) (f : WCore → WCore) : (s.setCore n f).read = s.read :=
  (fun _ => rfl : ∀ x, ({ s with cores := x } : State).read = s.read) _
@[simp] theorem State.setCore_stage (n : Nat) (f : WCore → WCore) : (s.setCore n f).stage = s.stage :=
  (fun _ => rfl : ∀ x, ({ s with cores := x } : State).stage = s.stage) _
@[simp] theorem State.setCore_tbl (n : Nat) (f : WCore → WCore) : (s.setCore n f).tbl = s.tbl :=
  (fun _ => rfl : ∀ x, ({ s with cores := x } : State).tbl = s.tbl) _
@[simp] theorem State.setCore_ctr (n : Nat) (f : WCore → WCore) : (s.setCore n f).ctr = s.ctr :=
  (fun _ => rfl : ∀ x, ({ s with cores := x } : State).ctr = s.ctr) _
@[simp] theorem State.setCore_snap (n : Nat) (f : WCore → WCore) : (s.setCore n f).snap = s.snap :=
  (fun _ => rfl : ∀ x, ({ s with cores := x } : State).snap = s.snap) _
@[simp] theorem State.setCore_snapTbl (n : Nat) (f : WCore → WCore) : (s.setCore n f).snapTbl = s.snapTbl :=
  (fun _ => rfl : ∀ x, ({ s with cores := x } : State).snapTbl = s.snapTbl) _
@[simp] theorem State.setCore_page (n : Nat) (f : WCore → WCore) : (s.setCore n f).page = s.page :=
  (fun _ => rfl : ∀ x, ({ s with cores := x } : State).page = s.page) _
@[simp] theorem State.setCore_cgrp (n : Nat) (f : WCore → WCore) : (s.setCore n f).cgrp = s.cgrp :=
  (fun _ => rfl : ∀ x, ({ s with cores := x } : State).cgrp = s.cgrp) _
@[simp] theorem State.setCore_ev (n : Nat) (f : WCore → WCore) : (s.setCore n f).ev = s.ev :=
  (fun _ => rfl : ∀ x, ({ s with cores := x } : State).ev = s.ev) _
@[simp] theorem State.setCore_host (n : Nat) (f : WCore → WCore) : (s.setCore n f).host = s.host :=
  (fun _ => rfl : ∀ x, ({ s with cores := x } : State).host = s.host) _
@[simp] theorem State.setCore_free (n : Nat) (f : WCore → WCore) : (s.setCore n f).free = s.free :=
  (fun _ => rfl : ∀ x, ({ s with cores := x } : State).free = s.free) _
@[simp] theorem State.setCore_tmu (n : Nat) (f : WCore → WCore) : (s.setCore n f).tmu = s.tmu :=
  (fun _ => rfl : ∀ x, ({ s with cores := x } : State).tmu = s.tmu) _
@[simp] theorem State.setCore_mem (n : Nat) (f : WCore → WCore) : (s.setCore n f).mem = s.mem :=
  (fun _ => rfl : ∀ x, ({ s with cores := x } : State).mem = s.mem) _
@[simp] theorem State.setCore_crl (n : Nat) (f : WCore → WCore) : (s.setCore n f).crl = s.crl :=
  (fun _ => rfl : ∀ x, ({ s with cores := x } : State).crl = s.crl) _
@[simp] theorem State.setCore_col (n : Nat) (f : WCore → WCore) : (s.setCore n f).col = s.col :=
  (fun _ => rfl : ∀ x, ({ s with cores := x } : State).col = s.col) _
@[simp] theorem State.setCore_deferred (n : Nat) (f : WCore → WCore) : (s.setCore n f).deferred = s.deferred :=
  (fun _ => rfl : ∀ x, ({ s with cores := x } : State).deferred = s.deferred) _
@[simp] theorem State.setCore_vfEnabled (n : Nat) (f : WCore → WCore) : (s.setCore n f).vfEnabled = s.vfEnabled :=
  (fun _ => rfl : ∀ x, ({ s with cores := x } : State).vfEnabled = s.vfEnabled) _
@[simp] theorem State.setCore_rve (n : Nat) (f : WCore → WCore) : (s.setCore n f).rve = s.rve :=
  (fun _ => rfl : ∀ x, ({ s with cores := x } : State).rve = s.rve) _
@[simp] theorem State.setCore_icl (n : Nat) (f : WCore → WCore) : (s.setCore n f).icl = s.icl :=
  (fun _ => rfl : ∀ x, ({ s with cores := x } : State).icl = s.icl) _
@[simp] theorem State.setCore_cpe (n : Nat) (f : WCore → WCore) : (s.setCore n f).cpe = s.cpe :=
  (fun _ => rfl : ∀ x, ({ s with cores := x } : State).cpe = s.cpe) _
@[simp] theorem State.setCore_lfw (n : Nat) (f : WCore → WCore) : (s.setCore n f).lfw = s.lfw :=
  (fun _ => rfl : ∀ x, ({ s with cores := x } : State).lfw = s.lfw) _
@[simp] theorem State.setCore_esc (n : Nat) (f : WCore → WCore) : (s.setCore n f).esc = s.esc :=
  (fun _ => rfl : ∀ x, ({ s with cores := x } : State).esc = s.esc) _
@[simp] theorem State.setCore_qz (n : Nat) (f : WCore → WCore) : (s.setCore n f).qz = s.qz :=
  (fun _ => rfl : ∀ x, ({ s with cores := x } : State).qz = s.qz) _
@[simp] theorem State.setCore_prg (n : Nat) (f : WCore → WCore) : (s.setCore n f).prg = s.prg :=
  (fun _ => rfl : ∀ x, ({ s with cores := x } : State).prg = s.prg) _
@[simp] theorem State.setCore_mxf (n : Nat) (f : WCore → WCore) : (s.setCore n f).mxf = s.mxf :=
  (fun _ => rfl : ∀ x, ({ s with cores := x } : State).mxf = s.mxf) _
@[simp] theorem State.setCore_lnu (n : Nat) (f : WCore → WCore) : (s.setCore n f).lnu = s.lnu :=
  (fun _ => rfl : ∀ x, ({ s with cores := x } : State).lnu = s.lnu) _
@[simp] theorem State.setCore_vce (n : Nat) (f : WCore → WCore) : (s.setCore n f).vce = s.vce :=
  (fun _ => rfl : ∀ x, ({ s with cores := x } : State).vce = s.vce) _
@[simp] theorem State.setCore_wve (n : Nat) (f : WCore → WCore) : (s.setCore n f).wve = s.wve :=
  (fun _ => rfl : ∀ x, ({ s with cores := x } : State).wve = s.wve) _
@[simp] theorem State.setCore_pxc (n : Nat) (f : WCore → WCore) : (s.setCore n f).pxc = s.pxc :=
  (fun _ => rfl : ∀ x, ({ s with cores := x } : State).pxc = s.pxc) _
@[simp] theorem State.setCore_drc (n : Nat) (f : WCore → WCore) : (s.setCore n f).drc = s.drc :=
  (fun _ => rfl : ∀ x, ({ s with cores := x } : State).drc = s.drc) _

/-! ## `State.setMem` -/

@[simp] theorem State.setMem_pending (f : MemSt → MemSt) : (s.setMem f).pending = s.pending :=
  (fun _ => rfl : ∀ x, ({ s with mem := x } : State).pending = s.pending) _
@[simp] theorem State.setMem_clk (f : MemSt → MemSt) : (s.setMem f).clk = s.clk :=
  (fun _ => rfl : ∀ x, ({ s with mem := x } : State).clk = s.clk) _
@[simp] theorem State.setMem_reg (f : MemSt → MemSt) : (s.setMem f).reg = s.reg :=
  (fun _ => rfl : ∀ x, ({ s with mem := x } : State).reg = s.reg) _
@[simp] theorem State.setMem_act (f : MemSt → MemSt) : (s.setMem f).act = s.act :=
  (fun _ => rfl : ∀ x, ({ s with mem := x } : State).act = s.act) _
@[simp] theorem State.setMem_latch (f : MemSt → MemSt) : (s.setMem f).latch = s.latch :=
  (fun _ => rfl : ∀ x, ({ s with mem := x } : State).latch = s.latch) _
@[simp] theorem State.setMem_read (f : MemSt → MemSt) : (s.setMem f).read = s.read :=
  (fun _ => rfl : ∀ x, ({ s with mem := x } : State).read = s.read) _
@[simp] theorem State.setMem_stage (f : MemSt → MemSt) : (s.setMem f).stage = s.stage :=
  (fun _ => rfl : ∀ x, ({ s with mem := x } : State).stage = s.stage) _
@[simp] theorem State.setMem_tbl (f : MemSt → MemSt) : (s.setMem f).tbl = s.tbl :=
  (fun _ => rfl : ∀ x, ({ s with mem := x } : State).tbl = s.tbl) _
@[simp] theorem State.setMem_ctr (f : MemSt → MemSt) : (s.setMem f).ctr = s.ctr :=
  (fun _ => rfl : ∀ x, ({ s with mem := x } : State).ctr = s.ctr) _
@[simp] theorem State.setMem_snap (f : MemSt → MemSt) : (s.setMem f).snap = s.snap :=
  (fun _ => rfl : ∀ x, ({ s with mem := x } : State).snap = s.snap) _
@[simp] theorem State.setMem_snapTbl (f : MemSt → MemSt) : (s.setMem f).snapTbl = s.snapTbl :=
  (fun _ => rfl : ∀ x, ({ s with mem := x } : State).snapTbl = s.snapTbl) _
@[simp] theorem State.setMem_page (f : MemSt → MemSt) : (s.setMem f).page = s.page :=
  (fun _ => rfl : ∀ x, ({ s with mem := x } : State).page = s.page) _
@[simp] theorem State.setMem_cgrp (f : MemSt → MemSt) : (s.setMem f).cgrp = s.cgrp :=
  (fun _ => rfl : ∀ x, ({ s with mem := x } : State).cgrp = s.cgrp) _
@[simp] theorem State.setMem_ev (f : MemSt → MemSt) : (s.setMem f).ev = s.ev :=
  (fun _ => rfl : ∀ x, ({ s with mem := x } : State).ev = s.ev) _
@[simp] theorem State.setMem_host (f : MemSt → MemSt) : (s.setMem f).host = s.host :=
  (fun _ => rfl : ∀ x, ({ s with mem := x } : State).host = s.host) _
@[simp] theorem State.setMem_free (f : MemSt → MemSt) : (s.setMem f).free = s.free :=
  (fun _ => rfl : ∀ x, ({ s with mem := x } : State).free = s.free) _
@[simp] theorem State.setMem_tmu (f : MemSt → MemSt) : (s.setMem f).tmu = s.tmu :=
  (fun _ => rfl : ∀ x, ({ s with mem := x } : State).tmu = s.tmu) _
@[simp] theorem State.setMem_mem (f : MemSt → MemSt) : (s.setMem f).mem = f s.mem := rfl
@[simp] theorem State.setMem_crl (f : MemSt → MemSt) : (s.setMem f).crl = s.crl :=
  (fun _ => rfl : ∀ x, ({ s with mem := x } : State).crl = s.crl) _
@[simp] theorem State.setMem_col (f : MemSt → MemSt) : (s.setMem f).col = s.col :=
  (fun _ => rfl : ∀ x, ({ s with mem := x } : State).col = s.col) _
@[simp] theorem State.setMem_deferred (f : MemSt → MemSt) : (s.setMem f).deferred = s.deferred :=
  (fun _ => rfl : ∀ x, ({ s with mem := x } : State).deferred = s.deferred) _
@[simp] theorem State.setMem_vfEnabled (f : MemSt → MemSt) : (s.setMem f).vfEnabled = s.vfEnabled :=
  (fun _ => rfl : ∀ x, ({ s with mem := x } : State).vfEnabled = s.vfEnabled) _
@[simp] theorem State.setMem_rve (f : MemSt → MemSt) : (s.setMem f).rve = s.rve :=
  (fun _ => rfl : ∀ x, ({ s with mem := x } : State).rve = s.rve) _
@[simp] theorem State.setMem_cores (f : MemSt → MemSt) : (s.setMem f).cores = s.cores :=
  (fun _ => rfl : ∀ x, ({ s with mem := x } : State).cores = s.cores) _
@[simp] theorem State.setMem_icl (f : MemSt → MemSt) : (s.setMem f).icl = s.icl :=
  (fun _ => rfl : ∀ x, ({ s with mem := x } : State).icl = s.icl) _
@[simp] theorem State.setMem_cpe (f : MemSt → MemSt) : (s.setMem f).cpe = s.cpe :=
  (fun _ => rfl : ∀ x, ({ s with mem := x } : State).cpe = s.cpe) _
@[simp] theorem State.setMem_lfw (f : MemSt → MemSt) : (s.setMem f).lfw = s.lfw :=
  (fun _ => rfl : ∀ x, ({ s with mem := x } : State).lfw = s.lfw) _
@[simp] theorem State.setMem_esc (f : MemSt → MemSt) : (s.setMem f).esc = s.esc :=
  (fun _ => rfl : ∀ x, ({ s with mem := x } : State).esc = s.esc) _
@[simp] theorem State.setMem_qz (f : MemSt → MemSt) : (s.setMem f).qz = s.qz :=
  (fun _ => rfl : ∀ x, ({ s with mem := x } : State).qz = s.qz) _
@[simp] theorem State.setMem_prg (f : MemSt → MemSt) : (s.setMem f).prg = s.prg :=
  (fun _ => rfl : ∀ x, ({ s with mem := x } : State).prg = s.prg) _
@[simp] theorem State.setMem_mxf (f : MemSt → MemSt) : (s.setMem f).mxf = s.mxf :=
  (fun _ => rfl : ∀ x, ({ s with mem := x } : State).mxf = s.mxf) _
@[simp] theorem State.setMem_lnu (f : MemSt → MemSt) : (s.setMem f).lnu = s.lnu :=
  (fun _ => rfl : ∀ x, ({ s with mem := x } : State).lnu = s.lnu) _
@[simp] theorem State.setMem_vce (f : MemSt → MemSt) : (s.setMem f).vce = s.vce :=
  (fun _ => rfl : ∀ x, ({ s with mem := x } : State).vce = s.vce) _
@[simp] theorem State.setMem_wve (f : MemSt → MemSt) : (s.setMem f).wve = s.wve :=
  (fun _ => rfl : ∀ x, ({ s with mem := x } : State).wve = s.wve) _
@[simp] theorem State.setMem_pxc (f : MemSt → MemSt) : (s.setMem f).pxc = s.pxc :=
  (fun _ => rfl : ∀ x, ({ s with mem := x } : State).pxc = s.pxc) _
@[simp] theorem State.setMem_drc (f : MemSt → MemSt) : (s.setMem f).drc = s.drc :=
  (fun _ => rfl : ∀ x, ({ s with mem := x } : State).drc = s.drc) _

/-! ## `State.setTmu` -/

@[simp] theorem State.setTmu_pending (f : TmuSt → TmuSt) : (s.setTmu f).pending = s.pending :=
  (fun _ => rfl : ∀ x, ({ s with tmu := x } : State).pending = s.pending) _
@[simp] theorem State.setTmu_clk (f : TmuSt → TmuSt) : (s.setTmu f).clk = s.clk :=
  (fun _ => rfl : ∀ x, ({ s with tmu := x } : State).clk = s.clk) _
@[simp] theorem State.setTmu_reg (f : TmuSt → TmuSt) : (s.setTmu f).reg = s.reg :=
  (fun _ => rfl : ∀ x, ({ s with tmu := x } : State).reg = s.reg) _
@[simp] theorem State.setTmu_act (f : TmuSt → TmuSt) : (s.setTmu f).act = s.act :=
  (fun _ => rfl : ∀ x, ({ s with tmu := x } : State).act = s.act) _
@[simp] theorem State.setTmu_latch (f : TmuSt → TmuSt) : (s.setTmu f).latch = s.latch :=
  (fun _ => rfl : ∀ x, ({ s with tmu := x } : State).latch = s.latch) _
@[simp] theorem State.setTmu_read (f : TmuSt → TmuSt) : (s.setTmu f).read = s.read :=
  (fun _ => rfl : ∀ x, ({ s with tmu := x } : State).read = s.read) _
@[simp] theorem State.setTmu_stage (f : TmuSt → TmuSt) : (s.setTmu f).stage = s.stage :=
  (fun _ => rfl : ∀ x, ({ s with tmu := x } : State).stage = s.stage) _
@[simp] theorem State.setTmu_tbl (f : TmuSt → TmuSt) : (s.setTmu f).tbl = s.tbl :=
  (fun _ => rfl : ∀ x, ({ s with tmu := x } : State).tbl = s.tbl) _
@[simp] theorem State.setTmu_ctr (f : TmuSt → TmuSt) : (s.setTmu f).ctr = s.ctr :=
  (fun _ => rfl : ∀ x, ({ s with tmu := x } : State).ctr = s.ctr) _
@[simp] theorem State.setTmu_snap (f : TmuSt → TmuSt) : (s.setTmu f).snap = s.snap :=
  (fun _ => rfl : ∀ x, ({ s with tmu := x } : State).snap = s.snap) _
@[simp] theorem State.setTmu_snapTbl (f : TmuSt → TmuSt) : (s.setTmu f).snapTbl = s.snapTbl :=
  (fun _ => rfl : ∀ x, ({ s with tmu := x } : State).snapTbl = s.snapTbl) _
@[simp] theorem State.setTmu_page (f : TmuSt → TmuSt) : (s.setTmu f).page = s.page :=
  (fun _ => rfl : ∀ x, ({ s with tmu := x } : State).page = s.page) _
@[simp] theorem State.setTmu_cgrp (f : TmuSt → TmuSt) : (s.setTmu f).cgrp = s.cgrp :=
  (fun _ => rfl : ∀ x, ({ s with tmu := x } : State).cgrp = s.cgrp) _
@[simp] theorem State.setTmu_ev (f : TmuSt → TmuSt) : (s.setTmu f).ev = s.ev :=
  (fun _ => rfl : ∀ x, ({ s with tmu := x } : State).ev = s.ev) _
@[simp] theorem State.setTmu_host (f : TmuSt → TmuSt) : (s.setTmu f).host = s.host :=
  (fun _ => rfl : ∀ x, ({ s with tmu := x } : State).host = s.host) _
@[simp] theorem State.setTmu_free (f : TmuSt → TmuSt) : (s.setTmu f).free = s.free :=
  (fun _ => rfl : ∀ x, ({ s with tmu := x } : State).free = s.free) _
@[simp] theorem State.setTmu_tmu (f : TmuSt → TmuSt) : (s.setTmu f).tmu = f s.tmu := rfl
@[simp] theorem State.setTmu_mem (f : TmuSt → TmuSt) : (s.setTmu f).mem = s.mem :=
  (fun _ => rfl : ∀ x, ({ s with tmu := x } : State).mem = s.mem) _
@[simp] theorem State.setTmu_crl (f : TmuSt → TmuSt) : (s.setTmu f).crl = s.crl :=
  (fun _ => rfl : ∀ x, ({ s with tmu := x } : State).crl = s.crl) _
@[simp] theorem State.setTmu_col (f : TmuSt → TmuSt) : (s.setTmu f).col = s.col :=
  (fun _ => rfl : ∀ x, ({ s with tmu := x } : State).col = s.col) _
@[simp] theorem State.setTmu_deferred (f : TmuSt → TmuSt) : (s.setTmu f).deferred = s.deferred :=
  (fun _ => rfl : ∀ x, ({ s with tmu := x } : State).deferred = s.deferred) _
@[simp] theorem State.setTmu_vfEnabled (f : TmuSt → TmuSt) : (s.setTmu f).vfEnabled = s.vfEnabled :=
  (fun _ => rfl : ∀ x, ({ s with tmu := x } : State).vfEnabled = s.vfEnabled) _
@[simp] theorem State.setTmu_rve (f : TmuSt → TmuSt) : (s.setTmu f).rve = s.rve :=
  (fun _ => rfl : ∀ x, ({ s with tmu := x } : State).rve = s.rve) _
@[simp] theorem State.setTmu_cores (f : TmuSt → TmuSt) : (s.setTmu f).cores = s.cores :=
  (fun _ => rfl : ∀ x, ({ s with tmu := x } : State).cores = s.cores) _
@[simp] theorem State.setTmu_icl (f : TmuSt → TmuSt) : (s.setTmu f).icl = s.icl :=
  (fun _ => rfl : ∀ x, ({ s with tmu := x } : State).icl = s.icl) _
@[simp] theorem State.setTmu_cpe (f : TmuSt → TmuSt) : (s.setTmu f).cpe = s.cpe :=
  (fun _ => rfl : ∀ x, ({ s with tmu := x } : State).cpe = s.cpe) _
@[simp] theorem State.setTmu_lfw (f : TmuSt → TmuSt) : (s.setTmu f).lfw = s.lfw :=
  (fun _ => rfl : ∀ x, ({ s with tmu := x } : State).lfw = s.lfw) _
@[simp] theorem State.setTmu_esc (f : TmuSt → TmuSt) : (s.setTmu f).esc = s.esc :=
  (fun _ => rfl : ∀ x, ({ s with tmu := x } : State).esc = s.esc) _
@[simp] theorem State.setTmu_qz (f : TmuSt → TmuSt) : (s.setTmu f).qz = s.qz :=
  (fun _ => rfl : ∀ x, ({ s with tmu := x } : State).qz = s.qz) _
@[simp] theorem State.setTmu_prg (f : TmuSt → TmuSt) : (s.setTmu f).prg = s.prg :=
  (fun _ => rfl : ∀ x, ({ s with tmu := x } : State).prg = s.prg) _
@[simp] theorem State.setTmu_mxf (f : TmuSt → TmuSt) : (s.setTmu f).mxf = s.mxf :=
  (fun _ => rfl : ∀ x, ({ s with tmu := x } : State).mxf = s.mxf) _
@[simp] theorem State.setTmu_lnu (f : TmuSt → TmuSt) : (s.setTmu f).lnu = s.lnu :=
  (fun _ => rfl : ∀ x, ({ s with tmu := x } : State).lnu = s.lnu) _
@[simp] theorem State.setTmu_vce (f : TmuSt → TmuSt) : (s.setTmu f).vce = s.vce :=
  (fun _ => rfl : ∀ x, ({ s with tmu := x } : State).vce = s.vce) _
@[simp] theorem State.setTmu_wve (f : TmuSt → TmuSt) : (s.setTmu f).wve = s.wve :=
  (fun _ => rfl : ∀ x, ({ s with tmu := x } : State).wve = s.wve) _
@[simp] theorem State.setTmu_pxc (f : TmuSt → TmuSt) : (s.setTmu f).pxc = s.pxc :=
  (fun _ => rfl : ∀ x, ({ s with tmu := x } : State).pxc = s.pxc) _
@[simp] theorem State.setTmu_drc (f : TmuSt → TmuSt) : (s.setTmu f).drc = s.drc :=
  (fun _ => rfl : ∀ x, ({ s with tmu := x } : State).drc = s.drc) _

/-! ## `State.setCrl` -/

@[simp] theorem State.setCrl_pending (f : CrlSt → CrlSt) : (s.setCrl f).pending = s.pending :=
  (fun _ => rfl : ∀ x, ({ s with crl := x } : State).pending = s.pending) _
@[simp] theorem State.setCrl_clk (f : CrlSt → CrlSt) : (s.setCrl f).clk = s.clk :=
  (fun _ => rfl : ∀ x, ({ s with crl := x } : State).clk = s.clk) _
@[simp] theorem State.setCrl_reg (f : CrlSt → CrlSt) : (s.setCrl f).reg = s.reg :=
  (fun _ => rfl : ∀ x, ({ s with crl := x } : State).reg = s.reg) _
@[simp] theorem State.setCrl_act (f : CrlSt → CrlSt) : (s.setCrl f).act = s.act :=
  (fun _ => rfl : ∀ x, ({ s with crl := x } : State).act = s.act) _
@[simp] theorem State.setCrl_latch (f : CrlSt → CrlSt) : (s.setCrl f).latch = s.latch :=
  (fun _ => rfl : ∀ x, ({ s with crl := x } : State).latch = s.latch) _
@[simp] theorem State.setCrl_read (f : CrlSt → CrlSt) : (s.setCrl f).read = s.read :=
  (fun _ => rfl : ∀ x, ({ s with crl := x } : State).read = s.read) _
@[simp] theorem State.setCrl_stage (f : CrlSt → CrlSt) : (s.setCrl f).stage = s.stage :=
  (fun _ => rfl : ∀ x, ({ s with crl := x } : State).stage = s.stage) _
@[simp] theorem State.setCrl_tbl (f : CrlSt → CrlSt) : (s.setCrl f).tbl = s.tbl :=
  (fun _ => rfl : ∀ x, ({ s with crl := x } : State).tbl = s.tbl) _
@[simp] theorem State.setCrl_ctr (f : CrlSt → CrlSt) : (s.setCrl f).ctr = s.ctr :=
  (fun _ => rfl : ∀ x, ({ s with crl := x } : State).ctr = s.ctr) _
@[simp] theorem State.setCrl_snap (f : CrlSt → CrlSt) : (s.setCrl f).snap = s.snap :=
  (fun _ => rfl : ∀ x, ({ s with crl := x } : State).snap = s.snap) _
@[simp] theorem State.setCrl_snapTbl (f : CrlSt → CrlSt) : (s.setCrl f).snapTbl = s.snapTbl :=
  (fun _ => rfl : ∀ x, ({ s with crl := x } : State).snapTbl = s.snapTbl) _
@[simp] theorem State.setCrl_page (f : CrlSt → CrlSt) : (s.setCrl f).page = s.page :=
  (fun _ => rfl : ∀ x, ({ s with crl := x } : State).page = s.page) _
@[simp] theorem State.setCrl_cgrp (f : CrlSt → CrlSt) : (s.setCrl f).cgrp = s.cgrp :=
  (fun _ => rfl : ∀ x, ({ s with crl := x } : State).cgrp = s.cgrp) _
@[simp] theorem State.setCrl_ev (f : CrlSt → CrlSt) : (s.setCrl f).ev = s.ev :=
  (fun _ => rfl : ∀ x, ({ s with crl := x } : State).ev = s.ev) _
@[simp] theorem State.setCrl_host (f : CrlSt → CrlSt) : (s.setCrl f).host = s.host :=
  (fun _ => rfl : ∀ x, ({ s with crl := x } : State).host = s.host) _
@[simp] theorem State.setCrl_free (f : CrlSt → CrlSt) : (s.setCrl f).free = s.free :=
  (fun _ => rfl : ∀ x, ({ s with crl := x } : State).free = s.free) _
@[simp] theorem State.setCrl_tmu (f : CrlSt → CrlSt) : (s.setCrl f).tmu = s.tmu :=
  (fun _ => rfl : ∀ x, ({ s with crl := x } : State).tmu = s.tmu) _
@[simp] theorem State.setCrl_mem (f : CrlSt → CrlSt) : (s.setCrl f).mem = s.mem :=
  (fun _ => rfl : ∀ x, ({ s with crl := x } : State).mem = s.mem) _
@[simp] theorem State.setCrl_crl (f : CrlSt → CrlSt) : (s.setCrl f).crl = f s.crl := rfl
@[simp] theorem State.setCrl_col (f : CrlSt → CrlSt) : (s.setCrl f).col = s.col :=
  (fun _ => rfl : ∀ x, ({ s with crl := x } : State).col = s.col) _
@[simp] theorem State.setCrl_deferred (f : CrlSt → CrlSt) : (s.setCrl f).deferred = s.deferred :=
  (fun _ => rfl : ∀ x, ({ s with crl := x } : State).deferred = s.deferred) _
@[simp] theorem State.setCrl_vfEnabled (f : CrlSt → CrlSt) : (s.setCrl f).vfEnabled = s.vfEnabled :=
  (fun _ => rfl : ∀ x, ({ s with crl := x } : State).vfEnabled = s.vfEnabled) _
@[simp] theorem State.setCrl_rve (f : CrlSt → CrlSt) : (s.setCrl f).rve = s.rve :=
  (fun _ => rfl : ∀ x, ({ s with crl := x } : State).rve = s.rve) _
@[simp] theorem State.setCrl_cores (f : CrlSt → CrlSt) : (s.setCrl f).cores = s.cores :=
  (fun _ => rfl : ∀ x, ({ s with crl := x } : State).cores = s.cores) _
@[simp] theorem State.setCrl_icl (f : CrlSt → CrlSt) : (s.setCrl f).icl = s.icl :=
  (fun _ => rfl : ∀ x, ({ s with crl := x } : State).icl = s.icl) _
@[simp] theorem State.setCrl_cpe (f : CrlSt → CrlSt) : (s.setCrl f).cpe = s.cpe :=
  (fun _ => rfl : ∀ x, ({ s with crl := x } : State).cpe = s.cpe) _
@[simp] theorem State.setCrl_lfw (f : CrlSt → CrlSt) : (s.setCrl f).lfw = s.lfw :=
  (fun _ => rfl : ∀ x, ({ s with crl := x } : State).lfw = s.lfw) _
@[simp] theorem State.setCrl_esc (f : CrlSt → CrlSt) : (s.setCrl f).esc = s.esc :=
  (fun _ => rfl : ∀ x, ({ s with crl := x } : State).esc = s.esc) _
@[simp] theorem State.setCrl_qz (f : CrlSt → CrlSt) : (s.setCrl f).qz = s.qz :=
  (fun _ => rfl : ∀ x, ({ s with crl := x } : State).qz = s.qz) _
@[simp] theorem State.setCrl_prg (f : CrlSt → CrlSt) : (s.setCrl f).prg = s.prg :=
  (fun _ => rfl : ∀ x, ({ s with crl := x } : State).prg = s.prg) _
@[simp] theorem State.setCrl_mxf (f : CrlSt → CrlSt) : (s.setCrl f).mxf = s.mxf :=
  (fun _ => rfl : ∀ x, ({ s with crl := x } : State).mxf = s.mxf) _
@[simp] theorem State.setCrl_lnu (f : CrlSt → CrlSt) : (s.setCrl f).lnu = s.lnu :=
  (fun _ => rfl : ∀ x, ({ s with crl := x } : State).lnu = s.lnu) _
@[simp] theorem State.setCrl_vce (f : CrlSt → CrlSt) : (s.setCrl f).vce = s.vce :=
  (fun _ => rfl : ∀ x, ({ s with crl := x } : State).vce = s.vce) _
@[simp] theorem State.setCrl_wve (f : CrlSt → CrlSt) : (s.setCrl f).wve = s.wve :=
  (fun _ => rfl : ∀ x, ({ s with crl := x } : State).wve = s.wve) _
@[simp] theorem State.setCrl_pxc (f : CrlSt → CrlSt) : (s.setCrl f).pxc = s.pxc :=
  (fun _ => rfl : ∀ x, ({ s with crl := x } : State).pxc = s.pxc) _
@[simp] theorem State.setCrl_drc (f : CrlSt → CrlSt) : (s.setCrl f).drc = s.drc :=
  (fun _ => rfl : ∀ x, ({ s with crl := x } : State).drc = s.drc) _

/-! ## `State.setCol` -/

@[simp] theorem State.setCol_pending (f : ColSt → ColSt) : (s.setCol f).pending = s.pending :=
  (fun _ => rfl : ∀ x, ({ s with col := x } : State).pending = s.pending) _
@[simp] theorem State.setCol_clk (f : ColSt → ColSt) : (s.setCol f).clk = s.clk :=
  (fun _ => rfl : ∀ x, ({ s with col := x } : State).clk = s.clk) _
@[simp] theorem State.setCol_reg (f : ColSt → ColSt) : (s.setCol f).reg = s.reg :=
  (fun _ => rfl : ∀ x, ({ s with col := x } : State).reg = s.reg) _
@[simp] theorem State.setCol_act (f : ColSt → ColSt) : (s.setCol f).act = s.act :=
  (fun _ => rfl : ∀ x, ({ s with col := x } : State).act = s.act) _
@[simp] theorem State.setCol_latch (f : ColSt → ColSt) : (s.setCol f).latch = s.latch :=
  (fun _ => rfl : ∀ x, ({ s with col := x } : State).latch = s.latch) _
@[simp] theorem State.setCol_read (f : ColSt → ColSt) : (s.setCol f).read = s.read :=
  (fun _ => rfl : ∀ x, ({ s with col := x } : State).read = s.read) _
@[simp] theorem State.setCol_stage (f : ColSt → ColSt) : (s.setCol f).stage = s.stage :=
  (fun _ => rfl : ∀ x, ({ s with col := x } : State).stage = s.stage) _
@[simp] theorem State.setCol_tbl (f : ColSt → ColSt) : (s.setCol f).tbl = s.tbl :=
  (fun _ => rfl : ∀ x, ({ s with col := x } : State).tbl = s.tbl) _
@[simp] theorem State.setCol_ctr (f : ColSt → ColSt) : (s.setCol f).ctr = s.ctr :=
  (fun _ => rfl : ∀ x, ({ s with col := x } : State).ctr = s.ctr) _
@[simp] theorem State.setCol_snap (f : ColSt → ColSt) : (s.setCol f).snap = s.snap :=
  (fun _ => rfl : ∀ x, ({ s with col := x } : State).snap = s.snap) _
@[simp] theorem State.setCol_snapTbl (f : ColSt → ColSt) : (s.setCol f).snapTbl = s.snapTbl :=
  (fun _ => rfl : ∀ x, ({ s with col := x } : State).snapTbl = s.snapTbl) _
@[simp] theorem State.setCol_page (f : ColSt → ColSt) : (s.setCol f).page = s.page :=
  (fun _ => rfl : ∀ x, ({ s with col := x } : State).page = s.page) _
@[simp] theorem State.setCol_cgrp (f : ColSt → ColSt) : (s.setCol f).cgrp = s.cgrp :=
  (fun _ => rfl : ∀ x, ({ s with col := x } : State).cgrp = s.cgrp) _
@[simp] theorem State.setCol_ev (f : ColSt → ColSt) : (s.setCol f).ev = s.ev :=
  (fun _ => rfl : ∀ x, ({ s with col := x } : State).ev = s.ev) _
@[simp] theorem State.setCol_host (f : ColSt → ColSt) : (s.setCol f).host = s.host :=
  (fun _ => rfl : ∀ x, ({ s with col := x } : State).host = s.host) _
@[simp] theorem State.setCol_free (f : ColSt → ColSt) : (s.setCol f).free = s.free :=
  (fun _ => rfl : ∀ x, ({ s with col := x } : State).free = s.free) _
@[simp] theorem State.setCol_tmu (f : ColSt → ColSt) : (s.setCol f).tmu = s.tmu :=
  (fun _ => rfl : ∀ x, ({ s with col := x } : State).tmu = s.tmu) _
@[simp] theorem State.setCol_mem (f : ColSt → ColSt) : (s.setCol f).mem = s.mem :=
  (fun _ => rfl : ∀ x, ({ s with col := x } : State).mem = s.mem) _
@[simp] theorem State.setCol_crl (f : ColSt → ColSt) : (s.setCol f).crl = s.crl :=
  (fun _ => rfl : ∀ x, ({ s with col := x } : State).crl = s.crl) _
@[simp] theorem State.setCol_col (f : ColSt → ColSt) : (s.setCol f).col = f s.col := rfl
@[simp] theorem State.setCol_deferred (f : ColSt → ColSt) : (s.setCol f).deferred = s.deferred :=
  (fun _ => rfl : ∀ x, ({ s with col := x } : State).deferred = s.deferred) _
@[simp] theorem State.setCol_vfEnabled (f : ColSt → ColSt) : (s.setCol f).vfEnabled = s.vfEnabled :=
  (fun _ => rfl : ∀ x, ({ s with col := x } : State).vfEnabled = s.vfEnabled) _
@[simp] theorem State.setCol_rve (f : ColSt → ColSt) : (s.setCol f).rve = s.rve :=
  (fun _ => rfl : ∀ x, ({ s with col := x } : State).rve = s.rve) _
@[simp] theorem State.setCol_cores (f : ColSt → ColSt) : (s.setCol f).cores = s.cores :=
  (fun _ => rfl : ∀ x, ({ s with col := x } : State).cores = s.cores) _
@[simp] theorem State.setCol_icl (f : ColSt → ColSt) : (s.setCol f).icl = s.icl :=
  (fun _ => rfl : ∀ x, ({ s with col := x } : State).icl = s.icl) _
@[simp] theorem State.setCol_cpe (f : ColSt → ColSt) : (s.setCol f).cpe = s.cpe :=
  (fun _ => rfl : ∀ x, ({ s with col := x } : State).cpe = s.cpe) _
@[simp] theorem State.setCol_lfw (f : ColSt → ColSt) : (s.setCol f).lfw = s.lfw :=
  (fun _ => rfl : ∀ x, ({ s with col := x } : State).lfw = s.lfw) _
@[simp] theorem State.setCol_esc (f : ColSt → ColSt) : (s.setCol f).esc = s.esc :=
  (fun _ => rfl : ∀ x, ({ s with col := x } : State).esc = s.esc) _
@[simp] theorem State.setCol_qz (f : ColSt → ColSt) : (s.setCol f).qz = s.qz :=
  (fun _ => rfl : ∀ x, ({ s with col := x } : State).qz = s.qz) _
@[simp] theorem State.setCol_prg (f : ColSt → ColSt) : (s.setCol f).prg = s.prg :=
  (fun _ => rfl : ∀ x, ({ s with col := x } : State).prg = s.prg) _
@[simp] theorem State.setCol_mxf (f : ColSt → ColSt) : (s.setCol f).mxf = s.mxf :=
  (fun _ => rfl : ∀ x, ({ s with col := x } : State).mxf = s.mxf) _
@[simp] theorem State.setCol_lnu (f : ColSt → ColSt) : (s.setCol f).lnu = s.lnu :=
  (fun _ => rfl : ∀ x, ({ s with col := x } : State).lnu = s.lnu) _
@[simp] theorem State.setCol_vce (f : ColSt → ColSt) : (s.setCol f).vce = s.vce :=
  (fun _ => rfl : ∀ x, ({ s with col := x } : State).vce = s.vce) _
@[simp] theorem State.setCol_wve (f : ColSt → ColSt) : (s.setCol f).wve = s.wve :=
  (fun _ => rfl : ∀ x, ({ s with col := x } : State).wve = s.wve) _
@[simp] theorem State.setCol_pxc (f : ColSt → ColSt) : (s.setCol f).pxc = s.pxc :=
  (fun _ => rfl : ∀ x, ({ s with col := x } : State).pxc = s.pxc) _
@[simp] theorem State.setCol_drc (f : ColSt → ColSt) : (s.setCol f).drc = s.drc :=
  (fun _ => rfl : ∀ x, ({ s with col := x } : State).drc = s.drc) _

/-! ## `State.setRve` -/

@[simp] theorem State.setRve_pending (f : RveSt → RveSt) : (s.setRve f).pending = s.pending :=
  (fun _ => rfl : ∀ x, ({ s with rve := x } : State).pending = s.pending) _
@[simp] theorem State.setRve_clk (f : RveSt → RveSt) : (s.setRve f).clk = s.clk :=
  (fun _ => rfl : ∀ x, ({ s with rve := x } : State).clk = s.clk) _
@[simp] theorem State.setRve_reg (f : RveSt → RveSt) : (s.setRve f).reg = s.reg :=
  (fun _ => rfl : ∀ x, ({ s with rve := x } : State).reg = s.reg) _
@[simp] theorem State.setRve_act (f : RveSt → RveSt) : (s.setRve f).act = s.act :=
  (fun _ => rfl : ∀ x, ({ s with rve := x } : State).act = s.act) _
@[simp] theorem State.setRve_latch (f : RveSt → RveSt) : (s.setRve f).latch = s.latch :=
  (fun _ => rfl : ∀ x, ({ s with rve := x } : State).latch = s.latch) _
@[simp] theorem State.setRve_read (f : RveSt → RveSt) : (s.setRve f).read = s.read :=
  (fun _ => rfl : ∀ x, ({ s with rve := x } : State).read = s.read) _
@[simp] theorem State.setRve_stage (f : RveSt → RveSt) : (s.setRve f).stage = s.stage :=
  (fun _ => rfl : ∀ x, ({ s with rve := x } : State).stage = s.stage) _
@[simp] theorem State.setRve_tbl (f : RveSt → RveSt) : (s.setRve f).tbl = s.tbl :=
  (fun _ => rfl : ∀ x, ({ s with rve := x } : State).tbl = s.tbl) _
@[simp] theorem State.setRve_ctr (f : RveSt → RveSt) : (s.setRve f).ctr = s.ctr :=
  (fun _ => rfl : ∀ x, ({ s with rve := x } : State).ctr = s.ctr) _
@[simp] theorem State.setRve_snap (f : RveSt → RveSt) : (s.setRve f).snap = s.snap :=
  (fun _ => rfl : ∀ x, ({ s with rve := x } : State).snap = s.snap) _
@[simp] theorem State.setRve_snapTbl (f : RveSt → RveSt) : (s.setRve f).snapTbl = s.snapTbl :=
  (fun _ => rfl : ∀ x, ({ s with rve := x } : State).snapTbl = s.snapTbl) _
@[simp] theorem State.setRve_page (f : RveSt → RveSt) : (s.setRve f).page = s.page :=
  (fun _ => rfl : ∀ x, ({ s with rve := x } : State).page = s.page) _
@[simp] theorem State.setRve_cgrp (f : RveSt → RveSt) : (s.setRve f).cgrp = s.cgrp :=
  (fun _ => rfl : ∀ x, ({ s with rve := x } : State).cgrp = s.cgrp) _
@[simp] theorem State.setRve_ev (f : RveSt → RveSt) : (s.setRve f).ev = s.ev :=
  (fun _ => rfl : ∀ x, ({ s with rve := x } : State).ev = s.ev) _
@[simp] theorem State.setRve_host (f : RveSt → RveSt) : (s.setRve f).host = s.host :=
  (fun _ => rfl : ∀ x, ({ s with rve := x } : State).host = s.host) _
@[simp] theorem State.setRve_free (f : RveSt → RveSt) : (s.setRve f).free = s.free :=
  (fun _ => rfl : ∀ x, ({ s with rve := x } : State).free = s.free) _
@[simp] theorem State.setRve_tmu (f : RveSt → RveSt) : (s.setRve f).tmu = s.tmu :=
  (fun _ => rfl : ∀ x, ({ s with rve := x } : State).tmu = s.tmu) _
@[simp] theorem State.setRve_mem (f : RveSt → RveSt) : (s.setRve f).mem = s.mem :=
  (fun _ => rfl : ∀ x, ({ s with rve := x } : State).mem = s.mem) _
@[simp] theorem State.setRve_crl (f : RveSt → RveSt) : (s.setRve f).crl = s.crl :=
  (fun _ => rfl : ∀ x, ({ s with rve := x } : State).crl = s.crl) _
@[simp] theorem State.setRve_col (f : RveSt → RveSt) : (s.setRve f).col = s.col :=
  (fun _ => rfl : ∀ x, ({ s with rve := x } : State).col = s.col) _
@[simp] theorem State.setRve_deferred (f : RveSt → RveSt) : (s.setRve f).deferred = s.deferred :=
  (fun _ => rfl : ∀ x, ({ s with rve := x } : State).deferred = s.deferred) _
@[simp] theorem State.setRve_vfEnabled (f : RveSt → RveSt) : (s.setRve f).vfEnabled = s.vfEnabled :=
  (fun _ => rfl : ∀ x, ({ s with rve := x } : State).vfEnabled = s.vfEnabled) _
@[simp] theorem State.setRve_rve (f : RveSt → RveSt) : (s.setRve f).rve = f s.rve := rfl
@[simp] theorem State.setRve_cores (f : RveSt → RveSt) : (s.setRve f).cores = s.cores :=
  (fun _ => rfl : ∀ x, ({ s with rve := x } : State).cores = s.cores) _
@[simp] theorem State.setRve_icl (f : RveSt → RveSt) : (s.setRve f).icl = s.icl :=
  (fun _ => rfl : ∀ x, ({ s with rve := x } : State).icl = s.icl) _
@[simp] theorem State.setRve_cpe (f : RveSt → RveSt) : (s.setRve f).cpe = s.cpe :=
  (fun _ => rfl : ∀ x, ({ s with rve := x } : State).cpe = s.cpe) _
@[simp] theorem State.setRve_lfw (f : RveSt → RveSt) : (s.setRve f).lfw = s.lfw :=
  (fun _ => rfl : ∀ x, ({ s with rve := x } : State).lfw = s.lfw) _
@[simp] theorem State.setRve_esc (f : RveSt → RveSt) : (s.setRve f).esc = s.esc :=
  (fun _ => rfl : ∀ x, ({ s with rve := x } : State).esc = s.esc) _
@[simp] theorem State.setRve_qz (f : RveSt → RveSt) : (s.setRve f).qz = s.qz :=
  (fun _ => rfl : ∀ x, ({ s with rve := x } : State).qz = s.qz) _
@[simp] theorem State.setRve_prg (f : RveSt → RveSt) : (s.setRve f).prg = s.prg :=
  (fun _ => rfl : ∀ x, ({ s with rve := x } : State).prg = s.prg) _
@[simp] theorem State.setRve_mxf (f : RveSt → RveSt) : (s.setRve f).mxf = s.mxf :=
  (fun _ => rfl : ∀ x, ({ s with rve := x } : State).mxf = s.mxf) _
@[simp] theorem State.setRve_lnu (f : RveSt → RveSt) : (s.setRve f).lnu = s.lnu :=
  (fun _ => rfl : ∀ x, ({ s with rve := x } : State).lnu = s.lnu) _
@[simp] theorem State.setRve_vce (f : RveSt → RveSt) : (s.setRve f).vce = s.vce :=
  (fun _ => rfl : ∀ x, ({ s with rve := x } : State).vce = s.vce) _
@[simp] theorem State.setRve_wve (f : RveSt → RveSt) : (s.setRve f).wve = s.wve :=
  (fun _ => rfl : ∀ x, ({ s with rve := x } : State).wve = s.wve) _
@[simp] theorem State.setRve_pxc (f : RveSt → RveSt) : (s.setRve f).pxc = s.pxc :=
  (fun _ => rfl : ∀ x, ({ s with rve := x } : State).pxc = s.pxc) _
@[simp] theorem State.setRve_drc (f : RveSt → RveSt) : (s.setRve f).drc = s.drc :=
  (fun _ => rfl : ∀ x, ({ s with rve := x } : State).drc = s.drc) _

/-! ## `State.setIcl` -/

@[simp] theorem State.setIcl_pending (f : IclSt → IclSt) : (s.setIcl f).pending = s.pending :=
  (fun _ => rfl : ∀ x, ({ s with icl := x } : State).pending = s.pending) _
@[simp] theorem State.setIcl_clk (f : IclSt → IclSt) : (s.setIcl f).clk = s.clk :=
  (fun _ => rfl : ∀ x, ({ s with icl := x } : State).clk = s.clk) _
@[simp] theorem State.setIcl_reg (f : IclSt → IclSt) : (s.setIcl f).reg = s.reg :=
  (fun _ => rfl : ∀ x, ({ s with icl := x } : State).reg = s.reg) _
@[simp] theorem State.setIcl_act (f : IclSt → IclSt) : (s.setIcl f).act = s.act :=
  (fun _ => rfl : ∀ x, ({ s with icl := x } : State).act = s.act) _
@[simp] theorem State.setIcl_latch (f : IclSt → IclSt) : (s.setIcl f).latch = s.latch :=
  (fun _ => rfl : ∀ x, ({ s with icl := x } : State).latch = s.latch) _
@[simp] theorem State.setIcl_read (f : IclSt → IclSt) : (s.setIcl f).read = s.read :=
  (fun _ => rfl : ∀ x, ({ s with icl := x } : State).read = s.read) _
@[simp] theorem State.setIcl_stage (f : IclSt → IclSt) : (s.setIcl f).stage = s.stage :=
  (fun _ => rfl : ∀ x, ({ s with icl := x } : State).stage = s.stage) _
@[simp] theorem State.setIcl_tbl (f : IclSt → IclSt) : (s.setIcl f).tbl = s.tbl :=
  (fun _ => rfl : ∀ x, ({ s with icl := x } : State).tbl = s.tbl) _
@[simp] theorem State.setIcl_ctr (f : IclSt → IclSt) : (s.setIcl f).ctr = s.ctr :=
  (fun _ => rfl : ∀ x, ({ s with icl := x } : State).ctr = s.ctr) _
@[simp] theorem State.setIcl_snap (f : IclSt → IclSt) : (s.setIcl f).snap = s.snap :=
  (fun _ => rfl : ∀ x, ({ s with icl := x } : State).snap = s.snap) _
@[simp] theorem State.setIcl_snapTbl (f : IclSt → IclSt) : (s.setIcl f).snapTbl = s.snapTbl :=
  (fun _ => rfl : ∀ x, ({ s with icl := x } : State).snapTbl = s.snapTbl) _
@[simp] theorem State.setIcl_page (f : IclSt → IclSt) : (s.setIcl f).page = s.page :=
  (fun _ => rfl : ∀ x, ({ s with icl := x } : State).page = s.page) _
@[simp] theorem State.setIcl_cgrp (f : IclSt → IclSt) : (s.setIcl f).cgrp = s.cgrp :=
  (fun _ => rfl : ∀ x, ({ s with icl := x } : State).cgrp = s.cgrp) _
@[simp] theorem State.setIcl_ev (f : IclSt → IclSt) : (s.setIcl f).ev = s.ev :=
  (fun _ => rfl : ∀ x, ({ s with icl := x } : State).ev = s.ev) _
@[simp] theorem State.setIcl_host (f : IclSt → IclSt) : (s.setIcl f).host = s.host :=
  (fun _ => rfl : ∀ x, ({ s with icl := x } : State).host = s.host) _
@[simp] theorem State.setIcl_free (f : IclSt → IclSt) : (s.setIcl f).free = s.free :=
  (fun _ => rfl : ∀ x, ({ s with icl := x } : State).free = s.free) _
@[simp] theorem State.setIcl_tmu (f : IclSt → IclSt) : (s.setIcl f).tmu = s.tmu :=
  (fun _ => rfl : ∀ x, ({ s with icl := x } : State).tmu = s.tmu) _
@[simp] theorem State.setIcl_mem (f : IclSt → IclSt) : (s.setIcl f).mem = s.mem :=
  (fun _ => rfl : ∀ x, ({ s with icl := x } : State).mem = s.mem) _
@[simp] theorem State.setIcl_crl (f : IclSt → IclSt) : (s.setIcl f).crl = s.crl :=
  (fun _ => rfl : ∀ x, ({ s with icl := x } : State).crl = s.crl) _
@[simp] theorem State.setIcl_col (f : IclSt → IclSt) : (s.setIcl f).col = s.col :=
  (fun _ => rfl : ∀ x, ({ s with icl := x } : State).col = s.col) _
@[simp] theorem State.setIcl_deferred (f : IclSt → IclSt) : (s.setIcl f).deferred = s.deferred :=
  (fun _ => rfl : ∀ x, ({ s with icl := x } : State).deferred = s.deferred) _
@[simp] theorem State.setIcl_vfEnabled (f : IclSt → IclSt) : (s.setIcl f).vfEnabled = s.vfEnabled :=
  (fun _ => rfl : ∀ x, ({ s with icl := x } : State).vfEnabled = s.vfEnabled) _
@[simp] theorem State.setIcl_rve (f : IclSt → IclSt) : (s.setIcl f).rve = s.rve :=
  (fun _ => rfl : ∀ x, ({ s with icl := x } : State).rve = s.rve) _
@[simp] theorem State.setIcl_cores (f : IclSt → IclSt) : (s.setIcl f).cores = s.cores :=
  (fun _ => rfl : ∀ x, ({ s with icl := x } : State).cores = s.cores) _
@[simp] theorem State.setIcl_icl (f : IclSt → IclSt) : (s.setIcl f).icl = f s.icl := rfl
@[simp] theorem State.setIcl_cpe (f : IclSt → IclSt) : (s.setIcl f).cpe = s.cpe :=
  (fun _ => rfl : ∀ x, ({ s with icl := x } : State).cpe = s.cpe) _
@[simp] theorem State.setIcl_lfw (f : IclSt → IclSt) : (s.setIcl f).lfw = s.lfw :=
  (fun _ => rfl : ∀ x, ({ s with icl := x } : State).lfw = s.lfw) _
@[simp] theorem State.setIcl_esc (f : IclSt → IclSt) : (s.setIcl f).esc = s.esc :=
  (fun _ => rfl : ∀ x, ({ s with icl := x } : State).esc = s.esc) _
@[simp] theorem State.setIcl_qz (f : IclSt → IclSt) : (s.setIcl f).qz = s.qz :=
  (fun _ => rfl : ∀ x, ({ s with icl := x } : State).qz = s.qz) _
@[simp] theorem State.setIcl_prg (f : IclSt → IclSt) : (s.setIcl f).prg = s.prg :=
  (fun _ => rfl : ∀ x, ({ s with icl := x } : State).prg = s.prg) _
@[simp] theorem State.setIcl_mxf (f : IclSt → IclSt) : (s.setIcl f).mxf = s.mxf :=
  (fun _ => rfl : ∀ x, ({ s with icl := x } : State).mxf = s.mxf) _
@[simp] theorem State.setIcl_lnu (f : IclSt → IclSt) : (s.setIcl f).lnu = s.lnu :=
  (fun _ => rfl : ∀ x, ({ s with icl := x } : State).lnu = s.lnu) _
@[simp] theorem State.setIcl_vce (f : IclSt → IclSt) : (s.setIcl f).vce = s.vce :=
  (fun _ => rfl : ∀ x, ({ s with icl := x } : State).vce = s.vce) _
@[simp] theorem State.setIcl_wve (f : IclSt → IclSt) : (s.setIcl f).wve = s.wve :=
  (fun _ => rfl : ∀ x, ({ s with icl := x } : State).wve = s.wve) _
@[simp] theorem State.setIcl_pxc (f : IclSt → IclSt) : (s.setIcl f).pxc = s.pxc :=
  (fun _ => rfl : ∀ x, ({ s with icl := x } : State).pxc = s.pxc) _
@[simp] theorem State.setIcl_drc (f : IclSt → IclSt) : (s.setIcl f).drc = s.drc :=
  (fun _ => rfl : ∀ x, ({ s with icl := x } : State).drc = s.drc) _

/-! ## `State.setCpe` -/

@[simp] theorem State.setCpe_pending (f : CpeSt → CpeSt) : (s.setCpe f).pending = s.pending :=
  (fun _ => rfl : ∀ x, ({ s with cpe := x } : State).pending = s.pending) _
@[simp] theorem State.setCpe_clk (f : CpeSt → CpeSt) : (s.setCpe f).clk = s.clk :=
  (fun _ => rfl : ∀ x, ({ s with cpe := x } : State).clk = s.clk) _
@[simp] theorem State.setCpe_reg (f : CpeSt → CpeSt) : (s.setCpe f).reg = s.reg :=
  (fun _ => rfl : ∀ x, ({ s with cpe := x } : State).reg = s.reg) _
@[simp] theorem State.setCpe_act (f : CpeSt → CpeSt) : (s.setCpe f).act = s.act :=
  (fun _ => rfl : ∀ x, ({ s with cpe := x } : State).act = s.act) _
@[simp] theorem State.setCpe_latch (f : CpeSt → CpeSt) : (s.setCpe f).latch = s.latch :=
  (fun _ => rfl : ∀ x, ({ s with cpe := x } : State).latch = s.latch) _
@[simp] theorem State.setCpe_read (f : CpeSt → CpeSt) : (s.setCpe f).read = s.read :=
  (fun _ => rfl : ∀ x, ({ s with cpe := x } : State).read = s.read) _
@[simp] theorem State.setCpe_stage (f : CpeSt → CpeSt) : (s.setCpe f).stage = s.stage :=
  (fun _ => rfl : ∀ x, ({ s with cpe := x } : State).stage = s.stage) _
@[simp] theorem State.setCpe_tbl (f : CpeSt → CpeSt) : (s.setCpe f).tbl = s.tbl :=
  (fun _ => rfl : ∀ x, ({ s with cpe := x } : State).tbl = s.tbl) _
@[simp] theorem State.setCpe_ctr (f : CpeSt → CpeSt) : (s.setCpe f).ctr = s.ctr :=
  (fun _ => rfl : ∀ x, ({ s with cpe := x } : State).ctr = s.ctr) _
@[simp] theorem State.setCpe_snap (f : CpeSt → CpeSt) : (s.setCpe f).snap = s.snap :=
  (fun _ => rfl : ∀ x, ({ s with cpe := x } : State).snap = s.snap) _
@[simp] theorem State.setCpe_snapTbl (f : CpeSt → CpeSt) : (s.setCpe f).snapTbl = s.snapTbl :=
  (fun _ => rfl : ∀ x, ({ s with cpe := x } : State).snapTbl = s.snapTbl) _
@[simp] theorem State.setCpe_page (f : CpeSt → CpeSt) : (s.setCpe f).page = s.page :=
  (fun _ => rfl : ∀ x, ({ s with cpe := x } : State).page = s.page) _
@[simp] theorem State.setCpe_cgrp (f : CpeSt → CpeSt) : (s.setCpe f).cgrp = s.cgrp :=
  (fun _ => rfl : ∀ x, ({ s with cpe := x } : State).cgrp = s.cgrp) _
@[simp] theorem State.setCpe_ev (f : CpeSt → CpeSt) : (s.setCpe f).ev = s.ev :=
  (fun _ => rfl : ∀ x, ({ s with cpe := x } : State).ev = s.ev) _
@[simp] theorem State.setCpe_host (f : CpeSt → CpeSt) : (s.setCpe f).host = s.host :=
  (fun _ => rfl : ∀ x, ({ s with cpe := x } : State).host = s.host) _
@[simp] theorem State.setCpe_free (f : CpeSt → CpeSt) : (s.setCpe f).free = s.free :=
  (fun _ => rfl : ∀ x, ({ s with cpe := x } : State).free = s.free) _
@[simp] theorem State.setCpe_tmu (f : CpeSt → CpeSt) : (s.setCpe f).tmu = s.tmu :=
  (fun _ => rfl : ∀ x, ({ s with cpe := x } : State).tmu = s.tmu) _
@[simp] theorem State.setCpe_mem (f : CpeSt → CpeSt) : (s.setCpe f).mem = s.mem :=
  (fun _ => rfl : ∀ x, ({ s with cpe := x } : State).mem = s.mem) _
@[simp] theorem State.setCpe_crl (f : CpeSt → CpeSt) : (s.setCpe f).crl = s.crl :=
  (fun _ => rfl : ∀ x, ({ s with cpe := x } : State).crl = s.crl) _
@[simp] theorem State.setCpe_col (f : CpeSt → CpeSt) : (s.setCpe f).col = s.col :=
  (fun _ => rfl : ∀ x, ({ s with cpe := x } : State).col = s.col) _
@[simp] theorem State.setCpe_deferred (f : CpeSt → CpeSt) : (s.setCpe f).deferred = s.deferred :=
  (fun _ => rfl : ∀ x, ({ s with cpe := x } : State).deferred = s.deferred) _
@[simp] theorem State.setCpe_vfEnabled (f : CpeSt → CpeSt) : (s.setCpe f).vfEnabled = s.vfEnabled :=
  (fun _ => rfl : ∀ x, ({ s with cpe := x } : State).vfEnabled = s.vfEnabled) _
@[simp] theorem State.setCpe_rve (f : CpeSt → CpeSt) : (s.setCpe f).rve = s.rve :=
  (fun _ => rfl : ∀ x, ({ s with cpe := x } : State).rve = s.rve) _
@[simp] theorem State.setCpe_cores (f : CpeSt → CpeSt) : (s.setCpe f).cores = s.cores :=
  (fun _ => rfl : ∀ x, ({ s with cpe := x } : State).cores = s.cores) _
@[simp] theorem State.setCpe_icl (f : CpeSt → CpeSt) : (s.setCpe f).icl = s.icl :=
  (fun _ => rfl : ∀ x, ({ s with cpe := x } : State).icl = s.icl) _
@[simp] theorem State.setCpe_cpe (f : CpeSt → CpeSt) : (s.setCpe f).cpe = f s.cpe := rfl
@[simp] theorem State.setCpe_lfw (f : CpeSt → CpeSt) : (s.setCpe f).lfw = s.lfw :=
  (fun _ => rfl : ∀ x, ({ s with cpe := x } : State).lfw = s.lfw) _
@[simp] theorem State.setCpe_esc (f : CpeSt → CpeSt) : (s.setCpe f).esc = s.esc :=
  (fun _ => rfl : ∀ x, ({ s with cpe := x } : State).esc = s.esc) _
@[simp] theorem State.setCpe_qz (f : CpeSt → CpeSt) : (s.setCpe f).qz = s.qz :=
  (fun _ => rfl : ∀ x, ({ s with cpe := x } : State).qz = s.qz) _
@[simp] theorem State.setCpe_prg (f : CpeSt → CpeSt) : (s.setCpe f).prg = s.prg :=
  (fun _ => rfl : ∀ x, ({ s with cpe := x } : State).prg = s.prg) _
@[simp] theorem State.setCpe_mxf (f : CpeSt → CpeSt) : (s.setCpe f).mxf = s.mxf :=
  (fun _ => rfl : ∀ x, ({ s with cpe := x } : State).mxf = s.mxf) _
@[simp] theorem State.setCpe_lnu (f : CpeSt → CpeSt) : (s.setCpe f).lnu = s.lnu :=
  (fun _ => rfl : ∀ x, ({ s with cpe := x } : State).lnu = s.lnu) _
@[simp] theorem State.setCpe_vce (f : CpeSt → CpeSt) : (s.setCpe f).vce = s.vce :=
  (fun _ => rfl : ∀ x, ({ s with cpe := x } : State).vce = s.vce) _
@[simp] theorem State.setCpe_wve (f : CpeSt → CpeSt) : (s.setCpe f).wve = s.wve :=
  (fun _ => rfl : ∀ x, ({ s with cpe := x } : State).wve = s.wve) _
@[simp] theorem State.setCpe_pxc (f : CpeSt → CpeSt) : (s.setCpe f).pxc = s.pxc :=
  (fun _ => rfl : ∀ x, ({ s with cpe := x } : State).pxc = s.pxc) _
@[simp] theorem State.setCpe_drc (f : CpeSt → CpeSt) : (s.setCpe f).drc = s.drc :=
  (fun _ => rfl : ∀ x, ({ s with cpe := x } : State).drc = s.drc) _

/-! ## `State.setLfw` -/

@[simp] theorem State.setLfw_pending (f : LfwSt → LfwSt) : (s.setLfw f).pending = s.pending :=
  (fun _ => rfl : ∀ x, ({ s with lfw := x } : State).pending = s.pending) _
@[simp] theorem State.setLfw_clk (f : LfwSt → LfwSt) : (s.setLfw f).clk = s.clk :=
  (fun _ => rfl : ∀ x, ({ s with lfw := x } : State).clk = s.clk) _
@[simp] theorem State.setLfw_reg (f : LfwSt → LfwSt) : (s.setLfw f).reg = s.reg :=
  (fun _ => rfl : ∀ x, ({ s with lfw := x } : State).reg = s.reg) _
@[simp] theorem State.setLfw_act (f : LfwSt → LfwSt) : (s.setLfw f).act = s.act :=
  (fun _ => rfl : ∀ x, ({ s with lfw := x } : State).act = s.act) _
@[simp] theorem State.setLfw_latch (f : LfwSt → LfwSt) : (s.setLfw f).latch = s.latch :=
  (fun _ => rfl : ∀ x, ({ s with lfw := x } : State).latch = s.latch) _
@[simp] theorem State.setLfw_read (f : LfwSt → LfwSt) : (s.setLfw f).read = s.read :=
  (fun _ => rfl : ∀ x, ({ s with lfw := x } : State).read = s.read) _
@[simp] theorem State.setLfw_stage (f : LfwSt → LfwSt) : (s.setLfw f).stage = s.stage :=
  (fun _ => rfl : ∀ x, ({ s with lfw := x } : State).stage = s.stage) _
@[simp] theorem State.setLfw_tbl (f : LfwSt → LfwSt) : (s.setLfw f).tbl = s.tbl :=
  (fun _ => rfl : ∀ x, ({ s with lfw := x } : State).tbl = s.tbl) _
@[simp] theorem State.setLfw_ctr (f : LfwSt → LfwSt) : (s.setLfw f).ctr = s.ctr :=
  (fun _ => rfl : ∀ x, ({ s with lfw := x } : State).ctr = s.ctr) _
@[simp] theorem State.setLfw_snap (f : LfwSt → LfwSt) : (s.setLfw f).snap = s.snap :=
  (fun _ => rfl : ∀ x, ({ s with lfw := x } : State).snap = s.snap) _
@[simp] theorem State.setLfw_snapTbl (f : LfwSt → LfwSt) : (s.setLfw f).snapTbl = s.snapTbl :=
  (fun _ => rfl : ∀ x, ({ s with lfw := x } : State).snapTbl = s.snapTbl) _
@[simp] theorem State.setLfw_page (f : LfwSt → LfwSt) : (s.setLfw f).page = s.page :=
  (fun _ => rfl : ∀ x, ({ s with lfw := x } : State).page = s.page) _
@[simp] theorem State.setLfw_cgrp (f : LfwSt → LfwSt) : (s.setLfw f).cgrp = s.cgrp :=
  (fun _ => rfl : ∀ x, ({ s with lfw := x } : State).cgrp = s.cgrp) _
@[simp] theorem State.setLfw_ev (f : LfwSt → LfwSt) : (s.setLfw f).ev = s.ev :=
  (fun _ => rfl : ∀ x, ({ s with lfw := x } : State).ev = s.ev) _
@[simp] theorem State.setLfw_host (f : LfwSt → LfwSt) : (s.setLfw f).host = s.host :=
  (fun _ => rfl : ∀ x, ({ s with lfw := x } : State).host = s.host) _
@[simp] theorem State.setLfw_free (f : LfwSt → LfwSt) : (s.setLfw f).free = s.free :=
  (fun _ => rfl : ∀ x, ({ s with lfw := x } : State).free = s.free) _
@[simp] theorem State.setLfw_tmu (f : LfwSt → LfwSt) : (s.setLfw f).tmu = s.tmu :=
  (fun _ => rfl : ∀ x, ({ s with lfw := x } : State).tmu = s.tmu) _
@[simp] theorem State.setLfw_mem (f : LfwSt → LfwSt) : (s.setLfw f).mem = s.mem :=
  (fun _ => rfl : ∀ x, ({ s with lfw := x } : State).mem = s.mem) _
@[simp] theorem State.setLfw_crl (f : LfwSt → LfwSt) : (s.setLfw f).crl = s.crl :=
  (fun _ => rfl : ∀ x, ({ s with lfw := x } : State).crl = s.crl) _
@[simp] theorem State.setLfw_col (f : LfwSt → LfwSt) : (s.setLfw f).col = s.col :=
  (fun _ => rfl : ∀ x, ({ s with lfw := x } : State).col = s.col) _
@[simp] theorem State.setLfw_deferred (f : LfwSt → LfwSt) : (s.setLfw f).deferred = s.deferred :=
  (fun _ => rfl : ∀ x, ({ s with lfw := x } : State).deferred = s.deferred) _
@[simp] theorem State.setLfw_vfEnabled (f : LfwSt → LfwSt) : (s.setLfw f).vfEnabled = s.vfEnabled :=
  (fun _ => rfl : ∀ x, ({ s with lfw := x } : State).vfEnabled = s.vfEnabled) _
@[simp] theorem State.setLfw_rve (f : LfwSt → LfwSt) : (s.setLfw f).rve = s.rve :=
  (fun _ => rfl : ∀ x, ({ s with lfw := x } : State).rve = s.rve) _
@[simp] theorem State.setLfw_cores (f : LfwSt → LfwSt) : (s.setLfw f).cores = s.cores :=
  (fun _ => rfl : ∀ x, ({ s with lfw := x } : State).cores = s.cores) _
@[simp] theorem State.setLfw_icl (f : LfwSt → LfwSt) : (s.setLfw f).icl = s.icl :=
  (fun _ => rfl : ∀ x, ({ s with lfw := x } : State).icl = s.icl) _
@[simp] theorem State.setLfw_cpe (f : LfwSt → LfwSt) : (s.setLfw f).cpe = s.cpe :=
  (fun _ => rfl : ∀ x, ({ s with lfw := x } : State).cpe = s.cpe) _
@[simp] theorem State.setLfw_lfw (f : LfwSt → LfwSt) : (s.setLfw f).lfw = f s.lfw := rfl
@[simp] theorem State.setLfw_esc (f : LfwSt → LfwSt) : (s.setLfw f).esc = s.esc :=
  (fun _ => rfl : ∀ x, ({ s with lfw := x } : State).esc = s.esc) _
@[simp] theorem State.setLfw_qz (f : LfwSt → LfwSt) : (s.setLfw f).qz = s.qz :=
  (fun _ => rfl : ∀ x, ({ s with lfw := x } : State).qz = s.qz) _
@[simp] theorem State.setLfw_prg (f : LfwSt → LfwSt) : (s.setLfw f).prg = s.prg :=
  (fun _ => rfl : ∀ x, ({ s with lfw := x } : State).prg = s.prg) _
@[simp] theorem State.setLfw_mxf (f : LfwSt → LfwSt) : (s.setLfw f).mxf = s.mxf :=
  (fun _ => rfl : ∀ x, ({ s with lfw := x } : State).mxf = s.mxf) _
@[simp] theorem State.setLfw_lnu (f : LfwSt → LfwSt) : (s.setLfw f).lnu = s.lnu :=
  (fun _ => rfl : ∀ x, ({ s with lfw := x } : State).lnu = s.lnu) _
@[simp] theorem State.setLfw_vce (f : LfwSt → LfwSt) : (s.setLfw f).vce = s.vce :=
  (fun _ => rfl : ∀ x, ({ s with lfw := x } : State).vce = s.vce) _
@[simp] theorem State.setLfw_wve (f : LfwSt → LfwSt) : (s.setLfw f).wve = s.wve :=
  (fun _ => rfl : ∀ x, ({ s with lfw := x } : State).wve = s.wve) _
@[simp] theorem State.setLfw_pxc (f : LfwSt → LfwSt) : (s.setLfw f).pxc = s.pxc :=
  (fun _ => rfl : ∀ x, ({ s with lfw := x } : State).pxc = s.pxc) _
@[simp] theorem State.setLfw_drc (f : LfwSt → LfwSt) : (s.setLfw f).drc = s.drc :=
  (fun _ => rfl : ∀ x, ({ s with lfw := x } : State).drc = s.drc) _

/-! ## `State.setEsc` -/

@[simp] theorem State.setEsc_pending (f : EscSt → EscSt) : (s.setEsc f).pending = s.pending :=
  (fun _ => rfl : ∀ x, ({ s with esc := x } : State).pending = s.pending) _
@[simp] theorem State.setEsc_clk (f : EscSt → EscSt) : (s.setEsc f).clk = s.clk :=
  (fun _ => rfl : ∀ x, ({ s with esc := x } : State).clk = s.clk) _
@[simp] theorem State.setEsc_reg (f : EscSt → EscSt) : (s.setEsc f).reg = s.reg :=
  (fun _ => rfl : ∀ x, ({ s with esc := x } : State).reg = s.reg) _
@[simp] theorem State.setEsc_act (f : EscSt → EscSt) : (s.setEsc f).act = s.act :=
  (fun _ => rfl : ∀ x, ({ s with esc := x } : State).act = s.act) _
@[simp] theorem State.setEsc_latch (f : EscSt → EscSt) : (s.setEsc f).latch = s.latch :=
  (fun _ => rfl : ∀ x, ({ s with esc := x } : State).latch = s.latch) _
@[simp] theorem State.setEsc_read (f : EscSt → EscSt) : (s.setEsc f).read = s.read :=
  (fun _ => rfl : ∀ x, ({ s with esc := x } : State).read = s.read) _
@[simp] theorem State.setEsc_stage (f : EscSt → EscSt) : (s.setEsc f).stage = s.stage :=
  (fun _ => rfl : ∀ x, ({ s with esc := x } : State).stage = s.stage) _
@[simp] theorem State.setEsc_tbl (f : EscSt → EscSt) : (s.setEsc f).tbl = s.tbl :=
  (fun _ => rfl : ∀ x, ({ s with esc := x } : State).tbl = s.tbl) _
@[simp] theorem State.setEsc_ctr (f : EscSt → EscSt) : (s.setEsc f).ctr = s.ctr :=
  (fun _ => rfl : ∀ x, ({ s with esc := x } : State).ctr = s.ctr) _
@[simp] theorem State.setEsc_snap (f : EscSt → EscSt) : (s.setEsc f).snap = s.snap :=
  (fun _ => rfl : ∀ x, ({ s with esc := x } : State).snap = s.snap) _
@[simp] theorem State.setEsc_snapTbl (f : EscSt → EscSt) : (s.setEsc f).snapTbl = s.snapTbl :=
  (fun _ => rfl : ∀ x, ({ s with esc := x } : State).snapTbl = s.snapTbl) _
@[simp] theorem State.setEsc_page (f : EscSt → EscSt) : (s.setEsc f).page = s.page :=
  (fun _ => rfl : ∀ x, ({ s with esc := x } : State).page = s.page) _
@[simp] theorem State.setEsc_cgrp (f : EscSt → EscSt) : (s.setEsc f).cgrp = s.cgrp :=
  (fun _ => rfl : ∀ x, ({ s with esc := x } : State).cgrp = s.cgrp) _
@[simp] theorem State.setEsc_ev (f : EscSt → EscSt) : (s.setEsc f).ev = s.ev :=
  (fun _ => rfl : ∀ x, ({ s with esc := x } : State).ev = s.ev) _
@[simp] theorem State.setEsc_host (f : EscSt → EscSt) : (s.setEsc f).host = s.host :=
  (fun _ => rfl : ∀ x, ({ s with esc := x } : State).host = s.host) _
@[simp] theorem State.setEsc_free (f : EscSt → EscSt) : (s.setEsc f).free = s.free :=
  (fun _ => rfl : ∀ x, ({ s with esc := x } : State).free = s.free) _
@[simp] theorem State.setEsc_tmu (f : EscSt → EscSt) : (s.setEsc f).tmu = s.tmu :=
  (fun _ => rfl : ∀ x, ({ s with esc := x } : State).tmu = s.tmu) _
@[simp] theorem State.setEsc_mem (f : EscSt → EscSt) : (s.setEsc f).mem = s.mem :=
  (fun _ => rfl : ∀ x, ({ s with esc := x } : State).mem = s.mem) _
@[simp] theorem State.setEsc_crl (f : EscSt → EscSt) : (s.setEsc f).crl = s.crl :=
  (fun _ => rfl : ∀ x, ({ s with esc := x } : State).crl = s.crl) _
@[simp] theorem State.setEsc_col (f : EscSt → EscSt) : (s.setEsc f).col = s.col :=
  (fun _ => rfl : ∀ x, ({ s with esc := x } : State).col = s.col) _
@[simp] theorem State.setEsc_deferred (f : EscSt → EscSt) : (s.setEsc f).deferred = s.deferred :=
  (fun _ => rfl : ∀ x, ({ s with esc := x } : State).deferred = s.deferred) _
@[simp] theorem State.setEsc_vfEnabled (f : EscSt → EscSt) : (s.setEsc f).vfEnabled = s.vfEnabled :=
  (fun _ => rfl : ∀ x, ({ s with esc := x } : State).vfEnabled = s.vfEnabled) _
@[simp] theorem State.setEsc_rve (f : EscSt → EscSt) : (s.setEsc f).rve = s.rve :=
  (fun _ => rfl : ∀ x, ({ s with esc := x } : State).rve = s.rve) _
@[simp] theorem State.setEsc_cores (f : EscSt → EscSt) : (s.setEsc f).cores = s.cores :=
  (fun _ => rfl : ∀ x, ({ s with esc := x } : State).cores = s.cores) _
@[simp] theorem State.setEsc_icl (f : EscSt → EscSt) : (s.setEsc f).icl = s.icl :=
  (fun _ => rfl : ∀ x, ({ s with esc := x } : State).icl = s.icl) _
@[simp] theorem State.setEsc_cpe (f : EscSt → EscSt) : (s.setEsc f).cpe = s.cpe :=
  (fun _ => rfl : ∀ x, ({ s with esc := x } : State).cpe = s.cpe) _
@[simp] theorem State.setEsc_lfw (f : EscSt → EscSt) : (s.setEsc f).lfw = s.lfw :=
  (fun _ => rfl : ∀ x, ({ s with esc := x } : State).lfw = s.lfw) _
@[simp] theorem State.setEsc_esc (f : EscSt → EscSt) : (s.setEsc f).esc = f s.esc := rfl
@[simp] theorem State.setEsc_qz (f : EscSt → EscSt) : (s.setEsc f).qz = s.qz :=
  (fun _ => rfl : ∀ x, ({ s with esc := x } : State).qz = s.qz) _
@[simp] theorem State.setEsc_prg (f : EscSt → EscSt) : (s.setEsc f).prg = s.prg :=
  (fun _ => rfl : ∀ x, ({ s with esc := x } : State).prg = s.prg) _
@[simp] theorem State.setEsc_mxf (f : EscSt → EscSt) : (s.setEsc f).mxf = s.mxf :=
  (fun _ => rfl : ∀ x, ({ s with esc := x } : State).mxf = s.mxf) _
@[simp] theorem State.setEsc_lnu (f : EscSt → EscSt) : (s.setEsc f).lnu = s.lnu :=
  (fun _ => rfl : ∀ x, ({ s with esc := x } : State).lnu = s.lnu) _
@[simp] theorem State.setEsc_vce (f : EscSt → EscSt) : (s.setEsc f).vce = s.vce :=
  (fun _ => rfl : ∀ x, ({ s with esc := x } : State).vce = s.vce) _
@[simp] theorem State.setEsc_wve (f : EscSt → EscSt) : (s.setEsc f).wve = s.wve :=
  (fun _ => rfl : ∀ x, ({ s with esc := x } : State).wve = s.wve) _
@[simp] theorem State.setEsc_pxc (f : EscSt → EscSt) : (s.setEsc f).pxc = s.pxc :=
  (fun _ => rfl : ∀ x, ({ s with esc := x } : State).pxc = s.pxc) _
@[simp] theorem State.setEsc_drc (f : EscSt → EscSt) : (s.setEsc f).drc = s.drc :=
  (fun _ => rfl : ∀ x, ({ s with esc := x } : State).drc = s.drc) _

/-! ## `State.setQz` -/

@[simp] theorem State.setQz_pending (f : QzSt → QzSt) : (s.setQz f).pending = s.pending :=
  (fun _ => rfl : ∀ x, ({ s with qz := x } : State).pending = s.pending) _
@[simp] theorem State.setQz_clk (f : QzSt → QzSt) : (s.setQz f).clk = s.clk :=
  (fun _ => rfl : ∀ x, ({ s with qz := x } : State).clk = s.clk) _
@[simp] theorem State.setQz_reg (f : QzSt → QzSt) : (s.setQz f).reg = s.reg :=
  (fun _ => rfl : ∀ x, ({ s with qz := x } : State).reg = s.reg) _
@[simp] theorem State.setQz_act (f : QzSt → QzSt) : (s.setQz f).act = s.act :=
  (fun _ => rfl : ∀ x, ({ s with qz := x } : State).act = s.act) _
@[simp] theorem State.setQz_latch (f : QzSt → QzSt) : (s.setQz f).latch = s.latch :=
  (fun _ => rfl : ∀ x, ({ s with qz := x } : State).latch = s.latch) _
@[simp] theorem State.setQz_read (f : QzSt → QzSt) : (s.setQz f).read = s.read :=
  (fun _ => rfl : ∀ x, ({ s with qz := x } : State).read = s.read) _
@[simp] theorem State.setQz_stage (f : QzSt → QzSt) : (s.setQz f).stage = s.stage :=
  (fun _ => rfl : ∀ x, ({ s with qz := x } : State).stage = s.stage) _
@[simp] theorem State.setQz_tbl (f : QzSt → QzSt) : (s.setQz f).tbl = s.tbl :=
  (fun _ => rfl : ∀ x, ({ s with qz := x } : State).tbl = s.tbl) _
@[simp] theorem State.setQz_ctr (f : QzSt → QzSt) : (s.setQz f).ctr = s.ctr :=
  (fun _ => rfl : ∀ x, ({ s with qz := x } : State).ctr = s.ctr) _
@[simp] theorem State.setQz_snap (f : QzSt → QzSt) : (s.setQz f).snap = s.snap :=
  (fun _ => rfl : ∀ x, ({ s with qz := x } : State).snap = s.snap) _
@[simp] theorem State.setQz_snapTbl (f : QzSt → QzSt) : (s.setQz f).snapTbl = s.snapTbl :=
  (fun _ => rfl : ∀ x, ({ s with qz := x } : State).snapTbl = s.snapTbl) _
@[simp] theorem State.setQz_page (f : QzSt → QzSt) : (s.setQz f).page = s.page :=
  (fun _ => rfl : ∀ x, ({ s with qz := x } : State).page = s.page) _
@[simp] theorem State.setQz_cgrp (f : QzSt → QzSt) : (s.setQz f).cgrp = s.cgrp :=
  (fun _ => rfl : ∀ x, ({ s with qz := x } : State).cgrp = s.cgrp) _
@[simp] theorem State.setQz_ev (f : QzSt → QzSt) : (s.setQz f).ev = s.ev :=
  (fun _ => rfl : ∀ x, ({ s with qz := x } : State).ev = s.ev) _
@[simp] theorem State.setQz_host (f : QzSt → QzSt) : (s.setQz f).host = s.host :=
  (fun _ => rfl : ∀ x, ({ s with qz := x } : State).host = s.host) _
@[simp] theorem State.setQz_free (f : QzSt → QzSt) : (s.setQz f).free = s.free :=
  (fun _ => rfl : ∀ x, ({ s with qz := x } : State).free = s.free) _
@[simp] theorem State.setQz_tmu (f : QzSt → QzSt) : (s.setQz f).tmu = s.tmu :=
  (fun _ => rfl : ∀ x, ({ s with qz := x } : State).tmu = s.tmu) _
@[simp] theorem State.setQz_mem (f : QzSt → QzSt) : (s.setQz f).mem = s.mem :=
  (fun _ => rfl : ∀ x, ({ s with qz := x } : State).mem = s.mem) _
@[simp] theorem State.setQz_crl (f : QzSt → QzSt) : (s.setQz f).crl = s.crl :=
  (fun _ => rfl : ∀ x, ({ s with qz := x } : State).crl = s.crl) _
@[simp] theorem State.setQz_col (f : QzSt → QzSt) : (s.setQz f).col = s.col :=
  (fun _ => rfl : ∀ x, ({ s with qz := x } : State).col = s.col) _
@[simp] theorem State.setQz_deferred (f : QzSt → QzSt) : (s.setQz f).deferred = s.deferred :=
  (fun _ => rfl : ∀ x, ({ s with qz := x } : State).deferred = s.deferred) _
@[simp] theorem State.setQz_vfEnabled (f : QzSt → QzSt) : (s.setQz f).vfEnabled = s.vfEnabled :=
  (fun _ => rfl : ∀ x, ({ s with qz := x } : State).vfEnabled = s.vfEnabled) _
@[simp] theorem State.setQz_rve (f : QzSt → QzSt) : (s.setQz f).rve = s.rve :=
  (fun _ => rfl : ∀ x, ({ s with qz := x } : State).rve = s.rve) _
@[simp] theorem State.setQz_cores (f : QzSt → QzSt) : (s.setQz f).cores = s.cores :=
  (fun _ => rfl : ∀ x, ({ s with qz := x } : State).cores = s.cores) _
@[simp] theorem State.setQz_icl (f : QzSt → QzSt) : (s.setQz f).icl = s.icl :=
  (fun _ => rfl : ∀ x, ({ s with qz := x } : State).icl = s.icl) _
@[simp] theorem State.setQz_cpe (f : QzSt → QzSt) : (s.setQz f).cpe = s.cpe :=
  (fun _ => rfl : ∀ x, ({ s with qz := x } : State).cpe = s.cpe) _
@[simp] theorem State.setQz_lfw (f : QzSt → QzSt) : (s.setQz f).lfw = s.lfw :=
  (fun _ => rfl : ∀ x, ({ s with qz := x } : State).lfw = s.lfw) _
@[simp] theorem State.setQz_esc (f : QzSt → QzSt) : (s.setQz f).esc = s.esc :=
  (fun _ => rfl : ∀ x, ({ s with qz := x } : State).esc = s.esc) _
@[simp] theorem State.setQz_qz (f : QzSt → QzSt) : (s.setQz f).qz = f s.qz := rfl
@[simp] theorem State.setQz_prg (f : QzSt → QzSt) : (s.setQz f).prg = s.prg :=
  (fun _ => rfl : ∀ x, ({ s with qz := x } : State).prg = s.prg) _
@[simp] theorem State.setQz_mxf (f : QzSt → QzSt) : (s.setQz f).mxf = s.mxf :=
  (fun _ => rfl : ∀ x, ({ s with qz := x } : State).mxf = s.mxf) _
@[simp] theorem State.setQz_lnu (f : QzSt → QzSt) : (s.setQz f).lnu = s.lnu :=
  (fun _ => rfl : ∀ x, ({ s with qz := x } : State).lnu = s.lnu) _
@[simp] theorem State.setQz_vce (f : QzSt → QzSt) : (s.setQz f).vce = s.vce :=
  (fun _ => rfl : ∀ x, ({ s with qz := x } : State).vce = s.vce) _
@[simp] theorem State.setQz_wve (f : QzSt → QzSt) : (s.setQz f).wve = s.wve :=
  (fun _ => rfl : ∀ x, ({ s with qz := x } : State).wve = s.wve) _
@[simp] theorem State.setQz_pxc (f : QzSt → QzSt) : (s.setQz f).pxc = s.pxc :=
  (fun _ => rfl : ∀ x, ({ s with qz := x } : State).pxc = s.pxc) _
@[simp] theorem State.setQz_drc (f : QzSt → QzSt) : (s.setQz f).drc = s.drc :=
  (fun _ => rfl : ∀ x, ({ s with qz := x } : State).drc = s.drc) _

/-! ## `State.setPrg` -/

@[simp] theorem State.setPrg_pending (f : PrgSt → PrgSt) : (s.setPrg f).pending = s.pending :=
  (fun _ => rfl : ∀ x, ({ s with prg := x } : State).pending = s.pending) _
@[simp] theorem State.setPrg_clk (f : PrgSt → PrgSt) : (s.setPrg f).clk = s.clk :=
  (fun _ => rfl : ∀ x, ({ s with prg := x } : State).clk = s.clk) _
@[simp] theorem State.setPrg_reg (f : PrgSt → PrgSt) : (s.setPrg f).reg = s.reg :=
  (fun _ => rfl : ∀ x, ({ s with prg := x } : State).reg = s.reg) _
@[simp] theorem State.setPrg_act (f : PrgSt → PrgSt) : (s.setPrg f).act = s.act :=
  (fun _ => rfl : ∀ x, ({ s with prg := x } : State).act = s.act) _
@[simp] theorem State.setPrg_latch (f : PrgSt → PrgSt) : (s.setPrg f).latch = s.latch :=
  (fun _ => rfl : ∀ x, ({ s with prg := x } : State).latch = s.latch) _
@[simp] theorem State.setPrg_read (f : PrgSt → PrgSt) : (s.setPrg f).read = s.read :=
  (fun _ => rfl : ∀ x, ({ s with prg := x } : State).read = s.read) _
@[simp] theorem State.setPrg_stage (f : PrgSt → PrgSt) : (s.setPrg f).stage = s.stage :=
  (fun _ => rfl : ∀ x, ({ s with prg := x } : State).stage = s.stage) _
@[simp] theorem State.setPrg_tbl (f : PrgSt → PrgSt) : (s.setPrg f).tbl = s.tbl :=
  (fun _ => rfl : ∀ x, ({ s with prg := x } : State).tbl = s.tbl) _
@[simp] theorem State.setPrg_ctr (f : PrgSt → PrgSt) : (s.setPrg f).ctr = s.ctr :=
  (fun _ => rfl : ∀ x, ({ s with prg := x } : State).ctr = s.ctr) _
@[simp] theorem State.setPrg_snap (f : PrgSt → PrgSt) : (s.setPrg f).snap = s.snap :=
  (fun _ => rfl : ∀ x, ({ s with prg := x } : State).snap = s.snap) _
@[simp] theorem State.setPrg_snapTbl (f : PrgSt → PrgSt) : (s.setPrg f).snapTbl = s.snapTbl :=
  (fun _ => rfl : ∀ x, ({ s with prg := x } : State).snapTbl = s.snapTbl) _
@[simp] theorem State.setPrg_page (f : PrgSt → PrgSt) : (s.setPrg f).page = s.page :=
  (fun _ => rfl : ∀ x, ({ s with prg := x } : State).page = s.page) _
@[simp] theorem State.setPrg_cgrp (f : PrgSt → PrgSt) : (s.setPrg f).cgrp = s.cgrp :=
  (fun _ => rfl : ∀ x, ({ s with prg := x } : State).cgrp = s.cgrp) _
@[simp] theorem State.setPrg_ev (f : PrgSt → PrgSt) : (s.setPrg f).ev = s.ev :=
  (fun _ => rfl : ∀ x, ({ s with prg := x } : State).ev = s.ev) _
@[simp] theorem State.setPrg_host (f : PrgSt → PrgSt) : (s.setPrg f).host = s.host :=
  (fun _ => rfl : ∀ x, ({ s with prg := x } : State).host = s.host) _
@[simp] theorem State.setPrg_free (f : PrgSt → PrgSt) : (s.setPrg f).free = s.free :=
  (fun _ => rfl : ∀ x, ({ s with prg := x } : State).free = s.free) _
@[simp] theorem State.setPrg_tmu (f : PrgSt → PrgSt) : (s.setPrg f).tmu = s.tmu :=
  (fun _ => rfl : ∀ x, ({ s with prg := x } : State).tmu = s.tmu) _
@[simp] theorem State.setPrg_mem (f : PrgSt → PrgSt) : (s.setPrg f).mem = s.mem :=
  (fun _ => rfl : ∀ x, ({ s with prg := x } : State).mem = s.mem) _
@[simp] theorem State.setPrg_crl (f : PrgSt → PrgSt) : (s.setPrg f).crl = s.crl :=
  (fun _ => rfl : ∀ x, ({ s with prg := x } : State).crl = s.crl) _
@[simp] theorem State.setPrg_col (f : PrgSt → PrgSt) : (s.setPrg f).col = s.col :=
  (fun _ => rfl : ∀ x, ({ s with prg := x } : State).col = s.col) _
@[simp] theorem State.setPrg_deferred (f : PrgSt → PrgSt) : (s.setPrg f).deferred = s.deferred :=
  (fun _ => rfl : ∀ x, ({ s with prg := x } : State).deferred = s.deferred) _
@[simp] theorem State.setPrg_vfEnabled (f : PrgSt → PrgSt) : (s.setPrg f).vfEnabled = s.vfEnabled :=
  (fun _ => rfl : ∀ x, ({ s with prg := x } : State).vfEnabled = s.vfEnabled) _
@[simp] theorem State.setPrg_rve (f : PrgSt → PrgSt) : (s.setPrg f).rve = s.rve :=
  (fun _ => rfl : ∀ x, ({ s with prg := x } : State).rve = s.rve) _
@[simp] theorem State.setPrg_cores (f : PrgSt → PrgSt) : (s.setPrg f).cores = s.cores :=
  (fun _ => rfl : ∀ x, ({ s with prg := x } : State).cores = s.cores) _
@[simp] theorem State.setPrg_icl (f : PrgSt → PrgSt) : (s.setPrg f).icl = s.icl :=
  (fun _ => rfl : ∀ x, ({ s with prg := x } : State).icl = s.icl) _
@[simp] theorem State.setPrg_cpe (f : PrgSt → PrgSt) : (s.setPrg f).cpe = s.cpe :=
  (fun _ => rfl : ∀ x, ({ s with prg := x } : State).cpe = s.cpe) _
@[simp] theorem State.setPrg_lfw (f : PrgSt → PrgSt) : (s.setPrg f).lfw = s.lfw :=
  (fun _ => rfl : ∀ x, ({ s with prg := x } : State).lfw = s.lfw) _
@[simp] theorem State.setPrg_esc (f : PrgSt → PrgSt) : (s.setPrg f).esc = s.esc :=
  (fun _ => rfl : ∀ x, ({ s with prg := x } : State).esc = s.esc) _
@[simp] theorem State.setPrg_qz (f : PrgSt → PrgSt) : (s.setPrg f).qz = s.qz :=
  (fun _ => rfl : ∀ x, ({ s with prg := x } : State).qz = s.qz) _
@[simp] theorem State.setPrg_prg (f : PrgSt → PrgSt) : (s.setPrg f).prg = f s.prg := rfl
@[simp] theorem State.setPrg_mxf (f : PrgSt → PrgSt) : (s.setPrg f).mxf = s.mxf :=
  (fun _ => rfl : ∀ x, ({ s with prg := x } : State).mxf = s.mxf) _
@[simp] theorem State.setPrg_lnu (f : PrgSt → PrgSt) : (s.setPrg f).lnu = s.lnu :=
  (fun _ => rfl : ∀ x, ({ s with prg := x } : State).lnu = s.lnu) _
@[simp] theorem State.setPrg_vce (f : PrgSt → PrgSt) : (s.setPrg f).vce = s.vce :=
  (fun _ => rfl : ∀ x, ({ s with prg := x } : State).vce = s.vce) _
@[simp] theorem State.setPrg_wve (f : PrgSt → PrgSt) : (s.setPrg f).wve = s.wve :=
  (fun _ => rfl : ∀ x, ({ s with prg := x } : State).wve = s.wve) _
@[simp] theorem State.setPrg_pxc (f : PrgSt → PrgSt) : (s.setPrg f).pxc = s.pxc :=
  (fun _ => rfl : ∀ x, ({ s with prg := x } : State).pxc = s.pxc) _
@[simp] theorem State.setPrg_drc (f : PrgSt → PrgSt) : (s.setPrg f).drc = s.drc :=
  (fun _ => rfl : ∀ x, ({ s with prg := x } : State).drc = s.drc) _

/-! ## `State.setMxf` -/

@[simp] theorem State.setMxf_pending (f : MxfSt → MxfSt) : (s.setMxf f).pending = s.pending :=
  (fun _ => rfl : ∀ x, ({ s with mxf := x } : State).pending = s.pending) _
@[simp] theorem State.setMxf_clk (f : MxfSt → MxfSt) : (s.setMxf f).clk = s.clk :=
  (fun _ => rfl : ∀ x, ({ s with mxf := x } : State).clk = s.clk) _
@[simp] theorem State.setMxf_reg (f : MxfSt → MxfSt) : (s.setMxf f).reg = s.reg :=
  (fun _ => rfl : ∀ x, ({ s with mxf := x } : State).reg = s.reg) _
@[simp] theorem State.setMxf_act (f : MxfSt → MxfSt) : (s.setMxf f).act = s.act :=
  (fun _ => rfl : ∀ x, ({ s with mxf := x } : State).act = s.act) _
@[simp] theorem State.setMxf_latch (f : MxfSt → MxfSt) : (s.setMxf f).latch = s.latch :=
  (fun _ => rfl : ∀ x, ({ s with mxf := x } : State).latch = s.latch) _
@[simp] theorem State.setMxf_read (f : MxfSt → MxfSt) : (s.setMxf f).read = s.read :=
  (fun _ => rfl : ∀ x, ({ s with mxf := x } : State).read = s.read) _
@[simp] theorem State.setMxf_stage (f : MxfSt → MxfSt) : (s.setMxf f).stage = s.stage :=
  (fun _ => rfl : ∀ x, ({ s with mxf := x } : State).stage = s.stage) _
@[simp] theorem State.setMxf_tbl (f : MxfSt → MxfSt) : (s.setMxf f).tbl = s.tbl :=
  (fun _ => rfl : ∀ x, ({ s with mxf := x } : State).tbl = s.tbl) _
@[simp] theorem State.setMxf_ctr (f : MxfSt → MxfSt) : (s.setMxf f).ctr = s.ctr :=
  (fun _ => rfl : ∀ x, ({ s with mxf := x } : State).ctr = s.ctr) _
@[simp] theorem State.setMxf_snap (f : MxfSt → MxfSt) : (s.setMxf f).snap = s.snap :=
  (fun _ => rfl : ∀ x, ({ s with mxf := x } : State).snap = s.snap) _
@[simp] theorem State.setMxf_snapTbl (f : MxfSt → MxfSt) : (s.setMxf f).snapTbl = s.snapTbl :=
  (fun _ => rfl : ∀ x, ({ s with mxf := x } : State).snapTbl = s.snapTbl) _
@[simp] theorem State.setMxf_page (f : MxfSt → MxfSt) : (s.setMxf f).page = s.page :=
  (fun _ => rfl : ∀ x, ({ s with mxf := x } : State).page = s.page) _
@[simp] theorem State.setMxf_cgrp (f : MxfSt → MxfSt) : (s.setMxf f).cgrp = s.cgrp :=
  (fun _ => rfl : ∀ x, ({ s with mxf := x } : State).cgrp = s.cgrp) _
@[simp] theorem State.setMxf_ev (f : MxfSt → MxfSt) : (s.setMxf f).ev = s.ev :=
  (fun _ => rfl : ∀ x, ({ s with mxf := x } : State).ev = s.ev) _
@[simp] theorem State.setMxf_host (f : MxfSt → MxfSt) : (s.setMxf f).host = s.host :=
  (fun _ => rfl : ∀ x, ({ s with mxf := x } : State).host = s.host) _
@[simp] theorem State.setMxf_free (f : MxfSt → MxfSt) : (s.setMxf f).free = s.free :=
  (fun _ => rfl : ∀ x, ({ s with mxf := x } : State).free = s.free) _
@[simp] theorem State.setMxf_tmu (f : MxfSt → MxfSt) : (s.setMxf f).tmu = s.tmu :=
  (fun _ => rfl : ∀ x, ({ s with mxf := x } : State).tmu = s.tmu) _
@[simp] theorem State.setMxf_mem (f : MxfSt → MxfSt) : (s.setMxf f).mem = s.mem :=
  (fun _ => rfl : ∀ x, ({ s with mxf := x } : State).mem = s.mem) _
@[simp] theorem State.setMxf_crl (f : MxfSt → MxfSt) : (s.setMxf f).crl = s.crl :=
  (fun _ => rfl : ∀ x, ({ s with mxf := x } : State).crl = s.crl) _
@[simp] theorem State.setMxf_col (f : MxfSt → MxfSt) : (s.setMxf f).col = s.col :=
  (fun _ => rfl : ∀ x, ({ s with mxf := x } : State).col = s.col) _
@[simp] theorem State.setMxf_deferred (f : MxfSt → MxfSt) : (s.setMxf f).deferred = s.deferred :=
  (fun _ => rfl : ∀ x, ({ s with mxf := x } : State).deferred = s.deferred) _
@[simp] theorem State.setMxf_vfEnabled (f : MxfSt → MxfSt) : (s.setMxf f).vfEnabled = s.vfEnabled :=
  (fun _ => rfl : ∀ x, ({ s with mxf := x } : State).vfEnabled = s.vfEnabled) _
@[simp] theorem State.setMxf_rve (f : MxfSt → MxfSt) : (s.setMxf f).rve = s.rve :=
  (fun _ => rfl : ∀ x, ({ s with mxf := x } : State).rve = s.rve) _
@[simp] theorem State.setMxf_cores (f : MxfSt → MxfSt) : (s.setMxf f).cores = s.cores :=
  (fun _ => rfl : ∀ x, ({ s with mxf := x } : State).cores = s.cores) _
@[simp] theorem State.setMxf_icl (f : MxfSt → MxfSt) : (s.setMxf f).icl = s.icl :=
  (fun _ => rfl : ∀ x, ({ s with mxf := x } : State).icl = s.icl) _
@[simp] theorem State.setMxf_cpe (f : MxfSt → MxfSt) : (s.setMxf f).cpe = s.cpe :=
  (fun _ => rfl : ∀ x, ({ s with mxf := x } : State).cpe = s.cpe) _
@[simp] theorem State.setMxf_lfw (f : MxfSt → MxfSt) : (s.setMxf f).lfw = s.lfw :=
  (fun _ => rfl : ∀ x, ({ s with mxf := x } : State).lfw = s.lfw) _
@[simp] theorem State.setMxf_esc (f : MxfSt → MxfSt) : (s.setMxf f).esc = s.esc :=
  (fun _ => rfl : ∀ x, ({ s with mxf := x } : State).esc = s.esc) _
@[simp] theorem State.setMxf_qz (f : MxfSt → MxfSt) : (s.setMxf f).qz = s.qz :=
  (fun _ => rfl : ∀ x, ({ s with mxf := x } : State).qz = s.qz) _
@[simp] theorem State.setMxf_prg (f : MxfSt → MxfSt) : (s.setMxf f).prg = s.prg :=
  (fun _ => rfl : ∀ x, ({ s with mxf := x } : State).prg = s.prg) _
@[simp] theorem State.setMxf_mxf (f : MxfSt → MxfSt) : (s.setMxf f).mxf = f s.mxf := rfl
@[simp] theorem State.setMxf_lnu (f : MxfSt → MxfSt) : (s.setMxf f).lnu = s.lnu :=
  (fun _ => rfl : ∀ x, ({ s with mxf := x } : State).lnu = s.lnu) _
@[simp] theorem State.setMxf_vce (f : MxfSt → MxfSt) : (s.setMxf f).vce = s.vce :=
  (fun _ => rfl : ∀ x, ({ s with mxf := x } : State).vce = s.vce) _
@[simp] theorem State.setMxf_wve (f : MxfSt → MxfSt) : (s.setMxf f).wve = s.wve :=
  (fun _ => rfl : ∀ x, ({ s with mxf := x } : State).wve = s.wve) _
@[simp] theorem State.setMxf_pxc (f : MxfSt → MxfSt) : (s.setMxf f).pxc = s.pxc :=
  (fun _ => rfl : ∀ x, ({ s with mxf := x } : State).pxc = s.pxc) _
@[simp] theorem State.setMxf_drc (f : MxfSt → MxfSt) : (s.setMxf f).drc = s.drc :=
  (fun _ => rfl : ∀ x, ({ s with mxf := x } : State).drc = s.drc) _

/-! ## `State.setLnu` -/

@[simp] theorem State.setLnu_pending (f : LnuSt → LnuSt) : (s.setLnu f).pending = s.pending :=
  (fun _ => rfl : ∀ x, ({ s with lnu := x } : State).pending = s.pending) _
@[simp] theorem State.setLnu_clk (f : LnuSt → LnuSt) : (s.setLnu f).clk = s.clk :=
  (fun _ => rfl : ∀ x, ({ s with lnu := x } : State).clk = s.clk) _
@[simp] theorem State.setLnu_reg (f : LnuSt → LnuSt) : (s.setLnu f).reg = s.reg :=
  (fun _ => rfl : ∀ x, ({ s with lnu := x } : State).reg = s.reg) _
@[simp] theorem State.setLnu_act (f : LnuSt → LnuSt) : (s.setLnu f).act = s.act :=
  (fun _ => rfl : ∀ x, ({ s with lnu := x } : State).act = s.act) _
@[simp] theorem State.setLnu_latch (f : LnuSt → LnuSt) : (s.setLnu f).latch = s.latch :=
  (fun _ => rfl : ∀ x, ({ s with lnu := x } : State).latch = s.latch) _
@[simp] theorem State.setLnu_read (f : LnuSt → LnuSt) : (s.setLnu f).read = s.read :=
  (fun _ => rfl : ∀ x, ({ s with lnu := x } : State).read = s.read) _
@[simp] theorem State.setLnu_stage (f : LnuSt → LnuSt) : (s.setLnu f).stage = s.stage :=
  (fun _ => rfl : ∀ x, ({ s with lnu := x } : State).stage = s.stage) _
@[simp] theorem State.setLnu_tbl (f : LnuSt → LnuSt) : (s.setLnu f).tbl = s.tbl :=
  (fun _ => rfl : ∀ x, ({ s with lnu := x } : State).tbl = s.tbl) _
@[simp] theorem State.setLnu_ctr (f : LnuSt → LnuSt) : (s.setLnu f).ctr = s.ctr :=
  (fun _ => rfl : ∀ x, ({ s with lnu := x } : State).ctr = s.ctr) _
@[simp] theorem State.setLnu_snap (f : LnuSt → LnuSt) : (s.setLnu f).snap = s.snap :=
  (fun _ => rfl : ∀ x, ({ s with lnu := x } : State).snap = s.snap) _
@[simp] theorem State.setLnu_snapTbl (f : LnuSt → LnuSt) : (s.setLnu f).snapTbl = s.snapTbl :=
  (fun _ => rfl : ∀ x, ({ s with lnu := x } : State).snapTbl = s.snapTbl) _
@[simp] theorem State.setLnu_page (f : LnuSt → LnuSt) : (s.setLnu f).page = s.page :=
  (fun _ => rfl : ∀ x, ({ s with lnu := x } : State).page = s.page) _
@[simp] theorem State.setLnu_cgrp (f : LnuSt → LnuSt) : (s.setLnu f).cgrp = s.cgrp :=
  (fun _ => rfl : ∀ x, ({ s with lnu := x } : State).cgrp = s.cgrp) _
@[simp] theorem State.setLnu_ev (f : LnuSt → LnuSt) : (s.setLnu f).ev = s.ev :=
  (fun _ => rfl : ∀ x, ({ s with lnu := x } : State).ev = s.ev) _
@[simp] theorem State.setLnu_host (f : LnuSt → LnuSt) : (s.setLnu f).host = s.host :=
  (fun _ => rfl : ∀ x, ({ s with lnu := x } : State).host = s.host) _
@[simp] theorem State.setLnu_free (f : LnuSt → LnuSt) : (s.setLnu f).free = s.free :=
  (fun _ => rfl : ∀ x, ({ s with lnu := x } : State).free = s.free) _
@[simp] theorem State.setLnu_tmu (f : LnuSt → LnuSt) : (s.setLnu f).tmu = s.tmu :=
  (fun _ => rfl : ∀ x, ({ s with lnu := x } : State).tmu = s.tmu) _
@[simp] theorem State.setLnu_mem (f : LnuSt → LnuSt) : (s.setLnu f).mem = s.mem :=
  (fun _ => rfl : ∀ x, ({ s with lnu := x } : State).mem = s.mem) _
@[simp] theorem State.setLnu_crl (f : LnuSt → LnuSt) : (s.setLnu f).crl = s.crl :=
  (fun _ => rfl : ∀ x, ({ s with lnu := x } : State).crl = s.crl) _
@[simp] theorem State.setLnu_col (f : LnuSt → LnuSt) : (s.setLnu f).col = s.col :=
  (fun _ => rfl : ∀ x, ({ s with lnu := x } : State).col = s.col) _
@[simp] theorem State.setLnu_deferred (f : LnuSt → LnuSt) : (s.setLnu f).deferred = s.deferred :=
  (fun _ => rfl : ∀ x, ({ s with lnu := x } : State).deferred = s.deferred) _
@[simp] theorem State.setLnu_vfEnabled (f : LnuSt → LnuSt) : (s.setLnu f).vfEnabled = s.vfEnabled :=
  (fun _ => rfl : ∀ x, ({ s with lnu := x } : State).vfEnabled = s.vfEnabled) _
@[simp] theorem State.setLnu_rve (f : LnuSt → LnuSt) : (s.setLnu f).rve = s.rve :=
  (fun _ => rfl : ∀ x, ({ s with lnu := x } : State).rve = s.rve) _
@[simp] theorem State.setLnu_cores (f : LnuSt → LnuSt) : (s.setLnu f).cores = s.cores :=
  (fun _ => rfl : ∀ x, ({ s with lnu := x } : State).cores = s.cores) _
@[simp] theorem State.setLnu_icl (f : LnuSt → LnuSt) : (s.setLnu f).icl = s.icl :=
  (fun _ => rfl : ∀ x, ({ s with lnu := x } : State).icl = s.icl) _
@[simp] theorem State.setLnu_cpe (f : LnuSt → LnuSt) : (s.setLnu f).cpe = s.cpe :=
  (fun _ => rfl : ∀ x, ({ s with lnu := x } : State).cpe = s.cpe) _
@[simp] theorem State.setLnu_lfw (f : LnuSt → LnuSt) : (s.setLnu f).lfw = s.lfw :=
  (fun _ => rfl : ∀ x, ({ s with lnu := x } : State).lfw = s.lfw) _
@[simp] theorem State.setLnu_esc (f : LnuSt → LnuSt) : (s.setLnu f).esc = s.esc :=
  (fun _ => rfl : ∀ x, ({ s with lnu := x } : State).esc = s.esc) _
@[simp] theorem State.setLnu_qz (f : LnuSt → LnuSt) : (s.setLnu f).qz = s.qz :=
  (fun _ => rfl : ∀ x, ({ s with lnu := x } : State).qz = s.qz) _
@[simp] theorem State.setLnu_prg (f : LnuSt → LnuSt) : (s.setLnu f).prg = s.prg :=
  (fun _ => rfl : ∀ x, ({ s with lnu := x } : State).prg = s.prg) _
@[simp] theorem State.setLnu_mxf (f : LnuSt → LnuSt) : (s.setLnu f).mxf = s.mxf :=
  (fun _ => rfl : ∀ x, ({ s with lnu := x } : State).mxf = s.mxf) _
@[simp] theorem State.setLnu_lnu (f : LnuSt → LnuSt) : (s.setLnu f).lnu = f s.lnu := rfl
@[simp] theorem State.setLnu_vce (f : LnuSt → LnuSt) : (s.setLnu f).vce = s.vce :=
  (fun _ => rfl : ∀ x, ({ s with lnu := x } : State).vce = s.vce) _
@[simp] theorem State.setLnu_wve (f : LnuSt → LnuSt) : (s.setLnu f).wve = s.wve :=
  (fun _ => rfl : ∀ x, ({ s with lnu := x } : State).wve = s.wve) _
@[simp] theorem State.setLnu_pxc (f : LnuSt → LnuSt) : (s.setLnu f).pxc = s.pxc :=
  (fun _ => rfl : ∀ x, ({ s with lnu := x } : State).pxc = s.pxc) _
@[simp] theorem State.setLnu_drc (f : LnuSt → LnuSt) : (s.setLnu f).drc = s.drc :=
  (fun _ => rfl : ∀ x, ({ s with lnu := x } : State).drc = s.drc) _

/-! ## `State.setVce` -/

@[simp] theorem State.setVce_pending (f : VceSt → VceSt) : (s.setVce f).pending = s.pending :=
  (fun _ => rfl : ∀ x, ({ s with vce := x } : State).pending = s.pending) _
@[simp] theorem State.setVce_clk (f : VceSt → VceSt) : (s.setVce f).clk = s.clk :=
  (fun _ => rfl : ∀ x, ({ s with vce := x } : State).clk = s.clk) _
@[simp] theorem State.setVce_reg (f : VceSt → VceSt) : (s.setVce f).reg = s.reg :=
  (fun _ => rfl : ∀ x, ({ s with vce := x } : State).reg = s.reg) _
@[simp] theorem State.setVce_act (f : VceSt → VceSt) : (s.setVce f).act = s.act :=
  (fun _ => rfl : ∀ x, ({ s with vce := x } : State).act = s.act) _
@[simp] theorem State.setVce_latch (f : VceSt → VceSt) : (s.setVce f).latch = s.latch :=
  (fun _ => rfl : ∀ x, ({ s with vce := x } : State).latch = s.latch) _
@[simp] theorem State.setVce_read (f : VceSt → VceSt) : (s.setVce f).read = s.read :=
  (fun _ => rfl : ∀ x, ({ s with vce := x } : State).read = s.read) _
@[simp] theorem State.setVce_stage (f : VceSt → VceSt) : (s.setVce f).stage = s.stage :=
  (fun _ => rfl : ∀ x, ({ s with vce := x } : State).stage = s.stage) _
@[simp] theorem State.setVce_tbl (f : VceSt → VceSt) : (s.setVce f).tbl = s.tbl :=
  (fun _ => rfl : ∀ x, ({ s with vce := x } : State).tbl = s.tbl) _
@[simp] theorem State.setVce_ctr (f : VceSt → VceSt) : (s.setVce f).ctr = s.ctr :=
  (fun _ => rfl : ∀ x, ({ s with vce := x } : State).ctr = s.ctr) _
@[simp] theorem State.setVce_snap (f : VceSt → VceSt) : (s.setVce f).snap = s.snap :=
  (fun _ => rfl : ∀ x, ({ s with vce := x } : State).snap = s.snap) _
@[simp] theorem State.setVce_snapTbl (f : VceSt → VceSt) : (s.setVce f).snapTbl = s.snapTbl :=
  (fun _ => rfl : ∀ x, ({ s with vce := x } : State).snapTbl = s.snapTbl) _
@[simp] theorem State.setVce_page (f : VceSt → VceSt) : (s.setVce f).page = s.page :=
  (fun _ => rfl : ∀ x, ({ s with vce := x } : State).page = s.page) _
@[simp] theorem State.setVce_cgrp (f : VceSt → VceSt) : (s.setVce f).cgrp = s.cgrp :=
  (fun _ => rfl : ∀ x, ({ s with vce := x } : State).cgrp = s.cgrp) _
@[simp] theorem State.setVce_ev (f : VceSt → VceSt) : (s.setVce f).ev = s.ev :=
  (fun _ => rfl : ∀ x, ({ s with vce := x } : State).ev = s.ev) _
@[simp] theorem State.setVce_host (f : VceSt → VceSt) : (s.setVce f).host = s.host :=
  (fun _ => rfl : ∀ x, ({ s with vce := x } : State).host = s.host) _
@[simp] theorem State.setVce_free (f : VceSt → VceSt) : (s.setVce f).free = s.free :=
  (fun _ => rfl : ∀ x, ({ s with vce := x } : State).free = s.free) _
@[simp] theorem State.setVce_tmu (f : VceSt → VceSt) : (s.setVce f).tmu = s.tmu :=
  (fun _ => rfl : ∀ x, ({ s with vce := x } : State).tmu = s.tmu) _
@[simp] theorem State.setVce_mem (f : VceSt → VceSt) : (s.setVce f).mem = s.mem :=
  (fun _ => rfl : ∀ x, ({ s with vce := x } : State).mem = s.mem) _
@[simp] theorem State.setVce_crl (f : VceSt → VceSt) : (s.setVce f).crl = s.crl :=
  (fun _ => rfl : ∀ x, ({ s with vce := x } : State).crl = s.crl) _
@[simp] theorem State.setVce_col (f : VceSt → VceSt) : (s.setVce f).col = s.col :=
  (fun _ => rfl : ∀ x, ({ s with vce := x } : State).col = s.col) _
@[simp] theorem State.setVce_deferred (f : VceSt → VceSt) : (s.setVce f).deferred = s.deferred :=
  (fun _ => rfl : ∀ x, ({ s with vce := x } : State).deferred = s.deferred) _
@[simp] theorem State.setVce_vfEnabled (f : VceSt → VceSt) : (s.setVce f).vfEnabled = s.vfEnabled :=
  (fun _ => rfl : ∀ x, ({ s with vce := x } : State).vfEnabled = s.vfEnabled) _
@[simp] theorem State.setVce_rve (f : VceSt → VceSt) : (s.setVce f).rve = s.rve :=
  (fun _ => rfl : ∀ x, ({ s with vce := x } : State).rve = s.rve) _
@[simp] theorem State.setVce_cores (f : VceSt → VceSt) : (s.setVce f).cores = s.cores :=
  (fun _ => rfl : ∀ x, ({ s with vce := x } : State).cores = s.cores) _
@[simp] theorem State.setVce_icl (f : VceSt → VceSt) : (s.setVce f).icl = s.icl :=
  (fun _ => rfl : ∀ x, ({ s with vce := x } : State).icl = s.icl) _
@[simp] theorem State.setVce_cpe (f : VceSt → VceSt) : (s.setVce f).cpe = s.cpe :=
  (fun _ => rfl : ∀ x, ({ s with vce := x } : State).cpe = s.cpe) _
@[simp] theorem State.setVce_lfw (f : VceSt → VceSt) : (s.setVce f).lfw = s.lfw :=
  (fun _ => rfl : ∀ x, ({ s with vce := x } : State).lfw = s.lfw) _
@[simp] theorem State.setVce_esc (f : VceSt → VceSt) : (s.setVce f).esc = s.esc :=
  (fun _ => rfl : ∀ x, ({ s with vce := x } : State).esc = s.esc) _
@[simp] theorem State.setVce_qz (f : VceSt → VceSt) : (s.setVce f).qz = s.qz :=
  (fun _ => rfl : ∀ x, ({ s with vce := x } : State).qz = s.qz) _
@[simp] theorem State.setVce_prg (f : VceSt → VceSt) : (s.setVce f).prg = s.prg :=
  (fun _ => rfl : ∀ x, ({ s with vce := x } : State).prg = s.prg) _
@[simp] theorem State.setVce_mxf (f : VceSt → VceSt) : (s.setVce f).mxf = s.mxf :=
  (fun _ => rfl : ∀ x, ({ s with vce := x } : State).mxf = s.mxf) _
@[simp] theorem State.setVce_lnu (f : VceSt → VceSt) : (s.setVce f).lnu = s.lnu :=
  (fun _ => rfl : ∀ x, ({ s with vce := x } : State).lnu = s.lnu) _
@[simp] theorem State.setVce_vce (f : VceSt → VceSt) : (s.setVce f).vce = f s.vce := rfl
@[simp] theorem State.setVce_wve (f : VceSt → VceSt) : (s.setVce f).wve = s.wve :=
  (fun _ => rfl : ∀ x, ({ s with vce := x } : State).wve = s.wve) _
@[simp] theorem State.setVce_pxc (f : VceSt → VceSt) : (s.setVce f).pxc = s.pxc :=
  (fun _ => rfl : ∀ x, ({ s with vce := x } : State).pxc = s.pxc) _
@[simp] theorem State.setVce_drc (f : VceSt → VceSt) : (s.setVce f).drc = s.drc :=
  (fun _ => rfl : ∀ x, ({ s with vce := x } : State).drc = s.drc) _

/-! ## `State.setWve` -/

@[simp] theorem State.setWve_pending (f : WveSt → WveSt) : (s.setWve f).pending = s.pending :=
  (fun _ => rfl : ∀ x, ({ s with wve := x } : State).pending = s.pending) _
@[simp] theorem State.setWve_clk (f : WveSt → WveSt) : (s.setWve f).clk = s.clk :=
  (fun _ => rfl : ∀ x, ({ s with wve := x } : State).clk = s.clk) _
@[simp] theorem State.setWve_reg (f : WveSt → WveSt) : (s.setWve f).reg = s.reg :=
  (fun _ => rfl : ∀ x, ({ s with wve := x } : State).reg = s.reg) _
@[simp] theorem State.setWve_act (f : WveSt → WveSt) : (s.setWve f).act = s.act :=
  (fun _ => rfl : ∀ x, ({ s with wve := x } : State).act = s.act) _
@[simp] theorem State.setWve_latch (f : WveSt → WveSt) : (s.setWve f).latch = s.latch :=
  (fun _ => rfl : ∀ x, ({ s with wve := x } : State).latch = s.latch) _
@[simp] theorem State.setWve_read (f : WveSt → WveSt) : (s.setWve f).read = s.read :=
  (fun _ => rfl : ∀ x, ({ s with wve := x } : State).read = s.read) _
@[simp] theorem State.setWve_stage (f : WveSt → WveSt) : (s.setWve f).stage = s.stage :=
  (fun _ => rfl : ∀ x, ({ s with wve := x } : State).stage = s.stage) _
@[simp] theorem State.setWve_tbl (f : WveSt → WveSt) : (s.setWve f).tbl = s.tbl :=
  (fun _ => rfl : ∀ x, ({ s with wve := x } : State).tbl = s.tbl) _
@[simp] theorem State.setWve_ctr (f : WveSt → WveSt) : (s.setWve f).ctr = s.ctr :=
  (fun _ => rfl : ∀ x, ({ s with wve := x } : State).ctr = s.ctr) _
@[simp] theorem State.setWve_snap (f : WveSt → WveSt) : (s.setWve f).snap = s.snap :=
  (fun _ => rfl : ∀ x, ({ s with wve := x } : State).snap = s.snap) _
@[simp] theorem State.setWve_snapTbl (f : WveSt → WveSt) : (s.setWve f).snapTbl = s.snapTbl :=
  (fun _ => rfl : ∀ x, ({ s with wve := x } : State).snapTbl = s.snapTbl) _
@[simp] theorem State.setWve_page (f : WveSt → WveSt) : (s.setWve f).page = s.page :=
  (fun _ => rfl : ∀ x, ({ s with wve := x } : State).page = s.page) _
@[simp] theorem State.setWve_cgrp (f : WveSt → WveSt) : (s.setWve f).cgrp = s.cgrp :=
  (fun _ => rfl : ∀ x, ({ s with wve := x } : State).cgrp = s.cgrp) _
@[simp] theorem State.setWve_ev (f : WveSt → WveSt) : (s.setWve f).ev = s.ev :=
  (fun _ => rfl : ∀ x, ({ s with wve := x } : State).ev = s.ev) _
@[simp] theorem State.setWve_host (f : WveSt → WveSt) : (s.setWve f).host = s.host :=
  (fun _ => rfl : ∀ x, ({ s with wve := x } : State).host = s.host) _
@[simp] theorem State.setWve_free (f : WveSt → WveSt) : (s.setWve f).free = s.free :=
  (fun _ => rfl : ∀ x, ({ s with wve := x } : State).free = s.free) _
@[simp] theorem State.setWve_tmu (f : WveSt → WveSt) : (s.setWve f).tmu = s.tmu :=
  (fun _ => rfl : ∀ x, ({ s with wve := x } : State).tmu = s.tmu) _
@[simp] theorem State.setWve_mem (f : WveSt → WveSt) : (s.setWve f).mem = s.mem :=
  (fun _ => rfl : ∀ x, ({ s with wve := x } : State).mem = s.mem) _
@[simp] theorem State.setWve_crl (f : WveSt → WveSt) : (s.setWve f).crl = s.crl :=
  (fun _ => rfl : ∀ x, ({ s with wve := x } : State).crl = s.crl) _
@[simp] theorem State.setWve_col (f : WveSt → WveSt) : (s.setWve f).col = s.col :=
  (fun _ => rfl : ∀ x, ({ s with wve := x } : State).col = s.col) _
@[simp] theorem State.setWve_deferred (f : WveSt → WveSt) : (s.setWve f).deferred = s.deferred :=
  (fun _ => rfl : ∀ x, ({ s with wve := x } : State).deferred = s.deferred) _
@[simp] theorem State.setWve_vfEnabled (f : WveSt → WveSt) : (s.setWve f).vfEnabled = s.vfEnabled :=
  (fun _ => rfl : ∀ x, ({ s with wve := x } : State).vfEnabled = s.vfEnabled) _
@[simp] theorem State.setWve_rve (f : WveSt → WveSt) : (s.setWve f).rve = s.rve :=
  (fun _ => rfl : ∀ x, ({ s with wve := x } : State).rve = s.rve) _
@[simp] theorem State.setWve_cores (f : WveSt → WveSt) : (s.setWve f).cores = s.cores :=
  (fun _ => rfl : ∀ x, ({ s with wve := x } : State).cores = s.cores) _
@[simp] theorem State.setWve_icl (f : WveSt → WveSt) : (s.setWve f).icl = s.icl :=
  (fun _ => rfl : ∀ x, ({ s with wve := x } : State).icl = s.icl) _
@[simp] theorem State.setWve_cpe (f : WveSt → WveSt) : (s.setWve f).cpe = s.cpe :=
  (fun _ => rfl : ∀ x, ({ s with wve := x } : State).cpe = s.cpe) _
@[simp] theorem State.setWve_lfw (f : WveSt → WveSt) : (s.setWve f).lfw = s.lfw :=
  (fun _ => rfl : ∀ x, ({ s with wve := x } : State).lfw = s.lfw) _
@[simp] theorem State.setWve_esc (f : WveSt → WveSt) : (s.setWve f).esc = s.esc :=
  (fun _ => rfl : ∀ x, ({ s with wve := x } : State).esc = s.esc) _
@[simp] theorem State.setWve_qz (f : WveSt → WveSt) : (s.setWve f).qz = s.qz :=
  (fun _ => rfl : ∀ x, ({ s with wve := x } : State).qz = s.qz) _
@[simp] theorem State.setWve_prg (f : WveSt → WveSt) : (s.setWve f).prg = s.prg :=
  (fun _ => rfl : ∀ x, ({ s with wve := x } : State).prg = s.prg) _
@[simp] theorem State.setWve_mxf (f : WveSt → WveSt) : (s.setWve f).mxf = s.mxf :=
  (fun _ => rfl : ∀ x, ({ s with wve := x } : State).mxf = s.mxf) _
@[simp] theorem State.setWve_lnu (f : WveSt → WveSt) : (s.setWve f).lnu = s.lnu :=
  (fun _ => rfl : ∀ x, ({ s with wve := x } : State).lnu = s.lnu) _
@[simp] theorem State.setWve_vce (f : WveSt → WveSt) : (s.setWve f).vce = s.vce :=
  (fun _ => rfl : ∀ x, ({ s with wve := x } : State).vce = s.vce) _
@[simp] theorem State.setWve_wve (f : WveSt → WveSt) : (s.setWve f).wve = f s.wve := rfl
@[simp] theorem State.setWve_pxc (f : WveSt → WveSt) : (s.setWve f).pxc = s.pxc :=
  (fun _ => rfl : ∀ x, ({ s with wve := x } : State).pxc = s.pxc) _
@[simp] theorem State.setWve_drc (f : WveSt → WveSt) : (s.setWve f).drc = s.drc :=
  (fun _ => rfl : ∀ x, ({ s with wve := x } : State).drc = s.drc) _

/-! ## `State.setDrc` -/

@[simp] theorem State.setDrc_pending (f : DrcSt → DrcSt) : (s.setDrc f).pending = s.pending :=
  (fun _ => rfl : ∀ x, ({ s with drc := x } : State).pending = s.pending) _
@[simp] theorem State.setDrc_clk (f : DrcSt → DrcSt) : (s.setDrc f).clk = s.clk :=
  (fun _ => rfl : ∀ x, ({ s with drc := x } : State).clk = s.clk) _
@[simp] theorem State.setDrc_reg (f : DrcSt → DrcSt) : (s.setDrc f).reg = s.reg :=
  (fun _ => rfl : ∀ x, ({ s with drc := x } : State).reg = s.reg) _
@[simp] theorem State.setDrc_act (f : DrcSt → DrcSt) : (s.setDrc f).act = s.act :=
  (fun _ => rfl : ∀ x, ({ s with drc := x } : State).act = s.act) _
@[simp] theorem State.setDrc_latch (f : DrcSt → DrcSt) : (s.setDrc f).latch = s.latch :=
  (fun _ => rfl : ∀ x, ({ s with drc := x } : State).latch = s.latch) _
@[simp] theorem State.setDrc_read (f : DrcSt → DrcSt) : (s.setDrc f).read = s.read :=
  (fun _ => rfl : ∀ x, ({ s with drc := x } : State).read = s.read) _
@[simp] theorem State.setDrc_stage (f : DrcSt → DrcSt) : (s.setDrc f).stage = s.stage :=
  (fun _ => rfl : ∀ x, ({ s with drc := x } : State).stage = s.stage) _
@[simp] theorem State.setDrc_tbl (f : DrcSt → DrcSt) : (s.setDrc f).tbl = s.tbl :=
  (fun _ => rfl : ∀ x, ({ s with drc := x } : State).tbl = s.tbl) _
@[simp] theorem State.setDrc_ctr (f : DrcSt → DrcSt) : (s.setDrc f).ctr = s.ctr :=
  (fun _ => rfl : ∀ x, ({ s with drc := x } : State).ctr = s.ctr) _
@[simp] theorem State.setDrc_snap (f : DrcSt → DrcSt) : (s.setDrc f).snap = s.snap :=
  (fun _ => rfl : ∀ x, ({ s with drc := x } : State).snap = s.snap) _
@[simp] theorem State.setDrc_snapTbl (f : DrcSt → DrcSt) : (s.setDrc f).snapTbl = s.snapTbl :=
  (fun _ => rfl : ∀ x, ({ s with drc := x } : State).snapTbl = s.snapTbl) _
@[simp] theorem State.setDrc_page (f : DrcSt → DrcSt) : (s.setDrc f).page = s.page :=
  (fun _ => rfl : ∀ x, ({ s with drc := x } : State).page = s.page) _
@[simp] theorem State.setDrc_cgrp (f : DrcSt → DrcSt) : (s.setDrc f).cgrp = s.cgrp :=
  (fun _ => rfl : ∀ x, ({ s with drc := x } : State).cgrp = s.cgrp) _
@[simp] theorem State.setDrc_ev (f : DrcSt → DrcSt) : (s.setDrc f).ev = s.ev :=
  (fun _ => rfl : ∀ x, ({ s with drc := x } : State).ev = s.ev) _
@[simp] theorem State.setDrc_host (f : DrcSt → DrcSt) : (s.setDrc f).host = s.host :=
  (fun _ => rfl : ∀ x, ({ s with drc := x } : State).host = s.host) _
@[simp] theorem State.setDrc_free (f : DrcSt → DrcSt) : (s.setDrc f).free = s.free :=
  (fun _ => rfl : ∀ x, ({ s with drc := x } : State).free = s.free) _
@[simp] theorem State.setDrc_tmu (f : DrcSt → DrcSt) : (s.setDrc f).tmu = s.tmu :=
  (fun _ => rfl : ∀ x, ({ s with drc := x } : State).tmu = s.tmu) _
@[simp] theorem State.setDrc_mem (f : DrcSt → DrcSt) : (s.setDrc f).mem = s.mem :=
  (fun _ => rfl : ∀ x, ({ s with drc := x } : State).mem = s.mem) _
@[simp] theorem State.setDrc_crl (f : DrcSt → DrcSt) : (s.setDrc f).crl = s.crl :=
  (fun _ => rfl : ∀ x, ({ s with drc := x } : State).crl = s.crl) _
@[simp] theorem State.setDrc_col (f : DrcSt → DrcSt) : (s.setDrc f).col = s.col :=
  (fun _ => rfl : ∀ x, ({ s with drc := x } : State).col = s.col) _
@[simp] theorem State.setDrc_deferred (f : DrcSt → DrcSt) : (s.setDrc f).deferred = s.deferred :=
  (fun _ => rfl : ∀ x, ({ s with drc := x } : State).deferred = s.deferred) _
@[simp] theorem State.setDrc_vfEnabled (f : DrcSt → DrcSt) : (s.setDrc f).vfEnabled = s.vfEnabled :=
  (fun _ => rfl : ∀ x, ({ s with drc := x } : State).vfEnabled = s.vfEnabled) _
@[simp] theorem State.setDrc_rve (f : DrcSt → DrcSt) : (s.setDrc f).rve = s.rve :=
  (fun _ => rfl : ∀ x, ({ s with drc := x } : State).rve = s.rve) _
@[simp] theorem State.setDrc_cores (f : DrcSt → DrcSt) : (s.setDrc f).cores = s.cores :=
  (fun _ => rfl : ∀ x, ({ s with drc := x } : State).cores = s.cores) _
@[simp] theorem State.setDrc_icl (f : DrcSt → DrcSt) : (s.setDrc f).icl = s.icl :=
  (fun _ => rfl : ∀ x, ({ s with drc := x } : State).icl = s.icl) _
@[simp] theorem State.setDrc_cpe (f : DrcSt → DrcSt) : (s.setDrc f).cpe = s.cpe :=
  (fun _ => rfl : ∀ x, ({ s with drc := x } : State).cpe = s.cpe) _
@[simp] theorem State.setDrc_lfw (f : DrcSt → DrcSt) : (s.setDrc f).lfw = s.lfw :=
  (fun _ => rfl : ∀ x, ({ s with drc := x } : State).lfw = s.lfw) _
@[simp] theorem State.setDrc_esc (f : DrcSt → DrcSt) : (s.setDrc f).esc = s.esc :=
  (fun _ => rfl : ∀ x, ({ s with drc := x } : State).esc = s.esc) _
@[simp] theorem State.setDrc_qz (f : DrcSt → DrcSt) : (s.setDrc f).qz = s.qz :=
  (fun _ => rfl : ∀ x, ({ s with drc := x } : State).qz = s.qz) _
@[simp] theorem State.setDrc_prg (f : DrcSt → DrcSt) : (s.setDrc f).prg = s.prg :=
  (fun _ => rfl : ∀ x, ({ s with drc := x } : State).prg = s.prg) _
@[simp] theorem State.setDrc_mxf (f : DrcSt → DrcSt) : (s.setDrc f).mxf = s.mxf :=
  (fun _ => rfl : ∀ x, ({ s with drc := x } : State).mxf = s.mxf) _
@[simp] theorem State.setDrc_lnu (f : DrcSt → DrcSt) : (s.setDrc f).lnu = s.lnu :=
  (fun _ => rfl : ∀ x, ({ s with drc := x } : State).lnu = s.lnu) _
@[simp] theorem State.setDrc_vce (f : DrcSt → DrcSt) : (s.setDrc f).vce = s.vce :=
  (fun _ => rfl : ∀ x, ({ s with drc := x } : State).vce = s.vce) _
@[simp] theorem State.setDrc_wve (f : DrcSt → DrcSt) : (s.setDrc f).wve = s.wve :=
  (fun _ => rfl : ∀ x, ({ s with drc := x } : State).wve = s.wve) _
@[simp] theorem State.setDrc_pxc (f : DrcSt → DrcSt) : (s.setDrc f).pxc = s.pxc :=
  (fun _ => rfl : ∀ x, ({ s with drc := x } : State).pxc = s.pxc) _
@[simp] theorem State.setDrc_drc (f : DrcSt → DrcSt) : (s.setDrc f).drc = f s.drc := rfl

end Sys2Proof.Machine
end

