-- ==== Sys2Proof/Laws/Ops.lean ====
section
/-!
SUPPORT. What the shared operations do: reads of registers after writes, and what counters, events and access errors leave
as it was.
-/

namespace Sys2Proof.Machine

/-! ## Registers -/

theorem rkey_inj {p o q n : Nat} (ho : o < 65536) (hn : n < 65536) : rkey p o = rkey q n ↔ p = q ∧ o = n := by
  unfold rkey; omega

@[simp] theorem State.rd_wr_same (s : State) (p o : Nat) (v : Word) : (s.wr p o v).rd p o = v := by
  simp [State.rd]

theorem State.rd_wr_ne (s : State) {p o q n : Nat} (v : Word) (h : rkey q n ≠ rkey p o) : (s.wr p o v).rd q n = s.rd q n := by
  simp [State.rd, NMap.get_set_ne _ _ h]

/-- A register of another page, or another register of the page, reads as before. -/
theorem State.rd_wr_other (s : State) {p o q n : Nat} (v : Word) (ho : o < 65536) (hn : n < 65536) (h : q ≠ p ∨ n ≠ o) :
    (s.wr p o v).rd q n = s.rd q n :=
  s.rd_wr_ne v fun e => by rcases (rkey_inj hn ho).1 e with ⟨a, b⟩; rcases h with h | h <;> contradiction

@[simp] theorem State.rd_wfld_same (s : State) (p o hi lo v : Nat) : (s.wfld p o hi lo v).rd p o = withFld (s.rd p o) hi lo v := by
  simp [State.wfld]

theorem State.rd_wfld_other (s : State) {p o q n : Nat} (hi lo v : Nat) (ho : o < 65536) (hn : n < 65536)
    (h : q ≠ p ∨ n ≠ o) : (s.wfld p o hi lo v).rd q n = s.rd q n := s.rd_wr_other _ ho hn h

/-- Reads depend on the registers alone. -/
theorem State.rd_congr {s t : State} (h : t.reg = s.reg) (p o : Nat) : t.rd p o = s.rd p o := by simp [State.rd, h]

/-! ## Bit fields -/

theorem getLsbD_fmask (hi lo i : Nat) : (fmask hi lo).getLsbD i = decide (i < 32 ∧ lo ≤ i ∧ i ≤ hi) := by
  unfold fmask
  rw [BitVec.getLsbD_ofNat]
  by_cases h32 : i < 32
  · simp only [h32, decide_true, Bool.true_and, true_and]
    rw [Nat.testBit_mul_two_pow]
    by_cases hlo : lo ≤ i
    · simp only [hlo, decide_true, Bool.true_and, true_and]
      rw [Nat.testBit_two_pow_sub_one]
      exact decide_eq_decide.2 (by omega)
    · simp [hlo]
  · simp [h32]

/-- The field that was written reads what was written, cut to its width. -/
theorem fld_withFld (w : Word) {hi lo : Nat} (v : Nat) (hhi : hi < 32) (hlo : lo ≤ hi) :
    fld (withFld w hi lo v) hi lo = v % 2 ^ (hi + 1 - lo) := by
  apply Nat.eq_of_testBit_eq
  intro i
  simp only [fld, nfld, Nat.testBit_mod_two_pow, Nat.testBit_div_two_pow]
  by_cases hi' : i < hi + 1 - lo
  · have hb : lo + i < 32 := by omega
    simp only [hi', decide_true, Bool.true_and]
    rw [← BitVec.getLsbD, withFld, BitVec.getLsbD_or, BitVec.getLsbD_and, BitVec.getLsbD_and, BitVec.getLsbD_not,
      getLsbD_fmask, BitVec.getLsbD_ofNat, Nat.testBit_mul_two_pow]
    have : lo ≤ i + lo ∧ i + lo ≤ hi := by omega
    have h32 : i + lo < 32 := by omega
    simp [this, h32]
  · simp [hi']

/-- The bits outside the field that was written stay. -/
theorem bit_withFld_other (w : Word) {hi lo i : Nat} (v : Nat) (h : i < lo ∨ hi < i) : bit (withFld w hi lo v) i = bit w i := by
  have : ¬ (lo ≤ i ∧ i ≤ hi) := by omega
  by_cases h32 : i < 32
  · simp only [bit, withFld, BitVec.getLsbD_or, BitVec.getLsbD_and, BitVec.getLsbD_not, getLsbD_fmask]
    simp [this, h32]
  · simp [bit, BitVec.getLsbD_of_ge, Nat.not_lt.1 h32]

/-! ## What is noted: counters, events and access errors -/

/-- `t` is `s` but for what counters, events and access errors leave: registers of the header, counters, the event machinery,
the log, and what Pairing notes of them. -/
structure State.Noted (s t : State) : Prop where
  rd : ∀ p o, o % 65536 ∉ noteOffs → t.rd p o = s.rd p o
  pending : t.pending = s.pending
  clk : t.clk = s.clk
  act : t.act = s.act
  latch : t.latch = s.latch
  read : t.read = s.read
  stage : t.stage = s.stage
  tbl : t.tbl = s.tbl
  snap : t.snap = s.snap
  snapTbl : t.snapTbl = s.snapTbl
  page : t.page = s.page
  cgrp : t.cgrp = s.cgrp
  host : t.host = s.host
  free : t.free = s.free
  tmu : t.tmu = s.tmu
  mem : t.mem = s.mem
  crl : t.crl = s.crl
  col : t.col = s.col
  deferred : t.deferred = s.deferred
  vfEnabled : t.vfEnabled = s.vfEnabled
  rve : t.rve = s.rve
  cores : t.cores = s.cores
  icl : t.icl = s.icl
  cpe : t.cpe = s.cpe
  lfw : t.lfw = s.lfw
  esc : t.esc = s.esc
  mxf : t.mxf = s.mxf
  lnu : t.lnu = s.lnu
  vce : t.vce = s.vce
  wve : t.wve = s.wve
  pxc : t.pxc = s.pxc
  drc : t.drc = s.drc
  qz : t.qz = { s.qz with log := t.qz.log, logNext := t.qz.logNext }
  prg : t.prg = { s.prg with autoSwap := t.prg.autoSwap, diverged := t.prg.diverged }

theorem State.Noted.refl (s : State) : State.Noted s s := by constructor <;> intros <;> rfl

theorem State.Noted.trans {s t u : State} (h : State.Noted s t) (g : State.Noted t u) : State.Noted s u where
  rd p o ho := (g.rd p o ho).trans (h.rd p o ho)
  pending := g.pending.trans h.pending
  clk := g.clk.trans h.clk
  act := g.act.trans h.act
  latch := g.latch.trans h.latch
  read := g.read.trans h.read
  stage := g.stage.trans h.stage
  tbl := g.tbl.trans h.tbl
  snap := g.snap.trans h.snap
  snapTbl := g.snapTbl.trans h.snapTbl
  page := g.page.trans h.page
  cgrp := g.cgrp.trans h.cgrp
  host := g.host.trans h.host
  free := g.free.trans h.free
  tmu := g.tmu.trans h.tmu
  mem := g.mem.trans h.mem
  crl := g.crl.trans h.crl
  col := g.col.trans h.col
  deferred := g.deferred.trans h.deferred
  vfEnabled := g.vfEnabled.trans h.vfEnabled
  rve := g.rve.trans h.rve
  cores := g.cores.trans h.cores
  icl := g.icl.trans h.icl
  cpe := g.cpe.trans h.cpe
  lfw := g.lfw.trans h.lfw
  esc := g.esc.trans h.esc
  mxf := g.mxf.trans h.mxf
  lnu := g.lnu.trans h.lnu
  vce := g.vce.trans h.vce
  wve := g.wve.trans h.wve
  pxc := g.pxc.trans h.pxc
  drc := g.drc.trans h.drc
  qz := by rw [g.qz, h.qz]
  prg := by rw [g.prg, h.prg]

theorem State.noted_wr (s : State) (p o : Nat) (v : Word) (ho : o ∈ noteOffs) : State.Noted s (s.wr p o v) := by
  have hlt : o < 65536 := by revert ho; revert o; decide
  constructor <;> (try simp)
  intro q n hn
  refine s.rd_wr_ne v fun e => hn ?_
  have : n % 65536 = o := by unfold rkey at e; omega
  rwa [this]

theorem State.noted_setCtr (s : State) (p : Nat) (c : Ctr) (i v : Nat) : State.Noted s (s.setCtr p c i v) := by
  constructor <;> simp [State.rd]

theorem State.noted_ev (s : State) (e : EvSt) : State.Noted s { s with ev := e } := by
  constructor <;> intros <;> rfl

theorem State.noted_bumpW (s : State) (p : Nat) (c : Ctr) (i n : Nat) : State.Noted s (s.bumpW p c i n) := s.noted_setCtr _ _ _ _

theorem State.noted_enqueueRecord (s : State) (r : EvRec) : State.Noted s (s.enqueueRecord r) := by
  have key : ∀ u : State, State.Noted s u → ∀ b c d : Bool, State.Noted s
      (if b then u.bumpW 0 .sysEvtDropHi 0 1 else if c then u
        else if d then { u with ev := { u.ev with queue := u.ev.queue ++ [r] } }
        else { u with ev := { u.ev with left := u.ev.left + 1 } }) := by
    intro u h b c d
    cases b <;> cases c <;> cases d <;>
      first | exact h | exact h.trans (State.noted_ev u _) | exact h.trans (State.noted_bumpW ..)
  unfold State.enqueueRecord
  refine key _ ?_ _ _ _
  split
  · exact s.noted_bumpW ..
  · exact .refl s

theorem State.noted_logPut (s : State) (r : EvRec) : State.Noted s (s.logPut r) := by constructor <;> intros <;> rfl

theorem State.noted_logRecord (s : State) (r : EvRec) : State.Noted s (s.logRecord r) := by
  unfold State.logRecord
  split
  · exact .refl s
  · dsimp only
    split
    · exact ((s.noted_logPut r).trans (State.noted_bumpW ..)).trans (State.noted_setCtr ..)
    · exact (s.noted_logPut r).trans (State.noted_bumpW ..)

theorem State.noted_record (s : State) (r : EvRec) : State.Noted s (s.record r) := by
  unfold State.record
  dsimp only
  split
  · exact (s.noted_bumpW ..).trans (State.noted_ev _ _)
  · exact ((s.noted_ev _).trans (State.noted_logRecord _ r)).trans (State.noted_enqueueRecord _ r)

theorem State.noted_memError (s : State) (e : Event) : State.Noted s (s.memError e) := by
  unfold State.memError
  split
  · constructor <;> intros <;> rfl
  · exact .refl s

theorem State.noted_markEvent (s : State) (p code : Nat) : State.Noted s (s.markEvent p code) := by
  unfold State.markEvent
  dsimp only
  split
  · exact (s.noted_wr p Reg.evtFirst _ (by decide)).trans (State.noted_wr _ p Reg.evtStatus _ (by decide))
  · exact s.noted_wr p Reg.evtStatus _ (by decide)

theorem State.noted_raiseOnce (s : State) (p : Nat) (e : Event) (a b : Nat) (f : Bool) :
    State.Noted s (s.raiseOnce p e a b f) := by
  have main : ∀ u : State, State.Noted s u → State.Noted s
      (if u.rb p Reg.evtEnable (evBit (e.code (pageType p) % 256)) || decide (2 ≤ e.severity.code) then
        (u.markEvent p (e.code (pageType p))).record ⟨e.code (pageType p), p, e.severity.code, f, u.wale, a % 2 ^ 32, b % 2 ^ 32⟩
       else u.markEvent p (e.code (pageType p))) := by
    intro u h
    have h1 := h.trans (u.noted_markEvent p (e.code (pageType p)))
    split
    · exact h1.trans (State.noted_record ..)
    · exact h1
  cases f
  · exact main _ (s.noted_memError e)
  · exact main _ (.refl s)

theorem State.noted_raiseWith (s : State) (p : Nat) (e : Event) (a b : Nat) (f : Bool) :
    State.Noted s (s.raiseWith p e a b f) := by
  unfold State.raiseWith
  dsimp only
  split
  · exact (s.noted_raiseOnce ..).trans (State.noted_raiseOnce ..)
  · exact s.noted_raiseOnce ..

theorem State.noted_diverge (s : State) (c ty : Nat) : State.Noted s (s.diverge c ty) := by
  unfold State.diverge
  split
  · dsimp only
    have h1 : State.Noted s (s.setPrg fun p => { p with diverged := p.diverged ++ [(c, ty)] }) := by
      constructor <;> intros <;> rfl
    have h2 := h1.trans (State.noted_setCtr _ prgPage .prgDiverge 0 (min (s.ctrAt prgPage .prgDiverge 0 + 1) 0xFFFFFFFF))
    by_cases hn : s.ctrAt prgPage .prgDiverge 0 = 0xFFFFFFFE
    · rw [if_pos hn]
      exact (h2.trans (State.noted_raiseWith ..)).trans (State.noted_raiseWith ..)
    · rw [if_neg hn]
      exact h2.trans (State.noted_raiseWith ..)
  · exact .refl s

/-- An event. -/
theorem State.noted_raise (s : State) (p : Nat) (e : Event) (a b : Nat) : State.Noted s (s.raise p e a b) := by
  unfold State.raise
  dsimp only
  split
  · exact (s.noted_raiseWith ..).trans (State.noted_diverge ..)
  · exact s.noted_raiseWith ..

/-- A count. -/
theorem State.noted_bumpAt (s : State) (p : Nat) (c : Ctr) (i n o : Nat) : State.Noted s (s.bumpAt p c i n o) := by
  unfold State.bumpAt
  split
  · exact s.noted_bumpW ..
  · dsimp only
    split
    · exact (s.noted_setCtr ..).trans (State.noted_raise ..)
    · exact s.noted_setCtr ..

theorem State.noted_bump (s : State) (p : Nat) (c : Ctr) : State.Noted s (s.bump p c) := s.noted_bumpAt ..

theorem State.noted_bumpN (s : State) (p : Nat) (c : Ctr) (n : Nat) : State.Noted s (s.bumpN p c n) := s.noted_bumpAt ..

/-- An access error. -/
theorem State.noted_accessErr (s : State) (p o cause : Nat) (src : Src) (v : Word) :
    State.Noted s (s.accessErr p o cause src v) := by
  unfold State.accessErr
  dsimp only
  split
  · exact s.noted_bump ..
  · exact ((((s.noted_bump ..).trans (State.noted_wr _ p Reg.errInfo _ (by decide))).trans
      (State.noted_wr _ p Reg.errData _ (by decide))).trans (State.noted_wr _ p Reg.errWale _ (by decide))).trans
      (State.noted_raise ..)

/-! ## Access -/

/-- A write that reaches its register goes on, at most with a note that Pairing will carry it (R598). -/
theorem State.access_opens {s : State} {src : Src} {p o : Nat} (h : s.Opens src p o) (v : Word) (k : State → State) :
    ∃ l, s.access src p o v k = k (s.setPrg fun g => { g with fwd := g.fwd ++ l }) := by
  unfold State.access
  simp only [h.reaches, h.assigned, h.granted, h.shown, h.taken, Bool.not_true, Bool.false_eq_true, if_false, decide_false,
    Bool.or_false]
  split
  · exact ⟨_, rfl⟩
  · exact ⟨[], by simp [State.setPrg]⟩

end Sys2Proof.Machine
end

