-- ==== Sys2Proof/Laws/Mem.lean ====
section
/-!
SUPPORT. The laws of the memories: bytes read back as they were written, other bytes stay, and every operation keeps the
canonical form.
-/

namespace Sys2Proof.Machine

theorem NMap.wf_putBytes {m : NMap Byte} (a : Nat) (bs : List Byte) (h : NMap.wf byte0 m) : NMap.wf byte0 (putBytes m a bs) := by
  induction bs generalizing m a with
  | nil => exact h
  | cons b r ih => exact ih (a + 1) (NMap.wf_set a b h)

/-- Bytes outside the range that is written stay. -/
theorem get_putBytes_other (m : NMap Byte) (a j : Nat) (bs : List Byte) (h : j < a ∨ a + bs.length ≤ j) :
    NMap.get byte0 (putBytes m a bs) j = NMap.get byte0 m j := by
  induction bs generalizing m a with
  | nil => rfl
  | cons b r ih =>
    simp only [List.length_cons] at h
    have hne : j ≠ a := by omega
    rw [putBytes, ih _ _ (by omega), NMap.get_set_ne _ _ hne]

/-- Bytes read back as they were written. -/
theorem get_putBytes (m : NMap Byte) (a i : Nat) (bs : List Byte) (h : i < bs.length) :
    NMap.get byte0 (putBytes m a bs) (a + i) = bs[i] := by
  induction bs generalizing m a i with
  | nil => simp at h
  | cons b r ih =>
    rw [putBytes]
    cases i with
    | zero => simp [get_putBytes_other _ (a + 1) a r (by omega)]
    | succ i =>
      have e : a + (i + 1) = a + 1 + i := by omega
      simpa [e] using ih (NMap.set byte0 m a b) (a + 1) i (by simpa using h)

theorem Memory.wf_empty : Memory.wf {} := ⟨NMap.wf_nil, NMap.wf_nil, NMap.wf_nil, NMap.wf_nil⟩

theorem State.wf_sramPut {s : State} (a : Nat) (bs : List Byte) (h : Memory.wf s.mem) : Memory.wf (s.sramPut a bs).mem :=
  ⟨h.1, h.2.1, h.2.2.1, NMap.wf_putBytes a bs h.2.2.2⟩

theorem State.wf_pktPut {s : State} (a : Nat) (bs : List Byte) (h : Memory.wf s.mem) : Memory.wf (s.pktPut a bs).mem :=
  ⟨h.1, h.2.1, NMap.wf_putBytes a bs h.2.2.1, h.2.2.2⟩

theorem State.wf_dramSet {s : State} (a : Nat) (b : Byte) (h : Memory.wf s.mem) : Memory.wf (s.dramSet a b).mem := by
  unfold State.dramSet
  split
  · exact h
  split
  · exact ⟨h.1, NMap.wf_set a (some b) h.2.1, h.2.2⟩
  · exact ⟨NMap.wf_set a b h.1, h.2⟩

theorem State.wf_dramFill {s : State} (a : Nat) (bs : List Byte) (h : Memory.wf s.mem) : Memory.wf (s.dramFill a bs).mem := by
  induction bs generalizing s a with
  | nil => exact h
  | cons b r ih => exact ih (a + 1) (State.wf_dramSet a b h)

/-- A write to DRAM keeps the canonical form. -/
theorem State.wf_dramPut {s : State} (a : Nat) (bs : List Byte) (h : Memory.wf s.mem) : Memory.wf (s.dramPut a bs).mem := by
  have h' := State.wf_dramFill a bs h
  unfold State.dramPut
  dsimp only
  split
  · exact h'
  · exact h'

/-! ## What a write to DRAM leaves -/

/-- A byte of DRAM that is not written stays. -/
theorem State.dramByte_dramSet_other (s : State) {a j : Nat} (b : Byte) (h : j ≠ a) : (s.dramSet a b).dramByte j = s.dramByte j := by
  unfold State.dramSet
  split
  · rfl
  split <;> simp [State.dramByte, State.setMem, NMap.get_set_ne _ _ h]

/-- The byte that is written, where the address is not lost. -/
theorem State.dramByte_dramSet (s : State) (a : Nat) (b : Byte) (h : s.dramLost a = false) : (s.dramSet a b).dramByte a = b := by
  unfold State.dramSet
  rw [h]
  simp only [Bool.false_eq_true, if_false]
  split
  · simp [State.dramByte, State.setMem]
  · rename_i hq
    have hn : NMap.get (fun _ => none) s.mem.queued a = none := by simpa using hq
    simp [State.dramByte, State.setMem, hn]

end Sys2Proof.Machine
end

