-- ==== Sys2Proof/WellFormed.lean ====
section
/-!
DEFINITION. Which commands are well formed: every number names something of its range (R10, R20, R60).
-/

namespace Sys2Proof

/-- A page number of the register window (R20). -/
def isPage (p : Nat) : Bool := decide (p < 4096)

/-- A place in the register window (R60). -/
def inWin (p off : Nat) : Bool := isPage p && decide (off < 65536 ∧ off % 4 = 0)

/-- A producer port (R112). -/
def isPort (p : Nat) : Bool := decide (p ≤ 592)

/-- A Coil queue (R20). -/
def isQueue (q : Nat) : Bool := decide (q < 4096)

/-- A Withy core (R10). -/
def isCore (n : Nat) : Bool := decide (n < 512)

/-- A Withy register number (R343). -/
def isReg (r : Nat) : Bool := decide (r < 16)

/-- A Withy address register number (R343). -/
def isAx (r : Nat) : Bool := decide (r < 8)

/-- A unit of the capture points names something of its range (R626). -/
def captureWf : Capture → Bool
  | .enc n m => decide (n < 16 ∧ m < 64)
  | .tmpl t => decide (t < 256)
  | .pipe q => decide (q < 4)
  | _ => true

/-- A source of register accesses: the virtual functions are 1 to 15 (R112). -/
def srcWf : Src → Bool
  | .vf n => decide (1 ≤ n ∧ n ≤ 15)
  | _ => true

/-- A position of an identity memory (R660): kind 1 a DIMM, 2 an Ethernet cage, 3 an SFP cage. -/
def idWf (kind pos : Nat) : Bool :=
  (kind = 1 && decide (pos < 32)) || (kind = 2 && decide (pos < 8)) || (kind = 3 && decide (pos < 4))

/-- A step of the power sequence at which a rail is checked (R700). -/
def stuckWf : Option Nat → Bool
  | some k => decide (3 ≤ k ∧ k ≤ 7)
  | none => true

/-- The causes of R414 that a decode itself finds, with a detail of 16 bits. -/
def stopWf : DecResult → Bool
  | .stop c d => decide (d < 65536) && decide (c = 3 ∨ c = 4 ∨ c = 5 ∨ c = 7 ∨ c = 8)
  | .pic _ => true

/-- A command whose operands lie in the ranges their rules give them. -/
def Instr.wf : Instr → Bool
  | .regWrite src page off _ => srcWf src && (inWin page off)
  | .reg64LowRead page off => inWin page off
  | .reg64HighWrite src page off _ => srcWf src && (inWin page off)
  | .errInfoClear src page => srcWf src && (isPage page)
  | .evtStatusClear src page _ => srcWf src && (isPage page)
  | .evtForce src page _ => srcWf src && (isPage page)
  | .evtRingDeliver => true
  | .pageEnWrite src page _ => srcWf src && (isPage page)
  | .pageInitDone page => isPage page
  | .pageFence src page => srcWf src && (isPage page)
  | .pageFenceDone page => isPage page
  | .pageReset src page _ => srcWf src && (isPage page)
  | .pageResetDone page => isPage page
  | .cmtArm src page => srcWf src && (isPage page)
  | .cmtDisarm src page => srcWf src && (isPage page)
  | .commitApply page => isPage page
  | .cgrpArm src => srcWf src
  | .cgrpDisarm src => srcWf src
  | .cgrpCheck group => decide (1 ≤ group ∧ group ≤ 31)
  | .cgrpApply group => decide (1 ≤ group ∧ group ≤ 31)
  | .tblAddrWrite src page _ => srcWf src && (isPage page)
  | .tblDataRead src page => srcWf src && (isPage page)
  | .tblDataWrite src page _ => srcWf src && (isPage page)
  | .tblWritebackDeferred => true
  | .grantTableWriteback src entry _ => srcWf src && (decide (entry < 4096))
  | .snapRequest src page _ => srcWf src && (isPage page)
  | .snapshotTake page => isPage page
  | .ringEnable src page ring _ => srcWf src && (isPage page && decide (ring < 4))
  | .ringHeadWrite src page ring _ => srcWf src && (isPage page && decide (ring < 4))
  | .gridPhaseWrite src _ => srcWf src
  | .waleRunSet src => srcWf src
  | .waleRunClear src => srcWf src
  | .waleStrobe => true
  | .fineTick => true
  | .taskSubmit port desc => isPort port && decide (desc.length = 16)
  | .taskDecrement port id => isPort port && decide (id < 65536)
  | .abortTask src id => srcWf src && (decide (id < 65536))
  | .abortOwner src owner => srcWf src && (decide (owner < 256))
  | .delayListRelease list => decide (list < 8)
  | .taskDispatch => true
  | .taskStart e => decide (e < 552)
  | .taskComplete e _ => decide (e < 552)
  | .budgetAbort e => decide (e < 552)
  | .deadlineAbort id => decide (id < 65536)
  | .completionRecordWrite id => decide (id < 65536)
  | .imageRegistryWrite src image ws => srcWf src && (decide (image < 1024 ∧ ws.length = 4))
  | .imageScanDone image => decide (image < 1024)
  | .ownerMapWriteback src port _ => srcWf src && (decide (port < 593))
  | .poolWriteback src pool ws => srcWf src && (decide (pool < 64 ∧ ws.length = 7))
  | .poolReady pool => decide (pool < 64)
  | .alloc port pool => isPort port && decide (pool < 64)
  | .add port _ owner => isPort port && decide (owner < 256)
  | .drop port _ => isPort port
  | .free port _ => isPort port
  | .creelReclaim src owner => srcWf src && (decide (owner < 256))
  | .crlReclaimDone => true
  | .coilQueueWriteback src q ws => srcWf src && (isQueue q && decide (ws.length = 4))
  | .coilGrantWriteback src g ws => srcWf src && (decide (g < 16384 ∧ ws.length = 3))
  | .reserve port q _ => isPort port && isQueue q
  | .commit port q _ _ _ => isPort port && isQueue q
  | .next port q => isPort port && isQueue q
  | .release port q _ => isPort port && isQueue q
  | .mark port q => isPort port && isQueue q
  | .rewind port q => isPort port && isQueue q
  | .coilReclaim src owner => srcWf src && (decide (owner < 256))
  | .colReclaimDone => true
  | .ethLinkUp lane => decide (lane < 32)
  | .ethLinkDown lane => decide (lane < 32)
  | .ethHiSer lane _ => decide (lane < 32)
  | .ethRxFrame lane _ _ => decide (lane < 32)
  | .iclFrame => true
  | .iclCtxFetchDone scid => decide (scid < 33554432)
  | .legkeyWriteback src entry ws => srcWf src && (decide (entry < 131072 ∧ ws.length = 12))
  | .streamCtxWriteback src scid ws => srcWf src && (decide (scid < 33554432 ∧ ws.length = 16))
  | .policerWriteback src entry ws => srcWf src && (decide (entry < 65536 ∧ ws.length = 8))
  | .cpeRqWriteback src q ws => srcWf src && (decide (q < 256 ∧ ws.length = 2))
  | .cpeInbound => true
  | .keySlotFetch slot _ => decide (slot < 4194304)
  | .keySlotEvict slot => decide (slot < 4194304)
  | .keyLoad src => srcWf src
  | .keyLoadApply => true
  | .keyLoadPendingExpire => true
  | .kwkLoad => true
  | .cpeOutbound => true
  | .bulkSubmit port rq desc => isPort port && decide (rq < 256 ∧ desc.length = 16)
  | .bulkComplete => true
  | .lfwPacketAccepted => true
  | .fanoutCopy => true
  | .needIntraReport => true
  | .estNextRateWrite leg _ => decide (leg < 65536)
  | .estBatchDone src batch => src.all srcWf && (decide (batch < 512))
  | .estLatch => true
  | .wantCompute => true
  | .switchTmo subn => decide (subn < 16777216)
  | .joinTake subn => decide (subn < 16777216)
  | .originatedPacket q => q.all isQueue
  | .partialMixOut => true
  | .mxfGather => true
  | .mixSample => true
  | .hwdecPacket => true
  | .partialMixIn => true
  | .partialBuild trunk => decide (trunk < 4096)
  | .mxfHwencPacket => true
  | .nop n => isCore n
  | .mov n d a => isCore n && isReg d && isReg a
  | .movi n d _ => isCore n && isReg d
  | .movhi n d _ => isCore n && isReg d
  | .sub n d a t => isCore n && isReg d && isReg a && isReg t
  | .addi n d a _ => isCore n && isReg d && isReg a
  | .and n d a t => isCore n && isReg d && isReg a && isReg t
  | .or n d a t => isCore n && isReg d && isReg a && isReg t
  | .xor n d a t => isCore n && isReg d && isReg a && isReg t
  | .shl n d a t => isCore n && isReg d && isReg a && isReg t
  | .shr n d a t => isCore n && isReg d && isReg a && isReg t
  | .shrl n d a t => isCore n && isReg d && isReg a && isReg t
  | .shri n d a k => isCore n && isReg d && isReg a && decide (k < 32)
  | .shli n d a k => isCore n && isReg d && isReg a && decide (k < 32)
  | .abs n d a => isCore n && isReg d && isReg a
  | .max n d a t => isCore n && isReg d && isReg a && isReg t
  | .min n d a t => isCore n && isReg d && isReg a && isReg t
  | .cmp n a t => isCore n && isReg a && isReg t
  | .cmpi n a _ => isCore n && isReg a
  | .maxi n d a => isCore n && isReg d && isReg a
  | .mini n d a => isCore n && isReg d && isReg a
  | .ldw n d ax _ _ ecc => isCore n && isReg d && isAx ax && decide (ecc < 3)
  | .ldh n d ax _ _ => isCore n && isReg d && isAx ax.num && decide (ax.ecc < 3)
  | .stw n d ax _ _ => isCore n && isReg d && isAx ax
  | .sth n d ax _ _ => isCore n && isReg d && isAx ax
  | .mpy n acc a t _ _ => isCore n && decide (acc < 2) && isReg a && isReg t
  | .mac n acc a t _ _ => isCore n && decide (acc < 2) && isReg a && isReg t
  | .msu n acc a t _ _ => isCore n && decide (acc < 2) && isReg a && isReg t
  | .macm n acc p q => isCore n && decide (acc < 2) && isAx p.num && isAx q.num && decide (p.ecc < 3) && decide (q.ecc < 3)
  | .clr n acc => isCore n && decide (acc < 2)
  | .rda n d acc shift wid => isCore n && isReg d && decide (acc < 2 ∧ shift < 32 ∧ wid < 3)
  | .sta n acc ax _ _ shift wid => isCore n && isAx ax && decide (acc < 2 ∧ shift < 32 ∧ wid < 3)
  | .mova n acc a => isCore n && decide (acc < 2) && isReg a
  | .seta n r a => isCore n && isReg r && isReg a
  | .geta n d r => isCore n && isReg d && isReg r
  | .aadd n ax _ => isCore n && isAx ax
  | .setm n a => isCore n && isReg a
  | .getm n d => isCore n && isReg d
  | .b n _ target => isCore n && decide (target < 8192)
  | .call n target => isCore n && decide (target < 8192)
  | .br n a => isCore n && isReg a
  | .repi n len count => isCore n && decide (1 ≤ len ∧ len ≤ 256 ∧ count < 65536)
  | .repr n len a => isCore n && isReg a && decide (1 ≤ len ∧ len ≤ 256)
  | .exit n a => isCore n && isReg a
  | .waitd n mask => isCore n && decide (mask < 16)
  | .waitf n => isCore n
  | .ei n => isCore n
  | .di n => isCore n
  | .reti n => isCore n
  | .norm n d acc => isCore n && isReg d && decide (acc < 2)
  | .expt n d a => isCore n && isReg d && isReg a
  | .interruptEntry n => isCore n
  | .dmaStart n ch => isCore n && decide (ch < 4)
  | .dmaDone n ch => isCore n && decide (ch.num < 4) && decide (ch.ecc < 3)
  | .fabricRequest n => isCore n
  | .fabricResponse n => isCore n
  | .wdsLoad src n image => srcWf src && (isCore n && decide (image < 1024))
  | .wdsLoaded n => isCore n
  | .wdsModeWrite src n _ => srcWf src && (isCore n)
  | .wdsMemWrite src n dmem entry _ => srcWf src && (isCore n && decide (entry < (if dmem then 24576 else 8192)))
  | .testGo src n pc => srcWf src && (isCore n && decide (pc < 8192))
  | .testIrq src n => srcWf src && (isCore n)
  | .testHalt src n => srcWf src && (isCore n)
  | .encLaunch enc => decide (enc < 16)
  | .encUnitEmit enc u => decide (enc < 16) && u.pkts.all fun p => decide (p.1.length < 256 ∧ p.2.length < 65536)
  | .encRefresh src enc stream => src.all srcWf && (decide (enc < 16 ∧ stream < 64))
  | .decPacketAssemble dec stream => decide (dec < 24 ∧ stream < 256)
  | .decUnitSubmit dec stream ctus => decide (dec < 24 ∧ stream < 256 ∧ ctus ≤ 2304)
  | .decodeComplete dec r => decide (dec < 24) && stopWf r
  | .decRestart src dec stream => srcWf src && (decide (dec < 24 ∧ stream < 256))
  | .weaveIngest queue => decide (queue < 16)
  | .weaveCut => true
  | .weaveLaunch template => decide (template < 256)
  | .weavePictureBuild splicer => decide (splicer < 2)
  | .wveSpliceLate splicer entry => decide (splicer < 2 ∧ entry < 32768)
  | .wveRekey src splicer entry => src.all srcWf && (decide (splicer < 2 ∧ entry < 32768))
  | .pxcFrameLaunch pipe => decide (pipe < 4)
  | .pxcFramePublish pipe => decide (pipe < 4)
  | .pxcFrameLate pipe => decide (pipe < 4)
  | .descriptorEnqueue => true
  | .hostFrameEnqueue lane => decide (lane < 32)
  | .ptpTx => true
  | .escDequeue lane => decide (lane < 32)
  | .txStart lane => decide (lane < 32)
  | .gateTransition lane => decide (lane < 32)
  | .gclStart lane => decide (lane < 32)
  | .gclEntryWriteback src port entry ws => srcWf src && (decide (port < 8 ∧ entry < 1024 ∧ ws.length = 2))
  | .escCeilLocked lane mbps => decide (lane < 32 ∧ mbps < 1048576)
  | .framerOccurrence port pos _ => decide (port < 4 ∧ pos < 311040)
  | .lnuFalseLock port => decide (port < 4)
  | .lofDeclare port => decide (port < 4)
  | .lofClear port => decide (port < 4)
  | .losDeclare port => decide (port < 4)
  | .losClear port => decide (port < 4)
  | .rxFrameOverhead port oh => decide (port < 4 ∧ oh.b1 ≤ 8 ∧ oh.b2 ≤ 384 ∧ oh.k1 < 256 ∧ oh.k2 < 256 ∧ oh.s1 < 256) && oh.paths.all fun p => decide (p.path < 48 ∧ p.ptr < 65536 ∧ p.b3 ≤ 8 ∧ p.c2 < 256 ∧ p.g1 < 256 ∧ p.h4 < 256)
  | .rxMultiframe port tus => decide (port < 4) && tus.all fun t => decide (t.trib < 1344 ∧ t.ptr < 65536 ∧ t.bip ≤ 2 ∧ t.v5 < 256)
  | .tribFrameComplete port trib frame => decide (port < 4 ∧ trib < 1344) && decide (frame.length = 32 ∨ frame.length = 25)
  | .tdmFramePulse => true
  | .txForceWrite src port _ => srcWf src && (decide (port < 4))
  | .wdtForceClear port => decide (port < 4)
  | .pmRecord => true
  | .pmSecondClose => true
  | .binClose => true
  | .adjSet src => srcWf src
  | .adjStep src => srcWf src
  | .freqWrite src _ => srcWf src
  | .servoLockedWrite src _ => srcWf src
  | .servoSilent => true
  | .ptpRx => true
  | .txtsPop src tsId => srcWf src && (decide (tsId < 65536))
  | .tmuLatWriteback src lane _ _ => srcWf src && (decide (lane < 32))
  | .syncinMeasure _ _ => true
  | .ppsEdge _ => true
  | .tmuSyncinLoss _ => true
  | .ppsOutRise => true
  | .ppsOutFall => true
  | .drcEnable src => srcWf src
  | .drcDisable src => srcWf src
  | .trainStepDone ch => decide (ch < 16)
  | .drcTrainFail ch rank => decide (ch < 16 ∧ rank < 4)
  | .drcRetrain src mask => srcWf src && (decide (mask < 65536))
  | .dramWrite addr bytes => decide (addr < 2 ^ 64 ∧ 0 < bytes.length ∧ addr % 64 + bytes.length ≤ 64)
  | .dramRead addr _ => decide (addr < 2 ^ 64)
  | .writeQueueDrain ch _ => decide (ch < 16)
  | .refresh ch rank => decide (ch < 16 ∧ rank < 4)
  | .mr4Poll ch rank _ => decide (ch < 16 ∧ rank < 4)
  | .scrubRead ch _ => decide (ch < 16)
  | .caParityAlert ch rank _ => decide (ch < 16 ∧ rank < 4)
  | .rankRetire src ch rank => srcWf src && (decide (ch < 16 ∧ rank < 4))
  | .migrationCopy ch _ => decide (ch < 16)
  | .pairLinkFrame seq ack _ => decide (seq < 2 ^ 32 ∧ ack < 2 ^ 32)
  | .pairLinkSend => true
  | .pairRetransmit => true
  | .prgLinkDown => true
  | .twinDead => true
  | .twinAlive => true
  | .hello => true
  | .configForward => true
  | .layCfg => true
  | .layPkt => true
  | .layTdm => true
  | .layBoundary => true
  | .layDeq => true
  | .layDrop => true
  | .layOutcome => true
  | .layRefuse => true
  | .heldInputTimeout => true
  | .fetchRequest => true
  | .fetchResponse => true
  | .fetchTimeout => true
  | .outcomeHoldTimeout => true
  | .digestRx => true
  | .gateWaitExpire => true
  | .gateHoldExpire => true
  | .promote => true
  | .demoteRx => true
  | .swapArm src => srcWf src
  | .swapApply => true
  | .autoSwap => true
  | .joinGo src converge => srcWf src && (decide (converge < 2 ^ 16))
  | .copyComplete => true
  | .capturePoint u => captureWf u
  | .prgInStep => true
  | .prgRegionWriteback src entry ws => srcWf src && (decide (entry < 64 ∧ ws.length = 4))
  | .porAssert => true
  | .porRelease straps => decide (straps < 8)
  | .slathBoot _ _ period => decide (100 ≤ period ∧ period ≤ 2000)
  | .recovery _ _ => true
  | .platformRead pub => decide (pub.length = 64)
  | .mainRelease stuck => stuckWf stuck
  | .mainSeqStepFail => true
  | .perst _ => true
  | .boardFault => true
  | .refclkLoss => true
  | .refclkPresent => true
  | .islandUndervolt => true
  | .idRead kind pos _ => idWf kind pos
  | .idReadTimeout kind pos => idWf kind pos
  | .moduleRemoved kind pos => idWf kind pos && decide (2 ≤ kind)
  | .moduleInserted kind pos => idWf kind pos && decide (2 ≤ kind)
  | .wdtKick _ => true
  | .wdtExpire => true
  | .wdtRestart _ _ period => decide (100 ≤ period ∧ period ≤ 2000)
  | .tempSample sensor v => decide (sensor < 24 ∧ -1024 ≤ v ∧ v < 1024)
  | .voltSample monitor mv => decide (monitor < 16 ∧ mv < 65536)
  | .pmbusPoll addr vout iout temp status => decide (addr < 128 ∧ vout < 65536 ∧ iout < 65536 ∧ temp < 256 ∧ status < 65536)
  | .pmbusCommand rail kind mv => decide (rail < 7 ∧ kind < 3 ∧ mv < 65536)
  | .mirrorPageWrite => true
  | .mbDoorbell src tag len => srcWf src && (decide (tag < 256 ∧ len < 8192))
  | .getInfo => true
  | .clockSet => true
  | .clockStep => true
  | .ptpCfg => true
  | .imageRegion => true
  | .imageLoad _ => true
  | .imageUnload => true
  | .fwUpdate _ _ => true
  | .svnCommit => true
  | .platformWrite _ pub _ => decide (pub.length = 64)
  | .ownerSet => true
  | .fwRun _ period => decide (100 ≤ period ∧ period ≤ 2000)
  | .quote => true
  | .measure => true
  | .logRead => true
  | .sensorRead => true
  | .threshSet => true
  | .logCfg => true
  | .withyAdd n d a t => isCore n && isReg d && isReg a && isReg t
  | .reservedOpcode n => isCore n.num && decide (n.ecc < 3)

end Sys2Proof
end

