-- ==== Sys2Proof/Tests/Slice0.lean ====
section
/-!
SUPPORT. The model's own tests: ill-formed commands that the check refuses, and for every statement with hypotheses a state
and operands that meet them.
-/

namespace Sys2Proof.Tests

open Sys2Proof Sys2Proof.Machine

set_option Elab.async false

/-! ## Ill-formed commands: for each check one that it alone refuses -/

theorem test_ill_formed_1 :
  (
    [.regWrite (.vf 0) 0 0 0, .regWrite .pf 4096 0 0, .regWrite .pf 0 65536 0, .regWrite .pf 0 2 0, .reg64LowRead 4096 0,
     .reg64LowRead 0 65536, .reg64LowRead 0 2, .reg64HighWrite (.vf 0) 0 0 0, .reg64HighWrite .pf 4096 0 0,
     .reg64HighWrite .pf 0 65536 0, .reg64HighWrite .pf 0 2 0, .errInfoClear (.vf 0) 0, .errInfoClear .pf 4096,
     .evtStatusClear (.vf 0) 0 0, .evtStatusClear .pf 4096 0, .evtForce (.vf 0) 0 0, .evtForce .pf 4096 0,
     .pageEnWrite (.vf 0) 0 false, .pageEnWrite .pf 4096 false, .pageInitDone 4096, .pageFence (.vf 0) 0,
     .pageFence .pf 4096, .pageFenceDone 4096, .pageReset (.vf 0) 0 false] : List Instr).all (fun c => !c.wf) = true := by
  decide +kernel

theorem test_ill_formed_2 :
  (
    [.pageReset .pf 4096 false, .pageResetDone 4096, .cmtArm (.vf 0) 0, .cmtArm .pf 4096, .cmtDisarm (.vf 0) 0,
     .cmtDisarm .pf 4096, .commitApply 4096, .cgrpArm (.vf 0), .cgrpDisarm (.vf 0), .cgrpCheck 0, .cgrpCheck 32,
     .cgrpApply 0, .cgrpApply 32, .tblAddrWrite (.vf 0) 0 0, .tblAddrWrite .pf 4096 0, .tblDataRead (.vf 0) 0,
     .tblDataRead .pf 4096, .tblDataWrite (.vf 0) 0 0, .tblDataWrite .pf 4096 0, .grantTableWriteback (.vf 0) 0 0,
     .grantTableWriteback .pf 4096 0, .snapRequest (.vf 0) 0 false, .snapRequest .pf 4096 false, .snapshotTake 4096] : List Instr).all (fun c => !c.wf) = true := by
  decide +kernel

theorem test_ill_formed_3 :
  (
    [.ringEnable (.vf 0) 0 0 0, .ringEnable .pf 4096 0 0, .ringEnable .pf 0 4 0, .ringHeadWrite (.vf 0) 0 0 0,
     .ringHeadWrite .pf 4096 0 0, .ringHeadWrite .pf 0 4 0, .gridPhaseWrite (.vf 0) 0, .waleRunSet (.vf 0),
     .waleRunClear (.vf 0), .taskSubmit 593 (List.replicate 16 0), .taskSubmit 0 [], .taskDecrement 593 0,
     .taskDecrement 0 65536, .abortTask (.vf 0) 0, .abortTask .pf 65536, .abortOwner (.vf 0) 0, .abortOwner .pf 256,
     .delayListRelease 8, .taskStart 552, .taskComplete 552 0, .budgetAbort 552, .deadlineAbort 65536,
     .completionRecordWrite 65536, .imageRegistryWrite (.vf 0) 0 (List.replicate 4 0)] : List Instr).all (fun c => !c.wf) = true := by
  decide +kernel

theorem test_ill_formed_4 :
  (
    [.imageRegistryWrite .pf 1024 (List.replicate 4 0), .imageRegistryWrite .pf 0 [], .imageScanDone 1024,
     .ownerMapWriteback (.vf 0) 0 0, .ownerMapWriteback .pf 593 0, .poolWriteback (.vf 0) 0 (List.replicate 7 0),
     .poolWriteback .pf 64 (List.replicate 7 0), .poolWriteback .pf 0 [], .poolReady 64, .alloc 593 0, .alloc 0 64,
     .add 593 0 0, .add 0 0 256, .drop 593 0, .free 593 0, .creelReclaim (.vf 0) 0, .creelReclaim .pf 256,
     .coilQueueWriteback (.vf 0) 0 (List.replicate 4 0), .coilQueueWriteback .pf 4096 (List.replicate 4 0),
     .coilQueueWriteback .pf 0 [], .coilGrantWriteback (.vf 0) 0 (List.replicate 3 0),
     .coilGrantWriteback .pf 16384 (List.replicate 3 0), .coilGrantWriteback .pf 0 [], .reserve 593 0 0] : List Instr).all (fun c => !c.wf) = true := by
  decide +kernel

theorem test_ill_formed_5 :
  (
    [.reserve 0 4096 0, .commit 593 0 0 0 false, .commit 0 4096 0 0 false, .next 593 0, .next 0 4096, .release 593 0 0,
     .release 0 4096 0, .mark 593 0, .mark 0 4096, .rewind 593 0, .rewind 0 4096, .coilReclaim (.vf 0) 0,
     .coilReclaim .pf 256, .ethLinkUp 32, .ethLinkDown 32, .ethHiSer 32 false, .ethRxFrame 32 [] ⟨false, 0⟩,
     .iclCtxFetchDone 33554432, .legkeyWriteback (.vf 0) 0 (List.replicate 12 0),
     .legkeyWriteback .pf 131072 (List.replicate 12 0), .legkeyWriteback .pf 0 [],
     .streamCtxWriteback (.vf 0) 0 (List.replicate 16 0), .streamCtxWriteback .pf 33554432 (List.replicate 16 0),
     .streamCtxWriteback .pf 0 []] : List Instr).all (fun c => !c.wf) = true := by
  decide +kernel

theorem test_ill_formed_6 :
  (
    [.policerWriteback (.vf 0) 0 (List.replicate 8 0), .policerWriteback .pf 65536 (List.replicate 8 0),
     .policerWriteback .pf 0 [], .cpeRqWriteback (.vf 0) 0 (List.replicate 2 0),
     .cpeRqWriteback .pf 256 (List.replicate 2 0), .cpeRqWriteback .pf 0 [], .keySlotFetch 4194304 false,
     .keySlotEvict 4194304, .keyLoad (.vf 0), .bulkSubmit 593 0 (List.replicate 16 0),
     .bulkSubmit 0 256 (List.replicate 16 0), .bulkSubmit 0 0 [], .estNextRateWrite 65536 0,
     .estBatchDone (some (.vf 16)) 0, .estBatchDone none 512, .switchTmo 16777216, .joinTake 16777216,
     .originatedPacket (some 4096), .partialBuild 4096, .nop 512, .mov 512 0 0, .mov 0 16 0, .mov 0 0 16, .movi 512 0 0] : List Instr).all (fun c => !c.wf) = true := by
  decide +kernel

theorem test_ill_formed_7 :
  (
    [.movi 0 16 0, .movhi 512 0 0, .movhi 0 16 0, .sub 512 0 0 0, .sub 0 16 0 0, .sub 0 0 16 0, .sub 0 0 0 16,
     .addi 512 0 0 0, .addi 0 16 0 0, .addi 0 0 16 0, .and 512 0 0 0, .and 0 16 0 0, .and 0 0 16 0, .and 0 0 0 16,
     .or 512 0 0 0, .or 0 16 0 0, .or 0 0 16 0, .or 0 0 0 16, .xor 512 0 0 0, .xor 0 16 0 0, .xor 0 0 16 0,
     .xor 0 0 0 16, .shl 512 0 0 0, .shl 0 16 0 0] : List Instr).all (fun c => !c.wf) = true := by
  decide +kernel

theorem test_ill_formed_8 :
  (
    [.shl 0 0 16 0, .shl 0 0 0 16, .shr 512 0 0 0, .shr 0 16 0 0, .shr 0 0 16 0, .shr 0 0 0 16, .shrl 512 0 0 0,
     .shrl 0 16 0 0, .shrl 0 0 16 0, .shrl 0 0 0 16, .shri 512 0 0 0, .shri 0 16 0 0, .shri 0 0 16 0, .shri 0 0 0 32,
     .shli 512 0 0 0, .shli 0 16 0 0, .shli 0 0 16 0, .shli 0 0 0 32, .abs 512 0 0, .abs 0 16 0, .abs 0 0 16,
     .max 512 0 0 0, .max 0 16 0 0, .max 0 0 16 0] : List Instr).all (fun c => !c.wf) = true := by
  decide +kernel

theorem test_ill_formed_9 :
  (
    [.max 0 0 0 16, .min 512 0 0 0, .min 0 16 0 0, .min 0 0 16 0, .min 0 0 0 16, .cmp 512 0 0, .cmp 0 16 0, .cmp 0 0 16,
     .cmpi 512 0 0, .cmpi 0 16 0, .maxi 512 0 0, .maxi 0 16 0, .maxi 0 0 16, .mini 512 0 0, .mini 0 16 0, .mini 0 0 16,
     .ldw 512 0 0 false 0 0, .ldw 0 16 0 false 0 0, .ldw 0 0 8 false 0 0, .ldw 0 0 0 false 0 3,
     .ldh 512 0 ⟨0, 0⟩ false 0, .ldh 0 16 ⟨0, 0⟩ false 0, .ldh 0 0 ⟨8, 0⟩ false 0, .ldh 0 0 ⟨0, 3⟩ false 0] : List Instr).all (fun c => !c.wf) = true := by
  decide +kernel

theorem test_ill_formed_10 :
  (
    [.stw 512 0 0 false 0, .stw 0 16 0 false 0, .stw 0 0 8 false 0, .sth 512 0 0 false 0, .sth 0 16 0 false 0,
     .sth 0 0 8 false 0, .mpy 512 0 0 0 false false, .mpy 0 0 16 0 false false, .mpy 0 0 0 16 false false,
     .mpy 0 2 0 0 false false, .mac 512 0 0 0 false false, .mac 0 0 16 0 false false, .mac 0 0 0 16 false false,
     .mac 0 2 0 0 false false, .msu 512 0 0 0 false false, .msu 0 0 16 0 false false, .msu 0 0 0 16 false false,
     .msu 0 2 0 0 false false, .macm 512 0 ⟨0, 0⟩ ⟨0, 0⟩, .macm 0 0 ⟨8, 0⟩ ⟨0, 0⟩, .macm 0 0 ⟨0, 0⟩ ⟨8, 0⟩,
     .macm 0 2 ⟨0, 0⟩ ⟨0, 0⟩, .macm 0 0 ⟨0, 3⟩ ⟨0, 0⟩, .macm 0 0 ⟨0, 0⟩ ⟨0, 3⟩] : List Instr).all (fun c => !c.wf) = true := by
  decide +kernel

theorem test_ill_formed_11 :
  (
    [.clr 512 0, .clr 0 2, .rda 512 0 0 0 0, .rda 0 16 0 0 0, .rda 0 0 2 0 0, .rda 0 0 0 32 0, .rda 0 0 0 0 3,
     .sta 512 0 0 false 0 0 0, .sta 0 0 8 false 0 0 0, .sta 0 2 0 false 0 0 0, .sta 0 0 0 false 0 32 0,
     .sta 0 0 0 false 0 0 3, .mova 512 0 0, .mova 0 0 16, .mova 0 2 0, .seta 512 0 0, .seta 0 16 0, .seta 0 0 16,
     .geta 512 0 0, .geta 0 16 0, .geta 0 0 16, .aadd 512 0 0, .aadd 0 8 0, .setm 512 0] : List Instr).all (fun c => !c.wf) = true := by
  decide +kernel

theorem test_ill_formed_12 :
  (
    [.setm 0 16, .getm 512 0, .getm 0 16, .b 512 .always 0, .b 0 .always 8192, .call 512 0, .call 0 8192, .br 512 0,
     .br 0 16, .repi 512 1 0, .repi 0 0 0, .repi 0 257 0, .repi 0 1 65536, .repr 512 1 0, .repr 0 1 16, .repr 0 0 0,
     .repr 0 257 0, .exit 512 0, .exit 0 16, .waitd 512 0, .waitd 0 16, .waitf 512, .ei 512, .di 512] : List Instr).all (fun c => !c.wf) = true := by
  decide +kernel

theorem test_ill_formed_13 :
  (
    [.reti 512, .norm 512 0 0, .norm 0 16 0, .norm 0 0 2, .expt 512 0 0, .expt 0 16 0, .expt 0 0 16, .interruptEntry 512,
     .dmaStart 512 0, .dmaStart 0 4, .dmaDone 512 ⟨0, 0⟩, .dmaDone 0 ⟨4, 0⟩, .dmaDone 0 ⟨0, 3⟩, .fabricRequest 512,
     .fabricResponse 512, .wdsLoad (.vf 0) 0 0, .wdsLoad .pf 512 0, .wdsLoad .pf 0 1024, .wdsLoaded 512,
     .wdsModeWrite (.vf 0) 0 false, .wdsModeWrite .pf 512 false, .wdsMemWrite (.vf 0) 0 false 0 0,
     .wdsMemWrite .pf 512 false 0 0, .wdsMemWrite .pf 0 true 24576 0] : List Instr).all (fun c => !c.wf) = true := by
  decide +kernel

theorem test_ill_formed_14 :
  (
    [.wdsMemWrite .pf 0 false 8192 0, .testGo (.vf 0) 0 0, .testGo .pf 512 0, .testGo .pf 0 8192, .testIrq (.vf 0) 0,
     .testIrq .pf 512, .testHalt (.vf 0) 0, .testHalt .pf 512, .encLaunch 16, .encRefresh (some (.vf 16)) 0 0,
     .encRefresh none 16 0, .encRefresh none 0 64, .decPacketAssemble 24 0, .decPacketAssemble 0 256,
     .decUnitSubmit 24 0 0, .decUnitSubmit 0 256 0, .decUnitSubmit 0 0 2305, .decodeComplete 24 (.stop 0 0),
     .decRestart (.vf 0) 0 0, .decRestart .pf 24 0, .decRestart .pf 0 256, .weaveIngest 16, .weaveLaunch 256,
     .weavePictureBuild 2] : List Instr).all (fun c => !c.wf) = true := by
  decide +kernel

theorem test_ill_formed_15 :
  (
    [.wveSpliceLate 2 0, .wveSpliceLate 0 32768, .wveRekey (some (.vf 16)) 0 0, .wveRekey none 2 0,
     .wveRekey none 0 32768, .pxcFrameLaunch 4, .pxcFramePublish 4, .pxcFrameLate 4, .hostFrameEnqueue 32,
     .escDequeue 32, .txStart 32, .gateTransition 32, .gclStart 32, .gclEntryWriteback (.vf 0) 0 0 (List.replicate 2 0),
     .gclEntryWriteback .pf 8 0 (List.replicate 2 0), .gclEntryWriteback .pf 0 1024 (List.replicate 2 0),
     .gclEntryWriteback .pf 0 0 [], .escCeilLocked 32 0, .escCeilLocked 0 1048576, .framerOccurrence 4 0 false,
     .framerOccurrence 0 311040 false, .lnuFalseLock 4, .lofDeclare 4, .lofClear 4] : List Instr).all (fun c => !c.wf) = true := by
  decide +kernel

theorem test_ill_formed_16 :
  (
    [.losDeclare 4, .losClear 4, .tribFrameComplete 4 0 (List.replicate 32 0),
     .tribFrameComplete 0 1344 (List.replicate 32 0), .tribFrameComplete 0 0 [], .txForceWrite (.vf 0) 0 0,
     .txForceWrite .pf 4 0, .wdtForceClear 4, .adjSet (.vf 0), .adjStep (.vf 0), .freqWrite (.vf 0) 0,
     .servoLockedWrite (.vf 0) false, .txtsPop (.vf 0) 0, .txtsPop .pf 65536, .tmuLatWriteback (.vf 0) 0 0 0,
     .tmuLatWriteback .pf 32 0 0, .drcEnable (.vf 0), .drcDisable (.vf 0), .trainStepDone 16, .drcTrainFail 16 0,
     .drcTrainFail 0 4, .drcRetrain (.vf 0) 0, .drcRetrain .pf 65536, .dramWrite (2 ^ 64) [0]] : List Instr).all (fun c => !c.wf) = true := by
  decide +kernel

theorem test_ill_formed_17 :
  (
    [.dramWrite 0 [], .dramWrite 63 [0, 0], .dramRead (2 ^ 64) .clean, .writeQueueDrain 16 .clean, .refresh 16 0,
     .refresh 0 4, .mr4Poll 16 0 .cool, .mr4Poll 0 4 .cool, .scrubRead 16 .clean, .caParityAlert 16 0 false,
     .caParityAlert 0 4 false, .rankRetire (.vf 0) 0 0, .rankRetire .pf 16 0, .rankRetire .pf 0 4,
     .migrationCopy 16 .clean, .pairLinkFrame (2 ^ 32) 0 [], .pairLinkFrame 0 (2 ^ 32) [], .swapArm (.vf 0),
     .joinGo (.vf 0) 0, .joinGo .pf (2 ^ 16), .capturePoint (.enc 16 0), .capturePoint (.enc 0 64),
     .capturePoint (.tmpl 256), .capturePoint (.pipe 4)] : List Instr).all (fun c => !c.wf) = true := by
  decide +kernel

theorem test_ill_formed_18 :
  (
    [.prgRegionWriteback (.vf 0) 0 (List.replicate 4 0), .prgRegionWriteback .pf 64 (List.replicate 4 0),
     .prgRegionWriteback .pf 0 [], .porRelease 8, .slathBoot false false 99, .slathBoot false false 2001,
     .platformRead [], .mainRelease (some 2), .mainRelease (some 8), .idRead 0 0 none, .idRead 4 0 none,
     .idRead 1 32 none, .idRead 2 8 none, .idRead 3 4 none, .idReadTimeout 0 0, .idReadTimeout 4 0, .idReadTimeout 1 32,
     .idReadTimeout 2 8, .idReadTimeout 3 4, .moduleRemoved 0 0, .moduleRemoved 4 0, .moduleRemoved 1 0,
     .moduleRemoved 2 8, .moduleRemoved 3 4] : List Instr).all (fun c => !c.wf) = true := by
  decide +kernel

theorem test_ill_formed_19 :
  (
    [.moduleInserted 0 0, .moduleInserted 4 0, .moduleInserted 1 0, .moduleInserted 2 8, .moduleInserted 3 4,
     .wdtRestart false false 99, .wdtRestart false false 2001, .tempSample 24 0, .tempSample 0 (-1025),
     .tempSample 0 1024, .voltSample 16 0, .voltSample 0 65536, .pmbusPoll 128 0 0 0 0, .pmbusPoll 0 65536 0 0 0,
     .pmbusPoll 0 0 65536 0 0, .pmbusPoll 0 0 0 256 0, .pmbusPoll 0 0 0 0 65536, .pmbusCommand 7 2 0,
     .pmbusCommand 0 3 0, .pmbusCommand 0 2 65536, .mbDoorbell (.vf 0) 0 0, .mbDoorbell .pf 256 0,
     .mbDoorbell .pf 0 8192, .platformWrite none [] false] : List Instr).all (fun c => !c.wf) = true := by
  decide +kernel

theorem test_ill_formed_20 :
  (
    [.fwRun none 99, .fwRun none 2001, .withyAdd 512 0 0 0, .withyAdd 0 16 0 0, .withyAdd 0 0 16 0, .withyAdd 0 0 0 16,
     .reservedOpcode ⟨512, 0⟩, .reservedOpcode ⟨0, 3⟩, .encUnitEmit 16 ⟨0, [], [], [], [], []⟩,
     .encUnitEmit 0 ⟨0, [], [], [(List.replicate 256 0, [])], [], []⟩, .rxFrameOverhead 4 ⟨0, 0, 0, 0, 0, 0, []⟩,
     .rxFrameOverhead 0 ⟨0, 9, 0, 0, 0, 0, []⟩, .rxFrameOverhead 0 ⟨0, 0, 385, 0, 0, 0, []⟩,
     .rxFrameOverhead 0 ⟨0, 0, 0, 256, 0, 0, []⟩, .rxFrameOverhead 0 ⟨0, 0, 0, 0, 256, 0, []⟩,
     .rxFrameOverhead 0 ⟨0, 0, 0, 0, 0, 256, []⟩, .rxFrameOverhead 0 ⟨0, 0, 0, 0, 0, 0, [⟨48, 0, 0, 0, 0, 0⟩]⟩,
     .rxFrameOverhead 0 ⟨0, 0, 0, 0, 0, 0, [⟨0, 65536, 0, 0, 0, 0⟩]⟩,
     .rxFrameOverhead 0 ⟨0, 0, 0, 0, 0, 0, [⟨0, 0, 9, 0, 0, 0⟩]⟩,
     .rxFrameOverhead 0 ⟨0, 0, 0, 0, 0, 0, [⟨0, 0, 0, 256, 0, 0⟩]⟩,
     .rxFrameOverhead 0 ⟨0, 0, 0, 0, 0, 0, [⟨0, 0, 0, 0, 256, 0⟩]⟩,
     .rxFrameOverhead 0 ⟨0, 0, 0, 0, 0, 0, [⟨0, 0, 0, 0, 0, 256⟩]⟩, .rxMultiframe 4 [], .rxMultiframe 0 [⟨1344, 0, 0, 0⟩]] : List Instr).all (fun c => !c.wf) = true := by
  decide +kernel

theorem test_ill_formed_21 :
  (
    [.rxMultiframe 0 [⟨0, 65536, 0, 0⟩], .rxMultiframe 0 [⟨0, 0, 3, 0⟩], .rxMultiframe 0 [⟨0, 0, 0, 256⟩]] : List Instr).all (fun c => !c.wf) = true := by
  decide +kernel

/-! ## What meets the hypotheses of the statements -/

/-- A device whose main domain is up, in solo mode. -/
def up : State := { qz := { por := false, perst := false, mainOk := true } }

theorem witness_RegisterWritesAndReads :
    up.Opens .pf mxfPage Reg.evtEnable ∧ up.Opens .pf mxfPage Reg.mxfTag ∧ up.armed mxfPage = false ∧
      up.Opens .pf iclPage Reg.iclCtxBase ∧ up.Opens .pf iclPage Reg.iclCtxBaseHi ∧ up.enabled iclPage = false ∧
      up.reaches .pf tmuPage = true ∧ up.hidden .pf tmuPage = false ∧
      NMap.get (fun _ => none) up.latch (rkey tmuPage Reg.tmuStartWale) = none := by
  refine ⟨⟨?_, ?_, ?_, ?_, ?_⟩, ⟨?_, ?_, ?_, ?_, ?_⟩, ?_, ⟨?_, ?_, ?_, ?_, ?_⟩, ⟨?_, ?_, ?_, ?_, ?_⟩, ?_, ?_, ?_, ?_⟩ <;> decide

theorem witness_ErrorsAndEvents :
    up.Opens .pf crlPage Reg.errInfo ∧ up.Opens .pf crlPage Reg.evtStatus ∧ up.Opens .pf crlPage Reg.evtForce ∧
      (forcedEvent (pageType crlPage) 1).isSome = true ∧
      (let s : State := { reg := [(rkey 0 Reg.ringCfg, 0xA4)], ev := { queue := [⟨0x0410, crlPage, 0, false, 7, 0, 0⟩] } }
       s.ringOn 0 0 = true ∧ s.ringRoom 0 0 = true) := by
  refine ⟨⟨?_, ?_, ?_, ?_, ?_⟩, ⟨?_, ?_, ?_, ?_, ?_⟩, ⟨?_, ?_, ?_, ?_, ?_⟩, ?_, ?_, ?_⟩ <;> decide

theorem witness_RingsAndSnapshots :
    up.Opens .pf 0 (ringOff Reg.ringCfg 0) ∧ 0 < (pageCaps 0).rings ∧ up.ringOn 0 0 = false ∧
      ringFixed 0 0 = some (fld 0x24 6 5) ∧ up.Opens .pf 0 (ringOff Reg.ringHead 0) ∧ up.Opens .pf crlPage Reg.snapCtl ∧
      (pageCaps crlPage).snap = true ∧ up.rb crlPage Reg.snapCtl 0 = false ∧
      (let s : State := { reg := [(rkey tmuPage Reg.tmuWaleCtl, 0x21), (rkey crlPage Reg.snapCtl, 1)],
                          clk := { phase := 1, wale := 5 }, page := [(crlPage, { snapAt := some 4 })] }
       s.stepDue 2 = true ∧ s.rb crlPage Reg.snapCtl 0 = true ∧ (s.pg crlPage).snapAt ≠ some s.clk.wale) := by
  refine ⟨⟨?_, ?_, ?_, ?_, ?_⟩, ?_, ?_, ?_, ⟨?_, ?_, ?_, ?_, ?_⟩, ⟨?_, ?_, ?_, ?_, ?_⟩, ?_, ?_, ?_, ?_, ?_⟩ <;> decide

theorem witness_PageControl :
    up.Opens .pf crlPage Reg.pageCtrl ∧ up.enabled crlPage = false ∧ pageType crlPage ≠ 16 ∧ up.fenced crlPage = false ∧
      up.armed crlPage = false ∧ up.Opens .pf mxfPage Reg.pageCtrl ∧ onWale mxfPage = true ∧ up.genState ≠ 2 ∧
      (let s : State := { up with reg := [(rkey crlPage Reg.pageCtrl, 3)], page := [(crlPage, { initing := true, rstBusy := true })] }
       s.Opens .pf crlPage Reg.pageCtrl ∧ s.enabled crlPage = true ∧ s.fenced crlPage = true ∧
         s.rb crlPage Reg.pageCtrl 8 = false ∧ pageExec crlPage = none ∧ (s.pg crlPage).initing = true ∧
         needsDram crlPage = false ∧ crlPage ≠ drcPage ∧ (s.pg crlPage).rstBusy = true) := by
  refine ⟨⟨?_, ?_, ?_, ?_, ?_⟩, ?_, ?_, ?_, ?_, ⟨?_, ?_, ?_, ?_, ?_⟩, ?_, ?_, ⟨?_, ?_, ?_, ?_, ?_⟩, ?_⟩ <;> decide

/-- A device whose generator runs, in wale 5, with page 0x030 ARMED for wale 5 and group 3 selected. -/
def atFive : State :=
  { up with
    clk := { phase := 1, wale := 5 },
    reg := [(rkey 0 Reg.sysCgrpSel, 3), (rkey tmuPage Reg.tmuWaleCtl, 0x21), (rkey iclPage Reg.pageCtrl, 1),
            (rkey iclPage Reg.cmtWale, 5), (rkey iclPage Reg.cmtStatus, 1)],
    cgrp := [(3, { count := 0, target := 6, state := 1 }), (4, { target := 5, due := 5, state := 2 })] }

theorem witness_Commits :
    up.Opens .pf tmuPage Reg.cmtCtl ∧ up.layActive = false ∧ (pageCaps tmuPage).cmt = true ∧ up.armed tmuPage = false ∧
      (let s : State := { up with reg := [(rkey tmuPage Reg.cmtWale, 9)] }
       1 ≤ s.ahead (s.rd tmuPage Reg.cmtWale).toNat ∧ s.ahead (s.rd tmuPage Reg.cmtWale).toNat < 2 ^ 31 ∧
         s.rwsReserved tmuPage = false ∧ (s.blockInvalid tmuPage 9).isNone = true) ∧
      atFive.Opens .pf iclPage Reg.cmtCtl ∧ atFive.armed iclPage = true ∧ atFive.rf iclPage Reg.cmtCtl 20 16 = 0 ∧
      atFive.stepDue 4 = true ∧ (atFive.rd iclPage Reg.cmtWale).toNat = atFive.wale ∧ atFive.enabled iclPage = true ∧
      atFive.fenced iclPage = false ∧ (atFive.pg iclPage).doomed = false ∧ atFive.Opens .pf 0 Reg.sysCgrpCtl ∧
      atFive.rf 0 Reg.sysCgrpSel 4 0 = 3 ∧ (atFive.group 3).state = 1 ∧
      (atFive.group 3).target = (atFive.wale + 1) % 2 ^ 32 ∧ (atFive.members 3).length = (atFive.group 3).count ∧
      (atFive.group 4).state = 2 ∧ (atFive.group 4).due = atFive.wale ∧
      (let s : State := { up with reg := [(rkey 0 Reg.sysCgrpSel, 3)], cgrp := [(3, { count := 2, target := 2 })] }
       s.Opens .pf 0 Reg.sysCgrpCtl ∧ (s.group 3).count ≠ 0 ∧ 2 ≤ s.ahead (s.group 3).target) := by
  refine ⟨⟨?_, ?_, ?_, ?_, ?_⟩, ?_, ?_, ?_, ?_, ⟨?_, ?_, ?_, ?_, ?_⟩, ?_, ?_, ?_, ?_, ?_, ?_, ?_, ⟨?_, ?_, ?_, ?_, ?_⟩, ?_, ?_, ?_, ?_, ?_,
    ?_, ⟨?_, ?_, ?_, ?_, ?_⟩, ?_, ?_⟩ <;> decide

theorem witness_TableWindow :
    up.Opens .pf mxfPage Reg.tblAddr ∧ (pageCaps mxfPage).tbl = true ∧ (tableOf mxfPage 3).isSome = true ∧
      (let s : State := { up with reg := [(rkey mxfPage Reg.tblAddr, 0x18000FFF)],
                                  page := [(mxfPage, { winOk := true, winPtr := 3, winWords := [0, 0, 0, 0] })] }
       s.Opens .pf mxfPage Reg.tblData ∧ (s.pg mxfPage).winOk = true ∧
         (s.pg mxfPage).winPtr < (s.pg mxfPage).winWords.length ∧ s.rf mxfPage Reg.tblAddr 31 27 = 3 ∧
         s.rf mxfPage Reg.tblAddr 24 0 = 4095 ∧ ((tableOf mxfPage 3).any fun d => d.kind = .shadow && d.words = 4) = true ∧
         s.armed mxfPage = false) ∧
      (let s : State := { up with reg := [(rkey mxfPage Reg.tblAddr, 0x18000FFF)],
                                  page := [(mxfPage, { winOk := true, winPtr := 2, winWords := [0, 0, 0, 0] })] }
       s.Opens .pf mxfPage Reg.tblData ∧ (s.pg mxfPage).winPtr + 1 < 4) ∧
      (let s : State := { atFive with deferred := [⟨4, .pf, iclPage, 1, 65535, [0x7FFFF]⟩] }
       s.stepDue 4 = true ∧ (4 : Nat) ≠ s.clk.wale) ∧
      up.Opens .pf 0 Reg.tblData := by
  refine ⟨⟨?_, ?_, ?_, ?_, ?_⟩, ?_, ?_, ⟨⟨?_, ?_, ?_, ?_, ?_⟩, ?_⟩, ⟨⟨?_, ?_, ?_, ?_, ?_⟩, ?_⟩, ?_, ⟨?_, ?_, ?_, ?_, ?_⟩⟩ <;> decide

theorem witness_WaleGenerator :
    up.Opens .pf tmuPage Reg.tmuGridPhase ∧ up.genState = 0 ∧ fld (2499999 : Word) 21 0 < 2500000 ∧
      atFive.Opens .pf tmuPage Reg.tmuGridPhase ∧ atFive.genState ≠ 0 ∧ up.Opens .pf tmuPage Reg.tmuWaleCtl ∧
      up.rb tmuPage Reg.tmuWaleCtl 0 = false ∧
      1000000000 ≤ ({ up with clk := { loc := 1000000000 * unitsPerNs } } : State).now ∧ up.enabledPages = [] ∧
      atFive.Opens .pf tmuPage Reg.tmuWaleCtl ∧ iclPage ∈ atFive.enabledPages ∧ onWale iclPage = true ∧
      (let s : State := { atFive with clk := { wale := 5, first := false, fine := 15000000 - 1000 - 1 } }
       s.nextWale = some 6 ∧ s.clk.first = false ∧ s.prgState = 0 ∧ s.standby = false ∧ s.prg.swapAt = none ∧
         s.enabled lfwPage = false ∧ s.genState = 2 ∧ ¬ s.clk.fine < s.boundary s.clk.wale ∧
         s.clk.fine + 1000 < s.boundary s.clk.wale + 2500000) ∧
      atFive.clk.fine < atFive.boundary atFive.clk.wale := by
  refine ⟨⟨?_, ?_, ?_, ?_, ?_⟩, ?_, ?_, ⟨?_, ?_, ?_, ?_, ?_⟩, ?_, ⟨?_, ?_, ?_, ?_, ?_⟩, ?_, ?_, ?_, ⟨?_, ?_, ?_, ?_, ?_⟩, ?_, ?_, ?_,
    ?_⟩ <;> decide

theorem witness_ClockControl :
    up.Opens .qz tmuPage Reg.tmuAdjCtl ∧ up.genState = 0 ∧ up.rf tmuPage Reg.tmuSetNs 29 0 < 1000000000 ∧
      atFive.Opens .qz tmuPage Reg.tmuAdjCtl ∧ atFive.genState ≠ 0 ∧
      (let s : State := { up with reg := [(rkey tmuPage Reg.tmuStep, 0x80000000)] }
       s.Opens .qz tmuPage Reg.tmuAdjCtl ∧
         s.rf tmuPage Reg.tmuJumpThr 16 0 < (s.rd tmuPage Reg.tmuStep).toInt.natAbs) ∧
      up.rf tmuPage Reg.tmuJumpThr 16 0 ≠ 0 ∧ (up.rd tmuPage Reg.tmuStep).toInt.natAbs ≤ up.rf tmuPage Reg.tmuJumpThr 16 0 ∧
      atFive.nextWale = some 6 ∧ up.Opens .qz tmuPage Reg.tmuFreq ∧
      up.Opens .pf tmuPage Reg.tmuFreq ∧ up.Opens .qz tmuPage Reg.tmuServo ∧
      (let s : State := { up with reg := [(rkey tmuPage Reg.tmuStatus, 1), (rkey tmuPage Reg.tmuServo, 0x00020001)],
                                  tmu := { servoCount := 2 } }
       s.rf tmuPage Reg.tmuStatus 1 0 = 1 ∧ s.rf tmuPage Reg.tmuServo 31 16 ≤ s.tmu.servoCount) := by
  refine ⟨⟨?_, ?_, ?_, ?_, ?_⟩, ?_, ?_, ⟨?_, ?_, ?_, ?_, ?_⟩, ?_, ⟨⟨?_, ?_, ?_, ?_, ?_⟩, ?_⟩, ?_, ?_, ?_, ⟨?_, ?_, ?_, ?_, ?_⟩,
    ⟨?_, ?_, ?_, ?_, ?_⟩, ⟨?_, ?_, ?_, ?_, ?_⟩, ?_⟩ <;> decide

/-- A device whose TMU takes PTP from lane group 0 into Coil queue 5, with one received frame: a Sync message. -/
def ptpIn : State :=
  { up with
    reg := [(rkey tmuPage Reg.tmuPtpRxq, 0x40005), (rkey tmuPage Reg.tmuCtl, 1), (rkey tmuPage Reg.tmuSyncin, 2),
            (rkey tmuPage Reg.tmuStatus, 0x18)],
    tbl := [(tkey tmuPage 0 0 0, [0, 1]), (tkey colPage 0 0 5, [0, 0, 0x1484C]),
            (tkey colPage 1 0 0, [5 + 552 * 4096 + 0x400000, 100, 100])],
    tmu := { rx := [⟨0, 7, 0, false, false, false, [0x00, 0x02, 0x00, 0x22] ++ List.replicate 30 0⟩],
             txts := [(0, [⟨3, 9, false⟩])] } }

theorem witness_PtpAndSyncin :
    (ptpIn.tmu.rx.all fun f => ptpIn.ptpCause f = 0) = true ∧
      (ptpIn.tmu.rx.all fun f =>
        ((ptpIn.setTmu fun t => { t with rx := [] }).colSend tmuPort (ptpIn.rf tmuPage Reg.tmuPtpRxq 11 0)
          (ptpIn.ptpPacket f)).2) = true ∧
      (ptpIn.tmu.rx.all fun f => ({ ptpIn with reg := [] } : State).ptpCause f = 1) = true ∧
      ptpIn.Opens .pf tmuPage Reg.tmuTxtsPop ∧
      ptpIn.txtsQ (ptpIn.rf tmuPage Reg.tmuTxtsSel 4 0) = [⟨3, 9, false⟩] ∧ up.Opens .qz tmuPage Reg.tblData ∧
      ({ up with reg := [(rkey tmuPage Reg.tmuSyncin, 1)] } : State).rf tmuPage Reg.tmuSyncin 1 0 = 1 ∧
      ptpIn.rf tmuPage Reg.tmuSyncin 1 0 = 2 ∧ ptpIn.inWale (ptpIn.now + 5) = true ∧
      ptpIn.rb tmuPage Reg.tmuStatus 3 = true ∧
      ({ ptpIn with clk := { loc := 2000000000 * unitsPerNs }, tmu := { lastEdge := some 0 } } : State).syncinLost 0 = true ∧
      ptpIn.rb tmuPage Reg.tmuStatus 4 = true ∧
      ptpIn.inWale ((ptpIn.now + 999999999) / 1000000000 * 1000000000) = true ∧
      ({ ptpIn with tmu := { ppsOut := true } } : State).tmu.ppsOut = true ∧
      ptpIn.inWale (ptpIn.tmu.ppsRise + 100000000) = true := by
  refine ⟨?_, ?_, ?_, ⟨?_, ?_, ?_, ?_, ?_⟩, ?_, ⟨?_, ?_, ?_, ?_, ?_⟩, ?_, ?_, ?_, ?_, ?_, ?_, ?_, ?_, ?_⟩ <;> decide

/-- A descriptor of a KIND 2 task with `dep` dependences; it names no successor. -/
def decTask (dep : Nat) : List Word := [BitVec.ofNat 32 (dep * 256), 0, 0, 0, 0, 9, 0x2000, 0, 0]

/-- A device in step 6 of wale 5 with task 1 waiting for one decrement, task 2 on delay list 0, task 3 ready, task 4 in the
slot of decoder 1 and task 6 running on decoder 0. -/
def busy : State :=
  { atFive with
    clk := { phase := 1, wale := 5, first := false },
    reg := [(rkey tmuPage Reg.tmuWaleCtl, 0x21), (rkey rvePage Reg.pageCtrl, 1), (rkey 0x310 Reg.pageReady, 1),
            (rkey 0x311 Reg.pageReady, 1)],
    act := [(rkey rvePage Reg.rveCfg, 1)],
    tbl := [(tkey rvePage 0 0 528, [0x1FF]), (tkey rvePage 0 0 529, [0x1FF])],
    rve := { tasks := [(1, { st := 1, dep := 1, desc := decTask 1 }),
                       (2, { st := 2, desc := setWord (decTask 0) 0 0x40 }),
                       (3, { st := 3, desc := decTask 0 }), (4, { st := 4, desc := decTask 0, exec := 529 }),
                       (6, { st := 5, desc := decTask 0, exec := 528 })],
             slot := [(529, some 4)], run := [(528, some 6)] } }

theorem witness_TaskFlow :
    busy.PortOpen 0 ∧
      busy.submitStatus (decTask 0) = 0 ∧ up.submitStatus (decTask 2) = 0 ∧ busy.submitStatus [] ≠ 0 ∧
      (let s : State := { up with reg := [(rkey rvePage (Reg.rveSubmitDesc + 20), 9), (rkey rvePage (Reg.rveSubmitDesc + 24), 0x2000)] }
       s.Opens .pf rvePage Reg.rveSubmitGo ∧ s.rve.going = [] ∧ (s.pg rvePage).rstBusy = false ∧ s.submitStatus s.regDesc = 0) ∧
      (let s : State := { up with page := [(rvePage, { rstBusy := true })], rve := { going := [576] } }
       s.Opens .pf rvePage Reg.rveSubmitGo ∧ (s.pg rvePage).rstBusy = true ∧ 576 ∈ s.rve.going ∧
         s.rb rvePage Reg.errInfo 31 = false) ∧
      busy.Opens .pf rvePage Reg.rveDecr ∧ busy.alive 1 = true ∧ (busy.task 1).dep ≠ 0 ∧
      (busy.dlistFirst 0).map (·.1) = some 2 ∧
      busy.keyReached (busy.task 2).desc (busy.boundary busy.wale64) = true ∧ busy.stepDue 6 = true ∧
      busy.enabled rvePage = true ∧ busy.raf rvePage Reg.rveCfg 0 0 = 1 ∧
      busy.firstPlaced ((List.range 8).flatMap fun c => busy.readyList c) = some (3, 528) ∧
      busy.slotOf 529 = some 4 ∧ busy.execIdle 529 = true ∧ busy.mayDispatch 529 = true := by
  refine ⟨⟨?_, ?_⟩, ?_, ?_, ?_, ⟨⟨?_, ?_, ?_, ?_, ?_⟩, ?_, ?_, ?_⟩, ⟨⟨?_, ?_, ?_, ?_, ?_⟩, ?_, ?_, ?_⟩,
    ⟨?_, ?_, ?_, ?_, ?_⟩, ?_, ?_, ?_, ?_, ?_, ?_, ?_, ?_, ?_, ?_, ?_⟩ <;> decide

/-- Tasks that end: 6 runs on core 0, which has ended; 7 runs on decoder 0; 8 keeps its record for Coil queue 5. -/
def ending : State :=
  { busy with
    rve := { tasks := [(1, { st := 1, dep := 1, desc := decTask 1 }),
                       (6, { st := 5, desc := setWord (decTask 0) 6 0, exec := 0 }),
                       (7, { st := 5, desc := [0x100080, 5, 0, 0, 0, 9, 0x2210, 1, 0], exec := 528 }),
                       (8, { st := 6, desc := [0x800000, 0, 0, 0x50000], record := some (0, 1, 2, 3) })],
             run := [(0, some 6), (512, some 9), (528, some 7)] },
    cores := [(0, { ph := 2 })],
    vce := { enc := [(0, { pic := some { stream := 0, f := 0, launch := 0, key := true, p := 0, src := .grey, mute := false,
                                         done := [{}] } })] } }

theorem witness_TaskEnds :
    ending.runOf 0 = some 6 ∧ (ending.task 6).st = 5 ∧ (ending.task 6).exec = 0 ∧ ending.pastDeadline 6 = false ∧
      (let s : State := { ending with rve := { ending.rve with tasks := [(6, { st := 5, desc := [0x80, 4, 0, 0, 0, 9, 0] , exec := 0 })] } }
       s.runOf 0 = some 6 ∧ s.pastDeadline 6 = true) ∧ ending.encFits 0 9 = false ∧
      (let s : State := { ending with
         clk := { tru := 10 ^ 9 },
         rve := { ending.rve with tasks := [(9, { st := 5, desc := [0, 0, 0, 0, 0, 0xFFFFFFFF], exec := 512 })] } }
       s.runOf 512 = some 9 ∧ s.encReady 0 9 = true ∧ s.encFits 0 9 = true ∧ s.pastDeadline 9 = false) ∧ (ending.core 0).ph = 2 ∧ (ending.core 0).chansIdle 15 = true ∧
      (ending.core 0).fabIdle = true ∧
      ({ ending with clk := { tru := 10 ^ 9 } } : State).encReady 0 9 = true ∧ ending.runOf 512 = some 9 ∧
      ending.runOf 528 = some 7 ∧ (ending.task 7).st = 5 ∧ (ending.task 7).exec = 528 ∧
      dBudget (ending.task 7).desc ≤ ({ ending with clk := { tru := 10 ^ 9 } } : State).vceCycles 7 ∧
      (let s : State := { ending with cores := [(0, { ph := 1, budget := some 9, cyc := 5 })] }
       (s.task 6).st = 5 ∧ s.wdsFree 0 = true ∧ s.inBudget 0 = false) ∧
      ending.stepDue 3 = true ∧ ending.following = false ∧ ending.alive 7 = true ∧
      dHasDeadline (ending.task 7).desc = true ∧ waleLe (dDeadline (ending.task 7).desc) ending.wale = true ∧
      ending.Opens .pf rvePage Reg.rveAbort ∧ ending.alive 2 = false ∧ (ending.task 1).st = 1 ∧
      dOwner (ending.task 1).desc = 0 ∧ (ending.task 8).st = 6 ∧ (ending.task 8).record.isSome = true ∧
      ending.qOn (dCompq (ending.task 8).desc) = false ∧
      (let s : State := { ending with tbl := [(tkey colPage 0 0 5, [0, 0, 0x4C])] }
       s.qOn (dCompq (s.task 8).desc) = true ∧ s.qCredit rvePort 5 16 = false) ∧
      (let s : State := { ending with tbl := [(tkey colPage 0 0 5, [0, 0, 0x4C]),
                                              (tkey colPage 1 0 0, [5 + 566 * 4096 + 0x400000, 100, 100])] }
       s.qOn (dCompq (s.task 8).desc) = true ∧ s.qCredit rvePort (dCompq (s.task 8).desc) 16 = true) ∧
      dSucc (ending.task 7).desc = [1] ∧ ending.alive 1 = true ∧ (ending.task 1).dep ≠ 0 := by
  refine ⟨?_, ?_, ?_, ?_, ⟨?_, ?_⟩, ?_, ⟨?_, ?_, ?_, ?_⟩, ?_, ?_, ?_, ?_, ?_, ?_, ?_, ?_, ?_, ?_, ?_, ?_, ?_, ?_, ?_, ⟨?_, ?_, ?_, ?_, ?_⟩, ?_, ?_, ?_, ?_, ?_, ?_, ?_, ?_, ?_, ?_,
    ?_⟩ <;> decide

/-- A device with DRAM trained, image 2 unverified, image 3 verified, and image 3 on its way into core 1. -/
def images : State :=
  { up with
    reg := [(rkey 0x080 Reg.pageReady, 1)],
    tbl := [(tkey rvePage 1 0 2, [0, 0, 8, 1]), (tkey rvePage 1 0 3, [0, 0, 8, 2])],
    cores := [(1, { loading := some 3 })] }

theorem witness_ServiceImages :
    images.Opens .qz rvePage Reg.tblData ∧ images.imageResident 7 = false ∧ images.imageNamed 7 = false ∧
      images.drcReady = true ∧ images.Opens .pf rvePage Reg.tblData ∧ images.standby = false ∧
      images.tf rvePage 1 0 2 3 1 0 = 1 ∧
      (let s : State := { images with reg := [(rkey 0x080 Reg.drcCap, 0x1000)] }
       ((s.dramWords (s.imageAddr 2) (s.imageLen 2 / 4)).all fun w => !testOnly w) = true ∧
         s.poisonedAt (s.imageAddr 3) (s.imageLen 3) = false) ∧
      ((List.range 64).any fun i => testOnly (BitVec.ofNat 32 (i * 2 ^ 26))) = true ∧
      images.Opens .pf (wdsPage 0) Reg.wdsLoad ∧ (images.core 0).loading = none ∧ images.loadRefused 0 3 = 0 ∧
      images.loadRefused 0 2 ≠ 0 ∧ (images.core 1).loading = some 3 ∧
      images.poisonedAt (images.imageAddr 3) (images.imageLen 3) = true ∧
      (let s : State := { images with reg := [(rkey 0x080 Reg.drcCap, 0x10000)] }
       s.poisonedAt (s.imageAddr 3 + constOfs) constLen = false) := by
  refine ⟨⟨?_, ?_, ?_, ?_, ?_⟩, ?_, ?_, ?_, ⟨?_, ?_, ?_, ?_, ?_⟩, ?_, ?_, ?_, ?_, ⟨?_, ?_, ?_, ?_, ?_⟩, ?_, ?_, ?_, ?_, ?_,
    ?_⟩ <;> decide +kernel

/-- A device with pool 3 of the packet buffer ON, pool 4 in INIT, and one buffer of pool 3 that owner 17 holds. -/
def pools : State :=
  { up with
    tbl := [(tkey crlPage 0 0 3, [0, 0, 4, 0x148, 0, 0, 3]), (tkey crlPage 0 0 4, [0, 0, 4, 0xC8, 0, 0, 0])],
    crl := { own := [(3 * 2 ^ 26, [17])] } }

theorem witness_CreelBuffers :
    pools.PortOpen 0 ∧
      up.Opens .pf crlPage Reg.tblData ∧ up.paired = false ∧
      (let s : State := { up with reg := [(rkey prgPage Reg.prgStatus, 4)] }
       s.Opens .pf crlPage Reg.tblData ∧ s.paired = true) ∧ up.poolState 3 = 0 ∧
      fld ((poolMask [0, 0, 4, 0x48, 0x1000, 0, 0]).getD 3 0) 6 6 = 1 ∧
      up.poolOk 3 (poolMask [0, 0, 4, 0x48, 0x1000, 0, 0]) = true ∧ pools.poolState 4 = 1 ∧ pools.poolState 3 = 2 ∧
      pools.lowestFree 3 = some 1 ∧ pools.metaPoison (3 * 2 ^ 26 + 1) = none ∧ pools.portOwner 0 = 17 ∧
      pools.Opens .pf crlPage Reg.crlReq ∧ pools.Opens .pf crlPage Reg.crlReqHandle ∧ pools.Opens .pf crlPage Reg.crlReqGo ∧
      pools.crlCheck 2 17 (3 * 2 ^ 26) 18 = 0 ∧ pools.crlCheck 4 17 (3 * 2 ^ 26) 0 = 0 ∧
      ({ pools with crl := { own := [(3 * 2 ^ 26, [17, 18])] } } : State).crlCheck 3 17 (3 * 2 ^ 26) 0 = 0 ∧
      pools.crlCheck 4 18 (3 * 2 ^ 26) 0 ≠ 0 := by
  refine ⟨⟨?_, ?_⟩, ⟨?_, ?_, ?_, ?_, ?_⟩, ?_, ⟨⟨?_, ?_, ?_, ?_, ?_⟩, ?_⟩, ?_, ?_, ?_, ?_, ?_, ?_, ?_, ?_, ⟨?_, ?_, ?_, ?_, ?_⟩, ⟨?_, ?_, ?_, ?_, ?_⟩,
    ⟨?_, ?_, ?_, ?_, ?_⟩, ?_, ?_, ?_, ?_⟩ <;> decide +kernel

theorem witness_ReclaimByOwner :
    up.Opens .pf crlPage Reg.crlReclaim ∧ up.crl.reclaim = none ∧ up.Opens .pf colPage Reg.colReclaim ∧
      up.col.reclaim = none ∧ up.firstUnfenced 250 = none ∧ (up.firstUnfenced 17).isSome = true ∧
      ({ up with crl := { reclaim := some 3 } } : State).crl.reclaim = some 3 ∧
      ({ up with col := { reclaim := some 3 } } : State).col.reclaim = some 3 := by
  refine ⟨⟨?_, ?_, ?_, ?_, ?_⟩, ?_, ⟨?_, ?_, ?_, ?_, ?_⟩, ?_, ?_, ?_, ?_, ?_⟩ <;> decide +kernel

/-- A device with Coil queue 5 of 4 KB in SRAM: core 0 is its consumer and holds its one grant, number 0, of 100 units. -/
def coil : State :=
  { up with tbl := [(tkey colPage 0 0 5, [0, 0, 0x4C]), (tkey colPage 1 0 0, [0x400005, 100, 100])] }

/-- The same queue with a packet reserved, and with the packet committed. -/
def coilHeld : State := coil.colReserve 0 5 8
def coilFull : State := coilHeld.colCommit 0 5 0 8 false

theorem witness_CoilQueues :
    coil.PortOpen 0 ∧ coilHeld.PortOpen 0 ∧ coilFull.PortOpen 0 ∧
      up.Opens .pf colPage Reg.tblData ∧ up.paired = false ∧ fld ((queueMask [0, 0, 0x4C]).getD 2 0) 6 6 = 1 ∧
      queueOk (queueMask [0, 0, 0x4C]) = true ∧ up.tf colPage 0 0 5 2 6 6 = 0 ∧
      (let s : State := { up with tbl := [(tkey colPage 0 0 5, [0, 0, 0x4C])] }
       s.allotSum 5 0 + fld (100 : Word) 21 0 ≤ 2 ^ (s.tf colPage 0 0 5 2 4 0 - 4) ∧ s.grantOf 5 0 = none) ∧
      coil.qOn 5 = true ∧ coil.grantOf 5 0 = some 0 ∧ (8 + 8 + 15) / 16 ≤ coil.grantAvail 0 ∧ coil.grantOf 5 1 = none ∧
      (let s : State := { up with tbl := [(tkey colPage 0 0 5, [0, 0, 0x4C]),
                                          (tkey colPage 1 0 0, [5 + 576 * 4096 + 0x400000, 100, 100])] }
       s.Opens .pf colPage Reg.colOp ∧ s.Opens .pf colPage Reg.colOpArg ∧ s.Opens .pf colPage Reg.colOpLen ∧
         s.Opens .pf colPage Reg.colOpGo ∧ s.qOn 5 = true ∧ s.grantOf 5 576 = some 0 ∧
         (8 + 8 + 15) / 16 ≤ s.grantAvail 0) ∧
      ((coilHeld.cq 5).resv.find? fun x => decide (x.ofs = 0 ∧ x.port = 0)) = some ⟨0, 1, 0, 0, 17⟩ ∧
      coilFull.qConsumer 5 = 0 ∧ (coilFull.cq 5).rd ≠ (coilFull.cq 5).wr ∧ coilFull.hdrBad 5 (coilFull.cq 5).rd = false ∧
      (coilFull.qHdr 5 (coilFull.cq 5).rd).done = true ∧ (coilFull.qHdr 5 (coilFull.cq 5).rd).skip = false ∧
      (coil.cq 5).rd = (coil.cq 5).wr ∧
      (coil.relWalk 5 (coil.cq 5).rd (qFuel (coil.cq 5).rel (coil.cq 5).rd) (coil.cq 5).rel []).1 = some [] ∧
      ((coil.colMark 0 5).cq 5).bset = true ∧ ((coil.colMark 0 5).cq 5).stale = false ∧ (coil.cq 5).bset = false := by
  refine ⟨⟨?_, ?_⟩, ⟨?_, ?_⟩, ⟨?_, ?_⟩, ⟨?_, ?_, ?_, ?_, ?_⟩, ?_, ?_, ?_, ?_, ?_, ?_, ?_, ?_, ?_, ⟨⟨?_, ?_, ?_, ?_, ?_⟩, ⟨?_, ?_, ?_, ?_, ?_⟩,
    ⟨?_, ?_, ?_, ?_, ?_⟩, ⟨?_, ?_, ?_, ?_, ?_⟩, ?_⟩, ?_, ?_, ?_, ?_, ?_, ?_, ?_, ?_, ?_, ?_, ?_⟩ <;> decide +kernel

/-- An RTP frame over IPv4 with UDP checksum 0, 60 bytes long, SSRC 7. -/
def rtpFrame : List Byte :=
  List.replicate 12 0 ++ [0x08, 0x00, 0x45, 0, 0, 46, 0, 0, 0, 0, 64, 17, 0x7A, 0xBD, 0, 0, 0, 1, 0, 0, 0, 2, 0x10, 0, 0x20, 0, 0, 26, 0, 0] ++
    [0x80, 96, 0, 1, 0, 0, 0, 0, 0, 0, 0, 7] ++ List.replicate 6 0

/-- The same as ICL's walk leaves it, and its packet. -/
def rtpL2 : L2 := { ty := 0x0800, ofs := 12, frame := rtpFrame }
def rtpL3 : L3 := ⟨false, 14, 34, 26⟩

/-- The words of a leg's entry for that frame. -/
def rtpLegWords : List Word :=
  let k := legKey rtpFrame 0 rtpL3
  ((List.range 10).map fun i => BitVec.ofNat 32 (leNat (slice k (4 * i) 4))) ++ [0x10003]

/-- A device with port 0 of ETH and the media blocks ready, pool 3 for its frames, leg 3 for the frame above, stream 9 for its
SSRC, the stream's context in the cache and request queue 2 for it. -/
def ingress : State :=
  { up with
    reg := [(rkey 0x010 Reg.pageReady, 1), (rkey 0x010 Reg.ethLink, 1), (rkey iclPage Reg.pageReady, 1),
            (rkey cpePage Reg.pageReady, 1), (rkey lfwPage Reg.pageReady, 1)],
    act := [(rkey 0x010 Reg.ethPortCfg, 0x2000000D)],
    tbl := [(tkey iclPage 0 0 9, [1, 0, 0, 0, 0, 0, 0, 0, 0, 0x800000]), (tkey iclPage 1 0 3, [0x20000]),
            (tkey iclPage 2 0 (legSet (legKey rtpFrame 0 rtpL3) * 8), rtpLegWords), (tkey cpePage 0 0 2, [5]),
            (tkey crlPage 0 0 3, [0, 0, 4, 0x14B, 0, 0, 4])],
    icl := { rx := [⟨0, 0, rtpFrame, 64, 5⟩], cached := [9],
             skt := [((sktBuckets 3 7).1 * 4, some (3, 7, 9))] } }

theorem witness_ReceiveSide :
    ingress.laneValid 0 = true ∧ ingress.rb (ethPage 0) Reg.ethLink 0 = true ∧ ingress.ready (ethPage 0) = true ∧
      ((ingress.fecCount 0 1).frameCount 0 (rtpFrame.length + 4) true |>.crlAlloc iclPort
        (ingress.raf (ethPage 0) Reg.ethPortCfg 7 2)).2 = some (3 * 2 ^ 26) ∧
      ((ingress.fecCount 0 1).crlAlloc iclPort (ingress.raf (ethPage 0) Reg.ethPortCfg 7 2)).2 = some (3 * 2 ^ 26) ∧
      60 ≤ rtpFrame.length ∧ rtpFrame.length + 4 ≤ ingress.raf (ethPage 0) Reg.ethPortCfg 29 16 ∧
      fb16 rtpFrame 12 ≠ 0x8808 ∧ up.ready (ethPage 0) = false ∧
      l2Walk 5 { frame := List.replicate 12 0 ++ [0x81, 0, 0, 1, 0x81, 0, 0, 1, 0x81, 0, 0, 1] } = none ∧
      parseL3 { ty := 0x88F7, frame := [] } = .tmu 14 false false ∧ l2Walk 5 { frame := rtpFrame } = some rtpL2 ∧
      parseL3 rtpL2 = .ok (rtpL3, 60) ∧ ingress.mediaReady = true ∧
      (match parseRtp rtpFrame {} 42 60 with | .ok (_, _, ssrc) => ssrc == 7 | _ => false) = true ∧
      ingress.findLeg (legKey rtpFrame 0 rtpL3) = some 3 ∧ ingress.tf iclPage 1 0 3 0 17 16 = 2 ∧
      ingress.sktScid 3 7 = some 9 ∧ ingress.icl.cached.contains 9 = true ∧ ingress.icl.bad.contains 9 = false ∧
      ingress.ctxIn 9 = true ∧ ingress.standby = false ∧ ingress.ctx 9 2 16 16 = 0 ∧
      ingress.rqIs (ingress.ctx 9 9 29 22) 1 = true ∧ (ingress.cpeQ (ingress.ctx 9 9 29 22)).length < 1024 ∧
      ingress.mem.poison.contains (ingress.ctxLine 9) = false ∧
      (let s : State := { ingress with mem := { poison := [9] }, icl := { miss := [⟨{ scid := 9 }, [], 0, [], 7, 64, 5, 0⟩] } }
       s.mem.poison.contains (s.ctxLine 9) = true ∧ ∃ p ∈ s.icl.miss, p.parse.scid = 9) := by
  refine ⟨?_, ?_, ?_, ?_, ?_, ?_, ?_, ?_, ?_, ?_, ?_, ?_, ?_, ?_, ?_, ?_, ?_, ?_, ?_, ?_, ?_, ?_, ?_, ?_, ?_, ?_, ?_⟩ <;> decide +kernel

theorem witness_StreamTables :
    up.Opens .pf iclPage Reg.tblData ∧ up.Opens .pf polPage Reg.tblData ∧ up.Opens .pf cpePage Reg.tblData ∧
      up.paired = false ∧
      (let ws : List Word := [1, 2, 3, 4, 5, 6, 7, 8, 9, 10, 0x10003]
       bit (ws.getD 10 0) 16 = true ∧ bit (ws.getD 10 0) 17 = false ∧
         legSet (wordBytes ((List.range 10).map fun i => ws.getD i 0)) < 16384) ∧
      up.tf iclPage 2 0 7 10 16 16 = 0 ∧
      (let s : State := { up with reg := [(rkey prgPage Reg.prgStatus, 4)] }
       s.Opens .pf iclPage Reg.tblData ∧ s.paired = true) ∧
      bit (up.ctxW 9 0) 0 = false ∧ ctxOk (ctxMask [0x30001, 7]) = true ∧ up.sktScid 3 7 = none ∧
      (up.sktBucket 3 7).isSome = true ∧ bit (ingress.ctxW 9 0) 0 = true ∧ (1 : Word) ≠ ingress.ctxW 9 1 ∧
      ingress.Opens .pf iclPage Reg.tblData ∧ up.tf polPage 0 0 5 0 0 0 = 0 ∧ up.cpeQ 3 = [] := by
  refine ⟨⟨?_, ?_, ?_, ?_, ?_⟩, ⟨?_, ?_, ?_, ?_, ?_⟩, ⟨?_, ?_, ?_, ?_, ?_⟩, ?_, ?_, ?_, ⟨⟨?_, ?_, ?_, ?_, ?_⟩, ?_⟩, ?_, ?_, ?_, ?_, ?_, ?_,
    ⟨?_, ?_, ?_, ?_, ?_⟩, ?_, ?_⟩ <;> decide +kernel

/-- The packet of `rtpFrame` on stream 9. -/
def rtpPkt : Pkt := ⟨{ scid := 9, kind := 0, udp := 34, pay := 54, seq := 1 }, rtpFrame, 60, [], 7, 64, 5, 0⟩

/-- The ingress device with that packet in request queue 2, the queue enabled, and DRAM there. -/
def cpeIn : State :=
  { ingress with cpe := { q := [(2, [.inb rtpPkt])], kwk := some [] } }.tset cpePage 0 0 2 [0x105, 1]

/-- The same with a profile and an empty key slot that is cached. -/
def cpeNoKey : State := { cpeIn.setCtx 9 10 3 0 1 with cpe := { cpeIn.cpe with cached := [0] } }

/-- A pair's standby at step 4 of wale 5 whose boundary entry has come. -/
def standbyAt : State :=
  { atFive with
    reg := [(rkey tmuPage Reg.tmuWaleCtl, 0x21), (rkey prgPage Reg.prgStatus, 0x14)], prg := { reached := some 5 } }

theorem witness_KeysAndInbound :
    cpeIn.cpe.q = [(2, [.inb rtpPkt])] ∧ (cpeNoKey.reqSlots (.inb rtpPkt)).contains 0 = true ∧
      cpeIn.cpe.cached.contains 0 = false ∧ cpeIn.cpe.cached.length < 65536 ∧ (cpeIn.kslot 0).bad = 0 ∧
      cpeIn.mem.poison = [] ∧ cpeNoKey.cpe.cached.contains 0 = true ∧ cpeIn.Opens .pf cpePage Reg.cpeKeyGo ∧
      cpeIn.keyStatus = 0 ∧ cpeIn.paired = false ∧
      (let s : State := { up with reg := [(rkey cpePage Reg.pageReady, 1), (rkey prgPage Reg.prgStatus, 4)] }
       s.Opens .pf cpePage Reg.cpeKeyGo ∧ s.keyStatus = 0 ∧ s.paired = true) ∧
      up.Opens .pf cpePage Reg.cpeKeyGo ∧ up.keyStatus ≠ 0 ∧ atFive.stepDue 4 = true ∧
      (atFive.paired && atFive.standby) = false ∧ standbyAt.stepDue 4 = true ∧
      (standbyAt.paired && standbyAt.standby) = true ∧ itemFields [8, 0, 0, 0, 0, 0, 0, 3] = (8, 0, 3, 0) ∧
      ({ up with reg := [(rkey cpePage Reg.pageCtrl, 1)] } : State).enabled cpePage = true ∧
      (cpeIn.cpePick.map (·.2)) = some 2 ∧ (cpeIn.cpeQ 2).head? = some (.inb rtpPkt) ∧ cpeIn.mediaReady = true ∧
      cpeIn.keyCheck 9 (cpeIn.ctx 9 10 3 0) (cpeIn.ctx 9 9 21 0) = none ∧ cpeIn.ctx 9 10 3 0 = 0 ∧
      rtpPkt.hdrLen + profTag 0 false ≤ rtpPkt.payload.length ∧
      trial rtpPkt 0 (cpeIn.kslot 0) (cpeIn.crypto 9) = .ok 1 rtpPkt.payload ∧ (cpeIn.crypto 9).rtpSeen = false ∧
      cpeIn.ctx 9 6 16 16 = 0 ∧ cpeIn.ctx 9 4 4 0 = 0 ∧ (cpeNoKey.cpePick.map (·.2)) = some 2 ∧
      cpeNoKey.mediaReady = true ∧ cpeNoKey.mem.poison.contains (cpeNoKey.stateLine 9) = false ∧
      cpeNoKey.ctx 9 10 3 0 ≠ 0 ∧ (cpeNoKey.kslot (cpeNoKey.ctx 9 9 21 0)).valid = false := by
  refine ⟨?_, ?_, ?_, ?_, ?_, ?_, ?_, ⟨?_, ?_, ?_, ?_, ?_⟩, ?_, ?_, ⟨⟨?_, ?_, ?_, ?_, ?_⟩, ?_⟩, ⟨?_, ?_, ?_, ?_, ?_⟩, ?_, ?_, ?_, ?_, ?_, ?_, ?_,
    ?_, ?_, ?_, ?_, ?_, ?_, ?_, ?_, ?_, ?_, ?_, ?_, ?_, ?_, ?_⟩ <;> decide +kernel

/-- A CPE with a CLEAR outbound packet of stream 9 in queue 2, and the same with a source that is gone. -/
def cpeSend : State :=
  { ingress with
    cpe := { q := [(2, [.out { copy := some { out := 9, body := some (List.replicate 20 0) } }])], kwk := some [] } }.tset cpePage 0 0 2
    [0x106, 1]

def cpeGone : State :=
  { ingress with cpe := { q := [(2, [.out { copy := some { out := 9, src := 9, hist := true } }])], kwk := some [] } }.tset cpePage 0 0 2
    [0x106, 1]

/-- A bulk descriptor: AES counter mode under slot 1 over 16 bytes of the first buffer of pool 3. -/
def bulkDesc : List Word := [0x106, 0xC000000, 0xC000000, 16, 0, 5]

/-- A CPE with that request of core 0 in bulk queue 2. -/
def cpeBulk : State :=
  { pools with
    reg := [(rkey cpePage Reg.pageReady, 1)],
    tbl := [(tkey cpePage 0 0 2, [0x107, 1]), (tkey crlPage 0 0 3, [0, 0, 4, 0x148, 0, 0, 3])],
    cpe := { q := [(2, [.bulk 0 bulkDesc])], cached := [1],
             slots := [(1, { alg := 1, valid := true, use := 2, key := List.replicate 16 0 })] } }

theorem witness_OutboundAndBulk :
    cpeBulk.PortOpen 0 ∧
      cpeSend.cpePick.map (·.2) = some 2 ∧ cpeSend.ready cpePage = true ∧
      cpeSend.keyCheck 9 (cpeSend.ctx 9 10 3 0) (cpeSend.ctx 9 9 21 0) = none ∧ (cpeSend.crypto 9).rtpSt ≠ 2 ∧
      cpeSend.nextIdx 9 false = some 0 ∧ cpeSend.ctx 9 10 3 0 = 0 ∧ cpeGone.cpePick.map (·.2) = some 2 ∧
      cpeGone.copySource { out := 9, src := 9, hist := true } = none ∧ cpeBulk.rqIs 2 3 = true ∧
      cpeBulk.ready cpePage = true ∧ bulkOk bulkDesc = true ∧ bulkOk [] = false ∧ (cpeBulk.cpeQ 2).length < 1024 ∧
      (let s : State := { cpeBulk with reg := [(rkey cpePage Reg.pageReady, 1), (rkey cpePage (Reg.cpeBulkDesc + 12), 16)] }
       s.Opens .pf cpePage Reg.cpeBulkGo ∧ s.rqIs 2 3 = true ∧ s.ready cpePage = true ∧
         bulkOk ((List.range 16).map fun i => s.rd cpePage (Reg.cpeBulkDesc + 4 * i)) = true) ∧
      cpeBulk.cpePick.map (·.2) = some 2 ∧ (cpeBulk.cpeQ 2).head? = some (.bulk 0 bulkDesc) ∧
      (cpeBulk.kslot 1).spent = false ∧ (cpeBulk.kslot 1).use = 2 ∧
      cpeBulk.bulkOwns 0 (bulkDesc.getD 1 0).toNat (bulkF bulkDesc 4 15 0 + bulkF bulkDesc 3 20 0) = true ∧
      cpeBulk.bufPoisoned (bulkDesc.getD 1 0).toNat 0 16 = false ∧ cpeBulk.qOn 5 = false ∧
      (let s : State := { cpeBulk with
        tbl := [(tkey cpePage 0 0 2, [0x107, 1]), (tkey crlPage 0 0 3, [0, 0, 4, 0x148, 0, 0, 3]),
                (tkey colPage 0 0 5, [0, 0, 0x4C]), (tkey colPage 1 0 0, [5 + 555 * 4096 + 0x400000, 100, 100])],
        cpe := { cpeBulk.cpe with done := [(2, some ⟨5, []⟩)] } }
       s.cpePick.map (·.2) = some 2 ∧ s.qOn 5 = true ∧ s.qCredit 555 5 32 = true) := by
  refine ⟨⟨?_, ?_⟩, ?_, ?_, ?_, ?_, ?_, ?_, ?_, ?_, ?_, ?_, ?_, ?_, ?_, ⟨⟨?_, ?_, ?_, ?_, ?_⟩, ?_⟩, ?_, ?_, ?_, ?_, ?_, ?_, ?_, ?_⟩ <;> decide +kernel

/-- A forwarding device: source 9 is audio with forwarded source number 0, subscription 0 of leg 3 wants it on context 20. -/
def forward : State :=
  { ingress with
    clk := { phase := 1, wale := 5 },
    reg := [(rkey tmuPage Reg.tmuWaleCtl, 0x21), (rkey iclPage Reg.pageReady, 1), (rkey cpePage Reg.pageReady, 1),
            (rkey lfwPage Reg.pageCtrl, 1), (rkey lfwPage Reg.pageReady, 1)],
    act := [(rkey lfwPage Reg.lfwCfg, 1)],
    tbl := [(tkey iclPage 0 0 9, [0x30001, 0, 0, 0, 0, 0, 0, 0, 0, 0, 0, 0, 0x0C0000, 20]),
            (tkey iclPage 0 0 20, [0x30003, 7]), (tkey lfwPage 0 0 0, [0x90000003, 0x02000014, 9]),
            (tkey lfwPage 1 0 0, [0x00]), (tkey lfwPage 2 0 3, [0, 1]), (tkey lfwPage 3 0 0, [0, 1]),
            (tkey lfwPage 4 0 0, [0])],
    lfw := { rx := [⟨rtpPkt, 42, rtpPkt.payload, 1, 5, false⟩], out := [{}], needIntra := [9], donePrev := [2] } }

theorem witness_LayerForwarder :
    forward.lfw.joinsPrev = [] ∧ forward.lfw.namedPrev = [] ∧ forward.mediaReady = true ∧ forward.heldBack .lfw = false ∧ forward.following = false ∧
      (forward.setCtx 9 0 3 2 2).ctx 9 0 3 2 = 2 ∧ forward.ctx 9 0 3 2 < 2 ∧ forward.ctx 9 12 23 23 = 0 ∧
      forward.ctx 9 12 18 18 = 1 ∧ bit (forward.ra lfwPage Reg.lfwCfg) 0 = true ∧ forward.fanList (forward.fsn 9) = [0] ∧
      (forward.subRungsOf 0 9).head? = some 0 ∧ forward.subValid 0 = true ∧ forward.subOk 0 = true ∧
      forward.subF 0 0 28 28 = 1 ∧ (forward.tsetW lfwPage 1 0 0 0 0x10F).subWant 0 ≠ 15 ∧ forward.fanCount 5 = 0 ∧
      rtcpParts [0x81, 206, 0, 2, 0, 0, 0, 0, 0, 0, 0, 7] 12 0 = [[0x81, 206, 0, 2, 0, 0, 0, 0, 0, 0, 0, 7]] ∧
      forward.feedbackOut (forward.ctx 9 0 31 16) 7 = some (20, some 0) ∧ up.mediaReady = false ∧
      forward.ctx 9 12 19 19 = 1 ∧ forward.ctxOut (forward.ctx 9 13 24 0) = true ∧
      forward.lfw.asked.contains (forward.fsn 9) = false ∧ up.Opens .pf lfwPage Reg.lfwEstDone ∧
      forward.stepDue 4 = true ∧ forward.lfw.latchedAt ≠ some forward.wale ∧ forward.enabled lfwPage = true ∧
      forward.genState = 2 ∧ forward.lfw.wantFor ≠ some ((forward.wale + 1) % 2 ^ 32) := by
  refine ⟨?_, ?_, ?_, ?_, ?_, ?_, ?_, ?_, ?_, ?_, ?_, ?_, ?_, ?_, ?_, ?_, ?_, ?_, ?_, ?_, ?_, ?_, ?_, ⟨?_, ?_, ?_, ?_, ?_⟩, ?_, ?_, ?_, ?_, ?_⟩ <;>
    decide +kernel

/-- The forwarding device with subscription 0 in JOIN since wale 4 and named, and packets of its own to send. -/
def joining : State :=
  { (forward.tsetW lfwPage 1 0 0 0 0x10F).tsetW lfwPage 1 0 0 1 4 with
    act := [(rkey lfwPage Reg.lfwCfg, 1), (rkey lfwPage Reg.lfwSwitchTmo, 1)],
    lfw := { namedPrev := [0], orig := [{ scid := 20 }], partials := [(20, 5, [1, 2])] } }

theorem witness_JoinsAndOriginals :
    joining.stepDue 4 = true ∧ joining.enabled lfwPage = true ∧ joining.subValid 0 = true ∧
      (joining.subState 0).2.2 = 1 ∧
      (joining.wale + 2 ^ 32 - (joining.tw lfwPage 1 0 0 1).toNat) % 2 ^ 32 ≠ 0 ∧
      (joining.wale + 2 ^ 32 - (joining.tw lfwPage 1 0 0 1).toNat) % 2 ^ 32 %
        joining.raf lfwPage Reg.lfwSwitchTmo 15 0 = 0 ∧
      joining.lfw.tmoDone.contains 0 = false ∧ joining.lfw.namedPrev.contains 0 = true ∧ joining.wantSrc 0 = some 9 ∧
      joining.subOk 0 = true ∧ fld (joining.srcW (joining.fsn 9) 2) 8 8 = 0 ∧
      (let s : State := { ((((joining.setCtx 9 4 4 0 4).tsetW lfwPage 6 0 0 1 4).tsetF lfwPage 6 0 0 2 8 8 1).setCtx 9 5 31 0 0) with
          act := [(rkey lfwPage Reg.lfwJoin, 0x00100010)],
          reg := (rkey 0x080 Reg.pageReady, 1) :: (rkey 0x080 Reg.drcCap, 0x10000) :: joining.reg,
          mem := { dram := [(6, 1), (17, 2)] } }
       s.wantSrc 0 = some 9 ∧ s.joinCause 9 = 0) ∧
      joining.ctxOut 20 = true ∧ joining.ready lfwPage = true ∧
      (let s : State := (joining.tset colPage 0 0 5 [0, 0, 0x1164C]).tset colPage 1 0 0 [0x400005, 100, 100]
       ((s.colSend 0 5 (leBytes 4 20 ++ List.replicate 28 0)).1.colTake lfwPort 5).2.any
         (fun b => s.ctxOut (origOf b).scid) = true) ∧
      up.ready lfwPage = false := by
  refine ⟨?_, ?_, ?_, ?_, ?_, ?_, ?_, ?_, ?_, ?_, ?_, ?_, ?_, ?_, ?_, ?_⟩ <;> decide +kernel

/-- A device in wale 5 whose MXF is ready and runs: input port 0 plays a ring into bus 0, output port 3 plays bus 0 into a
ring, input port 7 decodes context 9, output port 8 encodes, and trunk 2 joins bus 0. -/
def mixing : State :=
  { up with
    clk := { phase := 1, wale := 5, first := false },
    reg := [(rkey tmuPage Reg.tmuWaleCtl, 0x21), (rkey mxfPage Reg.pageReady, 1)],
    act := [(rkey mxfPage Reg.mxfCfg, 3), (rkey mxfPage Reg.mxfHwdec, 0x1005)],
    tbl := [(tkey mxfPage 0 0 0, [0x400001, 0x11000, 0, 3 * 2 ^ 26]),
            (tkey mxfPage 0 0 7, [0x01000006, 0x11000, 9, 3 * 2 ^ 26]),
            (tkey mxfPage 1 0 3, [0x400001, 0x1000, 0, 3 * 2 ^ 26]), (tkey mxfPage 1 0 8, [0x08400006, 0x1000, 0, 20]),
            (tkey mxfPage 2 0 0, [1]), (tkey mxfPage 3 0 2, [0xC000, 9, 20]),
            (tkey crlPage 0 0 3, [0, 0, 4, 0x151, 0, 0, 3]), (tkey colPage 0 0 5, [0, 0, 0x11ACC]),
            (tkey colPage 1 0 0, [0x400005, 100, 100])],
    crl := { own := [(3 * 2 ^ 26, [17])] },
    lfw := { toMxf := [(9, 6, [1, 1, 0, 0, 0, 0, 0, 0, 0, 0, 0, 5, 0, 0, 0, 2] ++ List.replicate 392 0)] },
    mxf := { out := some 4, ready := [(8, 5, [0, 256])] } }

/-- The same after its gather. -/
def mixed : State :=
  { mixing with mxf := { out := some 5, k := 119, gathered := [{ wale := 4 }],
                         play := [(0, some { wale := 4, n := 0, f1 := 0, f0 := 0, t := [], ranks := [] })] } }

/-- A G.711 packet of 20 bytes of context 9 that starts with wale 7, and the device with it waiting. -/
def hwPacket : List Byte := [9, 0, 0, 0, 0, 0, 0, 0, 5, 0, 0, 0, 140, 0, 0, 0, 20, 0] ++ List.replicate 34 0xFF
def hwWaiting : State :=
  let s := (mixing.colSend 0 5 hwPacket).1
  { s with mxf := { s.mxf with ins := [(7, { MxfIn.init with anchor := some 0 })] } }

theorem witness_MixFabric :
    mixing.stepDue 7 = true ∧ mixing.ready mxfPage = true ∧ mixing.mxf.out ≠ some mixing.clk.wale ∧
      mixing.heldBack .mxf = false ∧ mixing.mxfRun = true ∧ mixing.canonical ∧
      ({ mixing with act := [] } : State).mxfRun = false ∧
      ({ mixed with tbl := [(tkey mxfPage 1 0 3, [0x400001, 0x1000, 0, 3 * 2 ^ 26]), (tkey crlPage 0 0 3, [0, 0, 4, 0x151, 0, 0, 3])] } :
        State).tlist mxfPage 1 0 = [(3, [0x400001, 0x1000, 0, 3 * 2 ^ 26])] ∧
      mixed.genState = 2 ∧ mixed.mxf.out = some mixed.clk.wale ∧ mixed.ringUsable (3 * 2 ^ 26) = true ∧
      mixed.bufInDram (3 * 2 ^ 26) = false ∧ mixed.mxf.k = 119 ∧
      bit (hwWaiting.ra mxfPage Reg.mxfHwdec) 12 = true ∧ (hwWaiting.colTake mxfPort 5).2 = some hwPacket ∧
      (hwWaiting.colTake mxfPort 5).1.decodePort 9 = some (7, [0x01000006, 0x11000, 9, 3 * 2 ^ 26]) ∧
      ((hwWaiting.colTake mxfPort 5).1.mxIn 7).anchor = some 0 ∧ placeAt 20 140 1 5 = some 7 ∧
      (hwWaiting.colTake mxfPort 5).1.ringUsable (3 * 2 ^ 26) = true ∧ peKind (mixing.tget mxfPage 1 0 8) = 2 ∧
      peCodec (mixing.tget mxfPage 1 0 8) < 2 ∧ (mixing.trunks.find? fun e => mixing.tf mxfPage 3 0 e 1 24 0 = 9) = some 2 ∧
      waleLe 6 5 = false ∧ waleLe 6 6 = true ∧ (mixing.trunkTaken 2).contains 5 = false ∧ 1 ≤ mixing.trunkHops 2 ∧
      mixed.trunkOn 2 = true ∧ mixed.mxf.built.contains 2 = false ∧
      (mixed.mxf.gathered.any fun g => g.wale = mixed.clk.wale - 1 - mixed.trunkWait 2) = true := by
  refine ⟨?_, ?_, ?_, ?_, ?_, ⟨?_, ?_, ?_⟩, ?_, ?_, ?_, ?_, ?_, ?_, ?_, ?_, ?_, ?_, ?_, ?_, ?_, ?_, ?_, ?_, ?_, ?_, ?_, ?_, ?_, ?_, ?_⟩ <;>
    decide +kernel

/-- Core 3 runs a task of 100 words of code with one word, at PC 0, in place; D1 is −5 and D2 is 3, the accumulators are 5 and 7. -/
def atWord (w : Word) : State :=
  { up with cores := [(3, { ph := 1, imem := [(0, w)], codeLen := 100, d := [(1, 0xFFFFFFFB), (2, 3)],
                            acc := [(0, 5), (1, 7)], accP := [(0, 5), (1, 7)], a := [(1, 0x200), (2, 0x300)] })] }

/-- The words of R352 with D 4, S 1 and T 2, written out from R351. -/
theorem witness_WithyData :
    (atWord 0b000001_0000_0000_0000_00000000000000).wdsNext 3 .nop = true ∧ up.wdsNext 3 .nop = false ∧
      (atWord 0b000010_0100_0001_0000_00000000000000).wdsNext 3 (.mov 4 1) = true ∧
      (atWord 0b000011_0100_0000_111111111111111111).wdsNext 3 (.movi 4 0x3FFFF) = true ∧
      (atWord 0b000100_0100_0000_00_1111111111111111).wdsNext 3 (.movhi 4 0xFFFF) = true ∧
      (atWord 0b000101_0100_0001_0010_00000000000000).wdsNext 3 (.add 4 1 2) = true ∧
      (atWord 0b000110_0100_0001_0010_00000000000000).wdsNext 3 (.sub 4 1 2) = true ∧
      (atWord 0b000111_0100_0001_100000000000000000).wdsNext 3 (.addi 4 1 0x20000) = true ∧
      (atWord 0b001000_0100_0001_0010_00000000000000).wdsNext 3 (.and 4 1 2) = true ∧
      (atWord 0b001001_0100_0001_0010_00000000000000).wdsNext 3 (.or 4 1 2) = true ∧
      (atWord 0b001010_0100_0001_0010_00000000000000).wdsNext 3 (.xor 4 1 2) = true ∧
      (atWord 0b001011_0100_0001_0010_00000000000000).wdsNext 3 (.shl 4 1 2) = true ∧
      (atWord 0b001100_0100_0001_0010_00000000000000).wdsNext 3 (.shr 4 1 2) = true ∧
      (atWord 0b001101_0100_0001_0010_00000000000000).wdsNext 3 (.shrl 4 1 2) = true ∧
      (atWord 0b001110_0100_0001_000000000000011111).wdsNext 3 (.shri 4 1 31) = true ∧
      (atWord 0b001111_0100_0001_000000000000011111).wdsNext 3 (.shli 4 1 31) = true ∧
      (atWord 0b010000_0100_0001_0000_00000000000000).wdsNext 3 (.abs 4 1) = true ∧
      (atWord 0b010001_0100_0001_0010_00000000000000).wdsNext 3 (.max 4 1 2) = true ∧
      (atWord 0b010010_0100_0001_0010_00000000000000).wdsNext 3 (.min 4 1 2) = true ∧
      (atWord 0b101001_0100_0001_0000_00000000000000).wdsNext 3 (.geta 4 1) = true ∧
      (atWord 0b101100_0100_0000_0000_00000000000000).wdsNext 3 (.getm 4) = true := by
  refine ⟨?_, ?_, ?_, ?_, ?_, ?_, ?_, ?_, ?_, ?_, ?_, ?_, ?_, ?_, ?_, ?_, ?_, ?_, ?_, ?_, ?_⟩ <;> decide +kernel

/-- The words of R352 with D 4 or 5, S 1, T 2 and ACC 1, written out from R351; the high half of S with the low half of T. -/
theorem witness_WithyArithmetic :
    (atWord 0b010011_0000_0001_0010_00000000000000).wdsNext 3 (.cmp 1 2) = true ∧
      (atWord 0b010100_0000_0001_111111111111111011).wdsNext 3 (.cmpi 1 0x3FFFB) = true ∧
      (atWord 0b010101_0100_0010_0000_00000000000000).wdsNext 3 (.maxi 4 2) = true ∧
      (atWord 0b010110_0100_0001_0000_00000000000000).wdsNext 3 (.mini 4 1) = true ∧
      (atWord 0b010101_0101_0001_0000_00000000000000).wdsNext 3 (.maxi 5 1) = true ∧
      (atWord 0b010110_0101_0001_0000_00000000000000).wdsNext 3 (.mini 5 1) = true ∧
      (atWord 0b100000_1_000_0001_0010_1_0_000000000000).wdsNext 3 (.mpy 1 1 2 true false) = true ∧
      (atWord 0b100001_1_000_0001_0010_1_0_000000000000).wdsNext 3 (.mac 1 1 2 true false) = true ∧
      (atWord 0b100010_1_000_0001_0010_0_1_000000000000).wdsNext 3 (.msu 1 1 2 false true) = true ∧
      (atWord 0b100100_1_000_0000_0000_0_0_000000000000).wdsNext 3 (.clr 1) = true ∧
      (atWord 0b100111_1_000_0001_0000_0_0_000000000000).wdsNext 3 (.mova 1 1) = true ∧
      (atWord 0b100101_1_01_00010_0100_00000000000000).wdsNext 3 (.rda 4 1 2 1) = true ∧
      ((atWord 0).core 3).br2 ≠ .ret := by
  refine ⟨?_, ?_, ?_, ?_, ?_, ?_, ?_, ?_, ?_, ?_, ?_, ?_, ?_⟩ <;> decide +kernel

/-- The words of R352 with data register 2, AX1, post-modification and IMM 4, written out from R351. -/
theorem witness_WithyMemory :
    (atWord 0b011000_0010_001_1_000000000000000100).wdsNext 3 (.ldw 2 1 true 4) = true ∧
      ((atWord 0).core 3).wrap 1 0x200 = 0x200 ∧ memFault false .ldw 0x200 4 = 0 ∧
      ((atWord 0).core 3).mustWait .ldw 0x200 4 = false ∧
      (atWord 0b011000_0010_001_0_111111111010000100).wdsNext 3 (.ldw 2 1 false 0x3FE84) = true ∧
      ((atWord 0).core 3).wrap 1 (0x200 - 0x17C) = portFstat ∧ memFault false .ldw portFstat 4 = 0 ∧
      memFault false .ldw 0x18000 4 = 2 ∧ memFault false .ldw 0x202 4 = 6 ∧
      (let s := atWord 0b011000_0010_001_1_000000000000000100
       (s.setCore 3 fun c => c.setChan 0 fun x => { x with busy := true, loc := 0x200, lenw := 1 }).wdsNext 3
         (.ldw 2 1 true 4) = true ∧
       ((s.setCore 3 fun c => c.setChan 0 fun x => { x with busy := true, loc := 0x200, lenw := 1 }).core 3).mustWait .ldw
         0x200 4 = true) ∧
      (atWord 0b011001_0010_001_1_000000000000000100).wdsNext 3 (.ldh 2 1 true 4) = true ∧
      memFault false .ldh 0x200 2 = 0 ∧
      (atWord 0b011010_0010_001_1_000000000000000100).wdsNext 3 (.stw 2 1 true 4) = true ∧
      memFault false .stw 0x200 4 = 0 ∧ ((atWord 0).core 3).mustWait .stw 0x200 4 = false ∧
      (atWord 0b011010_0010_001_0_111111111010000000).wdsNext 3 (.stw 2 1 false 0x3FE80) = true ∧
      (atWord 0b011010_0010_001_0_111111111010010100).wdsNext 3 (.stw 2 1 false 0x3FE94) = true ∧
      memFault false .stw 0x12000 4 = 2 ∧
      (atWord 0b011011_0010_001_1_000000000000000100).wdsNext 3 (.sth 2 1 true 4) = true ∧
      (atWord 0b100110_1_00_00010_001_1_00000000000100).wdsNext 3 (.sta 1 1 true 4 2 0) = true ∧
      (atWord 0b100011_1_001_010_0000000000000000000).wdsNext 3 (.macm 1 1 2) = true ∧
      ((atWord 0).core 3).mustWait .macm 0x300 2 = false ∧
      (atWord 0b100011_1_001_001_0000000000000000000).wdsNext 3 (.macm 1 1 1) = true := by
  refine ⟨?_, ?_, ?_, ?_, ?_, ?_, ?_, ?_, ?_, ⟨?_, ?_⟩, ?_, ?_, ?_, ?_, ?_, ?_, ?_, ?_, ?_, ?_, ?_, ?_, ?_⟩ <;> decide +kernel

/-- The words of R352 with S 2, target 40 and a body of 4 instructions, written out from R351; D2 is 3. -/
theorem witness_WithyControl :
    (atWord 0b101000_1101_0010_0000_00000000000000).wdsNext 3 (.seta 13 2) = true ∧
      (atWord 0b101010_0001_0000_000000000000000100).wdsNext 3 (.aadd 1 4) = true ∧
      (atWord 0b101011_0000_0101_0000_00000000000000).wdsNext 3 (.setm 5) = true ∧
      cmodeOk (((atWord 0).core 3).dreg 5) = true ∧
      (atWord 0b101011_0000_0010_0000_00000000000000).wdsNext 3 (.setm 2) = true ∧
      cmodeOk (((atWord 0).core 3).dreg 2) = false ∧
      (atWord 0b110000_0010_0000_00000_0000000101000).wdsNext 3 (.b .ne 40) = true ∧
      (atWord 0b110001_0000_0000_00000_0000000101000).wdsNext 3 (.call 40) = true ∧
      (atWord 0b110010_0000_0010_00000_0000000000000).wdsNext 3 (.br 2) = true ∧
      ((atWord 0).core 3).nearEnd = false ∧ ((atWord 0).core 3).br2 ≠ .ret ∧ ((atWord 0).core 3).inSlot = false ∧
      (let s := fun w => (atWord w).setCore 3 fun c => { c with loops := [⟨0, 2, 2, 0⟩] }
       ((s 0).core 3).nearEnd = true ∧ (s 0b110000_0010_0000_00000_0000000101000).wdsNext 3 (.b .ne 40) = true ∧
         (s 0b110001_0000_0000_00000_0000000101000).wdsNext 3 (.call 40) = true ∧
         (s 0b110010_0000_0010_00000_0000000000000).wdsNext 3 (.br 2) = true ∧
         (s 0b110100_00000011_00_0000000000000101).wdsNext 3 (.repi 4 5) = true) ∧
      (atWord 0b110100_00000011_00_0000000000000101).wdsNext 3 (.repi 4 5) = true ∧
      (atWord 0b110100_00000011_00_0000000000000000).wdsNext 3 (.repi 4 0) = true ∧
      (atWord 0b110101_00000011_0010_00000000000000).wdsNext 3 (.repr 4 2) = true ∧
      (let s := fun w => (atWord w).setCore 3 fun c => { c with br1 := .untaken }
       ((s 0).core 3).inSlot = true ∧ (s 0b110100_00000011_00_0000000000000101).wdsNext 3 (.repi 4 5) = true ∧
         (s 0b110110_0000_0010_0000_00000000000000).wdsNext 3 (.exit 2) = true) ∧
      ((atWord 0b110100_00000011_00_0000000000000101).setCore 3
        fun c => { c with loops := [⟨0, 9, 2, 0⟩, ⟨0, 9, 2, 0⟩] }).wdsNext 3 (.repi 4 5) = true ∧
      ((atWord 0x04000000).setCore 3 fun c => { c with loops := [⟨0, 0, 2, 0⟩] }).wdsNext 3 .nop = true ∧
      (atWord 0b110110_0000_0010_0000_00000000000000).wdsNext 3 (.exit 2) = true ∧
      ((atWord 0).core 3).chansIdle 15 = true ∧ ((atWord 0).core 3).fabIdle = true ∧ (atWord 0).wdsTest 3 = false ∧
      (let s := fun w => (atWord w).setCore 3 fun c => c.setChan 0 fun x => { x with busy := true }
       ((s 0).core 3).chansIdle 15 = false ∧ ((s 0).core 3).chansIdle 1 = false ∧
         (s 0b110110_0000_0010_0000_00000000000000).wdsNext 3 (.exit 2) = true ∧
         (s 0b110111_0000_0000_000000000000000001).wdsNext 3 (.waitd 1) = true) ∧
      (atWord 0b110111_0000_0000_000000000000000001).wdsNext 3 (.waitd 1) = true ∧
      (atWord 0b111000_00000000000000000000000000).wdsNext 3 .waitf = true ∧
      (let s := (atWord 0b111000_00000000000000000000000000).setCore 3 fun c => { c with fbusy := true }
       (s.core 3).fabIdle = false ∧ s.wdsNext 3 .waitf = true) ∧
      (atWord 0b111001_00000000000000000000000000).wdsNext 3 .ei = true ∧
      (atWord 0b111010_00000000000000000000000000).wdsNext 3 .di = true := by
  refine ⟨?_, ?_, ?_, ?_, ?_, ?_, ?_, ?_, ?_, ?_, ?_, ?_, ⟨?_, ?_, ?_, ?_, ?_⟩, ?_, ?_, ?_, ⟨?_, ?_, ?_⟩, ?_, ?_, ?_, ?_, ?_, ?_,
    ⟨?_, ?_, ?_, ?_⟩, ?_, ?_, ⟨?_, ?_⟩, ?_, ?_⟩ <;> decide +kernel

/-- The same core in Test mode, with DMA and host interrupts enabled, and HOST pending. -/
def testing (w : Word) : State :=
  let s : State := { atWord w with reg := [(rkey (wdsPage 3) Reg.wdsMode, 1)] }
  s.setCore 3 fun c => { c with ie := true, pend := 4, dmem := [(portIrq + 1, 5), (portIvec, 0x40)] }

/-- The same with interrupts disabled. -/
def quietTest (w : Word) : State := (testing w).setCore 3 fun c => { c with ie := false }

/-- The words of R352 with D 4, S 1 and ACC 1, written out from R351. -/
theorem witness_WithyTestMode :
    (quietTest 0b111100_1_000_0000_0100_0_0_000000000000).wdsNext 3 (.norm 4 1) = true ∧
      (testing 0).wdsTest 3 = true ∧ ((testing 0).core 3).br2 ≠ .ret ∧ ((testing 0).core 3).loops = [] ∧
      (quietTest 0b111101_0100_0001_0000_00000000000000).wdsNext 3 (.expt 4 1) = true ∧
      (quietTest 0b111011_00000000000000000000000000).wdsNext 3 .reti = true ∧ ((testing 0).core 3).nearEnd = false ∧
      ((quietTest 0x04000000).setCore 3 fun c => { c with br2 := .ret }).wdsNext 3 .nop = true ∧
      (atWord 0b111100_1_000_0000_0100_0_0_000000000000).wdsNext 3 (.norm 4 1) = true ∧
      (atWord 0b111101_0100_0001_0000_00000000000000).wdsNext 3 (.expt 4 1) = true ∧
      (atWord 0b111011_00000000000000000000000000).wdsNext 3 .reti = true ∧ (atWord 0).wdsTest 3 = false ∧
      (testing 0).wdsFree 3 = true ∧ ((testing 0).core 3).ie = true ∧
      ((testing 0).core 3).pend &&& ((testing 0).core 3).mreadX (portIrq + 1) 1 ≠ 0 ∧
      ((testing 0).core 3).inSlot = false ∧ ((testing 0).core 3).atRep = false ∧ (testing 0).inBudget 3 = true ∧ (testing 0).irqDue 3 = true ∧
      (atWord 0).irqDue 3 = false ∧
      ((atWord 0).setCore 3 fun c => { c with pc := 100 }).fetchFault 3 = true ∧ (atWord 0).fetchFault 3 = false ∧
      withyDecode ((atWord 0).wdsWord 3) = none ∧ withyDecode 0xFFFFFFFF = none := by
  refine ⟨?_, ?_, ?_, ?_, ?_, ?_, ?_, ?_, ?_, ?_, ?_, ?_, ?_, ?_, ?_, ?_, ?_, ?_, ?_, ?_, ?_, ?_, ?_, ?_⟩ <;> decide +kernel

/-- Core 3 with channel 0 about to start, channel 1 moving a buffer's bytes in, channel 2 moving bytes out into it; its
requests are ALLOC from pool 3. -/
def moving : State :=
  let x : Dma := { Dma.init with busy := true, ref := 3 * 2 ^ 26, loc := 0x200, lenw := 2 }
  { pools with
    reg := [(rkey lfwPage Reg.pageReady, 1)],
    tbl := pools.tbl,
    crl := { own := [(3 * 2 ^ 26, [17])] },
    cores := [(3, { ph := 1, codeLen := 100, fctl := some (3, 0),
                    dmem := [(0x40, 0x31), (0xCD, 1), (0xCE, 4), (0x200, 7)],
                    dma := [(0, { Dma.init with go := some 9 }), (1, x), (2, { x with out := true })] })] }

theorem witness_WithyTransfers :
    ((moving.core 3).chan 0).go = some 9 ∧ ((moving.core 3).chan 0).busy = false ∧
      (moving.core 3).mreadX (portDma 0) 1 % 4 < 2 ∧ (moving.core 3).mreadX (portDma 0 + 12) 4 = 0x100 + 2 * 2 ^ 17 ∧
      (let s := moving.setCore 3 fun c => c.setChan 1 fun x => { x with go := some 9 }
       ((s.core 3).chan 1).go = some 9 ∧ ((s.core 3).chan 1).busy = true) ∧
      moving.fenced (wdsPage 3) = false ∧ moving.dmaStatus 3 ((moving.core 3).chan 1) = 0 ∧
      ((moving.core 3).chan 1).out = false ∧ moving.dmaStatus 3 ((moving.core 3).chan 2) = 0 ∧
      ((moving.core 3).chan 2).out = true ∧ moving.bufInDram (3 * 2 ^ 26) = false ∧
      ({ moving with crl := {} } : State).dmaStatus 3 ((moving.core 3).chan 1) = 1 ∧
      (let s := moving.setCore 3 fun c => { c with dma := [] }
       (s.core 3).outDone = true ∧ (s.core 3).fbusy = false ∧ s.following = false ∧ fld ((s.core 3).freq 0) 3 0 = 1 ∧
         fld ((s.core 3).freq 0) 9 4 = 3 ∧ s.poolState 3 = 2 ∧ s.lowestFree 3 = some 1 ∧
         s.metaPoison (3 * 2 ^ 26 + 1) = none) ∧
      moving.ready lfwPage = true ∧ bit ((moving.core 3).freq 0) 31 = false ∧ (moving.core 3).outDone = false ∧
      (let s := moving.setCore 3 fun c => { c with fbusy := true, fres := [0, 5] }
       (s.core 3).fbusy = true ∧ (s.core 3).fdrop = false ∧ (s.core 3).fres.getD 1 0 = 5) := by
  refine ⟨?_, ?_, ?_, ?_, ⟨?_, ?_⟩, ?_, ?_, ?_, ?_, ?_, ?_, ?_, ⟨?_, ?_, ?_, ?_, ?_, ?_, ?_, ?_⟩, ?_, ?_, ?_, ⟨?_, ?_, ?_⟩⟩ <;>
    decide +kernel

theorem witness_WithyTestAccess :
    up.Opens .pf (wdsPage 3) Reg.wdsMode ∧ up.wdsTest 3 = false ∧ up.execIdle 3 = true ∧ (up.core 3).ph = 0 ∧
      up.execEn 3 = false ∧ up.rb (wdsPage 3) Reg.errInfo 31 = false ∧
      (let s : State := { up with reg := [(rkey (wdsPage 3) Reg.wdsMode, 1)] }
       s.Opens .pf (wdsPage 3) Reg.wdsMode ∧ s.Opens .pf (wdsPage 3) tblDataOff ∧ s.Opens .pf (wdsPage 3) Reg.wdsTest ∧
         s.wdsTest 3 = true ∧ s.execIdle 3 = true ∧ (s.core 3).ph = 0 ∧ (s.core 3).moving = false ∧ s.execEn 3 = false) ∧
      (testing 0).Opens .pf (wdsPage 3) Reg.wdsTest ∧ (testing 0).Opens .pf (wdsPage 3) Reg.wdsMode ∧
      ((testing 0).core 3).ph ≠ 0 ∧ up.Opens .pf (wdsPage 3) Reg.wdsTest ∧ up.Opens .pf (wdsPage 3) tblDataOff := by
  refine ⟨⟨?_, ?_, ?_, ?_, ?_⟩, ?_, ?_, ?_, ?_, ?_, ⟨⟨?_, ?_, ?_, ?_, ?_⟩, ⟨?_, ?_, ?_, ?_, ?_⟩, ⟨?_, ?_, ?_, ?_, ?_⟩, ?_, ?_, ?_, ?_, ?_⟩,
    ⟨?_, ?_, ?_, ?_, ?_⟩, ⟨?_, ?_, ?_, ?_, ?_⟩, ?_, ⟨?_, ?_, ?_, ?_, ?_⟩, ⟨?_, ?_, ?_, ?_, ?_⟩⟩ <;> decide +kernel

/-- A picture of frame 0 of stream 5. -/
def framePic : EncPic :=
  { stream := 5, f := 0, launch := 0, key := false, p := 0, src := .grey, mute := false,
    ent := [3, 64 + 64 * 2 ^ 16, 1000000, 0, 0, 0x40331E1E, 0, 2, 20, 5, 1200] }

/-- A device in step 7 of wale 6, whose encoder 2 runs with stream 5 at 60 pictures a second, 64 × 64, into Coil queue 5;
class 0 of the dispatcher has room. Its picture of frame 0 waits for its one unit. -/
def encoding : State :=
  { up with
    clk := { phase := 1, wale := 20, first := false },
    reg := [(rkey tmuPage Reg.tmuWaleCtl, 0x21), (rkey rvePage Reg.pageCtrl, 1), (rkey (encPage 2) Reg.pageReady, 1)],
    act := [(rkey rvePage Reg.rveCfg, 1), (rkey rvePage Reg.rveClassCap, 100), (rkey (encPage 2) Reg.vceEncCfg, 1)],
    tbl := [(tkey rvePage 0 0 514, [0x1FF]), (tkey colPage 0 0 5, [0, 0, 0x4C]),
            (tkey colPage 1 0 0, [5 + 514 * 4096 + 0x400000, 100, 100]),
            (tkey (encPage 2) 0 0 5, [1, 64 + 64 * 2 ^ 16, 1000000, 0, 0, 0x40331E1E, 0, 2, 20, 5])],
    vce := { enc := [(2, { Encoder.init with pic := some framePic })] } }

/-- Its one unit: an intra CTU, in a packet with an HEVC slice of a picture at T0. -/
def oneUnit : CodedUnit := ⟨10, [⟨100, 50, 40, true⟩], [], [([], [0x02, 0x01, 0xAA])], [], []⟩

theorem witness_VideoEncoders :
    encoding.stepDue 7 = true ∧ encoding.ready (encPage 2) = true ∧ encoding.raf (encPage 2) Reg.vceEncCfg 0 0 = 1 ∧
      (encoding.encoder 2).launched ≠ some encoding.wale64 ∧ encoding.following = false ∧
      encoding.heldBack (.enc 2 5) = false ∧ eEn (encoding.encEnt 2 5) = true ∧
      frameAt (eFps (encoding.encEnt 2 5)) encoding.wale64 = some 3 ∧ (encoding.encStream 2 5).skip = false ∧
      encoding.submitStatus (encDesc (encoding.encEnt 2 5) 2 5 3 false) = 0 ∧
      ({ encoding with act := [(rkey rvePage Reg.rveClassCap, 0)] } : State).submitStatus
        (encDesc (encoding.encEnt 2 5) 2 5 3 false) ≠ 0 ∧
      ((encoding.setEncStream 2 5 fun x => { x with skip := true }).encStream 2 5).skip = true ∧
      (∀ k, k < 64 → k ≠ 5 → eEn (encoding.encEnt 2 k) = false) ∧ eSrcKind (encoding.encEnt 2 5) = 2 ∧
      ((encoding.encoder 2).pic.bind fun p => encoding.unitNext 2 p oneUnit).isSome = true ∧
      ((encoding.encoder 2).pic.bind fun p => encoding.unitNext 2 { p with mute := true } oneUnit).isSome = true ∧
      encoding.qOn 5 = true ∧ encoding.qCredit (encPort 2) 5 (32 + 0 + 3) = true ∧
      encoding.Opens .pf (encPage 2) Reg.vceEncRefresh ∧ eTile (encoding.encEnt 2 5) = false ∧
      eEn (encoding.encEnt 2 6) = false ∧ eScid (encoding.encEnt 2 5) = 20 := by
  refine ⟨?_, ?_, ?_, ?_, ?_, ?_, ?_, ?_, ?_, ?_, ?_, ?_, ?_, ?_, ?_, ?_, ?_, ?_, ⟨?_, ?_, ?_, ?_, ?_⟩, ?_, ?_, ?_⟩ <;> decide +kernel

/-- A device whose decoder 1 runs, with AVC stream 4 fed from Coil queue 5 and pool 3 for its bitstream; a unit waits, and
in `decodingNow` it is being decoded. -/
def decoding : State :=
  { up with
    clk := { phase := 1, wale := 20, first := false, tru := 100000 },
    reg := [(rkey tmuPage Reg.tmuWaleCtl, 0x21), (rkey rvePage Reg.pageCtrl, 1), (rkey (decPage 1) Reg.pageReady, 1)],
    act := [(rkey rvePage Reg.rveCfg, 1), (rkey (decPage 1) Reg.vceDecCfg, 1)],
    tbl := [(tkey rvePage 0 0 529, [0x1FF]), (tkey crlPage 0 0 3, [0, 0, 4, 0x148, 0, 0, 3]),
            (tkey colPage 0 0 5, [0, 0, 0x4C + 529 * 128]), (tkey colPage 1 0 0, [0x400005, 100, 100]),
            (tkey (decPage 1) 0 0 4, [0x8000D, 20, 5 + 3 * 4096, 64 + 64 * 2 ^ 16])],
    vce := { dec := [(1, { Decoder.init with
      streams := [(4, { DecStream.init with st := 1, hold := [⟨0, 100, 19, 9, false, false, 0⟩] })] })] } }

/-- The same with an AVC packet of queue 5 waiting: timestamp 9 and body 0x41 0x01, marked as the last of its unit or not. -/
def decPkt (mark : Nat) : List Byte :=
  [20, 0, 0, 0, 7, 0, 0, 0, 18, 0, 0, 0, 9, 0, 0, 0, 2, 0, BitVec.ofNat 8 mark, 0] ++ List.replicate 12 0 ++ [0x41, 1]
def decWaiting (mark : Nat) (asm : Option Assembly) : State :=
  (decoding.colSend 0 5 (decPkt mark)).1.setDec 1 4 fun x => { x with asm := asm }

def decodingNow : State :=
  { decoding with
    rve := { tasks := [(2, { st := 5, exec := 529, start := 0, desc := decDesc (decoding.decEnt 1 4) 1 4 ⟨0, 100, 19, 9, false, false, 1⟩ })],
             run := [(529, some 2)] },
    vce := { dec := [(1, { Decoder.init with
      streams := [(4, { DecStream.init with st := 1, flight := some ⟨0, 100, 19, 9, false, false, 1⟩ })] })] } }

theorem witness_VideoDecoders :
    decoding.ready (decPage 1) = true ∧ dEn (decoding.decEnt 1 4) = true ∧ decoding.raf (decPage 1) Reg.vceDecCfg 0 0 = 1 ∧
      ((decWaiting 0 none).colTake (decPort 1) 5).2 = some (decPkt 0) ∧
      (((decWaiting 0 none).colTake (decPort 1) 5).1.decStream 1 4).asm = none ∧
      pktFields (decPkt 0) = (7, 18, 9, false, [0x41, 1]) ∧ pktFields (decPkt 1) = (7, 18, 9, true, [0x41, 1]) ∧
      (let s := ((decWaiting 1 (some ⟨9, [(6, false, [0x41, 2], 18)]⟩)).colTake (decPort 1) 5)
       s.2 = some (decPkt 1) ∧ (s.1.decStream 1 4).asm = some ⟨9, [(6, false, [0x41, 2], 18)]⟩ ∧
         (s.1.decStream 1 4).st = 1 ∧ s.1.following = false ∧ s.1.poolState 3 = 2 ∧ 4 ≤ s.1.bufSize (3 * 2 ^ 26) ∧
         (s.1.crlAlloc (decPort 1) 3).2 = some (3 * 2 ^ 26) ∧ s.1.bufInDram (3 * 2 ^ 26) = false) ∧
      depay 2 [[0x41, 2], [0x41, 1]] = some [[0x41, 2], [0x41, 1]] ∧ dCodec (decoding.decEnt 1 4) = 2 ∧
      dBsPool (decoding.decEnt 1 4) = 3 ∧
      ({ decoding with act := [] } : State).raf (decPage 1) Reg.vceDecCfg 0 0 = 0 ∧
      decoding.submitStatus (decDesc (decoding.decEnt 1 4) 1 4 ⟨0, 100, 19, 9, false, false, 1⟩) = 0 ∧
      ({ decoding with act := [(rkey rvePage Reg.rveClassCap, 0)] } : State).submitStatus
        (decDesc (decoding.decEnt 1 4) 1 4 ⟨0, 100, 19, 9, false, false, 1⟩) ≠ 0 ∧
      decodingNow.runOf (decPort 1) = some 2 ∧ (dArg (decodingNow.task 2).desc 0).toNat % 256 = 4 ∧
      (decodingNow.decStream 1 4).flight = some ⟨0, 100, 19, 9, false, false, 1⟩ ∧ decCycles 1 100 * 5 ≤ decodingNow.clk.tru * 6 ∧
      decodingNow.bufPoisoned 0 0 100 = false ∧ (decodingNow.decStream 1 4).freeSlot (dNslot (decodingNow.decEnt 1 4)) = some 0 ∧
      (64 ≤ dMaxW (decodingNow.decEnt 1 4) ∧ 64 ≤ dMaxH (decodingNow.decEnt 1 4)) ∧
      (⟨0, 100, 19, 9, false, false, 1⟩ : DecUnit).fits (.pic ⟨64, 64, [], [9], true, [], []⟩) = true ∧
      decoding.Opens .pf (decPage 1) Reg.vceDecRestart := by
  refine ⟨?_, ?_, ?_, ?_, ?_, ?_, ?_, ⟨?_, ?_, ?_, ?_, ?_, ?_, ?_, ?_⟩, ?_, ?_, ?_, ?_, ?_, ?_, ?_, ?_, ?_, ?_, ?_, ?_, ⟨?_, ?_⟩, ?_,
    ⟨?_, ?_, ?_, ?_, ?_⟩⟩ <;> decide +kernel

theorem witness_VideoDecoders_assembly :
    (⟨9, [(6, false, [0x41, 2], 18), (7, true, [0x41, 1], 18)]⟩ : Assembly).whole = true ∧
      (⟨9, [(5, false, [0x41, 2], 18), (7, true, [0x41, 1], 18)]⟩ : Assembly).whole = false ∧
      (⟨9, [(6, false, [0x41, 2], 18), (7, true, [0x41, 1], 18)]⟩ : Assembly).payloads = [[0x41, 2], [0x41, 1]] := by
  refine ⟨?_, ?_, ?_⟩ <;>
    simp [Assembly.whole, Assembly.payloads, List.mergeSort, List.MergeSort.Internal.splitInTwo]

/-- A device in step 7 of wale 20 whose Weave runs: the stream with tag 133 (encoder 2, stream 5) is tile-ready, its picture of
frame 3 and of the frame cut now are in progress; template 4 is enabled and receiver 6 of splicer 0 uses it. -/
def weaving : State :=
  { up with
    clk := { phase := 1, wale := 20, first := false },
    reg := [(rkey tmuPage Reg.tmuWaleCtl, 0x21), (rkey 0x330 Reg.pageReady, 1)],
    act := [(rkey 0x330 Reg.wveCfg, 0xF), (rkey 0x330 Reg.wveInQbase, 0x1005)],
    tbl := [(tkey colPage 0 0 5, [0, 0, 0x4C + 567 * 128]), (tkey colPage 1 0 0, [0x400005, 100, 100]),
            (tkey (encPage 2) 0 0 5, [0x401, 64 + 64 * 2 ^ 16]),
            (tkey 0x330 2 0 4, [0x00020001 + 128 + 4096, 0x04B00000, 0, 0, 1, 0, 0, 0, 1]),
            (tkey 0x330 3 0 6, [0x9, 20])],
    wve := { store := [(4 * 133 + 1, some { f := 1, launch := 7 }), (4 * 133 + 3, some { f := 3, launch := 20 })] } }

/-- A unit of frame 3 with a body of 2 bytes, and the device with it waiting. -/
def tileUnitPkt (tag : Nat) : List Byte :=
  [BitVec.ofNat 8 tag, 0, 0, 0, 0, 0, 0, 0, 3, 0, 0, 0] ++ List.replicate 8 0 ++ [2, 0] ++ List.replicate 10 0 ++ [7, 8]
def weaveWaiting (tag : Nat) : State := (weaving.colSend 0 5 (tileUnitPkt tag)).1

theorem witness_WeaveSplicing :
    weaving.ready 0x330 = true ∧ weaving.raf 0x330 Reg.wveInQbase 12 12 = 1 ∧
      ((weaveWaiting 133).colTake (wvePort 0) 5).2 = some (tileUnitPkt 133) ∧
      ((weaveWaiting 133).colTake (wvePort 0) 5).1.tagOk 133 = true ∧
      ((weaveWaiting 133).colTake (wvePort 0) 5).1.tilePic 133 3 = some { f := 3, launch := 20 } ∧
      ((weaveWaiting 133).colTake (wvePort 0) 5).1.tileLate { f := 3, launch := 20 } = false ∧
      ((weaveWaiting 134).colTake (wvePort 0) 5).2 = some (tileUnitPkt 134) ∧
      ((weaveWaiting 134).colTake (wvePort 0) 5).1.tagOk 134 = false ∧ weaving.genState = 2 ∧
      (let s : State := { weaving with clk := { phase := 1, wale := 14, first := false } }
       s.wveCut = 7 ∧ s.following = false ∧ frameAt (eFps (s.tagEnt 133)) (s.wale64 - s.wveCut) = some 1 ∧
         s.tilePic 133 1 = some { f := 1, launch := 7 }) ∧
      weaving.stepDue 7 = true ∧ tmEn (weaving.tmpl 4) = true ∧ weaving.heldBack (.tmpl 4) = false ∧
      NMap.get (fun _ => none) weaving.wve.launched 4 ≠ some weaving.wale64 ∧
      frameAt (tmFps (weaving.tmpl 4)) weaving.wale64 = some 3 ∧
      (let s : State := { weaving with tbl := [(tkey 0x330 2 0 4, [0x00020001, 0x04B00000]), (tkey 0x330 3 0 6, [0x9, 20])] }
       s.canonical ∧ frameAt (tmFps (s.tmpl 4)) s.wale64 = some 3 ∧ (6, [0x9, 20]) ∈ s.tlist (wvePage 0) 3 0 ∧ (∀ x ∈ s.tbl, x.1 % 2 ^ 25 < 32768) ∧
         tLayer (tmMode (s.tmpl 4)) (3 % 4) = 0) ∧
      weaving.splices 0 = true ∧ rvEn [0x9, 20] = true ∧ rvTmpl [0x9, 20] = 4 ∧
      (let s := weaving.setRcv 0 6 fun r => { r with todo := some (3, 20, true, 27), a := [some 133] }
       (((s.tlist (wvePage 0) 3 0).filter fun x => rvEn x.2).map (·.1)) = [6] ∧
         (s.rcv 0 6).todo = some (3, 20, true, 27) ∧ s.splices 0 = true ∧ s.wale64 < 27) ∧
      (let s := weaving.setRcv 0 6 fun r => { r with todo := some (3, 10, true, 20) }
       (s.rcv 0 6).todo = some (3, 10, true, 20) ∧ s.stepDue 3 = true) ∧
      weaving.Opens .pf (wvePage 0) Reg.wveRekey ∧ rvEn (weaving.rcvEnt 0 6) = true := by
  refine ⟨?_, ?_, ?_, ?_, ?_, ?_, ?_, ?_, ?_, ⟨?_, ?_, ?_, ?_⟩, ?_, ?_, ?_, ?_, ?_, ⟨⟨?_, ?_, ?_⟩, ?_, ?_, ?_, ?_⟩, ?_, ?_, ?_, ⟨?_, ?_, ?_, ?_⟩, ⟨?_, ?_⟩,
    ⟨?_, ?_, ?_, ?_, ?_⟩, ?_⟩ <;> decide +kernel

/-- A device in step 7 of wale 20 whose pipe 1 runs at 60 pictures a second with 6 slots and one plain layer; DRAM is trained. -/
def composing : State :=
  { up with
    clk := { phase := 1, wale := 20, first := false },
    reg := [(rkey tmuPage Reg.tmuWaleCtl, 0x21), (rkey 0x080 Reg.pageReady, 1), (rkey 0x080 Reg.drcCap, 0x1000000),
            (rkey (pxcPage 1) Reg.pageReady, 1)],
    act := [(rkey (pxcPage 1) Reg.pxcCfg, 0x61), (rkey (pxcPage 1) Reg.pxcCanvas, 64 + 64 * 2 ^ 16)],
    tbl := [(tkey (pxcPage 1) 0 0 0, [0xFF7, 0, 0, 0, 64 + 64 * 2 ^ 16, 5])] }

/-- A frame of that pipe with that layer, launched at wale 7. -/
def plainFrame : PxcFrame :=
  { f := 1, launch := 7, slot := 0, cfg := 0x61, canvas := 64 + 64 * 2 ^ 16, bg := 0, phColour := 0,
    layers := [(0, { words := [0xFF7, 0, 0, 0, 64 + 64 * 2 ^ 16, 5] })] }

theorem witness_PixelCompositor :
    composing.stepDue 7 = true ∧ composing.ready (pxcPage 1) = true ∧ composing.raf (pxcPage 1) Reg.pxcCfg 0 0 = 1 ∧
      (composing.pipe 1).launched ≠ some composing.wale64 ∧ (composing.pipe 1).frame = none ∧
      composing.heldBack (.pipe 1) = false ∧ frameAt (composing.raf (pxcPage 1) Reg.pxcCfg 2 1) composing.wale64 = some 3 ∧
      (composing.pipe 1).skip = false ∧ ((composing.setPipe 1 fun x => { x with skip := true }).pipe 1).skip = true ∧
      (let l : PxcLayer := { words := [0xFF7, 0, 0, 0, 64 + 64 * 2 ^ 16, 5] }
       plainFrame.layers = [(0, l)] ∧ l.ph = false ∧ lyKind l.words = 3 ∧ lyAlpha l.words = 255 ∧
         l.covers (1 * 63) (1 * 63) = true ∧ l.covers (2 * 31) (2 * 31) = true) ∧
      (let s := composing.setPipe 1 fun x => { x with frame := some plainFrame, waits := [] }
       (s.pipe 1).frame = some plainFrame ∧ (s.pipe 1).waits = [] ∧ plainFrame.deep = 0 ∧ plainFrame.h = 64 ∧
         s.stepDue 3 = true ∧ s.following = false ∧ launchOf (fld plainFrame.cfg 2 1) 2 ≤ s.wale64 ∧
         s.dramLost 0 = false ∧ s.dramLost 6143 = false ∧
         ({ s with clk := { s.clk with wale := 10 } } : State).pxcDue plainFrame = false) ∧
      (let s : State := { busy with pxc := { pipes := [(1, { (PxcPipe.init) with frame := some plainFrame, waits := [1] })] } }
       (s.pipe 1).frame = some plainFrame ∧ (s.pipe 1).waits = [1] ∧ s.alive 1 = true ∧ (s.task 1).dep ≠ 0 ∧ s.pxcDue plainFrame = false) := by
  refine ⟨?_, ?_, ?_, ?_, ?_, ?_, ?_, ?_, ?_, ⟨?_, ?_, ?_, ?_, ?_, ?_⟩, ⟨?_, ?_, ?_, ?_, ?_, ?_, ?_, ?_, ?_, ?_⟩, ⟨?_, ?_, ?_, ?_, ?_⟩⟩ <;>
    decide +kernel

/-- A device whose lane group 0 sends. Context 20 is outbound to leg 3, which is in the weighted group of lane group 0 with
a limit of 2; context 21 is outbound to leg 4, in strict queue 2. Host frames come from Coil queue 5 into strict queue 1. -/
def sending : State :=
  { up with
    reg := [(rkey 0x010 Reg.pageReady, 1), (rkey 0x048 Reg.pageReady, 1), (rkey 0x048 Reg.escCeil, 0x80002710)],
    act := [(rkey 0x010 Reg.ethPortCfg, 0x2000000D), (rkey 0x048 (lgOff Reg.escLgCfg 0), 0x595), (rkey 0x048 Reg.escWindow, 4096)],
    tbl := [(tkey iclPage 0 0 20, [0x30003, 7, 0, 0, 0, 0, 0, 0, 0, 0x400000]),
            (tkey iclPage 0 0 21, [0x40003, 8, 0, 0, 0, 0, 0, 0, 0, 0x400000]),
            (tkey cpePage 0 0 1, [0x106]), (tkey 0x048 1 0 3, [0x10001, 2]), (tkey 0x048 1 0 4, [0x10141, 2]),
            (tkey colPage 0 0 5, [0, 0, 0x4C + 557 * 128]), (tkey colPage 1 0 0, [5 + 0x400000, 100, 100])] }

/-- A copy for context 20, and one for context 21; the frames that they make. -/
def copyA : Copy := { out := 20, len := 100 }
def copyB : Copy := { out := 21, len := 100 }
def frameA : EscFrame := sending.copyFrame copyA 3
def frameB : EscFrame := sending.copyFrame copyB 4
def hostFrame : EscFrame := { lane := 0, cls := 1, len := 64, bytes := List.replicate 60 7 }

/-- That device with PTP frames from queue 5, the packet's first bytes naming lane group `l` and asking for a timestamp. -/
def ptpSend (l : Byte) : State :=
  ({ sending with
     reg := [(rkey tmuPage Reg.tmuPtpTxq, 0x1005), (rkey 0x010 Reg.pageReady, 1), (rkey 0x048 Reg.pageReady, 1)],
     tbl := [(tkey colPage 0 0 5, [0, 0, 0x4C + tmuPort * 128]), (tkey colPage 1 0 0, [5 + 0x400000, 100, 100])] } : State).colSend
    0 5 ([l, 1, 9, 0, 0, 0, 0, 0] ++ List.replicate 60 7) |>.1

theorem witness_EgressQueues :
    sending.ctxOut 20 = true ∧ sending.ctx 20 0 31 16 = 3 ∧ sending.legF 3 0 0 0 = 1 ∧ sending.following = false ∧
      sending.legF 3 0 6 6 = 0 ∧ (sending.legQ 3).q.length < sending.legF 3 1 17 0 ∧
      sending.storeUsed (escPage (sending.legLane 3)) < storeMax ∧ sending.ctxOut 21 = true ∧ sending.legF 4 0 0 0 = 1 ∧
      sending.legF 4 0 6 6 = 1 ∧ sending.legF 4 0 9 7 = 2 ∧ sending.legLane 4 = 0 ∧
      (let s := sending.setLegQ 3 fun q => { q with q := [frameA, frameA] }
       s.legF 3 1 17 0 ≤ (s.legQ 3).q.length) ∧
      sending.ready (escPage 0) = true ∧ bit (sending.lgCfg 0) 7 = true ∧ sending.laneValid 0 = true ∧
      fld (sending.lgCfg 0) 6 4 = 1 ∧
      (((sending.colSend 0 5 (List.replicate 60 7)).1.colTake (escPort 0) (fld (sending.lgCfg 0) 19 8)).2 =
        some (List.replicate 60 7)) ∧
      60 + 4 ≤ sending.raf (ethPage 0) Reg.ethPortCfg 29 16 ∧
      ({ sending with act := [(rkey 0x010 Reg.ethPortCfg, 0x2D)] } : State).raf (ethPage 0) Reg.ethPortCfg 29 16 < 60 + 4 ∧
      (let s := ptpSend 0
       bit (s.rd tmuPage Reg.tmuPtpTxq) 12 = true ∧ fld (s.rd tmuPage Reg.tmuPtpTxq) 11 0 = 5 ∧ s.ptpLane 5 = 0 ∧
         s.severed tmuPort = false ∧ s.laneValid 0 = true ∧ fld (s.lgCfg 0) 3 1 = 2 ∧
         (s.colTake tmuPort 5).2 = some ([0, 1, 9, 0, 0, 0, 0, 0] ++ List.replicate 60 7)) ∧
      (let s := ptpSend 9
       s.severed tmuPort = false ∧ s.ptpLane 5 = 9 ∧ s.laneValid 9 = false ∧ (s.colTake tmuPort 5).2 = some ([9, 1, 9, 0, 0, 0, 0, 0] ++ List.replicate 60 7)) ∧
      sending.lgRuns 0 = true ∧ (sending.laneSt 0).flying 1 < sending.raf (escPage 0) Reg.escWindow 19 0 ∧
      (sending.setStrict 0 1 [hostFrame]).strictQ 0 1 = [hostFrame] ∧
      (sending.setStrict 0 2 [frameB]).strictQ 0 2 = [frameB] ∧ frameB.lane = 0 ∧ frameB.cls = 2 ∧
      sending.ctx 21 9 29 22 = 1 ∧ sending.rqIs 1 2 = true ∧ (sending.cpeQ 1).length < 1024 ∧
      (let s := sending.setLegQ 3 fun _ => { q := [frameA], start := 5, awake := true }
       s.groupPick 0 = some 3 ∧ (s.legQ 3).q = [frameA] ∧ s.lgRuns 0 = true) ∧
      (let s := (sending.setLegQ 3 fun _ => { q := [frameA], start := 5 }).setLegQ 5 fun _ => { q := [frameA], start := 2 ^ 64 - 1 }
       s.groupReady 0 = [3, 5]) ∧
      up.lgRuns 0 = false := by
  refine ⟨?_, ?_, ?_, ?_, ?_, ?_, ?_, ?_, ?_, ?_, ?_, ?_, ?_, ?_, ?_, ?_, ?_, ?_, ?_, ?_, ⟨?_, ?_, ?_, ?_, ?_, ?_, ?_⟩, ⟨?_, ?_, ?_, ?_⟩,
    ?_, ?_, ?_, ?_, ?_, ?_, ?_, ?_, ?_, ⟨?_, ?_, ?_⟩, ?_, ?_⟩ <;> decide +kernel

/-- The sending device with frames staged in lane group 0, of class 1 alone, and with 0 tokens. -/
def staged : State :=
  sending.setLane 0 fun l => { l with stage := [(1, [(hostFrame, 0)])], flight := [(1, 64)] }

/-- That device with a list of two entries: class 1 is open for 1000 ns of its cycle of 1998 ns. -/
def gated (at_ : Nat) : State :=
  { staged with
    clk := { loc := at_ * unitsPerNs },
    tbl := [(tkey 0x048 0 0 7, [0x2, 1000]), (tkey 0x048 0 0 8, [0x1, 998])],
    esc := { lanes := [(0, { stage := [(1, [(hostFrame, 0)])], gcl := ⟨true, 7, 2, 1998, 0⟩ })] } }

theorem witness_LineStarts :
    staged.lgRuns 0 = true ∧ staged.rb (escPage 0) Reg.escCeil 31 = true ∧ (staged.laneSt 0).busyTo ≤ staged.now ∧
      (staged.laneSt 0).gcl.en = false ∧ (staged.laneSt 0).next = none ∧ 0 ≤ (staged.laneSt 0).ceil ∧
      (staged.laneSt 0).staged 0 = [] ∧ (staged.laneSt 0).staged 1 = [(hostFrame, 0)] ∧ (staged.txtsQ 0).length < 32 ∧
      ((staged.setLane 0 fun l => { l with ceil := -1 }).laneSt 0).ceil < 0 ∧ up.lgRuns 0 = false ∧
      (let s := gated 999
       s.lgRuns 0 = true ∧ (s.laneSt 0).staged 1 = [(hostFrame, 0)] ∧ s.maxWin (escPage 0) (s.laneSt 0).gcl 1 = some 1000 ∧
         s.txTime 0 64 + s.raf (escPage 0) Reg.escGuard 15 0 ≤ 1000 ∧ s.gateClose 0 1 999 = some 1000 ∧ s.now = 999 ∧
         1000 < 999 + (s.txTime 0 64 + s.raf (escPage 0) Reg.escGuard 15 0) ∧
         (s.laneSt 0).gcl.offset 999 = 999 ∧ s.tf (escPage 0) 0 0 7 1 29 0 = 1000 ∧
         s.gateSpan (escPage 0) (s.laneSt 0).gcl s.now = some (0, 1000, 7, 2) ∧
         s.inWale (s.now - (s.laneSt 0).gcl.offset s.now + 1000) = true ∧ s.gateUsed 0x048 7 = true) ∧
      (let s : State := { gated 0 with act := (gated 0).act ++ [(rkey 0x048 Reg.escGuard, 999)] }
       s.txTime 0 64 + s.raf (escPage 0) Reg.escGuard 15 0 = 1001 ∧
         s.maxWin (escPage 0) (s.laneSt 0).gcl 1 = some 1000 ∧ s.lgRuns 0 = true) ∧
      (let s := sending.setLane 0 fun l => { l with next := some ⟨true, 7, 2, 2000, 500⟩ }
       (s.laneSt 0).next = some ⟨true, 7, 2, 2000, 500⟩ ∧ s.inWale 500 = true ∧ (s.laneSt 0).staged 8 = []) ∧
      up.Opens .pf 0x048 Reg.tblData ∧ up.paired = false ∧ up.gateUsed 0x048 7 = false ∧
      (gated 0).Opens .pf 0x048 Reg.tblData ∧ up.rb (escPage 0) Reg.escCeil 31 = false := by
  refine ⟨?_, ?_, ?_, ?_, ?_, ?_, ?_, ?_, ?_, ?_, ?_, ⟨?_, ?_, ?_, ?_, ?_, ?_, ?_, ?_, ?_, ?_, ?_, ?_⟩, ⟨?_, ?_, ?_⟩, ⟨?_, ?_, ?_⟩,
    ⟨?_, ?_, ?_, ?_, ?_⟩, ?_, ?_, ⟨?_, ?_, ?_, ?_, ?_⟩, ?_⟩ <;> decide +kernel

/-- A device whose port 2 is an STM-16 line with the receive side `l`. -/
def lined (l : LinePort) : State :=
  { up with
    clk := { tru := 5000000, loc := 5000000 * unitsPerNs },
    reg := [(rkey 0x022 Reg.pageReady, 1)], act := [(rkey 0x022 Reg.lnuPortCfg, 1)], lnu := { ports := [(2, l)] } }

theorem witness_LineFramer :
    (lined {}).lineLive 2 = true ∧ (lined { inF := true, lof := true, los := true }).lineLive 2 = true ∧ ((lined { cands := [(7, 1)] }).line 2).cands = [(7, 1)] ∧
      ((lined { cands := [(1, 1), (2, 1), (3, 1), (4, 2)] }).line 2).cands.find? (fun c => c.1 = 4) = some (4, 2) ∧
      ((lined { excl := some (9, 5000001) }).line 2).excl = some (9, 5000001) ∧
      (lined {}).clk.tru < 5000001 ∧
      ((lined { inF := true, aligned := 5, miss := 3, b1Bad := 8, lof := true }).line 2).miss = 3 ∧
      ((lined {}).waitTru (((lined {}).line 2).since + 3000000)).isSome = true ∧
      ((lined { since := 4000000, los := true }).waitTru 7000000).isSome = true ∧ up.lineLive 2 = false := by
  refine ⟨?_, ?_, ?_, ?_, ?_, ?_, ?_, ?_, ?_, ?_⟩ <;> decide +kernel

/-- An aligned STM-16 line on port 2 with tributary 0, an E1 without CRC-4, and path 0; the tributary's receive side is `x`. -/
def carrying (x : TribSt) : State :=
  { lined { inF := true, k2Run := (1, 2), k2Not := (1, 2), s1Run := (9, 7), tribs := [(0, x)] } with
    tbl := [(tkey 0x022 0 0 0, [0x5]), (tkey 0x022 1 0 0, [1])] }

/-- The same with MODE 2 and a T1 of extended superframes. -/
def carryingT1 (x : TribSt) : State :=
  { carrying x with act := [(rkey 0x022 Reg.lnuPortCfg, 2)], tbl := [(tkey 0x022 1 0 0, [7])] }

/-- A frame of an E1 with the frame alignment signal. -/
def fasFrame : List Byte := 0x1B :: List.replicate 31 0xD5

theorem witness_LineOverhead :
    (carrying {}).lineLive 2 = true ∧ ((carrying {}).line 2).inF = true ∧ (carrying {}).pathOn 2 0 = true ∧
      ((carrying {}).line 2).s1Run = (9, 7) ∧ ((carrying {}).line 2).k2Run = (1, 2) ∧ (carrying {}).tribOn 2 0 = true ∧
      (((carrying {}).line 2).path ((carrying {}).tribPath 2 0)).down = false ∧ (carrying {}).framing 2 0 = 0 ∧
      (let s := (carrying {}).setLine 2 fun l => l.setPath 0 { lom := true }
       ((s.line 2).path (s.tribPath 2 0)).down = true ∧ s.lineLive 2 = true) ∧ (lined {}).lineLive 2 = true ∧
      ((lined {}).line 2).inF = false ∧
      (let f : Framer := { inF := true }
       ((carrying { frm := f }).line 2).trib 0 = { frm := f } ∧ (f.stepE1 false fasFrame).1.inF = true ∧
         fasFrame.length = 32) ∧
      (let f : Framer := { inF := true }
       let s := carryingT1 { frm := f, unread := [[1], [2]] }
       s.lineLive 2 = true ∧ s.tribOn 2 0 = true ∧ s.framing 2 0 = 3 ∧
         (((s.line 2).trib 0).frm.stepT1 true (List.replicate 25 0)).1.inF = true) ∧
      (let f : Framer := { step := 2 }
       f.inF = false ∧ (f.stepE1 false fasFrame).1.inF = true ∧ isFas (fasFrame.getD 0 0) = true ∧ isFas 0 = false) := by
  refine ⟨?_, ?_, ?_, ?_, ?_, ?_, ?_, ?_, ⟨?_, ?_⟩, ?_, ?_, ⟨?_, ?_, ?_⟩, ⟨?_, ?_, ?_, ?_⟩, ⟨?_, ?_, ?_, ?_⟩⟩ <;> decide +kernel

/-- An E1 frame whose time slots hold one value. -/
def toneFrame : List Byte := 0x1B :: List.replicate 31 0x33

/-- The carrying device with TSI channel 6 on time slot 3 of that tributary, at step 1 of wale 5. -/
def channeled : State :=
  { carrying { frm := { inF := true }, unread := [toneFrame] } with
    clk := { wale := 5, phase := 1, first := false, loc := 12500000 * unitsPerNs },
    reg := [(rkey 0 Reg.sysIdStatus, 0x400), (rkey tmuPage Reg.tmuWaleCtl, 0x21), (rkey 0x022 Reg.pageReady, 1),
            (rkey tsiPage Reg.pageReady, 1)],
    act := [(rkey 0x022 Reg.lnuPortCfg, 1), (rkey tsiPage Reg.lnuTsiCfg, 1)],
    tbl := [(tkey 0x022 0 0 0, [0x5]), (tkey 0x022 1 0 0, [1]), (tkey tsiPage 0 0 6, [1 + 2 * 2 + 3 * 2 ^ 14])] }

theorem witness_FramePulse :
    channeled.nextPulse = some 100 ∧ channeled.following = false ∧ channeled.canonical ∧ channeled.lineLive 2 = true ∧
      channeled.tribOn 2 0 = true ∧ ((channeled.line 2).trib 0).unread = [toneFrame] ∧
      channeled.channels = [(6, 1 + 2 * 2 + 3 * 2 ^ 14)] ∧ channeled.tsiRun = true ∧ channeled.laserOn 2 = true ∧ channeled.laserOn 1 = false ∧
      channeled.slotClosed 2 0 3 = false ∧
      (match exec .tdmFramePulse channeled with
       | .next t => t.tribIdle 2 0 = false && t.ds0At 6 100 = some 0x33
       | _ => false) = true ∧ up.nextPulse = none ∧
      up.Opens .pf (lnuPage 2) Reg.lnuTxCtl ∧ bit (1 : Word) 2 = false ∧ up.rf (lnuPage 2) Reg.cmtStatus 2 0 ≠ 1 ∧
      bit (4 : Word) 2 = true ∧ up.rb (lnuPage 2) Reg.errInfo 31 = false ∧
      (let s : State := { up with reg := [(rkey 0 Reg.sysBoot, 4)] }
       s.qz.mainOk = true ∧ s.fwRuns = true) := by
  refine ⟨?_, ?_, ⟨?_, ?_, ?_⟩, ?_, ?_, ?_, ?_, ?_, ?_, ?_, ?_, ?_, ?_, ⟨?_, ?_, ?_, ?_, ?_⟩, ?_, ?_, ?_, ?_, ⟨?_, ?_⟩⟩ <;> decide +kernel

/-- A device at step 1 of wale `w` that monitors leg 3 and the lines of port 2; Coil queue 5 brings PM records. -/
def monitored (w : Nat) : State :=
  { up with
    clk := { wale := w, phase := 1, first := false },
    reg := [(rkey tmuPage Reg.tmuWaleCtl, 0x21), (rkey 0x022 Reg.pageCtrl, 1), (rkey 0x022 Reg.pageReady, 1),
            (rkey tsiPage Reg.pageReady, 1)],
    act := [(rkey 0x022 Reg.lnuPortCfg, 1), (rkey tsiPage Reg.lnuPmIn, 0x1005)],
    tbl := [(tkey 0x022 0 0 0, [0x5]), (tkey 0x022 1 0 0, [1]), (tkey tsiPage 1 0 3, [1]),
            (tkey colPage 0 0 5, [0, 0, 0x4C + lnuPort * 128]), (tkey colPage 1 0 0, [5 + 0x400000, 100, 100])],
    lnu := { close15 := some 9, second := some 360000 } }

/-- A PM record of leg 3 with jitter 500 µs and wale `w`. -/
def pmRec (w : Byte) : List Byte := [3, 0, 0, 0, 244, 1, 0, 0, 255, 255, 255, 255, w, 0, 0, 0]

theorem witness_PerformanceMonitoring :
    (let s := monitored 20
     s.ready tsiPage = true ∧ bit (s.ra tsiPage Reg.lnuPmIn) 12 = true ∧ s.legOn 3 = true ∧ leNat ((pmRec 9).take 2) = 3 ∧
       ((s.colSend 0 5 (pmRec 9)).1.colTake lnuPort (fld (s.ra tsiPage Reg.lnuPmIn) 11 0)).2 = some (pmRec 9) ∧
       waleLt (leNat (((pmRec 9).drop 12).take 4)) (9 % 2 ^ 32) = false ∧
       waleLt (leNat (((pmRec 8).drop 12).take 4)) (9 % 2 ^ 32) = true ∧
       ((s.colSend 0 5 (pmRec 8)).1.colTake lnuPort 5).2 = some (pmRec 8)) ∧
      (let s := monitored 400
       s.stepDue 2 = true ∧ s.onGrid 400 = true ∧ s.lnu.second ≠ some s.clk.wale ∧ s.entities.Nodup ∧
         legEntity 3 ∈ s.entities ∧ 4096 * 2 ∈ s.entities) ∧
      (let s := monitored 360000
       s.stepDue 2 = true ∧ s.onGrid 360000 = true ∧ s.onGrid 34560000 = false ∧ s.lnu.close15 ≠ some s.clk.wale ∧
         s.lnu.second = some s.clk.wale ∧ s.ringOn tsiPage 0 = false) ∧
      (let s : State := { monitored 34560000 with lnu := { second := some 34560000 } }
       s.stepDue 2 = true ∧ s.onGrid 360000 = true ∧ s.onGrid 34560000 = true ∧ s.lnu.second = some s.clk.wale) ∧
      (let r : List PmSec := List.replicate 9 ⟨2, true, true⟩
       r.length = 9 ∧ (∀ x ∈ r, x.in15 = true)) := by
  refine ⟨⟨?_, ?_, ?_, ?_, ?_, ?_, ?_, ?_⟩, ⟨?_, ?_, ?_, ?_, ?_, ?_⟩, ⟨?_, ?_, ?_, ?_, ?_, ?_⟩, ⟨?_, ?_, ?_, ?_⟩, ⟨?_, ?_⟩⟩ <;>
    decide +kernel

/-- A board of 4 channels of 2 ranks, with the registers `r` beside its geometry, and channel 1 at training step `k` since
the true time `a`. -/
def board (r : List (Nat × Word)) (k : Nat) (a : Nat := 0) : State :=
  { up with
    clk := { tru := 20000000000 },
    reg := r ++ [(rkey drcPage Reg.drcGeom, 0x108)], drc := { ch := [(1, { step := k, at_ := a })] } }

/-- Registers of channel 1 that show it at STATE `v`, with spare rank 1 where `sp` says so. -/
def chRegs (v : Word) (sp : Bool) : List (Nat × Word) :=
  (rkey 0x071 Reg.drcChStatus, v) :: (if sp then [(rkey 0x071 Reg.drcSpare, 5)] else [])

theorem witness_DramTraining :
    (board [] 0).Opens .pf drcPage Reg.pageCtrl ∧ (board [] 0).enabled drcPage = false ∧
      (board [] 0).rb drcPage Reg.drcGeom 8 = true ∧ (board [] 0).drcC = 4 ∧ up.rb drcPage Reg.drcGeom 8 = false ∧
      up.Opens .pf drcPage Reg.pageCtrl ∧ up.enabled drcPage = false ∧
      (let s := board [(rkey drcPage Reg.pageCtrl, 1)] 0
       s.Opens .pf drcPage Reg.pageCtrl ∧ s.enabled drcPage = true) ∧
      (let s := board (chRegs 1 false) 7
       s.chState 1 = 1 ∧ (s.dch 1).step = 7 ∧ s.spareOf 1 = none ∧ s.drcRanks = 2 ∧ s.chState 0 ≠ 2 ∧
         (s.dch 1).at_ + stepTimeout 7 < s.clk.tru) ∧
      (let s := board ((rkey 0x070 Reg.drcChStatus, 2) :: chRegs 1 false ++ [(rkey 0x072 Reg.drcChStatus, 2),
                        (rkey 0x073 Reg.drcChStatus, 2)]) 7 19000000000
       s.chState 1 = 1 ∧ (∀ c, c < s.drcC → c ≠ 1 → s.chState c = 2) ∧ 1 < s.drcC ∧ s.spareOf 0 = none ∧
         s.clk.tru ≤ (s.dch 1).at_ + stepTimeout 7 ∧ s.mem.dead = []) ∧
      (let s := board (chRegs 1 true) 7 19000000000
       s.chState 1 = 1 ∧ s.spareOf 1 = some 1 ∧ 1 < s.drcRanks ∧ s.clk.tru ≤ (s.dch 1).at_ + stepTimeout 7) ∧
      (let s := board (chRegs 1 false) 3 19999000000
       s.chState 1 = 1 ∧ (s.dch 1).step = 3 ∧ s.clk.tru ≤ (s.dch 1).at_ + stepTimeout 3 * s.drcRanks) ∧ up.chState 1 ≠ 1 ∧
      (let s := board (chRegs 3 false) 0
       s.Opens .pf drcPage Reg.drcTrain ∧ s.chState 1 = 3 ∧ s.chState 0 ≠ 3) := by
  refine ⟨⟨?_, ?_, ?_, ?_, ?_⟩, ?_, ?_, ?_, ?_, ⟨?_, ?_, ?_, ?_, ?_⟩, ?_, ⟨⟨?_, ?_, ?_, ?_, ?_⟩, ?_⟩, ⟨?_, ?_, ?_, ?_, ?_, ?_⟩,
    ⟨?_, ?_, ?_, ?_, ?_, ?_⟩, ⟨?_, ?_, ?_, ?_⟩, ⟨?_, ?_, ?_⟩, ?_, ⟨⟨?_, ?_, ?_, ?_, ?_⟩, ?_, ?_⟩⟩ <;> decide +kernel

/-- A trained board whose every channel has its physical rank 0 in service as logical rank 0 and, where `sp` says so, rank 1
as SPARE; line 5 of DRAM has `n` bytes in the queue of its channel. -/
def served (sp : Bool) (n : Nat) : State :=
  { up with
    clk := { tru := 20000000000 },
    reg := [(rkey 0x070 Reg.drcChStatus, 2), (rkey 0x070 Reg.drcRankState, if sp then 0x201 else 1),
            (rkey drcPage Reg.pageReady, 1), (rkey drcPage Reg.drcGeom, 0x108), (rkey drcPage Reg.drcCap, 0x1000000)],
    mem := { queued := (List.range n).map fun i => (320 + i, some 7) },
    drc := { ch := if n = 0 then [] else [(0, { queue := [5] })] } }

/-- The same with a migration of rank 0 to rank 1 at line `p`. -/
def moving1 (p : Word) : State :=
  { served true 0 with
    reg := [(rkey 0x070 Reg.drcChStatus, 2), (rkey 0x070 Reg.drcRankState, 0x403), (rkey 0x070 Reg.drcMig, 0x80000000 + p),
            (rkey drcPage Reg.drcGeom, 0x108), (rkey drcPage Reg.drcCap, 0x1000000)] }

theorem witness_DramLines :
    320 < (served true 8).drcCap ∧ (served true 8).dramLost 320 = false ∧ (served true 8).drcChan 320 = 0 ∧
      ((served true 8).dch 0).queue.contains (320 / 64) = true ∧ (served true 0).drcCap ≤ 0x1000000 ∧
      (let s := served true 0
       s.dramLost 320 = false ∧ ((s.dch 0).queue.length < 64) ∧ s.entryBytes (320 / 64) = 0 ∧
         s.mem.poison.contains (320 / 64) = false ∧ s.serving 0 (s.drcRank 320) (s.drcLine 320) = 0 ∧ s.rankState 0 0 = 1 ∧
         (List.range 4).find? (fun x => s.rankState 0 x = 2) = some 1 ∧ s.chState 0 = 2 ∧ 0 < s.drcRanks ∧
         s.rb drcPage Reg.drcScrub 0 = true ∧ s.ready drcPage = true ∧ s.Opens .pf (chPage 0) Reg.drcRetire) ∧
      (((served true 0).setDch 0 fun d => { d with queue := List.replicate 64 9 }).dch 0).queue.length = 64 ∧
      ({ served true 0 with mem := { dead := [(0, 0)] } } : State).dramLost 320 = true ∧
      (let s := (served true 64).setDrc fun d => { d with writes := [(0, [1])] }
       (s.dch 0).queue = [5] ∧ s.entryBytes 5 = 64 ∧ s.drc.waits = [] ∧ s.drcChan 0 = 0 ∧ 0 < s.drcCap ∧
         s.dramLost 0 = false ∧ s.dramLost (5 * 64) = false) ∧
      ({ served true 0 with mem := { poison := [5] } } : State).mem.poison.contains (320 / 64) = true ∧
      (served true 64).entryBytes (320 / 64) = 64 ∧ (served true 64).canonical ∧ ((served true 64).dch 0).queue = [5] ∧
      (served true 8).entryBytes (320 / 64) = 8 ∧ (served true 8).canonical ∧ ((served true 8).dch 0).queue = [5] ∧
      (let s := served false 0
       s.rankState 0 0 = 1 ∧ (∀ x, x < 4 → s.rankState 0 x ≠ 2) ∧ s.Opens .pf (chPage 0) Reg.drcRetire) ∧
      (let s := moving1 7
       s.migrating 0 = some (0, 1) ∧ s.rf (chPage 0) Reg.drcMig 30 0 = 7 ∧ 7 + 1 < s.rankLines) ∧
      (let s := moving1 0x1FFFFFFF
       s.migrating 0 = some (0, 1) ∧ s.rf (chPage 0) Reg.drcMig 30 0 + 1 = s.rankLines) := by
  refine ⟨?_, ?_, ?_, ?_, ?_, ⟨?_, ?_, ?_, ?_, ?_, ?_, ?_, ?_, ?_, ?_, ?_, ⟨?_, ?_, ?_, ?_, ?_⟩⟩, ?_, ?_, ⟨?_, ?_, ?_, ?_, ?_, ?_, ?_⟩, ?_, ?_,
    ⟨?_, ?_, ?_⟩, ?_, ?_, ⟨?_, ?_, ?_⟩, ?_, ⟨?_, ?_, ⟨?_, ?_, ?_, ?_, ?_⟩⟩, ⟨?_, ?_, ?_⟩, ⟨?_, ?_⟩⟩ <;> decide +kernel

/-- A device whose Pairing runs, with STATE, role, link and life of the twin in `st`, and PrgSt `p`; the role asked for is 1. -/
def paired (st : Word) (p : PrgSt) : State :=
  { up with
    clk := { wale := 10, phase := 1, first := false, tru := 900000 },
    reg := [(rkey prgPage Reg.pageReady, 1), (rkey prgPage Reg.prgCtl, 3), (rkey prgPage Reg.prgStatus, st)], prg := p }

theorem witness_PairLink :
    (paired 0x60 {}).prgOn = true ∧ (paired 0x60 {}).linkUp = true ∧ waleLt 0 0 = false ∧ (paired 0 {}).linkUp = false ∧
      up.prgOn = false ∧ (paired 0x64 { tx := [.demote] }).layActive = true ∧
      (paired 0x60 {}).prg.lastRx + (paired 0x60 {}).rf prgPage Reg.prgTmo 7 0 * 1000 ≤ (paired 0x60 {}).clk.tru ∧
      (paired 0x60 {}).paired = false ∧
      ((paired 0x64 {}).paired = true ∧ (paired 0x64 {}).standby = false) ∧
      ((paired 0x74 {}).paired = true ∧ (paired 0x74 {}).standby = true ∧ (paired 0x74 {}).twinAlive = true) ∧
      ((paired 0x34 {}).paired = true ∧ (paired 0x34 {}).standby = true ∧ (paired 0x34 {}).twinAlive = false ∧
        (paired 0x34 {}).linkUp = true) ∧
      (let s := paired 0x14 { gate := [⟨hostFrame, 9, 4, 5, 0, false⟩] }
       s.standby = true ∧ s.paired = true ∧ s.twinAlive = false ∧ s.linkUp = false ∧ s.gateTop 9 ≤ 4) ∧
      (let s := paired 0x60 { rx := [(3, .hello 0 0 0 0 0 7)] }
       s.prgState = 0 ∧ s.helloFault 0 0 0 0 0 = 0 ∧ s.rf prgPage Reg.prgCtl 1 1 = 1 ∧ s.helloFault 1 0 0 0 0 = 1) ∧
      (let s := paired 0x64 { fwd := [(0x060, 0x10, 5)] }
       s.layActive = true ∧ s.prg.open_ = none) ∧
      (paired 0x64 { rx := [(3, .demote)] }).paired = true ∧ up.qz.mainOk = true := by
  refine ⟨?_, ?_, ?_, ?_, ?_, ?_, ?_, ?_, ⟨?_, ?_⟩, ⟨?_, ?_, ?_⟩, ⟨?_, ?_, ?_, ?_⟩, ⟨?_, ?_, ?_, ?_, ?_⟩, ⟨?_, ?_, ?_, ?_⟩, ⟨?_, ?_⟩,
    ?_, ?_⟩ <;> decide +kernel

/-- A standby that follows in IN_STEP from wale 0 on, at step 1 of wale 10. -/
def following (p : PrgSt) : State :=
  { sending with
    clk := { wale := 10, phase := 1, first := false, loc := 25000000 * unitsPerNs },
    reg := [(rkey tmuPage Reg.tmuWaleCtl, 0x21), (rkey prgPage Reg.pageReady, 1),
            (rkey prgPage Reg.prgCtl, 3), (rkey prgPage Reg.prgStatus, 0x74)],
    prg := p }

/-- A DEQ entry that names the copy of context 21. -/
def deqEntryB : List Byte := layEntry 4 0 (copyKey copyB)

/-- A BOUNDARY entry of wale 10 for a section without entries. -/
def boundaryB : List Byte :=
  layEntry 1 0 (beBytes 4 10 ++ beBytes 4 0 ++ beBytes 8 0 ++ beBytes 4 0)

theorem witness_RecordFollowed :
    (following {}).following = true ∧ (following {}).standby = true ∧ (following {}).paired = true ∧
      (following {}).reaches .pf mxfPage = true ∧ (following {}).granted .pf mxfPage = true ∧
      (following {}).hidden .pf mxfPage = false ∧ up.following = false ∧ fb (layEntry 2 0 [0]) 0 = 2 ∧
      fb (layEntry 3 0 [0]) 0 = 3 ∧ fb (layEntry 6 0 [0]) 0 = 6 ∧ fb (layEntry 7 0 [0]) 0 = 7 ∧ fb32 (layEntry 7 0 [0, 0, 0, 6]) 4 = 6 ∧
      (let f := { rtpPkt with parse := { rtpPkt.parse with scid := 9 } }
       (following {}).meets ⟨9, 0, f.parse.kind, 0, (following {}).heldSeq f, f.payload.length, sm3First f.payload, 0, 0, none⟩
         ⟨f, 0⟩ = true) ∧
      (let s : State := { following {} with tbl := [(tkey tsiPage 0 0 6, [1 + 2 * 2 + 3 * 2 ^ 14])] }
       (s.channels.filter fun x => chPort x.2 = 2) = [(6, 1 + 2 * 2 + 3 * 2 ^ 14)] ∧ s.following = true) ∧
      fb deqEntryB 0 = 4 ∧ (following {}).entryLeg (slice deqEntryB 4 12) = 4 ∧ (following {}).legF 4 0 6 6 = 1 ∧
      (let s := (following {}).setStrict 0 2 [frameB]
       s.legFrames 4 = [frameB] ∧ frameB.named (slice deqEntryB 4 12) = true ∧ s.following = true) ∧
      (following {}).rqIs 1 2 = true ∧ ((following {}).cpeQ 1).length < 1024 ∧ (following {}).legFrames 4 = [] ∧ forward.ctx 9 12 19 19 = 1 ∧
      fb boundaryB 0 = 1 ∧ fb32 boundaryB 4 = (following {}).wale ∧ fb32 boundaryB 20 = 0 ∧
      (following {}).genState = 2 ∧ (following {}).prgState = 4 ∧ (following {}).enabled lfwPage = false ∧
      (((25000000 : Nat) : Int) - (following {}).boundary (following {}).wale64).natAbs ≤ 50000 ∧
      500000 < (((26000000 : Nat) : Int) - (following {}).boundary (following {}).wale64).natAbs ∧
      waleLt (following {}).wale 11 = true := by
  refine ⟨?_, ?_, ?_, ?_, ?_, ?_, ?_, ?_, ?_, ?_, ?_, ?_, ?_, ⟨?_, ?_⟩, ?_, ?_, ?_, ⟨?_, ?_, ?_⟩,
    ?_, ?_, ?_, ?_, ?_, ?_, ?_, ?_, ?_, ?_, ?_, ?_, ?_⟩ <;> first | decide +kernel | simp [State.meets]

/-- A packet of leg 0 at the gate. -/
def gatedPkt : GatePkt := ⟨hostFrame, 9, 4, 5, 0, false⟩

/-- An entry that waits for a packet of context 9, with a FETCH sent at `f`. -/
def wanted (f : Option Nat) : WantIn := ⟨9, 0, 0, 0, 1, 20, 3, 0, 0, f⟩

/-- The following standby with the tables of the receiving device. -/
def fetching (p : PrgSt) : State := { following p with
    reg := (following p).reg ++ [(rkey iclPage Reg.pageReady, 1), (rkey cpePage Reg.pageReady, 1), (rkey lfwPage Reg.pageReady, 1)]
    act := ingress.act, tbl := ingress.tbl }

theorem witness_SeizingGate :
    (following {}).rf prgPage Reg.prgTmo 23 16 * 1000 ≤ (following {}).now ∧ (following {}).following = true ∧
      (following {}).standby = true ∧ (following {}).paired = true ∧ (wanted none).fetchAt = none ∧
      (wanted none).at_ + 20000 ≤ (following {}).now ∧ up.now < (wanted none).at_ + 20000 ∧
      (wanted (some 0)).fetchAt.isSome = true ∧
      ((fetching {}).crlAlloc iclPort ((fetching {}).raf (ethPage 0) Reg.ethPortCfg 7 2)).2 = some (3 * 2 ^ 26) ∧
      ((fetching {}).fetchedPkt (wanted (some 0)) [0x80, 0, 0, 1, 0, 0, 0, 0, 0, 0, 0, 7, 1] (3 * 2 ^ 26)).isSome = true ∧
      (fetching {}).mediaReady = true ∧ (following {}).mediaReady = false ∧
      0 + (following {}).rf prgPage Reg.prgTmo 15 8 * 1000 ≤ (following {}).now ∧
      0 + (following {}).rf prgPage Reg.prgTmo 31 24 * 1000 < (following {}).now ∧ ((following {}).core 3).fctl = none ∧
      (((following {}).setCore 3 fun c => { c with fctl := some (1, 0) }).core 3).fctl = some (1, 0) ∧
      (following {}).ringOn prgPage 0 = false ∧ gatedPkt.idx < 5 ∧ (following {}).comparing = true ∧
      (following {}).gateMine 9 ≤ 4 ∧ (paired 0x64 { gate := [gatedPkt] }).standby = false ∧
      (paired 0x64 {}).paired = true ∧
      (let s : State := { paired 0x64 { gate := [gatedPkt] } with clk := { loc := 1000000 * unitsPerNs } }
       s.standby = false ∧ gatedPkt.at_ + s.rf prgPage Reg.prgGate 10 0 ≤ s.now) ∧
      gatedPkt.at_ + (following {}).rf prgPage Reg.prgGate 23 16 * 1000 ≤ (following {}).now := by
  refine ⟨?_, ?_, ?_, ?_, ?_, ?_, ?_, ?_, ?_, ?_, ?_, ?_, ?_, ?_, ?_, ?_, ?_, ?_, ?_, ?_, ?_, ?_, ⟨?_, ?_⟩, ?_⟩ <;> decide +kernel

theorem witness_SwapAndJoin :
    (let s : State := { paired 0x64 {} with reg := [(rkey prgPage Reg.pageReady, 1), (rkey prgPage Reg.prgStatus, 0x64),
                                                    (rkey prgPage Reg.prgSwap, 15)] }
     s.Opens .pf prgPage Reg.prgSwapCtl ∧ s.swapArmed = false ∧ s.standby = false) ∧
      (paired 0x64 {}).wale = 0 ∧ (paired 0x64 {}).Opens .pf prgPage Reg.prgSwapCtl ∧
      (let s : State := { paired 0x64 {} with reg := [(rkey tmuPage Reg.tmuWaleCtl, 0x21), (rkey prgPage Reg.prgStatus, 0x64),
                                                      (rkey prgPage Reg.prgSwap, 15)] }
       2 ≤ s.ahead (s.rd prgPage Reg.prgSwap).toNat ∧ s.ahead (s.rd prgPage Reg.prgSwap).toNat < 2 ^ 31) ∧
      (paired 0x64 {}).ahead ((paired 0x64 {}).rd prgPage Reg.prgSwap).toNat = 0 ∧
      ((following {}).Opens .pf prgPage Reg.prgSwapCtl ∧ (following {}).swapArmed = false ∧ (following {}).standby = true) ∧
      (let s : State := { following {} with reg := [(rkey tmuPage Reg.tmuWaleCtl, 0x21), (rkey prgPage Reg.prgStatus, 0x74),
                                                    (rkey prgPage Reg.prgSwap, 15)] }
       s.Opens .pf prgPage Reg.prgSwapCtl ∧ s.standby = true ∧ 1 ≤ s.ahead (s.rd prgPage Reg.prgSwap).toNat) ∧
      (let s : State := { paired 0x64 { swapAt := some 10 } with
                          reg := [(rkey tmuPage Reg.tmuWaleCtl, 0x21),
                                  (rkey prgPage Reg.prgStatus, 0x64), (rkey prgPage Reg.prgSwapRes, 1)] }
       s.stepDue 5 = true ∧ s.prg.swapAt = some s.wale ∧ s.prgState = 4 ∧ s.standby = false ∧ s.swapArmed = true) ∧
      (let s := following { swapAt := some 10, reached := some 10 }
       s.stepDue 5 = true ∧ s.prg.swapAt = some s.wale ∧ s.prgState = 4 ∧ s.standby = true) ∧
      (let s := paired 0x64 { autoSwap := some 12 }
       s.layActive = true ∧ s.prgState = 4 ∧ waleLt s.wale 12 = true) ∧
      (let s := paired 0x61 {}
       s.Opens .pf prgPage Reg.prgJoin ∧ s.standby = false ∧ s.prgState = 1 ∧ s.regionsOk = true) ∧
      ((paired 0x71 {}).Opens .pf prgPage Reg.prgJoin ∧ (paired 0x71 {}).standby = true) ∧
      ((paired 0x62 {}).layActive = true ∧ (paired 0x62 {}).prgState = 2) ∧
      (let s : State := { paired 0x63 { captures := [.lfw], followFrom := 2 } with
                          reg := [(rkey tmuPage Reg.tmuWaleCtl, 0x21), (rkey prgPage Reg.prgStatus, 0x63)] }
       s.layActive = true ∧ s.capturePoint .lfw = true) ∧
      (paired 0x73 {}).standby = true ∧ up.standby = false ∧ up.layActive = false ∧
      (let s : State := { paired 0x73 { clean := 400 } with
                          reg := [(rkey tmuPage Reg.tmuWaleCtl, 0x21), (rkey prgPage Reg.prgStatus, 0x73),
                                  (rkey prgPage Reg.prgJoin, 0)] }
       s.prgState = 3 ∧ s.standby = true ∧ waleGe s.wale s.prg.followFrom = true ∧
         s.rf prgPage Reg.prgJoin 31 16 ≤ (s.wale + 2 ^ 32 - s.prg.followFrom) % 2 ^ 32) ∧
      (let s := { paired 0x75 {} with reg := [(rkey tmuPage Reg.tmuWaleCtl, 0x21), (rkey prgPage Reg.prgStatus, 0x75)] }
       s.prgState = 5 ∧ s.standby = true ∧ 2 ≤ (s.wale + 2 ^ 32 - s.prg.lagAt) % 2 ^ 32) ∧
      up.Opens .pf prgPage Reg.tblData ∧ up.paired = false := by
  refine ⟨⟨⟨?_, ?_, ?_, ?_, ?_⟩, ?_, ?_⟩, ?_, ⟨?_, ?_, ?_, ?_, ?_⟩, ⟨?_, ?_⟩, ?_, ⟨⟨?_, ?_, ?_, ?_, ?_⟩, ?_, ?_⟩,
    ⟨⟨?_, ?_, ?_, ?_, ?_⟩, ?_, ?_⟩, ⟨?_, ?_, ?_, ?_, ?_⟩, ⟨?_, ?_, ?_, ?_⟩, ⟨?_, ?_, ?_⟩, ⟨⟨?_, ?_, ?_, ?_, ?_⟩, ?_, ?_, ?_⟩,
    ⟨⟨?_, ?_, ?_, ?_, ?_⟩, ?_⟩, ⟨?_, ?_⟩, ⟨?_, ?_⟩, ?_, ?_, ?_, ⟨?_, ?_, ?_, ?_⟩, ⟨?_, ?_, ?_⟩, ⟨?_, ?_, ?_, ?_, ?_⟩, ?_⟩ <;> decide +kernel

/-- A firmware image of 576 bytes with BOOT_SEQ 7, one section of 64 bytes and digests of zeros. -/
def fwImage : List Byte :=
  [0x44, 0x52, 0x55, 0x4E, 1, 0, 1, 0, 0, 0, 0, 0, 7, 0, 0, 0, 0x40, 2, 0, 0, 1, 0] ++ List.replicate 98 0 ++
    [0, 2, 0, 0, 64, 0, 0, 0, 1, 0, 0, 0] ++ List.replicate 444 0

/-- The bytes of TOTAL_LEN of a bank, written to zero. -/
def noTotal (bank : Nat) : NMap Byte := (List.range 4).map fun i => (bankBase bank + 16 + i, 0)

/-- The island after POR_L with that image in bank A, and with no image in the NOR. -/
def island : State := { qz := { por := false, refclk := true, nor := (fwImage.zipIdx.map fun x => (x.2, x.1)) ++ noTotal 1 } }
def blank : State := { qz := { por := false, refclk := true, nor := noTotal 0 ++ noTotal 1 } }

/-- Firmware that runs. -/
def managed : State := { reg := [(rkey 0 Reg.sysBoot, 4)], qz := { por := false, refclk := true, started := true } }

theorem blank_choose : blank.choose (false, false) = none := by
  have h : blank.choose (false, false) = none := by
    have a : ∀ b, blank.drCause (blank.bankImage b) false false = 1 ∨ 2 ≤ b := by
      intro b
      match b with
      | 0 => left; decide +kernel
      | 1 => left; decide +kernel
      | n + 2 => right; omega
    have b0 : blank.bankOk 0 = false := by
      rcases a 0 with h | h
      · simp [State.bankOk, h]
      · omega
    have b1 : blank.bankOk 1 = false := by
      rcases a 1 with h | h
      · simp [State.bankOk, h]
      · omega
    simp [State.choose, State.bankGood, b0, b1]
  exact h

/-- A reading of the functions that the spec names elsewhere, under which bank A is good. -/
theorem island_choose (hs : ∀ b, Config.sm3 b = List.replicate 32 0) (hr : Config.otpRootHash = List.replicate 32 0)
    (hv : ∀ p m s, Config.sm2Verify p m s = true) : island.choose (false, false) = some 0 := by
  have c : ∀ x, island.drCause (island.bankImage 0) x false = 0 := by
    intro x
    have h1 : slice (island.bankImage 0) 0 4 = [0x44, 0x52, 0x55, 0x4E] := by decide +kernel
    have h2 : leAt (island.bankImage 0) 4 2 = 1 ∧ drType (island.bankImage 0) = 1 ∧ drKeySel (island.bankImage 0) = 0 ∧ drSvn (island.bankImage 0) = 0 ∧
        drLayout (island.bankImage 0) = true := by decide +kernel
    have h3 : ((slice (island.bankImage 0) 22 2).all (· == 0) && (slice (island.bankImage 0) 312 136).all (· == 0)) = true := by decide +kernel
    have h4 : (drSects (island.bankImage 0)).all (fun x => List.replicate 32 0 == x.2.2.2.2) = true := by decide +kernel
    simp only [State.drCause, State.keyKnown, hs, hr, hv, h1, h2.1, h2.2.1, h2.2.2.1, h2.2.2.2.1, h2.2.2.2.2, h3, h4]
    cases x <;> decide +kernel
  have t : drType (island.bankImage 0) = 1 ∧ drKeySel (island.bankImage 0) = 0 := by decide +kernel
  have k : island.bankOk 0 = true := by simp [State.bankOk, c, t]
  have g : island.bankGood (false, false) 0 = true := by simp [State.bankGood, k, c]
  have n : island.drCause (island.bankImage 1) false false = 1 := by decide +kernel
  have k1 : island.bankOk 1 = false := by simp [State.bankOk, n]
  simp [State.choose, k, k1, g]

theorem witness_PowerAndBoot :
    ({} : State).qz.por = true ∧ island.qz.por = false ∧ island.bootStage = 0 ∧ island.qz.restart = false ∧
      island.qz.started = false ∧ blank.bootStage = 0 ∧ blank.qz.mb = none ∧ blank.qz.down = false ∧ blank.mainOn = false ∧
      blank.qz.refclk = true ∧ ({ blank with qz := { blank.qz with refclk := false } } : State).mainOn = false ∧
      managed.fwRuns = true ∧ managed.qz.down = false ∧ managed.mainOn = false ∧ blank.fwRuns = false ∧
      (let s : State := { managed with qz := { managed.qz with seq := 2 } }
       s.qz.seq ≠ 0 ∧ s.mainOn = true ∧ s.qz.seq = 2 ∧ s.qz.stuck = none) ∧ up.qz.mainOk = true := by
  refine ⟨?_, ?_, ?_, ?_, ?_, ?_, ?_, ?_, ?_, ?_, ?_, ?_, ?_, ?_, ?_, ⟨?_, ?_, ?_, ?_⟩, ?_⟩ <;> decide +kernel

/-- A platform record without permits, of 376 bytes: 4 channels of one 32 GB DIMM, Ethernet cage 0 and SFP cage 0. -/
def platRec : List Byte :=
  [0x54, 0x5A, 0x50, 0x52, 1, 0, 0x78, 1] ++ List.replicate 36 0 ++ [4, 1, 32, 0] ++ [0xE8, 3, 0, 0] ++
    List.replicate 252 0 ++ [1, 1] ++ List.replicate 70 0

/-- Firmware runs, and the owner's hash is written; the NOR holds the record, and both cages have a module. -/
def boarded : State :=
  { reg := [(rkey 0 Reg.sysBoot, 4)]
    qz := { por := false, started := true, nor := platRec.zipIdx.map fun x => (0x1000000 + x.2, x.1), present := [0, 8]
            ownerHash := List.replicate 32 1 } }

/-- The same board once the record is accepted. -/
def accepted : State := { boarded with qz := { boarded.qz with platRead := true, plat := some platRec } }

/-- Bytes 0 to 95 of an SFP of 2.5 GBd. -/
def sfpMem : List Byte := 3 :: (List.replicate 11 0 ++ [25] ++ List.replicate 50 0 ++ [28] ++ List.replicate 32 0)

/-- An accepted record needs the owner's signature: a reading of the functions that the spec names elsewhere. -/
theorem boarded_signed (hs : ∀ b, Config.sm3 b = List.replicate 32 1) (hv : ∀ p m s, Config.sm2Verify p m s = true) :
    boarded.platSigned [] boarded.platBytes = true := by
  have h : boarded.qz.ownerHash = List.replicate 32 1 := by decide +kernel
  simp [State.platSigned, hs, hv, h]

/-- A memory of zeros is that of a DIMM of 32 GB under a reading of the decoder of the SPD. -/
theorem dimm_verified (hd : ∀ b, Config.spdRdimm b = some 32) : dimmCause platRec 0 [] = 0 := by
  have h : leAt [] 510 2 = crc16 (([] : List Byte).take 510) := by decide +kernel
  have g : leAt platRec 46 2 = 32 ∧ fb platRec 44 = 4 ∧ fb platRec 45 = 1 := by decide +kernel
  unfold dimmCause
  rw [h, hd, g.1, g.2.1, g.2.2]
  decide

theorem witness_PlatformAndIdentity :
    boarded.fwRuns = true ∧ boarded.qz.platRead = false ∧ boarded.platCause boarded.platBytes = 0 ∧
      (∀ k, k < 12 → platFitted boarded.platBytes k = boarded.qz.present.contains k) ∧
      boarded.rb (escPage 0) Reg.escCeil 31 = false ∧ ({ boarded with qz := { boarded.qz with present := [] } } : State).fwRuns = true ∧
      (platFitted boarded.platBytes 0 = true ∧ ¬ platFitted boarded.platBytes 0 = ([] : List Nat).contains 0) ∧
      accepted.fwRuns = true ∧ accepted.qz.plat = some platRec ∧ cageOf 3 0 < 12 ∧
      accepted.qz.present.contains (cageOf 3 0) = true ∧ sfpCause platRec sfpMem = 0 ∧
      sfpCause platRec [] ≠ 0 ∧ dimmCause platRec 0 [1] ≠ 0 ∧
      platFitted platRec 0 = true ∧ accepted.qz.retry.contains (1, 0) = false ∧
      ({ accepted with qz := { accepted.qz with retry := [(1, 0)] } } : State).qz.retry.contains (1, 0) = true ∧
      accepted.qz.present.contains (cageOf 2 1) = false := by
  refine ⟨?_, ?_, ?_, ?_, ?_, ?_, ⟨?_, ?_⟩, ?_, ?_, ?_, ?_, ?_, ?_, ?_, ?_, ?_, ?_, ?_⟩ <;> decide +kernel

/-- Firmware runs under an armed watchdog of 100 ms, kicked at 0, and the true time is 100 ms. -/
def watched : State :=
  { clk := { tru := 100000000 }
    reg := [(rkey 0 Reg.sysBoot, 4), (rkey 2 Reg.qzmWdt, 1 + 100 * 65536)], qz := { por := false, started := true } }

/-- That image waits for its restart with a request outstanding. -/
def expired : State :=
  { island with reg := [(rkey 2 Reg.qzmWdt, 3 + 100 * 65536)]
                qz := { island.qz with restart := true, started := true, mb := some (9, 4) } }

/-- Slath's choice rests on the NOR, on what the OTP holds and on the platform record alone. -/
theorem choose_of_qz (s t : State) (e : Bool × Bool) (h : s.qz.nor = t.qz.nor) (v : s.qz.svnFw = t.qz.svnFw)
    (o : s.qz.ownerHash = t.qz.ownerHash) (p : s.qz.plat = t.qz.plat) : s.choose e = t.choose e := by
  have i : s.bankImage = t.bankImage := by unfold State.bankImage State.norBytes; rw [h]
  have c : s.drCause = t.drCause := by
    unfold State.drCause State.keyKnown State.ownerSet State.minSvcSvn
    rw [v, o, p]
  have k : s.bankOk = t.bankOk := by unfold State.bankOk; rw [i, c]
  have g : s.bankGood = t.bankGood := by unfold State.bankGood; rw [i, c, k]
  unfold State.choose
  rw [i, k, g]

theorem expired_choose (hs : ∀ b, Config.sm3 b = List.replicate 32 0) (hr : Config.otpRootHash = List.replicate 32 0)
    (hv : ∀ p m s, Config.sm2Verify p m s = true) : expired.choose (false, false) = some 0 :=
  (choose_of_qz expired island _ rfl rfl rfl rfl).trans (island_choose hs hr hv)

theorem witness_Watchdog :
    ({} : State).rb qzPage Reg.qzmWdt 0 = false ∧ watched.rb qzPage Reg.qzmWdt 0 = true ∧ watched.qz.half = false ∧ watched.bootStage = 1 ∧
      ({ watched with qz := { watched.qz with half := true } } : State).qz.half = true ∧
      (({ watched with clk := {} } : State).clk.tru < watched.qz.kick + watched.rf qzPage Reg.qzmWdt 31 16 * 1000000) ∧
      watched.qz.kick + watched.rf qzPage Reg.qzmWdt 31 16 * 1000000 ≤ watched.clk.tru ∧ watched.qz.mb = none ∧
      (expired.qz.mb = some (9, 4) ∧ expired.qz.por = false ∧ expired.bootStage = 0 ∧ expired.qz.restart = true ∧
        expired.qz.started = true) ∧
      (let s : State := { watched with reg := watched.reg ++ [(rkey 2 Reg.qzmReqBuf, 0x20)]
                                       qz := { watched.qz with mb := some (1, 16) } }
       s.qz.mb = some (1, 16) ∧ (s.rd qzPage Reg.qzmReqBuf).toNat % 65536 = 0x0020) := by
  refine ⟨?_, ?_, ?_, ?_, ?_, ?_, ?_, ?_, ⟨?_, ?_, ?_, ?_, ?_⟩, ?_, ?_⟩ <;> decide +kernel

/-- Firmware runs with the main domain up, a sensor twice above 115 °C, a rail low for 1 ms, and a record due for the
mirror. -/
def sensed : State :=
  { clk := { tru := 2000000 }, reg := [(rkey 0 Reg.sysBoot, 4)]
    qz := { por := false, started := true, mainOk := true, pwrEn := true, hot := [(3, 2)], under := [(0, some 1000000)]
            voltRun := [(1, (9, 0)), (2, (0, 9))], levels := [10], flush := true
            log := [(0, { code := 0x1200, page := 2, sev := 1, forced := false, wale := 0, arg := 0, arg2 := 0 }, 0)] } }

theorem witness_SensorsAndMirror :
    sensed.qz.por = false ∧ NMap.wf (fun _ => none) sensed.qz.temp ∧ sensed.fwRuns = true ∧
      sensed.qz.tempThr = [] ∧ 10 ∈ sensed.qz.levels ∧
      2 ≤ NMap.get (fun _ => 0) sensed.qz.hot 3 ∧ sensed.qz.tripped = false ∧ sensed.qz.mainOk = true ∧
      (NMap.get (fun _ => (0, 0)) sensed.qz.voltRun 1).1 = 9 ∧ 700 < (sensed.voltThr 1).1 ∧
      (NMap.get (fun _ => (0, 0)) sensed.qz.voltRun 2).2 = 9 ∧ (sensed.voltThr 2).1 ≤ 800 ∧ (sensed.voltThr 2).2 < 800 ∧
      sensed.qz.voltThr = [] ∧ monitorRail 0 < 5 ∧ 10 * 600 < 9 * sensed.railSet (monitorRail 0) ∧
      NMap.get (fun _ => none) sensed.qz.under 0 = some 1000000 ∧ 1000000 + 1000000 ≤ sensed.clk.tru ∧
      ({} : State).qz.por = true ∧ railAllows 0 700 = true ∧ railAllows 0 699 = false ∧ sensed.mirrorDue = true ∧
      (sensed.unmirrored.map (·.1) = [0]) ∧ sensed.qz.mirrorAt < 2048 ∧ ({} : State).fwRuns = false ∧
      ({} : State).mirrorDue = false ∧
      ({ sensed with qz := { sensed.qz with mainOk := false } } : State).qz.mainOk = false := by
  refine ⟨?_, ?_, ?_, ?_, ?_, ?_, ?_, ?_, ?_, ?_, ?_, ?_, ?_, ?_, ?_, ?_, ?_, ?_, ?_, ?_, ?_, ?_, ?_, ?_, ?_, ?_, ?_⟩ <;>
    decide +kernel

/-- Registers with a request of some bytes in the buffer, in the firmware stage. -/
def mailWith (bs : List Byte) : NMap Word :=
  [(rkey 0 Reg.sysBoot, 4)] ++
    (List.range ((bs.length + 3) / 4)).map fun i =>
      (rkey 2 (Reg.qzmReqBuf + 4 * i), BitVec.ofNat 32 (leNat (slice bs (4 * i) (min 4 (bs.length - 4 * i)))))

/-- Firmware runs with the main domain up, and a request with tag 5 waits. -/
def asking (bs : List Byte) : State :=
  { reg := mailWith bs
    qz := { por := false, perst := false, mainOk := true, pwrEn := true, started := true, mb := some (5, bs.length) } }

/-- The same firmware with the main domain held. -/
def askingHeld (bs : List Byte) : State := { asking bs with qz := { (asking bs).qz with mainOk := false } }

/-- In recovery. -/
def recovering (bs : List Byte) : State := { asking bs with reg := (rkey 0 Reg.sysBoot, 8) :: (mailWith bs).tail }

/-- A request of n bytes. -/
def request (cmd : Byte) (rest : List Byte) : List Byte := [cmd, 0, 0, 0] ++ rest

theorem asked_of (s : State) (cmd n tag len : Nat) (h : s.qz.mb = some (tag, len)) (l : n ≤ len) (c : s.mbCmd = cmd)
    (b : s.bootStage ≠ 0) (a : s.mbAllowed cmd = true) : s.Asked cmd n tag := ⟨⟨len, h, l⟩, c, b, a⟩

theorem witness_MailboxProtocol :
    (let s : State := { asking (request 1 []) with qz := { (asking (request 1 [])).qz with mb := none } }
     s.Opens .pf qzPage Reg.qzmMbDoorbell ∧ s.qz.mb = none ∧ s.mbAllowed s.mbCmd = true) ∧
      (asking (request 1 [])).Opens .pf qzPage Reg.qzmMbDoorbell ∧
      (let s : State := { asking (request 0x24 []) with qz := { (asking (request 0x24 [])).qz with mb := none } }
       s.mbAllowed s.mbCmd = false) ∧
      Instr.mailbox .getInfo = some (1, 4) ∧ (asking (request 1 [])).Asked 1 4 5 ∧
      (recovering (request 2 [])).mbAllowed 2 = false ∧ (recovering (request 2 [])).mbCmd = 2 ∧
      (askingHeld (request 2 (List.replicate 12 1))).Asked 2 16 5 ∧
      (asking (request 0x20 (List.replicate 12 0))).Asked 0x20 16 5 ∧
      (asking (request 2 (List.replicate 12 0))).Asked 2 16 5 ∧
      ((asking (request 2 (List.replicate 12 0))).req 4 8 = 0 ∧ (asking (request 2 (List.replicate 12 0))).req 12 4 = 0 ∧
        (asking (request 2 (List.replicate 12 0))).genState = 0) ∧
      2 ^ 48 ≤ (asking (request 2 (List.replicate 12 1))).req 4 8 ∧
      (asking (request 3 [1, 0, 0, 0])).Asked 3 8 5 ∧
      (asking (request 3 [1, 0, 0, 0])).rf tmuPage Reg.tmuJumpThr 16 0 ≠ 0 ∧
      (BitVec.ofNat 32 ((asking (request 3 [1, 0, 0, 0])).req 4 4)).toInt.natAbs ≤
        (asking (request 3 [1, 0, 0, 0])).rf tmuPage Reg.tmuJumpThr 16 0 ∧
      (asking (request 3 [0, 0, 0, 1])).rf tmuPage Reg.tmuJumpThr 16 0 <
        (BitVec.ofNat 32 ((asking (request 3 [0, 0, 0, 1])).req 4 4)).toInt.natAbs ∧
      (let s := asking (request 4 ([3, 0, 0, 0, 0, 1, 0, 0, 8, 0] ++ List.replicate 130 0))
       s.Asked 4 144 5 ∧ s.req 9 1 ≤ 1 ∧ s.req 12 2 ≠ 0) := by
  refine ⟨⟨?_, ?_, ?_⟩, ?_, ?_, ?_, asked_of _ _ _ _ 4 ?_ ?_ ?_ ?_ ?_, ?_, ?_, asked_of _ _ _ _ 16 ?_ ?_ ?_ ?_ ?_,
    asked_of _ _ _ _ 16 ?_ ?_ ?_ ?_ ?_, asked_of _ _ _ _ 16 ?_ ?_ ?_ ?_ ?_, ⟨?_, ?_, ?_⟩, ?_,
    asked_of _ _ _ _ 8 ?_ ?_ ?_ ?_ ?_, ?_, ?_, ?_, asked_of _ _ _ _ 144 ?_ ?_ ?_ ?_ ?_, ?_, ?_⟩ <;>
    first
    | decide +kernel
    | exact ⟨by decide +kernel, by decide +kernel, by decide +kernel, by decide +kernel, by decide +kernel⟩

/-- A container of a type with one section of 64 bytes and digests of zeros. -/
def container (type : Byte) : List Byte := fwImage.set 6 type

/-- What the checks of R645 ask of a container beside its signature, its key and its versions, with digests of zeros. -/
def wellMade (b : List Byte) : Bool :=
  decide (slice b 0 4 = [0x44, 0x52, 0x55, 0x4E]) && decide (leAt b 4 2 = 1) && decide (1 ≤ drType b ∧ drType b ≤ 3) &&
    ((slice b 22 2).all (· == 0) && (slice b 312 136).all (· == 0)) && drLayout b && decide (drKeySel b = 0) &&
    decide (drSvn b = 0) && (drSects b).all fun x => List.replicate 32 0 == x.2.2.2.2

/-- Such a container verifies under a reading of the functions that the spec names elsewhere. -/
theorem container_verified (hs : ∀ b, Config.sm3 b = List.replicate 32 0) (hr : Config.otpRootHash = List.replicate 32 0)
    (hv : ∀ p m s, Config.sm2Verify p m s = true) (s : State) (b : List Byte) (h : wellMade b = true)
    (h0 : s.qz.svnFw = 0) (hp : s.qz.plat = none) : s.drCause b true false = 0 := by
  simp only [wellMade, Bool.and_eq_true, decide_eq_true_eq] at h
  obtain ⟨⟨⟨⟨⟨⟨⟨h1, h2⟩, h3⟩, h4⟩, h5⟩, h6⟩, h7⟩, h8⟩ := h
  have z : ((slice b 22 2).all (· == 0) && (slice b 312 136).all (· == 0)) = true := by
    simp only [Bool.and_eq_true]; exact h4
  simp only [State.drCause, State.keyKnown, State.minSvcSvn, hs, hr, hv, h0, hp, h1, h2, h5, h6, h7, h8, z]
  simp [h3.1, h3.2]

theorem containers_well_made :
    wellMade (container 1) = true ∧ wellMade (container 2) = true ∧ wellMade (container 3) = true := by
  refine ⟨?_, ?_, ?_⟩ <;> decide +kernel

/-- DRAM trained and a region for images, with a request of a bus address, a length of 576 and image 2. -/
def loading (cmd : Byte) : State :=
  let s := asking (request cmd (List.replicate 8 0 ++ [0x40, 2, 0, 0, 2, 0]))
  { s with reg := s.reg ++ [(rkey 0x080 Reg.pageReady, 1)], qz := { s.qz with region := some (0, 57344) } }

theorem loading_place : (loading 0x11).freePlace (loading 0x11).freeNat = some 0 := by
  have h : (loading 0x11).imagesHeld = [] := by decide +kernel
  have r : (loading 0x11).qz.region = some (0, 57344) := by decide +kernel
  have n : (0 + 57344 - (0 + 63) / 64 * 64) / imageSpan = 1 := by decide +kernel
  have o : (List.range 1) = [0] := by decide
  simp only [State.freePlace, r, h, n, o, List.map_cons, List.map_nil, Nat.mod_one, List.find?, List.all_nil]
  decide

theorem witness_MailboxInstalls :
    (asking (request 0x10 (List.replicate 16 0))).Asked 0x10 20 5 ∧
      (asking (request 0x10 (List.replicate 16 0))).imagesHeld = [] ∧
      ({ up with tbl := [(tkey rvePage 1 0 2, [0, 0, 4, 1])] } : State).imagesHeld ≠ [] ∧
      (loading 0x11).Asked 0x11 18 5 ∧ (loading 0x11).req 16 2 = 2 ∧ (container 2).length = (loading 0x11).req 12 4 ∧
      drType (container 2) = 2 ∧ drType (container 3) = 3 ∧ drType (container 1) = 1 ∧ (loading 0x11).drcReady = true ∧
      (loading 0x11).qz.mainOk = true ∧ (loading 0x11).imageNamed 2 = false ∧ drBytes (container 2) 1 ≠ [] ∧
      (asking (request 0x12 [2, 0])).Asked 0x12 6 5 ∧ (asking (request 0x12 [2, 0])).req 4 2 = 2 ∧
      (asking (request 0x12 [2, 0])).imageNamed 2 = false ∧
      (loading 0x20).Asked 0x20 16 5 ∧ (loading 0x20).qz.bootSeq ≤ drSeq (container 1) ∧
      (loading 0x20).rf 0 Reg.sysBoot 0 0 = 0 ∧
      (asking (request 0x21 [1, 0, 0, 0])).Asked 0x21 8 5 ∧
      (let s : State := { asking (request 0x21 [1, 0, 0, 0]) with
                            reg := (rkey 0 Reg.sysBoot, 4) :: (rkey 0 Reg.sysBootSvn, 3) ::
                              (mailWith (request 0x21 [1, 0, 0, 0])).tail }
       s.rb 0 Reg.sysBoot 1 = false ∧ s.qz.svnFw < (s.rd 0 Reg.sysBootSvn).toNat ∧ s.req 4 4 % 2 = 1) ∧
      (loading 0x22).Asked 0x22 16 5 ∧ (loading 0x22).platCause [] ≠ 0 ∧
      (asking (request 0x23 (List.replicate 32 7))).Asked 0x23 36 5 ∧
      (asking (request 0x23 (List.replicate 32 7))).ownerSet = false ∧
      (recovering (request 0x24 (List.replicate 8 0 ++ [0x40, 2, 0, 0]))).Asked 0x24 16 5 ∧
      (recovering (request 0x24 (List.replicate 8 0 ++ [0x40, 2, 0, 0]))).req 12 4 = (container 1).length := by
  refine ⟨asked_of _ _ _ _ 20 ?_ ?_ ?_ ?_ ?_, ?_, ?_, asked_of _ _ _ _ 18 ?_ ?_ ?_ ?_ ?_, ?_, ?_, ?_, ?_, ?_, ?_, ?_, ?_, ?_,
    asked_of _ _ _ _ 6 ?_ ?_ ?_ ?_ ?_, ?_, ?_, asked_of _ _ _ _ 18 ?_ ?_ ?_ ?_ ?_, ?_, ?_,
    asked_of _ _ _ _ 8 ?_ ?_ ?_ ?_ ?_, ⟨?_, ?_, ?_⟩, asked_of _ _ _ _ 18 ?_ ?_ ?_ ?_ ?_, ?_,
    asked_of _ _ _ _ 36 ?_ ?_ ?_ ?_ ?_, ?_, asked_of _ _ _ _ 16 ?_ ?_ ?_ ?_ ?_, ?_⟩ <;> decide +kernel

/-- A LOG_READ of 2 records from number 0 on, with one record of that number in the log. -/
def logged : State :=
  let s := asking (request 0x40 (List.replicate 8 0 ++ [2, 0]))
  { s with qz := { s.qz with log := sensed.qz.log } }

theorem logged_in_log : (0, (sensed.qz.log.map fun x => x.2.1.bytes).headD []) ∈ logged.logAll := by
  refine List.mem_append_right _ ?_
  decide +kernel

theorem witness_MailboxTells :
    (asking (request 0x30 (List.replicate 32 9))).Asked 0x30 36 5 ∧
      ({ asking (request 0x30 (List.replicate 32 9)) with
          qz := { (asking (request 0x30 (List.replicate 32 9))).qz with aliasKey := some 7 } } : State).qz.aliasKey = some 7 ∧
      (asking (request 0x31 (6 :: List.replicate 32 9))).Asked 0x31 37 5 ∧
      (asking (request 0x31 (6 :: List.replicate 32 9))).req 4 1 = 6 ∧
      (asking (request 0x31 (5 :: List.replicate 32 9))).req 4 1 = 5 ∧
      logged.Asked 0x40 14 5 ∧ logged.req 12 2 ≤ 255 ∧ logged.req 4 8 = 0 ∧
      (asking (request 0x40 (List.replicate 8 0 ++ [0, 1]))).req 12 2 = 256 ∧
      (asking (request 0x41 [])).Asked 0x41 4 5 ∧ (asking (request 0x41 [])).qz.regulators.length ≤ 600 ∧
      (asking (request 0x42 [3, 0, 0, 0x70, 3])).Asked 0x42 9 5 ∧ (asking (request 0x42 [3, 0, 0, 0x70, 3])).req 4 1 = 3 ∧
      (asking (request 0x42 [3, 0, 0, 0x70, 3])).req 7 2 = 880 ∧ (asking (request 0x42 [24, 0, 0, 1, 0])).req 4 1 = 24 ∧
      (asking (request 0x42 [40, 0, 0, 1, 0])).req 4 1 = 40 ∧
      (asking (request 0x43 [2, 1])).Asked 0x43 6 5 ∧ (asking (request 0x43 [2, 1])).req 4 1 = 2 ∧
      (asking (request 0x43 [4, 1])).req 4 1 = 4 := by
  refine ⟨asked_of _ _ _ _ 36 ?_ ?_ ?_ ?_ ?_, ?_, asked_of _ _ _ _ 37 ?_ ?_ ?_ ?_ ?_, ?_, ?_,
    asked_of _ _ _ _ 14 ?_ ?_ ?_ ?_ ?_, ?_, ?_, ?_, asked_of _ _ _ _ 4 ?_ ?_ ?_ ?_ ?_, ?_,
    asked_of _ _ _ _ 9 ?_ ?_ ?_ ?_ ?_, ?_, ?_, ?_, ?_, asked_of _ _ _ _ 6 ?_ ?_ ?_ ?_ ?_, ?_, ?_⟩ <;> decide +kernel

theorem witness_StepTakesFront : ({} : State).pending = [] ∧ ({} : State).qz.mainOk = false ∧ up.qz.mainOk = true := by
  refine ⟨?_, ?_, ?_⟩ <;> decide

theorem witness_StepKeepsCanonicalForm : State.canonical { up with pending := [.getInfo] } := by decide

theorem witness_GridPhaseIsFixedWhileRunning :
    (let s : State := { up with reg := [(rkey tmuPage Reg.tmuWaleCtl, 0x21)] }
     s.Opens .pf tmuPage Reg.tmuGridPhase ∧ s.rf tmuPage Reg.tmuWaleCtl 5 4 ≠ 0) := by
  exact ⟨⟨by decide, by decide, by decide, by decide, by decide⟩, by decide⟩

theorem witness_ArmOnArmedPageIsDiscarded :
    (let s : State := { up with reg := [(rkey iclPage Reg.cmtStatus, 1)] }
     s.Opens .pf iclPage Reg.cmtCtl ∧ (pageCaps iclPage).cmt = true ∧ s.armed iclPage = true ∧
       s.rb iclPage Reg.errInfo 31 = false) ∧
      ({ up with reg := [(rkey iclPage Reg.errInfo, 0x80000000)] } : State).rb iclPage Reg.errInfo 31 = true := by
  exact ⟨⟨⟨by decide, by decide, by decide, by decide, by decide⟩, by decide, by decide, by decide⟩, by decide⟩

end Sys2Proof.Tests
end

section
/-!
SUPPORT. The canonical form of a state as a predicate of its own, with one rule per shape that a definition of the model can
have: a record update that leaves the maps alone, a branch, a fold, a pair, an option, an outcome.
-/

namespace Sys2Proof.Machine

/-- `State.canonical` with named parts, opaque to unification. -/
structure State.Canon (s : State) : Prop where
  regs : NMap.wf regDefault s.reg
  tables : NMap.wf tblDefault s.tbl
  mems : Memory.wf s.mem

theorem State.canon_iff {s : State} : s.Canon ↔ s.canonical := ⟨fun h => ⟨h.1, h.2, h.3⟩, fun h => ⟨h.1, h.2.1, h.2.2⟩⟩

/-- The state of a pair is in canonical form. -/
def CanonFst {α : Type} (p : State × α) : Prop := p.1.Canon

/-- The state of an optional pair, where there is one, is in canonical form. -/
def CanonSome {α : Type} (o : Option (State × α)) : Prop := ∀ p, o = some p → CanonFst p

/-- An optional state, where there is one, is in canonical form. -/
def CanonOpt (o : Option State) : Prop := ∀ t, o = some t → t.Canon

/-- The next state, where an outcome has one, is in canonical form. -/
def CanonNext (o : Host.Outcome State Fault Refusal) : Prop := ∀ t, o = .next t → t.Canon

section Shapes
variable {s t : State} {α β : Type} {c : Prop} [Decidable c]

theorem State.Canon.of_same (h : s.Canon) (hr : t.reg = s.reg := by rfl) (ht : t.tbl = s.tbl := by rfl)
    (hm : t.mem = s.mem := by rfl) : t.Canon :=
  ⟨hr ▸ h.regs, ht ▸ h.tables, hm ▸ h.mems⟩

/-- Of a clock alone, with the record a variable: the kernel compares no clock's value. -/
theorem State.Canon.withClk (h : s.Canon) {k : Clk} : State.Canon { s with clk := k } := h.of_same

theorem State.Canon.ite (hs : s.Canon) (ht : t.Canon) : (if c then s else t).Canon := by
  split
  · exact hs
  · exact ht

theorem State.Canon.foldl {f : State → β → State} {l : List β} (h : s.Canon)
    (hf : ∀ s : State, s.Canon → ∀ x, (f s x).Canon) : (l.foldl f s).Canon := by
  induction l generalizing s with
  | nil => exact h
  | cons x r ih => exact ih (hf s h x)

theorem State.Canon.pair {x : α} (h : s.Canon) : CanonFst (s, x) := h
theorem State.Canon.some (h : s.Canon) : CanonOpt (some s) := by rintro _ ⟨⟩; exact h
theorem State.Canon.next (h : s.Canon) : CanonNext (.next s) := by rintro _ ⟨⟩; exact h

theorem CanonSome.none : CanonSome (none : Option (State × α)) := fun _ e => by simp at e
theorem CanonOpt.none : CanonOpt none := fun _ e => by simp at e

theorem CanonFst.fst {p : State × α} (h : CanonFst p) : p.1.Canon := h
theorem CanonFst.of_eq {p : State × α} {x : α} (h : CanonFst p) (e : p = (s, x)) : s.Canon := by subst e; exact h
theorem CanonFst.some {p : State × α} (h : CanonFst p) : CanonSome (some p) := by rintro _ ⟨⟩; exact h
theorem CanonSome.of_eq {o : Option (State × α)} {p : State × α} (h : CanonSome o) (e : o = some p) : CanonFst p := h _ e
theorem CanonOpt.of_eq {o : Option State} (h : CanonOpt o) (e : o = some s) : s.Canon := h _ e

theorem CanonFst.ite {p q : State × α} (hp : CanonFst p) (hq : CanonFst q) : CanonFst (if c then p else q) := by
  split
  · exact hp
  · exact hq

theorem CanonSome.ite {p q : Option (State × α)} (hp : CanonSome p) (hq : CanonSome q) : CanonSome (if c then p else q) := by
  split
  · exact hp
  · exact hq

theorem CanonOpt.ite {p q : Option State} (hp : CanonOpt p) (hq : CanonOpt q) : CanonOpt (if c then p else q) := by
  split
  · exact hp
  · exact hq

theorem CanonNext.ite {p q : Host.Outcome State Fault Refusal} (hp : CanonNext p) (hq : CanonNext q) :
    CanonNext (if c then p else q) := by
  split
  · exact hp
  · exact hq

theorem CanonFst.foldl {f : State × α → β → State × α} {p : State × α} {l : List β} (h : CanonFst p)
    (hf : ∀ p, CanonFst p → ∀ x, CanonFst (f p x)) : CanonFst (l.foldl f p) := by
  induction l generalizing p with
  | nil => exact h
  | cons x r ih => exact ih (hf p h x)

end Shapes
end Sys2Proof.Machine
end

section
/-!
SUPPORT. Every operation of the model keeps the canonical form, one lemma for each, in the order and under the names of the
model's files. A proof mirrors its definition: a chain of operations is a chain of their lemmas, a branch is `.ite`, a fold is
`.foldl`, a `match` is a `split`; a `let` that several operations read gets a `have` of its own. The maps themselves are
written by `wr`, `tset`, `setMem` and the few operations that filter them, and there the laws of `NMap` are used.
-/

namespace Sys2Proof.Machine

-- One thread after the other: a thread per proof needs more stack space than the check leaves.
set_option Elab.async false

variable {s : State}

/-! ## Sys2Proof/Machine/State.lean -/

theorem State.Canon.reset : State.reset.Canon := ⟨NMap.wf_nil, NMap.wf_nil, Memory.wf_empty⟩

/-! ## Sys2Proof/Machine/Ops.lean -/

theorem State.Canon.wr (h : s.Canon) {p o v} : (s.wr p o v).Canon := ⟨NMap.wf_set _ _ h.regs, h.tables, h.mems⟩
theorem State.Canon.wfld (h : s.Canon) {p o hi lo v} : (s.wfld p o hi lo v).Canon := h.wr
theorem State.Canon.wr64 (h : s.Canon) {p lo hi v} : (s.wr64 p lo hi v).Canon := h.wr.wr
theorem State.Canon.seqUp (h : s.Canon) {p o} : (s.seqUp p o).Canon := h.wfld
theorem State.Canon.setPg (h : s.Canon) {p} {f : PageSt → PageSt} : (s.setPg p f).Canon := h.of_same
theorem State.Canon.setPrg (h : s.Canon) {f : PrgSt → PrgSt} : (s.setPrg f).Canon := h.of_same
theorem State.Canon.passWales (h : s.Canon) {n} : (s.passWales n).Canon := .ite h.of_same.wr h.of_same
theorem State.Canon.waleFresh (h : s.Canon) : s.waleFresh.Canon := h.of_same
theorem State.Canon.idleWale (h : s.Canon) {w0} : (s.idleWale w0).Canon := .ite h.of_same h
theorem State.Canon.moveClock (h : s.Canon) {loc} : (s.moveClock loc).Canon := h.of_same.passWales.idleWale
theorem State.Canon.advance (h : s.Canon) {k} : (s.advance k).Canon := .ite h.of_same.moveClock h.of_same
theorem State.Canon.advanceTo (h : s.Canon) {t} : (s.advanceTo t).Canon := .ite h h.advance
theorem State.Canon.atStep (h : s.Canon) {k} : (s.atStep k).Canon := h.of_same
theorem State.Canon.takeFree (h : s.Canon) : s.takeFree.Canon := h.of_same
theorem State.Canon.setCtr (h : s.Canon) {p c sub v} : (s.setCtr p c sub v).Canon := h.of_same
theorem State.Canon.bumpW (h : s.Canon) {p c sub n} : (s.bumpW p c sub n).Canon := h.setCtr
theorem State.Canon.enqueueRecord (h : s.Canon) {r} : (s.enqueueRecord r).Canon := by
  unfold State.enqueueRecord
  extract_lets _ _ s1
  have h1 : s1.Canon := .ite h.bumpW h
  exact .ite h1.bumpW (.ite h1 (.ite h1.of_same h1.of_same))
theorem State.Canon.logPut (h : s.Canon) {r} : (s.logPut r).Canon := h.of_same
theorem State.Canon.logRecord (h : s.Canon) {r} : (s.logRecord r).Canon := by
  refine .ite h ?_
  extract_lets s1
  have h1 : s1.Canon := h.logPut.bumpW
  exact .ite h1.setCtr h1
theorem State.Canon.record (h : s.Canon) {r} : (s.record r).Canon := .ite h.of_same h.of_same.logRecord.enqueueRecord
theorem State.Canon.memError (h : s.Canon) {e} : (s.memError e).Canon := .ite h.setPrg h
theorem State.Canon.markEvent (h : s.Canon) {p code} : (s.markEvent p code).Canon := .wr (.ite h.wfld h)
theorem State.Canon.raiseOnce (h : s.Canon) {p e arg arg2 forced} : (s.raiseOnce p e arg arg2 forced).Canon := by
  unfold State.raiseOnce
  extract_lets s1
  have h1 : s1.Canon := .ite h h.memError
  exact .ite h1.markEvent.record h1.markEvent
theorem State.Canon.raiseWith (h : s.Canon) {p e arg arg2 forced} : (s.raiseWith p e arg arg2 forced).Canon :=
  .ite h.raiseOnce.raiseOnce h.raiseOnce
theorem State.Canon.diverge (h : s.Canon) {cause ty} : (s.diverge cause ty).Canon :=
  .ite (.raiseWith (.ite h.setPrg.setCtr.raiseWith h.setPrg.setCtr)) h
theorem State.Canon.raise (h : s.Canon) {p e arg arg2} : (s.raise p e arg arg2).Canon :=
  .ite h.raiseWith.diverge h.raiseWith
theorem State.Canon.bumpAt (h : s.Canon) {p c sub n satOff} : (s.bumpAt p c sub n satOff).Canon := by
  unfold State.bumpAt
  split
  · exact h.bumpW
  · exact .ite h.setCtr.raise h.setCtr
theorem State.Canon.bump (h : s.Canon) {p c} : (s.bump p c).Canon := h.bumpAt
theorem State.Canon.bumpN (h : s.Canon) {p c n} : (s.bumpN p c n).Canon := h.bumpAt
theorem State.Canon.bumpLane (h : s.Canon) {p k c n} : (s.bumpLane p k c n).Canon := h.bumpAt
theorem State.Canon.accessErr (h : s.Canon) {p o cause src v} : (s.accessErr p o cause src v).Canon :=
  .ite h.bump h.bump.wr.wr.wr.raise
theorem State.Canon.tset (h : s.Canon) {p t plane e ws} : (s.tset p t plane e ws).Canon :=
  ⟨h.regs, NMap.wf_set _ _ h.tables, h.mems⟩
theorem State.Canon.tsetW (h : s.Canon) {p t plane e i w} : (s.tsetW p t plane e i w).Canon := h.tset
theorem State.Canon.tsetF (h : s.Canon) {p t plane e i hi lo v} : (s.tsetF p t plane e i hi lo v).Canon := h.tsetW
theorem State.Canon.ringIrq (h : s.Canon) {p k} : (s.ringIrq p k).Canon := .ite h.of_same h
theorem State.Canon.ringWrite (h : s.Canon) {p k ws} : (s.ringWrite p k ws).Canon := by
  unfold State.ringWrite
  extract_lets _ _ _ _ _ _ _ _ _ _ s1
  have h1 : s1.Canon := .ite h.of_same.wr.ringIrq h.of_same.wr
  exact .ite h1 h1.raise
theorem State.Canon.refreshReady (h : s.Canon) {p hostAct} : (s.refreshReady p hostAct).Canon := by
  unfold State.refreshReady
  extract_lets _ _ s1
  have h1 : s1.Canon := h.wfld.wfld
  exact .ite h1.raise (.ite h1.raise h1)
theorem State.Canon.refreshAll (h : s.Canon) {ps hostAct} : (s.refreshAll ps hostAct).Canon :=
  h.foldl fun _ h1 _ => h1.refreshReady

/-! ## Sys2Proof/Machine/Mem.lean -/

theorem State.Canon.setMem (h : s.Canon) {f : MemSt → MemSt} (hf : Memory.wf s.mem → Memory.wf (f s.mem)) :
    (s.setMem f).Canon := ⟨h.regs, h.tables, hf h.mems⟩
theorem State.Canon.rangeErr (h : s.Canon) {a} : (s.rangeErr a).Canon := by
  unfold State.rangeErr
  extract_lets s1
  have h1 : s1.Canon := h.bump
  exact .ite h1 h1.of_same.raise
theorem State.Canon.dramSet (h : s.Canon) {a b} : (s.dramSet a b).Canon := by
  have hm := State.wf_dramSet a b h.mems
  unfold State.dramSet at hm ⊢
  split_ifs at hm ⊢
  · exact h
  · exact ⟨h.regs, h.tables, hm⟩
  · exact ⟨h.regs, h.tables, hm⟩
theorem State.Canon.dramFill (h : s.Canon) {a bs} : (s.dramFill a bs).Canon := by
  induction bs generalizing s a with
  | nil => exact h
  | cons b r ih => exact ih h.dramSet
theorem State.Canon.dramPut (h : s.Canon) {a bs} : (s.dramPut a bs).Canon := .ite h.dramFill (h.dramFill.setMem id)
theorem State.Canon.sramPut (h : s.Canon) {a bs} : (s.sramPut a bs).Canon :=
  ⟨h.regs, h.tables, State.wf_sramPut a bs h.mems⟩
theorem State.Canon.pktPut (h : s.Canon) {a bs} : (s.pktPut a bs).Canon :=
  ⟨h.regs, h.tables, State.wf_pktPut a bs h.mems⟩
theorem State.Canon.strayWrite (h : s.Canon) {src o v} : (s.strayWrite src o v).Canon := h.accessErr
theorem State.Canon.access (h : s.Canon) {src p o v} {k : State → State} (hk : ∀ s, s.Canon → (k s).Canon) :
    (s.access src p o v k).Canon :=
  .ite h (.ite h.strayWrite (.ite h.accessErr (.ite (hk _ h.setPrg) (hk _ h))))
theorem State.Canon.applying (h : s.Canon) {k : State → State} (hk : ∀ s, s.Canon → (k s).Canon) :
    (s.applying k).Canon := by
  unfold State.applying
  exact (hk _ h.setPrg).setPrg
theorem State.Canon.portAccess (h : s.Canon) {port p o v} {k : State → State} (hk : ∀ s, s.Canon → (k s).Canon) :
    (s.portAccess port p o v k).Canon :=
  .ite (h.access hk) (.ite h (hk _ h))
theorem State.Canon.portRequest (h : s.Canon) {port p args go} {k : State → State}
    (hk : ∀ s, s.Canon → (k s).Canon) : (s.portRequest port p args go k).Canon := by
  induction args generalizing s with
  | nil => exact h.portAccess hk
  | cons a r ih => exact .ite (h.access fun _ h1 => ih h1.wr) (.ite h (hk _ h))
theorem State.Canon.tblRefuse (h : s.Canon) {src p cause ws} : (s.tblRefuse src p cause ws).Canon := h.accessErr

/-! ## Sys2Proof/Machine/Task.lean -/

theorem State.Canon.setRve (h : s.Canon) {f : RveSt → RveSt} : (s.setRve f).Canon := h.of_same
theorem State.Canon.setTask (h : s.Canon) {id} {f : Task → Task} : (s.setTask id f).Canon := h.setRve.wfld
theorem State.Canon.freeTask (h : s.Canon) {id} : (s.freeTask id).Canon := h.setTask
theorem State.Canon.recordsLost (h : s.Canon) {q} : (s.recordsLost q).Canon :=
  h.foldl fun _ h1 _ => h1.bump.freeTask

/-! ## Sys2Proof/Machine/Coil.lean -/

theorem State.Canon.setCol (h : s.Canon) {f : ColSt → ColSt} : (s.setCol f).Canon := h.of_same
theorem State.Canon.setCq (h : s.Canon) {q} {f : ColQ → ColQ} : (s.setCq q f).Canon := h.setCol
theorem State.Canon.qPut (h : s.Canon) {q o bs} : (s.qPut q o bs).Canon := by
  induction bs generalizing s o with
  | nil => exact h
  | cons b r ih => exact ih (.ite h.dramSet h.sramPut)
theorem State.Canon.qStop (h : s.Canon) {q o} : (s.qStop q o).Canon := h.tsetF.raise.recordsLost
theorem State.Canon.colAnswer (h : s.Canon) {port status ofs len} : (s.colAnswer port status ofs len).Canon := by
  unfold State.colAnswer
  extract_lets s1
  have h1 : s1.Canon := .ite h.bump h
  exact .ite h1.setCol.wfld.wr.wfld.seqUp h1.setCol
theorem State.Canon.noCredit (h : s.Canon) {port q status} : (s.noCredit port q status).Canon :=
  h.bump.raise.colAnswer
theorem State.Canon.colReserve (h : s.Canon) {port q size} : (s.colReserve port q size).Canon := by
  refine .ite h.colAnswer ?_
  split
  · exact h.noCredit
  · exact .ite h.colAnswer (.ite h.noCredit h.qPut.tsetF.setCq.bump.colAnswer)
theorem State.Canon.colCommit (h : s.Canon) {port q ofs len skip} : (s.colCommit port q ofs len skip).Canon := by
  refine .ite h.colAnswer ?_
  split
  · exact h.colAnswer
  · exact .ite h.colAnswer h.qPut.setCq.colAnswer
theorem State.Canon.nextWalk (h : s.Canon) {q n} : CanonFst (s.nextWalk q n) := by
  induction n generalizing s with
  | zero => exact .pair h
  | succ n ih =>
    exact .ite (.pair h) (.ite (.pair h.qStop) (.ite (.pair h) (.ite (ih h.setCq.bump) (.pair h.setCq.bump))))
theorem State.Canon.colNext (h : s.Canon) {port q} : CanonFst (s.colNext port q) := by
  refine .ite (.pair h.colAnswer) (.ite (.pair h.colAnswer) ?_)
  split
  · next e1 => exact .pair ((h.nextWalk.of_eq e1).colAnswer)
  · next e2 => exact .pair ((h.nextWalk.of_eq e2).colAnswer)
theorem State.Canon.giveBack (h : s.Canon) {hs} : (s.giveBack hs).Canon := by
  induction hs generalizing s with
  | nil => exact h
  | cons d r ih => exact ih h.tsetF
theorem State.Canon.freeTo (h : s.Canon) {q e hs} : (s.freeTo q e hs).Canon := by
  unfold State.freeTo
  exact h.giveBack.bumpN.setCq
theorem State.Canon.colRelease (h : s.Canon) {port q e} : (s.colRelease port q e).Canon := by
  refine .ite h.colAnswer (.ite h.colAnswer ?_)
  split
  · exact h.freeTo.colAnswer
  · exact h.qStop.colAnswer
  · exact h.colAnswer
theorem State.Canon.colSend (h : s.Canon) {port q payload} : CanonFst (s.colSend port q payload) :=
  .ite (.pair h.colReserve.qPut.colCommit) (.pair h.colReserve)
theorem State.Canon.colTake (h : s.Canon) {port q} : CanonFst (s.colTake port q) := by
  unfold State.colTake
  split
  · next e1 => exact .pair ((h.colNext.of_eq e1).colRelease)
  · next e2 => exact .pair (h.colNext.of_eq e2)
theorem State.Canon.queueTurned (h : s.Canon) {q new} : (s.queueTurned q new).Canon := by
  unfold State.queueTurned
  extract_lets s1 _ s2
  have h1 : s1.Canon := h.tset.setCq.setCol
  have h2 : s2.Canon := .ite h1.of_same h1
  exact .ite h2.recordsLost h2
theorem State.Canon.wbQueue (h : s.Canon) {src q ws} : (s.wbQueue src q ws).Canon :=
  .ite h.tblRefuse (.ite h.tblRefuse (.ite (.ite h.tset h.tblRefuse) h.queueTurned))
theorem State.Canon.wbGrant (h : s.Canon) {src g ws} : (s.wbGrant src g ws).Canon := by
  refine .ite h.tblRefuse ?_
  refine .ite h.tblRefuse ?_
  exact .ite h.tblRefuse (.ite h.tblRefuse (.ite h.tblRefuse (.ite h.tblRefuse (.ite h.tblRefuse h.tset))))
theorem State.Canon.skipResv (h : s.Canon) {owner q} : (s.skipResv owner q).Canon := by
  unfold State.skipResv
  exact (h.foldl fun _ h1 _ => h1.qPut).setCq
theorem State.Canon.clearGrant (h : s.Canon) {g} : (s.clearGrant g).Canon := h.tsetF.setCol
theorem State.Canon.clearGrants (h : s.Canon) {owner} : (s.clearGrants owner).Canon :=
  h.foldl fun _ h1 _ => .ite h1.clearGrant h1
/-- The definition is unfolded as a function, before its arguments: the kernel would otherwise walk `relWalk`'s fuel. -/
theorem State.Canon.reclaimConsumer (h : s.Canon) {q} : (s.reclaimConsumer q).Canon := by
  obtain ⟨f, hf⟩ : ∃ f, f = State.reclaimConsumer := ⟨_, rfl⟩
  rw [← hf]
  delta State.reclaimConsumer at hf
  subst hf
  beta_reduce
  split
  · exact h.freeTo.setCq
  · exact h.qStop.setCq
  · exact h.setCq
theorem State.Canon.colWalk (h : s.Canon) {owner} : (s.colWalk owner).Canon :=
  (h.foldl fun _ h1 _ => h1.skipResv).clearGrants.foldl fun _ h2 _ => .ite h2.reclaimConsumer h2
theorem State.Canon.colMark (h : s.Canon) {port q} : (s.colMark port q).Canon :=
  .ite h.colAnswer (.ite h.colAnswer h.setCq.colAnswer)
theorem State.Canon.colRewind (h : s.Canon) {port q} : (s.colRewind port q).Canon :=
  .ite h.colAnswer (.ite h.colAnswer (.ite h.setCq.colAnswer h.bump.raise.colAnswer))
theorem State.Canon.execReserve (h : s.Canon) {port q size} : CanonNext (execReserve port q size s) :=
  .next (h.portRequest fun _ h1 => h1.colReserve)
theorem State.Canon.execCommit (h : s.Canon) {port q ofs len skip} :
    CanonNext (execCommit port q ofs len skip s) :=
  .next (h.portRequest fun _ h1 => h1.colCommit)
theorem State.Canon.execNext (h : s.Canon) {port q} : CanonNext (execNext port q s) :=
  .next (h.portRequest fun _ h1 => h1.colNext.fst)
theorem State.Canon.execRelease (h : s.Canon) {port q ofs} : CanonNext (execRelease port q ofs s) :=
  .next (h.portRequest fun _ h1 => h1.colRelease)
theorem State.Canon.execMark (h : s.Canon) {port q} : CanonNext (execMark port q s) :=
  .next (h.portRequest fun _ h1 => h1.colMark)
theorem State.Canon.execRewind (h : s.Canon) {port q} : CanonNext (execRewind port q s) :=
  .next (h.portRequest fun _ h1 => h1.colRewind)
theorem State.Canon.execCoilReclaim (h : s.Canon) {src owner} : CanonNext (execCoilReclaim src owner s) := by
  refine .next (h.access fun _ h1 => ?_)
  extract_lets s2
  have h2 : ∀ x1, (s2 x1).Canon := fun _ => h1.wfld.seqUp.raise
  refine .ite (h2 _) ?_
  split
  · exact h2 _
  · exact h1.wfld.setCol.colWalk
theorem State.Canon.execColReclaimDone (h : s.Canon) : CanonNext (execColReclaimDone s) := by
  unfold Machine.execColReclaimDone
  split
  · exact .next h
  · exact .next h.wfld.seqUp.setCol.raise

/-! ## Sys2Proof/Machine/Creel.lean -/

theorem State.Canon.setCrl (h : s.Canon) {f : CrlSt → CrlSt} : (s.setCrl f).Canon := h.of_same
theorem State.Canon.bufPut (h : s.Canon) {handle o bs} : (s.bufPut handle o bs).Canon := .ite h.dramPut h.pktPut
theorem State.Canon.setOwners (h : s.Canon) {handle l} : (s.setOwners handle l).Canon := h.setCrl
theorem State.Canon.refreshFree (h : s.Canon) {pool} : (s.refreshFree pool).Canon := .ite h.tsetF.raise h.tsetF
theorem State.Canon.metaErr (h : s.Canon) {pool line} : (s.metaErr pool line).Canon := h.setCrl.raise.refreshFree
theorem State.Canon.crlAnswer (h : s.Canon) {port status handle} : (s.crlAnswer port status handle).Canon :=
  .ite h.setCrl.wfld.wr.seqUp h.setCrl
theorem State.Canon.ownRefused (h : s.Canon) {port op status handle newOwner} :
    (s.ownRefused port op status handle newOwner).Canon :=
  .ite h.bump.raise.ringWrite h.bump.raise.bump
theorem State.Canon.crlRefuse (h : s.Canon) {port op status handle newOwner} :
    (s.crlRefuse port op status handle newOwner).Canon := by
  unfold State.crlRefuse
  extract_lets s1
  have h1 : s1.Canon := by
    refine .ite h.ownRefused (.ite ?_ h)
    split
    · exact h.metaErr
    · exact h
  exact h1.crlAnswer
theorem State.Canon.dropOwner (h : s.Canon) {handle owner} : (s.dropOwner handle owner).Canon :=
  .ite h.setOwners.bump.refreshFree h.setOwners
theorem State.Canon.crlAlloc (h : s.Canon) {port pool} : CanonFst (s.crlAlloc port pool) := by
  refine .ite (.pair h.crlAnswer) ?_
  split
  · exact .pair h.bump.crlAnswer
  · extract_lets
    split
    · exact .pair h.metaErr.crlAnswer
    · exact .pair h.setOwners.bump.refreshFree.crlAnswer
theorem State.Canon.crlFree (h : s.Canon) {port handle} : (s.crlFree port handle).Canon := by
  unfold State.crlFree
  split
  · exact h.setOwners.bump.refreshFree.crlAnswer
  · exact h.crlRefuse
theorem State.Canon.crlAdd (h : s.Canon) {port handle newOwner} : (s.crlAdd port handle newOwner).Canon := by
  unfold State.crlAdd
  split
  · exact h.setOwners.crlAnswer
  · exact h.crlRefuse
theorem State.Canon.crlDrop (h : s.Canon) {port handle} : (s.crlDrop port handle).Canon := by
  unfold State.crlDrop
  split
  · exact h.setOwners.crlAnswer
  · exact h.crlRefuse
theorem State.Canon.wbPool (h : s.Canon) {src pool ws} : (s.wbPool src pool ws).Canon := by
  unfold State.wbPool
  extract_lets _ _ s1
  have h1 : s1.Canon := h.tset
  exact .ite (.ite h.tset (.ite h.tset h.tblRefuse)) (.ite h1.of_same h.tblRefuse)
theorem State.Canon.metaWritten (h : s.Canon) {pool} : (s.metaWritten pool).Canon := .ite (h.setMem id) h
theorem State.Canon.poolOn (h : s.Canon) {pool} : (s.poolOn pool).Canon :=
  .ite h.metaWritten.setCrl.tsetF.tsetF.raise h
theorem State.Canon.reclaimOne (h : s.Canon) {owner handle} : (s.reclaimOne owner handle).Canon := by
  unfold State.reclaimOne
  split
  · exact h.metaErr
  · exact h.dropOwner.bump.setCrl
theorem State.Canon.crlWalk (h : s.Canon) {owner} : (s.crlWalk owner).Canon := h.foldl fun _ h1 _ => h1.reclaimOne
theorem State.Canon.wbOwnerMap (h : s.Canon) {src port ws} : (s.wbOwnerMap src port ws).Canon := by
  unfold State.wbOwnerMap
  split
  · exact .ite h.tblRefuse h.tset
  · exact h.tblRefuse
theorem State.Canon.execOwnerMapWriteback (h : s.Canon) {src port v} :
    CanonNext (execOwnerMapWriteback src port v s) :=
  .next (h.access fun _ h1 => h1.wbOwnerMap)
theorem State.Canon.execPoolReady (h : s.Canon) {pool} : CanonNext (execPoolReady pool s) := .next h.poolOn
theorem State.Canon.execAlloc (h : s.Canon) {port pool} : CanonNext (execAlloc port pool s) :=
  .next (h.portRequest fun _ h1 => h1.crlAlloc.fst)
theorem State.Canon.execAdd (h : s.Canon) {port handle owner} : CanonNext (execAdd port handle owner s) :=
  .next (h.portRequest fun _ h1 => h1.crlAdd)
theorem State.Canon.execDrop (h : s.Canon) {port handle} : CanonNext (execDrop port handle s) :=
  .next (h.portRequest fun _ h1 => h1.crlDrop)
theorem State.Canon.execFree (h : s.Canon) {port handle} : CanonNext (execFree port handle s) :=
  .next (h.portRequest fun _ h1 => h1.crlFree)
theorem State.Canon.execCreelReclaim (h : s.Canon) {src owner} : CanonNext (execCreelReclaim src owner s) := by
  refine .next (h.access fun _ h1 => ?_)
  extract_lets s2
  have h2 : ∀ x1, (s2 x1).Canon := fun _ => h1.wfld.seqUp.raise
  refine .ite (h2 _) ?_
  split
  · exact h2 _
  · exact h1.wfld.setCrl.crlWalk
theorem State.Canon.execCrlReclaimDone (h : s.Canon) : CanonNext (execCrlReclaimDone s) := by
  unfold Machine.execCrlReclaimDone
  split
  · exact .next h
  · exact .next h.wfld.seqUp.setCrl.raise

/-! ## Sys2Proof/Machine/Lay.lean -/

theorem State.Canon.prgSend (h : s.Canon) {m} : (s.prgSend m).Canon := h.setPrg
theorem State.Canon.digestSend (h : s.Canon) {key idx dig} : (s.digestSend key idx dig).Canon := by
  unfold State.digestSend
  exact h.setPrg
theorem State.Canon.layPut (h : s.Canon) {e} : (s.layPut e).Canon := h.setPrg.prgSend.bump
theorem State.Canon.closeBoundary (h : s.Canon) : s.closeBoundary.Canon := by
  unfold State.closeBoundary
  split
  · exact h
  · exact .ite h.setPrg.layPut h.setPrg
theorem State.Canon.carryWrites (h : s.Canon) : s.carryWrites.Canon :=
  h.setPrg.foldl fun _ h1 _ => h1.prgSend.layPut
theorem State.Canon.lay (h : s.Canon) {ty flags body} : (s.lay ty flags body).Canon :=
  .ite h.closeBoundary.carryWrites.layPut h
theorem State.Canon.layRefuse (h : s.Canon) {kind ident} : (s.layRefuse kind ident).Canon := h.lay
theorem State.Canon.layItem (h : s.Canon) {kind a b c} : (s.layItem kind a b c).Canon := .ite h.setPrg h
theorem State.Canon.refusal (h : s.Canon) {kind ident ty own} : CanonFst (s.refusal kind ident ty own) :=
  .ite (.ite (.pair h.setPrg) (.ite (.pair h.diverge) (.pair h))) (.ite (.pair h.layRefuse) (.pair h))
theorem State.Canon.deferWb (h : s.Canon) {src p t e ws} {now : State → State} (hnow : ∀ s, s.Canon → (now s).Canon) :
    (s.deferWb src p t e ws now).Canon :=
  .ite h.of_same (hnow _ h)
theorem State.Canon.writeBack (h : s.Canon) {src p t e ws} {now : State → State} (hnow : ∀ s, s.Canon → (now s).Canon) :
    (s.writeBack src p t e ws now).Canon :=
  h.access fun _ h1 => .deferWb (.ite h1.setPrg h1) hnow

/-! ## Sys2Proof/Machine/Icl.lean -/

theorem State.Canon.setIcl (h : s.Canon) {f : IclSt → IclSt} : (s.setIcl f).Canon := h.of_same
theorem State.Canon.setCpe (h : s.Canon) {f : CpeSt → CpeSt} : (s.setCpe f).Canon := h.of_same
theorem State.Canon.setLfw (h : s.Canon) {f : LfwSt → LfwSt} : (s.setLfw f).Canon := h.of_same
theorem State.Canon.setCtx (h : s.Canon) {scid i hi lo v} : (s.setCtx scid i hi lo v).Canon := h.tsetF
theorem State.Canon.cleanLine (h : s.Canon) {line} : (s.cleanLine line).Canon := h.setMem id
theorem State.Canon.setLink (h : s.Canon) {lane b v} : (s.setLink lane b v).Canon := h.wfld
theorem State.Canon.execEthLinkUp (h : s.Canon) {lane} : CanonNext (execEthLinkUp lane s) :=
  .next (.ite h.setLink.raise h)
theorem State.Canon.linkDown (h : s.Canon) {lane} : (s.linkDown lane).Canon := .ite h.setLink.setLink.raise h
theorem State.Canon.execEthLinkDown (h : s.Canon) {lane} : CanonNext (execEthLinkDown lane s) := .next h.linkDown
theorem State.Canon.execEthHiSer (h : s.Canon) {lane up} : CanonNext (execEthHiSer lane up s) :=
  .next (.ite h (.ite h.setLink.raise h.setLink))
theorem State.Canon.fecCount (h : s.Canon) {lane n} : (s.fecCount lane n).Canon := .ite h.bumpLane h
theorem State.Canon.frameCount (h : s.Canon) {lane len fcsOk} : (s.frameCount lane len fcsOk).Canon :=
  .ite h.bumpLane.bumpLane h
theorem State.Canon.execEthRxFrame (h : s.Canon) {lane bytes chk} : CanonNext (execEthRxFrame lane bytes chk s) := by
  unfold Machine.execEthRxFrame
  extract_lets
  refine .next (.ite h.fecCount ?_)
  split
  · next e1 => exact (h.fecCount.frameCount.crlAlloc.of_eq e1).bumpLane
  · next s2 _ e3 =>
      have h2 : s2.Canon := h.fecCount.frameCount.crlAlloc.of_eq e3
      refine .ite h2.bumpLane.crlFree ?_
      exact .ite h2.bumpLane.crlFree (.ite h2.bumpLane.crlFree (.ite h2.bumpLane.crlFree h2.bufPut.setIcl))
theorem State.Canon.iclFree (h : s.Canon) {handle} : (s.iclFree handle).Canon := h.crlFree
theorem State.Canon.iclDrop (h : s.Canon) {c handle} : (s.iclDrop c handle).Canon := h.bump.iclFree
theorem State.Canon.iclExc (h : s.Canon) {r frame reason handle} : (s.iclExc r frame reason handle).Canon := by
  unfold State.iclExc
  extract_lets
  refine .ite h.iclDrop ?_
  split
  · next e1 => exact (h.colSend.of_eq e1).setIcl.bump.iclFree
  · next e2 => exact (h.colSend.of_eq e2).iclDrop
theorem State.Canon.setPol (h : s.Canon) {e v} : (s.setPol e v).Canon := h.setIcl
theorem State.Canon.police (h : s.Canon) {e len t} : CanonFst (s.police e len t) :=
  .ite (.pair h) (.ite (.pair h.setPol.bumpW) (.pair h.setPol.bumpW))
theorem State.Canon.policePkt (h : s.Canon) {p} : CanonFst (s.policePkt p) := by
  refine .ite (.pair (CanonFst.fst (.ite h.police (.pair h)))) ?_
  refine .ite (State.Canon.police (CanonFst.fst (.ite h.police (.pair h)))) ?_
  exact .pair (CanonFst.fst (.ite h.police (.pair h)))
theorem State.Canon.setCpeQ (h : s.Canon) {q l} : (s.setCpeQ q l).Canon := h.setCpe.tsetF
theorem State.Canon.toCpe (h : s.Canon) {p} : (s.toCpe p).Canon := by
  unfold State.toCpe
  extract_lets _ s1
  have h1 : s1.Canon := h.bump.iclFree
  exact .ite h.bump.iclFree (.ite (.ite h1 h1.setCpe.raise) h.setCpeQ.bump)
theorem State.Canon.setSkt (h : s.Canon) {b k v} : (s.setSkt b k v).Canon := h.setIcl
theorem State.Canon.sktInsert (h : s.Canon) {leg ssrc scid} : (s.sktInsert leg ssrc scid).Canon := by
  unfold State.sktInsert
  split
  · exact h
  · split
    · exact h.setSkt
    · exact h
theorem State.Canon.sktRemove (h : s.Canon) {leg ssrc} : (s.sktRemove leg ssrc).Canon :=
  h.foldl fun _ h1 _ => h1.setSkt
theorem State.Canon.iclPass (h : s.Canon) {p} : (s.iclPass p).Canon := by
  unfold State.iclPass
  extract_lets
  refine .ite h.iclDrop (.ite h.iclFree (.ite h.iclDrop (.ite h.setPrg ?_)))
  split
  · next e1 => exact (h.policePkt.of_eq e1).toCpe
  · next e2 => exact (h.policePkt.of_eq e2).iclDrop
theorem State.Canon.iclStream (h : s.Canon) {p} : (s.iclStream p).Canon :=
  .ite h.iclFree (.ite h.iclPass (.ite h.setIcl.iclDrop (.setIcl (.ite h h.bump))))
theorem State.Canon.iclLookup (h : s.Canon) {p key} : (s.iclLookup p key).Canon := by
  unfold State.iclLookup
  split
  · exact h.iclExc
  · extract_lets
    refine .ite h.iclDrop ?_
    split
    · exact .ite h.iclExc h.iclDrop
    · exact h.iclStream
theorem State.Canon.iclTreat (h : s.Canon) {f} : (s.iclTreat f).Canon := by
  unfold State.iclTreat
  split
  · exact h.iclDrop
  · extract_lets
    split
    · exact h.of_same.iclFree
    · exact h.iclDrop
    · exact .ite h.iclDrop h.iclExc
    · refine .ite h.iclDrop ?_
      extract_lets
      split
      · exact h.iclDrop
      · exact h.iclExc
      · exact h
      · exact h.iclLookup
theorem State.Canon.dropPast (h : s.Canon) : s.dropPast.Canon := by
  exact ((h.foldl fun _ h1 _ => h1.setCpeQ).setIcl.setPrg.setLfw.foldl fun _ h2 _ => h2.iclDrop).foldl fun _ h3 _ =>
    h3.bump.crlFree
theorem State.Canon.mayUnready (h : s.Canon) {k : State → State} (hk : ∀ s, s.Canon → (k s).Canon) :
    (s.mayUnready k).Canon := by
  unfold State.mayUnready
  extract_lets _ s1
  have h1 : s1.Canon := hk _ h
  exact .ite h1.dropPast h1
theorem State.Canon.execIclFrame (h : s.Canon) : CanonNext (execIclFrame s) := by
  unfold Machine.execIclFrame
  split
  · exact .next h
  · exact .next h.setIcl.iclTreat
theorem State.Canon.cacheCtx (h : s.Canon) {scid} : (s.cacheCtx scid).Canon :=
  .ite h (.ite h.setIcl.takeFree h.setIcl)
theorem State.Canon.execIclCtxFetchDone (h : s.Canon) {scid} : CanonNext (execIclCtxFetchDone scid s) := by
  refine .ite (.next h) ?_
  refine .next ?_
  refine .ite (h.setIcl.setIcl.raise.foldl fun _ h1 _ => h1.iclFree) ?_
  exact h.setIcl.cacheCtx.foldl fun _ h2 _ => h2.iclPass
theorem State.Canon.wbLegKey (h : s.Canon) {src e ws} : (s.wbLegKey src e ws).Canon :=
  .ite h.tset (.ite h.tblRefuse (.ite h.tblRefuse.raise h.tset))
theorem State.Canon.resetCrypto (h : s.Canon) {scid} : (s.resetCrypto scid).Canon := h.setCpe.cleanLine
theorem State.Canon.wbCtx (h : s.Canon) {src scid ws} : (s.wbCtx src scid ws).Canon := by
  unfold State.wbCtx
  extract_lets _ _ _ _ _ _ _ _ _ _ s1 _ _ _ s2 _ s3
  have h1 : s1.Canon := .ite h.sktInsert h
  have h2 : s2.Canon := .cleanLine (.tset (.ite h1.sktRemove h1))
  have h3 : s3.Canon := .ite h2.setIcl.resetCrypto h2.setIcl
  refine .ite h.tblRefuse ?_
  exact .ite h.tblRefuse (.ite h.tblRefuse.raise (.ite h.tblRefuse.raise (.ite h3.setLfw h3)))
theorem State.Canon.wbPolicer (h : s.Canon) {src e ws} : (s.wbPolicer src e ws).Canon :=
  .ite h.tblRefuse (.ite h.tset.setPol h.tset.setPol)
theorem State.Canon.execLegkeyWriteback (h : s.Canon) {src entry ws} :
    CanonNext (execLegkeyWriteback src entry ws s) :=
  .next (h.writeBack fun _ h1 => h1.wbLegKey)
theorem State.Canon.execStreamCtxWriteback (h : s.Canon) {src scid ws} :
    CanonNext (execStreamCtxWriteback src scid ws s) :=
  .next (h.writeBack fun _ h1 => h1.wbCtx)
theorem State.Canon.execPolicerWriteback (h : s.Canon) {src entry ws} :
    CanonNext (execPolicerWriteback src entry ws s) :=
  .next (h.writeBack fun _ h1 => h1.wbPolicer)

/-! ## Sys2Proof/Machine/Pm.lean -/

theorem State.Canon.setLnu (h : s.Canon) {f : LnuSt → LnuSt} : (s.setLnu f).Canon := h.of_same
theorem State.Canon.setPm (h : s.Canon) {e} {f : PmEnt → PmEnt} : (s.setPm e f).Canon := h.setLnu
theorem State.Canon.pmLeg (h : s.Canon) {g} {f : PmEnt → PmEnt} : (s.pmLeg g f).Canon := .ite h.setPm h
theorem State.Canon.pmAccept (h : s.Canon) {g d late} : (s.pmAccept g d late).Canon := h.pmLeg
theorem State.Canon.pmSwitch (h : s.Canon) {g} : (s.pmSwitch g).Canon := h.pmLeg
theorem State.Canon.pmStop (h : s.Canon) {g} : (s.pmStop g).Canon := h.pmLeg
theorem State.Canon.pmDoubt (h : s.Canon) {es} : (s.pmDoubt es).Canon := h.foldl fun _ h1 _ => h1.setPm
theorem State.Canon.binRing (h : s.Canon) {ws} : CanonFst (s.binRing ws) := .ite (.pair h.ringWrite) (.pair h.bump)
theorem State.Canon.binRecords (h : s.Canon) {day es} : CanonFst (s.binRecords day es) := by
  induction es generalizing s with
  | nil => exact .pair h
  | cons e r ih => exact .pair (ih h.binRing.fst).fst

/-! ## Sys2Proof/Machine/Cpe.lean -/

theorem State.Canon.setKslot (h : s.Canon) {k} {f : KeySlot → KeySlot} : (s.setKslot k f).Canon := h.setCpe
theorem State.Canon.execKeySlotFetch (h : s.Canon) {slot tagOk} : CanonNext (execKeySlotFetch slot tagOk s) := by
  unfold Machine.execKeySlotFetch
  extract_lets _ s1
  have h1 : s1.Canon := h.bump.setCpe
  exact .next (.ite h (.ite h1 (.ite h1.setKslot (.ite h1.setKslot h1))))
theorem State.Canon.execKeySlotEvict (h : s.Canon) {slot} : CanonNext (execKeySlotEvict slot s) :=
  .next (.ite h.setCpe.setKslot.cleanLine.cleanLine h)
theorem State.Canon.applyKey (h : s.Canon) {slot k} : (s.applyKey slot k).Canon := h.setKslot.cleanLine.cleanLine
theorem State.Canon.zeroKeyRegs (h : s.Canon) : s.zeroKeyRegs.Canon := h.foldl fun _ h1 _ => h1.wr
theorem State.Canon.execKeyLoad (h : s.Canon) {src} : CanonNext (execKeyLoad src s) :=
  .next (h.access fun _ h1 => .seqUp (.wfld (.zeroKeyRegs (.ite h1 (.ite h1.setCpe h1.applyKey)))))
theorem State.Canon.execKwkLoad (h : s.Canon) : CanonNext (execKwkLoad s) :=
  .next (.ite h.takeFree.setCpe.refreshReady h)
theorem State.Canon.rqServe (h : s.Canon) {pri qs} : CanonSome (s.rqServe pri qs) := by
  unfold State.rqServe
  extract_lets _ s1 s2
  have h1 : ∀ s, s.Canon → ∀ x2, ∀ x3, (s1 s x2 x3).Canon := fun _ h3 _ _ => h3.setCpe
  have h2 : ∀ s, s.Canon → ∀ x2, (s2 s x2).Canon := fun _ h4 _ => .setCpe (h1 _ h4 _ _)
  refine .ite (.some (.pair (h2 _ h _))) ?_
  split
  · exact .none
  · exact .some (.pair (h2 _ (h.foldl fun _ h5 _ => h1 _ h5 _ _) _))
theorem State.Canon.cpePick (h : s.Canon) : CanonSome s.cpePick := by
  intro p e
  obtain ⟨pri, -, hp⟩ := List.mem_filterMap.1 (List.mem_of_head? e)
  exact h.rqServe.of_eq hp
theorem State.Canon.popRq (h : s.Canon) {q} : (s.popRq q).Canon := h.setCpeQ
theorem State.Canon.setCrypto (h : s.Canon) {scid c} : (s.setCrypto scid c).Canon := h.setCpe
theorem State.Canon.inDrop (h : s.Canon) {p c} : (s.inDrop p c).Canon := .iclFree (.ite h.bump.raise h.bump)
theorem State.Canon.keyDrop (h : s.Canon) {d} : (s.keyDrop d).Canon := by
  unfold State.keyDrop
  extract_lets
  split
  · exact h.bump.raise
  · exact h.bump
theorem State.Canon.exhaust (h : s.Canon) {scid rtcp} : (s.exhaust scid rtcp).Canon :=
  .ite h.setCrypto h.setCrypto.raise
theorem State.Canon.seqVerdict (h : s.Canon) {scid seq} : CanonFst (s.seqVerdict scid seq) := by
  unfold State.seqVerdict
  extract_lets _ _ _ _ s1
  have h1 : ∀ s, s.Canon → (s1 s).Canon := fun _ h2 => h2.setCtx
  refine .ite (.pair h.setCtx.setCtx.pmAccept) ?_
  refine .ite (.pair (.pmAccept (h1 _ h))) ?_
  refine .ite (.pair (.pmAccept (h1 _ h.setCtx))) ?_
  refine .ite (.pair (.pmAccept (.bump (h1 _ h)))) ?_
  refine .ite ?_ ?_
  · exact .ite (.pair h.setCtx.setCtx.bump) (.pair (.raise (.bump (.pmAccept (h1 _ h.setCtx)))))
  · exact .pair h.setCtx.setCtx.setCtx.bump
theorem State.Canon.linePut (h : s.Canon) {a bs n} : (s.linePut a bs n).Canon := h.dramPut.setMem id
theorem State.Canon.shedEvent (h : s.Canon) : s.shedEvent.Canon := by
  unfold State.shedEvent
  split
  · exact h.raise
  · exact h
theorem State.Canon.captureFresh (h : s.Canon) : s.captureFresh.Canon := h.shedEvent.setIcl
theorem State.Canon.capture (h : s.Canon) {p x plain forced} : CanonFst (s.capture p x plain forced) :=
  .ite (.pair h) (.ite (.pair h.bump) (.ite (.pair h.setIcl.bumpN.linePut) (.pair h.setIcl.bump.bumpN)))
theorem State.Canon.toLfw (h : s.Canon) {handle} : (s.toLfw handle).Canon := h.crlAdd.crlDrop
theorem State.Canon.layPkt (h : s.Canon) {p idx captured discarded} : (s.layPkt p idx captured discarded).Canon :=
  h.lay
theorem State.Canon.inRelease (h : s.Canon) {p idx plain record forced} :
    CanonFst (s.inRelease p idx plain record forced) := by
  unfold State.inRelease
  extract_lets _ _ s1
  have h1 : s1.Canon := h.bump.bumpN
  split
  · next s2 _ e3 =>
      have h2 : s2.Canon := CanonFst.of_eq (.ite (.pair h1.bufPut) h1.bufPut.seqVerdict) e3
      extract_lets s4
      clear_value s4
      split
      · exact .pair h2.layPkt.iclFree
      · split
        · next s5 _ e6 =>
            have h5 : s5.Canon := CanonFst.of_eq (.ite (.pair h2.bump) h2.bump.capture) e6
            exact .pair (.setLfw (.toLfw (.layPkt (.ite h5.setCrypto.raise h5.setCrypto))))
theorem State.Canon.inbound (h : s.Canon) {p forced} : (s.inbound p forced).Canon := by
  unfold State.inbound
  extract_lets _ _ _ _ _ _ _ _ _ _ _ _ s1
  have h1 : ∀ x1, (s1 x1).Canon := by
    intro _
    unfold s1
    split
    · exact h.inDrop
    · exact h.exhaust.bump.iclFree
    · exact h.inRelease.fst
  split
  · exact h.keyDrop.iclFree
  · refine .ite h.inDrop (.ite h.inDrop ?_)
    split
    · refine .ite ?_ h.inDrop
      split
      · split
        · next e2 => exact (h.inRelease.of_eq e2).setCtx.setCtx.raise
        · next e3 => exact h.inRelease.of_eq e3
      · exact h.exhaust.bump.iclFree
      · exact h.inDrop
    · exact h1 _
theorem State.Canon.execCpeInbound (h : s.Canon) : CanonNext (execCpeInbound s) := by
  unfold Machine.execCpeInbound
  split
  · next s1 _ e2 =>
      have h1 : s1.Canon := (h.cpePick.of_eq e2).fst
      split
      · exact .next (.ite h1.popRq.inbound h1.popRq.iclDrop)
      · exact .next h
  · exact .next h
theorem State.Canon.wbRq (h : s.Canon) {src q ws} : (s.wbRq src q ws).Canon := .ite h.tblRefuse h.tset
theorem State.Canon.execCpeRqWriteback (h : s.Canon) {src q ws} : CanonNext (execCpeRqWriteback src q ws s) :=
  .next (h.writeBack fun _ h1 => h1.wbRq)

/-! ## Sys2Proof/Machine/Out.lean -/

theorem State.Canon.setEsc (h : s.Canon) {f : EscSt → EscSt} : (s.setEsc f).Canon := h.of_same
theorem State.Canon.setLane (h : s.Canon) {lane} {f : LaneSt → LaneSt} : (s.setLane lane f).Canon := h.setEsc
theorem State.Canon.land (h : s.Canon) {f} : (s.land f).Canon := h.setLane
theorem State.Canon.stageFrame (h : s.Canon) {f} : (s.stageFrame f).Canon := by
  unfold State.stageFrame
  exact h.setLane
theorem State.Canon.lfwRelease (h : s.Canon) {h'} : (s.lfwRelease h').Canon := .ite h.crlFree h.crlDrop
theorem State.Canon.copyDone (h : s.Canon) {d} : (s.copyDone d).Canon := .ite (.ite h.setLfw.lfwRelease h.setLfw) h
theorem State.Canon.outDrop (h : s.Canon) {f} : (s.outDrop f).Canon := by
  unfold State.outDrop
  extract_lets
  split
  · exact h.land.copyDone
  · exact h.land
theorem State.Canon.layCopy (h : s.Canon) {ty d} : (s.layCopy ty d).Canon := h.lay
theorem State.Canon.estRecord (h : s.Canon) {g bs} : (s.estRecord g bs).Canon := by
  unfold State.estRecord
  extract_lets
  refine .ite ?_ h
  split
  · next e1 => exact h.colSend.of_eq e1
  · next e2 => exact (h.colSend.of_eq e2).bump
theorem State.Canon.sendMap (h : s.Canon) {d q} : (s.sendMap d q).Canon := .ite h h.dramPut.setLfw

/-! ## Sys2Proof/Machine/Gate.lean -/

theorem State.Canon.gateTell (h : s.Canon) {e kind key arg2} : (s.gateTell e kind key arg2).Canon :=
  .ite h h.setPrg.raise
theorem State.Canon.disagree (h : s.Canon) {key idx mine its} : (s.disagree key idx mine its).Canon :=
  .gateTell (.setPrg (.ite h.bump.ringWrite h.bump))
theorem State.Canon.gateRelease (h : s.Canon) {f} : (s.gateRelease f).Canon := h.stageFrame
theorem State.Canon.gateSuppress (h : s.Canon) {f} : (s.gateSuppress f).Canon := h.land
theorem State.Canon.gateMatch (h : s.Canon) {g its} : (s.gateMatch g its).Canon :=
  .ite (.ite h.bump h.bump.gateRelease) (.ite h.disagree.gateSuppress (.ite h.disagree h.disagree.gateRelease))
theorem State.Canon.gateOnly (h : s.Canon) {standbys key} : (s.gateOnly standbys key).Canon :=
  .ite h.bump.gateTell h.bump.gateTell
theorem State.Canon.gatePassed (h : s.Canon) {key idx} : (s.gatePassed key idx).Canon :=
  h.setPrg.foldl fun _ h1 _ => h1.gateOnly
theorem State.Canon.gateAnnounce (h : s.Canon) {key idx} : (s.gateAnnounce key idx).Canon := h.setPrg
theorem State.Canon.gatePkt (h : s.Canon) {f key idx dig} : (s.gatePkt f key idx dig).Canon := by
  unfold State.gatePkt
  extract_lets s1 s2 _ _ s3
  have h1 : s1.Canon := h.digestSend.gatePassed
  have h2 : s2.Canon := .ite h1 h1.gateAnnounce
  have h3 : s3.Canon := .ite h2.setPrg.gateRelease h2.setPrg
  split
  · exact h3.setPrg.gateMatch
  · exact .ite h3.gateOnly.gateSuppress h3.setPrg
theorem State.Canon.gateOut (h : s.Canon) {f key idx plain} : (s.gateOut f key idx plain).Canon := by
  refine .ite h.gateRelease ?_
  refine .ite h.gateSuppress ?_
  exact .ite h.gateRelease (.ite h.gatePkt (.ite h.gateSuppress h.digestSend.gateAnnounce.gateRelease))
theorem State.Canon.gateDigest (h : s.Canon) {key idx dig} : (s.gateDigest key idx dig).Canon := by
  unfold State.gateDigest
  extract_lets _ s1 _ _ s2
  have h2 : s2.Canon := .foldl (.setPrg (.ite h.gateAnnounce h)) fun _ h3 _ => h3.gateOnly.gateSuppress
  clear_value s1
  split
  · exact h2.gateMatch
  · exact .ite h2.setPrg h2
theorem State.Canon.gateExpire (h : s.Canon) {t} : (s.gateExpire t).Canon :=
  h.setPrg.foldl fun _ h1 _ => .ite h1.gateOnly.gateSuppress (.ite h1.gateOnly h1.gateOnly.gateRelease)

/-! ## Sys2Proof/Machine/CpeOut.lean -/

theorem State.Canon.invoke (h : s.Canon) {slot} : (s.invoke slot).Canon := by
  unfold State.invoke
  extract_lets _ _ _ _ _ s1
  have h1 : s1.Canon := .ite h.setKslot.raise h.setKslot
  exact .ite h1.raise h1
theorem State.Canon.assign (h : s.Canon) {out rtcp i} : (s.assign out rtcp i).Canon :=
  .ite h.setCrypto.raise h.setCrypto
theorem State.Canon.takeTwcc (h : s.Canon) {d} : CanonFst (s.takeTwcc d) := .ite (.pair h) (.pair h.tsetF)
theorem State.Canon.sendRecord (h : s.Canon) {d twcc} : (s.sendRecord d twcc).Canon := h.estRecord
theorem State.Canon.outSend (h : s.Canon) {f d src idx} : (s.outSend f d src idx).Canon := by
  unfold State.outSend
  extract_lets
  split
  · next s1 _ e2 =>
      have h1 : s1.Canon := CanonFst.of_eq (State.Canon.takeTwcc (.ite h.assign h.assign.invoke)) e2
      extract_lets s3
      have h3 : s3.Canon := by
        unfold s3
        split
        · exact h1.sendRecord
        · exact h1
      exact .gateOut (.copyDone (.bumpN (.bump (.ite h3 h3.sendMap))))
theorem State.Canon.outbound (h : s.Canon) {f d} : (s.outbound f d).Canon := by
  unfold State.outbound
  extract_lets
  split
  · exact h.bumpLane.outDrop
  · split
    · exact h.keyDrop.outDrop
    · refine .ite h.bump.outDrop ?_
      split
      · exact h.exhaust.bump.outDrop
      · exact .ite h.bump.outDrop h.outSend
theorem State.Canon.execCpeOutbound (h : s.Canon) : CanonNext (execCpeOutbound s) := by
  unfold Machine.execCpeOutbound
  split
  · next s1 _ e2 =>
      have h1 : s1.Canon := (h.cpePick.of_eq e2).fst
      split
      · refine .next (.ite ?_ h)
        split
        · exact h1.popRq.outbound
        · exact h1.popRq
      · exact .next h
  · exact .next h
theorem State.Canon.bulkSubmit (h : s.Canon) {port rq d} : CanonFst (s.bulkSubmit port rq d) :=
  .ite (.pair h) (.ite (.pair h) (.ite (.pair h) (.pair h.setCpeQ)))
theorem State.Canon.execBulkSubmit (h : s.Canon) {port rq desc} : CanonNext (execBulkSubmit port rq desc s) :=
  .next (h.portAccess fun _ h1 => .ite h1.bulkSubmit.fst.wfld.seqUp h1.bulkSubmit.fst.setCpe)
theorem State.Canon.bulkRun (h : s.Canon) {port d} : CanonFst (s.bulkRun port d) := by
  unfold State.bulkRun
  extract_lets _ _ _ _ _ _ _ _ _ _ s1
  have h1 : ∀ s, s.Canon → ∀ x2, CanonFst (s1 s x2) := fun _ h2 _ => .pair h2
  refine .ite (h1 _ h.raise _) ?_
  refine .ite (h1 _ h.raise _) ?_
  refine .ite (h1 _ h _) ?_
  refine .ite (h1 _ h _) ?_
  refine .ite (h1 _ h _) (.ite ?_ (.ite (h1 _ h.bumpN.bump _) (.pair h.bumpN.invoke.bufPut)))
  split <;> exact .pair h.bumpN.bufPut
theorem State.Canon.bulkRecord (h : s.Canon) {q compq bytes} : (s.bulkRecord q compq bytes).Canon :=
  .ite h.colSend.fst.setCpe.popRq.bump h.setCpe
theorem State.Canon.execBulkComplete (h : s.Canon) : CanonNext (execBulkComplete s) := by
  unfold Machine.execBulkComplete
  split
  · next e1 =>
      split
      · refine .next (.ite h ?_)
        split
        · exact h.bulkRecord
        · exact (h.cpePick.of_eq e1).fst.bulkRun.fst.bulkRecord
      · exact .next h
  · exact .next h
theorem State.Canon.keyApplyActive (h : s.Canon) : s.keyApplyActive.Canon :=
  h.setCpe.foldl fun _ h1 _ => h1.applyKey.layItem
theorem State.Canon.keyApplyStandby (h : s.Canon) {slot dig} : (s.keyApplyStandby slot dig).Canon := by
  unfold State.keyApplyStandby
  extract_lets s1
  clear_value s1
  split
  · exact .ite h.setCpe.applyKey h.setCpe.applyKey.raise
  · exact h.setCpe.applyKey.raise
theorem State.Canon.execKeyLoadApply (h : s.Canon) : CanonNext (execKeyLoadApply s) :=
  .next (.ite h (.ite (h.atStep.setPrg.foldl fun _ h1 _ => h1.keyApplyStandby) h.atStep.keyApplyActive))
theorem State.Canon.execKeyLoadPendingExpire (h : s.Canon) : CanonNext (execKeyLoadPendingExpire s) :=
  .next (.ite (h.setCpe.foldl fun _ h1 _ => h1.raise) h)

/-! ## Sys2Proof/Machine/Lfw.lean -/

theorem State.Canon.countSwitch (h : s.Canon) {n} : (s.countSwitch n).Canon := h.bump.pmSwitch
theorem State.Canon.leaveRungs (h : s.Canon) {n cur} : (s.leaveRungs n cur).Canon := .ite h h.setLfw
theorem State.Canon.setSub (h : s.Canon) {n cur want st} : (s.setSub n cur want st).Canon := by
  unfold State.setSub
  split
  · extract_lets _ s1 s2
    have h1 : s1.Canon := .ite h.tsetW.tsetW h.tsetW
    have h2 : s2.Canon := .ite h1.countSwitch.leaveRungs h1
    exact .ite h2.setLfw h2
theorem State.Canon.moveSub (h : s.Canon) {n cur want} : (s.moveSub n cur want).Canon := .ite h h.setSub
theorem State.Canon.badSub (h : s.Canon) {n} : (s.badSub n).Canon := by
  unfold State.badSub
  extract_lets s1
  have h1 : s1.Canon := .ite h h.setSub
  exact .ite h1 h1.setLfw.raise
theorem State.Canon.resetSub (h : s.Canon) {n} : (s.resetSub n).Canon := by
  unfold State.resetSub
  exact .setLfw (.tset (.ite h h.countSwitch))
theorem State.Canon.identify (h : s.Canon) {a} : CanonFst (s.identify a) := by
  unfold State.identify
  extract_lets _ _ _ _ _ _ s1
  have h1 : s1.Canon := .ite h.setLfw h
  split
  · extract_lets s2
    have h2 : s2.Canon := by
      unfold s2
      split
      · exact h1.setLfw.tsetF
      · exact h1
    exact .ite (.pair (.ite h2.bump h2.bump.setLfw.raise)) (.pair h2)
theorem State.Canon.histFill (h : s.Canon) {a l} : (s.histFill a l).Canon := .ite h.dramPut h
theorem State.Canon.keyMark (h : s.Canon) {a l} : (s.keyMark a l).Canon := .ite h.tsetW.tsetW.tsetF h
theorem State.Canon.countBytes (h : s.Canon) {a l} : (s.countBytes a l).Canon := h.foldl fun _ h1 _ => h1.setLfw
theorem State.Canon.rateUpdate (h : s.Canon) : s.rateUpdate.Canon := by
  unfold State.rateUpdate
  exact (h.foldl fun _ h1 _ => h1.setLfw.tsetW).setLfw
theorem State.Canon.tsFix (h : s.Canon) {n scid rtpTs wa} : (s.tsFix n scid rtpTs wa).Canon := .ite h.setCtx h
theorem State.Canon.pushCopy (h : s.Canon) {n scid rtpTs wa d} : (s.pushCopy n scid rtpTs wa d).Canon := by
  unfold State.pushCopy
  exact h.tsFix.tsetW.tsetW.setLfw
theorem State.Canon.frameCur (h : s.Canon) {n scid rung key l} : CanonFst (s.frameCur n scid rung key l) := by
  unfold State.frameCur
  split
  · extract_lets _ _ s1
    have h1 : ∀ s, s.Canon → ∀ x2, (s1 s x2).Canon := fun _ h2 _ => h2.setLfw
    refine .ite (.pair h) (.ite (.pair (h1 _ h.moveSub _)) ?_)
    split <;> exact .pair h
theorem State.Canon.fanOne (h : s.Canon) {a l emit n} : CanonFst (s.fanOne a l emit n) := by
  unfold State.fanOne
  extract_lets
  split
  · exact .pair h
  · refine .ite (.pair h) ?_
    refine .ite (.pair h.badSub) ?_
    refine .pair ?_
    refine .ite (.pushCopy (CanonFst.fst (.ite (.pair h.moveSub) (.pair h.frameCur.fst)))) ?_
    exact CanonFst.fst (.ite (.pair h.moveSub) (.pair h.frameCur.fst))
theorem State.Canon.fanAll (h : s.Canon) {a l emit} : CanonFst (s.fanAll a l emit) :=
  .foldl (.pair h) fun _ h1 _ => .pair h1.fst.fanOne.fst
theorem State.Canon.fanRefuse (h : s.Canon) {a l} : (s.fanRefuse a l).Canon := by
  unfold State.fanRefuse
  extract_lets s1
  have h1 : s1.Canon := h.fanAll.fst.bump.layRefuse
  exact .ite h1 h1.setLfw.raise
theorem State.Canon.fanout (h : s.Canon) {a l} : (s.fanout a l).Canon := by
  refine .ite h.fanAll.fst ?_
  refine .ite (.ite h.fanRefuse.setPrg (.ite h.fanRefuse.diverge h.fanAll.fst.setLfw)) ?_
  exact .ite h.fanRefuse h.fanAll.fst.setLfw
theorem State.Canon.toDecode (h : s.Canon) {a l} : (s.toDecode a l).Canon := h.colSend.fst
theorem State.Canon.pushRtcp (h : s.Canon) {out bytes} : (s.pushRtcp out bytes).Canon := h.setLfw
theorem State.Canon.keyRequest (h : s.Canon) {c} : (s.keyRequest c).Canon := by
  unfold State.keyRequest
  extract_lets _ _ _ _ _ _ _ _ _ _ s1
  have h1 : s1.Canon := .ite h.pushRtcp.tsetF h.pushRtcp
  exact .ite h.bump (.ite h (.raise (.bump (.ite h1.tsetW h1.tsetW.setLfw))))
theorem State.Canon.execFanoutCopy (h : s.Canon) : CanonNext (execFanoutCopy s) := by
  unfold Machine.execFanoutCopy
  split
  · exact .next h
  · exact .next h.setLfw.bump.bumpN.setEsc
theorem State.Canon.execPartialMixOut (h : s.Canon) : CanonNext (execPartialMixOut s) := by
  unfold Machine.execPartialMixOut
  split
  · exact .next h
  · exact .next (.ite h.setLfw.setLfw.takeFree h.setLfw)
theorem State.Canon.originate (h : s.Canon) {o} : (s.originate o).Canon := .ite h.setLfw.takeFree h
theorem State.Canon.execOriginatedPacket (h : s.Canon) {q} : CanonNext (execOriginatedPacket q s) := by
  unfold Machine.execOriginatedPacket
  split
  · refine .ite ?_ (.next h)
    split
    · next e1 => exact .next ((h.colTake.of_eq e1).originate)
    · next e2 => exact .next (h.colTake.of_eq e2)
  · split
    · exact .next h
    · exact .next h.setLfw.originate
theorem State.Canon.execNeedIntraReport (h : s.Canon) : CanonNext (execNeedIntraReport s) := by
  unfold Machine.execNeedIntraReport
  split
  · exact .next h
  · exact .next (.ite h.setLfw h.setLfw.layRefuse.keyRequest)

/-! ## Sys2Proof/Machine/Drc.lean -/

theorem State.Canon.setDrc (h : s.Canon) {f : DrcSt → DrcSt} : (s.setDrc f).Canon := h.of_same
theorem State.Canon.setDch (h : s.Canon) {ch} {f : DrcCh → DrcCh} : (s.setDch ch f).Canon := h.setDrc
theorem State.Canon.setRank (h : s.Canon) {ch r st logical} : (s.setRank ch r st logical).Canon := h.wfld
theorem State.Canon.drcReasons (h : s.Canon) : s.drcReasons.Canon := by
  unfold State.drcReasons
  exact h.setPg
theorem State.Canon.drcRefresh (h : s.Canon) {hostAct} : (s.drcRefresh hostAct).Canon :=
  h.drcReasons.refreshAll.refreshReady.mayUnready fun _ h1 => h1.refreshAll
theorem State.Canon.trainStart (h : s.Canon) {ch} : (s.trainStart ch).Canon := h.wr.setDch
theorem State.Canon.drcEnable (h : s.Canon) : s.drcEnable.Canon :=
  .ite h (.drcRefresh (.ite (h.wfld.foldl fun _ h1 _ => h1.trainStart) h.wfld))
theorem State.Canon.drcDisable (h : s.Canon) : s.drcDisable.Canon :=
  ((((h.wfld.foldl fun _ h1 _ => h1.wr.wr.wr.wfld).wr64).setMem
    fun ⟨_, _, hr⟩ => ⟨NMap.wf_nil, NMap.wf_nil, hr⟩).setDrc).drcRefresh
theorem State.Canon.ranksOn (h : s.Canon) {ch} : (s.ranksOn ch).Canon := by
  unfold State.ranksOn
  extract_lets s1 _ _ s2
  have h2 : s2.Canon := h.wr.foldl fun _ h3 _ => .ite h3.setRank h3.setRank
  clear_value s1
  split
  · exact .ite h2.setRank h2
  · exact h2
theorem State.Canon.channelOn (h : s.Canon) {ch} : (s.channelOn ch).Canon := by
  unfold State.channelOn
  extract_lets s1
  have h1 : s1.Canon := h.ranksOn.wr.wfld
  exact .drcRefresh (.ite h1.setDch.wr64 h1.setDch)
theorem State.Canon.execDrcEnable (h : s.Canon) {src} : CanonNext (execDrcEnable src s) :=
  .next (h.access fun _ h1 => h1.drcEnable)
theorem State.Canon.execDrcDisable (h : s.Canon) {src} : CanonNext (execDrcDisable src s) :=
  .next (h.access fun _ h1 => .ite h1.drcDisable h1)
theorem State.Canon.execTrainStepDone (h : s.Canon) {ch} : CanonNext (execTrainStepDone ch s) :=
  .next (.ite (.ite h (.ite h.setDch h.channelOn)) h)
theorem State.Canon.execDrcTrainFail (h : s.Canon) {ch rank} : CanonNext (execDrcTrainFail ch rank s) :=
  .next (.ite h.wr.setDch.raise.drcRefresh h)
theorem State.Canon.execDrcRetrain (h : s.Canon) {src mask} : CanonNext (execDrcRetrain src mask s) :=
  .next (h.access fun _ h1 => (h1.foldl fun _ h2 _ => .ite h2.trainStart h2).drcRefresh)
theorem State.Canon.rankDead (h : s.Canon) {ch logical} : (s.rankDead ch logical).Canon := (h.setMem id).raise
theorem State.Canon.retire (h : s.Canon) {ch r cause} : (s.retire ch r cause).Canon := by
  unfold State.retire
  extract_lets _ _ s1
  have h1 : ∀ s, s.Canon → (s1 s).Canon := fun _ h2 => h2.raise
  refine .ite ?_ ?_
  · split
    · exact h1 _ h.setRank.setRank.wr.setDch
    · exact h.setRank.rankDead
  · exact .ite (h1 _ h.setRank) (.ite ((h.foldl fun _ h3 _ => .ite h3.setRank h3).setRank.wr.rankDead) h)
theorem State.Canon.execRankRetire (h : s.Canon) {src ch rank} : CanonNext (execRankRetire src ch rank s) :=
  .next (h.access fun _ h1 => h1.retire)
theorem State.Canon.execCaParityAlert (h : s.Canon) {ch rank again} :
    CanonNext (execCaParityAlert ch rank again s) :=
  .next (.ite (.ite h.retire h.bump) h)
theorem State.Canon.poisonLine (h : s.Canon) {line} : (s.poisonLine line).Canon := .ite h (h.setMem id)
theorem State.Canon.chargeCe (h : s.Canon) {ch r} : (s.chargeCe ch r).Canon := by
  unfold State.chargeCe
  extract_lets _ _ _ _ s1
  have h1 : s1.Canon := h.bump.setDch
  exact .ite h1.raise h1
theorem State.Canon.eccRead (h : s.Canon) {a ecc} : CanonFst (s.eccRead a ecc) := by
  unfold State.eccRead
  extract_lets
  refine .ite (.pair h.bump.bump.diverge) ?_
  split
  · exact .pair h.bump
  · exact .pair h.bump.bump.chargeCe
  · exact .pair h.bump.poisonLine.bump.bump.raise.retire.diverge
theorem State.Canon.readAnswer (h : s.Canon) {a bad bs} : (s.readAnswer a bad bs).Canon := h.setDrc
theorem State.Canon.drcRead (h : s.Canon) {a ecc} : (s.drcRead a ecc).Canon := by
  refine .ite h.rangeErr.readAnswer ?_
  exact .ite h.readAnswer (.ite h.bump.readAnswer (.ite h.bump.setDrc h.eccRead.fst.readAnswer))
theorem State.Canon.execDramRead (h : s.Canon) {addr ecc} : CanonNext (execDramRead addr ecc s) := .next h.drcRead
theorem State.Canon.enqueueLine (h : s.Canon) {a bs} : (s.enqueueLine a bs).Canon := by
  unfold State.enqueueLine
  refine .setMem (.ite h h.setDch) fun ⟨hd, hq, hr⟩ => ⟨hd, ?_, hr⟩
  exact NMap.wf_setAll _ hq
theorem State.Canon.drcWrite (h : s.Canon) {a bs} : (s.drcWrite a bs).Canon :=
  .ite h.rangeErr (.ite h (.ite h.enqueueLine h.setDrc))
theorem State.Canon.creditBack (h : s.Canon) {ch} : (s.creditBack ch).Canon :=
  h.foldl fun _ h1 _ => .ite h1.setDrc.drcWrite h1
theorem State.Canon.execDramWrite (h : s.Canon) {addr bytes} : CanonNext (execDramWrite addr bytes s) :=
  .next h.drcWrite
theorem State.Canon.dropEntry (h : s.Canon) {ch line} : (s.dropEntry ch line).Canon :=
  (h.setMem fun ⟨hd, hq, hr⟩ => ⟨hd, NMap.wf_filter _ hq, hr⟩).setDch
theorem State.Canon.entryToDram (h : s.Canon) {line} : (s.entryToDram line).Canon :=
  h.setMem fun ⟨hd, hr⟩ => ⟨NMap.wf_setAll _ hd, hr⟩
theorem State.Canon.drain (h : s.Canon) {ch line ecc} : (s.drain ch line ecc).Canon := by
  unfold State.drain
  extract_lets
  split
  · next s1 _ e2 =>
      have h1 : s1.Canon := CanonFst.of_eq (.ite (.pair h) h.eccRead) e2
      extract_lets _ s3
      have h3 : s3.Canon := h1.bump.entryToDram.dropEntry
      refine .foldl ?_ fun _ h4 _ => h4.eccRead.fst.readAnswer
      refine .setDrc ?_
      exact .ite h1.bump.poisonLine.raise.dropEntry (.ite h1.bump.dropEntry (.ite (h3.setMem id) h3))
theorem State.Canon.execWriteQueueDrain (h : s.Canon) {ch ecc} : CanonNext (execWriteQueueDrain ch ecc s) := by
  unfold Machine.execWriteQueueDrain
  split
  · exact .next h
  · exact .next h.drain.creditBack
theorem State.Canon.execRefresh (h : s.Canon) {ch rank} : CanonNext (execRefresh ch rank s) := .next (.ite h.bump h)
theorem State.Canon.execMr4Poll (h : s.Canon) {ch rank heat} : CanonNext (execMr4Poll ch rank heat s) := by
  refine .next (.ite ?_ h)
  extract_lets _ _ s1
  have h1 : s1.Canon := .ite h h.setDch.raise
  exact .ite h1.raise h1
theorem State.Canon.execScrubRead (h : s.Canon) {ch ecc} : CanonNext (execScrubRead ch ecc s) :=
  .next (.ite (.setDch (.ite h h.eccRead.fst)) h)
theorem State.Canon.migrated (h : s.Canon) {ch a b} : (s.migrated ch a b).Canon := by
  unfold State.migrated
  exact h.setRank.setRank.wr.raise
theorem State.Canon.execMigrationCopy (h : s.Canon) {ch ecc} : CanonNext (execMigrationCopy ch ecc s) := by
  unfold Machine.execMigrationCopy
  split
  · exact .next h
  · extract_lets
    split
    · next s1 _ e2 =>
        have h1 : s1.Canon := h.eccRead.of_eq e2
        extract_lets _ s3
        have h3 : s3.Canon := .ite h1.bump.bump.setDch h1.bump
        exact .next (.ite h3.migrated h3.wfld)

/-! ## Sys2Proof/Machine/LfwSel.lean -/

theorem State.Canon.latchLeg (h : s.Canon) {w g} : (s.latchLeg w g).Canon := h.tsetW.tsetW.setLfw
theorem State.Canon.layBatches (h : s.Canon) {bs} : (s.layBatches bs).Canon :=
  h.foldl fun _ h1 _ => .ite h1 h1.layItem
theorem State.Canon.estLatch (h : s.Canon) : s.estLatch.Canon := by
  exact (h.setLfw.foldl fun _ h1 _ => h1.foldl fun _ h2 _ => h2.latchLeg).layBatches.foldl fun _ h3 _ => .ite h3 h3.raise
theorem State.Canon.execEstLatch (h : s.Canon) : CanonNext (execEstLatch s) := .next (.ite h.atStep.estLatch h)
theorem State.Canon.estRate (h : s.Canon) {g v} : (s.estRate g v).Canon := h.tsetW
theorem State.Canon.estDone (h : s.Canon) {b} : (s.estDone b).Canon := .ite h h.setLfw
theorem State.Canon.execEstNextRateWrite (h : s.Canon) {leg rate} : CanonNext (execEstNextRateWrite leg rate s) :=
  .next h.estRate
theorem State.Canon.execEstBatchDone (h : s.Canon) {src batch} : CanonNext (execEstBatchDone src batch s) := by
  unfold Machine.execEstBatchDone
  split
  · exact .next (h.access fun _ h1 => h1.estDone)
  · exact .next h.estDone
theorem State.Canon.wantCompute (h : s.Canon) {w} : (s.wantCompute w).Canon := .ite h.setLfw h.setLfw.raise
theorem State.Canon.wantApply (h : s.Canon) : s.wantApply.Canon := by
  unfold State.wantApply
  extract_lets _ s1
  have h1 : s1.Canon := by
    refine h.foldl fun _ h2 _ => .ite h2.badSub ?_
    split
    · exact h2.moveSub
    · exact h2
  exact h1.wr
theorem State.Canon.execWantCompute (h : s.Canon) : CanonNext (execWantCompute s) := .next (.ite h.wantCompute h)
theorem State.Canon.execSwitchTmo (h : s.Canon) {sub} : CanonNext (execSwitchTmo sub s) := by
  unfold Machine.execSwitchTmo
  extract_lets _ _ _ _ s1
  have h1 : s1.Canon := h.atStep.setLfw.bump.raise
  refine .next (.ite ?_ h)
  split
  · exact h1.keyRequest
  · exact h1
theorem State.Canon.replayOne (h : s.Canon) {n scid rung x} : (s.replayOne n scid rung x).Canon := by
  unfold State.replayOne
  split
  · exact h
  · exact .ite h.pushCopy h
theorem State.Canon.joinMarks (h : s.Canon) : s.joinMarks.Canon := by
  unfold State.joinMarks
  exact h.setLfw
theorem State.Canon.join (h : s.Canon) {n} : (s.join n).Canon :=
  .ite h (.ite h.badSub (.ite ((h.foldl fun _ h1 _ => h1.replayOne).moveSub.bump) h.keyRequest.bump.raise))
theorem State.Canon.joinTake (h : s.Canon) {n} : (s.joinTake n).Canon := .ite h.setLfw.join h
theorem State.Canon.joinRest (h : s.Canon) : s.joinRest.Canon := h.foldl fun _ h1 _ => h1.joinTake
theorem State.Canon.execJoinTake (h : s.Canon) {sub} : CanonNext (execJoinTake sub s) :=
  .next (.ite h.atStep.joinTake h)
theorem State.Canon.refreshReq (h : s.Canon) {out why} : (s.refreshReq out why).Canon := h.setLfw
theorem State.Canon.keyAsked (h : s.Canon) {g ssrc} : (s.keyAsked g ssrc).Canon := by
  unfold State.keyAsked
  split
  · exact h.bump
  · refine .ite h.refreshReq ?_
    split
    · exact .ite h h.setLfw
    · exact h
theorem State.Canon.firEntry (h : s.Canon) {g ssrc seq} : (s.firEntry g ssrc seq).Canon := .ite h h.setLfw.keyAsked
theorem State.Canon.nackItem (h : s.Canon) {out wale time q} : (s.nackItem out wale time q).Canon := by
  unfold State.nackItem
  extract_lets
  refine .ite h.bump.bump (.ite h.bump.bump (.ite (.ite h.bump.bump.refreshReq h.bump.bump) (.ite h.bump.bump ?_)))
  split
  · exact h.bump.bump
  · exact h.bump.dramPut.setLfw.bump
theorem State.Canon.nack (h : s.Canon) {g wale time b} : (s.nack g wale time b).Canon := by
  unfold State.nack
  split
  · exact h.bump
  · exact h.foldl fun _ h1 _ => h1.foldl fun _ h2 _ => h2.nackItem
theorem State.Canon.rtcpPart (h : s.Canon) {a b} : (s.rtcpPart a b).Canon := by
  unfold State.rtcpPart
  extract_lets _ _ _ _ s1
  have h1 : s1.Canon := .ite h.estRecord h
  exact .ite h1.keyAsked (.ite (h1.foldl fun _ h2 _ => h2.firEntry) (.ite h1.nack h1))
theorem State.Canon.lfwRtp (h : s.Canon) {a} : (s.lfwRtp a).Canon := by
  unfold State.lfwRtp
  extract_lets
  refine .ite (.ite h.histFill.setLfw h.histFill) ?_
  split
  · next e1 =>
      extract_lets s2 s3
      have h2 : s2.Canon := (h.identify.of_eq e1).histFill.keyMark
      have h3 : s3.Canon := .ite h2.toDecode h2
      exact .ite (.ite h3.countBytes.fanout h3.countBytes) h3
theorem State.Canon.lfwTake (h : s.Canon) {a} : (s.lfwTake a).Canon := by
  unfold State.lfwTake
  extract_lets _ s1
  have h1 : s1.Canon := .ite (h.foldl fun _ h2 _ => h2.rtcpPart) h.lfwRtp
  exact .ite h.bump.lfwRelease (.ite h.lfwRelease (.ite h1.lfwRelease h1))
theorem State.Canon.lfwDrain (h : s.Canon) : s.lfwDrain.Canon := h.setLfw.foldl fun _ h1 _ => h1.lfwTake
theorem State.Canon.execLfwPacketAccepted (h : s.Canon) : CanonNext (execLfwPacketAccepted s) := by
  unfold Machine.execLfwPacketAccepted
  split
  · exact .next h
  · exact .next h.joinRest.setLfw.lfwTake

/-! ## Sys2Proof/Machine/Tmu.lean -/

theorem State.Canon.setTmu (h : s.Canon) {f : TmuSt → TmuSt} : (s.setTmu f).Canon := h.of_same
theorem State.Canon.qzOnly (h : s.Canon) {src p o v} {k : State → State} (hk : ∀ s, s.Canon → (k s).Canon) :
    (s.qzOnly src p o v k).Canon :=
  h.access fun _ h1 => .ite (hk _ h1) h1.accessErr
theorem State.Canon.execGridPhaseWrite (h : s.Canon) {src v} : CanonNext (execGridPhaseWrite src v s) :=
  .next (h.access fun _ h1 => .ite h1.raise (.ite h1.accessErr h1.wfld))
theorem State.Canon.execWaleRunSet (h : s.Canon) {src} : CanonNext (execWaleRunSet src s) := by
  refine .next (h.access fun _ h1 => .ite h1 (.ite h1.raise ?_))
  extract_lets _ s2
  have h2 : s2.Canon := h1.wfld.wfld.wr64
  exact h2.of_same
theorem State.Canon.execWaleRunClear (h : s.Canon) {src} : CanonNext (execWaleRunClear src s) := by
  refine .next (h.access fun _ h1 => ?_)
  split
  · exact h1.raise
  · extract_lets s2
    have h2 : s2.Canon := h1.wfld.wfld
    exact h2.of_same
theorem State.Canon.servoState (h : s.Canon) {st} : (s.servoState st).Canon := h.wfld.wr
theorem State.Canon.adjResult (h : s.Canon) {status} : (s.adjResult status).Canon := h.wfld.seqUp
theorem State.Canon.adjSet (h : s.Canon) : s.adjSet.Canon := by
  unfold State.adjSet
  extract_lets s1
  have h1 : s1.Canon := h.wfld
  exact .ite h1.adjResult (.ite h1.adjResult h1.of_same.idleWale.wfld.servoState.wfld.adjResult.raise)
theorem State.Canon.adjStep (h : s.Canon) : s.adjStep.Canon :=
  .ite h.wfld.adjResult.wfld.bump.raise h.wfld.moveClock.adjResult.bump.raise
theorem State.Canon.execAdjSet (h : s.Canon) {src} : CanonNext (execAdjSet src s) :=
  .next (h.qzOnly fun _ h1 => h1.adjSet)
theorem State.Canon.servoSilence (h : s.Canon) : s.servoSilence.Canon := .ite h.servoState.raise h
theorem State.Canon.servoHeard (h : s.Canon) : s.servoHeard.Canon := h.servoSilence.setTmu
theorem State.Canon.execFreqWrite (h : s.Canon) {src v} : CanonNext (execFreqWrite src v s) := by
  refine .next (h.qzOnly fun _ h1 => ?_)
  extract_lets _ s2
  have h2 : s2.Canon := h1.servoHeard.wr.wr
  exact .ite h2 h2.bump.raise
theorem State.Canon.execServoLockedWrite (h : s.Canon) {src locked} :
    CanonNext (execServoLockedWrite src locked s) := by
  refine .next ?_
  refine h.qzOnly fun _ h1 => ?_
  refine .ite h1.servoSilence.wfld.servoState.raise ?_
  exact .ite h1.servoSilence.wfld.servoState.raise h1.servoSilence.wfld
theorem State.Canon.execServoSilent (h : s.Canon) : CanonNext (execServoSilent s) := .next h.servoSilence
theorem State.Canon.ptpDiscard (h : s.Canon) {lane cause} : (s.ptpDiscard lane cause).Canon :=
  .ite h.bump h.bump.setTmu.raise
theorem State.Canon.execPtpRx (h : s.Canon) : CanonNext (execPtpRx s) := by
  unfold Machine.execPtpRx
  split
  · exact .next h
  · extract_lets
    split
    · refine .ite (.next h.setTmu) ?_
      split
      · next e1 => exact .next ((h.setTmu.colSend.of_eq e1).bump.setTmu)
      · next e2 => exact .next ((h.setTmu.colSend.of_eq e2).ptpDiscard)
    · exact .next h.setTmu.ptpDiscard
theorem State.Canon.txtsShow (h : s.Canon) : s.txtsShow.Canon := h.wr.wr
theorem State.Canon.txtsAdd (h : s.Canon) {lane e} : (s.txtsAdd lane e).Canon :=
  .ite (.ite h.bump h.bump.setTmu.raise) h.setTmu.txtsShow
theorem State.Canon.execTxtsPop (h : s.Canon) {src tsId} : CanonNext (execTxtsPop src tsId s) := by
  refine .next (h.access fun _ h1 => ?_)
  extract_lets
  split
  · exact .ite h1.setTmu.txtsShow h1.accessErr
  · exact h1.accessErr
theorem State.Canon.execTmuLatWriteback (h : s.Canon) {src lane w0 w1} :
    CanonNext (execTmuLatWriteback src lane w0 w1 s) :=
  .next (h.access fun _ h1 => .ite h1.tset h1.tblRefuse)
theorem State.Canon.execSyncinMeasure (h : s.Canon) {edges freq} : CanonNext (execSyncinMeasure edges freq s) := by
  refine .next (.ite ?_ h)
  extract_lets s1
  have h1 : s1.Canon := h.wfld.seqUp
  exact .ite h1.wfld h1
theorem State.Canon.execPpsEdge (h : s.Canon) {ns} : CanonNext (execPpsEdge ns s) :=
  .next (.ite h.advanceTo.wfld.wfld.wr.wr64.seqUp.wfld.setTmu h)
theorem State.Canon.execTmuSyncinLoss (h : s.Canon) {edges} : CanonNext (execTmuSyncinLoss edges s) :=
  .next (.ite h.wfld.raise h)
theorem State.Canon.execPpsOutRise (h : s.Canon) : CanonNext (execPpsOutRise s) := .next (.ite h.advanceTo.setTmu h)
theorem State.Canon.execPpsOutFall (h : s.Canon) : CanonNext (execPpsOutFall s) := .next (.ite h.advanceTo.setTmu h)

/-! ## Sys2Proof/Machine/Esc.lean -/

theorem State.Canon.setLegQ (h : s.Canon) {g} {f : LegQ → LegQ} : (s.setLegQ g f).Canon := h.setEsc
theorem State.Canon.setStrict (h : s.Canon) {lane c l} : (s.setStrict lane c l).Canon := h.setLane
theorem State.Canon.setTok (h : s.Canon) {g v} : (s.setTok g v).Canon := h.setEsc.tsetW.tsetW
theorem State.Canon.wakeLeg (h : s.Canon) {g} : (s.wakeLeg g).Canon := .ite h.setLegQ (.ite h.setLegQ h)
theorem State.Canon.tailDrop (h : s.Canon) {p lane g d} : (s.tailDrop p lane g d).Canon :=
  h.bumpLane.setEsc.layCopy.copyDone
theorem State.Canon.enqueue (h : s.Canon) {f} : (s.enqueue f).Canon := .ite h.setStrict h.setLegQ.wakeLeg
theorem State.Canon.dequeued (h : s.Canon) {f} : (s.dequeued f).Canon := by
  unfold State.dequeued
  extract_lets _ s1
  have h1 : s1.Canon := .ite h.setLane.setTok h.setLane
  split
  · exact h.setLane.stageFrame
  · exact .wakeLeg (.ite h1.layCopy.setCpeQ h1.layCopy.bump.outDrop)
theorem State.Canon.groupTake (h : s.Canon) {lane g} : (s.groupTake lane g).Canon := by
  unfold State.groupTake
  split
  · exact h
  · exact h.setLane.setLegQ.dequeued
theorem State.Canon.classTake (h : s.Canon) {lane c} : CanonOpt (s.classTake lane c) := by
  refine .ite .none (.ite ?_ (.ite .none ?_))
  · split
    · exact .none
    · exact .ite (.some h.setStrict.dequeued) .none
  · cases s.groupPick lane
    · exact .none
    · exact .some h.groupTake
theorem State.Canon.removeFrame (h : s.Canon) {g key} : (s.removeFrame g key).Canon :=
  .ite h.setStrict h.setLegQ.wakeLeg
theorem State.Canon.deqRun (h : s.Canon) {g n} : (s.deqRun g n).Canon := by
  induction n generalizing s with
  | zero => exact h
  | succ n ih =>
    unfold State.deqRun
    split
    · exact h
    split
    · exact h
    refine .ite h (ih (.ite ?_ h.setPrg.removeFrame.dequeued))
    split
    · exact h.setPrg.removeFrame.tailDrop
    · exact h.setPrg.removeFrame
theorem State.Canon.deqResume (h : s.Canon) {lane} : (s.deqResume lane).Canon :=
  .ite (h.foldl fun _ h1 _ => h1.deqRun) h
theorem State.Canon.execEscDequeue (h : s.Canon) {lane} : CanonNext (execEscDequeue lane s) := by
  refine .next (.ite ?_ h)
  cases e : (List.range 9).findSome? fun c => s.classTake lane c with
  | none => exact h.deqResume
  | some t =>
    obtain ⟨_, c, _, _, hc, -⟩ := List.findSome?_eq_some_iff.1 e
    exact h.classTake.of_eq hc
theorem State.Canon.deqEntry (h : s.Canon) {drop key} : (s.deqEntry drop key).Canon := h.setPrg.deqRun
theorem State.Canon.execDescriptorEnqueue (h : s.Canon) : CanonNext (execDescriptorEnqueue s) := by
  unfold Machine.execDescriptorEnqueue
  split
  · exact .next h
  · exact .next (.ite h.setEsc.copyDone (.ite h.setEsc.enqueue.deqRun (.ite h.setEsc.tailDrop h.setEsc.enqueue)))
theorem State.Canon.execHostFrameEnqueue (h : s.Canon) {lane} : CanonNext (execHostFrameEnqueue lane s) := by
  unfold Machine.execHostFrameEnqueue
  extract_lets
  refine .ite ?_ (.next h)
  split
  · next e1 => exact .next (h.colTake.of_eq e1)
  · next s2 _ e3 =>
      have h2 : s2.Canon := h.colTake.of_eq e3
      exact .next (.ite h2.bumpLane h2.enqueue)
theorem State.Canon.execPtpTx (h : s.Canon) : CanonNext (execPtpTx s) := by
  unfold Machine.execPtpTx
  extract_lets
  refine .ite ?_ (.next h)
  split
  · next e1 => exact .next (h.colTake.of_eq e1)
  · next s2 _ e3 =>
      have h2 : s2.Canon := h.colTake.of_eq e3
      exact .next (.ite h2.enqueue (.ite h2.txtsAdd h2))
theorem State.Canon.oversize (h : s.Canon) {lane c n} : (s.oversize lane c n).Canon := by
  induction n generalizing s with
  | zero => exact h
  | succ n ih =>
    unfold State.oversize
    extract_lets
    split
    · refine .ite (ih ?_) h
      split
      · exact h.setLane.land.bumpLane.raise.txtsAdd
      · exact h.setLane.land.bumpLane.raise
    · exact h
theorem State.Canon.oversizeAll (h : s.Canon) {lane} : (s.oversizeAll lane).Canon :=
  h.foldl fun _ h1 _ => h1.oversize
theorem State.Canon.gateCur (h : s.Canon) {lane} : (s.gateCur lane).Canon := by
  unfold State.gateCur
  split
  · exact h.wfld
  · exact h
theorem State.Canon.execGateTransition (h : s.Canon) {lane} : CanonNext (execGateTransition lane s) := by
  unfold Machine.execGateTransition
  extract_lets
  split
  · exact .next h
  · exact .next (.ite h.advanceTo.gateCur h)
theorem State.Canon.execGclStart (h : s.Canon) {lane} : CanonNext (execGclStart lane s) := by
  unfold Machine.execGclStart
  split
  · exact .next h
  · exact .next (.ite h.advanceTo.setLane.wfld.gateCur.oversizeAll h)
theorem State.Canon.wbGate (h : s.Canon) {src p e ws} : (s.wbGate src p e ws).Canon := .ite h.tblRefuse h.tset
theorem State.Canon.execGclEntryWriteback (h : s.Canon) {src port entry ws} :
    CanonNext (execGclEntryWriteback src port entry ws s) :=
  .next (h.writeBack fun _ h1 => h1.wbGate)
theorem State.Canon.guardWait (h : s.Canon) {lane c} : (s.guardWait lane c).Canon := .ite h.setLane.bumpLane h
theorem State.Canon.startFrame (h : s.Canon) {lane c} : (s.startFrame lane c).Canon := by
  unfold State.startFrame
  extract_lets
  split
  · exact h
  · extract_lets _ _ s1
    have h1 : s1.Canon := h.setLane.land.bumpLane.bumpLane.bumpLane
    split
    · exact h1.setEsc.txtsAdd
    · exact h1.setEsc
theorem State.Canon.execTxStart (h : s.Canon) {lane} : CanonNext (execTxStart lane s) := by
  unfold Machine.execTxStart
  extract_lets _ s1
  have h1 : s1.Canon := h.oversizeAll.foldl fun _ h2 _ => h2.guardWait
  refine .next (.ite ?_ h)
  split
  · exact h1.startFrame
  · exact h1
theorem State.Canon.ceilLock (h : s.Canon) {lane mbps} : (s.ceilLock lane mbps).Canon :=
  .ite h h.wr.setLane.raise.refreshReady
theorem State.Canon.execEscCeilLocked (h : s.Canon) {lane mbps} : CanonNext (execEscCeilLocked lane mbps s) :=
  .next h.ceilLock
theorem State.Canon.refill (h : s.Canon) {g} : (s.refill g).Canon := .ite h (.wakeLeg (.ite h.setTok h.setTok))
theorem State.Canon.ceilRefill (h : s.Canon) {lane} : (s.ceilRefill lane).Canon := .ite h.setLane h
theorem State.Canon.escTick (h : s.Canon) : s.escTick.Canon :=
  (h.foldl fun _ h1 _ => h1.refill).foldl fun _ h2 _ => h2.ceilRefill
theorem State.Canon.shaperApply (h : s.Canon) {g} : (s.shaperApply g).Canon :=
  .ite h.tset.setTok (.ite h.tset (.ite h.tset.setTok (.ite h.tset.setTok h.tset.setTok)))
theorem State.Canon.gclApply (h : s.Canon) {lane tb was} : (s.gclApply lane tb was).Canon := by
  unfold State.gclApply
  extract_lets s1
  refine .ite h ?_
  clear_value s1
  split
  · extract_lets _ _ _ _ s2
    have h2 : s2.Canon := h.setLane.wr64.wfld.wfld.seqUp
    exact .ite h2.raise h2
theorem State.Canon.boundaryRefill (h : s.Canon) : s.boundaryRefill.Canon := .ite h.of_same.escTick h
theorem State.Canon.escTables (h : s.Canon) {p} : (s.escTables p).Canon :=
  h.boundaryRefill.foldl fun _ h1 _ => h1.tset.shaperApply.wakeLeg
theorem State.Canon.escWaleEnd (h : s.Canon) : s.escWaleEnd.Canon := by
  unfold State.escWaleEnd
  extract_lets
  refine h.setEsc.foldl fun _ h1 _ => ?_
  split
  · exact h1.raise
  · exact h1

/-! ## Sys2Proof/Machine/Tsi.lean -/

theorem State.Canon.setLine (h : s.Canon) {p} {f : LinePort → LinePort} : (s.setLine p f).Canon := h.setLnu
theorem State.Canon.tdmSend (h : s.Canon) {ch m b} : (s.tdmSend ch m b).Canon := .ite h.setLine h

/-! ## Sys2Proof/Machine/Mxf.lean -/

theorem State.Canon.setMxf (h : s.Canon) {f : MxfSt → MxfSt} : (s.setMxf f).Canon := h.of_same
theorem State.Canon.setMxIn (h : s.Canon) {j} {f : MxfIn → MxfIn} : (s.setMxIn j f).Canon := h.setMxf
theorem State.Canon.setMxOut (h : s.Canon) {j} {f : MxfOut → MxfOut} : (s.setMxOut j f).Canon := h.setMxf
theorem State.Canon.ringPut (h : s.Canon) {h' x v} : (s.ringPut h' x v).Canon := h.bufPut
theorem State.Canon.tagPut (h : s.Canon) {h' w} : (s.tagPut h' w).Canon := h.bufPut
theorem State.Canon.gatherAll (h : s.Canon) {v w g es} : CanonFst (s.gatherAll v w g es) := by
  induction es generalizing s g with
  | nil => exact .pair h
  | cons e r ih => exact .ite (ih h) (.pair (ih h.setMxIn.tset.bumpN).fst)
theorem State.Canon.playAll (h : s.Canon) {v} : (s.playAll v).Canon := h.setMxf.bumpN
theorem State.Canon.execMxfGather (h : s.Canon) : CanonNext (execMxfGather s) := by
  unfold Machine.execMxfGather
  extract_lets _ _ s1
  have h1 : ∀ s, s.Canon → (s1 s).Canon := fun _ h2 => h2.setMxf
  refine .ite (.ite ?_ (.next (h1 _ h.atStep.setMxf))) (.next h)
  split
  · next e3 =>
      extract_lets _ s4 s5
      have h4 : s4.Canon := (h.atStep.gatherAll.of_eq e3).setMxf.bump.bumpN
      have h5 : s5.Canon := by
        unfold s5
        split
        · exact h4
        · exact h4.raise
      exact .next (h1 _ h5.playAll)
theorem State.Canon.deliver (h : s.Canon) {v j e i y} : (s.deliver v j e i y).Canon :=
  .ite (.ite h.ringPut h) (.ite (.ite h.setMxOut.setMxf h.setMxOut) h.setMxf.tdmSend)
theorem State.Canon.mixPort (h : s.Canon) {v k j e} : (s.mixPort v k j e).Canon := by
  unfold State.mixPort
  split
  · extract_lets _ s1 s2
    have h1 : s1.Canon := h.setMxOut.bumpN
    have h2 : s2.Canon := by
      unfold s2
      split
      · exact h1.deliver
      · exact h1
    exact .ite h2.tagPut h2
theorem State.Canon.busDone (h : s.Canon) {c b} : (s.busDone c b).Canon := h.setMxf.tset
theorem State.Canon.execMixSample (h : s.Canon) : CanonNext (execMixSample s) := by
  unfold Machine.execMixSample
  extract_lets _ _ _ _ s1
  have h1 : s1.Canon := .foldl (.ite h.advanceTo h) fun _ h2 _ => .ite h2 h2.mixPort
  refine .ite (.next (.ite (h1.setMxf.foldl fun _ h3 _ => ?_) h1.setMxf)) (.next h)
  split
  · exact h3.busDone
  · exact h3
theorem State.Canon.placeRing (h : s.Canon) {h' n w xs} : (s.placeRing h' n w xs).Canon :=
  (h.foldl fun _ h1 _ => h1.ringPut).foldl fun _ h2 _ => h2.tagPut
theorem State.Canon.execHwdecPacket (h : s.Canon) : CanonNext (execHwdecPacket s) := by
  unfold Machine.execHwdecPacket
  extract_lets
  refine .ite ?_ (.next h)
  split
  · next s1 _ e2 =>
      have h1 : s1.Canon := h.colTake.of_eq e2
      extract_lets
      split
      · exact .next h1
      · extract_lets
        refine .ite (.next h1.bump) ?_
        split
        · extract_lets _ s3
          have h3 : s3.Canon := .ite h1.setMxIn h1.setMxIn.bump.raise
          exact .next (.bump (.ite h3.placeRing h3))
  · next e4 => exact .next (h.colTake.of_eq e4)
theorem State.Canon.execMxfHwencPacket (h : s.Canon) : CanonNext (execMxfHwencPacket s) := by
  unfold Machine.execMxfHwencPacket
  split
  · exact .next h
  · extract_lets
    split
    · extract_lets s1
      have h1 : s1.Canon := h.setMxf.setMxOut
      exact .next (.ite h1.of_same h1)
theorem State.Canon.partialBad (h : s.Canon) {e cause} : (s.partialBad e cause).Canon := h.bump.raise
theorem State.Canon.execPartialMixIn (h : s.Canon) : CanonNext (execPartialMixIn s) := by
  unfold Machine.execPartialMixIn
  split
  · exact .next h
  · extract_lets
    refine .ite ?_ (.next h.of_same)
    split
    · exact .next h.of_same
    · refine .ite (.next h.of_same.partialBad) ?_
      refine .ite (.next h.of_same.partialBad) ?_
      refine .ite (.next h.of_same.partialBad) ?_
      exact .ite (.next h.of_same.setMxf.raise) (.next h.of_same.setMxf.setMxf.bump)
theorem State.Canon.execPartialBuild (h : s.Canon) {trunk} : CanonNext (execPartialBuild trunk s) := by
  unfold Machine.execPartialBuild
  extract_lets _ _ _ _ _ _ _ _ _ _ _ s1
  have h1 : s1.Canon := .ite h.setMxf h.setMxf.bump
  exact .ite (.ite (.next h1.of_same.bump) (.next h.setMxf)) (.next h)
theorem State.Canon.tableApply (h : s.Canon) {p t} : (s.tableApply p t).Canon := h.foldl fun _ h1 _ => h1.tset
theorem State.Canon.inChange (h : s.Canon) {j o n} : (s.inChange j o n).Canon := h.setMxIn
theorem State.Canon.mxfApply (h : s.Canon) {v cut} : (s.mxfApply v cut).Canon := by
  exact ((h.setMxf.foldl fun _ h1 _ => h1.inChange).foldl fun _ h2 _ => h2.setMxOut).foldl fun _ h3 _ => h3.tableApply

/-! ## Sys2Proof/Machine/Rve.lean -/

theorem State.Canon.setSlot (h : s.Canon) {e t} : (s.setSlot e t).Canon := h.setRve
theorem State.Canon.setRun (h : s.Canon) {e t} : (s.setRun e t).Canon := h.setRve
theorem State.Canon.traceDrop (h : s.Canon) : s.traceDrop.Canon := h.bump.setRve
theorem State.Canon.trace (h : s.Canon) {task exec reason cls detail} :
    (s.trace task exec reason cls detail).Canon := by
  refine .ite ?_ h
  extract_lets _ s1
  have h1 : s1.Canon := .ite h h.colSend.fst.setRve
  exact .ite h.traceDrop (.ite h1.traceDrop h1.colSend.fst)
theorem State.Canon.becomeReady (h : s.Canon) {id k} : (s.becomeReady id k).Canon :=
  .ite h.setTask.trace h.setTask.trace.raise
theorem State.Canon.released (h : s.Canon) {id k} : (s.released id k).Canon := .ite h.becomeReady h.setTask
theorem State.Canon.releaseEntry (h : s.Canon) {id} : (s.releaseEntry id).Canon := h.setTask.setRve.trace.released
theorem State.Canon.rveSubmit (h : s.Canon) {port d} : CanonFst (s.rveSubmit port d) := by
  unfold State.rveSubmit
  split
  · extract_lets _ _ _ _ _ s1
    have h1 : s1.Canon := h.setRve.setTask.bump.trace
    exact .pair (.ite h1.bump.trace.released (.ite h1.released h1))
  · exact .pair h.bump.raise.trace
theorem State.Canon.submitAnswered (h : s.Canon) {port d} : (s.submitAnswered port d).Canon :=
  .ite h.rveSubmit.fst.wfld.wfld.seqUp h.rveSubmit.fst.setRve
theorem State.Canon.submitGo (h : s.Canon) {port d} : (s.submitGo port d).Canon :=
  .ite h.submitAnswered (.ite h.accessErr (.ite h.setRve h.submitAnswered))
theorem State.Canon.submitWaiting (h : s.Canon) : s.submitWaiting.Canon :=
  h.setRve.foldl fun _ h1 _ => h1.submitAnswered
theorem State.Canon.rveDecrement (h : s.Canon) {port id} : (s.rveDecrement port id).Canon :=
  .ite h.bump (.ite h.bump.raise.trace (.ite h.setTask.becomeReady h.setTask))
theorem State.Canon.tryRecord (h : s.Canon) {id} : (s.tryRecord id).Canon := by
  unfold State.tryRecord
  extract_lets
  split
  · exact h.freeTask
  · exact .ite h.bump.freeTask (.ite h.colSend.fst.freeTask h)
theorem State.Canon.rveEnd (h : s.Canon) {id exec status value cycles detail} :
    (s.rveEnd id exec status value cycles detail).Canon :=
  (h.bump.setTask.trace.foldl fun _ h1 _ => h1.rveDecrement).tryRecord
theorem State.Canon.leaveSlot (h : s.Canon) {id} : (s.leaveSlot id).Canon := .ite h.setSlot h
theorem State.Canon.unslot (h : s.Canon) {e} : (s.unslot e).Canon := by
  unfold State.unslot
  split
  · exact h.setSlot.setTask
  · exact h
theorem State.Canon.intoSlot (h : s.Canon) {id e} : (s.intoSlot id e).Canon := by
  unfold State.intoSlot
  extract_lets s1 _ s2
  have h1 : ∀ s, s.Canon → (s1 s).Canon := fun _ h3 => h3.trace
  have h2 : s2.Canon := h.unslot.bump.setSlot.setTask
  split
  · extract_lets s4
    have h4 : ∀ s, s.Canon → (s4 s).Canon := fun _ h5 => h5.trace
    exact .ite (h1 _ (h4 _ h2)) (h4 _ (h1 _ h2))
  · exact h1 _ h.setSlot.setTask
theorem State.Canon.dispatch (h : s.Canon) : s.dispatch.Canon := by
  refine .ite ?_ h
  split
  · exact h.intoSlot
  · exact h
theorem State.Canon.startTask (h : s.Canon) {e id} : (s.startTask e id).Canon := h.setSlot.setRun.setTask.bump.trace
theorem State.Canon.wbImage (h : s.Canon) {src image ws} : (s.wbImage src image ws).Canon :=
  .ite h.tblRefuse (.ite h.tblRefuse (.ite h.tblRefuse (.ite h.tblRefuse h.tset)))
theorem State.Canon.execTaskSubmit (h : s.Canon) {port desc} : CanonNext (execTaskSubmit port desc s) :=
  .next (h.portAccess fun _ h1 => h1.submitGo)
theorem State.Canon.execTaskDecrement (h : s.Canon) {port id} : CanonNext (execTaskDecrement port id s) :=
  .next (h.portAccess fun _ h1 => h1.rveDecrement)
theorem State.Canon.execDelayListRelease (h : s.Canon) {list} : CanonNext (execDelayListRelease list s) := by
  unfold Machine.execDelayListRelease
  split
  · exact .next h
  · exact .next (.ite h.atStep.releaseEntry (.ite h.releaseEntry h))
theorem State.Canon.execTaskDispatch (h : s.Canon) : CanonNext (execTaskDispatch s) := .next h.dispatch
theorem State.Canon.execCompletionRecordWrite (h : s.Canon) {id} : CanonNext (execCompletionRecordWrite id s) :=
  .next (.ite h.tryRecord h)
theorem State.Canon.execImageRegistryWrite (h : s.Canon) {src image ws} :
    CanonNext (execImageRegistryWrite src image ws s) :=
  .next (h.access fun _ h1 => h1.wbImage)
theorem State.Canon.execImageScanDone (h : s.Canon) {image} : CanonNext (execImageScanDone image s) := by
  refine .next (.ite ?_ h)
  split
  · exact h.tsetF.raise
  · exact h.tsetF

/-! ## Sys2Proof/Machine/Video.lean -/

theorem State.Canon.setVce (h : s.Canon) {f : VceSt → VceSt} : (s.setVce f).Canon := h.of_same
theorem State.Canon.setEnc (h : s.Canon) {n} {f : Encoder → Encoder} : (s.setEnc n f).Canon := h.setVce
theorem State.Canon.setEncStream (h : s.Canon) {n m} {f : EncStream → EncStream} : (s.setEncStream n m f).Canon :=
  h.setEnc
theorem State.Canon.setWve (h : s.Canon) {f : WveSt → WveSt} : (s.setWve f).Canon := h.of_same
theorem State.Canon.putTile (h : s.Canon) {tag f t} : (s.putTile tag f t).Canon := h.setWve
theorem State.Canon.setTile (h : s.Canon) {tag f} {g : TilePic → TilePic} : (s.setTile tag f g).Canon := by
  unfold State.setTile
  split
  · exact .ite h.putTile h
  · exact h
theorem State.Canon.tileEnds (h : s.Canon) {tag f status refresh} : (s.tileEnds tag f status refresh).Canon :=
  h.setTile
theorem State.Canon.setDec (h : s.Canon) {n m} {f : DecStream → DecStream} : (s.setDec n m f).Canon := by
  unfold State.setDec
  exact h.setVce
theorem State.Canon.putPlane (h : s.Canon) {at_ stride depth10 n rows xs} :
    (s.putPlane at_ stride depth10 n rows xs).Canon := by
  induction rows generalizing s at_ xs with
  | zero => exact h
  | succ rows ih => exact ih h.dramPut
theorem State.Canon.putPicture (h : s.Canon) {at_ stride maxH depth10 w h' luma chroma} :
    (s.putPicture at_ stride maxH depth10 w h' luma chroma).Canon :=
  h.putPlane.putPlane
theorem State.Canon.setPipe (h : s.Canon) {q} {f : PxcPipe → PxcPipe} : (s.setPipe q f).Canon := h.of_same

/-! ## Sys2Proof/Machine/Dec.lean -/

theorem State.Canon.decStop (h : s.Canon) {n m cause detail wa} : (s.decStop n m cause detail wa).Canon := by
  unfold State.decStop
  extract_lets _ _ _ _ _ s1
  have h1 : s1.Canon := h.setDec.bump.raise.pmStop
  exact .ite h1.of_same h1
theorem State.Canon.decDiscard (h : s.Canon) {n} : (s.decDiscard n).Canon := h.bump
theorem State.Canon.decFail (h : s.Canon) {n m cause wa} : (s.decFail n m cause wa).Canon :=
  .ite h.decStop h.decDiscard
theorem State.Canon.decBuffer (h : s.Canon) {n m bs u} : (s.decBuffer n m bs u).Canon := by
  unfold State.decBuffer
  extract_lets
  split
  · next s1 e2 =>
      have h1 : s1.Canon := h.refusal.of_eq e2
      exact .decStop (.ite h1.crlAlloc.fst h1)
  · next s3 e4 =>
      have h3 : s3.Canon := h.refusal.of_eq e4
      split
      · next e5 => exact (h3.crlAlloc.of_eq e5).bufPut.setDec
      · next e6 => exact (h3.crlAlloc.of_eq e6).decStop
theorem State.Canon.decUnit (h : s.Canon) {n m a wa} : (s.decUnit n m a wa).Canon := by
  unfold State.decUnit
  extract_lets
  split
  · exact h.decFail
  · exact .ite h.setDec.decDiscard (.ite h.setDec (.decBuffer (.ite h.setDec.setDec h.setDec)))
theorem State.Canon.decPacket (h : s.Canon) {n m b} : (s.decPacket n m b).Canon := by
  unfold State.decPacket
  split
  · extract_lets _ _ s1
    have h1 : s1.Canon := by
      unfold s1
      split
      · exact .ite h h.setDec.decFail
      · exact h
    exact .ite h (.ite (.ite h1.setDec.decUnit h1.setDec.decFail) h1.setDec)
theorem State.Canon.execDecPacketAssemble (h : s.Canon) {dec stream} :
    CanonNext (execDecPacketAssemble dec stream s) := by
  unfold Machine.execDecPacketAssemble
  extract_lets
  refine .next (.ite ?_ h)
  split
  · next e1 => exact h.colTake.of_eq e1
  · next s2 _ e3 =>
      have h2 : s2.Canon := h.colTake.of_eq e3
      exact .ite h2.decPacket h2.setDec
theorem State.Canon.decLate (h : s.Canon) {n m u} : (s.decLate n m u).Canon := h.crlFree.bump.raise
theorem State.Canon.execDecUnitSubmit (h : s.Canon) {dec stream ctus} :
    CanonNext (execDecUnitSubmit dec stream ctus s) := by
  unfold Machine.execDecUnitSubmit
  extract_lets
  split
  · refine .next (.ite ?_ h)
    extract_lets
    refine .ite h.setDec.crlFree.decDiscard ?_
    split
    · next e1 => exact (h.setDec.rveSubmit.of_eq e1).setDec
    · next e2 => exact (h.setDec.rveSubmit.of_eq e2).decLate
  · exact .next h
theorem State.Canon.decHeldLate (h : s.Canon) {n m} : (s.decHeldLate n m).Canon :=
  .ite h (h.setDec.foldl fun _ h1 _ => h1.decLate.layItem)
theorem State.Canon.decAbort (h : s.Canon) {n m status} : (s.decAbort n m status).Canon := by
  unfold State.decAbort
  split
  · exact h
  · exact .ite h.setDec.decLate.layItem h.setDec.crlFree
theorem State.Canon.decPicture (h : s.Canon) {n m u p} : (s.decPicture n m u p).Canon := by
  unfold State.decPicture
  extract_lets
  split
  · exact h.decStop
  · extract_lets _ _ _ _ _ _ _ _ s1
    have h1 : s1.Canon := h.putPicture.setDec.bumpN.bumpN
    exact .ite h1.raise h1
theorem State.Canon.decEnd (h : s.Canon) {n m u r} : (s.decEnd n m u r).Canon := by
  unfold State.decEnd
  extract_lets
  refine .ite h.decDiscard (.ite h.diverge.decStop ?_)
  split
  · exact .decStop (.ite h.diverge h)
  · exact .ite h.decStop h.decPicture
theorem State.Canon.decSave (h : s.Canon) {n m u} : (s.decSave n m u).Canon := .ite h.setVce h
theorem State.Canon.decUndo (h : s.Canon) {n m wa} : (s.decUndo n m wa).Canon := by
  unfold State.decUndo
  split
  · exact .ite h.setDec.bump.raise h
  · exact h
theorem State.Canon.decRestart (h : s.Canon) {n m} : (s.decRestart n m).Canon := by
  unfold State.decRestart
  exact (h.foldl fun _ h1 _ => h1.crlFree).setDec
theorem State.Canon.execDecRestart (h : s.Canon) {src dec stream} : CanonNext (execDecRestart src dec stream s) :=
  .next (h.access fun _ h1 => .ite h1.decRestart h1)
theorem State.Canon.decApply (h : s.Canon) {n} : (s.decApply n).Canon :=
  (h.foldl fun _ h1 _ => .ite h1 ((h1.foldl fun _ h2 _ => h2.crlFree).setDec)).tableApply.wr

/-! ## Sys2Proof/Machine/Lnu.lean -/

theorem State.Canon.waitTru (h : s.Canon) {t} : CanonOpt (s.waitTru t) :=
  .ite (.some h) (.ite (.some h.advance) .none)
theorem State.Canon.defectSeen (h : s.Canon) {d} : (s.defectSeen d).Canon := .ite h.setPm h
theorem State.Canon.lnuRefresh (h : s.Canon) {p} : (s.lnuRefresh p).Canon :=
  ((h.setLine.setLine.foldl fun _ h1 _ => h1.raise.defectSeen).foldl fun _ h2 _ => h2.defectSeen.raise).wfld
theorem State.Canon.execFramerOccurrence (h : s.Canon) {port pos hit} :
    CanonNext (execFramerOccurrence port pos hit s) := by
  unfold Machine.execFramerOccurrence
  extract_lets
  refine .ite (.next h) ?_
  refine .ite (.ite (.next h) (.ite (.next h.setLine) (.ite (.next h.setLine) (.next h.setLine.bump.lnuRefresh)))) ?_
  split
  · exact .ite (.next h.setLine) (.ite (.next h.setLine) (.next h.setLine.lnuRefresh))
  · exact .ite (.next h) (.ite (.next h.bump) (.next h.setLine))
theorem State.Canon.execLnuFalseLock (h : s.Canon) {port} : CanonNext (execLnuFalseLock port s) :=
  .ite (.next h.setLine.bump.raise.lnuRefresh) (.next h)
theorem State.Canon.lofSet (h : s.Canon) {port v} : (s.lofSet port v).Canon := by
  unfold State.lofSet
  extract_lets
  refine .ite ?_ h
  split
  · next e1 => exact (h.waitTru.of_eq e1).setLine.lnuRefresh
  · exact h
theorem State.Canon.execLofDeclare (h : s.Canon) {port} : CanonNext (execLofDeclare port s) := .next h.lofSet
theorem State.Canon.execLofClear (h : s.Canon) {port} : CanonNext (execLofClear port s) := .next h.lofSet
theorem State.Canon.execLosDeclare (h : s.Canon) {port} : CanonNext (execLosDeclare port s) :=
  .ite (.next h.setLine.lnuRefresh) (.next h)
theorem State.Canon.execLosClear (h : s.Canon) {port} : CanonNext (execLosClear port s) :=
  .ite (.next h.setLine.lnuRefresh) (.next h)
theorem State.Canon.ptrCount (h : s.Canon) {p path v} : (s.ptrCount p path v).Canon := by
  unfold State.ptrCount
  extract_lets s1 s2 s3
  have h1 : s1.Canon := .ite h.bump h
  have h2 : s2.Canon := .ite h1.bump h1
  have h3 : s3.Canon := .ite h2.bump h2
  split
  · exact .ite h3.setPm h3
  · exact h3
theorem State.Canon.pmErr (h : s.Canon) {e bad} : (s.pmErr e bad).Canon := .ite h.setPm h
theorem State.Canon.pathFrame (h : s.Canon) {p o} : (s.pathFrame p o).Canon := .ite h.setLine.ptrCount.pmErr h
theorem State.Canon.execRxFrameOverhead (h : s.Canon) {port oh} : CanonNext (execRxFrameOverhead port oh s) := by
  unfold Machine.execRxFrameOverhead
  extract_lets _ _ s1
  have h1 : s1.Canon := h.bump.bumpN.bumpN.pmErr.pmErr
  refine .ite ?_ (.next h)
  exact .next (.lnuRefresh (.foldl (.ite h1.setLine.wr.wr h1.setLine.wr) fun _ h2 _ => h2.pathFrame))
theorem State.Canon.tuFrame (h : s.Canon) {p o} : (s.tuFrame p o).Canon := .ite h.setLine.ptrCount.pmErr h
theorem State.Canon.execRxMultiframe (h : s.Canon) {port tus} : CanonNext (execRxMultiframe port tus s) :=
  .ite (.next ((h.foldl fun _ h1 _ => h1.tuFrame).lnuRefresh)) (.next h)
theorem State.Canon.slip (h : s.Canon) {p t rep} : (s.slip p t rep).Canon := by
  unfold State.slip
  extract_lets _ _ s1 s2
  have h1 : ∀ s, s.Canon → ∀ x2, (s1 s x2).Canon := fun _ h3 _ => h3.setPm
  have h2 : s2.Canon := h1 _ (h1 _ h.bump _) _
  exact .ite h2 h2.setLnu.raise
theorem State.Canon.execTribFrameComplete (h : s.Canon) {port trib frame} :
    CanonNext (execTribFrameComplete port trib frame s) := by
  unfold Machine.execTribFrameComplete
  extract_lets
  refine .ite ?_ (.next h)
  split
  extract_lets
  split
  extract_lets _ _ _ _ _ s1 s2
  have h1 : s1.Canon := .ite h.setLine.slip h.setLine
  have h2 : s2.Canon := by
    unfold s2
    split
    · exact .pmErr (.ite h1.setPm h1)
    · exact h1
  exact .next h2.lnuRefresh
theorem State.Canon.readTrib (h : s.Canon) {p t} : (s.readTrib p t).Canon := by
  unfold State.readTrib
  extract_lets
  split
  · exact h.setLine
  · exact .ite h.slip h
theorem State.Canon.handBytes (h : s.Canon) {m} : (s.handBytes m).Canon :=
  h.foldl fun _ h1 _ => .ite h1 h1.setMxf
theorem State.Canon.layTdm (h : s.Canon) {p m} : (s.layTdm p m).Canon := .ite h h.lay
theorem State.Canon.aisWith (h : s.Canon) {p} {f : State → State} (hf : ∀ s, s.Canon → (f s).Canon) :
    (s.aisWith p f).Canon :=
  .wfld (.foldl (hf _ h) fun _ h1 _ => h1.raise)
theorem State.Canon.startLine (h : s.Canon) {p m} : (s.startLine p m).Canon := .ite h.setLine.bump h.setLine
theorem State.Canon.execTdmFramePulse (h : s.Canon) : CanonNext (execTdmFramePulse s) := by
  unfold Machine.execTdmFramePulse
  split
  · exact .next h
  · refine .next ?_
    exact (((h.advanceTo.atStep.setLnu.foldl fun _ h1 _ =>
      .ite (h1.foldl fun _ h2 _ => h2.readTrib) h1).foldl fun _ h3 _ =>
      h3.lnuRefresh).handBytes.foldl fun _ h4 _ => h4.layTdm).foldl fun _ h5 _ => h5.startLine
theorem State.Canon.tdmEntry (h : s.Canon) {body wale} : (s.tdmEntry body wale).Canon :=
  h.foldl fun _ h1 _ => h1.setMxf
theorem State.Canon.execTxForceWrite (h : s.Canon) {src port v} : CanonNext (execTxForceWrite src port v s) := by
  unfold Machine.execTxForceWrite
  extract_lets
  refine .next (h.access fun _ h1 => .ite h1.accessErr ?_)
  extract_lets _ s2
  have h2 : s2.Canon := by
    refine h1.aisWith fun _ h3 => ?_
    extract_lets _ s4
    have h4 : s4.Canon := .ite h3.wfld h3.wfld.wfld
    exact .ite h4.wfld h4
  exact .ite h2.accessErr h2
theorem State.Canon.execPmRecord (h : s.Canon) : CanonNext (execPmRecord s) := by
  unfold Machine.execPmRecord
  extract_lets
  refine .ite ?_ (.next h)
  split
  · next s1 _ e2 =>
      have h1 : s1.Canon := h.colTake.of_eq e2
      exact .ite (.next h1.bump) (.next h1.pmLeg)
  · next e3 => exact .next (h.colTake.of_eq e3)
theorem State.Canon.secondClose (h : s.Canon) : s.secondClose.Canon :=
  (h.foldl fun _ h1 _ => h1.setPm).setLnu.foldl fun _ h2 _ => .ite h2.setPm.raise h2.setPm
theorem State.Canon.execPmSecondClose (h : s.Canon) : CanonNext (execPmSecondClose s) :=
  .ite (.next h.atStep.secondClose) (.next h)
theorem State.Canon.binClose (h : s.Canon) {day} : CanonFst (s.binClose day) :=
  (h.foldl fun _ h1 _ => h1.setPm).bumpN.setLnu.binRecords
theorem State.Canon.execBinClose (h : s.Canon) : CanonNext (execBinClose s) := by
  refine .ite ?_ (.next h)
  extract_lets _ s1
  have h1 : s1.Canon := .ite h.atStep h.atStep.secondClose
  refine .next ?_
  refine .ite (CanonFst.fst (.ite h1.binClose.fst.binClose (.pair h1.binClose.fst))) ?_
  exact .raise (CanonFst.fst (.ite h1.binClose.fst.binClose (.pair h1.binClose.fst)))
theorem State.Canon.lnuTables (h : s.Canon) {p} : (s.lnuTables p).Canon :=
  h.tableApply.tableApply.setLine.pmDoubt.lnuRefresh

/-! ## Sys2Proof/Machine/Pxc.lean -/

theorem State.Canon.layerTold (h : s.Canon) {q f k l row was} : (s.layerTold q f k l row was).Canon := by
  unfold State.layerTold
  extract_lets _ s1 s2 s3
  have h1 : s1.Canon := .ite h.bump h
  have h2 : s2.Canon := .ite h1.bump h1
  have h3 : s3.Canon := .ite h2.bump.raise h2
  exact .ite h3.raise h3
theorem State.Canon.pxcStart (h : s.Canon) {q f l} : (s.pxcStart q f l).Canon := by
  unfold State.pxcStart
  exact (h.foldl fun _ h1 _ => h1.layerTold).setPipe
theorem State.Canon.execPxcFrameLaunch (h : s.Canon) {pipe} : CanonNext (execPxcFrameLaunch pipe s) := by
  unfold Machine.execPxcFrameLaunch
  extract_lets _ _ _ s1
  have h1 : s1.Canon := h.atStep.setPipe
  refine .next (.ite ?_ h)
  split
  · exact h
  · exact .ite h1 h1.pxcStart
theorem State.Canon.pxcWaits (h : s.Canon) {q} : (s.pxcWaits q).Canon :=
  h.setPipe.foldl fun _ h1 _ => h1.rveDecrement
theorem State.Canon.pxcPublish (h : s.Canon) {q f} : (s.pxcPublish q f).Canon :=
  .pxcWaits (.setPipe (.bumpN (.bump (.ite h.putPicture h.putPicture.bump.raise.diverge))))
theorem State.Canon.pxcAbandon (h : s.Canon) {q f} : (s.pxcAbandon q f).Canon := h.setPipe.bump.raise.layItem.pxcWaits
theorem State.Canon.pxcUndo (h : s.Canon) {q fr} : (s.pxcUndo q fr).Canon := by
  unfold State.pxcUndo
  split
  · exact .ite h.setPipe.pxcAbandon h
  · exact h
theorem State.Canon.execPxcFramePublish (h : s.Canon) {pipe} : CanonNext (execPxcFramePublish pipe s) := by
  unfold Machine.execPxcFramePublish
  split
  · exact .next (.ite h.pxcAbandon h.pxcPublish)
  · exact .next h
theorem State.Canon.execPxcFrameLate (h : s.Canon) {pipe} : CanonNext (execPxcFrameLate pipe s) := by
  unfold Machine.execPxcFrameLate
  split
  · exact .next (.ite h.atStep.pxcAbandon h)
  · exact .next h
theorem State.Canon.pxcApply (h : s.Canon) {q} : (s.pxcApply q).Canon := h.tableApply

/-! ## Sys2Proof/Machine/Motion.lean -/

theorem State.Canon.putRef (h : s.Canon) {e k slot luma chroma blocks} :
    (s.putRef e k slot luma chroma blocks).Canon :=
  h.putPicture.foldl fun _ h1 _ => h1.dramPut

/-! ## Sys2Proof/Machine/Vce.lean -/

theorem State.Canon.encLaunchOne (h : s.Canon) {n l m} : (s.encLaunchOne n l m).Canon := by
  unfold State.encLaunchOne
  extract_lets
  split
  · exact h
  · refine .ite h.setEncStream ?_
    extract_lets
    split
    · next s1 e2 =>
        have h1 : s1.Canon := h.refusal.of_eq e2
        exact .raise (.bump (CanonFst.fst (.ite (.pair h1.rveSubmit.fst) (.pair h1.takeFree))))
    · next e3 =>
        split
        · next s4 _ _ e5 =>
            have h4 : s4.Canon := (h.refusal.of_eq e3).rveSubmit.of_eq e5
            extract_lets _ s6
            have h6 : s6.Canon := .ite h4.setEncStream.setPipe h4.setEncStream
            exact .ite h6.putTile h6
theorem State.Canon.execEncLaunch (h : s.Canon) {enc} : CanonNext (execEncLaunch enc s) :=
  .next (.ite (h.atStep.setEnc.foldl fun _ h1 _ => .ite h1 h1.encLaunchOne) h)
theorem State.Canon.encStart (h : s.Canon) {n d} : (s.encStart n d).Canon := by
  unfold State.encStart
  extract_lets
  split
  · exact h
  · extract_lets _ _ _ _ _ _ _ _ _ _ s1
    have h1 : s1.Canon := .ite h.bumpN h
    exact .ite h1.setEncStream.setEnc.raise h1.setEncStream.setEnc
theorem State.Canon.encPacket (h : s.Canon) {n e pic k flags dd body} :
    CanonFst (s.encPacket n e pic k flags dd body) := by
  unfold State.encPacket
  extract_lets
  split
  · next s1 e2 =>
      have h1 : s1.Canon := h.refusal.of_eq e2
      exact .pair (.bump (.ite h1.colSend.fst h1))
  · next e3 => exact .pair ((h.refusal.of_eq e3).colSend.fst)
theorem State.Canon.encPackets (h : s.Canon) {n e pic k last first ps} :
    CanonFst (s.encPackets n e pic k last first ps) := by
  induction ps generalizing s first with
  | nil => exact .pair h
  | cons p r ih => exact .pair (ih h.encPacket.fst).fst
theorem State.Canon.encCount (h : s.Canon) {n pic old new bits} : (s.encCount n pic old new bits).Canon := by
  unfold State.encCount
  extract_lets _ _ s1 s2
  have h1 : s1.Canon := .ite h h.bumpN
  have h2 : s2.Canon := by
    unfold s2
    split
    · exact h1.bump.raise
    · exact h1
  exact .ite h2 h2.bumpN
theorem State.Canon.encUnit (h : s.Canon) {n pic u} : (s.encUnit n pic u).Canon := by
  unfold State.encUnit
  split
  · exact h
  · extract_lets
    split
    · next s1 _ e2 =>
        have h1 : s1.Canon := CanonFst.of_eq (.ite (.pair h.encCount) h.encCount.encPackets) e2
        extract_lets s3 s4
        have h3 : s3.Canon := .ite h1.raise h1
        have h4 : s4.Canon := .ite h3.setTile h3
        exact .setEnc (.setEncStream (.ite h4.putRef.bump h4))
theorem State.Canon.execEncUnitEmit (h : s.Canon) {enc u} : CanonNext (execEncUnitEmit enc u s) := by
  unfold Machine.execEncUnitEmit
  split
  · exact .next h.encUnit
  · exact .next h
theorem State.Canon.statLost (h : s.Canon) {n pic} : (s.statLost n pic).Canon := .ite h.bump h.bump.setEnc.raise
theorem State.Canon.encStat (h : s.Canon) {n e pic l} : (s.encStat n e pic l).Canon := by
  unfold State.encStat
  extract_lets
  split
  · next s1 e2 =>
      have h1 : s1.Canon := h.refusal.of_eq e2
      extract_lets s3
      have h3 : s3.Canon := by
        refine .ite ?_ h1
        split
        · next s4 _ e5 =>
            have h4 : s4.Canon := h1.crlAlloc.of_eq e5
            exact .crlFree (.ite h4 h4.colReserve)
        · next e6 => exact h1.crlAlloc.of_eq e6
      exact h3.statLost
  · next s7 e8 =>
      have h7 : s7.Canon := h.refusal.of_eq e8
      split
      · next e9 => exact (h7.crlAlloc.of_eq e9).bufPut.crlAdd.crlDrop.colSend.fst
      · next e10 => exact (h7.crlAlloc.of_eq e10).statLost
theorem State.Canon.encDone (h : s.Canon) {n} : (s.encDone n).Canon := by
  unfold State.encDone
  split
  · exact h
  · exact .ite (h.setEnc.setEncStream.tileEnds.foldl fun _ h1 _ => h1.encStat) h.setEnc.setEncStream.tileEnds
theorem State.Canon.encAbandon (h : s.Canon) {n m f status pic} : (s.encAbandon n m f status pic).Canon :=
  .ite h.setEncStream.tileEnds.bump.raise.layItem h.setEncStream.tileEnds
theorem State.Canon.encAbort (h : s.Canon) {n m f status running} : (s.encAbort n m f status running).Canon :=
  .ite h.setEnc.encAbandon h.encAbandon
theorem State.Canon.encUndo (h : s.Canon) {n m f} : (s.encUndo n m f).Canon := by
  unfold State.encUndo
  split
  · exact .ite h.setEncStream.encAbandon h.encAbandon
  · exact h.encAbandon
theorem State.Canon.encRequest (h : s.Canon) {n m} : (s.encRequest n m).Canon := .ite h.setEncStream h
theorem State.Canon.execEncRefresh (h : s.Canon) {src enc stream} : CanonNext (execEncRefresh src enc stream s) := by
  unfold Machine.execEncRefresh
  extract_lets
  split
  · exact .next (h.access fun _ h1 => .ite h1 h1.encRequest)
  · refine .next (.ite ?_ h)
    split
    · exact h.of_same.encRequest
    · exact h
theorem State.Canon.encApply (h : s.Canon) {n} : (s.encApply n).Canon :=
  (h.foldl fun _ h1 _ => .ite h1.setEncStream h1).tableApply.wr

/-! ## Sys2Proof/Machine/Weave.lean -/

theorem State.Canon.ingest (h : s.Canon) {b} : (s.ingest b).Canon := by
  unfold State.ingest
  extract_lets
  split
  · exact h.bump
  · exact .ite h.bump (.ite h (.ite h.putTile.bump.raise h.dramPut.putTile))
theorem State.Canon.execWeaveIngest (h : s.Canon) {queue} : CanonNext (execWeaveIngest queue s) := by
  refine .next (.ite ?_ h)
  split
  · next e1 => exact (h.colTake.of_eq e1).ingest
  · next e2 => exact h.colTake.of_eq e2
theorem State.Canon.tileMissing (h : s.Canon) {tag f l cause} : (s.tileMissing tag f l cause).Canon := by
  unfold State.tileMissing
  extract_lets _ _ s1
  have h1 : s1.Canon := h.putTile.bump.raise
  exact .ite h (.ite h1.bump.layItem h1)
theorem State.Canon.settle (h : s.Canon) {tag l} : CanonFst (s.settle tag l) := by
  unfold State.settle
  extract_lets
  split
  · exact .pair h
  · split
    · exact .ite (.pair h.tileMissing) (.pair h)
    · exact .pair h
  · exact .pair h
theorem State.Canon.execWeaveCut (h : s.Canon) : CanonNext (execWeaveCut s) :=
  .next (.ite (h.foldl fun _ h1 _ => .ite h1.settle.fst h1) h)
theorem State.Canon.setRcv (h : s.Canon) {p e} {f : Receiver → Receiver} : (s.setRcv p e f).Canon := h.setWve
theorem State.Canon.launchRcv (h : s.Canon) {p e t f l} : (s.launchRcv p e t f l).Canon := by
  unfold State.launchRcv
  extract_lets
  refine .ite h.setRcv ?_
  split
  · extract_lets _ s1
    have h1 : s1.Canon := by
      unfold s1
      split
      · exact .ite h.bumpN h.bumpN.setWve.raise
      · exact h.bumpN
    exact .setRcv (.ite h1.bumpN h1)
theorem State.Canon.wveRefresh (h : s.Canon) {asks} : (s.wveRefresh asks).Canon :=
  CanonFst.fst (.foldl (.pair h) fun _ h1 _ => .ite h1 (.pair h1.fst.encRequest.bump))
theorem State.Canon.execWeaveLaunch (h : s.Canon) {template} : CanonNext (execWeaveLaunch template s) := by
  unfold Machine.execWeaveLaunch
  extract_lets
  refine .next (.ite ?_ h)
  split
  · exact h
  · exact (h.atStep.setWve.foldl fun _ h1 _ => h1.launchRcv).wveRefresh
theorem State.Canon.buildPicture (h : s.Canon) {p e f key} : (s.buildPicture p e f key).Canon := by
  unfold State.buildPicture
  exact h.of_same.bump.bumpN.bumpN.bumpN.bumpN.setRcv
theorem State.Canon.settleAll (h : s.Canon) {l tags} : CanonFst (s.settleAll l tags) := by
  induction tags generalizing s with
  | nil => exact .pair h
  | cons tag r ih =>
    unfold State.settleAll
    split
    · next e => exact ih (h.settle.of_eq e)
    · next e => exact .pair (h.settle.of_eq e)
theorem State.Canon.rekey (h : s.Canon) {p e why} : (s.rekey p e why).Canon := .ite h.setRcv.bump.raise h
theorem State.Canon.spliceLate (h : s.Canon) {p e} : (s.spliceLate p e).Canon := by
  unfold State.spliceLate
  split
  · exact h.setRcv.bump.raise.layItem.rekey
  · exact h
theorem State.Canon.buildFirst (h : s.Canon) {p es} : (s.buildFirst p es).Canon := by
  induction es generalizing s with
  | nil => exact h
  | cons e r ih =>
    unfold State.buildFirst
    split
    · refine .ite h.spliceLate ?_
      split
      · next e => exact (h.settleAll.of_eq e).buildPicture
      · next e => exact ih (h.settleAll.of_eq e)
    · exact ih h
theorem State.Canon.execWeavePictureBuild (h : s.Canon) {splicer} : CanonNext (execWeavePictureBuild splicer s) :=
  .next (.ite h.buildFirst h)
theorem State.Canon.spliceUndo (h : s.Canon) {p e l} : (s.spliceUndo p e l).Canon := by
  unfold State.spliceUndo
  split
  · exact .ite h.setRcv.spliceLate h
  · exact h.spliceLate
theorem State.Canon.execWveSpliceLate (h : s.Canon) {splicer entry} :
    CanonNext (execWveSpliceLate splicer entry s) := by
  unfold Machine.execWveSpliceLate
  split
  · exact .next (.ite h.atStep.spliceLate h)
  · exact .next h
theorem State.Canon.execWveRekey (h : s.Canon) {src splicer entry} :
    CanonNext (execWveRekey src splicer entry s) := by
  unfold Machine.execWveRekey
  extract_lets
  split
  · exact .next (h.access fun _ h1 => h1.rekey)
  · split
    · exact .next h.of_same.rekey
    · exact .next h
theorem State.Canon.wveLoad (h : s.Canon) {p} : (s.wveLoad p).Canon := h.wr
theorem State.Canon.wveApply (h : s.Canon) {p} : (s.wveApply p).Canon :=
  .wveLoad (.wveLoad (.ite (h.foldl fun _ h1 _ => h1.tableApply) h))
theorem State.Canon.wveFlipped (h : s.Canon) {p} : (s.wveFlipped p).Canon :=
  (h.foldl fun _ h1 _ => .ite h1 (.ite h1.setRcv h1.setRcv)).wveLoad
theorem State.Canon.wveClear (h : s.Canon) {p} : (s.wveClear p).Canon := h.setWve

/-! ## Sys2Proof/Machine/Commit.lean -/

theorem State.Canon.rwsApply (h : s.Canon) {p} : (s.rwsApply p).Canon := h.foldl fun _ h1 _ => h1.of_same
theorem State.Canon.flipTable (h : s.Canon) {p t} : (s.flipTable p t).Canon := h.foldl fun _ h1 _ => h1.tset.tset
theorem State.Canon.flipPage (h : s.Canon) {p} : (s.flipPage p).Canon := h.foldl fun _ h1 _ => h1.flipTable
theorem State.Canon.validate (h : s.Canon) {p t} : CanonFst (s.validate p t) := by
  refine .ite (.pair h) ?_
  split
  · exact .pair h.raise
  · exact .ite (.pair h) (.ite (.pair h) (.pair h))
theorem State.Canon.cmtResolve (h : s.Canon) {p st reason} : (s.cmtResolve p st reason).Canon := by
  unfold State.cmtResolve
  extract_lets _ _ _ s1
  have h1 : s1.Canon := h.wfld.wfld.seqUp.wfld.setPg
  exact .ite h1.raise (.ite h1.raise h1.raise)
theorem State.Canon.cmtArmed (h : s.Canon) {p} : (s.cmtArmed p).Canon := h.wfld.wfld.wfld
theorem State.Canon.groupShow (h : s.Canon) : s.groupShow.Canon := h.wr.wr.wr.wr
theorem State.Canon.setGroup (h : s.Canon) {g} {f : Cgrp → Cgrp} : (s.setGroup g f).Canon := h.of_same.groupShow
theorem State.Canon.groupResolve (h : s.Canon) {g st reason culprit} :
    (s.groupResolve g st reason culprit).Canon :=
  h.setGroup
theorem State.Canon.groupRefuse (h : s.Canon) {g reason culprit} {why : ℕ → ℕ} :
    (s.groupRefuse g reason culprit why).Canon :=
  (h.foldl fun _ h1 _ => h1.cmtResolve).groupResolve
theorem State.Canon.groupLate (h : s.Canon) {g} : (s.groupLate g).Canon :=
  (h.foldl fun _ h1 _ => h1.cmtResolve).groupResolve
theorem State.Canon.armPage (h : s.Canon) {p} : (s.armPage p).Canon := by
  unfold State.armPage
  extract_lets
  refine .ite (.ite h.cmtResolve (.ite h.cmtResolve ?_)) (.ite h.cmtResolve ?_)
  · split
    · next e1 => exact (h.validate.of_eq e1).cmtArmed.groupShow
    · next e2 => exact (h.validate.of_eq e2).cmtResolve.groupRefuse
  · split
    · next e3 => exact (h.validate.of_eq e3).cmtArmed
    · next e4 => exact (h.validate.of_eq e4).cmtResolve
theorem State.Canon.cmtAccess (h : s.Canon) {src p v} {k : State → State} (hk : ∀ s, s.Canon → (k s).Canon) :
    (s.cmtAccess src p v k).Canon :=
  h.access fun _ h1 => .ite (hk _ h1) h1.accessErr
theorem State.Canon.cmtArm (h : s.Canon) {src p v} : (s.cmtArm src p v).Canon := .ite h.accessErr h.armPage
theorem State.Canon.cmtDisarm (h : s.Canon) {src p v} : (s.cmtDisarm src p v).Canon :=
  .ite h (.ite h.accessErr h.cmtResolve.groupShow)
theorem State.Canon.cgrpArm (h : s.Canon) {src v} : (s.cgrpArm src v).Canon :=
  .ite h.accessErr (.ite h.accessErr (.ite h.groupResolve (.ite h.groupResolve (.ite h.groupResolve h.setGroup))))
theorem State.Canon.cgrpDisarm (h : s.Canon) {src v} : (s.cgrpDisarm src v).Canon :=
  .ite h.accessErr (.ite h.groupRefuse (.ite h.accessErr h))
theorem State.Canon.execCmtArm (h : s.Canon) {src page} : CanonNext (execCmtArm src page s) :=
  .next (h.cmtAccess fun _ h1 => h1.cmtArm)
theorem State.Canon.execCmtDisarm (h : s.Canon) {src page} : CanonNext (execCmtDisarm src page s) :=
  .next (h.cmtAccess fun _ h1 => h1.cmtDisarm)
theorem State.Canon.execCgrpArm (h : s.Canon) {src} : CanonNext (execCgrpArm src s) :=
  .next (h.access fun _ h1 => h1.cgrpArm)
theorem State.Canon.execCgrpDisarm (h : s.Canon) {src} : CanonNext (execCgrpDisarm src s) :=
  .next (h.access fun _ h1 => h1.cgrpDisarm)
theorem State.Canon.lfwFlip (h : s.Canon) : s.lfwFlip.Canon := by
  unfold State.lfwFlip
  exact (h.foldl fun _ h1 _ => h1.resetSub).flipPage.setLfw
theorem State.Canon.linksDown (h : s.Canon) {n} : (s.linksDown n).Canon := h.foldl fun _ h1 _ => h1.linkDown
theorem State.Canon.applyPage (h : s.Canon) {p} : (s.applyPage p).Canon := by
  unfold State.applyPage
  refine .cmtResolve ?_
  refine .ite (.ite h.rwsApply.pmDoubt h.rwsApply) ?_
  refine .ite (.ite h.rwsApply.lfwFlip h.rwsApply) ?_
  refine .ite h.rwsApply.mxfApply ?_
  refine .ite (.ite h.rwsApply.encApply h.rwsApply.decApply) ?_
  refine .ite (.ite h.rwsApply.wveApply.flipPage.wveFlipped h.rwsApply.wveApply) ?_
  refine .ite h.rwsApply.pxcApply ?_
  refine .ite (h.rwsApply.escTables.foldl fun _ h1 _ => h1.gclApply) ?_
  refine .ite (.ite (.ite h.rwsApply.flipPage h.rwsApply) h.rwsApply.lnuTables) ?_
  exact .ite (.refreshReady (.ite h.rwsApply h.rwsApply.linksDown)) h.rwsApply
theorem State.Canon.execCommitApply (h : s.Canon) {page} : CanonNext (execCommitApply page s) :=
  .next (.ite (.ite h.atStep.cmtResolve h.atStep.applyPage) h)
theorem State.Canon.execCgrpCheck (h : s.Canon) {group} : CanonNext (execCgrpCheck group s) := by
  unfold Machine.execCgrpCheck
  extract_lets _ _ _ s1
  refine .next (.ite ?_ h)
  clear_value s1
  split
  · exact h.atStep.groupRefuse
  · exact .ite h.atStep.groupRefuse h.atStep.setGroup
theorem State.Canon.execCgrpApply (h : s.Canon) {group} : CanonNext (execCgrpApply group s) :=
  .next (.ite ((h.atStep.foldl fun _ h1 _ => h1.applyPage).groupResolve) h)
theorem State.Canon.startLate (h : s.Canon) : s.startLate.Canon :=
  (h.foldl fun _ h1 _ => h1.groupLate).foldl fun _ h2 _ => h2.cmtResolve
theorem State.Canon.resetCommit (h : s.Canon) {p} : (s.resetCommit p).Canon :=
  .ite h (.ite h.cmtResolve.groupRefuse h.cmtResolve.groupShow)
theorem State.Canon.doomCommit (h : s.Canon) {p} : (s.doomCommit p).Canon := .ite h.setPg h

/-! ## Sys2Proof/Machine/Operands.lean -/

theorem State.Canon.setCore (h : s.Canon) {n} {f : WCore → WCore} : (s.setCore n f).Canon := h.of_same

/-! ## Sys2Proof/Machine/Withy.lean -/

theorem State.Canon.setWst (h : s.Canon) {n v} : (s.setWst n v).Canon := h.wfld
theorem State.Canon.endWait (h : s.Canon) {n} : (s.endWait n).Canon := by
  unfold State.endWait
  split
  · exact h.bumpN.setCore.setWst
  · exact h
theorem State.Canon.beginWait (h : s.Canon) {n} : (s.beginWait n).Canon := by
  unfold State.beginWait
  split
  · exact h
  · exact h.setCore.setWst
theorem State.Canon.testHalted (h : s.Canon) {n v} : (s.testHalted n v).Canon := h.setCore.setWst.wfld.seqUp.wr
theorem State.Canon.wdsRetire (h : s.Canon) {n v faulted cycles} : (s.wdsRetire n v faulted cycles).Canon := by
  unfold State.wdsRetire
  extract_lets s1
  have h1 : s1.Canon := h.endWait.bumpN
  exact .ite h1.setCore.testHalted h1.setCore
theorem State.Canon.cutChans (h : s.Canon) {n} : (s.cutChans n).Canon :=
  h.foldl fun _ h1 _ => .ite h1.setCore.takeFree h1.setCore
theorem State.Canon.wdsFaultAt (h : s.Canon) {n cause pc cycles} : (s.wdsFaultAt n cause pc cycles).Canon :=
  h.endWait.wfld.wfld.seqUp.bump.raise.cutChans.setCore.wdsRetire
theorem State.Canon.memUe (h : s.Canon) {n bank word} : (s.memUe n bank word).Canon := h.raise.setPg.refreshReady
theorem State.Canon.eccFixed (h : s.Canon) {n chk} : (s.eccFixed n chk).Canon := .ite h.bumpN h
theorem State.Canon.withyRun (h : s.Canon) {n chk op} : (s.withyRun n chk op).Canon := by
  refine .ite ?_ h
  extract_lets
  split
  · exact h.beginWait
  · exact .wdsFaultAt (.ite h.endWait.memUe h.endWait)
  · exact h.wdsRetire
  · exact h.endWait.setCore.eccFixed
theorem State.Canon.execNop (h : s.Canon) {n} : CanonNext (execNop n s) := .next h.withyRun
theorem State.Canon.execMov (h : s.Canon) {n d a} : CanonNext (execMov n d a s) := .next h.withyRun
theorem State.Canon.execMovi (h : s.Canon) {n d imm} : CanonNext (execMovi n d imm s) := .next h.withyRun
theorem State.Canon.execMovhi (h : s.Canon) {n d imm} : CanonNext (execMovhi n d imm s) := .next h.withyRun
theorem State.Canon.execWithyAdd (h : s.Canon) {n d a b} : CanonNext (execWithyAdd n d a b s) := .next h.withyRun
theorem State.Canon.execSub (h : s.Canon) {n d a b} : CanonNext (execSub n d a b s) := .next h.withyRun
theorem State.Canon.execAnd (h : s.Canon) {n d a b} : CanonNext (execAnd n d a b s) := .next h.withyRun
theorem State.Canon.execOr (h : s.Canon) {n d a b} : CanonNext (execOr n d a b s) := .next h.withyRun
theorem State.Canon.execXor (h : s.Canon) {n d a b} : CanonNext (execXor n d a b s) := .next h.withyRun
theorem State.Canon.execShl (h : s.Canon) {n d a b} : CanonNext (execShl n d a b s) := .next h.withyRun
theorem State.Canon.execShr (h : s.Canon) {n d a b} : CanonNext (execShr n d a b s) := .next h.withyRun
theorem State.Canon.execShrl (h : s.Canon) {n d a b} : CanonNext (execShrl n d a b s) := .next h.withyRun
theorem State.Canon.execMax (h : s.Canon) {n d a b} : CanonNext (execMax n d a b s) := .next h.withyRun
theorem State.Canon.execMin (h : s.Canon) {n d a b} : CanonNext (execMin n d a b s) := .next h.withyRun
theorem State.Canon.execAddi (h : s.Canon) {n d a imm} : CanonNext (execAddi n d a imm s) := .next h.withyRun
theorem State.Canon.execShri (h : s.Canon) {n d a k} : CanonNext (execShri n d a k s) := .next h.withyRun
theorem State.Canon.execShli (h : s.Canon) {n d a k} : CanonNext (execShli n d a k s) := .next h.withyRun
theorem State.Canon.execAbs (h : s.Canon) {n d a} : CanonNext (execAbs n d a s) := .next h.withyRun
theorem State.Canon.execMaxi (h : s.Canon) {n d a} : CanonNext (execMaxi n d a s) := .next h.withyRun
theorem State.Canon.execMini (h : s.Canon) {n d a} : CanonNext (execMini n d a s) := .next h.withyRun
theorem State.Canon.execExpt (h : s.Canon) {n d a} : CanonNext (execExpt n d a s) := .next h.withyRun
theorem State.Canon.execCmp (h : s.Canon) {n a b} : CanonNext (execCmp n a b s) := .next h.withyRun
theorem State.Canon.execCmpi (h : s.Canon) {n a imm} : CanonNext (execCmpi n a imm s) := .next h.withyRun
theorem State.Canon.execLdw (h : s.Canon) {n d ax post imm ecc} : CanonNext (execLdw n d ax post imm ecc s) :=
  .next h.withyRun
theorem State.Canon.execLdh (h : s.Canon) {n d ax post imm} : CanonNext (execLdh n d ax post imm s) :=
  .next h.withyRun
theorem State.Canon.execStw (h : s.Canon) {n d ax post imm} : CanonNext (execStw n d ax post imm s) :=
  .next h.withyRun
theorem State.Canon.execSth (h : s.Canon) {n d ax post imm} : CanonNext (execSth n d ax post imm s) :=
  .next h.withyRun
theorem State.Canon.execMpy (h : s.Canon) {n acc a b sh th} : CanonNext (execMpy n acc a b sh th s) :=
  .next h.withyRun
theorem State.Canon.execMac (h : s.Canon) {n acc a b sh th} : CanonNext (execMac n acc a b sh th s) :=
  .next h.withyRun
theorem State.Canon.execMsu (h : s.Canon) {n acc a b sh th} : CanonNext (execMsu n acc a b sh th s) :=
  .next h.withyRun
theorem State.Canon.execMacm (h : s.Canon) {n acc p q} : CanonNext (execMacm n acc p q s) := .next h.withyRun
theorem State.Canon.execClr (h : s.Canon) {n acc} : CanonNext (execClr n acc s) := .next h.withyRun
theorem State.Canon.execRda (h : s.Canon) {n d acc shift wid} : CanonNext (execRda n d acc shift wid s) :=
  .next h.withyRun
theorem State.Canon.execSta (h : s.Canon) {n acc ax post imm shift wid} :
    CanonNext (execSta n acc ax post imm shift wid s) :=
  .next h.withyRun
theorem State.Canon.execMova (h : s.Canon) {n acc a} : CanonNext (execMova n acc a s) := .next h.withyRun
theorem State.Canon.execSeta (h : s.Canon) {n r a} : CanonNext (execSeta n r a s) := .next h.withyRun
theorem State.Canon.execGeta (h : s.Canon) {n d r} : CanonNext (execGeta n d r s) := .next h.withyRun
theorem State.Canon.execAadd (h : s.Canon) {n ax imm} : CanonNext (execAadd n ax imm s) := .next h.withyRun
theorem State.Canon.execSetm (h : s.Canon) {n a} : CanonNext (execSetm n a s) := .next h.withyRun
theorem State.Canon.execGetm (h : s.Canon) {n d} : CanonNext (execGetm n d s) := .next h.withyRun
theorem State.Canon.execB (h : s.Canon) {n cond target} : CanonNext (execB n cond target s) := .next h.withyRun
theorem State.Canon.execCall (h : s.Canon) {n target} : CanonNext (execCall n target s) := .next h.withyRun
theorem State.Canon.execBr (h : s.Canon) {n a} : CanonNext (execBr n a s) := .next h.withyRun
theorem State.Canon.execRepi (h : s.Canon) {n len count} : CanonNext (execRepi n len count s) := .next h.withyRun
theorem State.Canon.execRepr (h : s.Canon) {n len a} : CanonNext (execRepr n len a s) := .next h.withyRun
theorem State.Canon.execExit (h : s.Canon) {n a} : CanonNext (execExit n a s) := .next h.withyRun
theorem State.Canon.execWaitd (h : s.Canon) {n mask} : CanonNext (execWaitd n mask s) := .next h.withyRun
theorem State.Canon.execWaitf (h : s.Canon) {n} : CanonNext (execWaitf n s) := .next h.withyRun
theorem State.Canon.execEi (h : s.Canon) {n} : CanonNext (execEi n s) := .next h.withyRun
theorem State.Canon.execDi (h : s.Canon) {n} : CanonNext (execDi n s) := .next h.withyRun
theorem State.Canon.execReti (h : s.Canon) {n} : CanonNext (execReti n s) := .next h.withyRun
theorem State.Canon.execNorm (h : s.Canon) {n d acc} : CanonNext (execNorm n d acc s) := .next h.withyRun
theorem State.Canon.execReservedOpcode (h : s.Canon) {w} : CanonNext (execReservedOpcode w s) :=
  .next (.ite h (.ite h.wdsFaultAt (.ite h.memUe.wdsFaultAt (.ite h.eccFixed.wdsFaultAt h.eccFixed))))
theorem State.Canon.execInterruptEntry (h : s.Canon) {n} : CanonNext (execInterruptEntry n s) :=
  .next (.ite h.endWait.setCore h)

/-! ## Sys2Proof/Machine/WithySys.lean -/

theorem State.Canon.coreStart (h : s.Canon) {n id d} : (s.coreStart n id d).Canon := h.setCore.setWst.bump
theorem State.Canon.coreAbort (h : s.Canon) {n} : (s.coreAbort n).Canon := h.endWait.bumpN.cutChans.setCore.setWst
theorem State.Canon.dmaPut (h : s.Canon) {d i bs} : (s.dmaPut d i bs).Canon := by
  induction bs generalizing s i with
  | nil => exact h
  | cons b r ih => exact ih (.ite h.dramSet (.ite h.pktPut h.sramPut))
theorem State.Canon.dmaMove (h : s.Canon) {n d} : (s.dmaMove n d).Canon := .bumpN (.ite h.dmaPut h.setCore)
theorem State.Canon.execDmaStart (h : s.Canon) {n ch} : CanonNext (execDmaStart n ch s) := by
  unfold Machine.execDmaStart
  extract_lets
  split
  · exact .next h
  · exact .next (.ite h.setCore.wdsFaultAt h.setCore)
theorem State.Canon.restIdle (h : s.Canon) {n} : (s.restIdle n).Canon := .ite h.setWst h
theorem State.Canon.dmaCheck (h : s.Canon) {n d ecc} : (s.dmaCheck n d ecc).Canon :=
  .ite h (.ite (.ite h.memUe.wdsFaultAt h.memUe) h.eccFixed)
theorem State.Canon.execDmaDone (h : s.Canon) {n ch} : CanonNext (execDmaDone n ch s) := by
  unfold Machine.execDmaDone
  extract_lets _ _ _ s1
  have h1 : s1.Canon := .restIdle (.setCore (.ite h.dmaMove h))
  exact .next (.ite (.ite h1.dmaCheck h1) h)
theorem State.Canon.execFabricResponse (h : s.Canon) {n} : CanonNext (execFabricResponse n s) :=
  .next (.ite h (.ite h.setCore.restIdle (.ite h h.setCore)))
theorem State.Canon.execWdsLoad (h : s.Canon) {src n image} : CanonNext (execWdsLoad src n image s) := by
  unfold Machine.execWdsLoad
  extract_lets
  refine .next (h.access fun _ h1 => .ite h1.accessErr ?_)
  extract_lets
  split
  · exact h1.wfld.setCore.setWst.wfld.refreshReady
  · exact h1.wfld.raise
theorem State.Canon.execWdsLoaded (h : s.Canon) {n} : CanonNext (execWdsLoaded n s) := by
  unfold Machine.execWdsLoaded
  extract_lets _ s1
  have h1 : s1.Canon := h.setCore.setWst
  split
  · exact .next h
  · exact .next (.ite h1.raise h1.setCore.tsetF.wfld.wfld.raise.refreshReady)
theorem State.Canon.coreClear (h : s.Canon) {n} : (s.coreClear n).Canon := h.setCore.wfld.wfld
theorem State.Canon.execWdsModeWrite (h : s.Canon) {src n test} : CanonNext (execWdsModeWrite src n test s) := by
  refine .next ?_
  refine h.access fun _ h1 => ?_
  exact .ite h1.accessErr (.ite h1 (.ite h1.wfld.refreshReady h1.coreClear.refreshReady))
theorem State.Canon.memPut (h : s.Canon) {n dmem entry v} : (s.memPut n dmem entry v).Canon := h.setCore
theorem State.Canon.execWdsMemWrite (h : s.Canon) {src n dmem entry v} :
    CanonNext (execWdsMemWrite src n dmem entry v s) :=
  .next (h.access fun _ h1 => .ite h1.tblRefuse h1.memPut)
theorem State.Canon.execTestGo (h : s.Canon) {src n pc} : CanonNext (execTestGo src n pc s) :=
  .next (h.access fun _ h1 => .ite h1.wfld.accessErr h1.wfld.setCore.setWst.wfld)
theorem State.Canon.execTestIrq (h : s.Canon) {src n} : CanonNext (execTestIrq src n s) :=
  .next (h.access fun _ h1 => .ite h1.accessErr h1.setCore)
theorem State.Canon.execTestHalt (h : s.Canon) {src n} : CanonNext (execTestHalt src n s) :=
  .next (h.access fun _ h1 => .ite h1.accessErr h1.coreAbort.wfld.seqUp.wr.takeFree)

/-! ## Sys2Proof/Machine/Tasks.lean -/

theorem State.Canon.execTaskStart (h : s.Canon) {e} : CanonNext (execTaskStart e s) := by
  unfold Machine.execTaskStart
  split
  · exact .next h
  · exact .next (.ite (.ite h.startTask.setPrg.coreStart (.ite h.startTask.encStart h.startTask)) h)
theorem State.Canon.engineAbort (h : s.Canon) {d status running} : (s.engineAbort d status running).Canon :=
  .ite h.encAbort (.ite h.decAbort h)
theorem State.Canon.abortTask (h : s.Canon) {id status detail} : (s.abortTask id status detail).Canon :=
  .rveEnd (.engineAbort (.ite (.setRun (.ite h.leaveSlot.coreAbort h.leaveSlot)) h.leaveSlot))
theorem State.Canon.execBudgetAbort (h : s.Canon) {e} : CanonNext (execBudgetAbort e s) := by
  unfold Machine.execBudgetAbort
  split
  · exact .next h
  · exact .next (.ite h.raise.abortTask h)
theorem State.Canon.deadlineAbort (h : s.Canon) {id} : (s.deadlineAbort id).Canon :=
  .abortTask (.ite (.ite h.raise.layItem.raise h.raise.layItem) h.raise)
theorem State.Canon.execTaskComplete (h : s.Canon) {e value} : CanonNext (execTaskComplete e value s) := by
  unfold Machine.execTaskComplete
  split
  · exact .next h
  · refine .next ?_
    refine .ite (.ite (.ite h.deadlineAbort h.setCore.setWst.setRun.rveEnd) h) ?_
    exact .ite (.ite (.ite h.deadlineAbort h.encDone.setRun.rveEnd) h) h
theorem State.Canon.execDecodeComplete (h : s.Canon) {dec r} : CanonNext (execDecodeComplete dec r s) := by
  unfold Machine.execDecodeComplete
  split
  · exact .next h
  · extract_lets
    split
    · exact .next h
    · exact .next (.ite h (.ite h.deadlineAbort h.decSave.setDec.decEnd.crlFree.setRun.rveEnd))
theorem State.Canon.heldLate (h : s.Canon) : s.heldLate.Canon :=
  h.foldl fun _ h1 _ => h1.foldl fun _ h2 _ => h2.decHeldLate
theorem State.Canon.execDeadlineAbort (h : s.Canon) {id} : CanonNext (execDeadlineAbort id s) := by
  refine .next (.ite ?_ h)
  extract_lets s1
  have h1 : s1.Canon := h.atStep.heldLate
  exact .ite h1.deadlineAbort h1
theorem State.Canon.abortRes (h : s.Canon) {n} : (s.abortRes n).Canon := h.wfld.seqUp
theorem State.Canon.execAbortTask (h : s.Canon) {src id} : CanonNext (execAbortTask src id s) :=
  .next (h.access fun _ h1 => .ite h1.abortTask.abortRes h1.abortRes)
theorem State.Canon.execAbortOwner (h : s.Canon) {src owner} : CanonNext (execAbortOwner src owner s) :=
  .next (h.access fun _ h1 => (h1.foldl fun _ h2 _ => h2.abortTask).abortRes)
theorem State.Canon.fenceAbort (h : s.Canon) {e} : (s.fenceAbort e).Canon := by
  unfold State.fenceAbort
  split
  · exact h.abortTask.raise
  · exact h.raise
theorem State.Canon.fabricDo (h : s.Canon) {n target rq} : CanonFst (s.fabricDo n target rq) := by
  unfold State.fabricDo
  extract_lets _ _ _ _ _ _ _ s1 _ s2
  have h1 : ∀ s, s.Canon → CanonFst (s1 s) := fun _ h3 => .pair h3
  have h2 : ∀ s, s.Canon → CanonFst (s2 s) := fun _ h4 => .pair h4
  refine .ite (.pair h.rveSubmit.fst) ?_
  refine .ite (.pair h.rveDecrement) ?_
  refine .ite ?_ ?_
  · refine .ite (h1 _ h.crlAlloc.fst) ?_
    exact .ite (h1 _ h.crlAdd) (.ite (h1 _ h.crlDrop) (.ite (h1 _ h.crlFree) (.pair h.takeFree)))
  · refine .ite ?_ ?_
    · refine .ite (h2 _ h.colReserve) ?_
      refine .ite (h2 _ h.colCommit) ?_
      refine .ite (h2 _ h.colNext.fst) ?_
      exact .ite (h2 _ h.colRelease) (.ite (h2 _ h.colMark) (.ite (h2 _ h.colRewind) (.pair h.takeFree)))
    · exact .ite (.pair h.bulkSubmit.fst) (.ite (.pair h) (.ite (.pair h.estDone) (.pair h.estRate)))
theorem State.Canon.fabricSent (h : s.Canon) {n r} : (s.fabricSent n r).Canon := by
  unfold State.fabricSent
  exact h.setPrg.endWait.setCore
theorem State.Canon.fabricIssue (h : s.Canon) {n target rq} : CanonFst (s.fabricIssue n target rq) :=
  .pair (.fabricSent (.ite h.fabricDo.fst.lay h.fabricDo.fst))
theorem State.Canon.fabricFollow (h : s.Canon) {n target rq o} : (s.fabricFollow n target rq o).Canon := by
  unfold State.fabricFollow
  extract_lets
  refine .ite h.setPrg.fabricSent ?_
  split
  · next e1 => exact h.setPrg.fabricIssue.of_eq e1
  · next e2 => exact (h.setPrg.fabricIssue.of_eq e2).diverge
theorem State.Canon.execFabricRequest (h : s.Canon) {n} : CanonNext (execFabricRequest n s) := by
  unfold Machine.execFabricRequest
  extract_lets
  split
  · exact .next h
  · refine .next (.ite h.wdsFaultAt (.ite h (.ite h.beginWait (.ite ?_ h.fabricIssue.fst))))
    split
    · exact h.fabricFollow
    · exact .ite h h.beginWait.setPrg
theorem State.Canon.holdMet (h : s.Canon) {key ordinal} : (s.holdMet key ordinal).Canon := by
  unfold State.holdMet
  split
  · exact h
  · split
    · split
      · exact h.fabricFollow
      · exact h
    · exact h.setPrg
theorem State.Canon.execOutcomeHoldTimeout (h : s.Canon) : CanonNext (execOutcomeHoldTimeout s) := by
  unfold Machine.execOutcomeHoldTimeout
  extract_lets
  refine .next (h.foldl fun _ h1 _ => ?_)
  extract_lets
  split
  · exact h1.setPrg.fabricIssue.fst.diverge
  · exact h1.setPrg

/-! ## Sys2Proof/Machine/Prg.lean -/

theorem State.Canon.pairForce (h : s.Canon) {on} : (s.pairForce on).Canon :=
  h.foldl fun _ h1 _ => h1.aisWith fun _ h2 => h2.wfld
theorem State.Canon.setPair (h : s.Canon) {st standby} : (s.setPair st standby).Canon := by
  unfold State.setPair
  extract_lets s1
  have h1 : s1.Canon := h.wfld.wfld
  exact .ite h1.pairForce (.ite h1.pairForce h1)
theorem State.Canon.bypassRefresh (h : s.Canon) : s.bypassRefresh.Canon := h.wfld
theorem State.Canon.freeHeld (h : s.Canon) : s.freeHeld.Canon := h.setPrg.foldl fun _ h1 _ => h1.iclFree
theorem State.Canon.swapResolve (h : s.Canon) {st reason} : (s.swapResolve st reason).Canon := h.wfld.wfld.seqUp.wfld
theorem State.Canon.actSolo (h : s.Canon) : s.actSolo.Canon := by
  unfold State.actSolo
  exact .setPair (.foldl (.ite h.setPrg.swapResolve h.setPrg) fun _ h1 _ => .ite h1 h1.gateRelease)
theorem State.Canon.goSilent (h : s.Canon) : s.goSilent.Canon := by
  unfold State.goSilent
  exact ((h.setPrg.foldl fun _ h1 _ => h1.gateSuppress).foldl fun _ h2 _ => h2.iclFree).setPair
theorem State.Canon.promote (h : s.Canon) : s.promote.Canon := by
  unfold State.promote
  extract_lets _ _ s1 _ _ _ _ _ _ _ s2
  have h1 : s1.Canon := .ite h h.takeFree
  have h2 : s2.Canon := by
    refine .foldl ?_ fun _ h3 _ => ?_
    · refine .setPair ?_
      refine .foldl ?_ fun _ h4 _ => ?_
      · exact .setPrg (.ite h1.captureFresh h1)
      · exact .ite h4.gateRelease h4.gateSuppress
    · split
      · next e5 => exact (h3.policePkt.of_eq e5).toCpe
      · next e6 => exact (h3.policePkt.of_eq e6).iclDrop
  exact h2.raise
theorem State.Canon.execPromote (h : s.Canon) : CanonNext (execPromote s) := .next (.ite h.promote h)
theorem State.Canon.execTwinDead (h : s.Canon) : CanonNext (execTwinDead s) := .next (.ite h.wfld h)
theorem State.Canon.execTwinAlive (h : s.Canon) : CanonNext (execTwinAlive s) := .next (.ite h.wfld h)
theorem State.Canon.execPairLinkSend (h : s.Canon) : CanonNext (execPairLinkSend s) :=
  .next (.ite (.setPrg (.ite h.closeBoundary.carryWrites h)) h)
theorem State.Canon.execPairRetransmit (h : s.Canon) : CanonNext (execPairRetransmit s) :=
  .next (.ite h.setPrg.bumpN h)
theorem State.Canon.fetchAnswer (h : s.Canon) {scid kind seq} : (s.fetchAnswer scid kind seq).Canon := h.prgSend
theorem State.Canon.joining (h : s.Canon) {j} : (s.joining j).Canon := by
  unfold State.joining
  exact h.setPrg.wr.setPair.raise
theorem State.Canon.twinState (h : s.Canon) {st arg} : (s.twinState st arg).Canon := by
  refine .ite h (.ite ?_ (.ite h.setPair.raise h.setPair))
  extract_lets _ s1
  have h1 : s1.Canon := h.setPrg.setPair
  exact .ite h1 h1.raise
theorem State.Canon.deliverMsg (h : s.Canon) {m} : (s.deliverMsg m).Canon := by
  unfold State.deliverMsg
  split
  · exact h.twinState
  · exact .ite h.joining h
  · exact h.setPrg
  · exact h.setPrg.bypassRefresh
  · exact .ite h.fetchAnswer h
  · exact (h.setMem fun ⟨hd, hq, hr⟩ => ⟨NMap.wf_filter _ hd, NMap.wf_filter _ hq, hr⟩).foldl
      fun _ h1 _ => h1.dramSet
  · exact h.tset
  · exact h.setCrypto
  · exact h.setSkt
  · exact h.setKslot
  · exact h.setPrg
theorem State.Canon.deliverFrames (h : s.Canon) {n} : (s.deliverFrames n).Canon := by
  induction n generalizing s with
  | zero => exact h
  | succ n ih =>
    unfold State.deliverFrames
    split
    · exact h
    · exact ih (h.setPrg.foldl fun _ h1 _ => h1.deliverMsg)
theorem State.Canon.execPairLinkFrame (h : s.Canon) {seq ack msgs} :
    CanonNext (execPairLinkFrame seq ack msgs s) :=
  .next (.ite h (.deliverFrames (.setPrg (.ite h h.wfld.prgSend.bypassRefresh))))
theorem State.Canon.execPrgLinkDown (h : s.Canon) : CanonNext (execPrgLinkDown s) := by
  refine .next (.ite ?_ h)
  extract_lets _ s1
  have h1 : s1.Canon := h.setPrg.wfld.bypassRefresh
  exact .ite h1 (.ite h1.actSolo.raise (.ite h1.goSilent.raise h1.promote))
theorem State.Canon.rxTake (h : s.Canon) {f : Sys2Proof.Msg → Option α} : CanonSome (s.rxTake f) := by
  unfold State.rxTake
  split
  · exact .none
  · split
    · exact .some (.pair h.setPrg)
    · exact .none
theorem State.Canon.execHello (h : s.Canon) : CanonNext (execHello s) := by
  unfold Machine.execHello
  split
  · exact .next h
  · next s1 _ _ _ _ _ _ _ e2 =>
      have h1 : s1.Canon := (h.rxTake.of_eq e2).fst
      refine .next (.ite ?_ h1)
      split
      · extract_lets _ _ s3
        have h3 : s3.Canon := h1.freeHeld.setPrg
        exact .ite h3.setPair.prgSend.raise h3.setPair.prgSend
      · exact h1.raise
theorem State.Canon.execDemoteRx (h : s.Canon) : CanonNext (execDemoteRx s) := by
  unfold Machine.execDemoteRx
  split
  · exact .next h
  · next s1 _ _ e2 =>
      have h1 : s1.Canon := (h.rxTake.of_eq e2).fst
      exact .next (.ite h1 (.ite h1.setPrg h1.actSolo))
theorem State.Canon.fatalRaised (h : s.Canon) : s.fatalRaised.Canon := .ite h.setPrg.prgSend h.setPrg
theorem State.Canon.execConfigForward (h : s.Canon) : CanonNext (execConfigForward s) :=
  .next (.ite (.ite h h.closeBoundary.carryWrites) h)
theorem State.Canon.layTake (h : s.Canon) {ty} : CanonSome (s.layTake ty) := by
  unfold State.layTake
  split
  · exact .none
  · next e1 => exact .ite (.some (.pair ((h.rxTake.of_eq e1).fst.setPrg.bump))) .none
theorem State.Canon.wantRun (h : s.Canon) {n} : (s.wantRun n).Canon := by
  induction n generalizing s with
  | zero => exact h
  | succ n ih =>
    unfold State.wantRun
    split
    · exact h
    · exact ih (.ite h.setPrg.inbound h.setPrg.iclDrop)
theorem State.Canon.execLayPkt (h : s.Canon) : CanonNext (execLayPkt s) := by
  unfold Machine.execLayPkt
  extract_lets s1
  have h1 : s1.Canon := by
    unfold s1
    split
    · exact h
    · next s2 _ _ e3 =>
        have h2 : s2.Canon := (h.layTake.of_eq e3).fst
        exact .ite h2.setPrg h2
  exact .next (.ite h1.wantRun h1)
theorem State.Canon.execFetchRequest (h : s.Canon) : CanonNext (execFetchRequest s) :=
  .next (.ite (h.setPrg.foldl fun _ h1 _ => h1.prgSend) h)
theorem State.Canon.inputMissing (h : s.Canon) {w} : (s.inputMissing w).Canon := h.setPrg.bump.diverge
theorem State.Canon.acceptFetched (h : s.Canon) {w plain} : (s.acceptFetched w plain).Canon := by
  refine .ite h.bump.inputMissing ?_
  split
  · next e1 => exact (h.crlAlloc.of_eq e1).inputMissing
  · next s2 _ e3 =>
      have h2 : s2.Canon := h.crlAlloc.of_eq e3
      split
      · exact h2.iclFree.inputMissing
      · exact h2.setPrg.bump.inRelease.fst
theorem State.Canon.execFetchResponse (h : s.Canon) : CanonNext (execFetchResponse s) := by
  unfold Machine.execFetchResponse
  split
  · exact .next h
  · next s1 _ _ _ _ _ e2 =>
      have h1 : s1.Canon := (h.rxTake.of_eq e2).fst
      split
      · exact .next h1
      · extract_lets s3
        have h3 : s3.Canon := by
          unfold s3
          split
          · exact h1.acceptFetched
          · exact h1.inputMissing
        exact .next h3.wantRun
theorem State.Canon.execFetchTimeout (h : s.Canon) : CanonNext (execFetchTimeout s) :=
  .next ((h.foldl fun _ h1 _ => h1.inputMissing).wantRun)
theorem State.Canon.execHeldInputTimeout (h : s.Canon) : CanonNext (execHeldInputTimeout s) :=
  .next (h.foldl fun _ h1 _ => h1.setPrg.bump.iclFree)
theorem State.Canon.execLayTdm (h : s.Canon) : CanonNext (execLayTdm s) := by
  unfold Machine.execLayTdm
  split
  · exact .next h
  · next s1 _ _ e2 =>
      have h1 : s1.Canon := (h.layTake.of_eq e2).fst
      exact .next (.ite h1.tdmEntry h1)
theorem State.Canon.execLayDeq (h : s.Canon) : CanonNext (execLayDeq s) := by
  unfold Machine.execLayDeq
  split
  · exact .next h
  · next s1 _ _ e2 =>
      have h1 : s1.Canon := (h.layTake.of_eq e2).fst
      exact .next (.ite h1.deqEntry h1)
theorem State.Canon.execLayDrop (h : s.Canon) : CanonNext (execLayDrop s) := by
  unfold Machine.execLayDrop
  split
  · exact .next h
  · next s1 _ _ e2 =>
      have h1 : s1.Canon := (h.layTake.of_eq e2).fst
      exact .next (.ite h1.deqEntry h1)
theorem State.Canon.execLayOutcome (h : s.Canon) : CanonNext (execLayOutcome s) := by
  unfold Machine.execLayOutcome
  split
  · exact .next h
  · next s1 _ _ e2 =>
      have h1 : s1.Canon := (h.layTake.of_eq e2).fst
      exact .next (.ite h1.setPrg.holdMet h1)
theorem State.Canon.execLayRefuse (h : s.Canon) : CanonNext (execLayRefuse s) := by
  unfold Machine.execLayRefuse
  split
  · exact .next h
  · next s1 _ _ e2 =>
      have h1 : s1.Canon := (h.layTake.of_eq e2).fst
      exact .next (.ite h1 (.ite h1.keyRequest h1.setPrg))
theorem State.Canon.execDigestRx (h : s.Canon) : CanonNext (execDigestRx s) := by
  unfold Machine.execDigestRx
  split
  · exact .next h
  · next s1 _ _ _ _ e2 =>
      have h1 : s1.Canon := (h.rxTake.of_eq e2).fst
      exact .next (.ite h1.gateDigest h1)
theorem State.Canon.execGateWaitExpire (h : s.Canon) : CanonNext (execGateWaitExpire s) := .next (.ite h h.gateExpire)
theorem State.Canon.execGateHoldExpire (h : s.Canon) : CanonNext (execGateHoldExpire s) := .next (.ite h.gateExpire h)
theorem State.Canon.execSwapArm (h : s.Canon) {src} : CanonNext (execSwapArm src s) := by
  refine .next ?_
  refine h.access fun _ h1 => ?_
  exact .ite h1.accessErr (.ite h1.swapResolve (.ite h1.swapResolve h1.wfld.wfld.wfld.setPrg.prgSend))
theorem State.Canon.swapCheck (h : s.Canon) : s.swapCheck.Canon := .ite (.ite h.setPrg.swapResolve h.setPrg) h
theorem State.Canon.execSwapApply (h : s.Canon) : CanonNext (execSwapApply s) := by
  refine .next (.ite ?_ h)
  extract_lets _ _ _ s1
  have h1 : s1.Canon := h.atStep.closeBoundary.carryWrites
  exact .ite h.atStep.setPrg.setPair (.ite h1.setPrg.setPair.swapResolve h1.setPrg.setPair)
theorem State.Canon.execAutoSwap (h : s.Canon) : CanonNext (execAutoSwap s) := by
  refine .next ?_
  split
  · exact .ite h.setPrg.setPrg.prgSend h.setPrg
  · exact h
theorem State.Canon.execJoinGo (h : s.Canon) {src converge} : CanonNext (execJoinGo src converge s) :=
  .next (h.access fun _ h1 => .ite h1.wfld.raise (.ite h1.wfld.raise h1.wfld.setPrg.wr64.setPair.prgSend))
theorem State.Canon.execCopyComplete (h : s.Canon) : CanonNext (execCopyComplete s) :=
  .next (.ite ((h.foldl fun _ h1 _ => h1.prgSend).wr64.setPrg.joining.prgSend) h)
theorem State.Canon.joinBegins (h : s.Canon) : s.joinBegins.Canon := by
  refine .ite ?_ h
  refine (h.foldl fun _ h1 _ => h1.prgSend).layItem.foldl fun _ h2 _ => ?_
  exact h2.foldl fun _ h3 _ => h3.encRequest
theorem State.Canon.load (h : s.Canon) {u c} : (s.load u c).Canon := by
  unfold State.load
  split
  · exact h.setMxf
  · exact (h.foldl fun _ h1 _ => h1.tset).setLfw
  · exact h.setEncStream
  · exact h.foldl fun _ h2 _ => h2.setRcv
  · exact h
theorem State.Canon.execCapturePoint (h : s.Canon) {u} : CanonNext (execCapturePoint u s) := by
  unfold Machine.execCapturePoint
  extract_lets s1
  have h1 : ∀ s, s.Canon → (s1 s).Canon := fun _ h2 => h2.setPrg
  refine .next (.ite ?_ (.ite (h1 _ h.prgSend) h))
  split
  · next e3 => exact h1 _ ((h.rxTake.of_eq e3).fst.load)
  · exact h
theorem State.Canon.execPrgInStep (h : s.Canon) : CanonNext (execPrgInStep s) :=
  .next (.ite h.setPair.raise.prgSend h)
theorem State.Canon.wbRegion (h : s.Canon) {src e ws} : (s.wbRegion src e ws).Canon := .ite h.tblRefuse h.tset
theorem State.Canon.execPrgRegionWriteback (h : s.Canon) {src entry ws} :
    CanonNext (execPrgRegionWriteback src entry ws s) :=
  .next (h.writeBack fun _ h1 => h1.wbRegion)

/-! ## Sys2Proof/Machine/Boundary.lean -/

theorem State.Canon.waleEvents (h : s.Canon) : s.waleEvents.Canon := by
  unfold State.waleEvents
  extract_lets _ s1
  have h1 : s1.Canon := .ite h h.raise
  exact .escWaleEnd (.ite h1 h1.shedEvent)
theorem State.Canon.stretch (h : s.Canon) : s.stretch.Canon := .ite h h.raise
theorem State.Canon.mediaBoundary (h : s.Canon) {w} : (s.mediaBoundary w).Canon :=
  .ite h (.wantApply (.rateUpdate (.joinMarks (.setLfw (.ite h.lfwDrain.setLfw h.lfwDrain.setLfw.wantCompute)))))
theorem State.Canon.sectionEnds (h : s.Canon) {w} : (s.sectionEnds w).Canon := by
  refine .ite ?_ h
  extract_lets s1
  have h1 : s1.Canon := h.closeBoundary.carryWrites
  exact .ite h1.setPrg.prgSend.twinState h1.setPrg
theorem State.Canon.waleReady (h : s.Canon) : s.waleReady.Canon := (h.foldl fun _ h1 _ => h1.setPg).refreshAll
theorem State.Canon.newWale (h : s.Canon) {w} : (s.newWale w).Canon := by
  unfold State.newWale
  extract_lets _ _ s1
  have h1 : s1.Canon := h.of_same.waleFresh.stretch.wfld.wr64
  exact h1.of_same
theorem State.Canon.firstStrobe (h : s.Canon) {w} : (s.firstStrobe w).Canon := h.raise.waleReady.startLate.pmDoubt
theorem State.Canon.cleanWale (h : s.Canon) : s.cleanWale.Canon := .ite h.setPrg h
theorem State.Canon.strobe (h : s.Canon) {w} : (s.strobe w).Canon := by
  unfold State.strobe
  extract_lets s1 s2
  have h1 : s1.Canon := h.waleEvents.newWale
  have h2 : s2.Canon := .swapCheck (.cleanWale (.ite h1.firstStrobe h1))
  exact .joinBegins (.ite h2.sectionEnds h2.sectionEnds.mediaBoundary)
theorem State.Canon.execWaleStrobe (h : s.Canon) : CanonNext (execWaleStrobe s) := by
  unfold Machine.execWaleStrobe
  split
  · exact .next h.advanceTo.strobe
  · exact .next h
theorem State.Canon.strobeDue (h : s.Canon) : s.strobeDue.Canon := by
  unfold State.strobeDue
  split
  · exact .ite h.strobe h
  · exact h
theorem State.Canon.stepStrobe (h : s.Canon) : s.stepStrobe.Canon := .ite h.strobeDue h
theorem State.Canon.execAdjStep (h : s.Canon) {src} : CanonNext (execAdjStep src s) :=
  .next (h.qzOnly fun _ h1 => h1.adjStep.stepStrobe)
theorem State.Canon.execFineTick (h : s.Canon) : CanonNext (execFineTick s) := by
  unfold Machine.execFineTick
  extract_lets _ _ s1
  have h1 : s1.Canon := h.advanceTo
  exact .next (.ite h1.withClk.escTick h)
theorem State.Canon.lagging (h : s.Canon) {cause} : (s.lagging cause).Canon :=
  .ite h.twinState.prgSend (.ite h.setPrg h)
theorem State.Canon.skewStep (h : s.Canon) {d} : (s.skewStep d).Canon := by
  unfold State.skewStep
  extract_lets _ _ s1
  have h1 : s1.Canon := .ite h.wr.setPrg.raise h.wr
  exact .ite h.wr.setPrg (.ite h1.lagging h1)
theorem State.Canon.sectionCheck (h : s.Canon) {w sec b} : (s.sectionCheck w sec b).Canon :=
  .ite h (.ite h.setPrg h.raise.setPrg.lagging)
theorem State.Canon.discardEnded (h : s.Canon) {kind} {f : List Sys2Proof.Word → Bool} :
    (s.discardEnded kind f).Canon :=
  h.foldl fun _ h1 _ => h1.setTask
theorem State.Canon.itemApply (h : s.Canon) {i} : (s.itemApply i).Canon := by
  unfold State.itemApply
  split
  · refine .ite (h.discardEnded.foldl fun _ h1 _ => h1.deadlineAbort) ?_
    refine .ite ?_ (.ite ?_ (.ite h.tileMissing (.ite h.spliceUndo (.ite ?_ h))))
    · split
      · exact h.deadlineAbort
      · exact .ite h.decUndo (h.setDec.foldl fun _ h2 _ => h2.decLate)
    · split
      · exact h.deadlineAbort
      · exact h.encUndo
    · split
      · exact .ite h.pxcAbandon h.pxcUndo
      · exact h.pxcUndo
theorem State.Canon.unlisted (h : s.Canon) : s.unlisted.Canon := by
  unfold State.unlisted
  extract_lets
  refine ((h.foldl fun _ h1 _ => h1.deadlineAbort.diverge).foldl fun _ h2 _ => h2.spliceLate.diverge).foldl fun _ h3 _ => ?_
  split
  · exact .ite h3.pxcAbandon.diverge h3
  · exact h3
theorem State.Canon.execLayBoundary (h : s.Canon) : CanonNext (execLayBoundary s) := by
  unfold Machine.execLayBoundary
  extract_lets
  split
  · exact .next h
  · next s1 _ _ e2 =>
      have h1 : s1.Canon := (h.layTake.of_eq e2).fst
      refine .next ?_
      refine .ite h ?_
      refine .ite h1.skewStep ?_
      exact (h1.skewStep.sectionCheck.captureFresh.setPrg.atStep.foldl fun _ h3 _ => h3.itemApply).unlisted.mediaBoundary

/-! ## Sys2Proof/Machine/Qz.lean -/

theorem State.Canon.setQz (h : s.Canon) {f : QzSt → QzSt} : (s.setQz f).Canon := h.of_same
theorem State.Canon.setStage (h : s.Canon) {n} : (s.setStage n).Canon := h.wfld.wfld.refreshReady
theorem State.Canon.powerReset {x0 : State} : (State.powerReset x0).Canon := by
  unfold State.powerReset
  extract_lets s1
  have h1 : s1.Canon := .reset
  exact h1.of_same
theorem CanonNext.execPorAssert {x0 : State} : CanonNext (execPorAssert x0) := .next .powerReset
theorem CanonNext.execIslandUndervolt {x0 : State} : CanonNext (execIslandUndervolt x0) := .next .powerReset
theorem State.Canon.execPorRelease (h : s.Canon) {straps} : CanonNext (execPorRelease straps s) :=
  .next (.ite h.setQz.wr h)
theorem State.Canon.execPerst (h : s.Canon) {asserted} : CanonNext (execPerst asserted s) :=
  .next (.ite ⟨NMap.wf_filter _ h.regs, h.tables, h.mems⟩ h.setQz)
theorem State.Canon.mainHeld (h : s.Canon) : s.mainHeld.Canon := ⟨NMap.wf_filter _ h.regs, NMap.wf_nil, Memory.wf_empty⟩
theorem State.Canon.mainDown (h : s.Canon) {e arg} : (s.mainDown e arg).Canon := by
  unfold State.mainDown
  extract_lets _ _ _ _ s1
  have h1 : s1.Canon := (h.raise.foldl fun _ h2 _ => h2.aisWith fun _ h3 => h3.of_same).mainHeld
  exact h1.of_same
theorem State.Canon.writeGeom (h : s.Canon) : s.writeGeom.Canon := by
  unfold State.writeGeom
  split
  · exact .ite (.ite h.wfld.wr.refreshReady h.wfld) h
  · exact h
theorem State.Canon.sequence (h : s.Canon) : s.sequence.Canon := by
  refine .ite h.setQz ?_
  split
  · exact h.setQz
  · exact h.setQz.writeGeom
theorem State.Canon.mainStart (h : s.Canon) {stuck} : (s.mainStart stuck).Canon := .ite h h.setQz.sequence
theorem State.Canon.execMainRelease (h : s.Canon) {stuck} : CanonNext (execMainRelease stuck s) :=
  .next (.ite h.mainStart h)
theorem State.Canon.execMainSeqStepFail (h : s.Canon) : CanonNext (execMainSeqStepFail s) :=
  .next (.ite h (.ite h.mainDown h.mainDown))
theorem State.Canon.execBoardFault (h : s.Canon) : CanonNext (execBoardFault s) := .next (.ite h.mainDown h)
theorem State.Canon.execRefclkLoss (h : s.Canon) : CanonNext (execRefclkLoss s) :=
  .next (.ite h.setQz.mainDown h.setQz)
theorem State.Canon.execRefclkPresent (h : s.Canon) : CanonNext (execRefclkPresent s) :=
  .next (.ite h.setQz.sequence h.setQz)
theorem State.Canon.extend (h : s.Canon) {i d} : (s.extend i d).Canon := h.setQz
theorem State.Canon.deriveKeys (h : s.Canon) {hdr} : (s.deriveKeys hdr).Canon := by
  unfold State.deriveKeys
  exact h.extend.takeFree.setQz
theorem State.Canon.mirrorScan (h : s.Canon) : s.mirrorScan.Canon := by
  unfold State.mirrorScan
  extract_lets _ _ s1
  clear_value s1
  split
  · exact h.bumpN.setQz
  · exact h.bumpN
theorem State.Canon.armWdt (h : s.Canon) {first period} : (s.armWdt first period).Canon := by
  unfold State.armWdt
  exact h.wr.setQz
theorem State.Canon.fwStart (h : s.Canon) {b bank fallback} {refusals : State → State}
    (hrefusals : ∀ s, s.Canon → (refusals s).Canon) {period} :
    (s.fwStart b bank fallback refusals period).Canon := by
  unfold State.fwStart
  extract_lets _ _ _ _ _ _ s1 _ s2 _ s3 s4
  have h1 : s1.Canon := .wfld (.wr (.wr (.setQz (.ite h.deriveKeys (.ite h h.setQz)))))
  have h2 : s2.Canon := .mirrorScan (.ite h1.armWdt.extend h1.armWdt)
  have h3 : s3.Canon := by
    unfold s3
    split
    · exact h2.setStage.raise
    · exact h2.setStage
  have h4 : s4.Canon := .raise (hrefusals _ h3)
  exact .ite h4 h4.raise
theorem State.Canon.refuseBank (h : s.Canon) {err bank} : (s.refuseBank err bank).Canon := h.raise
theorem State.Canon.boot (h : s.Canon) {err bank period} : (s.boot err bank period).Canon :=
  h.fwStart fun _ h1 => .ite h1.refuseBank h1
theorem State.Canon.execSlathBoot (h : s.Canon) {errA errB period} :
    CanonNext (execSlathBoot errA errB period s) := by
  refine .next (.ite h ?_)
  split
  · exact h.boot
  · exact h
theorem State.Canon.recover (h : s.Canon) : s.recover.Canon := h.setStage.mainStart
theorem State.Canon.execPlatformRead (h : s.Canon) {pub} : CanonNext (execPlatformRead pub s) := by
  refine .next (.ite ?_ h)
  extract_lets _ _ _ _ s1
  have h1 : s1.Canon := h.setQz.extend
  refine .ite ?_ ?_
  · exact (h1.setQz.wfld.foldl fun _ h2 _ => h2.ceilLock).foldl fun _ h3 _ => h3.tsetW
  · exact (h1.foldl fun _ h4 _ => h4.ceilLock).raise
theorem State.Canon.setModOk (h : s.Canon) {c v} : (s.setModOk c v).Canon := h.wfld.refreshReady
theorem State.Canon.idEnd (h : s.Canon) {kind pos cause} : (s.idEnd kind pos cause).Canon :=
  .ite h.setQz.raise h.setQz.raise
theorem State.Canon.measureDimms (h : s.Canon) {plat} : (s.measureDimms plat).Canon :=
  h.foldl fun _ h1 _ => h1.extend
theorem State.Canon.idVerified (h : s.Canon) {kind pos b} : (s.idVerified kind pos b).Canon := by
  refine .ite ?_ h.extend.setModOk
  extract_lets
  split
  · exact .writeGeom (.ite h.setQz.measureDimms h.setQz)
  · exact h.setQz
theorem State.Canon.execIdRead (h : s.Canon) {kind pos mem} : CanonNext (execIdRead kind pos mem s) := by
  refine .next ?_
  split
  · extract_lets
    split
    · exact .ite h.idEnd h
    · exact .ite h (.idEnd (.ite h.idVerified h))
  · exact h
theorem State.Canon.execIdReadTimeout (h : s.Canon) {kind pos} : CanonNext (execIdReadTimeout kind pos s) :=
  .next (.ite (.ite h.idEnd h.setQz) h)
theorem State.Canon.execModuleRemoved (h : s.Canon) {kind pos} : CanonNext (execModuleRemoved kind pos s) := by
  unfold Machine.execModuleRemoved
  extract_lets _ _ s1
  have h1 : s1.Canon := .ite h.setQz.setModOk h.setQz
  exact .next (.ite (.ite h1.raise h1) h)
theorem State.Canon.execModuleInserted (h : s.Canon) {kind pos} : CanonNext (execModuleInserted kind pos s) :=
  .next (.ite h h.setQz)
theorem State.Canon.wdtExpire (h : s.Canon) : s.wdtExpire.Canon :=
  (h.foldl fun _ h1 _ => h1.aisWith fun _ h2 => h2.wfld).bump.raise.wfld.setQz.setStage
theorem State.Canon.execWdtKick (h : s.Canon) {right} : CanonNext (execWdtKick right s) :=
  .next (.ite (.ite h.wdtExpire (.ite h.setQz h.setQz)) h)
theorem State.Canon.execWdtExpire (h : s.Canon) : CanonNext (execWdtExpire s) := .next (.ite h.wdtExpire h)
theorem State.Canon.execWdtForceClear (h : s.Canon) {port} : CanonNext (execWdtForceClear port s) :=
  .next (.ite (h.aisWith fun _ h1 => h1.wfld) h)
theorem State.Canon.tempLevel (h : s.Canon) {n lvl thr v} : (s.tempLevel n lvl thr v).Canon :=
  .ite h.setQz.raise (.ite h.setQz.raise h)
theorem State.Canon.tempMax (h : s.Canon) : s.tempMax.Canon := by
  unfold State.tempMax
  extract_lets s1
  clear_value s1
  split
  · exact h.wr
  · exact h
theorem State.Canon.execTempSample (h : s.Canon) {sensor v} : CanonNext (execTempSample sensor v s) := by
  refine .next (.ite h ?_)
  extract_lets _ _ _ s1
  have h1 : s1.Canon := .ite h.setQz.tempMax.tempLevel.tempLevel h.setQz.tempMax
  exact .ite h1.setQz.mainDown h1
theorem State.Canon.execVoltSample (h : s.Canon) {monitor mv} : CanonNext (execVoltSample monitor mv s) := by
  unfold Machine.execVoltSample
  extract_lets _ _ s1
  refine .next (.ite h ?_)
  split
  · split
    · extract_lets _ _ s2
      have h2 : s2.Canon := .ite h.setQz (.ite h.setQz.raise (.ite h.setQz.raise h.setQz))
      clear_value s1
      split
      · exact .ite h2.mainDown h2
      · exact h2
theorem State.Canon.powerSum (h : s.Canon) : s.powerSum.Canon := h.wr
theorem State.Canon.execPmbusPoll (h : s.Canon) {addr vout iout temp status} :
    CanonNext (execPmbusPoll addr vout iout temp status s) :=
  .next (.ite (.ite h.setQz.powerSum.raise h.setQz.powerSum) h)
theorem State.Canon.execPmbusCommand (h : s.Canon) {rail kind mv} : CanonNext (execPmbusCommand rail kind mv s) :=
  .next (.ite (.ite h.setQz h.bump) h)
theorem State.Canon.mirrorWrite (h : s.Canon) : s.mirrorWrite.Canon := by
  unfold State.mirrorWrite
  split
  · exact h.setQz
  · exact h.setQz.bump
theorem State.Canon.execMirrorPageWrite (h : s.Canon) : CanonNext (execMirrorPageWrite s) :=
  .next (.ite h.mirrorWrite h)

/-! ## Sys2Proof/Machine/Pages.lean -/

theorem State.Canon.execErrInfoClear (h : s.Canon) {src page} : CanonNext (execErrInfoClear src page s) :=
  .next (h.access fun _ h1 => h1.wfld)
theorem State.Canon.execEvtStatusClear (h : s.Canon) {src page mask} :
    CanonNext (execEvtStatusClear src page mask s) :=
  .next (h.access fun _ h1 => .ite h1.wr.wr h1.wr)
theorem State.Canon.execEvtForce (h : s.Canon) {src page mask} : CanonNext (execEvtForce src page mask s) := by
  refine .next (h.access fun _ h1 => h1.foldl fun _ h2 _ => ?_)
  split
  · exact h2.raiseWith
  · exact h2
theorem State.Canon.execEvtRingDeliver (h : s.Canon) : CanonNext (execEvtRingDeliver s) := by
  refine .next ?_
  split
  · exact h
  · exact .ite h.of_same.ringWrite h
theorem State.Canon.ringOff' (h : s.Canon) {p k} : (s.ringOff' p k).Canon := by
  unfold State.ringOff'
  extract_lets s1
  have h1 : s1.Canon := h.wfld
  exact .ite h1.of_same h1
theorem State.Canon.ringCfgWrite (h : s.Canon) {src p k v} : (s.ringCfgWrite src p k v).Canon := by
  unfold State.ringCfgWrite
  extract_lets _ _ _ _ _ _ s1 s2 s3 s4
  have h1 : s1.Canon := h.wfld.wfld
  have h2 : s2.Canon := .ite h1 h1.wfld
  have h3 : s3.Canon := .ite h2 h2.wfld
  have h4 : s4.Canon := .ite h3.wfld.wr.wr h3
  exact .ite h.accessErr (.ite (.ite h.wfld h.wfld.ringOff') (.ite h.accessErr (.ite h4.accessErr h4)))
theorem State.Canon.execRingEnable (h : s.Canon) {src page ring v} :
    CanonNext (execRingEnable src page ring v s) :=
  .next (h.access fun _ h1 => h1.ringCfgWrite)
theorem State.Canon.execRingHeadWrite (h : s.Canon) {src page ring h'} :
    CanonNext (execRingHeadWrite src page ring h' s) :=
  .next (h.access fun _ h1 => .ite h1.accessErr (.ite (.ite h1.wr h1.wr.ringIrq) h1.accessErr))
theorem State.Canon.snapRequest (h : s.Canon) {src p clrS v} : (s.snapRequest src p clrS v).Canon := by
  refine .ite h.accessErr ?_
  extract_lets _ _ s1
  have h1 : s1.Canon := .ite h.wfld.wfld h.wfld
  exact .ite h1 h1.setPg
theorem State.Canon.execSnapRequest (h : s.Canon) {src page clrS} : CanonNext (execSnapRequest src page clrS s) :=
  .next (h.access fun _ h1 => h1.snapRequest)
theorem State.Canon.clearS (h : s.Canon) {p} : (s.clearS p).Canon := h.of_same
theorem State.Canon.snapshot (h : s.Canon) {p} : (s.snapshot p).Canon := by
  unfold State.snapshot
  extract_lets _ _ s1
  have h1 : s1.Canon := .ite h.clearS h
  exact .raise (.setPg (.wr (.wfld (.ite h1.of_same.setLnu h1.of_same))))
theorem State.Canon.execSnapshotTake (h : s.Canon) {page} : CanonNext (execSnapshotTake page s) :=
  .next (.ite h.atStep.snapshot h)
theorem State.Canon.tblEdit (h : s.Canon) {p t plane} {f : List Sys2Proof.Word → List Sys2Proof.Word} :
    (s.tblEdit p t plane f).Canon :=
  h.foldl fun _ h1 _ => h1.tset
theorem State.Canon.tblClear (h : s.Canon) {p f} : (s.tblClear p f).Canon := ⟨h.regs, NMap.wf_filter _ h.tables, h.mems⟩
theorem State.Canon.enableClear (h : s.Canon) {p} : (s.enableClear p).Canon := by
  unfold State.enableClear
  split
  · exact h.tblEdit.setIcl
  · exact h.tblClear.setLfw
  · exact h.setCpe
  · exact h.wveClear
  · exact .ite (h.pmDoubt.aisWith fun _ h1 => h1.setLine) h.pmDoubt
  · exact h
theorem State.Canon.refreshWith (h : s.Canon) {p} : (s.refreshWith p).Canon := by
  unfold State.refreshWith
  extract_lets s1
  have h1 : s1.Canon := h.mayUnready fun _ h2 => h2.refreshReady
  exact .ite h1.refreshReady (.ite h1.refreshReady h1)
theorem State.Canon.pageEnable (h : s.Canon) {p} : (s.pageEnable p).Canon :=
  .ite h h.wfld.setPg.enableClear.refreshWith
theorem State.Canon.lineDown (h : s.Canon) {p} : (s.lineDown p).Canon := by
  unfold State.lineDown
  split
  · exact .ite (h.aisWith fun _ h1 => h1.setLine) h
  · exact h
theorem State.Canon.pageDisable (h : s.Canon) {p} : (s.pageDisable p).Canon := by
  refine .ite h ?_
  extract_lets s1
  have h1 : s1.Canon := h.wfld.doomCommit
  exact .refreshWith (.lineDown (.ite h1.setCpe h1))
theorem State.Canon.enWrite (h : s.Canon) {src p en v} : (s.enWrite src p en v).Canon :=
  .ite (.ite h.drcEnable (.ite h.drcDisable h)) (.ite h.accessErr (.ite h.pageEnable h.pageDisable))
theorem State.Canon.execPageEnWrite (h : s.Canon) {src page en} : CanonNext (execPageEnWrite src page en s) :=
  .next (h.access fun _ h1 => h1.enWrite)
theorem State.Canon.execPageInitDone (h : s.Canon) {page} : CanonNext (execPageInitDone page s) :=
  .next (.ite h.setPg.refreshWith h)
theorem State.Canon.pageFence (h : s.Canon) {p} : (s.pageFence p).Canon := by
  refine .ite h ?_
  extract_lets s1 s2
  have h1 : s1.Canon := h.wfld.doomCommit
  have h2 : s2.Canon := by
    unfold s2
    split
    · exact h1.unslot
    · exact h1
  exact h2.lineDown.refreshWith
theorem State.Canon.execPageFence (h : s.Canon) {src page} : CanonNext (execPageFence src page s) :=
  .next (h.access fun _ h1 => h1.pageFence)
theorem State.Canon.execPageFenceDone (h : s.Canon) {page} : CanonNext (execPageFenceDone page s) := by
  refine .next (.ite ?_ h)
  extract_lets _ s1
  have h1 : s1.Canon := by
    unfold s1
    split
    · exact h.wfld.fenceAbort
    · exact h.wfld
  exact h1.raise
theorem State.Canon.clearRegs (h : s.Canon) {p} : (s.clearRegs p).Canon :=
  .foldl ⟨NMap.wf_filter _ h.regs, h.tables, h.mems⟩ fun _ h1 _ => h1.wfld
theorem State.Canon.clearTables (h : s.Canon) {p} : (s.clearTables p).Canon :=
  .ite h.tblClear.tblEdit (.ite h.tblClear h.tblClear)
theorem State.Canon.clearCtrs (h : s.Canon) {p} : (s.clearCtrs p).Canon := h.of_same
theorem State.Canon.rveReset (h : s.Canon) : s.rveReset.Canon := by
  unfold State.rveReset
  extract_lets s1
  have h1 : s1.Canon := by
    refine h.foldl fun _ h2 _ => ?_
    extract_lets s3
    have h3 : s3.Canon := .ite h2.coreAbort h2
    split
    · exact h3.engineAbort
    · exact h3
  exact h1.setRve
theorem State.Canon.wdsReset (h : s.Canon) {n port} : (s.wdsReset n port).Canon := by
  unfold State.wdsReset
  extract_lets s1
  have h1 : s1.Canon := by
    unfold s1
    split
    · exact h.abortTask
    · exact h.coreAbort
  exact h1.unslot.coreClear.setCore
theorem State.Canon.legsReset (h : s.Canon) {p} : (s.legsReset p).Canon := by
  refine h.foldl fun _ h1 _ => ?_
  extract_lets _ _ s2 s3
  have h2 : s2.Canon := .ite h1.tset.tset h1
  have h3 : s3.Canon := .ite h2.tset.tset h2
  exact .ite (h3.setEsc.foldl fun _ h4 _ => h4.outDrop) h3
theorem State.Canon.lanesReset (h : s.Canon) {n} : (s.lanesReset n).Canon :=
  h.foldl fun _ h1 _ => (h1.foldl fun _ h2 _ => h2.outDrop).setLane
theorem State.Canon.blockReset (h : s.Canon) {p port} : (s.blockReset p port).Canon := by
  unfold State.blockReset
  split
  · exact h.of_same
  · extract_lets s1
    have h1 : s1.Canon := h.setTmu
    exact h1.of_same
  · exact h.rveReset
  · exact h.of_same
  · exact h.of_same
  · exact h.setIcl
  · exact h.setIcl
  · exact h.setCpe
  · exact h.setLfw
  · exact h.setMxf
  · exact h.wdsReset
  · exact h.of_same
  · exact .ite h.wveClear.setWve h.wveClear
  · exact h.of_same
  · exact h.legsReset.lanesReset
  · exact h.setLnu
  · exact h.lineDown.setLine
  · exact h.drcDisable
  · exact h.setDch
  · exact .setPrg (.setPair (.ite h.goSilent h.actSolo))
  · exact h.setQz
  · exact h
theorem State.Canon.pageReset (h : s.Canon) {p port} : (s.pageReset p port).Canon := by
  unfold State.pageReset
  extract_lets _ _ _ _ _ _ s1 s2 _ _ s3 s4
  have h1 : s1.Canon := h.resetCommit.blockReset.clearRegs.clearTables.clearCtrs
  have h2 : s2.Canon := .ite h1.wr h1
  have h3 : s3.Canon := .setPg (.wfld (.ite h2.wr.wr h2))
  have h4 : s4.Canon := by
    unfold s4
    split
    · exact .ite (h3.aisWith fun _ h5 => h5) h3
    · exact h3.drcRefresh
    · exact h3
  exact h4.refreshWith
theorem State.Canon.execPageReset (h : s.Canon) {src page clearEn} :
    CanonNext (execPageReset src page clearEn s) :=
  .next (h.access fun _ h1 => .ite h1.accessErr h1.pageReset)
theorem State.Canon.execPageResetDone (h : s.Canon) {page} : CanonNext (execPageResetDone page s) := by
  refine .next (.ite ?_ h)
  extract_lets s1
  have h1 : s1.Canon := h.wfld.setPg.refreshWith
  exact .ite h1.submitWaiting h1

/-! ## Sys2Proof/Machine/QzMb.lean -/

theorem State.Canon.rspPut (h : s.Canon) {i n bs} : (s.rspPut i n bs).Canon := by
  induction n generalizing s i bs with
  | zero => exact h
  | succ n ih => exact ih h.wr
theorem State.Canon.answer (h : s.Canon) {tag status rsp} : (s.answer tag status rsp).Canon :=
  h.rspPut.wfld.wfld.seqUp.wfld.wfld.setQz.bump
theorem State.Canon.execMbDoorbell (h : s.Canon) {src tag len} : CanonNext (execMbDoorbell src tag len s) := by
  unfold Machine.execMbDoorbell
  extract_lets
  refine .next (h.access fun _ h1 => .ite h1.accessErr ?_)
  extract_lets s2
  have h2 : s2.Canon := h1.setQz.wfld
  exact .ite h2.answer (.ite h2.answer h2)
theorem State.Canon.serve (h : s.Canon) {cmd n} {k : ℕ → State} (hk : ∀ x1, (k x1).Canon) :
    (s.serve cmd n k).Canon := by
  unfold State.serve
  split
  · exact .ite h (.ite h.answer (.ite h.answer (hk _)))
  · exact h
theorem State.Canon.execGetInfo (h : s.Canon) : CanonNext (execGetInfo s) := .next (h.serve fun _ => h.answer)
theorem State.Canon.serveMain (h : s.Canon) {cmd n} {k : ℕ → State} (hk : ∀ x1, (k x1).Canon) :
    (s.serveMain cmd n k).Canon :=
  h.serve fun _ => .ite (hk _) h.answer
theorem State.Canon.answerAdj (h : s.Canon) {tag} : (s.answerAdj tag).Canon := h.answer
theorem State.Canon.execClockSet (h : s.Canon) : CanonNext (execClockSet s) :=
  .next (h.serveMain fun _ => .ite h.answer h.wr64.wfld.adjSet.answerAdj)
theorem State.Canon.execClockStep (h : s.Canon) : CanonNext (execClockStep s) :=
  .next (h.serveMain fun _ => h.wr.servoHeard.adjStep.answerAdj.stepStrobe)
theorem State.Canon.execPtpCfg (h : s.Canon) : CanonNext (execPtpCfg s) :=
  .next (h.serveMain fun _ => .ite h.answer ((h.setQz.wfld.wfld.wfld.wfld.foldl fun _ h1 _ => h1.tsetF).answer))
theorem State.Canon.execImageRegion (h : s.Canon) : CanonNext (execImageRegion s) :=
  .next (h.serve fun _ => .ite h.answer h.setQz.answer)
theorem State.Canon.refuseImage (h : s.Canon) {tag cause b arg2} : (s.refuseImage tag cause b arg2).Canon :=
  h.raise.answer
theorem State.Canon.refuseState (h : s.Canon) {tag reason} : (s.refuseState tag reason).Canon := h.answer
theorem State.Canon.execImageLoad (h : s.Canon) {data} : CanonNext (execImageLoad data s) := by
  refine .next (h.serveMain fun _ => ?_)
  extract_lets
  split
  · exact h.answer
  · refine .ite h.answer ?_
    extract_lets
    refine .ite h.refuseImage (.ite h.extend.answer ?_)
    split
    · exact h.extend.takeFree.refuseState
    · exact .ite h.extend.takeFree.wbImage.takeFree.refuseState h.extend.takeFree.dramPut.dramPut.wbImage.answer
theorem State.Canon.execImageUnload (h : s.Canon) : CanonNext (execImageUnload s) :=
  .next (h.serveMain fun _ => .ite h.answer (.ite h.tblRefuse.takeFree.refuseState h.tset.answer))
theorem State.Canon.execFwUpdate (h : s.Canon) {data norErr} : CanonNext (execFwUpdate data norErr s) := by
  refine .next (h.serve fun _ => ?_)
  extract_lets
  split
  · exact h.answer
  · refine .ite h.answer ?_
    refine .ite h.refuseImage ?_
    exact .ite h.refuseState (.ite h.refuseState (.ite h.setQz.answer h.setQz.setQz.answer.raise))
theorem State.Canon.execSvnCommit (h : s.Canon) : CanonNext (execSvnCommit s) := by
  refine .next ?_
  refine h.serve fun _ => ?_
  exact .ite h.refuseState (.ite h.refuseState (.ite h.refuseState (.ite h.refuseState h.setQz.wfld.answer.raise)))
theorem State.Canon.execPlatformWrite (h : s.Canon) {data pub norErr} :
    CanonNext (execPlatformWrite data pub norErr s) := by
  refine .next (h.serve fun _ => ?_)
  split
  · exact h.answer
  · exact .ite h.answer (.ite h.answer (.ite h.answer h.setQz.answer))
theorem State.Canon.execOwnerSet (h : s.Canon) : CanonNext (execOwnerSet s) :=
  .next (h.serve fun _ => .ite h.refuseState h.setQz.wfld.answer)
theorem State.Canon.execFwRun (h : s.Canon) {data period} : CanonNext (execFwRun data period s) := by
  refine .next (h.serve fun _ => ?_)
  split
  · exact h.answer
  · exact .ite h.answer (.ite h.refuseImage ((h.fwStart fun _ h1 => h1).answer))
theorem State.Canon.execQuote (h : s.Canon) : CanonNext (execQuote s) := by
  refine .next (h.serve fun _ => ?_)
  split
  · exact h.answer
  · exact h.takeFree.answer
theorem State.Canon.execMeasure (h : s.Canon) : CanonNext (execMeasure s) :=
  .next (h.serve fun _ => .ite h.extend.answer h.answer)
theorem State.Canon.execLogRead (h : s.Canon) : CanonNext (execLogRead s) := by
  refine .next (h.serve fun _ => ?_)
  extract_lets _ _ _ s1
  refine .ite h.answer ?_
  clear_value s1
  split
  · exact h.answer
  · exact h.takeFree.answer
theorem State.Canon.execSensorRead (h : s.Canon) : CanonNext (execSensorRead s) :=
  .next (h.serve fun _ => h.takeFree.answer)
theorem State.Canon.execThreshSet (h : s.Canon) : CanonNext (execThreshSet s) :=
  .next (h.serve fun _ => .ite h.answer (.ite (.ite h.answer h.setQz.answer) h.setQz.answer))
theorem State.Canon.execLogCfg (h : s.Canon) : CanonNext (execLogCfg s) :=
  .next (h.serve fun _ => .ite h.answer h.setQz.answer)
theorem State.Canon.answerLate (h : s.Canon) : s.answerLate.Canon := by
  unfold State.answerLate
  split
  · exact h.answer
  · exact h
theorem State.Canon.execWdtRestart (h : s.Canon) {errA errB period} :
    CanonNext (execWdtRestart errA errB period s) := by
  refine .next (.ite h ?_)
  split
  · exact h.boot.answerLate
  · exact h
theorem State.Canon.execRecovery (h : s.Canon) {errA errB} : CanonNext (execRecovery errA errB s) :=
  .next (.ite h (.ite h.setQz.refuseBank.refuseBank.recover.answerLate h))

/-! ## Sys2Proof/Machine/Window.lean -/

theorem State.Canon.wbGrantTable (h : s.Canon) {src e v} : (s.wbGrantTable src e v).Canon := .ite h.tset h.tblRefuse
theorem State.Canon.putEntry (h : s.Canon) {p t plane e masks ws} : (s.putEntry p t plane e masks ws).Canon := h.tset
theorem State.Canon.wbMonitor (h : s.Canon) {g v} : (s.wbMonitor g v).Canon := .ite h.tset h.tset.pmDoubt
theorem State.Canon.wbApply (h : s.Canon) {src p t e ws} : (s.wbApply src p t e ws).Canon := by
  unfold State.wbApply
  split
  · exact h.wbGrantTable
  · exact .ite h.tset h.tblRefuse
  · exact h.wbImage
  · exact h.wbPool
  · exact h.wbOwnerMap
  · exact h.wbQueue
  · exact h.wbGrant
  · exact h.wbCtx
  · exact h.wbLegKey
  · exact h.wbPolicer
  · exact h.wbRq
  · exact h.wbGate
  · exact h.wbRegion
  · exact h.wbMonitor
  · exact .ite h.tblRefuse h.memPut
  · exact .ite h.tblRefuse h.putEntry
  · exact .ite h.tblRefuse h.putEntry
  · split
    · exact h.putEntry
    · exact h
theorem State.Canon.wbEntry (h : s.Canon) {src p t e ws} : (s.wbEntry src p t e ws).Canon :=
  .ite h.wbApply (h.deferWb fun _ h1 => h1.wbApply)
theorem State.Canon.execTblAddrWrite (h : s.Canon) {src page v} : CanonNext (execTblAddrWrite src page v s) :=
  .next (h.access fun _ h1 => .ite h1.accessErr h1.wr.setPg)
theorem State.Canon.deadRead (h : s.Canon) {src p o} : (s.deadRead src p o).Canon :=
  .ite h.of_same h.of_same.accessErr
theorem State.Canon.readAccess (h : s.Canon) {src p o} {k : State → State} (hk : ∀ s, s.Canon → (k s).Canon) :
    (s.readAccess src p o k).Canon :=
  .ite h (.ite h.deadRead (hk _ h))
theorem State.Canon.execTblDataRead (h : s.Canon) {src page} : CanonNext (execTblDataRead src page s) :=
  .next (h.readAccess fun _ h1 => .ite h1.of_same (.ite h1.of_same h1.of_same.accessErr))
theorem State.Canon.execTblDataWrite (h : s.Canon) {src page v} : CanonNext (execTblDataWrite src page v s) := by
  refine .next (h.access fun _ h1 => ?_)
  extract_lets
  split
  · exact h1.accessErr
  · exact .ite h1.accessErr (.ite h1.setPg (.ite h1.setPg.tblRefuse h1.setPg.wbEntry))
theorem State.Canon.execTblWritebackDeferred (h : s.Canon) : CanonNext (execTblWritebackDeferred s) := by
  unfold Machine.execTblWritebackDeferred
  extract_lets _ _ s1
  have h1 : s1.Canon := h.of_same
  exact .next (.ite (h1.foldl fun _ h2 _ => h2.wbApply) h)
theorem State.Canon.execGrantTableWriteback (h : s.Canon) {src entry v} :
    CanonNext (execGrantTableWriteback src entry v s) :=
  .next (h.access fun _ h1 => h1.wbGrantTable)
theorem State.Canon.execPoolWriteback (h : s.Canon) {src pool ws} : CanonNext (execPoolWriteback src pool ws s) :=
  .next (h.writeBack fun _ h1 => h1.wbPool)
theorem State.Canon.execCoilQueueWriteback (h : s.Canon) {src q ws} :
    CanonNext (execCoilQueueWriteback src q ws s) :=
  .next (h.writeBack fun _ h1 => h1.wbQueue)
theorem State.Canon.execCoilGrantWriteback (h : s.Canon) {src g ws} :
    CanonNext (execCoilGrantWriteback src g ws s) :=
  .next (h.writeBack fun _ h1 => h1.wbGrant)

/-! ## Sys2Proof/Machine/RegWrite.lean -/

theorem State.Canon.after (h : s.Canon) {f : State → Host.Outcome State Fault Refusal}
    (hf : ∀ s, s.Canon → CanonNext (f s)) : (s.after f).Canon := by
  unfold State.after
  split
  · next e => exact hf s h _ e
  · exact h
  · exact h
theorem State.Canon.putField (h : s.Canon) {p o v f} : (s.putField p o v f).Canon := by
  refine .ite h ?_
  split
  · exact .ite h.wfld h
  · exact h.wfld
  · exact h.wr
  · exact h
theorem State.Canon.halfWrite (h : s.Canon) {src p o v r} : (s.halfWrite src p o v r).Canon :=
  .ite (.ite (.ite h h.accessErr) h.of_same) (.ite (.ite h h.accessErr) h.wr.wr)
theorem State.Canon.plainWrite (h : s.Canon) {src p o v} : (s.plainWrite src p o v).Canon := by
  unfold State.plainWrite
  split
  · exact h
  · refine .ite h.halfWrite ?_
    extract_lets _ _ s1
    have h1 : s1.Canon := h.foldl fun _ h2 _ => h2.putField
    exact .ite h1.accessErr (.ite h1.accessErr h1)
theorem State.Canon.pageCtrlWrite (h : s.Canon) {src p v} : (s.pageCtrlWrite src p v).Canon := by
  refine .ite (.ite h.accessErr h.pageReset) ?_
  extract_lets s1
  have h1 : s1.Canon := .ite h h.enWrite
  exact .ite h1.pageFence h1
theorem State.Canon.cmtCtlWrite (h : s.Canon) {src p v} : (s.cmtCtlWrite src p v).Canon := by
  refine .ite h.accessErr ?_
  extract_lets _ s1
  have h1 : s1.Canon := .ite h.plainWrite.cmtDisarm h.plainWrite
  exact .ite h1.cmtArm h1
theorem State.Canon.ringRegWrite (h : s.Canon) {src p k o v} : (s.ringRegWrite src p k o v).Canon :=
  .ite h.ringCfgWrite (.ite (h.after fun _ h1 => h1.execRingHeadWrite) (.ite h h.plainWrite))
theorem State.Canon.headerWrite (h : s.Canon) {src p o v} : (s.headerWrite src p o v).Canon := by
  refine .ite h.pageCtrlWrite ?_
  refine .ite (h.after fun _ h1 => h1.execEvtStatusClear) ?_
  refine .ite (h.after fun _ h2 => h2.execEvtForce) ?_
  refine .ite (.ite h.wfld h) ?_
  refine .ite h.cmtCtlWrite ?_
  refine .ite (.ite h.plainWrite.snapRequest h.plainWrite) ?_
  refine .ite (h.after fun _ h3 => h3.execTblAddrWrite) ?_
  exact .ite (h.after fun _ h4 => h4.execTblDataWrite) (.ite h.ringRegWrite h.plainWrite)
theorem State.Canon.sysWrite (h : s.Canon) {src o v} : (s.sysWrite src o v).Canon := by
  unfold State.sysWrite
  extract_lets _ _ _ _ s1 s2 s3
  have h1 : s1.Canon := .ite h h.setGroup
  have h2 : s2.Canon := .ite h1.accessErr (.ite h1.accessErr h1)
  have h3 : s3.Canon := .ite h2.cgrpDisarm h2
  refine .ite h.plainWrite.groupShow ?_
  exact .ite (.ite h.setGroup (.ite h h.accessErr)) (.ite (.ite h.accessErr (.ite h3.cgrpArm h3)) h.plainWrite)
theorem State.Canon.adjCtlWrite (h : s.Canon) {src v} : (s.adjCtlWrite src v).Canon :=
  .ite h.accessErr (.ite h.plainWrite (.ite h.plainWrite.adjSet h.plainWrite.adjStep.stepStrobe))
theorem State.Canon.tmuWrite (h : s.Canon) {src o v} : (s.tmuWrite src o v).Canon := by
  refine .ite h.accessErr ?_
  refine .ite ?_ ?_
  · exact .ite (h.after fun _ h1 => h1.execWaleRunSet) (h.after fun _ h2 => h2.execWaleRunClear)
  · refine .ite (h.after fun _ h3 => h3.execGridPhaseWrite) ?_
    refine .ite h.adjCtlWrite ?_
    refine .ite h.plainWrite.servoHeard ?_
    refine .ite (h.after fun _ h4 => h4.execFreqWrite) ?_
    refine .ite (h.servoSilence.plainWrite.after fun _ h5 => h5.execServoLockedWrite) ?_
    exact .ite h.plainWrite.txtsShow (.ite (h.after fun _ h6 => h6.execTxtsPop) h.plainWrite)
theorem State.Canon.rveWrite (h : s.Canon) {src o v} : (s.rveWrite src o v).Canon := by
  refine .ite (.ite h.submitGo h) ?_
  refine .ite h.rveDecrement ?_
  refine .ite ?_ h.plainWrite
  exact .ite (h.after fun _ h1 => h1.execAbortOwner) (h.after fun _ h2 => h2.execAbortTask)
theorem State.Canon.crlWrite (h : s.Canon) {src o v} : (s.crlWrite src o v).Canon := by
  unfold State.crlWrite
  extract_lets
  refine .ite (.ite h ?_) (.ite (.ite (h.after fun _ h1 => h1.execCreelReclaim) h) h.plainWrite)
  split
  · exact h.crlAlloc.fst
  · exact h.crlAdd
  · exact h.crlDrop
  · exact h.crlFree
  · exact h.accessErr
theorem State.Canon.colWrite (h : s.Canon) {src o v} : (s.colWrite src o v).Canon := by
  unfold State.colWrite
  extract_lets
  refine .ite (.ite h ?_) (.ite (.ite (h.after fun _ h1 => h1.execCoilReclaim) h) h.plainWrite)
  split
  · exact h.colReserve
  · exact h.colCommit
  · exact h.colNext.fst
  · exact h.colRelease
  · exact h.colMark
  · exact h.colRewind
  · exact h.accessErr
theorem State.Canon.keyLoadWrite (h : s.Canon) {src v} : (s.keyLoadWrite src v).Canon := .ite h.wr.accessErr h.wr
theorem State.Canon.cpeWrite (h : s.Canon) {src o v} : (s.cpeWrite src o v).Canon := by
  refine .ite h.keyLoadWrite ?_
  refine .ite (.ite (h.after fun _ h1 => h1.execKeyLoad) h) ?_
  exact .ite (.ite (h.after fun _ h2 => h2.execBulkSubmit) h) (.ite h.wr h.plainWrite)
theorem State.Canon.wdsWrite (h : s.Canon) {src n o v} : (s.wdsWrite src n o v).Canon := by
  refine .ite (h.after fun _ h1 => h1.execWdsModeWrite) ?_
  refine .ite (h.after fun _ h2 => h2.execWdsLoad) (.ite ?_ h.plainWrite)
  extract_lets _ s3 s4
  have h3 : s3.Canon := .ite (h.plainWrite.after fun _ h5 => h5.execTestGo) h.plainWrite
  have h4 : s4.Canon := .ite (h3.after fun _ h6 => h6.execTestIrq) h3
  exact .ite (h4.after fun _ h7 => h7.execTestHalt) h4
theorem State.Canon.vceWrite (h : s.Canon) {src n o v} : (s.vceWrite src n o v).Canon := by
  refine .ite (.ite (h.after fun _ h1 => h1.execEncRefresh) h) ?_
  exact .ite (.ite (h.after fun _ h2 => h2.execDecRestart) h) h.plainWrite
theorem State.Canon.wveWrite (h : s.Canon) {src n o v} : (s.wveWrite src n o v).Canon :=
  .ite (.ite (h.after fun _ h1 => h1.execWveRekey) h) h.plainWrite
theorem State.Canon.escWrite (h : s.Canon) {src n o v} : (s.escWrite src n o v).Canon :=
  .ite (.ite h.ceilLock h.wfld) h.plainWrite
theorem State.Canon.drcRegWrite (h : s.Canon) {src n o v} : (s.drcRegWrite src n o v).Canon := by
  refine .ite ?_ ?_
  · refine .ite (.ite (h.after fun _ h1 => h1.execDrcRetrain) h) ?_
    refine .ite (.ite h.accessErr h.wr.refreshReady) ?_
    exact .ite h.accessErr (.ite (.ite h.accessErr (.ite h.plainWrite h.accessErr)) (.ite h.accessErr h.plainWrite))
  · refine .ite h.accessErr ?_
    exact .ite h.wfld.accessErr (.ite (.ite (h.after fun _ h2 => h2.execRankRetire) h) h.plainWrite)
theorem State.Canon.prgWrite (h : s.Canon) {src o v} : (s.prgWrite src o v).Canon := by
  refine .ite (h.after fun _ h1 => h1.execJoinGo) ?_
  refine .ite (.ite (h.after fun _ h2 => h2.execSwapArm) h) ?_
  exact .ite (.ite h.plainWrite (.bypassRefresh (.ite h.plainWrite.prgSend h.plainWrite))) h.plainWrite
theorem State.Canon.qzmWrite (h : s.Canon) {src o v} : (s.qzmWrite src o v).Canon :=
  .ite (.ite (h.after fun _ h1 => h1.execMbDoorbell) h) (.ite h.accessErr h.plainWrite)
theorem State.Canon.blockWrite (h : s.Canon) {src p o v} : (s.blockWrite src p o v).Canon := by
  unfold State.blockWrite
  split
  · exact h.sysWrite
  · exact h.tmuWrite
  · exact h.rveWrite
  · exact h.crlWrite
  · exact h.colWrite
  · exact h.cpeWrite
  · exact .ite (h.after fun _ h1 => h1.execEstBatchDone) h.plainWrite
  · exact h.wdsWrite
  · exact h.vceWrite
  · exact h.wveWrite
  · exact h.escWrite
  · exact .ite (h.after fun _ h2 => h2.execTxForceWrite) h.plainWrite
  · exact h.drcRegWrite
  · exact h.prgWrite
  · exact h.qzmWrite
  · exact h.plainWrite
theorem State.Canon.regApply (h : s.Canon) {src p o v} : (s.regApply src p o v).Canon := by
  unfold State.regApply
  extract_lets s1
  have h1 : s1.Canon := by
    unfold s1
    split
    · exact .ite h h.accessErr
    · exact .ite h.accessErr (.ite h (.ite h.headerWrite h.blockWrite))
  exact .ite h1.wr h1
theorem State.Canon.regWrite (h : s.Canon) {src p o v} : (s.regWrite src p o v).Canon :=
  h.access fun _ h1 => h1.applying fun _ h2 => h2.regApply
theorem State.Canon.execRegWrite (h : s.Canon) {src page off v} : CanonNext (execRegWrite src page off v s) :=
  .next h.regWrite
theorem State.Canon.execReg64HighWrite (h : s.Canon) {src page off v} :
    CanonNext (execReg64HighWrite src page off v s) :=
  .next h.regWrite
theorem State.Canon.execReg64LowRead (h : s.Canon) {page off} : CanonNext (execReg64LowRead page off s) :=
  .next (h.readAccess fun _ h1 => h1.of_same)
theorem State.Canon.execLayCfg (h : s.Canon) : CanonNext (execLayCfg s) := by
  unfold Machine.execLayCfg
  split
  · exact .next h
  · next s1 _ _ e2 =>
      have h1 : s1.Canon := (h.layTake.of_eq e2).fst
      exact .next (.ite (h1.setPrg.applying fun _ h3 => h3.regWrite) h1.setPrg)

/-! ## Commands and steps -/

theorem State.Canon.exec (h : s.Canon) (c : Instr) : CanonNext (Machine.exec c s) := by
  unfold Machine.exec
  split
  · exact h.execRegWrite
  · exact h.execReg64LowRead
  · exact h.execReg64HighWrite
  · exact h.execErrInfoClear
  · exact h.execEvtStatusClear
  · exact h.execEvtForce
  · exact h.execEvtRingDeliver
  · exact h.execPageEnWrite
  · exact h.execPageInitDone
  · exact h.execPageFence
  · exact h.execPageFenceDone
  · exact h.execPageReset
  · exact h.execPageResetDone
  · exact h.execCmtArm
  · exact h.execCmtDisarm
  · exact h.execCommitApply
  · exact h.execCgrpArm
  · exact h.execCgrpDisarm
  · exact h.execCgrpCheck
  · exact h.execCgrpApply
  · exact h.execTblAddrWrite
  · exact h.execTblDataRead
  · exact h.execTblDataWrite
  · exact h.execTblWritebackDeferred
  · exact h.execGrantTableWriteback
  · exact h.execSnapRequest
  · exact h.execSnapshotTake
  · exact h.execRingEnable
  · exact h.execRingHeadWrite
  · exact h.execGridPhaseWrite
  · exact h.execWaleRunSet
  · exact h.execWaleRunClear
  · exact h.execWaleStrobe
  · exact h.execFineTick
  · exact h.execTaskSubmit
  · exact h.execTaskDecrement
  · exact h.execAbortTask
  · exact h.execAbortOwner
  · exact h.execDelayListRelease
  · exact h.execTaskDispatch
  · exact h.execTaskStart
  · exact h.execTaskComplete
  · exact h.execBudgetAbort
  · exact h.execDeadlineAbort
  · exact h.execCompletionRecordWrite
  · exact h.execImageRegistryWrite
  · exact h.execImageScanDone
  · exact h.execOwnerMapWriteback
  · exact h.execPoolWriteback
  · exact h.execPoolReady
  · exact h.execAlloc
  · exact h.execAdd
  · exact h.execDrop
  · exact h.execFree
  · exact h.execCreelReclaim
  · exact h.execCrlReclaimDone
  · exact h.execCoilQueueWriteback
  · exact h.execCoilGrantWriteback
  · exact h.execReserve
  · exact h.execCommit
  · exact h.execNext
  · exact h.execRelease
  · exact h.execMark
  · exact h.execRewind
  · exact h.execCoilReclaim
  · exact h.execColReclaimDone
  · exact h.execEthLinkUp
  · exact h.execEthLinkDown
  · exact h.execEthHiSer
  · exact h.execEthRxFrame
  · exact h.execIclFrame
  · exact h.execIclCtxFetchDone
  · exact h.execLegkeyWriteback
  · exact h.execStreamCtxWriteback
  · exact h.execPolicerWriteback
  · exact h.execCpeRqWriteback
  · exact h.execCpeInbound
  · exact h.execKeySlotFetch
  · exact h.execKeySlotEvict
  · exact h.execKeyLoad
  · exact h.execKeyLoadApply
  · exact h.execKeyLoadPendingExpire
  · exact h.execKwkLoad
  · exact h.execCpeOutbound
  · exact h.execBulkSubmit
  · exact h.execBulkComplete
  · exact h.execLfwPacketAccepted
  · exact h.execFanoutCopy
  · exact h.execNeedIntraReport
  · exact h.execEstNextRateWrite
  · exact h.execEstBatchDone
  · exact h.execEstLatch
  · exact h.execWantCompute
  · exact h.execSwitchTmo
  · exact h.execJoinTake
  · exact h.execOriginatedPacket
  · exact h.execPartialMixOut
  · exact h.execMxfGather
  · exact h.execMixSample
  · exact h.execHwdecPacket
  · exact h.execPartialMixIn
  · exact h.execPartialBuild
  · exact h.execMxfHwencPacket
  · exact h.execNop
  · exact h.execMov
  · exact h.execMovi
  · exact h.execMovhi
  · exact h.execSub
  · exact h.execAddi
  · exact h.execAnd
  · exact h.execOr
  · exact h.execXor
  · exact h.execShl
  · exact h.execShr
  · exact h.execShrl
  · exact h.execShri
  · exact h.execShli
  · exact h.execAbs
  · exact h.execMax
  · exact h.execMin
  · exact h.execCmp
  · exact h.execCmpi
  · exact h.execMaxi
  · exact h.execMini
  · exact h.execLdw
  · exact h.execLdh
  · exact h.execStw
  · exact h.execSth
  · exact h.execMpy
  · exact h.execMac
  · exact h.execMsu
  · exact h.execMacm
  · exact h.execClr
  · exact h.execRda
  · exact h.execSta
  · exact h.execMova
  · exact h.execSeta
  · exact h.execGeta
  · exact h.execAadd
  · exact h.execSetm
  · exact h.execGetm
  · exact h.execB
  · exact h.execCall
  · exact h.execBr
  · exact h.execRepi
  · exact h.execRepr
  · exact h.execExit
  · exact h.execWaitd
  · exact h.execWaitf
  · exact h.execEi
  · exact h.execDi
  · exact h.execReti
  · exact h.execNorm
  · exact h.execExpt
  · exact h.execInterruptEntry
  · exact h.execDmaStart
  · exact h.execDmaDone
  · exact h.execFabricRequest
  · exact h.execFabricResponse
  · exact h.execWdsLoad
  · exact h.execWdsLoaded
  · exact h.execWdsModeWrite
  · exact h.execWdsMemWrite
  · exact h.execTestGo
  · exact h.execTestIrq
  · exact h.execTestHalt
  · exact h.execEncLaunch
  · exact h.execEncUnitEmit
  · exact h.execEncRefresh
  · exact h.execDecPacketAssemble
  · exact h.execDecUnitSubmit
  · exact h.execDecodeComplete
  · exact h.execDecRestart
  · exact h.execWeaveIngest
  · exact h.execWeaveCut
  · exact h.execWeaveLaunch
  · exact h.execWeavePictureBuild
  · exact h.execWveSpliceLate
  · exact h.execWveRekey
  · exact h.execPxcFrameLaunch
  · exact h.execPxcFramePublish
  · exact h.execPxcFrameLate
  · exact h.execDescriptorEnqueue
  · exact h.execHostFrameEnqueue
  · exact h.execPtpTx
  · exact h.execEscDequeue
  · exact h.execTxStart
  · exact h.execGateTransition
  · exact h.execGclStart
  · exact h.execGclEntryWriteback
  · exact h.execEscCeilLocked
  · exact h.execFramerOccurrence
  · exact h.execLnuFalseLock
  · exact h.execLofDeclare
  · exact h.execLofClear
  · exact h.execLosDeclare
  · exact h.execLosClear
  · exact h.execRxFrameOverhead
  · exact h.execRxMultiframe
  · exact h.execTribFrameComplete
  · exact h.execTdmFramePulse
  · exact h.execTxForceWrite
  · exact h.execWdtForceClear
  · exact h.execPmRecord
  · exact h.execPmSecondClose
  · exact h.execBinClose
  · exact h.execAdjSet
  · exact h.execAdjStep
  · exact h.execFreqWrite
  · exact h.execServoLockedWrite
  · exact h.execServoSilent
  · exact h.execPtpRx
  · exact h.execTxtsPop
  · exact h.execTmuLatWriteback
  · exact h.execSyncinMeasure
  · exact h.execPpsEdge
  · exact h.execTmuSyncinLoss
  · exact h.execPpsOutRise
  · exact h.execPpsOutFall
  · exact h.execDrcEnable
  · exact h.execDrcDisable
  · exact h.execTrainStepDone
  · exact h.execDrcTrainFail
  · exact h.execDrcRetrain
  · exact h.execDramWrite
  · exact h.execDramRead
  · exact h.execWriteQueueDrain
  · exact h.execRefresh
  · exact h.execMr4Poll
  · exact h.execScrubRead
  · exact h.execCaParityAlert
  · exact h.execRankRetire
  · exact h.execMigrationCopy
  · exact h.execPairLinkFrame
  · exact h.execPairLinkSend
  · exact h.execPairRetransmit
  · exact h.execPrgLinkDown
  · exact h.execTwinDead
  · exact h.execTwinAlive
  · exact h.execHello
  · exact h.execConfigForward
  · exact h.execLayCfg
  · exact h.execLayPkt
  · exact h.execLayTdm
  · exact h.execLayBoundary
  · exact h.execLayDeq
  · exact h.execLayDrop
  · exact h.execLayOutcome
  · exact h.execLayRefuse
  · exact h.execHeldInputTimeout
  · exact h.execFetchRequest
  · exact h.execFetchResponse
  · exact h.execFetchTimeout
  · exact h.execOutcomeHoldTimeout
  · exact h.execDigestRx
  · exact h.execGateWaitExpire
  · exact h.execGateHoldExpire
  · exact h.execPromote
  · exact h.execDemoteRx
  · exact h.execSwapArm
  · exact h.execSwapApply
  · exact h.execAutoSwap
  · exact h.execJoinGo
  · exact h.execCopyComplete
  · exact h.execCapturePoint
  · exact h.execPrgInStep
  · exact h.execPrgRegionWriteback
  · exact .execPorAssert
  · exact h.execPorRelease
  · exact h.execSlathBoot
  · exact h.execRecovery
  · exact h.execPlatformRead
  · exact h.execMainRelease
  · exact h.execMainSeqStepFail
  · exact h.execPerst
  · exact h.execBoardFault
  · exact h.execRefclkLoss
  · exact h.execRefclkPresent
  · exact .execIslandUndervolt
  · exact h.execIdRead
  · exact h.execIdReadTimeout
  · exact h.execModuleRemoved
  · exact h.execModuleInserted
  · exact h.execWdtKick
  · exact h.execWdtExpire
  · exact h.execWdtRestart
  · exact h.execTempSample
  · exact h.execVoltSample
  · exact h.execPmbusPoll
  · exact h.execPmbusCommand
  · exact h.execMirrorPageWrite
  · exact h.execMbDoorbell
  · exact h.execGetInfo
  · exact h.execClockSet
  · exact h.execClockStep
  · exact h.execPtpCfg
  · exact h.execImageRegion
  · exact h.execImageLoad
  · exact h.execImageUnload
  · exact h.execFwUpdate
  · exact h.execSvnCommit
  · exact h.execPlatformWrite
  · exact h.execOwnerSet
  · exact h.execFwRun
  · exact h.execQuote
  · exact h.execMeasure
  · exact h.execLogRead
  · exact h.execSensorRead
  · exact h.execThreshSet
  · exact h.execLogCfg
  · exact h.execWithyAdd
  · exact h.execReservedOpcode

theorem State.Canon.step (h : s.Canon) : CanonNext (step s) := by
  unfold Machine.step
  split
  · exact .next h.advance
  · exact h.of_same.exec _

end Sys2Proof.Machine
end

section
/-!
SUPPORT. What the registers of the header and the tables read after reset.
-/

namespace Sys2Proof.Machine
theorem State.rd_reset (p o : Nat) : State.reset.rd p o = regDefault (rkey p o) := rfl

theorem State.tget_reset (p t plane e : Nat) : State.reset.tget p t plane e = tblDefault (tkey p t plane e) := rfl

theorem rkey_div {o : Nat} (p : Nat) (ho : o < 65536) : rkey p o / 65536 = p := by
  unfold rkey; omega

theorem rkey_mod {o : Nat} (p : Nat) (ho : o < 65536) : rkey p o % 65536 = o := by
  unfold rkey; omega

/-- No array of R123, R217, R329, R572 and R581 stands in the header. -/
theorem resetByEntry_header (p : Nat) {o : Nat} (ho : o < 0x100) : resetByEntry p o = none := by
  have h1 : ¬ 0x124 ≤ o := by omega
  have h2 : ¬ 0x140 ≤ o := by omega
  have h3 : ¬ 0x160 ≤ o := by omega
  simp [resetByEntry, h1, h2, h3]

/-- A register of the header has the reset value of its row, and reads 0 where the page has no such row. -/
theorem regDefault_header (p : Nat) {o : Nat} (h4 : 4 < o) (ho : o < 0x100) :
    regDefault (rkey p o) = (findReg p o).elim 0 fun r => BitVec.ofNat 32 r.reset := by
  have h0 : o ≠ 0 := by omega
  have h4' : o ≠ 4 := by omega
  have hd := rkey_div p (o := o) (by omega)
  have hm := rkey_mod p (o := o) (by omega)
  simp only [regDefault, hd, hm, h0, h4', if_false, resetByEntry_header p ho]
  cases findReg p o <;> rfl

/-- A header offset at which every row resets to 0 reads 0 on every page, also on one that has no such row. -/
theorem regDefault_header_zero (p : Nat) {o : Nat} (h4 : 4 < o) (ho : o < 0x100)
    (h : ∀ r ∈ regRowsHdr, r.off ≤ o ∧ (o - r.off) % r.stride = 0 ∧ (o - r.off) / r.stride < r.count → r.reset = 0) :
    regDefault (rkey p o) = 0 := by
  rw [regDefault_header p h4 ho]
  cases e : findReg p o with
  | none => rfl
  | some r =>
    simp only [findReg, rowsAt, ho] at e
    split at e
    · cases e
    · have hc := List.find?_some e
      simp only [RegDesc.covers, Bool.and_eq_true, decide_eq_true_eq] at hc
      simp [h r (List.mem_of_find?_eq_some e) ⟨hc.1.1.1, hc.1.1.2, hc.1.2⟩]

/-- The rows that every page's header has (R63) are found on every assigned page as on page 0. -/
theorem findReg_everyHeader {p o : Nat} (hp : pageType p ≠ 0) (ho : o < 0x20 ∨ (0x30 ≤ o ∧ o < 0x40)) :
    findReg p o = findReg 0 o := by
  have hh : o < 0x100 := by omega
  have hx (q : Nat) : headerExists q o = true := by
    rcases ho with h | ⟨h, h'⟩
    · simp [headerExists, h]
    · simp [headerExists, h', Nat.not_lt.2 h]
  have h0 : pageType 0 ≠ 0 := by decide
  have ht : ∀ r ∈ regRowsHdr, r.ty = 0 := by decide
  simp only [findReg, rowsAt, hp, h0, hh, if_false]
  refine List.find?_congr fun r hr => ?_
  simp [RegDesc.covers, ht r hr, hx]

theorem regDefault_everyHeader {p o : Nat} (hp : pageType p ≠ 0) (h4 : 4 < o) (ho : o < 0x20 ∨ (0x30 ≤ o ∧ o < 0x40)) :
    regDefault (rkey p o) = regDefault (rkey 0 o) := by
  rw [regDefault_header p h4 (by omega), regDefault_header 0 h4 (by omega), findReg_everyHeader hp ho]

/-- R64, R73: no page is enabled, and none has a commit under way. -/
theorem State.page_reset (p : Nat) : State.reset.enabled p = false ∧ State.reset.rf p Reg.cmtStatus 2 0 = 0 := by
  constructor
  · rw [State.enabled, State.rb, State.rd_reset, regDefault_header_zero p (by decide) (by decide) (by decide)]
    decide
  · rw [State.rf, State.rd_reset, regDefault_header_zero p (by decide) (by decide) (by decide)]
    decide

/-- R64, R99, R101: the header of every assigned page. -/
theorem State.header_reset {p : Nat} (hp : pageType p ≠ 0) :
    State.reset.rd p Reg.evtEnable = 0xFFFFFFFF ∧ State.reset.rd p Reg.pageReady = 0x200 ∧
      State.reset.rd p Reg.errInfo = 0 ∧ State.reset.rd p Reg.evtStatus = 0 := by
  simp only [State.rd_reset]
  rw [regDefault_everyHeader (o := Reg.evtEnable) hp (by decide) (by decide),
    regDefault_everyHeader (o := Reg.pageReady) hp (by decide) (by decide),
    regDefault_everyHeader (o := Reg.errInfo) hp (by decide) (by decide),
    regDefault_everyHeader (o := Reg.evtStatus) hp (by decide) (by decide)]
  decide

/-- R16: every table but the owner map reads zeros. -/
theorem State.tw_reset {p t plane e : Nat} (he : e < 2 ^ 25) (hl : plane < 2) (ht : t < 32)
    (h : p ≠ crlPage ∨ t ≠ 1 ∨ plane = 1) (i : Nat) : State.reset.tw p t plane e i = 0 := by
  have hk : ¬ (tkey p t plane e / 2 ^ 25 = (0x068 * 32 + 1) * 2) := by
    simp only [tkey, crlPage] at *; omega
  rw [State.tw, State.tget_reset, tblDefault, if_neg fun hc => hk (by simpa using hc : _ ∧ _).1]
  rfl

/-- R152: entry n of the owner map holds the owner ID of port n. -/
theorem State.owner_reset {n : Nat} (hn : n < 593) : State.reset.tf crlPage 1 0 n 0 7 0 = ownerDefault n := by
  have hd : tkey crlPage 1 0 n / 2 ^ 25 = (0x068 * 32 + 1) * 2 := by simp only [tkey, crlPage]; omega
  have hm : tkey crlPage 1 0 n % 2 ^ 25 = n := by simp only [tkey, crlPage]; omega
  have hlt : ownerDefault n < 256 := by unfold ownerDefault; split_ifs <;> omega
  have hs : (stripWords [BitVec.ofNat 32 (ownerDefault n)]).getD 0 0 = BitVec.ofNat 32 (ownerDefault n) := by
    generalize BitVec.ofNat 32 (ownerDefault n) = w
    by_cases h0 : w = 0#32 <;> simp [stripWords, h0]
  rw [State.tf, State.tw, State.tget_reset, tblDefault, hd, hm]
  simp only [hn, decide_true, Bool.and_self, if_true, hs, fld, nfld, BitVec.toNat_ofNat]
  omega

end Sys2Proof.Machine
end

section
/-!
SUPPORT. Writes and reads through the window, from the access to the register: what a write of a register of one plain field
leaves, and of the halves of a 64-bit register.
-/

namespace Sys2Proof.Machine
/-- What a write leaves of Pairing's state beside its effect: the entries it carries to the standby (R598), and `applying`. -/
def State.during (s : State) (l : List (Nat × Nat × Word)) (a : Bool) : State :=
  s.setPrg fun g => { g with fwd := g.fwd ++ l, applying := a }

@[simp] theorem State.during_rd (s : State) (l : List (Nat × Nat × Word)) (a : Bool) (p o : Nat) : (s.during l a).rd p o = s.rd p o := by
  simp [State.during, State.rd]

/-- A write that reaches its register has its effect, between two notes of Pairing. -/
theorem State.regWrite_opens {s : State} {src : Src} {p o : Nat} (h : s.Opens src p o) (v : Word) :
    ∃ l, s.regWrite src p o v =
      ((s.during l true).regApply src p o v).setPrg fun g => { g with applying := s.prg.applying } := by
  obtain ⟨l, hl⟩ := State.access_opens h v fun s => s.applying fun s => s.regApply src p o v
  exact ⟨l, hl⟩

/-- A write reaches its register also in a state that differs from `s` elsewhere. -/
theorem State.Opens.congr {s t : State} {src : Src} {p o : Nat} (h : s.Opens src p o) (hq : t.qz = s.qz) (htbl : t.tbl = s.tbl)
    (hreg : t.reg = s.reg) (hp : t.prg.applying = s.prg.applying) : t.Opens src p o where
  reaches := by rw [State.reaches, hq]; exact h.reaches
  assigned := h.assigned
  granted := by
    have hg : t.granted src p = s.granted src p := by cases src <;> simp [State.granted, State.tw, State.tget, htbl]
    exact hg.trans h.granted
  shown := by rw [State.hidden, State.rf, State.rd_congr hreg]; exact h.shown
  taken := by rw [State.standby, State.rb, State.rd_congr hreg, hp]; exact h.taken

/-- A write whose effect captures no access error. -/
theorem State.regApply_eq {s t : State} {src : Src} {p o : Nat} {v : Word} {r : RegDesc} (hr : findReg p o = some r)
    (hro : s.readOnly src p o r = false) (hk : (s.enabled p && keptWhileOn p o) = false)
    (ht : (if o < 0x100 ∨ 0x8000 ≤ o then s.headerWrite src p o v else s.blockWrite src p o v) = t)
    (he : t.rd p Reg.errInfo = s.rd p Reg.errInfo) : s.regApply src p o v = t := by
  have hb : t.rb p Reg.errInfo 31 = s.rb p Reg.errInfo 31 := by rw [State.rb, he]; rfl
  have h : s.regApply src p o v =
      if !s.rb p Reg.errInfo 31 && t.rb p Reg.errInfo 31 then t.wr p Reg.errData v else t := by
    simp only [State.regApply, hr, hro, hk, Bool.false_eq_true, if_false, Bool.or_eq_true, decide_eq_true_eq, ht]
  rw [h, hb]
  simp

/-- A field of 32 bits is the whole register. -/
theorem withFld_whole (w v : Word) : withFld w 31 0 (fld v 31 0) = v := by
  have hm : fmask 31 0 = BitVec.allOnes 32 := by decide
  have hf : fld v 31 0 = v.toNat := by simp [fld, nfld]; omega
  rw [withFld, hm, hf, BitVec.and_allOnes]
  simp

/-- A register of one RW field of 32 bits that is not one of a commit's own controls. -/
structure RegDesc.Whole (r : RegDesc) (o : Nat) : Prop where
  fields : r.fields = [⟨31, 0, .rw, false, 0, 4294967295⟩]
  notCtl : o ≠ Reg.cmtCtl
  notWale : o ≠ Reg.cmtWale

theorem RegDesc.Whole.and_mask {r : RegDesc} {o : Nat} (hw : r.Whole o) (v : Word) : v &&& r.mask = v := by
  have hm : r.mask = BitVec.allOnes 32 := by simp only [RegDesc.mask, hw.fields]; decide
  rw [hm, BitVec.and_allOnes]

section
variable {r : RegDesc} {p o : Nat} (hr : findReg p o = some r)
include hr

/-- R11: it takes what is written. -/
theorem State.plainWrite_whole (hw : r.Whole o) (hh : r.half = 0) (s : State) (src : Src) (v : Word) :
    s.plainWrite src p o v = s.wr p o v := by
  have ht : (⟨31, 0, .rw, false, 0, 4294967295⟩ : FieldDesc).takes v = true := by
    have := (v.isLt : v.toNat < 4294967296)
    simp [FieldDesc.takes, fld, nfld]; omega
  simp [State.plainWrite, hr, hh, hw.fields, hw.notCtl, hw.notWale, State.fieldLocked, State.putField, ht, State.wfld,
    withFld_whole]

/-- R6: the low half waits. -/
theorem State.plainWrite_lowHalf (hw : r.Whole o) (hh : r.half = 1) (s : State) (src : Src) (v : Word) :
    s.plainWrite src p o v = { s with stage := NMap.set regDefault s.stage (rkey p o) v } := by
  simp [State.plainWrite, hr, hh, State.halfWrite, hw.and_mask, hw.fields, hw.notCtl, hw.notWale, State.fieldLocked]

/-- R6: the high half gives the register both. -/
theorem State.plainWrite_highHalf (hw : r.Whole o) (hh : r.half = 2) (s : State) (src : Src) (v : Word) :
    s.plainWrite src p o v = (s.wr p (o - 4) (NMap.get regDefault s.stage (rkey p (o - 4)))).wr p o v := by
  simp [State.plainWrite, hr, hh, State.halfWrite, hw.and_mask, hw.fields, hw.notCtl, hw.notWale, State.fieldLocked]

/-- R12: a register of one RWS field takes it while no commit of the page is ARMED. -/
theorem State.plainWrite_rws {hi lo m n : Nat} (hf : r.fields = [⟨hi, lo, .rws, false, m, n⟩]) (hh : r.half = 0) {s : State}
    (ha : s.armed p = false) (src : Src) (v : Word) : s.plainWrite src p o v = s.wfld p o hi lo (fld v hi lo) := by
  simp [State.plainWrite, hr, hh, hf, State.fieldLocked, State.putField, ha]
end

/-- A write that changes registers alone, as Pairing notes it. -/
theorem State.only_reg (s : State) (l : List (Nat × Nat × Word)) (a b : Bool) (m : NMap Word) :
    s.Only (({ s.during l a with reg := m }).setPrg fun g => { g with applying := b }) [.reg, .prg] := by
  intro x hx
  cases x <;> simp [Part.same, State.during] at hx ⊢

theorem State.rd_setPrg (s : State) (f : PrgSt → PrgSt) (p o : Nat) : (s.setPrg f).rd p o = s.rd p o :=
  State.rd_congr (s.setPrg_reg f) p o

/-- A write of one register leaves the others. -/
theorem State.regsBut_wr (s : State) (l : List (Nat × Nat × Word)) (a : Bool) (f : PrgSt → PrgSt) {p o : Nat} (ho : o < 65536)
    (w : Word) : s.RegsBut (((s.during l a).wr p o w).setPrg f) [(p, o)] := by
  intro q n hn hne _
  rw [State.rd_setPrg, State.rd_wr_other _ _ ho hn (by simpa [← not_and_or] using hne), State.during_rd]

/-- R101: EVT_ENABLE on every assigned page. -/
theorem State.regApply_evtEnable (s : State) (src : Src) {p : Nat} (hp : pageType p ≠ 0) (v : Word) :
    s.regApply src p Reg.evtEnable v = s.wr p Reg.evtEnable v := by
  obtain ⟨r, hr, hw, hh⟩ : ∃ r, findReg p Reg.evtEnable = some r ∧ r.Whole Reg.evtEnable ∧ r.half = 0 := by
    rw [findReg_everyHeader hp (by decide)]
    exact ⟨_, rfl, ⟨rfl, by decide, by decide⟩, rfl⟩
  have hk : keptWhileOn p Reg.evtEnable = false := by
    unfold keptWhileOn; split <;> rfl
  refine State.regApply_eq hr ?_ (by simp [hk]) ?_ (State.rd_wr_other _ _ (by decide) (by decide) (.inr (by decide)))
  · simp [State.readOnly, hw.fields]
  · rw [← State.plainWrite_whole hr hw hh s src v]; rfl

/-- R329: MXF_TAG. -/
theorem State.regApply_mxfTag {s : State} (ha : s.armed mxfPage = false) (src : Src) (v : Word) :
    s.regApply src mxfPage Reg.mxfTag v = s.wfld mxfPage Reg.mxfTag 15 0 (fld v 15 0) := by
  have hr : findReg mxfPage Reg.mxfTag = some ⟨9, 0, 4095, 0x0114, 0x4, 1, 0, 0x0, [⟨15, 0, .rws, false, 0, 65535⟩]⟩ := rfl
  have hk : keptWhileOn mxfPage Reg.mxfTag = false := by decide
  refine State.regApply_eq hr ?_ (by simp [hk]) ?_ (State.rd_wfld_other _ _ _ _ (by decide) (by decide) (by decide))
  · simp [State.readOnly]
  · rw [← State.plainWrite_rws hr rfl rfl ha src v]; rfl

/-- R6, R207: the low half of ICL_CTX_BASE waits. -/
theorem State.regApply_iclCtxBase {s : State} (hen : s.enabled iclPage = false) (src : Src) (v : Word) :
    s.regApply src iclPage Reg.iclCtxBase v =
      { s with stage := NMap.set regDefault s.stage (rkey iclPage Reg.iclCtxBase) v } := by
  have hr : findReg iclPage Reg.iclCtxBase = some ⟨6, 0, 0, 0x0100, 0x4, 1, 1, 0x0, [⟨31, 0, .rw, false, 0, 4294967295⟩]⟩ := rfl
  refine State.regApply_eq hr ?_ (by simp [hen]) ?_ rfl
  · simp [State.readOnly]
  · rw [← State.plainWrite_lowHalf hr ⟨rfl, by decide, by decide⟩ rfl s src v]; rfl

/-- R6, R207: the high half of ICL_CTX_BASE gives the register both halves. -/
theorem State.regApply_iclCtxBaseHi {s : State} (hen : s.enabled iclPage = false) (src : Src) (v : Word) :
    s.regApply src iclPage Reg.iclCtxBaseHi v =
      (s.wr iclPage Reg.iclCtxBase (NMap.get regDefault s.stage (rkey iclPage Reg.iclCtxBase))).wr iclPage Reg.iclCtxBaseHi v := by
  have hr : findReg iclPage Reg.iclCtxBaseHi = some ⟨6, 0, 0, 0x0104, 0x4, 1, 2, 0x0, [⟨31, 0, .rw, false, 0, 4294967295⟩]⟩ := rfl
  refine State.regApply_eq hr ?_ (by simp [hen]) ?_ ?_
  · simp [State.readOnly]
  · exact State.plainWrite_highHalf hr ⟨rfl, by decide, by decide⟩ rfl s src v
  · rw [State.rd_wr_other _ _ (by decide) (by decide) (by decide), State.rd_wr_other _ _ (by decide) (by decide) (by decide)]

/-- R12, R101: a write of EVT_ENABLE. -/
theorem State.Opens.evtEnable {s : State} {src : Src} {p : Nat} (h : s.Opens src p Reg.evtEnable) (v : Word) :
    Answers (.regWrite src p Reg.evtEnable v) s fun t =>
      t.rd p Reg.evtEnable = v ∧ s.RegsBut t [(p, Reg.evtEnable)] ∧ s.Only t [.reg, .prg] := by
  obtain ⟨l, e⟩ := State.regWrite_opens h v
  rw [State.regApply_evtEnable _ _ h.assigned] at e
  refine ⟨_, rfl, ?_⟩
  rw [e]
  exact ⟨by rw [State.rd_setPrg, State.rd_wr_same], s.regsBut_wr _ _ _ (by decide) _, s.only_reg _ _ _ _⟩

/-- R12, R329: a write of MXF_TAG. -/
theorem State.Opens.mxfTag {s : State} {src : Src} (h : s.Opens src mxfPage Reg.mxfTag) (ha : s.armed mxfPage = false) (v : Word) :
    Answers (.regWrite src mxfPage Reg.mxfTag v) s fun t =>
      t.rf mxfPage Reg.mxfTag 15 0 = fld v 15 0 ∧ t.act = s.act ∧ s.RegsBut t [(mxfPage, Reg.mxfTag)] ∧
        s.Only t [.reg, .prg] := by
  obtain ⟨l, e⟩ := State.regWrite_opens h v
  rw [State.regApply_mxfTag (show (s.during l true).armed mxfPage = false from ha)] at e
  have hv : fld v 15 0 % 2 ^ (15 + 1 - 0) = fld v 15 0 := Nat.mod_mod ..
  refine ⟨_, rfl, ?_⟩
  rw [e]
  exact ⟨by rw [State.rf, State.rd_setPrg, State.rd_wfld_same, fld_withFld _ _ (by decide) (by decide), hv], rfl,
    s.regsBut_wr _ _ _ (by decide) _, s.only_reg _ _ _ _⟩

/-- R6: the write of the high half of ICL_CTX_BASE that finds `lo` waiting. -/
theorem State.Opens.iclCtxBaseHi {s : State} {src : Src} (h : s.Opens src iclPage Reg.iclCtxBaseHi)
    (hen : s.enabled iclPage = false) {lo : Word} (hlo : NMap.get regDefault s.stage (rkey iclPage Reg.iclCtxBase) = lo) (hi : Word) :
    Answers (.reg64HighWrite src iclPage Reg.iclCtxBaseHi hi) s fun u =>
      u.rd64 iclPage Reg.iclCtxBase Reg.iclCtxBaseHi = lo.toNat + hi.toNat * 2 ^ 32 ∧
        s.RegsBut u [(iclPage, Reg.iclCtxBase), (iclPage, Reg.iclCtxBaseHi)] ∧ s.Only u [.reg, .prg] := by
  obtain ⟨l, e⟩ := State.regWrite_opens h hi
  rw [State.regApply_iclCtxBaseHi (show (s.during l true).enabled iclPage = false from hen),
    show NMap.get regDefault (s.during l true).stage _ = lo from hlo] at e
  refine ⟨_, rfl, ?_⟩
  rw [e]
  refine ⟨?_, fun q n hn hne _ => ?_, s.only_reg _ _ _ _⟩
  · rw [State.rd64, State.rd_setPrg, State.rd_setPrg, State.rd_wr_same, State.rd_wr_other _ _ (by decide) (by decide) (by decide),
      State.rd_wr_same]
  · have hne : ¬ (q = iclPage ∧ n = Reg.iclCtxBase) ∧ ¬ (q = iclPage ∧ n = Reg.iclCtxBaseHi) := by simpa using hne
    rw [State.rd_setPrg, State.rd_wr_other _ _ (by decide) hn (not_and_or.1 hne.2),
      State.rd_wr_other _ _ (by decide) hn (not_and_or.1 hne.1), State.during_rd]

/-- R6: the write of the low half of ICL_CTX_BASE, and of the high half after it. -/
theorem State.Opens.iclCtxBase {s : State} {src : Src} (hl : s.Opens src iclPage Reg.iclCtxBase)
    (hh : s.Opens src iclPage Reg.iclCtxBaseHi) (hen : s.enabled iclPage = false) (lo hi : Word) :
    Answers (.regWrite src iclPage Reg.iclCtxBase lo) s fun t =>
      t.reg = s.reg ∧ s.Only t [.stage, .prg] ∧
        Answers (.reg64HighWrite src iclPage Reg.iclCtxBaseHi hi) t fun u =>
          u.rd64 iclPage Reg.iclCtxBase Reg.iclCtxBaseHi = lo.toNat + hi.toNat * 2 ^ 32 ∧
            t.RegsBut u [(iclPage, Reg.iclCtxBase), (iclPage, Reg.iclCtxBaseHi)] ∧ t.Only u [.reg, .prg] := by
  obtain ⟨l, e⟩ := State.regWrite_opens hl lo
  rw [State.regApply_iclCtxBase (show (s.during l true).enabled iclPage = false from hen)] at e
  obtain ⟨t, ht⟩ : ∃ t, t = s.regWrite src iclPage Reg.iclCtxBase lo := ⟨_, rfl⟩
  have honly : s.Only t [.stage, .prg] := by
    rw [ht, e]
    intro x hx
    cases x <;> simp [Part.same, State.during] at hx ⊢
  have hreg : t.reg = s.reg := honly .reg (by decide)
  have hstage : NMap.get regDefault t.stage (rkey iclPage Reg.iclCtxBase) = lo := by
    rw [ht, e, State.setPrg_stage]; exact NMap.get_set_same ..
  have happ : t.prg.applying = s.prg.applying := by rw [ht, e, State.setPrg_prg]
  have hopen := hh.congr (honly .qz (by decide)) (honly .tbl (by decide)) hreg happ
  have hoff : t.enabled iclPage = false := by rw [State.enabled, State.rb, State.rd_congr hreg]; exact hen
  exact ⟨t, by rw [ht]; rfl, hreg, honly, hopen.iclCtxBaseHi hoff hstage hi⟩

/-- R5: a register of RO fields alone that does not follow the clock is sampled as it stands. -/
theorem State.sample_startWale (s : State) :
    s.sample tmuPage Reg.tmuStartWale = s.rd tmuPage Reg.tmuStartWale ∧
      s.sample tmuPage Reg.tmuStartWaleHi = s.rd tmuPage Reg.tmuStartWaleHi := by
  have hl : findReg tmuPage Reg.tmuStartWale = some ⟨2, 0, 4095, 0x0118, 0x4, 1, 1, 0x0, [⟨31, 0, .ro, false, 0, 4294967295⟩]⟩ := rfl
  have hh : findReg tmuPage Reg.tmuStartWaleHi = some ⟨2, 0, 4095, 0x011C, 0x4, 1, 2, 0x0, [⟨31, 0, .ro, false, 0, 4294967295⟩]⟩ := rfl
  constructor
  · rw [State.sample, hl]; exact BitVec.and_allOnes
  · rw [State.sample, hh]; exact BitVec.and_allOnes

/-- R5: a read of the low half of TMU_START_WALE. -/
theorem State.read_startWale {s : State} (hr : s.reaches .pf tmuPage = true) (hh : s.hidden .pf tmuPage = false)
    (hl : NMap.get (fun _ => none) s.latch (rkey tmuPage Reg.tmuStartWale) = none) (x : Word) :
    Answers (.reg64LowRead tmuPage Reg.tmuStartWale) s fun t =>
      t.read = s.rd tmuPage Reg.tmuStartWale ∧
        (t.wr tmuPage Reg.tmuStartWaleHi x).windowRead tmuPage Reg.tmuStartWaleHi = s.rd tmuPage Reg.tmuStartWaleHi ∧
        s.Only t [.read, .latch] := by
  have ht : pageType tmuPage ≠ 0 := by decide
  have hlat : latchedBy tmuPage Reg.tmuStartWale = [Reg.tmuStartWaleHi] := by decide
  obtain ⟨hlo, hhi⟩ := s.sample_startWale
  have hread : s.windowRead tmuPage Reg.tmuStartWale = s.rd tmuPage Reg.tmuStartWale := by
    rw [State.windowRead, hl]
    exact hlo
  refine ⟨_, rfl, ?_⟩
  simp only [State.readAccess, hr, hh, ht, State.granted, hlat, Bool.not_true, Bool.false_eq_true, if_false,
    decide_false, Bool.or_false]
  refine ⟨hread, ?_, fun y hy => ?_⟩
  · rw [State.windowRead, State.wr_latch]
    simp [NMap.setAll, hhi]
  · cases y <;> simp [Part.same] at hy ⊢

end Sys2Proof.Machine
end

section
/-!
PROOFS. The statements of the scope family.
-/

open Sys2Proof Sys2Proof.Machine

/-- Settles O56: the lemma of the step, which rests on one for each command. -/
theorem stepKeepsCanonicalForm : Obligations.StepKeepsCanonicalForm :=
  fun _ t h e => State.canon_iff.1 ((State.canon_iff.2 h).step t e)

/-- Settles O57: every map after reset is empty, and the first step lets one nanosecond pass. -/
theorem resetIsCanonical : Obligations.ResetIsCanonical :=
  ⟨State.canon_iff.1 .reset, ⟨State.reset.advance 1, rfl⟩, rfl, rfl⟩

/-- Settles O54: R16, R17. The registers and the tables read their defaults, and the other values are those of `{}`. -/
theorem resetState : Obligations.ResetState := by
  have owner (n : Nat) (hn : n < 593) := State.owner_reset hn
  refine ⟨rfl, fun p _ => State.page_reset p, fun p hp => State.header_reset ?_, fun _ _ _ => rfl,
    fun p t plane e he hl h ht i => State.tw_reset he hl ht h i, fun n hn => ?_, fun n hn => ?_, fun n hn => ?_,
    fun n hn => ?_, fun n hn => ?_, owner 592 (by decide), by decide, by decide, by decide, by decide, by decide, rfl,
    fun _ => rfl, rfl, by decide, rfl, rfl⟩
  · revert p; decide
  all_goals
    rw [owner _ (by omega), ownerDefault]
    split_ifs <;> omega

/-- Settles O1: one lemma for each register. -/
theorem registerWritesAndReads : Obligations.RegisterWritesAndReads :=
  ⟨fun _ _ _ v h => h.evtEnable v, fun _ _ v h ha => h.mxfTag ha v, fun _ _ lo hi hl hh hen => hl.iclCtxBase hh hen lo hi,
    fun _ x hr hh hl => State.read_startWale hr hh hl x⟩
end

section
/-!
SUPPORT. Frames: what a chain of operations leaves as it was, with one rule for each operation; and what events and counts leave
of the registers, of other counters, and in `EVT_STATUS`.
-/

namespace Sys2Proof.Machine

/-! ## Parts -/

theorem State.Only.refl (s : State) (l : List Part) : s.Only s l := by
  rintro (_ | _) - <;> rfl

theorem State.Only.trans {s t u : State} {l : List Part} (h : s.Only t l) (g : t.Only u l) : s.Only u l := by
  intro x hx
  have hs := h x hx
  have hg := g x hx
  cases x <;> exact hg.trans hs

theorem State.Only.mono {s t : State} {l m : List Part} (h : s.Only t l) (hl : ∀ x ∈ l, x ∈ m) : s.Only t m :=
  fun x hx => h x fun hm => hx (hl x hm)

theorem State.RegsBut.trans {s t u : State} {l : List (Nat × Nat)} (h : s.RegsBut t l) (g : t.RegsBut u l) : s.RegsBut u l :=
  fun p o ho hl hn => (g p o ho hl hn).trans (h p o ho hl hn)

theorem State.RegsBut.of_reg {s t : State} (h : t.reg = s.reg) (l : List (Nat × Nat)) : s.RegsBut t l :=
  fun p o _ _ _ => State.rd_congr h p o

theorem State.Noted.only {s t : State} (h : s.Noted t) : s.Only t noted := by
  intro x hx
  cases x
  case reg | ctr | ev | qz | prg => simp [Sys2Proof.Machine.noted] at hx
  case pending => exact h.pending
  case clk => exact h.clk
  case act => exact h.act
  case latch => exact h.latch
  case read => exact h.read
  case stage => exact h.stage
  case tbl => exact h.tbl
  case snap => exact h.snap
  case snapTbl => exact h.snapTbl
  case page => exact h.page
  case cgrp => exact h.cgrp
  case host => exact h.host
  case free => exact h.free
  case tmu => exact h.tmu
  case mem => exact h.mem
  case crl => exact h.crl
  case col => exact h.col
  case deferred => exact h.deferred
  case vfEnabled => exact h.vfEnabled
  case rve => exact h.rve
  case cores => exact h.cores
  case icl => exact h.icl
  case cpe => exact h.cpe
  case lfw => exact h.lfw
  case esc => exact h.esc
  case mxf => exact h.mxf
  case lnu => exact h.lnu
  case vce => exact h.vce
  case wve => exact h.wve
  case pxc => exact h.pxc
  case drc => exact h.drc

theorem State.Noted.regsBut {s t : State} (h : s.Noted t) (l : List (Nat × Nat)) : s.RegsBut t l :=
  fun p o ho _ hn => h.rd p o (by rwa [Nat.mod_eq_of_lt ho])

/-! ## Frames -/

/-- `t` is `s` but for the parts `ps` and, among the registers, for those of `rs` and what events and access errors leave. -/
structure State.Frame (rs : List (Nat × Nat)) (ps : List Part) (s t : State) : Prop where
  regs : s.RegsBut t rs
  only : s.Only t ps

section
variable {rs : List (Nat × Nat)} {ps : List Part} {s t u : State}

theorem State.Frame.refl (s : State) : s.Frame rs ps s := ⟨.of_reg rfl _, .refl _ _⟩

theorem State.Frame.trans (h : State.Frame rs ps s t) (g : State.Frame rs ps t u) : State.Frame rs ps s u :=
  ⟨h.regs.trans g.regs, h.only.trans g.only⟩

theorem State.Frame.mono {rs' : List (Nat × Nat)} {ps' : List Part} (h : State.Frame rs ps s t) (hr : ∀ x ∈ rs, x ∈ rs')
    (hp : ∀ x ∈ ps, x ∈ ps') : State.Frame rs' ps' s t :=
  ⟨fun p o ho hl => h.regs p o ho fun hm => hl (hr _ hm), h.only.mono hp⟩

/-- Parts other than the registers. -/
theorem State.Frame.parts {l : List Part} (h : State.Frame rs ps s t) (hreg : u.reg = t.reg) (ho : t.Only u l)
    (hl : ∀ x ∈ l, x ∈ ps) : State.Frame rs ps s u :=
  h.trans ⟨.of_reg hreg _, ho.mono hl⟩

theorem State.Frame.noted (h : State.Frame rs ps s t) (g : t.Noted u) (hp : ∀ x ∈ Machine.noted, x ∈ ps) :
    State.Frame rs ps s u :=
  h.trans ⟨g.regsBut _, g.only.mono hp⟩

theorem State.only_setReg (s : State) (m : NMap Word) : s.Only { s with reg := m } [.reg] := by
  intro x hx
  cases x <;> simp [Part.same] at hx ⊢

theorem State.Frame.wr {p o : Nat} (h : State.Frame rs ps s t) (v : Word) (ho : o < 65536) (hr : (p, o) ∈ rs)
    (hp : .reg ∈ ps) : State.Frame rs ps s (t.wr p o v) := by
  refine h.trans ⟨fun q n hn hl _ => t.rd_wr_other v ho hn ?_, (t.only_setReg _).mono (by simpa using hp)⟩
  have hne : ¬ (q = p ∧ n = o) := by rintro ⟨rfl, rfl⟩; exact hl hr
  exact not_and_or.1 hne

theorem State.Frame.wfld {p o : Nat} (h : State.Frame rs ps s t) (hi lo v : Nat) (ho : o < 65536) (hr : (p, o) ∈ rs)
    (hp : .reg ∈ ps) : State.Frame rs ps s (t.wfld p o hi lo v) := h.wr _ ho hr hp

theorem State.Frame.ite {c : Prop} [Decidable c] (h : State.Frame rs ps s t) (g : State.Frame rs ps s u) :
    State.Frame rs ps s (if c then t else u) := by
  split
  · exact h
  · exact g

theorem State.Frame.foldl {β : Type} {f : State → β → State} {l : List β} (h : State.Frame rs ps s t)
    (hf : ∀ (x : β) (a : State), x ∈ l → State.Frame rs ps s a → State.Frame rs ps s (f a x)) :
    State.Frame rs ps s (l.foldl f t) := by
  induction l generalizing t with
  | nil => exact h
  | cons x r ih => exact ih (hf x t (by simp) h) fun y a hy => hf y a (by simp [hy])

theorem State.Frame.raise (h : State.Frame rs ps s t) (p : Nat) (e : Event) (a b : Nat)
    (hp : ∀ x ∈ Machine.noted, x ∈ ps) : State.Frame rs ps s (t.raise p e a b) := h.noted (t.noted_raise ..) hp

theorem State.Frame.bump (h : State.Frame rs ps s t) (p : Nat) (c : Ctr) (hp : ∀ x ∈ Machine.noted, x ∈ ps) :
    State.Frame rs ps s (t.bump p c) := h.noted (t.noted_bump ..) hp

end

theorem State.only_withClk (s : State) (k : Clk) : s.Only { s with clk := k } [.clk] := by
  intro x hx
  cases x <;> simp [Part.same] at hx ⊢

theorem State.only_setPrg (s : State) (f : PrgSt → PrgSt) : s.Only (s.setPrg f) [.prg] := by
  intro x hx
  cases x <;> simp [Part.same] at hx ⊢

theorem State.only_withTmu (s : State) (k : TmuSt) : s.Only { s with tmu := k } [.tmu] := by
  intro x hx
  cases x <;> simp [Part.same] at hx ⊢

/-- A write that Pairing does not carry goes on in the same state. -/
theorem State.access_local {s : State} {src : Src} {p o : Nat} (h : s.Opens src p o) (hc : pairedOfs p o = false) (v : Word)
    (k : State → State) : s.access src p o v k = k s := by
  have hc' : carried src p o = false := by simp [carried, hc]
  simp [State.access, h.reaches, h.assigned, h.granted, h.shown, hc']

/-! ## Reading a field that was written -/

theorem fmask_bits (i : Nat) (hi : i < 32) (w : Word) (v : Nat) : bit (withFld w i i v) i = decide (v % 2 = 1) := by
  simp only [bit, withFld, BitVec.getLsbD_or, BitVec.getLsbD_and, BitVec.getLsbD_not, getLsbD_fmask, BitVec.getLsbD_ofNat,
    Nat.testBit_mul_two_pow]
  simp [hi, Nat.testBit_zero]

/-- A field that shares no bit with the one written reads as before. -/
theorem fld_withFld_other (w : Word) {hi lo hi' lo' : Nat} (v : Nat) (h : hi < lo' ∨ hi' < lo) :
    fld (withFld w hi' lo' v) hi lo = fld w hi lo := by
  apply Nat.eq_of_testBit_eq
  intro i
  simp only [fld, nfld, Nat.testBit_mod_two_pow, Nat.testBit_div_two_pow]
  by_cases hi : i < hi + 1 - lo
  · have hb := bit_withFld_other w (hi := hi') (lo := lo') (i := lo + i) v (by omega)
    simp only [hi, decide_true, Bool.true_and]
    rw [Nat.add_comm i lo]
    exact hb
  · simp [hi]

/-! ## What events and counts leave -/

/-- The counters that events themselves count on. -/
def evtCtrs : List Ctr := [.sysEvtSuppressed, .sysEvtDropLo, .sysEvtDropHi, .qzmLogRecords, .qzmLogLost, .prgDiverge]

theorem ckey_inj {p q i j : Nat} {c d : Ctr} (hi : i < 2 ^ 26) (hj : j < 2 ^ 26) (h : ckey p c i = ckey q d j) :
    p = q ∧ c = d ∧ i = j := by
  have hc (c : Ctr) : c.ctorIdx < 512 := by cases c <;> decide
  have h1 := hc c
  have h2 := hc d
  unfold ckey at h
  have hcd : c.ctorIdx = d.ctorIdx := by omega
  refine ⟨by omega, ?_, by omega⟩
  rw [← Ctr.ofNat_ctorIdx c, ← Ctr.ofNat_ctorIdx d, hcd]

theorem State.ctrAt_setCtr (s : State) {p i : Nat} (c : Ctr) (v : Nat) : (s.setCtr p c i v).ctrAt p c i = v := by
  simp [State.ctrAt, State.setCtr]

theorem State.ctrAt_setCtr_other (s : State) {p q i j : Nat} {c d : Ctr} (v : Nat) (hi : i < 2 ^ 26) (hj : j < 2 ^ 26)
    (h : d ≠ c) : (s.setCtr p c i v).ctrAt q d j = s.ctrAt q d j := by
  simp only [State.ctrAt, State.setCtr]
  exact NMap.get_set_ne _ _ fun e => h (ckey_inj hj hi e).2.1

/-- What raising an event leaves beside what `State.Noted` says: every register but `EVT_STATUS` and `EVT_FIRST`, every bit
that `EVT_STATUS` shows, and the counters that events do not count on. -/
structure State.Raised (s t : State) : Prop where
  rd : ∀ p o, o % 65536 ≠ Reg.evtStatus → o % 65536 ≠ Reg.evtFirst → t.rd p o = s.rd p o
  told : ∀ p i, s.rb p Reg.evtStatus i = true → t.rb p Reg.evtStatus i = true
  ctr : ∀ p c i, c ∉ evtCtrs → i < 2 ^ 26 → t.ctrAt p c i = s.ctrAt p c i

theorem State.Raised.of_eq {s t : State} (hr : t.reg = s.reg) (hc : t.ctr = s.ctr) : s.Raised t where
  rd p o _ _ := State.rd_congr hr p o
  told p i h := by rwa [State.rb, State.rd_congr hr]
  ctr p c i _ _ := by rw [State.ctrAt, hc]; rfl

theorem State.Raised.refl (s : State) : s.Raised s := .of_eq rfl rfl

theorem State.Raised.trans {s t u : State} (h : s.Raised t) (g : t.Raised u) : s.Raised u where
  rd p o h1 h2 := (g.rd p o h1 h2).trans (h.rd p o h1 h2)
  told p i hi := g.told p i (h.told p i hi)
  ctr p c i hc hi := (g.ctr p c i hc hi).trans (h.ctr p c i hc hi)

theorem State.Raised.ite {s t u : State} {c : Prop} [Decidable c] (h : s.Raised t) (g : s.Raised u) :
    s.Raised (if c then t else u) := by
  split
  · exact h
  · exact g

theorem State.raised_setCtr (s : State) (p : Nat) {c : Ctr} {i : Nat} (v : Nat) (hc : c ∈ evtCtrs) (hi : i < 2 ^ 26) :
    s.Raised (s.setCtr p c i v) where
  rd _ _ _ _ := rfl
  told _ _ h := h
  ctr _ _ _ hd hj := s.ctrAt_setCtr_other v hi hj fun e => hd (e ▸ hc)

theorem State.raised_bumpW (s : State) (p : Nat) {c : Ctr} {i : Nat} (n : Nat) (hc : c ∈ evtCtrs) (hi : i < 2 ^ 26) :
    s.Raised (s.bumpW p c i n) := s.raised_setCtr _ _ hc hi

theorem State.raised_enqueueRecord (s : State) (r : EvRec) : s.Raised (s.enqueueRecord r) := by
  unfold State.enqueueRecord
  extract_lets _ _ u
  have hu : s.Raised u := .ite (s.raised_bumpW _ _ (by decide) (by decide)) (.refl s)
  exact .ite (hu.trans (u.raised_bumpW _ _ (by decide) (by decide)))
    (.ite hu (.ite (hu.trans (.of_eq rfl rfl)) (hu.trans (.of_eq rfl rfl))))

theorem State.raised_logRecord (s : State) (r : EvRec) : s.Raised (s.logRecord r) := by
  refine .ite (.refl s) ?_
  extract_lets u
  have hu : s.Raised u :=
    (State.Raised.of_eq rfl rfl : s.Raised (s.logPut r)).trans (State.raised_bumpW _ _ _ (by decide) (by decide))
  exact .ite (hu.trans (u.raised_setCtr _ _ (by decide) (by decide))) hu

theorem State.raised_withEv (s : State) (e : EvSt) : s.Raised { s with ev := e } := .of_eq rfl rfl

theorem State.raised_record (s : State) (r : EvRec) : s.Raised (s.record r) :=
  .ite ((s.raised_bumpW _ _ (by decide) (by decide)).trans (.of_eq rfl rfl))
    (((s.raised_withEv _).trans (State.raised_logRecord _ r)).trans (State.raised_enqueueRecord _ r))

theorem State.raised_memError (s : State) (e : Event) : s.Raised (s.memError e) := .ite (.of_eq rfl rfl) (.refl s)

/-- `EVT_STATUS` of the page gains the event's bit. -/
theorem State.rd_markEvent (s : State) (p code : Nat) :
    (s.markEvent p code).rd p Reg.evtStatus =
      s.rd p Reg.evtStatus ||| fmask (evBit (code % 256)) (evBit (code % 256)) := by
  simp [State.markEvent]

theorem State.rd_markEvent_other (s : State) {p q o : Nat} (code : Nat) (ho : o < 65536)
    (h : q ≠ p ∨ (o ≠ Reg.evtStatus ∧ o ≠ Reg.evtFirst)) : (s.markEvent p code).rd q o = s.rd q o := by
  have h1 : q ≠ p ∨ o ≠ Reg.evtStatus := h.imp_right And.left
  have h2 : q ≠ p ∨ o ≠ Reg.evtFirst := h.imp_right And.right
  unfold State.markEvent
  extract_lets st u
  rw [State.rd_wr_other _ _ (by decide) ho h1]
  by_cases hz : st = 0
  · simp only [u, hz, if_true]; exact State.rd_wfld_other _ _ _ _ (by decide) ho h2
  · simp only [u, hz, if_false]

theorem State.rd_markEvent_free (s : State) (p q code : Nat) {o : Nat} (h1 : o % 65536 ≠ Reg.evtStatus)
    (h2 : o % 65536 ≠ Reg.evtFirst) : (s.markEvent p code).rd q o = s.rd q o := by
  have hk (n : Nat) (hn : n < 65536) (hne : o % 65536 ≠ n) : rkey q o ≠ rkey p n := by unfold rkey; omega
  unfold State.markEvent
  extract_lets st u
  rw [State.rd_wr_ne _ _ (hk _ (by decide) h1)]
  by_cases hz : st = 0
  · simp only [u, hz, if_true]; exact State.rd_wr_ne _ _ (hk _ (by decide) h2)
  · simp only [u, hz, if_false]

theorem State.raised_markEvent (s : State) (p code : Nat) : s.Raised (s.markEvent p code) where
  rd q o h1 h2 := s.rd_markEvent_free p q code h1 h2
  told q i h := by
    by_cases hq : q = p
    · subst hq
      rw [State.rb, State.rd_markEvent, bit, BitVec.getLsbD_or]
      exact Bool.or_eq_true_iff.2 (.inl h)
    · rwa [State.rb, State.rd_markEvent_other _ _ (by decide) (.inl hq)]
  ctr q c i _ _ := by
    unfold State.markEvent
    extract_lets st u
    by_cases hz : st = 0
    · simp only [u, hz, if_true]; rfl
    · simp only [u, hz, if_false]; rfl

/-- The event's bit of `EVT_STATUS` is set. -/
theorem State.told_markEvent (s : State) (p code : Nat) :
    (s.markEvent p code).rb p Reg.evtStatus (evBit (code % 256)) = true := by
  have hb : evBit (code % 256) < 32 := by unfold evBit; split <;> omega
  rw [State.rb, State.rd_markEvent, bit, BitVec.getLsbD_or, getLsbD_fmask]
  simp [hb]

theorem State.raised_raiseOnce (s : State) (p : Nat) (e : Event) (a b : Nat) (f : Bool) : s.Raised (s.raiseOnce p e a b f) ∧
    (s.raiseOnce p e a b f).Told p e := by
  unfold State.raiseOnce
  extract_lets u code v
  have hu : s.Raised u := .ite (.refl s) (s.raised_memError e)
  have hv : s.Raised v := hu.trans (u.raised_markEvent p code)
  have ht : v.rb p Reg.evtStatus (evBit (code % 256)) = true := u.told_markEvent p code
  split
  · exact ⟨hv.trans (v.raised_record _), (v.raised_record _).told p _ ht⟩
  · exact ⟨hv, ht⟩

theorem State.raised_raiseWith (s : State) (p : Nat) (e : Event) (a b : Nat) (f : Bool) : s.Raised (s.raiseWith p e a b f) ∧
    (s.raiseWith p e a b f).Told p e := by
  obtain ⟨h, ht⟩ := s.raised_raiseOnce p e a b f
  unfold State.raiseWith
  extract_lets u
  have hu := (u.raised_raiseOnce 2 .pageSat (Ctr.qzmLogLost).offset 0 false).1
  split
  · exact ⟨h.trans hu, hu.told p _ ht⟩
  · exact ⟨h, ht⟩

theorem State.raised_diverge (s : State) (cause ty : Nat) : s.Raised (s.diverge cause ty) := by
  refine .ite ?_ (.refl s)
  extract_lets n u v w
  have hv : s.Raised v := (State.Raised.of_eq rfl rfl : s.Raised u).trans (u.raised_setCtr _ _ (by decide) (by decide))
  have hw : s.Raised w := .ite (hv.trans (v.raised_raiseWith ..).1) hv
  exact hw.trans (w.raised_raiseWith ..).1

/-- An event. -/
theorem State.raised_raise (s : State) (p : Nat) (e : Event) (a b : Nat) : s.Raised (s.raise p e a b) := by
  have h := (s.raised_raiseWith p e a b false).1
  exact .ite (h.trans (State.raised_diverge ..)) h

/-- The page shows the event that it raised. -/
theorem State.told_raise (s : State) (p : Nat) (e : Event) (a b : Nat) : (s.raise p e a b).Told p e := by
  have ht := (s.raised_raiseWith p e a b false).2
  unfold State.raise
  extract_lets u
  split
  · exact (u.raised_diverge ..).told p _ ht
  · exact ht

/-- A count leaves the registers but those of events, and other counters. -/
theorem State.bumpAt_other (s : State) (p : Nat) (c : Ctr) (i n o : Nat) (hi : i < 2 ^ 26) :
    (∀ q x, x % 65536 ≠ Reg.evtStatus → x % 65536 ≠ Reg.evtFirst → (s.bumpAt p c i n o).rd q x = s.rd q x) ∧
      (∀ q d j, d ∉ evtCtrs → d ≠ c → j < 2 ^ 26 → (s.bumpAt p c i n o).ctrAt q d j = s.ctrAt q d j) := by
  have hset (v : Nat) : (∀ q x, (s.setCtr p c i v).rd q x = s.rd q x) ∧
      (∀ q d j, d ≠ c → j < 2 ^ 26 → (s.setCtr p c i v).ctrAt q d j = s.ctrAt q d j) :=
    ⟨fun _ _ => rfl, fun _ _ _ hd hj => s.ctrAt_setCtr_other v hi hj hd⟩
  unfold State.bumpAt
  split
  · exact ⟨fun q x _ _ => (hset _).1 q x, fun q d j _ hd hj => (hset _).2 q d j hd hj⟩
  · extract_lets v v' u
    split
    · have h := u.raised_raise p .pageSat o (if o ≥ 0x8000 then i else 0)
      exact ⟨fun q x h1 h2 => (h.rd q x h1 h2).trans ((hset _).1 q x),
        fun q d j he hd hj => (h.ctr q d j he hj).trans ((hset _).2 q d j hd hj)⟩
    · exact ⟨fun q x _ _ => (hset _).1 q x, fun q d j _ hd hj => (hset _).2 q d j hd hj⟩

/-- A counter of class S counts up to its largest value. -/
theorem State.ctrAt_bump (s : State) (p : Nat) {c : Ctr} (hs : c.cls = .s) (he : c ∉ evtCtrs) :
    (s.bump p c).ctrAt p c 0 = min (s.ctrAt p c 0 + 1) (2 ^ 32 - 1) := by
  unfold State.bump State.bumpAt
  rw [hs]
  dsimp only
  split
  · rw [(State.raised_raise ..).ctr _ _ _ he (by decide), State.ctrAt_setCtr]; rfl
  · rw [State.ctrAt_setCtr]; rfl

end Sys2Proof.Machine
end

section
/-!
SUPPORT. The clock: what the passing of time leaves, and what the controls of the wale generator and of the servo do.
-/

namespace Sys2Proof.Machine

/-! ## The passing of time -/

theorem State.passWales_clk (s : State) (n : Nat) : (s.passWales n).clk = s.clk := by
  unfold State.passWales
  extract_lets u
  split <;> rfl

theorem State.idleWale_clk (s : State) (w : Nat) : (s.idleWale w).clk = s.clk := by
  unfold State.idleWale
  split <;> rfl

theorem State.moveClock_clk (s : State) (loc : Nat) : (s.moveClock loc).clk = { s.clk with loc := loc % clockWrap } := by
  simp only [State.moveClock, State.idleWale_clk, State.passWales_clk]

theorem State.advance_clk (s : State) (k : Nat) : (s.advance k).clk =
    { s.clk with tru := s.clk.tru + k, loc := if s.qz.mainOk then (s.clk.loc + k * s.rate) % clockWrap else s.clk.loc } := by
  unfold State.advance
  by_cases h : s.qz.mainOk
  · simp only [h, if_true, State.moveClock_clk]
    rfl
  · simp [h]

/-- The passing of time leaves the clock's other fields. -/
theorem State.advanceTo_clk (s : State) (t : Nat) :
    (s.advanceTo t).clk = { s.clk with tru := (s.advanceTo t).clk.tru, loc := (s.advanceTo t).clk.loc } := by
  unfold State.advanceTo
  split
  · rfl
  · rw [State.advance_clk]

/-- The register and the parts that the passing of time changes. -/
def timeRegs : List (Nat × Nat) := [(tmuPage, Reg.tmuHoldWales)]
def timeParts : List Part := [.clk, .tmu, .reg, .ev, .drc]

section
variable {rs : List (Nat × Nat)} {ps : List Part} {s t : State}

theorem State.Frame.passWales (h : State.Frame rs ps s t) (n : Nat) (hr : (tmuPage, Reg.tmuHoldWales) ∈ rs)
    (h1 : .tmu ∈ ps) (h2 : .reg ∈ ps) : State.Frame rs ps s (t.passWales n) := by
  unfold State.passWales
  extract_lets _ u
  have hu : State.Frame rs ps s u := h.parts rfl (t.only_withTmu _) (by simpa using h1)
  exact .ite (hu.wr _ (by decide) hr h2) hu

theorem State.only_idle (s : State) (e : EvSt) (k : TmuSt) (d : DrcSt) :
    s.Only { s with ev := e, tmu := k, drc := d } [.ev, .tmu, .drc] := by
  intro x hx
  cases x <;> simp [Part.same] at hx ⊢

theorem State.Frame.idleWale (h : State.Frame rs ps s t) (w : Nat) (hp : ∀ x ∈ [Part.ev, .tmu, .drc], x ∈ ps) :
    State.Frame rs ps s (t.idleWale w) := .ite (h.parts rfl (t.only_idle _ _ _) hp) h

theorem State.Frame.withClk (h : State.Frame rs ps s t) (k : Clk) (hp : .clk ∈ ps) :
    State.Frame rs ps s { t with clk := k } := h.parts rfl (t.only_withClk k) (by simpa using hp)

theorem State.Frame.moveClock (h : State.Frame rs ps s t) (loc : Nat) (hr : (tmuPage, Reg.tmuHoldWales) ∈ rs)
    (hp : ∀ x ∈ timeParts, x ∈ ps) : State.Frame rs ps s (t.moveClock loc) :=
  ((h.withClk _ (hp _ (by decide))).passWales _ hr (hp _ (by decide)) (hp _ (by decide))).idleWale _
    fun _ hx => hp _ ((by decide : ∀ x ∈ [Part.ev, .tmu, .drc], x ∈ timeParts) _ hx)

theorem State.Frame.advance (h : State.Frame rs ps s t) (k : Nat) (hr : (tmuPage, Reg.tmuHoldWales) ∈ rs)
    (hp : ∀ x ∈ timeParts, x ∈ ps) : State.Frame rs ps s (t.advance k) := by
  unfold State.advance
  extract_lets _ u
  have hu : State.Frame rs ps s u := h.withClk _ (hp _ (by decide))
  exact .ite (hu.moveClock _ hr hp) hu

theorem State.Frame.advanceTo (h : State.Frame rs ps s t) (k : Nat) (hr : (tmuPage, Reg.tmuHoldWales) ∈ rs)
    (hp : ∀ x ∈ timeParts, x ∈ ps) : State.Frame rs ps s (t.advanceTo k) := .ite h (h.advance _ hr hp)

/-! ## What a frame says of the generator -/

theorem State.Frame.rd (h : State.Frame rs ps s t) {p o : Nat} (ho : o < 65536) (hl : (p, o) ∉ rs) (hn : o ∉ noteOffs) :
    t.rd p o = s.rd p o := h.regs p o ho hl hn

theorem State.Frame.genState (h : State.Frame rs ps s t) (hl : (tmuPage, Reg.tmuWaleCtl) ∉ rs) : t.genState = s.genState :=
  congrArg (fld · 5 4) (h.rd (by decide) hl (by decide))

theorem State.Frame.gridPhase (h : State.Frame rs ps s t) (hl : (tmuPage, Reg.tmuGridPhase) ∉ rs) :
    t.gridPhase = s.gridPhase :=
  congrArg (fld · 21 0) (h.rd (by decide) hl (by decide))

theorem State.Frame.boundary (h : State.Frame rs ps s t) (hl : (tmuPage, Reg.tmuGridPhase) ∉ rs) (w : Nat) :
    t.boundary w = s.boundary w := congrArg (w * 2500000 + ·) (h.gridPhase hl)

end
end Sys2Proof.Machine
end

section
open Sys2Proof Sys2Proof.Machine

/-- Settles O53: a step is `exec` by its definition, and an idle step is `State.advance` of one nanosecond. -/
theorem stepTakesFront : Obligations.StepTakesFront := by
  refine ⟨fun _ _ _ => rfl, fun s hs => ⟨s.advance 1, by simp [step, hs], ?_⟩⟩
  have hf : State.Frame timeRegs timeParts s (s.advance 1) := (State.Frame.refl s).advance 1 (by decide) (by decide)
  have hclk := s.advance_clk 1
  refine ⟨(hf.only .pending (by decide)).trans hs, by rw [hclk], ?_, hf.regs, hf.only.mono (by decide)⟩
  rw [hclk]
  simp
end

section
/-!
SUPPORT. The controls of the wale generator and of the clock: grid phase, RUN, SET, STEP, the frequency and the servo.
-/

namespace Sys2Proof.Machine

/-! ## The grid phase -/

/-- Nothing holds back a write that is being applied. -/
theorem State.Opens.during {s : State} {src : Src} {p o : Nat} (h : s.Opens src p o) (l : List (Nat × Nat × Word)) :
    (s.during l true).Opens src p o where
  reaches := h.reaches
  assigned := h.assigned
  granted := h.granted
  shown := h.shown
  taken := by simp [State.during]

theorem State.gridPhaseWrite_ignored {s : State} {src : Src} (h : s.Opens src tmuPage Reg.tmuGridPhase)
    (hg : s.genState ≠ 0) (v : Word) :
    execGridPhaseWrite src v s = .next (s.raise tmuPage .tmuPhaseIgnored (fld v 21 0) s.wale) := by
  simp [execGridPhaseWrite, State.access_local h (by decide), hg]

/-- What is said of an ignored write of the grid phase (R31). -/
structure State.PhaseKept (s t : State) : Prop where
  phase : t.rd tmuPage Reg.tmuGridPhase = s.rd tmuPage Reg.tmuGridPhase
  told : t.Told tmuPage .tmuPhaseIgnored
  frame : State.Frame [] noted s t

theorem State.phaseKept_raise (s : State) (a b : Nat) : s.PhaseKept (s.raise tmuPage .tmuPhaseIgnored a b) where
  phase := (s.noted_raise ..).rd _ _ (by decide)
  told := s.told_raise ..
  frame := (State.Frame.refl s).raise _ _ _ _ fun _ h => h

/-- The register write of the grid phase has the effect of the command, between two notes of Pairing. -/
theorem State.regWrite_gridPhase {s : State} {src : Src} (h : s.Opens src tmuPage Reg.tmuGridPhase) (hg : s.genState ≠ 0)
    (v : Word) : ∃ l, s.regWrite src tmuPage Reg.tmuGridPhase v =
      ((s.during l true).raise tmuPage .tmuPhaseIgnored (fld v 21 0) s.wale).setPrg
        fun g => { g with applying := s.prg.applying } := by
  obtain ⟨l, e⟩ := State.regWrite_opens h v
  obtain ⟨r, hr, hro⟩ : ∃ r, findReg tmuPage Reg.tmuGridPhase = some r ∧ (r.fields.all fun f => f.acc = .ro) = false :=
    ⟨_, rfl, rfl⟩
  have hw := State.gridPhaseWrite_ignored (h.during l) (show (s.during l true).genState ≠ 0 from hg) v
  have key : (s.during l true).regApply src tmuPage Reg.tmuGridPhase v =
      (s.during l true).raise tmuPage .tmuPhaseIgnored (fld v 21 0) s.wale := by
    have hk : keptWhileOn tmuPage Reg.tmuGridPhase = false := by decide
    refine State.regApply_eq hr (by simp [State.readOnly, hro]) (by simp [hk]) ?_
      ((State.raised_raise ..).rd _ _ (by decide) (by decide))
    change (s.during l true).tmuWrite src Reg.tmuGridPhase v = _
    have hq : tmuQzRegs.contains Reg.tmuGridPhase = false := by decide
    rw [State.tmuWrite, hq, Bool.false_and, if_neg Bool.false_ne_true, if_neg (by decide), if_pos rfl, State.after, hw]
    rfl
  exact ⟨l, by rw [e, key]⟩

/-- R31: a write of the grid phase while the generator is not STOPPED, by either command. -/
theorem State.gridPhase_kept {s : State} {src : Src} {v : Word} {c : Instr} (h : s.Opens src tmuPage Reg.tmuGridPhase)
    (hg : s.genState ≠ 0) (hc : c = .gridPhaseWrite src v ∨ c = .regWrite src tmuPage Reg.tmuGridPhase v) :
    Answers c s s.PhaseKept := by
  rcases hc with rfl | rfl
  · exact ⟨_, State.gridPhaseWrite_ignored h hg v, s.phaseKept_raise _ _⟩
  · obtain ⟨l, e⟩ := State.regWrite_gridPhase h hg v
    refine ⟨_, rfl, ?_⟩
    rw [e]
    obtain ⟨hp, ht, hf⟩ := (s.during l true).phaseKept_raise (fld v 21 0) s.wale
    have hs : State.Frame [] noted s (s.during l true) := (State.Frame.refl s).parts rfl (s.only_setPrg _) (by decide)
    exact ⟨hp, ht, (hs.trans hf).parts rfl (State.only_setPrg _ _) (by decide)⟩

end Sys2Proof.Machine
end

section
open Sys2Proof Sys2Proof.Machine

/-- Settles O59: R31, for the command and for the register write that comes to it. -/
theorem gridPhaseIsFixedWhileRunning : Obligations.GridPhaseIsFixedWhileRunning := by
  intro s src v c h hg hc
  obtain ⟨t, e, hp, ht, hf⟩ := State.gridPhase_kept h hg hc
  exact ⟨t, e, hp, ht, hf.boundary (by decide), hf.regs, hf.only⟩
end

section
/-!
SUPPORT. The local clock and its servo: SET, STEP, the frequency and LOCKED (R38, R547 to R550, R553).
-/

namespace Sys2Proof.Machine

section
variable {rs : List (Nat × Nat)} {ps : List Part} {s t : State}

theorem State.Frame.seqUp {p o : Nat} (h : State.Frame rs ps s t) (ho : o < 65536) (hr : (p, o) ∈ rs) (hp : .reg ∈ ps) :
    State.Frame rs ps s (t.seqUp p o) := h.wfld _ _ _ ho hr hp

theorem State.Frame.wr64 {p lo hi : Nat} (h : State.Frame rs ps s t) (v : Nat) (hlo : lo < 65536) (hhi : hi < 65536)
    (hr : (p, lo) ∈ rs) (hr' : (p, hi) ∈ rs) (hp : .reg ∈ ps) : State.Frame rs ps s (t.wr64 p lo hi v) :=
  (h.wr _ hlo hr hp).wr _ hhi hr' hp

theorem State.Frame.adjResult (h : State.Frame rs ps s t) (st : Nat) (hr : (tmuPage, Reg.tmuAdjRes) ∈ rs) (hp : .reg ∈ ps) :
    State.Frame rs ps s (t.adjResult st) := (h.wfld _ _ _ (by decide) hr hp).seqUp (by decide) hr hp

theorem State.Frame.servoState (h : State.Frame rs ps s t) (st : Nat) (h1 : (tmuPage, Reg.tmuStatus) ∈ rs)
    (h2 : (tmuPage, Reg.tmuHoldWales) ∈ rs) (hp : .reg ∈ ps) : State.Frame rs ps s (t.servoState st) :=
  (h.wfld _ _ _ (by decide) h1 hp).wr _ (by decide) h2 hp

theorem State.Frame.servoSilence (h : State.Frame rs ps s t) (h1 : (tmuPage, Reg.tmuStatus) ∈ rs)
    (h2 : (tmuPage, Reg.tmuHoldWales) ∈ rs) (hp : ∀ x ∈ Machine.noted, x ∈ ps) : State.Frame rs ps s t.servoSilence :=
  .ite ((h.servoState 2 h1 h2 (hp _ (by decide))).raise _ _ _ _ hp) h
end

/-! ## Results and states -/

/-- The status of an adjustment's result. -/
theorem State.rf_adjResult (s : State) (st : Nat) : (s.adjResult st).rf tmuPage Reg.tmuAdjRes 3 0 = st % 16 := by
  rw [State.adjResult, State.seqUp, State.rf, State.rd_wfld_same, fld_withFld_other _ _ (by decide), State.rd_wfld_same,
    fld_withFld _ _ (by decide) (by decide)]
  rfl

theorem State.rd_adjResult_other (s : State) (st : Nat) {p o : Nat} (ho : o < 65536) (h : p ≠ tmuPage ∨ o ≠ Reg.tmuAdjRes) :
    (s.adjResult st).rd p o = s.rd p o := by
  rw [State.adjResult, State.seqUp, State.rd_wfld_other _ _ _ _ (by decide) ho h, State.rd_wfld_other _ _ _ _ (by decide) ho h]

theorem State.rf_servoState (s : State) (st : Nat) : (s.servoState st).rf tmuPage Reg.tmuStatus 1 0 = st % 4 := by
  rw [State.servoState, State.rf, State.rd_wr_other _ _ (by decide) (by decide) (by decide), State.rd_wfld_same,
    fld_withFld _ _ (by decide) (by decide)]
  rfl

theorem State.rd_servoState_holdWales (s : State) (st : Nat) : (s.servoState st).rd tmuPage Reg.tmuHoldWales = 0 :=
  State.rd_wr_same ..

theorem State.rb_servoState (s : State) (st : Nat) {i : Nat} (hi : 1 < i) :
    (s.servoState st).rb tmuPage Reg.tmuStatus i = s.rb tmuPage Reg.tmuStatus i := by
  rw [State.servoState, State.rb, State.rd_wr_other _ _ (by decide) (by decide) (by decide), State.rd_wfld_same,
    bit_withFld_other _ _ (.inr hi)]
  rfl

/-- What a register that no event writes reads after an event. -/
theorem State.rd_raise (s : State) (p q o : Nat) (e : Event) (a b : Nat) (ho : o % 65536 ∉ noteOffs) :
    (s.raise p e a b).rd q o = s.rd q o := (s.noted_raise ..).rd q o ho

/-! ## SET -/

/-- The registers and the parts that SET changes. -/
def setRegs : List (Nat × Nat) :=
  [(tmuPage, Reg.tmuAdjCtl), (tmuPage, Reg.tmuAdjRes), (tmuPage, Reg.tmuStatus), (tmuPage, Reg.tmuHoldWales),
    (tmuPage, Reg.tmuServo)]

/-- What a taken SET leaves (R549). -/
structure State.ClockSet (s t : State) : Prop where
  loc : t.clk.loc = (s.rd64 tmuPage Reg.tmuSetSec Reg.tmuSetSecHi % 2 ^ 48 * 1000000000 + s.rf tmuPage Reg.tmuSetNs 29 0) *
    unitsPerNs
  result : t.rf tmuPage Reg.tmuAdjRes 3 0 = 0
  valid : t.rb tmuPage Reg.tmuStatus 4 = true
  freerun : t.rf tmuPage Reg.tmuStatus 1 0 = 0
  frame : State.Frame setRegs (.clk :: .tmu :: .drc :: noted) s t

theorem State.clockSet_adjSet {s : State} (hg : s.genState = 0) (hns : s.rf tmuPage Reg.tmuSetNs 29 0 < 1000000000) :
    s.ClockSet s.adjSet := by
  have hf0 : State.Frame setRegs (.clk :: .tmu :: .drc :: noted) s (s.wfld tmuPage Reg.tmuAdjCtl 1 0 1) :=
    (State.Frame.refl s).wfld _ _ _ (by decide) (by decide) (by decide)
  unfold State.adjSet
  extract_lets s0 ns sec w0 _ s1 s2
  have hns' : ns = s.rf tmuPage Reg.tmuSetNs 29 0 :=
    congrArg (fld · 29 0) (hf0.rd (by decide) (by decide) (by decide))
  have hsec : sec = s.rd64 tmuPage Reg.tmuSetSec Reg.tmuSetSecHi % 2 ^ 48 := by
    simp only [sec, State.rd64, hf0.rd (p := tmuPage) (o := Reg.tmuSetSec) (by decide) (by decide) (by decide),
      hf0.rd (p := tmuPage) (o := Reg.tmuSetSecHi) (by decide) (by decide) (by decide), s0]
  rw [if_neg (by rw [hf0.genState (by decide), hg]; decide), if_neg (by omega)]
  have h1 : s1.clk.loc = (sec * 1000000000 + ns) * unitsPerNs := by simp only [s1, State.idleWale_clk]
  have hf2 : State.Frame setRegs (.clk :: .tmu :: .drc :: noted) s s2 :=
    ((((hf0.withClk _ (by decide)).idleWale w0 (by decide)).wfld 4 4 1 (by decide) (by decide) (by decide)).servoState 0
      (by decide) (by decide) (by decide)).wfld 0 0 0 (by decide) (by decide) (by decide)
  have hst : s2.rd tmuPage Reg.tmuStatus = ((s1.wfld tmuPage Reg.tmuStatus 4 4 1).servoState 0).rd tmuPage Reg.tmuStatus :=
    State.rd_wfld_other _ _ _ _ (by decide) (by decide) (by decide)
  have hr (o : Nat) (ho : o < 65536) (hn : o % 65536 ∉ noteOffs) (h : o ≠ Reg.tmuAdjRes) :
      ((s2.adjResult 0).raise tmuPage .tmuClockSet sec 0).rd tmuPage o = s2.rd tmuPage o :=
    (State.rd_raise _ _ _ _ _ _ _ hn).trans (s2.rd_adjResult_other 0 ho (.inr h))
  refine ⟨?_, ?_, ?_, ?_, (hf2.adjResult 0 (by decide) (by decide)).raise _ _ _ _ (by decide)⟩
  · rw [(State.noted_raise ..).clk, ← hns', ← hsec]
    exact h1
  · rw [State.rf, State.rd_raise _ _ _ _ _ _ _ (by decide)]
    exact s2.rf_adjResult 0
  · rw [State.rb, hr _ (by decide) (by decide) (by decide), hst]
    refine (State.rb_servoState _ _ (by decide)).trans ?_
    rw [State.rb, State.rd_wfld_same, fmask_bits _ (by decide)]
    rfl
  · rw [State.rf, hr _ (by decide) (by decide) (by decide), hst]
    exact State.rf_servoState _ 0

/-- SET while the generator runs is refused (R549). -/
theorem State.adjSet_running {s : State} (hg : s.genState ≠ 0) :
    s.adjSet = (s.wfld tmuPage Reg.tmuAdjCtl 1 0 1).adjResult 2 := by
  have hg' : (s.wfld tmuPage Reg.tmuAdjCtl 1 0 1).genState ≠ 0 := by
    rwa [State.genState, State.rf, State.rd_wfld_other _ _ _ _ (by decide) (by decide) (by decide)]
  simp only [State.adjSet, if_pos hg']

/-! ## STEP -/

/-- The registers that a STEP that is taken changes, and those of one that is refused. -/
def stepRegs : List (Nat × Nat) := [(tmuPage, Reg.tmuAdjCtl), (tmuPage, Reg.tmuAdjRes), (tmuPage, Reg.tmuHoldWales)]
def refuseRegs : List (Nat × Nat) := [(tmuPage, Reg.tmuAdjCtl), (tmuPage, Reg.tmuAdjRes), (tmuPage, Reg.tmuStatus)]

/-- A STEP that the threshold allows, up to the strobe that may follow it (R549). -/
structure State.ClockStepped (s t : State) : Prop where
  loc : t.clk.loc =
    ((s.clk.loc : Int) + (s.rd tmuPage Reg.tmuStep).toInt * unitsPerNs + clockWrap).toNat % clockWrap
  result : t.rf tmuPage Reg.tmuAdjRes 3 0 = 0
  frame : State.Frame stepRegs (.clk :: .tmu :: .drc :: noted) s t

theorem State.rd_adjCtl_other (s : State) (v : Nat) {o : Nat} (ho : o < 65536) (h : o ≠ Reg.tmuAdjCtl) :
    (s.wfld tmuPage Reg.tmuAdjCtl 1 0 v).rd tmuPage o = s.rd tmuPage o :=
  s.rd_wfld_other _ _ _ (by decide) ho (.inr h)

theorem State.clockStepped_adjStep {s : State} (h0 : s.rf tmuPage Reg.tmuJumpThr 16 0 ≠ 0)
    (hle : (s.rd tmuPage Reg.tmuStep).toInt.natAbs ≤ s.rf tmuPage Reg.tmuJumpThr 16 0) : s.ClockStepped s.adjStep := by
  have hf0 : State.Frame stepRegs (.clk :: .tmu :: .drc :: noted) s (s.wfld tmuPage Reg.tmuAdjCtl 1 0 2) :=
    (State.Frame.refl s).wfld _ _ _ (by decide) (by decide) (by decide)
  unfold State.adjStep
  extract_lets s0 step thr s1
  have hstep : step = s.rd tmuPage Reg.tmuStep := s.rd_adjCtl_other 2 (by decide) (by decide)
  have hthr : thr = s.rf tmuPage Reg.tmuJumpThr 16 0 :=
    congrArg (fld · 16 0) (s.rd_adjCtl_other 2 (by decide) (by decide))
  rw [if_neg (by rw [hthr, hstep]; omega)]
  have hf1 : State.Frame stepRegs (.clk :: .tmu :: .drc :: noted) s s1 := hf0.moveClock _ (by decide) (by decide)
  refine ⟨?_, ?_, ((hf1.adjResult 0 (by decide) (by decide)).bump _ _ (by decide)).raise _ _ _ _ (by decide)⟩
  · rw [(State.noted_raise ..).clk, (State.noted_bump ..).clk, ← hstep]
    exact congrArg Clk.loc (s0.moveClock_clk _)
  · rw [State.rf, State.rd_raise _ _ _ _ _ _ _ (by decide), (State.noted_bump ..).rd _ _ (by decide)]
    exact s1.rf_adjResult 0

/-- The strobe that follows a STEP forward (R38). -/
theorem State.ClockStepped.stepStrobe {s t : State} (h : s.ClockStepped t) :
    t.stepStrobe = if 0 < (s.rd tmuPage Reg.tmuStep).toInt then t.strobeDue else t := by
  rw [State.stepStrobe, h.result, h.frame.rd (by decide) (by decide) (by decide)]
  simp

/-- What a STEP that the threshold refuses leaves (R549, R550). -/
structure State.StepRefused (s t : State) : Prop where
  result : t.rf tmuPage Reg.tmuAdjRes 3 0 = 1
  shown : t.rb tmuPage Reg.tmuStatus 2 = true
  frame : State.Frame refuseRegs noted s t

theorem State.stepRefused_adjStep {s : State} (h : s.rf tmuPage Reg.tmuJumpThr 16 0 = 0 ∨
    s.rf tmuPage Reg.tmuJumpThr 16 0 < (s.rd tmuPage Reg.tmuStep).toInt.natAbs) : s.StepRefused s.adjStep := by
  have hf0 : State.Frame refuseRegs noted s (s.wfld tmuPage Reg.tmuAdjCtl 1 0 2) :=
    (State.Frame.refl s).wfld _ _ _ (by decide) (by decide) (by decide)
  unfold State.adjStep
  extract_lets s0 step thr
  have hstep : step = s.rd tmuPage Reg.tmuStep := s.rd_adjCtl_other 2 (by decide) (by decide)
  have hthr : thr = s.rf tmuPage Reg.tmuJumpThr 16 0 :=
    congrArg (fld · 16 0) (s.rd_adjCtl_other 2 (by decide) (by decide))
  rw [if_pos (by rwa [hthr, hstep])]
  refine ⟨?_, ?_, (((hf0.adjResult 1 (by decide) (by decide)).wfld _ _ _ (by decide) (by decide) (by decide)).bump _ _
    (by decide)).raise _ _ _ _ (by decide)⟩
  · rw [State.rf, State.rd_raise _ _ _ _ _ _ _ (by decide), (State.noted_bump ..).rd _ _ (by decide),
      State.rd_wfld_other _ _ _ _ (by decide) (by decide) (by decide)]
    exact s0.rf_adjResult 1
  · rw [State.rb, State.rd_raise _ _ _ _ _ _ _ (by decide), (State.noted_bump ..).rd _ _ (by decide), State.rd_wfld_same,
      fmask_bits _ (by decide)]
    rfl

/-- No strobe follows a STEP that is refused. -/
theorem State.StepRefused.stepStrobe {s t : State} (h : s.StepRefused t) : t.stepStrobe = t := by
  simp [State.stepStrobe, h.result]

/-! ## The frequency -/

/-- The registers that a write of the frequency changes. -/
def freqRegs : List (Nat × Nat) :=
  [(tmuPage, Reg.tmuFreq), (tmuPage, Reg.tmuFreqAct), (tmuPage, Reg.tmuStatus), (tmuPage, Reg.tmuHoldWales)]

/-- The frequency in force is the value written, clamped (R548). -/
theorem toInt_clampFreq (v : Int) : (BitVec.ofInt 32 (clampFreq v)).toInt = max (-51200000) (min 51200000 v) := by
  rw [BitVec.toInt_ofInt, clampFreq, Int.bmod_eq_of_le] <;> omega

theorem State.servoSilence_tmu (s : State) : s.servoSilence.tmu = s.tmu := by
  unfold State.servoSilence
  split
  · rw [(State.noted_raise ..).tmu]; rfl
  · rfl

/-- What Quizil's write of the frequency leaves (R548, R553). -/
structure State.FreqSet (s : State) (v : Word) (t : State) : Prop where
  written : t.rd tmuPage Reg.tmuFreq = v
  force : (t.rd tmuPage Reg.tmuFreqAct).toInt = max (-51200000) (min 51200000 v.toInt)
  heard : t.tmu = { s.tmu with servoCount := 0 }
  frame : State.Frame freqRegs (.tmu :: noted) s t

/-- The registers of a write of the frequency, before what the clamp counts and raises. -/
def State.freqPut (s : State) (v : Word) : State :=
  (s.servoHeard.wr tmuPage Reg.tmuFreq v).wr tmuPage Reg.tmuFreqAct (BitVec.ofInt 32 (clampFreq v.toInt))

theorem State.freqSet_freqPut (s : State) (v : Word) : s.FreqSet v (s.freqPut v) where
  written := by rw [State.freqPut, State.rd_wr_other _ _ (by decide) (by decide) (by decide), State.rd_wr_same]
  force := by rw [State.freqPut, State.rd_wr_same, toInt_clampFreq]
  heard := by
    rw [State.freqPut, State.wr_tmu, State.wr_tmu]
    exact congrArg (fun t : TmuSt => { t with servoCount := 0 }) s.servoSilence_tmu
  frame := by
    have hs : State.Frame freqRegs (.tmu :: noted) s s.servoSilence :=
      (State.Frame.refl s).servoSilence (by decide) (by decide) (by decide)
    have hh : State.Frame freqRegs (.tmu :: noted) s s.servoHeard := hs.parts rfl (State.only_withTmu _ _) (by decide)
    exact (hh.wr _ (by decide) (by decide) (by decide)).wr _ (by decide) (by decide) (by decide)

theorem State.FreqSet.noted {s t u : State} {v : Word} (h : s.FreqSet v t) (g : t.Noted u) : s.FreqSet v u where
  written := (g.rd _ _ (by decide)).trans h.written
  force := by rw [g.rd _ _ (by decide), h.force]
  heard := g.tmu.trans h.heard
  frame := h.frame.noted g (by decide)

theorem State.freqWrite_qz {s : State} (h : s.Opens .qz tmuPage Reg.tmuFreq) (v : Word) :
    Answers (.freqWrite .qz v) s (s.FreqSet v) := by
  have hf := s.freqSet_freqPut v
  refine ⟨_, rfl, ?_⟩
  rw [State.qzOnly, State.access_local h (by decide), if_pos rfl]
  dsimp only
  split
  · exact hf
  · exact hf.noted ((State.noted_bump ..).trans (State.noted_raise ..))

/-! ## LOCKED and the servo's silence -/

/-- The registers that the servo's declarations change. -/
def servoRegs : List (Nat × Nat) := [(tmuPage, Reg.tmuServo), (tmuPage, Reg.tmuStatus), (tmuPage, Reg.tmuHoldWales)]

/-- The servo's silence leaves its state, or takes LOCKED to HOLDOVER. -/
theorem State.rf_servoSilence (s : State) :
    s.servoSilence.rf tmuPage Reg.tmuStatus 1 0 = s.rf tmuPage Reg.tmuStatus 1 0 ∨
      (s.rf tmuPage Reg.tmuStatus 1 0 = 1 ∧ s.servoSilence.rf tmuPage Reg.tmuStatus 1 0 = 2) := by
  unfold State.servoSilence
  split
  case isTrue h =>
    refine .inr ⟨by simpa using (Bool.and_eq_true_iff.1 h).1, ?_⟩
    rw [State.rf, State.rd_raise _ _ _ _ _ _ _ (by decide)]
    exact s.rf_servoState 2
  case isFalse => exact .inl rfl

/-- What a write of LOCKED leaves (R553). -/
structure State.LockedSet (s : State) (locked : Bool) (t : State) : Prop where
  shown : t.rb tmuPage Reg.tmuServo 0 = locked
  gained : locked = true → t.rf tmuPage Reg.tmuStatus 1 0 = 1
  lost : locked = false → s.rf tmuPage Reg.tmuStatus 1 0 = 1 → t.rf tmuPage Reg.tmuStatus 1 0 = 2
  frame : State.Frame servoRegs noted s t

theorem State.servoLocked_qz {s : State} (h : s.Opens .qz tmuPage Reg.tmuServo) (locked : Bool) :
    Answers (.servoLockedWrite .qz locked) s (s.LockedSet locked) := by
  refine ⟨_, rfl, ?_⟩
  rw [State.qzOnly, State.access_local h (by decide), if_pos rfl]
  extract_lets s1 st s2
  have hst : s2.rf tmuPage Reg.tmuStatus 1 0 = st :=
    congrArg (fld · 1 0) (State.rd_wfld_other _ _ _ _ (by decide) (by decide) (by decide))
  have hb : s2.rb tmuPage Reg.tmuServo 0 = locked := by
    rw [State.rb, State.rd_wfld_same, fmask_bits _ (by decide)]
    cases locked <;> rfl
  have hf : State.Frame servoRegs noted s s2 :=
    ((State.Frame.refl s).servoSilence (by decide) (by decide) (by decide)).wfld _ _ _ (by decide) (by decide) (by decide)
  have turn (k a : Nat) (e : Event) (hk : k < 4) : ((s2.servoState k).raise tmuPage e a 0).rb tmuPage Reg.tmuServo 0 = locked ∧
      ((s2.servoState k).raise tmuPage e a 0).rf tmuPage Reg.tmuStatus 1 0 = k ∧
      State.Frame servoRegs noted s ((s2.servoState k).raise tmuPage e a 0) := by
    refine ⟨?_, ?_, (hf.servoState k (by decide) (by decide) (by decide)).raise _ _ _ _ (by decide)⟩
    · rw [State.rb, State.rd_raise _ _ _ _ _ _ _ (by decide), State.servoState,
        State.rd_wr_other _ _ (by decide) (by decide) (by decide),
        State.rd_wfld_other _ _ _ _ (by decide) (by decide) (by decide)]
      exact hb
    · rw [State.rf, State.rd_raise _ _ _ _ _ _ _ (by decide)]
      exact (s2.rf_servoState k).trans (Nat.mod_eq_of_lt hk)
  cases locked
  case true =>
    by_cases h1 : st = 1
    · rw [if_neg (by simp [h1]), if_neg (by simp)]
      exact ⟨hb, fun _ => hst.trans h1, fun hc => by simp at hc, hf⟩
    · rw [if_pos (by simp [h1])]
      obtain ⟨hb', hst', hf'⟩ := turn 1 0 .tmuLocked (by decide)
      exact ⟨hb', fun _ => hst', fun hc => by simp at hc, hf'⟩
  case false =>
    rw [if_neg (by simp)]
    by_cases h1 : st = 1
    · rw [if_pos (by simp [h1])]
      obtain ⟨hb', hst', hf'⟩ := turn 2 2 .tmuHoldover (by decide)
      exact ⟨hb', fun hc => by simp at hc, fun _ _ => hst', hf'⟩
    · rw [if_neg (by simp [h1])]
      refine ⟨hb, fun hc => by simp at hc, fun _ hs => hst.trans ?_, hf⟩
      rcases s.rf_servoSilence with hsame | ⟨-, htwo⟩
      · exact absurd (hsame.trans hs) h1
      · exact htwo

end Sys2Proof.Machine
end

section
open Sys2Proof Sys2Proof.Machine

/-- Settles O8: R38, R547 to R550, R553, one lemma for each control. -/
theorem clockControl : Obligations.ClockControl := by
  refine ⟨fun s h hg hns => ?_, fun s h hg => ?_, fun s h h0 hle => ?_, fun s w hw => ?_, fun s h hr => ?_, fun s v h => ?_,
    fun s v h => ?_, fun s locked h => ?_, fun s h1 h2 => ?_⟩
  · refine ⟨_, rfl, ?_⟩
    rw [State.qzOnly, State.access_local h (by decide), if_pos rfl]
    obtain ⟨hloc, hres, hval, hfree, hf⟩ := State.clockSet_adjSet hg hns
    exact ⟨hloc, hres, hval, hfree, hf.regs, hf.only⟩
  · refine ⟨_, rfl, ?_⟩
    rw [State.qzOnly, State.access_local h (by decide), if_pos rfl, State.adjSet_running hg]
    have hf : State.Frame [(tmuPage, Reg.tmuAdjCtl), (tmuPage, Reg.tmuAdjRes)] [.reg] s
        ((s.wfld tmuPage Reg.tmuAdjCtl 1 0 1).adjResult 2) :=
      ((State.Frame.refl s).wfld _ _ _ (by decide) (by decide) (by decide)).adjResult _ (by decide) (by decide)
    exact ⟨State.rf_adjResult _ 2, hf.regs, hf.only⟩
  · refine ⟨_, rfl, s.adjStep, ?_⟩
    have hs := State.clockStepped_adjStep h0 hle
    rw [State.qzOnly, State.access_local h (by decide), if_pos rfl]
    exact ⟨hs.loc, hs.result, hs.frame.regs, hs.frame.only, hs.stepStrobe⟩
  · rw [State.strobeDue, hw]
  · refine ⟨_, rfl, ?_⟩
    have hs := State.stepRefused_adjStep hr
    rw [State.qzOnly, State.access_local h (by decide), if_pos rfl, hs.stepStrobe]
    exact ⟨hs.result, hs.shown, hs.frame.regs, hs.frame.only⟩
  · obtain ⟨t, e, hw, hforce, htmu, hf⟩ := State.freqWrite_qz h v
    exact ⟨t, e, hw, hforce, htmu, hf.regs, hf.only⟩
  · refine ⟨_, rfl, ?_⟩
    rw [State.qzOnly, State.access_local h (by decide), if_neg (by decide)]
    exact ⟨(State.noted_accessErr ..).regsBut _, (State.noted_accessErr ..).only⟩
  · obtain ⟨t, e, hb, hg, hl, hf⟩ := State.servoLocked_qz h locked
    exact ⟨t, e, hb, hg, hl, hf.regs, hf.only⟩
  · refine ⟨_, rfl, ?_⟩
    have hf : State.Frame [(tmuPage, Reg.tmuStatus), (tmuPage, Reg.tmuHoldWales)] noted s s.servoSilence :=
      (State.Frame.refl s).servoSilence (by decide) (by decide) (by decide)
    refine ⟨?_, ?_, hf.regs, hf.only⟩
    all_goals rw [State.servoSilence, if_pos (by simp [h1, h2])]
    · rw [State.rf, State.rd_raise _ _ _ _ _ _ _ (by decide)]
      exact s.rf_servoState 2
    · rw [State.rd_raise _ _ _ _ _ _ _ (by decide)]
      exact s.rd_servoState_holdWales 2
end

section
/-!
SUPPORT. A fine tick that refills a leg's shaper (R123, R494): TOK and FRAC stand in the leg's entry of ESC table 2, so the tables do
not stay as they are.
-/

namespace Sys2Proof.Machine

/-- A ceiling lies outside the tables. -/
theorem State.ceilRefill_tbl (s : State) (lane : Nat) : (s.ceilRefill lane).tbl = s.tbl := by
  unfold State.ceilRefill
  extract_lets w
  split <;> rfl

theorem State.ceilRefills_tbl (s : State) (l : List Nat) : (l.foldl (fun s k => s.ceilRefill k) s).tbl = s.tbl := by
  induction l generalizing s with
  | nil => rfl
  | cons k r ih => exact (ih _).trans (s.ceilRefill_tbl k)

/-- At a fine tick the shapers alone write the tables. -/
theorem State.escTick_tbl (s : State) :
    s.escTick.tbl = (((s.tlist 0x048 2 0).map (·.1)).foldl (fun s g => s.refill g) s).tbl := State.ceilRefills_tbl _ _

/-- The instant of the next fine tick (R123). -/
def State.nextTick (s : State) : Nat :=
  if s.clk.fine < s.boundary s.clk.wale then s.boundary s.clk.wale else s.clk.fine + 1000

/-- A fine tick that lies in the wale. -/
theorem execFineTick_due {s : State} (hg : s.genState = 2) (ht : s.nextTick < s.boundary s.clk.wale + 2500000) :
    execFineTick s = .next (State.escTick
      { s.advanceTo s.nextTick with clk := { (s.advanceTo s.nextTick).clk with fine := s.nextTick } }) :=
  congrArg Host.Outcome.next (if_pos (Bool.and_eq_true_iff.2 ⟨decide_eq_true hg, decide_eq_true ht⟩))

/-- The generator runs, the local clock reads 1,000 ns, and leg 0 is shaped with RATE 1 and BURST 1. -/
def shapedTick : State :=
  { clk := { loc := 1000 * unitsPerNs }, reg := [(rkey tmuPage Reg.tmuWaleCtl, 0x20)],
    tbl := [(tkey 0x048 2 0 0, [1, 0x80000001])] }

/-- That state after the tick at 1,000 ns. -/
def shapedTicked : State := State.escTick { shapedTick with clk := { shapedTick.clk with fine := 1000 } }

theorem execFineTick_shapedTick : execFineTick shapedTick = .next shapedTicked := by
  have ht : shapedTick.nextTick = 1000 := by decide
  have ha : shapedTick.advanceTo 1000 = shapedTick := if_pos (by decide)
  rw [execFineTick_due (by decide) (by rw [ht]; decide), ht, ha]
  rfl

/-- FRAC of leg 0 becomes 1. -/
theorem shapedTicked_tbl : shapedTicked.tbl ≠ shapedTick.tbl := by
  rw [shapedTicked, State.escTick_tbl]
  decide

end Sys2Proof.Machine
end

section
open Sys2Proof Sys2Proof.Machine

/-- Refutes O7: its last clause says that a fine tick leaves the tables as they are, but the tick refills the shapers (R494), whose
TOK and FRAC ESC table 2 shows. In `shapedTick` the tick takes FRAC of leg 0 from 0 to 1. -/
theorem not_waleGenerator : ¬ Obligations.WaleGenerator := by
  unfold Obligations.WaleGenerator
  rintro ⟨-, -, -, -, -, -, tick⟩
  obtain ⟨t, e, -, -, -, htbl, -⟩ := tick shapedTick (by decide) (by decide)
  have ht : t = shapedTicked := Host.Outcome.next.inj (e.symm.trans execFineTick_shapedTick)
  rw [ht] at htbl
  exact shapedTicked_tbl htbl
end

section
/-!
SUPPORT. LFW's timeouts, joins and originated packets: what a keyframe request, a replay and a switch leave (R286, R291, R300, R301).
-/

namespace Sys2Proof.Machine

/-! ## Words of table entries -/

theorem dropWhile_reverse_getD (ws : List Word) (j : Nat) :
    ((ws.dropWhile fun w => w == 0).reverse).getD j 0 = (ws.reverse).getD j 0 := by
  induction ws with
  | nil => rfl
  | cons a r ih =>
    by_cases ha : (a == 0) = true
    · have h0 : a = 0 := by simpa using ha
      rw [List.dropWhile_cons_of_pos (by simpa using ha), ih, List.reverse_cons, h0]
      rcases Nat.lt_or_ge j r.reverse.length with hj | hj
      · rw [List.getD_append _ _ _ _ hj]
      · rw [List.getD_append_right _ _ _ _ hj, List.getD_eq_default _ _ hj]
        rcases Nat.eq_zero_or_pos (j - r.reverse.length) with hz | hz
        · rw [hz]; rfl
        · exact (List.getD_eq_default _ _ hz).symm
    · rw [List.dropWhile_cons_of_neg (by simpa using ha)]

/-- Trailing zeros that are left out read 0 all the same. -/
theorem stripWords_getD (ws : List Word) (j : Nat) : (stripWords ws).getD j 0 = ws.getD j 0 := by
  rw [stripWords, dropWhile_reverse_getD, List.reverse_reverse]

theorem setWord_getD_same (ws : List Word) (i : Nat) (w : Word) : (setWord ws i w).getD i 0 = w := by
  have h : i < (ws ++ List.replicate (i + 1 - ws.length) 0).length := by simp; omega
  rw [setWord, List.getD_eq_getElem _ _ (by simpa using h), List.getElem_set_self]

theorem setWord_getD_other (ws : List Word) {i j : Nat} (w : Word) (h : j ≠ i) : (setWord ws i w).getD j 0 = ws.getD j 0 := by
  rw [setWord, List.getD_eq_getElem?_getD, List.getElem?_set_ne h.symm, ← List.getD_eq_getElem?_getD]
  rcases Nat.lt_or_ge j ws.length with hj | hj
  · rw [List.getD_append _ _ _ _ hj]
  · rw [List.getD_append_right _ _ _ _ hj, List.getD_eq_default _ _ hj]
    rcases Nat.lt_or_ge (j - ws.length) (i + 1 - ws.length) with hk | hk
    · rw [List.getD_replicate _ hk]
    · exact List.getD_eq_default _ _ (by simpa using hk)

/-- The word that was written. -/
theorem State.tw_tsetW_same (s : State) (p t b e i : Nat) (w : Word) : (s.tsetW p t b e i w).tw p t b e i = w := by
  rw [State.tw, State.tget, State.tsetW, State.tset_tbl, NMap.get_set_same, stripWords_getD, setWord_getD_same]

/-- Another word of any entry, and any word of another entry, stay. -/
theorem State.tw_tsetW_other (s : State) {p t b e i q u c f j : Nat} (w : Word) (h : j ≠ i ∨ tkey q u c f ≠ tkey p t b e) :
    (s.tsetW p t b e i w).tw q u c f j = s.tw q u c f j := by
  rw [State.tw, State.tget, State.tsetW, State.tset_tbl]
  by_cases hk : tkey q u c f = tkey p t b e
  · have hj : j ≠ i := h.resolve_right fun hn => hn hk
    rw [hk, NMap.get_set_same, stripWords_getD, setWord_getD_other _ _ hj, State.tw, State.tget, State.tget, hk]
  · rw [NMap.get_set_ne _ _ hk]; rfl

theorem State.Noted.tw {s t : State} (h : s.Noted t) (p u b e i : Nat) : t.tw p u b e i = s.tw p u b e i := by
  rw [State.tw, State.tget, h.tbl]; rfl

/-! ## What forwarding leaves of a subscription -/

/-- What keyframe requests, replays and counts leave: the step, the states of the subscriptions (word 0 of every entry), what is still
to be taken, and the copies formed, to which others may be joined. -/
structure State.Forwards (s t : State) : Prop where
  clk : t.clk = s.clk
  word : ∀ n, t.tw lfwPage 1 0 n 0 = s.tw lfwPage 1 0 n 0
  tmoDone : t.lfw.tmoDone = s.lfw.tmoDone
  named : t.lfw.namedPrev = s.lfw.namedPrev
  out : ∃ l, t.lfw.out = s.lfw.out ++ l

theorem State.Forwards.refl (s : State) : s.Forwards s := ⟨rfl, fun _ => rfl, rfl, rfl, [], (List.append_nil _).symm⟩

theorem State.Forwards.trans {s t u : State} (h : s.Forwards t) (g : t.Forwards u) : s.Forwards u := by
  obtain ⟨l, hl⟩ := h.out
  obtain ⟨m, hm⟩ := g.out
  exact ⟨g.clk.trans h.clk, fun n => (g.word n).trans (h.word n), g.tmoDone.trans h.tmoDone, g.named.trans h.named, l ++ m,
    by rw [hm, hl, List.append_assoc]⟩

theorem State.Forwards.subState {s t : State} (h : s.Forwards t) (n : Nat) : t.subState n = s.subState n := by
  rw [State.subState, h.word]; rfl

theorem State.Noted.forwards {s t : State} (h : s.Noted t) : s.Forwards t where
  clk := h.clk
  word _ := h.tw _ _ _ _ _
  tmoDone := by rw [h.lfw]
  named := by rw [h.lfw]
  out := ⟨[], by rw [h.lfw, List.append_nil]⟩

/-- A word other than word 0 of an entry. -/
theorem State.forwards_tsetW (s : State) (p t b e : Nat) {i : Nat} (w : Word) (h : i ≠ 0) : s.Forwards (s.tsetW p t b e i w) where
  clk := rfl
  word _ := s.tw_tsetW_other w (.inl h.symm)
  tmoDone := rfl
  named := rfl
  out := ⟨[], (List.append_nil _).symm⟩

/-- What LFW keeps beside its copies and its marks. -/
theorem State.forwards_setLfw (s : State) (f : LfwSt → LfwSt) {l : List Copy} (h1 : (f s.lfw).tmoDone = s.lfw.tmoDone)
    (h2 : (f s.lfw).namedPrev = s.lfw.namedPrev) (h3 : (f s.lfw).out = s.lfw.out ++ l) : s.Forwards (s.setLfw f) :=
  ⟨rfl, fun _ => rfl, h1, h2, l, h3⟩

theorem State.Forwards.ite {s t u : State} {c : Prop} [Decidable c] (h : s.Forwards t) (g : s.Forwards u) :
    s.Forwards (if c then t else u) := by
  split
  · exact h
  · exact g

theorem State.forwards_keyRequest (s : State) (c : Nat) : s.Forwards (s.keyRequest c) := by
  refine .ite (s.noted_bump ..).forwards (.ite (.refl s) ?_)
  extract_lets me it seq pkt s1 s2 s3 s4
  have h1 : s.Forwards s1 := s.forwards_setLfw _ rfl rfl rfl
  have h2 : s.Forwards s2 := .ite (h1.trans (s1.forwards_tsetW _ _ _ _ _ (by decide))) h1
  have h3 : s.Forwards s3 := h2.trans (s2.forwards_tsetW _ _ _ _ _ (by decide))
  have h4 : s.Forwards s4 := .ite h3 (h3.trans (s3.forwards_setLfw _ rfl rfl (List.append_nil _).symm))
  exact (h4.trans (s4.noted_bump ..).forwards).trans (State.noted_raise ..).forwards

/-- A keyframe request counts on its own two counters. -/
theorem State.ctrAt_keyRequest (s : State) (c : Nat) {p : Nat} {d : Ctr} {i : Nat} (he : d ∉ evtCtrs) (h1 : d ≠ .lfwKfSkip)
    (h2 : d ≠ .lfwKfReqs) (hi : i < 2 ^ 26) : (s.keyRequest c).ctrAt p d i = s.ctrAt p d i := by
  unfold State.keyRequest
  extract_lets f fb fir hold since me it seq pkt s1 s2 s3 s4
  split
  · exact (s.bumpAt_other _ _ _ _ _ (by decide)).2 _ _ _ he h1 hi
  · split
    · rfl
    · have h4 : s4.ctr = s.ctr := by
        have e2 : s2.ctr = s.ctr := by simp only [s2]; split <;> rfl
        have e4 : s4.ctr = s3.ctr := by simp only [s4]; split <;> rfl
        exact e4.trans e2
      rw [(State.raised_raise ..).ctr _ _ _ he hi]
      exact ((s4.bumpAt_other _ _ _ _ _ (by decide)).2 _ _ _ he h2 hi).trans (by rw [State.ctrAt, h4]; rfl)

/-! ## Switches and replays -/

theorem State.forwards_pushCopy (s : State) (n scid ts wa : Nat) (d : Copy) : s.Forwards (s.pushCopy n scid ts wa d) := by
  have hfix : s.Forwards (s.tsFix n scid ts wa) := .ite (s.forwards_tsetW _ _ _ _ _ (by decide)) (.refl s)
  unfold State.pushCopy
  extract_lets s1 ts' s2
  have h2 : s.Forwards s2 :=
    (hfix.trans (s1.forwards_tsetW _ _ _ _ _ (by decide))).trans (State.forwards_tsetW _ _ _ _ _ _ (by decide))
  exact h2.trans (s2.forwards_setLfw _ rfl rfl rfl)

theorem State.forwards_replayOne (s : State) (n scid rung x : Nat) : s.Forwards (s.replayOne n scid rung x) := by
  unfold State.replayOne
  split
  · exact .refl s
  · exact .ite (s.forwards_pushCopy _ _ _ _ _) (.refl s)

theorem State.forwards_replay (s : State) (n scid rung first : Nat) (l : List Nat) :
    s.Forwards (l.foldl (fun s i => s.replayOne n scid rung ((first + i) % 2 ^ 32)) s) := by
  induction l generalizing s with
  | nil => exact .refl s
  | cons i r ih => exact (s.forwards_replayOne _ _ _ _).trans (ih _)

theorem State.forwards_pmSwitch (s : State) (g : Nat) : s.Forwards (s.pmSwitch g) :=
  .ite ⟨rfl, fun _ => rfl, rfl, rfl, [], (List.append_nil _).symm⟩ (.refl s)

theorem State.forwards_leaveRungs (s : State) (n cur : Nat) : s.Forwards (s.leaveRungs n cur) :=
  .ite (.refl s) (s.forwards_setLfw _ rfl rfl (List.append_nil _).symm)

/-- Word 0 of a subscription's state with CUR and WANT equal. -/
def movedWord (want : Nat) : Word := BitVec.ofNat 32 (want + want * 16 + 2 * 256)

theorem fld_movedWord {want : Nat} (h : want < 15) : movedWord want ≠ 0 ∧ fld (movedWord want) 3 0 = want := by
  revert want; decide

theorem subStateOf_self {want : Nat} (h : want < 15) : subStateOf want want = 2 := by
  have h15 : want ≠ 15 := by omega
  simp [subStateOf, h15]

theorem State.setSub_want (s : State) (n want : Nat) :
    (s.tsetW lfwPage 1 0 n 0 (movedWord want)).Forwards (s.setSub n want want 2) :=
  .ite (((State.noted_bump ..).forwards.trans (State.forwards_pmSwitch _ _)).trans (State.forwards_leaveRungs _ _ _)) (.refl _)

/-- A subscription whose CUR becomes its WANT. -/
theorem State.moveSub_want (s : State) (n : Nat) {want : Nat} (h : want < 15) : (s.moveSub n want want).subCur n = want ∧
    (s.moveSub n want want).clk = s.clk ∧ (s.moveSub n want want).lfw.namedPrev = s.lfw.namedPrev ∧
      ∃ l, (s.moveSub n want want).lfw.out = s.lfw.out ++ l := by
  rw [State.moveSub, subStateOf_self h]
  split
  case isTrue he => exact ⟨by rw [State.subCur, ← he], rfl, rfl, [], (List.append_nil _).symm⟩
  case isFalse =>
    have hf := s.setSub_want n want
    obtain ⟨hne, hfld⟩ := fld_movedWord h
    refine ⟨?_, hf.clk, hf.named, hf.out⟩
    rw [State.subCur, hf.subState, State.subState, State.tw_tsetW_same, if_neg hne, hfld]

/-! ## Joins (R291) -/

/-- Step 4 is begun, and subscription n is taken from those that a join waits for. -/
def State.joinMark (s : State) (n : Nat) : State :=
  (s.atStep 4).setLfw fun l =>
    { l with namedPrev := l.namedPrev.filter (· ≠ n), joinsPrev := l.joinsPrev.filter (· ≠ n) }

theorem execJoinTake_named {s : State} {n : Nat} (hd : s.stepDue 4 = true) (hn : s.lfw.namedPrev.contains n = true) :
    execJoinTake n s = .next ((s.joinMark n).join n) := by
  have hc : (s.lfw.namedPrev ++ s.lfw.joinsPrev).contains n = true := by simp_all
  have ht : (s.atStep 4).joinTake n = (s.joinMark n).join n := by
    rw [State.joinTake, State.atStep_lfw, hn, Bool.true_or, if_pos rfl]
    rfl
  rw [execJoinTake, hd, hc, Bool.and_self, if_pos rfl, ht]

theorem State.named_joinMark (s : State) (n : Nat) : (s.joinMark n).lfw.namedPrev.contains n = false := by
  simp [State.joinMark]

theorem State.frameWhole_joinMark (s : State) (n scid k x : Nat) :
    (s.joinMark n).frameWhole scid k x = s.frameWhole scid k x := by
  induction k generalizing x with
  | zero => rfl
  | succ k ih =>
    have hs : (s.joinMark n).histSlot scid x = s.histSlot scid x := rfl
    have hf : (s.joinMark n).histField scid x 17 1 = s.histField scid x 17 1 := rfl
    simp only [State.frameWhole, hs, hf, ih]

theorem State.joinCause_joinMark (s : State) (n c : Nat) : (s.joinMark n).joinCause c = s.joinCause c := by
  simp only [State.joinCause, State.frameWhole_joinMark]
  rfl

/-- The source of a WANT that is not OFF. -/
theorem State.wantSrc_eq {s : State} {n c : Nat} (h : s.wantSrc n = some c) :
    s.subWant n ≠ 15 ∧ s.subSrc n (rungOf (s.subRungs n) (s.subWant n)) = c := by
  unfold State.wantSrc at h
  extract_lets w at h
  split at h
  · cases h
  · exact ⟨‹_›, Option.some.inj h⟩

theorem State.subWant_lt {s : State} {n : Nat} (h : s.subWant n ≠ 15) : s.subWant n < 15 := by
  have hle : s.subWant n < 16 := by
    unfold State.subWant State.subState
    extract_lets w
    split
    · decide
    · exact Nat.mod_lt _ (by decide)
  omega

/-- The slots of source c that a join of subscription n replays. -/
def State.joinReplay (s : State) (n c : Nat) : State :=
  (List.range (s.joinCount c)).foldl
    (fun u i => u.replayOne n c (rungOf (s.subRungs n) (s.subWant n)) (((s.srcW (s.fsn c) 0).toNat + i) % 2 ^ 32)) s

theorem State.forwards_joinReplay (s : State) (n c : Nat) : s.Forwards (s.joinReplay n c) := s.forwards_replay _ _ _ _ _

section
variable {s : State} {n c : Nat} (hw : s.wantSrc n = some c) (hv : s.subValid n = true) (hok : s.subOk n = true)
include hw hv hok

/-- R291: the join that a cause refuses. -/
theorem State.join_fails (hc : s.joinCause c ≠ 0) :
    s.join n = ((s.keyRequest c).bump lfwPage .lfwJoinFail).raise lfwPage .lfwJoinFail n (s.joinCause c) := by
  obtain ⟨hw15, hsrc⟩ := State.wantSrc_eq hw
  simp only [State.join, hw15, hv, hok, hsrc, hc, decide_false, Bool.not_true, Bool.or_false, Bool.false_eq_true, if_false]

/-- R291: the join that is made replays the slots and moves CUR. -/
theorem State.join_made (hc : s.joinCause c = 0) :
    s.join n = ((s.joinReplay n c).moveSub n (s.subWant n) (s.subWant n)).bump lfwPage .lfwJoinHist := by
  obtain ⟨hw15, hsrc⟩ := State.wantSrc_eq hw
  simp only [State.join, hw15, hv, hok, hsrc, hc, decide_false, Bool.not_true, Bool.or_false, Bool.false_eq_true, if_false,
    if_true]
  rfl

end

/-! ## Timeouts (R286) -/

/-- A waiting subscription at a multiple of the timeout, before its keyframe request. -/
def State.tmoMark (s : State) (n : Nat) : State :=
  let s := (s.atStep 4).setLfw fun l => { l with tmoDone := l.tmoDone ++ [n] }
  (s.bump lfwPage .lfwSwitchWaits).raise lfwPage .lfwSwitchTmo n (s.subWant n)

/-- What the timeout asks for: a keyframe of the source of WANT. -/
def State.tmoAsk (s : State) (n : Nat) : State :=
  match s.wantSrc n with
  | some c => s.keyRequest c
  | none => s

theorem execSwitchTmo_due {s : State} {n : Nat} (hd : s.stepDue 4 = true) (hen : s.enabled lfwPage = true)
    (hv : s.subValid n = true) (hst : (s.subState n).2.2 = 1 ∨ (s.subState n).2.2 = 3)
    (hne : (s.wale + 2 ^ 32 - (s.tw lfwPage 1 0 n 1).toNat) % 2 ^ 32 ≠ 0)
    (htmo : (s.wale + 2 ^ 32 - (s.tw lfwPage 1 0 n 1).toNat) % 2 ^ 32 % s.raf lfwPage Reg.lfwSwitchTmo 15 0 = 0)
    (hnot : s.lfw.tmoDone.contains n = false) : execSwitchTmo n s = .next ((s.tmoMark n).tmoAsk n) := by
  unfold execSwitchTmo
  extract_lets st d tmo
  have hst' : (decide (st = 1) || decide (st = 3)) = true := by simpa using hst
  have hne' : decide (d ≠ 0) = true := decide_eq_true hne
  have htmo' : decide (d % tmo = 0) = true := decide_eq_true htmo
  rw [hd, hen, hv, hst', hne', htmo', hnot]
  rfl

theorem execSwitchTmo_done {s : State} {n : Nat} (h : s.lfw.tmoDone.contains n = true) : execSwitchTmo n s = .next s := by
  unfold execSwitchTmo
  extract_lets st d tmo
  rw [h, Bool.not_true, Bool.and_false]
  rfl

theorem State.noted_tmoMark (s : State) (n : Nat) :
    ((s.atStep 4).setLfw fun l => { l with tmoDone := l.tmoDone ++ [n] }).Noted (s.tmoMark n) := by
  unfold State.tmoMark
  extract_lets u
  exact (u.noted_bump ..).trans (State.noted_raise ..)

theorem State.forwards_tmoAsk (s : State) (n : Nat) : s.Forwards (s.tmoAsk n) := by
  unfold State.tmoAsk
  split
  · exact s.forwards_keyRequest _
  · exact .refl s

theorem State.ctrAt_tmoAsk (s : State) (n : Nat) : (s.tmoAsk n).ctrAt lfwPage .lfwSwitchWaits 0 = s.ctrAt lfwPage .lfwSwitchWaits 0 := by
  unfold State.tmoAsk
  split
  · exact s.ctrAt_keyRequest _ (by decide) (by decide) (by decide) (by decide)
  · rfl

/-! ## Originated packets (R301) -/

theorem State.only_setLfw (s : State) (f : LfwSt → LfwSt) : s.Only (s.setLfw f) [.lfw] := by
  intro x hx
  cases x <;> simp [Part.same] at hx ⊢

theorem State.only_takeFree (s : State) : s.Only s.takeFree [.free] := by
  intro x hx
  cases x <;> simp [Part.same] at hx ⊢

/-- A copy that waits to be issued, where a free value was taken for its send time. -/
theorem State.only_issue (s : State) (f : LfwSt → LfwSt) : s.Only (s.setLfw f).takeFree [.lfw, .free] :=
  ((s.only_setLfw f).mono (by decide)).trans ((State.only_takeFree _).mono (by decide))

/-- The copy that a packet of the device's own becomes. -/
structure State.OriginCopy (s : State) (o : Orig) (d : Copy) : Prop where
  out : d.out = o.scid
  origin : d.origin = true
  m : d.m = o.m
  ts : d.ts = (o.g + (s.ctxW o.scid 14).toNat) % 2 ^ 32
  body : d.body = some (o.dd ++ o.body)

theorem State.originate_copy {s : State} {o : Orig} (h : s.ctxOut o.scid = true) : ∃ d, s.OriginCopy o d ∧
    s.originate o = (s.setLfw fun l =>
      { l with out := l.out ++ [d],
               origin := if l.origin.contains o.scid then l.origin else l.origin ++ [o.scid] }).takeFree :=
  ⟨_, ⟨rfl, rfl, rfl, rfl, rfl⟩, if_pos h⟩

/-- The context of an originated packet is known as one from then on. -/
theorem mem_origin (l : List Nat) (c : Nat) : c ∈ if l.contains c then l else l ++ [c] := by
  split
  · simp_all
  · simp

/-! ## What a packet that leaves a Coil queue leaves of LFW and of the stream contexts -/

structure State.CoilApart (s t : State) : Prop where
  lfw : t.lfw = s.lfw
  ctx : ∀ c i, c < 2 ^ 25 → t.ctxW c i = s.ctxW c i

theorem State.CoilApart.of_eq {s t : State} (hl : t.lfw = s.lfw) (ht : t.tbl = s.tbl) : s.CoilApart t :=
  ⟨hl, fun c i _ => by rw [State.ctxW, State.tw, State.tget, ht]; rfl⟩

theorem State.CoilApart.refl (s : State) : s.CoilApart s := .of_eq rfl rfl

theorem State.CoilApart.trans {s t u : State} (h : s.CoilApart t) (g : t.CoilApart u) : s.CoilApart u :=
  ⟨g.lfw.trans h.lfw, fun c i hc => (g.ctx c i hc).trans (h.ctx c i hc)⟩

theorem State.Noted.coilApart {s t : State} (h : s.Noted t) : s.CoilApart t := .of_eq h.lfw h.tbl

theorem State.CoilApart.ite {s t u : State} {c : Prop} [Decidable c] (h : s.CoilApart t) (g : s.CoilApart u) :
    s.CoilApart (if c then t else u) := by
  split
  · exact h
  · exact g

/-- Coil's tables lie past ICL's. -/
theorem State.coilApart_tsetF (s : State) (t e i hi lo v : Nat) : s.CoilApart (s.tsetF colPage t 0 e i hi lo v) := by
  refine ⟨rfl, fun c j hc => s.tw_tsetW_other _ (.inr ?_)⟩
  simp only [tkey, iclPage, colPage]
  omega

theorem State.coilApart_setTask (s : State) (id : Nat) (f : Task → Task) : s.CoilApart (s.setTask id f) := .of_eq rfl rfl

theorem State.coilApart_recordsLost (s : State) (q : Nat) : s.CoilApart (s.recordsLost q) := by
  have hl (l : List Nat) (u : State) (h : s.CoilApart u) :
      s.CoilApart (l.foldl (fun s id => (s.bump rvePage .rveCompLost).freeTask id) u) := by
    induction l generalizing u with
    | nil => exact h
    | cons id r ih => exact ih _ ((h.trans (u.noted_bump ..).coilApart).trans (State.coilApart_setTask _ _ _))
  exact hl _ s (.refl s)

theorem State.coilApart_qStop (s : State) (q o : Nat) : s.CoilApart (s.qStop q o) :=
  ((s.coilApart_tsetF _ _ _ _ _ _).trans (State.noted_raise ..).coilApart).trans (State.coilApart_recordsLost _ _)

theorem State.coilApart_colAnswer (s : State) (port status ofs len : Nat) : s.CoilApart (s.colAnswer port status ofs len) := by
  unfold State.colAnswer
  extract_lets s1 s2
  have h1 : s.CoilApart s1 := .ite (s.noted_bump ..).coilApart (.refl s)
  have h2 : s.CoilApart s2 := h1.trans (.of_eq rfl rfl)
  exact .ite (h2.trans (.of_eq rfl rfl)) h2

theorem State.coilApart_setCq (s : State) (q : Nat) (f : ColQ → ColQ) : s.CoilApart (s.setCq q f) := .of_eq rfl rfl

theorem State.coilApart_nextWalk (s : State) (q n : Nat) : s.CoilApart (s.nextWalk q n).1 := by
  induction n generalizing s with
  | zero => exact .refl s
  | succ n ih =>
    rw [State.nextWalk]
    dsimp only
    split_ifs
    · exact .refl s
    · exact s.coilApart_qStop _ _
    · exact .refl s
    · exact ((s.coilApart_setCq _ _).trans (State.noted_bump ..).coilApart).trans (ih _)
    · show s.CoilApart ((s.setCq q _).bump colPage .colDelivered)
      exact (s.coilApart_setCq _ _).trans (State.noted_bump ..).coilApart

theorem State.coilApart_colNext (s : State) (port q : Nat) : s.CoilApart (s.colNext port q).1 := by
  unfold State.colNext
  split_ifs
  · exact s.coilApart_colAnswer _ _ _ _
  · exact s.coilApart_colAnswer _ _ _ _
  · have hw := s.coilApart_nextWalk q (qFuel (s.cq q).rd (s.cq q).wr)
    split
    · rename_i e; rw [e] at hw; exact hw.trans (State.coilApart_colAnswer _ _ _ _ _)
    · rename_i e; rw [e] at hw; exact hw.trans (State.coilApart_colAnswer _ _ _ _ _)

theorem State.coilApart_giveBack (s : State) (l : List ColHdr) : s.CoilApart (s.giveBack l) := by
  induction l generalizing s with
  | nil => exact .refl s
  | cons h r ih => exact (s.coilApart_tsetF _ _ _ _ _ _).trans (ih _)

theorem State.coilApart_freeTo (s : State) (q e : Nat) (hs : List ColHdr) : s.CoilApart (s.freeTo q e hs) := by
  unfold State.freeTo
  extract_lets c s1
  have h1 : s.CoilApart s1 := (s.coilApart_giveBack hs).trans (State.noted_bumpN ..).coilApart
  exact h1.trans (s1.coilApart_setCq _ _)

theorem State.coilApart_colRelease (s : State) (port q e : Nat) : s.CoilApart (s.colRelease port q e) := by
  unfold State.colRelease
  split_ifs
  · exact s.coilApart_colAnswer _ _ _ _
  · exact s.coilApart_colAnswer _ _ _ _
  · split
    · exact (s.coilApart_freeTo _ _ _).trans (State.coilApart_colAnswer _ _ _ _ _)
    · exact (s.coilApart_qStop _ _).trans (State.coilApart_colAnswer _ _ _ _ _)
    · exact s.coilApart_colAnswer _ _ _ _

theorem State.coilApart_colTake (s : State) (port q : Nat) : s.CoilApart (s.colTake port q).1 := by
  have hn := s.coilApart_colNext port q
  unfold State.colTake
  split
  · rename_i e; rw [e] at hn; exact hn.trans (State.coilApart_colRelease _ _ _ _)
  · rename_i e; rw [e] at hn; exact hn

/-- The context that an originated packet names. -/
theorem origOf_scid_lt (b : List Byte) : (origOf b).scid < 2 ^ 25 := Nat.mod_lt _ (by decide)

theorem State.CoilApart.ctxOut {s t : State} (h : s.CoilApart t) {c : Nat} (hc : c < 2 ^ 25) : t.ctxOut c = s.ctxOut c := by
  rw [State.ctxOut, State.ctx, h.ctx c 0 hc]; rfl

/-! ## What the commands leave -/

theorem State.tmoAsk_mark (s : State) (n : Nat) :
    ((s.tmoMark n).tmoAsk n).clk.phase = 4 ∧ ((s.tmoMark n).tmoAsk n).lfw.tmoDone = s.lfw.tmoDone ++ [n] ∧
      ((s.tmoMark n).tmoAsk n).subState n = s.subState n ∧
      ((s.tmoMark n).tmoAsk n).ctrAt lfwPage .lfwSwitchWaits 0 =
        min (s.ctrAt lfwPage .lfwSwitchWaits 0 + 1) (2 ^ 32 - 1) := by
  have hm := s.noted_tmoMark n
  have hf := (s.tmoMark n).forwards_tmoAsk n
  refine ⟨by rw [hf.clk, hm.clk]; rfl, by rw [hf.tmoDone, hm.lfw]; rfl, ?_, ?_⟩
  · rw [hf.subState, hm.forwards.subState]; rfl
  · rw [State.ctrAt_tmoAsk, State.tmoMark, (State.raised_raise ..).ctr _ _ _ (by decide) (by decide),
      State.ctrAt_bump _ _ rfl (by decide)]
    rfl

/-- A join that no recent keyframe allows. -/
theorem State.joinMark_fails {s : State} {n c : Nat} (hw : s.wantSrc n = some c) (hv : s.subValid n = true)
    (hok : s.subOk n = true) (hkf : fld (s.srcW (s.fsn c) 2) 8 8 = 0) :
    ((s.joinMark n).join n).clk.phase = 4 ∧ ((s.joinMark n).join n).lfw.namedPrev.contains n = false ∧
      ((s.joinMark n).join n).subState n = s.subState n ∧
      ((s.joinMark n).join n).ctrAt lfwPage .lfwJoinFail 0 = min (s.ctrAt lfwPage .lfwJoinFail 0 + 1) (2 ^ 32 - 1) := by
  have hc : (s.joinMark n).joinCause c ≠ 0 := by
    rw [State.joinCause_joinMark, State.joinCause]
    simp [hkf]
  rw [State.join_fails (s := s.joinMark n) hw hv hok hc]
  have hk := (s.joinMark n).forwards_keyRequest c
  have hm := (State.noted_bump ((s.joinMark n).keyRequest c) lfwPage .lfwJoinFail).trans
    (State.noted_raise _ lfwPage .lfwJoinFail n ((s.joinMark n).joinCause c))
  refine ⟨by rw [hm.clk, hk.clk]; rfl, by rw [hm.lfw, hk.named]; exact s.named_joinMark n,
    by rw [hm.forwards.subState, hk.subState]; rfl, ?_⟩
  rw [(State.raised_raise ..).ctr _ _ _ (by decide) (by decide), State.ctrAt_bump _ _ rfl (by decide),
    State.ctrAt_keyRequest _ _ (by decide) (by decide) (by decide) (by decide)]
  rfl

/-- A join that is made, after its replay. -/
theorem State.moveSub_joinMark {s v : State} {n : Nat} (h : s.subWant n ≠ 15) (hr : (s.joinMark n).Forwards v) {t : State}
    (ht : t = (v.moveSub n (s.subWant n) (s.subWant n)).bump lfwPage .lfwJoinHist) :
    t.clk.phase = 4 ∧ t.lfw.namedPrev.contains n = false ∧ t.subCur n = s.subWant n ∧ ∃ l, t.lfw.out = s.lfw.out ++ l := by
  obtain ⟨hcur, hclk, hnam, l, hl⟩ := v.moveSub_want n (State.subWant_lt h)
  obtain ⟨m, hm⟩ := hr.out
  generalize v.moveSub n _ _ = u at hcur hclk hnam hl ht
  have hb := u.noted_bump lfwPage .lfwJoinHist
  rw [ht]
  refine ⟨by rw [hb.clk, hclk, hr.clk]; rfl, by rw [hb.lfw, hnam, hr.named]; exact s.named_joinMark n, ?_, m ++ l, ?_⟩
  · rw [State.subCur, hb.forwards.subState]; exact hcur
  · rw [hb.lfw, hl, hm, List.append_assoc]; rfl

theorem State.joinMark_made {s : State} {n c : Nat} (hw : s.wantSrc n = some c) (hv : s.subValid n = true)
    (hok : s.subOk n = true) (hc : s.joinCause c = 0) :
    ((s.joinMark n).join n).clk.phase = 4 ∧ ((s.joinMark n).join n).lfw.namedPrev.contains n = false ∧
      ((s.joinMark n).join n).subCur n = s.subWant n ∧ ∃ l, ((s.joinMark n).join n).lfw.out = s.lfw.out ++ l :=
  State.moveSub_joinMark (State.wantSrc_eq hw).1 ((s.joinMark n).forwards_joinReplay n c)
    (State.join_made (s := s.joinMark n) hw hv hok ((s.joinCause_joinMark n c).trans hc))

theorem execOriginatedPacket_queue {s : State} {q : Nat} {b : List Byte} (hr : s.ready lfwPage = true)
    (hb : (s.colTake lfwPort q).2 = some b) :
    execOriginatedPacket (some q) s = .next ((s.colTake lfwPort q).1.originate (origOf b)) := by
  have hp : s.colTake lfwPort q = ((s.colTake lfwPort q).1, some b) := by rw [← hb]
  simp only [execOriginatedPacket, hr, if_true]
  rw [hp]

theorem execOriginatedPacket_unready {s : State} (q : Nat) (hr : s.ready lfwPage = false) :
    execOriginatedPacket (some q) s = .next s := by
  simp only [execOriginatedPacket, hr, Bool.false_eq_true, if_false]

theorem execOriginatedPacket_list {s : State} {o : Orig} {r : List Orig} (ho : s.lfw.orig = o :: r) :
    execOriginatedPacket none s = .next ((s.setLfw fun l => { l with orig := r }).originate o) := by
  simp only [execOriginatedPacket, ho]

/-- The copy that an outbound partial mix becomes. -/
def State.partialCopy (s : State) (out w : Nat) (body : List Byte) : Copy :=
  { out := out, ts := (120 * w + (s.ctxW out 14).toNat) % 2 ^ 32, len := body.length, pt := s.ctx out 12 7 0,
    time := s.freeNat % 2 ^ 32, body := some body }

theorem execPartialMixOut_sent {s : State} {out w : Nat} {body : List Byte} {r : List (Nat × Nat × List Byte)}
    (hp : s.lfw.partials = (out, w, body) :: r) (hc : s.ctxOut out = true) :
    execPartialMixOut s = .next ((s.setLfw fun l => { l with partials := r }).setLfw fun l =>
      { l with out := l.out ++ [s.partialCopy out w body] }).takeFree := by
  simp only [execPartialMixOut, hp]
  exact congrArg Host.Outcome.next (if_pos hc)

end Sys2Proof.Machine
end

section
open Sys2Proof Sys2Proof.Machine

/-- Settles O21: R286, R291, R300, R301. What a keyframe request and a replay leave is `State.Forwards`. -/
theorem joinsAndOriginals : Obligations.JoinsAndOriginals := by
  refine ⟨fun s n hd hen hv hst hne htmo hnot => ⟨_, execSwitchTmo_due hd hen hv hst hne htmo hnot, s.tmoAsk_mark n⟩,
    fun s n h => ⟨s, execSwitchTmo_done h, rfl⟩,
    fun s n c hd hn hw hv hok hkf => ⟨_, execJoinTake_named hd hn, State.joinMark_fails hw hv hok hkf⟩,
    fun s n c hd hn hw hv hok hc => ⟨_, execJoinTake_named hd hn, State.joinMark_made hw hv hok hc⟩,
    fun s o r ho hc => ⟨_, execOriginatedPacket_list ho, ?_⟩, fun s q b hr hb hc => ⟨_, execOriginatedPacket_queue hr hb, ?_⟩,
    fun s q hr => ⟨s, execOriginatedPacket_unready q hr, rfl⟩,
    fun s out w body r hp hc => ⟨_, execPartialMixOut_sent hp hc, ?_⟩⟩
  · obtain ⟨d, hd, heq⟩ := State.originate_copy (s := s.setLfw fun l => { l with orig := r }) (o := o) hc
    rw [heq]
    exact ⟨rfl, mem_origin _ _, ((s.only_setLfw _).mono (by decide)).trans (State.only_issue _ _), d, rfl, hd.out, hd.origin,
      hd.m, hd.ts, hd.body⟩
  · have hk := s.coilApart_colTake lfwPort q
    obtain ⟨d, hd, heq⟩ := State.originate_copy (s := (s.colTake lfwPort q).1) (o := origOf b)
      ((hk.ctxOut (origOf_scid_lt b)).trans hc)
    rw [heq]
    exact ⟨rfl, d, by rw [← hk.lfw]; rfl, hd.out, hd.origin, hd.body⟩
  · exact ⟨rfl, ((s.only_setLfw _).mono (by decide)).trans (State.only_issue _ _), _, rfl, rfl, rfl, rfl, rfl⟩
end

section
/-!
SUPPORT. A coded unit whose packet is longer than any Coil packet (R177, R404): RESERVE refuses its length, and the queue stays.
-/

namespace Sys2Proof.Machine

theorem State.Noted.standby {s t : State} (h : s.Noted t) : t.standby = s.standby := by
  rw [State.standby, State.rb, h.rd _ _ (by decide)]; rfl

theorem State.Noted.prgState {s t : State} (h : s.Noted t) : t.prgState = s.prgState := by
  rw [State.prgState, State.rf, h.rd _ _ (by decide)]; rfl

theorem State.Noted.following {s t : State} (h : s.Noted t) : t.following = s.following := by
  have hg : t.genState = s.genState := by rw [State.genState, State.rf, h.rd _ _ (by decide)]; rfl
  have hp : t.gridPhase = s.gridPhase := by rw [State.gridPhase, State.rf, h.rd _ _ (by decide)]; rfl
  have hw : t.wale28 = s.wale28 := by rw [State.wale28, State.now, h.clk, hp]; rfl
  rw [State.following, h.standby, h.prgState, State.wale, State.wale64, hg, hw, h.clk, h.prg]; rfl

theorem State.Noted.qOn {s t : State} (h : s.Noted t) (q : Nat) : t.qOn q = s.qOn q := by
  simp only [State.qOn, State.tf, h.tw]; rfl

theorem State.Noted.qCredit {s t : State} (h : s.Noted t) (port q n : Nat) : t.qCredit port q n = s.qCredit port q n := by
  have hg : t.grantOf q port = s.grantOf q port := by rw [State.grantOf, State.tlist, h.tbl]; rfl
  have ha (g : Nat) : t.grantAvail g = s.grantAvail g := by rw [State.grantAvail, State.tf, h.tw]; rfl
  simp only [State.qCredit, hg, ha]

/-- An answer to a port leaves the queues. -/
theorem State.colAnswer_q (s : State) (port status ofs len : Nat) : (s.colAnswer port status ofs len).col.q = s.col.q := by
  unfold State.colAnswer
  extract_lets s1 s2
  have h1 : s1.col = s.col := by
    simp only [s1]
    split
    · exact (s.noted_bump ..).col
    · rfl
  have h2 : s2.col.q = s.col.q := by rw [← h1]; rfl
  split <;> exact h2

theorem State.colAnswer_colAnsOf {s : State} {port : Nat} (hv : viaRegs port = false) (status ofs len : Nat) :
    (s.colAnswer port status ofs len).colAnsOf port = ⟨status, ofs, len⟩ := by
  rw [State.colAnswer, hv]
  exact NMap.get_set_same ..

/-- R177: RESERVE refuses a packet of more than 65,528 bytes with status 9. -/
theorem State.colReserve_long {s : State} {port q size : Nat} (hq : s.qOn q = true) (hc : s.qCredit port q size = true)
    (hl : 65528 < size) : s.colReserve port q size = s.colAnswer port 9 0 0 := by
  obtain ⟨g, hg⟩ : ∃ g, s.grantOf q port = some g := by
    cases h : s.grantOf q port with
    | none => simp [State.qCredit, h] at hc
    | some g => exact ⟨g, rfl⟩
  simp only [State.colReserve, hq, hg, hl, Bool.not_true, Bool.false_eq_true, if_false, if_true]

/-- So such a packet is not placed. -/
theorem State.colSend_long {s : State} {port q : Nat} {b : List Byte} (hv : viaRegs port = false) (hq : s.qOn q = true)
    (hc : s.qCredit port q b.length = true) (hl : 65528 < b.length) : (s.colSend port q b).1.col.q = s.col.q := by
  have hn : ¬ ((s.colAnswer port 9 0 0).colAnsOf port).status = 0 := by
    rw [State.colAnswer_colAnsOf hv]; decide
  simp only [State.colSend, State.colReserve_long hq hc hl, hn, if_false, State.colAnswer_q]

theorem leBytes_length (n v : Nat) : (leBytes n v).length = n := by
  induction n generalizing v with
  | zero => rfl
  | succ n ih => rw [leBytes, List.length_cons, ih]

theorem outHeader_length (scid g f unit code flags mask dd body : Nat) :
    (outHeader scid g f unit code flags mask dd body).length = 32 := by
  simp [outHeader, leBytes_length]

section
variable {s : State} {n : Nat} {pic : EncPic} {dd body : List Byte}

/-- A packet of a unit that is too long, through a grant with credit. -/
theorem State.encPacket_long {e : List Word} (k flags : Nat) (hv : viaRegs (encPort n) = false) (hf : s.following = false)
    (hq : s.qOn (eOutQ e) = true) (hc : s.qCredit (encPort n) (eOutQ e) (32 + dd.length + body.length) = true)
    (hl : 65528 < 32 + dd.length + body.length) :
    (s.encPacket n e pic k flags dd body).1.col.q = s.col.q ∧ (s.encPacket n e pic k flags dd body).2 = false := by
  unfold State.encPacket
  extract_lets t b own ident
  have hb : b.length = 32 + dd.length + body.length := by
    simp only [b, List.length_append, outHeader_length]
  have hc' : s.qCredit (encPort n) (eOutQ e) b.length = true := hb ▸ hc
  have hown : own = false := by simp only [own, hq, hc']; rfl
  have hr : s.refusal 3 ident 11 own = (s, false) := by
    simp only [State.refusal, hf, hown, Bool.false_eq_true, if_false]
  rw [hr]
  exact ⟨State.colSend_long hv hq hc' (hb ▸ hl), rfl⟩

theorem State.noted_encCount (s : State) (n : Nat) (pic : EncPic) (old new : LayerPic) (bits : Nat) :
    s.Noted (s.encCount n pic old new bits) := by
  unfold State.encCount
  extract_lets p guards s1 s2
  have h1 : s.Noted s1 := by
    simp only [s1]
    split
    · exact .refl s
    · exact s.noted_bumpN ..
  have h2 : s.Noted s2 := by
    simp only [s2]
    split
    · exact (h1.trans (s1.noted_bump ..)).trans (State.noted_raise ..)
    · exact h1
  split
  · exact h2
  · exact h2.trans (s2.noted_bumpN ..)

theorem State.encPackets_long {e : List Word} (k : Nat) (last first : Bool) (hv : viaRegs (encPort n) = false)
    (hf : s.following = false) (hq : s.qOn (eOutQ e) = true)
    (hc : s.qCredit (encPort n) (eOutQ e) (32 + dd.length + body.length) = true)
    (hl : 65528 < 32 + dd.length + body.length) :
    ∃ v, s.encPackets n e pic k last first [(dd, body)] = (v, false) ∧ v.col.q = s.col.q := by
  have hp (flags : Nat) := State.encPacket_long (pic := pic) k flags hv hf hq hc hl
  exact ⟨_, by simp only [State.encPackets, (hp _).2, Bool.or_false]; rfl, (hp _).1⟩

/-- A unit that does not end its layer and whose one packet is too long leaves the queues. -/
theorem State.encUnit_long {u : CodedUnit} {new : LayerPic} {st : TStruct} (hn : s.unitNext n pic u = some (new, false, st))
    (hm : pic.mute = false) (hp : u.pkts = [(dd, body)]) (hv : viaRegs (encPort n) = false) (hf : s.following = false)
    (hq : s.qOn (eOutQ pic.ent) = true) (hc : s.qCredit (encPort n) (eOutQ pic.ent) (32 + dd.length + body.length) = true)
    (hl : 65528 < 32 + dd.length + body.length) : (s.encUnit n pic u).col.q = s.col.q := by
  unfold State.encUnit
  rw [hn]
  dsimp only
  generalize hs1 : s.encCount _ _ _ _ _ = s1
  have h1 : s.Noted s1 := hs1 ▸ s.noted_encCount ..
  obtain ⟨v, hs, hcol⟩ := State.encPackets_long (s := s1) (pic := pic) pic.done.length
    (false && decide (pic.done.length + 1 = spatials (eMode pic.ent))) true hv (h1.following.trans hf) ((h1.qOn _).trans hq)
    ((h1.qCredit ..).trans hc) hl
  rw [hp, hm, if_neg Bool.false_ne_true, hs]
  exact hcol.trans (congrArg ColSt.q h1.col)

end

/-! ## An access unit of 65,500 bytes -/

/-- An HEVC slice of 65,496 bytes: header of NAL type 1 and temporal layer 0, and zeros. -/
def longNal : List Byte := 0x02 :: 0x01 :: List.replicate 65494 0

/-- That slice behind its length (R404, OUT_MODE 1). -/
def longBody : List Byte := leBytes 4 65496 ++ longNal

theorem longNal_length : longNal.length = 65496 := by
  rw [longNal, List.length_cons, List.length_cons, List.length_replicate]

theorem longBody_length : longBody.length = 65500 := by
  rw [longBody, List.length_append, longNal_length, leBytes_length]

theorem lenUnits_nil (n : Nat) : lenUnits n [] = [] := by
  cases n <;> rfl

theorem lenUnits_longBody : lenUnits longBody.length longBody = [longNal] := by
  have hk : leNat (longBody.take 4) = longNal.length := by
    rw [longNal_length, longBody, List.take_left' (leBytes_length 4 _)]; rfl
  have hl : ¬ longBody.length < 4 := by rw [longBody_length]; decide
  have hd : longBody.drop 4 = longNal := List.drop_left' (leBytes_length 4 _)
  have hd' : longBody.drop (4 + longNal.length) = [] := List.drop_eq_nil_of_le (by rw [longBody_length, longNal_length])
  rw [longBody_length, lenUnits, if_neg hl]
  dsimp only
  rw [hk, hd, hd', lenUnits_nil, List.take_length]

/-- The entry: enabled, HEVC, OUT_MODE 1, 64 x 128 luma samples, one CTU row a slice, Coil queue 1. -/
def longEnt : List Word := [0x803, 0x00800040, 0, 0, 0, 0, 0, 0, 0, 1, 0x10000]

/-- The picture that the encoder codes. -/
def longPic : EncPic := { stream := 0, f := 0, launch := 0, key := false, p := 0, src := .grey, mute := false, ent := longEnt }

/-- The unit of its first CTU: one packet. -/
def longUnit : CodedUnit := { hdr := 0, ctus := [⟨0, 0, 0, true⟩], blocks := [], pkts := [([], longBody)], luma := [], chroma := [] }

/-- Encoder 0 codes that picture; queue 1 is on, and port 512 has a grant of it with 4,097 units. -/
def longState : State :=
  { vce := { enc := [(0, { pic := some longPic })] },
    tbl := [(tkey colPage 0 0 1, [0, 0, 0x54]), (tkey colPage 1 0 1, [0x600001, 0, 4097])] }

theorem longNals_ok (place : UnitPlace) (hp : place.first = true) : longState.nalsOk longEnt longPic 0 place [longNal] = true := by
  have hc : eCodec longEnt = 1 := by decide
  have ht : eTile longEnt = false := by decide
  have hn : nalOk longEnt longPic.key (tLayer (eMode longEnt) longPic.p) longNal = true := by decide
  have hs : codesSamples 1 (nalType 1 longNal) = true := by decide
  have hi : (longPic.key && true) = false := by decide
  simp [State.nalsOk, hp, hc, ht, hn, hs, hi]

theorem longState_marks (new : LayerPic) (h : new.layer = 0) (opens ends : Bool) :
    longState.unitMarks {} longPic new longUnit [0] opens ends = some {} := by
  have hn : unitNals longPic.ent (longUnit.pkts.map (·.2)) = some [longNal] := by
    show unitNals longEnt [longBody] = _
    rw [unitNals, if_pos (by decide), lenUnits_longBody]
  unfold State.unitMarks
  extract_lets e k refs piece place
  have hk : k = 0 := h
  rw [if_pos (by simp [longUnit]), if_neg (by decide), hn]
  dsimp only
  have hc : eCodec longEnt = 1 := by decide
  have ht : eTile longEnt = false := by decide
  rw [hk, show e = longEnt from rfl, longNals_ok place rfl, ht]
  simp [longUnit, packetMarks, marksOk, hc]

theorem longState_next : ∃ new, longState.unitNext 0 longPic longUnit = some (new, false, {}) := by
  unfold State.unitNext
  extract_lets e k x old at_ c new ends
  have ha : at_ = [0] := by decide
  have he : ends = false := by decide
  have hl : new.layer = 0 := by decide
  rw [if_neg (by rw [ha]; decide), ha, show x = {} from rfl, longState_marks new hl, he]
  exact ⟨new, rfl⟩

end Sys2Proof.Machine
end

section
open Sys2Proof Sys2Proof.Machine

/-- Refutes O30: a packet is sent whatever its length is, says the clause of a coded unit with one packet, but Coil takes none of more
than 65,528 bytes (R177): RESERVE refuses the access unit of `longUnit`, whose packet has 65,532 bytes, and the queue's write offset
stays 0. -/
theorem not_videoEncoders : ¬ Obligations.VideoEncoders := by
  unfold Obligations.VideoEncoders
  rintro ⟨-, -, -, -, emit, -⟩
  obtain ⟨new, hnext⟩ := longState_next
  have hlen : 32 + ([] : List Byte).length + longBody.length = 65532 := by rw [longBody_length]; rfl
  have hf : longState.following = false := by decide
  have hq : longState.qOn (eOutQ longPic.ent) = true := by decide
  have hc : longState.qCredit (encPort 0) (eOutQ longPic.ent) (32 + ([] : List Byte).length + longBody.length) = true := by
    rw [hlen]; decide
  obtain ⟨t, e, hwr, -⟩ := emit longState 0 longPic longUnit new false {} [] longBody rfl hnext rfl rfl hf hq hc
  have ht : t = longState.encUnit 0 longPic longUnit := (Host.Outcome.next.inj e).symm
  have hz : (t.cq (eOutQ longPic.ent)).wr = 0 := by
    rw [ht, State.cq, State.encUnit_long hnext rfl rfl (by decide) hf hq hc (by rw [hlen]; decide)]
    rfl
  rw [hz, hlen] at hwr
  exact absurd hwr (by decide)
end

section
/-!
SUPPORT. A pulse of a port whose table 1 enables tributary 0 in the shadows alone (R521, R524): as an index of the table in force, 2^25
reads the first entry of the shadows, but no reader has it among the tributaries of the port.
-/

namespace Sys2Proof.Machine

/-- The number whose entry in the plane in force is entry 0 of the shadows. -/
def shadowTrib : Nat := 2 ^ 25

/-- Port 0 in mode 1 at step 1 of wale 0; the shadow of tributary 0 is enabled, and a frame waits at that number. -/
def shadowed : State :=
  { clk := { phase := 1 }, reg := [(rkey tmuPage Reg.tmuWaleCtl, 0x20), (rkey (lnuPage 0) Reg.pageReady, 1)],
    act := [(rkey (lnuPage 0) Reg.lnuPortCfg, 1)], tbl := [(tkey (lnuPage 0) 1 1 0, [1])],
    lnu := { ports := [(0, { tribs := [(shadowTrib, { unread := [[]] })] })] } }

/-- The pulse reads no frame of that number. -/
theorem shadowed_pulse (t : State) (e : exec .tdmFramePulse shadowed = .next t) :
    ((t.line 0).trib shadowTrib).last = none := by
  have h : (match exec .tdmFramePulse shadowed with
    | .next t => ((t.line 0).trib shadowTrib).last.isNone
    | _ => false) = true := by decide +kernel
  rw [e] at h
  exact Option.isNone_iff_eq_none.1 h

end Sys2Proof.Machine
end

section
open Sys2Proof Sys2Proof.Machine

/-- Refutes O38: its clause of unread frames speaks of every number `tr` for which `tribOn` holds, but 2^25 lies past the tributaries: its
entry in the plane in force is the first of the shadows (`tkey`). In `shadowed` the shadow of tributary 0 is enabled, and the pulse,
which reads the tributaries of the table in force alone, leaves the frame that waits at 2^25 unread. -/
theorem not_framePulse : ¬ Obligations.FramePulse := by
  unfold Obligations.FramePulse
  rintro ⟨pulse, -⟩
  obtain ⟨t, e, -, -, read, -⟩ := pulse shadowed 0 (by decide) (by decide) (by decide)
  obtain ⟨hlast, -⟩ := read 0 shadowTrib [] [] (by decide) (by decide) (by decide) (by decide)
  rw [shadowed_pulse t e] at hlast
  cases hlast
end

section
/-!
SUPPORT. The queue of commands as a predicate of its own, with one rule per shape that a definition of the model can have: a record
update that leaves the queue alone, a branch, a fold, a pair, an option, an outcome. Of an outcome it says also that there is a next
state.
-/

namespace Sys2Proof.Machine

/-- The commands that wait are `cs`. A structure, so that unification does not look into the states. -/
structure State.Queue (s : State) (cs : List Instr) : Prop where
  waits : s.pending = cs

/-- In the state of a pair the commands that wait are `cs`. -/
def QueueFst {α : Type} (cs : List Instr) (p : State × α) : Prop := p.1.Queue cs

/-- So it is in the state of an optional pair, where there is one. -/
def QueueSome {α : Type} (cs : List Instr) (o : Option (State × α)) : Prop := ∀ p, o = some p → QueueFst cs p

/-- So it is in an optional state, where there is one. -/
def QueueOpt (cs : List Instr) (o : Option State) : Prop := ∀ t, o = some t → t.Queue cs

/-- The outcome is a next state, in which the commands that wait are `cs`. -/
def QueueNext (cs : List Instr) (o : Host.Outcome State Fault Refusal) : Prop := ∃ t, o = .next t ∧ t.Queue cs

section Shapes
variable {s t : State} {cs : List Instr} {α β : Type} {c : Prop} [Decidable c]

theorem State.Queue.of_same (h : s.Queue cs) (hp : t.pending = s.pending := by rfl) : t.Queue cs := ⟨hp ▸ h.waits⟩
theorem State.Queue.withClk (h : s.Queue cs) {k : Clk} : State.Queue { s with clk := k } cs := h.of_same

theorem State.Queue.ite (hs : s.Queue cs) (ht : t.Queue cs) : (if c then s else t).Queue cs := by
  split
  · exact hs
  · exact ht

theorem State.Queue.foldl {f : State → β → State} {l : List β} (h : s.Queue cs)
    (hf : ∀ s : State, s.Queue cs → ∀ x, (f s x).Queue cs) : (l.foldl f s).Queue cs := by
  induction l generalizing s with
  | nil => exact h
  | cons x r ih => exact ih (hf s h x)

theorem State.Queue.pair {x : α} (h : s.Queue cs) : QueueFst cs (s, x) := h
theorem State.Queue.some (h : s.Queue cs) : QueueOpt cs (some s) := by rintro _ ⟨⟩; exact h
theorem QueueNext.next (h : s.Queue cs) : QueueNext cs (.next s) := ⟨_, rfl, h⟩

theorem QueueSome.none : QueueSome cs (none : Option (State × α)) := fun _ e => by simp at e
theorem QueueOpt.none : QueueOpt cs none := fun _ e => by simp at e

theorem QueueFst.fst {p : State × α} (h : QueueFst cs p) : p.1.Queue cs := h
theorem QueueFst.of_eq {p : State × α} {x : α} (h : QueueFst cs p) (e : p = (s, x)) : s.Queue cs := by subst e; exact h
theorem QueueFst.some {p : State × α} (h : QueueFst cs p) : QueueSome cs (some p) := by rintro _ ⟨⟩; exact h
theorem QueueSome.of_eq {o : Option (State × α)} {p : State × α} (h : QueueSome cs o) (e : o = some p) : QueueFst cs p := h _ e
theorem QueueOpt.of_eq {o : Option State} (h : QueueOpt cs o) (e : o = some s) : s.Queue cs := h _ e

theorem QueueFst.ite {p q : State × α} (hp : QueueFst cs p) (hq : QueueFst cs q) : QueueFst cs (if c then p else q) := by
  split
  · exact hp
  · exact hq

theorem QueueSome.ite {p q : Option (State × α)} (hp : QueueSome cs p) (hq : QueueSome cs q) :
    QueueSome cs (if c then p else q) := by
  split
  · exact hp
  · exact hq

theorem QueueOpt.ite {p q : Option State} (hp : QueueOpt cs p) (hq : QueueOpt cs q) : QueueOpt cs (if c then p else q) := by
  split
  · exact hp
  · exact hq

theorem QueueNext.ite {p q : Host.Outcome State Fault Refusal} (hp : QueueNext cs p) (hq : QueueNext cs q) :
    QueueNext cs (if c then p else q) := by
  split
  · exact hp
  · exact hq

theorem QueueFst.foldl {f : State × α → β → State × α} {p : State × α} {l : List β} (h : QueueFst cs p)
    (hf : ∀ p, QueueFst cs p → ∀ x, QueueFst cs (f p x)) : QueueFst cs (l.foldl f p) := by
  induction l generalizing p with
  | nil => exact h
  | cons x r ih => exact ih (hf p h x)

end Shapes
end Sys2Proof.Machine
end

section
/-!
SUPPORT. Every operation of the model leaves the queue, and every command answers a next state: one lemma for each, in the order and
under the names of the model's files. A proof mirrors its definition, as those of the canonical form do: a chain of operations is a
chain of their lemmas, a branch is `.ite`, a fold is `.foldl`, a `match` is a `split`; a `let` that several operations read gets a
`have` of its own.
-/

namespace Sys2Proof.Machine

-- One thread after the other: a thread per proof needs more stack space than the check leaves.
set_option Elab.async false

variable {s : State} {cs : List Instr}

/-! ## Sys2Proof/Machine/Ops.lean -/

theorem State.Queue.wr (h : s.Queue cs) {p o v} : (s.wr p o v).Queue cs := h.of_same
theorem State.Queue.wfld (h : s.Queue cs) {p o hi lo v} : (s.wfld p o hi lo v).Queue cs := h.wr
theorem State.Queue.wr64 (h : s.Queue cs) {p lo hi v} : (s.wr64 p lo hi v).Queue cs := h.wr.wr
theorem State.Queue.seqUp (h : s.Queue cs) {p o} : (s.seqUp p o).Queue cs := h.wfld
theorem State.Queue.setPg (h : s.Queue cs) {p} {f : PageSt → PageSt} : (s.setPg p f).Queue cs := h.of_same
theorem State.Queue.setPrg (h : s.Queue cs) {f : PrgSt → PrgSt} : (s.setPrg f).Queue cs := h.of_same
theorem State.Queue.passWales (h : s.Queue cs) {n} : (s.passWales n).Queue cs := .ite h.of_same.wr h.of_same
theorem State.Queue.waleFresh (h : s.Queue cs) : s.waleFresh.Queue cs := h.of_same
theorem State.Queue.idleWale (h : s.Queue cs) {w0} : (s.idleWale w0).Queue cs := .ite h.of_same h
theorem State.Queue.moveClock (h : s.Queue cs) {loc} : (s.moveClock loc).Queue cs := h.of_same.passWales.idleWale
theorem State.Queue.advance (h : s.Queue cs) {k} : (s.advance k).Queue cs := .ite h.of_same.moveClock h.of_same
theorem State.Queue.advanceTo (h : s.Queue cs) {t} : (s.advanceTo t).Queue cs := .ite h h.advance
theorem State.Queue.atStep (h : s.Queue cs) {k} : (s.atStep k).Queue cs := h.of_same
theorem State.Queue.takeFree (h : s.Queue cs) : s.takeFree.Queue cs := h.of_same
theorem State.Queue.setCtr (h : s.Queue cs) {p c sub v} : (s.setCtr p c sub v).Queue cs := h.of_same
theorem State.Queue.bumpW (h : s.Queue cs) {p c sub n} : (s.bumpW p c sub n).Queue cs := h.setCtr
theorem State.Queue.enqueueRecord (h : s.Queue cs) {r} : (s.enqueueRecord r).Queue cs := by
  unfold State.enqueueRecord
  extract_lets _ _ s1
  have h1 : s1.Queue cs := .ite h.bumpW h
  exact .ite h1.bumpW (.ite h1 (.ite h1.of_same h1.of_same))
theorem State.Queue.logPut (h : s.Queue cs) {r} : (s.logPut r).Queue cs := h.of_same
theorem State.Queue.logRecord (h : s.Queue cs) {r} : (s.logRecord r).Queue cs := by
  refine .ite h ?_
  extract_lets s1
  have h1 : s1.Queue cs := h.logPut.bumpW
  exact .ite h1.setCtr h1
theorem State.Queue.record (h : s.Queue cs) {r} : (s.record r).Queue cs := .ite h.of_same h.of_same.logRecord.enqueueRecord
theorem State.Queue.memError (h : s.Queue cs) {e} : (s.memError e).Queue cs := .ite h.setPrg h
theorem State.Queue.markEvent (h : s.Queue cs) {p code} : (s.markEvent p code).Queue cs := .wr (.ite h.wfld h)
theorem State.Queue.raiseOnce (h : s.Queue cs) {p e arg arg2 forced} : (s.raiseOnce p e arg arg2 forced).Queue cs := by
  unfold State.raiseOnce
  extract_lets s1
  have h1 : s1.Queue cs := .ite h h.memError
  exact .ite h1.markEvent.record h1.markEvent
theorem State.Queue.raiseWith (h : s.Queue cs) {p e arg arg2 forced} : (s.raiseWith p e arg arg2 forced).Queue cs :=
  .ite h.raiseOnce.raiseOnce h.raiseOnce
theorem State.Queue.diverge (h : s.Queue cs) {cause ty} : (s.diverge cause ty).Queue cs :=
  .ite (.raiseWith (.ite h.setPrg.setCtr.raiseWith h.setPrg.setCtr)) h
theorem State.Queue.raise (h : s.Queue cs) {p e arg arg2} : (s.raise p e arg arg2).Queue cs :=
  .ite h.raiseWith.diverge h.raiseWith
theorem State.Queue.bumpAt (h : s.Queue cs) {p c sub n satOff} : (s.bumpAt p c sub n satOff).Queue cs := by
  unfold State.bumpAt
  split
  · exact h.bumpW
  · exact .ite h.setCtr.raise h.setCtr
theorem State.Queue.bump (h : s.Queue cs) {p c} : (s.bump p c).Queue cs := h.bumpAt
theorem State.Queue.bumpN (h : s.Queue cs) {p c n} : (s.bumpN p c n).Queue cs := h.bumpAt
theorem State.Queue.bumpLane (h : s.Queue cs) {p k c n} : (s.bumpLane p k c n).Queue cs := h.bumpAt
theorem State.Queue.accessErr (h : s.Queue cs) {p o cause src v} : (s.accessErr p o cause src v).Queue cs :=
  .ite h.bump h.bump.wr.wr.wr.raise
theorem State.Queue.tset (h : s.Queue cs) {p t plane e ws} : (s.tset p t plane e ws).Queue cs :=
  h.of_same
theorem State.Queue.tsetW (h : s.Queue cs) {p t plane e i w} : (s.tsetW p t plane e i w).Queue cs := h.tset
theorem State.Queue.tsetF (h : s.Queue cs) {p t plane e i hi lo v} : (s.tsetF p t plane e i hi lo v).Queue cs := h.tsetW
theorem State.Queue.ringIrq (h : s.Queue cs) {p k} : (s.ringIrq p k).Queue cs := .ite h.of_same h
theorem State.Queue.ringWrite (h : s.Queue cs) {p k ws} : (s.ringWrite p k ws).Queue cs := by
  unfold State.ringWrite
  extract_lets _ _ _ _ _ _ _ _ _ _ s1
  have h1 : s1.Queue cs := .ite h.of_same.wr.ringIrq h.of_same.wr
  exact .ite h1 h1.raise
theorem State.Queue.refreshReady (h : s.Queue cs) {p hostAct} : (s.refreshReady p hostAct).Queue cs := by
  unfold State.refreshReady
  extract_lets _ _ s1
  have h1 : s1.Queue cs := h.wfld.wfld
  exact .ite h1.raise (.ite h1.raise h1)
theorem State.Queue.refreshAll (h : s.Queue cs) {ps hostAct} : (s.refreshAll ps hostAct).Queue cs :=
  h.foldl fun _ h1 _ => h1.refreshReady

/-! ## Sys2Proof/Machine/Mem.lean -/

theorem State.Queue.setMem (h : s.Queue cs) {f : MemSt → MemSt} : (s.setMem f).Queue cs := h.of_same
theorem State.Queue.rangeErr (h : s.Queue cs) {a} : (s.rangeErr a).Queue cs := by
  unfold State.rangeErr
  extract_lets s1
  have h1 : s1.Queue cs := h.bump
  exact .ite h1 h1.of_same.raise
theorem State.Queue.dramSet (h : s.Queue cs) {a b} : (s.dramSet a b).Queue cs := .ite h (.ite h.setMem h.setMem)
theorem State.Queue.dramFill (h : s.Queue cs) {a bs} : (s.dramFill a bs).Queue cs := by
  induction bs generalizing s a with
  | nil => exact h
  | cons b r ih => exact ih h.dramSet
theorem State.Queue.dramPut (h : s.Queue cs) {a bs} : (s.dramPut a bs).Queue cs := .ite h.dramFill (h.dramFill.setMem)
theorem State.Queue.sramPut (h : s.Queue cs) {a bs} : (s.sramPut a bs).Queue cs :=
  h.of_same
theorem State.Queue.pktPut (h : s.Queue cs) {a bs} : (s.pktPut a bs).Queue cs :=
  h.of_same
theorem State.Queue.strayWrite (h : s.Queue cs) {src o v} : (s.strayWrite src o v).Queue cs := h.accessErr
theorem State.Queue.access (h : s.Queue cs) {src p o v} {k : State → State} (hk : ∀ s, s.Queue cs → (k s).Queue cs) :
    (s.access src p o v k).Queue cs :=
  .ite h (.ite h.strayWrite (.ite h.accessErr (.ite (hk _ h.setPrg) (hk _ h))))
theorem State.Queue.applying (h : s.Queue cs) {k : State → State} (hk : ∀ s, s.Queue cs → (k s).Queue cs) :
    (s.applying k).Queue cs := by
  unfold State.applying
  exact (hk _ h.setPrg).setPrg
theorem State.Queue.portAccess (h : s.Queue cs) {port p o v} {k : State → State} (hk : ∀ s, s.Queue cs → (k s).Queue cs) :
    (s.portAccess port p o v k).Queue cs :=
  .ite (h.access hk) (.ite h (hk _ h))
theorem State.Queue.portRequest (h : s.Queue cs) {port p args go} {k : State → State}
    (hk : ∀ s, s.Queue cs → (k s).Queue cs) : (s.portRequest port p args go k).Queue cs := by
  induction args generalizing s with
  | nil => exact h.portAccess hk
  | cons a r ih => exact .ite (h.access fun _ h1 => ih h1.wr) (.ite h (hk _ h))
theorem State.Queue.tblRefuse (h : s.Queue cs) {src p cause ws} : (s.tblRefuse src p cause ws).Queue cs := h.accessErr

/-! ## Sys2Proof/Machine/Task.lean -/

theorem State.Queue.setRve (h : s.Queue cs) {f : RveSt → RveSt} : (s.setRve f).Queue cs := h.of_same
theorem State.Queue.setTask (h : s.Queue cs) {id} {f : Task → Task} : (s.setTask id f).Queue cs := h.setRve.wfld
theorem State.Queue.freeTask (h : s.Queue cs) {id} : (s.freeTask id).Queue cs := h.setTask
theorem State.Queue.recordsLost (h : s.Queue cs) {q} : (s.recordsLost q).Queue cs :=
  h.foldl fun _ h1 _ => h1.bump.freeTask

/-! ## Sys2Proof/Machine/Coil.lean -/

theorem State.Queue.setCol (h : s.Queue cs) {f : ColSt → ColSt} : (s.setCol f).Queue cs := h.of_same
theorem State.Queue.setCq (h : s.Queue cs) {q} {f : ColQ → ColQ} : (s.setCq q f).Queue cs := h.setCol
theorem State.Queue.qPut (h : s.Queue cs) {q o bs} : (s.qPut q o bs).Queue cs := by
  induction bs generalizing s o with
  | nil => exact h
  | cons b r ih => exact ih (.ite h.dramSet h.sramPut)
theorem State.Queue.qStop (h : s.Queue cs) {q o} : (s.qStop q o).Queue cs := h.tsetF.raise.recordsLost
theorem State.Queue.colAnswer (h : s.Queue cs) {port status ofs len} : (s.colAnswer port status ofs len).Queue cs := by
  unfold State.colAnswer
  extract_lets s1
  have h1 : s1.Queue cs := .ite h.bump h
  exact .ite h1.setCol.wfld.wr.wfld.seqUp h1.setCol
theorem State.Queue.noCredit (h : s.Queue cs) {port q status} : (s.noCredit port q status).Queue cs :=
  h.bump.raise.colAnswer
theorem State.Queue.colReserve (h : s.Queue cs) {port q size} : (s.colReserve port q size).Queue cs := by
  refine .ite h.colAnswer ?_
  split
  · exact h.noCredit
  · exact .ite h.colAnswer (.ite h.noCredit h.qPut.tsetF.setCq.bump.colAnswer)
theorem State.Queue.colCommit (h : s.Queue cs) {port q ofs len skip} : (s.colCommit port q ofs len skip).Queue cs := by
  refine .ite h.colAnswer ?_
  split
  · exact h.colAnswer
  · exact .ite h.colAnswer h.qPut.setCq.colAnswer
theorem State.Queue.nextWalk (h : s.Queue cs) {q n} : QueueFst cs (s.nextWalk q n) := by
  induction n generalizing s with
  | zero => exact .pair h
  | succ n ih =>
    exact .ite (.pair h) (.ite (.pair h.qStop) (.ite (.pair h) (.ite (ih h.setCq.bump) (.pair h.setCq.bump))))
theorem State.Queue.colNext (h : s.Queue cs) {port q} : QueueFst cs (s.colNext port q) := by
  refine .ite (.pair h.colAnswer) (.ite (.pair h.colAnswer) ?_)
  split
  · next e1 => exact .pair ((h.nextWalk.of_eq e1).colAnswer)
  · next e2 => exact .pair ((h.nextWalk.of_eq e2).colAnswer)
theorem State.Queue.giveBack (h : s.Queue cs) {hs} : (s.giveBack hs).Queue cs := by
  induction hs generalizing s with
  | nil => exact h
  | cons d r ih => exact ih h.tsetF
theorem State.Queue.freeTo (h : s.Queue cs) {q e hs} : (s.freeTo q e hs).Queue cs := by
  unfold State.freeTo
  exact h.giveBack.bumpN.setCq
theorem State.Queue.colRelease (h : s.Queue cs) {port q e} : (s.colRelease port q e).Queue cs := by
  refine .ite h.colAnswer (.ite h.colAnswer ?_)
  split
  · exact h.freeTo.colAnswer
  · exact h.qStop.colAnswer
  · exact h.colAnswer
theorem State.Queue.colSend (h : s.Queue cs) {port q payload} : QueueFst cs (s.colSend port q payload) :=
  .ite (.pair h.colReserve.qPut.colCommit) (.pair h.colReserve)
theorem State.Queue.colTake (h : s.Queue cs) {port q} : QueueFst cs (s.colTake port q) := by
  unfold State.colTake
  split
  · next e1 => exact .pair ((h.colNext.of_eq e1).colRelease)
  · next e2 => exact .pair (h.colNext.of_eq e2)
theorem State.Queue.queueTurned (h : s.Queue cs) {q new} : (s.queueTurned q new).Queue cs := by
  unfold State.queueTurned
  extract_lets s1 _ s2
  have h1 : s1.Queue cs := h.tset.setCq.setCol
  have h2 : s2.Queue cs := .ite h1.of_same h1
  exact .ite h2.recordsLost h2
theorem State.Queue.wbQueue (h : s.Queue cs) {src q ws} : (s.wbQueue src q ws).Queue cs :=
  .ite h.tblRefuse (.ite h.tblRefuse (.ite (.ite h.tset h.tblRefuse) h.queueTurned))
theorem State.Queue.wbGrant (h : s.Queue cs) {src g ws} : (s.wbGrant src g ws).Queue cs := by
  refine .ite h.tblRefuse ?_
  refine .ite h.tblRefuse ?_
  exact .ite h.tblRefuse (.ite h.tblRefuse (.ite h.tblRefuse (.ite h.tblRefuse (.ite h.tblRefuse h.tset))))
theorem State.Queue.skipResv (h : s.Queue cs) {owner q} : (s.skipResv owner q).Queue cs := by
  unfold State.skipResv
  exact (h.foldl fun _ h1 _ => h1.qPut).setCq
theorem State.Queue.clearGrant (h : s.Queue cs) {g} : (s.clearGrant g).Queue cs := h.tsetF.setCol
theorem State.Queue.clearGrants (h : s.Queue cs) {owner} : (s.clearGrants owner).Queue cs :=
  h.foldl fun _ h1 _ => .ite h1.clearGrant h1
/-- The definition is unfolded as a function, before its arguments: the kernel would otherwise walk `relWalk`'s fuel. -/
theorem State.Queue.reclaimConsumer (h : s.Queue cs) {q} : (s.reclaimConsumer q).Queue cs := by
  obtain ⟨f, hf⟩ : ∃ f, f = State.reclaimConsumer := ⟨_, rfl⟩
  rw [← hf]
  delta State.reclaimConsumer at hf
  subst hf
  beta_reduce
  split
  · exact h.freeTo.setCq
  · exact h.qStop.setCq
  · exact h.setCq
theorem State.Queue.colWalk (h : s.Queue cs) {owner} : (s.colWalk owner).Queue cs :=
  (h.foldl fun _ h1 _ => h1.skipResv).clearGrants.foldl fun _ h2 _ => .ite h2.reclaimConsumer h2
theorem State.Queue.colMark (h : s.Queue cs) {port q} : (s.colMark port q).Queue cs :=
  .ite h.colAnswer (.ite h.colAnswer h.setCq.colAnswer)
theorem State.Queue.colRewind (h : s.Queue cs) {port q} : (s.colRewind port q).Queue cs :=
  .ite h.colAnswer (.ite h.colAnswer (.ite h.setCq.colAnswer h.bump.raise.colAnswer))
theorem State.Queue.execReserve (h : s.Queue cs) {port q size} : QueueNext cs (execReserve port q size s) :=
  .next (h.portRequest fun _ h1 => h1.colReserve)
theorem State.Queue.execCommit (h : s.Queue cs) {port q ofs len skip} :
    QueueNext cs (execCommit port q ofs len skip s) :=
  .next (h.portRequest fun _ h1 => h1.colCommit)
theorem State.Queue.execNext (h : s.Queue cs) {port q} : QueueNext cs (execNext port q s) :=
  .next (h.portRequest fun _ h1 => h1.colNext.fst)
theorem State.Queue.execRelease (h : s.Queue cs) {port q ofs} : QueueNext cs (execRelease port q ofs s) :=
  .next (h.portRequest fun _ h1 => h1.colRelease)
theorem State.Queue.execMark (h : s.Queue cs) {port q} : QueueNext cs (execMark port q s) :=
  .next (h.portRequest fun _ h1 => h1.colMark)
theorem State.Queue.execRewind (h : s.Queue cs) {port q} : QueueNext cs (execRewind port q s) :=
  .next (h.portRequest fun _ h1 => h1.colRewind)
theorem State.Queue.execCoilReclaim (h : s.Queue cs) {src owner} : QueueNext cs (execCoilReclaim src owner s) := by
  refine .next (h.access fun _ h1 => ?_)
  extract_lets s2
  have h2 : ∀ x1, (s2 x1).Queue cs := fun _ => h1.wfld.seqUp.raise
  refine .ite (h2 _) ?_
  split
  · exact h2 _
  · exact h1.wfld.setCol.colWalk
theorem State.Queue.execColReclaimDone (h : s.Queue cs) : QueueNext cs (execColReclaimDone s) := by
  unfold Machine.execColReclaimDone
  split
  · exact .next h
  · exact .next h.wfld.seqUp.setCol.raise

/-! ## Sys2Proof/Machine/Creel.lean -/

theorem State.Queue.setCrl (h : s.Queue cs) {f : CrlSt → CrlSt} : (s.setCrl f).Queue cs := h.of_same
theorem State.Queue.bufPut (h : s.Queue cs) {handle o bs} : (s.bufPut handle o bs).Queue cs := .ite h.dramPut h.pktPut
theorem State.Queue.setOwners (h : s.Queue cs) {handle l} : (s.setOwners handle l).Queue cs := h.setCrl
theorem State.Queue.refreshFree (h : s.Queue cs) {pool} : (s.refreshFree pool).Queue cs := .ite h.tsetF.raise h.tsetF
theorem State.Queue.metaErr (h : s.Queue cs) {pool line} : (s.metaErr pool line).Queue cs := h.setCrl.raise.refreshFree
theorem State.Queue.crlAnswer (h : s.Queue cs) {port status handle} : (s.crlAnswer port status handle).Queue cs :=
  .ite h.setCrl.wfld.wr.seqUp h.setCrl
theorem State.Queue.ownRefused (h : s.Queue cs) {port op status handle newOwner} :
    (s.ownRefused port op status handle newOwner).Queue cs :=
  .ite h.bump.raise.ringWrite h.bump.raise.bump
theorem State.Queue.crlRefuse (h : s.Queue cs) {port op status handle newOwner} :
    (s.crlRefuse port op status handle newOwner).Queue cs := by
  unfold State.crlRefuse
  extract_lets s1
  have h1 : s1.Queue cs := by
    refine .ite h.ownRefused (.ite ?_ h)
    split
    · exact h.metaErr
    · exact h
  exact h1.crlAnswer
theorem State.Queue.dropOwner (h : s.Queue cs) {handle owner} : (s.dropOwner handle owner).Queue cs :=
  .ite h.setOwners.bump.refreshFree h.setOwners
theorem State.Queue.crlAlloc (h : s.Queue cs) {port pool} : QueueFst cs (s.crlAlloc port pool) := by
  refine .ite (.pair h.crlAnswer) ?_
  split
  · exact .pair h.bump.crlAnswer
  · extract_lets
    split
    · exact .pair h.metaErr.crlAnswer
    · exact .pair h.setOwners.bump.refreshFree.crlAnswer
theorem State.Queue.crlFree (h : s.Queue cs) {port handle} : (s.crlFree port handle).Queue cs := by
  unfold State.crlFree
  split
  · exact h.setOwners.bump.refreshFree.crlAnswer
  · exact h.crlRefuse
theorem State.Queue.crlAdd (h : s.Queue cs) {port handle newOwner} : (s.crlAdd port handle newOwner).Queue cs := by
  unfold State.crlAdd
  split
  · exact h.setOwners.crlAnswer
  · exact h.crlRefuse
theorem State.Queue.crlDrop (h : s.Queue cs) {port handle} : (s.crlDrop port handle).Queue cs := by
  unfold State.crlDrop
  split
  · exact h.setOwners.crlAnswer
  · exact h.crlRefuse
theorem State.Queue.wbPool (h : s.Queue cs) {src pool ws} : (s.wbPool src pool ws).Queue cs := by
  unfold State.wbPool
  extract_lets _ _ s1
  have h1 : s1.Queue cs := h.tset
  exact .ite (.ite h.tset (.ite h.tset h.tblRefuse)) (.ite h1.of_same h.tblRefuse)
theorem State.Queue.metaWritten (h : s.Queue cs) {pool} : (s.metaWritten pool).Queue cs := .ite (h.setMem) h
theorem State.Queue.poolOn (h : s.Queue cs) {pool} : (s.poolOn pool).Queue cs :=
  .ite h.metaWritten.setCrl.tsetF.tsetF.raise h
theorem State.Queue.reclaimOne (h : s.Queue cs) {owner handle} : (s.reclaimOne owner handle).Queue cs := by
  unfold State.reclaimOne
  split
  · exact h.metaErr
  · exact h.dropOwner.bump.setCrl
theorem State.Queue.crlWalk (h : s.Queue cs) {owner} : (s.crlWalk owner).Queue cs := h.foldl fun _ h1 _ => h1.reclaimOne
theorem State.Queue.wbOwnerMap (h : s.Queue cs) {src port ws} : (s.wbOwnerMap src port ws).Queue cs := by
  unfold State.wbOwnerMap
  split
  · exact .ite h.tblRefuse h.tset
  · exact h.tblRefuse
theorem State.Queue.execOwnerMapWriteback (h : s.Queue cs) {src port v} :
    QueueNext cs (execOwnerMapWriteback src port v s) :=
  .next (h.access fun _ h1 => h1.wbOwnerMap)
theorem State.Queue.execPoolReady (h : s.Queue cs) {pool} : QueueNext cs (execPoolReady pool s) := .next h.poolOn
theorem State.Queue.execAlloc (h : s.Queue cs) {port pool} : QueueNext cs (execAlloc port pool s) :=
  .next (h.portRequest fun _ h1 => h1.crlAlloc.fst)
theorem State.Queue.execAdd (h : s.Queue cs) {port handle owner} : QueueNext cs (execAdd port handle owner s) :=
  .next (h.portRequest fun _ h1 => h1.crlAdd)
theorem State.Queue.execDrop (h : s.Queue cs) {port handle} : QueueNext cs (execDrop port handle s) :=
  .next (h.portRequest fun _ h1 => h1.crlDrop)
theorem State.Queue.execFree (h : s.Queue cs) {port handle} : QueueNext cs (execFree port handle s) :=
  .next (h.portRequest fun _ h1 => h1.crlFree)
theorem State.Queue.execCreelReclaim (h : s.Queue cs) {src owner} : QueueNext cs (execCreelReclaim src owner s) := by
  refine .next (h.access fun _ h1 => ?_)
  extract_lets s2
  have h2 : ∀ x1, (s2 x1).Queue cs := fun _ => h1.wfld.seqUp.raise
  refine .ite (h2 _) ?_
  split
  · exact h2 _
  · exact h1.wfld.setCrl.crlWalk
theorem State.Queue.execCrlReclaimDone (h : s.Queue cs) : QueueNext cs (execCrlReclaimDone s) := by
  unfold Machine.execCrlReclaimDone
  split
  · exact .next h
  · exact .next h.wfld.seqUp.setCrl.raise

/-! ## Sys2Proof/Machine/Lay.lean -/

theorem State.Queue.prgSend (h : s.Queue cs) {m} : (s.prgSend m).Queue cs := h.setPrg
theorem State.Queue.digestSend (h : s.Queue cs) {key idx dig} : (s.digestSend key idx dig).Queue cs := by
  unfold State.digestSend
  exact h.setPrg
theorem State.Queue.layPut (h : s.Queue cs) {e} : (s.layPut e).Queue cs := h.setPrg.prgSend.bump
theorem State.Queue.closeBoundary (h : s.Queue cs) : s.closeBoundary.Queue cs := by
  unfold State.closeBoundary
  split
  · exact h
  · exact .ite h.setPrg.layPut h.setPrg
theorem State.Queue.carryWrites (h : s.Queue cs) : s.carryWrites.Queue cs :=
  h.setPrg.foldl fun _ h1 _ => h1.prgSend.layPut
theorem State.Queue.lay (h : s.Queue cs) {ty flags body} : (s.lay ty flags body).Queue cs :=
  .ite h.closeBoundary.carryWrites.layPut h
theorem State.Queue.layRefuse (h : s.Queue cs) {kind ident} : (s.layRefuse kind ident).Queue cs := h.lay
theorem State.Queue.layItem (h : s.Queue cs) {kind a b c} : (s.layItem kind a b c).Queue cs := .ite h.setPrg h
theorem State.Queue.refusal (h : s.Queue cs) {kind ident ty own} : QueueFst cs (s.refusal kind ident ty own) :=
  .ite (.ite (.pair h.setPrg) (.ite (.pair h.diverge) (.pair h))) (.ite (.pair h.layRefuse) (.pair h))
theorem State.Queue.deferWb (h : s.Queue cs) {src p t e ws} {now : State → State}
    (hnow : ∀ s, s.Queue cs → (now s).Queue cs) : (s.deferWb src p t e ws now).Queue cs :=
  .ite h.of_same (hnow _ h)
theorem State.Queue.writeBack (h : s.Queue cs) {src p t e ws} {now : State → State}
    (hnow : ∀ s, s.Queue cs → (now s).Queue cs) : (s.writeBack src p t e ws now).Queue cs :=
  h.access fun _ h1 => .deferWb (.ite h1.setPrg h1) hnow

/-! ## Sys2Proof/Machine/Icl.lean -/

theorem State.Queue.setIcl (h : s.Queue cs) {f : IclSt → IclSt} : (s.setIcl f).Queue cs := h.of_same
theorem State.Queue.setCpe (h : s.Queue cs) {f : CpeSt → CpeSt} : (s.setCpe f).Queue cs := h.of_same
theorem State.Queue.setLfw (h : s.Queue cs) {f : LfwSt → LfwSt} : (s.setLfw f).Queue cs := h.of_same
theorem State.Queue.setCtx (h : s.Queue cs) {scid i hi lo v} : (s.setCtx scid i hi lo v).Queue cs := h.tsetF
theorem State.Queue.cleanLine (h : s.Queue cs) {line} : (s.cleanLine line).Queue cs := h.setMem
theorem State.Queue.setLink (h : s.Queue cs) {lane b v} : (s.setLink lane b v).Queue cs := h.wfld
theorem State.Queue.execEthLinkUp (h : s.Queue cs) {lane} : QueueNext cs (execEthLinkUp lane s) :=
  .next (.ite h.setLink.raise h)
theorem State.Queue.linkDown (h : s.Queue cs) {lane} : (s.linkDown lane).Queue cs := .ite h.setLink.setLink.raise h
theorem State.Queue.execEthLinkDown (h : s.Queue cs) {lane} : QueueNext cs (execEthLinkDown lane s) := .next h.linkDown
theorem State.Queue.execEthHiSer (h : s.Queue cs) {lane up} : QueueNext cs (execEthHiSer lane up s) :=
  .next (.ite h (.ite h.setLink.raise h.setLink))
theorem State.Queue.fecCount (h : s.Queue cs) {lane n} : (s.fecCount lane n).Queue cs := .ite h.bumpLane h
theorem State.Queue.frameCount (h : s.Queue cs) {lane len fcsOk} : (s.frameCount lane len fcsOk).Queue cs :=
  .ite h.bumpLane.bumpLane h
theorem State.Queue.execEthRxFrame (h : s.Queue cs) {lane bytes chk} : QueueNext cs (execEthRxFrame lane bytes chk s) := by
  unfold Machine.execEthRxFrame
  extract_lets
  refine .next (.ite h.fecCount ?_)
  split
  · next e1 => exact (h.fecCount.frameCount.crlAlloc.of_eq e1).bumpLane
  · next s2 _ e3 =>
      have h2 : s2.Queue cs := h.fecCount.frameCount.crlAlloc.of_eq e3
      refine .ite h2.bumpLane.crlFree ?_
      exact .ite h2.bumpLane.crlFree (.ite h2.bumpLane.crlFree (.ite h2.bumpLane.crlFree h2.bufPut.setIcl))
theorem State.Queue.iclFree (h : s.Queue cs) {handle} : (s.iclFree handle).Queue cs := h.crlFree
theorem State.Queue.iclDrop (h : s.Queue cs) {c handle} : (s.iclDrop c handle).Queue cs := h.bump.iclFree
theorem State.Queue.iclExc (h : s.Queue cs) {r frame reason handle} : (s.iclExc r frame reason handle).Queue cs := by
  unfold State.iclExc
  extract_lets
  refine .ite h.iclDrop ?_
  split
  · next e1 => exact (h.colSend.of_eq e1).setIcl.bump.iclFree
  · next e2 => exact (h.colSend.of_eq e2).iclDrop
theorem State.Queue.setPol (h : s.Queue cs) {e v} : (s.setPol e v).Queue cs := h.setIcl
theorem State.Queue.police (h : s.Queue cs) {e len t} : QueueFst cs (s.police e len t) :=
  .ite (.pair h) (.ite (.pair h.setPol.bumpW) (.pair h.setPol.bumpW))
theorem State.Queue.policePkt (h : s.Queue cs) {p} : QueueFst cs (s.policePkt p) := by
  refine .ite (.pair (QueueFst.fst (.ite h.police (.pair h)))) ?_
  refine .ite (State.Queue.police (QueueFst.fst (.ite h.police (.pair h)))) ?_
  exact .pair (QueueFst.fst (.ite h.police (.pair h)))
theorem State.Queue.setCpeQ (h : s.Queue cs) {q l} : (s.setCpeQ q l).Queue cs := h.setCpe.tsetF
theorem State.Queue.toCpe (h : s.Queue cs) {p} : (s.toCpe p).Queue cs := by
  unfold State.toCpe
  extract_lets _ s1
  have h1 : s1.Queue cs := h.bump.iclFree
  exact .ite h.bump.iclFree (.ite (.ite h1 h1.setCpe.raise) h.setCpeQ.bump)
theorem State.Queue.setSkt (h : s.Queue cs) {b k v} : (s.setSkt b k v).Queue cs := h.setIcl
theorem State.Queue.sktInsert (h : s.Queue cs) {leg ssrc scid} : (s.sktInsert leg ssrc scid).Queue cs := by
  unfold State.sktInsert
  split
  · exact h
  · split
    · exact h.setSkt
    · exact h
theorem State.Queue.sktRemove (h : s.Queue cs) {leg ssrc} : (s.sktRemove leg ssrc).Queue cs :=
  h.foldl fun _ h1 _ => h1.setSkt
theorem State.Queue.iclPass (h : s.Queue cs) {p} : (s.iclPass p).Queue cs := by
  unfold State.iclPass
  extract_lets
  refine .ite h.iclDrop (.ite h.iclFree (.ite h.iclDrop (.ite h.setPrg ?_)))
  split
  · next e1 => exact (h.policePkt.of_eq e1).toCpe
  · next e2 => exact (h.policePkt.of_eq e2).iclDrop
theorem State.Queue.iclStream (h : s.Queue cs) {p} : (s.iclStream p).Queue cs :=
  .ite h.iclFree (.ite h.iclPass (.ite h.setIcl.iclDrop (.setIcl (.ite h h.bump))))
theorem State.Queue.iclLookup (h : s.Queue cs) {p key} : (s.iclLookup p key).Queue cs := by
  unfold State.iclLookup
  split
  · exact h.iclExc
  · extract_lets
    refine .ite h.iclDrop ?_
    split
    · exact .ite h.iclExc h.iclDrop
    · exact h.iclStream
theorem State.Queue.iclTreat (h : s.Queue cs) {f} : (s.iclTreat f).Queue cs := by
  unfold State.iclTreat
  split
  · exact h.iclDrop
  · extract_lets
    split
    · exact h.of_same.iclFree
    · exact h.iclDrop
    · exact .ite h.iclDrop h.iclExc
    · refine .ite h.iclDrop ?_
      extract_lets
      split
      · exact h.iclDrop
      · exact h.iclExc
      · exact h
      · exact h.iclLookup
theorem State.Queue.dropPast (h : s.Queue cs) : s.dropPast.Queue cs := by
  exact ((h.foldl fun _ h1 _ => h1.setCpeQ).setIcl.setPrg.setLfw.foldl fun _ h2 _ => h2.iclDrop).foldl fun _ h3 _ =>
    h3.bump.crlFree
theorem State.Queue.mayUnready (h : s.Queue cs) {k : State → State} (hk : ∀ s, s.Queue cs → (k s).Queue cs) :
    (s.mayUnready k).Queue cs := by
  unfold State.mayUnready
  extract_lets _ s1
  have h1 : s1.Queue cs := hk _ h
  exact .ite h1.dropPast h1
theorem State.Queue.execIclFrame (h : s.Queue cs) : QueueNext cs (execIclFrame s) := by
  unfold Machine.execIclFrame
  split
  · exact .next h
  · exact .next h.setIcl.iclTreat
theorem State.Queue.cacheCtx (h : s.Queue cs) {scid} : (s.cacheCtx scid).Queue cs :=
  .ite h (.ite h.setIcl.takeFree h.setIcl)
theorem State.Queue.execIclCtxFetchDone (h : s.Queue cs) {scid} : QueueNext cs (execIclCtxFetchDone scid s) := by
  refine .ite (.next h) ?_
  refine .next ?_
  refine .ite (h.setIcl.setIcl.raise.foldl fun _ h1 _ => h1.iclFree) ?_
  exact h.setIcl.cacheCtx.foldl fun _ h2 _ => h2.iclPass
theorem State.Queue.wbLegKey (h : s.Queue cs) {src e ws} : (s.wbLegKey src e ws).Queue cs :=
  .ite h.tset (.ite h.tblRefuse (.ite h.tblRefuse.raise h.tset))
theorem State.Queue.resetCrypto (h : s.Queue cs) {scid} : (s.resetCrypto scid).Queue cs := h.setCpe.cleanLine
theorem State.Queue.wbCtx (h : s.Queue cs) {src scid ws} : (s.wbCtx src scid ws).Queue cs := by
  unfold State.wbCtx
  extract_lets _ _ _ _ _ _ _ _ _ _ s1 _ _ _ s2 _ s3
  have h1 : s1.Queue cs := .ite h.sktInsert h
  have h2 : s2.Queue cs := .cleanLine (.tset (.ite h1.sktRemove h1))
  have h3 : s3.Queue cs := .ite h2.setIcl.resetCrypto h2.setIcl
  refine .ite h.tblRefuse ?_
  exact .ite h.tblRefuse (.ite h.tblRefuse.raise (.ite h.tblRefuse.raise (.ite h3.setLfw h3)))
theorem State.Queue.wbPolicer (h : s.Queue cs) {src e ws} : (s.wbPolicer src e ws).Queue cs :=
  .ite h.tblRefuse (.ite h.tset.setPol h.tset.setPol)
theorem State.Queue.execLegkeyWriteback (h : s.Queue cs) {src entry ws} :
    QueueNext cs (execLegkeyWriteback src entry ws s) :=
  .next (h.writeBack fun _ h1 => h1.wbLegKey)
theorem State.Queue.execStreamCtxWriteback (h : s.Queue cs) {src scid ws} :
    QueueNext cs (execStreamCtxWriteback src scid ws s) :=
  .next (h.writeBack fun _ h1 => h1.wbCtx)
theorem State.Queue.execPolicerWriteback (h : s.Queue cs) {src entry ws} :
    QueueNext cs (execPolicerWriteback src entry ws s) :=
  .next (h.writeBack fun _ h1 => h1.wbPolicer)

/-! ## Sys2Proof/Machine/Pm.lean -/

theorem State.Queue.setLnu (h : s.Queue cs) {f : LnuSt → LnuSt} : (s.setLnu f).Queue cs := h.of_same
theorem State.Queue.setPm (h : s.Queue cs) {e} {f : PmEnt → PmEnt} : (s.setPm e f).Queue cs := h.setLnu
theorem State.Queue.pmLeg (h : s.Queue cs) {g} {f : PmEnt → PmEnt} : (s.pmLeg g f).Queue cs := .ite h.setPm h
theorem State.Queue.pmAccept (h : s.Queue cs) {g d late} : (s.pmAccept g d late).Queue cs := h.pmLeg
theorem State.Queue.pmSwitch (h : s.Queue cs) {g} : (s.pmSwitch g).Queue cs := h.pmLeg
theorem State.Queue.pmStop (h : s.Queue cs) {g} : (s.pmStop g).Queue cs := h.pmLeg
theorem State.Queue.pmDoubt (h : s.Queue cs) {es} : (s.pmDoubt es).Queue cs := h.foldl fun _ h1 _ => h1.setPm
theorem State.Queue.binRing (h : s.Queue cs) {ws} : QueueFst cs (s.binRing ws) := .ite (.pair h.ringWrite) (.pair h.bump)
theorem State.Queue.binRecords (h : s.Queue cs) {day es} : QueueFst cs (s.binRecords day es) := by
  induction es generalizing s with
  | nil => exact .pair h
  | cons e r ih => exact .pair (ih h.binRing.fst).fst

/-! ## Sys2Proof/Machine/Cpe.lean -/

theorem State.Queue.setKslot (h : s.Queue cs) {k} {f : KeySlot → KeySlot} : (s.setKslot k f).Queue cs := h.setCpe
theorem State.Queue.execKeySlotFetch (h : s.Queue cs) {slot tagOk} : QueueNext cs (execKeySlotFetch slot tagOk s) := by
  unfold Machine.execKeySlotFetch
  extract_lets _ s1
  have h1 : s1.Queue cs := h.bump.setCpe
  exact .next (.ite h (.ite h1 (.ite h1.setKslot (.ite h1.setKslot h1))))
theorem State.Queue.execKeySlotEvict (h : s.Queue cs) {slot} : QueueNext cs (execKeySlotEvict slot s) :=
  .next (.ite h.setCpe.setKslot.cleanLine.cleanLine h)
theorem State.Queue.applyKey (h : s.Queue cs) {slot k} : (s.applyKey slot k).Queue cs := h.setKslot.cleanLine.cleanLine
theorem State.Queue.zeroKeyRegs (h : s.Queue cs) : s.zeroKeyRegs.Queue cs := h.foldl fun _ h1 _ => h1.wr
theorem State.Queue.execKeyLoad (h : s.Queue cs) {src} : QueueNext cs (execKeyLoad src s) :=
  .next (h.access fun _ h1 => .seqUp (.wfld (.zeroKeyRegs (.ite h1 (.ite h1.setCpe h1.applyKey)))))
theorem State.Queue.execKwkLoad (h : s.Queue cs) : QueueNext cs (execKwkLoad s) :=
  .next (.ite h.takeFree.setCpe.refreshReady h)
theorem State.Queue.rqServe (h : s.Queue cs) {pri qs} : QueueSome cs (s.rqServe pri qs) := by
  unfold State.rqServe
  extract_lets _ s1 s2
  have h1 : ∀ s, s.Queue cs → ∀ x2, ∀ x3, (s1 s x2 x3).Queue cs := fun _ h3 _ _ => h3.setCpe
  have h2 : ∀ s, s.Queue cs → ∀ x2, (s2 s x2).Queue cs := fun _ h4 _ => .setCpe (h1 _ h4 _ _)
  refine .ite (.some (.pair (h2 _ h _))) ?_
  split
  · exact .none
  · exact .some (.pair (h2 _ (h.foldl fun _ h5 _ => h1 _ h5 _ _) _))
theorem State.Queue.cpePick (h : s.Queue cs) : QueueSome cs s.cpePick := by
  intro p e
  obtain ⟨pri, -, hp⟩ := List.mem_filterMap.1 (List.mem_of_head? e)
  exact h.rqServe.of_eq hp
theorem State.Queue.popRq (h : s.Queue cs) {q} : (s.popRq q).Queue cs := h.setCpeQ
theorem State.Queue.setCrypto (h : s.Queue cs) {scid c} : (s.setCrypto scid c).Queue cs := h.setCpe
theorem State.Queue.inDrop (h : s.Queue cs) {p c} : (s.inDrop p c).Queue cs := .iclFree (.ite h.bump.raise h.bump)
theorem State.Queue.keyDrop (h : s.Queue cs) {d} : (s.keyDrop d).Queue cs := by
  unfold State.keyDrop
  extract_lets
  split
  · exact h.bump.raise
  · exact h.bump
theorem State.Queue.exhaust (h : s.Queue cs) {scid rtcp} : (s.exhaust scid rtcp).Queue cs :=
  .ite h.setCrypto h.setCrypto.raise
theorem State.Queue.seqVerdict (h : s.Queue cs) {scid seq} : QueueFst cs (s.seqVerdict scid seq) := by
  unfold State.seqVerdict
  extract_lets _ _ _ _ s1
  have h1 : ∀ s, s.Queue cs → (s1 s).Queue cs := fun _ h2 => h2.setCtx
  refine .ite (.pair h.setCtx.setCtx.pmAccept) ?_
  refine .ite (.pair (.pmAccept (h1 _ h))) ?_
  refine .ite (.pair (.pmAccept (h1 _ h.setCtx))) ?_
  refine .ite (.pair (.pmAccept (.bump (h1 _ h)))) ?_
  refine .ite ?_ ?_
  · exact .ite (.pair h.setCtx.setCtx.bump) (.pair (.raise (.bump (.pmAccept (h1 _ h.setCtx)))))
  · exact .pair h.setCtx.setCtx.setCtx.bump
theorem State.Queue.linePut (h : s.Queue cs) {a bs n} : (s.linePut a bs n).Queue cs := h.dramPut.setMem
theorem State.Queue.shedEvent (h : s.Queue cs) : s.shedEvent.Queue cs := by
  unfold State.shedEvent
  split
  · exact h.raise
  · exact h
theorem State.Queue.captureFresh (h : s.Queue cs) : s.captureFresh.Queue cs := h.shedEvent.setIcl
theorem State.Queue.capture (h : s.Queue cs) {p x plain forced} : QueueFst cs (s.capture p x plain forced) :=
  .ite (.pair h) (.ite (.pair h.bump) (.ite (.pair h.setIcl.bumpN.linePut) (.pair h.setIcl.bump.bumpN)))
theorem State.Queue.toLfw (h : s.Queue cs) {handle} : (s.toLfw handle).Queue cs := h.crlAdd.crlDrop
theorem State.Queue.layPkt (h : s.Queue cs) {p idx captured discarded} : (s.layPkt p idx captured discarded).Queue cs :=
  h.lay
theorem State.Queue.inRelease (h : s.Queue cs) {p idx plain record forced} :
    QueueFst cs (s.inRelease p idx plain record forced) := by
  unfold State.inRelease
  extract_lets _ _ s1
  have h1 : s1.Queue cs := h.bump.bumpN
  split
  · next s2 _ e3 =>
      have h2 : s2.Queue cs := QueueFst.of_eq (.ite (.pair h1.bufPut) h1.bufPut.seqVerdict) e3
      extract_lets s4
      clear_value s4
      split
      · exact .pair h2.layPkt.iclFree
      · split
        · next s5 _ e6 =>
            have h5 : s5.Queue cs := QueueFst.of_eq (.ite (.pair h2.bump) h2.bump.capture) e6
            exact .pair (.setLfw (.toLfw (.layPkt (.ite h5.setCrypto.raise h5.setCrypto))))
theorem State.Queue.inbound (h : s.Queue cs) {p forced} : (s.inbound p forced).Queue cs := by
  unfold State.inbound
  extract_lets _ _ _ _ _ _ _ _ _ _ _ _ s1
  have h1 : ∀ x1, (s1 x1).Queue cs := by
    intro _
    unfold s1
    split
    · exact h.inDrop
    · exact h.exhaust.bump.iclFree
    · exact h.inRelease.fst
  split
  · exact h.keyDrop.iclFree
  · refine .ite h.inDrop (.ite h.inDrop ?_)
    split
    · refine .ite ?_ h.inDrop
      split
      · split
        · next e2 => exact (h.inRelease.of_eq e2).setCtx.setCtx.raise
        · next e3 => exact h.inRelease.of_eq e3
      · exact h.exhaust.bump.iclFree
      · exact h.inDrop
    · exact h1 _
theorem State.Queue.execCpeInbound (h : s.Queue cs) : QueueNext cs (execCpeInbound s) := by
  unfold Machine.execCpeInbound
  split
  · next s1 _ e2 =>
      have h1 : s1.Queue cs := (h.cpePick.of_eq e2).fst
      split
      · exact .next (.ite h1.popRq.inbound h1.popRq.iclDrop)
      · exact .next h
  · exact .next h
theorem State.Queue.wbRq (h : s.Queue cs) {src q ws} : (s.wbRq src q ws).Queue cs := .ite h.tblRefuse h.tset
theorem State.Queue.execCpeRqWriteback (h : s.Queue cs) {src q ws} : QueueNext cs (execCpeRqWriteback src q ws s) :=
  .next (h.writeBack fun _ h1 => h1.wbRq)

/-! ## Sys2Proof/Machine/Out.lean -/

theorem State.Queue.setEsc (h : s.Queue cs) {f : EscSt → EscSt} : (s.setEsc f).Queue cs := h.of_same
theorem State.Queue.setLane (h : s.Queue cs) {lane} {f : LaneSt → LaneSt} : (s.setLane lane f).Queue cs := h.setEsc
theorem State.Queue.land (h : s.Queue cs) {f} : (s.land f).Queue cs := h.setLane
theorem State.Queue.stageFrame (h : s.Queue cs) {f} : (s.stageFrame f).Queue cs := by
  unfold State.stageFrame
  exact h.setLane
theorem State.Queue.lfwRelease (h : s.Queue cs) {h'} : (s.lfwRelease h').Queue cs := .ite h.crlFree h.crlDrop
theorem State.Queue.copyDone (h : s.Queue cs) {d} : (s.copyDone d).Queue cs := .ite (.ite h.setLfw.lfwRelease h.setLfw) h
theorem State.Queue.outDrop (h : s.Queue cs) {f} : (s.outDrop f).Queue cs := by
  unfold State.outDrop
  extract_lets
  split
  · exact h.land.copyDone
  · exact h.land
theorem State.Queue.layCopy (h : s.Queue cs) {ty d} : (s.layCopy ty d).Queue cs := h.lay
theorem State.Queue.estRecord (h : s.Queue cs) {g bs} : (s.estRecord g bs).Queue cs := by
  unfold State.estRecord
  extract_lets
  refine .ite ?_ h
  split
  · next e1 => exact h.colSend.of_eq e1
  · next e2 => exact (h.colSend.of_eq e2).bump
theorem State.Queue.sendMap (h : s.Queue cs) {d q} : (s.sendMap d q).Queue cs := .ite h h.dramPut.setLfw

/-! ## Sys2Proof/Machine/Gate.lean -/

theorem State.Queue.gateTell (h : s.Queue cs) {e kind key arg2} : (s.gateTell e kind key arg2).Queue cs :=
  .ite h h.setPrg.raise
theorem State.Queue.disagree (h : s.Queue cs) {key idx mine its} : (s.disagree key idx mine its).Queue cs :=
  .gateTell (.setPrg (.ite h.bump.ringWrite h.bump))
theorem State.Queue.gateRelease (h : s.Queue cs) {f} : (s.gateRelease f).Queue cs := h.stageFrame
theorem State.Queue.gateSuppress (h : s.Queue cs) {f} : (s.gateSuppress f).Queue cs := h.land
theorem State.Queue.gateMatch (h : s.Queue cs) {g its} : (s.gateMatch g its).Queue cs :=
  .ite (.ite h.bump h.bump.gateRelease) (.ite h.disagree.gateSuppress (.ite h.disagree h.disagree.gateRelease))
theorem State.Queue.gateOnly (h : s.Queue cs) {standbys key} : (s.gateOnly standbys key).Queue cs :=
  .ite h.bump.gateTell h.bump.gateTell
theorem State.Queue.gatePassed (h : s.Queue cs) {key idx} : (s.gatePassed key idx).Queue cs :=
  h.setPrg.foldl fun _ h1 _ => h1.gateOnly
theorem State.Queue.gateAnnounce (h : s.Queue cs) {key idx} : (s.gateAnnounce key idx).Queue cs := h.setPrg
theorem State.Queue.gatePkt (h : s.Queue cs) {f key idx dig} : (s.gatePkt f key idx dig).Queue cs := by
  unfold State.gatePkt
  extract_lets s1 s2 _ _ s3
  have h1 : s1.Queue cs := h.digestSend.gatePassed
  have h2 : s2.Queue cs := .ite h1 h1.gateAnnounce
  have h3 : s3.Queue cs := .ite h2.setPrg.gateRelease h2.setPrg
  split
  · exact h3.setPrg.gateMatch
  · exact .ite h3.gateOnly.gateSuppress h3.setPrg
theorem State.Queue.gateOut (h : s.Queue cs) {f key idx plain} : (s.gateOut f key idx plain).Queue cs := by
  refine .ite h.gateRelease ?_
  refine .ite h.gateSuppress ?_
  exact .ite h.gateRelease (.ite h.gatePkt (.ite h.gateSuppress h.digestSend.gateAnnounce.gateRelease))
theorem State.Queue.gateDigest (h : s.Queue cs) {key idx dig} : (s.gateDigest key idx dig).Queue cs := by
  unfold State.gateDigest
  extract_lets _ s1 _ _ s2
  have h2 : s2.Queue cs := .foldl (.setPrg (.ite h.gateAnnounce h)) fun _ h3 _ => h3.gateOnly.gateSuppress
  clear_value s1
  split
  · exact h2.gateMatch
  · exact .ite h2.setPrg h2
theorem State.Queue.gateExpire (h : s.Queue cs) {t} : (s.gateExpire t).Queue cs :=
  h.setPrg.foldl fun _ h1 _ => .ite h1.gateOnly.gateSuppress (.ite h1.gateOnly h1.gateOnly.gateRelease)

/-! ## Sys2Proof/Machine/CpeOut.lean -/

theorem State.Queue.invoke (h : s.Queue cs) {slot} : (s.invoke slot).Queue cs := by
  unfold State.invoke
  extract_lets _ _ _ _ _ s1
  have h1 : s1.Queue cs := .ite h.setKslot.raise h.setKslot
  exact .ite h1.raise h1
theorem State.Queue.assign (h : s.Queue cs) {out rtcp i} : (s.assign out rtcp i).Queue cs :=
  .ite h.setCrypto.raise h.setCrypto
theorem State.Queue.takeTwcc (h : s.Queue cs) {d} : QueueFst cs (s.takeTwcc d) := .ite (.pair h) (.pair h.tsetF)
theorem State.Queue.sendRecord (h : s.Queue cs) {d twcc} : (s.sendRecord d twcc).Queue cs := h.estRecord
theorem State.Queue.outSend (h : s.Queue cs) {f d src idx} : (s.outSend f d src idx).Queue cs := by
  unfold State.outSend
  extract_lets
  split
  · next s1 _ e2 =>
      have h1 : s1.Queue cs := QueueFst.of_eq (State.Queue.takeTwcc (.ite h.assign h.assign.invoke)) e2
      extract_lets s3
      have h3 : s3.Queue cs := by
        unfold s3
        split
        · exact h1.sendRecord
        · exact h1
      exact .gateOut (.copyDone (.bumpN (.bump (.ite h3 h3.sendMap))))
theorem State.Queue.outbound (h : s.Queue cs) {f d} : (s.outbound f d).Queue cs := by
  unfold State.outbound
  extract_lets
  split
  · exact h.bumpLane.outDrop
  · split
    · exact h.keyDrop.outDrop
    · refine .ite h.bump.outDrop ?_
      split
      · exact h.exhaust.bump.outDrop
      · exact .ite h.bump.outDrop h.outSend
theorem State.Queue.execCpeOutbound (h : s.Queue cs) : QueueNext cs (execCpeOutbound s) := by
  unfold Machine.execCpeOutbound
  split
  · next s1 _ e2 =>
      have h1 : s1.Queue cs := (h.cpePick.of_eq e2).fst
      split
      · refine .next (.ite ?_ h)
        split
        · exact h1.popRq.outbound
        · exact h1.popRq
      · exact .next h
  · exact .next h
theorem State.Queue.bulkSubmit (h : s.Queue cs) {port rq d} : QueueFst cs (s.bulkSubmit port rq d) :=
  .ite (.pair h) (.ite (.pair h) (.ite (.pair h) (.pair h.setCpeQ)))
theorem State.Queue.execBulkSubmit (h : s.Queue cs) {port rq desc} : QueueNext cs (execBulkSubmit port rq desc s) :=
  .next (h.portAccess fun _ h1 => .ite h1.bulkSubmit.fst.wfld.seqUp h1.bulkSubmit.fst.setCpe)
theorem State.Queue.bulkRun (h : s.Queue cs) {port d} : QueueFst cs (s.bulkRun port d) := by
  unfold State.bulkRun
  extract_lets _ _ _ _ _ _ _ _ _ _ s1
  have h1 : ∀ s, s.Queue cs → ∀ x2, QueueFst cs (s1 s x2) := fun _ h2 _ => .pair h2
  refine .ite (h1 _ h.raise _) ?_
  refine .ite (h1 _ h.raise _) ?_
  refine .ite (h1 _ h _) ?_
  refine .ite (h1 _ h _) ?_
  refine .ite (h1 _ h _) (.ite ?_ (.ite (h1 _ h.bumpN.bump _) (.pair h.bumpN.invoke.bufPut)))
  split <;> exact .pair h.bumpN.bufPut
theorem State.Queue.bulkRecord (h : s.Queue cs) {q compq bytes} : (s.bulkRecord q compq bytes).Queue cs :=
  .ite h.colSend.fst.setCpe.popRq.bump h.setCpe
theorem State.Queue.execBulkComplete (h : s.Queue cs) : QueueNext cs (execBulkComplete s) := by
  unfold Machine.execBulkComplete
  split
  · next e1 =>
      split
      · refine .next (.ite h ?_)
        split
        · exact h.bulkRecord
        · exact (h.cpePick.of_eq e1).fst.bulkRun.fst.bulkRecord
      · exact .next h
  · exact .next h
theorem State.Queue.keyApplyActive (h : s.Queue cs) : s.keyApplyActive.Queue cs :=
  h.setCpe.foldl fun _ h1 _ => h1.applyKey.layItem
theorem State.Queue.keyApplyStandby (h : s.Queue cs) {slot dig} : (s.keyApplyStandby slot dig).Queue cs := by
  unfold State.keyApplyStandby
  extract_lets s1
  clear_value s1
  split
  · exact .ite h.setCpe.applyKey h.setCpe.applyKey.raise
  · exact h.setCpe.applyKey.raise
theorem State.Queue.execKeyLoadApply (h : s.Queue cs) : QueueNext cs (execKeyLoadApply s) :=
  .next (.ite h (.ite (h.atStep.setPrg.foldl fun _ h1 _ => h1.keyApplyStandby) h.atStep.keyApplyActive))
theorem State.Queue.execKeyLoadPendingExpire (h : s.Queue cs) : QueueNext cs (execKeyLoadPendingExpire s) :=
  .next (.ite (h.setCpe.foldl fun _ h1 _ => h1.raise) h)

/-! ## Sys2Proof/Machine/Lfw.lean -/

theorem State.Queue.countSwitch (h : s.Queue cs) {n} : (s.countSwitch n).Queue cs := h.bump.pmSwitch
theorem State.Queue.leaveRungs (h : s.Queue cs) {n cur} : (s.leaveRungs n cur).Queue cs := .ite h h.setLfw
theorem State.Queue.setSub (h : s.Queue cs) {n cur want st} : (s.setSub n cur want st).Queue cs := by
  unfold State.setSub
  split
  · extract_lets _ s1 s2
    have h1 : s1.Queue cs := .ite h.tsetW.tsetW h.tsetW
    have h2 : s2.Queue cs := .ite h1.countSwitch.leaveRungs h1
    exact .ite h2.setLfw h2
theorem State.Queue.moveSub (h : s.Queue cs) {n cur want} : (s.moveSub n cur want).Queue cs := .ite h h.setSub
theorem State.Queue.badSub (h : s.Queue cs) {n} : (s.badSub n).Queue cs := by
  unfold State.badSub
  extract_lets s1
  have h1 : s1.Queue cs := .ite h h.setSub
  exact .ite h1 h1.setLfw.raise
theorem State.Queue.resetSub (h : s.Queue cs) {n} : (s.resetSub n).Queue cs := by
  unfold State.resetSub
  exact .setLfw (.tset (.ite h h.countSwitch))
theorem State.Queue.identify (h : s.Queue cs) {a} : QueueFst cs (s.identify a) := by
  unfold State.identify
  extract_lets _ _ _ _ _ _ s1
  have h1 : s1.Queue cs := .ite h.setLfw h
  split
  · extract_lets s2
    have h2 : s2.Queue cs := by
      unfold s2
      split
      · exact h1.setLfw.tsetF
      · exact h1
    exact .ite (.pair (.ite h2.bump h2.bump.setLfw.raise)) (.pair h2)
theorem State.Queue.histFill (h : s.Queue cs) {a l} : (s.histFill a l).Queue cs := .ite h.dramPut h
theorem State.Queue.keyMark (h : s.Queue cs) {a l} : (s.keyMark a l).Queue cs := .ite h.tsetW.tsetW.tsetF h
theorem State.Queue.countBytes (h : s.Queue cs) {a l} : (s.countBytes a l).Queue cs := h.foldl fun _ h1 _ => h1.setLfw
theorem State.Queue.rateUpdate (h : s.Queue cs) : s.rateUpdate.Queue cs := by
  unfold State.rateUpdate
  exact (h.foldl fun _ h1 _ => h1.setLfw.tsetW).setLfw
theorem State.Queue.tsFix (h : s.Queue cs) {n scid rtpTs wa} : (s.tsFix n scid rtpTs wa).Queue cs := .ite h.setCtx h
theorem State.Queue.pushCopy (h : s.Queue cs) {n scid rtpTs wa d} : (s.pushCopy n scid rtpTs wa d).Queue cs := by
  unfold State.pushCopy
  exact h.tsFix.tsetW.tsetW.setLfw
theorem State.Queue.frameCur (h : s.Queue cs) {n scid rung key l} : QueueFst cs (s.frameCur n scid rung key l) := by
  unfold State.frameCur
  split
  · extract_lets _ _ s1
    have h1 : ∀ s, s.Queue cs → ∀ x2, (s1 s x2).Queue cs := fun _ h2 _ => h2.setLfw
    refine .ite (.pair h) (.ite (.pair (h1 _ h.moveSub _)) ?_)
    split <;> exact .pair h
theorem State.Queue.fanOne (h : s.Queue cs) {a l emit n} : QueueFst cs (s.fanOne a l emit n) := by
  unfold State.fanOne
  extract_lets
  split
  · exact .pair h
  · refine .ite (.pair h) ?_
    refine .ite (.pair h.badSub) ?_
    refine .pair ?_
    refine .ite (.pushCopy (QueueFst.fst (.ite (.pair h.moveSub) (.pair h.frameCur.fst)))) ?_
    exact QueueFst.fst (.ite (.pair h.moveSub) (.pair h.frameCur.fst))
theorem State.Queue.fanAll (h : s.Queue cs) {a l emit} : QueueFst cs (s.fanAll a l emit) :=
  .foldl (.pair h) fun _ h1 _ => .pair h1.fst.fanOne.fst
theorem State.Queue.fanRefuse (h : s.Queue cs) {a l} : (s.fanRefuse a l).Queue cs := by
  unfold State.fanRefuse
  extract_lets s1
  have h1 : s1.Queue cs := h.fanAll.fst.bump.layRefuse
  exact .ite h1 h1.setLfw.raise
theorem State.Queue.fanout (h : s.Queue cs) {a l} : (s.fanout a l).Queue cs := by
  refine .ite h.fanAll.fst ?_
  refine .ite (.ite h.fanRefuse.setPrg (.ite h.fanRefuse.diverge h.fanAll.fst.setLfw)) ?_
  exact .ite h.fanRefuse h.fanAll.fst.setLfw
theorem State.Queue.toDecode (h : s.Queue cs) {a l} : (s.toDecode a l).Queue cs := h.colSend.fst
theorem State.Queue.pushRtcp (h : s.Queue cs) {out bytes} : (s.pushRtcp out bytes).Queue cs := h.setLfw
theorem State.Queue.keyRequest (h : s.Queue cs) {c} : (s.keyRequest c).Queue cs := by
  unfold State.keyRequest
  extract_lets _ _ _ _ _ _ _ _ _ _ s1
  have h1 : s1.Queue cs := .ite h.pushRtcp.tsetF h.pushRtcp
  exact .ite h.bump (.ite h (.raise (.bump (.ite h1.tsetW h1.tsetW.setLfw))))
theorem State.Queue.execFanoutCopy (h : s.Queue cs) : QueueNext cs (execFanoutCopy s) := by
  unfold Machine.execFanoutCopy
  split
  · exact .next h
  · exact .next h.setLfw.bump.bumpN.setEsc
theorem State.Queue.execPartialMixOut (h : s.Queue cs) : QueueNext cs (execPartialMixOut s) := by
  unfold Machine.execPartialMixOut
  split
  · exact .next h
  · exact .next (.ite h.setLfw.setLfw.takeFree h.setLfw)
theorem State.Queue.originate (h : s.Queue cs) {o} : (s.originate o).Queue cs := .ite h.setLfw.takeFree h
theorem State.Queue.execOriginatedPacket (h : s.Queue cs) {q} : QueueNext cs (execOriginatedPacket q s) := by
  unfold Machine.execOriginatedPacket
  split
  · refine .ite ?_ (.next h)
    split
    · next e1 => exact .next ((h.colTake.of_eq e1).originate)
    · next e2 => exact .next (h.colTake.of_eq e2)
  · split
    · exact .next h
    · exact .next h.setLfw.originate
theorem State.Queue.execNeedIntraReport (h : s.Queue cs) : QueueNext cs (execNeedIntraReport s) := by
  unfold Machine.execNeedIntraReport
  split
  · exact .next h
  · exact .next (.ite h.setLfw h.setLfw.layRefuse.keyRequest)

/-! ## Sys2Proof/Machine/Drc.lean -/

theorem State.Queue.setDrc (h : s.Queue cs) {f : DrcSt → DrcSt} : (s.setDrc f).Queue cs := h.of_same
theorem State.Queue.setDch (h : s.Queue cs) {ch} {f : DrcCh → DrcCh} : (s.setDch ch f).Queue cs := h.setDrc
theorem State.Queue.setRank (h : s.Queue cs) {ch r st logical} : (s.setRank ch r st logical).Queue cs := h.wfld
theorem State.Queue.drcReasons (h : s.Queue cs) : s.drcReasons.Queue cs := by
  unfold State.drcReasons
  exact h.setPg
theorem State.Queue.drcRefresh (h : s.Queue cs) {hostAct} : (s.drcRefresh hostAct).Queue cs :=
  h.drcReasons.refreshAll.refreshReady.mayUnready fun _ h1 => h1.refreshAll
theorem State.Queue.trainStart (h : s.Queue cs) {ch} : (s.trainStart ch).Queue cs := h.wr.setDch
theorem State.Queue.drcEnable (h : s.Queue cs) : s.drcEnable.Queue cs :=
  .ite h (.drcRefresh (.ite (h.wfld.foldl fun _ h1 _ => h1.trainStart) h.wfld))
theorem State.Queue.drcDisable (h : s.Queue cs) : s.drcDisable.Queue cs :=
  ((((h.wfld.foldl fun _ h1 _ => h1.wr.wr.wr.wfld).wr64).setMem).setDrc).drcRefresh
theorem State.Queue.ranksOn (h : s.Queue cs) {ch} : (s.ranksOn ch).Queue cs := by
  unfold State.ranksOn
  extract_lets s1 _ _ s2
  have h2 : s2.Queue cs := h.wr.foldl fun _ h3 _ => .ite h3.setRank h3.setRank
  clear_value s1
  split
  · exact .ite h2.setRank h2
  · exact h2
theorem State.Queue.channelOn (h : s.Queue cs) {ch} : (s.channelOn ch).Queue cs := by
  unfold State.channelOn
  extract_lets s1
  have h1 : s1.Queue cs := h.ranksOn.wr.wfld
  exact .drcRefresh (.ite h1.setDch.wr64 h1.setDch)
theorem State.Queue.execDrcEnable (h : s.Queue cs) {src} : QueueNext cs (execDrcEnable src s) :=
  .next (h.access fun _ h1 => h1.drcEnable)
theorem State.Queue.execDrcDisable (h : s.Queue cs) {src} : QueueNext cs (execDrcDisable src s) :=
  .next (h.access fun _ h1 => .ite h1.drcDisable h1)
theorem State.Queue.execTrainStepDone (h : s.Queue cs) {ch} : QueueNext cs (execTrainStepDone ch s) :=
  .next (.ite (.ite h (.ite h.setDch h.channelOn)) h)
theorem State.Queue.execDrcTrainFail (h : s.Queue cs) {ch rank} : QueueNext cs (execDrcTrainFail ch rank s) :=
  .next (.ite h.wr.setDch.raise.drcRefresh h)
theorem State.Queue.execDrcRetrain (h : s.Queue cs) {src mask} : QueueNext cs (execDrcRetrain src mask s) :=
  .next (h.access fun _ h1 => (h1.foldl fun _ h2 _ => .ite h2.trainStart h2).drcRefresh)
theorem State.Queue.rankDead (h : s.Queue cs) {ch logical} : (s.rankDead ch logical).Queue cs := (h.setMem).raise
theorem State.Queue.retire (h : s.Queue cs) {ch r cause} : (s.retire ch r cause).Queue cs := by
  unfold State.retire
  extract_lets _ _ s1
  have h1 : ∀ s, s.Queue cs → (s1 s).Queue cs := fun _ h2 => h2.raise
  refine .ite ?_ ?_
  · split
    · exact h1 _ h.setRank.setRank.wr.setDch
    · exact h.setRank.rankDead
  · exact .ite (h1 _ h.setRank) (.ite ((h.foldl fun _ h3 _ => .ite h3.setRank h3).setRank.wr.rankDead) h)
theorem State.Queue.execRankRetire (h : s.Queue cs) {src ch rank} : QueueNext cs (execRankRetire src ch rank s) :=
  .next (h.access fun _ h1 => h1.retire)
theorem State.Queue.execCaParityAlert (h : s.Queue cs) {ch rank again} :
    QueueNext cs (execCaParityAlert ch rank again s) :=
  .next (.ite (.ite h.retire h.bump) h)
theorem State.Queue.poisonLine (h : s.Queue cs) {line} : (s.poisonLine line).Queue cs := .ite h (h.setMem)
theorem State.Queue.chargeCe (h : s.Queue cs) {ch r} : (s.chargeCe ch r).Queue cs := by
  unfold State.chargeCe
  extract_lets _ _ _ _ s1
  have h1 : s1.Queue cs := h.bump.setDch
  exact .ite h1.raise h1
theorem State.Queue.eccRead (h : s.Queue cs) {a ecc} : QueueFst cs (s.eccRead a ecc) := by
  unfold State.eccRead
  extract_lets
  refine .ite (.pair h.bump.bump.diverge) ?_
  split
  · exact .pair h.bump
  · exact .pair h.bump.bump.chargeCe
  · exact .pair h.bump.poisonLine.bump.bump.raise.retire.diverge
theorem State.Queue.readAnswer (h : s.Queue cs) {a bad bs} : (s.readAnswer a bad bs).Queue cs := h.setDrc
theorem State.Queue.drcRead (h : s.Queue cs) {a ecc} : (s.drcRead a ecc).Queue cs := by
  refine .ite h.rangeErr.readAnswer ?_
  exact .ite h.readAnswer (.ite h.bump.readAnswer (.ite h.bump.setDrc h.eccRead.fst.readAnswer))
theorem State.Queue.execDramRead (h : s.Queue cs) {addr ecc} : QueueNext cs (execDramRead addr ecc s) := .next h.drcRead
theorem State.Queue.enqueueLine (h : s.Queue cs) {a bs} : (s.enqueueLine a bs).Queue cs := by
  unfold State.enqueueLine
  exact .setMem (.ite h h.setDch)
theorem State.Queue.drcWrite (h : s.Queue cs) {a bs} : (s.drcWrite a bs).Queue cs :=
  .ite h.rangeErr (.ite h (.ite h.enqueueLine h.setDrc))
theorem State.Queue.creditBack (h : s.Queue cs) {ch} : (s.creditBack ch).Queue cs :=
  h.foldl fun _ h1 _ => .ite h1.setDrc.drcWrite h1
theorem State.Queue.execDramWrite (h : s.Queue cs) {addr bytes} : QueueNext cs (execDramWrite addr bytes s) :=
  .next h.drcWrite
theorem State.Queue.dropEntry (h : s.Queue cs) {ch line} : (s.dropEntry ch line).Queue cs :=
  h.setMem.setDch
theorem State.Queue.entryToDram (h : s.Queue cs) {line} : (s.entryToDram line).Queue cs :=
  h.setMem
theorem State.Queue.drain (h : s.Queue cs) {ch line ecc} : (s.drain ch line ecc).Queue cs := by
  unfold State.drain
  extract_lets
  split
  · next s1 _ e2 =>
      have h1 : s1.Queue cs := QueueFst.of_eq (.ite (.pair h) h.eccRead) e2
      extract_lets _ s3
      have h3 : s3.Queue cs := h1.bump.entryToDram.dropEntry
      refine .foldl ?_ fun _ h4 _ => h4.eccRead.fst.readAnswer
      refine .setDrc ?_
      exact .ite h1.bump.poisonLine.raise.dropEntry (.ite h1.bump.dropEntry (.ite (h3.setMem) h3))
theorem State.Queue.execWriteQueueDrain (h : s.Queue cs) {ch ecc} : QueueNext cs (execWriteQueueDrain ch ecc s) := by
  unfold Machine.execWriteQueueDrain
  split
  · exact .next h
  · exact .next h.drain.creditBack
theorem State.Queue.execRefresh (h : s.Queue cs) {ch rank} : QueueNext cs (execRefresh ch rank s) := .next (.ite h.bump h)
theorem State.Queue.execMr4Poll (h : s.Queue cs) {ch rank heat} : QueueNext cs (execMr4Poll ch rank heat s) := by
  refine .next (.ite ?_ h)
  extract_lets _ _ s1
  have h1 : s1.Queue cs := .ite h h.setDch.raise
  exact .ite h1.raise h1
theorem State.Queue.execScrubRead (h : s.Queue cs) {ch ecc} : QueueNext cs (execScrubRead ch ecc s) :=
  .next (.ite (.setDch (.ite h h.eccRead.fst)) h)
theorem State.Queue.migrated (h : s.Queue cs) {ch a b} : (s.migrated ch a b).Queue cs := by
  unfold State.migrated
  exact h.setRank.setRank.wr.raise
theorem State.Queue.execMigrationCopy (h : s.Queue cs) {ch ecc} : QueueNext cs (execMigrationCopy ch ecc s) := by
  unfold Machine.execMigrationCopy
  split
  · exact .next h
  · extract_lets
    split
    · next s1 _ e2 =>
        have h1 : s1.Queue cs := h.eccRead.of_eq e2
        extract_lets _ s3
        have h3 : s3.Queue cs := .ite h1.bump.bump.setDch h1.bump
        exact .next (.ite h3.migrated h3.wfld)

/-! ## Sys2Proof/Machine/LfwSel.lean -/

theorem State.Queue.latchLeg (h : s.Queue cs) {w g} : (s.latchLeg w g).Queue cs := h.tsetW.tsetW.setLfw
theorem State.Queue.layBatches (h : s.Queue cs) {bs} : (s.layBatches bs).Queue cs :=
  h.foldl fun _ h1 _ => .ite h1 h1.layItem
theorem State.Queue.estLatch (h : s.Queue cs) : s.estLatch.Queue cs := by
  exact (h.setLfw.foldl fun _ h1 _ => h1.foldl fun _ h2 _ => h2.latchLeg).layBatches.foldl fun _ h3 _ => .ite h3 h3.raise
theorem State.Queue.execEstLatch (h : s.Queue cs) : QueueNext cs (execEstLatch s) := .next (.ite h.atStep.estLatch h)
theorem State.Queue.estRate (h : s.Queue cs) {g v} : (s.estRate g v).Queue cs := h.tsetW
theorem State.Queue.estDone (h : s.Queue cs) {b} : (s.estDone b).Queue cs := .ite h h.setLfw
theorem State.Queue.execEstNextRateWrite (h : s.Queue cs) {leg rate} : QueueNext cs (execEstNextRateWrite leg rate s) :=
  .next h.estRate
theorem State.Queue.execEstBatchDone (h : s.Queue cs) {src batch} : QueueNext cs (execEstBatchDone src batch s) := by
  unfold Machine.execEstBatchDone
  split
  · exact .next (h.access fun _ h1 => h1.estDone)
  · exact .next h.estDone
theorem State.Queue.wantCompute (h : s.Queue cs) {w} : (s.wantCompute w).Queue cs := .ite h.setLfw h.setLfw.raise
theorem State.Queue.wantApply (h : s.Queue cs) : s.wantApply.Queue cs := by
  unfold State.wantApply
  extract_lets _ s1
  have h1 : s1.Queue cs := by
    refine h.foldl fun _ h2 _ => .ite h2.badSub ?_
    split
    · exact h2.moveSub
    · exact h2
  exact h1.wr
theorem State.Queue.execWantCompute (h : s.Queue cs) : QueueNext cs (execWantCompute s) := .next (.ite h.wantCompute h)
theorem State.Queue.execSwitchTmo (h : s.Queue cs) {sub} : QueueNext cs (execSwitchTmo sub s) := by
  unfold Machine.execSwitchTmo
  extract_lets _ _ _ _ s1
  have h1 : s1.Queue cs := h.atStep.setLfw.bump.raise
  refine .next (.ite ?_ h)
  split
  · exact h1.keyRequest
  · exact h1
theorem State.Queue.replayOne (h : s.Queue cs) {n scid rung x} : (s.replayOne n scid rung x).Queue cs := by
  unfold State.replayOne
  split
  · exact h
  · exact .ite h.pushCopy h
theorem State.Queue.joinMarks (h : s.Queue cs) : s.joinMarks.Queue cs := by
  unfold State.joinMarks
  exact h.setLfw
theorem State.Queue.join (h : s.Queue cs) {n} : (s.join n).Queue cs :=
  .ite h (.ite h.badSub (.ite ((h.foldl fun _ h1 _ => h1.replayOne).moveSub.bump) h.keyRequest.bump.raise))
theorem State.Queue.joinTake (h : s.Queue cs) {n} : (s.joinTake n).Queue cs := .ite h.setLfw.join h
theorem State.Queue.joinRest (h : s.Queue cs) : s.joinRest.Queue cs := h.foldl fun _ h1 _ => h1.joinTake
theorem State.Queue.execJoinTake (h : s.Queue cs) {sub} : QueueNext cs (execJoinTake sub s) :=
  .next (.ite h.atStep.joinTake h)
theorem State.Queue.refreshReq (h : s.Queue cs) {out why} : (s.refreshReq out why).Queue cs := h.setLfw
theorem State.Queue.keyAsked (h : s.Queue cs) {g ssrc} : (s.keyAsked g ssrc).Queue cs := by
  unfold State.keyAsked
  split
  · exact h.bump
  · refine .ite h.refreshReq ?_
    split
    · exact .ite h h.setLfw
    · exact h
theorem State.Queue.firEntry (h : s.Queue cs) {g ssrc seq} : (s.firEntry g ssrc seq).Queue cs := .ite h h.setLfw.keyAsked
theorem State.Queue.nackItem (h : s.Queue cs) {out wale time q} : (s.nackItem out wale time q).Queue cs := by
  unfold State.nackItem
  extract_lets
  refine .ite h.bump.bump (.ite h.bump.bump (.ite (.ite h.bump.bump.refreshReq h.bump.bump) (.ite h.bump.bump ?_)))
  split
  · exact h.bump.bump
  · exact h.bump.dramPut.setLfw.bump
theorem State.Queue.nack (h : s.Queue cs) {g wale time b} : (s.nack g wale time b).Queue cs := by
  unfold State.nack
  split
  · exact h.bump
  · exact h.foldl fun _ h1 _ => h1.foldl fun _ h2 _ => h2.nackItem
theorem State.Queue.rtcpPart (h : s.Queue cs) {a b} : (s.rtcpPart a b).Queue cs := by
  unfold State.rtcpPart
  extract_lets _ _ _ _ s1
  have h1 : s1.Queue cs := .ite h.estRecord h
  exact .ite h1.keyAsked (.ite (h1.foldl fun _ h2 _ => h2.firEntry) (.ite h1.nack h1))
theorem State.Queue.lfwRtp (h : s.Queue cs) {a} : (s.lfwRtp a).Queue cs := by
  unfold State.lfwRtp
  extract_lets
  refine .ite (.ite h.histFill.setLfw h.histFill) ?_
  split
  · next e1 =>
      extract_lets s2 s3
      have h2 : s2.Queue cs := (h.identify.of_eq e1).histFill.keyMark
      have h3 : s3.Queue cs := .ite h2.toDecode h2
      exact .ite (.ite h3.countBytes.fanout h3.countBytes) h3
theorem State.Queue.lfwTake (h : s.Queue cs) {a} : (s.lfwTake a).Queue cs := by
  unfold State.lfwTake
  extract_lets _ s1
  have h1 : s1.Queue cs := .ite (h.foldl fun _ h2 _ => h2.rtcpPart) h.lfwRtp
  exact .ite h.bump.lfwRelease (.ite h.lfwRelease (.ite h1.lfwRelease h1))
theorem State.Queue.lfwDrain (h : s.Queue cs) : s.lfwDrain.Queue cs := h.setLfw.foldl fun _ h1 _ => h1.lfwTake
theorem State.Queue.execLfwPacketAccepted (h : s.Queue cs) : QueueNext cs (execLfwPacketAccepted s) := by
  unfold Machine.execLfwPacketAccepted
  split
  · exact .next h
  · exact .next h.joinRest.setLfw.lfwTake

/-! ## Sys2Proof/Machine/Tmu.lean -/

theorem State.Queue.setTmu (h : s.Queue cs) {f : TmuSt → TmuSt} : (s.setTmu f).Queue cs := h.of_same
theorem State.Queue.qzOnly (h : s.Queue cs) {src p o v} {k : State → State} (hk : ∀ s, s.Queue cs → (k s).Queue cs) :
    (s.qzOnly src p o v k).Queue cs :=
  h.access fun _ h1 => .ite (hk _ h1) h1.accessErr
theorem State.Queue.execGridPhaseWrite (h : s.Queue cs) {src v} : QueueNext cs (execGridPhaseWrite src v s) :=
  .next (h.access fun _ h1 => .ite h1.raise (.ite h1.accessErr h1.wfld))
theorem State.Queue.execWaleRunSet (h : s.Queue cs) {src} : QueueNext cs (execWaleRunSet src s) := by
  refine .next (h.access fun _ h1 => .ite h1 (.ite h1.raise ?_))
  extract_lets _ s2
  have h2 : s2.Queue cs := h1.wfld.wfld.wr64
  exact h2.of_same
theorem State.Queue.execWaleRunClear (h : s.Queue cs) {src} : QueueNext cs (execWaleRunClear src s) := by
  refine .next (h.access fun _ h1 => ?_)
  split
  · exact h1.raise
  · extract_lets s2
    have h2 : s2.Queue cs := h1.wfld.wfld
    exact h2.of_same
theorem State.Queue.servoState (h : s.Queue cs) {st} : (s.servoState st).Queue cs := h.wfld.wr
theorem State.Queue.adjResult (h : s.Queue cs) {status} : (s.adjResult status).Queue cs := h.wfld.seqUp
theorem State.Queue.adjSet (h : s.Queue cs) : s.adjSet.Queue cs := by
  unfold State.adjSet
  extract_lets s1
  have h1 : s1.Queue cs := h.wfld
  exact .ite h1.adjResult (.ite h1.adjResult h1.of_same.idleWale.wfld.servoState.wfld.adjResult.raise)
theorem State.Queue.adjStep (h : s.Queue cs) : s.adjStep.Queue cs :=
  .ite h.wfld.adjResult.wfld.bump.raise h.wfld.moveClock.adjResult.bump.raise
theorem State.Queue.execAdjSet (h : s.Queue cs) {src} : QueueNext cs (execAdjSet src s) :=
  .next (h.qzOnly fun _ h1 => h1.adjSet)
theorem State.Queue.servoSilence (h : s.Queue cs) : s.servoSilence.Queue cs := .ite h.servoState.raise h
theorem State.Queue.servoHeard (h : s.Queue cs) : s.servoHeard.Queue cs := h.servoSilence.setTmu
theorem State.Queue.execFreqWrite (h : s.Queue cs) {src v} : QueueNext cs (execFreqWrite src v s) := by
  refine .next (h.qzOnly fun _ h1 => ?_)
  extract_lets _ s2
  have h2 : s2.Queue cs := h1.servoHeard.wr.wr
  exact .ite h2 h2.bump.raise
theorem State.Queue.execServoLockedWrite (h : s.Queue cs) {src locked} :
    QueueNext cs (execServoLockedWrite src locked s) := by
  refine .next ?_
  refine h.qzOnly fun _ h1 => ?_
  refine .ite h1.servoSilence.wfld.servoState.raise ?_
  exact .ite h1.servoSilence.wfld.servoState.raise h1.servoSilence.wfld
theorem State.Queue.execServoSilent (h : s.Queue cs) : QueueNext cs (execServoSilent s) := .next h.servoSilence
theorem State.Queue.ptpDiscard (h : s.Queue cs) {lane cause} : (s.ptpDiscard lane cause).Queue cs :=
  .ite h.bump h.bump.setTmu.raise
theorem State.Queue.execPtpRx (h : s.Queue cs) : QueueNext cs (execPtpRx s) := by
  unfold Machine.execPtpRx
  split
  · exact .next h
  · extract_lets
    split
    · refine .ite (.next h.setTmu) ?_
      split
      · next e1 => exact .next ((h.setTmu.colSend.of_eq e1).bump.setTmu)
      · next e2 => exact .next ((h.setTmu.colSend.of_eq e2).ptpDiscard)
    · exact .next h.setTmu.ptpDiscard
theorem State.Queue.txtsShow (h : s.Queue cs) : s.txtsShow.Queue cs := h.wr.wr
theorem State.Queue.txtsAdd (h : s.Queue cs) {lane e} : (s.txtsAdd lane e).Queue cs :=
  .ite (.ite h.bump h.bump.setTmu.raise) h.setTmu.txtsShow
theorem State.Queue.execTxtsPop (h : s.Queue cs) {src tsId} : QueueNext cs (execTxtsPop src tsId s) := by
  refine .next (h.access fun _ h1 => ?_)
  extract_lets
  split
  · exact .ite h1.setTmu.txtsShow h1.accessErr
  · exact h1.accessErr
theorem State.Queue.execTmuLatWriteback (h : s.Queue cs) {src lane w0 w1} :
    QueueNext cs (execTmuLatWriteback src lane w0 w1 s) :=
  .next (h.access fun _ h1 => .ite h1.tset h1.tblRefuse)
theorem State.Queue.execSyncinMeasure (h : s.Queue cs) {edges freq} : QueueNext cs (execSyncinMeasure edges freq s) := by
  refine .next (.ite ?_ h)
  extract_lets s1
  have h1 : s1.Queue cs := h.wfld.seqUp
  exact .ite h1.wfld h1
theorem State.Queue.execPpsEdge (h : s.Queue cs) {ns} : QueueNext cs (execPpsEdge ns s) :=
  .next (.ite h.advanceTo.wfld.wfld.wr.wr64.seqUp.wfld.setTmu h)
theorem State.Queue.execTmuSyncinLoss (h : s.Queue cs) {edges} : QueueNext cs (execTmuSyncinLoss edges s) :=
  .next (.ite h.wfld.raise h)
theorem State.Queue.execPpsOutRise (h : s.Queue cs) : QueueNext cs (execPpsOutRise s) := .next (.ite h.advanceTo.setTmu h)
theorem State.Queue.execPpsOutFall (h : s.Queue cs) : QueueNext cs (execPpsOutFall s) := .next (.ite h.advanceTo.setTmu h)

/-! ## Sys2Proof/Machine/Esc.lean -/

theorem State.Queue.setLegQ (h : s.Queue cs) {g} {f : LegQ → LegQ} : (s.setLegQ g f).Queue cs := h.setEsc
theorem State.Queue.setStrict (h : s.Queue cs) {lane c l} : (s.setStrict lane c l).Queue cs := h.setLane
theorem State.Queue.setTok (h : s.Queue cs) {g v} : (s.setTok g v).Queue cs := h.setEsc.tsetW.tsetW
theorem State.Queue.wakeLeg (h : s.Queue cs) {g} : (s.wakeLeg g).Queue cs := .ite h.setLegQ (.ite h.setLegQ h)
theorem State.Queue.tailDrop (h : s.Queue cs) {p lane g d} : (s.tailDrop p lane g d).Queue cs :=
  h.bumpLane.setEsc.layCopy.copyDone
theorem State.Queue.enqueue (h : s.Queue cs) {f} : (s.enqueue f).Queue cs := .ite h.setStrict h.setLegQ.wakeLeg
theorem State.Queue.dequeued (h : s.Queue cs) {f} : (s.dequeued f).Queue cs := by
  unfold State.dequeued
  extract_lets _ s1
  have h1 : s1.Queue cs := .ite h.setLane.setTok h.setLane
  split
  · exact h.setLane.stageFrame
  · exact .wakeLeg (.ite h1.layCopy.setCpeQ h1.layCopy.bump.outDrop)
theorem State.Queue.groupTake (h : s.Queue cs) {lane g} : (s.groupTake lane g).Queue cs := by
  unfold State.groupTake
  split
  · exact h
  · exact h.setLane.setLegQ.dequeued
theorem State.Queue.classTake (h : s.Queue cs) {lane c} : QueueOpt cs (s.classTake lane c) := by
  refine .ite .none (.ite ?_ (.ite .none ?_))
  · split
    · exact .none
    · exact .ite (.some h.setStrict.dequeued) .none
  · cases s.groupPick lane
    · exact .none
    · exact .some h.groupTake
theorem State.Queue.removeFrame (h : s.Queue cs) {g key} : (s.removeFrame g key).Queue cs :=
  .ite h.setStrict h.setLegQ.wakeLeg
theorem State.Queue.deqRun (h : s.Queue cs) {g n} : (s.deqRun g n).Queue cs := by
  induction n generalizing s with
  | zero => exact h
  | succ n ih =>
    unfold State.deqRun
    split
    · exact h
    split
    · exact h
    refine .ite h (ih (.ite ?_ h.setPrg.removeFrame.dequeued))
    split
    · exact h.setPrg.removeFrame.tailDrop
    · exact h.setPrg.removeFrame
theorem State.Queue.deqResume (h : s.Queue cs) {lane} : (s.deqResume lane).Queue cs :=
  .ite (h.foldl fun _ h1 _ => h1.deqRun) h
theorem State.Queue.execEscDequeue (h : s.Queue cs) {lane} : QueueNext cs (execEscDequeue lane s) := by
  refine .next (.ite ?_ h)
  cases e : (List.range 9).findSome? fun c => s.classTake lane c with
  | none => exact h.deqResume
  | some t =>
    obtain ⟨_, c, _, _, hc, -⟩ := List.findSome?_eq_some_iff.1 e
    exact h.classTake.of_eq hc
theorem State.Queue.deqEntry (h : s.Queue cs) {drop key} : (s.deqEntry drop key).Queue cs := h.setPrg.deqRun
theorem State.Queue.execDescriptorEnqueue (h : s.Queue cs) : QueueNext cs (execDescriptorEnqueue s) := by
  unfold Machine.execDescriptorEnqueue
  split
  · exact .next h
  · exact .next (.ite h.setEsc.copyDone (.ite h.setEsc.enqueue.deqRun (.ite h.setEsc.tailDrop h.setEsc.enqueue)))
theorem State.Queue.execHostFrameEnqueue (h : s.Queue cs) {lane} : QueueNext cs (execHostFrameEnqueue lane s) := by
  unfold Machine.execHostFrameEnqueue
  extract_lets
  refine .ite ?_ (.next h)
  split
  · next e1 => exact .next (h.colTake.of_eq e1)
  · next s2 _ e3 =>
      have h2 : s2.Queue cs := h.colTake.of_eq e3
      exact .next (.ite h2.bumpLane h2.enqueue)
theorem State.Queue.execPtpTx (h : s.Queue cs) : QueueNext cs (execPtpTx s) := by
  unfold Machine.execPtpTx
  extract_lets
  refine .ite ?_ (.next h)
  split
  · next e1 => exact .next (h.colTake.of_eq e1)
  · next s2 _ e3 =>
      have h2 : s2.Queue cs := h.colTake.of_eq e3
      exact .next (.ite h2.enqueue (.ite h2.txtsAdd h2))
theorem State.Queue.oversize (h : s.Queue cs) {lane c n} : (s.oversize lane c n).Queue cs := by
  induction n generalizing s with
  | zero => exact h
  | succ n ih =>
    unfold State.oversize
    extract_lets
    split
    · refine .ite (ih ?_) h
      split
      · exact h.setLane.land.bumpLane.raise.txtsAdd
      · exact h.setLane.land.bumpLane.raise
    · exact h
theorem State.Queue.oversizeAll (h : s.Queue cs) {lane} : (s.oversizeAll lane).Queue cs :=
  h.foldl fun _ h1 _ => h1.oversize
theorem State.Queue.gateCur (h : s.Queue cs) {lane} : (s.gateCur lane).Queue cs := by
  unfold State.gateCur
  split
  · exact h.wfld
  · exact h
theorem State.Queue.execGateTransition (h : s.Queue cs) {lane} : QueueNext cs (execGateTransition lane s) := by
  unfold Machine.execGateTransition
  extract_lets
  split
  · exact .next h
  · exact .next (.ite h.advanceTo.gateCur h)
theorem State.Queue.execGclStart (h : s.Queue cs) {lane} : QueueNext cs (execGclStart lane s) := by
  unfold Machine.execGclStart
  split
  · exact .next h
  · exact .next (.ite h.advanceTo.setLane.wfld.gateCur.oversizeAll h)
theorem State.Queue.wbGate (h : s.Queue cs) {src p e ws} : (s.wbGate src p e ws).Queue cs := .ite h.tblRefuse h.tset
theorem State.Queue.execGclEntryWriteback (h : s.Queue cs) {src port entry ws} :
    QueueNext cs (execGclEntryWriteback src port entry ws s) :=
  .next (h.writeBack fun _ h1 => h1.wbGate)
theorem State.Queue.guardWait (h : s.Queue cs) {lane c} : (s.guardWait lane c).Queue cs := .ite h.setLane.bumpLane h
theorem State.Queue.startFrame (h : s.Queue cs) {lane c} : (s.startFrame lane c).Queue cs := by
  unfold State.startFrame
  extract_lets
  split
  · exact h
  · extract_lets _ _ s1
    have h1 : s1.Queue cs := h.setLane.land.bumpLane.bumpLane.bumpLane
    split
    · exact h1.setEsc.txtsAdd
    · exact h1.setEsc
theorem State.Queue.execTxStart (h : s.Queue cs) {lane} : QueueNext cs (execTxStart lane s) := by
  unfold Machine.execTxStart
  extract_lets _ s1
  have h1 : s1.Queue cs := h.oversizeAll.foldl fun _ h2 _ => h2.guardWait
  refine .next (.ite ?_ h)
  split
  · exact h1.startFrame
  · exact h1
theorem State.Queue.ceilLock (h : s.Queue cs) {lane mbps} : (s.ceilLock lane mbps).Queue cs :=
  .ite h h.wr.setLane.raise.refreshReady
theorem State.Queue.execEscCeilLocked (h : s.Queue cs) {lane mbps} : QueueNext cs (execEscCeilLocked lane mbps s) :=
  .next h.ceilLock
theorem State.Queue.refill (h : s.Queue cs) {g} : (s.refill g).Queue cs := .ite h (.wakeLeg (.ite h.setTok h.setTok))
theorem State.Queue.ceilRefill (h : s.Queue cs) {lane} : (s.ceilRefill lane).Queue cs := .ite h.setLane h
theorem State.Queue.escTick (h : s.Queue cs) : s.escTick.Queue cs :=
  (h.foldl fun _ h1 _ => h1.refill).foldl fun _ h2 _ => h2.ceilRefill
theorem State.Queue.shaperApply (h : s.Queue cs) {g} : (s.shaperApply g).Queue cs :=
  .ite h.tset.setTok (.ite h.tset (.ite h.tset.setTok (.ite h.tset.setTok h.tset.setTok)))
theorem State.Queue.gclApply (h : s.Queue cs) {lane tb was} : (s.gclApply lane tb was).Queue cs := by
  unfold State.gclApply
  extract_lets s1
  refine .ite h ?_
  clear_value s1
  split
  · extract_lets _ _ _ _ s2
    have h2 : s2.Queue cs := h.setLane.wr64.wfld.wfld.seqUp
    exact .ite h2.raise h2
theorem State.Queue.boundaryRefill (h : s.Queue cs) : s.boundaryRefill.Queue cs := .ite h.of_same.escTick h
theorem State.Queue.escTables (h : s.Queue cs) {p} : (s.escTables p).Queue cs :=
  h.boundaryRefill.foldl fun _ h1 _ => h1.tset.shaperApply.wakeLeg
theorem State.Queue.escWaleEnd (h : s.Queue cs) : s.escWaleEnd.Queue cs := by
  unfold State.escWaleEnd
  extract_lets
  refine h.setEsc.foldl fun _ h1 _ => ?_
  split
  · exact h1.raise
  · exact h1

/-! ## Sys2Proof/Machine/Tsi.lean -/

theorem State.Queue.setLine (h : s.Queue cs) {p} {f : LinePort → LinePort} : (s.setLine p f).Queue cs := h.setLnu
theorem State.Queue.tdmSend (h : s.Queue cs) {ch m b} : (s.tdmSend ch m b).Queue cs := .ite h.setLine h

/-! ## Sys2Proof/Machine/Mxf.lean -/

theorem State.Queue.setMxf (h : s.Queue cs) {f : MxfSt → MxfSt} : (s.setMxf f).Queue cs := h.of_same
theorem State.Queue.setMxIn (h : s.Queue cs) {j} {f : MxfIn → MxfIn} : (s.setMxIn j f).Queue cs := h.setMxf
theorem State.Queue.setMxOut (h : s.Queue cs) {j} {f : MxfOut → MxfOut} : (s.setMxOut j f).Queue cs := h.setMxf
theorem State.Queue.ringPut (h : s.Queue cs) {h' x v} : (s.ringPut h' x v).Queue cs := h.bufPut
theorem State.Queue.tagPut (h : s.Queue cs) {h' w} : (s.tagPut h' w).Queue cs := h.bufPut
theorem State.Queue.gatherAll (h : s.Queue cs) {v w g es} : QueueFst cs (s.gatherAll v w g es) := by
  induction es generalizing s g with
  | nil => exact .pair h
  | cons e r ih => exact .ite (ih h) (.pair (ih h.setMxIn.tset.bumpN).fst)
theorem State.Queue.playAll (h : s.Queue cs) {v} : (s.playAll v).Queue cs := h.setMxf.bumpN
theorem State.Queue.execMxfGather (h : s.Queue cs) : QueueNext cs (execMxfGather s) := by
  unfold Machine.execMxfGather
  extract_lets _ _ s1
  have h1 : ∀ s, s.Queue cs → (s1 s).Queue cs := fun _ h2 => h2.setMxf
  refine .ite (.ite ?_ (.next (h1 _ h.atStep.setMxf))) (.next h)
  split
  · next e3 =>
      extract_lets _ s4 s5
      have h4 : s4.Queue cs := (h.atStep.gatherAll.of_eq e3).setMxf.bump.bumpN
      have h5 : s5.Queue cs := by
        unfold s5
        split
        · exact h4
        · exact h4.raise
      exact .next (h1 _ h5.playAll)
theorem State.Queue.deliver (h : s.Queue cs) {v j e i y} : (s.deliver v j e i y).Queue cs :=
  .ite (.ite h.ringPut h) (.ite (.ite h.setMxOut.setMxf h.setMxOut) h.setMxf.tdmSend)
theorem State.Queue.mixPort (h : s.Queue cs) {v k j e} : (s.mixPort v k j e).Queue cs := by
  unfold State.mixPort
  split
  · extract_lets _ s1 s2
    have h1 : s1.Queue cs := h.setMxOut.bumpN
    have h2 : s2.Queue cs := by
      unfold s2
      split
      · exact h1.deliver
      · exact h1
    exact .ite h2.tagPut h2
theorem State.Queue.busDone (h : s.Queue cs) {c b} : (s.busDone c b).Queue cs := h.setMxf.tset
theorem State.Queue.execMixSample (h : s.Queue cs) : QueueNext cs (execMixSample s) := by
  unfold Machine.execMixSample
  extract_lets _ _ _ _ s1
  have h1 : s1.Queue cs := .foldl (.ite h.advanceTo h) fun _ h2 _ => .ite h2 h2.mixPort
  refine .ite (.next (.ite (h1.setMxf.foldl fun _ h3 _ => ?_) h1.setMxf)) (.next h)
  split
  · exact h3.busDone
  · exact h3
theorem State.Queue.placeRing (h : s.Queue cs) {h' n w xs} : (s.placeRing h' n w xs).Queue cs :=
  (h.foldl fun _ h1 _ => h1.ringPut).foldl fun _ h2 _ => h2.tagPut
theorem State.Queue.execHwdecPacket (h : s.Queue cs) : QueueNext cs (execHwdecPacket s) := by
  unfold Machine.execHwdecPacket
  extract_lets
  refine .ite ?_ (.next h)
  split
  · next s1 _ e2 =>
      have h1 : s1.Queue cs := h.colTake.of_eq e2
      extract_lets
      split
      · exact .next h1
      · extract_lets
        refine .ite (.next h1.bump) ?_
        split
        · extract_lets _ s3
          have h3 : s3.Queue cs := .ite h1.setMxIn h1.setMxIn.bump.raise
          exact .next (.bump (.ite h3.placeRing h3))
  · next e4 => exact .next (h.colTake.of_eq e4)
theorem State.Queue.execMxfHwencPacket (h : s.Queue cs) : QueueNext cs (execMxfHwencPacket s) := by
  unfold Machine.execMxfHwencPacket
  split
  · exact .next h
  · extract_lets
    split
    · extract_lets s1
      have h1 : s1.Queue cs := h.setMxf.setMxOut
      exact .next (.ite h1.of_same h1)
theorem State.Queue.partialBad (h : s.Queue cs) {e cause} : (s.partialBad e cause).Queue cs := h.bump.raise
theorem State.Queue.execPartialMixIn (h : s.Queue cs) : QueueNext cs (execPartialMixIn s) := by
  unfold Machine.execPartialMixIn
  split
  · exact .next h
  · extract_lets
    refine .ite ?_ (.next h.of_same)
    split
    · exact .next h.of_same
    · refine .ite (.next h.of_same.partialBad) ?_
      refine .ite (.next h.of_same.partialBad) ?_
      refine .ite (.next h.of_same.partialBad) ?_
      exact .ite (.next h.of_same.setMxf.raise) (.next h.of_same.setMxf.setMxf.bump)
theorem State.Queue.execPartialBuild (h : s.Queue cs) {trunk} : QueueNext cs (execPartialBuild trunk s) := by
  unfold Machine.execPartialBuild
  extract_lets _ _ _ _ _ _ _ _ _ _ _ s1
  have h1 : s1.Queue cs := .ite h.setMxf h.setMxf.bump
  exact .ite (.ite (.next h1.of_same.bump) (.next h.setMxf)) (.next h)
theorem State.Queue.tableApply (h : s.Queue cs) {p t} : (s.tableApply p t).Queue cs := h.foldl fun _ h1 _ => h1.tset
theorem State.Queue.inChange (h : s.Queue cs) {j o n} : (s.inChange j o n).Queue cs := h.setMxIn
theorem State.Queue.mxfApply (h : s.Queue cs) {v cut} : (s.mxfApply v cut).Queue cs := by
  exact ((h.setMxf.foldl fun _ h1 _ => h1.inChange).foldl fun _ h2 _ => h2.setMxOut).foldl fun _ h3 _ => h3.tableApply

/-! ## Sys2Proof/Machine/Rve.lean -/

theorem State.Queue.setSlot (h : s.Queue cs) {e t} : (s.setSlot e t).Queue cs := h.setRve
theorem State.Queue.setRun (h : s.Queue cs) {e t} : (s.setRun e t).Queue cs := h.setRve
theorem State.Queue.traceDrop (h : s.Queue cs) : s.traceDrop.Queue cs := h.bump.setRve
theorem State.Queue.trace (h : s.Queue cs) {task exec reason cls detail} :
    (s.trace task exec reason cls detail).Queue cs := by
  refine .ite ?_ h
  extract_lets _ s1
  have h1 : s1.Queue cs := .ite h h.colSend.fst.setRve
  exact .ite h.traceDrop (.ite h1.traceDrop h1.colSend.fst)
theorem State.Queue.becomeReady (h : s.Queue cs) {id k} : (s.becomeReady id k).Queue cs :=
  .ite h.setTask.trace h.setTask.trace.raise
theorem State.Queue.released (h : s.Queue cs) {id k} : (s.released id k).Queue cs := .ite h.becomeReady h.setTask
theorem State.Queue.releaseEntry (h : s.Queue cs) {id} : (s.releaseEntry id).Queue cs := h.setTask.setRve.trace.released
theorem State.Queue.rveSubmit (h : s.Queue cs) {port d} : QueueFst cs (s.rveSubmit port d) := by
  unfold State.rveSubmit
  split
  · extract_lets _ _ _ _ _ s1
    have h1 : s1.Queue cs := h.setRve.setTask.bump.trace
    exact .pair (.ite h1.bump.trace.released (.ite h1.released h1))
  · exact .pair h.bump.raise.trace
theorem State.Queue.submitAnswered (h : s.Queue cs) {port d} : (s.submitAnswered port d).Queue cs :=
  .ite h.rveSubmit.fst.wfld.wfld.seqUp h.rveSubmit.fst.setRve
theorem State.Queue.submitGo (h : s.Queue cs) {port d} : (s.submitGo port d).Queue cs :=
  .ite h.submitAnswered (.ite h.accessErr (.ite h.setRve h.submitAnswered))
theorem State.Queue.submitWaiting (h : s.Queue cs) : s.submitWaiting.Queue cs :=
  h.setRve.foldl fun _ h1 _ => h1.submitAnswered
theorem State.Queue.rveDecrement (h : s.Queue cs) {port id} : (s.rveDecrement port id).Queue cs :=
  .ite h.bump (.ite h.bump.raise.trace (.ite h.setTask.becomeReady h.setTask))
theorem State.Queue.tryRecord (h : s.Queue cs) {id} : (s.tryRecord id).Queue cs := by
  unfold State.tryRecord
  extract_lets
  split
  · exact h.freeTask
  · exact .ite h.bump.freeTask (.ite h.colSend.fst.freeTask h)
theorem State.Queue.rveEnd (h : s.Queue cs) {id exec status value cycles detail} :
    (s.rveEnd id exec status value cycles detail).Queue cs :=
  (h.bump.setTask.trace.foldl fun _ h1 _ => h1.rveDecrement).tryRecord
theorem State.Queue.leaveSlot (h : s.Queue cs) {id} : (s.leaveSlot id).Queue cs := .ite h.setSlot h
theorem State.Queue.unslot (h : s.Queue cs) {e} : (s.unslot e).Queue cs := by
  unfold State.unslot
  split
  · exact h.setSlot.setTask
  · exact h
theorem State.Queue.intoSlot (h : s.Queue cs) {id e} : (s.intoSlot id e).Queue cs := by
  unfold State.intoSlot
  extract_lets s1 _ s2
  have h1 : ∀ s, s.Queue cs → (s1 s).Queue cs := fun _ h3 => h3.trace
  have h2 : s2.Queue cs := h.unslot.bump.setSlot.setTask
  split
  · extract_lets s4
    have h4 : ∀ s, s.Queue cs → (s4 s).Queue cs := fun _ h5 => h5.trace
    exact .ite (h1 _ (h4 _ h2)) (h4 _ (h1 _ h2))
  · exact h1 _ h.setSlot.setTask
theorem State.Queue.dispatch (h : s.Queue cs) : s.dispatch.Queue cs := by
  refine .ite ?_ h
  split
  · exact h.intoSlot
  · exact h
theorem State.Queue.startTask (h : s.Queue cs) {e id} : (s.startTask e id).Queue cs := h.setSlot.setRun.setTask.bump.trace
theorem State.Queue.wbImage (h : s.Queue cs) {src image ws} : (s.wbImage src image ws).Queue cs :=
  .ite h.tblRefuse (.ite h.tblRefuse (.ite h.tblRefuse (.ite h.tblRefuse h.tset)))
theorem State.Queue.execTaskSubmit (h : s.Queue cs) {port desc} : QueueNext cs (execTaskSubmit port desc s) :=
  .next (h.portAccess fun _ h1 => h1.submitGo)
theorem State.Queue.execTaskDecrement (h : s.Queue cs) {port id} : QueueNext cs (execTaskDecrement port id s) :=
  .next (h.portAccess fun _ h1 => h1.rveDecrement)
theorem State.Queue.execDelayListRelease (h : s.Queue cs) {list} : QueueNext cs (execDelayListRelease list s) := by
  unfold Machine.execDelayListRelease
  split
  · exact .next h
  · exact .next (.ite h.atStep.releaseEntry (.ite h.releaseEntry h))
theorem State.Queue.execTaskDispatch (h : s.Queue cs) : QueueNext cs (execTaskDispatch s) := .next h.dispatch
theorem State.Queue.execCompletionRecordWrite (h : s.Queue cs) {id} : QueueNext cs (execCompletionRecordWrite id s) :=
  .next (.ite h.tryRecord h)
theorem State.Queue.execImageRegistryWrite (h : s.Queue cs) {src image ws} :
    QueueNext cs (execImageRegistryWrite src image ws s) :=
  .next (h.access fun _ h1 => h1.wbImage)
theorem State.Queue.execImageScanDone (h : s.Queue cs) {image} : QueueNext cs (execImageScanDone image s) := by
  refine .next (.ite ?_ h)
  split
  · exact h.tsetF.raise
  · exact h.tsetF

/-! ## Sys2Proof/Machine/Video.lean -/

theorem State.Queue.setVce (h : s.Queue cs) {f : VceSt → VceSt} : (s.setVce f).Queue cs := h.of_same
theorem State.Queue.setEnc (h : s.Queue cs) {n} {f : Encoder → Encoder} : (s.setEnc n f).Queue cs := h.setVce
theorem State.Queue.setEncStream (h : s.Queue cs) {n m} {f : EncStream → EncStream} : (s.setEncStream n m f).Queue cs :=
  h.setEnc
theorem State.Queue.setWve (h : s.Queue cs) {f : WveSt → WveSt} : (s.setWve f).Queue cs := h.of_same
theorem State.Queue.putTile (h : s.Queue cs) {tag f t} : (s.putTile tag f t).Queue cs := h.setWve
theorem State.Queue.setTile (h : s.Queue cs) {tag f} {g : TilePic → TilePic} : (s.setTile tag f g).Queue cs := by
  unfold State.setTile
  split
  · exact .ite h.putTile h
  · exact h
theorem State.Queue.tileEnds (h : s.Queue cs) {tag f status refresh} : (s.tileEnds tag f status refresh).Queue cs :=
  h.setTile
theorem State.Queue.setDec (h : s.Queue cs) {n m} {f : DecStream → DecStream} : (s.setDec n m f).Queue cs := by
  unfold State.setDec
  exact h.setVce
theorem State.Queue.putPlane (h : s.Queue cs) {at_ stride depth10 n rows xs} :
    (s.putPlane at_ stride depth10 n rows xs).Queue cs := by
  induction rows generalizing s at_ xs with
  | zero => exact h
  | succ rows ih => exact ih h.dramPut
theorem State.Queue.putPicture (h : s.Queue cs) {at_ stride maxH depth10 w h' luma chroma} :
    (s.putPicture at_ stride maxH depth10 w h' luma chroma).Queue cs :=
  h.putPlane.putPlane
theorem State.Queue.setPipe (h : s.Queue cs) {q} {f : PxcPipe → PxcPipe} : (s.setPipe q f).Queue cs := h.of_same

/-! ## Sys2Proof/Machine/Dec.lean -/

theorem State.Queue.decStop (h : s.Queue cs) {n m cause detail wa} : (s.decStop n m cause detail wa).Queue cs := by
  unfold State.decStop
  extract_lets _ _ _ _ _ s1
  have h1 : s1.Queue cs := h.setDec.bump.raise.pmStop
  exact .ite h1.of_same h1
theorem State.Queue.decDiscard (h : s.Queue cs) {n} : (s.decDiscard n).Queue cs := h.bump
theorem State.Queue.decFail (h : s.Queue cs) {n m cause wa} : (s.decFail n m cause wa).Queue cs :=
  .ite h.decStop h.decDiscard
theorem State.Queue.decBuffer (h : s.Queue cs) {n m bs u} : (s.decBuffer n m bs u).Queue cs := by
  unfold State.decBuffer
  extract_lets
  split
  · next s1 e2 =>
      have h1 : s1.Queue cs := h.refusal.of_eq e2
      exact .decStop (.ite h1.crlAlloc.fst h1)
  · next s3 e4 =>
      have h3 : s3.Queue cs := h.refusal.of_eq e4
      split
      · next e5 => exact (h3.crlAlloc.of_eq e5).bufPut.setDec
      · next e6 => exact (h3.crlAlloc.of_eq e6).decStop
theorem State.Queue.decUnit (h : s.Queue cs) {n m a wa} : (s.decUnit n m a wa).Queue cs := by
  unfold State.decUnit
  extract_lets
  split
  · exact h.decFail
  · exact .ite h.setDec.decDiscard (.ite h.setDec (.decBuffer (.ite h.setDec.setDec h.setDec)))
theorem State.Queue.decPacket (h : s.Queue cs) {n m b} : (s.decPacket n m b).Queue cs := by
  unfold State.decPacket
  split
  · extract_lets _ _ s1
    have h1 : s1.Queue cs := by
      unfold s1
      split
      · exact .ite h h.setDec.decFail
      · exact h
    exact .ite h (.ite (.ite h1.setDec.decUnit h1.setDec.decFail) h1.setDec)
theorem State.Queue.execDecPacketAssemble (h : s.Queue cs) {dec stream} :
    QueueNext cs (execDecPacketAssemble dec stream s) := by
  unfold Machine.execDecPacketAssemble
  extract_lets
  refine .next (.ite ?_ h)
  split
  · next e1 => exact h.colTake.of_eq e1
  · next s2 _ e3 =>
      have h2 : s2.Queue cs := h.colTake.of_eq e3
      exact .ite h2.decPacket h2.setDec
theorem State.Queue.decLate (h : s.Queue cs) {n m u} : (s.decLate n m u).Queue cs := h.crlFree.bump.raise
theorem State.Queue.execDecUnitSubmit (h : s.Queue cs) {dec stream ctus} :
    QueueNext cs (execDecUnitSubmit dec stream ctus s) := by
  unfold Machine.execDecUnitSubmit
  extract_lets
  split
  · refine .next (.ite ?_ h)
    extract_lets
    refine .ite h.setDec.crlFree.decDiscard ?_
    split
    · next e1 => exact (h.setDec.rveSubmit.of_eq e1).setDec
    · next e2 => exact (h.setDec.rveSubmit.of_eq e2).decLate
  · exact .next h
theorem State.Queue.decHeldLate (h : s.Queue cs) {n m} : (s.decHeldLate n m).Queue cs :=
  .ite h (h.setDec.foldl fun _ h1 _ => h1.decLate.layItem)
theorem State.Queue.decAbort (h : s.Queue cs) {n m status} : (s.decAbort n m status).Queue cs := by
  unfold State.decAbort
  split
  · exact h
  · exact .ite h.setDec.decLate.layItem h.setDec.crlFree
theorem State.Queue.decPicture (h : s.Queue cs) {n m u p} : (s.decPicture n m u p).Queue cs := by
  unfold State.decPicture
  extract_lets
  split
  · exact h.decStop
  · extract_lets _ _ _ _ _ _ _ _ s1
    have h1 : s1.Queue cs := h.putPicture.setDec.bumpN.bumpN
    exact .ite h1.raise h1
theorem State.Queue.decEnd (h : s.Queue cs) {n m u r} : (s.decEnd n m u r).Queue cs := by
  unfold State.decEnd
  extract_lets
  refine .ite h.decDiscard (.ite h.diverge.decStop ?_)
  split
  · exact .decStop (.ite h.diverge h)
  · exact .ite h.decStop h.decPicture
theorem State.Queue.decSave (h : s.Queue cs) {n m u} : (s.decSave n m u).Queue cs := .ite h.setVce h
theorem State.Queue.decUndo (h : s.Queue cs) {n m wa} : (s.decUndo n m wa).Queue cs := by
  unfold State.decUndo
  split
  · exact .ite h.setDec.bump.raise h
  · exact h
theorem State.Queue.decRestart (h : s.Queue cs) {n m} : (s.decRestart n m).Queue cs := by
  unfold State.decRestart
  exact (h.foldl fun _ h1 _ => h1.crlFree).setDec
theorem State.Queue.execDecRestart (h : s.Queue cs) {src dec stream} : QueueNext cs (execDecRestart src dec stream s) :=
  .next (h.access fun _ h1 => .ite h1.decRestart h1)
theorem State.Queue.decApply (h : s.Queue cs) {n} : (s.decApply n).Queue cs :=
  (h.foldl fun _ h1 _ => .ite h1 ((h1.foldl fun _ h2 _ => h2.crlFree).setDec)).tableApply.wr

/-! ## Sys2Proof/Machine/Lnu.lean -/

theorem State.Queue.waitTru (h : s.Queue cs) {t} : QueueOpt cs (s.waitTru t) :=
  .ite (.some h) (.ite (.some h.advance) .none)
theorem State.Queue.defectSeen (h : s.Queue cs) {d} : (s.defectSeen d).Queue cs := .ite h.setPm h
theorem State.Queue.lnuRefresh (h : s.Queue cs) {p} : (s.lnuRefresh p).Queue cs :=
  ((h.setLine.setLine.foldl fun _ h1 _ => h1.raise.defectSeen).foldl fun _ h2 _ => h2.defectSeen.raise).wfld
theorem State.Queue.execFramerOccurrence (h : s.Queue cs) {port pos hit} :
    QueueNext cs (execFramerOccurrence port pos hit s) := by
  unfold Machine.execFramerOccurrence
  extract_lets
  refine .ite (.next h) ?_
  refine .ite (.ite (.next h) (.ite (.next h.setLine) (.ite (.next h.setLine) (.next h.setLine.bump.lnuRefresh)))) ?_
  split
  · exact .ite (.next h.setLine) (.ite (.next h.setLine) (.next h.setLine.lnuRefresh))
  · exact .ite (.next h) (.ite (.next h.bump) (.next h.setLine))
theorem State.Queue.execLnuFalseLock (h : s.Queue cs) {port} : QueueNext cs (execLnuFalseLock port s) :=
  .ite (.next h.setLine.bump.raise.lnuRefresh) (.next h)
theorem State.Queue.lofSet (h : s.Queue cs) {port v} : (s.lofSet port v).Queue cs := by
  unfold State.lofSet
  extract_lets
  refine .ite ?_ h
  split
  · next e1 => exact (h.waitTru.of_eq e1).setLine.lnuRefresh
  · exact h
theorem State.Queue.execLofDeclare (h : s.Queue cs) {port} : QueueNext cs (execLofDeclare port s) := .next h.lofSet
theorem State.Queue.execLofClear (h : s.Queue cs) {port} : QueueNext cs (execLofClear port s) := .next h.lofSet
theorem State.Queue.execLosDeclare (h : s.Queue cs) {port} : QueueNext cs (execLosDeclare port s) :=
  .ite (.next h.setLine.lnuRefresh) (.next h)
theorem State.Queue.execLosClear (h : s.Queue cs) {port} : QueueNext cs (execLosClear port s) :=
  .ite (.next h.setLine.lnuRefresh) (.next h)
theorem State.Queue.ptrCount (h : s.Queue cs) {p path v} : (s.ptrCount p path v).Queue cs := by
  unfold State.ptrCount
  extract_lets s1 s2 s3
  have h1 : s1.Queue cs := .ite h.bump h
  have h2 : s2.Queue cs := .ite h1.bump h1
  have h3 : s3.Queue cs := .ite h2.bump h2
  split
  · exact .ite h3.setPm h3
  · exact h3
theorem State.Queue.pmErr (h : s.Queue cs) {e bad} : (s.pmErr e bad).Queue cs := .ite h.setPm h
theorem State.Queue.pathFrame (h : s.Queue cs) {p o} : (s.pathFrame p o).Queue cs := .ite h.setLine.ptrCount.pmErr h
theorem State.Queue.execRxFrameOverhead (h : s.Queue cs) {port oh} : QueueNext cs (execRxFrameOverhead port oh s) := by
  unfold Machine.execRxFrameOverhead
  extract_lets _ _ s1
  have h1 : s1.Queue cs := h.bump.bumpN.bumpN.pmErr.pmErr
  refine .ite ?_ (.next h)
  exact .next (.lnuRefresh (.foldl (.ite h1.setLine.wr.wr h1.setLine.wr) fun _ h2 _ => h2.pathFrame))
theorem State.Queue.tuFrame (h : s.Queue cs) {p o} : (s.tuFrame p o).Queue cs := .ite h.setLine.ptrCount.pmErr h
theorem State.Queue.execRxMultiframe (h : s.Queue cs) {port tus} : QueueNext cs (execRxMultiframe port tus s) :=
  .ite (.next ((h.foldl fun _ h1 _ => h1.tuFrame).lnuRefresh)) (.next h)
theorem State.Queue.slip (h : s.Queue cs) {p t rep} : (s.slip p t rep).Queue cs := by
  unfold State.slip
  extract_lets _ _ s1 s2
  have h1 : ∀ s, s.Queue cs → ∀ x2, (s1 s x2).Queue cs := fun _ h3 _ => h3.setPm
  have h2 : s2.Queue cs := h1 _ (h1 _ h.bump _) _
  exact .ite h2 h2.setLnu.raise
theorem State.Queue.execTribFrameComplete (h : s.Queue cs) {port trib frame} :
    QueueNext cs (execTribFrameComplete port trib frame s) := by
  unfold Machine.execTribFrameComplete
  extract_lets
  refine .ite ?_ (.next h)
  split
  extract_lets
  split
  extract_lets _ _ _ _ _ s1 s2
  have h1 : s1.Queue cs := .ite h.setLine.slip h.setLine
  have h2 : s2.Queue cs := by
    unfold s2
    split
    · exact .pmErr (.ite h1.setPm h1)
    · exact h1
  exact .next h2.lnuRefresh
theorem State.Queue.readTrib (h : s.Queue cs) {p t} : (s.readTrib p t).Queue cs := by
  unfold State.readTrib
  extract_lets
  split
  · exact h.setLine
  · exact .ite h.slip h
theorem State.Queue.handBytes (h : s.Queue cs) {m} : (s.handBytes m).Queue cs :=
  h.foldl fun _ h1 _ => .ite h1 h1.setMxf
theorem State.Queue.layTdm (h : s.Queue cs) {p m} : (s.layTdm p m).Queue cs := .ite h h.lay
theorem State.Queue.aisWith (h : s.Queue cs) {p} {f : State → State} (hf : ∀ s, s.Queue cs → (f s).Queue cs) :
    (s.aisWith p f).Queue cs :=
  .wfld (.foldl (hf _ h) fun _ h1 _ => h1.raise)
theorem State.Queue.startLine (h : s.Queue cs) {p m} : (s.startLine p m).Queue cs := .ite h.setLine.bump h.setLine
theorem State.Queue.execTdmFramePulse (h : s.Queue cs) : QueueNext cs (execTdmFramePulse s) := by
  unfold Machine.execTdmFramePulse
  split
  · exact .next h
  · refine .next ?_
    exact (((h.advanceTo.atStep.setLnu.foldl fun _ h1 _ =>
      .ite (h1.foldl fun _ h2 _ => h2.readTrib) h1).foldl fun _ h3 _ =>
      h3.lnuRefresh).handBytes.foldl fun _ h4 _ => h4.layTdm).foldl fun _ h5 _ => h5.startLine
theorem State.Queue.tdmEntry (h : s.Queue cs) {body wale} : (s.tdmEntry body wale).Queue cs :=
  h.foldl fun _ h1 _ => h1.setMxf
theorem State.Queue.execTxForceWrite (h : s.Queue cs) {src port v} : QueueNext cs (execTxForceWrite src port v s) := by
  unfold Machine.execTxForceWrite
  extract_lets
  refine .next (h.access fun _ h1 => .ite h1.accessErr ?_)
  extract_lets _ s2
  have h2 : s2.Queue cs := by
    refine h1.aisWith fun _ h3 => ?_
    extract_lets _ s4
    have h4 : s4.Queue cs := .ite h3.wfld h3.wfld.wfld
    exact .ite h4.wfld h4
  exact .ite h2.accessErr h2
theorem State.Queue.execPmRecord (h : s.Queue cs) : QueueNext cs (execPmRecord s) := by
  unfold Machine.execPmRecord
  extract_lets
  refine .ite ?_ (.next h)
  split
  · next s1 _ e2 =>
      have h1 : s1.Queue cs := h.colTake.of_eq e2
      exact .ite (.next h1.bump) (.next h1.pmLeg)
  · next e3 => exact .next (h.colTake.of_eq e3)
theorem State.Queue.secondClose (h : s.Queue cs) : s.secondClose.Queue cs :=
  (h.foldl fun _ h1 _ => h1.setPm).setLnu.foldl fun _ h2 _ => .ite h2.setPm.raise h2.setPm
theorem State.Queue.execPmSecondClose (h : s.Queue cs) : QueueNext cs (execPmSecondClose s) :=
  .ite (.next h.atStep.secondClose) (.next h)
theorem State.Queue.binClose (h : s.Queue cs) {day} : QueueFst cs (s.binClose day) :=
  (h.foldl fun _ h1 _ => h1.setPm).bumpN.setLnu.binRecords
theorem State.Queue.execBinClose (h : s.Queue cs) : QueueNext cs (execBinClose s) := by
  refine .ite ?_ (.next h)
  extract_lets _ s1
  have h1 : s1.Queue cs := .ite h.atStep h.atStep.secondClose
  refine .next ?_
  refine .ite (QueueFst.fst (.ite h1.binClose.fst.binClose (.pair h1.binClose.fst))) ?_
  exact .raise (QueueFst.fst (.ite h1.binClose.fst.binClose (.pair h1.binClose.fst)))
theorem State.Queue.lnuTables (h : s.Queue cs) {p} : (s.lnuTables p).Queue cs :=
  h.tableApply.tableApply.setLine.pmDoubt.lnuRefresh

/-! ## Sys2Proof/Machine/Pxc.lean -/

theorem State.Queue.layerTold (h : s.Queue cs) {q f k l row was} : (s.layerTold q f k l row was).Queue cs := by
  unfold State.layerTold
  extract_lets _ s1 s2 s3
  have h1 : s1.Queue cs := .ite h.bump h
  have h2 : s2.Queue cs := .ite h1.bump h1
  have h3 : s3.Queue cs := .ite h2.bump.raise h2
  exact .ite h3.raise h3
theorem State.Queue.pxcStart (h : s.Queue cs) {q f l} : (s.pxcStart q f l).Queue cs := by
  unfold State.pxcStart
  exact (h.foldl fun _ h1 _ => h1.layerTold).setPipe
theorem State.Queue.execPxcFrameLaunch (h : s.Queue cs) {pipe} : QueueNext cs (execPxcFrameLaunch pipe s) := by
  unfold Machine.execPxcFrameLaunch
  extract_lets _ _ _ s1
  have h1 : s1.Queue cs := h.atStep.setPipe
  refine .next (.ite ?_ h)
  split
  · exact h
  · exact .ite h1 h1.pxcStart
theorem State.Queue.pxcWaits (h : s.Queue cs) {q} : (s.pxcWaits q).Queue cs :=
  h.setPipe.foldl fun _ h1 _ => h1.rveDecrement
theorem State.Queue.pxcPublish (h : s.Queue cs) {q f} : (s.pxcPublish q f).Queue cs :=
  .pxcWaits (.setPipe (.bumpN (.bump (.ite h.putPicture h.putPicture.bump.raise.diverge))))
theorem State.Queue.pxcAbandon (h : s.Queue cs) {q f} : (s.pxcAbandon q f).Queue cs := h.setPipe.bump.raise.layItem.pxcWaits
theorem State.Queue.pxcUndo (h : s.Queue cs) {q fr} : (s.pxcUndo q fr).Queue cs := by
  unfold State.pxcUndo
  split
  · exact .ite h.setPipe.pxcAbandon h
  · exact h
theorem State.Queue.execPxcFramePublish (h : s.Queue cs) {pipe} : QueueNext cs (execPxcFramePublish pipe s) := by
  unfold Machine.execPxcFramePublish
  split
  · exact .next (.ite h.pxcAbandon h.pxcPublish)
  · exact .next h
theorem State.Queue.execPxcFrameLate (h : s.Queue cs) {pipe} : QueueNext cs (execPxcFrameLate pipe s) := by
  unfold Machine.execPxcFrameLate
  split
  · exact .next (.ite h.atStep.pxcAbandon h)
  · exact .next h
theorem State.Queue.pxcApply (h : s.Queue cs) {q} : (s.pxcApply q).Queue cs := h.tableApply

/-! ## Sys2Proof/Machine/Motion.lean -/

theorem State.Queue.putRef (h : s.Queue cs) {e k slot luma chroma blocks} :
    (s.putRef e k slot luma chroma blocks).Queue cs :=
  h.putPicture.foldl fun _ h1 _ => h1.dramPut

/-! ## Sys2Proof/Machine/Vce.lean -/

theorem State.Queue.encLaunchOne (h : s.Queue cs) {n l m} : (s.encLaunchOne n l m).Queue cs := by
  unfold State.encLaunchOne
  extract_lets
  split
  · exact h
  · refine .ite h.setEncStream ?_
    extract_lets
    split
    · next s1 e2 =>
        have h1 : s1.Queue cs := h.refusal.of_eq e2
        exact .raise (.bump (QueueFst.fst (.ite (.pair h1.rveSubmit.fst) (.pair h1.takeFree))))
    · next e3 =>
        split
        · next s4 _ _ e5 =>
            have h4 : s4.Queue cs := (h.refusal.of_eq e3).rveSubmit.of_eq e5
            extract_lets _ s6
            have h6 : s6.Queue cs := .ite h4.setEncStream.setPipe h4.setEncStream
            exact .ite h6.putTile h6
theorem State.Queue.execEncLaunch (h : s.Queue cs) {enc} : QueueNext cs (execEncLaunch enc s) :=
  .next (.ite (h.atStep.setEnc.foldl fun _ h1 _ => .ite h1 h1.encLaunchOne) h)
theorem State.Queue.encStart (h : s.Queue cs) {n d} : (s.encStart n d).Queue cs := by
  unfold State.encStart
  extract_lets
  split
  · exact h
  · extract_lets _ _ _ _ _ _ _ _ _ _ s1
    have h1 : s1.Queue cs := .ite h.bumpN h
    exact .ite h1.setEncStream.setEnc.raise h1.setEncStream.setEnc
theorem State.Queue.encPacket (h : s.Queue cs) {n e pic k flags dd body} :
    QueueFst cs (s.encPacket n e pic k flags dd body) := by
  unfold State.encPacket
  extract_lets
  split
  · next s1 e2 =>
      have h1 : s1.Queue cs := h.refusal.of_eq e2
      exact .pair (.bump (.ite h1.colSend.fst h1))
  · next e3 => exact .pair ((h.refusal.of_eq e3).colSend.fst)
theorem State.Queue.encPackets (h : s.Queue cs) {n e pic k last first ps} :
    QueueFst cs (s.encPackets n e pic k last first ps) := by
  induction ps generalizing s first with
  | nil => exact .pair h
  | cons p r ih => exact .pair (ih h.encPacket.fst).fst
theorem State.Queue.encCount (h : s.Queue cs) {n pic old new bits} : (s.encCount n pic old new bits).Queue cs := by
  unfold State.encCount
  extract_lets _ _ s1 s2
  have h1 : s1.Queue cs := .ite h h.bumpN
  have h2 : s2.Queue cs := by
    unfold s2
    split
    · exact h1.bump.raise
    · exact h1
  exact .ite h2 h2.bumpN
theorem State.Queue.encUnit (h : s.Queue cs) {n pic u} : (s.encUnit n pic u).Queue cs := by
  unfold State.encUnit
  split
  · exact h
  · extract_lets
    split
    · next s1 _ e2 =>
        have h1 : s1.Queue cs := QueueFst.of_eq (.ite (.pair h.encCount) h.encCount.encPackets) e2
        extract_lets s3 s4
        have h3 : s3.Queue cs := .ite h1.raise h1
        have h4 : s4.Queue cs := .ite h3.setTile h3
        exact .setEnc (.setEncStream (.ite h4.putRef.bump h4))
theorem State.Queue.execEncUnitEmit (h : s.Queue cs) {enc u} : QueueNext cs (execEncUnitEmit enc u s) := by
  unfold Machine.execEncUnitEmit
  split
  · exact .next h.encUnit
  · exact .next h
theorem State.Queue.statLost (h : s.Queue cs) {n pic} : (s.statLost n pic).Queue cs := .ite h.bump h.bump.setEnc.raise
theorem State.Queue.encStat (h : s.Queue cs) {n e pic l} : (s.encStat n e pic l).Queue cs := by
  unfold State.encStat
  extract_lets
  split
  · next s1 e2 =>
      have h1 : s1.Queue cs := h.refusal.of_eq e2
      extract_lets s3
      have h3 : s3.Queue cs := by
        refine .ite ?_ h1
        split
        · next s4 _ e5 =>
            have h4 : s4.Queue cs := h1.crlAlloc.of_eq e5
            exact .crlFree (.ite h4 h4.colReserve)
        · next e6 => exact h1.crlAlloc.of_eq e6
      exact h3.statLost
  · next s7 e8 =>
      have h7 : s7.Queue cs := h.refusal.of_eq e8
      split
      · next e9 => exact (h7.crlAlloc.of_eq e9).bufPut.crlAdd.crlDrop.colSend.fst
      · next e10 => exact (h7.crlAlloc.of_eq e10).statLost
theorem State.Queue.encDone (h : s.Queue cs) {n} : (s.encDone n).Queue cs := by
  unfold State.encDone
  split
  · exact h
  · exact .ite (h.setEnc.setEncStream.tileEnds.foldl fun _ h1 _ => h1.encStat) h.setEnc.setEncStream.tileEnds
theorem State.Queue.encAbandon (h : s.Queue cs) {n m f status pic} : (s.encAbandon n m f status pic).Queue cs :=
  .ite h.setEncStream.tileEnds.bump.raise.layItem h.setEncStream.tileEnds
theorem State.Queue.encAbort (h : s.Queue cs) {n m f status running} : (s.encAbort n m f status running).Queue cs :=
  .ite h.setEnc.encAbandon h.encAbandon
theorem State.Queue.encUndo (h : s.Queue cs) {n m f} : (s.encUndo n m f).Queue cs := by
  unfold State.encUndo
  split
  · exact .ite h.setEncStream.encAbandon h.encAbandon
  · exact h.encAbandon
theorem State.Queue.encRequest (h : s.Queue cs) {n m} : (s.encRequest n m).Queue cs := .ite h.setEncStream h
theorem State.Queue.execEncRefresh (h : s.Queue cs) {src enc stream} : QueueNext cs (execEncRefresh src enc stream s) := by
  unfold Machine.execEncRefresh
  extract_lets
  split
  · exact .next (h.access fun _ h1 => .ite h1 h1.encRequest)
  · refine .next (.ite ?_ h)
    split
    · exact h.of_same.encRequest
    · exact h
theorem State.Queue.encApply (h : s.Queue cs) {n} : (s.encApply n).Queue cs :=
  (h.foldl fun _ h1 _ => .ite h1.setEncStream h1).tableApply.wr

/-! ## Sys2Proof/Machine/Weave.lean -/

theorem State.Queue.ingest (h : s.Queue cs) {b} : (s.ingest b).Queue cs := by
  unfold State.ingest
  extract_lets
  split
  · exact h.bump
  · exact .ite h.bump (.ite h (.ite h.putTile.bump.raise h.dramPut.putTile))
theorem State.Queue.execWeaveIngest (h : s.Queue cs) {queue} : QueueNext cs (execWeaveIngest queue s) := by
  refine .next (.ite ?_ h)
  split
  · next e1 => exact (h.colTake.of_eq e1).ingest
  · next e2 => exact h.colTake.of_eq e2
theorem State.Queue.tileMissing (h : s.Queue cs) {tag f l cause} : (s.tileMissing tag f l cause).Queue cs := by
  unfold State.tileMissing
  extract_lets _ _ s1
  have h1 : s1.Queue cs := h.putTile.bump.raise
  exact .ite h (.ite h1.bump.layItem h1)
theorem State.Queue.settle (h : s.Queue cs) {tag l} : QueueFst cs (s.settle tag l) := by
  unfold State.settle
  extract_lets
  split
  · exact .pair h
  · split
    · exact .ite (.pair h.tileMissing) (.pair h)
    · exact .pair h
  · exact .pair h
theorem State.Queue.execWeaveCut (h : s.Queue cs) : QueueNext cs (execWeaveCut s) :=
  .next (.ite (h.foldl fun _ h1 _ => .ite h1.settle.fst h1) h)
theorem State.Queue.setRcv (h : s.Queue cs) {p e} {f : Receiver → Receiver} : (s.setRcv p e f).Queue cs := h.setWve
theorem State.Queue.launchRcv (h : s.Queue cs) {p e t f l} : (s.launchRcv p e t f l).Queue cs := by
  unfold State.launchRcv
  extract_lets
  refine .ite h.setRcv ?_
  split
  · extract_lets _ s1
    have h1 : s1.Queue cs := by
      unfold s1
      split
      · exact .ite h.bumpN h.bumpN.setWve.raise
      · exact h.bumpN
    exact .setRcv (.ite h1.bumpN h1)
theorem State.Queue.wveRefresh (h : s.Queue cs) {asks} : (s.wveRefresh asks).Queue cs :=
  QueueFst.fst (.foldl (.pair h) fun _ h1 _ => .ite h1 (.pair h1.fst.encRequest.bump))
theorem State.Queue.execWeaveLaunch (h : s.Queue cs) {template} : QueueNext cs (execWeaveLaunch template s) := by
  unfold Machine.execWeaveLaunch
  extract_lets
  refine .next (.ite ?_ h)
  split
  · exact h
  · exact (h.atStep.setWve.foldl fun _ h1 _ => h1.launchRcv).wveRefresh
theorem State.Queue.buildPicture (h : s.Queue cs) {p e f key} : (s.buildPicture p e f key).Queue cs := by
  unfold State.buildPicture
  exact h.of_same.bump.bumpN.bumpN.bumpN.bumpN.setRcv
theorem State.Queue.settleAll (h : s.Queue cs) {l tags} : QueueFst cs (s.settleAll l tags) := by
  induction tags generalizing s with
  | nil => exact .pair h
  | cons tag r ih =>
    unfold State.settleAll
    split
    · next e => exact ih (h.settle.of_eq e)
    · next e => exact .pair (h.settle.of_eq e)
theorem State.Queue.rekey (h : s.Queue cs) {p e why} : (s.rekey p e why).Queue cs := .ite h.setRcv.bump.raise h
theorem State.Queue.spliceLate (h : s.Queue cs) {p e} : (s.spliceLate p e).Queue cs := by
  unfold State.spliceLate
  split
  · exact h.setRcv.bump.raise.layItem.rekey
  · exact h
theorem State.Queue.buildFirst (h : s.Queue cs) {p es} : (s.buildFirst p es).Queue cs := by
  induction es generalizing s with
  | nil => exact h
  | cons e r ih =>
    unfold State.buildFirst
    split
    · refine .ite h.spliceLate ?_
      split
      · next e => exact (h.settleAll.of_eq e).buildPicture
      · next e => exact ih (h.settleAll.of_eq e)
    · exact ih h
theorem State.Queue.execWeavePictureBuild (h : s.Queue cs) {splicer} : QueueNext cs (execWeavePictureBuild splicer s) :=
  .next (.ite h.buildFirst h)
theorem State.Queue.spliceUndo (h : s.Queue cs) {p e l} : (s.spliceUndo p e l).Queue cs := by
  unfold State.spliceUndo
  split
  · exact .ite h.setRcv.spliceLate h
  · exact h.spliceLate
theorem State.Queue.execWveSpliceLate (h : s.Queue cs) {splicer entry} :
    QueueNext cs (execWveSpliceLate splicer entry s) := by
  unfold Machine.execWveSpliceLate
  split
  · exact .next (.ite h.atStep.spliceLate h)
  · exact .next h
theorem State.Queue.execWveRekey (h : s.Queue cs) {src splicer entry} :
    QueueNext cs (execWveRekey src splicer entry s) := by
  unfold Machine.execWveRekey
  extract_lets
  split
  · exact .next (h.access fun _ h1 => h1.rekey)
  · split
    · exact .next h.of_same.rekey
    · exact .next h
theorem State.Queue.wveLoad (h : s.Queue cs) {p} : (s.wveLoad p).Queue cs := h.wr
theorem State.Queue.wveApply (h : s.Queue cs) {p} : (s.wveApply p).Queue cs :=
  .wveLoad (.wveLoad (.ite (h.foldl fun _ h1 _ => h1.tableApply) h))
theorem State.Queue.wveFlipped (h : s.Queue cs) {p} : (s.wveFlipped p).Queue cs :=
  (h.foldl fun _ h1 _ => .ite h1 (.ite h1.setRcv h1.setRcv)).wveLoad
theorem State.Queue.wveClear (h : s.Queue cs) {p} : (s.wveClear p).Queue cs := h.setWve

/-! ## Sys2Proof/Machine/Commit.lean -/

theorem State.Queue.rwsApply (h : s.Queue cs) {p} : (s.rwsApply p).Queue cs := h.foldl fun _ h1 _ => h1.of_same
theorem State.Queue.flipTable (h : s.Queue cs) {p t} : (s.flipTable p t).Queue cs := h.foldl fun _ h1 _ => h1.tset.tset
theorem State.Queue.flipPage (h : s.Queue cs) {p} : (s.flipPage p).Queue cs := h.foldl fun _ h1 _ => h1.flipTable
theorem State.Queue.validate (h : s.Queue cs) {p t} : QueueFst cs (s.validate p t) := by
  refine .ite (.pair h) ?_
  split
  · exact .pair h.raise
  · exact .ite (.pair h) (.ite (.pair h) (.pair h))
theorem State.Queue.cmtResolve (h : s.Queue cs) {p st reason} : (s.cmtResolve p st reason).Queue cs := by
  unfold State.cmtResolve
  extract_lets _ _ _ s1
  have h1 : s1.Queue cs := h.wfld.wfld.seqUp.wfld.setPg
  exact .ite h1.raise (.ite h1.raise h1.raise)
theorem State.Queue.cmtArmed (h : s.Queue cs) {p} : (s.cmtArmed p).Queue cs := h.wfld.wfld.wfld
theorem State.Queue.groupShow (h : s.Queue cs) : s.groupShow.Queue cs := h.wr.wr.wr.wr
theorem State.Queue.setGroup (h : s.Queue cs) {g} {f : Cgrp → Cgrp} : (s.setGroup g f).Queue cs := h.of_same.groupShow
theorem State.Queue.groupResolve (h : s.Queue cs) {g st reason culprit} :
    (s.groupResolve g st reason culprit).Queue cs :=
  h.setGroup
theorem State.Queue.groupRefuse (h : s.Queue cs) {g reason culprit} {why : ℕ → ℕ} :
    (s.groupRefuse g reason culprit why).Queue cs :=
  (h.foldl fun _ h1 _ => h1.cmtResolve).groupResolve
theorem State.Queue.groupLate (h : s.Queue cs) {g} : (s.groupLate g).Queue cs :=
  (h.foldl fun _ h1 _ => h1.cmtResolve).groupResolve
theorem State.Queue.armPage (h : s.Queue cs) {p} : (s.armPage p).Queue cs := by
  unfold State.armPage
  extract_lets
  refine .ite (.ite h.cmtResolve (.ite h.cmtResolve ?_)) (.ite h.cmtResolve ?_)
  · split
    · next e1 => exact (h.validate.of_eq e1).cmtArmed.groupShow
    · next e2 => exact (h.validate.of_eq e2).cmtResolve.groupRefuse
  · split
    · next e3 => exact (h.validate.of_eq e3).cmtArmed
    · next e4 => exact (h.validate.of_eq e4).cmtResolve
theorem State.Queue.cmtAccess (h : s.Queue cs) {src p v} {k : State → State} (hk : ∀ s, s.Queue cs → (k s).Queue cs) :
    (s.cmtAccess src p v k).Queue cs :=
  h.access fun _ h1 => .ite (hk _ h1) h1.accessErr
theorem State.Queue.cmtArm (h : s.Queue cs) {src p v} : (s.cmtArm src p v).Queue cs := .ite h.accessErr h.armPage
theorem State.Queue.cmtDisarm (h : s.Queue cs) {src p v} : (s.cmtDisarm src p v).Queue cs :=
  .ite h (.ite h.accessErr h.cmtResolve.groupShow)
theorem State.Queue.cgrpArm (h : s.Queue cs) {src v} : (s.cgrpArm src v).Queue cs :=
  .ite h.accessErr (.ite h.accessErr (.ite h.groupResolve (.ite h.groupResolve (.ite h.groupResolve h.setGroup))))
theorem State.Queue.cgrpDisarm (h : s.Queue cs) {src v} : (s.cgrpDisarm src v).Queue cs :=
  .ite h.accessErr (.ite h.groupRefuse (.ite h.accessErr h))
theorem State.Queue.execCmtArm (h : s.Queue cs) {src page} : QueueNext cs (execCmtArm src page s) :=
  .next (h.cmtAccess fun _ h1 => h1.cmtArm)
theorem State.Queue.execCmtDisarm (h : s.Queue cs) {src page} : QueueNext cs (execCmtDisarm src page s) :=
  .next (h.cmtAccess fun _ h1 => h1.cmtDisarm)
theorem State.Queue.execCgrpArm (h : s.Queue cs) {src} : QueueNext cs (execCgrpArm src s) :=
  .next (h.access fun _ h1 => h1.cgrpArm)
theorem State.Queue.execCgrpDisarm (h : s.Queue cs) {src} : QueueNext cs (execCgrpDisarm src s) :=
  .next (h.access fun _ h1 => h1.cgrpDisarm)
theorem State.Queue.lfwFlip (h : s.Queue cs) : s.lfwFlip.Queue cs := by
  unfold State.lfwFlip
  exact (h.foldl fun _ h1 _ => h1.resetSub).flipPage.setLfw
theorem State.Queue.linksDown (h : s.Queue cs) {n} : (s.linksDown n).Queue cs := h.foldl fun _ h1 _ => h1.linkDown
theorem State.Queue.applyPage (h : s.Queue cs) {p} : (s.applyPage p).Queue cs := by
  unfold State.applyPage
  refine .cmtResolve ?_
  refine .ite (.ite h.rwsApply.pmDoubt h.rwsApply) ?_
  refine .ite (.ite h.rwsApply.lfwFlip h.rwsApply) ?_
  refine .ite h.rwsApply.mxfApply ?_
  refine .ite (.ite h.rwsApply.encApply h.rwsApply.decApply) ?_
  refine .ite (.ite h.rwsApply.wveApply.flipPage.wveFlipped h.rwsApply.wveApply) ?_
  refine .ite h.rwsApply.pxcApply ?_
  refine .ite (h.rwsApply.escTables.foldl fun _ h1 _ => h1.gclApply) ?_
  refine .ite (.ite (.ite h.rwsApply.flipPage h.rwsApply) h.rwsApply.lnuTables) ?_
  exact .ite (.refreshReady (.ite h.rwsApply h.rwsApply.linksDown)) h.rwsApply
theorem State.Queue.execCommitApply (h : s.Queue cs) {page} : QueueNext cs (execCommitApply page s) :=
  .next (.ite (.ite h.atStep.cmtResolve h.atStep.applyPage) h)
theorem State.Queue.execCgrpCheck (h : s.Queue cs) {group} : QueueNext cs (execCgrpCheck group s) := by
  unfold Machine.execCgrpCheck
  extract_lets _ _ _ s1
  refine .next (.ite ?_ h)
  clear_value s1
  split
  · exact h.atStep.groupRefuse
  · exact .ite h.atStep.groupRefuse h.atStep.setGroup
theorem State.Queue.execCgrpApply (h : s.Queue cs) {group} : QueueNext cs (execCgrpApply group s) :=
  .next (.ite ((h.atStep.foldl fun _ h1 _ => h1.applyPage).groupResolve) h)
theorem State.Queue.startLate (h : s.Queue cs) : s.startLate.Queue cs :=
  (h.foldl fun _ h1 _ => h1.groupLate).foldl fun _ h2 _ => h2.cmtResolve
theorem State.Queue.resetCommit (h : s.Queue cs) {p} : (s.resetCommit p).Queue cs :=
  .ite h (.ite h.cmtResolve.groupRefuse h.cmtResolve.groupShow)
theorem State.Queue.doomCommit (h : s.Queue cs) {p} : (s.doomCommit p).Queue cs := .ite h.setPg h

/-! ## Sys2Proof/Machine/Operands.lean -/

theorem State.Queue.setCore (h : s.Queue cs) {n} {f : WCore → WCore} : (s.setCore n f).Queue cs := h.of_same

/-! ## Sys2Proof/Machine/Withy.lean -/

theorem State.Queue.setWst (h : s.Queue cs) {n v} : (s.setWst n v).Queue cs := h.wfld
theorem State.Queue.endWait (h : s.Queue cs) {n} : (s.endWait n).Queue cs := by
  unfold State.endWait
  split
  · exact h.bumpN.setCore.setWst
  · exact h
theorem State.Queue.beginWait (h : s.Queue cs) {n} : (s.beginWait n).Queue cs := by
  unfold State.beginWait
  split
  · exact h
  · exact h.setCore.setWst
theorem State.Queue.testHalted (h : s.Queue cs) {n v} : (s.testHalted n v).Queue cs := h.setCore.setWst.wfld.seqUp.wr
theorem State.Queue.wdsRetire (h : s.Queue cs) {n v faulted cycles} : (s.wdsRetire n v faulted cycles).Queue cs := by
  unfold State.wdsRetire
  extract_lets s1
  have h1 : s1.Queue cs := h.endWait.bumpN
  exact .ite h1.setCore.testHalted h1.setCore
theorem State.Queue.cutChans (h : s.Queue cs) {n} : (s.cutChans n).Queue cs :=
  h.foldl fun _ h1 _ => .ite h1.setCore.takeFree h1.setCore
theorem State.Queue.wdsFaultAt (h : s.Queue cs) {n cause pc cycles} : (s.wdsFaultAt n cause pc cycles).Queue cs :=
  h.endWait.wfld.wfld.seqUp.bump.raise.cutChans.setCore.wdsRetire
theorem State.Queue.memUe (h : s.Queue cs) {n bank word} : (s.memUe n bank word).Queue cs := h.raise.setPg.refreshReady
theorem State.Queue.eccFixed (h : s.Queue cs) {n chk} : (s.eccFixed n chk).Queue cs := .ite h.bumpN h
theorem State.Queue.withyRun (h : s.Queue cs) {n chk op} : (s.withyRun n chk op).Queue cs := by
  refine .ite ?_ h
  extract_lets
  split
  · exact h.beginWait
  · exact .wdsFaultAt (.ite h.endWait.memUe h.endWait)
  · exact h.wdsRetire
  · exact h.endWait.setCore.eccFixed
theorem State.Queue.execNop (h : s.Queue cs) {n} : QueueNext cs (execNop n s) := .next h.withyRun
theorem State.Queue.execMov (h : s.Queue cs) {n d a} : QueueNext cs (execMov n d a s) := .next h.withyRun
theorem State.Queue.execMovi (h : s.Queue cs) {n d imm} : QueueNext cs (execMovi n d imm s) := .next h.withyRun
theorem State.Queue.execMovhi (h : s.Queue cs) {n d imm} : QueueNext cs (execMovhi n d imm s) := .next h.withyRun
theorem State.Queue.execWithyAdd (h : s.Queue cs) {n d a b} : QueueNext cs (execWithyAdd n d a b s) := .next h.withyRun
theorem State.Queue.execSub (h : s.Queue cs) {n d a b} : QueueNext cs (execSub n d a b s) := .next h.withyRun
theorem State.Queue.execAnd (h : s.Queue cs) {n d a b} : QueueNext cs (execAnd n d a b s) := .next h.withyRun
theorem State.Queue.execOr (h : s.Queue cs) {n d a b} : QueueNext cs (execOr n d a b s) := .next h.withyRun
theorem State.Queue.execXor (h : s.Queue cs) {n d a b} : QueueNext cs (execXor n d a b s) := .next h.withyRun
theorem State.Queue.execShl (h : s.Queue cs) {n d a b} : QueueNext cs (execShl n d a b s) := .next h.withyRun
theorem State.Queue.execShr (h : s.Queue cs) {n d a b} : QueueNext cs (execShr n d a b s) := .next h.withyRun
theorem State.Queue.execShrl (h : s.Queue cs) {n d a b} : QueueNext cs (execShrl n d a b s) := .next h.withyRun
theorem State.Queue.execMax (h : s.Queue cs) {n d a b} : QueueNext cs (execMax n d a b s) := .next h.withyRun
theorem State.Queue.execMin (h : s.Queue cs) {n d a b} : QueueNext cs (execMin n d a b s) := .next h.withyRun
theorem State.Queue.execAddi (h : s.Queue cs) {n d a imm} : QueueNext cs (execAddi n d a imm s) := .next h.withyRun
theorem State.Queue.execShri (h : s.Queue cs) {n d a k} : QueueNext cs (execShri n d a k s) := .next h.withyRun
theorem State.Queue.execShli (h : s.Queue cs) {n d a k} : QueueNext cs (execShli n d a k s) := .next h.withyRun
theorem State.Queue.execAbs (h : s.Queue cs) {n d a} : QueueNext cs (execAbs n d a s) := .next h.withyRun
theorem State.Queue.execMaxi (h : s.Queue cs) {n d a} : QueueNext cs (execMaxi n d a s) := .next h.withyRun
theorem State.Queue.execMini (h : s.Queue cs) {n d a} : QueueNext cs (execMini n d a s) := .next h.withyRun
theorem State.Queue.execExpt (h : s.Queue cs) {n d a} : QueueNext cs (execExpt n d a s) := .next h.withyRun
theorem State.Queue.execCmp (h : s.Queue cs) {n a b} : QueueNext cs (execCmp n a b s) := .next h.withyRun
theorem State.Queue.execCmpi (h : s.Queue cs) {n a imm} : QueueNext cs (execCmpi n a imm s) := .next h.withyRun
theorem State.Queue.execLdw (h : s.Queue cs) {n d ax post imm ecc} : QueueNext cs (execLdw n d ax post imm ecc s) :=
  .next h.withyRun
theorem State.Queue.execLdh (h : s.Queue cs) {n d ax post imm} : QueueNext cs (execLdh n d ax post imm s) :=
  .next h.withyRun
theorem State.Queue.execStw (h : s.Queue cs) {n d ax post imm} : QueueNext cs (execStw n d ax post imm s) :=
  .next h.withyRun
theorem State.Queue.execSth (h : s.Queue cs) {n d ax post imm} : QueueNext cs (execSth n d ax post imm s) :=
  .next h.withyRun
theorem State.Queue.execMpy (h : s.Queue cs) {n acc a b sh th} : QueueNext cs (execMpy n acc a b sh th s) :=
  .next h.withyRun
theorem State.Queue.execMac (h : s.Queue cs) {n acc a b sh th} : QueueNext cs (execMac n acc a b sh th s) :=
  .next h.withyRun
theorem State.Queue.execMsu (h : s.Queue cs) {n acc a b sh th} : QueueNext cs (execMsu n acc a b sh th s) :=
  .next h.withyRun
theorem State.Queue.execMacm (h : s.Queue cs) {n acc p q} : QueueNext cs (execMacm n acc p q s) := .next h.withyRun
theorem State.Queue.execClr (h : s.Queue cs) {n acc} : QueueNext cs (execClr n acc s) := .next h.withyRun
theorem State.Queue.execRda (h : s.Queue cs) {n d acc shift wid} : QueueNext cs (execRda n d acc shift wid s) :=
  .next h.withyRun
theorem State.Queue.execSta (h : s.Queue cs) {n acc ax post imm shift wid} :
    QueueNext cs (execSta n acc ax post imm shift wid s) :=
  .next h.withyRun
theorem State.Queue.execMova (h : s.Queue cs) {n acc a} : QueueNext cs (execMova n acc a s) := .next h.withyRun
theorem State.Queue.execSeta (h : s.Queue cs) {n r a} : QueueNext cs (execSeta n r a s) := .next h.withyRun
theorem State.Queue.execGeta (h : s.Queue cs) {n d r} : QueueNext cs (execGeta n d r s) := .next h.withyRun
theorem State.Queue.execAadd (h : s.Queue cs) {n ax imm} : QueueNext cs (execAadd n ax imm s) := .next h.withyRun
theorem State.Queue.execSetm (h : s.Queue cs) {n a} : QueueNext cs (execSetm n a s) := .next h.withyRun
theorem State.Queue.execGetm (h : s.Queue cs) {n d} : QueueNext cs (execGetm n d s) := .next h.withyRun
theorem State.Queue.execB (h : s.Queue cs) {n cond target} : QueueNext cs (execB n cond target s) := .next h.withyRun
theorem State.Queue.execCall (h : s.Queue cs) {n target} : QueueNext cs (execCall n target s) := .next h.withyRun
theorem State.Queue.execBr (h : s.Queue cs) {n a} : QueueNext cs (execBr n a s) := .next h.withyRun
theorem State.Queue.execRepi (h : s.Queue cs) {n len count} : QueueNext cs (execRepi n len count s) := .next h.withyRun
theorem State.Queue.execRepr (h : s.Queue cs) {n len a} : QueueNext cs (execRepr n len a s) := .next h.withyRun
theorem State.Queue.execExit (h : s.Queue cs) {n a} : QueueNext cs (execExit n a s) := .next h.withyRun
theorem State.Queue.execWaitd (h : s.Queue cs) {n mask} : QueueNext cs (execWaitd n mask s) := .next h.withyRun
theorem State.Queue.execWaitf (h : s.Queue cs) {n} : QueueNext cs (execWaitf n s) := .next h.withyRun
theorem State.Queue.execEi (h : s.Queue cs) {n} : QueueNext cs (execEi n s) := .next h.withyRun
theorem State.Queue.execDi (h : s.Queue cs) {n} : QueueNext cs (execDi n s) := .next h.withyRun
theorem State.Queue.execReti (h : s.Queue cs) {n} : QueueNext cs (execReti n s) := .next h.withyRun
theorem State.Queue.execNorm (h : s.Queue cs) {n d acc} : QueueNext cs (execNorm n d acc s) := .next h.withyRun
theorem State.Queue.execReservedOpcode (h : s.Queue cs) {w} : QueueNext cs (execReservedOpcode w s) :=
  .next (.ite h (.ite h.wdsFaultAt (.ite h.memUe.wdsFaultAt (.ite h.eccFixed.wdsFaultAt h.eccFixed))))
theorem State.Queue.execInterruptEntry (h : s.Queue cs) {n} : QueueNext cs (execInterruptEntry n s) :=
  .next (.ite h.endWait.setCore h)

/-! ## Sys2Proof/Machine/WithySys.lean -/

theorem State.Queue.coreStart (h : s.Queue cs) {n id d} : (s.coreStart n id d).Queue cs := h.setCore.setWst.bump
theorem State.Queue.coreAbort (h : s.Queue cs) {n} : (s.coreAbort n).Queue cs := h.endWait.bumpN.cutChans.setCore.setWst
theorem State.Queue.dmaPut (h : s.Queue cs) {d i bs} : (s.dmaPut d i bs).Queue cs := by
  induction bs generalizing s i with
  | nil => exact h
  | cons b r ih => exact ih (.ite h.dramSet (.ite h.pktPut h.sramPut))
theorem State.Queue.dmaMove (h : s.Queue cs) {n d} : (s.dmaMove n d).Queue cs := .bumpN (.ite h.dmaPut h.setCore)
theorem State.Queue.execDmaStart (h : s.Queue cs) {n ch} : QueueNext cs (execDmaStart n ch s) := by
  unfold Machine.execDmaStart
  extract_lets
  split
  · exact .next h
  · exact .next (.ite h.setCore.wdsFaultAt h.setCore)
theorem State.Queue.restIdle (h : s.Queue cs) {n} : (s.restIdle n).Queue cs := .ite h.setWst h
theorem State.Queue.dmaCheck (h : s.Queue cs) {n d ecc} : (s.dmaCheck n d ecc).Queue cs :=
  .ite h (.ite (.ite h.memUe.wdsFaultAt h.memUe) h.eccFixed)
theorem State.Queue.execDmaDone (h : s.Queue cs) {n ch} : QueueNext cs (execDmaDone n ch s) := by
  unfold Machine.execDmaDone
  extract_lets _ _ _ s1
  have h1 : s1.Queue cs := .restIdle (.setCore (.ite h.dmaMove h))
  exact .next (.ite (.ite h1.dmaCheck h1) h)
theorem State.Queue.execFabricResponse (h : s.Queue cs) {n} : QueueNext cs (execFabricResponse n s) :=
  .next (.ite h (.ite h.setCore.restIdle (.ite h h.setCore)))
theorem State.Queue.execWdsLoad (h : s.Queue cs) {src n image} : QueueNext cs (execWdsLoad src n image s) := by
  unfold Machine.execWdsLoad
  extract_lets
  refine .next (h.access fun _ h1 => .ite h1.accessErr ?_)
  extract_lets
  split
  · exact h1.wfld.setCore.setWst.wfld.refreshReady
  · exact h1.wfld.raise
theorem State.Queue.execWdsLoaded (h : s.Queue cs) {n} : QueueNext cs (execWdsLoaded n s) := by
  unfold Machine.execWdsLoaded
  extract_lets _ s1
  have h1 : s1.Queue cs := h.setCore.setWst
  split
  · exact .next h
  · exact .next (.ite h1.raise h1.setCore.tsetF.wfld.wfld.raise.refreshReady)
theorem State.Queue.coreClear (h : s.Queue cs) {n} : (s.coreClear n).Queue cs := h.setCore.wfld.wfld
theorem State.Queue.execWdsModeWrite (h : s.Queue cs) {src n test} : QueueNext cs (execWdsModeWrite src n test s) := by
  refine .next ?_
  refine h.access fun _ h1 => ?_
  exact .ite h1.accessErr (.ite h1 (.ite h1.wfld.refreshReady h1.coreClear.refreshReady))
theorem State.Queue.memPut (h : s.Queue cs) {n dmem entry v} : (s.memPut n dmem entry v).Queue cs := h.setCore
theorem State.Queue.execWdsMemWrite (h : s.Queue cs) {src n dmem entry v} :
    QueueNext cs (execWdsMemWrite src n dmem entry v s) :=
  .next (h.access fun _ h1 => .ite h1.tblRefuse h1.memPut)
theorem State.Queue.execTestGo (h : s.Queue cs) {src n pc} : QueueNext cs (execTestGo src n pc s) :=
  .next (h.access fun _ h1 => .ite h1.wfld.accessErr h1.wfld.setCore.setWst.wfld)
theorem State.Queue.execTestIrq (h : s.Queue cs) {src n} : QueueNext cs (execTestIrq src n s) :=
  .next (h.access fun _ h1 => .ite h1.accessErr h1.setCore)
theorem State.Queue.execTestHalt (h : s.Queue cs) {src n} : QueueNext cs (execTestHalt src n s) :=
  .next (h.access fun _ h1 => .ite h1.accessErr h1.coreAbort.wfld.seqUp.wr.takeFree)

/-! ## Sys2Proof/Machine/Tasks.lean -/

theorem State.Queue.execTaskStart (h : s.Queue cs) {e} : QueueNext cs (execTaskStart e s) := by
  unfold Machine.execTaskStart
  split
  · exact .next h
  · exact .next (.ite (.ite h.startTask.setPrg.coreStart (.ite h.startTask.encStart h.startTask)) h)
theorem State.Queue.engineAbort (h : s.Queue cs) {d status running} : (s.engineAbort d status running).Queue cs :=
  .ite h.encAbort (.ite h.decAbort h)
theorem State.Queue.abortTask (h : s.Queue cs) {id status detail} : (s.abortTask id status detail).Queue cs :=
  .rveEnd (.engineAbort (.ite (.setRun (.ite h.leaveSlot.coreAbort h.leaveSlot)) h.leaveSlot))
theorem State.Queue.execBudgetAbort (h : s.Queue cs) {e} : QueueNext cs (execBudgetAbort e s) := by
  unfold Machine.execBudgetAbort
  split
  · exact .next h
  · exact .next (.ite h.raise.abortTask h)
theorem State.Queue.deadlineAbort (h : s.Queue cs) {id} : (s.deadlineAbort id).Queue cs :=
  .abortTask (.ite (.ite h.raise.layItem.raise h.raise.layItem) h.raise)
theorem State.Queue.execTaskComplete (h : s.Queue cs) {e value} : QueueNext cs (execTaskComplete e value s) := by
  unfold Machine.execTaskComplete
  split
  · exact .next h
  · refine .next ?_
    refine .ite (.ite (.ite h.deadlineAbort h.setCore.setWst.setRun.rveEnd) h) ?_
    exact .ite (.ite (.ite h.deadlineAbort h.encDone.setRun.rveEnd) h) h
theorem State.Queue.execDecodeComplete (h : s.Queue cs) {dec r} : QueueNext cs (execDecodeComplete dec r s) := by
  unfold Machine.execDecodeComplete
  split
  · exact .next h
  · extract_lets
    split
    · exact .next h
    · exact .next (.ite h (.ite h.deadlineAbort h.decSave.setDec.decEnd.crlFree.setRun.rveEnd))
theorem State.Queue.heldLate (h : s.Queue cs) : s.heldLate.Queue cs :=
  h.foldl fun _ h1 _ => h1.foldl fun _ h2 _ => h2.decHeldLate
theorem State.Queue.execDeadlineAbort (h : s.Queue cs) {id} : QueueNext cs (execDeadlineAbort id s) := by
  refine .next (.ite ?_ h)
  extract_lets s1
  have h1 : s1.Queue cs := h.atStep.heldLate
  exact .ite h1.deadlineAbort h1
theorem State.Queue.abortRes (h : s.Queue cs) {n} : (s.abortRes n).Queue cs := h.wfld.seqUp
theorem State.Queue.execAbortTask (h : s.Queue cs) {src id} : QueueNext cs (execAbortTask src id s) :=
  .next (h.access fun _ h1 => .ite h1.abortTask.abortRes h1.abortRes)
theorem State.Queue.execAbortOwner (h : s.Queue cs) {src owner} : QueueNext cs (execAbortOwner src owner s) :=
  .next (h.access fun _ h1 => (h1.foldl fun _ h2 _ => h2.abortTask).abortRes)
theorem State.Queue.fenceAbort (h : s.Queue cs) {e} : (s.fenceAbort e).Queue cs := by
  unfold State.fenceAbort
  split
  · exact h.abortTask.raise
  · exact h.raise
theorem State.Queue.fabricDo (h : s.Queue cs) {n target rq} : QueueFst cs (s.fabricDo n target rq) := by
  unfold State.fabricDo
  extract_lets _ _ _ _ _ _ _ s1 _ s2
  have h1 : ∀ s, s.Queue cs → QueueFst cs (s1 s) := fun _ h3 => .pair h3
  have h2 : ∀ s, s.Queue cs → QueueFst cs (s2 s) := fun _ h4 => .pair h4
  refine .ite (.pair h.rveSubmit.fst) ?_
  refine .ite (.pair h.rveDecrement) ?_
  refine .ite ?_ ?_
  · refine .ite (h1 _ h.crlAlloc.fst) ?_
    exact .ite (h1 _ h.crlAdd) (.ite (h1 _ h.crlDrop) (.ite (h1 _ h.crlFree) (.pair h.takeFree)))
  · refine .ite ?_ ?_
    · refine .ite (h2 _ h.colReserve) ?_
      refine .ite (h2 _ h.colCommit) ?_
      refine .ite (h2 _ h.colNext.fst) ?_
      exact .ite (h2 _ h.colRelease) (.ite (h2 _ h.colMark) (.ite (h2 _ h.colRewind) (.pair h.takeFree)))
    · exact .ite (.pair h.bulkSubmit.fst) (.ite (.pair h) (.ite (.pair h.estDone) (.pair h.estRate)))
theorem State.Queue.fabricSent (h : s.Queue cs) {n r} : (s.fabricSent n r).Queue cs := by
  unfold State.fabricSent
  exact h.setPrg.endWait.setCore
theorem State.Queue.fabricIssue (h : s.Queue cs) {n target rq} : QueueFst cs (s.fabricIssue n target rq) :=
  .pair (.fabricSent (.ite h.fabricDo.fst.lay h.fabricDo.fst))
theorem State.Queue.fabricFollow (h : s.Queue cs) {n target rq o} : (s.fabricFollow n target rq o).Queue cs := by
  unfold State.fabricFollow
  extract_lets
  refine .ite h.setPrg.fabricSent ?_
  split
  · next e1 => exact h.setPrg.fabricIssue.of_eq e1
  · next e2 => exact (h.setPrg.fabricIssue.of_eq e2).diverge
theorem State.Queue.execFabricRequest (h : s.Queue cs) {n} : QueueNext cs (execFabricRequest n s) := by
  unfold Machine.execFabricRequest
  extract_lets
  split
  · exact .next h
  · refine .next (.ite h.wdsFaultAt (.ite h (.ite h.beginWait (.ite ?_ h.fabricIssue.fst))))
    split
    · exact h.fabricFollow
    · exact .ite h h.beginWait.setPrg
theorem State.Queue.holdMet (h : s.Queue cs) {key ordinal} : (s.holdMet key ordinal).Queue cs := by
  unfold State.holdMet
  split
  · exact h
  · split
    · split
      · exact h.fabricFollow
      · exact h
    · exact h.setPrg
theorem State.Queue.execOutcomeHoldTimeout (h : s.Queue cs) : QueueNext cs (execOutcomeHoldTimeout s) := by
  unfold Machine.execOutcomeHoldTimeout
  extract_lets
  refine .next (h.foldl fun _ h1 _ => ?_)
  extract_lets
  split
  · exact h1.setPrg.fabricIssue.fst.diverge
  · exact h1.setPrg

/-! ## Sys2Proof/Machine/Prg.lean -/

theorem State.Queue.pairForce (h : s.Queue cs) {on} : (s.pairForce on).Queue cs :=
  h.foldl fun _ h1 _ => h1.aisWith fun _ h2 => h2.wfld
theorem State.Queue.setPair (h : s.Queue cs) {st standby} : (s.setPair st standby).Queue cs := by
  unfold State.setPair
  extract_lets s1
  have h1 : s1.Queue cs := h.wfld.wfld
  exact .ite h1.pairForce (.ite h1.pairForce h1)
theorem State.Queue.bypassRefresh (h : s.Queue cs) : s.bypassRefresh.Queue cs := h.wfld
theorem State.Queue.freeHeld (h : s.Queue cs) : s.freeHeld.Queue cs := h.setPrg.foldl fun _ h1 _ => h1.iclFree
theorem State.Queue.swapResolve (h : s.Queue cs) {st reason} : (s.swapResolve st reason).Queue cs := h.wfld.wfld.seqUp.wfld
theorem State.Queue.actSolo (h : s.Queue cs) : s.actSolo.Queue cs := by
  unfold State.actSolo
  exact .setPair (.foldl (.ite h.setPrg.swapResolve h.setPrg) fun _ h1 _ => .ite h1 h1.gateRelease)
theorem State.Queue.goSilent (h : s.Queue cs) : s.goSilent.Queue cs := by
  unfold State.goSilent
  exact ((h.setPrg.foldl fun _ h1 _ => h1.gateSuppress).foldl fun _ h2 _ => h2.iclFree).setPair
theorem State.Queue.promote (h : s.Queue cs) : s.promote.Queue cs := by
  unfold State.promote
  extract_lets _ _ s1 _ _ _ _ _ _ _ s2
  have h1 : s1.Queue cs := .ite h h.takeFree
  have h2 : s2.Queue cs := by
    refine .foldl ?_ fun _ h3 _ => ?_
    · refine .setPair ?_
      refine .foldl ?_ fun _ h4 _ => ?_
      · exact .setPrg (.ite h1.captureFresh h1)
      · exact .ite h4.gateRelease h4.gateSuppress
    · split
      · next e5 => exact (h3.policePkt.of_eq e5).toCpe
      · next e6 => exact (h3.policePkt.of_eq e6).iclDrop
  exact h2.raise
theorem State.Queue.execPromote (h : s.Queue cs) : QueueNext cs (execPromote s) := .next (.ite h.promote h)
theorem State.Queue.execTwinDead (h : s.Queue cs) : QueueNext cs (execTwinDead s) := .next (.ite h.wfld h)
theorem State.Queue.execTwinAlive (h : s.Queue cs) : QueueNext cs (execTwinAlive s) := .next (.ite h.wfld h)
theorem State.Queue.execPairLinkSend (h : s.Queue cs) : QueueNext cs (execPairLinkSend s) :=
  .next (.ite (.setPrg (.ite h.closeBoundary.carryWrites h)) h)
theorem State.Queue.execPairRetransmit (h : s.Queue cs) : QueueNext cs (execPairRetransmit s) :=
  .next (.ite h.setPrg.bumpN h)
theorem State.Queue.fetchAnswer (h : s.Queue cs) {scid kind seq} : (s.fetchAnswer scid kind seq).Queue cs := h.prgSend
theorem State.Queue.joining (h : s.Queue cs) {j} : (s.joining j).Queue cs := by
  unfold State.joining
  exact h.setPrg.wr.setPair.raise
theorem State.Queue.twinState (h : s.Queue cs) {st arg} : (s.twinState st arg).Queue cs := by
  refine .ite h (.ite ?_ (.ite h.setPair.raise h.setPair))
  extract_lets _ s1
  have h1 : s1.Queue cs := h.setPrg.setPair
  exact .ite h1 h1.raise
theorem State.Queue.deliverMsg (h : s.Queue cs) {m} : (s.deliverMsg m).Queue cs := by
  unfold State.deliverMsg
  split
  · exact h.twinState
  · exact .ite h.joining h
  · exact h.setPrg
  · exact h.setPrg.bypassRefresh
  · exact .ite h.fetchAnswer h
  · exact (h.setMem).foldl
      fun _ h1 _ => h1.dramSet
  · exact h.tset
  · exact h.setCrypto
  · exact h.setSkt
  · exact h.setKslot
  · exact h.setPrg
theorem State.Queue.deliverFrames (h : s.Queue cs) {n} : (s.deliverFrames n).Queue cs := by
  induction n generalizing s with
  | zero => exact h
  | succ n ih =>
    unfold State.deliverFrames
    split
    · exact h
    · exact ih (h.setPrg.foldl fun _ h1 _ => h1.deliverMsg)
theorem State.Queue.execPairLinkFrame (h : s.Queue cs) {seq ack msgs} :
    QueueNext cs (execPairLinkFrame seq ack msgs s) :=
  .next (.ite h (.deliverFrames (.setPrg (.ite h h.wfld.prgSend.bypassRefresh))))
theorem State.Queue.execPrgLinkDown (h : s.Queue cs) : QueueNext cs (execPrgLinkDown s) := by
  refine .next (.ite ?_ h)
  extract_lets _ s1
  have h1 : s1.Queue cs := h.setPrg.wfld.bypassRefresh
  exact .ite h1 (.ite h1.actSolo.raise (.ite h1.goSilent.raise h1.promote))
theorem State.Queue.rxTake (h : s.Queue cs) {f : Sys2Proof.Msg → Option α} : QueueSome cs (s.rxTake f) := by
  unfold State.rxTake
  split
  · exact .none
  · split
    · exact .some (.pair h.setPrg)
    · exact .none
theorem State.Queue.execHello (h : s.Queue cs) : QueueNext cs (execHello s) := by
  unfold Machine.execHello
  split
  · exact .next h
  · next s1 _ _ _ _ _ _ _ e2 =>
      have h1 : s1.Queue cs := (h.rxTake.of_eq e2).fst
      refine .next (.ite ?_ h1)
      split
      · extract_lets _ _ s3
        have h3 : s3.Queue cs := h1.freeHeld.setPrg
        exact .ite h3.setPair.prgSend.raise h3.setPair.prgSend
      · exact h1.raise
theorem State.Queue.execDemoteRx (h : s.Queue cs) : QueueNext cs (execDemoteRx s) := by
  unfold Machine.execDemoteRx
  split
  · exact .next h
  · next s1 _ _ e2 =>
      have h1 : s1.Queue cs := (h.rxTake.of_eq e2).fst
      exact .next (.ite h1 (.ite h1.setPrg h1.actSolo))
theorem State.Queue.fatalRaised (h : s.Queue cs) : s.fatalRaised.Queue cs := .ite h.setPrg.prgSend h.setPrg
theorem State.Queue.execConfigForward (h : s.Queue cs) : QueueNext cs (execConfigForward s) :=
  .next (.ite (.ite h h.closeBoundary.carryWrites) h)
theorem State.Queue.layTake (h : s.Queue cs) {ty} : QueueSome cs (s.layTake ty) := by
  unfold State.layTake
  split
  · exact .none
  · next e1 => exact .ite (.some (.pair ((h.rxTake.of_eq e1).fst.setPrg.bump))) .none
theorem State.Queue.wantRun (h : s.Queue cs) {n} : (s.wantRun n).Queue cs := by
  induction n generalizing s with
  | zero => exact h
  | succ n ih =>
    unfold State.wantRun
    split
    · exact h
    · exact ih (.ite h.setPrg.inbound h.setPrg.iclDrop)
theorem State.Queue.execLayPkt (h : s.Queue cs) : QueueNext cs (execLayPkt s) := by
  unfold Machine.execLayPkt
  extract_lets s1
  have h1 : s1.Queue cs := by
    unfold s1
    split
    · exact h
    · next s2 _ _ e3 =>
        have h2 : s2.Queue cs := (h.layTake.of_eq e3).fst
        exact .ite h2.setPrg h2
  exact .next (.ite h1.wantRun h1)
theorem State.Queue.execFetchRequest (h : s.Queue cs) : QueueNext cs (execFetchRequest s) :=
  .next (.ite (h.setPrg.foldl fun _ h1 _ => h1.prgSend) h)
theorem State.Queue.inputMissing (h : s.Queue cs) {w} : (s.inputMissing w).Queue cs := h.setPrg.bump.diverge
theorem State.Queue.acceptFetched (h : s.Queue cs) {w plain} : (s.acceptFetched w plain).Queue cs := by
  refine .ite h.bump.inputMissing ?_
  split
  · next e1 => exact (h.crlAlloc.of_eq e1).inputMissing
  · next s2 _ e3 =>
      have h2 : s2.Queue cs := h.crlAlloc.of_eq e3
      split
      · exact h2.iclFree.inputMissing
      · exact h2.setPrg.bump.inRelease.fst
theorem State.Queue.execFetchResponse (h : s.Queue cs) : QueueNext cs (execFetchResponse s) := by
  unfold Machine.execFetchResponse
  split
  · exact .next h
  · next s1 _ _ _ _ _ e2 =>
      have h1 : s1.Queue cs := (h.rxTake.of_eq e2).fst
      split
      · exact .next h1
      · extract_lets s3
        have h3 : s3.Queue cs := by
          unfold s3
          split
          · exact h1.acceptFetched
          · exact h1.inputMissing
        exact .next h3.wantRun
theorem State.Queue.execFetchTimeout (h : s.Queue cs) : QueueNext cs (execFetchTimeout s) :=
  .next ((h.foldl fun _ h1 _ => h1.inputMissing).wantRun)
theorem State.Queue.execHeldInputTimeout (h : s.Queue cs) : QueueNext cs (execHeldInputTimeout s) :=
  .next (h.foldl fun _ h1 _ => h1.setPrg.bump.iclFree)
theorem State.Queue.execLayTdm (h : s.Queue cs) : QueueNext cs (execLayTdm s) := by
  unfold Machine.execLayTdm
  split
  · exact .next h
  · next s1 _ _ e2 =>
      have h1 : s1.Queue cs := (h.layTake.of_eq e2).fst
      exact .next (.ite h1.tdmEntry h1)
theorem State.Queue.execLayDeq (h : s.Queue cs) : QueueNext cs (execLayDeq s) := by
  unfold Machine.execLayDeq
  split
  · exact .next h
  · next s1 _ _ e2 =>
      have h1 : s1.Queue cs := (h.layTake.of_eq e2).fst
      exact .next (.ite h1.deqEntry h1)
theorem State.Queue.execLayDrop (h : s.Queue cs) : QueueNext cs (execLayDrop s) := by
  unfold Machine.execLayDrop
  split
  · exact .next h
  · next s1 _ _ e2 =>
      have h1 : s1.Queue cs := (h.layTake.of_eq e2).fst
      exact .next (.ite h1.deqEntry h1)
theorem State.Queue.execLayOutcome (h : s.Queue cs) : QueueNext cs (execLayOutcome s) := by
  unfold Machine.execLayOutcome
  split
  · exact .next h
  · next s1 _ _ e2 =>
      have h1 : s1.Queue cs := (h.layTake.of_eq e2).fst
      exact .next (.ite h1.setPrg.holdMet h1)
theorem State.Queue.execLayRefuse (h : s.Queue cs) : QueueNext cs (execLayRefuse s) := by
  unfold Machine.execLayRefuse
  split
  · exact .next h
  · next s1 _ _ e2 =>
      have h1 : s1.Queue cs := (h.layTake.of_eq e2).fst
      exact .next (.ite h1 (.ite h1.keyRequest h1.setPrg))
theorem State.Queue.execDigestRx (h : s.Queue cs) : QueueNext cs (execDigestRx s) := by
  unfold Machine.execDigestRx
  split
  · exact .next h
  · next s1 _ _ _ _ e2 =>
      have h1 : s1.Queue cs := (h.rxTake.of_eq e2).fst
      exact .next (.ite h1.gateDigest h1)
theorem State.Queue.execGateWaitExpire (h : s.Queue cs) : QueueNext cs (execGateWaitExpire s) := .next (.ite h h.gateExpire)
theorem State.Queue.execGateHoldExpire (h : s.Queue cs) : QueueNext cs (execGateHoldExpire s) := .next (.ite h.gateExpire h)
theorem State.Queue.execSwapArm (h : s.Queue cs) {src} : QueueNext cs (execSwapArm src s) := by
  refine .next ?_
  refine h.access fun _ h1 => ?_
  exact .ite h1.accessErr (.ite h1.swapResolve (.ite h1.swapResolve h1.wfld.wfld.wfld.setPrg.prgSend))
theorem State.Queue.swapCheck (h : s.Queue cs) : s.swapCheck.Queue cs := .ite (.ite h.setPrg.swapResolve h.setPrg) h
theorem State.Queue.execSwapApply (h : s.Queue cs) : QueueNext cs (execSwapApply s) := by
  refine .next (.ite ?_ h)
  extract_lets _ _ _ s1
  have h1 : s1.Queue cs := h.atStep.closeBoundary.carryWrites
  exact .ite h.atStep.setPrg.setPair (.ite h1.setPrg.setPair.swapResolve h1.setPrg.setPair)
theorem State.Queue.execAutoSwap (h : s.Queue cs) : QueueNext cs (execAutoSwap s) := by
  refine .next ?_
  split
  · exact .ite h.setPrg.setPrg.prgSend h.setPrg
  · exact h
theorem State.Queue.execJoinGo (h : s.Queue cs) {src converge} : QueueNext cs (execJoinGo src converge s) :=
  .next (h.access fun _ h1 => .ite h1.wfld.raise (.ite h1.wfld.raise h1.wfld.setPrg.wr64.setPair.prgSend))
theorem State.Queue.execCopyComplete (h : s.Queue cs) : QueueNext cs (execCopyComplete s) :=
  .next (.ite ((h.foldl fun _ h1 _ => h1.prgSend).wr64.setPrg.joining.prgSend) h)
theorem State.Queue.joinBegins (h : s.Queue cs) : s.joinBegins.Queue cs := by
  refine .ite ?_ h
  refine (h.foldl fun _ h1 _ => h1.prgSend).layItem.foldl fun _ h2 _ => ?_
  exact h2.foldl fun _ h3 _ => h3.encRequest
theorem State.Queue.load (h : s.Queue cs) {u c} : (s.load u c).Queue cs := by
  unfold State.load
  split
  · exact h.setMxf
  · exact (h.foldl fun _ h1 _ => h1.tset).setLfw
  · exact h.setEncStream
  · exact h.foldl fun _ h2 _ => h2.setRcv
  · exact h
theorem State.Queue.execCapturePoint (h : s.Queue cs) {u} : QueueNext cs (execCapturePoint u s) := by
  unfold Machine.execCapturePoint
  extract_lets s1
  have h1 : ∀ s, s.Queue cs → (s1 s).Queue cs := fun _ h2 => h2.setPrg
  refine .next (.ite ?_ (.ite (h1 _ h.prgSend) h))
  split
  · next e3 => exact h1 _ ((h.rxTake.of_eq e3).fst.load)
  · exact h
theorem State.Queue.execPrgInStep (h : s.Queue cs) : QueueNext cs (execPrgInStep s) :=
  .next (.ite h.setPair.raise.prgSend h)
theorem State.Queue.wbRegion (h : s.Queue cs) {src e ws} : (s.wbRegion src e ws).Queue cs := .ite h.tblRefuse h.tset
theorem State.Queue.execPrgRegionWriteback (h : s.Queue cs) {src entry ws} :
    QueueNext cs (execPrgRegionWriteback src entry ws s) :=
  .next (h.writeBack fun _ h1 => h1.wbRegion)

/-! ## Sys2Proof/Machine/Boundary.lean -/

theorem State.Queue.waleEvents (h : s.Queue cs) : s.waleEvents.Queue cs := by
  unfold State.waleEvents
  extract_lets _ s1
  have h1 : s1.Queue cs := .ite h h.raise
  exact .escWaleEnd (.ite h1 h1.shedEvent)
theorem State.Queue.stretch (h : s.Queue cs) : s.stretch.Queue cs := .ite h h.raise
theorem State.Queue.mediaBoundary (h : s.Queue cs) {w} : (s.mediaBoundary w).Queue cs :=
  .ite h (.wantApply (.rateUpdate (.joinMarks (.setLfw (.ite h.lfwDrain.setLfw h.lfwDrain.setLfw.wantCompute)))))
theorem State.Queue.sectionEnds (h : s.Queue cs) {w} : (s.sectionEnds w).Queue cs := by
  refine .ite ?_ h
  extract_lets s1
  have h1 : s1.Queue cs := h.closeBoundary.carryWrites
  exact .ite h1.setPrg.prgSend.twinState h1.setPrg
theorem State.Queue.waleReady (h : s.Queue cs) : s.waleReady.Queue cs := (h.foldl fun _ h1 _ => h1.setPg).refreshAll
theorem State.Queue.newWale (h : s.Queue cs) {w} : (s.newWale w).Queue cs := by
  unfold State.newWale
  extract_lets _ _ s1
  have h1 : s1.Queue cs := h.of_same.waleFresh.stretch.wfld.wr64
  exact h1.of_same
theorem State.Queue.firstStrobe (h : s.Queue cs) {w} : (s.firstStrobe w).Queue cs := h.raise.waleReady.startLate.pmDoubt
theorem State.Queue.cleanWale (h : s.Queue cs) : s.cleanWale.Queue cs := .ite h.setPrg h
theorem State.Queue.strobe (h : s.Queue cs) {w} : (s.strobe w).Queue cs := by
  unfold State.strobe
  extract_lets s1 s2
  have h1 : s1.Queue cs := h.waleEvents.newWale
  have h2 : s2.Queue cs := .swapCheck (.cleanWale (.ite h1.firstStrobe h1))
  exact .joinBegins (.ite h2.sectionEnds h2.sectionEnds.mediaBoundary)
theorem State.Queue.execWaleStrobe (h : s.Queue cs) : QueueNext cs (execWaleStrobe s) := by
  unfold Machine.execWaleStrobe
  split
  · exact .next h.advanceTo.strobe
  · exact .next h
theorem State.Queue.strobeDue (h : s.Queue cs) : s.strobeDue.Queue cs := by
  unfold State.strobeDue
  split
  · exact .ite h.strobe h
  · exact h
theorem State.Queue.stepStrobe (h : s.Queue cs) : s.stepStrobe.Queue cs := .ite h.strobeDue h
theorem State.Queue.execAdjStep (h : s.Queue cs) {src} : QueueNext cs (execAdjStep src s) :=
  .next (h.qzOnly fun _ h1 => h1.adjStep.stepStrobe)
theorem State.Queue.execFineTick (h : s.Queue cs) : QueueNext cs (execFineTick s) := by
  unfold Machine.execFineTick
  extract_lets _ _ s1
  have h1 : s1.Queue cs := h.advanceTo
  exact .next (.ite h1.withClk.escTick h)
theorem State.Queue.lagging (h : s.Queue cs) {cause} : (s.lagging cause).Queue cs :=
  .ite h.twinState.prgSend (.ite h.setPrg h)
theorem State.Queue.skewStep (h : s.Queue cs) {d} : (s.skewStep d).Queue cs := by
  unfold State.skewStep
  extract_lets _ _ s1
  have h1 : s1.Queue cs := .ite h.wr.setPrg.raise h.wr
  exact .ite h.wr.setPrg (.ite h1.lagging h1)
theorem State.Queue.sectionCheck (h : s.Queue cs) {w sec b} : (s.sectionCheck w sec b).Queue cs :=
  .ite h (.ite h.setPrg h.raise.setPrg.lagging)
theorem State.Queue.discardEnded (h : s.Queue cs) {kind} {f : List Sys2Proof.Word → Bool} :
    (s.discardEnded kind f).Queue cs :=
  h.foldl fun _ h1 _ => h1.setTask
theorem State.Queue.itemApply (h : s.Queue cs) {i} : (s.itemApply i).Queue cs := by
  unfold State.itemApply
  split
  · refine .ite (h.discardEnded.foldl fun _ h1 _ => h1.deadlineAbort) ?_
    refine .ite ?_ (.ite ?_ (.ite h.tileMissing (.ite h.spliceUndo (.ite ?_ h))))
    · split
      · exact h.deadlineAbort
      · exact .ite h.decUndo (h.setDec.foldl fun _ h2 _ => h2.decLate)
    · split
      · exact h.deadlineAbort
      · exact h.encUndo
    · split
      · exact .ite h.pxcAbandon h.pxcUndo
      · exact h.pxcUndo
theorem State.Queue.unlisted (h : s.Queue cs) : s.unlisted.Queue cs := by
  unfold State.unlisted
  extract_lets
  refine ((h.foldl fun _ h1 _ => h1.deadlineAbort.diverge).foldl fun _ h2 _ => h2.spliceLate.diverge).foldl fun _ h3 _ => ?_
  split
  · exact .ite h3.pxcAbandon.diverge h3
  · exact h3
theorem State.Queue.execLayBoundary (h : s.Queue cs) : QueueNext cs (execLayBoundary s) := by
  unfold Machine.execLayBoundary
  extract_lets
  split
  · exact .next h
  · next s1 _ _ e2 =>
      have h1 : s1.Queue cs := (h.layTake.of_eq e2).fst
      refine .next ?_
      refine .ite h ?_
      refine .ite h1.skewStep ?_
      exact (h1.skewStep.sectionCheck.captureFresh.setPrg.atStep.foldl fun _ h3 _ => h3.itemApply).unlisted.mediaBoundary

/-! ## Sys2Proof/Machine/Qz.lean -/

theorem State.Queue.setQz (h : s.Queue cs) {f : QzSt → QzSt} : (s.setQz f).Queue cs := h.of_same
theorem State.Queue.setStage (h : s.Queue cs) {n} : (s.setStage n).Queue cs := h.wfld.wfld.refreshReady
theorem State.Queue.powerReset (h : s.Queue cs) : s.powerReset.Queue cs := h.of_same
theorem State.Queue.execPorAssert (h : s.Queue cs) : QueueNext cs (execPorAssert s) := .next h.powerReset
theorem State.Queue.execIslandUndervolt (h : s.Queue cs) : QueueNext cs (execIslandUndervolt s) := .next h.powerReset
theorem State.Queue.execPorRelease (h : s.Queue cs) {straps} : QueueNext cs (execPorRelease straps s) :=
  .next (.ite h.setQz.wr h)
theorem State.Queue.execPerst (h : s.Queue cs) {asserted} : QueueNext cs (execPerst asserted s) :=
  .next (.ite h.of_same h.setQz)
theorem State.Queue.mainHeld (h : s.Queue cs) : s.mainHeld.Queue cs := h.of_same
theorem State.Queue.mainDown (h : s.Queue cs) {e arg} : (s.mainDown e arg).Queue cs := by
  unfold State.mainDown
  extract_lets _ _ _ _ s1
  have h1 : s1.Queue cs := (h.raise.foldl fun _ h2 _ => h2.aisWith fun _ h3 => h3.of_same).mainHeld
  exact h1.of_same
theorem State.Queue.writeGeom (h : s.Queue cs) : s.writeGeom.Queue cs := by
  unfold State.writeGeom
  split
  · exact .ite (.ite h.wfld.wr.refreshReady h.wfld) h
  · exact h
theorem State.Queue.sequence (h : s.Queue cs) : s.sequence.Queue cs := by
  refine .ite h.setQz ?_
  split
  · exact h.setQz
  · exact h.setQz.writeGeom
theorem State.Queue.mainStart (h : s.Queue cs) {stuck} : (s.mainStart stuck).Queue cs := .ite h h.setQz.sequence
theorem State.Queue.execMainRelease (h : s.Queue cs) {stuck} : QueueNext cs (execMainRelease stuck s) :=
  .next (.ite h.mainStart h)
theorem State.Queue.execMainSeqStepFail (h : s.Queue cs) : QueueNext cs (execMainSeqStepFail s) :=
  .next (.ite h (.ite h.mainDown h.mainDown))
theorem State.Queue.execBoardFault (h : s.Queue cs) : QueueNext cs (execBoardFault s) := .next (.ite h.mainDown h)
theorem State.Queue.execRefclkLoss (h : s.Queue cs) : QueueNext cs (execRefclkLoss s) :=
  .next (.ite h.setQz.mainDown h.setQz)
theorem State.Queue.execRefclkPresent (h : s.Queue cs) : QueueNext cs (execRefclkPresent s) :=
  .next (.ite h.setQz.sequence h.setQz)
theorem State.Queue.extend (h : s.Queue cs) {i d} : (s.extend i d).Queue cs := h.setQz
theorem State.Queue.deriveKeys (h : s.Queue cs) {hdr} : (s.deriveKeys hdr).Queue cs := by
  unfold State.deriveKeys
  exact h.extend.takeFree.setQz
theorem State.Queue.mirrorScan (h : s.Queue cs) : s.mirrorScan.Queue cs := by
  unfold State.mirrorScan
  extract_lets _ _ s1
  clear_value s1
  split
  · exact h.bumpN.setQz
  · exact h.bumpN
theorem State.Queue.armWdt (h : s.Queue cs) {first period} : (s.armWdt first period).Queue cs := by
  unfold State.armWdt
  exact h.wr.setQz
theorem State.Queue.fwStart (h : s.Queue cs) {b bank fallback} {refusals : State → State}
    (hrefusals : ∀ s, s.Queue cs → (refusals s).Queue cs) {period} :
    (s.fwStart b bank fallback refusals period).Queue cs := by
  unfold State.fwStart
  extract_lets _ _ _ _ _ _ s1 _ s2 _ s3 s4
  have h1 : s1.Queue cs := .wfld (.wr (.wr (.setQz (.ite h.deriveKeys (.ite h h.setQz)))))
  have h2 : s2.Queue cs := .mirrorScan (.ite h1.armWdt.extend h1.armWdt)
  have h3 : s3.Queue cs := by
    unfold s3
    split
    · exact h2.setStage.raise
    · exact h2.setStage
  have h4 : s4.Queue cs := .raise (hrefusals _ h3)
  exact .ite h4 h4.raise
theorem State.Queue.refuseBank (h : s.Queue cs) {err bank} : (s.refuseBank err bank).Queue cs := h.raise
theorem State.Queue.boot (h : s.Queue cs) {err bank period} : (s.boot err bank period).Queue cs :=
  h.fwStart fun _ h1 => .ite h1.refuseBank h1
theorem State.Queue.execSlathBoot (h : s.Queue cs) {errA errB period} :
    QueueNext cs (execSlathBoot errA errB period s) := by
  refine .next (.ite h ?_)
  split
  · exact h.boot
  · exact h
theorem State.Queue.recover (h : s.Queue cs) : s.recover.Queue cs := h.setStage.mainStart
theorem State.Queue.execPlatformRead (h : s.Queue cs) {pub} : QueueNext cs (execPlatformRead pub s) := by
  refine .next (.ite ?_ h)
  extract_lets _ _ _ _ s1
  have h1 : s1.Queue cs := h.setQz.extend
  refine .ite ?_ ?_
  · exact (h1.setQz.wfld.foldl fun _ h2 _ => h2.ceilLock).foldl fun _ h3 _ => h3.tsetW
  · exact (h1.foldl fun _ h4 _ => h4.ceilLock).raise
theorem State.Queue.setModOk (h : s.Queue cs) {c v} : (s.setModOk c v).Queue cs := h.wfld.refreshReady
theorem State.Queue.idEnd (h : s.Queue cs) {kind pos cause} : (s.idEnd kind pos cause).Queue cs :=
  .ite h.setQz.raise h.setQz.raise
theorem State.Queue.measureDimms (h : s.Queue cs) {plat} : (s.measureDimms plat).Queue cs :=
  h.foldl fun _ h1 _ => h1.extend
theorem State.Queue.idVerified (h : s.Queue cs) {kind pos b} : (s.idVerified kind pos b).Queue cs := by
  refine .ite ?_ h.extend.setModOk
  extract_lets
  split
  · exact .writeGeom (.ite h.setQz.measureDimms h.setQz)
  · exact h.setQz
theorem State.Queue.execIdRead (h : s.Queue cs) {kind pos mem} : QueueNext cs (execIdRead kind pos mem s) := by
  refine .next ?_
  split
  · extract_lets
    split
    · exact .ite h.idEnd h
    · exact .ite h (.idEnd (.ite h.idVerified h))
  · exact h
theorem State.Queue.execIdReadTimeout (h : s.Queue cs) {kind pos} : QueueNext cs (execIdReadTimeout kind pos s) :=
  .next (.ite (.ite h.idEnd h.setQz) h)
theorem State.Queue.execModuleRemoved (h : s.Queue cs) {kind pos} : QueueNext cs (execModuleRemoved kind pos s) := by
  unfold Machine.execModuleRemoved
  extract_lets _ _ s1
  have h1 : s1.Queue cs := .ite h.setQz.setModOk h.setQz
  exact .next (.ite (.ite h1.raise h1) h)
theorem State.Queue.execModuleInserted (h : s.Queue cs) {kind pos} : QueueNext cs (execModuleInserted kind pos s) :=
  .next (.ite h h.setQz)
theorem State.Queue.wdtExpire (h : s.Queue cs) : s.wdtExpire.Queue cs :=
  (h.foldl fun _ h1 _ => h1.aisWith fun _ h2 => h2.wfld).bump.raise.wfld.setQz.setStage
theorem State.Queue.execWdtKick (h : s.Queue cs) {right} : QueueNext cs (execWdtKick right s) :=
  .next (.ite (.ite h.wdtExpire (.ite h.setQz h.setQz)) h)
theorem State.Queue.execWdtExpire (h : s.Queue cs) : QueueNext cs (execWdtExpire s) := .next (.ite h.wdtExpire h)
theorem State.Queue.execWdtForceClear (h : s.Queue cs) {port} : QueueNext cs (execWdtForceClear port s) :=
  .next (.ite (h.aisWith fun _ h1 => h1.wfld) h)
theorem State.Queue.tempLevel (h : s.Queue cs) {n lvl thr v} : (s.tempLevel n lvl thr v).Queue cs :=
  .ite h.setQz.raise (.ite h.setQz.raise h)
theorem State.Queue.tempMax (h : s.Queue cs) : s.tempMax.Queue cs := by
  unfold State.tempMax
  extract_lets s1
  clear_value s1
  split
  · exact h.wr
  · exact h
theorem State.Queue.execTempSample (h : s.Queue cs) {sensor v} : QueueNext cs (execTempSample sensor v s) := by
  refine .next (.ite h ?_)
  extract_lets _ _ _ s1
  have h1 : s1.Queue cs := .ite h.setQz.tempMax.tempLevel.tempLevel h.setQz.tempMax
  exact .ite h1.setQz.mainDown h1
theorem State.Queue.execVoltSample (h : s.Queue cs) {monitor mv} : QueueNext cs (execVoltSample monitor mv s) := by
  unfold Machine.execVoltSample
  extract_lets _ _ s1
  refine .next (.ite h ?_)
  split
  · split
    · extract_lets _ _ s2
      have h2 : s2.Queue cs := .ite h.setQz (.ite h.setQz.raise (.ite h.setQz.raise h.setQz))
      clear_value s1
      split
      · exact .ite h2.mainDown h2
      · exact h2
theorem State.Queue.powerSum (h : s.Queue cs) : s.powerSum.Queue cs := h.wr
theorem State.Queue.execPmbusPoll (h : s.Queue cs) {addr vout iout temp status} :
    QueueNext cs (execPmbusPoll addr vout iout temp status s) :=
  .next (.ite (.ite h.setQz.powerSum.raise h.setQz.powerSum) h)
theorem State.Queue.execPmbusCommand (h : s.Queue cs) {rail kind mv} : QueueNext cs (execPmbusCommand rail kind mv s) :=
  .next (.ite (.ite h.setQz h.bump) h)
theorem State.Queue.mirrorWrite (h : s.Queue cs) : s.mirrorWrite.Queue cs := by
  unfold State.mirrorWrite
  split
  · exact h.setQz
  · exact h.setQz.bump
theorem State.Queue.execMirrorPageWrite (h : s.Queue cs) : QueueNext cs (execMirrorPageWrite s) :=
  .next (.ite h.mirrorWrite h)

/-! ## Sys2Proof/Machine/Pages.lean -/

theorem State.Queue.execErrInfoClear (h : s.Queue cs) {src page} : QueueNext cs (execErrInfoClear src page s) :=
  .next (h.access fun _ h1 => h1.wfld)
theorem State.Queue.execEvtStatusClear (h : s.Queue cs) {src page mask} :
    QueueNext cs (execEvtStatusClear src page mask s) :=
  .next (h.access fun _ h1 => .ite h1.wr.wr h1.wr)
theorem State.Queue.execEvtForce (h : s.Queue cs) {src page mask} : QueueNext cs (execEvtForce src page mask s) := by
  refine .next (h.access fun _ h1 => h1.foldl fun _ h2 _ => ?_)
  split
  · exact h2.raiseWith
  · exact h2
theorem State.Queue.execEvtRingDeliver (h : s.Queue cs) : QueueNext cs (execEvtRingDeliver s) := by
  refine .next ?_
  split
  · exact h
  · exact .ite h.of_same.ringWrite h
theorem State.Queue.ringOff' (h : s.Queue cs) {p k} : (s.ringOff' p k).Queue cs := by
  unfold State.ringOff'
  extract_lets s1
  have h1 : s1.Queue cs := h.wfld
  exact .ite h1.of_same h1
theorem State.Queue.ringCfgWrite (h : s.Queue cs) {src p k v} : (s.ringCfgWrite src p k v).Queue cs := by
  unfold State.ringCfgWrite
  extract_lets _ _ _ _ _ _ s1 s2 s3 s4
  have h1 : s1.Queue cs := h.wfld.wfld
  have h2 : s2.Queue cs := .ite h1 h1.wfld
  have h3 : s3.Queue cs := .ite h2 h2.wfld
  have h4 : s4.Queue cs := .ite h3.wfld.wr.wr h3
  exact .ite h.accessErr (.ite (.ite h.wfld h.wfld.ringOff') (.ite h.accessErr (.ite h4.accessErr h4)))
theorem State.Queue.execRingEnable (h : s.Queue cs) {src page ring v} :
    QueueNext cs (execRingEnable src page ring v s) :=
  .next (h.access fun _ h1 => h1.ringCfgWrite)
theorem State.Queue.execRingHeadWrite (h : s.Queue cs) {src page ring h'} :
    QueueNext cs (execRingHeadWrite src page ring h' s) :=
  .next (h.access fun _ h1 => .ite h1.accessErr (.ite (.ite h1.wr h1.wr.ringIrq) h1.accessErr))
theorem State.Queue.snapRequest (h : s.Queue cs) {src p clrS v} : (s.snapRequest src p clrS v).Queue cs := by
  refine .ite h.accessErr ?_
  extract_lets _ _ s1
  have h1 : s1.Queue cs := .ite h.wfld.wfld h.wfld
  exact .ite h1 h1.setPg
theorem State.Queue.execSnapRequest (h : s.Queue cs) {src page clrS} : QueueNext cs (execSnapRequest src page clrS s) :=
  .next (h.access fun _ h1 => h1.snapRequest)
theorem State.Queue.clearS (h : s.Queue cs) {p} : (s.clearS p).Queue cs := h.of_same
theorem State.Queue.snapshot (h : s.Queue cs) {p} : (s.snapshot p).Queue cs := by
  unfold State.snapshot
  extract_lets _ _ s1
  have h1 : s1.Queue cs := .ite h.clearS h
  exact .raise (.setPg (.wr (.wfld (.ite h1.of_same.setLnu h1.of_same))))
theorem State.Queue.execSnapshotTake (h : s.Queue cs) {page} : QueueNext cs (execSnapshotTake page s) :=
  .next (.ite h.atStep.snapshot h)
theorem State.Queue.tblEdit (h : s.Queue cs) {p t plane} {f : List Sys2Proof.Word → List Sys2Proof.Word} :
    (s.tblEdit p t plane f).Queue cs :=
  h.foldl fun _ h1 _ => h1.tset
theorem State.Queue.tblClear (h : s.Queue cs) {p f} : (s.tblClear p f).Queue cs := h.of_same
theorem State.Queue.enableClear (h : s.Queue cs) {p} : (s.enableClear p).Queue cs := by
  unfold State.enableClear
  split
  · exact h.tblEdit.setIcl
  · exact h.tblClear.setLfw
  · exact h.setCpe
  · exact h.wveClear
  · exact .ite (h.pmDoubt.aisWith fun _ h1 => h1.setLine) h.pmDoubt
  · exact h
theorem State.Queue.refreshWith (h : s.Queue cs) {p} : (s.refreshWith p).Queue cs := by
  unfold State.refreshWith
  extract_lets s1
  have h1 : s1.Queue cs := h.mayUnready fun _ h2 => h2.refreshReady
  exact .ite h1.refreshReady (.ite h1.refreshReady h1)
theorem State.Queue.pageEnable (h : s.Queue cs) {p} : (s.pageEnable p).Queue cs :=
  .ite h h.wfld.setPg.enableClear.refreshWith
theorem State.Queue.lineDown (h : s.Queue cs) {p} : (s.lineDown p).Queue cs := by
  unfold State.lineDown
  split
  · exact .ite (h.aisWith fun _ h1 => h1.setLine) h
  · exact h
theorem State.Queue.pageDisable (h : s.Queue cs) {p} : (s.pageDisable p).Queue cs := by
  refine .ite h ?_
  extract_lets s1
  have h1 : s1.Queue cs := h.wfld.doomCommit
  exact .refreshWith (.lineDown (.ite h1.setCpe h1))
theorem State.Queue.enWrite (h : s.Queue cs) {src p en v} : (s.enWrite src p en v).Queue cs :=
  .ite (.ite h.drcEnable (.ite h.drcDisable h)) (.ite h.accessErr (.ite h.pageEnable h.pageDisable))
theorem State.Queue.execPageEnWrite (h : s.Queue cs) {src page en} : QueueNext cs (execPageEnWrite src page en s) :=
  .next (h.access fun _ h1 => h1.enWrite)
theorem State.Queue.execPageInitDone (h : s.Queue cs) {page} : QueueNext cs (execPageInitDone page s) :=
  .next (.ite h.setPg.refreshWith h)
theorem State.Queue.pageFence (h : s.Queue cs) {p} : (s.pageFence p).Queue cs := by
  refine .ite h ?_
  extract_lets s1 s2
  have h1 : s1.Queue cs := h.wfld.doomCommit
  have h2 : s2.Queue cs := by
    unfold s2
    split
    · exact h1.unslot
    · exact h1
  exact h2.lineDown.refreshWith
theorem State.Queue.execPageFence (h : s.Queue cs) {src page} : QueueNext cs (execPageFence src page s) :=
  .next (h.access fun _ h1 => h1.pageFence)
theorem State.Queue.execPageFenceDone (h : s.Queue cs) {page} : QueueNext cs (execPageFenceDone page s) := by
  refine .next (.ite ?_ h)
  extract_lets _ s1
  have h1 : s1.Queue cs := by
    unfold s1
    split
    · exact h.wfld.fenceAbort
    · exact h.wfld
  exact h1.raise
theorem State.Queue.clearRegs (h : s.Queue cs) {p} : (s.clearRegs p).Queue cs :=
  .foldl h.of_same fun _ h1 _ => h1.wfld
theorem State.Queue.clearTables (h : s.Queue cs) {p} : (s.clearTables p).Queue cs :=
  .ite h.tblClear.tblEdit (.ite h.tblClear h.tblClear)
theorem State.Queue.clearCtrs (h : s.Queue cs) {p} : (s.clearCtrs p).Queue cs := h.of_same
theorem State.Queue.rveReset (h : s.Queue cs) : s.rveReset.Queue cs := by
  unfold State.rveReset
  extract_lets s1
  have h1 : s1.Queue cs := by
    refine h.foldl fun _ h2 _ => ?_
    extract_lets s3
    have h3 : s3.Queue cs := .ite h2.coreAbort h2
    split
    · exact h3.engineAbort
    · exact h3
  exact h1.setRve
theorem State.Queue.wdsReset (h : s.Queue cs) {n port} : (s.wdsReset n port).Queue cs := by
  unfold State.wdsReset
  extract_lets s1
  have h1 : s1.Queue cs := by
    unfold s1
    split
    · exact h.abortTask
    · exact h.coreAbort
  exact h1.unslot.coreClear.setCore
theorem State.Queue.legsReset (h : s.Queue cs) {p} : (s.legsReset p).Queue cs := by
  refine h.foldl fun _ h1 _ => ?_
  extract_lets _ _ s2 s3
  have h2 : s2.Queue cs := .ite h1.tset.tset h1
  have h3 : s3.Queue cs := .ite h2.tset.tset h2
  exact .ite (h3.setEsc.foldl fun _ h4 _ => h4.outDrop) h3
theorem State.Queue.lanesReset (h : s.Queue cs) {n} : (s.lanesReset n).Queue cs :=
  h.foldl fun _ h1 _ => (h1.foldl fun _ h2 _ => h2.outDrop).setLane
theorem State.Queue.blockReset (h : s.Queue cs) {p port} : (s.blockReset p port).Queue cs := by
  unfold State.blockReset
  split
  · exact h.of_same
  · extract_lets s1
    have h1 : s1.Queue cs := h.setTmu
    exact h1.of_same
  · exact h.rveReset
  · exact h.of_same
  · exact h.of_same
  · exact h.setIcl
  · exact h.setIcl
  · exact h.setCpe
  · exact h.setLfw
  · exact h.setMxf
  · exact h.wdsReset
  · exact h.of_same
  · exact .ite h.wveClear.setWve h.wveClear
  · exact h.of_same
  · exact h.legsReset.lanesReset
  · exact h.setLnu
  · exact h.lineDown.setLine
  · exact h.drcDisable
  · exact h.setDch
  · exact .setPrg (.setPair (.ite h.goSilent h.actSolo))
  · exact h.setQz
  · exact h
theorem State.Queue.pageReset (h : s.Queue cs) {p port} : (s.pageReset p port).Queue cs := by
  unfold State.pageReset
  extract_lets _ _ _ _ _ _ s1 s2 _ _ s3 s4
  have h1 : s1.Queue cs := h.resetCommit.blockReset.clearRegs.clearTables.clearCtrs
  have h2 : s2.Queue cs := .ite h1.wr h1
  have h3 : s3.Queue cs := .setPg (.wfld (.ite h2.wr.wr h2))
  have h4 : s4.Queue cs := by
    unfold s4
    split
    · exact .ite (h3.aisWith fun _ h5 => h5) h3
    · exact h3.drcRefresh
    · exact h3
  exact h4.refreshWith
theorem State.Queue.execPageReset (h : s.Queue cs) {src page clearEn} :
    QueueNext cs (execPageReset src page clearEn s) :=
  .next (h.access fun _ h1 => .ite h1.accessErr h1.pageReset)
theorem State.Queue.execPageResetDone (h : s.Queue cs) {page} : QueueNext cs (execPageResetDone page s) := by
  refine .next (.ite ?_ h)
  extract_lets s1
  have h1 : s1.Queue cs := h.wfld.setPg.refreshWith
  exact .ite h1.submitWaiting h1

/-! ## Sys2Proof/Machine/QzMb.lean -/

theorem State.Queue.rspPut (h : s.Queue cs) {i n bs} : (s.rspPut i n bs).Queue cs := by
  induction n generalizing s i bs with
  | zero => exact h
  | succ n ih => exact ih h.wr
theorem State.Queue.answer (h : s.Queue cs) {tag status rsp} : (s.answer tag status rsp).Queue cs :=
  h.rspPut.wfld.wfld.seqUp.wfld.wfld.setQz.bump
theorem State.Queue.execMbDoorbell (h : s.Queue cs) {src tag len} : QueueNext cs (execMbDoorbell src tag len s) := by
  unfold Machine.execMbDoorbell
  extract_lets
  refine .next (h.access fun _ h1 => .ite h1.accessErr ?_)
  extract_lets s2
  have h2 : s2.Queue cs := h1.setQz.wfld
  exact .ite h2.answer (.ite h2.answer h2)
theorem State.Queue.serve (h : s.Queue cs) {cmd n} {k : ℕ → State} (hk : ∀ x1, (k x1).Queue cs) :
    (s.serve cmd n k).Queue cs := by
  unfold State.serve
  split
  · exact .ite h (.ite h.answer (.ite h.answer (hk _)))
  · exact h
theorem State.Queue.execGetInfo (h : s.Queue cs) : QueueNext cs (execGetInfo s) := .next (h.serve fun _ => h.answer)
theorem State.Queue.serveMain (h : s.Queue cs) {cmd n} {k : ℕ → State} (hk : ∀ x1, (k x1).Queue cs) :
    (s.serveMain cmd n k).Queue cs :=
  h.serve fun _ => .ite (hk _) h.answer
theorem State.Queue.answerAdj (h : s.Queue cs) {tag} : (s.answerAdj tag).Queue cs := h.answer
theorem State.Queue.execClockSet (h : s.Queue cs) : QueueNext cs (execClockSet s) :=
  .next (h.serveMain fun _ => .ite h.answer h.wr64.wfld.adjSet.answerAdj)
theorem State.Queue.execClockStep (h : s.Queue cs) : QueueNext cs (execClockStep s) :=
  .next (h.serveMain fun _ => h.wr.servoHeard.adjStep.answerAdj.stepStrobe)
theorem State.Queue.execPtpCfg (h : s.Queue cs) : QueueNext cs (execPtpCfg s) :=
  .next (h.serveMain fun _ => .ite h.answer ((h.setQz.wfld.wfld.wfld.wfld.foldl fun _ h1 _ => h1.tsetF).answer))
theorem State.Queue.execImageRegion (h : s.Queue cs) : QueueNext cs (execImageRegion s) :=
  .next (h.serve fun _ => .ite h.answer h.setQz.answer)
theorem State.Queue.refuseImage (h : s.Queue cs) {tag cause b arg2} : (s.refuseImage tag cause b arg2).Queue cs :=
  h.raise.answer
theorem State.Queue.refuseState (h : s.Queue cs) {tag reason} : (s.refuseState tag reason).Queue cs := h.answer
theorem State.Queue.execImageLoad (h : s.Queue cs) {data} : QueueNext cs (execImageLoad data s) := by
  refine .next (h.serveMain fun _ => ?_)
  extract_lets
  split
  · exact h.answer
  · refine .ite h.answer ?_
    extract_lets
    refine .ite h.refuseImage (.ite h.extend.answer ?_)
    split
    · exact h.extend.takeFree.refuseState
    · exact .ite h.extend.takeFree.wbImage.takeFree.refuseState h.extend.takeFree.dramPut.dramPut.wbImage.answer
theorem State.Queue.execImageUnload (h : s.Queue cs) : QueueNext cs (execImageUnload s) :=
  .next (h.serveMain fun _ => .ite h.answer (.ite h.tblRefuse.takeFree.refuseState h.tset.answer))
theorem State.Queue.execFwUpdate (h : s.Queue cs) {data norErr} : QueueNext cs (execFwUpdate data norErr s) := by
  refine .next (h.serve fun _ => ?_)
  extract_lets
  split
  · exact h.answer
  · refine .ite h.answer ?_
    refine .ite h.refuseImage ?_
    exact .ite h.refuseState (.ite h.refuseState (.ite h.setQz.answer h.setQz.setQz.answer.raise))
theorem State.Queue.execSvnCommit (h : s.Queue cs) : QueueNext cs (execSvnCommit s) := by
  refine .next ?_
  refine h.serve fun _ => ?_
  exact .ite h.refuseState (.ite h.refuseState (.ite h.refuseState (.ite h.refuseState h.setQz.wfld.answer.raise)))
theorem State.Queue.execPlatformWrite (h : s.Queue cs) {data pub norErr} :
    QueueNext cs (execPlatformWrite data pub norErr s) := by
  refine .next (h.serve fun _ => ?_)
  split
  · exact h.answer
  · exact .ite h.answer (.ite h.answer (.ite h.answer h.setQz.answer))
theorem State.Queue.execOwnerSet (h : s.Queue cs) : QueueNext cs (execOwnerSet s) :=
  .next (h.serve fun _ => .ite h.refuseState h.setQz.wfld.answer)
theorem State.Queue.execFwRun (h : s.Queue cs) {data period} : QueueNext cs (execFwRun data period s) := by
  refine .next (h.serve fun _ => ?_)
  split
  · exact h.answer
  · exact .ite h.answer (.ite h.refuseImage ((h.fwStart fun _ h1 => h1).answer))
theorem State.Queue.execQuote (h : s.Queue cs) : QueueNext cs (execQuote s) := by
  refine .next (h.serve fun _ => ?_)
  split
  · exact h.answer
  · exact h.takeFree.answer
theorem State.Queue.execMeasure (h : s.Queue cs) : QueueNext cs (execMeasure s) :=
  .next (h.serve fun _ => .ite h.extend.answer h.answer)
theorem State.Queue.execLogRead (h : s.Queue cs) : QueueNext cs (execLogRead s) := by
  refine .next (h.serve fun _ => ?_)
  extract_lets _ _ _ s1
  refine .ite h.answer ?_
  clear_value s1
  split
  · exact h.answer
  · exact h.takeFree.answer
theorem State.Queue.execSensorRead (h : s.Queue cs) : QueueNext cs (execSensorRead s) :=
  .next (h.serve fun _ => h.takeFree.answer)
theorem State.Queue.execThreshSet (h : s.Queue cs) : QueueNext cs (execThreshSet s) :=
  .next (h.serve fun _ => .ite h.answer (.ite (.ite h.answer h.setQz.answer) h.setQz.answer))
theorem State.Queue.execLogCfg (h : s.Queue cs) : QueueNext cs (execLogCfg s) :=
  .next (h.serve fun _ => .ite h.answer h.setQz.answer)
theorem State.Queue.answerLate (h : s.Queue cs) : s.answerLate.Queue cs := by
  unfold State.answerLate
  split
  · exact h.answer
  · exact h
theorem State.Queue.execWdtRestart (h : s.Queue cs) {errA errB period} :
    QueueNext cs (execWdtRestart errA errB period s) := by
  refine .next (.ite h ?_)
  split
  · exact h.boot.answerLate
  · exact h
theorem State.Queue.execRecovery (h : s.Queue cs) {errA errB} : QueueNext cs (execRecovery errA errB s) :=
  .next (.ite h (.ite h.setQz.refuseBank.refuseBank.recover.answerLate h))

/-! ## Sys2Proof/Machine/Window.lean -/

theorem State.Queue.wbGrantTable (h : s.Queue cs) {src e v} : (s.wbGrantTable src e v).Queue cs := .ite h.tset h.tblRefuse
theorem State.Queue.putEntry (h : s.Queue cs) {p t plane e masks ws} : (s.putEntry p t plane e masks ws).Queue cs := h.tset
theorem State.Queue.wbMonitor (h : s.Queue cs) {g v} : (s.wbMonitor g v).Queue cs := .ite h.tset h.tset.pmDoubt
theorem State.Queue.wbApply (h : s.Queue cs) {src p t e ws} : (s.wbApply src p t e ws).Queue cs := by
  unfold State.wbApply
  split
  · exact h.wbGrantTable
  · exact .ite h.tset h.tblRefuse
  · exact h.wbImage
  · exact h.wbPool
  · exact h.wbOwnerMap
  · exact h.wbQueue
  · exact h.wbGrant
  · exact h.wbCtx
  · exact h.wbLegKey
  · exact h.wbPolicer
  · exact h.wbRq
  · exact h.wbGate
  · exact h.wbRegion
  · exact h.wbMonitor
  · exact .ite h.tblRefuse h.memPut
  · exact .ite h.tblRefuse h.putEntry
  · exact .ite h.tblRefuse h.putEntry
  · split
    · exact h.putEntry
    · exact h
theorem State.Queue.wbEntry (h : s.Queue cs) {src p t e ws} : (s.wbEntry src p t e ws).Queue cs :=
  .ite h.wbApply (h.deferWb fun _ h1 => h1.wbApply)
theorem State.Queue.execTblAddrWrite (h : s.Queue cs) {src page v} : QueueNext cs (execTblAddrWrite src page v s) :=
  .next (h.access fun _ h1 => .ite h1.accessErr h1.wr.setPg)
theorem State.Queue.deadRead (h : s.Queue cs) {src p o} : (s.deadRead src p o).Queue cs :=
  .ite h.of_same h.of_same.accessErr
theorem State.Queue.readAccess (h : s.Queue cs) {src p o} {k : State → State} (hk : ∀ s, s.Queue cs → (k s).Queue cs) :
    (s.readAccess src p o k).Queue cs :=
  .ite h (.ite h.deadRead (hk _ h))
theorem State.Queue.execTblDataRead (h : s.Queue cs) {src page} : QueueNext cs (execTblDataRead src page s) :=
  .next (h.readAccess fun _ h1 => .ite h1.of_same (.ite h1.of_same h1.of_same.accessErr))
theorem State.Queue.execTblDataWrite (h : s.Queue cs) {src page v} : QueueNext cs (execTblDataWrite src page v s) := by
  refine .next (h.access fun _ h1 => ?_)
  extract_lets
  split
  · exact h1.accessErr
  · exact .ite h1.accessErr (.ite h1.setPg (.ite h1.setPg.tblRefuse h1.setPg.wbEntry))
theorem State.Queue.execTblWritebackDeferred (h : s.Queue cs) : QueueNext cs (execTblWritebackDeferred s) := by
  unfold Machine.execTblWritebackDeferred
  extract_lets _ _ s1
  have h1 : s1.Queue cs := h.of_same
  exact .next (.ite (h1.foldl fun _ h2 _ => h2.wbApply) h)
theorem State.Queue.execGrantTableWriteback (h : s.Queue cs) {src entry v} :
    QueueNext cs (execGrantTableWriteback src entry v s) :=
  .next (h.access fun _ h1 => h1.wbGrantTable)
theorem State.Queue.execPoolWriteback (h : s.Queue cs) {src pool ws} : QueueNext cs (execPoolWriteback src pool ws s) :=
  .next (h.writeBack fun _ h1 => h1.wbPool)
theorem State.Queue.execCoilQueueWriteback (h : s.Queue cs) {src q ws} :
    QueueNext cs (execCoilQueueWriteback src q ws s) :=
  .next (h.writeBack fun _ h1 => h1.wbQueue)
theorem State.Queue.execCoilGrantWriteback (h : s.Queue cs) {src g ws} :
    QueueNext cs (execCoilGrantWriteback src g ws s) :=
  .next (h.writeBack fun _ h1 => h1.wbGrant)

/-! ## Sys2Proof/Machine/RegWrite.lean -/

theorem State.Queue.after (h : s.Queue cs) {f : State → Host.Outcome State Fault Refusal}
    (hf : ∀ s, s.Queue cs → QueueNext cs (f s)) : (s.after f).Queue cs := by
  unfold State.after
  obtain ⟨t, e, ht⟩ := hf s h
  rw [e]
  exact ht
theorem State.Queue.putField (h : s.Queue cs) {p o v f} : (s.putField p o v f).Queue cs := by
  refine .ite h ?_
  split
  · exact .ite h.wfld h
  · exact h.wfld
  · exact h.wr
  · exact h
theorem State.Queue.halfWrite (h : s.Queue cs) {src p o v r} : (s.halfWrite src p o v r).Queue cs :=
  .ite (.ite (.ite h h.accessErr) h.of_same) (.ite (.ite h h.accessErr) h.wr.wr)
theorem State.Queue.plainWrite (h : s.Queue cs) {src p o v} : (s.plainWrite src p o v).Queue cs := by
  unfold State.plainWrite
  split
  · exact h
  · refine .ite h.halfWrite ?_
    extract_lets _ _ s1
    have h1 : s1.Queue cs := h.foldl fun _ h2 _ => h2.putField
    exact .ite h1.accessErr (.ite h1.accessErr h1)
theorem State.Queue.pageCtrlWrite (h : s.Queue cs) {src p v} : (s.pageCtrlWrite src p v).Queue cs := by
  refine .ite (.ite h.accessErr h.pageReset) ?_
  extract_lets s1
  have h1 : s1.Queue cs := .ite h h.enWrite
  exact .ite h1.pageFence h1
theorem State.Queue.cmtCtlWrite (h : s.Queue cs) {src p v} : (s.cmtCtlWrite src p v).Queue cs := by
  refine .ite h.accessErr ?_
  extract_lets _ s1
  have h1 : s1.Queue cs := .ite h.plainWrite.cmtDisarm h.plainWrite
  exact .ite h1.cmtArm h1
theorem State.Queue.ringRegWrite (h : s.Queue cs) {src p k o v} : (s.ringRegWrite src p k o v).Queue cs :=
  .ite h.ringCfgWrite (.ite (h.after fun _ h1 => h1.execRingHeadWrite) (.ite h h.plainWrite))
theorem State.Queue.headerWrite (h : s.Queue cs) {src p o v} : (s.headerWrite src p o v).Queue cs := by
  refine .ite h.pageCtrlWrite ?_
  refine .ite (h.after fun _ h1 => h1.execEvtStatusClear) ?_
  refine .ite (h.after fun _ h2 => h2.execEvtForce) ?_
  refine .ite (.ite h.wfld h) ?_
  refine .ite h.cmtCtlWrite ?_
  refine .ite (.ite h.plainWrite.snapRequest h.plainWrite) ?_
  refine .ite (h.after fun _ h3 => h3.execTblAddrWrite) ?_
  exact .ite (h.after fun _ h4 => h4.execTblDataWrite) (.ite h.ringRegWrite h.plainWrite)
theorem State.Queue.sysWrite (h : s.Queue cs) {src o v} : (s.sysWrite src o v).Queue cs := by
  unfold State.sysWrite
  extract_lets _ _ _ _ s1 s2 s3
  have h1 : s1.Queue cs := .ite h h.setGroup
  have h2 : s2.Queue cs := .ite h1.accessErr (.ite h1.accessErr h1)
  have h3 : s3.Queue cs := .ite h2.cgrpDisarm h2
  refine .ite h.plainWrite.groupShow ?_
  exact .ite (.ite h.setGroup (.ite h h.accessErr)) (.ite (.ite h.accessErr (.ite h3.cgrpArm h3)) h.plainWrite)
theorem State.Queue.adjCtlWrite (h : s.Queue cs) {src v} : (s.adjCtlWrite src v).Queue cs :=
  .ite h.accessErr (.ite h.plainWrite (.ite h.plainWrite.adjSet h.plainWrite.adjStep.stepStrobe))
theorem State.Queue.tmuWrite (h : s.Queue cs) {src o v} : (s.tmuWrite src o v).Queue cs := by
  refine .ite h.accessErr ?_
  refine .ite ?_ ?_
  · exact .ite (h.after fun _ h1 => h1.execWaleRunSet) (h.after fun _ h2 => h2.execWaleRunClear)
  · refine .ite (h.after fun _ h3 => h3.execGridPhaseWrite) ?_
    refine .ite h.adjCtlWrite ?_
    refine .ite h.plainWrite.servoHeard ?_
    refine .ite (h.after fun _ h4 => h4.execFreqWrite) ?_
    refine .ite (h.servoSilence.plainWrite.after fun _ h5 => h5.execServoLockedWrite) ?_
    exact .ite h.plainWrite.txtsShow (.ite (h.after fun _ h6 => h6.execTxtsPop) h.plainWrite)
theorem State.Queue.rveWrite (h : s.Queue cs) {src o v} : (s.rveWrite src o v).Queue cs := by
  refine .ite (.ite h.submitGo h) ?_
  refine .ite h.rveDecrement ?_
  refine .ite ?_ h.plainWrite
  exact .ite (h.after fun _ h1 => h1.execAbortOwner) (h.after fun _ h2 => h2.execAbortTask)
theorem State.Queue.crlWrite (h : s.Queue cs) {src o v} : (s.crlWrite src o v).Queue cs := by
  unfold State.crlWrite
  extract_lets
  refine .ite (.ite h ?_) (.ite (.ite (h.after fun _ h1 => h1.execCreelReclaim) h) h.plainWrite)
  split
  · exact h.crlAlloc.fst
  · exact h.crlAdd
  · exact h.crlDrop
  · exact h.crlFree
  · exact h.accessErr
theorem State.Queue.colWrite (h : s.Queue cs) {src o v} : (s.colWrite src o v).Queue cs := by
  unfold State.colWrite
  extract_lets
  refine .ite (.ite h ?_) (.ite (.ite (h.after fun _ h1 => h1.execCoilReclaim) h) h.plainWrite)
  split
  · exact h.colReserve
  · exact h.colCommit
  · exact h.colNext.fst
  · exact h.colRelease
  · exact h.colMark
  · exact h.colRewind
  · exact h.accessErr
theorem State.Queue.keyLoadWrite (h : s.Queue cs) {src v} : (s.keyLoadWrite src v).Queue cs := .ite h.wr.accessErr h.wr
theorem State.Queue.cpeWrite (h : s.Queue cs) {src o v} : (s.cpeWrite src o v).Queue cs := by
  refine .ite h.keyLoadWrite ?_
  refine .ite (.ite (h.after fun _ h1 => h1.execKeyLoad) h) ?_
  exact .ite (.ite (h.after fun _ h2 => h2.execBulkSubmit) h) (.ite h.wr h.plainWrite)
theorem State.Queue.wdsWrite (h : s.Queue cs) {src n o v} : (s.wdsWrite src n o v).Queue cs := by
  refine .ite (h.after fun _ h1 => h1.execWdsModeWrite) ?_
  refine .ite (h.after fun _ h2 => h2.execWdsLoad) (.ite ?_ h.plainWrite)
  extract_lets _ s3 s4
  have h3 : s3.Queue cs := .ite (h.plainWrite.after fun _ h5 => h5.execTestGo) h.plainWrite
  have h4 : s4.Queue cs := .ite (h3.after fun _ h6 => h6.execTestIrq) h3
  exact .ite (h4.after fun _ h7 => h7.execTestHalt) h4
theorem State.Queue.vceWrite (h : s.Queue cs) {src n o v} : (s.vceWrite src n o v).Queue cs := by
  refine .ite (.ite (h.after fun _ h1 => h1.execEncRefresh) h) ?_
  exact .ite (.ite (h.after fun _ h2 => h2.execDecRestart) h) h.plainWrite
theorem State.Queue.wveWrite (h : s.Queue cs) {src n o v} : (s.wveWrite src n o v).Queue cs :=
  .ite (.ite (h.after fun _ h1 => h1.execWveRekey) h) h.plainWrite
theorem State.Queue.escWrite (h : s.Queue cs) {src n o v} : (s.escWrite src n o v).Queue cs :=
  .ite (.ite h.ceilLock h.wfld) h.plainWrite
theorem State.Queue.drcRegWrite (h : s.Queue cs) {src n o v} : (s.drcRegWrite src n o v).Queue cs := by
  refine .ite ?_ ?_
  · refine .ite (.ite (h.after fun _ h1 => h1.execDrcRetrain) h) ?_
    refine .ite (.ite h.accessErr h.wr.refreshReady) ?_
    exact .ite h.accessErr (.ite (.ite h.accessErr (.ite h.plainWrite h.accessErr)) (.ite h.accessErr h.plainWrite))
  · refine .ite h.accessErr ?_
    exact .ite h.wfld.accessErr (.ite (.ite (h.after fun _ h2 => h2.execRankRetire) h) h.plainWrite)
theorem State.Queue.prgWrite (h : s.Queue cs) {src o v} : (s.prgWrite src o v).Queue cs := by
  refine .ite (h.after fun _ h1 => h1.execJoinGo) ?_
  refine .ite (.ite (h.after fun _ h2 => h2.execSwapArm) h) ?_
  exact .ite (.ite h.plainWrite (.bypassRefresh (.ite h.plainWrite.prgSend h.plainWrite))) h.plainWrite
theorem State.Queue.qzmWrite (h : s.Queue cs) {src o v} : (s.qzmWrite src o v).Queue cs :=
  .ite (.ite (h.after fun _ h1 => h1.execMbDoorbell) h) (.ite h.accessErr h.plainWrite)
theorem State.Queue.blockWrite (h : s.Queue cs) {src p o v} : (s.blockWrite src p o v).Queue cs := by
  unfold State.blockWrite
  split
  · exact h.sysWrite
  · exact h.tmuWrite
  · exact h.rveWrite
  · exact h.crlWrite
  · exact h.colWrite
  · exact h.cpeWrite
  · exact .ite (h.after fun _ h1 => h1.execEstBatchDone) h.plainWrite
  · exact h.wdsWrite
  · exact h.vceWrite
  · exact h.wveWrite
  · exact h.escWrite
  · exact .ite (h.after fun _ h2 => h2.execTxForceWrite) h.plainWrite
  · exact h.drcRegWrite
  · exact h.prgWrite
  · exact h.qzmWrite
  · exact h.plainWrite
theorem State.Queue.regApply (h : s.Queue cs) {src p o v} : (s.regApply src p o v).Queue cs := by
  unfold State.regApply
  extract_lets s1
  have h1 : s1.Queue cs := by
    unfold s1
    split
    · exact .ite h h.accessErr
    · exact .ite h.accessErr (.ite h (.ite h.headerWrite h.blockWrite))
  exact .ite h1.wr h1
theorem State.Queue.regWrite (h : s.Queue cs) {src p o v} : (s.regWrite src p o v).Queue cs :=
  h.access fun _ h1 => h1.applying fun _ h2 => h2.regApply
theorem State.Queue.execRegWrite (h : s.Queue cs) {src page off v} : QueueNext cs (execRegWrite src page off v s) :=
  .next h.regWrite
theorem State.Queue.execReg64HighWrite (h : s.Queue cs) {src page off v} :
    QueueNext cs (execReg64HighWrite src page off v s) :=
  .next h.regWrite
theorem State.Queue.execReg64LowRead (h : s.Queue cs) {page off} : QueueNext cs (execReg64LowRead page off s) :=
  .next (h.readAccess fun _ h1 => h1.of_same)
theorem State.Queue.execLayCfg (h : s.Queue cs) : QueueNext cs (execLayCfg s) := by
  unfold Machine.execLayCfg
  split
  · exact .next h
  · next s1 _ _ e2 =>
      have h1 : s1.Queue cs := (h.layTake.of_eq e2).fst
      exact .next (.ite (h1.setPrg.applying fun _ h3 => h3.regWrite) h1.setPrg)

/-! ## Commands and steps -/

theorem State.Queue.exec (h : s.Queue cs) (c : Instr) : QueueNext cs (Machine.exec c s) := by
  unfold Machine.exec
  split
  · exact h.execRegWrite
  · exact h.execReg64LowRead
  · exact h.execReg64HighWrite
  · exact h.execErrInfoClear
  · exact h.execEvtStatusClear
  · exact h.execEvtForce
  · exact h.execEvtRingDeliver
  · exact h.execPageEnWrite
  · exact h.execPageInitDone
  · exact h.execPageFence
  · exact h.execPageFenceDone
  · exact h.execPageReset
  · exact h.execPageResetDone
  · exact h.execCmtArm
  · exact h.execCmtDisarm
  · exact h.execCommitApply
  · exact h.execCgrpArm
  · exact h.execCgrpDisarm
  · exact h.execCgrpCheck
  · exact h.execCgrpApply
  · exact h.execTblAddrWrite
  · exact h.execTblDataRead
  · exact h.execTblDataWrite
  · exact h.execTblWritebackDeferred
  · exact h.execGrantTableWriteback
  · exact h.execSnapRequest
  · exact h.execSnapshotTake
  · exact h.execRingEnable
  · exact h.execRingHeadWrite
  · exact h.execGridPhaseWrite
  · exact h.execWaleRunSet
  · exact h.execWaleRunClear
  · exact h.execWaleStrobe
  · exact h.execFineTick
  · exact h.execTaskSubmit
  · exact h.execTaskDecrement
  · exact h.execAbortTask
  · exact h.execAbortOwner
  · exact h.execDelayListRelease
  · exact h.execTaskDispatch
  · exact h.execTaskStart
  · exact h.execTaskComplete
  · exact h.execBudgetAbort
  · exact h.execDeadlineAbort
  · exact h.execCompletionRecordWrite
  · exact h.execImageRegistryWrite
  · exact h.execImageScanDone
  · exact h.execOwnerMapWriteback
  · exact h.execPoolWriteback
  · exact h.execPoolReady
  · exact h.execAlloc
  · exact h.execAdd
  · exact h.execDrop
  · exact h.execFree
  · exact h.execCreelReclaim
  · exact h.execCrlReclaimDone
  · exact h.execCoilQueueWriteback
  · exact h.execCoilGrantWriteback
  · exact h.execReserve
  · exact h.execCommit
  · exact h.execNext
  · exact h.execRelease
  · exact h.execMark
  · exact h.execRewind
  · exact h.execCoilReclaim
  · exact h.execColReclaimDone
  · exact h.execEthLinkUp
  · exact h.execEthLinkDown
  · exact h.execEthHiSer
  · exact h.execEthRxFrame
  · exact h.execIclFrame
  · exact h.execIclCtxFetchDone
  · exact h.execLegkeyWriteback
  · exact h.execStreamCtxWriteback
  · exact h.execPolicerWriteback
  · exact h.execCpeRqWriteback
  · exact h.execCpeInbound
  · exact h.execKeySlotFetch
  · exact h.execKeySlotEvict
  · exact h.execKeyLoad
  · exact h.execKeyLoadApply
  · exact h.execKeyLoadPendingExpire
  · exact h.execKwkLoad
  · exact h.execCpeOutbound
  · exact h.execBulkSubmit
  · exact h.execBulkComplete
  · exact h.execLfwPacketAccepted
  · exact h.execFanoutCopy
  · exact h.execNeedIntraReport
  · exact h.execEstNextRateWrite
  · exact h.execEstBatchDone
  · exact h.execEstLatch
  · exact h.execWantCompute
  · exact h.execSwitchTmo
  · exact h.execJoinTake
  · exact h.execOriginatedPacket
  · exact h.execPartialMixOut
  · exact h.execMxfGather
  · exact h.execMixSample
  · exact h.execHwdecPacket
  · exact h.execPartialMixIn
  · exact h.execPartialBuild
  · exact h.execMxfHwencPacket
  · exact h.execNop
  · exact h.execMov
  · exact h.execMovi
  · exact h.execMovhi
  · exact h.execSub
  · exact h.execAddi
  · exact h.execAnd
  · exact h.execOr
  · exact h.execXor
  · exact h.execShl
  · exact h.execShr
  · exact h.execShrl
  · exact h.execShri
  · exact h.execShli
  · exact h.execAbs
  · exact h.execMax
  · exact h.execMin
  · exact h.execCmp
  · exact h.execCmpi
  · exact h.execMaxi
  · exact h.execMini
  · exact h.execLdw
  · exact h.execLdh
  · exact h.execStw
  · exact h.execSth
  · exact h.execMpy
  · exact h.execMac
  · exact h.execMsu
  · exact h.execMacm
  · exact h.execClr
  · exact h.execRda
  · exact h.execSta
  · exact h.execMova
  · exact h.execSeta
  · exact h.execGeta
  · exact h.execAadd
  · exact h.execSetm
  · exact h.execGetm
  · exact h.execB
  · exact h.execCall
  · exact h.execBr
  · exact h.execRepi
  · exact h.execRepr
  · exact h.execExit
  · exact h.execWaitd
  · exact h.execWaitf
  · exact h.execEi
  · exact h.execDi
  · exact h.execReti
  · exact h.execNorm
  · exact h.execExpt
  · exact h.execInterruptEntry
  · exact h.execDmaStart
  · exact h.execDmaDone
  · exact h.execFabricRequest
  · exact h.execFabricResponse
  · exact h.execWdsLoad
  · exact h.execWdsLoaded
  · exact h.execWdsModeWrite
  · exact h.execWdsMemWrite
  · exact h.execTestGo
  · exact h.execTestIrq
  · exact h.execTestHalt
  · exact h.execEncLaunch
  · exact h.execEncUnitEmit
  · exact h.execEncRefresh
  · exact h.execDecPacketAssemble
  · exact h.execDecUnitSubmit
  · exact h.execDecodeComplete
  · exact h.execDecRestart
  · exact h.execWeaveIngest
  · exact h.execWeaveCut
  · exact h.execWeaveLaunch
  · exact h.execWeavePictureBuild
  · exact h.execWveSpliceLate
  · exact h.execWveRekey
  · exact h.execPxcFrameLaunch
  · exact h.execPxcFramePublish
  · exact h.execPxcFrameLate
  · exact h.execDescriptorEnqueue
  · exact h.execHostFrameEnqueue
  · exact h.execPtpTx
  · exact h.execEscDequeue
  · exact h.execTxStart
  · exact h.execGateTransition
  · exact h.execGclStart
  · exact h.execGclEntryWriteback
  · exact h.execEscCeilLocked
  · exact h.execFramerOccurrence
  · exact h.execLnuFalseLock
  · exact h.execLofDeclare
  · exact h.execLofClear
  · exact h.execLosDeclare
  · exact h.execLosClear
  · exact h.execRxFrameOverhead
  · exact h.execRxMultiframe
  · exact h.execTribFrameComplete
  · exact h.execTdmFramePulse
  · exact h.execTxForceWrite
  · exact h.execWdtForceClear
  · exact h.execPmRecord
  · exact h.execPmSecondClose
  · exact h.execBinClose
  · exact h.execAdjSet
  · exact h.execAdjStep
  · exact h.execFreqWrite
  · exact h.execServoLockedWrite
  · exact h.execServoSilent
  · exact h.execPtpRx
  · exact h.execTxtsPop
  · exact h.execTmuLatWriteback
  · exact h.execSyncinMeasure
  · exact h.execPpsEdge
  · exact h.execTmuSyncinLoss
  · exact h.execPpsOutRise
  · exact h.execPpsOutFall
  · exact h.execDrcEnable
  · exact h.execDrcDisable
  · exact h.execTrainStepDone
  · exact h.execDrcTrainFail
  · exact h.execDrcRetrain
  · exact h.execDramWrite
  · exact h.execDramRead
  · exact h.execWriteQueueDrain
  · exact h.execRefresh
  · exact h.execMr4Poll
  · exact h.execScrubRead
  · exact h.execCaParityAlert
  · exact h.execRankRetire
  · exact h.execMigrationCopy
  · exact h.execPairLinkFrame
  · exact h.execPairLinkSend
  · exact h.execPairRetransmit
  · exact h.execPrgLinkDown
  · exact h.execTwinDead
  · exact h.execTwinAlive
  · exact h.execHello
  · exact h.execConfigForward
  · exact h.execLayCfg
  · exact h.execLayPkt
  · exact h.execLayTdm
  · exact h.execLayBoundary
  · exact h.execLayDeq
  · exact h.execLayDrop
  · exact h.execLayOutcome
  · exact h.execLayRefuse
  · exact h.execHeldInputTimeout
  · exact h.execFetchRequest
  · exact h.execFetchResponse
  · exact h.execFetchTimeout
  · exact h.execOutcomeHoldTimeout
  · exact h.execDigestRx
  · exact h.execGateWaitExpire
  · exact h.execGateHoldExpire
  · exact h.execPromote
  · exact h.execDemoteRx
  · exact h.execSwapArm
  · exact h.execSwapApply
  · exact h.execAutoSwap
  · exact h.execJoinGo
  · exact h.execCopyComplete
  · exact h.execCapturePoint
  · exact h.execPrgInStep
  · exact h.execPrgRegionWriteback
  · exact h.execPorAssert
  · exact h.execPorRelease
  · exact h.execSlathBoot
  · exact h.execRecovery
  · exact h.execPlatformRead
  · exact h.execMainRelease
  · exact h.execMainSeqStepFail
  · exact h.execPerst
  · exact h.execBoardFault
  · exact h.execRefclkLoss
  · exact h.execRefclkPresent
  · exact h.execIslandUndervolt
  · exact h.execIdRead
  · exact h.execIdReadTimeout
  · exact h.execModuleRemoved
  · exact h.execModuleInserted
  · exact h.execWdtKick
  · exact h.execWdtExpire
  · exact h.execWdtRestart
  · exact h.execTempSample
  · exact h.execVoltSample
  · exact h.execPmbusPoll
  · exact h.execPmbusCommand
  · exact h.execMirrorPageWrite
  · exact h.execMbDoorbell
  · exact h.execGetInfo
  · exact h.execClockSet
  · exact h.execClockStep
  · exact h.execPtpCfg
  · exact h.execImageRegion
  · exact h.execImageLoad
  · exact h.execImageUnload
  · exact h.execFwUpdate
  · exact h.execSvnCommit
  · exact h.execPlatformWrite
  · exact h.execOwnerSet
  · exact h.execFwRun
  · exact h.execQuote
  · exact h.execMeasure
  · exact h.execLogRead
  · exact h.execSensorRead
  · exact h.execThreshSet
  · exact h.execLogCfg
  · exact h.execWithyAdd
  · exact h.execReservedOpcode


end Sys2Proof.Machine
end

section
open Sys2Proof Sys2Proof.Machine

/-- Settles O58: with the front command off the queue, `exec` answers a next state and leaves the rest; an idle step lets
time pass. -/
theorem queueIsWorkedOff : Obligations.QueueIsWorkedOff := by
  have key (s : State) : QueueNext s.pending.tail (step s) := by
    unfold step
    split
    · next e => exact .next (State.Queue.advance ⟨by rw [e]; rfl⟩)
    · next e => exact State.Queue.exec ⟨by rw [e]; rfl⟩ _
  refine ⟨fun s => ?_, fun s t e => ?_⟩
  · obtain ⟨t, e, ht⟩ := key s
    obtain ⟨u, hu, -⟩ := key t
    exact ⟨t, e, ht.waits, u, hu⟩
  · obtain ⟨u, hu, h⟩ := key s
    rw [Host.Outcome.next.inj (e.symm.trans hu)]
    exact h.waits
end

section
/-!
SUPPORT. An initialisation that ends on an LFW page which shows READY and is not enabled (R64, R717): the packets past step 1 go, and
Creel's refusal to free a buffer that has no owner is logged in host memory (R164, R165).
-/

namespace Sys2Proof.Machine

/-- A packet in the buffer of handle 0. -/
def strayPkt : Pkt := { parse := {}, frame := [], stop := 0, elems := [], ssrc := 0, len := 64, handle := 0, t := 0 }

/-- DRC, CPE and LFW show READY, and LFW's initialisation is in progress; pool 0 is ON with one buffer that nobody owns, ring 0 of the
CRL page is enabled, and the miss queue holds `strayPkt`. -/
def staleReady : State :=
  { reg := [(rkey cpePage Reg.pageReady, 1), (rkey lfwPage Reg.pageReady, 1), (rkey crlPage Reg.ringCfg, 0x80),
            (rkey drcPage Reg.pageReady, 1)],
    tbl := [(tkey crlPage 0 0 0, [0, 0, 1, 0x100])], page := [(lfwPage, { initing := true })], icl := { miss := [strayPkt] } }

/-- The end of the initialisation writes to the host. -/
theorem staleReady_host (t : State) (e : exec (.pageInitDone lfwPage) staleReady = .next t) : t.host ≠ staleReady.host := by
  have h : (match exec (.pageInitDone lfwPage) staleReady with
    | .next t => t.host.isEmpty
    | _ => true) = false := by decide +kernel
  rw [e] at h
  simpa [staleReady] using h

end Sys2Proof.Machine
end

section
open Sys2Proof Sys2Proof.Machine

/-- Refutes O4: the end of an initialisation leaves what the host has been sent, says its third clause, but the packets past step 1 that
are lost with LFW's READY (R717) give their buffers back, and Creel logs a refusal of that in its result ring (R165). In `staleReady`
that is the buffer of `strayPkt`, which has no owner. -/
theorem not_pageControl : ¬ Obligations.PageControl := by
  unfold Obligations.PageControl
  rintro ⟨-, -, done, -⟩
  obtain ⟨t, e, -, only, -⟩ := done staleReady lfwPage (by decide) (by decide) (by decide)
  exact staleReady_host t e (only .host (by decide))
end

section
/-!
SUPPORT. A CLOCK_STEP that comes after the servo has been silent for its time-out (R553): the write of `TMU_STEP` meets HOLDOVER.
-/

namespace Sys2Proof.Machine

/-- Firmware runs, and a CLOCK_STEP of 0 ns waits with tag 0; the servo is LOCKED, and its 64 boundaries have passed in silence. -/
def silentServo : State :=
  { reg := [(rkey 0 Reg.sysBoot, 4), (rkey tmuPage Reg.tmuStatus, 1), (rkey tmuPage Reg.tmuServo, 0x400001),
            (rkey qzPage Reg.qzmReqBuf, 3)],
    tmu := { servoCount := 64 }, qz := { mainOk := true, mb := some (0, 8) } }

theorem silentServo_asked : silentServo.Asked 0x0003 8 0 :=
  ⟨⟨8, rfl, Nat.le_refl 8⟩, by decide, by decide, by decide⟩

/-- `TMU_STATUS.STATE` goes from LOCKED to HOLDOVER. -/
theorem silentServo_status (t : State) (e : exec .clockStep silentServo = .next t) :
    t.rd tmuPage Reg.tmuStatus ≠ silentServo.rd tmuPage Reg.tmuStatus := by
  have h : (match exec .clockStep silentServo with
    | .next t => decide (t.rd tmuPage Reg.tmuStatus = 2)
    | _ => false) = true := by decide +kernel
  rw [e] at h
  have hs : silentServo.rd tmuPage Reg.tmuStatus = 1 := by decide
  rw [of_decide_eq_true h, hs]
  decide

end Sys2Proof.Machine
end

section
open Sys2Proof Sys2Proof.Machine

/-- Refutes O50: of TMU's registers a CLOCK_STEP within the jump threshold leaves `TMU_STATUS`, says its clause, but the write of
`TMU_STEP` ends the servo's silence, and one that comes too late meets HOLDOVER (R553): in `silentServo` STATE goes from 1 to 2. -/
theorem not_mailboxProtocol : ¬ Obligations.MailboxProtocol := by
  unfold Obligations.MailboxProtocol
  rintro ⟨-, -, -, -, -, clockStep, -⟩
  obtain ⟨within, -⟩ := clockStep silentServo 0 silentServo_asked rfl
  obtain ⟨t, e, u, -, -, -, replies, -, ht⟩ := within (by decide) (by decide)
  have htu : t = u := ht.trans (if_neg (by decide))
  have hreg : u.rd tmuPage Reg.tmuStatus = silentServo.rd tmuPage Reg.tmuStatus :=
    replies.regs _ _ (by decide) (by decide +kernel) (by decide)
  exact silentServo_status t e (htu ▸ hreg)
end

section
/-!
SUPPORT. What a write that is discarded leaves: the count of access errors, and the capture where none is held (R99).
-/

namespace Sys2Proof.Machine

/-! ## `ERR_INFO` -/

/-- `FUNC` and `QZ` stand above the offset and the cause. -/
theorem srcErrBits_eq (src : Src) : ∃ k, k ≤ 16 ∧ srcErrBits src = k * 2 ^ 20 := by
  cases src with
  | pf => exact ⟨0, by decide, rfl⟩
  | vf n => exact ⟨n % 16, by omega, rfl⟩
  | qz => exact ⟨16, by decide, rfl⟩

/-- The word that `ERR_INFO` shows of a capture. -/
def errWord (o cause : Nat) (src : Src) : Word := BitVec.ofNat 32 (o + cause * 2 ^ 16 + srcErrBits src + 2 ^ 31)

theorem errWord_fields {o cause : Nat} (src : Src) (ho : o < 65536) (hc : cause < 16) :
    fld (errWord o cause src) 15 0 = o ∧ fld (errWord o cause src) 19 16 = cause ∧ bit (errWord o cause src) 31 = true := by
  obtain ⟨k, hk, e⟩ := srcErrBits_eq src
  have hw : (errWord o cause src).toNat = o + cause * 2 ^ 16 + k * 2 ^ 20 + 2 ^ 31 := by
    rw [errWord, BitVec.toNat_ofNat, e]; omega
  refine ⟨?_, ?_, ?_⟩
  · rw [fld, nfld, hw]; omega
  · rw [fld, nfld, hw]; omega
  · rw [bit, BitVec.getLsbD, hw, Nat.testBit, Nat.shiftRight_eq_div_pow, Nat.one_and_eq_mod_two]
    have : (o + cause * 2 ^ 16 + k * 2 ^ 20 + 2 ^ 31) / 2 ^ 31 = 1 := by omega
    rw [this]; rfl

/-! ## The capture -/

/-- `t` is `s` after an access error of page p at offset o: counted, and captured where no capture is held. -/
structure State.Captures (s t : State) (p o cause : Nat) (v : Word) : Prop where
  noted : s.Noted t
  count : t.ctrAt p .errCount 0 = min (s.ctrAt p .errCount 0 + 1) (2 ^ 32 - 1)
  held : s.rb p Reg.errInfo 31 = true → t.rd p Reg.errInfo = s.rd p Reg.errInfo ∧ t.rd p Reg.errData = s.rd p Reg.errData
  valid : s.rb p Reg.errInfo 31 = false → t.rb p Reg.errInfo 31 = true
  info : s.rb p Reg.errInfo 31 = false → t.rf p Reg.errInfo 15 0 = o ∧ t.rf p Reg.errInfo 19 16 = cause
  data : s.rb p Reg.errInfo 31 = false → t.rd p Reg.errData = v
  told : s.rb p Reg.errInfo 31 = false → t.Told p .pageAccessErr

/-- A count leaves the registers of a capture. -/
theorem State.rd_bump_err (s : State) (p q : Nat) (c : Ctr) {o : Nat} (h1 : o % 65536 ≠ Reg.evtStatus)
    (h2 : o % 65536 ≠ Reg.evtFirst) : (s.bump p c).rd q o = s.rd q o := (s.bumpAt_other p c 0 1 _ (by decide)).1 q o h1 h2

/-- The capture's three registers and its event. -/
def State.errCapture (s : State) (p : Nat) (info v : Word) : State :=
  (((s.wr p Reg.errInfo info).wr p Reg.errData v).wr p Reg.errWale (BitVec.ofNat 32 s.wale)).raise p .pageAccessErr info.toNat 0

theorem State.rd_errCapture (s : State) (p : Nat) (info v : Word) :
    (s.errCapture p info v).rd p Reg.errInfo = info ∧ (s.errCapture p info v).rd p Reg.errData = v := by
  have hr (u : State) (o : Nat) (h1 : o % 65536 ≠ Reg.evtStatus) (h2 : o % 65536 ≠ Reg.evtFirst) :
      (u.raise p .pageAccessErr info.toNat 0).rd p o = u.rd p o := (u.raised_raise ..).rd p o h1 h2
  constructor
  · rw [State.errCapture, hr _ _ (by decide) (by decide), State.rd_wr_other _ _ (by decide) (by decide) (.inr (by decide)),
      State.rd_wr_other _ _ (by decide) (by decide) (.inr (by decide)), State.rd_wr_same]
  · rw [State.errCapture, hr _ _ (by decide) (by decide), State.rd_wr_other _ _ (by decide) (by decide) (.inr (by decide)),
      State.rd_wr_same]

theorem State.captures_accessErr (s : State) (p : Nat) {o cause : Nat} (src : Src) (v : Word) (ho : o < 65536) (hc : cause < 16) :
    s.Captures (s.accessErr p o cause src v) p o cause v := by
  obtain ⟨hinfo, hcause, hvalid⟩ := errWord_fields src ho hc
  have hcount := s.ctrAt_bump p (c := .errCount) rfl (by decide)
  have hi : (s.bump p .errCount).rd p Reg.errInfo = s.rd p Reg.errInfo := s.rd_bump_err p p _ (by decide) (by decide)
  have hd : (s.bump p .errCount).rd p Reg.errData = s.rd p Reg.errData := s.rd_bump_err p p _ (by decide) (by decide)
  have hb : (s.bump p .errCount).rb p Reg.errInfo 31 = s.rb p Reg.errInfo 31 := by rw [State.rb, hi]; rfl
  have hn := s.noted_accessErr p o cause src v
  by_cases h : s.rb p Reg.errInfo 31 = true
  · have e : s.accessErr p o cause src v = s.bump p .errCount := if_pos (hb.trans h)
    rw [e] at hn ⊢
    refine ⟨hn, hcount, fun _ => ⟨hi, hd⟩, ?_, ?_, ?_, ?_⟩ <;> exact fun hf => absurd (h.symm.trans hf) (by decide)
  · have e : s.accessErr p o cause src v = (s.bump p .errCount).errCapture p (errWord o cause src) v := by
      simp only [State.accessErr, hb, h]
      rfl
    rw [e] at hn ⊢
    obtain ⟨rinfo, rdata⟩ := (s.bump p .errCount).rd_errCapture p (errWord o cause src) v
    refine ⟨hn, ?_, fun hf => absurd hf h, fun _ => ?_, fun _ => ⟨?_, ?_⟩, fun _ => rdata, fun _ => State.told_raise ..⟩
    · rw [State.errCapture, (State.raised_raise ..).ctr _ _ _ (by decide) (by decide)]
      simpa only [State.ctrAt, State.wr_ctr] using hcount
    · rw [State.rb, rinfo, hvalid]
    · rw [State.rf, rinfo, hinfo]
    · rw [State.rf, rinfo, hcause]

/-! ## Writes that Pairing carries -/

/-- The write that is being made waits to be carried to the standby (R598). -/
def State.carrying (s : State) (l : List (Nat × Nat × Word)) : State := s.setPrg fun g => { g with fwd := g.fwd ++ l }

theorem State.Opens.access {s : State} {src : Src} {p o : Nat} (h : s.Opens src p o) (v : Word) (k : State → State) :
    ∃ l, s.access src p o v k = k (s.carrying l) := State.access_opens h v k

@[simp] theorem State.carrying_rd (s : State) (l : List (Nat × Nat × Word)) (p o : Nat) : (s.carrying l).rd p o = s.rd p o := rfl

theorem State.frame_carrying (s : State) (l : List (Nat × Nat × Word)) (rs : List (Nat × Nat)) {ps : List Part} (hp : .prg ∈ ps) :
    State.Frame rs ps s (s.carrying l) := (State.Frame.refl s).parts rfl (s.only_setPrg _) (by simpa using hp)

end Sys2Proof.Machine
end

section
open Sys2Proof Sys2Proof.Machine

/-- Settles O60: the write of ARM is an access error of cause 2 and nothing else. -/
theorem armOnArmedPageIsDiscarded : Obligations.ArmOnArmedPageIsDiscarded := by
  intro s src p h hcmt harm
  obtain ⟨l, e⟩ := h.access (s.rd p Reg.cmtCtl ||| 1) fun u =>
    if (pageCaps p).cmt then u.cmtArm src p (s.rd p Reg.cmtCtl ||| 1) else u.accessErr p Reg.cmtCtl 3 src (s.rd p Reg.cmtCtl ||| 1)
  rw [if_pos hcmt, State.cmtArm, if_pos (show (s.carrying l).armed p = true from harm)] at e
  obtain ⟨hn, hcount, hheld, hvalid, hinfo, hdata, htold⟩ :=
    (s.carrying l).captures_accessErr p (o := Reg.cmtCtl) (cause := 2) src (s.rd p Reg.cmtCtl ||| 1) (by decide) (by decide)
  have hr (o : Nat) (ho : o % 65536 ∉ noteOffs) := (hn.rd p o ho).trans (s.carrying_rd l p o)
  have hf : State.Frame [] noted s _ := (s.frame_carrying l [] (by decide)).noted hn fun _ hx => hx
  refine ⟨_, congrArg Host.Outcome.next e, ?_, hr _ (by decide), hr _ (by decide), hr _ (by decide), hn.act, hn.tbl, hcount,
    fun hc => ⟨hvalid hc, (hinfo hc).1, (hinfo hc).2, hdata hc, htold hc⟩, hheld, hf.regs, hf.only⟩
  rw [State.armed, State.cmtState, State.rf, hr _ (by decide)]
  exact harm
end

section
/-!
SUPPORT. Events: `EVT_FIRST`, forced events, and the record that a result ring takes (R93 to R97, R101, R105, R108).
-/

namespace Sys2Proof.Machine

section
variable {rs : List (Nat × Nat)} {ps : List Part} {s t : State}

/-- A register that events and access errors write. -/
theorem State.Frame.noteWr {p o : Nat} (h : State.Frame rs ps s t) (v : Word) (ho : o ∈ noteOffs) (hp : .reg ∈ ps) :
    State.Frame rs ps s (t.wr p o v) :=
  h.trans ⟨(t.noted_wr p o v ho).regsBut _, (t.only_setReg _).mono (by simpa using hp)⟩

theorem State.only_withHost (s : State) (l : List HostOut) : s.Only { s with host := l } [.host] := by
  intro x hx
  cases x <;> simp [Part.same] at hx ⊢

theorem State.only_withEv (s : State) (e : EvSt) : s.Only { s with ev := e } [.ev] := by
  intro x hx
  cases x <;> simp [Part.same] at hx ⊢

theorem State.Frame.withHost (h : State.Frame rs ps s t) (l : List HostOut) (hp : .host ∈ ps) :
    State.Frame rs ps s { t with host := l } := h.parts rfl (t.only_withHost l) (by simpa using hp)

theorem State.Frame.withEv (h : State.Frame rs ps s t) (e : EvSt) (hp : .ev ∈ ps) :
    State.Frame rs ps s { t with ev := e } := h.parts rfl (t.only_withEv e) (by simpa using hp)

theorem State.Frame.ringIrq (h : State.Frame rs ps s t) (p k : Nat) (hp : .host ∈ ps) : State.Frame rs ps s (t.ringIrq p k) :=
  .ite (h.withHost _ hp) h

end

/-! ## `EVT_FIRST` -/

/-- A record leaves the registers. -/
theorem State.record_reg (s : State) (r : EvRec) : (s.record r).reg = s.reg := by
  have hlog (u : State) : (u.logRecord r).reg = u.reg := by
    unfold State.logRecord
    split
    · rfl
    · dsimp only; split <;> rfl
  have henq (u : State) : (u.enqueueRecord r).reg = u.reg := by
    unfold State.enqueueRecord
    extract_lets lo hi v
    have hv : v.reg = u.reg := by simp only [v]; split <;> rfl
    rw [← hv]
    split
    · rfl
    · split
      · rfl
      · split <;> rfl
  unfold State.record
  extract_lets n u
  split
  · rfl
  · exact (henq _).trans (hlog _)

/-- The code of the event that is raised while no bit of `EVT_STATUS` is set. -/
theorem State.rf_markEvent_first {s : State} {p : Nat} (h : s.rd p Reg.evtStatus = 0) (code : Nat) :
    (s.markEvent p code).rf p Reg.evtFirst 15 0 = code % 2 ^ 16 := by
  simp only [State.markEvent, h, if_true]
  rw [State.rf, State.rd_wr_other _ _ (by decide) (by decide) (.inr (by decide)), State.rd_wfld_same,
    fld_withFld _ _ (by decide) (by decide)]

/-- Another code leaves it. -/
theorem State.rd_markEvent_first {s : State} {p : Nat} (h : s.rd p Reg.evtStatus ≠ 0) (q code : Nat) :
    (s.markEvent q code).rd p Reg.evtFirst = s.rd p Reg.evtFirst := by
  by_cases hq : p = q
  · subst hq
    simp only [State.markEvent, h, if_false]
    exact State.rd_wr_other _ _ (by decide) (by decide) (.inr (by decide))
  · exact s.rd_markEvent_other code (by decide) (.inl hq)

theorem State.rd_raiseOnce_first {s : State} {p : Nat} (h : s.rd p Reg.evtStatus ≠ 0) (q : Nat) (e : Event) (a b : Nat) (f : Bool) :
    (s.raiseOnce q e a b f).rd p Reg.evtFirst = s.rd p Reg.evtFirst := by
  unfold State.raiseOnce
  extract_lets u code v
  have hu : u.reg = s.reg := by
    simp only [u, State.memError]
    split
    · rfl
    · split <;> rfl
  have hv : v.rd p Reg.evtFirst = s.rd p Reg.evtFirst :=
    (State.rd_markEvent_first (by rwa [State.rd_congr hu]) q code).trans (State.rd_congr hu _ _)
  split
  · exact (State.rd_congr (v.record_reg _) _ _).trans hv
  · exact hv

/-- A forced event is the page's first where no bit was set. -/
theorem State.rf_raiseWith_first {s : State} {p : Nat} (h : s.rd p Reg.evtStatus = 0) (e : Event) (a b : Nat) :
    (s.raiseWith p e a b true).rf p Reg.evtFirst 15 0 = e.code (pageType p) % 2 ^ 16 := by
  have hmark := State.rf_markEvent_first h (e.code (pageType p))
  obtain ⟨-, htold⟩ := s.raised_raiseOnce p e a b true
  have honce : (s.raiseOnce p e a b true).rf p Reg.evtFirst 15 0 = e.code (pageType p) % 2 ^ 16 := by
    unfold State.raiseOnce
    extract_lets u code v
    split
    · rw [State.rf, State.rd_congr (v.record_reg _)]; exact hmark
    · exact hmark
  have hne : (s.raiseOnce p e a b true).rd p Reg.evtStatus ≠ 0 := by
    intro h0
    rw [State.Told, State.rb, h0] at htold
    simp [bit] at htold
  unfold State.raiseWith
  extract_lets u
  split
  · rw [State.rf, State.rd_raiseOnce_first hne]; exact honce
  · exact honce

/-! ## Forced events -/

theorem bits_fmask {b : Nat} (hb : b < 32) : ((List.range 32).filter fun i => bit (fmask b b) i) = [b] := by
  revert b; decide

/-- The bit of an event that is mapped to it. -/
theorem evBit_forcedEvent {ty b : Nat} {e : Event} (h : forcedEvent ty b = some e) : evBit (e.code ty % 256) = b := by
  have := List.find?_some h
  simp only [Bool.and_eq_true, decide_eq_true_eq] at this
  exact this.2

/-! ## Result rings -/

/-- The bus address of the slot of ring 0 that TAIL names (R93). -/
def State.slotAddr (s : State) (p : Nat) : Nat :=
  s.rd64 p Reg.ringBase Reg.ringBaseHi + (s.rd p Reg.ringTail).toNat % s.ringSize p 0 * (16 * 2 ^ s.rf p Reg.ringCfg 6 5)

/-- What an entry of ring 0 of page p leaves: the slot that TAIL named, whose words below the fourth are those given, and TAIL. -/
structure State.RingPut (s t : State) (p : Nat) (ws : List Word) : Prop where
  tail : t.rd p Reg.ringTail = s.rd p Reg.ringTail + 1
  slot : ∃ vs l, t.host = s.host ++ HostOut.write (s.slotAddr p) vs :: l ∧ ∀ i, i < 3 → vs.getD i 0 = ws.getD i 0
  frame : State.Frame [(p, Reg.ringTail)] (.host :: noted) s t

theorem State.ringIrq_host (s : State) (p k : Nat) : ∃ l, (s.ringIrq p k).host = s.host ++ l := by
  unfold State.ringIrq
  split
  · exact ⟨_, rfl⟩
  · exact ⟨[], (List.append_nil _).symm⟩

theorem State.ringIrq_reg (s : State) (p k : Nat) : (s.ringIrq p k).reg = s.reg := by
  unfold State.ringIrq
  split <;> rfl

theorem State.ringPut_ringWrite (s : State) (p : Nat) (ws : List Word) : s.RingPut (s.ringWrite p 0 ws) p ws := by
  unfold State.ringWrite
  extract_lets i n esize addr last ph vs empty u v w
  have hlast : 3 ≤ last := by
    have : 0 < 2 ^ s.rf p (ringOff Reg.ringCfg 0) 6 5 := Nat.two_pow_pos _
    simp only [last, esize]; omega
  have hvs : ∀ j, j < 3 → vs.getD j 0 = ws.getD j 0 := fun j hj => setWord_getD_other ws _ (by omega)
  have hv : v.rd p Reg.ringTail = s.rd p Reg.ringTail + 1 := State.rd_wr_same ..
  have hfv : State.Frame [(p, Reg.ringTail)] (.host :: noted) s v :=
    ((State.Frame.refl s).withHost _ (by decide)).wr _ (by decide) (List.mem_singleton.2 rfl) (by decide)
  obtain ⟨l, hl⟩ : ∃ l, w.host = s.host ++ HostOut.write addr vs :: l := by
    obtain ⟨l, hl⟩ := v.ringIrq_host p 0
    simp only [w]
    split
    · exact ⟨l, by rw [hl]; exact List.append_assoc ..⟩
    · exact ⟨[], rfl⟩
  have hw : w.reg = v.reg := by
    simp only [w]
    split
    · exact v.ringIrq_reg p 0
    · rfl
  have hfw : State.Frame [(p, Reg.ringTail)] (.host :: noted) s w := .ite (hfv.ringIrq _ _ (by decide)) hfv
  have htail : w.rd p Reg.ringTail = s.rd p Reg.ringTail + 1 := (State.rd_congr hw _ _).trans hv
  split
  · exact ⟨htail, ⟨vs, l, hl, hvs⟩, hfw⟩
  · refine ⟨?_, ⟨vs, l, ?_, hvs⟩, hfw.raise _ _ _ _ (by decide)⟩
    · rw [State.rd_raise _ _ _ _ _ _ _ (by decide), htail]
    · rw [(State.noted_raise ..).host, hl]; rfl

/-- The slot does not depend on the event machinery. -/
theorem State.slotAddr_withEv (s : State) (e : EvSt) (p : Nat) : State.slotAddr { s with ev := e } p = s.slotAddr p := rfl

/-- The first two words of an event record's ring entry (R106). -/
theorem ringEntry_code (r : EvRec) (n : Nat) : fld ((ringEntry r n).getD 0 0) 15 0 = r.code % 2 ^ 16 := by
  simp only [ringEntry, List.getD_cons_zero, fld, nfld, BitVec.toNat_ofNat]
  omega

theorem ringEntry_wale (r : EvRec) (n : Nat) : (ringEntry r n).getD 1 0 = BitVec.ofNat 32 r.wale := rfl

end Sys2Proof.Machine
end

section
/-!
SUPPORT. The commands of the error and event registers.
-/

namespace Sys2Proof.Machine

variable {s : State} {src : Src} {p : Nat}

theorem State.Opens.errInfoClear (h : s.Opens src p Reg.errInfo) :
    Answers (.errInfoClear src p) s fun t =>
      t.rb p Reg.errInfo 31 = false ∧ t.rf p Reg.errInfo 30 0 = s.rf p Reg.errInfo 30 0 ∧
        t.rd p Reg.errData = s.rd p Reg.errData ∧ State.Frame [] [.reg, .prg] s t := by
  obtain ⟨l, e⟩ := h.access 0x80000000 fun u => u.wfld p Reg.errInfo 31 31 0
  refine ⟨_, congrArg Host.Outcome.next e, ?_, ?_, State.rd_wfld_other _ _ _ _ (by decide) (by decide) (.inr (by decide)),
    (s.frame_carrying l _ (by decide)).noteWr _ (by decide) (by decide)⟩
  · rw [State.rb, State.rd_wfld_same, fmask_bits _ (by decide)]; rfl
  · rw [State.rf, State.rd_wfld_same, fld_withFld_other _ _ (.inl (by decide))]; rfl

theorem State.Opens.evtStatusClear (h : s.Opens src p Reg.evtStatus) (mask : Word) :
    Answers (.evtStatusClear src p mask) s fun t =>
      t.rd p Reg.evtStatus = s.rd p Reg.evtStatus &&& ~~~mask ∧
        t.rd p Reg.evtFirst = (if s.rd p Reg.evtStatus &&& ~~~mask = 0 then 0 else s.rd p Reg.evtFirst) ∧
        State.Frame [] [.reg, .prg] s t := by
  obtain ⟨l, e⟩ := h.access mask fun u =>
    if u.rd p Reg.evtStatus &&& ~~~mask = 0 then (u.wr p Reg.evtStatus (u.rd p Reg.evtStatus &&& ~~~mask)).wr p Reg.evtFirst 0
    else u.wr p Reg.evtStatus (u.rd p Reg.evtStatus &&& ~~~mask)
  refine ⟨_, congrArg Host.Outcome.next e, ?_⟩
  have hf : State.Frame [] [.reg, .prg] s ((s.carrying l).wr p Reg.evtStatus (s.rd p Reg.evtStatus &&& ~~~mask)) :=
    (s.frame_carrying l _ (by decide)).noteWr _ (by decide) (by decide)
  have hother (u : State) (v : Word) : (u.wr p Reg.evtFirst v).rd p Reg.evtStatus = u.rd p Reg.evtStatus :=
    u.rd_wr_other v (by decide) (by decide) (.inr (by decide))
  rw [State.carrying_rd]
  by_cases h0 : s.rd p Reg.evtStatus &&& ~~~mask = 0
  · rw [if_pos h0, if_pos h0]
    exact ⟨by rw [hother, State.rd_wr_same], State.rd_wr_same .., hf.noteWr _ (by decide) (by decide)⟩
  · rw [if_neg h0, if_neg h0]
    exact ⟨State.rd_wr_same .., State.rd_wr_other _ _ (by decide) (by decide) (.inr (by decide)), hf⟩

theorem State.Opens.evtForce (h : s.Opens src p Reg.evtForce) {b : Nat} {ev : Event} (hb : b < 32)
    (he : forcedEvent (pageType p) b = some ev) :
    Answers (.evtForce src p (fmask b b)) s fun t =>
      t.rb p Reg.evtStatus b = true ∧ (∀ i, s.rb p Reg.evtStatus i = true → t.rb p Reg.evtStatus i = true) ∧
        (s.rd p Reg.evtStatus = 0 → t.rf p Reg.evtFirst 15 0 = ev.code (pageType p) % 2 ^ 16) ∧ State.Frame [] noted s t := by
  obtain ⟨l, e⟩ := h.access (fmask b b) fun u => ((List.range 32).filter fun i => bit (fmask b b) i).foldl
    (fun u i => match forcedEvent (pageType p) i with
      | some e => u.raiseWith p e 0 0 true
      | none => u) u
  simp only [bits_fmask hb, List.foldl_cons, List.foldl_nil, he] at e
  obtain ⟨hr, ht⟩ := (s.carrying l).raised_raiseWith p ev 0 0 true
  refine ⟨_, congrArg Host.Outcome.next ?_, ?_, hr.told p, fun h0 => State.rf_raiseWith_first (s := s.carrying l) h0 ..,
    (s.frame_carrying l _ (by decide)).noted ((s.carrying l).noted_raiseWith ..) fun _ hx => hx⟩
  · simp only [bits_fmask hb, List.foldl_cons, List.foldl_nil, he]; exact e
  · rw [← evBit_forcedEvent he]; exact ht

theorem execEvtRingDeliver_put {r : EvRec} {rest : List EvRec} (hq : s.ev.queue = r :: rest) (hon : s.ringOn 0 0 = true)
    (hroom : s.ringRoom 0 0 = true) : ∃ ev, execEvtRingDeliver s =
      .next (State.ringWrite { s with ev := ev } 0 0 (ringEntry r s.ev.since)) := by
  simp only [execEvtRingDeliver, hq, hon, hroom, Bool.and_self, if_true]
  exact ⟨_, rfl⟩

end Sys2Proof.Machine
end

section
open Sys2Proof Sys2Proof.Machine

/-- Settles O2: R99, R101, R104, R105, R108, one lemma for each command. -/
theorem errorsAndEvents : Obligations.ErrorsAndEvents := by
  refine ⟨fun s src p h => ?_, fun s src p mask h => ?_, fun s src p b ev h hb he => ?_, fun s r rest hq hon hroom => ?_⟩
  · obtain ⟨t, e, hvalid, hrest, hdata, hf⟩ := h.errInfoClear
    exact ⟨t, e, hvalid, hrest, hdata, hf.regs, hf.only⟩
  · obtain ⟨t, e, hst, hfirst, hf⟩ := h.evtStatusClear mask
    exact ⟨t, e, hst, hfirst, hf.regs, hf.only⟩
  · obtain ⟨t, e, hbit, hkept, hfirst, hf⟩ := h.evtForce hb he
    exact ⟨t, e, hbit, fun i _ => hkept i, hfirst, hf.regs, hf.only⟩
  · obtain ⟨ev, e⟩ := execEvtRingDeliver_put hq hon hroom
    obtain ⟨htail, ⟨vs, l, hhost, hvs⟩, hf⟩ :=
      State.ringPut_ringWrite { s with ev := ev } 0 (ringEntry r s.ev.since)
    have hs := ((State.Frame.refl s).withEv ev (by decide)).trans hf
    exact ⟨_, e, htail, ⟨vs, l, hhost, by rw [hvs 0 (by decide), ringEntry_code], by rw [hvs 1 (by decide), ringEntry_wale]⟩,
      hs.regs, hs.only⟩
end

section
/-!
SUPPORT. Rings that are enabled and consumed, and snapshots (R87, R88, R91, R95, R97).
-/

namespace Sys2Proof.Machine

/-! ## Maps of which a part is kept or exchanged -/

section
variable {α : Type} {d : Nat → α}

/-- A key that is kept reads as before. -/
theorem NMap.get_keep (f : Nat → Bool) (m : NMap α) {k : Nat} (h : f k = true) : NMap.get d (NMap.keep f m) k = NMap.get d m k := by
  induction m with
  | nil => rfl
  | cons x r ih =>
    obtain ⟨j, v⟩ := x
    have e : NMap.keep f ((j, v) :: r) = if f j = true then (j, v) :: NMap.keep f r else NMap.keep f r := List.filter_cons
    rw [e]
    by_cases hj : f j = true
    · simp [hj, NMap.get, ih]
    · have hjk : j ≠ k := fun h' => hj (h' ▸ h)
      simp [hj, NMap.get, ih, hjk]

/-- A key that is not kept is unlisted. -/
theorem NMap.get_keep_none (f : Nat → Bool) (m : NMap α) {k : Nat} (h : f k = false) : NMap.get d (NMap.keep f m) k = d k := by
  induction m with
  | nil => rfl
  | cons x r ih =>
    obtain ⟨j, v⟩ := x
    have e : NMap.keep f ((j, v) :: r) = if f j = true then (j, v) :: NMap.keep f r else NMap.keep f r := List.filter_cons
    rw [e]
    by_cases hj : f j = true
    · have hjk : j ≠ k := fun h' => by rw [h', h] at hj; exact absurd hj (by decide)
      simp [hj, NMap.get, ih, hjk]
    · simp [hj, ih]

/-- A key that the first of two maps does not list. -/
theorem NMap.get_append_right (a b : NMap α) {k : Nat} (h : ∀ x ∈ a, x.1 ≠ k) : NMap.get d (a ++ b) k = NMap.get d b k := by
  induction a with
  | nil => rfl
  | cons x r ih =>
    simp only [List.cons_append, NMap.get, h x (by simp), if_false]
    exact ih fun y hy => h y (by simp [hy])

/-- A key that the second of two maps does not list. -/
theorem NMap.get_append_left (a b : NMap α) {k : Nat} (h : ∀ x ∈ b, x.1 ≠ k) : NMap.get d (a ++ b) k = NMap.get d a k := by
  induction a with
  | nil =>
    induction b with
    | nil => rfl
    | cons x r ih =>
      have := ih fun y hy => h y (by simp [hy])
      simpa only [List.nil_append, NMap.get, h x (by simp), if_false] using this
  | cons x r ih => simp only [List.cons_append, NMap.get, ih]

/-- What the part of page p reads after it was exchanged. -/
theorem get_takePage (pageOf : Nat → Nat) {p k : Nat} (old new : NMap α) (h : pageOf k = p) :
    NMap.get d (takePage pageOf p old new) k = NMap.get d new k := by
  have hne {f : Nat → Bool} (hf : f k = false) : ∀ x ∈ NMap.keep f old, x.1 ≠ k := by
    intro x hx e
    have := (List.mem_filter.1 hx).2
    simp only [e, hf] at this
    exact absurd this (by decide)
  rw [takePage, NMap.get_append_left _ _ (hne (by simp [h])), NMap.get_append_right _ _ (hne (by simp [h])),
    NMap.get_keep _ _ (by simp [h])]

end

theorem ctrPage_ckey (p : Nat) (c : Ctr) {i : Nat} (hi : i < 2 ^ 26) : ctrPage (ckey p c i) = p := by
  have hc : c.ctorIdx < 512 := by cases c <;> decide
  unfold ctrPage ckey
  omega

/-! ## `RING_CFG` -/

/-- A page has ring 0 or none (R90). -/
theorem ring_zero {p k : Nat} (hk : k < (pageCaps p).rings) : k = 0 := by
  have h1 : (pageCaps p).rings ≤ 1 := by
    unfold Machine.pageCaps
    split <;> decide
  omega

/-- The enable bit is a field of its own. -/
theorem or_enable (v : Word) : v ||| fmask 7 7 = withFld v 7 7 1 := by
  apply BitVec.eq_of_getLsbD_eq
  intro i hi
  have hone : (BitVec.ofNat 32 (1 * 2 ^ 7)) = fmask 7 7 := by decide
  rw [withFld, hone, BitVec.and_self, BitVec.getLsbD_or, BitVec.getLsbD_or, BitVec.getLsbD_and, BitVec.getLsbD_not]
  cases v.getLsbD i <;> cases (fmask 7 7).getLsbD i <;> simp [hi]

/-- `RING_CFG` of a ring that is enabled: IRQ_EN, VECTOR, SIZE and ESIZE as written. -/
def ringWord (w v : Word) : Word :=
  withFld (withFld (withFld (withFld (withFld w 8 8 (fld v 8 8)) 26 16 (fld v 26 16)) 4 0 (fld v 4 0)) 6 5 (fld v 6 5)) 7 7 1

theorem ringWord_on (w v : Word) : bit (ringWord w v) 7 = true := by
  rw [ringWord, fmask_bits _ (by decide)]; rfl

theorem ringWord_size (w v : Word) : fld (ringWord w v) 4 0 = fld v 4 0 := by
  rw [ringWord, fld_withFld_other _ _ (.inl (by decide)), fld_withFld_other _ _ (.inl (by decide)),
    fld_withFld _ _ (by decide) (by decide)]
  exact Nat.mod_mod ..

theorem ringWord_esize (w v : Word) : fld (ringWord w v) 6 5 = fld v 6 5 := by
  rw [ringWord, fld_withFld_other _ _ (.inl (by decide)), fld_withFld _ _ (by decide) (by decide)]
  exact Nat.mod_mod ..

theorem State.wfld_wfld (s : State) (p o hi lo v hi' lo' v' : Nat) :
    (s.wfld p o hi lo v).wfld p o hi' lo' v' = (s.wfld p o hi lo v).wr p o (withFld (withFld (s.rd p o) hi lo v) hi' lo' v') := by
  rw [State.wfld, State.rd_wfld_same]

/-- The state of an enabled ring (R91). -/
structure State.RingEnabled (s t : State) (p : Nat) (v : Word) : Prop where
  cfg : t.rd p Reg.ringCfg = ringWord (s.rd p Reg.ringCfg) v
  head : t.rd p Reg.ringHead = 0
  tail : t.rd p Reg.ringTail = 0
  frame : State.Frame [(p, Reg.ringCfg), (p, Reg.ringHead), (p, Reg.ringTail)] [.reg] s t

/-- R91: a ring that is off, with a size and an entry size that it takes. -/
theorem State.ringEnabled_ringCfgWrite {s : State} {p : Nat} {v : Word} (src : Src) (hk : 0 < (pageCaps p).rings)
    (hoff : s.ringOn p 0 = false) (hv : bit v 7 = true) (hlog : 4 ≤ fld v 4 0 ∧ fld v 4 0 ≤ 20) (hsize : fld v 6 5 ≠ 3)
    (hfixed : ∀ z, ringFixed p 0 = some z → fld v 6 5 = z) : s.RingEnabled (s.ringCfgWrite src p 0 v) p v := by
  have hbad : (decide (fld v 6 5 = 3) || (ringFixed p 0).any fun z => decide (z ≠ fld v 6 5)) = false := by
    cases hz : ringFixed p 0 with
    | none => simp [hsize]
    | some z =>
      obtain rfl := hfixed z hz
      simp [hsize]
  have hlog' : decide (4 ≤ fld v 4 0 ∧ fld v 4 0 ≤ 20) = true := decide_eq_true hlog
  have hrings : ¬ (pageCaps p).rings ≤ 0 := by omega
  have key : s.ringCfgWrite src p 0 v =
      ((((((s.wfld p Reg.ringCfg 8 8 (fld v 8 8)).wfld p Reg.ringCfg 26 16 (fld v 26 16)).wfld p Reg.ringCfg 4 0 (fld v 4 0)).wfld
        p Reg.ringCfg 6 5 (fld v 6 5)).wfld p Reg.ringCfg 7 7 1).wr p Reg.ringHead 0).wr p Reg.ringTail 0 := by
    simp only [State.ringCfgWrite, hrings, hoff, hv, hbad, hlog', if_false, Bool.false_eq_true, Bool.and_false, Bool.not_true,
      Bool.or_false, if_true]
    rfl
  rw [key]
  refine ⟨?_, ?_, State.rd_wr_same .., ?_⟩
  · rw [State.rd_wr_other _ _ (by decide) (by decide) (.inr (by decide)),
      State.rd_wr_other _ _ (by decide) (by decide) (.inr (by decide))]
    simp only [State.rd_wfld_same]
    rfl
  · rw [State.rd_wr_other _ _ (by decide) (by decide) (.inr (by decide)), State.rd_wr_same]
  · have hc : (p, Reg.ringCfg) ∈ [(p, Reg.ringCfg), (p, Reg.ringHead), (p, Reg.ringTail)] := by simp
    have hw {t : State} (h : State.Frame _ [.reg] s t) (hi lo x : Nat) := h.wfld hi lo x (by decide) hc (by decide)
    exact ((hw (hw (hw (hw (hw (.refl s) _ _ _) _ _ _) _ _ _) _ _ _) _ _ _).wr _ (by decide) (by simp) (by decide)).wr _
      (by decide) (by simp) (by decide)

/-! ## Consumed entries -/

/-- Entries between a HEAD that is written and TAIL. -/
theorem ringUsed_wr (s : State) (p : Nat) (h : Word) :
    (s.wr p Reg.ringHead h).ringUsed p 0 = (s.rd p Reg.ringTail - h).toNat := by
  rw [State.ringUsed]
  show ((s.wr p Reg.ringHead h).rd p Reg.ringTail - (s.wr p Reg.ringHead h).rd p Reg.ringHead).toNat = _
  rw [State.rd_wr_same, State.rd_wr_other _ _ (by decide) (by decide) (.inr (by decide))]

/-- R95, R97: what a HEAD that is taken leaves. -/
structure State.HeadTaken (s t : State) (p : Nat) (h : Word) : Prop where
  head : t.rd p Reg.ringHead = h
  quiet : h = s.rd p Reg.ringTail → t.host = s.host
  frame : State.Frame [(p, Reg.ringHead)] [.reg, .host] s t

theorem State.headTaken (s : State) (p : Nat) (h : Word) : s.HeadTaken
    (if (s.wr p Reg.ringHead h).ringUsed p 0 = 0 then s.wr p Reg.ringHead h else (s.wr p Reg.ringHead h).ringIrq p 0) p h := by
  have hf : State.Frame [(p, Reg.ringHead)] [.reg, .host] s (s.wr p Reg.ringHead h) :=
    (State.Frame.refl s).wr _ (by decide) (List.mem_singleton.2 rfl) (by decide)
  refine ⟨?_, fun hq => ?_, .ite hf (hf.ringIrq _ _ (by decide))⟩
  · split
    · exact State.rd_wr_same ..
    · exact (State.rd_congr (State.ringIrq_reg ..) _ _).trans (State.rd_wr_same ..)
  · rw [if_pos (by rw [ringUsed_wr, hq]; simp)]
    rfl

/-! ## Snapshots -/

theorem State.only_setPg (s : State) (p : Nat) (f : PageSt → PageSt) : s.Only (s.setPg p f) [.page] := by
  intro x hx
  cases x <;> simp [Part.same] at hx ⊢

theorem State.pg_setPg (s : State) (p : Nat) (f : PageSt → PageSt) : (s.setPg p f).pg p = f (s.pg p) := NMap.get_set_same ..

theorem State.Frame.setPg {rs : List (Nat × Nat)} {ps : List Part} {s t : State} (h : State.Frame rs ps s t) (p : Nat)
    (f : PageSt → PageSt) (hp : .page ∈ ps) : State.Frame rs ps s (t.setPg p f) :=
        h.parts rfl (t.only_setPg p f) (by simpa using hp)

/-- R87, R88: what a request leaves. -/
structure State.SnapAsked (s t : State) (p : Nat) (clrS : Bool) : Prop where
  req : t.rb p Reg.snapCtl 0 = true
  clr : clrS = true → t.rb p Reg.snapCtl 1 = true
  since : (t.pg p).snapAt = some s.clk.wale
  frame : State.Frame [(p, Reg.snapCtl)] [.reg, .page] s t

theorem State.snapAsked_snapRequest {s : State} {p : Nat} (src : Src) (clrS : Bool) (v : Word) (hs : (pageCaps p).snap = true)
    (h0 : s.rb p Reg.snapCtl 0 = false) : s.SnapAsked (s.snapRequest src p clrS v) p clrS := by
  have h1 : State.Frame [(p, Reg.snapCtl)] [.reg, .page] s (s.wfld p Reg.snapCtl 0 0 1) :=
    (State.Frame.refl s).wfld _ _ _ (by decide) (List.mem_singleton.2 rfl) (by decide)
  have b1 : (s.wfld p Reg.snapCtl 0 0 1).rb p Reg.snapCtl 0 = true := by
    rw [State.rb, State.rd_wfld_same, fmask_bits _ (by decide)]; rfl
  simp only [State.snapRequest, hs, h0, Bool.not_true, Bool.false_eq_true, if_false]
  cases clrS with
  | false => exact ⟨b1, fun h => absurd h (by decide), congrArg PageSt.snapAt (State.pg_setPg ..), h1.setPg _ _ (by decide)⟩
  | true =>
    refine ⟨?_, fun _ => ?_, congrArg PageSt.snapAt (State.pg_setPg ..),
      (h1.wfld _ _ _ (by decide) (List.mem_singleton.2 rfl) (by decide)).setPg _ _ (by decide)⟩
    · show ((s.wfld p Reg.snapCtl 0 0 1).wfld p Reg.snapCtl 1 1 1).rb p Reg.snapCtl 0 = true
      rw [State.rb, State.rd_wfld_same, bit_withFld_other _ _ (.inl (by decide))]
      exact b1
    · show ((s.wfld p Reg.snapCtl 0 0 1).wfld p Reg.snapCtl 1 1 1).rb p Reg.snapCtl 1 = true
      rw [State.rb, State.rd_wfld_same, fmask_bits _ (by decide)]; rfl

theorem State.only_withCtr (s : State) (m : NMap Nat) : s.Only { s with ctr := m } [.ctr] := by
  intro x hx
  cases x <;> simp [Part.same] at hx ⊢

theorem State.only_withSnap (s : State) (m : NMap Nat) (k : NMap (List Word)) :
    s.Only { s with snap := m, snapTbl := k } [.snap, .snapTbl] := by
  intro x hx
  cases x <;> simp [Part.same] at hx ⊢

theorem State.only_setLnu (s : State) (f : LnuSt → LnuSt) : s.Only (s.setLnu f) [.lnu] := by
  intro x hx
  cases x <;> simp [Part.same] at hx ⊢

/-- The registers and the parts that a snapshot changes. -/
def snapRegs (p : Nat) : List (Nat × Nat) := [(p, Reg.snapCtl), (p, Reg.snapWale)]
def snapParts : List Part := [.clk, .snap, .snapTbl, .page, .lnu] ++ noted

/-- The counters that a snapshot holds, and those that it leaves. -/
def State.snapHeld (s : State) (p : Nat) : State :=
  { (if s.rb p Reg.snapCtl 1 then s.clearS p else s) with
    snap := takePage ctrPage p (if s.rb p Reg.snapCtl 1 then s.clearS p else s).snap (s.endedCtrs p),
    snapTbl := takePage tblPage p (if s.rb p Reg.snapCtl 1 then s.clearS p else s).snapTbl
      (NMap.keep (fun k => snapTables p (tblNo k)) (if s.rb p Reg.snapCtl 1 then s.clearS p else s).tbl) }

/-- What a snapshot leaves (R87, R88). -/
structure State.SnapTaken (s t : State) (p : Nat) : Prop where
  done : t.rb p Reg.snapCtl 0 = false
  wale : t.rd p Reg.snapWale = BitVec.ofNat 32 s.wale
  ctrs : ∀ c i, i < 2 ^ 26 → NMap.get (fun _ => 0) t.snap (ckey p c i) = NMap.get (fun _ => 0) (s.endedCtrs p) (ckey p c i)
  bins : p = tsiPage → t.lnu.pmSnap = s.lnu.pm
  frame : State.Frame (snapRegs p) snapParts s t

theorem State.Frame.wale {rs : List (Nat × Nat)} {ps : List Part} {s t : State} (h : State.Frame rs ps s t) (hc : t.clk = s.clk)
    (h1 : (tmuPage, Reg.tmuWaleCtl) ∉ rs) (h2 : (tmuPage, Reg.tmuGridPhase) ∉ rs) : t.wale = s.wale := by
  have hw : t.wale28 = s.wale28 := by
    rw [State.wale28, State.now, hc, h.gridPhase h2]
    rfl
  rw [State.wale, State.wale64, h.genState h1, hw, hc]
  rfl

theorem State.snapTaken_snapshot (s : State) (p : Nat) : s.SnapTaken (s.snapshot p) p := by
  have hcfg : (p, Reg.snapCtl) ∈ snapRegs p := by simp [snapRegs]
  have hwale : (p, Reg.snapWale) ∈ snapRegs p := by simp [snapRegs]
  unfold State.snapshot
  extract_lets clr ended s1 s2 s3 s4
  have f1 : State.Frame (snapRegs p) snapParts s s1 := .ite ((State.Frame.refl s).parts rfl (s.only_withCtr _) (by decide))
      (.refl s)
  have k1 : s1.clk = s.clk ∧ s1.lnu = s.lnu := by simp only [s1]; split <;> exact ⟨rfl, rfl⟩
  have f2 : State.Frame (snapRegs p) snapParts s s2 := f1.parts rfl (s1.only_withSnap _ _) (by decide)
  have f3 : State.Frame (snapRegs p) snapParts s s3 := .ite (f2.parts rfl (s2.only_setLnu _) (by decide)) f2
  have k3 : s3.snap = s2.snap ∧ s3.clk = s.clk ∧ (p = tsiPage → s3.lnu.pmSnap = s.lnu.pm) := by
    simp only [s3]
    split
    · exact ⟨rfl, k1.1, fun _ => congrArg LnuSt.pm k1.2⟩
    · exact ⟨rfl, k1.1, fun h => absurd h ‹_›⟩
  have f4 : State.Frame (snapRegs p) snapParts s s4 :=
    (f3.wfld _ _ _ (by decide) hcfg (by decide)).wr _ (by decide) hwale (by decide)
  have hw : s3.wale = s.wale :=
    f3.wale k3.2.1 (by simp [snapRegs, Reg.tmuWaleCtl, Reg.snapCtl, Reg.snapWale])
      (by simp [snapRegs, Reg.tmuGridPhase, Reg.snapCtl, Reg.snapWale])
  have hn := (s4.setPg p fun g => { g with snapAt := none }).noted_raise p .pageSnapDone s4.wale 0
  refine ⟨?_, ?_, fun c i hi => ?_, fun hp => ?_, (f4.setPg _ _ (by decide)).noted hn (by decide)⟩
  · rw [State.rb, hn.rd _ _ (by decide)]
    show bit (s4.rd p Reg.snapCtl) 0 = false
    rw [State.rd_wr_other _ _ (by decide) (by decide) (.inr (by decide)), State.rd_wfld_same]
    have h10 : withFld (s3.rd p Reg.snapCtl) 1 0 0 = s3.rd p Reg.snapCtl &&& ~~~ fmask 1 0 := by simp [withFld]
    rw [h10, bit, BitVec.getLsbD_and, BitVec.getLsbD_not, getLsbD_fmask]
    simp
  · rw [hn.rd _ _ (by decide)]
    show s4.rd p Reg.snapWale = _
    rw [State.rd_wr_same, hw]
  · rw [hn.snap]
    show NMap.get (fun _ => 0) s3.snap (ckey p c i) = _
    rw [k3.1]
    exact get_takePage ctrPage _ _ (ctrPage_ckey p c hi)
  · rw [hn.lnu]
    exact k3.2.2 hp

/-- The counters as the wale ended (R47, R87). -/
theorem State.endedCtrs_own {s : State} {p : Nat} (h : p ≠ lfwPage ∨ s.lfw.ended = none) : s.endedCtrs p = s.ctr := by
  unfold State.endedCtrs
  split
  · next e => exact if_neg fun hp => h.elim (fun hn => hn hp) fun hn => by rw [e] at hn; cases hn
  · rfl

theorem State.endedCtrs_lfw {s : State} {m : NMap Nat} (h : s.lfw.ended = some m) : s.endedCtrs lfwPage = m := by
  simp [State.endedCtrs, h]

end Sys2Proof.Machine
end

section
open Sys2Proof Sys2Proof.Machine

/-- Settles O3: R87, R88, R91, R95, R97, one lemma for each command. -/
theorem ringsAndSnapshots : Obligations.RingsAndSnapshots := by
  refine ⟨fun s src p k v h hk hoff hlo hhi hsz hfix => ?_, fun s src p k hd h hk hle => ?_, fun s src p clrS h hs h0 => ?_,
    fun s p hdue hreq hat => ?_⟩
  · obtain rfl := ring_zero hk
    obtain ⟨l, e⟩ := h.access (v ||| fmask 7 7) fun u => u.ringCfgWrite src p 0 (v ||| fmask 7 7)
    have hfld {hi lo : Nat} (hb : 7 < lo ∨ hi < 7) : fld (v ||| fmask 7 7) hi lo = fld v hi lo := by
      rw [or_enable, fld_withFld_other _ _ hb.symm]
    have h4 := hfld (hi := 4) (lo := 0) (.inr (by decide))
    have h6 := hfld (hi := 6) (lo := 5) (.inr (by decide))
    obtain ⟨hcfg, hhead, htail, hf⟩ := State.ringEnabled_ringCfgWrite (s := s.carrying l) (v := v ||| fmask 7 7) src hk hoff
      (by rw [or_enable, fmask_bits _ (by decide)]; rfl) (by omega) (by omega) (by simpa [h6] using hfix)
    have hs := (s.frame_carrying l _ (by decide)).trans (hf.mono (ps' := [.reg, .prg]) (fun _ h => h) (by decide))
    refine ⟨_, congrArg Host.Outcome.next e, ?_, ?_, ?_, hhead, htail, hs.regs, hs.only⟩
    · show bit (State.rd _ p Reg.ringCfg) 7 = true
      rw [hcfg, ringWord_on]
    · show 2 ^ fld (State.rd _ p Reg.ringCfg) 4 0 = _
      rw [hcfg, ringWord_size, h4]
    · show fld (State.rd _ p Reg.ringCfg) 6 5 = _
      rw [hcfg, ringWord_esize, h6]
  · obtain rfl := ring_zero hk
    obtain ⟨l, e⟩ := h.access hd fun u =>
      if (pageCaps p).rings ≤ 0 then u.accessErr p Reg.ringHead 3 src hd
      else if (hd - u.rd p Reg.ringHead).toNat ≤ u.ringUsed p 0 then
        if (u.wr p Reg.ringHead hd).ringUsed p 0 = 0 then u.wr p Reg.ringHead hd else (u.wr p Reg.ringHead hd).ringIrq p 0
      else u.accessErr p Reg.ringHead 5 src hd
    rw [if_neg (by omega), if_pos (show (hd - (s.carrying l).rd p Reg.ringHead).toNat ≤ (s.carrying l).ringUsed p 0 from hle)] at e
    obtain ⟨hhead, hquiet, hf⟩ := (s.carrying l).headTaken p hd
    have hs := (s.frame_carrying l _ (by decide)).trans (hf.mono (ps' := [.reg, .host, .prg]) (fun _ h => h) (by decide))
    exact ⟨_, congrArg Host.Outcome.next e, hhead, hquiet, hs.regs, hs.only⟩
  · obtain ⟨l, e⟩ := h.access ((s.rd p Reg.snapCtl &&& fmask 2 2) ||| BitVec.ofNat 32 (1 + 2 * clrS.toNat)) fun u =>
      u.snapRequest src p clrS ((s.rd p Reg.snapCtl &&& fmask 2 2) ||| BitVec.ofNat 32 (1 + 2 * clrS.toNat))
    obtain ⟨hr, hc, hsince, hf⟩ := State.snapAsked_snapRequest (s := s.carrying l) src clrS
      ((s.rd p Reg.snapCtl &&& fmask 2 2) ||| BitVec.ofNat 32 (1 + 2 * clrS.toNat)) hs h0
    have hs := (s.frame_carrying l _ (by decide)).trans (hf.mono (ps' := [.reg, .page, .prg]) (fun _ h => h) (by decide))
    exact ⟨_, congrArg Host.Outcome.next e, hr, hc, hsince, hs.regs, hs.only⟩
  · have e : execSnapshotTake p s = .next ((s.atStep 2).snapshot p) :=
      congrArg Host.Outcome.next (if_pos (by rw [hdue, hreq, decide_eq_true hat]; rfl))
    obtain ⟨hdone, hwale, hctrs, hbins, hf⟩ := (s.atStep 2).snapTaken_snapshot p
    have hs : State.Frame (snapRegs p) snapParts s _ := ((State.Frame.refl s).withClk _ (by decide)).trans hf
    refine ⟨_, e, hdone, hwale, fun c i hi hp => ?_, fun c i m hi hp hm => ?_, hbins, hs.regs, hs.only⟩
    · rw [hctrs c i hi, State.endedCtrs_own (s := s.atStep 2) hp]; rfl
    · subst hp
      rw [hctrs c i hi, State.endedCtrs_lfw (s := s.atStep 2) hm]
end

section
/-!
SUPPORT. The table window: what a write of an entry leaves, and what a read and a write of `TBL_DATA` do (R84 to R86).
-/

namespace Sys2Proof.Machine

/-! ## Commands that are one access -/

/-- A command that is one access which reaches its register, with the effect t. -/
theorem State.Opens.answers {s : State} {src : Src} {p o : Nat} {v : Word} {k : State → State} {c : Instr} {P : State → Prop}
    {t : List (Nat × Nat × Word) → State} (h : s.Opens src p o) (he : exec c s = .next (s.access src p o v k))
    (ht : ∀ l, k (s.carrying l) = t l) (hP : ∀ l, P (t l)) : Answers c s P := by
  obtain ⟨l, e⟩ := h.access v k
  exact ⟨_, he, by rw [e, ht]; exact hP l⟩

/-- A read that reaches its register. -/
theorem State.Opens.readAccess {s : State} {src : Src} {p o : Nat} (h : s.Opens src p o) (o' : Nat) (k : State → State) :
    s.readAccess src p o' k = k s := by
  simp [State.readAccess, h.reaches, h.assigned, h.granted, h.shown]

theorem State.rd_setPg (s : State) (p : Nat) (f : PageSt → PageSt) (q o : Nat) : (s.setPg p f).rd q o = s.rd q o :=
  State.rd_congr (s.setPg_reg p f) q o

/-! ## Table entries -/

theorem State.only_tset (s : State) (p t b e : Nat) (ws : List Word) : s.Only (s.tset p t b e ws) [.tbl] := by
  intro x hx
  cases x <;> simp [Part.same] at hx ⊢

theorem State.Frame.tset {rs : List (Nat × Nat)} {ps : List Part} {s t : State} (h : State.Frame rs ps s t) (p u b e : Nat)
    (ws : List Word) (hp : .tbl ∈ ps) : State.Frame rs ps s (t.tset p u b e ws) :=
  h.parts rfl (t.only_tset p u b e ws) (by simpa using hp)

theorem State.tw_tset_same (s : State) (p t b e : Nat) (ws : List Word) (i : Nat) :
    (s.tset p t b e ws).tw p t b e i = ws.getD i 0 := by
  rw [State.tw, State.tget, State.tset_tbl, NMap.get_set_same, stripWords_getD]

/-- An entry keeps its words while another is written. -/
theorem State.get_tset_other (s : State) {p t b e k : Nat} (ws : List Word) (h : k ≠ tkey p t b e) :
    NMap.get tblDefault (s.tset p t b e ws).tbl k = NMap.get tblDefault s.tbl k := by
  rw [State.tset_tbl, NMap.get_set_ne _ _ h]

/-- R85: the RW bits of an entry that is written, and the others. -/
theorem State.tw_putEntry (s : State) (p t b e : Nat) (masks ws : List Word) {i : Nat} (hi : i < masks.length) :
    (s.putEntry p t b e masks ws).tw p t b e i =
      (ws.getD i 0 &&& masks.getD i 0) ||| (s.tw p t b e i &&& ~~~masks.getD i 0) := by
  rw [State.putEntry, State.tw_tset_same]
  simp [List.getD, hi]

theorem State.Frame.putEntry {rs : List (Nat × Nat)} {ps : List Part} {s t : State} (h : State.Frame rs ps s t) (p u b e : Nat)
    (masks ws : List Word) (hp : .tbl ∈ ps) : State.Frame rs ps s (t.putEntry p u b e masks ws) := h.tset _ _ _ _ _ hp

/-- The RW bits of a word that is written. -/
theorem putBits_and (v w m : Word) : ((v &&& m) ||| (w &&& ~~~m)) &&& m = v &&& m := by
  apply BitVec.eq_of_getLsbD_eq
  intro i hi
  simp only [BitVec.getLsbD_and, BitVec.getLsbD_or, BitVec.getLsbD_not, hi, decide_true, Bool.true_and]
  cases v.getLsbD i <;> cases w.getLsbD i <;> cases m.getLsbD i <;> rfl

/-- R216: of a policer's leg key field, the 19 bits that are RW. -/
theorem fld_putBits (v w : Word) : fld ((v &&& 0x7FFFF) ||| (w &&& ~~~0x7FFFF)) 18 0 = fld v 18 0 := by
  have h (x : Word) : fld x 18 0 = (x &&& 0x7FFFF).toNat := by
    rw [BitVec.toNat_and]
    exact (Nat.and_two_pow_sub_one_eq_mod x.toNat 19).symm ▸ (by simp [fld, nfld])
  rw [h, putBits_and, ← h]

/-! ## Shadow tables -/

/-- The blocks with shadow tables: MXF, the encoders and decoders, Weave, PXC, ESC and the ports, but not TSI. -/
theorem class_of_shadow {p t : Nat} {d : TblDesc} (hd : tableOf p t = some d) (hk : d.kind = .shadow) :
    (pageClass p).1 ∈ [9, 11, 12, 13, 14, 15] ∧ pageClass p ≠ (15, 4) := by
  have hno {l : List TblDesc} (hl : ∀ x ∈ l, x.kind ≠ .shadow) (h : l[t]? = some d) : False := hl d (List.mem_of_getElem? h) hk
  unfold tableOf at hd
  split at hd
  case h_10 h => exact ⟨by simp [h], by simp [h]⟩
  case h_12 h => exact ⟨by simp [h], by simp [h]⟩
  case h_13 h => exact ⟨by simp [h], by simp [h]⟩
  case h_14 h => exact ⟨by simp [h], by simp [h]⟩
  case h_15 h => exact ⟨by simp [h], by simp [h]⟩
  case h_17 hne h => exact ⟨by simp [h], by rw [h]; exact fun e => hne (congrArg Prod.snd e)⟩
  case h_19 => cases hd
  all_goals exact (hno (by decide) hd).elim

/-- The entry tables of those blocks have no rule of their own; of Weave's parameters, entry 0 is no set. -/
theorem State.wbApply_shadow {s : State} {src : Src} {p t e : Nat} {d : TblDesc} (ws : List Word) (hd : tableOf p t = some d)
    (hk : d.kind = .shadow) (h14 : pageType p ≠ 14) (h12 : pageType p = 12 → t = 1 → e ≠ 0) :
    s.wbApply src p t e ws = s.putEntry p t 1 e d.masks ws := by
  obtain ⟨hc, hn⟩ := class_of_shadow hd hk
  have hhome : tblHome p t = p := by simp [tblHome, h14]
  unfold State.wbApply
  split
  case h_12 h => exact absurd (congrArg Prod.fst h) h14
  case h_17 n h =>
    have he : e ≠ 0 := h12 (congrArg Prod.fst h) rfl
    have hm : d.masks = [7, 0x7FFF7FFF] := by
      simp only [tableOf, h] at hd
      split at hd
      · cases hd
      · cases hd; rfl
    rw [if_neg he, hm]
  all_goals simp_all
/-! ## The window -/

/-- The window shows an entry from its first word. -/
def winLatched (ws : List Word) (g : PageSt) : PageSt := { g with winOk := true, winPtr := 0, winWords := ws }

/-- A word of the window is written: it shows `ws`, and goes on after word n. -/
def winPut (ws : List Word) (n : Nat) (g : PageSt) : PageSt := { g with winWords := ws, winPtr := n + 1 }

/-- R84: what the latch of an entry of table d leaves. -/
structure State.EntryLatched (s t : State) (p : Nat) (v : Word) (d : TblDesc) : Prop where
  addr : t.rd p Reg.tblAddr = v
  shown : (t.pg p).winOk = true
  first : (t.pg p).winPtr = 0
  whole : (t.pg p).winWords.length = d.words
  frame : State.Frame [(p, Reg.tblAddr)] [.reg, .page] s t

theorem State.entryLatched (s : State) (p : Nat) (v : Word) (d : TblDesc) (f : Nat → Word) :
    s.EntryLatched ((s.wr p Reg.tblAddr v).setPg p (winLatched ((List.range d.words).map f))) p v d where
  addr := by rw [State.rd_setPg, State.rd_wr_same]
  shown := by rw [State.pg_setPg]; rfl
  first := by rw [State.pg_setPg]; rfl
  whole := by rw [State.pg_setPg, winLatched]; simp
  frame := ((State.Frame.refl s).wr v (by decide) (List.mem_singleton.2 rfl) (by decide)).setPg p _ (by decide)

/-- The word that `TBL_DATA` writes. -/
def State.winPut (s : State) (p : Nat) (v : Word) : State :=
  s.setPg p (Machine.winPut ((s.pg p).winWords.set (s.pg p).winPtr v) (s.pg p).winPtr)

theorem State.pg_winPut (s : State) (p : Nat) (v : Word) : (s.winPut p v).pg p =
    Machine.winPut ((s.pg p).winWords.set (s.pg p).winPtr v) (s.pg p).winPtr (s.pg p) := State.pg_setPg ..

theorem State.frame_winPut (s : State) (p : Nat) (v : Word) : State.Frame [] [.page] s (s.winPut p v) :=
  (State.Frame.refl s).setPg p _ (by decide)

/-- What a write of `TBL_DATA` does once it has reached the page (R85). -/
def State.dataWrite (s : State) (src : Src) (p : Nat) (v : Word) (t e : Nat) (d : TblDesc) : State :=
  if (s.pg p).winPtr + 1 < d.words then s.winPut p v
  else if (s.winPut p v).entryLocked p t e ((s.pg p).winWords.set (s.pg p).winPtr v) then
    (s.winPut p v).tblRefuse src p 2 ((s.pg p).winWords.set (s.pg p).winPtr v)
  else (s.winPut p v).wbEntry src p t e ((s.pg p).winWords.set (s.pg p).winPtr v)

/-- R85: the window of a shadow table takes the word. -/
theorem State.Opens.tblDataWrite {s : State} {src : Src} {p t e : Nat} {v : Word} {d : TblDesc} {P : State → Prop}
    (h : s.Opens src p Reg.tblData) (ht : s.rf p Reg.tblAddr 31 27 = t) (he : s.rf p Reg.tblAddr 24 0 = e)
    (hd : tableOf p t = some d) (hk : d.kind = .shadow) (hok : (s.pg p).winOk = true)
    (hlt : (s.pg p).winPtr < (s.pg p).winWords.length) (hP : ∀ l, P ((s.carrying l).dataWrite src p v t e d)) :
    Answers (.tblDataWrite src p v) s P := by
  subst ht he
  refine h.answers (v := v) rfl (fun l => ?_) hP
  have hd' : tableOf p (fld ((s.carrying l).rd p Reg.tblAddr) 31 27) = some d := hd
  have hok' : ((s.carrying l).pg p).winOk = true := hok
  have hlt' : ¬ ((s.carrying l).pg p).winWords.length ≤ ((s.carrying l).pg p).winPtr := Nat.not_le.2 hlt
  simp only [hd', hok', hlt', hk, decide_true, decide_false, Bool.not_true, Bool.or_false, Bool.true_and, Bool.false_and,
      reduceCtorEq, Bool.false_eq_true, if_false]
  rfl

end Sys2Proof.Machine
end

section
open Sys2Proof Sys2Proof.Machine

/-- Settles O6: R62, R84, R85, R86, one lemma for each command. -/
theorem tableWindow : Obligations.TableWindow := by
  refine ⟨fun s src p v d h hcap hd hlt => ?_, fun s src p h hcap hok hlt => ?_, fun s src p v d h hd hk hty hok hlt hn => ?_,
    fun s src p tb e v d h htb he hd hk hty h12 harm hok hlt hn => ?_, fun s w e src v hdue hdef hw => ?_,
    fun s e n v h h1 h15 he => ?_⟩
  · refine h.answers (v := v) (t := fun l => ((s.carrying l).wr p Reg.tblAddr v).setPg p (winLatched ((List.range d.words).map
      fun i => ((s.carrying l).entryWords p (fld v 31 27) (fld v 24 0) (bit v 25) (bit v 26)).getD i 0))) rfl (fun l => ?_)
      fun l => ?_
    · simp only [hcap, hd, Option.any_some, decide_eq_true hlt, Bool.not_true, Bool.false_eq_true, if_false, if_true]
      rfl
    · obtain ⟨haddr, hok, hptr, hlen, hf⟩ := (s.carrying l).entryLatched p v d _
      have hs := (s.frame_carrying l _ (by decide)).trans (hf.mono (ps' := [.reg, .page, .prg]) (fun _ h => h) (by decide))
      exact ⟨haddr, hok, hptr, hlen, hs.regs, hs.only⟩
  · have e : execTblDataRead src p s = .next _ := congrArg Host.Outcome.next (h.readAccess _ _)
    simp only [hcap, hok, decide_eq_true hlt, Bool.not_true, Bool.false_eq_true, if_false, Bool.and_self, if_true] at e
    refine ⟨_, e, rfl, ?_, ?_⟩
    · simp [State.pg, State.setPg]
    · intro x hx
      cases x <;> simp [Part.same] at hx ⊢
  · refine h.tblDataWrite rfl rfl hd hk hok hlt fun l => ?_
    have e : (s.carrying l).dataWrite src p v (s.rf p Reg.tblAddr 31 27) (s.rf p Reg.tblAddr 24 0) d = (s.carrying l).winPut p v :=
        if_pos hn
    rw [e]
    have hf := (s.frame_carrying l [] (by decide)).trans
      (((s.carrying l).frame_winPut p v).mono (ps' := [.page, .prg]) (fun _ h => h) (by decide))
    exact ⟨by rw [State.pg_winPut]; rfl, by rw [State.pg_winPut]; rfl, hf.only⟩
  · refine h.tblDataWrite htb he hd hk hok hlt fun l => ?_
    have hlock : ((s.carrying l).winPut p v).entryLocked p tb e ((s.pg p).winWords.set (s.pg p).winPtr v) = false := by
      rw [State.entryLocked, if_neg hty]
      exact harm
    have e' : (s.carrying l).dataWrite src p v tb e d =
        ((s.carrying l).winPut p v).putEntry p tb 1 e d.masks ((s.pg p).winWords.set (s.pg p).winPtr v) := by
      rw [← State.wbApply_shadow _ hd hk hty h12]
      exact (if_neg (Nat.not_lt.2 hn.ge)).trans ((if_neg (ne_true_of_eq_false hlock)).trans (if_pos (by simp [atOnce, hd, hk])))
    rw [e']
    have hf := ((s.frame_carrying l [] (by decide)).trans (((s.carrying l).frame_winPut p v).mono (ps' := [.tbl, .page, .prg])
      (fun _ h => h) (by decide))).putEntry p tb 1 e d.masks ((s.pg p).winWords.set (s.pg p).winPtr v) (by decide)
    exact ⟨fun i hi => State.tw_putEntry _ _ _ _ _ _ _ hi, fun k hk => State.get_tset_other _ _ hk, hf.only⟩
  · have e' : execTblWritebackDeferred s = .next
        (({ s.atStep 4 with deferred := [] } : State).putEntry iclPage 1 0 e [0x7FFFF] [v]) := by
      simp [execTblWritebackDeferred, hdue, hdef, hw]
      rfl
    refine ⟨_, e', rfl, ?_, ?_⟩
    · rw [State.tf, State.tw_putEntry _ _ _ _ _ _ _ (by decide)]
      exact fld_putBits ..
    · intro x hx
      cases x <;> simp [Part.same, State.putEntry, State.atStep] at hx ⊢
  · refine h.answers (v := v) (t := fun l => (s.carrying l).tset 0 0 0 e [v &&& fmask 15 1]) rfl (fun l => rfl) fun l => ?_
    refine ⟨?_, fun k hk => State.get_tset_other _ _ hk, ((s.frame_carrying l [] (by decide)).tset (ps := [.tbl, .prg]) 0 0 0 _ _
      (by decide)).only⟩
    rw [State.granted, State.tw_tset_same]
    have h32 : n < 32 := by omega
    show ((v &&& fmask 15 1).getLsbD n && e != 2) = v.getLsbD n
    rw [BitVec.getLsbD_and, getLsbD_fmask, decide_eq_true ⟨h32, h1, h15⟩]
    simp [he]
end

section
/-!
SUPPORT. Creel: write-backs in solo mode and in Pairing, and what the buffer operations leave of the owner lists (R86, R152 to R163,
R191).
-/

namespace Sys2Proof.Machine

/-! ## Write-backs -/

/-- Nothing is carried where no twin listens (R598). -/
theorem State.Opens.access_solo {s : State} {src : Src} {p o : Nat} (h : s.Opens src p o) (hl : s.layActive = false) (v : Word)
    (k : State → State) : s.access src p o v k = k s := by
  simp [State.access, h.reaches, h.assigned, h.granted, h.shown, h.taken, hl]

theorem State.layActive_solo {s : State} (h : s.paired = false) : s.layActive = false := by rw [State.layActive, h]; rfl

/-- A write-back of words as the writes that made it (R598). -/
def wbCarried (before : List (Nat × Nat × Word)) (p t e : Nat) (ws : List Word) (g : PrgSt) : PrgSt :=
  { g with fwd := before ++ [(p, Reg.tblAddr, BitVec.ofNat 32 (e + t * 2 ^ 27))] ++ ws.map fun w => (p, tblDataOff, w) }

/-- The active of a pair notes a write-back to be carried. -/
def State.wbNoted (s : State) (before : List (Nat × Nat × Word)) (src : Src) (p t e : Nat) (ws : List Word) : State :=
  if carried src p tblDataOff && s.layActive && !s.prg.applying then s.setPrg (wbCarried before p t e ws) else s

theorem State.wbNoted_solo {s : State} (h : s.layActive = false) (before : List (Nat × Nat × Word)) (src : Src) (p t e : Nat)
    (ws : List Word) : s.wbNoted before src p t e ws = s := by
  simp [State.wbNoted, h]

theorem State.wbNoted_prg (s : State) (before : List (Nat × Nat × Word)) (src : Src) (p t e : Nat) (ws : List Word) :
    ∃ f, s.wbNoted before src p t e ws = s.setPrg f := by
  unfold State.wbNoted
  split
  · exact ⟨_, rfl⟩
  · exact ⟨id, rfl⟩

theorem State.writeBack_eq (s : State) (src : Src) (p t e : Nat) (ws : List Word) (now : State → State) :
    s.writeBack src p t e ws now = s.access src p tblDataOff (ws.getLastD 0) fun u =>
      (u.wbNoted s.prg.fwd src p t e ws).deferWb src p t e ws now := rfl

/-- R86: in solo mode a write-back takes effect at once. -/
theorem State.Opens.writeBack_solo {s : State} {src : Src} {p : Nat} (h : s.Opens src p Reg.tblData) (hp : s.paired = false)
    (t e : Nat) (ws : List Word) (now : State → State) : s.writeBack src p t e ws now = now s := by
  have hl := State.layActive_solo hp
  have hd : s.deferWb src p t e ws now = now s := if_neg (ne_true_of_eq_false hp)
  rw [State.writeBack_eq]
  exact (h.access_solo hl _ _).trans (by rw [State.wbNoted_solo hl, hd])

/-- R86: in Pairing it waits for the next boundary. -/
theorem State.Opens.writeBack_paired {s : State} {src : Src} {p : Nat} (h : s.Opens src p Reg.tblData) (hp : s.paired = true)
    (t e : Nat) (ws : List Word) (now : State → State) : ∃ f, s.writeBack src p t e ws now =
      { s.setPrg f with deferred := s.deferred ++ [⟨s.clk.wale, src, p, t, e, ws⟩] } := by
  obtain ⟨l, ha⟩ := h.access (ws.getLastD 0) fun u => (u.wbNoted s.prg.fwd src p t e ws).deferWb src p t e ws now
  obtain ⟨f, hf⟩ := (s.carrying l).wbNoted_prg s.prg.fwd src p t e ws
  have hd : ((s.carrying l).setPrg f).deferWb src p t e ws now =
      { (s.carrying l).setPrg f with deferred := s.deferred ++ [⟨s.clk.wale, src, p, t, e, ws⟩] } := if_pos hp
  rw [hf, hd] at ha
  exact ⟨fun g => f { g with fwd := g.fwd ++ l }, ha⟩

theorem State.only_deferred (s : State) (f : PrgSt → PrgSt) (l : List Wb) :
    s.Only { s.setPrg f with deferred := l } [.deferred, .prg] := by
  intro x hx
  cases x <;> simp [Part.same] at hx ⊢

/-- A write-back that waits. -/
theorem State.Opens.waits {s : State} {src : Src} {p : Nat} {c : Instr} {t e : Nat} {ws : List Word} {now : State → State}
    (h : s.Opens src p Reg.tblData) (hp : s.paired = true) (hc : exec c s = .next (s.writeBack src p t e ws now)) :
    Answers c s fun u => u.deferred = s.deferred ++ [⟨s.clk.wale, src, p, t, e, ws⟩] ∧ s.Only u [.deferred, .prg] := by
  obtain ⟨f, hw⟩ := h.writeBack_paired hp t e ws now
  exact ⟨_, hc.trans (congrArg Host.Outcome.next hw), rfl, s.only_deferred _ _⟩

/-! ## Fields -/

/-- A field depends on its bits. -/
theorem fld_congr {v w : Word} {hi lo : Nat} (h : ∀ i, lo ≤ i → i ≤ hi → bit v i = bit w i) : fld v hi lo = fld w hi lo := by
  apply Nat.eq_of_testBit_eq
  intro i
  simp only [fld, nfld, Nat.testBit_mod_two_pow, Nat.testBit_div_two_pow]
  by_cases hi' : i < hi + 1 - lo
  · have hb := h (lo + i) (by omega) (by omega)
    simp only [hi', decide_true, Bool.true_and]
    rw [Nat.add_comm i lo]
    exact hb
  · simp [hi']

/-- A field that a mask keeps. -/
theorem fld_and_fmask (v : Word) {hi lo hi' lo' : Nat} (h32 : hi < 32) (hh : hi ≤ hi') (hl : lo' ≤ lo) :
    fld (v &&& fmask hi' lo') hi lo = fld v hi lo := by
  refine fld_congr fun i h1 h2 => ?_
  rw [bit, bit, BitVec.getLsbD_and, getLsbD_fmask, decide_eq_true ⟨by omega, by omega, by omega⟩, Bool.and_true]

/-! ## Entries -/

theorem tkey_inj {p t b e f : Nat} (h : tkey p t b e = tkey p t b f) : e = f := by
  unfold tkey at h
  omega

theorem State.tget_tset_other (s : State) {p t b e q u c f : Nat} (ws : List Word) (h : tkey q u c f ≠ tkey p t b e) :
    (s.tset p t b e ws).tget q u c f = s.tget q u c f := State.get_tset_other s ws h

theorem State.tf_tsetF_same (s : State) (p t b e i : Nat) {hi lo : Nat} (v : Nat) (hhi : hi < 32) (hlo : lo ≤ hi) :
    (s.tsetF p t b e i hi lo v).tf p t b e i hi lo = v % 2 ^ (hi + 1 - lo) := by
  rw [State.tf, State.tsetF, State.tw_tsetW_same, fld_withFld _ _ hhi hlo]

theorem State.tf_tsetF_other (s : State) {p t b e i q u c f j : Nat} (hi lo v hi' lo' : Nat)
    (h : j ≠ i ∨ tkey q u c f ≠ tkey p t b e) : (s.tsetF p t b e i hi lo v).tf q u c f j hi' lo' = s.tf q u c f j hi' lo' := by
  rw [State.tf, State.tsetF, State.tw_tsetW_other _ _ h]
  rfl

theorem State.Frame.tsetF {rs : List (Nat × Nat)} {ps : List Part} {s t : State} (h : State.Frame rs ps s t)
    (p u b e i hi lo v : Nat) (hp : .tbl ∈ ps) : State.Frame rs ps s (t.tsetF p u b e i hi lo v) := h.tset _ _ _ _ _ hp

/-! ## Pools -/

/-- R155: a pool whose entry passes the checks. -/
theorem State.wbPool_init {s : State} {pool : Nat} {ws : List Word} (src : Src) (h0 : s.poolState pool = 0)
    (hen : fld ((poolMask ws).getD 3 0) 6 6 = 1) (hok : s.poolOk pool (poolMask ws) = true) : s.wbPool src pool ws =
      s.tset crlPage 0 0 pool (setWord (poolMask ws) 3 (withFld ((poolMask ws).getD 3 0) 8 7 1)) := by
  simp only [State.wbPool, h0, hen, hok, if_true, one_ne_zero, if_false]

theorem State.only_setCrl (s : State) (f : CrlSt → CrlSt) : s.Only (s.setCrl f) [.crl] := by
  intro x hx
  cases x <;> simp [Part.same] at hx ⊢

theorem State.Frame.setCrl {rs : List (Nat × Nat)} {ps : List Part} {s t : State} (h : State.Frame rs ps s t) (f : CrlSt → CrlSt)
    (hp : .crl ∈ ps) : State.Frame rs ps s (t.setCrl f) := h.parts rfl (t.only_setCrl f) (by simpa using hp)

theorem State.only_setMem (s : State) (f : MemSt → MemSt) : s.Only (s.setMem f) [.mem] := by
  intro x hx
  cases x <;> simp [Part.same] at hx ⊢

theorem State.Frame.setMem {rs : List (Nat × Nat)} {ps : List Part} {s t : State} (h : State.Frame rs ps s t) (f : MemSt → MemSt)
    (hp : .mem ∈ ps) : State.Frame rs ps s (t.setMem f) := h.parts rfl (t.only_setMem f) (by simpa using hp)

/-- R155: metadata that is written is no longer poisoned; no other memory changes. -/
structure State.MetaWritten (s t : State) : Prop where
  mem : t.mem = { s.mem with poison := t.mem.poison }
  poison : ∀ l, l ∈ t.mem.poison → l ∈ s.mem.poison
  frame : State.Frame [] [.mem] s t

theorem State.metaWritten_written (s : State) (pool : Nat) : s.MetaWritten (s.metaWritten pool) := by
  unfold State.metaWritten
  split
  · exact ⟨rfl, fun l hl => List.mem_of_mem_filter hl, (State.Frame.refl s).setMem _ (by decide)⟩
  · exact ⟨rfl, fun l hl => hl, .refl s⟩

/-- The entry of a pool that becomes ON. -/
def State.poolEntryOn (s : State) (pool : Nat) : State :=
  (s.tsetF crlPage 0 0 pool 3 8 7 2).tsetF crlPage 0 0 pool 6 26 0 ((s.tsetF crlPage 0 0 pool 3 8 7 2).poolCount pool)

theorem State.poolEntryOn_state (s : State) (pool : Nat) : (s.poolEntryOn pool).poolState pool = 2 := by
  rw [State.poolState, State.poolEntryOn, State.tf_tsetF_other _ _ _ _ _ _ (.inl (by decide)),
    State.tf_tsetF_same _ _ _ _ _ _ _ (by decide) (by decide)]
  rfl

theorem State.poolEntryOn_free (s : State) (pool : Nat) :
    (s.poolEntryOn pool).tf crlPage 0 0 pool 6 26 0 = s.poolCount pool := by
  rw [State.poolEntryOn, State.tf_tsetF_same _ _ _ _ _ _ _ (by decide) (by decide), State.poolCount,
    State.tf_tsetF_other _ _ _ _ _ _ (.inl (by decide))]
  exact Nat.mod_mod ..

/-- What becoming ON leaves of a pool (R155). -/
structure State.PoolOn (s t : State) (pool : Nat) : Prop where
  on : t.poolState pool = 2
  free : t.tf crlPage 0 0 pool 6 26 0 = s.poolCount pool
  cleared : ∀ h, h / 2 ^ 26 = pool → t.owners h = []
  kept : ∀ h, h / 2 ^ 26 ≠ pool → t.owners h = s.owners h
  mem : t.mem = { s.mem with poison := t.mem.poison }
  poison : ∀ l, l ∈ t.mem.poison → l ∈ s.mem.poison
  frame : State.Frame [] (.tbl :: .mem :: .crl :: noted) s t

/-- A buffer of another pool. -/
def outside (pool h : Nat) : Bool := decide (h / 2 ^ 26 ≠ pool)

/-- The owner lists and the quarantine of a pool are emptied. -/
def poolCleared (pool : Nat) (c : CrlSt) : CrlSt :=
  { c with own := NMap.keep (outside pool) c.own, quar := c.quar.filter fun h => h / 2 ^ 26 ≠ pool }

theorem State.poolOn_eq {s : State} {pool : Nat} (h : s.poolState pool = 1) : s.poolOn pool =
    (((s.metaWritten pool).setCrl (poolCleared pool)).poolEntryOn pool).raise crlPage .crlPoolReady pool 0 := if_pos h

theorem State.poolOn_on {s : State} {pool : Nat} (h : s.poolState pool = 1) : s.PoolOn (s.poolOn pool) pool := by
  rw [State.poolOn_eq h]
  obtain ⟨hmem, hpoison, hf⟩ := s.metaWritten_written pool
  generalize s.metaWritten pool = u at hmem hpoison hf ⊢
  have hn := ((u.setCrl (poolCleared pool)).poolEntryOn pool).noted_raise crlPage .crlPoolReady pool 0
  generalize ((u.setCrl (poolCleared pool)).poolEntryOn pool).raise crlPage .crlPoolReady pool 0 = t at hn ⊢
  have hcount : (u.setCrl (poolCleared pool)).poolCount pool = s.poolCount pool := by
    simp only [State.poolCount, State.tf, State.tw, State.tget, State.setCrl_tbl, show u.tbl = s.tbl from hf.only .tbl (by decide)]
  have hown (x : Nat) : t.owners x = NMap.get (fun _ => []) (poolCleared pool u.crl).own x := by
    rw [State.owners, hn.crl]
    rfl
  have hcrl : u.crl = s.crl := hf.only .crl (by decide)
  have hm : t.mem = u.mem := hn.mem
  refine ⟨?_, ?_, fun x hx => ?_, fun x hx => ?_, ?_, ?_, ?_⟩
  · rw [State.poolState, State.tf, hn.tw]
    exact State.poolEntryOn_state ..
  · rw [State.tf, hn.tw, ← hcount]
    exact State.poolEntryOn_free ..
  · rw [hown]
    exact NMap.get_keep_none (outside pool) _ (decide_eq_false (not_not_intro hx))
  · rw [hown, State.owners, ← hcrl]
    exact NMap.get_keep (outside pool) _ (decide_eq_true hx)
  · simpa only [hm] using hmem
  · simpa only [hm] using hpoison
  · exact (((((hf.mono (fun _ h => h) (by decide)).setCrl _ (by decide)).tsetF _ _ _ _ _ _ _ _ (by decide)).tsetF
      _ _ _ _ _ _ _ _ (by decide)).noted hn (by decide))

/-! ## Buffer operations -/

/-- A port of an agent: its request is one write of the fabric (R162). -/
theorem State.PortOpen.crlRequest {s : State} {port : Nat} (h : s.PortOpen port) (op pool owner : Nat) (w : Word)
    (k : State → State) : s.portRequest port crlPage (s.crlArgs op pool owner w) Reg.crlReqGo k = k s := by
  have hv : viaRegs port = false := decide_eq_false (Nat.not_le.2 h.agent)
  simp [State.crlArgs, State.portRequest, hv, h.joined]

/-- The answer of a port. -/
def crlAnswered (port status handle : Nat) (c : CrlSt) : CrlSt :=
  { c with ans := NMap.set (fun _ => {}) c.ans port ⟨status, handle⟩ }

theorem State.crlAnswer_crl (s : State) (port status handle : Nat) :
    (s.crlAnswer port status handle).crl = crlAnswered port status handle s.crl := by
  unfold State.crlAnswer
  split <;> rfl

theorem State.crlAnswer_ans (s : State) (port status handle : Nat) :
    NMap.get (fun _ => {}) (s.crlAnswer port status handle).crl.ans port = ⟨status, handle⟩ := by
  rw [State.crlAnswer_crl]
  exact NMap.get_set_same ..

theorem State.crlAnswer_owners (s : State) (port status handle h : Nat) :
    (s.crlAnswer port status handle).owners h = s.owners h := by
  rw [State.owners, State.crlAnswer_crl]
  rfl

theorem State.PortOpen.crlAnswer {s : State} {port : Nat} (h : s.PortOpen port) (t : State) (status handle : Nat) :
    t.crlAnswer port status handle = t.setCrl (crlAnswered port status handle) := by
  have hv : viaRegs port = false := decide_eq_false (Nat.not_le.2 h.agent)
  simp only [State.crlAnswer, hv]
  rfl

theorem State.owners_answered (s : State) (port status handle h : Nat) :
    (s.setCrl (crlAnswered port status handle)).owners h = s.owners h := rfl

theorem State.owners_setOwners (s : State) (h : Nat) (l : List Nat) : (s.setOwners h l).owners h = l := NMap.get_set_same ..

theorem State.owners_setOwners_other (s : State) {h k : Nat} (l : List Nat) (hk : k ≠ h) :
    (s.setOwners h l).owners k = s.owners k :=
  NMap.get_set_ne _ _ hk

/-- R161: FREE follows, and no owner list. -/
theorem State.refreshFree_crl (s : State) (pool : Nat) : (s.refreshFree pool).crl = s.crl := by
  unfold State.refreshFree
  extract_lets old n t
  split
  · exact (t.noted_raise ..).crl
  · rfl

theorem State.Frame.refreshFree {rs : List (Nat × Nat)} {ps : List Part} {s t : State} (h : State.Frame rs ps s t) (pool : Nat)
    (hp : ∀ x ∈ .tbl :: Machine.noted, x ∈ ps) : State.Frame rs ps s (t.refreshFree pool) := by
  have ht := h.tsetF crlPage 0 0 pool 6 26 0 (t.poolFree pool) (hp _ (by simp))
  exact .ite (ht.raise _ _ _ _ fun x hx => hp x (List.mem_cons_of_mem _ hx)) ht

/-- What ALLOC or FREE leaves: the list of one buffer, the count and FREE of the pool (R158, R161, R162). -/
def State.ownersCounted (s : State) (pool h : Nat) (l : List Nat) (c : Ctr) : State :=
  ((s.setOwners h l).bump crlPage c).refreshFree pool

theorem State.ownersCounted_crl (s : State) (pool h : Nat) (l : List Nat) (c : Ctr) :
    (s.ownersCounted pool h l c).crl = (s.setOwners h l).crl := by
  rw [State.ownersCounted, State.refreshFree_crl, (State.noted_bump ..).crl]

theorem State.ownersCounted_owners (s : State) (pool h : Nat) (l : List Nat) (c : Ctr) :
    (s.ownersCounted pool h l c).owners h = l := by
  rw [State.owners, State.ownersCounted_crl]
  exact s.owners_setOwners h l

theorem State.ownersCounted_other (s : State) (pool : Nat) {h k : Nat} (l : List Nat) (c : Ctr) (hk : k ≠ h) :
    (s.ownersCounted pool h l c).owners k = s.owners k := by
  rw [State.owners, State.ownersCounted_crl]
  exact s.owners_setOwners_other l hk

theorem State.frame_ownersCounted (s : State) (pool h : Nat) (l : List Nat) (c : Ctr) :
    State.Frame [] (.tbl :: .crl :: noted) s (s.ownersCounted pool h l c) :=
  ((((State.Frame.refl s).setCrl _ (by decide)).bump crlPage c (by decide)).refreshFree _ (by decide))

/-- R158: ALLOC of a pool that is ON and has a free buffer with good metadata. -/
theorem State.crlAlloc_made {s : State} {pool i : Nat} (port : Nat) (hon : s.poolState pool = 2) (hi : s.lowestFree pool = some i)
    (hm : s.metaPoison (pool * 2 ^ 26 + i) = none) : (s.crlAlloc port pool).1 =
      (s.ownersCounted pool (pool * 2 ^ 26 + i) [s.portOwner port] .crlAlloc).crlAnswer port 0 (pool * 2 ^ 26 + i) := by
  simp only [State.crlAlloc, hon, hi, hm, ne_eq, not_true_eq_false, if_false]
  rfl

/-- R162, R163: the operations whose checks pass. -/
theorem State.crlAdd_made {s : State} {port h owner : Nat} (hc : s.crlCheck 2 (s.portOwner port) h owner = 0) :
    s.crlAdd port h owner = (s.setOwners h (s.owners h ++ [owner])).crlAnswer port 0 h := by
  simp only [State.crlAdd, hc]

theorem State.crlDrop_made {s : State} {port h : Nat} (hc : s.crlCheck 3 (s.portOwner port) h 0 = 0) :
    s.crlDrop port h = (s.setOwners h ((s.owners h).filter (· ≠ s.portOwner port))).crlAnswer port 0 h := by
  simp only [State.crlDrop, hc]

theorem State.crlFree_made {s : State} {port h : Nat} (hc : s.crlCheck 4 (s.portOwner port) h 0 = 0) :
    s.crlFree port h = (s.ownersCounted (h / 2 ^ 26) h [] .crlFreed).crlAnswer port 0 h := by
  simp only [State.crlFree, hc]
  rfl

/-- R163: a FREE whose checks fail. -/
theorem State.crlFree_refused {s : State} {port h : Nat} (hc : s.crlCheck 4 (s.portOwner port) h 0 ≠ 0) :
    s.crlFree port h = s.crlRefuse port 4 (s.crlCheck 4 (s.portOwner port) h 0) h 0 := by
  unfold State.crlFree
  split
  · contradiction
  · rfl

/-- R164: a refusal leaves every owner list. -/
theorem State.ownRefused_crl (s : State) (port op status h owner : Nat) : (s.ownRefused port op status h owner).crl = s.crl := by
  unfold State.ownRefused
  extract_lets l o places s1 s2
  have h2 : s2.crl = s.crl := (s1.noted_raise ..).crl.trans (s.noted_bump ..).crl
  split
  · exact ((s2.ringPut_ringWrite crlPage _).frame.only .crl (by decide)).trans h2
  · exact (s2.noted_bump ..).crl.trans h2

theorem State.metaErr_own (s : State) (pool line : Nat) : (s.metaErr pool line).crl.own = s.crl.own := by
  unfold State.metaErr
  extract_lets hs t
  rw [State.refreshFree_crl, (t.noted_raise ..).crl]
  rfl

theorem State.crlRefuse_own (s : State) (port op status h owner : Nat) :
    (s.crlRefuse port op status h owner).crl.own = s.crl.own := by
  unfold State.crlRefuse
  extract_lets t
  rw [State.crlAnswer_crl]
  show t.crl.own = s.crl.own
  simp only [t]
  split
  · rw [State.ownRefused_crl]
  · split
    · split
      · exact s.metaErr_own _ _
      · rfl
    · rfl

theorem State.crlRefuse_status (s : State) (port op status h owner : Nat) :
    (NMap.get (fun _ => {}) (s.crlRefuse port op status h owner).crl.ans port).status = status := by
  rw [State.crlRefuse, State.crlAnswer_ans]

/-! ## Requests through registers -/

/-- R191: what the registers show of an answer. -/
structure State.CrlShown (s t : State) (status handle : Nat) : Prop where
  status : t.rf crlPage Reg.crlReqRes 3 0 = status % 16
  handle : t.rd crlPage Reg.crlReqResHandle = BitVec.ofNat 32 handle
  seq : t.rf crlPage Reg.crlReqRes 31 24 = (s.rf crlPage Reg.crlReqRes 31 24 + 1) % 256

theorem State.crlAnswer_shown (s : State) {port : Nat} (hv : viaRegs port = true) (status handle : Nat) :
    s.CrlShown (s.crlAnswer port status handle) status handle := by
  simp only [State.crlAnswer, hv, if_true]
  have hres (u : State) (v : Word) : (u.wr crlPage Reg.crlReqResHandle v).rd crlPage Reg.crlReqRes = u.rd crlPage Reg.crlReqRes :=
    u.rd_wr_other _ (by decide) (by decide) (.inr (by decide))
  refine ⟨?_, ?_, ?_⟩
  · rw [State.rf, State.seqUp, State.rd_wfld_same, fld_withFld_other _ _ (.inl (by decide)), hres, State.rd_wfld_same,
      fld_withFld _ _ (by decide) (by decide)]
    rfl
  · rw [State.seqUp, State.rd_wfld_other _ _ _ _ (by decide) (by decide) (.inr (by decide)), State.rd_wr_same]
  · rw [State.rf, State.seqUp, State.rd_wfld_same, fld_withFld _ _ (by decide) (by decide), State.rf, hres, State.rd_wfld_same,
      fld_withFld_other _ _ (.inr (by decide))]
    exact Nat.mod_mod ..

/-- `t` is `s` after the arguments of a request were written (R191). -/
structure State.ArgsWritten (s t : State) : Prop where
  tbl : t.tbl = s.tbl
  crl : t.crl = s.crl
  mem : t.mem = s.mem
  rd : ∀ p o, o < 65536 → p ≠ crlPage ∨ o ≠ Reg.crlReq ∧ o ≠ Reg.crlReqHandle → t.rd p o = s.rd p o

section
variable {s t : State}

/-- The PF's write of a register of CRL leaves its reach of another. -/
theorem State.Opens.crlArg {p o : Nat} (h : s.Opens .pf p o) (l : List (Nat × Nat × Word)) (n : Nat) (hn : n < 65536) (v : Word) :
    ((s.carrying l).wr crlPage n v).Opens .pf p o where
  reaches := h.reaches
  assigned := h.assigned
  granted := rfl
  shown := by
    rw [State.hidden, State.rf, State.rd_wr_other _ _ hn (by decide) (.inl (by decide))]
    exact h.shown
  taken := by
    rw [State.standby, State.rb, State.rd_wr_other _ _ hn (by decide) (.inl (by decide))]
    exact h.taken

/-- `CRL_REQ` of a request. -/
def crlArg (w : Word) (op pool owner : Nat) : Word := withFld (withFld (withFld w 3 0 op) 9 4 pool) 23 16 owner

/-- The PF's request, which three writes make (R162, R191). -/
theorem State.crlRequest_pf (h1 : s.Opens .pf crlPage Reg.crlReq) (h2 : s.Opens .pf crlPage Reg.crlReqHandle)
    (h3 : s.Opens .pf crlPage Reg.crlReqGo) (op pool owner : Nat) (w : Word) (k : State → State) :
    ∃ t, s.portRequest 576 crlPage (s.crlArgs op pool owner w) Reg.crlReqGo k = k t ∧ s.ArgsWritten t := by
  have e0 (a : Word) (ha : a = crlArg (s.rd crlPage Reg.crlReq) op pool owner) :
      s.portRequest 576 crlPage (s.crlArgs op pool owner w) Reg.crlReqGo k = s.access .pf crlPage Reg.crlReq a fun u =>
        (u.wr crlPage Reg.crlReq a).access .pf crlPage Reg.crlReqHandle w fun u =>
          (u.wr crlPage Reg.crlReqHandle w).access .pf crlPage Reg.crlReqGo 1 k := by
    subst ha
    rfl
  obtain ⟨a, ha⟩ : ∃ a, a = crlArg (s.rd crlPage Reg.crlReq) op pool owner := ⟨_, rfl⟩
  obtain ⟨l1, e1⟩ := h1.access a fun u =>
    (u.wr crlPage Reg.crlReq a).access .pf crlPage Reg.crlReqHandle w fun u =>
      (u.wr crlPage Reg.crlReqHandle w).access .pf crlPage Reg.crlReqGo 1 k
  obtain ⟨l2, e2⟩ := (h2.crlArg l1 Reg.crlReq (by decide) a).access w fun u =>
    (u.wr crlPage Reg.crlReqHandle w).access .pf crlPage Reg.crlReqGo 1 k
  obtain ⟨l3, e3⟩ := ((h3.crlArg l1 Reg.crlReq (by decide) a).crlArg l2 Reg.crlReqHandle (by decide) w).access 1 k
  refine ⟨_, (e0 a ha).trans (e1.trans (e2.trans e3)), rfl, rfl, rfl, fun p o ho hne => ?_⟩
  have hd {n : Nat} : (p = crlPage → o ≠ n) → p ≠ crlPage ∨ o ≠ n := fun hn => (em (p = crlPage)).symm.imp_right hn
  rw [State.carrying_rd, State.rd_wr_other _ _ (by decide) ho (hd fun hp => (hne.resolve_left (not_not_intro hp)).2),
    State.carrying_rd, State.rd_wr_other _ _ (by decide) ho (hd fun hp => (hne.resolve_left (not_not_intro hp)).1),
    State.carrying_rd]

variable (h : s.ArgsWritten t)
include h

theorem State.ArgsWritten.tf (p u b e i hi lo : Nat) : t.tf p u b e i hi lo = s.tf p u b e i hi lo := by
  simp only [State.tf, State.tw, State.tget, h.tbl]

theorem State.ArgsWritten.tw (p u b e i : Nat) : t.tw p u b e i = s.tw p u b e i := by
  simp only [State.tw, State.tget, h.tbl]

theorem State.ArgsWritten.lowestFree (pool : Nat) : t.lowestFree pool = s.lowestFree pool := by
  simp only [State.lowestFree, State.poolTaken, State.owners, State.poolCount, h.tf, h.crl]
  rfl

theorem State.ArgsWritten.drc {o : Nat} (ho : o < 65536) : t.rd 0x080 o = s.rd 0x080 o := h.rd _ _ ho (.inl (by decide))

theorem State.ArgsWritten.poisoned (a : Nat) : t.poisoned a = s.poisoned a := by
  have hmap : t.rd 0x080 Reg.drcMap = s.rd 0x080 Reg.drcMap := h.drc (by decide)
  have hgeom : t.rd 0x080 Reg.drcGeom = s.rd 0x080 Reg.drcGeom := h.drc (by decide)
  have hlo : t.rd 0x080 Reg.drcCap = s.rd 0x080 Reg.drcCap := h.drc (by decide)
  have hhi : t.rd 0x080 Reg.drcCapHi = s.rd 0x080 Reg.drcCapHi := h.drc (by decide)
  simp only [State.poisoned, State.dramLost, State.drcCap, State.drcChan, State.drcRank, State.drcLine, State.drcRb, State.drcBits,
    State.drcGrain, State.rd64, State.rf, hmap, hgeom, hlo, hhi, h.mem]
  rfl

theorem State.ArgsWritten.metaPoison (hd : Nat) : t.metaPoison hd = s.metaPoison hd := by
  simp only [State.metaPoison, State.bufInDram, State.metaAddrs, State.poolMeta, State.poolCount, h.tf, h.tw, h.poisoned]
  rfl

end

end Sys2Proof.Machine
end

section
open Sys2Proof Sys2Proof.Machine

/-- Settles O13: R86, R152 to R155, R158, R161 to R163 and R191, one lemma for each command. -/
theorem creelBuffers : Obligations.CreelBuffers := by
  refine ⟨fun s port v h hport hv => ?_, fun s src pool ws h hp h0 hlt hen hok => ?_, fun s src pool ws h hp => ?_,
    fun s pool h1 => ?_, fun s port pool i h hon hi hm => ?_, fun s pool i h1 h2 h3 hon hi hm => ?_, fun s port pool hlt hsev => ?_,
    fun s port owner w h hc => ?_, fun s port w h hc => ?_, fun s port w h hc => ?_, fun s port w h hc => ?_⟩
  · refine h.answers (v := v) (t := fun l => (s.carrying l).tset crlPage 1 0 port [v &&& fmask 7 0]) rfl (fun l => ?_) fun l => ?_
    · have hbad : ¬ (fld ([v].getD 0 0) 7 0 = 255 ∨ 593 ≤ port) := fun hb => hb.elim hv (Nat.not_le.2 hport)
      exact if_neg (by simpa using hbad)
    · refine ⟨?_, fun k hk hne => ?_, ((s.frame_carrying l [] (by decide)).tset (ps := [.tbl, .prg]) _ _ _ _ _ (by decide)).only⟩
      · rw [State.portOwner, State.tf]
        exact (congrArg (fld · 7 0) (State.tw_tset_same ..)).trans (fld_and_fmask v (by decide) (by decide) (by decide))
      · rw [State.portOwner, State.tf, State.tw]
        exact congrArg (fun ws : List Word => fld (ws.getD 0 0) 7 0)
            (State.tget_tset_other (s.carrying l) _ fun e => hne (tkey_inj e))
  · refine ⟨_, congrArg Host.Outcome.next ((h.writeBack_solo hp ..).trans (State.wbPool_init src h0 hen hok)), ?_, ?_, ?_,
      fun k hk _ => ?_, s.only_tset _ _ _ _ _⟩
    · rw [State.poolState, State.tf, State.tw_tset_same, setWord_getD_same, fld_withFld _ _ (by decide) (by decide)]
      rfl
    · rw [State.poolCount, State.tf, State.tw_tset_same, setWord_getD_other _ _ (by decide)]
      exact fld_and_fmask _ (by decide) (by decide) (by decide)
    · rw [State.poolBase, State.tw_tset_same, State.tw_tset_same, setWord_getD_other _ _ (by decide),
        setWord_getD_other _ _ (by decide)]
      rfl
    · rw [State.poolState, State.tf, State.tw, State.tget_tset_other _ _ fun e => hk (tkey_inj e)]
      rfl
  · exact h.waits hp rfl
  · obtain ⟨hst, hfree, hclr, hkept, hmem, hpoison, hf⟩ := State.poolOn_on h1
    exact ⟨_, rfl, hst, hfree, fun i hi => hclr _ (by omega), hkept, hmem, hpoison, hf.regs, hf.only⟩
  · have e := (h.crlRequest 1 pool (s.rf crlPage Reg.crlReq 23 16) (s.rd crlPage Reg.crlReqHandle)
      fun u => (u.crlAlloc port pool).1).trans (State.crlAlloc_made port hon hi hm)
    refine ⟨_, congrArg Host.Outcome.next e, ?_, State.crlAnswer_ans .., fun x hx => ?_, ?_⟩
    · rw [State.crlAnswer_owners, State.ownersCounted_owners]
    · rw [State.crlAnswer_owners, State.ownersCounted_other _ _ _ _ hx]
    · rw [h.crlAnswer]
      have hf := (s.frame_ownersCounted pool (pool * 2 ^ 26 + i) [s.portOwner port] .crlAlloc).setCrl
        (crlAnswered port 0 (pool * 2 ^ 26 + i)) (by decide)
      exact ⟨hf.regs, hf.only⟩
  · obtain ⟨t, e, ht⟩ := State.crlRequest_pf h1 h2 h3 1 pool (s.rf crlPage Reg.crlReq 23 16) (s.rd crlPage Reg.crlReqHandle)
      fun u => (u.crlAlloc 576 pool).1
    rw [State.crlAlloc_made 576 ((ht.tf ..).trans hon) ((ht.lowestFree pool).trans hi) ((ht.metaPoison _).trans hm)] at e
    have hf := t.frame_ownersCounted pool (pool * 2 ^ 26 + i) [t.portOwner 576] .crlAlloc
    obtain ⟨hstatus, hhandle, hseq⟩ :=
      (t.ownersCounted pool (pool * 2 ^ 26 + i) [t.portOwner 576] .crlAlloc).crlAnswer_shown (port := 576) (by decide) 0
        (pool * 2 ^ 26 + i)
    refine ⟨_, congrArg Host.Outcome.next e, ?_, hstatus, ?_, ?_⟩
    · rw [State.crlAnswer_owners, State.ownersCounted_owners, State.portOwner, ht.tf]
      rfl
    · rw [hhandle, BitVec.toNat_ofNat]
    · rw [hseq, State.rf, hf.rd (by decide) (by simp) (by decide), ht.rd _ _ (by decide) (.inr (by decide))]
      rfl
  · have hv : viaRegs port = false := decide_eq_false (Nat.not_le.2 hlt)
    have e : s.portRequest port crlPage (s.crlArgs 1 pool (s.rf crlPage Reg.crlReq 23 16) (s.rd crlPage Reg.crlReqHandle))
        Reg.crlReqGo (fun u => (u.crlAlloc port pool).1) = s := by
      simp [State.crlArgs, State.portRequest, hv, hsev]
    exact ⟨_, congrArg Host.Outcome.next e, rfl⟩
  · have e := (h.crlRequest 2 (s.rf crlPage Reg.crlReq 9 4) owner w fun u => u.crlAdd port w.toNat owner).trans
      ((State.crlAdd_made hc).trans (h.crlAnswer ..))
    refine ⟨_, congrArg Host.Outcome.next e, ?_, fun k hk => ?_, (s.only_setCrl _).trans (State.only_setCrl _ _)⟩
    · rw [State.owners_answered, State.owners_setOwners]
    · rw [State.owners_answered, State.owners_setOwners_other _ _ hk]
  · have e := (h.crlRequest 3 (s.rf crlPage Reg.crlReq 9 4) (s.rf crlPage Reg.crlReq 23 16) w fun u => u.crlDrop port w.toNat).trans
      ((State.crlDrop_made hc).trans (h.crlAnswer ..))
    refine ⟨_, congrArg Host.Outcome.next e, ?_, fun k hk => ?_, (s.only_setCrl _).trans (State.only_setCrl _ _)⟩
    · rw [State.owners_answered, State.owners_setOwners]
    · rw [State.owners_answered, State.owners_setOwners_other _ _ hk]
  · have e := (h.crlRequest 4 (s.rf crlPage Reg.crlReq 9 4) (s.rf crlPage Reg.crlReq 23 16) w fun u => u.crlFree port w.toNat).trans
      ((State.crlFree_made hc).trans (h.crlAnswer ..))
    have hf := (s.frame_ownersCounted (w.toNat / 2 ^ 26) w.toNat [] .crlFreed).setCrl (crlAnswered port 0 w.toNat) (by decide)
    refine ⟨_, congrArg Host.Outcome.next e, ?_, fun k hk => ?_, hf.regs, hf.only⟩
    · rw [State.owners_answered, State.ownersCounted_owners]
    · rw [State.owners_answered, State.ownersCounted_other _ _ _ _ hk]
  · have e := (h.crlRequest 4 (s.rf crlPage Reg.crlReq 9 4) (s.rf crlPage Reg.crlReq 23 16) w fun u => u.crlFree port w.toNat).trans
      (State.crlFree_refused hc)
    exact ⟨_, congrArg Host.Outcome.next e, s.crlRefuse_own .., s.crlRefuse_status ..⟩
end

section
/-!
SUPPORT. Write-backs of ICL's and CPE's tables: leg keys, policers, request queues and stream contexts, and the stream key table
that a new inbound stream enters (R204, R205, R207, R216, R230).
-/

namespace Sys2Proof.Machine

/-! ## Words that a mask leaves -/

/-- Fields whose bits a mask keeps. -/
theorem fld_and_mask (v : Word) {m : Word} {hi lo : Nat} (h32 : hi < 32) (h : ∀ i < 32, lo ≤ i → i ≤ hi → bit m i = true) :
    fld (v &&& m) hi lo = fld v hi lo := by
  refine fld_congr fun i h1 h2 => ?_
  rw [bit, BitVec.getLsbD_and, show m.getLsbD i = true from h i (by omega) h1 h2, Bool.and_true]
  rfl

/-- A bit that a mask keeps. -/
theorem bit_and_mask (v : Word) {m : Word} {i : Nat} (h : bit m i = true) : bit (v &&& m) i = bit v i := by
  rw [bit, BitVec.getLsbD_and, show m.getLsbD i = true from h, Bool.and_true]
  rfl

/-- A field of one bit. -/
theorem fld_bit (w : Word) (i : Nat) : fld w i i = (bit w i).toNat := by
  rw [bit, BitVec.getLsbD, Nat.testBit_eq_decide_div_mod_eq]
  simp only [fld, nfld, Nat.add_sub_cancel_left, pow_one]
  have := Nat.mod_two_eq_zero_or_one (w.toNat / 2 ^ i)
  rcases this with h | h <;> simp [h]

/-- A field of two bits. -/
theorem fld_bits (w : Word) (i : Nat) : fld w (i + 1) i = (bit w i).toNat + 2 * (bit w (i + 1)).toNat := by
  rw [← fld_bit, ← fld_bit]
  have h1 : i + 1 + 1 - i = 2 := by omega
  simp only [fld, nfld, Nat.add_sub_cancel_left, h1, Nat.pow_succ, pow_one]
  have := Nat.div_div_eq_div_mul w.toNat (2 ^ i) 2
  omega

/-! ## Leg keys (R204) -/

/-- What a refused write-back leaves. -/
theorem State.noted_tblRefuse (s : State) (src : Src) (p cause : Nat) (ws : List Word) : s.Noted (s.tblRefuse src p cause ws) :=
  s.noted_accessErr ..

/-- The words of a leg key entry. -/
def legWords (ws : List Word) : List Word := (List.range 10).map (fun i => ws.getD i 0) ++ [ws.getD 10 0 &&& fmask 17 0]

/-- The key that an entry holds. -/
def legBytes (ws : List Word) : List Byte := wordBytes ((List.range 10).map fun i => ws.getD i 0)

theorem legWords_key (ws : List Word) {i : Nat} (hi : i < 10) : (legWords ws).getD i 0 = ws.getD i 0 := by
  simp [legWords, List.getD, List.getElem?_append, hi]

theorem legWords_valid (ws : List Word) : fld ((legWords ws).getD 10 0) 17 0 = fld (ws.getD 10 0) 17 0 :=
  fld_and_fmask _ (by decide) (by decide) (by decide)

section
variable {s : State} {e : Nat} {ws : List Word} (hv : bit (ws.getD 10 0) 16 = true) (hw : bit (ws.getD 10 0) 17 = false)
include hv hw

/-- A valid key that is no wildcard's. -/
theorem legValid : fld (ws.getD 10 0 &&& fmask 17 0) 16 16 = 1 ∧ fld (ws.getD 10 0 &&& fmask 17 0) 17 17 = 0 ∧
    fld (ws.getD 10 0 &&& fmask 17 0) 17 16 = 1 := by
  rw [fld_and_fmask _ (by decide) (by decide) (by decide), fld_and_fmask _ (by decide) (by decide) (by decide),
    fld_and_fmask _ (by decide) (by decide) (by decide), fld_bit, fld_bit, fld_bits, hv, hw]
  decide

/-- A way of the key's set, with no other way of it valid. -/
theorem State.wbLegKey_placed (src : Src) (he : e / 8 = legSet (legBytes ws))
    (hfree : ∀ k, k / 8 = e / 8 → k ≠ e → s.tf iclPage 2 0 k 10 16 16 = 0) :
    s.wbLegKey src e ws = s.tset iclPage 2 0 e (legWords ws) := by
  obtain ⟨h16, h17, h1716⟩ := legValid hv hw
  have hdup : ((List.range 8).any fun w =>
      decide (legSet (legBytes ws) * 8 + w ≠ e) &&
        decide (fld ((s.tget iclPage 2 0 (legSet (legBytes ws) * 8 + w)).getD 10 0) 17 16 =
          fld (ws.getD 10 0 &&& fmask 17 0) 17 16) &&
        decide (legBytes (s.tget iclPage 2 0 (legSet (legBytes ws) * 8 + w)) = legBytes ws)) = false := by
    refine List.any_eq_false.2 fun w hw8 => ?_
    have hw8 : w < 8 := List.mem_range.1 hw8
    rw [h1716]
    by_cases hne : legSet (legBytes ws) * 8 + w = e
    · simp [hne]
    · have h0 := hfree (legSet (legBytes ws) * 8 + w) (by omega) hne
      have h1 : fld ((s.tget iclPage 2 0 (legSet (legBytes ws) * 8 + w)).getD 10 0) 17 16 ≠ 1 := by
        rw [fld_bits]
        rw [State.tf, fld_bit] at h0
        have : (bit ((s.tget iclPage 2 0 (legSet (legBytes ws) * 8 + w)).getD 10 0) 16).toNat = 0 := h0
        omega
      rw [decide_eq_false h1, Bool.and_false, Bool.false_and]
      decide
  simp only [State.wbLegKey, h16, h17, one_ne_zero, zero_ne_one, if_false, decide_false, Bool.false_and, Bool.false_eq_true]
  exact if_neg (by
    rw [Bool.or_eq_true, decide_eq_true_eq]
    exact not_or.2 ⟨not_not_intro he, ne_true_of_eq_false hdup⟩)

/-- Another set. -/
theorem State.noted_wbLegKey (s : State) (src : Src) (he : e / 8 ≠ legSet (legBytes ws)) : s.Noted (s.wbLegKey src e ws) := by
  obtain ⟨h16, h17, -⟩ := legValid hv hw
  simp only [State.wbLegKey, h16, h17, one_ne_zero, zero_ne_one, if_false, decide_false, Bool.false_and, Bool.false_eq_true]
  rw [if_pos]
  · exact (s.noted_tblRefuse ..).trans (State.noted_raise ..)
  · rw [Bool.or_eq_true, decide_eq_true_eq]
    exact .inl he
end

/-! ## Policers (R213, R216) -/

theorem State.only_setIcl (s : State) (f : IclSt → IclSt) : s.Only (s.setIcl f) [.icl] := by
  intro x hx
  cases x <;> simp [Part.same] at hx ⊢

/-- A policer whose CBS is too small. -/
theorem State.noted_wbPolicer (s : State) (src : Src) (e : Nat) {w0 w1 w2 : Word} (hen : bit w0 0 = true) (hc : fld w2 23 0 < 64) :
    s.Noted (s.wbPolicer src e [w0, w1, w2]) := by
  have h : s.wbPolicer src e [w0, w1, w2] = s.tblRefuse src polPage 7 [w0, w1, w2] :=
    if_pos (by rw [show fld ([w0, w1, w2].getD 0 0) 0 0 = 1 from (fld_bit w0 0).trans (by rw [hen]; rfl)]; simpa using hc)
  rw [h]
  exact s.noted_tblRefuse ..

/-- A policer that is enabled starts with a full bucket. -/
theorem State.wbPolicer_full {s : State} (src : Src) {e : Nat} {w0 w1 w2 : Word} (hen : bit w0 0 = true) (hc : 64 ≤ fld w2 23 0)
    (h0 : s.tf polPage 0 0 e 0 0 0 = 0) : s.wbPolicer src e [w0, w1, w2] =
      (s.tset polPage 0 0 e [w0 &&& fmask 0 0, w1, w2 &&& fmask 23 0]).setPol e (fld w2 23 0 * tokUnit, s.now) := by
  have h1 : fld ([w0, w1, w2].getD 0 0) 0 0 = 1 := (fld_bit w0 0).trans (by rw [hen]; rfl)
  have h2 : ¬ fld ([w0, w1, w2].getD 2 0) 23 0 < 64 := Nat.not_lt.2 hc
  simp only [State.wbPolicer, h1, h2, h0, decide_true, decide_false, Bool.and_false, Bool.false_eq_true, if_false, Bool.and_self,
    if_true]
  rfl

theorem State.setPol_tw (s : State) (e : Nat) (v : Nat × Nat) (p t b f i : Nat) :
    (s.setPol e v).tw p t b f i = s.tw p t b f i := rfl

theorem State.polState_setPol (s : State) (e : Nat) (v : Nat × Nat) : (s.setPol e v).polState e = v := NMap.get_set_same ..

theorem State.polState_setPol_other (s : State) {e k : Nat} (v : Nat × Nat) (h : k ≠ e) :
    (s.setPol e v).polState k = s.polState k :=
  NMap.get_set_ne _ _ h

/-! ## Request queues (R230) -/

/-- The RW bits of a queue's first word. -/
def rqMask : Word := fmask 4 0 ||| fmask 15 8

theorem rqWord (w : Word) :
    bit (w &&& rqMask) 2 = bit w 2 ∧ fld (w &&& rqMask) 15 8 = fld w 15 8 ∧ fld (w &&& rqMask) 4 0 = fld w 4 0 :=
  ⟨bit_and_mask w (by decide), fld_and_mask w (by decide) (by decide), fld_and_mask w (by decide) (by decide)⟩

theorem State.wbRq_taken {s : State} (src : Src) {q : Nat} {w : Word} (w1 : Word) (hq : s.cpeQ q = [])
    (h : bit w 2 = true → fld w 15 8 ≠ 0) :
    s.wbRq src q [w, w1] = s.tset cpePage 0 0 q [w &&& rqMask, s.tw cpePage 0 0 q 1] := by
  obtain ⟨h2, h15, -⟩ := rqWord w
  refine if_neg ?_
  rw [show [w, w1].getD 0 0 &&& (fmask 4 0 ||| fmask 15 8) = w &&& rqMask from rfl, h2, h15, hq]
  simpa using h

theorem State.noted_wbRq (s : State) (src : Src) (q : Nat) {w : Word} (w1 : Word) (h : bit w 2 = true) (h0 : fld w 15 8 = 0) :
    s.Noted (s.wbRq src q [w, w1]) := by
  obtain ⟨h2, h15, -⟩ := rqWord w
  have e : s.wbRq src q [w, w1] = s.tblRefuse src cpePage 7 [w, w1] := by
    refine if_pos ?_
    rw [show [w, w1].getD 0 0 &&& (fmask 4 0 ||| fmask 15 8) = w &&& rqMask from rfl, h2, h15, h, h0]
    simp
  rw [e]
  exact s.noted_tblRefuse ..

/-! ## The stream key table (R205, R207) -/

theorem mem_sktFind {s : State} {leg ssrc : Nat} {x : Nat × Nat × Nat} : x ∈ s.sktFind leg ssrc ↔
    (x.1 = (sktBuckets leg ssrc).1 ∨ x.1 = (sktBuckets leg ssrc).2) ∧ x.2.1 < 4 ∧
      s.sktSlot x.1 x.2.1 = some (leg, ssrc, x.2.2) := by
  obtain ⟨c, k, n⟩ := x
  simp only [State.sktFind, List.mem_flatMap, List.mem_eraseDups, List.mem_filterMap, List.mem_range, List.mem_cons,
    List.not_mem_nil, or_false]
  constructor
  · rintro ⟨c', hc, k', hk, h⟩
    split at h
    · next g r m hs =>
      split at h
      · next hgr =>
        cases h
        obtain ⟨rfl, rfl⟩ := hgr
        exact ⟨hc, hk, hs⟩
      · cases h
    · cases h
  · rintro ⟨hc, hk, hs⟩
    exact ⟨c, hc, k, hk, by simp [hs]⟩

theorem State.sktSlot_setSkt (s : State) (b k : Nat) (v : Option (Nat × Nat × Nat)) : (s.setSkt b k v).sktSlot b k = v :=
  NMap.get_set_same ..

theorem State.sktSlot_setSkt_other (s : State) {b k c j : Nat} (v : Option (Nat × Nat × Nat)) (hj : j < 4) (hk : k < 4)
    (h : c ≠ b ∨ j ≠ k) : (s.setSkt b k v).sktSlot c j = s.sktSlot c j := NMap.get_set_ne _ _ (by omega)

/-- A bucket that takes a pair is one of the pair's, and has room. -/
theorem State.sktBucket_room {s : State} {leg ssrc b : Nat} (h : s.sktBucket leg ssrc = some b) :
    (b = (sktBuckets leg ssrc).1 ∨ b = (sktBuckets leg ssrc).2) ∧ ∃ k, k < 4 ∧ s.sktSlot b k = none ∧
      (List.range 4).find? (fun k => (s.sktSlot b k).isNone) = some k := by
  have hle (c : Nat) : s.sktUsed c ≤ 4 := (List.length_filter_le _ _).trans (by simp)
  have hb : (b = (sktBuckets leg ssrc).1 ∨ b = (sktBuckets leg ssrc).2) ∧ s.sktUsed b < 4 := by
    simp only [State.sktBucket] at h
    have h1 := hle (sktBuckets leg ssrc).1
    have h2 := hle (sktBuckets leg ssrc).2
    split at h
    · cases h
    · split at h
      · cases h
        exact ⟨.inr rfl, by omega⟩
      · cases h
        exact ⟨.inl rfl, by omega⟩
  refine ⟨hb.1, ?_⟩
  cases hf : (List.range 4).find? fun k => (s.sktSlot b k).isNone with
  | none =>
    have hall : (List.range 4).filter (fun k => (s.sktSlot b k).isSome) = List.range 4 := by
      refine List.filter_eq_self.2 fun k hk => ?_
      have := List.find?_eq_none.1 hf k hk
      cases hs : s.sktSlot b k <;> simp_all
    have : s.sktUsed b = 4 := by rw [State.sktUsed, hall]; rfl
    omega
  | some k =>
    have hk := List.find?_some hf
    exact ⟨k, List.mem_range.1 (List.mem_of_find?_eq_some hf), by simpa using hk, rfl⟩

/-- A pair that was not known and has room is found where it was put. -/
theorem State.sktScid_sktInsert {s : State} {leg ssrc b : Nat} (scid : Nat) (h0 : s.sktScid leg ssrc = none)
    (hb : s.sktBucket leg ssrc = some b) : (s.sktInsert leg ssrc scid).sktScid leg ssrc = some scid := by
  obtain ⟨hin, k, hk, -, hfind⟩ := State.sktBucket_room hb
  have e : s.sktInsert leg ssrc scid = s.setSkt b k (some (leg, ssrc, scid)) := by simp only [State.sktInsert, hb, hfind]
  have hold : s.sktFind leg ssrc = [] := by simpa [State.sktScid] using h0
  rw [e]
  have hmem : (b, k, scid) ∈ (s.setSkt b k (some (leg, ssrc, scid))).sktFind leg ssrc :=
    mem_sktFind.2 ⟨hin, hk, s.sktSlot_setSkt ..⟩
  have hall : ∀ x ∈ (s.setSkt b k (some (leg, ssrc, scid))).sktFind leg ssrc, x.2.2 = scid := by
    intro x hx
    obtain ⟨hc, hk', hs⟩ := mem_sktFind.1 hx
    by_cases hne : x.1 ≠ b ∨ x.2.1 ≠ k
    · rw [s.sktSlot_setSkt_other _ hk' hk hne] at hs
      have : x ∈ s.sktFind leg ssrc := mem_sktFind.2 ⟨hc, hk', hs⟩
      rw [hold] at this
      cases this
    · obtain ⟨h1, h2⟩ := not_or.1 hne
      rw [not_not.1 h1, not_not.1 h2, s.sktSlot_setSkt] at hs
      cases hs
      rfl
  rw [State.sktScid]
  cases hl : (s.setSkt b k (some (leg, ssrc, scid))).sktFind leg ssrc with
  | nil =>
    rw [hl] at hmem
    cases hmem
  | cons x r => exact congrArg some (hall x (by simp [hl]))

theorem State.only_sktInsert (s : State) (leg ssrc scid : Nat) : s.Only (s.sktInsert leg ssrc scid) [.icl] := by
  unfold State.sktInsert
  split
  · exact .refl _ _
  · split
    · exact s.only_setIcl _
    · exact .refl _ _

/-! ## Stream contexts (R207, R208, R241) -/

/-- The parts of a context's first word. -/
theorem ctxWord {w0 : Word} (h : fld w0 1 0 = 1) :
    bit w0 0 = true ∧ bit w0 1 = false ∧ bit (w0 &&& (fmask 5 0 ||| fmask 31 16)) 0 = true ∧
      bit (w0 &&& (fmask 5 0 ||| fmask 31 16)) 1 = false ∧ fld (w0 &&& (fmask 5 0 ||| fmask 31 16)) 31 16 = fld w0 31 16 ∧
      fld (w0 &&& (fmask 5 0 ||| fmask 31 16)) 1 0 = 1 := by
  have hb : bit w0 0 = true ∧ bit w0 1 = false := by
    rw [fld_bits] at h
    revert h
    cases bit w0 0 <;> cases bit w0 1 <;> decide
  refine ⟨hb.1, hb.2, ?_, ?_, fld_and_mask _ (by decide) (by decide), (fld_and_mask _ (by decide) (by decide)).trans h⟩
  · rw [bit_and_mask _ (by decide)]; exact hb.1
  · rw [bit_and_mask _ (by decide)]; exact hb.2

theorem State.setLfw_id (s : State) : s.setLfw id = s := rfl

/-- A context in use keeps its leg, its SSRC and its direction. -/
theorem State.noted_wbCtx (s : State) (src : Src) {scid : Nat} {ws : List Word} (hwas : bit (s.ctxW scid 0) 0 = true)
    (hmoved : ws.getD 1 0 ≠ s.ctxW scid 1) : s.Noted (s.wbCtx src scid ws) := by
  have hwas' : bit ((s.tget iclPage 0 0 scid).getD 0 0) 0 = true := hwas
  have hmoved' : decide ((ctxMask ws).getD 1 0 ≠ (s.tget iclPage 0 0 scid).getD 1 0) = true := decide_eq_true hmoved
  have e : s.wbCtx src scid ws = s.tblRefuse src iclPage 7 ws :=
    if_pos (by rw [hwas', hmoved', Bool.true_or, Bool.true_or, Bool.and_self])
  rw [e]
  exact s.noted_tblRefuse ..

/-- The words below those that the device writes (R208). -/
theorem ctxRw_getD (l : List Word) (x y z : Word) {i : Nat} (hi : i < 6) :
    (((l.set 6 x).set 7 y).set 8 z).getD i 0 = l.getD i 0 := by
  simp only [List.getD_eq_getElem?_getD]
  rw [List.getElem?_set_ne (by omega), List.getElem?_set_ne (by omega), List.getElem?_set_ne (by omega)]

theorem State.resetCrypto_crypto (s : State) (scid : Nat) : (s.resetCrypto scid).crypto scid = CryptoSt.clear :=
  NMap.get_set_same (d := fun _ => CryptoSt.clear) s.cpe.st scid CryptoSt.clear

theorem State.resetCrypto_crypto_other (s : State) {scid k : Nat} (h : k ≠ scid) : (s.resetCrypto scid).crypto k = s.crypto k :=
  NMap.get_set_ne (d := fun _ => CryptoSt.clear) s.cpe.st CryptoSt.clear h

theorem State.only_resetCrypto (s : State) (scid : Nat) : s.Only (s.resetCrypto scid) [.cpe, .mem] := by
  intro x hx
  cases x <;> simp [Part.same, State.resetCrypto, State.cleanLine] at hx ⊢

/-- A context whose line is read anew. -/
def goodAgain (scid : Nat) (i : IclSt) : IclSt := { i with bad := i.bad.filter (· ≠ scid) }

/-- What a free context leaves that is enabled for a new inbound stream. -/
def State.ctxMade (s : State) (leg ssrc scid : Nat) (full : List Word) (line : Nat) : State :=
  ((((s.sktInsert leg ssrc scid).tset iclPage 0 0 scid full).cleanLine line).setIcl (goodAgain scid)).resetCrypto scid

theorem State.wbCtx_new {s : State} (src : Src) {scid b : Nat} {ws : List Word} (hin : fld (ws.getD 0 0) 1 0 = 1)
    (hfree : bit (s.ctxW scid 0) 0 = false) (hok : ctxOk (ctxMask ws) = true)
    (h0 : s.sktScid (fld (ws.getD 0 0) 31 16) (ws.getD 1 0).toNat = none)
    (hb : s.sktBucket (fld (ws.getD 0 0) 31 16) (ws.getD 1 0).toNat = some b) :
    ∃ full line f, s.wbCtx src scid ws = (s.ctxMade (fld (ws.getD 0 0) 31 16) (ws.getD 1 0).toNat scid full line).setLfw f ∧
      fld (full.getD 0 0) 1 0 = 1 ∧ full.getD 1 0 = ws.getD 1 0 := by
  obtain ⟨-, -, hen, hinb, hleg, h10⟩ := ctxWord hin
  have h0' : (ctxMask ws).getD 0 0 = ws.getD 0 0 &&& (fmask 5 0 ||| fmask 31 16) := rfl
  have h1' : (ctxMask ws).getD 1 0 = ws.getD 1 0 := rfl
  have hwas : bit ((s.tget iclPage 0 0 scid).getD 0 0) 0 = false := hfree
  unfold State.wbCtx
  simp only [h0', h1', hwas, hen, hinb, hleg, hok, h0, hb, Bool.false_and, Bool.not_true, Bool.and_false, Bool.not_false,
    Bool.and_self, Bool.true_or, Bool.false_eq_true, if_false, if_true, Option.any_none, Option.isNone_none, Option.isNone_some]
  split
  · refine ⟨_, _, _, rfl, ?_, ?_⟩
    · rw [ctxRw_getD _ _ _ _ (by decide)]; exact h10
    · rw [ctxRw_getD _ _ _ _ (by decide)]; rfl
  · refine ⟨_, _, id, (State.setLfw_id (s.ctxMade ..)).symm, ?_, ?_⟩
    · rw [ctxRw_getD _ _ _ _ (by decide)]; exact h10
    · rw [ctxRw_getD _ _ _ _ (by decide)]; rfl

theorem State.sktScid_congr {s t : State} (h : t.icl.skt = s.icl.skt) (leg ssrc : Nat) :
    t.sktScid leg ssrc = s.sktScid leg ssrc := by
  simp only [State.sktScid, State.sktFind, State.sktSlot, h]

theorem State.crypto_setLfw (s : State) (f : LfwSt → LfwSt) (k : Nat) : (s.setLfw f).crypto k = s.crypto k := rfl

theorem State.sktScid_setLfw (s : State) (f : LfwSt → LfwSt) (leg ssrc : Nat) :
    (s.setLfw f).sktScid leg ssrc = s.sktScid leg ssrc :=
  State.sktScid_congr (congrArg IclSt.skt (s.setLfw_icl f)) _ _

theorem State.ctxW_setLfw (s : State) (f : LfwSt → LfwSt) (c i : Nat) : (s.setLfw f).ctxW c i = s.ctxW c i := rfl

section
variable (s : State) (leg ssrc scid : Nat) (full : List Word) (line : Nat)

theorem State.ctxMade_skt : (s.ctxMade leg ssrc scid full line).icl.skt = (s.sktInsert leg ssrc scid).icl.skt := rfl

theorem State.ctxMade_tbl : (s.ctxMade leg ssrc scid full line).tbl = (s.tset iclPage 0 0 scid full).tbl := by
  have h : (s.sktInsert leg ssrc scid).tbl = s.tbl := (s.only_sktInsert leg ssrc scid) .tbl (by decide)
  show ((s.sktInsert leg ssrc scid).tset iclPage 0 0 scid full).tbl = _
  rw [State.tset_tbl, State.tset_tbl, h]

theorem State.ctxMade_ctxW (i : Nat) : (s.ctxMade leg ssrc scid full line).ctxW scid i = full.getD i 0 := by
  rw [State.ctxW, State.tw, State.tget, State.ctxMade_tbl]
  exact State.tw_tset_same s iclPage 0 0 scid full i

theorem State.ctxMade_crypto : (s.ctxMade leg ssrc scid full line).crypto scid = CryptoSt.clear := State.resetCrypto_crypto ..

theorem State.ctxMade_crypto_other {k : Nat} (h : k ≠ scid) : (s.ctxMade leg ssrc scid full line).crypto k = s.crypto k := by
  have hc : (s.sktInsert leg ssrc scid).cpe = s.cpe := (s.only_sktInsert leg ssrc scid) .cpe (by decide)
  rw [State.ctxMade, State.resetCrypto_crypto_other _ h]
  show (s.sktInsert leg ssrc scid).crypto k = s.crypto k
  rw [State.crypto, hc]
  rfl

theorem State.only_ctxMade : s.Only (s.ctxMade leg ssrc scid full line) [.tbl, .icl, .cpe, .mem, .lfw] := by
  have h1 := (s.only_sktInsert leg ssrc scid).mono (m := [.tbl, .icl, .cpe, .mem, .lfw]) (by decide)
  have h2 := h1.trans ((State.only_tset (s.sktInsert leg ssrc scid) iclPage 0 0 scid full).mono (by decide))
  have h3 := h2.trans ((State.only_setMem ((s.sktInsert leg ssrc scid).tset iclPage 0 0 scid full) fun m =>
    { m with poison := m.poison.filter (· ≠ line) }).mono (by decide))
  have h4 := h3.trans ((State.only_setIcl _ (goodAgain scid)).mono (by decide))
  exact h4.trans ((State.only_resetCrypto _ scid).mono (by decide))
end

end Sys2Proof.Machine
end

section
open Sys2Proof Sys2Proof.Machine

/-- Settles O17: R86, R204, R207, R213, R216, R230 and R241, one lemma for each write-back. -/
theorem streamTables : Obligations.StreamTables := by
  refine ⟨fun s src e ws h hp hv hw he hfree => ?_, fun s src e ws h hp hv hw he => ?_, fun s src e ws h hp => h.waits hp rfl,
    fun s src scid b ws h hp hin hfree hok h0 hb => ?_, fun s src scid ws h hp hwas hmoved => ?_,
    fun s src e w0 w1 w2 h hp hen hc h0 => ?_, fun s src e w0 w1 w2 h hp hen hc => ?_,
    fun s src q w w1 h hp hq hw => ?_, fun s src q w w1 h hp hw h0 => ?_⟩
  · have e' := State.wbLegKey_placed hv hw src (show e / 8 = legSet (legBytes ws) from he) hfree
    refine ⟨_, congrArg Host.Outcome.next ((h.writeBack_solo hp ..).trans e'), fun i hi => ?_, ?_,
      fun k hk => State.get_tset_other _ _ hk, s.only_tset _ _ _ _ _⟩
    · rw [State.tw_tset_same, legWords_key ws hi]
    · rw [State.tf, State.tw_tset_same, legWords_valid]
  · have hn := s.noted_wbLegKey hv hw src (show e / 8 ≠ legSet (legBytes ws) from he)
    exact ⟨_, congrArg Host.Outcome.next (h.writeBack_solo hp ..), hn.tbl, hn.regsBut _, hn.only⟩
  · obtain ⟨full, line, f, e, h10, h1⟩ := State.wbCtx_new src hin hfree hok h0 hb
    refine ⟨_, congrArg Host.Outcome.next ((h.writeBack_solo hp ..).trans e), ?_, ?_, ?_, ?_, fun k hk => ?_, fun k hk => ?_, ?_⟩
    · rw [State.ctxIn, State.ctx, State.ctxW_setLfw, State.ctxMade_ctxW, h10]
      rfl
    · rw [State.ctxW_setLfw, State.ctxMade_ctxW, h1]
    · rw [State.sktScid_setLfw, State.sktScid_congr (s.ctxMade_skt _ _ scid full line)]
      exact State.sktScid_sktInsert scid h0 hb
    · rw [State.crypto_setLfw, State.ctxMade_crypto]
    · rw [State.crypto_setLfw, State.ctxMade_crypto_other _ _ _ _ _ _ hk]
    · rw [State.setLfw_tbl, State.ctxMade_tbl, State.get_tset_other _ _ hk]
    · exact (s.only_ctxMade _ _ scid full line).trans ((State.only_setLfw _ f).mono (by decide))
  · have hn := s.noted_wbCtx src hwas hmoved
    exact ⟨_, congrArg Host.Outcome.next (h.writeBack_solo hp ..), hn.tbl, hn.regsBut _, hn.only⟩
  · refine ⟨_, congrArg Host.Outcome.next ((h.writeBack_solo hp ..).trans (State.wbPolicer_full src hen hc h0)),
      ?_, ?_, ?_, s.polState_setPol .., fun k hk => State.polState_setPol_other _ _ hk, ?_⟩
    · rw [State.tf, State.setPol_tw, State.tw_tset_same]
      exact (fld_and_fmask w0 (by decide) (by decide) (by decide)).trans ((fld_bit w0 0).trans (by rw [hen]; rfl))
    · rw [State.setPol_tw, State.tw_tset_same]
      rfl
    · rw [State.tf, State.setPol_tw, State.tw_tset_same]
      exact fld_and_fmask w2 (by decide) (by decide) (by decide)
    · exact ((s.only_tset _ _ _ _ _).mono (by decide)).trans ((State.only_setIcl _ _).mono (by decide))
  · have hn := s.noted_wbPolicer src e (w1 := w1) hen hc
    exact ⟨_, congrArg Host.Outcome.next (h.writeBack_solo hp ..), hn.tbl, hn.icl, hn.regsBut _, hn.only⟩
  · obtain ⟨-, h15, h4⟩ := rqWord w
    refine ⟨_, congrArg Host.Outcome.next ((h.writeBack_solo hp ..).trans (State.wbRq_taken src w1 hq hw)), ?_, ?_, ?_,
      fun k hk => State.get_tset_other _ _ hk, s.only_tset _ _ _ _ _⟩
    · rw [State.tf, State.tw_tset_same]
      exact h4
    · rw [State.tf, State.tw_tset_same]
      exact h15
    · rw [State.tw_tset_same]
      rfl
  · have hn := s.noted_wbRq src q w1 hw h0
    exact ⟨_, congrArg Host.Outcome.next (h.writeBack_solo hp ..), hn.tbl, hn.regsBut _, hn.only⟩
end

section
/-!
SUPPORT. Commits of a page and of a group: what an arm, a resolution and the registers of a group leave, and the values that
come into force (R67 to R79).
-/

namespace Sys2Proof.Machine

/-! ## Commits of a page -/

/-- The registers of a page's commit. -/
def cmtRegs (p : Nat) : List (Nat × Nat) := [(p, Reg.cmtStatus), (p, Reg.cmtCtl)]

/-- What an arm leaves (R69). -/
structure State.CmtArmed (s t : State) (p : Nat) : Prop where
  armed : t.armed p = true
  reason : t.rf p Reg.cmtStatus 15 8 = 0
  ctl : t.rb p Reg.cmtCtl 0 = true
  frame : State.Frame (cmtRegs p) [.reg] s t

theorem State.cmtArmed_armed (s : State) (p : Nat) : s.CmtArmed (s.cmtArmed p) p := by
  have hst (u : State) : (u.wfld p Reg.cmtCtl 0 0 1).rd p Reg.cmtStatus = u.rd p Reg.cmtStatus :=
    u.rd_wfld_other _ _ _ (by decide) (by decide) (.inr (by decide))
  have h1 : (p, Reg.cmtStatus) ∈ cmtRegs p := by simp [cmtRegs]
  have h2 : (p, Reg.cmtCtl) ∈ cmtRegs p := by simp [cmtRegs]
  refine ⟨?_, ?_, ?_, (((State.Frame.refl s).wfld _ _ _ (by decide) h1 (by decide)).wfld _ _ _ (by decide) h1 (by decide)).wfld
    _ _ _ (by decide) h2 (by decide)⟩
  · rw [State.armed, State.cmtState, State.rf, State.cmtArmed, hst, State.rd_wfld_same, fld_withFld_other _ _ (.inl (by decide)),
      State.rd_wfld_same, fld_withFld _ _ (by decide) (by decide)]
    rfl
  · rw [State.rf, State.cmtArmed, hst, State.rd_wfld_same, fld_withFld _ _ (by decide) (by decide)]
    rfl
  · rw [State.rb, State.cmtArmed, State.rd_wfld_same, fmask_bits _ (by decide)]
    rfl

/-- What a resolution leaves (R69, R72, R100). -/
structure State.CmtResolved (s t : State) (p st reason : Nat) : Prop where
  state : t.rf p Reg.cmtStatus 2 0 = st % 8
  reason : t.rf p Reg.cmtStatus 15 8 = reason % 256
  seq : t.rf p Reg.cmtStatus 31 24 = (s.rf p Reg.cmtStatus 31 24 + 1) % 256
  ctl : t.rb p Reg.cmtCtl 0 = false
  frame : State.Frame (cmtRegs p) (.page :: noted) s t

/-- The registers of a resolution, before its event. -/
def State.cmtClosed (s : State) (p st reason : Nat) : State :=
  ((((s.wfld p Reg.cmtStatus 2 0 st).wfld p Reg.cmtStatus 15 8 reason).seqUp p Reg.cmtStatus).wfld p Reg.cmtCtl 0 0 0).setPg p
    fun x => { x with doomed := false }

theorem State.cmtClosed_resolved (s : State) (p st reason : Nat) : s.CmtResolved (s.cmtClosed p st reason) p st reason := by
  have h1 : (p, Reg.cmtStatus) ∈ cmtRegs p := by simp [cmtRegs]
  have h2 : (p, Reg.cmtCtl) ∈ cmtRegs p := by simp [cmtRegs]
  have hst (u : State) : (u.wfld p Reg.cmtCtl 0 0 0).rd p Reg.cmtStatus = u.rd p Reg.cmtStatus :=
    u.rd_wfld_other _ _ _ (by decide) (by decide) (.inr (by decide))
  refine ⟨?_, ?_, ?_, ?_, (((((State.Frame.refl s).wfld _ _ _ (by decide) h1 (by decide)).wfld _ _ _ (by decide) h1
    (by decide)).seqUp (by decide) h1 (by decide)).wfld _ _ _ (by decide) h2 (by decide)).setPg _ _ (by decide)⟩
  · rw [State.rf, State.cmtClosed, State.rd_setPg, hst, State.seqUp, State.rd_wfld_same, fld_withFld_other _ _ (.inl (by decide)),
      State.rd_wfld_same, fld_withFld_other _ _ (.inl (by decide)), State.rd_wfld_same, fld_withFld _ _ (by decide) (by decide)]
    rfl
  · rw [State.rf, State.cmtClosed, State.rd_setPg, hst, State.seqUp, State.rd_wfld_same, fld_withFld_other _ _ (.inl (by decide)),
      State.rd_wfld_same, fld_withFld _ _ (by decide) (by decide)]
    rfl
  · rw [State.rf, State.cmtClosed, State.rd_setPg, hst, State.seqUp, State.rd_wfld_same, fld_withFld _ _ (by decide) (by decide),
      State.rf, State.rd_wfld_same, fld_withFld_other _ _ (.inr (by decide)), State.rd_wfld_same,
      fld_withFld_other _ _ (.inr (by decide))]
    exact Nat.mod_mod ..
  · rw [State.rb, State.cmtClosed, State.rd_setPg, State.rd_wfld_same, fmask_bits _ (by decide)]
    rfl

theorem State.CmtResolved.raise {s t : State} {p st reason : Nat} (h : s.CmtResolved t p st reason) (e : Event) (a b : Nat) :
    s.CmtResolved (t.raise p e a b) p st reason where
  state := by rw [State.rf, State.rd_raise _ _ _ _ _ _ _ (by decide)]; exact h.state
  reason := by rw [State.rf, State.rd_raise _ _ _ _ _ _ _ (by decide)]; exact h.reason
  seq := by rw [State.rf, State.rd_raise _ _ _ _ _ _ _ (by decide)]; exact h.seq
  ctl := by rw [State.rb, State.rd_raise _ _ _ _ _ _ _ (by decide)]; exact h.ctl
  frame := h.frame.raise _ _ _ _ (by decide)

theorem State.cmtResolve_resolved (s : State) (p st reason : Nat) : s.CmtResolved (s.cmtResolve p st reason) p st reason := by
  have h := s.cmtClosed_resolved p st reason
  have e : s.cmtResolve p st reason =
      if st = 2 then (s.cmtClosed p st reason).raise p .pageCmtApplied (s.rd p Reg.cmtWale).toNat 0
      else if st = 3 then (s.cmtClosed p st reason).raise p .pageCmtLate (s.rd p Reg.cmtWale).toNat 0
      else (s.cmtClosed p st reason).raise p .pageCmtRefused (reason + s.rf p Reg.cmtCtl 20 16 * 2 ^ 8) 0 := rfl
  rw [e]
  split
  · exact h.raise ..
  · split <;> exact h.raise ..

/-- R69: a page that no group holds arms in time. -/
theorem State.armPage_single {s : State} {p : Nat} (hg : s.rf p Reg.cmtCtl 20 16 = 0) (h1 : 1 ≤ s.ahead (s.rd p Reg.cmtWale).toNat)
    (h31 : s.ahead (s.rd p Reg.cmtWale).toNat < 2 ^ 31) (hv : s.validate p (s.rd p Reg.cmtWale).toNat = (s, 0)) :
    s.armPage p = s.cmtArmed p := by
  have ht : decide (1 ≤ s.ahead (s.rd p Reg.cmtWale).toNat ∧ s.ahead (s.rd p Reg.cmtWale).toNat < 2 ^ 31) = true :=
    decide_eq_true ⟨h1, h31⟩
  simp only [State.armPage, hg, ht, hv, ne_eq, not_true_eq_false, if_false, Bool.not_true, Bool.false_eq_true]

/-- R72: the DISARM of a page that no group holds. -/
theorem State.cmtDisarm_single {s : State} {p : Nat} (src : Src) (v : Word) (ha : s.armed p = true)
    (hg : s.rf p Reg.cmtCtl 20 16 = 0) : s.cmtDisarm src p v = (s.cmtResolve p 4 0x07).groupShow := by
  have hm : s.committedMember p = false := by simp [State.committedMember, hg]
  simp only [State.cmtDisarm, ha, hm, Bool.not_true, Bool.false_eq_true, if_false]

/-! ## Values in force -/

/-- A register's shadow comes into force. -/
def State.inForce (p : Nat) (s : State) (x : Nat × RegDesc) : State :=
  { s with act := NMap.set actDefault s.act (rkey p x.1) (s.rd p x.1 &&& rwsMask (rkey p x.1)) }

/-- R67: what is in force after the shadows of a list of registers came into force. -/
theorem State.ra_inForce (p o : Nat) (l : List (Nat × RegDesc)) (s : State) : (l.foldl (State.inForce p) s).ra p o =
    if (l.any fun x => decide (x.1 = o)) = true then s.rd p o &&& rwsMask (rkey p o) else s.ra p o := by
  induction l generalizing s with
  | nil => rfl
  | cons x r ih =>
    rw [List.foldl_cons, ih]
    by_cases hx : x.1 = o
    · have hra : (s.inForce p x).ra p o = s.rd p o &&& rwsMask (rkey p o) := by
        subst hx
        exact NMap.get_set_same ..
      have hrd : (s.inForce p x).rd p o = s.rd p o := rfl
      simp [hx, hra, hrd]
    · have hra : (s.inForce p x).ra p o = s.ra p o :=
        NMap.get_set_ne (d := actDefault) _ _ (by unfold rkey; omega)
      have hrd : (s.inForce p x).rd p o = s.rd p o := rfl
      simp only [List.any_cons, decide_eq_false hx, Bool.false_or, hra, hrd]

/-- R67: a shadow of the page comes into force. -/
theorem State.ra_rwsApply (s : State) {p o : Nat} (h : ((rwsOffsets p).any fun x => decide (x.1 = o)) = true) :
    (s.rwsApply p).ra p o = s.rd p o &&& rwsMask (rkey p o) := (State.ra_inForce p o (rwsOffsets p) s).trans (if_pos h)

/-- A field whose shadow has come into force. -/
theorem State.raf_inForce {s t : State} {p o hi lo : Nat} (ht : t.act = (s.rwsApply p).act)
    (h : ((rwsOffsets p).any fun x => decide (x.1 = o)) = true) (h32 : hi < 32)
    (hm : ∀ i < 32, lo ≤ i → i ≤ hi → bit (rwsMask (rkey p o)) i = true) : t.raf p o hi lo = s.rf p o hi lo := by
  have hra : t.ra p o = (s.rwsApply p).ra p o := by rw [State.ra, ht]; rfl
  rw [State.raf, hra, State.ra_rwsApply s h, fld_and_mask _ h32 hm]
  rfl

/-- An apply ends with the resolution (R69). -/
theorem State.applyPage_resolved (s : State) (p : Nat) : ∃ u : State, s.applyPage p = u.cmtResolve p 2 0 := ⟨_, rfl⟩

/-- R67: the RWS fields of ICL. -/
theorem State.applyPage_icl (s : State) : s.applyPage iclPage = (s.rwsApply iclPage).cmtResolve iclPage 2 0 := rfl

/-! ## Groups -/

/-- The registers that show a group (R74). -/
def groupRegs : List (Nat × Nat) :=
  [(0, Reg.sysCgrpCtl), (0, Reg.sysCgrpWale), (0, Reg.sysCgrpStatus), (0, Reg.sysCgrpCulprit)]

theorem State.frame_groupShow (s : State) : State.Frame groupRegs [.reg] s s.groupShow :=
  ((((State.Frame.refl s).wr _ (by decide) (by decide) (by decide)).wr _ (by decide) (by decide) (by decide)).wr _ (by decide)
    (by decide) (by decide)).wr _ (by decide) (by decide) (by decide)

theorem State.only_withCgrp (s : State) (m : NMap Cgrp) : s.Only { s with cgrp := m } [.cgrp] := by
  intro x hx
  cases x <;> simp [Part.same] at hx ⊢

/-- The groups, one of them changed. -/
def State.putGroup (s : State) (g : Nat) (c : Cgrp) : State := { s with cgrp := NMap.set (fun _ => ({} : Cgrp)) s.cgrp g c }

theorem State.frame_setGroup (s : State) (g : Nat) (f : Cgrp → Cgrp) : State.Frame groupRegs [.reg, .cgrp] s (s.setGroup g f) := by
  have h : State.Frame groupRegs [.reg, .cgrp] s (s.putGroup g (f (s.group g))) :=
    (State.Frame.refl s).parts rfl (s.only_withCgrp _) (by decide)
  exact h.trans ((State.frame_groupShow _).mono (fun _ h => h) (by decide))

theorem State.group_setGroup (s : State) (g : Nat) (f : Cgrp → Cgrp) : (s.setGroup g f).group g = f (s.group g) :=
  NMap.get_set_same ..

theorem State.group_setGroup_other (s : State) {g k : Nat} (f : Cgrp → Cgrp) (h : k ≠ g) : (s.setGroup g f).group k = s.group k :=
  NMap.get_set_ne _ _ h

theorem State.group_putGroup (s : State) (g : Nat) (c : Cgrp) : (s.putGroup g c).group g = c := NMap.get_set_same ..

/-- A group that is ARMED, COMMITTED or resolved (R74, R76, R79). -/
def groupArmed (c : Cgrp) : Cgrp := { c with state := 1, reason := 0 }
def groupCommitted (c : Cgrp) : Cgrp := { c with state := 2, due := c.target }
def groupResolved (st reason : Nat) (culprit : Option Nat) (c : Cgrp) : Cgrp :=
  { c with state := st, reason := reason, seq := (c.seq + 1) % 16, culprit := culprit.getD c.culprit }

theorem State.groupResolve_eq (s : State) (g st reason : Nat) (culprit : Option Nat) :
    s.groupResolve g st reason culprit = s.setGroup g (groupResolved st reason culprit) := rfl

section
variable {s : State} {g : Nat} (src : Src) (v : Word) (hsel : s.rf 0 Reg.sysCgrpSel 4 0 = g) (hg : g ≠ 0)
include hsel hg

/-- R74: an ARM in time. -/
theorem State.cgrpArm_armed (h1 : (s.group g).state ≠ 1) (h2 : (s.group g).state ≠ 2) (hc : (s.group g).count ≠ 0)
    (hlo : 2 ≤ s.ahead (s.group g).target) (hhi : s.ahead (s.group g).target < 2 ^ 31) :
    s.cgrpArm src v = s.setGroup g groupArmed := by
  have hd : decide (2 ≤ s.ahead (s.group g).target ∧ s.ahead (s.group g).target < 2 ^ 31) = true := decide_eq_true ⟨hlo, hhi⟩
  have hd1 : s.ahead (s.group g).target ≠ 1 := by omega
  simp only [State.cgrpArm, hsel, hg, h1, h2, hc, hd, hd1, decide_false, Bool.or_self, Bool.false_eq_true, Bool.not_true, if_false]
  rfl

/-- R79: the DISARM of an ARMED group. -/
theorem State.cgrpDisarm_armed (h1 : (s.group g).state = 1) : s.cgrpDisarm src v = s.groupRefuse g 0x07 0 fun _ => 0x07 := by
  simp only [State.cgrpDisarm, hsel, hg, h1, if_false, if_true]
end

/-- R74: the selected group, ARMED, shows. -/
theorem State.groupShow_armed {s : State} (h : (s.group (s.rf 0 Reg.sysCgrpSel 4 0)).state = 1) :
    s.groupShow.rb 0 Reg.sysCgrpCtl 0 = true ∧ s.groupShow.rf 0 Reg.sysCgrpStatus 2 0 = 1 := by
  have hctl : s.groupShow.rd 0 Reg.sysCgrpCtl = BitVec.ofNat 32 (1 + (s.group (s.rf 0 Reg.sysCgrpSel 4 0)).count * 2 ^ 16) := by
    simp only [State.groupShow, h]
    rw [State.rd_wr_other _ _ (by decide) (by decide) (by decide), State.rd_wr_other _ _ (by decide) (by decide) (by decide),
      State.rd_wr_other _ _ (by decide) (by decide) (by decide), State.rd_wr_same]
    rfl
  obtain ⟨n, hst⟩ : ∃ n, s.groupShow.rd 0 Reg.sysCgrpStatus = BitVec.ofNat 32 (1 + n * 2 ^ 8) := by
    refine ⟨(s.group (s.rf 0 Reg.sysCgrpSel 4 0)).reason +
      (if s.rf 0 Reg.sysCgrpSel 4 0 = 0 then 0 else (s.members (s.rf 0 Reg.sysCgrpSel 4 0)).length) * 2 ^ 8 +
        (s.group (s.rf 0 Reg.sysCgrpSel 4 0)).seq * 2 ^ 20, ?_⟩
    simp only [State.groupShow, h]
    rw [State.rd_wr_other _ _ (by decide) (by decide) (by decide), State.rd_wr_same]
    congr 1
    omega
  constructor
  · rw [State.rb, hctl, bit, BitVec.getLsbD_ofNat, Nat.testBit_zero]
    simp
    omega
  · rw [State.rf, hst, fld, nfld, BitVec.toNat_ofNat]
    omega

/-- What refusing pages leaves (R79). -/
structure State.Refused (s t : State) (l : List Nat) (reason : Nat) : Prop where
  shown : ∀ p ∈ l, t.rf p Reg.cmtStatus 2 0 = 4 ∧ t.rf p Reg.cmtStatus 15 8 = reason % 256
  kept : ∀ p, p ∉ l → t.rd p Reg.cmtStatus = s.rd p Reg.cmtStatus
  only : s.Only t (.page :: noted)

theorem State.refused_foldl (l : List Nat) (reason : Nat) (s : State) :
    s.Refused (l.foldl (fun s p => s.cmtResolve p 4 reason) s) l reason := by
  induction l generalizing s with
  | nil => exact ⟨fun p hp => absurd hp (by simp), fun _ _ => rfl, .refl _ _⟩
  | cons x r ih =>
    have hx := s.cmtResolve_resolved x 4 reason
    obtain ⟨hshown, hkept, honly⟩ := ih (s.cmtResolve x 4 reason)
    rw [List.foldl_cons]
    refine ⟨fun p hp => ?_, fun p hp => ?_, hx.frame.only.trans honly⟩
    · by_cases hr : p ∈ r
      · exact hshown p hr
      · obtain rfl : p = x := (List.mem_cons.1 hp).resolve_right hr
        rw [State.rf, State.rf, hkept p hr]
        exact ⟨hx.state, hx.reason⟩
    · obtain ⟨hne, hr⟩ := not_or.1 (fun h => hp (List.mem_cons.2 h))
      rw [hkept p hr]
      exact hx.frame.rd (by decide) (by simp [cmtRegs, hne]) (by decide)

end Sys2Proof.Machine
end

section
open Sys2Proof Sys2Proof.Machine

/-- Settles O5: R67, R69, R72, R74, R76, R78 and R79, one lemma for each command. -/
theorem commits : Obligations.Commits := by
  refine ⟨fun s src p h hl hcap harm hg h1 h31 hv => ?_, fun s src p h hcap harm hg => ?_,
    fun s p hdue harm hg hw hen hf hd => ?_, fun s src g h hsel hg h1 h2 hc hlo hhi => ?_, fun s src g h hsel hg h1 => ?_,
    fun s g hdue h1 ht hm hlen => ?_, fun s g hdue h2 hw => ?_⟩
  · have e := h.access_solo hl (s.rd p Reg.cmtCtl ||| 1) fun u =>
      if (pageCaps p).cmt then u.cmtArm src p (s.rd p Reg.cmtCtl ||| 1)
          else u.accessErr p Reg.cmtCtl 3 src (s.rd p Reg.cmtCtl ||| 1)
    rw [if_pos hcap, State.cmtArm, if_neg (ne_true_of_eq_false harm), State.armPage_single hg h1 h31 hv] at e
    obtain ⟨harmed, hreason, hctl, hf⟩ := s.cmtArmed_armed p
    exact ⟨_, congrArg Host.Outcome.next e, harmed, hreason, hctl, hf.regs, hf.only.mono (by decide)⟩
  · have hp : p ≠ 0 := fun h0 => absurd hcap (by rw [h0]; decide)
    obtain ⟨l, e⟩ := h.access (s.rd p Reg.cmtCtl ||| 4) fun u =>
      if (pageCaps p).cmt then u.cmtDisarm src p (s.rd p Reg.cmtCtl ||| 4)
          else u.accessErr p Reg.cmtCtl 3 src (s.rd p Reg.cmtCtl ||| 4)
    rw [if_pos hcap, State.cmtDisarm_single src _ (show (s.carrying l).armed p = true from harm) hg] at e
    obtain ⟨hst, hreason, hseq, hctl, hf⟩ := (s.carrying l).cmtResolve_resolved p 4 0x07
    have hshow := ((s.carrying l).cmtResolve p 4 0x07).frame_groupShow
    have hr {o : Nat} (ho : o < 65536) (hn : o ∉ noteOffs) := hshow.rd (p := p) ho (by simp [groupRegs, hp]) hn
    have ha := hf.only.trans (hshow.only.mono (by decide))
    refine ⟨_, congrArg Host.Outcome.next e, ?_, ?_, ?_, ?_, ha .act (by decide), ha .tbl (by decide), ha .mem (by decide)⟩
    · rw [State.rf, hr (by decide) (by decide)]; exact hst
    · rw [State.rf, hr (by decide) (by decide)]; exact hreason
    · rw [State.rf, hr (by decide) (by decide)]; exact hseq
    · rw [State.rb, hr (by decide) (by decide)]; exact hctl
  · have e : execCommitApply p s = .next ((s.atStep 4).applyPage p) := by
      have hc : (s.stepDue 4 && s.armed p && decide (s.rf p Reg.cmtCtl 20 16 = 0) &&
          decide ((s.rd p Reg.cmtWale).toNat = s.wale)) = true := by
        rw [hdue, harm, decide_eq_true hg, decide_eq_true hw]; rfl
      have hd' : (((s.atStep 4).pg p).doomed || !(s.atStep 4).enabled p || (s.atStep 4).fenced p) = false := by
        show ((s.pg p).doomed || !s.enabled p || s.fenced p) = false
        rw [hd, hen, hf]; rfl
      exact congrArg Host.Outcome.next ((if_pos hc).trans (if_neg (ne_true_of_eq_false hd')))
    obtain ⟨u, hu⟩ := (s.atStep 4).applyPage_resolved p
    obtain ⟨hst, hreason, -, hctl, -⟩ := u.cmtResolve_resolved p 2 0
    refine ⟨_, e, by rw [hu]; exact hst, by rw [hu]; exact hreason, by rw [hu]; exact hctl, fun hp => ?_⟩
    subst hp
    rw [State.applyPage_icl]
    have hact := ((s.atStep 4).rwsApply iclPage).cmtResolve_resolved iclPage 2 0 |>.frame.only .act (by decide)
    exact ⟨State.raf_inForce hact (by decide +kernel) (by decide) (by decide +kernel),
      State.raf_inForce hact (by decide +kernel) (by decide) (by decide +kernel)⟩
  · refine h.answers (v := s.rd 0 Reg.sysCgrpCtl ||| 1) (t := fun l => (s.carrying l).setGroup g groupArmed) rfl (fun l => ?_)
      fun l => ?_
    · exact State.cgrpArm_armed src _ hsel hg h1 h2 hc hlo hhi
    · have hf := (s.frame_carrying l groupRegs (by decide)).trans
        (((s.carrying l).frame_setGroup g groupArmed).mono (ps' := [.reg, .cgrp, .prg]) (fun _ h => h) (by decide))
      have ha : (((s.carrying l).putGroup g (groupArmed (s.group g))).group
          (((s.carrying l).putGroup g (groupArmed (s.group g))).rf 0 Reg.sysCgrpSel 4 0)).state = 1 := by
        show (((s.carrying l).putGroup g (groupArmed (s.group g))).group (s.rf 0 Reg.sysCgrpSel 4 0)).state = 1
        rw [hsel, State.group_putGroup]
        rfl
      obtain ⟨hctl, hst⟩ := State.groupShow_armed ha
      refine ⟨?_, ?_, fun k hk => State.group_setGroup_other _ _ hk, hctl, hst, hf.only⟩
      · rw [State.group_setGroup]; rfl
      · rw [State.group_setGroup]; rfl
  · refine h.answers (v := s.rd 0 Reg.sysCgrpCtl ||| 2) (t := fun l => (s.carrying l).groupRefuse g 0x07 0 fun _ => 0x07) rfl
      (fun l => ?_) fun l => ?_
    · exact State.cgrpDisarm_armed src _ hsel hg h1
    · obtain ⟨hshown, -, honly⟩ := State.refused_foldl ((s.carrying l).members g) 0x07 (s.carrying l)
      rw [State.groupRefuse, State.groupResolve_eq]
      generalize ((s.carrying l).members g).foldl (fun s p => s.cmtResolve p 4 0x07) (s.carrying l) = u at hshown honly ⊢
      have hgroup : u.group g = s.group g := by
        rw [State.group, show u.cgrp = s.cgrp from honly .cgrp (by decide)]
        rfl
      have hf := u.frame_setGroup g (groupResolved 5 0x07 (some 0))
      have hr (p : Nat) := hf.rd (p := p) (o := Reg.cmtStatus) (by decide) (by simp [groupRegs, Reg.cmtStatus, Reg.sysCgrpCtl,
        Reg.sysCgrpWale, Reg.sysCgrpStatus, Reg.sysCgrpCulprit]) (by decide)
      refine ⟨?_, ?_, ?_, fun p hp => ?_, ?_⟩
      · rw [State.group_setGroup]; rfl
      · rw [State.group_setGroup]; rfl
      · rw [State.group_setGroup, hgroup]; rfl
      · rw [State.rf, State.rf, hr]
        exact hshown p hp
      · exact ((s.frame_carrying l [] (ps := [.cgrp, .page] ++ noted) (by decide)).only.trans (honly.mono (by decide))).trans
          (hf.only.mono (by decide))
  · have hs : (s.atStep 4).members g = s.members g := rfl
    have hoff : (s.members g).filter (fun p => !(s.atStep 4).enabled p || (s.atStep 4).fenced p) = [] := by
      refine List.filter_eq_nil_iff.2 fun p hp => ?_
      obtain ⟨hen, hfence⟩ := hm p hp
      show ¬ (!s.enabled p || s.fenced p) = true
      rw [hen, hfence]
      decide
    have e : execCgrpCheck g s = .next ((s.atStep 4).setGroup g groupCommitted) := by
      simp only [execCgrpCheck, hdue, h1, ht, decide_true, Bool.and_self, if_true, hoff, hs, hlen, ne_eq, not_true_eq_false,
          if_false]
      rfl
    have hf := ((State.Frame.refl s).withClk { s.clk with phase := 4 } (by decide)).trans
      (((s.atStep 4).frame_setGroup g groupCommitted).mono (ps' := [.clk, .reg, .cgrp]) (fun _ h => h) (by decide))
    exact ⟨_, e, by rw [State.group_setGroup]; rfl, fun k hk => State.group_setGroup_other _ _ hk, hf.only⟩
  · have hc : (s.stepDue 4 && decide ((s.group g).state = 2) && decide ((s.group g).due = s.wale)) = true := by
      rw [hdue, decide_eq_true h2, decide_eq_true hw]; rfl
    refine ⟨_, congrArg Host.Outcome.next (if_pos hc), ?_, ?_⟩
    · rw [State.groupResolve_eq, State.group_setGroup]; rfl
    · rw [State.groupResolve_eq, State.group_setGroup]; rfl
end

section
/-!
SUPPORT. A decrement from the port of a fenced agent: the fence severs the port, and its request is discarded (R65, R121).
-/

namespace Sys2Proof.Machine

/-- Task 1 waits for one decrement; Withy core 0, the agent of port 0, is fenced, and VF 0 is granted the page of Reeve. -/
def severedPort : State :=
  { reg := [(rkey (wdsPage 0) Reg.pageCtrl, 2)], tbl := [(tkey 0 0 0 rvePage, [1])],
    rve := { tasks := [(1, { st := 1, dep := 1 })] }, qz := { mainOk := true, perst := false } }

theorem severedPort_opens : severedPort.Opens (portSrc 0) rvePage Reg.rveDecr :=
  ⟨by decide, by decide, by decide, by decide, by decide⟩

/-- The fence of its page severs an agent's port. -/
theorem State.portAccess_severed {s : State} {port : Nat} (ha : port < 576) (hs : s.severed port = true) (p o : Nat) (v : Word)
    (k : State → State) : s.portAccess port p o v k = s := by
  have hv : viaRegs port = false := decide_eq_false (Nat.not_le.2 ha)
  simp only [State.portAccess, hv, hs, Bool.false_eq_true, if_false, if_true]

end Sys2Proof.Machine
end

section
open Sys2Proof Sys2Proof.Machine

/-- Refutes O10: a decrement lowers the count, says its sixth clause, from a port whose fence is open or from one whose source reaches
`RVE_DECR`; but an agent's port takes no register, and that of a fenced agent is severed (R65). The task of `severedPort` keeps its
count of 1. -/
theorem not_taskFlow : ¬ Obligations.TaskFlow := by
  unfold Obligations.TaskFlow
  rintro ⟨-, -, -, -, -, decrement, -⟩
  obtain ⟨t, e, lowered, -⟩ := decrement severedPort 0 1 (.inr severedPort_opens) (by decide) (by decide)
  have kept : exec (.taskDecrement 0 1) severedPort = .next severedPort :=
    congrArg Host.Outcome.next (State.portAccess_severed (by decide) (by decide) ..)
  obtain rfl : severedPort = t := Host.Outcome.next.inj (kept.symm.trans e)
  exact absurd lowered (by decide)
end

section
/-!
SUPPORT. The answer of the mailbox: the response buffer and the registers that tell of it, and what a command has changed before it
(R677, R680).
-/

namespace Sys2Proof.Machine

/-! ## Bytes of numbers -/

/-- A byte of the number that bytes spell. -/
theorem leNat_byte (bs : List Byte) (k : Nat) : BitVec.ofNat 8 (leNat bs / 2 ^ (8 * k)) = bs.getD k 0 := by
  induction bs generalizing k with
  | nil => simp [leNat]
  | cons b r ih =>
    have hb := b.isLt
    cases k with
    | zero =>
      refine BitVec.eq_of_toNat_eq ?_
      simp only [leNat, List.getD_cons_zero, BitVec.toNat_ofNat, Nat.mul_zero, Nat.pow_zero, Nat.div_one]
      omega
    | succ k =>
      rw [List.getD_cons_succ, ← ih k]
      have e : leNat (b :: r) / 2 ^ (8 * (k + 1)) = leNat r / 2 ^ (8 * k) := by
        rw [Nat.mul_add, Nat.add_comm, Nat.pow_add, ← Nat.div_div_eq_div_mul]
        congr 1
        simp only [leNat]
        omega
      rw [e]

theorem leNat_lt (bs : List Byte) : leNat bs < 2 ^ (8 * bs.length) := by
  induction bs with
  | nil => simp [leNat]
  | cons b r ih =>
    have hb := b.isLt
    have e : 2 ^ (8 * (b :: r).length) = 256 * 2 ^ (8 * r.length) := by
      rw [List.length_cons, Nat.mul_add, Nat.add_comm, Nat.pow_add]
    rw [e, leNat]
    omega

/-! ## The response buffer -/

theorem State.rspPut_eq (s : State) (i n : Nat) (bs : List Byte) :
    s.rspPut i n bs = { s with reg := (s.rspPut i n bs).reg } := by
  induction n generalizing s i bs with
  | zero => rfl
  | succ n ih => rw [State.rspPut, ih]; rfl

theorem State.rd_rspPut_other (s : State) {i n p o : Nat} (bs : List Byte) (hn : i + n ≤ 1024) (ho : o < 65536)
    (h : ∀ k, k < 1024 → (p, o) ≠ (qzPage, Reg.qzmRspBuf + 4 * k)) : (s.rspPut i n bs).rd p o = s.rd p o := by
  induction n generalizing s i bs with
  | zero => rfl
  | succ n ih =>
    have hne : p ≠ qzPage ∨ o ≠ Reg.qzmRspBuf + 4 * i :=
      not_and_or.1 fun e => h i (by omega) (Prod.ext_iff.2 e)
    rw [State.rspPut, ih _ _ (by omega), State.rd_wr_other _ _ (by unfold Reg.qzmRspBuf; omega) ho hne]

/-- A word of the response buffer holds the next four bytes. -/
theorem State.rd_rspPut (s : State) {i n k : Nat} (bs : List Byte) (hn : i + n ≤ 1024) (hk : k < n) :
    (s.rspPut i n bs).rd qzPage (Reg.qzmRspBuf + 4 * (i + k)) = BitVec.ofNat 32 (leNat ((bs.drop (4 * k)).take 4)) := by
  induction n generalizing s i bs k with
  | zero => omega
  | succ n ih =>
    rw [State.rspPut]
    cases k with
    | zero =>
      have later (u : State) (j m : Nat) (cs : List Byte) (hj : i < j) (hm : j + m ≤ 1024) :
          (u.rspPut j m cs).rd qzPage (Reg.qzmRspBuf + 4 * i) = u.rd qzPage (Reg.qzmRspBuf + 4 * i) := by
        induction m generalizing u j cs with
        | zero => rfl
        | succ m ihm =>
          rw [State.rspPut, ihm _ _ _ (by omega) (by omega), State.rd_wr_other _ _ (by unfold Reg.qzmRspBuf; omega)
            (by unfold Reg.qzmRspBuf; omega) (.inr (by omega))]
      exact (later _ _ _ _ (by omega) (by omega)).trans (State.rd_wr_same ..)
    | succ k =>
      have := ih (s.wr qzPage (Reg.qzmRspBuf + 4 * i) (BitVec.ofNat 32 (leNat (bs.take 4)))) (i := i + 1) (bs.drop 4)
        (by omega) (show k < n by omega)
      rw [List.drop_drop, show i + 1 + k = i + (k + 1) by omega, show 4 + 4 * k = 4 * (k + 1) by omega] at this
      exact this

/-! ## The answer -/

/-- The registers that tell of an answer, beside the response buffer. -/
def State.answerRegs (s : State) (tag status len : Nat) : State :=
  ((((s.wfld qzPage Reg.qzmMbRes 7 0 tag).wfld qzPage Reg.qzmMbRes 15 8 status).seqUp qzPage Reg.qzmMbRes).wfld
    qzPage Reg.qzmMbResLen 12 0 len).wfld qzPage Reg.qzmMbStatus 0 0 0

theorem State.bump_mbReqs (u : State) : u.bump qzPage .qzmMbReqs = u.bumpW qzPage .qzmMbReqs 0 1 := by
  have hc : Ctr.cls .qzmMbReqs = .w := rfl
  rw [State.bump, State.bumpAt, hc]

theorem State.answer_eq (s : State) (tag status : Nat) (rsp : List Byte) : s.answer tag status rsp =
    (((s.rspPut 0 ((rsp.length + 3) / 4) rsp).answerRegs tag status rsp.length).setQz fun q => { q with mb := none }).bumpW
      qzPage .qzmMbReqs 0 1 := by
  simp only [State.answer, State.answerRegs, State.bump_mbReqs]

theorem State.rd_answer (s : State) (tag status : Nat) (rsp : List Byte) (p o : Nat) : (s.answer tag status rsp).rd p o =
    ((s.rspPut 0 ((rsp.length + 3) / 4) rsp).answerRegs tag status rsp.length).rd p o := by
  rw [State.answer_eq]
  exact State.rd_congr (by simp [State.bumpW]) p o

theorem State.only_rspPut (s : State) (i n : Nat) (bs : List Byte) : s.Only (s.rspPut i n bs) [.reg] := by
  rw [State.rspPut_eq]
  exact s.only_setReg _

theorem State.only_answerRegs (s : State) (tag status len : Nat) : s.Only (s.answerRegs tag status len) [.reg] := by
  have hf : State.Frame mailRegs [.reg] s (s.answerRegs tag status len) :=
    (((((State.Frame.refl s).wfld _ _ _ (by decide) (by simp [mailRegs]) (by decide)).wfld _ _ _ (by decide) (by simp [mailRegs])
      (by decide)).seqUp (by decide) (by simp [mailRegs]) (by decide)).wfld _ _ _ (by decide) (by simp [mailRegs])
      (by decide)).wfld _ _ _ (by decide) (by simp [mailRegs]) (by decide)
  exact hf.only

theorem State.only_setQz (s : State) (f : QzSt → QzSt) : s.Only (s.setQz f) [.qz] := by
  intro x hx
  cases x <;> simp [Part.same] at hx ⊢

section
variable (s : State) (tag status : Nat) (rsp : List Byte)

theorem State.only_answerRegs_rspPut (n : Nat) :
    s.Only ((s.rspPut 0 n rsp).answerRegs tag status rsp.length) [.reg] :=
  (s.only_rspPut 0 n rsp).trans ((s.rspPut 0 n rsp).only_answerRegs tag status rsp.length)

theorem State.only_answer : s.Only (s.answer tag status rsp) [.reg, .ctr, .qz] := by
  rw [State.answer_eq]
  generalize hv : (s.rspPut 0 ((rsp.length + 3) / 4) rsp).answerRegs tag status rsp.length = v
  have h : s.Only v [.reg] := hv ▸ s.only_answerRegs_rspPut tag status rsp _
  exact ((h.mono (by decide)).trans ((v.only_setQz _).mono (by decide))).trans
    ((State.only_withCtr (v.setQz _) _).mono (by decide))

theorem State.answer_qz : (s.answer tag status rsp).qz = { s.qz with mb := none } := by
  rw [State.answer_eq]
  exact congrArg (fun q : QzSt => { q with mb := none }) (s.only_answerRegs_rspPut tag status rsp _ .qz (by decide))

theorem State.ctrAt_answer : (s.answer tag status rsp).ctrAt qzPage .qzmMbReqs 0 =
    (s.ctrAt qzPage .qzmMbReqs 0 + 1) % 2 ^ 64 := by
  have hc := s.only_answerRegs_rspPut tag status rsp ((rsp.length + 3) / 4) .ctr (by decide)
  rw [State.answer_eq, State.bumpW, State.ctrAt_setCtr, State.ctrAt, State.setQz_ctr, hc]
  rfl

theorem State.rd_answerRegs_other (len : Nat) {p o : Nat} (ho : o < 65536) (h1 : (p, o) ≠ (qzPage, Reg.qzmMbRes))
    (h2 : (p, o) ≠ (qzPage, Reg.qzmMbResLen)) (h3 : (p, o) ≠ (qzPage, Reg.qzmMbStatus)) :
    (s.answerRegs tag status len).rd p o = s.rd p o := by
  have hne {q n : Nat} (h : (p, o) ≠ (q, n)) : p ≠ q ∨ o ≠ n := not_and_or.1 fun e => h (Prod.ext_iff.2 e)
  rw [State.answerRegs, State.rd_wfld_other _ _ _ _ (by decide) ho (hne h3), State.rd_wfld_other _ _ _ _ (by decide) ho (hne h2),
    State.seqUp, State.rd_wfld_other _ _ _ _ (by decide) ho (hne h1), State.rd_wfld_other _ _ _ _ (by decide) ho (hne h1),
    State.rd_wfld_other _ _ _ _ (by decide) ho (hne h1)]

/-- An answer leaves every register that it does not name. -/
theorem State.rd_answer_other (hl : rsp.length ≤ 4096) {p o : Nat} (ho : o < 65536) (h : (p, o) ∉ mailRegs) :
    (s.answer tag status rsp).rd p o = s.rd p o := by
  simp only [mailRegs, List.mem_append, List.mem_cons, List.not_mem_nil, or_false, List.mem_map, List.mem_range, not_or,
    not_exists, not_and] at h
  obtain ⟨⟨h1, h2, h3⟩, hbuf⟩ := h
  rw [State.rd_answer, State.rd_answerRegs_other _ _ _ _ ho h1 h2 h3,
    State.rd_rspPut_other _ _ (by omega) ho fun k hk e => hbuf k hk e.symm]

theorem State.rspByte_answer (hl : rsp.length ≤ 4096) {i : Nat} (hi : i < rsp.length) :
    (s.answer tag status rsp).rspByte i = rsp.getD i 0 := by
  have hw : (s.answer tag status rsp).rd qzPage (Reg.qzmRspBuf + i / 4 * 4) =
      BitVec.ofNat 32 (leNat ((rsp.drop (4 * (i / 4))).take 4)) := by
    have := s.rd_rspPut (i := 0) (n := (rsp.length + 3) / 4) (k := i / 4) rsp (by omega) (by omega)
    rw [Nat.zero_add, Nat.mul_comm] at this
    rw [State.rd_answer, State.rd_answerRegs_other _ _ _ _ (by unfold Reg.qzmRspBuf; omega)]
    · rw [Nat.mul_comm 4]; exact this
    all_goals exact fun e => absurd (Prod.ext_iff.1 e).2 (by unfold Reg.qzmRspBuf; simp only [Reg.qzmMbRes, Reg.qzmMbResLen, Reg.qzmMbStatus]; omega)
  have hlt : leNat ((rsp.drop (4 * (i / 4))).take 4) < 2 ^ 32 := by
    refine Nat.lt_of_lt_of_le (leNat_lt _) (Nat.pow_le_pow_right (by decide) ?_)
    have := List.length_take_le 4 (rsp.drop (4 * (i / 4)))
    omega
  rw [State.rspByte, hw, BitVec.toNat_ofNat, Nat.mod_eq_of_lt hlt, leNat_byte, List.getD_eq_getElem?_getD,
    List.getElem?_take_of_lt (Nat.mod_lt _ (by decide)), List.getElem?_drop, ← List.getD_eq_getElem?_getD, Nat.div_add_mod]

end

/-! ## What a command has done before its answer -/

/-- `u` is `s` as a command leaves it before it answers: of the registers, those of `l` are written and none that the answer counts on. -/
structure State.Serving (l : List (Nat × Nat)) (ps : List Part) (s u : State) : Prop where
  frame : State.Frame (l ++ mailRegs) ps s u
  seq : u.rf qzPage Reg.qzmMbRes 31 24 = s.rf qzPage Reg.qzmMbRes 31 24
  count : u.ctrAt qzPage .qzmMbReqs 0 = s.ctrAt qzPage .qzmMbReqs 0

section
variable {l : List (Nat × Nat)} {ps : List Part} {s u v : State}

theorem State.Serving.refl (s : State) : State.Serving l ps s s := ⟨.refl s, rfl, rfl⟩

theorem State.Serving.parts {m : List Part} (h : State.Serving l ps s u) (hr : v.reg = u.reg) (hc : v.ctr = u.ctr)
    (ho : u.Only v m) (hm : ∀ x ∈ m, x ∈ ps) : State.Serving l ps s v where
  frame := h.frame.parts hr ho hm
  seq := (congrArg (fld · 31 24) (State.rd_congr hr ..)).trans h.seq
  count := by rw [State.ctrAt, hc]; exact h.count

theorem State.Serving.wr (h : State.Serving l ps s u) {p o : Nat} (w : Word) (ho : o < 65536) (hr : (p, o) ∈ l ++ mailRegs)
    (hne : (qzPage, Reg.qzmMbRes) ≠ (p, o)) (hp : .reg ∈ ps) : State.Serving l ps s (u.wr p o w) where
  frame := h.frame.wr w ho hr hp
  seq := by
    rw [State.rf, State.rd_wr_other _ _ ho (by decide) (not_and_or.1 fun e => hne (Prod.ext_iff.2 e))]
    exact h.seq
  count := by rw [State.ctrAt, State.wr_ctr]; exact h.count

theorem State.Serving.raise (h : State.Serving l ps s u) (p : Nat) (e : Event) (a b : Nat)
    (hp : ∀ x ∈ noted, x ∈ ps) : State.Serving l ps s (u.raise p e a b) where
  frame := h.frame.raise _ _ _ _ hp
  seq := (congrArg (fld · 31 24) ((u.raised_raise ..).rd _ _ (by decide) (by decide))).trans h.seq
  count := ((u.raised_raise ..).ctr _ _ _ (by decide) (by decide)).trans h.count

theorem State.Serving.bumpN (h : State.Serving l ps s u) (p : Nat) {c : Ctr} (n : Nat) (hc : c ≠ .qzmMbReqs)
    (hp : ∀ x ∈ noted, x ∈ ps) : State.Serving l ps s (u.bumpN p c n) where
  frame := h.frame.noted (u.noted_bumpN ..) hp
  seq := (congrArg (fld · 31 24) ((u.bumpAt_other _ _ _ _ _ (by decide)).1 _ _ (by decide) (by decide))).trans h.seq
  count := ((u.bumpAt_other _ _ _ _ _ (by decide)).2 _ _ _ (by decide) hc.symm (by decide)).trans h.count

theorem State.Serving.accessErr (h : State.Serving l ps s u) (p o cause : Nat) (src : Src) (w : Word)
    (hp : ∀ x ∈ noted, x ∈ ps) : State.Serving l ps s (u.accessErr p o cause src w) where
  frame := h.frame.noted (u.noted_accessErr ..) hp
  seq := (congrArg (fld · 31 24) ((u.noted_accessErr ..).rd _ _ (by decide))).trans h.seq
  count := by
    rw [← h.count, ← (u.bumpAt_other p .errCount 0 1 _ (by decide)).2 qzPage .qzmMbReqs 0 (by decide) (by decide) (by decide)]
    unfold State.accessErr
    extract_lets b info v
    split
    · rfl
    · rw [(v.raised_raise p .pageAccessErr info.toNat 0).ctr _ _ _ (by decide) (by decide)]
      simp only [v, State.ctrAt, State.wr_ctr]
      rfl

theorem State.Serving.setQz (h : State.Serving l ps s u) (f : QzSt → QzSt) (hp : .qz ∈ ps) : State.Serving l ps s (u.setQz f) :=
  h.parts rfl rfl (u.only_setQz f) (by simpa using hp)

theorem State.Serving.takeFree (h : State.Serving l ps s u) (hp : .free ∈ ps) : State.Serving l ps s u.takeFree :=
  h.parts rfl rfl u.only_takeFree (by simpa using hp)

theorem State.Serving.tset (h : State.Serving l ps s u) (p t b e : Nat) (ws : List Word) (hp : .tbl ∈ ps) :
    State.Serving l ps s (u.tset p t b e ws) := h.parts rfl rfl (u.only_tset p t b e ws) (by simpa using hp)

/-- The request is answered as R677 says. -/
theorem State.Serving.answer (h : State.Serving l ps s u) (hp : ∀ x ∈ noted, x ∈ ps) (tag : Nat) {status : Nat} {rsp : List Byte}
    (hs : status < 256) (hl : rsp.length ≤ 4096) :
    s.Replies (u.answer tag status rsp) tag status rsp l ∧ s.Only (u.answer tag status rsp) ps := by
  have hput : (u.rspPut 0 ((rsp.length + 3) / 4) rsp).rd qzPage Reg.qzmMbRes = u.rd qzPage Reg.qzmMbRes :=
    u.rd_rspPut_other _ (by omega) (by decide) fun k _ e => absurd (Prod.ext_iff.1 e).2 (by
      unfold Reg.qzmRspBuf; simp only [Reg.qzmMbRes]; omega)
  have hres : (u.answer tag status rsp).rd qzPage Reg.qzmMbRes =
      withFld (withFld (withFld (u.rd qzPage Reg.qzmMbRes) 7 0 tag) 15 8 status) 31 24
        ((fld (withFld (withFld (u.rd qzPage Reg.qzmMbRes) 7 0 tag) 15 8 status) 31 24 + 1) % 256) := by
    rw [State.rd_answer, State.answerRegs, State.rd_wfld_other _ _ _ _ (by decide) (by decide) (by decide),
      State.rd_wfld_other _ _ _ _ (by decide) (by decide) (by decide), State.seqUp, State.rd_wfld_same, State.rf,
      State.rd_wfld_same, State.rd_wfld_same, hput]
  have hreg : Part.reg ∈ ps := hp _ (by decide)
  have hctr : Part.ctr ∈ ps := hp _ (by decide)
  have hqz : Part.qz ∈ ps := hp _ (by decide)
  have hfr : State.Frame (l ++ mailRegs) ps s (u.answer tag status rsp) := h.frame.trans
    ⟨fun p o ho hm _ => u.rd_answer_other tag status rsp hl ho fun hx => hm (List.mem_append_right _ hx),
      (u.only_answer tag status rsp).mono (by simp [hreg, hctr, hqz])⟩
  refine ⟨⟨?_, ?_, ?_, ?_, fun i hi => u.rspByte_answer tag status rsp hl hi, ⟨?_, ?_⟩, ?_, hfr.regs⟩, hfr.only⟩
  · rw [State.rf, hres, fld_withFld_other _ _ (.inl (by decide)), fld_withFld _ _ (by decide) (by decide)]
    exact Nat.mod_eq_of_lt hs
  · rw [State.rf, hres, fld_withFld_other _ _ (.inl (by decide)), fld_withFld_other _ _ (.inl (by decide)),
      fld_withFld _ _ (by decide) (by decide)]
    rfl
  · rw [State.rf, hres, fld_withFld _ _ (by decide) (by decide), fld_withFld_other _ _ (.inr (by decide)),
      fld_withFld_other _ _ (.inr (by decide)), ← h.seq, State.rf]
    exact Nat.mod_mod ..
  · rw [State.rf, State.rd_answer, State.answerRegs, State.rd_wfld_other _ _ _ _ (by decide) (by decide) (by decide),
      State.rd_wfld_same, fld_withFld _ _ (by decide) (by decide)]
    exact Nat.mod_eq_of_lt (by omega)
  · rw [State.answer_qz]
  · rw [State.rf, State.rd_answer, State.answerRegs, State.rd_wfld_same, fld_withFld _ _ (by decide) (by decide)]
    rfl
  · rw [State.ctrAt_answer, h.count]

end

/-- An event after the answer. -/
theorem State.Replies.raise {s t : State} {tag status : Nat} {rsp : List Byte} {l : List (Nat × Nat)}
    (h : s.Replies t tag status rsp l) (hl : rsp.length ≤ 4096) (p : Nat) (e : Event) (a b : Nat) :
    s.Replies (t.raise p e a b) tag status rsp l := by
  have hn := t.noted_raise p e a b
  have hrd (o : Nat) (ho : o % 65536 ∉ noteOffs) : (t.raise p e a b).rd qzPage o = t.rd qzPage o := hn.rd _ _ ho
  have hrf (o hi lo : Nat) (ho : o % 65536 ∉ noteOffs) : (t.raise p e a b).rf qzPage o hi lo = t.rf qzPage o hi lo :=
    congrArg (fld · hi lo) (hrd o ho)
  have hcount := (t.raised_raise p e a b).ctr qzPage .qzmMbReqs 0 (by decide) (by decide)
  obtain ⟨hmb, hst⟩ := h.idle
  refine ⟨(hrf _ _ _ (by decide)).trans h.answers, (hrf _ _ _ (by decide)).trans h.echoes, (hrf _ _ _ (by decide)).trans h.seq,
    (hrf _ _ _ (by decide)).trans h.length, fun i hi => ?_, ⟨?_, (hrf _ _ _ (by decide)).trans hst⟩, hcount.trans h.counted,
    h.regs.trans (hn.regsBut _)⟩
  · have hbuf : (Reg.qzmRspBuf + i / 4 * 4) % 65536 ∉ noteOffs := by
      simp only [noteOffs, List.mem_cons, List.not_mem_nil, or_false, Reg.qzmRspBuf]
      omega
    rw [← h.bytes i hi, State.rspByte, hrd _ hbuf]
    rfl
  · rw [hn.qz, hmb]

/-! ## The request -/

/-- A request that waits and is allowed is served. -/
theorem State.Asked.serve {s : State} {cmd n tag : Nat} (h : s.Asked cmd n tag) (k : Nat → State) : s.serve cmd n k = k tag := by
  obtain ⟨⟨len, hmb, hlen⟩, hcmd, hstage, hallowed⟩ := h
  simp [State.serve, hmb, hcmd, hstage, hallowed, Nat.not_lt.2 hlen]

/-- A command that is served with the outcome t. -/
theorem State.Asked.answers {s t : State} {c : Instr} {cmd n tag : Nat} {k : Nat → State} {P : State → Prop} (h : s.Asked cmd n tag)
    (he : exec c s = .next (s.serve cmd n k)) (hk : k tag = t) (hP : P t) : Answers c s P :=
  ⟨t, he.trans (congrArg Host.Outcome.next ((h.serve k).trans hk)), hP⟩

/-- A command of the main domain while that is out of reset (R662). -/
theorem State.Asked.answersMain {s t : State} {c : Instr} {cmd n tag : Nat} {k : Nat → State} {P : State → Prop}
    (h : s.Asked cmd n tag) (hm : s.qz.mainOk = true) (he : exec c s = .next (s.serveMain cmd n k)) (hk : k tag = t) (hP : P t) :
    Answers c s P := h.answers he ((if_pos hm).trans hk) hP

section
variable {s u : State} {l : List (Nat × Nat)} {ps : List Part}

theorem oneByte_fits (v : Nat) : (leBytes 1 v).length ≤ 4096 := by rw [leBytes_length]; decide

/-- What an answer leaves of the island. -/
theorem State.qzField_answer {α : Type} (f : QzSt → α) (hf : ∀ q, f { q with mb := none } = f q) (tag status : Nat)
    (rsp : List Byte) : f (u.answer tag status rsp).qz = f u.qz := by rw [State.answer_qz, hf]

/-- What events and counts leave of the island. -/
theorem State.Noted.qzField {α : Type} {t : State} (h : s.Noted t) (f : QzSt → α)
    (hf : ∀ q log next, f { q with log := log, logNext := next } = f q) : f t.qz = f s.qz := by rw [h.qz, hf]

/-- A refusal in the current state. -/
theorem State.Serving.refuseState (h : State.Serving l ps s u) (hp : ∀ x ∈ noted, x ∈ ps) (tag reason : Nat) :
    s.Replies (u.refuseState tag reason) tag 3 [BitVec.ofNat 8 reason] l ∧ s.Only (u.refuseState tag reason) ps :=
  h.answer hp tag (by decide) (oneByte_fits reason)

/-- A register of another page, of the header or between the mailbox's and the response buffer, an answer leaves. -/
theorem notMem_mailRegs {p o : Nat} (h : p ≠ qzPage ∨ o < Reg.qzmMbRes ∨ (Reg.qzmMbStatus < o ∧ o < Reg.qzmRspBuf)) : (p, o) ∉ mailRegs := by
  intro hm
  simp only [mailRegs, List.mem_append, List.mem_cons, List.not_mem_nil, or_false, List.mem_map, List.mem_range, Prod.mk.injEq,
    Reg.qzmMbRes, Reg.qzmMbResLen, Reg.qzmMbStatus, Reg.qzmRspBuf] at hm h
  omega

theorem State.told_answer {tag status : Nat} {rsp : List Byte} (hl : rsp.length ≤ 4096) {p : Nat} {e : Event} (h : u.Told p e) :
    (u.answer tag status rsp).Told p e := by
  rw [State.Told, State.rb, u.rd_answer_other tag status rsp hl (by decide) (notMem_mailRegs (.inr (by decide)))]
  exact h

/-- A container is refused with its cause (R645). -/
structure State.ImageRefused (s t : State) (tag cause : Nat) : Prop where
  told : t.Told qzPage .qzmImageRefused
  measured : t.qz.m = s.qz.m
  nor : t.qz.nor = s.qz.nor
  stage : t.bootStage = s.bootStage
  replies : s.Replies t tag 4 [BitVec.ofNat 8 cause] []
  only : s.Only t noted

theorem State.imageRefused (s : State) (tag cause : Nat) (b : List Byte) (arg : Nat) :
    s.ImageRefused (s.refuseImage tag cause b arg) tag cause := by
  have hn := s.noted_raise qzPage .qzmImageRefused (cause + drType b * 2 ^ 8) arg
  have hs : State.Serving [] noted s _ := (State.Serving.refl s).raise qzPage .qzmImageRefused (cause + drType b * 2 ^ 8) arg
    fun _ h => h
  have ht := s.told_raise qzPage .qzmImageRefused (cause + drType b * 2 ^ 8) arg
  obtain ⟨hr, ho⟩ := hs.answer (fun _ h => h) tag (status := 4) (by decide) (oneByte_fits cause)
  refine ⟨State.told_answer (oneByte_fits cause) ht, ?_, ?_, ?_, hr, ho⟩
  · exact (State.qzField_answer QzSt.m (fun _ => rfl) ..).trans (hn.qzField QzSt.m fun _ _ _ => rfl)
  · exact (State.qzField_answer QzSt.nor (fun _ => rfl) ..).trans (hn.qzField QzSt.nor fun _ _ _ => rfl)
  · exact congrArg (fld · 3 2) (hr.regs _ _ (by decide) (notMem_mailRegs (.inl (by decide))) (by decide))

end

end Sys2Proof.Machine
end

section
/-!
SUPPORT. What the mailbox installs: the NOR and DRAM as they read after a container was placed, the sections of a container that is
verified, and the start of firmware (R643, R645, R646, R666, R682, R685).
-/

namespace Sys2Proof.Machine

/-! ## The NOR -/

/-- Bytes outside the range that is erased stay. -/
theorem get_norErase_other (m : NMap Byte) {a n k : Nat} (h : k < a ∨ a + n ≤ k) :
    NMap.get norErased (norErase m a n) k = NMap.get norErased m k :=
  NMap.get_keep (fun k => !decide (a ≤ k ∧ k < a + n)) m (by simp; omega)

/-- A byte that was erased reads 0xFF. -/
theorem get_norErase (m : NMap Byte) {a n k : Nat} (h : a ≤ k) (hk : k < a + n) :
    NMap.get norErased (norErase m a n) k = 0xFF :=
  NMap.get_keep_none (fun k => !decide (a ≤ k ∧ k < a + n)) m (by simp; omega)

theorem get_norPut_other (m : NMap Byte) {a k : Nat} (bs : List Byte) (h : k < a ∨ a + bs.length ≤ k) :
    NMap.get norErased (norPut m a bs) k = NMap.get norErased m k := by
  induction bs generalizing m a with
  | nil => rfl
  | cons b r ih =>
    simp only [List.length_cons] at h
    rw [norPut, ih _ (by omega), NMap.get_set_ne _ _ (by omega)]

theorem get_norPut (m : NMap Byte) (a i : Nat) (bs : List Byte) (h : i < bs.length) :
    NMap.get norErased (norPut m a bs) (a + i) = bs[i] := by
  induction bs generalizing m a i with
  | nil => simp at h
  | cons b r ih =>
    rw [norPut]
    cases i with
    | zero => exact (get_norPut_other _ _ (.inl (by omega))).trans (NMap.get_set_same ..)
    | succ i =>
      have := ih (NMap.set norErased m a b) (a + 1) i (by simpa using h)
      rw [show a + (i + 1) = a + 1 + i by omega, this]
      rfl

/-- Bytes of the NOR read back as they were written. -/
theorem State.norBytes_norPut {s : State} {m : NMap Byte} {a : Nat} {bs : List Byte} (h : s.qz.nor = norPut m a bs) :
    s.norBytes a bs.length = bs := by
  refine List.ext_getElem (by simp [State.norBytes]) fun i h1 h2 => ?_
  simp only [State.norBytes, List.getElem_map, List.getElem_range, h, get_norPut m a i bs h2]

/-! ## DRAM -/

theorem State.dramLost_congr {s t : State} (hr : t.reg = s.reg) (hd : t.mem.dead = s.mem.dead) (a : Nat) :
    t.dramLost a = s.dramLost a := by
  simp only [State.dramLost, State.drcCap, State.drcChan, State.drcRank, State.drcLine, State.drcRb, State.drcBits,
    State.drcGrain, State.rd64, State.rf, State.rd_congr hr, hd]
  rfl

/-- A write to DRAM changes memory alone. -/
theorem State.dramSet_mem (s : State) (a : Nat) (b : Byte) :
    ∃ m, s.dramSet a b = s.setMem (fun _ => m) ∧ m.dead = s.mem.dead := by
  unfold State.dramSet
  split
  · exact ⟨s.mem, rfl, rfl⟩
  · split
    · exact ⟨_, rfl, rfl⟩
    · exact ⟨_, rfl, rfl⟩

theorem State.dramFill_mem (s : State) (a : Nat) (bs : List Byte) :
    ∃ m, s.dramFill a bs = s.setMem (fun _ => m) ∧ m.dead = s.mem.dead := by
  induction bs generalizing s a with
  | nil => exact ⟨s.mem, rfl, rfl⟩
  | cons b r ih =>
    obtain ⟨m, hm, hd⟩ := s.dramSet_mem a b
    obtain ⟨m', hm', hd'⟩ := ih (s.dramSet a b) (a + 1)
    rw [hm] at hm' hd'
    refine ⟨m', ?_, hd'.trans hd⟩
    rw [State.dramFill, hm, hm']
    rfl

theorem State.dramPut_mem (s : State) (a : Nat) (bs : List Byte) :
    ∃ m, s.dramPut a bs = s.setMem (fun _ => m) ∧ m.dead = s.mem.dead := by
  obtain ⟨m, hm, hd⟩ := s.dramFill_mem a bs
  unfold State.dramPut
  extract_lets t
  have ht : t = s.setMem fun _ => m := hm
  split
  · exact ⟨m, ht, hd⟩
  · rw [ht]; exact ⟨_, rfl, hd⟩

theorem State.dramLost_dramPut (s : State) (a : Nat) (bs : List Byte) (x : Nat) : (s.dramPut a bs).dramLost x = s.dramLost x := by
  obtain ⟨m, hm, hd⟩ := s.dramPut_mem a bs
  rw [hm]
  exact State.dramLost_congr (s := s) (t := s.setMem fun _ => m) rfl hd x

theorem State.dramByte_dramFill_other (s : State) {a x : Nat} (bs : List Byte) (h : x < a ∨ a + bs.length ≤ x) :
    (s.dramFill a bs).dramByte x = s.dramByte x := by
  induction bs generalizing s a with
  | nil => rfl
  | cons b r ih =>
    simp only [List.length_cons] at h
    rw [State.dramFill, ih _ (by omega), State.dramByte_dramSet_other _ _ (by omega)]

theorem State.dramByte_dramFill (s : State) {a i : Nat} (bs : List Byte) (hi : i < bs.length) (hl : s.dramLost (a + i) = false) :
    (s.dramFill a bs).dramByte (a + i) = bs.getD i 0 := by
  induction bs generalizing s a i with
  | nil => simp at hi
  | cons b r ih =>
    rw [State.dramFill]
    cases i with
    | zero =>
      exact (State.dramByte_dramFill_other _ _ (.inl (by omega))).trans (s.dramByte_dramSet a b hl)
    | succ i =>
      obtain ⟨m, hm, hd⟩ := s.dramSet_mem a b
      have hl' : (s.dramSet a b).dramLost (a + 1 + i) = false := by
        rw [hm, show a + 1 + i = a + (i + 1) by omega]
        exact (State.dramLost_congr (s := s) (t := s.setMem fun _ => m) rfl hd _).trans hl
      rw [List.getD_cons_succ, ← ih (s.dramSet a b) (by simpa using hi) hl', show a + 1 + i = a + (i + 1) by omega]

theorem State.dramByte_dramPut (s : State) (a : Nat) (bs : List Byte) (x : Nat) :
    (s.dramPut a bs).dramByte x = (s.dramFill a bs).dramByte x := by
  unfold State.dramPut
  extract_lets t
  split <;> rfl

/-! ## A container that is verified -/

theorem State.drLayout_of_drCause {s : State} {b : List Byte} {x y : Bool} (h : s.drCause b x y = 0) : drLayout b = true := by
  by_contra hl
  have hl' : drLayout b = false := by simpa using hl
  simp only [State.drCause, hl', Bool.not_false, if_true] at h
  split at h
  · exact absurd h (by decide)
  · split at h <;> exact absurd h (by decide)

theorem slice_length {b : List Byte} {o n : Nat} (h : o + n ≤ b.length) : (slice b o n).length = n := by
  rw [slice, List.length_take, List.length_drop]
  omega

/-- What R643 asks of a service image's sections. -/
structure SvcLayout (b : List Byte) : Prop where
  inside : ∀ x ∈ drSects b, x.1 + x.2.1 ≤ b.length
  code : ∀ x ∈ drSects b, x.2.2.1 = 1 → x.2.1 % 4 = 0 ∧ x.2.1 ≤ 32768
  const : ∀ x ∈ drSects b, x.2.2.1 = 2 → x.2.1 ≤ 24576

theorem svcLayout_of_drLayout {b : List Byte} (h : drLayout b = true) (ht : drType b ≠ 1) : SvcLayout b := by
  simp only [drLayout, ht, if_false, Bool.and_eq_true, decide_eq_true_eq, List.all_eq_true, List.mem_filter] at h
  obtain ⟨⟨⟨⟨-, hin⟩, hlen⟩, -⟩, ⟨-, hcode⟩, hconst⟩ := h
  refine ⟨fun x hx => ?_, fun x hx hk => hcode x ⟨hx, hk⟩, fun x hx hk => hconst x ⟨hx, hk⟩⟩
  obtain ⟨-, -, hle⟩ := hin x hx
  exact hle.trans hlen

/-- The bytes of a section are as many as its header says. -/
theorem SvcLayout.drBytes_length {b : List Byte} (h : SvcLayout b) (k : Nat) : (drBytes b k).length = 0 ∨
    ∃ x ∈ drSects b, x.2.2.1 = k ∧ (drBytes b k).length = x.2.1 := by
  unfold drBytes
  cases hf : (drSects b).find? fun x => decide (x.2.2.1 = k) with
  | none => exact .inl rfl
  | some x =>
    have hx := List.mem_of_find?_eq_some hf
    exact .inr ⟨x, hx, by simpa using List.find?_some hf, slice_length (h.inside x hx)⟩

theorem SvcLayout.code_length {b : List Byte} (h : SvcLayout b) : (drBytes b 1).length % 4 = 0 ∧ (drBytes b 1).length ≤ 32768 := by
  rcases h.drBytes_length 1 with e | ⟨x, hx, hk, e⟩
  · rw [e]; decide
  · rw [e]; exact h.code x hx hk

theorem SvcLayout.const_length {b : List Byte} (h : SvcLayout b) : (drBytes b 2).length ≤ 24576 := by
  rcases h.drBytes_length 2 with e | ⟨x, hx, hk, e⟩
  · rw [e]; decide
  · rw [e]; exact h.const x hx hk

/-- A free place lies on a boundary of 64 bytes (R141). -/
theorem State.freePlace_aligned {s : State} {i a : Nat} (h : s.freePlace i = some a) : a % 64 = 0 := by
  unfold State.freePlace at h
  split at h
  · cases h
  · next base len _ =>
    obtain ⟨k, -, rfl⟩ := List.mem_map.1 (List.mem_of_find?_eq_some h)
    unfold imageSpan
    omega

/-! ## Firmware starts (R666) -/

/-- The registers that the start of firmware writes, beside the mailbox's own. -/
def fwRegs : List (Nat × Nat) :=
  [(0, Reg.sysBoot), (0, Reg.sysBootSvn), (0, Reg.sysIdStatus), (qzPage, Reg.qzmWdt), (qzPage, Reg.pageReady)]

def fwParts : List Part := .free :: noted

/-- `v` is `s` with container b loaded as the firmware that starts, and the watchdog armed. -/
structure State.FwLoaded (s v : State) (b : List Byte) : Prop where
  serving : State.Serving fwRegs fwParts s v
  code : v.qz.code = drBytes b 1
  started : v.qz.started = true
  nor : v.qz.nor = s.qz.nor
  svn : v.rd 0 Reg.sysBootSvn = BitVec.ofNat 32 (drSvn b)
  armed : v.rb qzPage Reg.qzmWdt 0 = true

section
variable {s v w : State} {b : List Byte}

theorem State.FwLoaded.setQz (h : s.FwLoaded v b) (f : QzSt → QzSt) (hc : (f v.qz).code = v.qz.code)
    (hs : (f v.qz).started = v.qz.started) (hn : (f v.qz).nor = v.qz.nor) : s.FwLoaded (v.setQz f) b :=
  ⟨h.serving.setQz f (by decide), hc.trans h.code, hs.trans h.started, hn.trans h.nor, h.svn, h.armed⟩

/-- Events and counts. -/
theorem State.FwLoaded.noted (h : s.FwLoaded v b) (hn : v.Noted w) (hw : State.Serving fwRegs fwParts s w) : s.FwLoaded w b where
  serving := hw
  code := (hn.qzField QzSt.code fun _ _ _ => rfl).trans h.code
  started := (hn.qzField QzSt.started fun _ _ _ => rfl).trans h.started
  nor := (hn.qzField QzSt.nor fun _ _ _ => rfl).trans h.nor
  svn := (hn.rd _ _ (by decide)).trans h.svn
  armed := (congrArg (bit · 0) (hn.rd _ _ (by decide))).trans h.armed

theorem State.FwLoaded.raise (h : s.FwLoaded v b) (p : Nat) (e : Event) (x y : Nat) : s.FwLoaded (v.raise p e x y) b :=
  h.noted (v.noted_raise ..) (h.serving.raise _ _ _ _ (by decide))

theorem State.FwLoaded.wr (h : s.FwLoaded v b) {p o : Nat} (x : Word) (ho : o < 65536) (hr : (p, o) ∈ fwRegs ++ mailRegs)
    (hne : ∀ y ∈ [(qzPage, Reg.qzmMbRes), (0, Reg.sysBootSvn), (qzPage, Reg.qzmWdt)], y ≠ (p, o)) : s.FwLoaded (v.wr p o x) b := by
  have hrd {q n : Nat} (hn : n < 65536) (hy : (q, n) ≠ (p, o)) : (v.wr p o x).rd q n = v.rd q n :=
    v.rd_wr_other x ho hn (not_and_or.1 fun e => hy (Prod.ext_iff.2 e))
  refine ⟨h.serving.wr x ho hr (hne _ (by simp)) (by decide), h.code, h.started, h.nor, ?_, ?_⟩
  · exact (hrd (by decide) (hne _ (by simp))).trans h.svn
  · exact (congrArg (bit · 0) (hrd (by decide) (hne _ (by simp)))).trans h.armed

theorem State.FwLoaded.ite {c : Prop} [Decidable c] (h : s.FwLoaded v b) (g : s.FwLoaded w b) :
    s.FwLoaded (if c then v else w) b := by
  split
  · exact h
  · exact g

theorem State.FwLoaded.refreshReady (h : s.FwLoaded v b) (hostAct : Bool) : s.FwLoaded (v.refreshReady qzPage hostAct) b := by
  unfold State.refreshReady
  extract_lets r was u
  have hu : s.FwLoaded u b := (h.wr _ (by decide) (by decide) (by decide)).wr _ (by decide) (by decide) (by decide)
  exact .ite (hu.raise _ _ _ _) (.ite (hu.raise _ _ _ _) hu)

/-- R640: STAGE. -/
theorem State.FwLoaded.setStage (h : s.FwLoaded v b) (n : Nat) : s.FwLoaded (v.setStage n) b :=
  ((h.wr _ (by decide) (by decide) (by decide)).wr _ (by decide) (by decide) (by decide)).refreshReady _

theorem State.FwLoaded.mirrorScan (h : s.FwLoaded v b) : s.FwLoaded v.mirrorScan b := by
  unfold State.mirrorScan
  extract_lets marked good best u
  have hu : s.FwLoaded u b := h.noted (v.noted_bumpN ..) (h.serving.bumpN _ _ (by decide) (by decide))
  clear_value best
  cases best with
  | none => exact hu
  | some i => exact hu.setQz _ rfl rfl rfl

end

theorem State.Frame.refreshReady {rs : List (Nat × Nat)} {ps : List Part} {s t : State} (h : State.Frame rs ps s t) (p : Nat)
    (hostAct : Bool) (hr : (p, Reg.pageReady) ∈ rs) (hp : ∀ x ∈ Machine.noted, x ∈ ps) :
    State.Frame rs ps s (t.refreshReady p hostAct) := by
  unfold State.refreshReady
  extract_lets r was u
  have hu : State.Frame rs ps s u := (h.wfld _ _ _ (by decide) hr (hp _ (by decide))).wfld _ _ _ (by decide) hr (hp _ (by decide))
  exact .ite (hu.raise _ _ _ _ hp) (.ite (hu.raise _ _ _ _ hp) hu)

theorem State.bootStage_setStage (s : State) (n : Nat) : (s.setStage n).bootStage = n % 4 := by
  have hu : ((s.wfld 0 Reg.sysBoot 3 2 n).wfld qzPage Reg.qzmMbStatus 2 1 n).bootStage = n % 4 := by
    rw [State.bootStage, State.rf, State.rd_wfld_other _ _ _ _ (by decide) (by decide) (.inl (by decide)), State.rd_wfld_same,
      fld_withFld _ _ (by decide) (by decide)]
    rfl
  rw [State.setStage]
  generalize (s.wfld 0 Reg.sysBoot 3 2 n).wfld qzPage Reg.qzmMbStatus 2 1 n = u at hu ⊢
  have hf : State.Frame [(qzPage, Reg.pageReady)] noted u (u.refreshReady qzPage false) :=
    (State.Frame.refl u).refreshReady _ _ (List.mem_singleton.2 rfl) fun _ h => h
  exact (congrArg (fld · 3 2) (hf.rd (by decide) (by decide) (by decide))).trans hu

/-- `t` is `s` after firmware from container b has started. -/
structure State.FwStarted (s t : State) (b : List Byte) : Prop where
  loaded : s.FwLoaded t b
  stage : t.bootStage = 1
  told : t.Told qzPage .qzmBootBank

theorem State.FwStarted.raise {s t : State} {b : List Byte} (h : s.FwStarted t b) (p : Nat) (e : Event) (x y : Nat) :
    s.FwStarted (t.raise p e x y) b where
  loaded := h.loaded.raise ..
  stage := (congrArg (fld · 3 2) (t.rd_raise _ _ _ _ _ _ (by decide))).trans h.stage
  told := (t.raised_raise p e x y).told _ _ h.told

theorem State.deriveKeys_serving (s : State) (hdr : List Byte) :
    State.Serving fwRegs fwParts s (s.deriveKeys hdr) ∧ (s.deriveKeys hdr).qz.nor = s.qz.nor := by
  unfold State.deriveKeys
  extract_lets d u m0 a sig
  exact ⟨(((State.Serving.refl s).setQz _ (by decide)).takeFree (by decide)).setQz _ (by decide), rfl⟩

/-- Firmware that Slath or FW_RUN starts from a bank that needs no fallback. -/
theorem State.fwStarted_fwStart (s : State) (b : List Byte) (period : Nat) :
    s.FwStarted (s.fwStart b 0 none id period) b := by
  unfold State.fwStart
  extract_lets hdr first kept s1 s2 s3 s4 s5 s6 s7 s8
  have h1 : State.Serving fwRegs fwParts s s1 ∧ s1.qz.nor = s.qz.nor := by
    simp only [s1]
    split
    · exact s.deriveKeys_serving hdr
    · split
      · exact ⟨.refl s, rfl⟩
      · exact ⟨(State.Serving.refl s).setQz _ (by decide), rfl⟩
  obtain ⟨hserv, hnor⟩ := h1
  have h2 : State.Serving fwRegs fwParts s s2 := hserv.setQz _ (by decide)
  have h3 : State.Serving fwRegs fwParts s s3 := h2.wr _ (by decide) (by decide) (by decide) (by decide)
  have h4 : State.Serving fwRegs fwParts s s4 :=
    State.Serving.wr (h3.wr _ (by decide) (by decide) (by decide) (by decide)) _ (by decide) (by decide) (by decide) (by decide)
  have h5 : s.FwLoaded s5 b := by
    refine ⟨?_, rfl, rfl, hnor, ?_, ?_⟩
    · simp only [s5, State.armWdt]
      exact (h4.wr _ (by decide) (by decide) (by decide) (by decide)).setQz _ (by decide)
    · simp only [s5, State.armWdt]
      rw [State.rd_congr (State.setQz_reg ..), State.rd_wr_other _ _ (by decide) (by decide) (.inl (by decide)),
        State.rd_wfld_other _ _ _ _ (by decide) (by decide) (.inr (by decide)), State.rd_wr_same]
    · simp only [s5, State.armWdt]
      rw [State.rb, State.rd_congr (State.setQz_reg ..), State.rd_wr_same, bit, BitVec.getLsbD_ofNat, Nat.testBit_zero]
      simp
      omega
  have h6 : s.FwLoaded s6 b := (State.FwLoaded.ite (h5.setQz _ rfl rfl rfl) h5).mirrorScan
  have h8 : s.FwStarted (s7.raise qzPage .qzmBootBank 0 (drSvn b)) b :=
    { loaded := (h6.setStage 1).raise ..
      stage := (congrArg (fld · 3 2) (State.rd_raise _ _ _ _ _ _ _ (by decide))).trans (s6.bootStage_setStage 1)
      told := State.told_raise .. }
  split
  · exact h8
  · exact h8.raise ..

/-! ## The image registry (R141) -/

theorem State.wbImage_refused {s : State} {image : Nat} (ws : List Word)
    (h : s.imageResident image = true ∨ s.imageNamed image = true ∨ s.drcReady = false) :
    ∃ cause, s.wbImage .qz image ws = s.tblRefuse .qz rvePage cause ws := by
  unfold State.wbImage
  extract_lets len
  rw [if_neg (not_not_intro rfl)]
  by_cases hu : (s.imageResident image || s.imageNamed image) = true
  · exact ⟨11, if_pos hu⟩
  · have hd : (!s.drcReady) = true := by
      simp only [Bool.or_eq_true, not_or] at hu
      rcases h with h | h | h
      · exact absurd h hu.1
      · exact absurd h hu.2
      · rw [h]; rfl
    rw [if_neg hu, if_pos hd]
    split
    · exact ⟨7, rfl⟩
    · exact ⟨11, rfl⟩

theorem State.wbImage_written {s : State} {image : Nat} {ws : List Word} (hr : s.imageResident image = false)
    (hn : s.imageNamed image = false) (ha : (ws.getD 0 0).toNat % 64 = 0) (h0 : (ws.getD 2 0).toNat ≠ 0)
    (h4 : (ws.getD 2 0).toNat % 4 = 0) (hl : (ws.getD 2 0).toNat ≤ 32768) (hd : s.drcReady = true) :
    s.wbImage .qz image ws = s.tset rvePage 1 0 image [ws.getD 0 0, ws.getD 1 0, ws.getD 2 0, 1] := by
  have hc : ¬ ((ws.getD 0 0).toNat % 64 ≠ 0 ∨ (ws.getD 2 0).toNat = 0 ∨ (ws.getD 2 0).toNat % 4 ≠ 0 ∨ 32768 < (ws.getD 2 0).toNat) := by
    omega
  simp only [State.wbImage, ne_eq, not_true_eq_false, if_false, hr, hn, Bool.or_self, Bool.false_eq_true, hc, hd, Bool.not_true]

/-- The words of a registry entry for an image of `len` bytes at a. -/
def imageWords (a len : Nat) : List Word := [BitVec.ofNat 32 a, BitVec.ofNat 32 (a / 2 ^ 32), BitVec.ofNat 32 len, 0]

/-- `t` is `s` after a service image was placed at a (R375, R646). -/
structure State.ImagePlaced (s t : State) (image a : Nat) (b : List Byte) : Prop where
  addr : t.imageAddr image = a % 2 ^ 64
  len : t.imageLen image = (drBytes b 1).length
  loaded : t.tf rvePage 1 0 image 3 1 0 = 1
  others : ∀ k, k ≠ tkey rvePage 1 0 image → NMap.get tblDefault t.tbl k = NMap.get tblDefault s.tbl k
  code : ∀ i, i < (drBytes b 1).length → s.dramLost (a + i) = false → t.dramByte (a + i) = (drBytes b 1).getD i 0
  const : ∀ i, i < 24576 → s.dramLost (a + 32768 + i) = false → t.dramByte (a + 32768 + i) = (drBytes b 2).getD i 0
  apart : ∀ x, x < a ∨ (a + (drBytes b 1).length ≤ x ∧ x < a + 32768) ∨ a + 57344 ≤ x → t.dramByte x = s.dramByte x

/-- Code and constants in DRAM. -/
def State.imagePut (s : State) (a : Nat) (b : List Byte) : State :=
  (s.dramPut a (drBytes b 1)).dramPut (a + 32768) (drBytes b 2 ++ List.replicate (24576 - (drBytes b 2).length) 0)

theorem State.imagePut_mem (s : State) (a : Nat) (b : List Byte) : ∃ m, s.imagePut a b = s.setMem fun _ => m := by
  obtain ⟨m, hm, -⟩ := s.dramPut_mem a (drBytes b 1)
  obtain ⟨m', hm', -⟩ := (s.dramPut a (drBytes b 1)).dramPut_mem (a + 32768)
    (drBytes b 2 ++ List.replicate (24576 - (drBytes b 2).length) 0)
  exact ⟨m', by rw [State.imagePut, hm', hm]; rfl⟩

theorem State.imagePlaced (s : State) (image a : Nat) {b : List Byte} (hb : SvcLayout b) :
    s.ImagePlaced ((s.imagePut a b).tset rvePage 1 0 image
      [BitVec.ofNat 32 a, BitVec.ofNat 32 (a / 2 ^ 32), BitVec.ofNat 32 (drBytes b 1).length, 1]) image a b := by
  obtain ⟨-, hcode⟩ := hb.code_length
  have hconst := hb.const_length
  have hlen : (drBytes b 2 ++ List.replicate (24576 - (drBytes b 2).length) (0 : Byte)).length = 24576 := by
    rw [List.length_append, List.length_replicate]; omega
  have hbyte (x : Nat) (ws : List Word) : ((s.imagePut a b).tset rvePage 1 0 image ws).dramByte x =
      ((s.dramPut a (drBytes b 1)).dramFill (a + 32768)
        (drBytes b 2 ++ List.replicate (24576 - (drBytes b 2).length) 0)).dramByte x := State.dramByte_dramPut ..
  refine ⟨?_, ?_, ?_, fun k hk => ?_, fun i hi hl => ?_, fun i hi hl => ?_, fun x hx => ?_⟩
  · rw [State.imageAddr, State.tw_tset_same, State.tw_tset_same]
    simp only [List.getD_cons_zero, List.getD_cons_succ, BitVec.toNat_ofNat]
    omega
  · rw [State.imageLen, State.tw_tset_same]
    simp only [List.getD_cons_zero, List.getD_cons_succ, BitVec.toNat_ofNat]
    omega
  · rw [State.tf, State.tw_tset_same]
    exact (by decide : fld 1 1 0 = 1)
  · obtain ⟨m, hm⟩ := s.imagePut_mem a b
    rw [State.get_tset_other _ _ hk, hm]
    rfl
  · rw [hbyte, State.dramByte_dramFill_other _ _ (.inl (by omega)), State.dramByte_dramPut, State.dramByte_dramFill _ _ hi hl]
  · rw [hbyte, State.dramByte_dramFill _ _ (by omega) ((s.dramLost_dramPut ..).trans hl)]
    by_cases hc : i < (drBytes b 2).length
    · exact List.getD_append _ _ _ _ hc
    · rw [List.getD_append_right _ _ _ _ (by omega), List.getD_replicate _ (by omega), List.getD_eq_default _ _ (by omega)]
  · rw [hbyte, State.dramByte_dramFill_other _ _ (by omega), State.dramByte_dramPut,
      State.dramByte_dramFill_other _ _ (by omega)]

theorem State.ImagePlaced.congr {s t s' t' : State} {image a : Nat} {b : List Byte} (h : s.ImagePlaced t image a b)
    (hr : s'.reg = s.reg) (hm : s'.mem = s.mem) (ht : s'.tbl = s.tbl) (hm' : t'.mem = t.mem) (ht' : t'.tbl = t.tbl) :
    s'.ImagePlaced t' image a b := by
  have hw (i : Nat) : t'.tw rvePage 1 0 image i = t.tw rvePage 1 0 image i := by simp only [State.tw, State.tget, ht']
  have hb (x : Nat) : t'.dramByte x = t.dramByte x := by simp only [State.dramByte, hm']
  have hb' (x : Nat) : s'.dramByte x = s.dramByte x := by simp only [State.dramByte, hm]
  have hl (x : Nat) : s'.dramLost x = s.dramLost x := State.dramLost_congr hr (by rw [hm]) x
  obtain ⟨haddr, hlen, hloaded, hothers, hcode, hconst, hapart⟩ := h
  refine ⟨?_, ?_, ?_, fun k hk => ?_, fun i hi hx => ?_, fun i hi hx => ?_, fun x hx => ?_⟩
  · rw [← haddr, State.imageAddr, State.imageAddr, hw, hw]
  · rw [← hlen, State.imageLen, State.imageLen, hw]
  · exact (congrArg (fld · 1 0) (hw 3)).trans hloaded
  · rw [ht', ht, hothers k hk]
  · rw [hb, hcode i hi (by rwa [← hl])]
  · rw [hb, hconst i hi (by rwa [← hl])]
  · rw [hb, hb', hapart x hx]

/-- IMAGE_LOAD of a service image that is verified, where there is a place for it (R375, R646): what it writes, before its answer. -/
def State.imageLoaded (s : State) (image a : Nat) (b : List Byte) : State :=
  State.wbImage (((s.extend 2 (Config.sm3 (slice b 0 448))).takeFree).imagePut a b) .qz image (imageWords a (drBytes b 1).length)

theorem State.imageLoaded_eq {s : State} {image a : Nat} {b : List Byte} (hb : SvcLayout b) (ha : s.freePlace s.freeNat = some a)
    (hd : s.drcReady = true) (hr : s.imageResident image = false) (hn : s.imageNamed image = false) (hc : drBytes b 1 ≠ []) :
    s.imageLoaded image a b = (((s.extend 2 (Config.sm3 (slice b 0 448))).takeFree).imagePut a b).tset rvePage 1 0 image
      [BitVec.ofNat 32 a, BitVec.ofNat 32 (a / 2 ^ 32), BitVec.ofNat 32 (drBytes b 1).length, 1] := by
  obtain ⟨h4, hmax⟩ := hb.code_length
  have h0 := List.length_pos_iff.2 hc
  have h64 := State.freePlace_aligned ha
  obtain ⟨m, hm⟩ := ((s.extend 2 (Config.sm3 (slice b 0 448))).takeFree).imagePut_mem a b
  refine State.wbImage_written (by rw [hm]; exact hr) (by rw [hm]; exact hn) ?_ ?_ ?_ ?_ (by rw [hm]; exact hd)
  all_goals
    simp only [imageWords, List.getD_cons_zero, List.getD_cons_succ, BitVec.toNat_ofNat]
    omega

theorem State.Serving.setMem {l : List (Nat × Nat)} {ps : List Part} {s u : State} (h : State.Serving l ps s u)
    (f : MemSt → MemSt) (hp : .mem ∈ ps) : State.Serving l ps s (u.setMem f) :=
  h.parts rfl rfl (u.only_setMem f) (by simpa using hp)

/-- What IMAGE_LOAD writes. -/
theorem State.imageLoaded_placed {s : State} {image a : Nat} {b : List Byte} (hb : SvcLayout b)
    (ha : s.freePlace s.freeNat = some a) (hd : s.drcReady = true) (hr : s.imageResident image = false)
    (hn : s.imageNamed image = false) (hc : drBytes b 1 ≠ []) :
    s.ImagePlaced (s.imageLoaded image a b) image a b ∧
      (s.imageLoaded image a b).qz.m = s.qz.m.set 2 (Config.sm3 (s.qz.m.getD 2 [] ++ Config.sm3 (slice b 0 448))) ∧
      State.Serving [] ([.tbl, .mem, .free] ++ noted) s (s.imageLoaded image a b) := by
  rw [State.imageLoaded_eq hb ha hd hr hn hc]
  refine ⟨(State.imagePlaced ((s.extend 2 (Config.sm3 (slice b 0 448))).takeFree) image a hb).congr (s' := s) rfl rfl rfl rfl rfl,
    ?_, ?_⟩
  · obtain ⟨m, hm⟩ := ((s.extend 2 (Config.sm3 (slice b 0 448))).takeFree).imagePut_mem a b
    rw [hm]
    rfl
  · have h1 : State.Serving [] ([.tbl, .mem, .free] ++ noted) s ((s.extend 2 (Config.sm3 (slice b 0 448))).takeFree) :=
      ((State.Serving.refl s).setQz _ (by decide)).takeFree (by decide)
    obtain ⟨m, hm⟩ := ((s.extend 2 (Config.sm3 (slice b 0 448))).takeFree).imagePut_mem a b
    rw [hm]
    exact (h1.setMem _ (by decide)).tset _ _ _ _ _ (by decide)

/-! ## Firmware, its versions, the platform record and the owner -/

/-- A bank erased and written with a container. -/
def State.bankWritten (s : State) (bank : Nat) (b : List Byte) : State :=
  s.setQz fun q => { q with nor := norPut (norErase q.nor (bankBase bank) bankSize) (bankBase bank) b }

/-- FW_UPDATE of a container that is verified and no older, where bank B does not run or A is no newer: it reaches the NOR (R682). -/
theorem State.Asked.exec_fwUpdate {s : State} {tag : Nat} {b : List Byte} (h : s.Asked 0x0020 16 tag) (hsize : b.length ≤ bankSize)
    (hlen : b.length = s.req 12 4) (ht : drType b = 1) (hv : s.drCause b true false = 0) (hold : s.qz.bootSeq ≤ drSeq b)
    (hcond : s.rf 0 Reg.sysBoot 0 0 = 0 ∨ s.rb 0 Reg.sysBoot 1 = true ∨ ∀ q, s.bankSeq 0 = some q → q ≤ s.qz.bootSeq)
    (err : Bool) : exec (.fwUpdate (some b) err) s = .next (if err = true
      then (s.setQz fun q => { q with nor := norErase q.nor (bankBase (1 - s.rf 0 Reg.sysBoot 0 0)) bankSize }).answer tag 7 []
      else ((s.bankWritten (1 - s.rf 0 Reg.sysBoot 0 0) b).answer tag 0 (leBytes 1 (1 - s.rf 0 Reg.sysBoot 0 0))).raise
        qzPage .qzmUpdateDone (1 - s.rf 0 Reg.sysBoot 0 0) (drSvn b)) := by
  have hcause : ¬ ((if drType b ≠ 1 then 1 else s.drCause b true false) ≠ 0) := by
    rw [if_neg (not_not_intro ht), hv]; decide
  refine congrArg Host.Outcome.next ((h.serve _).trans ((if_neg (by omega)).trans ((if_neg hcause).trans
    ((if_neg (Nat.not_lt.2 hold)).trans (if_neg fun hnew => ?_)))))
  simp only [Bool.and_eq_true, decide_eq_true_eq, Bool.not_eq_true'] at hnew
  obtain ⟨⟨hrun, hfall⟩, hnewer⟩ := hnew
  rcases hcond with h0 | h0 | h0
  · rw [h0] at hrun; cases hrun
  · rw [h0] at hfall; cases hfall
  · cases hseq : s.bankSeq 0 with
    | none => simp only [hseq] at hnewer; cases hnewer
    | some q =>
      simp only [hseq] at hnewer
      exact absurd (of_decide_eq_true hnewer) (Nat.not_lt.2 (h0 q hseq))

/-- What a bank holds once it is written. -/
theorem State.bankWritten_nor (s : State) {bank : Nat} {b : List Byte} {v : State} (hb : b.length ≤ bankSize)
    (hv : v.qz.nor = (s.bankWritten bank b).qz.nor) : v.norBytes (bankBase bank) b.length = b ∧
      (∀ a, bankBase bank + b.length ≤ a → a < bankBase bank + bankSize → NMap.get norErased v.qz.nor a = 0xFF) ∧
      ∀ a, a < bankBase bank ∨ bankBase bank + bankSize ≤ a → NMap.get norErased v.qz.nor a = NMap.get norErased s.qz.nor a := by
  have hnor : v.qz.nor = norPut (norErase s.qz.nor (bankBase bank) bankSize) (bankBase bank) b := hv
  refine ⟨State.norBytes_norPut hnor, fun a h1 h2 => ?_, fun a h => ?_⟩
  · rw [hnor, get_norPut_other _ _ (.inr h1), get_norErase _ (by omega) h2]
  · rw [hnor, get_norPut_other _ _ (by omega), get_norErase_other _ h]

/-- The platform record's region of the NOR, erased and written. -/
def State.platWritten (s : State) (b : List Byte) : State :=
  s.setQz fun q => { q with nor := norPut (norErase q.nor 0x1000000 0x10000) 0x1000000 (b.take (leAt b 6 2)) }

theorem State.platCause_length {s : State} {b : List Byte} (h : s.platCause b = 0) : leAt b 6 2 ≤ b.length ∧ leAt b 6 2 ≤ 0x10000 := by
  by_contra hlen
  have hfirst : slice b 0 4 ≠ ascii "TZPR" ∨ leAt b 4 2 ≠ 1 ∨ 64 < leAt b 308 2 ∨ leAt b 6 2 ≠ 376 + 24 * leAt b 308 2 ∨
      b.length < leAt b 6 2 := by omega
  simp only [State.platCause, if_pos hfirst] at h
  exact absurd h (by decide)

theorem State.platWritten_nor {s v : State} {b : List Byte} (h : s.platCause b = 0) (hv : v.qz.nor = (s.platWritten b).qz.nor) :
    v.norBytes 0x1000000 (leAt b 6 2) = b.take (leAt b 6 2) ∧
      ∀ a, a < 0x1000000 ∨ 0x1010000 ≤ a → NMap.get norErased v.qz.nor a = NMap.get norErased s.qz.nor a := by
  obtain ⟨hle, hmax⟩ := State.platCause_length h
  have hnor : v.qz.nor = norPut (norErase s.qz.nor 0x1000000 0x10000) 0x1000000 (b.take (leAt b 6 2)) := hv
  have hlen : (b.take (leAt b 6 2)).length = leAt b 6 2 := by rw [List.length_take]; omega
  refine ⟨by simpa only [hlen] using State.norBytes_norPut hnor, fun a h => ?_⟩
  rw [hnor, get_norPut_other _ _ (by omega), get_norErase_other _ (by omega)]

/-- FW_RUN is served in recovery alone. -/
theorem State.Asked.fwRun_stage {s : State} {n tag : Nat} (h : s.Asked 0x0024 n tag) : s.bootStage = 2 := by
  by_contra hne
  have hallowed := h.allowed
  rw [State.mbAllowed, if_neg hne] at hallowed
  exact absurd hallowed (by decide)

/-- The version of the firmware that runs, burned and shown. -/
def State.svnRaised (s : State) (svn : Nat) : State := (s.setQz fun q => { q with svnFw := svn }).wfld 0 Reg.sysBoot 15 8 svn

theorem State.svnCommitted (s : State) {svn : Nat} (hle : svn < 256) :
    State.Serving [(0, Reg.sysBoot)] noted s (s.svnRaised svn) ∧ (s.svnRaised svn).qz.svnFw = svn ∧
      (s.svnRaised svn).rf 0 Reg.sysBoot 15 8 = svn ∧ (s.svnRaised svn).rf 0 Reg.sysBoot 7 0 = s.rf 0 Reg.sysBoot 7 0 := by
  refine ⟨State.Serving.wr ((State.Serving.refl s).setQz _ (by decide)) _ (by decide) (by decide) (by decide) (by decide), rfl,
    ?_, ?_⟩
  · rw [State.rf, State.svnRaised, State.rd_wfld_same, fld_withFld _ _ (by decide) (by decide)]
    exact Nat.mod_eq_of_lt hle
  · rw [State.rf, State.svnRaised, State.rd_wfld_same, fld_withFld_other _ _ (.inl (by decide))]
    rfl

/-- A bit that is written reads back. -/
theorem bit_withFld_toNat (w : Word) (c : Bool) : bit (withFld w 14 14 c.toNat) 14 = c := by
  have h := fld_withFld w c.toNat (hi := 14) (lo := 14) (by decide) (by decide)
  rw [fld_bit] at h
  cases hb : bit (withFld w 14 14 c.toNat) 14 <;> cases c <;> simp_all

/-- The owner's hash, burned and shown (R636). -/
def State.ownerHashed (s : State) : State :=
  let v := s.setQz fun q => { q with ownerHash := s.reqBytes 4 32 }
  v.wfld 0 Reg.sysIdStatus 14 14 v.ownerSet.toNat

theorem State.ownerHashed_shown (s : State) : s.ownerHashed.rb 0 Reg.sysIdStatus 14 = s.ownerHashed.ownerSet := by
  rw [State.rb, State.ownerHashed, State.rd_wfld_same]
  exact bit_withFld_toNat ..

/-! ## The commands -/

section
variable {s : State} {tag : Nat} {b : List Byte}

/-- A service image is placed in DRAM and in the registry. -/
theorem State.Asked.imageLoad_placed {a : Nat} (h : s.Asked 0x0011 18 tag) (hm : s.qz.mainOk = true) (hi : s.req 16 2 < 1024)
    (hl : b.length = s.req 12 4) (ht : drType b = 2) (hc : s.drCause b true false = 0) (ha : s.freePlace s.freeNat = some a)
    (hd : s.drcReady = true) (hr : s.imageResident (s.req 16 2) = false) (hn : s.imageNamed (s.req 16 2) = false)
    (hcode : drBytes b 1 ≠ []) : Answers (.imageLoad (some b)) s fun t => s.ImagePlaced t (s.req 16 2) a b ∧
      t.qz.m = s.qz.m.set 2 (Config.sm3 (s.qz.m.getD 2 [] ++ Config.sm3 (slice b 0 448))) ∧
      s.Replies t tag 0 [] [] ∧ s.Only t ([.tbl, .mem, .free] ++ noted) := by
  have hok : ¬ (1024 ≤ s.req 16 2 ∨ b.length ≠ s.req 12 4) := by omega
  have hcause : ¬ ((if drType b = 1 then 1 else s.drCause b true false) ≠ 0) := by rw [if_neg (by omega), hc]; decide
  have hb := svcLayout_of_drLayout (State.drLayout_of_drCause hc) (by omega)
  obtain ⟨hp, hmeas, hserv⟩ := State.imageLoaded_placed (image := s.req 16 2) hb ha hd hr hn hcode
  have hno : ¬ (!s.drcReady || s.imageResident (s.req 16 2) || s.imageNamed (s.req 16 2) || drBytes b 1 = []) = true := by
    simp [hd, hr, hn, hcode]
  refine h.answersMain (t := (s.imageLoaded (s.req 16 2) a b).answer tag 0 []) hm rfl
    ((if_neg hok).trans ((if_neg hcause).trans ((if_neg (by omega)).trans ?_))) ?_
  · have e : (s.extend 2 (Config.sm3 (slice b 0 448))).freePlace (s.extend 2 (Config.sm3 (slice b 0 448))).freeNat = some a := ha
    simp only [e]
    exact if_neg hno
  · have ho := (s.imageLoaded (s.req 16 2) a b).only_answer tag 0 []
    exact ⟨hp.congr (s' := s) rfl rfl rfl (ho .mem (by decide)) (ho .tbl (by decide)),
      (State.qzField_answer QzSt.m (fun _ => rfl) ..).trans hmeas, hserv.answer (by decide) tag (by decide) (by decide)⟩

/-- A service image that has no place, or whose entry cannot be written, is refused. -/
theorem State.Asked.imageLoad_noPlace (h : s.Asked 0x0011 18 tag) (hm : s.qz.mainOk = true) (hi : s.req 16 2 < 1024)
    (hl : b.length = s.req 12 4) (ht : drType b = 2) (hc : s.drCause b true false = 0)
    (hno : s.freePlace s.freeNat = none ∨ s.drcReady = false ∨ s.imageResident (s.req 16 2) = true ∨
      s.imageNamed (s.req 16 2) = true) :
    Answers (.imageLoad (some b)) s fun t => (∃ r, s.Replies t tag 3 [r] []) ∧ s.Only t (.free :: noted) := by
  have hok : ¬ (1024 ≤ s.req 16 2 ∨ b.length ≠ s.req 12 4) := by omega
  have hcause : ¬ ((if drType b = 1 then 1 else s.drCause b true false) ≠ 0) := by rw [if_neg (by omega), hc]; decide
  have e (a : Option Nat) (ha : s.freePlace s.freeNat = a) :
      (s.extend 2 (Config.sm3 (slice b 0 448))).freePlace (s.extend 2 (Config.sm3 (slice b 0 448))).freeNat = a := ha
  have hserv : State.Serving [] (.free :: noted) s (s.extend 2 (Config.sm3 (slice b 0 448))).takeFree :=
    ((State.Serving.refl s).setQz _ (by decide)).takeFree (by decide)
  cases ha : s.freePlace s.freeNat with
  | none =>
    refine h.answersMain (t := (s.extend 2 (Config.sm3 (slice b 0 448))).takeFree.refuseState tag (s.freeNat % 256)) hm rfl
      ((if_neg hok).trans ((if_neg hcause).trans ((if_neg (by omega)).trans ?_))) ?_
    · simp only [e _ ha]
      rfl
    · obtain ⟨hr, ho⟩ := hserv.refuseState (by decide) tag (s.freeNat % 256)
      exact ⟨⟨_, hr⟩, ho⟩
  | some a =>
    have hno' : s.imageResident (s.req 16 2) = true ∨ s.imageNamed (s.req 16 2) = true ∨ s.drcReady = false := by
      rcases hno with hnone | hd | hr | hn
      · rw [ha] at hnone; cases hnone
      · exact .inr (.inr hd)
      · exact .inl hr
      · exact .inr (.inl hn)
    have hin : (!s.drcReady || s.imageResident (s.req 16 2) || s.imageNamed (s.req 16 2) || drBytes b 1 = []) = true := by
      rcases hno' with hu | hu | hu <;> simp [hu]
    obtain ⟨cause, hw⟩ := State.wbImage_refused (s := (s.extend 2 (Config.sm3 (slice b 0 448))).takeFree)
      (imageWords a (drBytes b 1).length) hno'
    obtain ⟨hr, ho⟩ := ((hserv.accessErr rvePage tblDataOff cause .qz ((imageWords a (drBytes b 1).length).getLastD 0)
      (by decide)).takeFree (by decide)).refuseState (by decide) tag (s.takeFree.freeNat % 256)
    rw [← State.tblRefuse, ← hw] at hr ho
    refine h.answersMain hm rfl ((if_neg hok).trans ((if_neg hcause).trans ((if_neg (by omega)).trans ?_))) ⟨⟨_, hr⟩, ho⟩
    simp only [e _ ha]
    exact if_pos hin

/-- An entry of an image that is not in use is cleared. -/
theorem State.Asked.imageUnload_cleared (h : s.Asked 0x0012 6 tag) (hm : s.qz.mainOk = true) (hi : s.req 4 2 < 1024)
    (hr : s.imageResident (s.req 4 2) = false) (hn : s.imageNamed (s.req 4 2) = false) : Answers .imageUnload s fun t =>
      t.tget rvePage 1 0 (s.req 4 2) = [] ∧ t.imageHeld (s.req 4 2) = false ∧
        (∀ k, k ≠ tkey rvePage 1 0 (s.req 4 2) → NMap.get tblDefault t.tbl k = NMap.get tblDefault s.tbl k) ∧
        s.Replies t tag 0 [] [] ∧ s.Only t (.tbl :: noted) := by
  have hn' : ¬ (s.imageResident (s.req 4 2) || s.imageNamed (s.req 4 2)) = true := by simp [hr, hn]
  have ht := State.only_answer (s.tset rvePage 1 0 (s.req 4 2) []) tag 0 [] .tbl (by decide)
  have hg : ((s.tset rvePage 1 0 (s.req 4 2) []).answer tag 0 []).tget rvePage 1 0 (s.req 4 2) = [] :=
    (congrArg (fun m => NMap.get tblDefault m _) ht).trans (NMap.get_set_same ..)
  refine h.answersMain hm rfl ((if_neg (by omega)).trans (if_neg hn')) ⟨hg, ?_, fun k hk => ?_,
    ((State.Serving.refl s).tset _ _ _ _ _ (by decide)).answer (by decide) tag (by decide) (by decide)⟩
  · rw [State.imageHeld, State.tf, State.tw, hg]; rfl
  · exact (congrArg (fun m => NMap.get tblDefault m k) ht).trans (s.get_tset_other _ hk)

/-- A bank is erased and written. -/
theorem State.Asked.fwUpdate_written (h : s.Asked 0x0020 16 tag) (hsize : b.length ≤ bankSize)
    (hlen : b.length = s.req 12 4) (ht : drType b = 1) (hv : s.drCause b true false = 0) (hold : s.qz.bootSeq ≤ drSeq b)
    (hcond : s.rf 0 Reg.sysBoot 0 0 = 0 ∨ s.rb 0 Reg.sysBoot 1 = true ∨ ∀ q, s.bankSeq 0 = some q → q ≤ s.qz.bootSeq) :
    Answers (.fwUpdate (some b) false) s fun t =>
      t.norBytes (bankBase (1 - s.rf 0 Reg.sysBoot 0 0)) b.length = b ∧
        (∀ a, bankBase (1 - s.rf 0 Reg.sysBoot 0 0) + b.length ≤ a → a < bankBase (1 - s.rf 0 Reg.sysBoot 0 0) + bankSize →
          NMap.get norErased t.qz.nor a = 0xFF) ∧
        (∀ a, a < bankBase (1 - s.rf 0 Reg.sysBoot 0 0) ∨ bankBase (1 - s.rf 0 Reg.sysBoot 0 0) + bankSize ≤ a →
          NMap.get norErased t.qz.nor a = NMap.get norErased s.qz.nor a) ∧
        t.Told qzPage .qzmUpdateDone ∧ s.Replies t tag 0 [BitVec.ofNat 8 (1 - s.rf 0 Reg.sysBoot 0 0)] [] ∧ s.Only t noted := by
  have hserv : State.Serving [] noted s (s.bankWritten (1 - s.rf 0 Reg.sysBoot 0 0) b) := (State.Serving.refl s).setQz _ (by decide)
  obtain ⟨hr, ho⟩ := hserv.answer (fun _ h => h) tag (status := 0) (by decide) (oneByte_fits (1 - s.rf 0 Reg.sysBoot 0 0))
  refine ⟨_, h.exec_fwUpdate hsize hlen ht hv hold hcond false, ?_⟩
  simp only [Bool.false_eq_true, if_false]
  have hn := ((s.bankWritten (1 - s.rf 0 Reg.sysBoot 0 0) b).answer tag 0 (leBytes 1 (1 - s.rf 0 Reg.sysBoot 0 0))).noted_raise
    qzPage .qzmUpdateDone (1 - s.rf 0 Reg.sysBoot 0 0) (drSvn b)
  obtain ⟨h1, h2, h3⟩ := s.bankWritten_nor hsize ((hn.qzField QzSt.nor fun _ _ _ => rfl).trans
    (State.qzField_answer QzSt.nor (fun _ => rfl) ..))
  exact ⟨h1, h2, h3, State.told_raise .., hr.raise (oneByte_fits _) .., ho.trans hn.only⟩

/-- The four grounds on which the count stays (R684). -/
theorem State.Asked.svnCommit_refused (h : s.Asked 0x0021 8 tag) {r : Byte} (hr : (r = 4 ∧ s.rb 0 Reg.sysBoot 1 = true) ∨
    (s.rb 0 Reg.sysBoot 1 = false ∧ ((r = 5 ∧ (s.rd 0 Reg.sysBootSvn).toNat ≤ s.qz.svnFw) ∨
      (r = 6 ∧ s.qz.svnFw < (s.rd 0 Reg.sysBootSvn).toNat ∧ 64 < (s.rd 0 Reg.sysBootSvn).toNat) ∨
      (r = 7 ∧ s.qz.svnFw < (s.rd 0 Reg.sysBootSvn).toNat ∧ (s.rd 0 Reg.sysBootSvn).toNat ≤ 64 ∧ s.req 4 4 % 2 = 0 ∧
        ¬ (s.bankGood (false, false) (1 - s.rf 0 Reg.sysBoot 0 0) = true ∧
          (s.rd 0 Reg.sysBootSvn).toNat ≤ drSvn (s.bankImage (1 - s.rf 0 Reg.sysBoot 0 0))))))) :
    Answers .svnCommit s fun t => t.qz.svnFw = s.qz.svnFw ∧ s.Replies t tag 3 [r] [] ∧ s.Only t noted := by
  have hkept : (s.refuseState tag r.toNat).qz.svnFw = s.qz.svnFw := State.qzField_answer QzSt.svnFw (fun _ => rfl) ..
  have hrep := (State.Serving.refl (l := []) s).refuseState (fun _ h => h) tag r.toNat
  rw [BitVec.ofNat_toNat, BitVec.setWidth_eq] at hrep
  refine h.answers (t := s.refuseState tag r.toNat) rfl ?_ ⟨hkept, hrep⟩
  rcases hr with ⟨rfl, hfall⟩ | ⟨hfall, ⟨rfl, hle⟩ | ⟨rfl, hlt, hmax⟩ | ⟨rfl, hlt, hmax, hforce, hother⟩⟩
  · exact if_pos hfall
  · exact (if_neg (by simp [hfall])).trans (if_pos hle)
  · exact (if_neg (by simp [hfall])).trans ((if_neg (Nat.not_le.2 hlt)).trans (if_pos hmax))
  · refine (if_neg (by simp [hfall])).trans ((if_neg (Nat.not_le.2 hlt)).trans ((if_neg (Nat.not_lt.2 hmax)).trans (if_pos ?_)))
    rw [decide_eq_false (by omega), Bool.not_false, Bool.true_and, Bool.not_eq_true', ← Bool.not_eq_true, Bool.and_eq_true,
      decide_eq_true_eq]
    exact hother

/-- The count is raised to the version that runs. -/
theorem State.Asked.svnCommit_raised (h : s.Asked 0x0021 8 tag) (hfall : s.rb 0 Reg.sysBoot 1 = false)
    (hlt : s.qz.svnFw < (s.rd 0 Reg.sysBootSvn).toNat) (hle : (s.rd 0 Reg.sysBootSvn).toNat ≤ 64)
    (hok : s.req 4 4 % 2 = 1 ∨ (s.bankGood (false, false) (1 - s.rf 0 Reg.sysBoot 0 0) = true ∧
      (s.rd 0 Reg.sysBootSvn).toNat ≤ drSvn (s.bankImage (1 - s.rf 0 Reg.sysBoot 0 0)))) :
    Answers .svnCommit s fun t => t.qz.svnFw = (s.rd 0 Reg.sysBootSvn).toNat ∧
      t.rf 0 Reg.sysBoot 15 8 = (s.rd 0 Reg.sysBootSvn).toNat ∧ t.rf 0 Reg.sysBoot 7 0 = s.rf 0 Reg.sysBoot 7 0 ∧
      t.Told qzPage .qzmSvnCommitted ∧ s.Replies t tag 0 [BitVec.ofNat 8 (s.rd 0 Reg.sysBootSvn).toNat] [(0, Reg.sysBoot)] ∧
      s.Only t noted := by
  have hforce : ¬ (!decide (s.req 4 4 % 2 = 1) && !(s.bankGood (false, false) (1 - s.rf 0 Reg.sysBoot 0 0) &&
      decide ((s.rd 0 Reg.sysBootSvn).toNat ≤ drSvn (s.bankImage (1 - s.rf 0 Reg.sysBoot 0 0))))) = true := by
    rcases hok with h1 | ⟨h1, h2⟩
    · simp [h1]
    · simp [h1, h2]
  obtain ⟨hserv, hsvn, hnew, hkept⟩ := s.svnCommitted (svn := (s.rd 0 Reg.sysBootSvn).toNat) (by omega)
  refine h.answers (t := State.raise ((s.svnRaised (s.rd 0 Reg.sysBootSvn).toNat).answer tag 0
    (leBytes 1 (s.rd 0 Reg.sysBootSvn).toNat)) qzPage .qzmSvnCommitted (s.rd 0 Reg.sysBootSvn).toNat 0) rfl
    ((if_neg (by simp [hfall])).trans ((if_neg (Nat.not_le.2 hlt)).trans ((if_neg (Nat.not_lt.2 hle)).trans (if_neg hforce)))) ?_
  have hn := ((s.svnRaised (s.rd 0 Reg.sysBootSvn).toNat).answer tag 0 (leBytes 1 (s.rd 0 Reg.sysBootSvn).toNat)).noted_raise
    qzPage .qzmSvnCommitted (s.rd 0 Reg.sysBootSvn).toNat 0
  have hboot := (hn.rd 0 Reg.sysBoot (by decide)).trans (State.rd_answer_other _ tag 0 (leBytes 1 (s.rd 0 Reg.sysBootSvn).toNat)
    (oneByte_fits _) (by decide) (notMem_mailRegs (.inl (by decide))))
  obtain ⟨hr, ho⟩ := hserv.answer (fun _ h => h) tag (status := 0) (by decide) (oneByte_fits (s.rd 0 Reg.sysBootSvn).toNat)
  refine ⟨?_, (congrArg (fld · 15 8) hboot).trans hnew, (congrArg (fld · 7 0) hboot).trans hkept, State.told_raise ..,
    hr.raise (oneByte_fits _) .., ho.trans hn.only⟩
  exact (hn.qzField QzSt.svnFw fun _ _ _ => rfl).trans ((State.qzField_answer QzSt.svnFw (fun _ => rfl) ..).trans hsvn)

/-- A record that passes is written. -/
theorem State.Asked.platformWrite_written {pub : List Byte} (h : s.Asked 0x0022 16 tag) (hlen : b.length = s.req 12 4)
    (hc : s.platCause b = 0) (hsig : s.platSigned pub b = true) : Answers (.platformWrite (some b) pub false) s fun t =>
      t.norBytes 0x1000000 (leAt b 6 2) = b.take (leAt b 6 2) ∧ t.qz.plat = s.qz.plat ∧
        (∀ a, a < 0x1000000 ∨ 0x1010000 ≤ a → NMap.get norErased t.qz.nor a = NMap.get norErased s.qz.nor a) ∧
        s.Replies t tag 0 [] [] ∧ s.Only t noted := by
  have e : ¬ (if s.platCause b ≠ 0 then s.platCause b else if s.platSigned pub b = true then 0 else 2) ≠ 0 := by
    rw [if_neg (not_not_intro hc), hsig]; decide
  obtain ⟨hwritten, hothers⟩ := State.platWritten_nor (v := (s.platWritten b).answer tag 0 []) hc
    (State.qzField_answer QzSt.nor (fun _ => rfl) ..)
  refine h.answers (t := (s.platWritten b).answer tag 0 []) rfl
    ((if_neg (not_not_intro hlen)).trans ((if_neg e).trans (if_neg (by decide)))) ⟨hwritten, ?_, hothers, ?_⟩
  · exact State.qzField_answer QzSt.plat (fun _ => rfl) ..
  · exact ((State.Serving.refl s).setQz _ (by decide)).answer (fun _ h => h) tag (by decide) (by decide)

/-- The owner's hash is written where there is none. -/
theorem State.Asked.ownerSet_written (h : s.Asked 0x0023 36 tag) (hset : s.ownerSet = false) : Answers .ownerSet s fun t =>
      t.qz.ownerHash = s.reqBytes 4 32 ∧ t.rb 0 Reg.sysIdStatus 14 = t.ownerSet ∧
        s.Replies t tag 0 [] [(0, Reg.sysIdStatus)] ∧ s.Only t noted := by
  have hserv : State.Serving [(0, Reg.sysIdStatus)] noted s s.ownerHashed :=
    State.Serving.wr ((State.Serving.refl s).setQz _ (by decide)) _ (by decide) (by decide) (by decide) (by decide)
  refine h.answers (t := s.ownerHashed.answer tag 0 []) rfl (if_neg (by simp [hset])) ⟨?_, ?_,
    hserv.answer (fun _ h => h) tag (by decide) (by decide)⟩
  · exact State.qzField_answer QzSt.ownerHash (fun _ => rfl) ..
  · have hrd := State.rd_answer_other s.ownerHashed tag 0 [] (by decide) (p := 0) (o := Reg.sysIdStatus) (by decide)
      (notMem_mailRegs (.inl (by decide)))
    exact (congrArg (bit · 14) hrd).trans (s.ownerHashed_shown.trans
      (State.qzField_answer (fun q => q.ownerHash != List.replicate 32 0) (fun _ => rfl) ..).symm)

/-- An image runs in recovery. -/
theorem State.Asked.fwRun_started {period : Nat} (h : s.Asked 0x0024 16 tag) (hlen : b.length = s.req 12 4) (ht : drType b = 1)
    (hv : s.drCause b true false = 0) : Answers (.fwRun (some b) period) s fun t =>
      t.bootStage = 1 ∧ t.qz.code = drBytes b 1 ∧ t.qz.started = true ∧ t.qz.nor = s.qz.nor ∧
        t.rd 0 Reg.sysBootSvn = BitVec.ofNat 32 (drSvn b) ∧ t.rb qzPage Reg.qzmWdt 0 = true ∧ t.Told qzPage .qzmBootBank ∧
        s.Replies t tag 0 [] fwRegs ∧ s.Only t fwParts := by
  have hcause : ¬ ((if drType b ≠ 1 then 1 else s.drCause b true false) ≠ 0) := by
    rw [if_neg (not_not_intro ht), hv]; decide
  obtain ⟨hl, hstage, htold⟩ := s.fwStarted_fwStart b period
  refine h.answers rfl ((if_neg (not_not_intro hlen)).trans (if_neg hcause)) ?_
  have hrd {p o : Nat} (ho : o < 65536) := State.rd_answer_other (p := p) (s.fwStart b 0 none id period) tag 0 [] (by decide) ho
  refine ⟨(congrArg (fld · 3 2) (hrd (by decide) (notMem_mailRegs (.inl (by decide))))).trans hstage,
    (State.qzField_answer QzSt.code (fun _ => rfl) ..).trans hl.code,
    (State.qzField_answer QzSt.started (fun _ => rfl) ..).trans hl.started,
    (State.qzField_answer QzSt.nor (fun _ => rfl) ..).trans hl.nor,
    (hrd (by decide) (notMem_mailRegs (.inl (by decide)))).trans hl.svn,
    (congrArg (bit · 0) (hrd (by decide) ?_)).trans hl.armed,
    State.told_answer (by decide) htold,
    hl.serving.answer (by decide) tag (by decide) (by decide)⟩
  exact notMem_mailRegs (.inr (by decide))

end

end Sys2Proof.Machine
end

section
open Sys2Proof Sys2Proof.Machine

/-- Settles O51, one part for each command. -/
theorem mailboxInstalls : Obligations.MailboxInstalls := by
  have hq : ∀ x ∈ noted, x ∈ noted := fun _ h => h
  have hself (s : State) : State.Serving [] noted s s := .refl s
  refine ⟨fun s tag h => ⟨fun hn => ?_, fun hn => ?_⟩,
    fun s tag b h hm => ⟨fun hbad => ?_, fun c hi hl hc hne => ?_, fun hi hl ht hc => ?_,
      fun a hi hl ht hc ha hd hr hn hcode => ?_, fun hi hl ht hc hno => ?_⟩,
    fun s tag h hm => ⟨fun hi => ?_, fun hi hu => ?_, fun hi hr hn => ?_⟩, ?_, ?_, ?_, ?_, ?_⟩
  · refine h.answers rfl (if_neg (not_not_intro hn)) ⟨State.qzField_answer QzSt.region (fun _ => rfl) .., ?_⟩
    exact ((hself s).setQz _ (by decide)).answer hq tag (by decide) (by decide)
  · exact h.answers rfl (if_pos hn) ⟨State.qzField_answer QzSt.region (fun _ => rfl) .., (hself s).refuseState hq tag 1⟩
  · exact h.answersMain hm rfl (if_pos hbad) ((hself s).answer hq tag (by decide) (by decide))
  · have hok : ¬ (1024 ≤ s.req 16 2 ∨ b.length ≠ s.req 12 4) := by omega
    obtain ⟨htold, hmeas, -, -, hrep, honly⟩ := s.imageRefused tag c b (s.req 16 2)
    subst hc
    exact h.answersMain hm rfl ((if_neg hok).trans (if_pos hne)) ⟨htold, hmeas, hrep, honly⟩
  · have hok : ¬ (1024 ≤ s.req 16 2 ∨ b.length ≠ s.req 12 4) := by omega
    have hcause : ¬ ((if drType b = 1 then 1 else s.drCause b true false) ≠ 0) := by rw [if_neg (by omega), hc]; decide
    refine h.answersMain hm rfl ((if_neg hok).trans ((if_neg hcause).trans (if_pos ht)))
      ⟨State.qzField_answer QzSt.m (fun _ => rfl) .., ?_⟩
    exact ((hself s).setQz _ (by decide)).answer hq tag (by decide) (by decide)
  · obtain ⟨t, he, ⟨haddr, hlen, hload, hother, hc1, hc2, hapart⟩, hrest⟩ := h.imageLoad_placed hm hi hl ht hc ha hd hr hn hcode
    exact ⟨t, he, haddr, hlen, hload, hother, hc1, hc2, hapart, hrest⟩
  · exact h.imageLoad_noPlace hm hi hl ht hc hno
  · exact h.answersMain hm rfl (if_pos hi) ((hself s).answer hq tag (by decide) (by decide))
  · have hserv : State.Serving [] (.free :: noted) s (s.tblRefuse .qz rvePage 11 [0, 0, 0, 0]).takeFree :=
      ((State.Serving.refl s).accessErr _ _ _ _ _ (by decide)).takeFree (by decide)
    obtain ⟨hr, ho⟩ := hserv.refuseState (by decide) tag (s.freeNat % 256)
    exact h.answersMain hm rfl ((if_neg (by omega)).trans (if_pos (by simpa using hu))) ⟨⟨_, hr⟩, ho⟩
  · exact h.imageUnload_cleared hm hi hr hn
  · intro s tag b err h
    refine ⟨fun hbad => ?_, fun hsize hlen => ?_⟩
    · exact h.answers rfl (if_pos hbad) ((hself s).answer hq tag (by decide) (by decide))
    have hok : ¬ (bankSize < b.length ∨ b.length ≠ s.req 12 4) := by omega
    refine ⟨fun c hc hne => ?_, fun ht hv hold => ?_, fun q ht hv hold hrun hfall hseq hnewer => ?_,
      fun bank ht hv hold hbank hcond => ?_⟩
    · obtain ⟨htold, -, hnor, -, hrep, honly⟩ := s.imageRefused tag c b (1 - s.rf 0 Reg.sysBoot 0 0)
      subst hc
      exact h.answers rfl ((if_neg hok).trans (if_pos hne)) ⟨htold, hnor, hrep, honly⟩
    all_goals
      have hcause : ¬ ((if drType b ≠ 1 then 1 else s.drCause b true false) ≠ 0) := by
        rw [if_neg (not_not_intro ht), hv]; decide
    · exact h.answers rfl ((if_neg hok).trans ((if_neg hcause).trans (if_pos hold)))
        (and_assoc.1 ⟨(hself s).refuseState hq tag 2, State.qzField_answer QzSt.nor (fun _ => rfl) ..⟩)
    · refine h.answers (t := s.refuseState tag 3) rfl
        ((if_neg hok).trans ((if_neg hcause).trans ((if_neg (Nat.not_lt.2 hold)).trans (if_pos ?_))))
        (and_assoc.1 ⟨(hself s).refuseState hq tag 3, State.qzField_answer QzSt.nor (fun _ => rfl) ..⟩)
      simp only [hrun, hfall, hseq, hnewer, decide_true, Bool.not_false, Bool.and_self]
    · subst hbank
      refine ⟨fun he => ?_, fun he => ?_⟩ <;> subst he
      · exact h.fwUpdate_written hsize hlen ht hv hold hcond
      · exact ⟨_, h.exec_fwUpdate hsize hlen ht hv hold hcond true, ((hself s).setQz _ (by decide)).answer hq tag (by decide) (by decide)⟩
  · intro s tag svn other h hsvn hother
    subst hsvn hother
    exact ⟨fun r hr => h.svnCommit_refused hr, fun hfall hlt hle hok => h.svnCommit_raised hfall hlt hle hok⟩
  · intro s tag b pub err h
    refine ⟨fun hlen => ?_, fun hlen hc => ?_, fun hlen hc hsig => ?_, fun hlen hc hsig => ⟨fun he => ?_, fun he => ?_⟩⟩
    · exact h.answers rfl (if_pos hlen) ((hself s).answer hq tag (by decide) (by decide))
    · have e : (if s.platCause b ≠ 0 then s.platCause b else if s.platSigned pub b = true then 0 else 2) = s.platCause b := if_pos hc
      refine h.answers (t := s.answer tag 4 (leBytes 1 (s.platCause b))) rfl ((if_neg (not_not_intro hlen)).trans ?_)
        ⟨State.qzField_answer QzSt.nor (fun _ => rfl) .., (hself s).answer hq tag (by decide) (oneByte_fits _)⟩
      simp only [e, if_pos hc]
    · have e : (if s.platCause b ≠ 0 then s.platCause b else if s.platSigned pub b = true then 0 else 2) = 2 := by
        rw [if_neg (not_not_intro hc), hsig]; rfl
      refine h.answers (t := s.answer tag 4 (leBytes 1 2)) rfl ((if_neg (not_not_intro hlen)).trans ?_)
        ⟨State.qzField_answer QzSt.nor (fun _ => rfl) .., (hself s).answer hq tag (by decide) (oneByte_fits _)⟩
      simp only [e]
      rfl
    · subst he
      have e : ¬ (if s.platCause b ≠ 0 then s.platCause b else if s.platSigned pub b = true then 0 else 2) ≠ 0 := by
        rw [if_neg (not_not_intro hc), hsig]; decide
      exact h.answers rfl ((if_neg (not_not_intro hlen)).trans ((if_neg e).trans (if_pos rfl)))
        ((hself s).answer hq tag (by decide) (by decide))
    · subst he
      exact h.platformWrite_written hlen hc hsig
  · intro s tag h
    refine ⟨fun hset => ?_, fun hset => h.ownerSet_written hset⟩
    exact h.answers rfl (if_pos hset) ⟨State.qzField_answer QzSt.ownerHash (fun _ => rfl) .., (hself s).refuseState hq tag 1⟩
  · intro s tag period b h
    refine ⟨fun hlen => ?_, fun c hlen hc hne => ?_, fun hlen ht hv => h.fwRun_started hlen ht hv⟩
    · exact h.answers rfl (if_pos hlen) ((hself s).answer hq tag (by decide) (by decide))
    · obtain ⟨htold, -, -, hstage, hrep, honly⟩ := s.imageRefused tag c b 0
      subst hc
      exact h.answers rfl ((if_neg (not_not_intro hlen)).trans (if_pos hne)) ⟨hstage.trans h.fwRun_stage, htold, hrep, honly⟩
end

section
/-!
SUPPORT. The end of a task: what the operations on the way to it leave alone, and what it leaves of the task, of its executor and of
its successors (R132 to R139).
-/

namespace Sys2Proof.Machine

/-! ## What stays -/

/-- The registers of the record of an abort and of the wale in progress. -/
def keptRegs : List (Nat × Nat) := [(rvePage, Reg.rveAbortRes), (tmuPage, Reg.tmuWaleCtl), (tmuPage, Reg.tmuGridPhase)]

/-- The counters of the ends of tasks. -/
def endCtrs : List Ctr := [.rveCompleted, .rveAbortBudget, .rveAbortDeadline, .rveAbortFence, .rveAbortHost]

/-- What an operation may leave alone. -/
inductive Aside where
  | clk | cores | pics | lanes

def Aside.same (s t : State) : Aside → Prop
  | .clk => t.clk = s.clk
  | .cores => t.cores = s.cores
  | .pics => ∀ n, (t.encoder n).pic = (s.encoder n).pic
  | .lanes => t.rve.slot = s.rve.slot ∧ t.rve.run = s.rve.run

/-- `t` is `s` after something that ends no task: of the tasks, those in `keep` are as they were. -/
structure State.Kept (hs : List Aside) (keep : Nat → Prop) (s t : State) : Prop where
  same : ∀ x ∈ hs, Aside.same s t x
  task : ∀ k, keep k → t.task k = s.task k
  regs : ∀ x ∈ keptRegs, t.rd x.1 x.2 = s.rd x.1 x.2
  ctr : ∀ c ∈ endCtrs, t.ctrAt rvePage c 0 = s.ctrAt rvePage c 0
  told : ∀ i, s.rb rvePage Reg.evtStatus i = true → t.rb rvePage Reg.evtStatus i = true

theorem Aside.same_refl (s : State) (x : Aside) : x.same s s := by
  cases x
  · exact rfl
  · exact rfl
  · exact fun _ => rfl
  · exact ⟨rfl, rfl⟩

theorem Aside.same_trans {s t u : State} {x : Aside} (h : x.same s t) (g : x.same t u) : x.same s u := by
  cases x
  · exact Eq.trans g h
  · exact Eq.trans g h
  · exact fun n => (g n).trans (h n)
  · exact ⟨g.1.trans h.1, g.2.trans h.2⟩

/-- The parts that the holds speak of. -/
def heldParts : List Part := [.clk, .cores, .vce, .rve]

theorem Aside.same_of_parts {s t : State} (h : ∀ p ∈ heldParts, p.same s t) (x : Aside) : x.same s t := by
  have hclk := h .clk (by decide)
  have hcores := h .cores (by decide)
  have hvce := h .vce (by decide)
  have hrve := h .rve (by decide)
  cases x
  · exact hclk
  · exact hcores
  · exact fun n => by rw [State.encoder, show t.vce = s.vce from hvce]; rfl
  · rw [Aside.same, show t.rve = s.rve from hrve]
    exact ⟨rfl, rfl⟩

section
variable {hs : List Aside} {keep : Nat → Prop} {s u v : State}

theorem State.Kept.refl (s : State) : State.Kept hs keep s s :=
  ⟨fun _ _ => Aside.same_refl .., fun _ _ => rfl, fun _ _ => rfl, fun _ _ => rfl, fun _ h => h⟩

theorem State.Kept.trans (h : State.Kept hs keep s u) (g : State.Kept hs keep u v) : State.Kept hs keep s v where
  same x hx := Aside.same_trans (h.same x hx) (g.same x hx)
  task k hk := (g.task k hk).trans (h.task k hk)
  regs x hx := (g.regs x hx).trans (h.regs x hx)
  ctr c hc := (g.ctr c hc).trans (h.ctr c hc)
  told i hi := g.told i (h.told i hi)

/-- Parts other than the registers, the counters and what is held. -/
theorem State.Kept.parts (h : State.Kept hs keep s u) (hr : v.reg = u.reg) (hc : v.ctr = u.ctr)
    (ho : ∀ p ∈ heldParts, p.same u v) : State.Kept hs keep s v :=
  h.trans
    { same := fun x _ => Aside.same_of_parts ho x
      task := fun k _ => by rw [State.task, show v.rve = u.rve from ho .rve (by decide)]; rfl
      regs := fun x _ => State.rd_congr hr ..
      ctr := fun c _ => by rw [State.ctrAt, hc]; rfl
      told := fun i hi => by rwa [State.rb, State.rd_congr hr] }

theorem State.Kept.wr (h : State.Kept hs keep s u) {p o : Nat} {w : Word} (ho : o < 65536)
    (hn : (p, o) ∉ (rvePage, Reg.evtStatus) :: keptRegs) : State.Kept hs keep s (u.wr p o w) := by
  have hrd {x : Nat × Nat} (hx : x ∈ (rvePage, Reg.evtStatus) :: keptRegs) : (u.wr p o w).rd x.1 x.2 = u.rd x.1 x.2 := by
    have hlt : x.2 < 65536 := (by decide : ∀ x ∈ (rvePage, Reg.evtStatus) :: keptRegs, x.2 < 65536) x hx
    exact u.rd_wr_other w ho hlt (not_and_or.1 fun e => hn ((Prod.ext_iff.2 e : x = (p, o)) ▸ hx))
  exact h.trans
    { same := fun x _ => Aside.same_of_parts (by simp [heldParts, Part.same, State.wr]) x
      task := fun _ _ => rfl
      regs := fun x hx => hrd (List.mem_cons_of_mem _ hx)
      ctr := fun _ _ => rfl
      told := fun i hi => by rwa [State.rb, hrd (x := (rvePage, Reg.evtStatus)) (by simp)] }

theorem State.Kept.raised (h : State.Kept hs keep s u) (hn : u.Noted v) (hr : u.Raised v) : State.Kept hs keep s v :=
  h.trans
    { same := fun x _ => Aside.same_of_parts (fun p hp => hn.only p ((by decide : ∀ p ∈ heldParts, p ∉ noted) p hp)) x
      task := fun k _ => by rw [State.task, hn.rve]; rfl
      regs := fun x hx => hn.rd _ _ ((by decide : ∀ x ∈ keptRegs, x.2 % 65536 ∉ noteOffs) x hx)
      ctr := fun c hc => hr.ctr _ _ _ ((by decide : ∀ c ∈ endCtrs, c ∉ evtCtrs) c hc) (by decide)
      told := fun i hi => hr.told _ _ hi }

theorem State.Kept.raise (h : State.Kept hs keep s u) {p : Nat} {e : Event} {a b : Nat} :
    State.Kept hs keep s (u.raise p e a b) := h.raised (u.noted_raise ..) (u.raised_raise ..)

theorem State.Kept.diverge (h : State.Kept hs keep s u) {c ty : Nat} : State.Kept hs keep s (u.diverge c ty) :=
  h.raised (u.noted_diverge ..) (u.raised_diverge ..)

theorem State.rb_bumpAt (s : State) (p : Nat) (c : Ctr) (i n o q x : Nat) (h : s.rb q Reg.evtStatus x = true) :
    (s.bumpAt p c i n o).rb q Reg.evtStatus x = true := by
  unfold State.bumpAt
  split
  · exact h
  · extract_lets v v' w
    split
    · exact (w.raised_raise ..).told _ _ h
    · exact h

theorem State.Kept.bumpAt (h : State.Kept hs keep s u) {p i n o : Nat} {c : Ctr} (hc : c ∉ endCtrs) (hi : i < 2 ^ 26) :
    State.Kept hs keep s (u.bumpAt p c i n o) := by
  have hn := u.noted_bumpAt p c i n o
  exact h.trans
    { same := fun x _ => Aside.same_of_parts (fun p hp => hn.only p ((by decide : ∀ p ∈ heldParts, p ∉ noted) p hp)) x
      task := fun k _ => by rw [State.task, hn.rve]; rfl
      regs := fun x hx => hn.rd _ _ ((by decide : ∀ x ∈ keptRegs, x.2 % 65536 ∉ noteOffs) x hx)
      ctr := fun d hd => (u.bumpAt_other p c i n o hi).2 _ _ _ ((by decide : ∀ c ∈ endCtrs, c ∉ evtCtrs) d hd)
        (fun e => hc (e ▸ hd)) (by decide)
      told := fun j hj => u.rb_bumpAt _ _ _ _ _ _ _ hj }

theorem State.Kept.bump (h : State.Kept hs keep s u) {p : Nat} {c : Ctr} (hc : c ∉ endCtrs) :
    State.Kept hs keep s (u.bump p c) := h.bumpAt hc (by decide)

theorem State.Kept.bumpN (h : State.Kept hs keep s u) {p n : Nat} {c : Ctr} (hc : c ∉ endCtrs) :
    State.Kept hs keep s (u.bumpN p c n) := h.bumpAt hc (by decide)

theorem State.Kept.ite {c : Prop} [Decidable c] (h : State.Kept hs keep s u) (g : State.Kept hs keep s v) :
    State.Kept hs keep s (if c then u else v) := by
  split
  · exact h
  · exact g

theorem State.Kept.foldl {β : Type} {f : State → β → State} {l : List β} (h : State.Kept hs keep s u)
    (hf : ∀ a x, State.Kept hs keep s a → State.Kept hs keep s (f a x)) : State.Kept hs keep s (l.foldl f u) := by
  induction l generalizing u with
  | nil => exact h
  | cons x r ih => exact ih (hf _ _ h)

end

section
variable {hs : List Aside} {keep : Nat → Prop} {s u : State}

/-! ## Coil and Creel -/

/-- A part of the state that no one of `Aside` speaks of. -/
theorem State.Kept.other {v : State} (h : State.Kept hs keep s u) (hr : v.reg = u.reg) (hc : v.ctr = u.ctr) (hclk : v.clk = u.clk)
    (hcores : v.cores = u.cores) (hvce : v.vce = u.vce) (hrve : v.rve = u.rve) : State.Kept hs keep s v :=
  h.parts hr hc (by simp [heldParts, Part.same, hclk, hcores, hvce, hrve])

theorem State.Kept.setMem (h : State.Kept hs keep s u) {f : MemSt → MemSt} : State.Kept hs keep s (u.setMem f) :=
  h.other rfl rfl rfl rfl rfl rfl
theorem State.Kept.setCol (h : State.Kept hs keep s u) {f : ColSt → ColSt} : State.Kept hs keep s (u.setCol f) :=
  h.other rfl rfl rfl rfl rfl rfl
theorem State.Kept.setCrl (h : State.Kept hs keep s u) {f : CrlSt → CrlSt} : State.Kept hs keep s (u.setCrl f) :=
  h.other rfl rfl rfl rfl rfl rfl
theorem State.Kept.setPrg (h : State.Kept hs keep s u) {f : PrgSt → PrgSt} : State.Kept hs keep s (u.setPrg f) :=
  h.other rfl rfl rfl rfl rfl rfl
theorem State.Kept.setWve (h : State.Kept hs keep s u) {f : WveSt → WveSt} : State.Kept hs keep s (u.setWve f) :=
  h.other rfl rfl rfl rfl rfl rfl
theorem State.Kept.takeFree (h : State.Kept hs keep s u) : State.Kept hs keep s u.takeFree := h.other rfl rfl rfl rfl rfl rfl
theorem State.Kept.tsetF (h : State.Kept hs keep s u) {p t b e i hi lo v : Nat} : State.Kept hs keep s (u.tsetF p t b e i hi lo v) :=
  h.other rfl rfl rfl rfl rfl rfl

theorem State.Kept.dramSet (h : State.Kept hs keep s u) {a : Nat} {b : Byte} : State.Kept hs keep s (u.dramSet a b) :=
  .ite h (.ite h.setMem h.setMem)

theorem State.Kept.dramPut (h : State.Kept hs keep s u) {a : Nat} {bs : List Byte} : State.Kept hs keep s (u.dramPut a bs) := by
  obtain ⟨m, hm, -⟩ := u.dramPut_mem a bs
  rw [hm]
  exact h.setMem

theorem State.Kept.qPut (h : State.Kept hs keep s u) {q o : Nat} {bs : List Byte} : State.Kept hs keep s (u.qPut q o bs) := by
  induction bs generalizing u o with
  | nil => exact h
  | cons b r ih => exact ih (.ite h.dramSet h.setMem)

theorem State.Kept.colAnswer (h : State.Kept hs keep s u) {port status ofs len : Nat} :
    State.Kept hs keep s (u.colAnswer port status ofs len) := by
  unfold State.colAnswer
  extract_lets s1 s2
  have h2 : State.Kept hs keep s s2 := (State.Kept.ite (h.bump (by decide)) h).setCol
  exact .ite ((((h2.wr (by decide) (by decide)).wr (by decide) (by decide)).wr (by decide) (by decide)).wr (by decide) (by decide)) h2

theorem State.Kept.noCredit (h : State.Kept hs keep s u) {port q status : Nat} :
    State.Kept hs keep s (u.noCredit port q status) := (h.bump (by decide)).raise.colAnswer

theorem State.Kept.colReserve (h : State.Kept hs keep s u) {port q size : Nat} :
    State.Kept hs keep s (u.colReserve port q size) := by
  refine .ite h.colAnswer ?_
  split
  · exact h.noCredit
  · exact .ite h.colAnswer (.ite h.noCredit (h.qPut.tsetF.setCol.bump (by decide)).colAnswer)

theorem State.Kept.colCommit (h : State.Kept hs keep s u) {port q ofs len : Nat} {skip : Bool} :
    State.Kept hs keep s (u.colCommit port q ofs len skip) := by
  refine .ite h.colAnswer ?_
  split
  · exact h.colAnswer
  · exact .ite h.colAnswer h.qPut.setCol.colAnswer

theorem State.Kept.colSend (h : State.Kept hs keep s u) {port q : Nat} {b : List Byte} :
    State.Kept hs keep s (u.colSend port q b).1 := by
  unfold State.colSend
  extract_lets w a
  have hw : State.Kept hs keep s w := h.colReserve
  split
  · exact hw.qPut.colCommit
  · exact hw

theorem State.Kept.bufPut (h : State.Kept hs keep s u) {b o : Nat} {bs : List Byte} : State.Kept hs keep s (u.bufPut b o bs) :=
  .ite h.dramPut h.setMem

theorem State.Kept.refreshFree (h : State.Kept hs keep s u) {pool : Nat} : State.Kept hs keep s (u.refreshFree pool) :=
  .ite h.tsetF.raise h.tsetF

theorem State.Kept.metaErr (h : State.Kept hs keep s u) {pool line : Nat} : State.Kept hs keep s (u.metaErr pool line) :=
  h.setCrl.raise.refreshFree

theorem State.Kept.crlAnswer (h : State.Kept hs keep s u) {port status b : Nat} : State.Kept hs keep s (u.crlAnswer port status b) :=
  .ite (((h.setCrl.wr (by decide) (by decide)).wr (by decide) (by decide)).wr (by decide) (by decide)) h.setCrl

theorem State.Kept.ringWrite (h : State.Kept hs keep s u) {ws : List Word} : State.Kept hs keep s (u.ringWrite crlPage 0 ws) := by
  unfold State.ringWrite
  extract_lets _ _ _ _ _ _ _ _ w1 w2 w3
  have h2 : State.Kept hs keep s w2 := (h.other (v := w1) rfl rfl rfl rfl rfl rfl).wr (by decide) (by decide)
  have h3 : State.Kept hs keep s w3 := .ite (.ite (h2.other rfl rfl rfl rfl rfl rfl) h2) h2
  exact .ite h3 h3.raise

theorem State.Kept.crlRefuse (h : State.Kept hs keep s u) {port op status b owner : Nat} :
    State.Kept hs keep s (u.crlRefuse port op status b owner) := by
  unfold State.crlRefuse
  extract_lets w
  have hw : State.Kept hs keep s w := by
    refine .ite (.ite (h.bump (by decide)).raise.ringWrite ((h.bump (by decide)).raise.bump (by decide))) (.ite ?_ h)
    split
    · exact h.metaErr
    · exact h
  exact hw.crlAnswer

theorem State.Kept.crlAlloc (h : State.Kept hs keep s u) {port pool : Nat} : State.Kept hs keep s (u.crlAlloc port pool).1 := by
  unfold State.crlAlloc
  split
  · exact h.crlAnswer
  · split
    · exact (h.bump (by decide)).crlAnswer
    · extract_lets b
      split
      · exact h.metaErr.crlAnswer
      · exact (h.setCrl.bump (by decide)).refreshFree.crlAnswer

theorem State.Kept.crlFree (h : State.Kept hs keep s u) {port b : Nat} : State.Kept hs keep s (u.crlFree port b) := by
  unfold State.crlFree
  split
  · exact (h.setCrl.bump (by decide)).refreshFree.crlAnswer
  · exact h.crlRefuse

theorem State.Kept.crlAdd (h : State.Kept hs keep s u) {port b owner : Nat} : State.Kept hs keep s (u.crlAdd port b owner) := by
  unfold State.crlAdd
  split
  · exact h.setCrl.crlAnswer
  · exact h.crlRefuse

theorem State.Kept.crlDrop (h : State.Kept hs keep s u) {port b : Nat} : State.Kept hs keep s (u.crlDrop port b) := by
  unfold State.crlDrop
  split
  · exact h.setCrl.crlAnswer
  · exact h.crlRefuse

/-! ## The boundary's record for the standby -/

theorem State.Kept.layItem (h : State.Kept hs keep s u) {kind a b c : Nat} : State.Kept hs keep s (u.layItem kind a b c) :=
  .ite h.setPrg h

theorem State.Kept.layPut (h : State.Kept hs keep s u) {e : List Byte} : State.Kept hs keep s (u.layPut e) :=
  h.setPrg.setPrg.bump (by decide)

theorem State.Kept.lay (h : State.Kept hs keep s u) {ty flags : Nat} {body : List Byte} :
    State.Kept hs keep s (u.lay ty flags body) := by
  have hclose : State.Kept hs keep s u.closeBoundary := by
    unfold State.closeBoundary
    split
    · exact h
    · exact .ite h.setPrg.layPut h.setPrg
  exact .ite (State.Kept.layPut (hclose.setPrg.foldl fun _ _ ha => ha.setPrg.layPut)) h

theorem State.Kept.refusal (h : State.Kept hs keep s u) {kind ty : Nat} {ident : List Byte} {own : Bool} :
    State.Kept hs keep s (u.refusal kind ident ty own).1 := by
  unfold State.refusal
  extract_lets key
  split_ifs
  · dsimp only
    exact h.setPrg
  · exact h.diverge
  · exact h
  · exact h.lay
  · exact h

end

section
variable {hs : List Aside} {keep : Nat → Prop} {s u : State}

/-! ## The engines -/

/-- Streams of an engine, and what else does not end a picture. -/
theorem State.Kept.setVce (h : State.Kept hs keep s u) {f : VceSt → VceSt}
    (hp : .pics ∈ hs → ∀ n, ((u.setVce f).encoder n).pic = (u.encoder n).pic) : State.Kept hs keep s (u.setVce f) := by
  refine h.trans ⟨fun x hx => ?_, fun _ _ => rfl, fun _ _ => rfl, fun _ _ => rfl, fun _ hi => hi⟩
  cases x
  · exact rfl
  · exact rfl
  · exact hp hx
  · exact ⟨rfl, rfl⟩

theorem State.encoder_setEnc (s : State) (n : Nat) (f : Encoder → Encoder) : (s.setEnc n f).encoder n = f (s.encoder n) :=
  NMap.get_set_same ..

theorem State.encoder_setEnc_other (s : State) {n k : Nat} (f : Encoder → Encoder) (h : k ≠ n) :
    (s.setEnc n f).encoder k = s.encoder k := NMap.get_set_ne _ _ h

theorem State.Kept.setEnc (h : State.Kept hs keep s u) {n : Nat} {f : Encoder → Encoder}
    (hp : .pics ∈ hs → (f (u.encoder n)).pic = (u.encoder n).pic) : State.Kept hs keep s (u.setEnc n f) := by
  refine h.setVce fun hx k => ?_
  by_cases hk : k = n
  · subst hk
    exact (congrArg Encoder.pic (u.encoder_setEnc k f)).trans (hp hx)
  · exact congrArg Encoder.pic (u.encoder_setEnc_other f hk)

theorem State.Kept.setEncStream (h : State.Kept hs keep s u) {n m : Nat} {f : EncStream → EncStream} :
    State.Kept hs keep s (u.setEncStream n m f) := h.setEnc fun _ => rfl

theorem State.Kept.setDec (h : State.Kept hs keep s u) {n m : Nat} {f : DecStream → DecStream} :
    State.Kept hs keep s (u.setDec n m f) := by
  unfold State.setDec
  exact h.setVce fun _ _ => rfl

theorem State.Kept.tileEnds (h : State.Kept hs keep s u) {tag f status : Nat} {refresh : Bool} :
    State.Kept hs keep s (u.tileEnds tag f status refresh) := by
  unfold State.tileEnds State.setTile
  split
  · exact .ite h.setWve h
  · exact h

theorem State.Kept.statLost (h : State.Kept hs keep s u) {n : Nat} {pic : EncPic} : State.Kept hs keep s (u.statLost n pic) :=
  .ite (h.bump (by decide)) (State.Kept.setEnc (h.bump (by decide)) fun _ => rfl).raise

theorem State.Kept.encStat (h : State.Kept hs keep s u) {n : Nat} {e : List Word} {pic : EncPic} {l : LayerPic} :
    State.Kept hs keep s (u.encStat n e pic l) := by
  unfold State.encStat
  extract_lets port rec_ notice own
  have href := h.refusal (kind := 4) (ty := 11) (own := own)
    (ident := beBytes 1 n ++ beBytes 1 pic.stream ++ beBytes 2 0 ++ beBytes 4 pic.f)
  split
  · next w hw =>
    rw [hw] at href
    have ha := State.Kept.crlAlloc href (port := port) (pool := eStatPool e)
    refine State.Kept.statLost (.ite ?_ href)
    split
    · next x b hx =>
      rw [hx] at ha
      exact (State.Kept.ite ha ha.colReserve).crlFree
    · next x hx => rw [hx] at ha; exact ha
  · next w hw =>
    rw [hw] at href
    have ha := State.Kept.crlAlloc href (port := port) (pool := eStatPool e)
    split
    · next x b hx =>
      rw [hx] at ha
      exact ha.bufPut.crlAdd.crlDrop.colSend
    · next x hx => rw [hx] at ha; exact ha.statLost

theorem State.Kept.encAbandon (h : State.Kept hs keep s u) {n m f status : Nat} {pic : Option EncPic} :
    State.Kept hs keep s (u.encAbandon n m f status pic) :=
  .ite ((State.Kept.tileEnds h.setEncStream).bump (by decide)).raise.layItem h.setEncStream.tileEnds

theorem State.Kept.decLate (h : State.Kept hs keep s u) {n m : Nat} {x : DecUnit} : State.Kept hs keep s (u.decLate n m x) :=
  (h.crlFree.bump (by decide)).raise

theorem State.Kept.decHeldLate (h : State.Kept hs keep s u) {n m : Nat} : State.Kept hs keep s (u.decHeldLate n m) :=
  .ite h (h.setDec.foldl fun _ _ ha => ha.decLate.layItem)

theorem State.Kept.heldLate (h : State.Kept hs keep s u) : State.Kept hs keep s u.heldLate :=
  h.foldl fun _ _ ha => ha.foldl fun _ _ hb => hb.decHeldLate

theorem State.Kept.decAbort (h : State.Kept hs keep s u) {n m status : Nat} : State.Kept hs keep s (u.decAbort n m status) := by
  unfold State.decAbort
  split
  · exact h
  · exact .ite h.setDec.decLate.layItem h.setDec.crlFree

/-- What an abort does to an engine may end a picture. -/
theorem State.Kept.engineAbort (h : State.Kept hs keep s u) (hp : .pics ∉ hs) {d : List Word} {status : Nat} {running : Bool} :
    State.Kept hs keep s (u.engineAbort d status running) :=
  .ite (.ite (h.setEnc fun hx => absurd hx hp).encAbandon h.encAbandon) (.ite h.decAbort h)

/-- An encode that ends takes its picture from the encoder. -/
theorem State.encDone_pic (s : State) (n : Nat) : ((s.encDone n).encoder n).pic = none := by
  unfold State.encDone
  split
  · next hp => exact hp
  · next pic hp =>
    extract_lets m v w x
    have hv : (v.encoder n).pic = none := congrArg Encoder.pic (s.encoder_setEnc n _)
    have hx : State.Kept [.pics] (fun _ => True) v x := (State.Kept.refl v).setEncStream.tileEnds
    have hlast : State.Kept [.pics] (fun _ => True) v
        (if eStat pic.ent = true then pic.done.foldl (fun s l => s.encStat n pic.ent pic l) x else x) :=
      .ite (hx.foldl fun _ _ ha => ha.encStat) hx
    exact (hlast.same .pics (by simp) n).trans hv

/-! ## Trace, decrements and records -/

theorem State.Kept.setLost (h : State.Kept hs keep s u) {f : Nat → Nat} :
    State.Kept hs keep s (u.setRve fun r => { r with lost := f r.lost }) := by
  refine h.trans ⟨fun x _ => ?_, fun _ _ => rfl, fun _ _ => rfl, fun _ _ => rfl, fun _ hi => hi⟩
  cases x
  · exact rfl
  · exact rfl
  · exact fun _ => rfl
  · exact ⟨rfl, rfl⟩

theorem State.Kept.trace (h : State.Kept hs keep s u) {task exec reason cls detail : Nat} :
    State.Kept hs keep s (u.trace task exec reason cls detail) := by
  refine .ite ?_ h
  extract_lets q w
  have hdrop {v : State} (hv : State.Kept hs keep s v) : State.Kept hs keep s v.traceDrop :=
    (hv.bump (by decide)).setLost (f := fun n => min (n + 1) 0xFFFF)
  have hw : State.Kept hs keep s w := .ite h (h.colSend.setLost (f := fun _ => 0))
  exact .ite (hdrop h) (.ite (hdrop hw) hw.colSend)

theorem State.task_setTask (s : State) (id : Nat) (f : Task → Task) : (s.setTask id f).task id = f (s.task id) :=
  NMap.get_set_same ..

theorem State.task_setTask_other (s : State) {id k : Nat} (f : Task → Task) (h : k ≠ id) : (s.setTask id f).task k = s.task k :=
  NMap.get_set_ne _ _ h

/-- A task that is not among those that stay. -/
theorem State.Kept.setTask (h : State.Kept hs keep s u) {id : Nat} {f : Task → Task} (hk : ¬ keep id) :
    State.Kept hs keep s (u.setTask id f) := by
  have hr : State.Kept hs keep s (u.setRve fun r =>
      { r with tasks := NMap.set (fun _ => Task.free) r.tasks id (f (u.task id)) }) := by
    refine h.trans ⟨fun x _ => ?_, fun k hk' => u.task_setTask_other f fun e => hk (e ▸ hk'), fun _ _ => rfl, fun _ _ => rfl,
      fun _ hi => hi⟩
    cases x
    · exact rfl
    · exact rfl
    · exact fun _ => rfl
    · exact ⟨rfl, rfl⟩
  exact hr.wr (by decide) (by decide)

theorem State.Kept.becomeReady (h : State.Kept hs keep s u) {id k : Nat} (hk : ¬ keep id) :
    State.Kept hs keep s (u.becomeReady id k) := .ite (h.setTask hk).trace (h.setTask hk).trace.raise

/-- A task is free, or keeps a record. -/
def State.ended (s : State) (id : Nat) : Prop := (s.task id).st = 0 ∨ (s.task id).st = 6

/-- A decrement reaches a task that has not ended. -/
theorem State.Kept.rveDecrement (h : State.Kept hs keep s u) {port id : Nat} (hk : ¬ u.ended id → ¬ keep id) :
    State.Kept hs keep s (u.rveDecrement port id) := by
  unfold State.rveDecrement
  extract_lets t
  split_ifs with he
  · exact h.bump (by decide)
  · exact (h.bump (by decide)).raise.trace
  · exact (h.setTask (hk he)).becomeReady (hk he)
  · exact h.setTask (hk he)

theorem State.Kept.tryRecord (h : State.Kept hs keep s u) {id : Nat} (hk : ¬ keep id) : State.Kept hs keep s (u.tryRecord id) := by
  unfold State.tryRecord
  extract_lets t
  split
  · exact h.setTask hk
  · exact .ite (State.Kept.setTask (h.bump (by decide)) hk) (.ite (h.colSend.setTask hk) h)

end

/-- Everything of `Aside`. -/
def allAside : List Aside := [.clk, .cores, .pics, .lanes]

theorem endCtr_mem (status : Nat) : endCtr status ∈ endCtrs := by
  match status with
  | 0 | 1 | 2 | 3 => decide
  | _ + 4 => exact List.mem_of_elem_eq_true rfl

theorem not_alive_of_ended {s : State} {id : Nat} (h : s.ended id) : s.alive id = false := by
  rw [State.alive, decide_eq_false_iff_not]
  rcases h with h | h <;> omega

theorem State.ended_congr {s t : State} {k : Nat} (h : t.task k = s.task k) : t.ended k ↔ s.ended k := by
  rw [State.ended, State.ended, h]

/-! ## The end -/

/-- An end leaves what it does not name: of the other tasks, those that have ended. -/
theorem State.rveEnd_kept (s : State) (id exec status : Nat) (v : Word) (cycles detail : Nat) :
    State.Kept allAside (fun k => k ≠ id ∧ s.ended k) (s.bump rvePage (endCtr status)) (s.rveEnd id exec status v cycles detail) := by
  unfold State.rveEnd
  extract_lets d b u w x
  have hw : State.Kept allAside (fun k => k ≠ id ∧ s.ended k) b w := ((State.Kept.refl b).setTask fun h => h.1 rfl).trace
  have hb (k : Nat) : b.task k = s.task k := by
    rw [State.task, (s.noted_bump rvePage (endCtr status)).rve]
    rfl
  refine State.Kept.tryRecord (hw.foldl fun a k ha => ha.rveDecrement fun he hk => he ?_) fun h => h.1 rfl
  exact (State.ended_congr ((ha.task k hk).trans (hb k))).2 hk.2

theorem State.rveEnd_same (s : State) (id exec status : Nat) (v : Word) (cycles detail : Nat) (x : Aside) :
    x.same s (s.rveEnd id exec status v cycles detail) := by
  have hb := s.noted_bump rvePage (endCtr status)
  exact Aside.same_trans (Aside.same_of_parts (fun p hp => hb.only p ((by decide : ∀ p ∈ heldParts, p ∉ noted) p hp)) x)
    ((s.rveEnd_kept id exec status v cycles detail).same x (by cases x <;> simp [allAside]))

/-- A record that is kept leaves its task in its place. -/
theorem State.ended_tryRecord {s : State} {id : Nat} (h : (s.task id).st = 6) :
    (s.tryRecord id).ended id ∧ ((s.task id).record = none → ((s.tryRecord id).task id).st = 0) := by
  have hfree (u : State) : ((u.freeTask id).task id).st = 0 := congrArg Task.st (u.task_setTask id _)
  unfold State.tryRecord
  extract_lets t
  cases hr : t.record with
  | none => exact ⟨.inl (hfree s), fun _ => hfree s⟩
  | some r =>
    refine ⟨?_, fun hn => nomatch hn⟩
    dsimp only
    split_ifs
    · exact .inl (hfree _)
    · exact .inl (hfree _)
    · exact .inr h

theorem State.ended_rveEnd (s : State) (id exec status : Nat) (v : Word) (cycles detail : Nat) :
    (s.rveEnd id exec status v cycles detail).ended id ∧
      (dNotify (s.task id).desc = false → ((s.rveEnd id exec status v cycles detail).task id).st = 0) := by
  unfold State.rveEnd
  extract_lets d b u w x
  have hu : u.task id = _ := b.task_setTask id _
  have hst : (u.task id).st = 6 := congrArg Task.st hu
  have hx : State.Kept [] (fun k => u.ended k) u x := State.Kept.foldl (State.Kept.refl u).trace fun a k ha =>
    ha.rveDecrement fun he hk => he ((State.ended_congr (ha.task k hk)).2 hk)
  have htask : x.task id = u.task id := hx.task id (.inr hst)
  obtain ⟨hend, hfree⟩ := State.ended_tryRecord ((congrArg Task.st htask).trans hst)
  refine ⟨hend, fun hn => hfree ?_⟩
  rw [htask, hu]
  exact if_neg (by simp [d, hn])

/-- A decrement of a task that waits. -/
theorem State.dep_rveDecrement {s : State} (port : Nat) {k : Nat} (ha : ¬ s.ended k) (hd : (s.task k).dep ≠ 0) :
    ((s.rveDecrement port k).task k).dep = (s.task k).dep - 1 := by
  unfold State.rveDecrement
  extract_lets t u
  have hu : (u.task k).dep = (s.task k).dep - 1 := congrArg Task.dep (s.task_setTask k _)
  have ha' : ¬ (t.st = 0 ∨ t.st = 6) := ha
  have hd' : ¬ t.dep = 0 := hd
  rw [if_neg ha', if_neg hd']
  split
  · have hready : State.Kept [] (fun _ => True) (u.setTask k fun t => { t with st := 3, readyAt := clocksPerNs * u.clk.tru + 0 })
        (u.becomeReady k 0) := .ite (State.Kept.refl _).trace (State.Kept.refl _).trace.raise
    rw [hready.task k trivial, State.task_setTask]
    exact hu
  · exact hu

theorem State.dep_rveEnd {s : State} {id k : Nat} (exec status : Nat) (v : Word) (cycles detail : Nat)
    (hs : dSucc (s.task id).desc = [k]) (hne : k ≠ id) (ha : ¬ s.ended k) (hd : (s.task k).dep ≠ 0) :
    ((s.rveEnd id exec status v cycles detail).task k).dep = (s.task k).dep - 1 := by
  unfold State.rveEnd
  extract_lets d b u w x
  have hw : State.Kept [] (· ≠ id) b w := ((State.Kept.refl b).setTask fun h => h rfl).trace
  have hb : b.task k = s.task k := by
    rw [State.task, (s.noted_bump rvePage (endCtr status)).rve]
    rfl
  have hk : w.task k = s.task k := (hw.task k hne).trans hb
  have hx : x = w.rveDecrement (if exec = noExec then rvePort else exec) k := by
    simp only [x, d, hs]
    rfl
  have hrec : State.Kept [] (· ≠ id) x (x.tryRecord id) := (State.Kept.refl x).tryRecord fun h => h rfl
  rw [hrec.task k hne, hx, State.dep_rveDecrement _ ((not_congr (State.ended_congr hk)).2 ha) (by rwa [hk]), hk]

/-! ## Aborts -/

section
variable {hs : List Aside} {keep : Nat → Prop} {s u : State}

/-- What the executors run and hold. -/
theorem State.Kept.lanes (h : State.Kept hs keep s u) (hl : .lanes ∉ hs) {slot run : NMap (Option Nat)} :
    State.Kept hs keep s (u.setRve fun r => { r with slot := slot, run := run }) := by
  refine h.trans ⟨fun x hx => ?_, fun _ _ => rfl, fun _ _ => rfl, fun _ _ => rfl, fun _ hi => hi⟩
  cases x
  · exact rfl
  · exact rfl
  · exact fun _ => rfl
  · exact absurd hx hl

theorem State.Kept.setCore (h : State.Kept hs keep s u) (hl : .cores ∉ hs) {n : Nat} {f : WCore → WCore} :
    State.Kept hs keep s (u.setCore n f) := by
  refine h.trans ⟨fun x hx => ?_, fun _ _ => rfl, fun _ _ => rfl, fun _ _ => rfl, fun _ hi => hi⟩
  cases x
  · exact rfl
  · exact absurd hx hl
  · exact fun _ => rfl
  · exact ⟨rfl, rfl⟩

theorem State.Kept.setWst (h : State.Kept hs keep s u) {n v : Nat} : State.Kept hs keep s (u.setWst n v) :=
  h.wr (by decide) (by simp [keptRegs, Reg.wdsStatus, Reg.evtStatus, Reg.rveAbortRes, Reg.tmuWaleCtl, Reg.tmuGridPhase])

theorem State.Kept.coreAbort (h : State.Kept hs keep s u) (hl : .cores ∉ hs) {n : Nat} : State.Kept hs keep s (u.coreAbort n) := by
  have hwait : State.Kept hs keep s (u.endWait n) := by
    unfold State.endWait
    split
    · exact (State.Kept.setCore (h.bumpN (by decide)) hl).setWst
    · exact h
  exact (State.Kept.setCore ((hwait.bumpN (by decide)).foldl fun a _ ha => .ite (ha.setCore hl).takeFree (ha.setCore hl)) hl).setWst

end

theorem State.core_setCore (s : State) (n : Nat) (f : WCore → WCore) : (s.setCore n f).core n = f (s.core n) :=
  NMap.get_set_same ..

theorem State.core_setWst (s : State) (n v k : Nat) : (s.setWst n v).core k = s.core k := by
  simp only [State.core, State.setWst, State.wfld_cores]

theorem State.coreAbort_ph (s : State) (n : Nat) : ((s.coreAbort n).core n).ph = 0 := by
  unfold State.coreAbort
  extract_lets a b c
  rw [State.core_setWst, State.core_setCore]
  rfl

/-- What an abort does before the task ends: the slot, the executor and the engine are cleared. -/
def State.stopped (s : State) (id status : Nat) : State :=
  let t := s.task id
  let running := decide (t.st = 5)
  let e := s.heldBy id
  let u := s.leaveSlot id
  let u := if running then (if e < 512 then u.coreAbort e else u).setRun e none else u
  u.engineAbort t.desc status running

theorem State.abortTask_eq (s : State) (id status detail : Nat) : ∃ cyc, s.abortTask id status detail =
    (s.stopped id status).rveEnd id (s.heldBy id) status 0 cyc detail := ⟨_, rfl⟩

theorem State.heldBy_running {s : State} {id : Nat} (h : (s.task id).st = 5) : s.heldBy id = (s.task id).exec :=
  if_pos (.inr h)

theorem State.stopped_kept (s : State) (id status : Nat) : State.Kept [.clk] (fun _ => True) s (s.stopped id status) := by
  unfold State.stopped
  extract_lets t running e u v
  have hu : State.Kept [.clk] (fun _ => True) s u := .ite ((State.Kept.refl s).lanes (by simp)) (.refl s)
  have hv : State.Kept [.clk] (fun _ => True) s v :=
    .ite ((State.Kept.ite (hu.coreAbort (by simp)) hu).lanes (by simp)) hu
  exact hv.engineAbort (by simp)

theorem State.runOf_setRun (s : State) (e : Nat) (t : Option Nat) : (s.setRun e t).runOf e = t := NMap.get_set_same ..

theorem State.core_setRun (s : State) (e k : Nat) (t : Option Nat) : (s.setRun e t).core k = s.core k := rfl

/-- The executor of a task that runs is free after its abort; a slot holds another task. -/
theorem State.stopped_running {s : State} {id : Nat} (status : Nat) (h : (s.task id).st = 5) :
    (s.stopped id status).rve.slot = s.rve.slot ∧ (s.stopped id status).runOf (s.task id).exec = none ∧
      ((s.task id).exec < 512 → ((s.stopped id status).core (s.task id).exec).ph = 0) := by
  have hslot : s.leaveSlot id = s := if_neg (by omega)
  unfold State.stopped
  extract_lets t running e u v
  have he : e = (s.task id).exec := s.heldBy_running h
  have hu : u = s := hslot
  have hv : v = (if e < 512 then u.coreAbort e else u).setRun e none := if_pos (decide_eq_true h)
  have hw : State.Kept [.lanes] (fun _ => True) u (if e < 512 then u.coreAbort e else u) :=
    .ite ((State.Kept.refl u).coreAbort (by simp)) (.refl u)
  have hlast : State.Kept [.cores, .lanes] (fun _ => True) v (v.engineAbort t.desc status running) :=
    (State.Kept.refl v).engineAbort (by simp)
  obtain ⟨hs, hr⟩ := hlast.same .lanes (by simp)
  obtain ⟨hs', -⟩ := hw.same .lanes (by simp)
  have hcores : (v.engineAbort t.desc status running).cores = v.cores := hlast.same .cores (by simp)
  rw [← he]
  refine ⟨?_, ?_, fun hlt => ?_⟩
  · rw [hs, hv]
    exact hs'.trans (by rw [hu])
  · rw [State.runOf, hr, hv]
    exact State.runOf_setRun ..
  · have hcore : (v.engineAbort t.desc status running).core e = v.core e :=
      congrArg (fun m => NMap.get (fun _ => WCore.init) m e) hcores
    rw [hcore, hv, if_pos hlt, State.core_setRun]
    exact u.coreAbort_ph e

/-- `t` is `s` after the task was aborted with a status of R138. -/
structure State.Aborted (s t : State) (id status : Nat) : Prop where
  ended : t.ended id
  free : dNotify (s.task id).desc = false → (t.task id).st = 0
  others : ∀ k, k ≠ id → s.ended k → t.ended k
  clk : t.clk = s.clk
  regs : ∀ x ∈ keptRegs, t.rd x.1 x.2 = s.rd x.1 x.2
  told : ∀ i, s.rb rvePage Reg.evtStatus i = true → t.rb rvePage Reg.evtStatus i = true
  counted : t.ctrAt rvePage (endCtr status) 0 = min (s.ctrAt rvePage (endCtr status) 0 + 1) (2 ^ 32 - 1)
  running : (s.task id).st = 5 → t.rve.slot = s.rve.slot ∧ t.runOf (s.task id).exec = none ∧
    ((s.task id).exec < 512 → (t.core (s.task id).exec).ph = 0)
  lowered : ∀ k, dSucc (s.task id).desc = [k] → k ≠ id → ¬ s.ended k → (s.task k).dep ≠ 0 → (t.task k).dep = (s.task k).dep - 1

/-- Every counter of an abort is of class S. -/
theorem endCtr_cls {status : Nat} (h : status ≠ 0) : (endCtr status).cls = .s := by
  match status, h with
  | 1, _ | 2, _ | 3, _ => rfl
  | _ + 4, _ => rfl

theorem State.aborted (s : State) (id : Nat) {status : Nat} (detail : Nat) (h : status ≠ 0) :
    s.Aborted (s.abortTask id status detail) id status := by
  obtain ⟨cyc, heq⟩ := s.abortTask_eq id status detail
  rw [heq]
  have hv := s.stopped_kept id status
  have hrun (h5 : (s.task id).st = 5) := s.stopped_running status h5
  generalize hw : s.stopped id status = v at hv hrun ⊢
  generalize hx : s.heldBy id = e
  have hend := v.rveEnd_kept id e status 0 cyc detail
  obtain ⟨hended, hfree⟩ := v.ended_rveEnd id e status 0 cyc detail
  have htask (k : Nat) : v.task k = s.task k := hv.task k trivial
  have hb := v.noted_bump rvePage (endCtr status)
  obtain ⟨hslot, hlanes⟩ := v.rveEnd_same id e status 0 cyc detail .lanes
  have hcores : (v.rveEnd id e status 0 cyc detail).cores = v.cores := v.rveEnd_same id e status 0 cyc detail .cores
  refine
    { ended := hended
      free := fun hn => hfree (by rwa [htask])
      others := fun k hk he => ?_
      clk := (v.rveEnd_same id e status 0 cyc detail .clk).trans (hv.same .clk (by simp))
      regs := fun x hx => (hend.regs x hx).trans
        ((hb.rd _ _ ((by decide : ∀ x ∈ keptRegs, x.2 % 65536 ∉ noteOffs) x hx)).trans (hv.regs x hx))
      told := fun i hi => hend.told i (v.rb_bumpAt _ _ _ _ _ _ _ (hv.told i hi))
      counted := ?_
      running := fun h5 => ?_
      lowered := fun k hs hk ha hd => ?_ }
  · have hvk : v.ended k := (State.ended_congr (htask k)).2 he
    refine (State.ended_congr ((hend.task k ⟨hk, hvk⟩).trans ?_)).2 hvk
    rw [State.task, hb.rve]
    rfl
  · rw [hend.ctr _ (endCtr_mem status), State.ctrAt_bump v rvePage (endCtr_cls h)
      ((by decide : ∀ c ∈ endCtrs, c ∉ evtCtrs) _ (endCtr_mem status)), hv.ctr _ (endCtr_mem status)]
  · obtain ⟨h1, h2, h3⟩ := hrun h5
    refine ⟨hslot.trans h1, ?_, fun hlt => ?_⟩
    · rw [State.runOf, hlanes]
      exact h2
    · rw [State.core, hcores]
      exact h3 hlt
  · rw [State.dep_rveEnd e status 0 cyc detail (by rwa [htask]) hk ((not_congr (State.ended_congr (htask k))).2 ha)
      (by rwa [htask]), htask]

/-- What stays with everything held. -/
theorem State.Aborted.of_kept {s u t : State} {id status : Nat} (hk : State.Kept allAside (fun _ => True) s u)
    (h : u.Aborted t id status) : s.Aborted t id status := by
  have htask (k : Nat) : u.task k = s.task k := hk.task k trivial
  obtain ⟨hslot, hrun⟩ := hk.same .lanes (by simp [allAside])
  refine
    { ended := h.ended
      free := fun hn => h.free (by rwa [htask])
      others := fun k hne he => h.others k hne ((State.ended_congr (htask k)).2 he)
      clk := h.clk.trans (hk.same .clk (by simp [allAside]))
      regs := fun x hx => (h.regs x hx).trans (hk.regs x hx)
      told := fun i hi => h.told i (hk.told i hi)
      counted := by rw [h.counted, hk.ctr _ (endCtr_mem status)]
      running := fun h5 => ?_
      lowered := fun k hs hne ha hd => ?_ }
  · have hr := h.running (by rwa [htask])
    rw [htask, hslot] at hr
    exact hr
  · rw [h.lowered k (by rwa [htask]) hne ((not_congr (State.ended_congr (htask k))).2 ha) (by rwa [htask]), htask]

/-- A task that is abandoned at its deadline (R133). -/
theorem State.aborted_deadlineAbort (s : State) (id : Nat) :
    s.Aborted (s.deadlineAbort id) id 2 ∧ (s.deadlineAbort id).Told rvePage .rveDeadline := by
  unfold State.deadlineAbort
  extract_lets d e u w x
  have hw : State.Kept allAside (fun _ => True) u w := (State.Kept.refl u).layItem
  have hx : State.Kept allAside (fun _ => True) u x := .ite (.ite hw.raise hw) (.refl u)
  have ha := x.aborted id (status := 2) 0 (by decide)
  exact ⟨ha.of_kept ((State.Kept.refl s).raise.trans hx), ha.told _ (hx.told _ (s.told_raise ..))⟩

/-! ## What the commands do -/

/-- An exit in time is counted. -/
theorem State.completed_rveEnd (s : State) (id exec : Nat) (v : Word) (cycles detail : Nat) :
    (s.rveEnd id exec 0 v cycles detail).ctrAt rvePage .rveCompleted 0 = (s.ctrAt rvePage .rveCompleted 0 + 1) % 2 ^ 64 := by
  have hc : Ctr.cls .rveCompleted = .w := rfl
  have hb : s.bump rvePage .rveCompleted = s.bumpW rvePage .rveCompleted 0 1 := by rw [State.bump, State.bumpAt, hc]
  refine ((s.rveEnd_kept id exec 0 v cycles detail).ctr .rveCompleted (by decide)).trans ?_
  show (s.bump rvePage .rveCompleted).ctrAt rvePage .rveCompleted 0 = _
  rw [hb]
  exact State.ctrAt_setCtr ..

/-- R135: `RVE_ABORT_RES`. -/
theorem State.rd_abortRes (s : State) {n : Nat} (hn : n < 2 ^ 17) : (s.abortRes n).rf rvePage Reg.rveAbortRes 16 0 = n ∧
    (s.abortRes n).rf rvePage Reg.rveAbortRes 31 24 = (s.rf rvePage Reg.rveAbortRes 31 24 + 1) % 256 := by
  constructor
  · rw [State.rf, State.abortRes, State.seqUp, State.rd_wfld_same, State.rd_wfld_same, fld_withFld_other _ _ (.inl (by decide)),
      fld_withFld _ _ (by decide) (by decide)]
    exact Nat.mod_eq_of_lt hn
  · rw [State.rf, State.abortRes, State.seqUp, State.rd_wfld_same, fld_withFld _ _ (by decide) (by decide), State.rf,
      State.rd_wfld_same, fld_withFld_other _ _ (.inr (by decide))]
    exact Nat.mod_mod ..

theorem State.frame_abortRes (s : State) (n : Nat) : State.Frame [(rvePage, Reg.rveAbortRes)] [.reg] s (s.abortRes n) :=
  ((State.Frame.refl s).wfld _ _ _ (by decide) (by decide) (by decide)).seqUp (by decide) (by decide) (by decide)

/-- The wale in progress stays. -/
theorem State.Kept.wale {hs : List Aside} {keep : Nat → Prop} {s t : State} (h : State.Kept hs keep s t) (hc : .clk ∈ hs) :
    t.wale = s.wale := by
  have hclk : t.clk = s.clk := h.same .clk hc
  have hgen : t.genState = s.genState := congrArg (fld · 5 4) (h.regs (tmuPage, Reg.tmuWaleCtl) (by decide))
  have hgrid : t.gridPhase = s.gridPhase := congrArg (fld · 21 0) (h.regs (tmuPage, Reg.tmuGridPhase) (by decide))
  rw [State.wale, State.wale, State.wale64, State.wale64, State.wale28, State.wale28, State.now, State.now, hgen, hgrid, hclk]

theorem State.not_ended_of_alive {s : State} {id : Nat} (h : s.alive id = true) : ¬ s.ended id :=
  fun he => Bool.false_ne_true ((not_alive_of_ended he).symm.trans h)

/-- Every task of a list is aborted, and those that have ended stay so. -/
theorem State.ended_abortAll {s : State} (l : List Nat) {status : Nat} (detail : Nat) (hs : status ≠ 0) {id : Nat}
    (h : s.ended id ∨ id ∈ l) : (l.foldl (fun s id => s.abortTask id status detail) s).ended id := by
  induction l generalizing s with
  | nil => exact h.resolve_right List.not_mem_nil
  | cons k r ih =>
    have ha := s.aborted k detail hs
    refine ih ?_
    by_cases hk : id = k
    · subst hk
      exact .inl ha.ended
    · rcases h with he | he
      · exact .inl (ha.others id hk he)
      · exact .inr ((List.mem_cons.1 he).resolve_left hk)

/-- A value that is not the default is among those of the map. -/
theorem NMap.mem_of_get {α : Type} {d : Nat → α} {m : NMap α} {k : Nat} (h : NMap.get d m k ≠ d k) : (k, NMap.get d m k) ∈ m := by
  induction m with
  | nil => exact absurd rfl h
  | cons x r ih =>
    obtain ⟨j, v⟩ := x
    by_cases hj : j = k
    · simp [NMap.get, hj]
    · rw [NMap.get, if_neg hj] at h ⊢
      exact List.mem_cons_of_mem _ (ih h)

/-- A task that is not free is among those of Reeve. -/
theorem State.mem_tasks {s : State} {id : Nat} (h : 1 ≤ (s.task id).st) : (id, s.task id) ∈ s.rve.tasks :=
  NMap.mem_of_get fun e => absurd h (by rw [show s.task id = Task.free from e]; decide)

/-- The tasks of an owner that have not started. -/
def State.waitingOf (s : State) (owner : Nat) : List Nat :=
  (s.rve.tasks.filter fun t => decide (1 ≤ t.2.st ∧ t.2.st ≤ 4 ∧ dOwner t.2.desc = owner)).map (·.1)

theorem State.mem_waitingOf {s : State} {owner id : Nat} (h1 : 1 ≤ (s.task id).st) (h4 : (s.task id).st ≤ 4)
    (ho : dOwner (s.task id).desc = owner) : id ∈ s.waitingOf owner :=
  List.mem_map.2 ⟨_, List.mem_filter.2 ⟨State.mem_tasks h1, by simp [h1, h4, ho]⟩, rfl⟩

/-- A core whose task has reached its exit is free. -/
def State.coreDone (s : State) (e : Nat) : State :=
  ((s.setCore e fun c => { c with ph := 0 }).setWst e (if (s.core e).moving then 3 else 0)).setRun e none

theorem State.coreDone_kept (s : State) (e : Nat) : State.Kept [] (fun _ => True) s (s.coreDone e) :=
  ((State.Kept.refl s).setCore (by simp)).setWst.lanes (by simp)

theorem State.slot_setRun (s : State) (e : Nat) (t : Option Nat) : (s.setRun e t).rve.slot = s.rve.slot := rfl

theorem State.rve_setWst (s : State) (n v : Nat) : (s.setWst n v).rve = s.rve := State.wfld_rve ..

theorem State.mem_freeTask (s : State) (id : Nat) : (s.freeTask id).mem = s.mem := rfl

theorem State.coreDone_lanes (s : State) (e : Nat) :
    (s.coreDone e).rve.slot = s.rve.slot ∧ (s.coreDone e).runOf e = none ∧ ((s.coreDone e).core e).ph = 0 := by
  refine ⟨?_, State.runOf_setRun .., ?_⟩
  · rw [State.coreDone, State.slot_setRun, State.rve_setWst]
    rfl
  · rw [State.coreDone, State.core_setRun, State.core_setWst, State.core_setCore]

theorem State.exec_taskComplete_core {s : State} {e id : Nat} (v : Word) (hrun : s.runOf e = some id) (hlt : e < 512)
    (hdone : (decide ((s.core e).ph = 2) && ((s.core e).faulted || ((s.core e).chansIdle 15 && (s.core e).fabIdle))) = true) :
    exec (.taskComplete e v) s = .next (if s.pastDeadline id = true then s.deadlineAbort id
      else (s.coreDone e).rveEnd id e 0 (s.core e).value (s.core e).cyc ((s.core e).cyc % 65536)) := by
  show execTaskComplete e v s = _
  simp only [execTaskComplete, hrun]
  exact congrArg Host.Outcome.next ((if_pos hlt).trans (if_pos hdone))

theorem State.encoder_setRun (s : State) (e k : Nat) (t : Option Nat) : (s.setRun e t).encoder k = s.encoder k := rfl

theorem State.exec_taskComplete_encoder {s : State} {n id : Nat} (v : Word) (hrun : s.runOf (512 + n) = some id) (hn : n < 16) :
    exec (.taskComplete (512 + n) v) s = .next (if (s.encReady n id && s.encFits n id) = true then
      (if s.pastDeadline id = true then s.deadlineAbort id
        else ((s.encDone n).setRun (512 + n) none).rveEnd id (512 + n) 0 v (s.encSpent n) (s.encSpent n % 65536)) else s) := by
  show execTaskComplete (512 + n) v s = _
  simp only [execTaskComplete, hrun, Nat.add_sub_cancel_left]
  exact congrArg Host.Outcome.next ((if_neg (by omega)).trans (if_pos (by omega)))

/-- An executor that ran has no task after the end of that. -/
theorem State.runOf_rveEnd {s : State} {e : Nat} (h : s.runOf e = none) (id exec status : Nat) (v : Word) (cycles detail : Nat) :
    (s.rveEnd id exec status v cycles detail).runOf e = none := by
  obtain ⟨-, hr⟩ := s.rveEnd_same id exec status v cycles detail .lanes
  rw [State.runOf, hr]
  exact h

/-- A task that has spent its budget is aborted. -/
theorem State.exec_budgetAbort {s : State} {e id : Nat} (hrun : s.runOf e = some id)
    (h : if e < 512 then s.wdsFree e = true ∧ s.inBudget e = false
      else dBudget (s.task id).desc ≤ s.vceCycles id ∧ (e < 528 → s.encFits (e - 512) id = false)) :
    exec (.budgetAbort e) s = .next ((s.raise rvePage .rveBudget (id + e * 2 ^ 16) (dBudget (s.task id).desc)).abortTask id 1 0) := by
  show execBudgetAbort e s = _
  simp only [execBudgetAbort, hrun]
  refine congrArg Host.Outcome.next (if_pos ?_)
  by_cases hlt : e < 512
  · rw [if_pos hlt] at h ⊢
    obtain ⟨hfree, hout⟩ := h
    rw [hfree, hout]
    rfl
  · rw [if_neg hlt] at h ⊢
    obtain ⟨hspent, hfits⟩ := h
    by_cases henc : e < 528
    · simp [hspent, hfits henc]
    · simp [hspent, henc]

end Sys2Proof.Machine
end

section
open Sys2Proof Sys2Proof.Machine
/-- Settles O11, clause by clause. -/
theorem taskEnds : Obligations.TaskEnds := by
  refine ⟨fun s e id v hrun h5 he hlt hph hidle => ?_, fun s n id v hrun hn hready hfits hpast => ?_,
    fun s n id v hrun hn hfits => ?_,
    fun s e id hrun h5 he hspent => ?_, fun s id hdue hfol hal hdl hle => ?_, fun s src id h hal => ?_, fun s src id h hal => ?_,
    fun s src owner h => ?_, fun s id h6 hrec hoff => ?_, fun s id status wale cycles v h6 hrec hon hcredit => ?_,
    fun s id h6 hrec hon hcredit => ?_, fun s src id k h hal hsucc hne halk hdep => ?_⟩
  · have hdone : (decide ((s.core e).ph = 2) && ((s.core e).faulted || ((s.core e).chansIdle 15 && (s.core e).fabIdle))) = true := by
      simpa [hph] using hidle
    refine ⟨_, State.exec_taskComplete_core v hrun hlt hdone, ?_⟩
    by_cases hpast : s.pastDeadline id = true
    · obtain ⟨ha, htold⟩ := s.aborted_deadlineAbort id
      obtain ⟨hslot, hfree, hcore⟩ := ha.running h5
      rw [he] at hfree hcore
      rw [if_pos hpast]
      exact ⟨hfree, hcore hlt, not_alive_of_ended ha.ended, ha.free, hslot, fun hn => absurd (hpast.symm.trans hn) (by decide),
        fun _ => ⟨htold, ha.counted⟩⟩
    · have hk := s.coreDone_kept e
      obtain ⟨hslot, hrun', hcore⟩ := s.coreDone_lanes e
      rw [if_neg hpast]
      generalize s.coreDone e = u at hk hslot hrun' hcore
      obtain ⟨hended, hfree⟩ := u.ended_rveEnd id e 0 (s.core e).value (s.core e).cyc ((s.core e).cyc % 65536)
      have hsame := u.rveEnd_same id e 0 (s.core e).value (s.core e).cyc ((s.core e).cyc % 65536)
      have hcores := hsame .cores
      refine ⟨State.runOf_rveEnd hrun' .., ?_, not_alive_of_ended hended, fun hn => hfree ?_, (hsame .lanes).1.trans hslot,
        fun _ => ?_, fun hp => absurd hp hpast⟩
      · rw [State.core, show _ = u.cores from hcores]
        exact hcore
      · rwa [hk.task id trivial]
      · rw [State.completed_rveEnd, hk.ctr _ (by decide)]
  · refine ⟨_, State.exec_taskComplete_encoder v hrun hn, ?_⟩
    rw [if_pos (by rw [hready, hfits]; rfl), if_neg (by simp [hpast])]
    have hpics := ((s.encDone n).setRun (512 + n) none).rveEnd_same id (512 + n) 0 v (s.encSpent n) (s.encSpent n % 65536) .pics
    refine ⟨State.runOf_rveEnd (State.runOf_setRun ..) .., (hpics n).trans ?_, not_alive_of_ended (State.ended_rveEnd ..).1⟩
    rw [State.encoder_setRun]
    exact s.encDone_pic n
  · refine ⟨_, State.exec_taskComplete_encoder v hrun hn, ?_⟩
    rw [if_neg (by simp [hfits])]
  · have hk : State.Kept allAside (fun _ => True) s (s.raise rvePage .rveBudget (id + e * 2 ^ 16) (dBudget (s.task id).desc)) :=
      (State.Kept.refl s).raise
    have ha := (State.aborted _ id (status := 1) 0 (by decide)).of_kept hk
    obtain ⟨-, hfree, hcore⟩ := ha.running h5
    rw [he] at hfree hcore
    exact ⟨_, State.exec_budgetAbort hrun hspent, hfree, not_alive_of_ended ha.ended, hcore, ha.counted⟩
  · have hk : State.Kept allAside (fun _ => True) (s.atStep 3) (s.atStep 3).heldLate := (State.Kept.refl _).heldLate
    have htask : ((s.atStep 3).heldLate).task id = s.task id := hk.task id trivial
    have hwale : ((s.atStep 3).heldLate).wale = s.wale := hk.wale (by simp [allAside])
    have hcond : ((s.atStep 3).heldLate.alive id && dHasDeadline (((s.atStep 3).heldLate).task id).desc &&
        waleLe (dDeadline (((s.atStep 3).heldLate).task id).desc) (s.atStep 3).heldLate.wale) = true := by
      rw [State.alive, htask, hwale, hdl, hle, Bool.and_true, Bool.and_true]
      exact hal
    have ha := ((s.atStep 3).heldLate.aborted_deadlineAbort id).1.of_kept hk
    refine ⟨_, congrArg Host.Outcome.next ((if_pos (by simp [hdue, hfol])).trans (if_pos hcond)), ?_, not_alive_of_ended ha.ended⟩
    rw [ha.clk]
    rfl
  · refine h.answers (v := BitVec.ofNat 32 id) (t := fun l => ((s.carrying l).abortTask id 4 (srcPort src)).abortRes 1) rfl
      (fun l => if_pos hal) fun l => ?_
    have ha := (s.carrying l).aborted id (status := 4) (srcPort src) (by decide)
    obtain ⟨h1, h2⟩ := State.rd_abortRes ((s.carrying l).abortTask id 4 (srcPort src)) (n := 1) (by decide)
    refine ⟨not_alive_of_ended ha.ended, h1, h2.trans ?_⟩
    rw [State.rf, ha.regs (rvePage, Reg.rveAbortRes) (by decide)]
    rfl
  · refine h.answers (v := BitVec.ofNat 32 id) (t := fun l => (s.carrying l).abortRes 0) rfl
      (fun l => if_neg (Bool.eq_false_iff.1 hal)) fun l => ?_
    have hf := (s.frame_carrying l [(rvePage, Reg.rveAbortRes)] (ps := [.reg, .prg]) (by decide)).trans
      (((s.carrying l).frame_abortRes 0).mono (fun _ h => h) (by decide))
    exact ⟨hf.only .rve (by decide), ((s.carrying l).rd_abortRes (by decide)).1, hf.regs, hf.only⟩
  · refine h.answers (v := BitVec.ofNat 32 (owner + 2 ^ 16)) (t := fun l =>
      (((s.carrying l).waitingOf owner).foldl (fun s id => s.abortTask id 4 (srcPort src)) (s.carrying l)).abortRes
        ((s.carrying l).waitingOf owner).length) rfl (fun l => rfl) fun l id h1 h4 ho => not_alive_of_ended ?_
    exact State.ended_abortAll (s := s.carrying l) _ (srcPort src) (by decide) (.inr (State.mem_waitingOf h1 h4 ho))
  · obtain ⟨⟨status, v, wale, cycles⟩, hr⟩ := Option.isSome_iff_exists.1 hrec
    have hb := s.noted_bump rvePage .rveCompLost
    have hlost : s.tryRecord id = (s.bump rvePage .rveCompLost).freeTask id := by
      simp only [State.tryRecord, hr, hoff, Bool.not_false, if_true]
    refine ⟨(s.bump rvePage .rveCompLost).freeTask id, congrArg Host.Outcome.next ((if_pos h6).trans hlost),
      congrArg Task.st (State.task_setTask ..), fun k hk => ?_, s.ctrAt_bump rvePage rfl (by decide)⟩
    refine (State.task_setTask_other _ _ hk).trans ?_
    rw [State.task, hb.rve]
    rfl
  · have hsent : s.tryRecord id =
        ((s.colSend rvePort (dCompq (s.task id).desc) (recordBytes id status v wale cycles)).1).freeTask id := by
      simp only [State.tryRecord, hrec, hon, hcredit, Bool.not_true, Bool.false_eq_true, if_false, if_true]
    exact ⟨_, congrArg Host.Outcome.next ((if_pos h6).trans hsent), congrArg Task.st (State.task_setTask ..), State.mem_freeTask ..⟩
  · obtain ⟨r, hr⟩ := Option.isSome_iff_exists.1 hrec
    have hkept : s.tryRecord id = s := by
      simp only [State.tryRecord, hr, hon, hcredit, Bool.not_true, Bool.false_eq_true, if_false]
    exact ⟨_, congrArg Host.Outcome.next ((if_pos h6).trans hkept), rfl⟩
  · refine h.answers (v := BitVec.ofNat 32 id) (t := fun l => ((s.carrying l).abortTask id 4 (srcPort src)).abortRes 1) rfl
      (fun l => if_pos hal) fun l => ?_
    have ha := (s.carrying l).aborted id (status := 4) (srcPort src) (by decide)
    exact ha.lowered k hsucc hne (State.not_ended_of_alive halk) hdep
end

section
/-!
SUPPORT. Coil: requests of a port, what the storage of a queue, its offsets and the answers read after an operation, and what the
operations leave (R171 to R186, R193).
-/

namespace Sys2Proof.Machine

/-! ## Requests of a port -/

theorem State.PortOpen.viaRegs {s : State} {port : Nat} (h : s.PortOpen port) : viaRegs port = false :=
  decide_eq_false (Nat.not_le.2 h.agent)

/-- A port of an agent: its request is one write of the fabric (R162, R176). -/
theorem State.PortOpen.request {s : State} {port : Nat} (h : s.PortOpen port) (p : Nat) (args : List (Nat × Word)) (go : Nat)
    (k : State → State) : s.portRequest port p args go k = k s := by
  cases args with
  | nil => simp [State.portRequest, State.portAccess, h.viaRegs, h.joined]
  | cons a r => simp [State.portRequest, h.viaRegs, h.joined]

/-- R65: the fence of its page severs an agent's port. -/
theorem State.portRequest_severed {s : State} {port : Nat} (ha : port < 576) (hs : s.severed port = true) (p : Nat)
    (args : List (Nat × Word)) (go : Nat) (k : State → State) : s.portRequest port p args go k = s := by
  have hv : Machine.viaRegs port = false := decide_eq_false (Nat.not_le.2 ha)
  cases args with
  | nil => exact State.portAccess_severed ha hs ..
  | cons a r => simp [State.portRequest, hv, hs]

/-- The PF's write of a register leaves its reach of another, where neither SYS nor Pairing holds it. -/
theorem State.Opens.argWritten {s : State} {p o : Nat} (h : s.Opens .pf p o) (l : List (Nat × Nat × Word)) {q n : Nat}
    (hn : n < 65536) (h0 : q ≠ 0) (hprg : q ≠ prgPage) (v : Word) : ((s.carrying l).wr q n v).Opens .pf p o where
  reaches := h.reaches
  assigned := h.assigned
  granted := rfl
  shown := by
    rw [State.hidden, State.rf, State.rd_wr_other _ _ hn (by decide) (.inl h0.symm)]
    exact h.shown
  taken := by
    rw [State.standby, State.rb, State.rd_wr_other _ _ hn (by decide) (.inl hprg.symm)]
    exact h.taken

/-- The PF's request: its arguments are written, then its GO (R162, R176). -/
theorem State.portRequest_pf {p go : Nat} (h0 : p ≠ 0) (hprg : p ≠ prgPage) (k : State → State) (args : List (Nat × Word))
    {s : State} (ha : ∀ a ∈ args, s.Opens .pf p a.1 ∧ a.1 < 65536) (hgo : s.Opens .pf p go) :
    ∃ t, s.portRequest 576 p args go k = k t ∧ State.Frame (args.map fun a => (p, a.1)) [.reg, .prg] s t := by
  induction args generalizing s with
  | nil =>
    obtain ⟨l, e⟩ := hgo.access 1 k
    exact ⟨_, e, s.frame_carrying l [] (by decide)⟩
  | cons a r ih =>
    obtain ⟨o, v⟩ := a
    obtain ⟨hopen, ho⟩ := ha (o, v) (by simp)
    obtain ⟨l, e⟩ := hopen.access v fun u => (u.wr p o v).portRequest 576 p r go k
    obtain ⟨t, et, hf⟩ := ih (s := (s.carrying l).wr p o v)
      (fun b hb => ⟨(ha b (by simp [hb])).1.argWritten l ho h0 hprg v, (ha b (by simp [hb])).2⟩) (hgo.argWritten l ho h0 hprg v)
    refine ⟨t, e.trans et, ?_⟩
    exact (((s.frame_carrying l _ (by decide)).wr v ho (by simp) (by decide))).trans
      (hf.mono (fun x hx => by simp only [List.map_cons]; exact List.mem_cons_of_mem _ hx) fun _ hx => hx)

/-! ## The state of Coil -/

theorem State.only_setCol (s : State) (f : ColSt → ColSt) : s.Only (s.setCol f) [.col] := by
  intro x hx
  cases x <;> simp [Part.same] at hx ⊢

section
variable {rs : List (Nat × Nat)} {ps : List Part} {s t : State}

theorem State.Frame.setCol (h : State.Frame rs ps s t) (f : ColSt → ColSt) (hp : .col ∈ ps) : State.Frame rs ps s (t.setCol f) :=
  h.parts rfl (t.only_setCol f) (by simpa using hp)

theorem State.Frame.setCq (h : State.Frame rs ps s t) (q : Nat) (f : ColQ → ColQ) (hp : .col ∈ ps) :
    State.Frame rs ps s (t.setCq q f) := h.setCol _ hp

/-- Bytes written to a queue's storage change memory alone. -/
theorem State.qPut_mem (s : State) (q o : Nat) (bs : List Byte) : ∃ m, s.qPut q o bs = s.setMem fun _ => m := by
  induction bs generalizing s o with
  | nil => exact ⟨s.mem, rfl⟩
  | cons b r ih =>
    have hb : ∃ m, (if s.tf colPage 0 0 q 2 5 5 = 1 then s.dramSet (s.qAddr q o) b else s.sramPut (s.qAddr q o) [b]) =
        s.setMem fun _ => m := by
      split
      · obtain ⟨m, hm, -⟩ := s.dramSet_mem (s.qAddr q o) b
        exact ⟨m, hm⟩
      · exact ⟨_, rfl⟩
    obtain ⟨m, hm⟩ := hb
    obtain ⟨m', hm'⟩ := ih (s.setMem fun _ => m) (o + 1)
    exact ⟨m', by rw [State.qPut, hm, hm']; rfl⟩

theorem State.Frame.qPut (h : State.Frame rs ps s t) (q o : Nat) (bs : List Byte) (hp : .mem ∈ ps) :
    State.Frame rs ps s (t.qPut q o bs) := by
  obtain ⟨m, hm⟩ := t.qPut_mem q o bs
  rw [hm]
  exact h.setMem _ hp

end

theorem State.cq_setCq (s : State) (q : Nat) (f : ColQ → ColQ) : (s.setCq q f).cq q = f (s.cq q) := NMap.get_set_same ..

theorem State.cq_setCq_other (s : State) {q k : Nat} (f : ColQ → ColQ) (h : k ≠ q) : (s.setCq q f).cq k = s.cq k :=
  NMap.get_set_ne _ _ h

theorem State.cq_congr {s t : State} (h : t.col.q = s.col.q) (q : Nat) : t.cq q = s.cq q := by rw [State.cq, h]; rfl

theorem State.Noted.cq {s t : State} (h : s.Noted t) (q : Nat) : t.cq q = s.cq q := State.cq_congr (by rw [h.col]) q

theorem State.tf_congr {s t : State} (h : t.tbl = s.tbl) (p u b e i hi lo : Nat) : t.tf p u b e i hi lo = s.tf p u b e i hi lo := by
  rw [State.tf, State.tw, State.tget, h]; rfl

theorem State.grantOf_congr {s t : State} (h : t.tbl = s.tbl) (q port : Nat) : t.grantOf q port = s.grantOf q port := by
  rw [State.grantOf, State.tlist, h]; rfl

/-! ## Answers -/

/-- The answer of a port. -/
def colAnswered (port status ofs len : Nat) (c : ColSt) : ColSt :=
  { c with ans := NMap.set (fun _ => {}) c.ans port ⟨status, ofs, len⟩ }

theorem State.PortOpen.colAnswer {s : State} {port : Nat} (h : s.PortOpen port) (t : State) (status ofs len : Nat) :
    t.colAnswer port status ofs len =
      (if status = 4 || status = 5 || status = 6 || status = 9 then t.bump colPage .colOpErr else t).setCol
        (colAnswered port status ofs len) := by
  simp only [State.colAnswer, h.viaRegs]
  rfl

/-- An answer that is not counted. -/
theorem State.PortOpen.colAnswer_quiet {s : State} {port : Nat} (h : s.PortOpen port) (t : State) {status : Nat}
    (hs : status ∉ [4, 5, 6, 9]) (ofs len : Nat) :
    t.colAnswer port status ofs len = t.setCol (colAnswered port status ofs len) := by
  rw [h.colAnswer, if_neg (by simpa [and_assoc] using hs)]

theorem State.PortOpen.frame_colAnswer {s : State} {port : Nat} (h : s.PortOpen port) {rs : List (Nat × Nat)} {ps : List Part}
    {u t : State} (hf : State.Frame rs ps u t) (status ofs len : Nat) (hp : ∀ x ∈ .col :: noted, x ∈ ps) :
    State.Frame rs ps u (t.colAnswer port status ofs len) := by
  rw [h.colAnswer]
  exact (State.Frame.ite (hf.bump _ _ fun x hx => hp x (List.mem_cons_of_mem _ hx)) hf).setCol _ (hp _ (by simp))

theorem State.colAnswer_cq (s : State) (port status ofs len q : Nat) : (s.colAnswer port status ofs len).cq q = s.cq q :=
  State.cq_congr (s.colAnswer_q ..) q

theorem State.colAnswer_tbl (s : State) (port status ofs len : Nat) : (s.colAnswer port status ofs len).tbl = s.tbl := by
  unfold State.colAnswer
  extract_lets s1 s2
  have h2 : s2.tbl = s.tbl := by
    show s1.tbl = s.tbl
    simp only [s1]
    split
    · exact (s.noted_bump ..).tbl
    · rfl
  split <;> exact h2

/-- R192: what the registers show of an answer. -/
structure State.ColShown (s t : State) (status ofs : Nat) : Prop where
  status : t.rf colPage Reg.colOpRes 3 0 = status % 16
  ofs : t.rd colPage Reg.colOpResOfs = BitVec.ofNat 32 ofs
  seq : t.rf colPage Reg.colOpRes 31 24 = (s.rf colPage Reg.colOpRes 31 24 + 1) % 256

/-- The answer to a port that uses registers, of a status that is not counted. -/
theorem State.colAnswer_shown (s : State) {port status : Nat} (hv : viaRegs port = true) (hs : status ∉ [4, 5, 6, 9]) (ofs len : Nat) :
    s.ColShown (s.colAnswer port status ofs len) status ofs := by
  have hq : ¬ ((status = 4 || status = 5 || status = 6 || status = 9) = true) := by simpa [and_assoc] using hs
  simp only [State.colAnswer, hv, hq, if_true]
  have hofs (u : State) (v : Word) : (u.wr colPage Reg.colOpResOfs v).rd colPage Reg.colOpRes = u.rd colPage Reg.colOpRes :=
    u.rd_wr_other _ (by decide) (by decide) (.inr (by decide))
  have hlen (u : State) (hi lo v : Nat) :
      (u.wfld colPage Reg.colOpResLen hi lo v).rd colPage Reg.colOpRes = u.rd colPage Reg.colOpRes :=
    u.rd_wfld_other _ _ _ (by decide) (by decide) (.inr (by decide))
  refine ⟨?_, ?_, ?_⟩
  · rw [State.rf, State.seqUp, State.rd_wfld_same, fld_withFld_other _ _ (.inl (by decide)), hlen, hofs, State.rd_wfld_same,
      fld_withFld _ _ (by decide) (by decide)]
    rfl
  · rw [State.seqUp, State.rd_wfld_other _ _ _ _ (by decide) (by decide) (.inr (by decide)),
      State.rd_wfld_other _ _ _ _ (by decide) (by decide) (.inr (by decide)), State.rd_wr_same]
  · rw [State.rf, State.seqUp, State.rd_wfld_same, fld_withFld _ _ (by decide) (by decide), State.rf, hlen, hofs,
      State.rd_wfld_same, fld_withFld_other _ _ (.inr (by decide))]
    exact Nat.mod_mod ..

/-! ## Write-backs -/

/-- R172: a queue that was off and whose entry is legal is turned on. -/
theorem State.wbQueue_on {s : State} {q : Nat} {ws : List Word} (src : Src) (h0 : q ≠ 0)
    (hen : fld ((queueMask ws).getD 2 0) 6 6 = 1) (hok : queueOk (queueMask ws) = true) (hoff : s.tf colPage 0 0 q 2 6 6 = 0) :
    s.wbQueue src q ws = s.queueTurned q (queueMask ws) := by
  have hwas : fld ((queueMask (s.tget colPage 0 0 q)).getD 2 0) 6 6 = 0 :=
    (fld_and_fmask _ (by decide) (by decide) (by decide)).trans hoff
  simp only [State.wbQueue, h0, hen, hok, hwas, decide_false, Bool.false_and, Bool.not_true, Bool.and_false,
    Bool.false_eq_true, if_false, zero_ne_one]

/-- What turning a queue on leaves in the state of Coil: its offsets start again, and its grants wait for nothing. -/
def colRestarted (s : State) (q : Nat) (c : ColSt) : ColSt :=
  { c with reclaimed := c.reclaimed.filter fun g => decide (s.tf colPage 1 0 g 0 11 0 ≠ q) }

theorem State.cq_restarted (s u : State) (q k : Nat) : (u.setCol (colRestarted s q)).cq k = u.cq k := rfl

theorem State.queueTurned_on (s : State) {q : Nat} {new : List Word} (h0 : q ≠ 0) (hen : fld (new.getD 2 0) 6 6 = 1) :
    s.queueTurned q new = ((s.tset colPage 0 0 q new).setCq q fun _ => ColQ.init).setCol (colRestarted s q) := by
  simp only [State.queueTurned, h0, hen, if_false, one_ne_zero]
  rfl

/-- The number of a word that a mask leaves. -/
theorem toNat_and_fmask (w : Word) {hi : Nat} (h : hi < 32) : (w &&& fmask hi 0).toNat = fld w hi 0 := by
  apply Nat.eq_of_testBit_eq
  intro i
  rw [← BitVec.getLsbD, BitVec.getLsbD_and, getLsbD_fmask]
  have hb : decide (i < 32 ∧ 0 ≤ i ∧ i ≤ hi) = decide (i < hi + 1 - 0) := decide_eq_decide.2 (by omega)
  rw [hb, fld, nfld, Nat.testBit_mod_two_pow, Nat.testBit_div_two_pow, Bool.and_comm, BitVec.getLsbD]
  rfl

/-- A field past a mask. -/
theorem fld_and_fmask_past (w : Word) {hi lo hi' lo' : Nat} (h : hi' < lo) : fld (w &&& fmask hi' lo') hi lo = 0 := by
  have e : fld (w &&& fmask hi' lo') hi lo = fld (0 : Word) hi lo := fld_congr fun i h1 _ => by
    rw [bit, bit, BitVec.getLsbD_and, getLsbD_fmask, decide_eq_false (by omega), Bool.and_false]
    exact BitVec.getLsbD_zero.symm
  rw [e, fld, nfld]
  simp

/-- R173: a grant that passes the checks has its whole allotment. -/
theorem State.wbGrant_on {s : State} {g : Nat} {w0 w1 : Word} (ws : List Word) (src : Src) (hq : fld w0 11 0 ≠ 0)
    (hen : fld w0 22 22 = 1) (hport : fld w0 21 12 ≤ 592) (hoff : s.tf colPage 1 0 g 0 22 22 = 0)
    (hsum : s.allotSum (fld w0 11 0) g + fld w1 21 0 ≤ 2 ^ (s.tf colPage 0 0 (fld w0 11 0) 2 4 0 - 4))
    (hno : s.grantOf (fld w0 11 0) (fld w0 21 12) = none) (hrec : g ∉ s.col.reclaimed) :
    s.wbGrant src g (w0 :: w1 :: ws) = s.tset colPage 1 0 g [w0 &&& fmask 22 0, w1 &&& fmask 21 0, w1 &&& fmask 21 0] := by
  have h1 : fld (w0 &&& fmask 22 0) 11 0 = fld w0 11 0 := fld_and_fmask _ (by decide) (by decide) (by decide)
  have h2 : fld (w0 &&& fmask 22 0) 22 22 = 1 := (fld_and_fmask _ (by decide) (by decide) (by decide)).trans hen
  have h3 : fld (w0 &&& fmask 22 0) 21 12 = fld w0 21 12 := fld_and_fmask _ (by decide) (by decide) (by decide)
  have h4 : fld (s.tw colPage 1 0 g 0) 22 22 = 0 := hoff
  have h5 : (w1 &&& fmask 21 0).toNat = fld w1 21 0 := toNat_and_fmask w1 (by decide)
  have h6 : s.col.reclaimed.contains g = false := by simpa using hrec
  unfold State.wbGrant
  simp only [List.getD_cons_zero, List.getD_cons_succ, h1, h2, h3, h4, h5, h6, hq, hno, Nat.not_lt.2 hport, Nat.not_lt.2 hsum,
    zero_ne_one, decide_false, decide_true, Bool.false_and, Bool.or_false, Bool.and_false, Bool.false_eq_true,
    if_false, if_true, Bool.and_true]

/-! ## RESERVE and COMMIT -/

theorem fld_lt (w : Word) (hi lo : Nat) : fld w hi lo < 2 ^ (hi + 1 - lo) := Nat.mod_lt _ (by positivity)

/-- The units of a packet of `size` bytes. -/
def unitsOf (size : Nat) : Nat := (size + 8 + 15) / 16

/-- A queue whose next n units a packet has reserved. -/
def ColQ.taken (c : ColQ) (n : Nat) (r : Resv) : ColQ := { c with wr := (r.ofs + 16 * n) % 2 ^ 32, resv := c.resv ++ [r] }

/-- What a RESERVE that is accepted does before its answer (R177). -/
def State.reserved (s : State) (port q size g : Nat) : State :=
  let o := (s.cq q).wr
  let u := s.qPut q o (leBytes 4 (lenWord (unitsOf size) 0 false false) ++ leBytes 4 g)
  let v := u.tsetF colPage 1 0 g 2 21 0 (u.grantAvail g - unitsOf size)
  (v.setCq q fun c => c.taken (unitsOf size) ⟨o, unitsOf size, port, g, v.portOwner port⟩).bump colPage .colReserved

theorem State.colReserve_made {s : State} {port q size g : Nat} (hon : s.qOn q = true) (hg : s.grantOf q port = some g)
    (hsize : size ≤ 65528) (hcredit : unitsOf size ≤ s.grantAvail g) :
    s.colReserve port q size = (s.reserved port q size g).colAnswer port 0 (s.cq q).wr 0 := by
  have hlt : ¬ s.grantAvail g < (size + 8 + 15) / 16 := Nat.not_lt.2 hcredit
  simp only [State.colReserve, hon, hg, Nat.not_lt.2 hsize, hlt, Bool.not_true, Bool.false_eq_true, if_false]
  rfl

/-- Units of credit and space are taken (R177); no other queue changes. -/
structure State.Reserved (s t : State) (q g n : Nat) : Prop where
  avail : t.grantAvail g = s.grantAvail g - n
  wr : (t.cq q).wr = ((s.cq q).wr + 16 * n) % 2 ^ 32
  rd : (t.cq q).rd = (s.cq q).rd
  others : ∀ k, k ≠ q → t.cq k = s.cq k
  frame : State.Frame [] ([.tbl, .mem, .col] ++ noted) s t

theorem State.reserved_made (s : State) (port q size g : Nat) : s.Reserved (s.reserved port q size g) q g (unitsOf size) := by
  unfold State.reserved
  extract_lets o u v
  obtain ⟨m, hm⟩ := s.qPut_mem q o (leBytes 4 (lenWord (unitsOf size) 0 false false) ++ leBytes 4 g)
  have hu : u = s.setMem fun _ => m := hm
  have hcq (k : Nat) : v.cq k = s.cq k := by simp only [v, hu]; rfl
  have havail : v.grantAvail g = s.grantAvail g - unitsOf size := by
    have hlt : s.grantAvail g < 2 ^ 22 := fld_lt ..
    have he : u.grantAvail g = s.grantAvail g := by rw [hu]; rfl
    rw [State.grantAvail, State.tf_tsetF_same _ _ _ _ _ _ _ (by decide) (by decide), he]
    exact Nat.mod_eq_of_lt (by omega)
  have hf : State.Frame [] ([.tbl, .mem, .col] ++ noted) s v :=
    ((State.Frame.refl s).qPut q o _ (by decide)).tsetF _ _ _ _ _ _ _ _ (by decide)
  have hn := (v.setCq q fun c => c.taken (unitsOf size) ⟨o, unitsOf size, port, g, v.portOwner port⟩).noted_bump colPage
    .colReserved
  refine ⟨?_, ?_, ?_, fun k hk => ?_, (hf.setCq q _ (by decide)).noted hn (by decide)⟩
  · rw [State.grantAvail, State.tf, hn.tw]
    exact havail
  · rw [hn.cq, State.cq_setCq]
    rfl
  · rw [hn.cq, State.cq_setCq, hcq]
    rfl
  · rw [hn.cq, State.cq_setCq_other _ _ hk, hcq]

/-- R173: a port without a grant. -/
theorem State.colReserve_stranger {s : State} {port q size : Nat} (hon : s.qOn q = true) (hg : s.grantOf q port = none) :
    s.colReserve port q size = s.noCredit port q 2 := by
  simp only [State.colReserve, hon, hg, Bool.not_true, Bool.false_eq_true, if_false]

/-- What a COMMIT that is accepted does before its answer (R178). -/
def State.committed (s : State) (q len : Nat) (skip : Bool) (r : Resv) : State :=
  (s.qPut q r.ofs (leBytes 4 (lenWord r.units len skip true))).setCq q fun c =>
    { c with resv := c.resv.filter fun x => x.ofs ≠ r.ofs }

theorem State.colCommit_made {s : State} {port q len : Nat} {r : Resv} (skip : Bool) (hon : s.qOn q = true)
    (hr : (s.cq q).resv.find? (fun x => decide (x.ofs = r.ofs ∧ x.port = port)) = some r) (hlen : len ≤ 16 * r.units - 8) :
    s.colCommit port q r.ofs len skip = (s.committed q len skip r).colAnswer port 0 r.ofs 0 := by
  simp only [State.colCommit, hon, hr, Nat.not_lt.2 hlen, Bool.not_true, Bool.false_eq_true, if_false]
  rfl

theorem State.committed_cq (s : State) (q len : Nat) (skip : Bool) (r : Resv) :
    (s.committed q len skip r).cq q = { s.cq q with resv := (s.cq q).resv.filter fun x => x.ofs ≠ r.ofs } := by
  obtain ⟨m, hm⟩ := s.qPut_mem q r.ofs (leBytes 4 (lenWord r.units len skip true))
  rw [State.committed, State.cq_setCq, hm]
  rfl

theorem State.committed_cq_other (s : State) {q k : Nat} (len : Nat) (skip : Bool) (r : Resv) (hk : k ≠ q) :
    (s.committed q len skip r).cq k = s.cq k := by
  obtain ⟨m, hm⟩ := s.qPut_mem q r.ofs (leBytes 4 (lenWord r.units len skip true))
  rw [State.committed, State.cq_setCq_other _ _ hk, hm]
  rfl

/-! ## The consumer's operations -/

/-- A walk takes one step at least. -/
theorem qFuel_succ (a b : Nat) : ∃ n, qFuel a b = n + 1 := ⟨_, rfl⟩

section
variable {s : State} {port q : Nat}

/-- R180: the walk at a packet that is to be delivered. -/
theorem State.nextWalk_delivers (n : Nat) (hne : (s.cq q).rd ≠ (s.cq q).wr) (hgood : s.hdrBad q (s.cq q).rd = false)
    (hdone : (s.qHdr q (s.cq q).rd).done = true) (hskip : (s.qHdr q (s.cq q).rd).skip = false) :
    s.nextWalk q (n + 1) =
      (((s.setCq q fun c => { c with rd := ((s.cq q).rd + 16 * (s.qHdr q (s.cq q).rd).units) % 2 ^ 32 }).bump
        colPage .colDelivered), some ((s.cq q).rd, (s.qHdr q (s.cq q).rd).len), false) := by
  simp only [State.nextWalk, hne, hgood, hdone, hskip, Bool.not_true, Bool.false_eq_true, if_false]

theorem State.colNext_delivers (hon : s.qOn q = true) (hc : s.qConsumer q = port) (hne : (s.cq q).rd ≠ (s.cq q).wr)
    (hgood : s.hdrBad q (s.cq q).rd = false) (hdone : (s.qHdr q (s.cq q).rd).done = true)
    (hskip : (s.qHdr q (s.cq q).rd).skip = false) : (s.colNext port q).1 =
      ((s.setCq q fun c => { c with rd := ((s.cq q).rd + 16 * (s.qHdr q (s.cq q).rd).units) % 2 ^ 32 }).bump
        colPage .colDelivered).colAnswer port 0 (s.cq q).rd (s.qHdr q (s.cq q).rd).len := by
  obtain ⟨n, hn⟩ := qFuel_succ (s.cq q).rd (s.cq q).wr
  simp only [State.colNext, hon, hc, Bool.not_true, Bool.false_eq_true, if_false, ne_eq, not_true_eq_false, hn,
    State.nextWalk_delivers n hne hgood hdone hskip]

/-- R180: nothing is done. -/
theorem State.colNext_empty (hon : s.qOn q = true) (hc : s.qConsumer q = port) (he : (s.cq q).rd = (s.cq q).wr) :
    (s.colNext port q).1 = s.colAnswer port 1 0 0 := by
  obtain ⟨n, hn⟩ := qFuel_succ (s.cq q).rd (s.cq q).wr
  have hw : s.nextWalk q (n + 1) = (s, none, false) := by simp only [State.nextWalk, he, if_true]
  simp only [State.colNext, hon, hc, Bool.not_true, Bool.false_eq_true, if_false, ne_eq, not_true_eq_false, hn, hw]

/-- R193: a port that is not the consumer. -/
theorem State.colNext_stranger (hon : s.qOn q = true) (hc : s.qConsumer q ≠ port) :
    (s.colNext port q).1 = s.colAnswer port 4 0 0 := by
  simp only [State.colNext, hon, hc, Bool.not_true, Bool.false_eq_true, if_false, ne_eq, not_false_eq_true, if_true]

theorem State.colRelease_made {e : Nat} {hs : List ColHdr} (hon : s.qOn q = true) (hc : s.qConsumer q = port)
    (hw : (s.relWalk q e (qFuel (s.cq q).rel (s.cq q).rd) (s.cq q).rel []).1 = some hs) :
    s.colRelease port q e = (s.freeTo q e hs).colAnswer port 0 e 0 := by
  simp only [State.colRelease, hon, hc, Bool.not_true, Bool.false_eq_true, if_false, ne_eq, not_true_eq_false]
  split
  · rename_i hs' _ he
    rw [he] at hw
    rw [Option.some.inj hw]
  · rename_i he
    rw [he] at hw
    exact absurd hw (by simp)
  · rename_i he
    rw [he] at hw
    exact absurd hw (by simp)

theorem State.giveBack_col (s : State) (hs : List ColHdr) : (s.giveBack hs).col = s.col := by
  induction hs generalizing s with
  | nil => rfl
  | cons h r ih => exact ih _

theorem State.Frame.giveBack {rs : List (Nat × Nat)} {ps : List Part} {t : State} (h : State.Frame rs ps s t) (hs : List ColHdr)
    (hp : .tbl ∈ ps) : State.Frame rs ps s (t.giveBack hs) := by
  induction hs generalizing t with
  | nil => exact h
  | cons x r ih => exact ih (h.tsetF _ _ _ _ _ _ _ _ hp)

/-- R182, R184: the space to e is freed, and nothing else of a queue changes but whether its Bight is stale. -/
structure State.FreedTo (s t : State) (q e : Nat) : Prop where
  rel : (t.cq q).rel = e
  rd : (t.cq q).rd = (s.cq q).rd
  wr : (t.cq q).wr = (s.cq q).wr
  others : ∀ k, k ≠ q → t.cq k = s.cq k
  frame : State.Frame [] ([.tbl, .col] ++ noted) s t

theorem State.freeTo_freed (s : State) (q e : Nat) (hs : List ColHdr) : s.FreedTo (s.freeTo q e hs) q e := by
  unfold State.freeTo
  extract_lets c u
  have hn := (s.giveBack hs).noted_bumpN colPage .colReleasedBytes (qDist c.rel e)
  have hcq (k : Nat) : u.cq k = s.cq k := by rw [hn.cq, State.cq, s.giveBack_col]; rfl
  have hf : State.Frame [] ([.tbl, .col] ++ noted) s u := ((State.Frame.refl s).giveBack hs (by decide)).noted hn (by decide)
  refine ⟨?_, ?_, ?_, fun k hk => ?_, hf.setCq _ _ (by decide)⟩
  · rw [State.cq_setCq]
  · rw [State.cq_setCq, hcq]
  · rw [State.cq_setCq, hcq]
  · rw [State.cq_setCq_other _ _ hk, hcq]

/-- R183. -/
theorem State.colMark_made (hon : s.qOn q = true) (hc : s.qConsumer q = port) : s.colMark port q =
    (s.setCq q fun c => { c with bight := c.rd, bset := true, stale := false }).colAnswer port 0 0 0 := by
  simp only [State.colMark, hon, hc, Bool.not_true, Bool.false_eq_true, if_false, ne_eq, not_true_eq_false]

/-- R185. -/
theorem State.colRewind_made (hon : s.qOn q = true) (hc : s.qConsumer q = port) (hset : (s.cq q).bset = true)
    (hstale : (s.cq q).stale = false) : s.colRewind port q =
      (s.setCq q fun c => { c with rd := c.bight }).colAnswer port 0 0 0 := by
  simp only [State.colRewind, hon, hc, hset, hstale, Bool.not_true, Bool.not_false, Bool.and_self, Bool.false_eq_true, if_false,
    if_true, ne_eq, not_true_eq_false]

/-- R186: without a Bight that stands. -/
theorem State.colRewind_refused (hon : s.qOn q = true) (hc : s.qConsumer q = port)
    (hno : (s.cq q).bset = false ∨ (s.cq q).stale = true) : s.colRewind port q =
      ((s.bump colPage .colBightStale).raise colPage .colBightStale q (s.cq q).bight).colAnswer port 7 0 0 := by
  have hb : ((s.cq q).bset && !(s.cq q).stale) = false := by rcases hno with h | h <;> simp [h]
  simp only [State.colRewind, hon, hc, hb, Bool.not_true, Bool.false_eq_true, if_false, ne_eq, not_true_eq_false]

end

end Sys2Proof.Machine
end

section
open Sys2Proof Sys2Proof.Machine

/-- Settles O15: R171 to R186 and R193, one lemma for each operation. -/
theorem coilQueues : Obligations.CoilQueues := by
  refine ⟨fun s src q ws h hp h0 hen hok hoff => ?_, fun s src g w0 w1 ws h hp hq hen hport hoff hsum hno hrec => ?_,
    fun s port q size g h hon hg hsize hcredit => ?_, fun s q size g h1 h2 h3 h4 hon hg hsize hcredit => ?_,
    fun s port q size hlt hsev => ?_, fun s port q size h hon hg => ?_, fun s port q len skip r h hon hr hlen => ?_,
    fun s port q h hon hc hne hgood hdone hskip => ?_, fun s port q h hon hc he => ?_, fun s port q h hon hc => ?_,
    fun s port q hs h hon hc hw => ?_, fun s port q h hon hc => ?_, fun s port q h hon hc hset hstale => ?_,
    fun s port q h hon hc hno => ?_⟩
  · have e := (h.writeBack_solo hp 0 q ws fun u => u.wbQueue src q ws).trans
      ((State.wbQueue_on src h0 hen hok hoff).trans (State.queueTurned_on s h0 hen))
    have htw (i : Nat) : (((s.tset colPage 0 0 q (queueMask ws)).setCq q fun _ => ColQ.init).setCol (colRestarted s q)).tw
        colPage 0 0 q i = (queueMask ws).getD i 0 := s.tw_tset_same ..
    refine ⟨_, congrArg Host.Outcome.next e, ?_, ?_, ?_, fun k hk => ?_, ?_⟩
    · have hstop : fld ((queueMask ws).getD 2 0) 17 17 = 0 := fld_and_fmask_past _ (by decide)
      rw [State.qOn, State.tf, State.tf, htw, hen, hstop]
      rfl
    · rw [State.cq_restarted, State.cq_setCq]
    · rw [State.qConsumer, State.tf, htw]
      exact fld_and_fmask _ (by decide) (by decide) (by decide)
    · rw [State.cq_restarted, State.cq_setCq_other _ _ hk]
      rfl
    · exact (((State.Frame.refl (rs := []) s).tset _ _ _ _ _ (by decide)).setCq _ _ (by decide)).setCol _ (by decide) |>.only
  · have e := (h.writeBack_solo hp 1 g (w0 :: w1 :: ws) fun u => u.wbGrant src g (w0 :: w1 :: ws)).trans
      (State.wbGrant_on ws src hq hen hport hoff hsum hno hrec)
    refine ⟨_, congrArg Host.Outcome.next e, ?_, ?_, fun k hk => State.get_tset_other _ _ hk, s.only_tset _ _ _ _ _⟩
    · rw [State.tf, State.tw_tset_same]
      exact fld_and_fmask _ (by decide) (by decide) (by decide)
    · rw [State.grantAvail, State.tf, State.tw_tset_same]
      exact fld_and_fmask _ (by decide) (by decide) (by decide)
  · have e := (h.request colPage (s.colArgs 1 q false (some size) none) Reg.colOpGo fun u => u.colReserve port q size).trans
      (State.colReserve_made hon hg hsize hcredit)
    obtain ⟨havail, hwr, hrd, hothers, hf⟩ := s.reserved_made port q size g
    have hf' := h.frame_colAnswer hf 0 (s.cq q).wr 0 (by decide)
    refine ⟨_, congrArg Host.Outcome.next e, State.colAnswer_colAnsOf h.viaRegs .., ?_, ?_, ?_, fun k hk => ?_, hf'.regs, hf'.only⟩
    · rw [State.grantAvail, State.tf_congr (State.colAnswer_tbl ..)]
      exact havail
    · rw [State.colAnswer_cq, hwr]
      rfl
    · rw [State.colAnswer_cq, hrd]
    · rw [State.colAnswer_cq, hothers k hk]
  · obtain ⟨t, e, ht⟩ := State.portRequest_pf (p := colPage) (by decide) (by decide) (fun u => u.colReserve 576 q size)
      (s.colArgs 1 q false (some size) none)
      (by simp only [State.colArgs, List.forall_mem_cons]
          exact ⟨⟨h1, by decide⟩, ⟨h2, by decide⟩, ⟨h3, by decide⟩, fun _ hx => absurd hx List.not_mem_nil⟩) h4
    have htbl : t.tbl = s.tbl := ht.only .tbl (by decide)
    have hcq (k : Nat) : t.cq k = s.cq k := State.cq_congr (congrArg ColSt.q (ht.only .col (by decide))) k
    have hres : t.rd colPage Reg.colOpRes = s.rd colPage Reg.colOpRes :=
      ht.rd (by decide) (by simp [State.colArgs, Reg.colOp, Reg.colOpArg, Reg.colOpLen, Reg.colOpRes]) (by decide)
    have hon' : t.qOn q = true := by
      rw [State.qOn, State.tf_congr htbl, State.tf_congr htbl]
      exact hon
    have havail' : t.grantAvail g = s.grantAvail g := State.tf_congr htbl ..
    rw [State.colReserve_made hon' ((State.grantOf_congr htbl q 576).trans hg) hsize (havail'.symm ▸ hcredit)] at e
    obtain ⟨-, hwr, -, -, hf⟩ := t.reserved_made 576 q size g
    obtain ⟨hstatus, hofs, hseq⟩ := (t.reserved 576 q size g).colAnswer_shown (port := 576) (status := 0) (by decide) (by decide)
      (t.cq q).wr 0
    refine ⟨_, congrArg Host.Outcome.next e, hstatus, ?_, ?_, ?_⟩
    · rw [hofs, BitVec.toNat_ofNat, hcq]
    · rw [hseq, State.rf, hf.rd (by decide) (by simp) (by decide), hres]
      rfl
    · rw [State.colAnswer_cq, hwr, hcq]
      rfl
  · exact ⟨_, congrArg Host.Outcome.next (State.portRequest_severed hlt hsev ..), rfl⟩
  · have e := (h.request colPage (s.colArgs 1 q false (some size) none) Reg.colOpGo fun u => u.colReserve port q size).trans
      (State.colReserve_stranger hon hg)
    have hn := (s.noted_bump colPage .colNoCredit).trans (State.noted_raise _ colPage .colNoCredit (q + port * 2 ^ 16) 0)
    have hf := h.frame_colAnswer ((State.Frame.refl (rs := []) (ps := .col :: noted) s).noted hn (by decide)) 2 0 0 (by decide)
    refine ⟨_, congrArg Host.Outcome.next e, congrArg ColAns.status (State.colAnswer_colAnsOf h.viaRegs ..), ?_, hf.regs, hf.only⟩
    rw [State.noCredit, State.colAnswer_q, hn.col]
  · have e := (h.request colPage (s.colArgs 2 q skip (some r.ofs) (some len)) Reg.colOpGo
      fun u => u.colCommit port q r.ofs len skip).trans (State.colCommit_made skip hon hr hlen)
    refine ⟨_, congrArg Host.Outcome.next e, congrArg ColAns.status (State.colAnswer_colAnsOf h.viaRegs ..), ?_, ?_, fun k hk => ?_, ?_⟩
    · rw [State.colAnswer_cq, State.committed_cq]
    · rw [State.colAnswer_cq, State.committed_cq]
    · rw [State.colAnswer_cq, State.committed_cq_other _ _ _ _ hk]
    · rw [h.colAnswer_quiet _ (by decide)]
      exact (((State.Frame.refl (rs := []) s).qPut _ _ _ (by decide)).setCq _ _ (by decide)).setCol _ (by decide) |>.only
  · have e := (h.request colPage (s.colArgs 3 q false none none) Reg.colOpGo fun u => (u.colNext port q).1).trans
      (State.colNext_delivers hon hc hne hgood hdone hskip)
    generalize ((s.cq q).rd + 16 * (s.qHdr q (s.cq q).rd).units) % 2 ^ 32 = next at e ⊢
    have hn := (s.setCq q fun c => { c with rd := next }).noted_bump colPage .colDelivered
    refine ⟨_, congrArg Host.Outcome.next e, State.colAnswer_colAnsOf h.viaRegs .., ?_, ?_, fun k hk => ?_, ?_⟩
    · rw [State.colAnswer_cq, hn.cq, State.cq_setCq]
    · rw [State.colAnswer_cq, hn.cq, State.cq_setCq]
    · rw [State.colAnswer_cq, hn.cq, State.cq_setCq_other _ _ hk]
    · exact (h.frame_colAnswer (((State.Frame.refl (rs := []) s).setCq _ _ (by decide)).noted hn (by decide)) _ _ _
        fun _ hx => hx).only
  · have e := (h.request colPage (s.colArgs 3 q false none none) Reg.colOpGo fun u => (u.colNext port q).1).trans
      (State.colNext_empty hon hc he)
    refine ⟨_, congrArg Host.Outcome.next e, congrArg ColAns.status (State.colAnswer_colAnsOf h.viaRegs ..), State.colAnswer_q ..,
      ?_⟩
    rw [h.colAnswer_quiet _ (by decide)]
    exact s.only_setCol _
  · have e := (h.request colPage (s.colArgs 3 q false none none) Reg.colOpGo fun u => (u.colNext port q).1).trans
      (State.colNext_stranger hon hc)
    exact ⟨_, congrArg Host.Outcome.next e, congrArg ColAns.status (State.colAnswer_colAnsOf h.viaRegs ..), State.colAnswer_q ..,
      (h.frame_colAnswer (rs := []) (.refl s) 4 0 0 fun _ hx => hx).only⟩
  · have e := (h.request colPage (s.colArgs 4 q false (some (s.cq q).rd) none) Reg.colOpGo
      fun u => u.colRelease port q (s.cq q).rd).trans (State.colRelease_made hon hc hw)
    obtain ⟨hrel, hrd, hwr, hothers, hf⟩ := s.freeTo_freed q (s.cq q).rd hs
    refine ⟨_, congrArg Host.Outcome.next e, congrArg ColAns.status (State.colAnswer_colAnsOf h.viaRegs ..), ?_, ?_, ?_,
      fun k hk => ?_, (h.frame_colAnswer hf _ _ _ (by decide)).only⟩
    · rw [State.colAnswer_cq, hrel]
    · rw [State.colAnswer_cq, hrd]
    · rw [State.colAnswer_cq, hwr]
    · rw [State.colAnswer_cq, hothers k hk]
  · have e := (h.request colPage (s.colArgs 5 q false none none) Reg.colOpGo fun u => u.colMark port q).trans
      (State.colMark_made hon hc)
    refine ⟨_, congrArg Host.Outcome.next e, congrArg ColAns.status (State.colAnswer_colAnsOf h.viaRegs ..), ?_, fun k hk => ?_, ?_⟩
    · rw [State.colAnswer_cq, State.cq_setCq]
    · rw [State.colAnswer_cq, State.cq_setCq_other _ _ hk]
    · rw [h.colAnswer_quiet _ (by decide)]
      exact (((State.Frame.refl (rs := []) s).setCq _ _ (by decide)).setCol _ (by decide)).only
  · have e := (h.request colPage (s.colArgs 6 q false none none) Reg.colOpGo fun u => u.colRewind port q).trans
      (State.colRewind_made hon hc hset hstale)
    refine ⟨_, congrArg Host.Outcome.next e, congrArg ColAns.status (State.colAnswer_colAnsOf h.viaRegs ..), ?_, fun k hk => ?_, ?_⟩
    · rw [State.colAnswer_cq, State.cq_setCq]
    · rw [State.colAnswer_cq, State.cq_setCq_other _ _ hk]
    · rw [h.colAnswer_quiet _ (by decide)]
      exact (((State.Frame.refl (rs := []) s).setCq _ _ (by decide)).setCol _ (by decide)).only
  · have e := (h.request colPage (s.colArgs 6 q false none none) Reg.colOpGo fun u => u.colRewind port q).trans
      (State.colRewind_refused hon hc hno)
    have hn := (s.noted_bump colPage .colBightStale).trans (State.noted_raise _ colPage .colBightStale q (s.cq q).bight)
    have hf := h.frame_colAnswer ((State.Frame.refl (rs := []) (ps := .col :: noted) s).noted hn (by decide)) 7 0 0 (by decide)
    refine ⟨_, congrArg Host.Outcome.next e, congrArg ColAns.status (State.colAnswer_colAnsOf h.viaRegs ..), ?_, hf.regs, hf.only⟩
    rw [State.colAnswer_q, hn.col]
end

section
/-!
SUPPORT. Reclaim by owner: what the walk over Creel's owner lists leaves in them, and what the walk over Coil leaves of the grants (R166 to
R168, R189).
-/

namespace Sys2Proof.Machine

/-! ## Metadata -/

/-- What decides whether a request for a buffer meets a poisoned line, and whether a pool is ON: every word of the pools' entries but the
one that holds FREE, the memory and the registers of DRC. -/
structure State.MetaAlike (s t : State) : Prop where
  tw : ∀ pool i, i ≠ 6 → t.tw crlPage 0 0 pool i = s.tw crlPage 0 0 pool i
  mem : t.mem = s.mem
  drc : ∀ o, o < 65536 → o ∉ noteOffs → t.rd 0x080 o = s.rd 0x080 o

section
variable {s t u : State}

theorem State.MetaAlike.refl (s : State) : s.MetaAlike s := ⟨fun _ _ _ => rfl, rfl, fun _ _ _ => rfl⟩

theorem State.MetaAlike.trans (h : s.MetaAlike t) (g : t.MetaAlike u) : s.MetaAlike u :=
  ⟨fun p i hi => (g.tw p i hi).trans (h.tw p i hi), g.mem.trans h.mem, fun o ho hn => (g.drc o ho hn).trans (h.drc o ho hn)⟩

theorem State.Noted.metaAlike (h : s.Noted t) : s.MetaAlike t :=
  ⟨fun _ _ _ => h.tw .., h.mem, fun o ho hn => h.rd _ _ (by rwa [Nat.mod_eq_of_lt ho])⟩

theorem State.metaAlike_setCrl (s : State) (f : CrlSt → CrlSt) : s.MetaAlike (s.setCrl f) := ⟨fun _ _ _ => rfl, rfl, fun _ _ _ => rfl⟩

theorem State.metaAlike_refreshFree (s : State) (pool : Nat) : s.MetaAlike (s.refreshFree pool) := by
  have hset : s.MetaAlike (s.tsetF crlPage 0 0 pool 6 26 0 (s.poolFree pool)) :=
    ⟨fun _ _ hi => State.tw_tsetW_other _ _ (.inl hi), rfl, fun _ _ _ => rfl⟩
  unfold State.refreshFree
  extract_lets old n t
  split
  · exact hset.trans (t.noted_raise ..).metaAlike
  · exact hset

variable (h : s.MetaAlike t)
include h

theorem State.MetaAlike.poolState (pool : Nat) : t.poolState pool = s.poolState pool :=
  congrArg (fld · 8 7) (h.tw pool 3 (by decide))

theorem State.MetaAlike.poisoned (a : Nat) : t.poisoned a = s.poisoned a := by
  have hmap : t.rd 0x080 Reg.drcMap = s.rd 0x080 Reg.drcMap := h.drc _ (by decide) (by decide)
  have hgeom : t.rd 0x080 Reg.drcGeom = s.rd 0x080 Reg.drcGeom := h.drc _ (by decide) (by decide)
  have hlo : t.rd 0x080 Reg.drcCap = s.rd 0x080 Reg.drcCap := h.drc _ (by decide) (by decide)
  have hhi : t.rd 0x080 Reg.drcCapHi = s.rd 0x080 Reg.drcCapHi := h.drc _ (by decide) (by decide)
  simp only [State.poisoned, State.dramLost, State.drcCap, State.drcChan, State.drcRank, State.drcLine, State.drcRb, State.drcBits,
    State.drcGrain, State.rd64, State.rf, hmap, hgeom, hlo, hhi, h.mem]
  rfl

theorem State.MetaAlike.metaPoison (b : Nat) : t.metaPoison b = s.metaPoison b := by
  simp only [State.metaPoison, State.bufInDram, State.metaAddrs, State.poolMeta, State.poolCount, State.tf,
    h.tw _ 2 (by decide), h.tw _ 3 (by decide), h.tw _ 4 (by decide), h.tw _ 5 (by decide), h.poisoned]
  rfl

end

/-! ## Creel's walk -/

/-- What a removal leaves: the owner's place in one list, unless a poisoned line holds the buffer's metadata (R166, R168). -/
structure State.Removed (s t : State) (o b : Nat) : Prop where
  alike : s.MetaAlike t
  frame : State.Frame [] (.tbl :: .crl :: noted) s t
  reclaim : t.crl.reclaim = s.crl.reclaim
  owners : ∀ k, t.owners k = if k = b ∧ s.metaPoison b = none then (s.owners k).filter (· ≠ o) else s.owners k

theorem State.owners_congr {s t : State} (h : t.crl.own = s.crl.own) (b : Nat) : t.owners b = s.owners b := by
  rw [State.owners, h]; rfl

/-- The poisoned line of a removal: a quarantine, an event and FREE. -/
theorem State.metaErr_kept (s : State) (pool line : Nat) : s.MetaAlike (s.metaErr pool line) ∧
    State.Frame [] (.tbl :: .crl :: noted) s (s.metaErr pool line) ∧ (s.metaErr pool line).crl.reclaim = s.crl.reclaim := by
  unfold State.metaErr
  extract_lets hs t
  have hn := t.noted_raise crlPage .crlMetaPoison pool ((hs.foldl min (hs.headD 0)) % 2 ^ 26)
  refine ⟨((s.metaAlike_setCrl _).trans hn.metaAlike).trans (State.metaAlike_refreshFree ..),
    (((State.Frame.refl s).setCrl _ (by decide)).noted hn (by decide)).refreshFree _ (by decide), ?_⟩
  rw [State.refreshFree_crl, hn.crl]
  rfl

/-- An owner is taken out of a list (R162). -/
theorem State.dropOwner_kept (s : State) (b o : Nat) : s.MetaAlike (s.dropOwner b o) ∧
    State.Frame [] (.tbl :: .crl :: noted) s (s.dropOwner b o) ∧
      (s.dropOwner b o).crl = (s.setOwners b ((s.owners b).filter (· ≠ o))).crl := by
  unfold State.dropOwner
  extract_lets t
  have ht : s.MetaAlike t := s.metaAlike_setCrl _
  have hf : State.Frame [] (.tbl :: .crl :: noted) s t := (State.Frame.refl s).setCrl _ (by decide)
  have hn := t.noted_bump crlPage .crlFreed
  split
  · exact ⟨(ht.trans hn.metaAlike).trans (State.metaAlike_refreshFree ..), (hf.noted hn (by decide)).refreshFree _ (by decide),
      by rw [State.refreshFree_crl, hn.crl]⟩
  · exact ⟨ht, hf, rfl⟩

theorem State.reclaimOne_removed (s : State) (o b : Nat) : s.Removed (s.reclaimOne o b) o b := by
  unfold State.reclaimOne
  split
  · next line hp =>
    obtain ⟨ha, hf, hr⟩ := s.metaErr_kept (b / 2 ^ 26) line
    refine ⟨ha, hf, hr, fun k => ?_⟩
    rw [if_neg (by simp [hp]), State.owners_congr (s.metaErr_own ..)]
  · next hp =>
    obtain ⟨ha, hf, hc⟩ := s.dropOwner_kept b o
    have hn := (s.dropOwner b o).noted_bump crlPage .crlReclaimed
    refine ⟨(ha.trans hn.metaAlike).trans (State.metaAlike_setCrl ..), (hf.noted hn (by decide)).setCrl _ (by decide), ?_, fun k => ?_⟩
    · show ((s.dropOwner b o).bump crlPage .crlReclaimed).crl.reclaim = _
      rw [hn.crl, hc]
      rfl
    · have hk : (((s.dropOwner b o).bump crlPage .crlReclaimed).setCrl fun c => { c with removals := c.removals + 1 }).owners k =
          (s.setOwners b ((s.owners b).filter (· ≠ o))).owners k := by
        show ((s.dropOwner b o).bump crlPage .crlReclaimed).owners k = _
        rw [State.owners, hn.crl, hc]
        rfl
      rw [hk]
      by_cases hkb : k = b
      · rw [hkb, State.owners_setOwners, if_pos ⟨rfl, hp⟩]
      · rw [State.owners_setOwners_other _ _ hkb, if_neg (fun h => hkb h.1)]

/-- What the removals of a list of buffers leave. -/
structure State.RemovedAll (s t : State) (o : Nat) (l : List Nat) : Prop where
  frame : State.Frame [] (.tbl :: .crl :: noted) s t
  reclaim : t.crl.reclaim = s.crl.reclaim
  owners : ∀ k, t.owners k = if k ∈ l ∧ s.metaPoison k = none then (s.owners k).filter (· ≠ o) else s.owners k

theorem State.reclaimAll_removed (s : State) (o : Nat) (l : List Nat) :
    s.RemovedAll (l.foldl (fun s b => s.reclaimOne o b) s) o l := by
  induction l generalizing s with
  | nil => exact ⟨.refl s, rfl, fun k => by simp⟩
  | cons b r ih =>
    obtain ⟨ha, hf, hr, hone⟩ := s.reclaimOne_removed o b
    obtain ⟨hfr, hrr, hrest⟩ := ih (s.reclaimOne o b)
    refine ⟨hf.trans hfr, hrr.trans hr, fun k => (hrest k).trans ?_⟩
    rw [ha.metaPoison, hone]
    by_cases hp : s.metaPoison k = none
    · by_cases hkb : k = b
      · subst hkb
        simp [hp]
      · simp [hp, hkb]
    · have hb : ¬ (k = b ∧ s.metaPoison b = none) := fun h => hp (h.1 ▸ h.2)
      simp [hp, hb]

/-- The buffers whose lists the walk visits (R168). -/
def State.ownedOn (s : State) (o : Nat) : List Nat :=
  s.crl.own.filterMap fun (h, l) => if l.contains o && s.poolState (h / 2 ^ 26) = 2 then some h else none

theorem State.mem_ownedOn {s : State} {o b : Nat} (hon : s.poolState (b / 2 ^ 26) = 2) (ho : o ∈ s.owners b) : b ∈ s.ownedOn o := by
  have hne : s.owners b ≠ [] := List.ne_nil_of_mem ho
  refine List.mem_filterMap.2 ⟨_, NMap.mem_of_get (d := fun _ => []) (k := b) hne, ?_⟩
  exact if_pos (by rw [hon, List.contains_iff_mem.2 (show o ∈ NMap.get (fun _ => []) s.crl.own b from ho)]; rfl)

theorem State.on_of_mem_ownedOn {s : State} {o b : Nat} (h : b ∈ s.ownedOn o) : s.poolState (b / 2 ^ 26) = 2 := by
  obtain ⟨x, -, hx⟩ := List.mem_filterMap.1 h
  obtain ⟨hc, hb⟩ := Option.ite_none_right_eq_some.1 hx
  rw [Bool.and_eq_true, decide_eq_true_eq] at hc
  rw [← Option.some.inj hb]
  exact hc.2

theorem State.crlWalk_removed (s : State) (o : Nat) : s.RemovedAll (s.crlWalk o) o (s.ownedOn o) := s.reclaimAll_removed o _

/-- R166, R168: the owner is out of every list of a pool that is ON whose metadata can be read, and no other list changes. -/
theorem State.crlWalk_owners (s : State) (o : Nat) {b : Nat} (hon : s.poolState (b / 2 ^ 26) = 2) (hp : s.metaPoison b = none) :
    (s.crlWalk o).owners b = (s.owners b).filter (· ≠ o) := by
  refine ((s.crlWalk_removed o).owners b).trans ?_
  by_cases ho : o ∈ s.owners b
  · exact if_pos ⟨State.mem_ownedOn hon ho, hp⟩
  · have hsame : (s.owners b).filter (· ≠ o) = s.owners b :=
      List.filter_eq_self.2 fun x hx => by simpa using fun e : x = o => ho (e ▸ hx)
    rw [hsame, ite_self]

theorem State.crlWalk_owners_other (s : State) (o : Nat) {b : Nat}
    (h : s.poolState (b / 2 ^ 26) ≠ 2 ∨ (s.metaPoison b).isSome = true) : (s.crlWalk o).owners b = s.owners b := by
  refine ((s.crlWalk_removed o).owners b).trans (if_neg fun ⟨hm, hp⟩ => ?_)
  rcases h with h | h
  · exact h (State.on_of_mem_ownedOn hm)
  · rw [hp] at h
    exact absurd h (by decide)

/-! ## Starts, refusals and ends -/

theorem State.carrying_crl (s : State) (l : List (Nat × Nat × Word)) : (s.carrying l).crl = s.crl := rfl

theorem State.firstUnfenced_carrying (s : State) (l : List (Nat × Nat × Word)) (o : Nat) :
    (s.carrying l).firstUnfenced o = s.firstUnfenced o := rfl

theorem State.carrying_col (s : State) (l : List (Nat × Nat × Word)) : (s.carrying l).col = s.col := rfl

/-- A field of a register that was written. -/
theorem State.rf_wfld_same (s : State) (p o : Nat) {hi lo : Nat} (v : Nat) (hhi : hi < 32) (hlo : lo ≤ hi) :
    (s.wfld p o hi lo v).rf p o hi lo = v % 2 ^ (hi + 1 - lo) := by
  rw [State.rf, State.rd_wfld_same, fld_withFld _ _ hhi hlo]

/-- A reclaim of Creel's starts (R167). -/
def State.crlStarted (s : State) (o : Nat) : State :=
  (s.wfld crlPage Reg.crlReclaimRes 1 0 1).setCrl fun c => { c with reclaim := some o, removals := 0 }

/-- A reclaim of Coil's starts (R189). -/
def State.colStarted (s : State) (o : Nat) : State :=
  (s.wfld colPage Reg.colReclaimRes 1 0 1).setCol fun c => { c with reclaim := some o }

theorem State.crlStarted_started (s : State) (o : Nat) : s.MetaAlike (s.crlStarted o) ∧
    State.Frame [(crlPage, Reg.crlReclaimRes)] (.tbl :: .crl :: noted) s (s.crlStarted o) ∧
      (s.crlStarted o).crl.reclaim = some o ∧ (s.crlStarted o).rf crlPage Reg.crlReclaimRes 1 0 = 1 := by
  have hrd (p n : Nat) : (s.crlStarted o).rd p n = (s.wfld crlPage Reg.crlReclaimRes 1 0 1).rd p n := rfl
  refine ⟨⟨fun _ _ _ => rfl, rfl, fun n hlt _ => ?_⟩, ?_, rfl, ?_⟩
  · rw [hrd, State.rd_wfld_other _ _ _ _ (by decide) hlt (.inl (by decide))]
  · exact ((State.Frame.refl s).wfld _ _ _ (by decide) (by simp) (by decide)).setCrl _ (by decide)
  · rw [State.rf, hrd]
    exact s.rf_wfld_same _ _ 1 (by decide) (by decide)

theorem State.colStarted_status (s : State) (o : Nat) : (s.colStarted o).rf colPage Reg.colReclaimRes 1 0 = 1 := by
  have hrd : (s.colStarted o).rd colPage Reg.colReclaimRes = (s.wfld colPage Reg.colReclaimRes 1 0 1).rd colPage Reg.colReclaimRes := rfl
  rw [State.rf, hrd]
  exact s.rf_wfld_same _ _ 1 (by decide) (by decide)

section
variable {rs : List (Nat × Nat)} {ps : List Part} {s t : State}

/-- STATUS of a reclaim's result register, with its SEQ counted up. -/
def State.reclaimRes (s : State) (p o v : Nat) : State := (s.wfld p o 1 0 v).seqUp p o

theorem State.reclaimRes_rf (s : State) {p o : Nat} (v : Nat) :
    (s.reclaimRes p o v).rf p o 1 0 = v % 4 ∧ (s.reclaimRes p o v).rf p o 31 24 = (s.rf p o 31 24 + 1) % 256 := by
  constructor
  · rw [State.rf, State.reclaimRes, State.seqUp, State.rd_wfld_same, State.rd_wfld_same, fld_withFld_other _ _ (.inl (by decide)),
      fld_withFld _ _ (by decide) (by decide)]
    rfl
  · rw [State.rf, State.reclaimRes, State.seqUp, State.rd_wfld_same, fld_withFld _ _ (by decide) (by decide), State.rf,
      State.rd_wfld_same, fld_withFld_other _ _ (.inr (by decide))]
    exact Nat.mod_mod ..

theorem State.Frame.reclaimRes {p o : Nat} (h : State.Frame rs ps s t) (v : Nat) (ho : o < 65536) (hr : (p, o) ∈ rs) (hp : .reg ∈ ps) :
    State.Frame rs ps s (t.reclaimRes p o v) := (h.wfld _ _ _ ho hr hp).seqUp ho hr hp

/-- The refusal of a reclaim (R167, R189). -/
def State.reclaimRefused (s : State) (p o : Nat) (e : Event) (arg : Nat) : State := (s.reclaimRes p o 3).raise p e arg 0

theorem State.Frame.reclaimRefused {p o : Nat} (h : State.Frame rs ps s t) (e : Event) (arg : Nat) (ho : o < 65536) (hr : (p, o) ∈ rs)
    (hp : ∀ x ∈ Machine.noted, x ∈ ps) : State.Frame rs ps s (t.reclaimRefused p o e arg) :=
  (h.reclaimRes 3 ho hr (hp _ (by decide))).raise _ _ _ _ hp

theorem State.reclaimRefused_rf (s : State) {p o : Nat} (e : Event) (arg : Nat) (ho : o % 65536 ∉ noteOffs) :
    (s.reclaimRefused p o e arg).rf p o 1 0 = 3 ∧
      (s.reclaimRefused p o e arg).rf p o 31 24 = (s.rf p o 31 24 + 1) % 256 := by
  have hrd : (s.reclaimRefused p o e arg).rd p o = (s.reclaimRes p o 3).rd p o := (State.noted_raise ..).rd _ _ ho
  rw [State.rf, State.rf, hrd]
  exact s.reclaimRes_rf 3

end

/-- A command that is one access which reaches its register. -/
theorem State.Opens.exec_access {s : State} {src : Src} {p o : Nat} {v : Word} {k : State → State} {c : Instr} (h : s.Opens src p o)
    (he : exec c s = .next (s.access src p o v k)) : ∃ l, exec c s = .next (k (s.carrying l)) :=
  (h.access v k).imp fun _ e => he.trans (congrArg Host.Outcome.next e)

/-! ### Creel (R167) -/

theorem exec_creelReclaim_refused {s : State} {src : Src} {o : Nat} (h : s.Opens src crlPage Reg.crlReclaim)
    (hbusy : s.crl.reclaim.isSome = true ∨ (s.firstUnfenced o).isSome = true) : ∃ l arg, exec (.creelReclaim src o) s =
      .next ((s.carrying l).reclaimRefused crlPage Reg.crlReclaimRes .crlReclaimRefused arg) := by
  obtain ⟨l, e⟩ := h.exec_access (c := .creelReclaim src o) (v := BitVec.ofNat 32 (o + 256)) rfl
  rw [State.carrying_crl, State.firstUnfenced_carrying] at e
  by_cases hrun : s.crl.reclaim.isSome = true
  · rw [if_pos hrun] at e
    exact ⟨l, _, e⟩
  · obtain ⟨p, hp⟩ := Option.isSome_iff_exists.1 (hbusy.resolve_left hrun)
    rw [if_neg hrun, hp] at e
    exact ⟨l, _, e⟩

theorem exec_creelReclaim_accepted {s : State} {src : Src} {o : Nat} (h : s.Opens src crlPage Reg.crlReclaim)
    (hfree : s.crl.reclaim = none) (hall : s.firstUnfenced o = none) : ∃ l, exec (.creelReclaim src o) s =
      .next (((s.carrying l).crlStarted o).crlWalk o) := by
  obtain ⟨l, e⟩ := h.exec_access (c := .creelReclaim src o) (v := BitVec.ofNat 32 (o + 256)) rfl
  rw [State.carrying_crl, State.firstUnfenced_carrying, hfree, hall] at e
  exact ⟨l, e⟩

/-! ### Coil (R189) -/

theorem exec_coilReclaim_refused {s : State} {src : Src} {o : Nat} (h : s.Opens src colPage Reg.colReclaim)
    (hbusy : s.col.reclaim.isSome = true ∨ (s.firstUnfenced o).isSome = true) : ∃ l arg, exec (.coilReclaim src o) s =
      .next ((s.carrying l).reclaimRefused colPage Reg.colReclaimRes .colReclaimRefused arg) := by
  obtain ⟨l, e⟩ := h.exec_access (c := .coilReclaim src o) (v := BitVec.ofNat 32 (o + 256)) rfl
  rw [State.carrying_col, State.firstUnfenced_carrying] at e
  by_cases hrun : s.col.reclaim.isSome = true
  · rw [if_pos hrun] at e
    exact ⟨l, _, e⟩
  · obtain ⟨p, hp⟩ := Option.isSome_iff_exists.1 (hbusy.resolve_left hrun)
    rw [if_neg hrun, hp] at e
    exact ⟨l, _, e⟩

theorem exec_coilReclaim_accepted {s : State} {src : Src} {o : Nat} (h : s.Opens src colPage Reg.colReclaim)
    (hfree : s.col.reclaim = none) (hall : s.firstUnfenced o = none) : ∃ l, exec (.coilReclaim src o) s =
      .next (((s.carrying l).colStarted o).colWalk o) := by
  obtain ⟨l, e⟩ := h.exec_access (c := .coilReclaim src o) (v := BitVec.ofNat 32 (o + 256)) rfl
  rw [State.carrying_col, State.firstUnfenced_carrying, hfree, hall] at e
  exact ⟨l, e⟩

/-! ### Ends -/

/-- The end of a reclaim of Creel's (R168). -/
def State.crlReclaimed (s : State) (o : Nat) : State :=
  ((s.reclaimRes crlPage Reg.crlReclaimRes 2).setCrl fun c => { c with reclaim := none, removals := 0 }).raise crlPage
    .crlReclaimDone s.crl.removals o

/-- The end of a reclaim of Coil's (R189). -/
def State.colReclaimed (s : State) (o : Nat) : State :=
  ((s.reclaimRes colPage Reg.colReclaimRes 2).setCol fun c => { c with reclaim := none }).raise colPage .colReclaimDone o 0

theorem exec_crlReclaimDone {s : State} {o : Nat} (h : s.crl.reclaim = some o) :
    exec .crlReclaimDone s = .next (s.crlReclaimed o) := by
  show execCrlReclaimDone s = _
  rw [execCrlReclaimDone, h]
  rfl

theorem exec_colReclaimDone {s : State} {o : Nat} (h : s.col.reclaim = some o) :
    exec .colReclaimDone s = .next (s.colReclaimed o) := by
  show execColReclaimDone s = _
  rw [execColReclaimDone, h]
  rfl

/-- STATUS and SEQ stay as they were written while an event is raised. -/
theorem State.reclaimRes_told {s u t : State} {p o v : Nat} (hn : u.Noted t) (hr : u.reg = (s.reclaimRes p o v).reg)
    (ho : o % 65536 ∉ noteOffs) (hv : v < 4) : t.rf p o 1 0 = v := by
  have hrd : t.rd p o = (s.reclaimRes p o v).rd p o := (hn.rd _ _ ho).trans (State.rd_congr hr p o)
  rw [State.rf, hrd]
  exact (s.reclaimRes_rf v).1.trans (Nat.mod_eq_of_lt hv)

theorem State.crlReclaimed_ends (s : State) (o : Nat) : (s.crlReclaimed o).crl.reclaim = none ∧
    (s.crlReclaimed o).crl.own = s.crl.own ∧ (s.crlReclaimed o).rf crlPage Reg.crlReclaimRes 1 0 = 2 ∧
      State.Frame [(crlPage, Reg.crlReclaimRes)] (.crl :: noted) s (s.crlReclaimed o) := by
  have hu : State.Frame [(crlPage, Reg.crlReclaimRes)] (.crl :: noted) s (s.reclaimRes crlPage Reg.crlReclaimRes 2) :=
    (State.Frame.refl s).reclaimRes 2 (by decide) (by simp) (by decide)
  have hn := ((s.reclaimRes crlPage Reg.crlReclaimRes 2).setCrl fun c => { c with reclaim := none, removals := 0 }).noted_raise
    crlPage .crlReclaimDone s.crl.removals o
  exact ⟨congrArg CrlSt.reclaim hn.crl, (congrArg CrlSt.own hn.crl).trans rfl,
    State.reclaimRes_told (s := s) (v := 2) hn rfl (by decide) (by decide),
    (hu.setCrl _ (by decide)).noted hn (by decide)⟩

theorem State.colReclaimed_ends (s : State) (o : Nat) : (s.colReclaimed o).col.reclaim = none ∧
    (s.colReclaimed o).col.q = s.col.q ∧ (s.colReclaimed o).rf colPage Reg.colReclaimRes 1 0 = 2 ∧
      State.Frame [(colPage, Reg.colReclaimRes)] (.col :: noted) s (s.colReclaimed o) := by
  have hu : State.Frame [(colPage, Reg.colReclaimRes)] (.col :: noted) s (s.reclaimRes colPage Reg.colReclaimRes 2) :=
    (State.Frame.refl s).reclaimRes 2 (by decide) (by simp) (by decide)
  have hn := ((s.reclaimRes colPage Reg.colReclaimRes 2).setCol fun c => { c with reclaim := none }).noted_raise
    colPage .colReclaimDone o 0
  exact ⟨congrArg ColSt.reclaim hn.col, (congrArg ColSt.q hn.col).trans rfl,
    State.reclaimRes_told (s := s) (v := 2) hn rfl (by decide) (by decide),
    (hu.setCol _ (by decide)).noted hn (by decide)⟩

/-! ## Coil's walk -/

/-- What Coil's walk leaves: STATUS, the reclaim that runs, the owners of the ports, and every EN that a grant has lost (R189). -/
structure State.GrantsKept (s t : State) : Prop where
  res : t.rd colPage Reg.colReclaimRes = s.rd colPage Reg.colReclaimRes
  reclaim : t.col.reclaim = s.col.reclaim
  owner : ∀ port, port < 1024 → t.portOwner port = s.portOwner port
  off : ∀ g, s.tf colPage 1 0 g 0 22 22 = 0 → t.tf colPage 1 0 g 0 22 22 = 0

section
variable {s t u : State}

theorem State.GrantsKept.refl (s : State) : s.GrantsKept s := ⟨rfl, rfl, fun _ _ => rfl, fun _ h => h⟩

theorem State.GrantsKept.trans (h : s.GrantsKept t) (g : t.GrantsKept u) : s.GrantsKept u :=
  ⟨g.res.trans h.res, g.reclaim.trans h.reclaim, fun p hp => (g.owner p hp).trans (h.owner p hp), fun x hx => g.off x (h.off x hx)⟩

theorem State.GrantsKept.ite {c : Prop} [Decidable c] (h : s.GrantsKept t) (g : s.GrantsKept u) : s.GrantsKept (if c then t else u) := by
  split
  · exact h
  · exact g

theorem State.GrantsKept.foldl {β : Type} {f : State → β → State} {l : List β} (h : s.GrantsKept t)
    (hf : ∀ a x, s.GrantsKept a → s.GrantsKept (f a x)) : s.GrantsKept (l.foldl f t) := by
  induction l generalizing t with
  | nil => exact h
  | cons x r ih => exact ih (hf _ _ h)

theorem State.GrantsKept.of_tbl (h : s.GrantsKept t) (hr : u.rd colPage Reg.colReclaimRes = t.rd colPage Reg.colReclaimRes)
    (hc : u.col.reclaim = t.col.reclaim) (ht : u.tbl = t.tbl) : s.GrantsKept u :=
  h.trans ⟨hr, hc, fun _ _ => State.tf_congr ht .., fun _ hg => (State.tf_congr ht ..).trans hg⟩

theorem State.GrantsKept.noted (h : s.GrantsKept t) (g : t.Noted u) : s.GrantsKept u :=
  h.of_tbl (g.rd _ _ (by decide)) (by rw [g.col]) g.tbl

theorem State.GrantsKept.setCq (h : s.GrantsKept t) (q : Nat) (f : ColQ → ColQ) : s.GrantsKept (t.setCq q f) := h.of_tbl rfl rfl rfl

theorem State.GrantsKept.qPut (h : s.GrantsKept t) (q o : Nat) (bs : List Byte) : s.GrantsKept (t.qPut q o bs) := by
  obtain ⟨m, hm⟩ := t.qPut_mem q o bs
  rw [hm]
  exact h.of_tbl rfl rfl rfl

/-- A word of Coil's entries that does not hold EN. -/
theorem State.GrantsKept.tsetF_other (h : s.GrantsKept t) (k e : Nat) {i : Nat} (hi lo v : Nat) (h0 : 0 ≠ i) :
    s.GrantsKept (t.tsetF colPage k 0 e i hi lo v) :=
  h.trans ⟨rfl, rfl, fun _ _ => State.tf_tsetF_other _ _ _ _ _ _ (.inl h0),
    fun _ hg => (State.tf_tsetF_other _ _ _ _ _ _ (.inl h0)).trans hg⟩

theorem State.GrantsKept.recordsLost (h : s.GrantsKept t) (q : Nat) : s.GrantsKept (t.recordsLost q) :=
  h.foldl fun a id ha => (ha.noted (a.noted_bump ..)).of_tbl
    (State.rd_wfld_other _ _ _ _ (by decide) (by decide) (.inl (by decide))) rfl rfl

theorem State.GrantsKept.qStop (h : s.GrantsKept t) (q o : Nat) : s.GrantsKept (t.qStop q o) :=
  ((h.tsetF_other 0 q 17 17 1 (by decide)).noted (State.noted_raise ..)).recordsLost q

theorem State.GrantsKept.giveBack (h : s.GrantsKept t) (hs : List ColHdr) : s.GrantsKept (t.giveBack hs) := by
  induction hs generalizing t with
  | nil => exact h
  | cons x r ih => exact ih (h.tsetF_other 1 _ _ _ _ (by decide))

theorem State.GrantsKept.freeTo (h : s.GrantsKept t) (q e : Nat) (hs : List ColHdr) : s.GrantsKept (t.freeTo q e hs) := by
  unfold State.freeTo
  extract_lets c u
  exact ((h.giveBack hs).noted (State.noted_bumpN ..)).setCq _ _

theorem State.GrantsKept.skipResv (h : s.GrantsKept t) (o q : Nat) : s.GrantsKept (t.skipResv o q) := by
  unfold State.skipResv
  extract_lets mine u
  have hu : s.GrantsKept u := h.foldl fun _ _ ha => ha.qPut _ _ _
  exact hu.setCq _ _

/-- The definition is unfolded before it is applied: the kernel would else walk the fuel of `State.relWalk`. -/
theorem State.GrantsKept.reclaimConsumer (h : s.GrantsKept t) (q : Nat) : s.GrantsKept (t.reclaimConsumer q) := by
  obtain ⟨f, hf⟩ : ∃ f, f = State.reclaimConsumer := ⟨_, rfl⟩
  rw [← hf]
  delta State.reclaimConsumer at hf
  subst hf
  beta_reduce
  split
  · exact (h.freeTo _ _ _).setCq _ _
  · exact (h.qStop _ _).setCq _ _
  · exact h.setCq _ _

/-- A grant that the walk takes EN from. -/
theorem State.clearGrant_off (s : State) (g : Nat) : (s.clearGrant g).tf colPage 1 0 g 0 22 22 = 0 := by
  show (s.tsetF colPage 1 0 g 0 22 22 0).tf colPage 1 0 g 0 22 22 = 0
  exact State.tf_tsetF_same _ _ _ _ _ _ _ (by decide) (by decide)

theorem State.GrantsKept.clearGrant (h : s.GrantsKept t) (g : Nat) : s.GrantsKept (t.clearGrant g) := by
  refine h.trans ⟨rfl, ?_, fun port hport => ?_, fun x hx => ?_⟩
  · unfold State.clearGrant
    extract_lets q wait
    cases wait <;> rfl
  · have hkey : tkey 0x068 1 0 port ≠ tkey colPage 1 0 g := by unfold tkey colPage; omega
    show (t.tsetF colPage 1 0 g 0 22 22 0).tf 0x068 1 0 port 0 7 0 = _
    rw [State.tf_tsetF_other _ _ _ _ _ _ (.inr hkey)]
    rfl
  · by_cases hxg : x = g
    · rw [hxg]
      exact t.clearGrant_off g
    · show (t.tsetF colPage 1 0 g 0 22 22 0).tf colPage 1 0 x 0 22 22 = 0
      rw [State.tf_tsetF_other _ _ _ _ _ _ (.inr fun e => hxg (tkey_inj e))]
      exact hx

/-- The grants of a list that are the owner's lose EN. -/
def State.clearAll (s : State) (o : Nat) (l : List (Nat × List Word)) : State :=
  l.foldl (fun s (g, ws) => if s.portOwner (fld (ws.getD 0 0) 21 12) = o then s.clearGrant g else s) s

theorem State.GrantsKept.clearAll (h : s.GrantsKept t) (o : Nat) (l : List (Nat × List Word)) : s.GrantsKept (t.clearAll o l) :=
  h.foldl fun _ _ ha => .ite (ha.clearGrant _) ha

theorem State.clearAll_off (s : State) (o : Nat) {l : List (Nat × List Word)} {g : Nat} {ws : List Word} (hm : (g, ws) ∈ l)
    (ho : s.portOwner (fld (ws.getD 0 0) 21 12) = o) : (s.clearAll o l).tf colPage 1 0 g 0 22 22 = 0 := by
  induction l generalizing s with
  | nil => exact absurd hm List.not_mem_nil
  | cons x r ih =>
    rcases List.mem_cons.1 hm with rfl | hr
    · have hrest := (State.GrantsKept.refl (s.clearGrant g)).clearAll o r
      have hstep : s.clearAll o ((g, ws) :: r) = (s.clearGrant g).clearAll o r := congrArg (State.clearAll · o r) (if_pos ho)
      rw [hstep]
      exact hrest.off g (s.clearGrant_off g)
    · have hx : s.GrantsKept (if s.portOwner (fld (x.2.getD 0 0) 21 12) = o then s.clearGrant x.1 else s) :=
        .ite ((State.GrantsKept.refl s).clearGrant _) (.refl s)
      exact ih _ hr ((hx.owner _ (fld_lt ..)).trans ho)

/-- The reservations that are skipped change memory and the queues alone. -/
theorem State.Frame.skipResv {rs : List (Nat × Nat)} {ps : List Part} (h : State.Frame rs ps s t) (o q : Nat) (hm : .mem ∈ ps)
    (hc : .col ∈ ps) : State.Frame rs ps s (t.skipResv o q) := by
  unfold State.skipResv
  extract_lets mine u
  have hu : State.Frame rs ps s u := h.foldl fun _ _ _ ha => ha.qPut _ _ _ hm
  exact hu.setCq _ _ hc

/-- R189: the walk takes EN from the owner's grants, and changes neither STATUS nor the reclaim that runs. -/
theorem State.colWalk_reclaims (s : State) (o : Nat) : s.GrantsKept (s.colWalk o) ∧
    ∀ g ws, (g, ws) ∈ s.tlist colPage 1 0 → s.portOwner (fld (ws.getD 0 0) 21 12) = o →
      (s.colWalk o).tf colPage 1 0 g 0 22 22 = 0 := by
  unfold State.colWalk
  extract_lets qs u v
  have hu : s.GrantsKept u := (State.GrantsKept.refl s).foldl fun _ _ ha => ha.skipResv _ _
  have htbl : u.tbl = s.tbl := ((State.Frame.refl (rs := []) (ps := [.mem, .col]) s).foldl (l := qs)
    fun _ _ _ ha => ha.skipResv o _ (by decide) (by decide)).only .tbl (by decide)
  have hv : v = u.clearAll o (s.tlist colPage 1 0) := by
    show u.clearAll o (u.tlist colPage 1 0) = _
    rw [State.tlist, htbl]
    rfl
  have hlast : v.GrantsKept (qs.foldl (fun s q =>
      if s.tf colPage 0 0 q 2 6 6 = 1 && s.portOwner (s.qConsumer q) = o then s.reclaimConsumer q else s) v) :=
    (State.GrantsKept.refl v).foldl fun _ _ ha => .ite (ha.reclaimConsumer _) ha
  refine ⟨(hv ▸ hu.clearAll o _).trans hlast, fun g ws hm ho => hlast.off g ?_⟩
  rw [hv]
  exact u.clearAll_off o hm ((State.tf_congr htbl ..).trans ho)

end

end Sys2Proof.Machine
end

section
open Sys2Proof Sys2Proof.Machine

/-- Settles O14: R166 to R168 and R189, one lemma for each walk. -/
theorem reclaimByOwner : Obligations.ReclaimByOwner := by
  refine ⟨fun s src o h hno hall => ?_, fun s src o h hbusy => ?_, fun s o hrun => ?_, fun s src o h hno hall => ?_,
    fun s src o h hbusy => ?_, fun s o hrun => ?_⟩
  · obtain ⟨l, e⟩ := exec_creelReclaim_accepted h hno hall
    obtain ⟨ha, hf, hreclaim, hstatus⟩ := (s.carrying l).crlStarted_started o
    have hown (b : Nat) : ((s.carrying l).crlStarted o).owners b = s.owners b := rfl
    generalize (s.carrying l).crlStarted o = u at e ha hf hreclaim hstatus hown
    obtain ⟨hwalk, hkept, -⟩ := u.crlWalk_removed o
    have hfr := ((s.frame_carrying l [(crlPage, Reg.crlReclaimRes)] (by decide)).trans hf).trans (hwalk.mono (by simp) fun _ hx => hx)
    refine ⟨_, e, hkept.trans hreclaim, ?_, fun b hon hp => ?_, fun b hb => ?_, hfr.regs, hfr.only⟩
    · rw [State.rf, hwalk.rd (by decide) (by simp) (by decide)]
      exact hstatus
    · rw [u.crlWalk_owners o ((ha.poolState _).trans hon) ((ha.metaPoison b).trans hp), hown]
    · rw [u.crlWalk_owners_other o (by rw [ha.poolState, ha.metaPoison]; exact hb), hown]
  · obtain ⟨l, arg, e⟩ := exec_creelReclaim_refused h hbusy
    obtain ⟨hstatus, hseq⟩ := (s.carrying l).reclaimRefused_rf (p := crlPage) (o := Reg.crlReclaimRes) .crlReclaimRefused arg
      (by decide)
    have hf := (s.frame_carrying l [(crlPage, Reg.crlReclaimRes)] (ps := noted) (by decide)).reclaimRefused
      (p := crlPage) (o := Reg.crlReclaimRes) .crlReclaimRefused arg (by decide) (by simp) fun _ hx => hx
    exact ⟨_, e, hstatus, hseq, hf.regs, hf.only⟩
  · obtain ⟨hnone, hown, hstatus, hf⟩ := s.crlReclaimed_ends o
    exact ⟨_, exec_crlReclaimDone hrun, hnone, hown, hstatus, hf.regs, hf.only⟩
  · obtain ⟨l, e⟩ := exec_coilReclaim_accepted h hno hall
    obtain ⟨hkept, hoff⟩ := ((s.carrying l).colStarted o).colWalk_reclaims o
    have htbl : ((s.carrying l).colStarted o).tbl = s.tbl := rfl
    refine ⟨_, e, hkept.reclaim.trans rfl, ?_, fun g ws hm ho => hoff g ws ?_ ((State.tf_congr htbl ..).trans ho)⟩
    · rw [State.rf, hkept.res]
      exact (s.carrying l).colStarted_status o
    · rw [State.tlist, htbl]
      exact hm
  · obtain ⟨l, arg, e⟩ := exec_coilReclaim_refused h hbusy
    have hf := (s.frame_carrying l [(colPage, Reg.colReclaimRes)] (ps := noted) (by decide)).reclaimRefused
      (p := colPage) (o := Reg.colReclaimRes) .colReclaimRefused arg (by decide) (by simp) fun _ hx => hx
    exact ⟨_, e, ((s.carrying l).reclaimRefused_rf .colReclaimRefused arg (by decide)).1, hf.regs, hf.only⟩
  · obtain ⟨hnone, hq, hstatus, hf⟩ := s.colReclaimed_ends o
    exact ⟨_, exec_colReclaimDone hrun, hnone, hq, hstatus, hf.regs, hf.only⟩
end

section
/-!
SUPPORT. A Withy core and what happens to it beside its instructions: waits, the end of a task by a fault, the channels of a task that
ends, and memory errors (R370 to R374).
-/

namespace Sys2Proof.Machine

/-! ## Cores -/

theorem State.core_setCore_other (s : State) {n k : Nat} (f : WCore → WCore) (h : k ≠ n) : (s.setCore n f).core k = s.core k :=
  NMap.get_set_ne _ _ h

theorem State.core_congr {s t : State} (h : t.cores = s.cores) (k : Nat) : t.core k = s.core k := by rw [State.core, h]; rfl

theorem State.Noted.core {s t : State} (h : s.Noted t) (k : Nat) : t.core k = s.core k := State.core_congr h.cores k

theorem State.only_setCore (s : State) (n : Nat) (f : WCore → WCore) : s.Only (s.setCore n f) [.cores] := by
  intro x hx
  cases x <;> simp [Part.same, State.setCore] at hx ⊢

theorem WCore.chan_setChan (c : WCore) (ch : Nat) (f : Dma → Dma) : (c.setChan ch f).chan ch = f (c.chan ch) := NMap.get_set_same ..

theorem WCore.chan_setChan_other (c : WCore) {ch k : Nat} (f : Dma → Dma) (h : k ≠ ch) : (c.setChan ch f).chan k = c.chan k :=
  NMap.get_set_ne _ _ h

section
variable {rs : List (Nat × Nat)} {ps : List Part} {s t : State}

theorem State.Frame.setCore (h : State.Frame rs ps s t) (n : Nat) (f : WCore → WCore) (hp : .cores ∈ ps) :
    State.Frame rs ps s (t.setCore n f) := h.parts rfl (t.only_setCore n f) (by simpa using hp)

theorem State.Frame.setWst (h : State.Frame rs ps s t) (n v : Nat) (hr : (wdsPage n, Reg.wdsStatus) ∈ rs) (hp : .reg ∈ ps) :
    State.Frame rs ps s (t.setWst n v) := h.wfld _ _ _ (by decide) hr hp

theorem State.Frame.takeFree (h : State.Frame rs ps s t) (hp : .free ∈ ps) : State.Frame rs ps s t.takeFree :=
  h.parts rfl t.only_takeFree (by simpa using hp)

end

/-! ## Waits -/

/-- A wait ends (R370): of the core, only that it waits. -/
structure State.WaitEnded (s t : State) (n : Nat) : Prop where
  core : t.core n = { s.core n with waitFrom := none }
  others : ∀ k, k ≠ n → t.core k = s.core k
  frame : State.Frame [(wdsPage n, Reg.wdsStatus)] (.cores :: noted) s t

theorem State.endWait_ended (s : State) (n : Nat) : s.WaitEnded (s.endWait n) n := by
  unfold State.endWait
  split
  · have hn := s.noted_bumpN (wdsPage n) .wdsWait ((s.clk.tru - ‹Nat›) * 8 / 5)
    refine ⟨?_, fun k hk => ?_, ?_⟩
    · rw [State.core_setWst, State.core_setCore, hn.core]
    · rw [State.core_setWst, State.core_setCore_other _ _ hk, hn.core]
    · exact (((State.Frame.refl s).noted hn (by decide)).setCore n _ (by decide)).setWst n 2 (by simp) (by decide)
  · next h => exact ⟨by rw [← h], fun _ _ => rfl, .refl s⟩

theorem State.beginWait_waits (s : State) (n : Nat) : s.Waits (s.beginWait n) n := by
  unfold State.beginWait
  split
  · next t h =>
    exact ⟨by rw [h, Option.getD_some, ← h], fun hn => absurd (hn.symm.trans h) (by simp), fun _ _ => rfl,
      State.Frame.regs (ps := []) (.refl s), State.Frame.only (rs := []) (.refl s)⟩
  · next h =>
    have hf : State.Frame [(wdsPage n, Reg.wdsStatus)] [.cores, .reg] s
        ((s.setCore n fun c => { c with waitFrom := some s.clk.tru }).setWst n 3) :=
      ((State.Frame.refl s).setCore n _ (by decide)).setWst n 3 (by simp) (by decide)
    refine ⟨?_, fun _ => ?_, fun k hk => ?_, hf.regs, hf.only⟩
    · rw [State.core_setWst, State.core_setCore, h]
      rfl
    · exact State.rf_wfld_same _ _ _ 3 (by decide) (by decide)
    · rw [State.core_setWst, State.core_setCore_other _ _ hk]

/-! ## The channels of a task that ends -/

/-- A channel that has not begun to move data is cancelled (R372). -/
def State.cutChan (n : Nat) (s : State) (ch : Nat) : State :=
  if ((s.core n).chan ch).busy then
    (s.setCore n fun c => c.setChan ch fun d => { d with busy := decide (s.freeNat % 2 = 1), go := none }).takeFree
  else s.setCore n fun c => c.setChan ch fun d => { d with go := none }

theorem State.cutChans_eq (s : State) (n : Nat) : s.cutChans n = (List.range 4).foldl (State.cutChan n) s := rfl

/-- Channels are cut: none becomes busy, none of those in `l` is still to start. -/
structure State.ChansCut (s t : State) (n : Nat) (l : List Nat) : Prop where
  busy : ∀ ch, ((s.core n).chan ch).busy = false → ((t.core n).chan ch).busy = false
  go : ∀ ch, ch ∈ l ∨ ((s.core n).chan ch).go = none → ((t.core n).chan ch).go = none
  others : ∀ k, k ≠ n → t.core k = s.core k
  frame : State.Frame [] [.cores, .free] s t

theorem State.chansCut_setChan (s : State) (n ch : Nat) {f : Dma → Dma} (hb : ((s.core n).chan ch).busy = false →
    (f ((s.core n).chan ch)).busy = false) (hg : (f ((s.core n).chan ch)).go = none) :
    s.ChansCut (s.setCore n fun c => c.setChan ch f) n [ch] := by
  have hcore : (s.setCore n fun c => c.setChan ch f).core n = (s.core n).setChan ch f := s.core_setCore ..
  have hother (k : Nat) (hkc : k ≠ ch) : ((s.setCore n fun c => c.setChan ch f).core n).chan k = (s.core n).chan k := by
    rw [hcore, WCore.chan_setChan_other _ _ hkc]
  have hsame : ((s.setCore n fun c => c.setChan ch f).core n).chan ch = f ((s.core n).chan ch) := by
    rw [hcore, WCore.chan_setChan]
  refine ⟨fun k hk => ?_, fun k hk => ?_, fun k hk => State.core_setCore_other _ _ hk,
    (State.Frame.refl s).setCore _ _ (by decide)⟩
  · by_cases hkc : k = ch
    · rw [hkc, hsame]
      exact hb (hkc ▸ hk)
    · rw [hother k hkc, hk]
  · by_cases hkc : k = ch
    · rw [hkc, hsame, hg]
    · rw [hother k hkc]
      exact hk.resolve_left (by simpa using hkc)

theorem State.cutChan_cut (s : State) (n ch : Nat) : s.ChansCut (State.cutChan n s ch) n [ch] := by
  unfold State.cutChan
  split
  · next hbusy =>
    obtain ⟨hb, hg, ho, hf⟩ := s.chansCut_setChan n ch (f := fun d => { d with busy := decide (s.freeNat % 2 = 1), go := none })
      (fun h => absurd (h.symm.trans hbusy) (by decide)) rfl
    exact ⟨hb, hg, ho, hf.takeFree (by decide)⟩
  · exact s.chansCut_setChan n ch (fun h => h) rfl

theorem State.chansCut_foldl (s : State) (n : Nat) (l : List Nat) : s.ChansCut (l.foldl (State.cutChan n) s) n l := by
  induction l generalizing s with
  | nil => exact ⟨fun _ h => h, fun _ h => h.resolve_left List.not_mem_nil, fun _ _ => rfl, .refl s⟩
  | cons ch r ih =>
    obtain ⟨hb, hg, ho, hf⟩ := s.cutChan_cut n ch
    obtain ⟨hb', hg', ho', hf'⟩ := ih (State.cutChan n s ch)
    refine ⟨fun k hk => hb' k (hb k hk), fun k hk => ?_, fun k hk => (ho' k hk).trans (ho k hk), hf.trans hf'⟩
    rcases hk with hk | hk
    · rcases List.mem_cons.1 hk with rfl | hk
      · exact hg' _ (.inr (hg _ (.inl (by simp))))
      · exact hg' k (.inl hk)
    · exact hg' k (.inr (hg k (.inr hk)))

theorem State.cutChans_cut (s : State) (n : Nat) : s.ChansCut (s.cutChans n) n (List.range 4) :=
  s.cutChans_eq n ▸ s.chansCut_foldl n (List.range 4)

/-! ## Faults -/

/-- The registers of core n that the end of a task may write. -/
def endRegs (n : Nat) : List (Nat × Nat) :=
  [(wdsPage n, Reg.wdsStatus), (wdsPage n, Reg.wdsTestRes), (wdsPage n, Reg.wdsTestExit)]

/-- A task retires (R371): its exit value, and what stays of the core and of the others. -/
structure State.Retired (s t : State) (n : Nat) (v : Word) : Prop where
  value : (t.core n).value = v
  fctl : (t.core n).fctl = (s.core n).fctl
  dma : (t.core n).dma = (s.core n).dma
  others : ∀ k, k ≠ n → t.core k = s.core k
  frame : State.Frame (endRegs n) (.cores :: noted) s t

theorem State.Retired.setCore {s t : State} {n : Nat} (v : Word) (hwait : s.WaitEnded t n) {f : WCore → WCore}
    (hv : ∀ c, (f c).value = v) (hc : ∀ c, (f c).fctl = c.fctl) (hd : ∀ c, (f c).dma = c.dma) : s.Retired (t.setCore n f) n v := by
  obtain ⟨hcore, hothers, hf⟩ := hwait
  refine ⟨?_, ?_, ?_, fun k hk => (t.core_setCore_other f hk).trans (hothers k hk),
    (hf.mono (by simp [endRegs]) fun _ hx => hx).setCore n f (by decide)⟩
  · rw [State.core_setCore, hv]
  · rw [State.core_setCore, hc, hcore]
  · rw [State.core_setCore, hd, hcore]

theorem State.Retired.testHalted {s t : State} {n : Nat} {v : Word} (h : s.Retired t n v) : s.Retired (t.testHalted n v) n v := by
  obtain ⟨-, hfctl, hdma, hoth, hfr⟩ := h
  have hc (k : Nat) : (t.testHalted n v).core k = (t.setCore n fun c => { c with ph := 0, value := v }).core k :=
    State.core_congr (by simp only [State.testHalted, State.seqUp, State.wr_cores, State.wfld_cores, State.setWst]) k
  refine ⟨?_, ?_, ?_, fun k hk => ?_, ?_⟩
  · rw [hc, State.core_setCore]
  · rw [hc, State.core_setCore, ← hfctl]
  · rw [hc, State.core_setCore, ← hdma]
  · rw [hc, State.core_setCore_other _ _ hk, hoth k hk]
  · exact ((((hfr.setCore n _ (by decide)).setWst n 0 (by simp [endRegs]) (by decide)).wfld _ _ _ (by decide) (by simp [endRegs])
      (by decide)).seqUp (by decide) (by simp [endRegs]) (by decide)).wr _ (by decide) (by simp [endRegs]) (by decide)

/-- The wait has ended also where a counter counts after it. -/
theorem State.WaitEnded.bumpN {s t : State} {n : Nat} (h : s.WaitEnded t n) (c : Ctr) (m : Nat) :
    s.WaitEnded (t.bumpN (wdsPage n) c m) n := by
  obtain ⟨hcore, hothers, hf⟩ := h
  have hn := t.noted_bumpN (wdsPage n) c m
  exact ⟨(hn.core n).trans hcore, fun k hk => (hn.core k).trans (hothers k hk), hf.noted hn (by decide)⟩

theorem State.wdsRetire_retired (s : State) (n : Nat) (v : Word) (faulted : Bool) (cycles : Nat) :
    s.Retired (s.wdsRetire n v faulted cycles) n v := by
  have hw : s.Retired (((s.endWait n).bumpN (wdsPage n) .wdsCycles cycles).setCore n fun c =>
      { c.settle with cyc := cycles, value := v, faulted := faulted, ph := 2 }) n v :=
    .setCore v ((s.endWait_ended n).bumpN .wdsCycles cycles) (fun _ => rfl) (fun _ => rfl) fun _ => rfl
  unfold State.wdsRetire
  extract_lets u w
  split
  · exact hw.testHalted
  · exact hw

/-- A task ends by a fault (R373): what `WDS_FAULT` and the core show, and what stays. -/
structure State.Faulted (s t : State) (n cause pc : Nat) : Prop where
  shown : t.rf (wdsPage n) Reg.wdsFault 19 16 = cause % 16
  pc : t.rf (wdsPage n) Reg.wdsFault 12 0 = pc % 8192
  value : (t.core n).value = BitVec.ofNat 32 (0x80000000 + cause)
  fctl : (t.core n).fctl = none
  go : ∀ ch, ch < 4 → ((t.core n).chan ch).go = none
  busy : ∀ ch, ((s.core n).chan ch).busy = false → ((t.core n).chan ch).busy = false
  others : ∀ k, k ≠ n → t.core k = s.core k
  frame : State.Frame ((wdsPage n, Reg.wdsFault) :: endRegs n) ([.cores, .free] ++ noted) s t

/-- `WDS_FAULT` as a fault leaves it. -/
def State.faultReg (s : State) (n cause pc : Nat) : State :=
  ((s.wfld (wdsPage n) Reg.wdsFault 12 0 pc).wfld (wdsPage n) Reg.wdsFault 19 16 cause).seqUp (wdsPage n) Reg.wdsFault

theorem State.faultReg_rf (s : State) (n cause pc : Nat) : (s.faultReg n cause pc).rf (wdsPage n) Reg.wdsFault 19 16 = cause % 16 ∧
    (s.faultReg n cause pc).rf (wdsPage n) Reg.wdsFault 12 0 = pc % 8192 := by
  constructor
  · rw [State.rf, State.faultReg, State.seqUp, State.rd_wfld_same, State.rd_wfld_same, fld_withFld_other _ _ (.inl (by decide)),
      fld_withFld _ _ (by decide) (by decide)]
    rfl
  · rw [State.rf, State.faultReg, State.seqUp, State.rd_wfld_same, State.rd_wfld_same, fld_withFld_other _ _ (.inl (by decide)),
      fld_withFld_other _ _ (.inl (by decide)), State.rd_wfld_same, fld_withFld _ _ (by decide) (by decide)]
    rfl

theorem State.faultReg_core (s : State) (n cause pc k : Nat) : (s.faultReg n cause pc).core k = s.core k :=
  State.core_congr (by simp only [State.faultReg, State.seqUp, State.wfld_cores]) k

theorem State.faultReg_frame (s : State) (n cause pc : Nat) : State.Frame [(wdsPage n, Reg.wdsFault)] [.reg] s (s.faultReg n cause pc) :=
  (((State.Frame.refl s).wfld _ _ _ (by decide) (by simp) (by decide)).wfld _ _ _ (by decide) (by simp) (by decide)).seqUp
    (by decide) (by simp) (by decide)

theorem WCore.chan_congr {c c' : WCore} (h : c'.dma = c.dma) (ch : Nat) : c'.chan ch = c.chan ch := by rw [WCore.chan, h, WCore.chan]

/-- The channels of a core whose task a fault ends are cut, and its request is dropped. -/
structure State.CutOff (s t : State) (n : Nat) : Prop where
  fctl : (t.core n).fctl = none
  go : ∀ ch, ch < 4 → ((t.core n).chan ch).go = none
  busy : ∀ ch, ((s.core n).chan ch).busy = false → ((t.core n).chan ch).busy = false
  others : ∀ k, k ≠ n → t.core k = s.core k
  frame : State.Frame [] [.cores, .free] s t

theorem State.ChansCut.abort {s t : State} {n : Nat} (h : s.ChansCut t n (List.range 4)) :
    s.CutOff (t.setCore n fun c => { c.abort with ph := 1 }) n := by
  obtain ⟨hbusy, hgo, hothers, hf⟩ := h
  have hchan (ch : Nat) : ((t.setCore n fun c => { c.abort with ph := 1 }).core n).chan ch = (t.core n).chan ch := by
    rw [State.core_setCore]
    exact WCore.chan_congr rfl ch
  refine ⟨by rw [State.core_setCore, WCore.abort], fun ch hch => ?_, fun ch hb => ?_,
    fun k hk => (t.core_setCore_other _ hk).trans (hothers k hk), hf.setCore n _ (by decide)⟩
  · rw [hchan, hgo ch (.inl (List.mem_range.2 hch))]
  · rw [hchan, hbusy ch hb]

/-- `WDS_FAULT`, the counter and the event of a fault at the end of the wait of its core. -/
structure State.FaultTold (s t : State) (n cause pc : Nat) : Prop where
  shown : t.rf (wdsPage n) Reg.wdsFault 19 16 = cause % 16 ∧ t.rf (wdsPage n) Reg.wdsFault 12 0 = pc % 8192
  core : t.core n = { s.core n with waitFrom := none }
  others : ∀ k, k ≠ n → t.core k = s.core k
  frame : State.Frame [(wdsPage n, Reg.wdsFault), (wdsPage n, Reg.wdsStatus)] (.cores :: noted) s t

theorem State.faultReg_told (s : State) (n cause pc : Nat) {t : State} (hn : ((s.endWait n).faultReg n cause pc).Noted t) :
    s.FaultTold t n cause pc := by
  obtain ⟨hcore, hothers, hf⟩ := s.endWait_ended n
  have htcore (k : Nat) : t.core k = (s.endWait n).core k := (hn.core k).trans (State.faultReg_core ..)
  have hrd := hn.rd (wdsPage n) Reg.wdsFault (by decide)
  refine ⟨?_, (htcore n).trans hcore, fun k hk => (htcore k).trans (hothers k hk), ?_⟩
  · rw [State.rf, State.rf, hrd]
    exact (s.endWait n).faultReg_rf n cause pc
  · exact ((hf.mono (by simp) fun _ hx => hx).trans
      (((s.endWait n).faultReg_frame n cause pc).mono (by simp) (by simp [noted]))).noted hn (by decide)

theorem State.FaultTold.faulted {s t u v : State} {n cause pc : Nat} (ht : s.FaultTold t n cause pc) (hu : t.CutOff u n)
    (hv : u.Retired v n (BitVec.ofNat 32 (0x80000000 + cause))) : s.Faulted v n cause pc := by
  obtain ⟨⟨hshown, hpc⟩, hcore, hothers, hf⟩ := ht
  obtain ⟨hfctl, hgo, hbusy, hothers', hf'⟩ := hu
  obtain ⟨hvalue, hfctl', hdma, hothers'', hf''⟩ := hv
  have hrd : v.rd (wdsPage n) Reg.wdsFault = t.rd (wdsPage n) Reg.wdsFault :=
    (hf''.rd (by decide) (by simp [endRegs, Reg.wdsFault, Reg.wdsStatus, Reg.wdsTestRes, Reg.wdsTestExit]) (by decide)).trans
      (hf'.rd (by decide) (by simp) (by decide))
  refine ⟨by rw [State.rf, hrd, ← State.rf, hshown], by rw [State.rf, hrd, ← State.rf, hpc], hvalue, hfctl'.trans hfctl,
    fun ch hch => ?_, fun ch hb => ?_, fun k hk => (hothers'' k hk).trans ((hothers' k hk).trans (hothers k hk)), ?_⟩
  · rw [WCore.chan_congr hdma, hgo ch hch]
  · rw [WCore.chan_congr hdma]
    exact hbusy ch (by rw [WCore.chan_congr (congrArg WCore.dma hcore)]; exact hb)
  · exact ((hf.mono (by simp [endRegs]) (by simp [noted])).trans (hf'.mono (by simp) (by simp))).trans
      (hf''.mono (by simp +contextual) (by simp [noted]))

theorem State.wdsFaultAt_faulted (s : State) (n cause pc cycles : Nat) : s.Faulted (s.wdsFaultAt n cause pc cycles) n cause pc := by
  unfold State.wdsFaultAt
  extract_lets p u v w
  have hn : ((s.endWait n).faultReg n cause pc).Noted v :=
    (State.noted_bump _ p .wdsFaults).trans (u.noted_raise p .wdsTaskFault (cause + pc % 8192 * 2 ^ 16) (u.core n).task)
  exact (s.faultReg_told n cause pc hn).faulted (v.cutChans_cut n).abort (w.wdsRetire_retired n _ true cycles)

end Sys2Proof.Machine
end

section
/-!
SUPPORT. The DMA channels of a Withy core: their start, the data that a transfer moves, and its end (R365, R366, R374).
-/

namespace Sys2Proof.Machine

/-! ## The start of a channel -/

/-- The registers of channel ch name a transfer that may start: an object there is, words to move, and a range of WORK (R365). -/
structure WCore.Startable (c : WCore) (ch : Nat) : Prop where
  idle : (c.chan ch).busy = false
  kind : c.mreadX (portDma ch) 1 % 4 < 2
  words : 0 < c.mreadX (portDma ch + 12) 4 / 2 ^ 17
  short : c.mreadX (portDma ch + 12) 4 / 2 ^ 17 ≤ 16384
  aligned : c.mreadX (portDma ch + 12) 4 % 2 ^ 17 % 4 = 0
  above : 0x100 ≤ c.mreadX (portDma ch + 12) 4 % 2 ^ 17
  within : c.mreadX (portDma ch + 12) 4 % 2 ^ 17 + 4 * (c.mreadX (portDma ch + 12) 4 / 2 ^ 17) ≤ 0x12000

/-- The channel as the registers start it. -/
def WCore.started (c : WCore) (ch : Nat) (d : Dma) : Dma :=
  { d with
    busy := true, go := none, kind := c.mreadX (portDma ch) 1 % 4, out := decide (c.mreadX (portDma ch) 1 / 4 % 2 = 1),
    ref := c.mreadX (portDma ch + 4) 4, ofs := c.mreadX (portDma ch + 8) 4, loc := c.mreadX (portDma ch + 12) 4 % 2 ^ 17,
    lenw := c.mreadX (portDma ch + 12) 4 / 2 ^ 17 }

theorem exec_dmaStart_starts {s : State} {n ch pc : Nat} (hgo : ((s.core n).chan ch).go = some pc) (h : (s.core n).Startable ch) :
    exec (.dmaStart n ch) s = .next (s.setCore n fun c => c.setChan ch ((s.core n).started ch)) := by
  obtain ⟨hidle, hkind, hwords, hshort, haligned, habove, hwithin⟩ := h
  show execDmaStart n ch s = _
  have hloc := Nat.not_lt.2 habove
  have hend := Nat.not_lt.2 hwithin
  rw [execDmaStart]
  simp only [hgo, hidle, Nat.not_le.2 hkind, Nat.ne_of_gt hwords, Nat.not_lt.2 hshort, haligned, workLo, constLo, hloc, hend, ne_eq,
    not_true_eq_false, decide_false, Bool.or_false, Bool.false_eq_true, if_false]
  rfl

theorem exec_dmaStart_faults {s : State} {n ch pc : Nat} (hgo : ((s.core n).chan ch).go = some pc)
    (h : ((s.core n).chan ch).busy = true ∨ (s.core n).mreadX (portDma ch + 12) 4 % 2 ^ 17 < 0x100) :
    exec (.dmaStart n ch) s = .next ((s.setCore n fun c => { c with st1 := [] }).wdsFaultAt n 8 pc ((s.core n).cyc + 5)) := by
  show execDmaStart n ch s = _
  rw [execDmaStart]
  simp only [hgo]
  rw [if_pos]
  rcases h with h | h
  · simp [h]
  · have hlow : decide ((s.core n).mreadX (portDma ch + 12) 4 % 2 ^ 17 < workLo) = true := decide_eq_true h
    simp only [hlow, Bool.or_true, Bool.true_or]

/-! ## DMEM -/

theorem WCore.mbyteX_congr {c c' : WCore} (h1 : c'.st1 = c.st1) (h2 : c'.st2 = c.st2) (hm : c'.dmem = c.dmem) (x : Nat) :
    c'.mbyteX x = c.mbyteX x := by
  rw [WCore.mbyteX, h1, h2, WCore.mbyte, hm]
  rfl

/-- Bytes that a transfer brings to DMEM take the place of the stores on their way there (R366). -/
def WCore.receive (c : WCore) (loc len : Nat) (bs : List Byte) : WCore :=
  { c with
    dmem := putBytes c.dmem loc bs, st1 := c.st1.filter fun p => !(decide (loc ≤ p.1 ∧ p.1 < loc + len)),
    st2 := c.st2.filter fun p => !(decide (loc ≤ p.1 ∧ p.1 < loc + len)) }

theorem WCore.mbyteX_receive (c : WCore) {loc len i : Nat} {bs : List Byte} (hlen : bs.length = len) (h : i < bs.length) :
    (c.receive loc len bs).mbyteX (loc + i) = bs[i] := by
  subst hlen
  have hfind : ((c.receive loc bs.length bs).st1.reverse ++ (c.receive loc bs.length bs).st2.reverse).find?
      (fun p => decide (p.1 = loc + i)) = none := by
    rw [List.find?_eq_none]
    intro p hp
    have hout : ¬(loc ≤ p.1 ∧ p.1 < loc + bs.length) := by
      rcases List.mem_append.1 hp with hp | hp
      all_goals exact of_decide_eq_false (by rw [← Bool.not_eq_true', (List.mem_filter.1 (List.mem_reverse.1 hp)).2])
    simp only [decide_eq_true_eq]
    omega
  rw [WCore.mbyteX, hfind]
  exact get_putBytes _ _ _ _ h

theorem find?_filter_of_imp {α : Type} (l : List α) {p q : α → Bool} (h : ∀ x, p x = true → q x = true) :
    (l.filter q).find? p = l.find? p := by
  rw [List.find?_filter]
  congr 1
  funext x
  cases hp : p x
  · simp
  · simp [h x hp]

theorem WCore.mbyteX_receive_other (c : WCore) {loc len x : Nat} {bs : List Byte} (hlen : bs.length = len)
    (h : ¬(loc ≤ x ∧ x < loc + len)) : (c.receive loc len bs).mbyteX x = c.mbyteX x := by
  have hkeep (p : Nat × Byte) (hp : decide (p.1 = x) = true) : (!(decide (loc ≤ p.1 ∧ p.1 < loc + len))) = true := by
    rw [of_decide_eq_true hp, decide_eq_false h]
    rfl
  have hfind : ((c.receive loc len bs).st1.reverse ++ (c.receive loc len bs).st2.reverse).find? (fun p => decide (p.1 = x)) =
      (c.st1.reverse ++ c.st2.reverse).find? fun p => decide (p.1 = x) := by
    rw [WCore.receive, ← List.filter_reverse, ← List.filter_reverse, ← List.filter_append]
    exact find?_filter_of_imp _ hkeep
  have hget : (c.receive loc len bs).mbyte x = c.mbyte x := get_putBytes_other _ _ _ _ (by omega)
  rw [WCore.mbyteX, hfind, hget, WCore.mbyteX]

/-! ## The data of a transfer -/

/-- The bytes that a transfer out of DMEM takes. -/
def WCore.sends (c : WCore) (d : Dma) : List Byte := (List.range (4 * d.lenw)).map fun i => c.mbyteX (d.loc + i)

theorem State.dmaMove_in (s : State) (n : Nat) {d : Dma} (h : d.out = false) :
    s.dmaMove n d = (s.setCore n fun c => c.receive d.loc (4 * d.lenw) ((List.range (4 * d.lenw)).map fun i => s.dmaByte d i)).bumpN
      (wdsPage n) .wdsDmaBytes (4 * d.lenw) := by
  simp only [State.dmaMove, h, Bool.false_eq_true, if_false]
  rfl

theorem State.dmaPut_pkt (s : State) {d : Dma} (hk : d.kind = 0) (hd : s.bufInDram d.ref = false) (i : Nat) (bs : List Byte) :
    s.dmaPut d i bs = s.pktPut (s.dmaAddr d 0 + i) bs := by
  induction bs generalizing s i with
  | nil => rfl
  | cons b r ih =>
    have haddr (j : Nat) : s.dmaAddr d j = s.dmaAddr d 0 + j := by simp only [State.dmaAddr, hk, if_true, Nat.add_zero]
    have hdram : s.dmaInDram d = false := by rw [State.dmaInDram, if_pos hk, hd]
    rw [State.dmaPut]
    simp only [hdram, hk, if_true, Bool.false_eq_true, if_false, haddr i]
    rw [ih (s.pktPut (s.dmaAddr d 0 + i) [b]) hd]
    rfl

theorem State.dmaByte_pkt (s : State) {d : Dma} (hk : d.kind = 0) (hd : s.bufInDram d.ref = false) (i : Nat) :
    s.dmaByte d i = s.pktByte (s.dmaAddr d 0 + i) := by
  have hdram : s.dmaInDram d = false := by rw [State.dmaInDram, if_pos hk, hd]
  simp only [State.dmaByte, hdram, hk, Bool.false_eq_true, if_false, if_true, State.dmaAddr, Nat.add_zero]

theorem State.dmaMove_out (s : State) (n : Nat) {d : Dma} (h : d.out = true) (hk : d.kind = 0) (hd : s.bufInDram d.ref = false) :
    s.dmaMove n d = (s.pktPut (s.dmaAddr d 0) ((s.core n).sends d)).bumpN (wdsPage n) .wdsDmaBytes (4 * d.lenw) := by
  simp only [State.dmaMove, h, if_true, s.dmaPut_pkt hk hd, Nat.add_zero]
  rfl

theorem State.bufInDram_congr {s t : State} (h : t.tbl = s.tbl) (b : Nat) : t.bufInDram b = s.bufInDram b := by
  rw [State.bufInDram, State.tf_congr h, State.bufInDram]

theorem State.dmaAddr_congr {s t : State} (h : t.tbl = s.tbl) {d : Dma} (hk : d.kind = 0) (i : Nat) : t.dmaAddr d i = s.dmaAddr d i := by
  simp only [State.dmaAddr, hk, if_true, State.bufAddr, State.poolBase, State.tw, State.tget, h, State.tf_congr h]

/-- The bytes of a core have gone to a buffer in the packet buffer. -/
structure State.Sent (s t : State) (d : Dma) (bs : List Byte) : Prop where
  bytes : ∀ i, (h : i < bs.length) → t.dmaByte d i = bs[i]
  rest : ∀ a, ¬(s.dmaAddr d 0 ≤ a ∧ a < s.dmaAddr d 0 + bs.length) → t.pktByte a = s.pktByte a

theorem State.Sent.of_congr {s t u : State} {d : Dma} {bs : List Byte} (h : s.Sent t d bs) (hk : d.kind = 0)
    (hd : t.bufInDram d.ref = false) (ht : u.tbl = t.tbl) (hm : u.mem = t.mem) : s.Sent u d bs := by
  have hbyte (a : Nat) : u.pktByte a = t.pktByte a := by rw [State.pktByte, hm, State.pktByte]
  refine ⟨fun i hi => ?_, fun a ha => (hbyte a).trans (h.rest a ha)⟩
  rw [u.dmaByte_pkt hk ((State.bufInDram_congr ht _).trans hd), hbyte, State.dmaAddr_congr ht hk, ← t.dmaByte_pkt hk hd, h.bytes i hi]

theorem State.pktPut_sent (s : State) {d : Dma} (hk : d.kind = 0) (hd : s.bufInDram d.ref = false) (bs : List Byte) :
    s.Sent (s.pktPut (s.dmaAddr d 0) bs) d bs := by
  refine ⟨fun i hi => ?_, fun a ha => get_putBytes_other _ _ _ _ (by omega)⟩
  rw [(s.pktPut (s.dmaAddr d 0) bs).dmaByte_pkt hk hd]
  exact get_putBytes _ _ _ _ hi

/-- What an inbound transfer leaves. -/
structure State.Received (s t : State) (n : Nat) (d : Dma) : Prop where
  core : t.core n = (s.core n).receive d.loc (4 * d.lenw) ((List.range (4 * d.lenw)).map fun i => s.dmaByte d i)
  others : ∀ k, k ≠ n → t.core k = s.core k
  frame : State.Frame [] (.cores :: noted) s t

theorem State.dmaMove_received (s : State) (n : Nat) {d : Dma} (h : d.out = false) : s.Received (s.dmaMove n d) n d := by
  rw [s.dmaMove_in n h]
  generalize hg : (fun c : WCore => c.receive d.loc (4 * d.lenw) ((List.range (4 * d.lenw)).map fun i => s.dmaByte d i)) = g
  have hn := (s.setCore n g).noted_bumpN (wdsPage n) .wdsDmaBytes (4 * d.lenw)
  refine ⟨?_, fun k hk => (hn.core k).trans (State.core_setCore_other _ _ hk),
    ((State.Frame.refl s).setCore n g (by decide)).noted hn (by decide)⟩
  rw [hn.core, State.core_setCore, ← hg]

theorem State.mbyteX_received (s : State) (n : Nat) {d : Dma} {i : Nat} (hi : i < 4 * d.lenw) :
    ((s.core n).receive d.loc (4 * d.lenw) ((List.range (4 * d.lenw)).map fun i => s.dmaByte d i)).mbyteX (d.loc + i) =
      s.dmaByte d i := by
  rw [WCore.mbyteX_receive _ (by simp) (by simpa using hi)]
  simp

/-- What an outbound transfer to a buffer in the packet buffer leaves. -/
structure State.SentOut (s t : State) (n : Nat) (d : Dma) : Prop where
  sent : s.Sent t d ((s.core n).sends d)
  core : ∀ k, t.core k = s.core k
  tbl : t.tbl = s.tbl
  frame : State.Frame [(wdsPage n, Reg.wdsStatus)] ([.cores, .mem] ++ noted) s t

theorem State.dmaMove_sent (s : State) (n : Nat) {d : Dma} (h : d.out = true) (hk : d.kind = 0) (hd : s.bufInDram d.ref = false) :
    s.SentOut (s.dmaMove n d) n d := by
  rw [s.dmaMove_out n h hk hd]
  have hn := (s.pktPut (s.dmaAddr d 0) ((s.core n).sends d)).noted_bumpN (wdsPage n) .wdsDmaBytes (4 * d.lenw)
  exact ⟨(s.pktPut_sent hk hd _).of_congr hk hd hn.tbl hn.mem, hn.core, hn.tbl,
    ((State.Frame.refl s).setMem _ (by decide)).noted hn (by decide)⟩

/-! ## The end of a transfer -/

/-- A channel completes (R366): BUSY clears, STATUS tells. -/
def WCore.chanDone (c : WCore) (ch st pend : Nat) : WCore :=
  { (c.setChan ch fun d => { d with busy := false, status := st }) with pend := pend }

def State.chanDone (s : State) (n ch st : Nat) : State :=
  (s.setCore n fun c => c.chanDone ch st (if s.wdsTest n then c.pend ||| 1 else c.pend)).restIdle n

theorem exec_dmaDone_moves {s : State} {n ch : Nat} (ecc : Nat) {d : Dma} (hd : d = (s.core n).chan ch) (hb : d.busy = true)
    (hf : s.fenced (wdsPage n) = false) (h : s.dmaStatus n d = 0) :
    exec (.dmaDone n ⟨ch, ecc⟩) s = .next (((s.dmaMove n d).chanDone n ch 0).dmaCheck n d ecc) := by
  subst hd
  show execDmaDone n ⟨ch, ecc⟩ s = _
  rw [execDmaDone]
  simp only [hb, hf, h, Bool.not_false, Bool.and_true, if_true, true_or]
  rfl

theorem exec_dmaDone_fails {s : State} {n ch : Nat} (ecc : Nat) {d : Dma} (hd : d = (s.core n).chan ch) (hb : d.busy = true)
    (hf : s.fenced (wdsPage n) = false) (h0 : s.dmaStatus n d ≠ 0) (h4 : s.dmaStatus n d ≠ 4) :
    exec (.dmaDone n ⟨ch, ecc⟩) s = .next (s.chanDone n ch (s.dmaStatus n d)) := by
  subst hd
  show execDmaDone n ⟨ch, ecc⟩ s = _
  rw [execDmaDone]
  simp only [hb, hf, h0, h4, Bool.not_false, Bool.and_true, if_true, or_self, if_false]
  rfl

/-- What the end of a transfer leaves. -/
structure State.ChanDone (s t : State) (n ch st : Nat) : Prop where
  chan : (t.core n).chan ch = { (s.core n).chan ch with busy := false, status := st }
  ph : (t.core n).ph = (s.core n).ph
  dmem : (t.core n).dmem = (s.core n).dmem
  bytes : ∀ x, (t.core n).mbyteX x = (s.core n).mbyteX x
  others : ∀ k, k ≠ n → t.core k = s.core k
  frame : State.Frame [(wdsPage n, Reg.wdsStatus)] [.cores, .reg] s t
  busy : (s.core n).ph ≠ 0 → State.Frame [] [.cores] s t

theorem State.core_restIdle (s : State) (n k : Nat) : (s.restIdle n).core k = s.core k := by
  unfold State.restIdle
  split
  · exact State.core_setWst ..
  · rfl

theorem State.frame_restIdle (s : State) (n : Nat) : State.Frame [(wdsPage n, Reg.wdsStatus)] [.reg] s (s.restIdle n) :=
  .ite ((State.Frame.refl s).setWst n 0 (by simp) (by decide)) (.refl s)

theorem State.restIdle_running {s : State} {n : Nat} (h : (s.core n).ph ≠ 0) : s.restIdle n = s := by
  simp [State.restIdle, h]

theorem State.restIdle_status (s : State) (n : Nat) (hi : (s.restIdle n).execIdle n = true) (hp : ((s.restIdle n).core n).ph = 0) :
    (s.restIdle n).rf (wdsPage n) Reg.wdsStatus 1 0 = 0 := by
  have hrest : s.restIdle n = s.setWst n 0 := by
    rw [State.core_restIdle] at hp
    by_cases h : s.execIdle n = true
    · simp [State.restIdle, h, hp]
    · have hself : s.restIdle n = s := by simp [State.restIdle, h]
      exact absurd (hself ▸ hi) h
  rw [hrest]
  exact State.rf_wfld_same _ _ _ 0 (by decide) (by decide)

theorem State.chanDone_done (s : State) (n ch st : Nat) : s.ChanDone (s.chanDone n ch st) n ch st := by
  rw [State.chanDone]
  have hcore (t : State) (g : WCore → WCore) : ((t.setCore n g).restIdle n).core n = g (t.core n) :=
    (State.core_restIdle ..).trans (t.core_setCore n g)
  refine ⟨?_, ?_, ?_, fun x => ?_, fun k hk => (State.core_restIdle ..).trans (State.core_setCore_other _ _ hk), ?_, fun hph => ?_⟩
  · rw [hcore]
    exact (WCore.chan_congr rfl ch).trans ((s.core n).chan_setChan ch fun d => { d with busy := false, status := st })
  · rw [hcore]
    rfl
  · rw [hcore]
    rfl
  · rw [hcore]
    exact WCore.mbyteX_congr rfl rfl rfl x
  · exact ((State.Frame.refl s).setCore n _ (by decide)).trans ((State.frame_restIdle _ n).mono (fun _ h => h) (by simp))
  · rw [State.restIdle_running (by rw [State.core_setCore]; exact hph)]
    exact (State.Frame.refl s).setCore n _ (by decide)

/-! ## What a transfer out of DMEM finds -/

theorem State.dmaCheck_in (s : State) (n ecc : Nat) {d : Dma} (h : d.out = false) : s.dmaCheck n d ecc = s := by
  simp [State.dmaCheck, h]

theorem State.noted_eccFixed (s : State) (n : Nat) (l : List Nat) : s.Noted (s.eccFixed n l) := by
  unfold State.eccFixed
  split
  · exact s.noted_bumpN ..
  · exact .refl s

theorem State.noted_dmaCheck (s : State) (n : Nat) {d : Dma} {ecc : Nat} (h : ecc ≠ 2) : s.Noted (s.dmaCheck n d ecc) := by
  unfold State.dmaCheck
  extract_lets c
  rw [if_neg h]
  split
  · exact .refl s
  · exact s.noted_eccFixed n [ecc]

theorem State.dmaCheck_faults {s : State} {n : Nat} {d : Dma} (hout : d.out = true) (hph : (s.core n).ph = 1) :
    s.dmaCheck n d 2 = (s.memUe n 1 (d.loc / 4)).wdsFaultAt n 9 (s.core n).pc ((s.core n).cyc + 5) := by
  simp only [State.dmaCheck, hout, hph, Bool.not_true, Bool.false_eq_true, if_true, if_false]

theorem State.readyReason_stopped {s : State} {p : Nat} (hp : p ≠ 2) (h : (s.pg p).stopped = true) : s.readyReason p ≠ 0 := by
  unfold State.readyReason
  extract_lets g
  have hg : g.stopped = true := h
  rw [if_neg hp, if_pos hg]
  split_ifs <;> decide

theorem State.ready_refreshReady {s : State} {p : Nat} (h : s.readyReason p ≠ 0) (hostAct : Bool) :
    (s.refreshReady p hostAct).ready p = false := by
  have hu (r : Nat) : ((s.wfld p Reg.pageReady 0 0 0).wfld p Reg.pageReady 15 8 r).ready p = false := by
    rw [State.ready, State.rb, State.rd_wfld_same, bit_withFld_other _ _ (.inl (by decide)), State.rd_wfld_same,
      fmask_bits 0 (by decide)]
    rfl
  have hnote {t u : State} (hn : t.Noted u) (ht : t.ready p = false) : u.ready p = false := by
    rw [State.ready, State.rb, hn.rd _ _ (by decide)]
    exact ht
  unfold State.refreshReady
  extract_lets r was v
  have hr : r ≠ 0 := h
  have hv : v.ready p = false := by
    have := hu r
    rwa [show v = (s.wfld p Reg.pageReady 0 0 0).wfld p Reg.pageReady 15 8 r by simp only [v, if_neg hr]]
  split_ifs
  · exact hnote (v.noted_raise ..) hv
  · exact hnote (v.noted_raise ..) hv
  · exact hv

/-- A double-bit error in a core's memory (R374). -/
structure State.MemLost (s t : State) (n : Nat) : Prop where
  ready : t.ready (wdsPage n) = false
  core : ∀ k, t.core k = s.core k
  frame : State.Frame [(wdsPage n, Reg.pageReady)] (.page :: noted) s t

theorem wdsPage_ne_two (n : Nat) : wdsPage n ≠ 2 := by
  rw [wdsPage]
  omega

theorem State.memUe_lost (s : State) (n bank word : Nat) : s.MemLost (s.memUe n bank word) n := by
  rw [State.memUe]
  have hf : State.Frame [(wdsPage n, Reg.pageReady)] (.page :: noted) s
      ((s.raise (wdsPage n) .wdsMemUe bank word).setPg (wdsPage n) fun g => { g with stopped := true }) :=
    ((State.Frame.refl s).raise _ _ _ _ (by decide)).setPg _ _ (by decide)
  have hstop := (s.raise (wdsPage n) .wdsMemUe bank word).pg_setPg (wdsPage n) fun g => { g with stopped := true }
  generalize (s.raise (wdsPage n) .wdsMemUe bank word).setPg (wdsPage n) (fun g => { g with stopped := true }) = u at hf hstop ⊢
  have hf' := hf.refreshReady (wdsPage n) false (by simp) (by decide)
  exact ⟨State.ready_refreshReady (State.readyReason_stopped (wdsPage_ne_two n) (by rw [hstop])) false,
    State.core_congr (hf'.only .cores (by decide)), hf'⟩

end Sys2Proof.Machine
end

section
/-!
SUPPORT. The fabric requests of a Withy core: their issue and their responses (R162, R280, R368, R372).
-/

namespace Sys2Proof.Machine

/-! ## The Lay record -/

section
variable {rs : List (Nat × Nat)} {ps : List Part} {s t : State}

theorem State.Frame.setPrg (h : State.Frame rs ps s t) (f : PrgSt → PrgSt) (hp : .prg ∈ ps) : State.Frame rs ps s (t.setPrg f) :=
  h.parts rfl (t.only_setPrg f) (by simpa using hp)

theorem State.Frame.layPut (h : State.Frame rs ps s t) (e : List Byte) (hp : ∀ x ∈ Machine.noted, x ∈ ps) :
    State.Frame rs ps s (t.layPut e) :=
  ((h.setPrg _ (hp _ (by decide))).setPrg _ (hp _ (by decide))).bump _ _ hp

theorem State.Frame.closeBoundary (h : State.Frame rs ps s t) (hp : ∀ x ∈ Machine.noted, x ∈ ps) :
    State.Frame rs ps s t.closeBoundary := by
  have hprg (f : PrgSt → PrgSt) := h.setPrg f (hp _ (by decide))
  unfold State.closeBoundary
  split
  · exact h
  · exact .ite ((hprg _).layPut _ hp) (hprg _)

theorem State.Frame.carryWrites (h : State.Frame rs ps s t) (hp : ∀ x ∈ Machine.noted, x ∈ ps) :
    State.Frame rs ps s t.carryWrites :=
  (h.setPrg _ (hp _ (by decide))).foldl fun _ _ _ ha => (ha.setPrg _ (hp _ (by decide))).layPut _ hp

/-- An entry of the record leaves Pairing's part, a counter and its event changed (R602). -/
theorem State.Frame.lay (h : State.Frame rs ps s t) (ty flags : Nat) (body : List Byte) (hp : ∀ x ∈ Machine.noted, x ∈ ps) :
    State.Frame rs ps s (t.lay ty flags body) :=
  .ite (((h.closeBoundary hp).carryWrites hp).layPut _ hp) h

end

/-! ## The issue of a request -/

/-- Core n has issued its request, with its response on the way (R368). -/
structure State.Issued (s t : State) (n : Nat) (r : List Word) : Prop where
  core : t.core n = { s.core n with waitFrom := none, fctl := none, fbusy := true, fres := r }
  others : ∀ k, k ≠ n → t.core k = s.core k
  frame : State.Frame [(wdsPage n, Reg.wdsStatus)] (.cores :: noted) s t

theorem State.fabricSent_issued (s : State) (n : Nat) (r : List Word) : s.Issued (s.fabricSent n r) n r := by
  rw [State.fabricSent]
  have hprg (f : PrgSt → PrgSt) : State.Frame [(wdsPage n, Reg.wdsStatus)] (.cores :: noted) s (s.setPrg f) :=
    (State.Frame.refl s).setPrg f (by decide)
  generalize hu : s.setPrg _ = u
  have hcores : u.cores = s.cores := by rw [← hu]; rfl
  have hu : State.Frame [(wdsPage n, Reg.wdsStatus)] (.cores :: noted) s u := hu ▸ hprg _
  obtain ⟨hcore, hothers, hf⟩ := u.endWait_ended n
  refine ⟨?_, fun k hk => ?_, (hu.trans hf).setCore n _ (by decide)⟩
  · rw [State.core_setCore, hcore, State.core_congr hcores]
  · rw [State.core_setCore_other _ _ hk, hothers k hk, State.core_congr hcores]

/-- A request of which `fabricDo` makes `u` and the response `r` is issued with that response. -/
theorem State.fabricIssue_issued {s u : State} {n target rq : Nat} {r : List Word} (h : s.fabricDo n target rq = (u, r)) :
    u.Issued (s.fabricIssue n target rq).1 n r := by
  have hlay (v : State) (hv : State.Frame [] noted u v) : u.Issued (v.fabricSent n r) n r := by
    obtain ⟨hcore, hothers, hf⟩ := v.fabricSent_issued n r
    have hvc (k : Nat) : v.core k = u.core k := State.core_congr (hv.only .cores (by decide)) k
    exact ⟨by rw [hcore, hvc], fun k hk => (hothers k hk).trans (hvc k),
      (hv.mono (by simp) fun x hx => List.mem_cons_of_mem _ hx).trans hf⟩
  rw [State.fabricIssue, h]
  exact hlay _ (.ite ((State.Frame.refl u).lay _ _ _ fun _ hx => hx) (.refl u))

theorem exec_fabricRequest_reserved {s : State} {n target rq : Nat} (hc : (s.core n).fctl = some (target, rq))
    (h : target = 0 ∨ 6 < target) :
    exec (.fabricRequest n) s = .next (s.wdsFaultAt n 7 (s.core n).fctlPc ((s.core n).cyc + 5)) := by
  show execFabricRequest n s = _
  simp only [execFabricRequest, hc, h, if_true]

theorem exec_fabricRequest_waits {s : State} {n target rq : Nat} (hc : (s.core n).fctl = some (target, rq)) (h1 : 1 ≤ target)
    (h6 : target ≤ 6) (hf : s.fenced (wdsPage n) = false) (hw : (s.core n).outDone = false ∨ (s.core n).fbusy = true) :
    exec (.fabricRequest n) s = .next (s.beginWait n) := by
  have ht : ¬(target = 0 ∨ 6 < target) := by omega
  have hw : (!(s.core n).outDone || (s.core n).fbusy) = true := by rcases hw with h | h <;> simp [h]
  show execFabricRequest n s = _
  simp only [execFabricRequest, hc, ht, hf, hw, if_true, if_false, Bool.false_eq_true]

theorem exec_fabricRequest_issues {s : State} {n target rq : Nat} (hc : (s.core n).fctl = some (target, rq)) (h1 : 1 ≤ target)
    (h6 : target ≤ 6) (hf : s.fenced (wdsPage n) = false) (ho : (s.core n).outDone = true) (hb : (s.core n).fbusy = false)
    (hr : s.following = false ∨ recorded target = false) :
    exec (.fabricRequest n) s = .next (s.fabricIssue n target rq).1 := by
  have ht : ¬(target = 0 ∨ 6 < target) := by omega
  have hr : (s.following && recorded target && !s.wdsTest n) = false := by rcases hr with h | h <;> simp [h]
  show execFabricRequest n s = _
  simp only [execFabricRequest, hc, ht, hf, ho, hb, hr, if_false, Bool.false_eq_true, Bool.not_true, Bool.or_false]

theorem portPage_of_core {n : Nat} (h : n < 512) : portPage n = wdsPage n := by
  rw [portPage, if_pos (by omega), wdsPage]

theorem State.portOpen_core {s : State} {n : Nat} (h : n < 512) (hf : s.fenced (wdsPage n) = false) : s.PortOpen n :=
  ⟨by omega, by rw [State.severed, portPage_of_core h, hf]⟩

/-- An ALLOC of a core from a pool that is ON and has a free buffer with good metadata (R162). -/
theorem State.fabricDo_alloc {s : State} {n pool i : Nat} (rq : Nat) (hop : fld ((s.core n).freq 0) 3 0 = 1)
    (hpool : fld ((s.core n).freq 0) 9 4 = pool) (hon : s.poolState pool = 2) (hi : s.lowestFree pool = some i)
    (hm : s.metaPoison (pool * 2 ^ 26 + i) = none) : s.fabricDo n 3 rq =
      ((s.ownersCounted pool (pool * 2 ^ 26 + i) [s.portOwner n] .crlAlloc).crlAnswer n 0 (pool * 2 ^ 26 + i),
        [0, BitVec.ofNat 32 (pool * 2 ^ 26 + i)]) := by
  have hdo : s.fabricDo n 3 rq = ((s.crlAlloc n pool).1,
      [BitVec.ofNat 32 (NMap.get (fun _ => {}) (s.crlAlloc n pool).1.crl.ans n : CrlAns).status,
        BitVec.ofNat 32 (NMap.get (fun _ => {}) (s.crlAlloc n pool).1.crl.ans n : CrlAns).handle]) := by
    simp only [State.fabricDo, hop, hpool, if_true, OfNat.ofNat_ne_one, reduceIte, Nat.reduceEqDiff]
  rw [hdo, State.crlAlloc_made n hon hi hm, State.crlAnswer_ans]
  rfl

/-- An estimate of a core for Skein (R280). -/
theorem State.fabricDo_estimate {s : State} {n : Nat} (rq : Nat) (hr : s.ready lfwPage = true)
    (hbit : bit ((s.core n).freq 0) 31 = false) :
    s.fabricDo n 6 rq = (s.estRate (fld ((s.core n).freq 0) 15 0) ((s.core n).freq 1), [0]) := by
  simp only [State.fabricDo, hr, hbit, Nat.reduceEqDiff, Bool.not_true, Bool.false_eq_true, if_false]

/-! ## The response -/

theorem exec_fabricResponse_lands {s : State} {n : Nat} (hb : (s.core n).fbusy = true) (hd : (s.core n).fdrop = false)
    (hf : s.fenced (wdsPage n) = false) : exec (.fabricResponse n) s = .next (s.setCore n fun c =>
      { c with
        fbusy := false, fres := [],
        dmem := putBytes c.dmem portFres (wordBytes (((s.core n).fres ++ [0, 0, 0]).take 3)),
        pend := if s.wdsTest n then c.pend ||| 2 else c.pend }) := by
  show execFabricResponse n s = _
  simp only [execFabricResponse, hb, hd, hf, Bool.not_true, Bool.false_eq_true, if_false]
  rfl

theorem exec_fabricResponse_dropped {s : State} {n : Nat} (hb : (s.core n).fbusy = true) (hd : (s.core n).fdrop = true) :
    exec (.fabricResponse n) s =
      .next ((s.setCore n fun c => { c with fbusy := false, fdrop := false, fres := [] }).restIdle n) := by
  show execFabricResponse n s = _
  simp only [execFabricResponse, hb, hd, Bool.not_true, Bool.false_eq_true, if_false, if_true]

theorem wordBytes_cons (w : Word) (ws : List Word) : wordBytes (w :: ws) = leBytes 4 w.toNat ++ wordBytes ws := List.flatMap_cons ..

theorem wordBytes_length (ws : List Word) : (wordBytes ws).length = 4 * ws.length := by
  induction ws with
  | nil => rfl
  | cons w r ih => rw [wordBytes_cons, List.length_append, leBytes_length, ih, List.length_cons]; omega

/-- The four bytes of word i. -/
theorem wordBytes_word (ws : List Word) {i : Nat} (hi : i < ws.length) :
    ((List.range 4).map fun j => (wordBytes ws).getD (4 * i + j) 0) = leBytes 4 (ws.getD i 0).toNat := by
  induction ws generalizing i with
  | nil => exact absurd hi (Nat.not_lt_zero i)
  | cons w r ih =>
    rw [wordBytes_cons]
    cases i with
    | zero => simp [List.range_succ, leBytes]
    | succ i =>
      have hpast (j : Nat) : (leBytes 4 w.toNat ++ wordBytes r).getD (4 * (i + 1) + j) 0 = (wordBytes r).getD (4 * i + j) 0 := by
        rw [List.getD_append_right _ _ _ _ (by rw [leBytes_length]; omega), leBytes_length]
        congr 1
        omega
      simp only [hpast, List.getD_cons_succ]
      exact ih (Nat.lt_of_succ_lt_succ hi)

theorem leNat_leBytes (n v : Nat) : leNat (leBytes n v) = v % 256 ^ n := by
  induction n generalizing v with
  | zero => rw [leBytes, leNat, Nat.pow_zero, Nat.mod_one]
  | succ n ih =>
    rw [leBytes, leNat, ih, Nat.pow_succ', Nat.mod_mul]
    simp

/-- Words put into DMEM are read there. -/
theorem WCore.mread_wordBytes (c : WCore) (m : NMap Byte) (a : Nat) (ws : List Word) {i : Nat} (hi : i < ws.length)
    (hc : c.dmem = putBytes m a (wordBytes ws)) : c.mread (a + 4 * i) 4 = (ws.getD i 0).toNat := by
  have hbyte (j : Nat) (hj : j < 4) : c.mbyte (a + 4 * i + j) = (wordBytes ws).getD (4 * i + j) 0 := by
    have hlt : 4 * i + j < (wordBytes ws).length := by rw [wordBytes_length]; omega
    rw [WCore.mbyte, hc, Nat.add_assoc, get_putBytes _ _ _ _ hlt, List.getD_eq_getElem _ _ hlt]
  rw [WCore.mread, List.map_congr_left fun j hj => hbyte j (List.mem_range.1 hj), wordBytes_word ws hi, leNat_leBytes]
  exact Nat.mod_eq_of_lt (ws.getD i 0).isLt

/-- What a response does not name reads 0. -/
theorem getD_take_zeros (l : List Word) {i : Nat} (hi : i < 3) : ((l ++ [0, 0, 0]).take 3).getD i 0 = l.getD i 0 := by
  rw [List.getD_eq_getElem?_getD, List.getElem?_take_of_lt hi, ← List.getD_eq_getElem?_getD]
  by_cases h : i < l.length
  · exact List.getD_append _ _ _ _ h
  · have hzero (k : Nat) : ([0, 0, 0] : List Word).getD k 0 = 0 := by
      rcases k with _ | _ | _ | k <;> rfl
    rw [List.getD_append_right _ _ _ _ (Nat.le_of_not_lt h), hzero, List.getD_eq_default _ _ (Nat.le_of_not_lt h)]

end Sys2Proof.Machine
end

section
open Sys2Proof Sys2Proof.Machine

/-- A channel whose registers name a transfer that may start (R365). -/
theorem dmaStart_starts {s : State} {n ch pc : Nat} (hgo : ((s.core n).chan ch).go = some pc) (h : (s.core n).Startable ch) :
    Answers (.dmaStart n ch) s fun t =>
      (t.core n).chan ch = (s.core n).started ch ((s.core n).chan ch) ∧
        (∀ k, k ≠ ch → (t.core n).chan k = (s.core n).chan k) ∧ (t.core n).dmem = (s.core n).dmem ∧
        (∀ k, k ≠ n → t.core k = s.core k) ∧ s.Only t [.cores] := by
  refine ⟨_, exec_dmaStart_starts hgo h, ?_, fun k hk => ?_, ?_, fun k hk => State.core_setCore_other _ _ hk, s.only_setCore n _⟩
  · rw [State.core_setCore, WCore.chan_setChan]
  · rw [State.core_setCore, WCore.chan_setChan_other _ _ hk]
  · rw [State.core_setCore, WCore.setChan]

/-- A busy channel, or a range outside WORK (R365, R373). -/
theorem dmaStart_faults {s : State} {n ch pc : Nat} (hch : ch < 4) (hgo : ((s.core n).chan ch).go = some pc)
    (h : ((s.core n).chan ch).busy = true ∨ (s.core n).mreadX (portDma ch + 12) 4 % 2 ^ 17 < 0x100) :
    Answers (.dmaStart n ch) s fun t =>
      t.rf (wdsPage n) Reg.wdsFault 19 16 = 8 ∧ t.rf (wdsPage n) Reg.wdsFault 12 0 = pc % 8192 ∧
        (t.core n).value = 0x80000008#32 ∧ ((t.core n).chan ch).go = none ∧
        (((s.core n).chan ch).busy = false → ((t.core n).chan ch).busy = false) ∧ (∀ k, k ≠ n → t.core k = s.core k) := by
  have hfault := (s.setCore n fun c => { c with st1 := [] }).wdsFaultAt_faulted n 8 pc ((s.core n).cyc + 5)
  refine ⟨_, exec_dmaStart_faults hgo h, hfault.shown, hfault.pc, hfault.value, hfault.go ch hch, fun hb => hfault.busy ch ?_,
    fun k hk => (hfault.others k hk).trans (State.core_setCore_other _ _ hk)⟩
  rw [State.core_setCore]
  exact hb

/-- An inbound transfer that passes its check (R366). -/
theorem dmaDone_receives {s : State} {n ch : Nat} (ecc : Nat) {d : Dma} (hd : d = (s.core n).chan ch) (hb : d.busy = true)
    (hf : s.fenced (wdsPage n) = false) (h : s.dmaStatus n d = 0) (hin : d.out = false) (hph : (s.core n).ph ≠ 0) :
    Answers (.dmaDone n ⟨ch, ecc⟩) s fun t =>
      (∀ i, i < 4 * d.lenw → (t.core n).mbyteX (d.loc + i) = s.dmaByte d i) ∧
        (∀ x, ¬(d.loc ≤ x ∧ x < d.loc + 4 * d.lenw) → (t.core n).mbyteX x = (s.core n).mbyteX x) ∧
        (t.core n).chan ch = { d with busy := false, status := 0 } ∧ (∀ k, k ≠ n → t.core k = s.core k) ∧
        s.RegsBut t [] ∧ s.Only t (.cores :: noted) := by
  obtain ⟨hcore, hothers, hfr⟩ := s.dmaMove_received n hin
  obtain ⟨hchan, -, -, hbytes, hothers', -, hbusy⟩ := (s.dmaMove n d).chanDone_done n ch 0
  have e := exec_dmaDone_moves ecc hd hb hf h
  rw [State.dmaCheck_in _ _ _ hin] at e
  have hframe := hfr.trans ((hbusy (by rw [hcore]; exact hph)).mono (fun _ hx => hx) (by simp))
  refine ⟨_, e, fun i hi => ?_, fun x hx => ?_, ?_, fun k hk => (hothers' k hk).trans (hothers k hk), hframe.regs, hframe.only⟩
  · rw [hbytes, hcore]
    exact s.mbyteX_received n hi
  · rw [hbytes, hcore, WCore.mbyteX_receive_other _ (by simp) hx]
  · rw [hchan, hcore, hd]
    rfl

/-- An outbound transfer to a buffer in the packet buffer that passes its check (R366). -/
theorem dmaDone_sends {s : State} {n ch ecc : Nat} {d : Dma} (hd : d = (s.core n).chan ch) (hb : d.busy = true)
    (hf : s.fenced (wdsPage n) = false) (h : s.dmaStatus n d = 0) (hout : d.out = true) (hk : d.kind = 0)
    (hdram : s.bufInDram d.ref = false) (hecc : ecc ≠ 2) :
    Answers (.dmaDone n ⟨ch, ecc⟩) s fun t =>
      (∀ i, i < 4 * d.lenw → t.dmaByte d i = (s.core n).mbyteX (d.loc + i)) ∧
        (∀ a, ¬(s.dmaAddr d 0 ≤ a ∧ a < s.dmaAddr d 0 + 4 * d.lenw) → t.pktByte a = s.pktByte a) ∧
        (∀ x, (t.core n).mbyteX x = (s.core n).mbyteX x) ∧
        (t.core n).chan ch = { d with busy := false, status := 0 } ∧ (∀ k, k ≠ n → t.core k = s.core k) ∧
        s.Only t ([.cores, .mem] ++ noted) := by
  obtain ⟨hsent, hcore, htbl, hfr⟩ := s.dmaMove_sent n hout hk hdram
  obtain ⟨hchan, -, -, hbytes, hothers, hfd, -⟩ := (s.dmaMove n d).chanDone_done n ch 0
  have hn := ((s.dmaMove n d).chanDone n ch 0).noted_dmaCheck n (d := d) hecc
  have hsent' := hsent.of_congr hk ((State.bufInDram_congr htbl _).trans hdram) (hn.tbl.trans (hfd.only .tbl (by decide)))
    (hn.mem.trans (hfd.only .mem (by decide)))
  refine ⟨_, exec_dmaDone_moves ecc hd hb hf h, fun i hi => ?_, fun a ha => hsent'.rest a ?_, fun x => ?_, ?_, fun k hk => ?_, ?_⟩
  · rw [hsent'.bytes i (by simpa [WCore.sends] using hi)]
    simp [WCore.sends]
  · simpa [WCore.sends] using ha
  · rw [hn.core, hbytes, hcore]
  · rw [hn.core, hchan, hcore, hd]
  · rw [hn.core, hothers k hk, hcore]
  · exact ((hfr.trans (hfd.mono (fun _ hx => hx) (by decide))).noted hn (by decide)).only

/-- A transfer that fails moves nothing (R366). -/
theorem dmaDone_fails {s : State} {n ch : Nat} (ecc : Nat) {d : Dma} (hd : d = (s.core n).chan ch) (hb : d.busy = true)
    (hf : s.fenced (wdsPage n) = false) (h0 : s.dmaStatus n d ≠ 0) (h4 : s.dmaStatus n d ≠ 4) :
    Answers (.dmaDone n ⟨ch, ecc⟩) s fun t =>
      (t.core n).chan ch = { d with busy := false, status := s.dmaStatus n d } ∧ (t.core n).dmem = (s.core n).dmem ∧
        s.Only t [.cores, .reg] := by
  obtain ⟨hchan, -, hdmem, -, -, hfd, -⟩ := s.chanDone_done n ch (s.dmaStatus n d)
  exact ⟨_, exec_dmaDone_fails ecc hd hb hf h0 h4, by rw [hchan, hd], hdmem, hfd.only⟩

/-- A double-bit error that an outbound transfer of a task finds (R374). -/
theorem dmaDone_memLost {s : State} {n ch : Nat} {d : Dma} (hd : d = (s.core n).chan ch) (hb : d.busy = true)
    (hf : s.fenced (wdsPage n) = false) (h : s.dmaStatus n d = 0) (hout : d.out = true) (hk : d.kind = 0)
    (hdram : s.bufInDram d.ref = false) (hph : (s.core n).ph = 1) :
    Answers (.dmaDone n ⟨ch, 2⟩) s fun t =>
      t.rf (wdsPage n) Reg.wdsFault 19 16 = 9 ∧ (t.core n).value = 0x80000009#32 ∧ t.ready (wdsPage n) = false ∧
        ((t.core n).chan ch).busy = false ∧ (∀ a, ¬(s.dmaAddr d 0 ≤ a ∧ a < s.dmaAddr d 0 + 4 * d.lenw) →
          t.pktByte a = s.pktByte a) := by
  obtain ⟨hsent, hcore, -, -⟩ := s.dmaMove_sent n hout hk hdram
  obtain ⟨hchan, hph', -, -, -, hfd, -⟩ := (s.dmaMove n d).chanDone_done n ch 0
  have e := exec_dmaDone_moves 2 hd hb hf h
  generalize (s.dmaMove n d).chanDone n ch 0 = u at e hchan hph' hfd
  rw [State.dmaCheck_faults hout (by rw [hph', hcore, hph])] at e
  obtain ⟨hready, hcores, hlost⟩ := u.memUe_lost n 1 (d.loc / 4)
  generalize u.memUe n 1 (d.loc / 4) = v at e hready hcores hlost
  have hfault := v.wdsFaultAt_faulted n 9 (u.core n).pc ((u.core n).cyc + 5)
  refine ⟨_, e, hfault.shown, hfault.value, ?_, hfault.busy ch (by rw [hcores, hchan]), fun a ha => ?_⟩
  · rw [State.ready, State.rb, hfault.frame.rd (by decide)
      (by simp [endRegs, Reg.pageReady, Reg.wdsFault, Reg.wdsStatus, Reg.wdsTestRes, Reg.wdsTestExit]) (by decide)]
    exact hready
  · have hmem := (hfault.frame.only .mem (by decide)).trans ((hlost.only .mem (by decide)).trans (hfd.only .mem (by decide)))
    rw [State.pktByte, hmem]
    exact hsent.rest a (by simpa [WCore.sends] using ha)

/-- An ALLOC that a core requests (R162, R368). -/
theorem fabricRequest_allocates {s : State} {n rq pool i : Nat} (hn : n < 512) (hc : (s.core n).fctl = some (3, rq))
    (hf : s.fenced (wdsPage n) = false) (ho : (s.core n).outDone = true) (hb : (s.core n).fbusy = false)
    (hfol : s.following = false) (hop : fld ((s.core n).freq 0) 3 0 = 1) (hpool : fld ((s.core n).freq 0) 9 4 = pool)
    (hon : s.poolState pool = 2) (hi : s.lowestFree pool = some i) (hm : s.metaPoison (pool * 2 ^ 26 + i) = none) :
    Answers (.fabricRequest n) s fun t =>
      t.owners (pool * 2 ^ 26 + i) = [s.portOwner n] ∧ (∀ h, h ≠ pool * 2 ^ 26 + i → t.owners h = s.owners h) ∧
        (t.core n).fctl = none ∧ (t.core n).fbusy = true ∧
        (t.core n).fres = [0, BitVec.ofNat 32 (pool * 2 ^ 26 + i)] ∧ (∀ k, k ≠ n → t.core k = s.core k) := by
  obtain ⟨hcore, hothers, hfr⟩ := State.fabricIssue_issued (State.fabricDo_alloc rq hop hpool hon hi hm)
  have hown (h : Nat) := State.owners_congr (congrArg CrlSt.own (hfr.only .crl (by decide))) h
  refine ⟨_, exec_fabricRequest_issues hc (by decide) (by decide) hf ho hb (.inl hfol), ?_, fun h hh => ?_, by rw [hcore],
    by rw [hcore], by rw [hcore], fun k hk => ?_⟩
  · rw [hown, State.crlAnswer_owners, State.ownersCounted_owners]
  · rw [hown, State.crlAnswer_owners, State.ownersCounted_other _ _ _ _ hh]
  · have hf' := (s.frame_ownersCounted pool (pool * 2 ^ 26 + i) [s.portOwner n] .crlAlloc).setCrl
      (crlAnswered n 0 (pool * 2 ^ 26 + i)) (by decide)
    rw [hothers k hk, (State.portOpen_core hn hf).crlAnswer]
    exact State.core_congr (hf'.only .cores (by decide)) k

/-- An estimate that a core sends to Skein (R280, R368). -/
theorem fabricRequest_estimates {s : State} {n rq : Nat} (hc : (s.core n).fctl = some (6, rq)) (hf : s.fenced (wdsPage n) = false)
    (ho : (s.core n).outDone = true) (hb : (s.core n).fbusy = false) (hr : s.ready lfwPage = true)
    (hbit : bit ((s.core n).freq 0) 31 = false) :
    Answers (.fabricRequest n) s fun t =>
      t.tw lfwPage 5 0 (fld ((s.core n).freq 0) 15 0) 1 = (s.core n).freq 1 ∧ (t.core n).fbusy = true ∧
        (t.core n).fres = [0] := by
  obtain ⟨hcore, -, hfr⟩ := State.fabricIssue_issued (State.fabricDo_estimate rq hr hbit)
  refine ⟨_, exec_fabricRequest_issues hc (by decide) (by decide) hf ho hb (.inr rfl), ?_, by rw [hcore], by rw [hcore]⟩
  rw [State.tw, State.tget, hfr.only .tbl (by decide)]
  exact State.tw_tsetW_same ..

/-- A request of a target that is reserved (R368, R373). -/
theorem fabricRequest_reserved {s : State} {n target rq : Nat} (hc : (s.core n).fctl = some (target, rq))
    (h : target = 0 ∨ 6 < target) :
    Answers (.fabricRequest n) s fun t =>
      t.rf (wdsPage n) Reg.wdsFault 19 16 = 7 ∧ t.rf (wdsPage n) Reg.wdsFault 12 0 = (s.core n).fctlPc % 8192 ∧
        (t.core n).value = 0x80000007#32 ∧ (t.core n).fctl = none := by
  have hfault := s.wdsFaultAt_faulted n 7 (s.core n).fctlPc ((s.core n).cyc + 5)
  exact ⟨_, exec_fabricRequest_reserved hc h, hfault.shown, hfault.pc, hfault.value, hfault.fctl⟩

/-- The response lands in FRES (R368). -/
theorem fabricResponse_lands {s : State} {n i : Nat} {v : Word} (hb : (s.core n).fbusy = true) (hd : (s.core n).fdrop = false)
    (hf : s.fenced (wdsPage n) = false) (hi : i < 3) (hv : v = (s.core n).fres.getD i 0) :
    Answers (.fabricResponse n) s fun t =>
      (t.core n).fbusy = false ∧ (t.core n).mread (portFres + 4 * i) 4 = v.toNat ∧
        (∀ k, k ≠ n → t.core k = s.core k) ∧ s.Only t [.cores] := by
  refine ⟨_, exec_fabricResponse_lands hb hd hf, by rw [State.core_setCore], ?_, fun k hk => State.core_setCore_other _ _ hk,
    s.only_setCore n _⟩
  have hlen : i < (((s.core n).fres ++ [0, 0, 0]).take 3).length := by simpa using hi
  rw [State.core_setCore, WCore.mread_wordBytes _ (s.core n).dmem portFres _ hlen rfl, getD_take_zeros _ hi, hv]

/-- The response of a request of a task that was aborted (R372). -/
theorem fabricResponse_dropped {s : State} {n : Nat} (hb : (s.core n).fbusy = true) (hd : (s.core n).fdrop = true) :
    Answers (.fabricResponse n) s fun t =>
      (t.core n).fbusy = false ∧ (t.core n).dmem = (s.core n).dmem ∧
        (t.execIdle n = true → (t.core n).ph = 0 → t.rf (wdsPage n) Reg.wdsStatus 1 0 = 0) ∧
        s.RegsBut t [(wdsPage n, Reg.wdsStatus)] ∧ s.Only t [.cores, .reg] := by
  have e := exec_fabricResponse_dropped hb hd
  have hcore := s.core_setCore n fun c => { c with fbusy := false, fdrop := false, fres := [] }
  have hu : State.Frame [(wdsPage n, Reg.wdsStatus)] [.cores, .reg] s
      (s.setCore n fun c => { c with fbusy := false, fdrop := false, fres := [] }) := (State.Frame.refl s).setCore n _ (by decide)
  generalize s.setCore n (fun c => { c with fbusy := false, fdrop := false, fres := [] }) = u at e hcore hu
  have hf := hu.trans ((u.frame_restIdle n).mono (fun _ h => h) (by simp))
  refine ⟨_, e, by rw [State.core_restIdle, hcore], by rw [State.core_restIdle, hcore], u.restIdle_status n, hf.regs, hf.only⟩

/-- Settles O28: R162, R280, R365, R366, R368, R372 and R373, one lemma for each end of an operation. -/
theorem withyTransfers : Obligations.WithyTransfers := by
  refine ⟨?_, fun s n ch pc hch hgo h => dmaStart_faults hch hgo h,
    fun s n ch ecc d hd hb hf h hin hph => dmaDone_receives ecc hd hb hf h hin hph,
    fun s n ch ecc d hd hb hf h hout hk hdram hecc => dmaDone_sends hd hb hf h hout hk hdram hecc,
    fun s n ch ecc d hd hb hf h0 h4 => dmaDone_fails ecc hd hb hf h0 h4,
    fun s n ch ecc d hd hb hf h hout hk hdram hecc hph => hecc ▸ dmaDone_memLost hd hb hf h hout hk hdram hph,
    fun s n rq pool i hn hc hf ho hb hfol hop hpool hon hi hm =>
      fabricRequest_allocates hn hc hf ho hb hfol hop hpool hon hi hm,
    fun s n rq hc hf ho hb hr hbit => fabricRequest_estimates hc hf ho hb hr hbit,
    fun s n target rq hc h => fabricRequest_reserved hc h,
    fun s n target rq hc h1 h6 hf hw => ⟨_, exec_fabricRequest_waits hc h1 h6 hf hw, s.beginWait_waits n⟩,
    fun s n i v hb hd hf hi hv => fabricResponse_lands hb hd hf hi hv, fun s n hb hd => fabricResponse_dropped hb hd⟩
  intro s n ch pc loc lenw hgo hidle hkind hloc hlenw hwords hshort haligned habove hwithin
  subst hloc hlenw
  exact dmaStart_starts hgo ⟨hidle, hkind, hwords, hshort, haligned, habove, hwithin⟩
end
